-- ==== Sys2Proof/Word.lean ====
section
/-! DEFINITION. The plainest words of the KXE-3000 model: bytes, byte strings and sparse numbered tables. -/

namespace Sys2Proof

/-- One byte (R8). -/
abbrev Byte := BitVec 8

/-- A byte string in the order of increasing offset. -/
abbrev Bytes := List (BitVec 8)

/-- A 32-bit register word or field. -/
abbrev Word32 := BitVec 32

/-- A 64-bit word: a KPC local, a signature, an instruction word. -/
abbrev Word64 := BitVec 64

/-- A sparse table by number: keys strictly rising, an absent number reads as the type's default. -/
abbrev Tbl (α : Type) := List (Nat × α)

/-- One value for each of the three lanes (or monitor channels) A, B and C. -/
structure PerLane (α : Type) where
  a : α
  b : α
  c : α
  deriving DecidableEq, Repr, Inhabited

end Sys2Proof
end

