-- ==== Sys2Proof/Syntax.lean ====
section
/-! DEFINITION. The commands and events of the KXE-3000, one constructor of `Instr` for each row of the opcode table, and the
types of their operands. A row has no bits of its own (the table gives none); the operands are what the manual's tables give the
command, and for an event what its surroundings decide. -/

namespace Sys2Proof

/-- The three compute lanes (and the monitor channels of the same letters). -/
inductive Lane where
  | a | b | c
  deriving DecidableEq, Repr, Inhabited

/-- The KPC machine types of R167, in the order of their codes 0x0 to 0xA. -/
inductive MType where
  | bool | i8 | i16 | i32 | i64 | u8 | u16 | u32 | u64 | f32 | f64
  deriving DecidableEq, Repr, Inhabited

/-- A command as it arrives on an external session: the fields of the envelope header (Table 3.2) but the command code, which is
the constructor's, and the payload. `session` is the session context on which it arrives. -/
structure Msg where
  session : Nat
  magic : Word32
  version : Byte
  flags : Byte
  token : Word32
  epoch : Word32
  length : Word32
  issuer : Word32
  reserved : Word32
  hcrc : Word32
  payload : Bytes
  deriving DecidableEq, Repr, Inhabited

/-- What the verifications of the boot chain (Table 2.2) find and what the straps and the cell read, at one boot. -/
structure BootFacts where
  /-- Slate in slot A, in slot B verifies (steps 2 and 3) -/
  slateA : Bool
  slateB : Bool
  /-- the remaining components of slot A, of slot B verify (step 5) -/
  setA : Bool
  setB : Bool
  /-- the application image in slot 0, 1 verifies (step 6) -/
  image0 : Bool
  image1 : Bool
  /-- the translation-cache entries that fail authentication (step 6), by their position in the cache -/
  cacheFails : List Nat
  /-- the active safety parameter set verifies and its CRC matches (R304) -/
  params : Bool
  /-- SIDE0, SIDE1 joined to SIDE_COM (R531) -/
  side0 : Bool
  side1 : Bool
  /-- the cell voltage fell below 2.0 V while the module was unpowered (R61) -/
  lullStopped : Bool
  deriving DecidableEq, Repr, Inhabited

/-- One lane's translation of an image (R181, R185, R187): the native code of each function, the offset of each variable in the lane's data
region, and the worst-case response time W_k of each task, ns. -/
structure Translation where
  code : List Bytes
  placement : List Nat
  w : Tbl Nat
  deriving DecidableEq, Repr, Inhabited

/-- The three lanes' translations made with one value of the counter of R182. -/
structure Attempt where
  a : Translation
  b : Translation
  c : Translation
  deriving DecidableEq, Repr, Inhabited

/-- What the Cutter makes of an image: its translations, with one counter value after the other (R183), and how long it took. -/
structure CutterReport where
  attempts : List Attempt
  ms : Nat
  deriving DecidableEq, Repr, Inhabited

/-- What the voter's decision register shows for a pattern of the comparator test: the decision as the trace codes it (0 release, 1 release and
isolate, 2 Lock-out), the lane isolated (0xFF none), and the time the pattern took in µs (R138 to R140). -/
structure VoterReading where
  decision : Nat
  lane : Nat
  us : Nat
  deriving DecidableEq, Repr, Inhabited

/-- What a slice of a self-test finds: whether the test passes, and for the comparator the voter's reading of the slice's pattern. -/
structure SliceFinding where
  passed : Bool
  reading : VoterReading
  deriving DecidableEq, Repr, Inhabited

/-- The voltages that stand at the two paths of a safe input, in mV (R276). -/
structure PathVolts where
  path0 : Nat
  path1 : Nat
  deriving DecidableEq, Repr, Inhabited

/-- What Proving finds (Table 17.3): the lanes that pass the start-up test, the voter's readings of the comparator patterns and the read-backs of
its line drives in their order (R139), and the first other test that fails, as its cause and detail of Table 8.10. -/
structure ProvingFacts where
  laneA : Bool
  laneB : Bool
  laneC : Bool
  readings : List VoterReading
  drives : List Bool
  failure : Option (Nat × Nat)
  /-- the Cutter's report on the active image, where a translation must be made afresh in step 1 -/
  cutter : Option CutterReport
  deriving DecidableEq, Repr, Inhabited

/-- The causes of a lane fault in the order of Table 4.12 (R105). -/
inductive LaneFaultCause where
  | memory | snapshot | trap | watchdog | clock
  deriving DecidableEq, Repr, Inhabited

/-- The electrical findings of one tachometer axle at a tick (R318): each is true while it holds. -/
structure AxleSense where
  edges : Int
  wiring : Bool
  overfrequency : Bool
  deadChannel : Bool
  illegal : Bool
  deriving DecidableEq, Repr, Inhabited

/-- One accelerometer at a tick (R319): longitudinal reading in mm/s² with gravity's part along the track still in it, and
whether its self-test fails or it reads full scale. -/
structure AccelSense where
  reading : Int
  faulty : Bool
  deriving DecidableEq, Repr, Inhabited

/-- What the position unit and the monitor channels see at one 100 µs tick: both axles, both accelerometers, the monitor
channels' own states where a channel differs (the state's number and the channel), and an offset of fusion channel 2's counter
against channel 1's caused by a fault (0 when both are sound). -/
structure TickSense where
  axle1 : AxleSense
  axle2 : AxleSense
  acc1 : AccelSense
  acc2 : AccelSense
  /-- a state on which a monitor channel differs from the other two, and the channel (log entry 85): 0 to 7 gate of SOi, 8 limited speed, 9
  standstill, 10 direction, 16 + w window w, 32 + i proving of SIi -/
  monitorDiffers : Option (Nat × Lane)
  fusionFault : Int
  /-- outputs whose terminal carries more than 0.3 Un from outside with all six switches open, bit i for SOi (R287) -/
  backFed : Nat
  deriving DecidableEq, Repr, Inhabited

/-- What the readings of one dark pulse show at an input (R279). -/
structure PulseReading where
  input : Nat
  followed : Bool
  followedOther : Bool
  deriving DecidableEq, Repr, Inhabited

/-- The verdict of IEEE 802.1AE on a received frame (R405, R406): in clear, verified under the context given, or failed. -/
inductive MacsecVerdict where
  | clear
  | verified (context : Nat)
  | failed
  deriving DecidableEq, Repr, Inhabited

/-- A frame arriving at a fabric port: its bytes without FCS, whether the FCS is correct, and the verdict of 802.1AE. -/
structure RxFrame where
  bytes : Bytes
  fcsOk : Bool
  macsec : MacsecVerdict
  deriving DecidableEq, Repr, Inhabited

/-- A received TRDP process-data telegram with the fields the checks of Table 11.5 read. -/
structure Telegram where
  udpPort : Nat
  fcsOk : Bool
  protocolOk : Bool
  /-- message type: 0 Pd, 1 Pp, 2 Pr, 3 other -/
  kind : Nat
  comId : Nat
  source : Nat
  destination : Nat
  etbTopo : Nat
  opTrnTopo : Nat
  onEtb : Bool
  sequence : Nat
  /-- the header and user data that the AUTH trailer covers -/
  header : Bytes
  data : Bytes
  deriving DecidableEq, Repr, Inhabited

/-- A HELLO of the partner and the outcome of the handshake that follows it (R234): what the partner states and proves. -/
structure PairHello where
  side : Nat
  generation : Nat
  identifier : Bytes
  namesUs : Bool
  sameAnchor : Bool
  certified : Bool
  running : Bool
  /-- local time instant since which the partner has been Active, in ns since 1970 -/
  activeSince : Nat
  settingsDigest : Nat
  imageDigest : Bytes
  deriving DecidableEq, Repr, Inhabited

/-- A copy of a fragment as it arrives on a Slipstream port: which fragment of its message, and whether its tag verifies (R239, R241). -/
structure SlipCopy where
  port : Nat
  fragment : Nat
  tagOk : Bool
  deriving DecidableEq, Repr, Inhabited

/-- How a message of the partner arrives: in so many fragments, of which these copies come, first to last. -/
structure SlipArrival where
  count : Nat := 0
  copies : List SlipCopy := []
  deriving DecidableEq, Repr, Inhabited

/-- What a message of the partner says, and how it arrives. -/
structure Arrived (α : Type) where
  body : α
  got : SlipArrival := {}
  deriving DecidableEq, Repr, Inhabited

/-- A forwarded SNAPSHOT message (R243): the snapshot bytes, the force entries and the completions. -/
structure PairSnapshot where
  task : Nat
  snapshot : Bytes
  forces : List Bytes
  /-- channel and completion bytes, each as made -/
  completions : List (Nat × Bytes)
  deriving DecidableEq, Repr, Inhabited

/-- A TAKE_END message (R244, Table 7.5). -/
structure PairTakeEnd where
  task : Nat
  decision : Nat
  lanes : Nat
  safeOutputs : Nat
  epoch : Nat
  take : Nat
  signature : Word64
  release : Nat
  health : Nat
  flows : List (Nat × Nat × Nat)
  cues : List (Nat × Nat × Nat)
  checkpoint : List (Nat × Bytes)
  checkpointCrc : Word64
  deriving DecidableEq, Repr, Inhabited

/-- The kinds of CONTROL message (R242 kind 0x02, R252). -/
inductive PairControl where
  | lockoutNotice
  | takeoverNotice
  /-- kind performed, T_start in local ns, and the image that runs -/
  | start (warm : Bool) (tStart : Nat) (digest : Bytes)
  | stop
  | recut (s : Nat)
  | handover (th : Nat)
  /-- a settings change: the command that made it on the Active, and its payload -/
  | settings (code : Nat) (payload : Bytes)
  | forces (table : List Bytes)
  | resyncArmed (rs : Nat)
  | updateSchedule (digest : Bytes) (ta : Nat)
  | updateGates (passed : Bool)
  /-- a Standby holds the image translated in its slot that is not running -/
  | imageHeld (digest : Bytes)
  deriving DecidableEq, Repr, Inhabited

/-- What a RESYNC message carries (R267, Table 7.12): the configuration (T_start, settings as the commands that give them, the force
table, and stored completions with their issuers and tokens), the running image as a signed object, or a task's export. -/
inductive PairResync where
  | configuration (tStart : Nat) (settings : List (Nat × Bytes)) (forces : List Bytes) (tokens : List (Nat × Nat × Bytes))
  | image (object : Bytes)
  | state (task : Nat) (records : Bytes) (crc : Word64)
  deriving DecidableEq, Repr, Inhabited

/-- The resources that commands contend for (R90). -/
inductive Resource where
  | authoriser | argon | flash | store | cutter | time | mailbox | lanes | program | pair | safety | position
  | filter | net | mvb | activation | recorder | update | test
  deriving DecidableEq, Repr, Inhabited

/-- The two rings of the event recorder. -/
inductive Ring where
  | general | juridical
  deriving DecidableEq, Repr, Inhabited

/-- PTP messages a port sends on an interval (R438). -/
inductive PtpKind where
  | sync | announce | pdelay
  deriving DecidableEq, Repr, Inhabited

/-- A PTP instance (R437). -/
inductive PtpSource where
  | etb | ecn
  deriving DecidableEq, Repr, Inhabited

/-- A Sync measurement of an instance (R441): offset θ in ns, mean path delay in ns, grandmaster identity, whether the
grandmaster is another clock, whether it announces ARB, the servo's estimate of the addend and the correction in ppm that it
chooses within its bound. -/
structure SyncMeasure where
  theta : Int
  pathDelay : Nat
  grandmaster : Nat
  arb : Bool
  rate : Nat
  correctionPpm : Int
  deriving DecidableEq, Repr, Inhabited

/-- An Announce message as the best master clock algorithm ranks it (R438): grandmaster identity, steps removed, and whether the
algorithm selects it. -/
structure AnnounceMsg where
  grandmaster : Nat
  steps : Nat
  arb : Bool
  selected : Bool
  deriving DecidableEq, Repr, Inhabited

/-- The train directory that an inauguration computes (R372): topology counters, own position and for each ETBN position its
train subnet address. -/
structure Directory where
  etbTopo : Nat
  opTrnTopo : Nat
  own : Nat
  addresses : List (Int × Nat)
  deriving DecidableEq, Repr, Inhabited

/-- The fields of a KPC instruction word (Table 9 of the code chapter, R167) that name locals: D, A and B. -/
structure Regs where
  d : Nat
  a : Nat
  b : Nat
  deriving DecidableEq, Repr, Inhabited

/-- The symbol, constant leaf and stride of an LD or ST (R173). -/
structure LeafRef where
  symbol : Nat
  leaf : Nat
  stride : Nat
  deriving DecidableEq, Repr, Inhabited

/-- The commands and events: one constructor for each row of spec/opcode_table.json, in its order. -/
inductive Instr where
  /-- SESSION_LOGIN (R47) -/
  | sessionLogin (m : Msg)
  /-- SESSION_END (R53) -/
  | sessionEnd (m : Msg)
  /-- SESSION_LIST (R66) -/
  | sessionList (m : Msg)
  /-- IDENTITY_READ (R66) -/
  | identityRead (m : Msg)
  /-- ENROL_REQUEST (R41) -/
  | enrolRequest (m : Msg)
  /-- ENROL_INSTALL (R41) -/
  | enrolInstall (m : Msg)
  /-- ANCHOR_ROTATE (R42) -/
  | anchorRotate (m : Msg)
  /-- CREDENTIAL_SET (R45) -/
  | credentialSet (m : Msg)
  /-- CREDENTIAL_REMOVE (R52) -/
  | credentialRemove (m : Msg)
  /-- SA_INSTALL (R55) -/
  | saInstall (m : Msg)
  /-- SA_RELEASE (R54) -/
  | saRelease (m : Msg)
  /-- OWNER_LOCK (R58) -/
  | ownerLock (m : Msg)
  /-- TAMPER_ACKNOWLEDGE (R63) -/
  | tamperAcknowledge (m : Msg)
  /-- LULL_STATUS (R60) -/
  | lullStatus (m : Msg)
  /-- MODULE_STATUS (R100) -/
  | moduleStatus (m : Msg)
  /-- MODULE_INFO (R99) -/
  | moduleInfo (m : Msg)
  /-- MODE_REQUEST (R509) -/
  | modeRequest (m : Msg)
  /-- MODULE_RESTART (R101) -/
  | moduleRestart (m : Msg)
  /-- CLASS_CONTROL (R102) -/
  | classControl (m : Msg)
  /-- TOKEN_QUERY (R97) -/
  | tokenQuery (m : Msg)
  /-- MAILBOX_COUNTERS (R99) -/
  | mailboxCounters (m : Msg)
  /-- LANE_STATUS (R146) -/
  | laneStatus (m : Msg)
  /-- LANE_HEALTH (R143) -/
  | laneHealth (m : Msg)
  /-- LANE_TRACE_READ (R144) -/
  | laneTraceRead (m : Msg)
  /-- LANE_ISOLATE (R147) -/
  | laneIsolate (m : Msg)
  /-- LANE_RESHOOT (R147) -/
  | laneReshoot (m : Msg)
  /-- STAGGER_SET (R110) -/
  | staggerSet (m : Msg)
  /-- VOTER_TEST (R142) -/
  | voterTest (m : Msg)
  /-- LANE_DIAG_CLEAR (R143) -/
  | laneDiagClear (m : Msg)
  /-- PROGRAM_STATUS (R231) -/
  | programStatus (m : Msg)
  /-- IMAGE_LOAD (R232) -/
  | imageLoad (m : Msg)
  /-- PROGRAM_START (R211) -/
  | programStart (m : Msg)
  /-- PROGRAM_STOP (R212) -/
  | programStop (m : Msg)
  /-- RECUT_START (R223) -/
  | recutStart (m : Msg)
  /-- RECUT_CANCEL (R229) -/
  | recutCancel (m : Msg)
  /-- FORCE_SET (R206) -/
  | forceSet (m : Msg)
  /-- FORCE_CLEAR (R206) -/
  | forceClear (m : Msg)
  /-- FORCE_LIST (R231) -/
  | forceList (m : Msg)
  /-- VARIABLE_READ (R232) -/
  | variableRead (m : Msg)
  /-- IMAGE_ERASE (R232) -/
  | imageErase (m : Msg)
  /-- PAIR_STATUS (R271) -/
  | pairStatus (m : Msg)
  /-- PAIR_HEALTH (R265) -/
  | pairHealth (m : Msg)
  /-- PAIR_CONFIGURE (R272) -/
  | pairConfigure (m : Msg)
  /-- PAIR_SWITCHOVER (R257) -/
  | pairSwitchover (m : Msg)
  /-- PAIR_RESYNC (R272) -/
  | pairResync (m : Msg)
  /-- PAIR_BUDGET (R238) -/
  | pairBudget (m : Msg)
  /-- PAIR_COUNTERS (R271) -/
  | pairCounters (m : Msg)
  /-- SAFETY_STATUS (R315) -/
  | safetyStatus (m : Msg)
  /-- SAFETY_PARAM_LOAD (R305) -/
  | safetyParamLoad (m : Msg)
  /-- SAFETY_PARAM_ACTIVATE (R305) -/
  | safetyParamActivate (m : Msg)
  /-- LOCKOUT_ENTER (R307) -/
  | lockoutEnter (m : Msg)
  /-- LOCKOUT_RESET (R310) -/
  | lockoutReset (m : Msg)
  /-- CHANGE_LOG_READ (R306) -/
  | changeLogRead (m : Msg)
  /-- WINDOW_CLOSE (R300) -/
  | windowClose (m : Msg)
  /-- SAFE_IO_TEST (R316) -/
  | safeIoTest (m : Msg)
  /-- POSITION_STATUS (R342) -/
  | positionStatus (m : Msg)
  /-- POSITION_CONFIGURE (R320) -/
  | positionConfigure (m : Msg)
  /-- POSITION_MARK (R330) -/
  | positionMark (m : Msg)
  /-- POSITION_AT (R342) -/
  | positionAt (m : Msg)
  /-- CUE_STATUS (R342) -/
  | cueStatus (m : Msg)
  /-- CUE_CONTROL (R340) -/
  | cueControl (m : Msg)
  /-- POSITION_COUNTERS (R342) -/
  | positionCounters (m : Msg)
  /-- SIGNAL_STATUS (R366) -/
  | signalStatus (m : Msg)
  /-- CHANNEL_CONFIGURE (R348) -/
  | channelConfigure (m : Msg)
  /-- COEFF_LOAD (R355) -/
  | coeffLoad (m : Msg)
  /-- SIGNAL_DISSOLVE (R356) -/
  | signalDissolve (m : Msg)
  /-- CHANNEL_CONTROL (R364) -/
  | channelControl (m : Msg)
  /-- INPUT_SWITCH (R353) -/
  | inputSwitch (m : Msg)
  /-- SIGNAL_COUNTERS (R366) -/
  | signalCounters (m : Msg)
  /-- NET_STATUS (R411) -/
  | netStatus (m : Msg)
  /-- PORT_CONFIGURE (R412) -/
  | portConfigure (m : Msg)
  /-- PORT_COUNTERS (R382) -/
  | portCounters (m : Msg)
  /-- FDB_PIN (R377) -/
  | fdbPin (m : Msg)
  /-- FDB_UNPIN (R411) -/
  | fdbUnpin (m : Msg)
  /-- FDB_READ (R411) -/
  | fdbRead (m : Msg)
  /-- FDB_FLUSH (R379) -/
  | fdbFlush (m : Msg)
  /-- FLOW_CONFIGURE (R395) -/
  | flowConfigure (m : Msg)
  /-- FLOW_CONTROL (R403) -/
  | flowControl (m : Msg)
  /-- FLOW_STATUS (R411) -/
  | flowStatus (m : Msg)
  /-- FRER_CONFIGURE (R386) -/
  | frerConfigure (m : Msg)
  /-- GATE_CONFIGURE (R390) -/
  | gateConfigure (m : Msg)
  /-- LAUNCH_WRITE (R391) -/
  | launchWrite (m : Msg)
  /-- LAUNCH_FLUSH (R412) -/
  | launchFlush (m : Msg)
  /-- RNAT_CONFIGURE (R411) -/
  | rnatConfigure (m : Msg)
  /-- NET_SETTINGS (R412) -/
  | netSettings (m : Msg)
  /-- MVB_STATUS (R434) -/
  | mvbStatus (m : Msg)
  /-- MVB_CONFIGURE (R415) -/
  | mvbConfigure (m : Msg)
  /-- MVB_PORT_CONFIGURE (R417) -/
  | mvbPortConfigure (m : Msg)
  /-- MVB_PORT_CONTROL (R432) -/
  | mvbPortControl (m : Msg)
  /-- MVB_WRITE (R423) -/
  | mvbWrite (m : Msg)
  /-- MVB_READ (R421) -/
  | mvbRead (m : Msg)
  /-- MVB_LOCK (R427) -/
  | mvbLock (m : Msg)
  /-- MVB_UNLOCK (R428) -/
  | mvbUnlock (m : Msg)
  /-- MVB_MAP (R430) -/
  | mvbMap (m : Msg)
  /-- MVB_DEVICES (R422) -/
  | mvbDevices (m : Msg)
  /-- MVB_COUNTERS (R434) -/
  | mvbCounters (m : Msg)
  /-- TIME_STATUS (R449) -/
  | timeStatus (m : Msg)
  /-- TIME_CONFIGURE (R450) -/
  | timeConfigure (m : Msg)
  /-- TIME_SET (R450) -/
  | timeSet (m : Msg)
  /-- TIME_PORT_STATUS (R449) -/
  | timePortStatus (m : Msg)
  /-- ACTIVATION_STATUS (R469) -/
  | activationStatus (m : Msg)
  /-- SOURCE_CONFIGURE (R453) -/
  | sourceConfigure (m : Msg)
  /-- SOURCE_MASK (R459) -/
  | sourceMask (m : Msg)
  /-- ACTIVATION_HOLD (R461) -/
  | activationHold (m : Msg)
  /-- ACTIVATION_TRIGGER (R470) -/
  | activationTrigger (m : Msg)
  /-- ACTIVATION_COUNTERS (R469) -/
  | activationCounters (m : Msg)
  /-- RECORDER_STATUS (R486) -/
  | recorderStatus (m : Msg)
  /-- RECORDER_READ (R482) -/
  | recorderRead (m : Msg)
  /-- RECORDER_FREEZE (R480) -/
  | recorderFreeze (m : Msg)
  /-- RECORDER_RELEASE (R481) -/
  | recorderRelease (m : Msg)
  /-- RECORDER_CLEAR_REQUEST (R483) -/
  | recorderClearRequest (m : Msg)
  /-- RECORDER_CLEAR_CONFIRM (R484) -/
  | recorderClearConfirm (m : Msg)
  /-- RECORDER_COUNTERS (R486) -/
  | recorderCounters (m : Msg)
  /-- UPDATE_STATUS (R506) -/
  | updateStatus (m : Msg)
  /-- UPDATE_STAGE (R491) -/
  | updateStage (m : Msg)
  /-- UPDATE_SCHEDULE (R494) -/
  | updateSchedule (m : Msg)
  /-- UPDATE_CANCEL (R494) -/
  | updateCancel (m : Msg)
  /-- TEST_STATUS (R526) -/
  | testStatus (m : Msg)
  /-- TEST_ENTER (R521) -/
  | testEnter (m : Msg)
  /-- TEST_EXIT (R522) -/
  | testExit (m : Msg)
  /-- SQUALL_SET (R524) -/
  | squallSet (m : Msg)
  /-- SELF_TEST_RUN (R519) -/
  | selfTestRun (m : Msg)
  /-- NOP (R168) -/
  | kNop (lane : Lane)
  /-- CONST (R168) -/
  | kConst (lane : Lane) (t : MType) (d : Nat) (value : Word64)
  /-- MOV (R168) -/
  | kMov (lane : Lane) (t : MType) (r : Regs)
  /-- SEL (R168) -/
  | kSel (lane : Lane) (t : MType) (r : Regs) (c : Nat)
  /-- ADD (R169) -/
  | kAdd (lane : Lane) (t : MType) (r : Regs)
  /-- SUB (R169) -/
  | kSub (lane : Lane) (t : MType) (r : Regs)
  /-- MUL (R169) -/
  | kMul (lane : Lane) (t : MType) (r : Regs)
  /-- DIV (R169) -/
  | kDiv (lane : Lane) (t : MType) (r : Regs)
  /-- MOD (R169) -/
  | kMod (lane : Lane) (t : MType) (r : Regs)
  /-- NEG (R169) -/
  | kNeg (lane : Lane) (t : MType) (r : Regs)
  /-- ABS (R169) -/
  | kAbs (lane : Lane) (t : MType) (r : Regs)
  /-- MIN (R170) -/
  | kMin (lane : Lane) (t : MType) (r : Regs)
  /-- MAX (R170) -/
  | kMax (lane : Lane) (t : MType) (r : Regs)
  /-- FMA (R170) -/
  | kFma (lane : Lane) (t : MType) (r : Regs) (c : Nat)
  /-- SQRT (R170) -/
  | kSqrt (lane : Lane) (t : MType) (r : Regs)
  /-- AND (R168) -/
  | kAnd (lane : Lane) (t : MType) (r : Regs)
  /-- OR (R168) -/
  | kOr (lane : Lane) (t : MType) (r : Regs)
  /-- XOR (R168) -/
  | kXor (lane : Lane) (t : MType) (r : Regs)
  /-- NOT (R168) -/
  | kNot (lane : Lane) (t : MType) (r : Regs)
  /-- SHL (R169) -/
  | kShl (lane : Lane) (t : MType) (tb : MType) (r : Regs)
  /-- SHR (R169) -/
  | kShr (lane : Lane) (t : MType) (tb : MType) (r : Regs)
  /-- ROL (R168) -/
  | kRol (lane : Lane) (t : MType) (tb : MType) (r : Regs)
  /-- ROR (R168) -/
  | kRor (lane : Lane) (t : MType) (tb : MType) (r : Regs)
  /-- EQ (R170) -/
  | kEq (lane : Lane) (t : MType) (r : Regs)
  /-- NE (R170) -/
  | kNe (lane : Lane) (t : MType) (r : Regs)
  /-- LT (R170) -/
  | kLt (lane : Lane) (t : MType) (r : Regs)
  /-- LE (R170) -/
  | kLe (lane : Lane) (t : MType) (r : Regs)
  /-- GT (R170) -/
  | kGt (lane : Lane) (t : MType) (r : Regs)
  /-- GE (R170) -/
  | kGe (lane : Lane) (t : MType) (r : Regs)
  /-- CVT (R171) -/
  | kCvt (lane : Lane) (t : MType) (t2 : MType) (r : Regs)
  /-- TRUNC (R171) -/
  | kTrunc (lane : Lane) (t : MType) (t2 : MType) (r : Regs)
  /-- ROUND (R171) -/
  | kRound (lane : Lane) (t : MType) (t2 : MType) (r : Regs)
  /-- BITS (R170) -/
  | kBits (lane : Lane) (t : MType) (t2 : MType) (r : Regs)
  /-- SIN (R170) -/
  | kSin (lane : Lane) (t : MType) (r : Regs)
  /-- COS (R170) -/
  | kCos (lane : Lane) (t : MType) (r : Regs)
  /-- TAN (R170) -/
  | kTan (lane : Lane) (t : MType) (r : Regs)
  /-- ASIN (R170) -/
  | kAsin (lane : Lane) (t : MType) (r : Regs)
  /-- ACOS (R170) -/
  | kAcos (lane : Lane) (t : MType) (r : Regs)
  /-- ATAN (R170) -/
  | kAtan (lane : Lane) (t : MType) (r : Regs)
  /-- ATAN2 (R170) -/
  | kAtan2 (lane : Lane) (t : MType) (r : Regs)
  /-- EXP (R170) -/
  | kExp (lane : Lane) (t : MType) (r : Regs)
  /-- LN (R170) -/
  | kLn (lane : Lane) (t : MType) (r : Regs)
  /-- LOG10 (R170) -/
  | kLog10 (lane : Lane) (t : MType) (r : Regs)
  /-- EXPT (R170) -/
  | kExpt (lane : Lane) (t : MType) (r : Regs)
  /-- FLOOR (R170) -/
  | kFloor (lane : Lane) (t : MType) (r : Regs)
  /-- CEIL (R170) -/
  | kCeil (lane : Lane) (t : MType) (r : Regs)
  /-- RINT (R170) -/
  | kRint (lane : Lane) (t : MType) (r : Regs)
  /-- LD (R173) -/
  | kLd (lane : Lane) (t : MType) (r : Regs) (ref : LeafRef)
  /-- ST (R173) -/
  | kSt (lane : Lane) (t : MType) (r : Regs) (ref : LeafRef)
  /-- COPY (R174) -/
  | kCopy (lane : Lane) (source : Nat) (sourceLeaf : Nat) (target : Nat) (targetLeaf : Nat) (count : Nat)
  /-- BLOCK (R176) -/
  | kBlock (lane : Lane)
  /-- LOOP (R176) -/
  | kLoop (lane : Lane) (bound : Nat)
  /-- IF (R176) -/
  | kIf (lane : Lane) (a : Nat)
  /-- ELSE (R176) -/
  | kElse (lane : Lane)
  /-- END (R176) -/
  | kEnd (lane : Lane)
  /-- BREAK (R176) -/
  | kBreak (lane : Lane) (depth : Nat)
  /-- NEXT (R176) -/
  | kNext (lane : Lane) (depth : Nat)
  /-- RETURN (R176) -/
  | kReturn (lane : Lane)
  /-- CALL (R176) -/
  | kCall (lane : Lane) (d : Nat) (a : Nat) (function : Nat)
  /-- TIME_NOW (R178) -/
  | kTimeNow (lane : Lane) (d : Nat) (a : Nat)
  /-- TAKE_INFO (R178) -/
  | kTakeInfo (lane : Lane) (d : Nat) (a : Nat)
  /-- MODES (R178) -/
  | kModes (lane : Lane) (d : Nat) (a : Nat)
  /-- FAULTS (R175) -/
  | kFaults (lane : Lane) (d : Nat) (a : Nat)
  /-- INPUT_STATUS (R199) -/
  | kInputStatus (lane : Lane) (d : Nat) (a : Nat)
  /-- POSITION (R178) -/
  | kPosition (lane : Lane) (d : Nat) (a : Nat)
  /-- MBX_ISSUE (R179) -/
  | kMbxIssue (lane : Lane) (d : Nat) (a : Nat)
  /-- MBX_RESULT (R179) -/
  | kMbxResult (lane : Lane) (d : Nat) (a : Nat)
  /-- CUE_REQUEST (R332) -/
  | kCueRequest (lane : Lane) (d : Nat) (a : Nat)
  /-- CUE_CANCEL (R332) -/
  | kCueCancel (lane : Lane) (d : Nat) (a : Nat)
  /-- CUE_STATE (R338) -/
  | kCueState (lane : Lane) (d : Nat) (a : Nat)
  /-- RECORD (R180) -/
  | kRecord (lane : Lane) (d : Nat) (a : Nat)
  /-- MBX_CH_DOORBELL (R76) -/
  | mbxChDoorbell (lane : Lane) (k : Fin 16) (value : Word32)
  /-- LANE_COPY_TAKEOVER (R77) -/
  | laneCopyTakeover (lane : Lane) (k : Fin 16)
  /-- MBX_CH_POP (R75) -/
  | mbxChPop (lane : Lane) (k : Fin 16)
  /-- MBX_SHADOW_FETCH (R83) -/
  | mbxShadowFetch (lane : Lane)
  /-- ACT_TAKE (R463) -/
  | actTake (lane : Lane)
  /-- ACT_DEFER (R464) -/
  | actDefer (lane : Lane) (value : Word32)
  /-- TIM_STEP_SUM_LO (R446) -/
  | timStepSumLo (lane : Lane)
  /-- REGISTER_WRITE (R9) -/
  | registerWrite (lane : Lane) (offset : Nat) (value : Word32)
  /-- POWER_GOOD (R32) -/
  | powerGood (facts : BootFacts)
  /-- BOOTING_END (R509) -/
  | bootingEnd
  /-- PROVING_END (R512) -/
  | provingEnd (facts : ProvingFacts)
  /-- RESET (R530) -/
  | reset
  /-- SUPPLY_FAILURE (R219) -/
  | supplyFailure (mv : Nat)
  /-- SUPPLY_RETURN (R514) -/
  | supplyReturn (mv : Nat)
  /-- RECORDER_SUPPLY_STOP (R479) -/
  | recorderSupplyStop
  /-- HOLD_UP_EXPIRY (R514) -/
  | holdUpExpiry
  /-- SLATE_WATCHDOG_EXPIRY (R520) -/
  | slateWatchdogExpiry
  /-- REEL_FAULT (R31) -/
  | reelFault (protection : Bool)
  /-- REEL_RESTART_COMPLETE (R31) -/
  | reelRestartComplete
  /-- CASE_OPEN_SAMPLE (R61) -/
  | caseOpenSample (isOpen : Bool)
  /-- LULL_LATCH_READ (R62) -/
  | lullLatchRead
  /-- CELL_MEASUREMENT (R60) -/
  | cellMeasurement (mv : Nat)
  /-- LULL_CLOCK_WRITE (R444) -/
  | lullClockWrite
  /-- TLS_SESSION_OPEN (R50) -/
  | tlsSessionOpen (port : Nat) (source : Nat)
  /-- HARDWARE_SESSION_OPEN (R50) -/
  | hardwareSessionOpen (peer : Bytes) (certified : Bool) (bound : Bool)
  /-- SESSION_STREAM_ERROR (R85) -/
  | sessionStreamError (session : Nat)
  /-- PRE_LOGIN_TIMEOUT (R50) -/
  | preLoginTimeout (session : Nat)
  /-- SESSION_IDLE_TIMEOUT (R52) -/
  | sessionIdleTimeout (session : Nat)
  /-- SESSION_LIFETIME_EXPIRY (R52) -/
  | sessionLifetimeExpiry (session : Nat)
  /-- ARGON2ID_DONE (R46) -/
  | argon2idDone
  /-- CREDENTIAL_LOCK_EXPIRY (R47) -/
  | credentialLockExpiry (credential : Nat)
  /-- SA_DRAIN_END (R54) -/
  | saDrainEnd (context : Nat)
  /-- SA_REKEY_LIMIT (R57) -/
  | saRekeyLimit (context : Nat)
  /-- MKPDU_RECEIVE (R57) -/
  | mkpduReceive (port : Nat) (key : Nat) (agreed : Bool)
  /-- INPUT_FREEZE (R19) -/
  | inputFreeze (task : Nat)
  /-- TAKE_START (R109) -/
  | takeStart (lane : Lane) (task : Nat)
  /-- SIGNATURE_POST (R112) -/
  | signaturePost (lane : Lane) (task : Nat) (take : Nat) (epoch : Nat) (upset : Word64)
  /-- VOTE_DEADLINE (R122) -/
  | voteDeadline (task : Nat)
  /-- LANE_FAULT (R105) -/
  | laneFault (lane : Lane) (cause : LaneFaultCause)
  /-- LANE_WATCHDOG_EXPIRY (R105) -/
  | laneWatchdogExpiry (lane : Lane)
  /-- DIVERGENCE_COMPARISON_DONE (R127) -/
  | divergenceComparisonDone (lane : Lane) (task : Nat)
  /-- LANE_RESTART_DONE (R132) -/
  | laneRestartDone (lane : Lane) (passed : Bool)
  /-- RESHOOT_EXPORT_DONE (R132) -/
  | reshootExportDone (lane : Lane) (task : Nat) (upset : Word64)
  /-- RESHOOT_IMPORT_DONE (R132) -/
  | reshootImportDone (task : Nat) (upset : Word64)
  /-- RESHOOT_RETRY (R136) -/
  | reshootRetry (lane : Lane)
  /-- TWO_LANE_LIMIT_EXPIRY (R130) -/
  | twoLaneLimitExpiry
  /-- TWO_LANE_LOCKOUT (R130) -/
  | twoLaneLockout
  /-- BACKGROUND_SLICE (R517) -/
  | backgroundSlice (finding : SliceFinding)
  /-- CUTTER_TRANSLATION_DONE (R186) -/
  | cutterTranslationDone (report : CutterReport)
  /-- RETENTIVE_COMMIT_PERIODIC (R219) -/
  | retentiveCommitPeriodic
  /-- RETENTIVE_COMMIT_COMPLETE (R219) -/
  | retentiveCommitComplete (written : Bool)
  /-- RECUT_GUARD (R225) -/
  | recutGuard
  /-- RECUT_SWITCH (R224) -/
  | recutSwitch
  /-- SOURCE_DETECTION (R452) -/
  | sourceDetection (source : Nat) (clock : Nat)
  /-- ACTIVATION_COMMIT (R455) -/
  | activationCommit (source : Nat)
  /-- ACTIVATION_HOLD_LIMIT (R462) -/
  | activationHoldLimit
  /-- POSITION_TICK (R322) -/
  | positionTick (sense : TickSense)
  /-- STANDSTILL_PROVEN (R296) -/
  | standstillProven
  /-- SPEED_VIOLATION_CLEAR (R295) -/
  | speedViolationClear
  /-- WINDOW_OPEN_TIME_EXPIRY (R300) -/
  | windowOpenTimeExpiry (window : Nat)
  /-- BRIDGING_LIMIT (R325) -/
  | bridgingLimit
  /-- AXLE_CLEAN (R318) -/
  | axleClean (axle : Nat)
  /-- TIME_CUE (R335) -/
  | timeCue (cue : Nat)
  /-- SAFE_INPUT_CHANGE (R277) -/
  | safeInputChange (input : Nat) (volts : PathVolts)
  /-- INPUT_PATH_FAULT (R277) -/
  | inputPathFault (input : Nat)
  /-- INPUT_PATH_TEST (R277) -/
  | inputPathTest (input : Nat) (path : Nat) (shown : Bool)
  /-- TEST_PULSE (R278) -/
  | testPulse (source : Nat) (readings : List PulseReading) (sourceOk : Bool)
  /-- PAIR_DISCREPANCY_FAULT (R280) -/
  | pairDiscrepancyFault (pair : Nat)
  /-- OUTPUT_TIMEOUT (R288) -/
  | outputTimeout (output : Nat)
  /-- OVERCURRENT_TRIP (R287) -/
  | overcurrentTrip (output : Nat)
  /-- BACK_FEED_FAULT (R287) -/
  | backFeedFault (output : Nat)
  /-- SWITCH_TEST (R289) -/
  | switchTest (output : Nat) (switch : Nat) (passed : Bool) (senseOk : Bool)
  /-- SWITCH_TEST_OVERDUE (R290) -/
  | switchTestOverdue (output : Nat)
  /-- PARAMETER_CRC_CHECK (R275) -/
  | parameterCrcCheck (channel : Lane) (crc : Word64)
  /-- FIELD_SUPPLY_LOW (R291) -/
  | fieldSupplyLow (volts : Nat)
  /-- RESET_KEY_CHANGE (R311) -/
  | resetKeyChange (contactA : Bool) (contactB : Bool)
  /-- RESET_KEY_HOLD_LIMIT (R311) -/
  | resetKeyHoldLimit
  /-- RESET_KEY_ARMING_TIMEOUT (R311) -/
  | resetKeyArmingTimeout
  /-- STREAM_FRAME (R345) -/
  | streamFrame (port : Nat) (payload : Bytes)
  /-- CHANNEL_STALE (R347) -/
  | channelStale (channel : Nat)
  /-- DISSOLVE_START (R356) -/
  | dissolveStart (channel : Nat)
  /-- DISSOLVE_COMPLETE (R357) -/
  | dissolveComplete (channel : Nat)
  /-- FRAME_RECEIVE (R377) -/
  | frameReceive (port : Nat) (frame : RxFrame)
  /-- EGRESS_FRAME_DONE (R384) -/
  | egressFrameDone (port : Nat)
  /-- FDB_AGING (R379) -/
  | fdbAging (mac : Nat) (vlan : Nat)
  /-- GATE_EVENT (R388) -/
  | gateEvent (port : Nat)
  /-- GATE_LIST_TAKEOVER (R390) -/
  | gateListTakeover (port : Nat)
  /-- LAUNCH_GUARD_BAND (R392) -/
  | launchGuardBand (port : Nat) (instant : Nat)
  /-- FRER_RESET_TIMEOUT (R386) -/
  | frerResetTimeout (stream : Nat)
  /-- FRER_LATENT_ERROR (R387) -/
  | frerLatentError (stream : Nat) (path : Nat)
  /-- TTDP_HELLO_SEND (R371) -/
  | ttdpHelloSend (line : Nat)
  /-- TTDP_HELLO_RECEIVE (R371) -/
  | ttdpHelloReceive (line : Nat) (neighbour : Nat)
  /-- TTDP_HELLO_TIMEOUT (R371) -/
  | ttdpHelloTimeout (line : Nat)
  /-- TOPOLOGY_FRAME (R372) -/
  | topologyFrame (line : Nat) (changed : Bool)
  /-- INAUGURATION_COMPLETE (R372) -/
  | inaugurationComplete (directory : Directory)
  /-- LINK_CHANGE (R371) -/
  | linkChange (port : Nat) (up : Bool) (rate : Nat)
  /-- RELAY_READBACK (R374) -/
  | relayReadback (relay : Nat) (closed : Bool)
  /-- SFP_INSERTION (R534) -/
  | sfpInsertion (cage : Nat) (readable : Bool) (level : Nat)
  /-- TRDP_PD_RECEIVE (R398) -/
  | trdpPdReceive (telegram : Telegram)
  /-- TRDP_PR_RECEIVE (R397) -/
  | trdpPrReceive (telegram : Telegram)
  /-- MESSAGE_DATA_RECEIVE (R402) -/
  | messageDataReceive (session : Nat) (comId : Nat) (envelope : Bytes)
  /-- FLOW_FRESHNESS_TIMEOUT (R400) -/
  | flowFreshnessTimeout (slot : Nat)
  /-- SCHEDULED_LAUNCH (R397) -/
  | scheduledLaunch (slot : Nat)
  /-- HEARTBEAT (R409) -/
  | heartbeat
  /-- MVB_BASIC_PERIOD (R415) -/
  | mvbBasicPeriod (bus : Nat)
  /-- MVB_MASTER_FRAME (R415) -/
  | mvbMasterFrame (bus : Nat) (fcode : Nat) (address : Nat)
  /-- MVB_SLAVE_FRAME (R420) -/
  | mvbSlaveFrame (bus : Nat) (fcode : Nat) (address : Nat) (data : Bytes) (lineA : Bool) (lineB : Bool)
  /-- MVB_SINK_STALE (R420) -/
  | mvbSinkStale (handle : Nat)
  /-- MVB_WRITE_DEADLINE (R424) -/
  | mvbWriteDeadline (handle : Nat)
  /-- MVB_READ_TIMEOUT (R434) -/
  | mvbReadTimeout (handle : Nat)
  /-- MVB_LOCK_EXPIRY (R429) -/
  | mvbLockExpiry (semaphore : Nat)
  /-- MVB_MASTERSHIP_OFFER (R415) -/
  | mvbMastershipOffer (bus : Nat)
  /-- MVB_BINDING_WRITE_FAILURE (R426) -/
  | mvbBindingWriteFailure (handle : Nat)
  /-- PTP_SYNC (R441) -/
  | ptpSync (source : PtpSource) (measure : SyncMeasure)
  /-- PTP_ANNOUNCE (R438) -/
  | ptpAnnounce (source : PtpSource) (port : Nat) (announce : AnnounceMsg)
  /-- PTP_ANNOUNCE_TIMEOUT (R440) -/
  | ptpAnnounceTimeout (source : PtpSource) (port : Nat)
  /-- PTP_PDELAY (R438) -/
  | ptpPdelay (port : Nat) (delay : Nat) (capable : Bool)
  /-- SLIPSTREAM_HELLO (R234) -/
  | slipstreamHello (hello : PairHello)
  /-- SLIPSTREAM_HELLO_SEND (R234) -/
  | slipstreamHelloSend
  /-- CONTROL (R252) -/
  | slipControl (message : Arrived PairControl)
  /-- SNAPSHOT (R245) -/
  | slipSnapshot (message : Arrived PairSnapshot)
  /-- TOKEN (R247) -/
  | slipToken (issuer : Nat) (token : Nat) (completion : Arrived Bytes)
  /-- ACK (R247) -/
  | slipAck (issuer : Nat) (token : Nat) (reasons : Arrived Nat)
  /-- TAKE_END (R249) -/
  | slipTakeEnd (message : Arrived PairTakeEnd)
  /-- STATUS (R265) -/
  | slipStatus (report : Arrived Bytes)
  /-- KEEPALIVE (R242) -/
  | slipKeepalive (port : Nat) (delay : Arrived Nat)
  /-- RESYNC (R267) -/
  | slipResync (message : Arrived PairResync)
  /-- PAIR_TELEGRAM (R253) -/
  | pairTelegram (task : Nat) (take : Nat)
  /-- SUPERVISED_TAKE_MISSED (R253) -/
  | supervisedTakeMissed
  /-- TAKEOVER_INSTANT (R254) -/
  | takeoverInstant
  /-- HANDOVER_INSTANT (R257) -/
  | handoverInstant
  /-- RESYNC_START (R267) -/
  | resyncStart
  /-- RESYNC_RETRY (R268) -/
  | resyncRetry
  /-- UPDATE_ACTIVATION (R495) -/
  | updateActivation
  /-- UPDATE_PARTNER_WAIT_END (R500) -/
  | updatePartnerWaitEnd
  /-- UPDATE_TRIAL_TIMEOUT (R498) -/
  | updateTrialTimeout
  /-- RECORD_WRITE (R477) -/
  | recordWrite (ring : Ring) (readBack : Bool)
  /-- SUPPRESSED_RECORD (R476) -/
  | suppressedRecord (ring : Ring)
  /-- FREEZE_TIMEOUT (R481) -/
  | freezeTimeout
  /-- CLEAR_TICKET_EXPIRY (R483) -/
  | clearTicketExpiry
  /-- SHADOW_ENTRY_EXPIRY (R82) -/
  | shadowEntryExpiry (lane : Lane) (k : Fin 16) (token : Word32)
  /-- TEST_EN_CHANGE (R549) -/
  | testEnChange (strapped : Bool)
  /-- TEST_LIMIT_EXPIRY (R522) -/
  | testLimitExpiry
  /-- BACKPRESSURE_WINDOW (R524) -/
  | backpressureWindow
  /-- RESET_RELEASE (R509) -/
  | resetRelease (facts : BootFacts)
  /-- RESOURCE_GRANT (R90) -/
  | resourceGrant (resource : Resource)
  /-- FIELD_SUPPLY_RETURN (R291) -/
  | fieldSupplyReturn (volts : Nat)
  /-- RESET_KEY_DISCREPANCY (R311) -/
  | resetKeyDiscrepancy
  /-- HOLD_UP_STORE_CHARGED (R539) -/
  | holdUpStoreCharged (nanofarad : Nat)
  /-- SLIPSTREAM_FRAGMENT_DONE (R242) -/
  | slipstreamFragmentDone (port : Nat)
  /-- HEALTH_REPORT_SEND (R242) -/
  | healthReportSend
  /-- PTP_MESSAGE_SEND (R438) -/
  | ptpMessageSend (port : Nat) (kind : PtpKind)
  /-- MAILBOX_RESPONSE_DELAY_END (R524) -/
  | mailboxResponseDelayEnd
  /-- CORRECTED_MEMORY_ERROR (R104) -/
  | correctedMemoryError (lane : Lane)
  deriving DecidableEq, Repr

end Sys2Proof
end

