-- ==== Sys2Proof/Machine/Bytes.lean ====
section
/-! DEFINITION. Byte order, check codes, sparse tables and per-lane values: the helpers that every block of the model shares. -/

namespace Sys2Proof

/-- A number as `n` bytes, least significant first (R8: in-module structures are little-endian). -/
def le : Nat → Nat → Bytes
  | 0, _ => []
  | n + 1, v => BitVec.ofNat 8 (v % 256) :: le n (v / 256)

/-- The number whose little-endian bytes these are. -/
def leNat : Bytes → Nat
  | [] => 0
  | b :: bs => b.toNat + 256 * leNat bs

/-- A number as `n` bytes, most significant first (R8: wire formats are in network order). -/
def be (n v : Nat) : Bytes := (le n v).reverse

/-- The number whose big-endian bytes these are. -/
def beNat (bs : Bytes) : Nat := leNat bs.reverse

/-- A signed number in two's complement on `n` bytes, least significant first. -/
def leInt (n : Nat) (v : Int) : Bytes := le n (v % (2 : Int) ^ (8 * n)).toNat

/-- The signed reading of a `bits`-wide two's complement number. -/
def toSigned (bits v : Nat) : Int := if v < 2 ^ (bits - 1) then v else (v : Int) - 2 ^ bits

/-- The two's complement pattern of a signed number on `bits` bits. -/
def ofSigned (bits : Nat) (v : Int) : Nat := (v % (2 : Int) ^ bits).toNat

/-- `n` bytes from offset `o`. -/
def Bytes.slice (bs : Bytes) (o n : Nat) : Bytes := (bs.drop o).take n

/-- An unsigned little-endian field of `n` bytes at offset `o`; bytes past the end read 0. -/
def Bytes.field (bs : Bytes) (o n : Nat) : Nat := leNat ((bs.drop o).take n)

/-- A signed little-endian field of `n` bytes at offset `o`. -/
def Bytes.fieldInt (bs : Bytes) (o n : Nat) : Int := toSigned (8 * n) (Bytes.field bs o n)

/-- Zero padding, or cutting, to exactly `n` bytes. -/
def padTo (n : Nat) (bs : Bytes) : Bytes := bs.take n ++ List.replicate (n - bs.length) 0

/-- A byte string without its trailing zero bytes (R66: names are zero-padded). -/
def unpad (bs : Bytes) : Bytes := (bs.reverse.dropWhile (· == 0)).reverse

/-- Whether every byte is 0 (R10: reserved fields). -/
def allZero (bs : Bytes) : Bool := bs.all (· == 0)

/-- The bytes of an ASCII text. -/
def ascii (t : String) : Bytes := t.toList.map fun c => BitVec.ofNat 8 c.toNat

/-- `bytes` written into `buf` at offset `o`, `buf` grown with zero bytes as needed. -/
def Bytes.overwrite (buf : Bytes) (o : Nat) (bytes : Bytes) : Bytes :=
  padTo o buf ++ bytes ++ buf.drop (o + bytes.length)

/-- One bit of a bit-reflected CRC register. -/
def crcBit (poly c : Nat) : Nat := if c % 2 = 1 then (c / 2) ^^^ poly else c / 2

/-- One byte into a bit-reflected CRC register. -/
def crcByte (poly c : Nat) (b : Byte) : Nat :=
  let x := c ^^^ b.toNat
  crcBit poly (crcBit poly (crcBit poly (crcBit poly (crcBit poly (crcBit poly (crcBit poly (crcBit poly x)))))))

/-- The CRC-32 of IEEE 802.3 (R71): reflected polynomial, initial value and final XOR of all ones. -/
def crc32 (bs : Bytes) : Nat := (bs.foldl (crcByte 0xEDB88320) 0xFFFFFFFF) ^^^ 0xFFFFFFFF

/-- The CRC-64 of R120: the ECMA-182 polynomial, input and output bit-reflected, initial value and final XOR of all ones. -/
def crc64 (bs : Bytes) : Nat :=
  (bs.foldl (crcByte 0xC96C5795D7870F42) 0xFFFFFFFFFFFFFFFF) ^^^ 0xFFFFFFFFFFFFFFFF

/-- The entry of number `k` in a sparse table, if it has one. -/
def Tbl.find {α : Type} (t : Tbl α) (k : Nat) : Option α := (t.find? (fun p => p.1 == k)).map Prod.snd

/-- The entry of number `k`, or the given default. -/
def Tbl.get {α : Type} (t : Tbl α) (k : Nat) (d : α) : α := (Tbl.find t k).getD d

/-- Whether number `k` has an entry. -/
def Tbl.has {α : Type} (t : Tbl α) (k : Nat) : Bool := (Tbl.find t k).isSome

/-- The table with number `k` set to `v`, keys still strictly rising. -/
def Tbl.put {α : Type} : Tbl α → Nat → α → Tbl α
  | [], k, v => [(k, v)]
  | (j, w) :: t, k, v => if k < j then (k, v) :: (j, w) :: t else if k = j then (k, v) :: t else (j, w) :: Tbl.put t k v

/-- The table without number `k`. -/
def Tbl.erase {α : Type} (t : Tbl α) (k : Nat) : Tbl α := t.filter fun p => p.1 != k

/-- The table with the entry of number `k`, if any, changed by `f`. -/
def Tbl.update {α : Type} (t : Tbl α) (k : Nat) (f : α → α) : Tbl α := t.map fun p => if p.1 = k then (p.1, f p.2) else p

/-- The lowest number below `n` that has no entry. -/
def Tbl.lowestFree {α : Type} (t : Tbl α) (n : Nat) : Option Nat := (List.range n).find? fun k => !Tbl.has t k

/-- A lane's number: 0 A, 1 B, 2 C (Table 3.5, MBX_LANE). -/
def Lane.num : Lane → Nat
  | .a => 0
  | .b => 1
  | .c => 2

/-- The lane of a number; numbers above 1 give C. -/
def Lane.at : Nat → Lane
  | 0 => .a
  | 1 => .b
  | _ => .c

/-- The three lanes in order. -/
def Lane.all : List Lane := [.a, .b, .c]

/-- The value of one lane. -/
def PerLane.get {α : Type} (p : PerLane α) : Lane → α
  | .a => p.a
  | .b => p.b
  | .c => p.c

/-- The values with one lane's replaced. -/
def PerLane.set {α : Type} (p : PerLane α) (l : Lane) (v : α) : PerLane α :=
  match l with
  | .a => { p with a := v }
  | .b => { p with b := v }
  | .c => { p with c := v }

/-- The values with one lane's changed by `f`. -/
def PerLane.modify {α : Type} (p : PerLane α) (l : Lane) (f : α → α) : PerLane α := p.set l (f (p.get l))

/-- A function applied to every lane's value. -/
def PerLane.map {α β : Type} (f : Lane → α → β) (p : PerLane α) : PerLane β := ⟨f .a p.a, f .b p.b, f .c p.c⟩

/-- The mask of lanes that satisfy a test: bit 0 A, bit 1 B, bit 2 C. -/
def laneMask (f : Lane → Bool) : Nat := (if f .a then 1 else 0) + (if f .b then 2 else 0) + (if f .c then 4 else 0)

/-- A truth value as 0 or 1. -/
def bit (b : Bool) : Nat := if b then 1 else 0

/-- Bit `n` of a number. -/
def hasBit (v n : Nat) : Bool := v.testBit n

/-- Distribute an optional effect: `f` applied when a condition holds. -/
def onlyIf {σ : Type} (c : Bool) (f : σ → σ) (s : σ) : σ := if c then f s else s

end Sys2Proof
end

