-- ==== Sys2Proof/Config.lean ====
section
/-! DEFINITION. What an implementation fixes or the manual leaves to other standards and to chance. Every constant here is
opaque: no proof can see its value, so a statement holds whatever it is (log entries 1 to 6). -/

namespace Sys2Proof.Config

/-- A draw of the module's random bit generator (R39): the n-th free value of a run. Log entry 1. -/
opaque entropy : Nat → Nat

/-- SHA-384 of a byte string (R35, R40): 48 bytes by its standard. Log entry 2. -/
opaque sha384 : Bytes → Bytes

/-- ECDSA P-384 with SHA-384 (FIPS 186-5, R36): public key, message, signature. Log entry 2. -/
opaque ecdsaVerify : Bytes → Bytes → Bytes → Bool

/-- ML-DSA-65 pure form with the context "KXE-SO1" (FIPS 204, R36): public key, message, signature. Log entry 2. -/
opaque mldsaVerify : Bytes → Bytes → Bytes → Bool

/-- An ECDSA signature of the module's identity key over a message (R41, R51): key handle, message. Log entry 2. -/
opaque ecdsaSign : Nat → Bytes → Bytes

/-- An ML-DSA-65 signature of the module's identity key (R41, R51). Log entry 2. -/
opaque mldsaSign : Nat → Bytes → Bytes

/-- The ECDSA public key (97 bytes) of a key pair drawn as the given free value (R39). Log entry 2. -/
opaque ecdsaPublic : Nat → Bytes

/-- The ML-DSA-65 public key (1952 bytes) of a key pair drawn as the given free value (R39). Log entry 2. -/
opaque mldsaPublic : Nat → Bytes

/-- AES-256-GCM opening of a sealed field (R49): key handle, nonce, ciphertext, tag; none when the tag fails. Log entry 2. -/
opaque gcmOpen : Nat → Bytes → Bytes → Bytes → Option Bytes

/-- The TLS exporter of a session (RFC 8446, R49, R51): the session's secret as the given free value, and the label. Log entry 2. -/
opaque tlsExporter : Nat → Bytes → Bytes

/-- HMAC-SHA-384 under the module's own key for diversity seeds, which the key store of the module with this identity holds, over an image
body digest, a lane, a Cutter version and a counter (R182). -/
opaque diversityHmac : Nat → Bytes → Nat → Nat → Nat → Bytes

/-- The sealed-field key derived with the traffic keys of a hardware session's context (R49). Log entry 2. -/
opaque contextSealKey : Bytes → Bytes

/-- AES-256-GCM tag over clear data (R399): key handle, nonce, data. Log entry 2. -/
opaque gcmTag : Nat → Bytes → Bytes → Bytes

/-- Argon2id of R45: salt, password; a 32-byte tag. Log entry 2. -/
opaque argon2id : Bytes → Bytes → Bytes

/-- Whether a password is UTF-8 in normal form C (R45). Log entry 2. -/
opaque isNfc : Bytes → Bool

/-- The bytes of the manufacturer certificate over the two public keys (R40). Log entry 2. -/
opaque manufacturerCertificate : Bytes → Bytes

/-- The Clopel firmware keys' trust: whether a pair of key identifiers names Clopel keys trusted for an object type. Log entry 3. -/
opaque clopelTrusts : Nat → Bytes → Bytes → Bool

/-- The Clopel public keys named by a key identifier (Table 2.4): ECDSA then ML-DSA. Log entry 3. -/
opaque clopelKeys : Bytes → Bytes → Bytes × Bytes

/-- The public keys and purpose that a key certificate or anchor body names: purpose, ECDSA key, ML-DSA key,
valid from, valid until (R37 text; the body's layout is not in the manual). Log entry 3. -/
opaque certificateBody : Bytes → Nat × Bytes × Bytes × Nat × Nat

/-- The SDTv2 safe code verdict of IEC 61375-2-3 (R401): SMI, UDV, consist UUID and SafeTopoCount, data. Log entry 4. -/
opaque sdtSafeCode : Nat → Nat → Bytes → Nat → Bytes → Bool

/-- The SDTv2 trailer that the offload computes (R401): SMI, UDV, safe sequence counter, data. Log entry 4. -/
opaque sdtTrailer : Nat → Nat → Nat → Bytes → Bytes

/-- SipHash-2-4 over MAC and VLAN under the boot's key (R377): key draw, bytes. Log entry 2. -/
opaque sipHash : Nat → Bytes → Nat

/-- The hardware revision and the versions of Slate, Reel, lane runtime and Cutter of this module. Log entry 5. -/
opaque hardwareRevision : Nat

/-- Component versions of the firmware set delivered in a slot: slot (0 A, 1 B), component (0 to 4). Log entry 5. -/
opaque deliveredVersion : Nat → Nat → Nat

/-- The number of bytes of the SDTv2 trailer of IEC 61375-2-3 (Table 11.4 names it without its size). Log entry 4. -/
opaque sdtTrailerLength : Nat

/-- The TRDP header of IEC 61375-2-3 that an AUTH trailer covers (R399): sequence counter, message type (0 Pd, 1 Pp), ComId, etbTopoCnt,
opTrnTopoCnt and dataset length. Log entry 27. -/
opaque trdpHeader : Nat → Nat → Nat → Nat → Nat → Nat → Bytes

/-- The 4-byte salt derived with the key of a TRDP context (R399). Log entry 27. -/
opaque trdpSalt : Bytes → Bytes

/-- The safe sequence counter that a received SDTv2 trailer carries, and the age in µs that its latency check finds (R401).
Log entry 4. -/
opaque sdtCounter : Bytes → Nat
opaque sdtLatency : Bytes → Nat

/-- Whether the SDTv2 channel monitoring of IEC 61375-2-3 trips: failures counted and N_cm (R401). Log entry 4. -/
opaque sdtTrips : Nat → Nat → Bool

/-- Whether an MVB device status word shows DNR or SER (R420, R423): the bits are those of IEC 61375-3-1. Log entry 29. -/
opaque mvbTrouble : Nat → Bool

/-- Body digest of a component of the firmware set delivered in a slot: slot (0 A, 1 B), component (0 to 4). Log entry 5. -/
opaque deliveredDigest : Nat → Nat → Bytes

/-- Whether a settings schema, named by its component's body digest, reads the settings of another (Table 16.2). Log entry 75. -/
opaque schemaReads : Bytes → Bytes → Bool

/-- The settings groups that a schema resets when it takes over the settings of another, as a mask (R503). Log entry 75. -/
opaque schemaResets : Bytes → Bytes → Nat

/-- The schema versions of the settings groups that a schema defines (R502). Log entry 75. -/
opaque schemaGroups : Bytes → List Nat

/-- The margins of PAIR_BUDGET (Table 7.15) for an image without a supervised cyclic task, which the manual does not give: image digest
as a number, margin (0 supervision, 1 hold). Log entry 81. -/
opaque unstatedMargin : Nat → Nat → Int

/-- The kind code by which SESSION_LIST tells a TLS session (false) from a hardware session (true): R66 gives its width only. Log entry 45. -/
opaque sessionKind : Bool → BitVec 8

/-- Addresses within the safety region that a Lock-out's detail names (Table 8.10, 0x0016): 0 of the Lock-out flag, 1 of what a check of
the store metadata finds bad. The manual lays the region out without addresses. Log entry 86. -/
opaque safetyAddress : Nat → Nat

/-- A traffic key of the Slipstream link (R234, R241): what Slate derives from the secret of the handshake, for the key's number. -/
opaque slipKey : Nat → Nat → Bytes

/-- AES-256-GCM over a fragment (R241): key, nonce, header and payload, to the bytes of the ciphertext and of the tag. -/
opaque slipSeal : Bytes → Bytes → Bytes → Bytes → Bytes × Bytes

/-- Burnt-in MAC address of a Slipstream port of the module with an identifier (R239). -/
opaque slipMac : Bytes → Nat → Bytes

/-- The module's own IPv4 address on the consist network (R253, R408), which is not that of the publication identity. -/
opaque moduleAddress : Bytes → Nat

end Sys2Proof.Config
end

