-- ==== Sys2Proof/Machine/State.lean ====
section
/-! DEFINITION. The state of the module as plain data: every register, table, queue, counter, mode and pin the manual gives it,
the commands that wait, and what has left the module. Times are in half-nanoseconds (log entry 6). -/

namespace Sys2Proof.Machine

/-- Why a run stops with a fault. -/
inductive Fault where
  /-- A KPC control instruction found no construct it could close or leave. Raised by END, ELSE, BREAK and NEXT on a lane whose
  control stack does not hold what R176 requires; check 11 of the verification (R165) excludes it in every image that runs. Safe: the
  model stops where the manual gives no behaviour. -/
  | kpcStructure
  deriving DecidableEq, Repr

/-- Why a command is refused. -/
inductive Refusal where
  /-- The command has no meaning in the model yet. Safe. -/
  | notModelled (mnemonic : String)
  /-- A KPC instruction with operand types, an access or a callee that checks 10, 12 or 13 of the verification (R165) refuse: no image
  that runs holds it, and the manual gives it no behaviour. Raised by the KPC instructions. Safe. -/
  | kpcIllTyped
  deriving DecidableEq, Repr

/-- What leaves the module at its interfaces, in the order in which it leaves (the model's own record, log entry 7). -/
inductive Output where
  /-- a completion or notice sent on an external session (R87) -/
  | completion (session : Nat) (bytes : Bytes)
  /-- an external session closed by the module (R52, R85) -/
  | sessionClosed (session : Nat)
  /-- the ML-DSA binding signature sent as the first record of a session (R51) -/
  | binding (session : Nat) (signature : Bytes)
  /-- a frame on a fabric port, protected under an IEEE 802.1AE context or in clear (R405) -/
  | frame (port : Nat) (protection : Option Nat) (bytes : Bytes)
  /-- a TRDP process-data telegram of a publication: slot, message type (0 Pd, 1 Pp), destination, sequence counter, etbTopoCnt,
  opTrnTopoCnt, user data with trailers; sent through a FRER sequence generation function, the R-TAG's sequence number and the ports onto
  which the function splits it (R386) -/
  | telegram (slot kind destination sequence etbTopo opTrnTopo : Nat) (data : Bytes) (rtag : Option (Nat × Nat))
  /-- a completion or notice on a hardware session: one TRDP message-data reply without confirmation (Mp) with its reply ComId (R86) -/
  | reply (session comId : Nat) (bytes : Bytes)
  /-- a TTDP or topology frame on an ETB line -/
  | ttdp (line : Nat) (fast : Bool)
  /-- a gratuitous ARP of the publication identity (R261) -/
  | arp (port : Nat)
  /-- a heartbeat telegram (R408, R409): own address, ComId, multicast group and data -/
  | heartbeat (source comId group : Nat) (bytes : Bytes)
  /-- the Active's pair telegram at the release of a supervised take (R253): own address, ComId, task and take -/
  | pairTelegram (source comId task take : Nat)
  /-- an MVB frame sent on a bus: F_code, address, data -/
  | mvb (bus fcode address : Nat) (data : Bytes)
  /-- a PTP message on a port (R438) -/
  | ptp (port : Nat) (kind : PtpKind)
  /-- a Slipstream message handed to the engine: kind code of Table 7.3 and body -/
  | slipstream (kind : Nat) (body : Bytes)
  /-- a fragment that starts on a Slipstream port: its Ethernet frame without the check sequence (R239, R240) -/
  | fragment (port : Nat) (frame : Bytes)
  /-- a dark pulse of a test-pulse source (R278) -/
  | darkPulse (source : Nat)
  deriving DecidableEq, Repr

/-- The module state axis (Table 17.1), in the order of its codes. -/
inductive ModuleState where
  | stowed | booting | proving | service | maintenance | lockout | halted
  deriving DecidableEq, Repr, Inhabited

/-- The module's own condition: its main axis, supply, straps, boot record and Reel (chapters 1, 2, 17 and 18). -/
structure ModuleSt where
  /-- module state axis (R508) -/
  state : ModuleState := .stowed
  /-- RST_N holds the module in reset (R530) -/
  resetHeld : Bool := false
  /-- backplane supply present: at or above 16.8 V (R32, R537) -/
  supplied : Bool := false
  /-- instant at which the supply fell below 16.8 V, while that interruption lasts (R514) -/
  supplyLostAt : Option Nat := none
  /-- the supply as last measured, mV -/
  supplyMv : Nat := 0
  /-- instant of the last power-good or release of reset (R32) -/
  bootAt : Nat := 0
  /-- instant of entry into the present module state -/
  enteredAt : Nat := 0
  /-- boots since manufacture (Table 3.11); non-volatile -/
  bootCount : Nat := 0
  /-- active firmware slot, 0 A or 1 B (R33); non-volatile -/
  firmwareSlot : Nat := 0
  /-- component versions of the set in each slot where an update wrote it: key 16 × slot + component; non-volatile -/
  versions : Tbl Nat := []
  /-- cause shown in Halted (Table 18.12); 0 none -/
  haltedCode : Nat := 0
  /-- side read from the straps, 0 none (R531) -/
  side : Nat := 0
  /-- setting "start state": Maintenance instead of Service (R510); non-volatile -/
  startMaintenance : Bool := false
  /-- MODULE_RESTART with start state 4 overrides it for the next boot (R510); non-volatile -/
  maintenanceNext : Bool := false
  /-- the application image failed verification at boot (R34) -/
  imageFailed : Bool := false
  /-- Proving runs as the end of a Lock-out reset (R312) -/
  provingAfterReset : Bool := false
  /-- a MODULE_RESTART has committed: reset follows within 100 ms (R101) -/
  restartDue : Option Nat := none
  /-- cause of a reset that the next BOOT record names (R520); non-volatile -/
  resetCause : Nat := 0
  /-- Reel is being restarted since this instant (R31) -/
  reelDownSince : Option Nat := none
  /-- restarts of Reel since boot -/
  reelRestarts : Nat := 0
  /-- hold-up store: capacitance last measured, nF, and reported charged (R539) -/
  holdUpNf : Nat := 0
  holdUpCharged : Bool := false
  /-- TEST_EN strapped, as taken (R549) -/
  testEn : Bool := false
  /-- this boot found a tamper or power-loss latch set: Service waits for the next one (R63) -/
  bootLatch : Bool := false
  /-- instant of the power-good whose lamp test runs in Booting (R558) -/
  lampTest : Option Nat := none
  deriving DecidableEq, Repr, Inhabited

/-- Time states (Table 13.2). -/
inductive TimeState where
  | unset | locked | holdover
  deriving DecidableEq, Repr, Inhabited

/-- One PTP port's record (Table 13.9, TIME_PORT_STATUS). -/
structure PtpPort where
  /-- port state as IEEE 1588-2019 numbers it: 4 LISTENING, 6 MASTER, 7 PASSIVE, 9 SLAVE -/
  portState : Nat := 0
  asCapable : Bool := false
  peerDelay : Nat := 0
  syncReceived : Nat := 0
  followUpReceived : Nat := 0
  pdelayReceived : Nat := 0
  announceReceived : Nat := 0
  syncSent : Nat := 0
  followUpSent : Nat := 0
  pdelaySent : Nat := 0
  announceSent : Nat := 0
  timestampFaults : Nat := 0
  announceTimeouts : Nat := 0
  deriving DecidableEq, Repr, Inhabited

/-- One PTP instance (R437). -/
structure PtpInstance where
  /-- grandmaster identity, when the instance has one other than the module itself -/
  grandmaster : Option Nat := none
  stepsRemoved : Nat := 0
  arb : Bool := false
  deriving DecidableEq, Repr, Inhabited

/-- The local clock, its servo and the PTP instances (chapter 13). -/
structure ClockSt where
  /-- local clock in units of 2⁻³² ns since 1970 TAI, at instant `asOf` (R435, R436) -/
  value : Nat := 0
  asOf : Nat := 0
  /-- activation timer: runs with the local clock's rate, and no step moves it (R191), at `asOf` -/
  timer : Nat := 0
  /-- addend, 40 bits (R436) -/
  addend : Nat := 0x0400000000
  state : TimeState := .unset
  /-- whether a first measurement has stepped the Unset clock (R441) -/
  steppedUnset : Bool := false
  /-- Sync messages in a row within the lock threshold (R440) -/
  goodSyncs : Nat := 0
  /-- source instance at the last Sync -/
  offset : Int := 0
  meanPathDelay : Nat := 0
  /-- the servo's rate estimates of the last 60 s in Locked: instant and addend (R443) -/
  rates : List (Nat × Nat) := []
  /-- entry to Holdover: TAI s and offset at entry -/
  holdoverSince : Nat := 0
  holdoverOffset : Nat := 0
  /-- step count, step sum in ns, time of the last step in 2⁻³² ns (R441) -/
  stepCount : Nat := 0
  stepSum : Int := 0
  lastStep : Nat := 0
  etb : PtpInstance := {}
  ecn : PtpInstance := {}
  ports : Tbl PtpPort := []
  /-- settings (Table 13.9): source 0 none, 1 ETB, 2 ECN, 3 ETB then ECN; non-volatile -/
  source : Nat := 3
  etbDomain : Nat := 0
  etbPriority1 : Nat := 128
  etbPriority2 : Nat := 128
  ecnPriority1 : Nat := 246
  logSync : Int := -3
  lockThreshold : Nat := 1000
  stepThreshold : Nat := 1000000
  /-- instant of the last hourly write of the Lull clock while Locked (R444) -/
  lullWritten : Nat := 0
  deriving DecidableEq, Repr, Inhabited

/-- A token bucket (R476, R381): what has been drawn from it, in units of half a nanosecond's filling, as of an instant. A bucket
with deficit 0 is full. -/
structure Bucket where
  deficit : Nat := 0
  asOf : Nat := 0
  deriving DecidableEq, Repr, Inhabited

/-- A count of records suppressed, by class and source (R476). -/
structure Suppression where
  cls : Nat
  source : Nat
  count : Nat
  deriving DecidableEq, Repr, Inhabited

/-- One ring of the event recorder (chapter 15). All but the buckets and the suppression window is non-volatile. -/
structure RingSt where
  /-- slots of the store that hold something: slot, 128 bytes -/
  slots : Tbl Bytes := []
  bad : List Nat := []
  /-- last sequence given, reserved limit and floor (R474, R478, R484) -/
  last : Nat := 0
  limit : Nat := 0
  floor : Nat := 0
  /-- slot for the next record, sequence of the newest written record -/
  nextSlot : Nat := 0
  newestWritten : Nat := 0
  /-- store metadata: slot and sequence of a recent record, records written since (R478) -/
  metaSlot : Nat := 0
  metaSequence : Nat := 0
  sinceMeta : Nat := 0
  /-- slots of removed records still to be overwritten with zeros (R484) -/
  eraseLeft : List Nat := []
  /-- counters (Table 15.5) -/
  accepted : Nat := 0
  written : Nat := 0
  suppressed : Nat := 0
  overflowed : Nat := 0
  failures : Nat := 0
  /-- overflow count of the present freeze (R481) -/
  overflowedFreeze : Nat := 0
  /-- suppressed since the last SUPPRESSED record, further pairs, and the instant of the last suppression (R476) -/
  pendingSuppressed : List Suppression := []
  pendingFurther : Nat := 0
  lastSuppressed : Nat := 0
  /-- suppressions by class and source since boot (RECORDER_COUNTERS) -/
  suppressions : List Suppression := []
  further : Nat := 0
  /-- first sequence of this boot (R478) -/
  firstOfBoot : Nat := 0
  deriving DecidableEq, Repr, Inhabited

/-- A freeze in force or being made (R480). -/
structure FreezeSt where
  /-- the freeze records' sequences: the freeze commits when both are written -/
  general : Nat
  juridical : Nat
  /-- committed: writing has stopped at this instant -/
  since : Option Nat
  issuer : Nat
  /-- acceptance-queue entry of the command that waits for the commit -/
  entry : Nat
  deriving DecidableEq, Repr, Inhabited

/-- A freeze that has ended: its buffer drains, then the release records are made and written (R481). -/
structure ReleaseSt where
  /-- 1 RECORDER_RELEASE, 2 60 s passed, 3 supply failure -/
  cause : Nat
  /-- last sequence of each ring's buffered records at the end -/
  general : Nat
  juridical : Nat
  drained : Nat
  /-- acceptance-queue entry of RECORDER_RELEASE -/
  entry : Option Nat
  /-- the release records' sequences and the overflow counts that they carry, once made -/
  made : Option (Nat × Nat × Nat × Nat)
  deriving DecidableEq, Repr, Inhabited

/-- A clear ticket (R483). -/
structure ClearTicket where
  number : Nat
  ring : Ring
  newest : Nat
  issuer : Nat
  roles : Nat
  name : Bytes
  expires : Nat
  deriving DecidableEq, Repr, Inhabited

/-- The event recorder (chapter 15). -/
structure RecorderSt where
  general : RingSt := {}
  juridical : RingSt := {}
  /-- the recorder buffer: accepted records not yet written, oldest first -/
  buffer : List (Ring × Bytes) := []
  bucketGeneral : Bucket := {}
  bucketReel : Bucket := {}
  bucketJuridical : Bucket := {}
  freeze : Option FreezeSt := none
  /-- an ended freeze whose release records are not yet written -/
  releasing : Option ReleaseSt := none
  ticket : Option ClearTicket := none
  /-- a clear committed: ring, sequence of its CLEAR record, first and last removed, and the command that waits for its writing -/
  clearing : Option (Ring × Nat × Nat × Nat × Nat) := none
  /-- the recorder has stopped at 16 ms of a supply failure (R479) -/
  stopped : Bool := false
  /-- records lost at the last reset and since manufacture (R479); non-volatile -/
  lostLast : Nat := 0
  lostTotal : Nat := 0
  deriving DecidableEq, Repr, Inhabited

/-- A credential (R45) with the login failures of R47; non-volatile. -/
structure Credential where
  name : Bytes
  roles : Nat
  salt : Bytes
  tag : Bytes
  failures : Nat := 0
  /-- instant at which its lock expires -/
  lockedUntil : Nat := 0
  deriving DecidableEq, Repr, Inhabited

/-- Kinds of external session (R41, R50). -/
inductive SessionKind where
  | enrolment | preLogin | login | peer
  deriving DecidableEq, Repr, Inhabited

/-- An external session (R50 to R53). -/
structure Session where
  kind : SessionKind
  port : Nat
  /-- source address, for the login rate of R47 -/
  source : Nat
  /-- credential after login; for a peer, the context of its role mapping -/
  credential : Option Nat
  roles : Nat
  /-- security-association context of a hardware session -/
  context : Option Nat
  openedAt : Nat
  loginAt : Nat
  loginTai : Nat
  lastCommand : Nat
  /-- draw of the secret that its handshake agreed, from which the exporter values derive (R49, R51) -/
  secret : Nat
  deriving DecidableEq, Repr, Inhabited

/-- States of a security-association context that is not Free (Table 2.6). -/
inductive SaState where
  | keyed | live | draining
  deriving DecidableEq, Repr, Inhabited

/-- A security-association context (R54); a context without an entry is Free. -/
structure SaContext where
  state : SaState
  /-- 1 IEEE 802.1AE, 2 TRDP, 3 peer role map, 4 traffic keys of a hardware session -/
  purpose : Nat
  binding : Nat
  /-- handle of the key in its slot (a draw, or the field it was unsealed from) -/
  key : Bytes
  peer : Bytes
  roles : Nat
  since : Nat
  messages : Nat
  /-- end of the drain time -/
  drainEnd : Nat
  deriving DecidableEq, Repr, Inhabited

/-- A trusted key certificate (type 0x0031) or the operator anchor (type 0x0030), as installed. -/
structure TrustedKey where
  /-- 0 anchor, 1 application, 2 settings, 3 safety, 4 TLS client or server identity, 5 peer module -/
  purpose : Nat
  ecId : Bytes
  pqId : Bytes
  ecKey : Bytes
  pqKey : Bytes
  version : Nat
  validFrom : Nat
  validUntil : Nat
  deriving DecidableEq, Repr, Inhabited

/-- The Lull domain (R60 to R64). It runs on through a reset. DESIGN CHOICE: until the first measurement LULL_STATUS reports the cell's
nominal 3000 mV (log entry 129). -/
structure LullSt where
  /-- clock: TAI seconds at instant `asOf`, and the draw that its drift since then depends on -/
  seconds : Nat := 0
  asOf : Nat := 0
  drift : Nat := 0
  /-- case-open switch as last sampled, tamper latch with the clock's value at the sample (R61) -/
  caseOpen : Bool := false
  tamper : Bool := false
  tamperTime : Nat := 0
  powerLoss : Bool := false
  cellMv : Nat := 3000
  cellLow : Bool := false
  /-- diagnostic flags: the set tamper latch, and the set power-loss latch, has been found and recorded (R62) -/
  reported : Bool := false
  reportedLoss : Bool := false
  deriving DecidableEq, Repr, Inhabited

/-- Trust: identity, anchor, credentials, sessions, keys and the Lull domain (chapter 2). -/
structure TrustSt where
  /-- draw of the identity key pairs, made at first power (R39); non-volatile -/
  identity : Option Nat := none
  anchor : Option TrustedKey := none
  certificates : List TrustedKey := []
  ownerLock : Bool := false
  /-- anti-rollback floors by object type and signer (R38); non-volatile -/
  floors : List ((Nat × Bytes) × Nat) := []
  credentials : Tbl Credential := []
  sessions : Tbl Session := []
  contexts : Tbl SaContext := []
  /-- login attempts of the last 60 s: source and instant (R47) -/
  attempts : List (Nat × Nat) := []
  /-- TLS port (default 50 160) and idle limit in s (default 15 min), settings (R50, R52) -/
  tlsPort : Nat := 50160
  idleLimit : Nat := 900
  /-- connectivity association keys by port (R57) -/
  cak : Tbl Bytes := []
  lull : LullSt := {}
  deriving DecidableEq, Repr, Inhabited

/-- A final completion kept for re-issue (R97). A result above 1 KiB is not kept. -/
structure Stored where
  token : Nat
  code : Nat
  status : Nat
  epoch : Nat
  result : Bytes
  kept : Bool
  deriving DecidableEq, Repr, Inhabited

/-- The token table of one issuer identity (R97). -/
structure TokenTable where
  newest : Option Nat := none
  /-- discard list, oldest first, at most 32 -/
  discards : List Nat := []
  /-- the last 32 final completions, oldest first -/
  stored : List Stored := []
  deriving DecidableEq, Repr, Inhabited

/-- Where an accepted command stands. -/
inductive EntryPhase where
  /-- waits for a resource -/
  | waits (r : Resource)
  /-- holds a resource until it is granted to the next (RESOURCE_GRANT) or its own event ends -/
  | holds (r : Resource)
  /-- committed or under way; its completion waits for an event of its block -/
  | under
  deriving DecidableEq, Repr, Inhabited

/-- An accepted command in the acceptance queue (R88 to R91). -/
structure Entry where
  id : Nat
  code : Nat
  issuer : Nat
  token : Nat
  epoch : Nat
  payload : Bytes
  /-- acceptance stamp in GF clock periods (R89) -/
  stamp : Nat
  /-- session whose credit it holds -/
  origin : Option Nat
  /-- open sessions that issued or re-issued the token -/
  sessions : List Nat
  channel : Option Nat
  roles : Nat
  /-- stands in the Safety fast lane (R91) -/
  fast : Bool
  phase : EntryPhase
  committed : Bool
  /-- source address of the session it came on, and the key of that session's sealed fields, as Slate took them with the request (R30,
  R48, R49) -/
  source : Nat := 0
  sealKey : Bytes := []
  deriving DecidableEq, Repr, Inhabited

/-- Where a completion slot stands (R75, R80). -/
inductive SlotPhase where
  | free | queued
  /-- popped in the take given -/
  | popped (task take : Nat)
  deriving DecidableEq, Repr, Inhabited

/-- A completion slot of a lane channel (Table 3.5). -/
structure Slot where
  phase : SlotPhase := .free
  token : Nat := 0
  bytes : Bytes := []
  deriving DecidableEq, Repr, Inhabited

/-- One lane's registers and buffers of one mailbox channel (Table 3.5). -/
structure LaneChannel where
  /-- request buffer, 1 KiB; bytes not listed read 0 -/
  request : Bytes := []
  /-- doorbell LENGTH of a copy not yet taken over: REQ_BUSY -/
  doorbell : Option Nat := none
  /-- tokens of the commands for which the lane has taken a credit: CREDIT is 4 less their number -/
  credits : List Nat := []
  hdrErr : Bool := false
  overrun : Bool := false
  noCredit : Bool := false
  /-- slots of completions not yet popped, oldest first: READY is its length -/
  ready : List Nat := []
  slot0 : Slot := {}
  slot1 : Slot := {}
  slot2 : Slot := {}
  slot3 : Slot := {}
  deriving DecidableEq, Repr, Inhabited

/-- A shadow entry (R82): a popped completion. -/
structure ShadowEntry where
  channel : Nat
  token : Nat
  bytes : Bytes
  /-- take that popped it, and the last take that fetched it -/
  popped : Nat × Nat
  fetched : Option (Nat × Nat)
  /-- voted takes of the owning task since an epoch change left it unvoted -/
  unvoted : Option Nat
  deriving DecidableEq, Repr, Inhabited

/-- One lane's mailbox window (R74). -/
structure LaneMbx where
  channels : Tbl LaneChannel := []
  shadowCh : Nat := 0
  shadowToken : Nat := 0
  shadowBuffer : Bytes := []
  shadow : List ShadowEntry := []
  deriving DecidableEq, Repr, Inhabited

/-- A lane's copy of a command, held for pairing (R77). -/
structure HeldCopy where
  lane : Lane
  channel : Nat
  token : Nat
  envelope : Bytes
  takenAt : Nat
  task : Nat
  take : Nat
  deriving DecidableEq, Repr, Inhabited

/-- An envelope the majority has issued, waiting for a copy to be taken over after the vote (R77). -/
structure VotedIssue where
  channel : Nat
  token : Nat
  envelope : Bytes
  lanes : Nat
  deriving DecidableEq, Repr, Inhabited

/-- A completion or notice for a voted channel, waiting for its owner's freeze (R79). -/
structure ChannelCompletion where
  channel : Nat
  token : Nat
  bytes : Bytes
  /-- not before this instant (R524) -/
  notBefore : Nat
  deriving DecidableEq, Repr, Inhabited

/-- A completion that the Squall mailbox response delay holds (R524). -/
structure DelayedCompletion where
  session : Nat
  bytes : Bytes
  due : Nat
  /-- its command holds a credit of the session until it is sent -/
  credit : Bool
  deriving DecidableEq, Repr, Inhabited

/-- The mailboxes and the command interface (chapter 3). -/
structure MbxSt where
  /-- current epoch, and the value last stored in the safety region (R93) -/
  epoch : Nat := 0
  storedEpoch : Nat := 0
  /-- acceptance queue, oldest first -/
  queue : List Entry := []
  nextId : Nat := 0
  tables : Tbl TokenTable := []
  lanes : PerLane LaneMbx := ⟨{}, {}, {}⟩
  held : List HeldCopy := []
  voted : List VotedIssue := []
  /-- the latest commands accepted from the lanes, for the copies that come later (R78) -/
  paired : List VotedIssue := []
  completions : List ChannelCompletion := []
  /-- completions held by the Squall mailbox response delay, oldest first (R524) -/
  delayed : List DelayedCompletion := []
  /-- sessions that end once the completion of their own command has been sent: session, issuer, token (R53) -/
  closing : List (Nat × Nat × Nat) := []
  /-- whether the last grant of a resource, while both queues waited, went to the fast lane (R91) -/
  fastLast : List Resource := []
  /-- issuer kinds for which a class is disabled: bit 0 lanes, bit 1 sessions and peers (R102) -/
  disabled : Tbl Nat := []
  /-- ComIds of hardware-session commands and replies, settings (R86) -/
  commandComId : Nat := 41600
  replyComId : Nat := 41601
  /-- counters (Table 3.11) -/
  accepted : Nat := 0
  replays : Nat := 0
  attachments : Nat := 0
  discarded : Nat := 0
  cancelled : Nat := 0
  staleEpoch : Nat := 0
  busyRetry : Nat := 0
  headerErrors : Nat := 0
  windowMismatches : Nat := 0
  voteAcceptances : Nat := 0
  maxDepth : Nat := 0
  maxWait : Nat := 0
  reissues : Nat := 0
  deriving DecidableEq, Repr, Inhabited

/-- One background test of Table 17.8. -/
structure SelfTest where
  slices : Nat := 0
  rounds : Nat := 0
  failures : Nat := 0
  lastRound : Nat := 0
  lastEnd : Nat := 0
  starved : Bool := false
  deriving DecidableEq, Repr, Inhabited

/-- Test mode, the Squall registers and the self-tests (chapter 17). -/
structure TestSt where
  squall : Bool := false
  /-- entering session, credential and time -/
  session : Nat := 0
  credential : Bytes := []
  entry : Nat := 0
  ends : Nat := 0
  /-- Squall registers 0x4_0008 to 0x4_0020 (Table 17.10) -/
  mbxDelay : Word32 := 0
  bpPorts : Word32 := 0
  backpressure : Word32 := 0
  jitter : Word32 := 3
  slipLatency : Word32 := 0
  corrupt : Word32 := 0
  seed : Word32 := 0
  /-- present value of the jitter sequence (R524) -/
  x : Word32 := 0
  applied : Nat := 0
  held : Nat := 0
  /-- background tests by bit of Table 17.8; TESTS of the health value is clear once one has failed (R520) -/
  tests : Tbl SelfTest := []
  anyFailed : Bool := false
  /-- requested rounds: test, and the queue entry that asked, unless it has completed with DEFERRED -/
  requested : List (Nat × Option Nat) := []
  /-- rounds already run and failures for a running SELF_TEST_RUN: entry, rounds mask, failures -/
  running : List (Nat × Nat × Nat) := []
  /-- next background test -/
  next : Nat := 0
  /-- a filter engine failure holds every channel until a round passes (Table 17.9) -/
  filterFailed : Bool := false
  deriving DecidableEq, Repr, Inhabited

/-! ### Application images (chapter 5) -/

/-- A type record (Table 5.5). -/
inductive TypeRecord where
  | array (element count size : Nat)
  | struct (members : List Nat) (size : Nat)
  | string (capacity size : Nat)
  | wstring (capacity size : Nat)
  deriving DecidableEq, Repr, Inhabited

/-- A symbol record (Table 5.4). -/
structure Symbol where
  identity : Nat
  type : Nat
  attributes : Nat
  owner : Nat
  substitute : Nat
  size : Nat
  leaves : Nat
  initial : Nat
  nameAt : Nat
  nameLength : Nat
  deflt : Nat
  deriving DecidableEq, Repr, Inhabited

/-- A function record (R166). -/
structure FunctionRec where
  params : Nat
  results : Nat
  /-- machine-type code of each local -/
  locals : List Nat
  code : List Word64
  /-- offset of the record in the container, for the reports of R165 -/
  offset : Nat
  deriving DecidableEq, Repr, Inhabited

/-- A task binding record (Table 5.6). -/
structure TaskRec where
  task : Nat
  event : Bool
  priority : Nat
  safety : Bool
  /-- µs -/
  cycle : Nat
  offset : Nat
  deadline : Nat
  entry : Nat
  stack : Nat
  channels : Nat
  interarrival : Nat
  inputFirst : Nat
  inputCount : Nat
  outputFirst : Nat
  outputCount : Nat
  deriving DecidableEq, Repr, Inhabited

/-- An input binding record (R161). -/
structure InputBinding where
  kind : Nat
  network : Bool
  source : Nat
  target : Nat
  sourceId : Nat
  deriving DecidableEq, Repr, Inhabited

/-- An output binding record (R163). -/
structure OutputBinding where
  kind : Nat
  network : Bool
  target : Nat
  source : Nat
  deriving DecidableEq, Repr, Inhabited

/-- A cue binding record (R164). -/
structure CueBinding where
  cue : Nat
  task : Nat
  triggers : Nat
  action : Nat
  target : Nat
  deriving DecidableEq, Repr, Inhabited

/-- A verified application image: its container (R151), parsed. -/
structure Image where
  identity : Bytes
  version : Nat
  flags : Nat
  symbols : List Symbol
  types : List TypeRecord
  functions : List FunctionRec
  tasks : List TaskRec
  inputs : List InputBinding
  outputs : List OutputBinding
  cues : List CueBinding
  values : Bytes
  names : Bytes
  debug : Bytes
  deriving DecidableEq, Repr, Inhabited

/-- An image slot (Table 6.11): what stands in flash. -/
structure ImageSlot where
  /-- 0 empty, 1 loaded, 2 translated, 3 failed -/
  state : Nat := 0
  image : Option Image := none
  /-- body digest, version and signer of the signed object -/
  digest : Bytes := []
  version : Nat := 0
  signer : Bytes := []
  /-- the signed object as it stands in flash (R148) -/
  object : Bytes := []
  /-- a load in progress: total length and bytes so far -/
  load : Option (Nat × Bytes) := none
  deriving DecidableEq, Repr, Inhabited

/-- A translation-cache entry (R187): one for each lane of an image under a Cutter version. -/
structure CacheEntry where
  digest : Bytes
  lane : Nat
  cutter : Nat
  revision : Nat
  /-- counter of R182, and the seed that it gives -/
  counter : Nat
  seed : Bytes
  translation : Translation
  used : Nat
  deriving DecidableEq, Repr, Inhabited

/-- Whom the Cutter serves (R186). -/
inductive CutFor where
  /-- a command of the queue -/
  | command (id : Nat)
  /-- the image of a partner (R252) -/
  | partner
  /-- a lane's reshoot, whose cache entry is missing (R132) -/
  | reshoot (lane : Nat)
  deriving DecidableEq, Repr, Inhabited

/-! ### Lanes and the voter (chapters 4 and 5) -/

/-- A control construct open in a frame (R176). -/
inductive Construct where
  | block
  /-- bound, entries made, word offset of the body -/
  | loop (bound entries body : Nat)
  /-- whether its condition was true -/
  | cond (taken : Bool)
  deriving DecidableEq, Repr, Inhabited

/-- An activation of a KPC function in a take (R166, R176). -/
structure Frame where
  function : Nat
  /-- word offset of the next instruction -/
  position : Nat
  locals : Tbl Word64
  /-- innermost first -/
  constructs : List Construct
  /-- first local of the caller that receives the results -/
  resultsTo : Nat
  deriving DecidableEq, Repr, Inhabited

/-- Validity of an input as copy-in found it (R199). -/
structure InputState where
  status : Nat
  age : Nat
  valid : Bool
  deriving DecidableEq, Repr, Inhabited

/-- Phases of a take in a lane (Table 4.4): its snapshot delivered, started with its copy-in made, its signature posted. -/
inductive TakePhase where
  | delivered | running | posted
  deriving DecidableEq, Repr, Inhabited

/-- A command that the runtime of a lane has issued and tracks (R84, R179): part of its task's retained state. -/
structure Tracked where
  channel : Nat
  token : Nat
  envelope : Bytes
  /-- status and result once complete -/
  done : Option (Nat × Bytes) := none
  /-- to be issued again: discarded, or resolved as lost (R84, R179) -/
  again : Bool := false
  deriving DecidableEq, Repr, Inhabited

/-- A task's retained state in a lane as it stood at a copy-in, to which an abandoned or unvoted take returns (R113, R216). -/
structure Saved where
  vars : Tbl Bytes := []
  held : Tbl Bytes := []
  nextToken : Tbl Nat := []
  tracked : List Tracked := []
  seenEpoch : Option Nat := none
  deriving DecidableEq, Repr, Inhabited

/-- A lane runtime's full time in a take (R447): the last extended time, in ns since 1970 TAI, and the step sum that goes with it. -/
structure FullTime where
  last : Int := 0
  lastSum : Int := 0
  deriving DecidableEq, Repr, Inhabited

/-- A take in a lane, from delivery to posting. -/
structure LaneTake where
  task : Nat
  take : Nat
  epoch : Nat
  /-- activation instant, deadline and start offset -/
  t0 : Nat
  deadline : Nat
  readyAt : Nat
  phase : TakePhase
  snapshot : Bytes
  forceArea : Bytes
  /-- cue area: cue, state code, firings (R338) -/
  cueArea : List (Nat × Nat × Nat) := []
  /-- innermost call first; empty once the entry function has returned -/
  frames : List Frame := []
  faultWord : Nat := 0
  faultAt : Option (Nat × Nat) := none
  /-- the task's retained state at copy-in, and its variables as copy-in left them -/
  saved : Saved := {}
  before : Tbl Bytes := []
  inputs : Tbl InputState := []
  commands : List (Nat × Bytes) := []
  cues : List (Nat × Bytes) := []
  records : List (Nat × Nat × Bytes) := []
  /-- the runtime's full time, from copy-in on -/
  fullTime : FullTime := {}
  deriving DecidableEq, Repr, Inhabited

/-- A record of a take's serialisation (Table 4.5). -/
structure SerialRecord where
  identity : Nat
  tag : Nat
  value : Bytes
  deriving DecidableEq, Repr, Inhabited

/-- A published version of a task's output image (R196, R197). -/
structure Version where
  task : Nat
  take : Nat
  /-- logical publication instant -/
  publishedAt : Nat
  values : Tbl Bytes
  deriving DecidableEq, Repr, Inhabited

/-- Lane states (Table 4.9), in the order of their codes. -/
inductive LaneState where
  | voting | isolated | restarting | ready | transferring | probation | retired | stopped
  deriving DecidableEq, Repr, Inhabited

/-- The health counters of Table 4.12; non-volatile. -/
structure LaneHealth where
  majority : Nat := 0
  dissents : Nat := 0
  missing : Nat := 0
  faultMemory : Nat := 0
  faultSnapshot : Nat := 0
  faultTrap : Nat := 0
  faultWatchdog : Nat := 0
  faultClock : Nat := 0
  corrected : Nat := 0
  isolations : Nat := 0
  reshootsStarted : Nat := 0
  reshootsCompleted : Nat := 0
  reshootsFailed : Nat := 0
  response : Tbl Nat := []
  twoLane : Nat := 0
  testsRun : Nat := 0
  testsFailed : Nat := 0
  deriving DecidableEq, Repr, Inhabited

/-- One task's progress in a reshoot (Table 4.10). -/
structure ReshootTask where
  /-- exports of the voting lanes -/
  exports : Tbl Bytes := []
  abandoned : Nat := 0
  imported : Bool := false
  passed : Bool := false
  /-- the event task was idle at the reshoot start, or its first take since then has been voted: exports may run -/
  exportable : Bool := false
  deriving DecidableEq, Repr, Inhabited

/-- One compute lane. -/
structure LaneSt where
  state : LaneState := .stopped
  /-- isolated by LANE_ISOLATE with the hold flag (R126) -/
  hold : Bool := false
  /-- instants of the isolations of the last 24 h (R128); non-volatile -/
  isolatedAt : List Nat := []
  /-- consecutive failed reshoots -/
  failedReshoots : Nat := 0
  /-- the present reshoot is the one attempt of a LANE_RESHOOT on a Retired lane -/
  oneAttempt : Bool := false
  reshootStart : Nat := 0
  reshoot : Tbl ReshootTask := []
  /-- the lane has had an uncorrectable memory error since the program stopped (R216) -/
  memoryError : Bool := false
  /-- the lane was out of the voting set when the program stopped: its memory serves no restart (R137) -/
  stale : Bool := false
  /-- canonical value of each variable of the running image, by symbol -/
  vars : Tbl Bytes := []
  /-- value each target received at the last take in which it was valid (R200), by symbol -/
  heldInputs : Tbl Bytes := []
  versions : List Version := []
  takes : List LaneTake := []
  /-- kept serialisations by task, at most 64 KiB each (R127) -/
  kept : Tbl (List SerialRecord) := []
  /-- next token by channel, and commands tracked (R179) -/
  nextToken : Tbl Nat := []
  tracked : List Tracked := []
  /-- epoch of each task's last take, for the resolution of R84 -/
  seenEpoch : Tbl Nat := []
  watchdogServed : Nat := 0
  health : LaneHealth := {}
  /-- activation block: ACT_READY, ACT_DEFER and THROUGH (Table 14.5), clock of each READY commit and of the last DEFER write -/
  actReady : Nat := 0
  actDefer : Bool := false
  actThrough : Bool := false
  actCommits : Tbl Nat := []
  actInterrupt : Bool := false
  /-- TIM_STEP_SUM_HI as latched (Table 13.5) -/
  stepSumHigh : Word32 := 0
  /-- value that the lane's last register read returned -/
  readData : Word32 := 0
  deriving DecidableEq, Repr, Inhabited

/-- A take that the voter awaits or has decided (R122 to R125). -/
structure VoteTake where
  task : Nat
  take : Nat
  epoch : Nat
  t0 : Nat
  deadline : Nat
  /-- lanes that execute it: voting and in probation, masks -/
  lanes : Nat
  probation : Nat
  a : Option Word64 := none
  b : Option Word64 := none
  c : Option Word64 := none
  /-- serialisations as posted, kept for the checks of R218 -/
  serialised : PerLane (List SerialRecord) := ⟨[], [], []⟩
  /-- released: mask of the majority -/
  released : Option Nat := none
  /-- a Standby has decided it without releasing; compared with the Active (R249) -/
  decided : Bool := false
  /-- executed for comparison only: a take that the Active forwarded (R245) -/
  compareOnly : Bool := false
  /-- lanes whose signature Squall has inverted a bit of, mask (R524) -/
  corrupted : Nat := 0
  deriving DecidableEq, Repr, Inhabited

/-- The voter and what it keeps (chapter 4). -/
structure VoterSt where
  lanes : PerLane LaneSt := ⟨{}, {}, {}⟩
  takes : List VoteTake := []
  /-- stagger setting in µs, and the one in force since the program start (R109, R110); non-volatile -/
  staggerSet : Nat := 40
  stagger : Nat := 40
  /-- two-lane operation since this instant; limit in h (R130) -/
  twoLaneSince : Option Nat := none
  twoLaneLimit : Nat := 72
  twoLaneExpired : Bool := false
  /-- signature trace: entries oldest first, and entries still to record once triggered (R144) -/
  trace : List Bytes := []
  traceLeft : Option Nat := none
  /-- voter test: TAI s and result of the last, whether one is queued, and the one that runs: the entry that waits for it, if one does, and
  the next pattern -/
  testTime : Nat := 0
  testResult : Nat := 0
  testQueued : Bool := false
  testRunning : Option (Option Nat × Nat) := none
  /-- comparisons of R127 to do: lane, task, and the serialisations of the lane and of the majority lane -/
  divergence : List (Nat × Nat × List SerialRecord × List SerialRecord) := []
  /-- the epoch has already been incremented for this instant's take boundary (R93) -/
  epochAt : Option Nat := none
  /-- commands that wait for the end of a reshoot: entry, lane -/
  reshootWaiters : List (Nat × Nat) := []
  deriving DecidableEq, Repr, Inhabited

/-! ### The program (chapter 6) -/

/-- The Program axis (R211 text). -/
inductive ProgramState where
  | empty | stopped | running | recutPending
  deriving DecidableEq, Repr, Inhabited

/-- One task of the running program. -/
structure TaskRun where
  /-- take number of the last activation -/
  takes : Nat := 0
  lastInstant : Option Nat := none
  /-- next activation of a cyclic task, in µs after T_start -/
  due : Option Nat := none
  /-- activation instant of an event task that is due -/
  nextInstant : Option Nat := none
  /-- snapshot flag of the first take: bit 2 COLD, 3 WARM, 4 RECUT, as a value of the flags field -/
  firstFlag : Nat := 0
  /-- a take has been voted since the program start or the recut switch -/
  voted : Bool := false
  /-- an activation that a cue committed under a hold (R335) -/
  cueHeld : Bool := false
  deriving DecidableEq, Repr, Inhabited

/-- A force entry (Table 6.5). -/
structure Force where
  identity : Nat
  first : Nat
  count : Nat
  safety : Bool
  setter : Nat
  setTime : Nat
  value : Bytes
  deriving DecidableEq, Repr, Inhabited

/-- A carry-over report (Table 6.8). -/
structure CarryCounts where
  carried : Nat := 0
  initialised : Nat := 0
  discarded : Nat := 0
  forcesKept : Nat := 0
  forcesDropped : Nat := 0
  deriving DecidableEq, Repr, Inhabited

/-- A pending recut (R223 to R229). -/
structure Recut where
  slot : Nat
  /-- switch instant S and start of the guard S − G, in µs after T_start -/
  switchUs : Nat
  guardUs : Nat
  guarding : Bool := false
  /-- the first voted takes of the new image are awaited for the retentive commit -/
  switched : Bool := false
  deriving DecidableEq, Repr, Inhabited

/-- A retentive bank with its descriptor (Table 6.7); non-volatile. -/
structure Bank where
  cause : Nat
  sequence : Nat
  directory : Bytes
  values : Bytes
  seconds : Nat
  crc : Nat
  /-- the valid mark has been written -/
  valid : Bool
  deriving DecidableEq, Repr, Inhabited

/-- A retentive commit in progress (R219). -/
structure Commit where
  bank : Nat
  cause : Nat
  started : Nat
  content : Bank
  deriving DecidableEq, Repr, Inhabited

/-- A retentive directory (R221): identity, canonical type description, size and owner's SAFETY of each retentive variable. -/
structure RetentiveDirectory where
  digest : Bytes
  symbols : List Symbol
  types : List TypeRecord
  deriving DecidableEq, Repr, Inhabited

/-- A VARIABLE_READ waiting for its vote (R232). -/
structure VarRead where
  entry : Nat
  identity : Nat
  first : Nat
  count : Nat
  deriving DecidableEq, Repr, Inhabited

/-- Images, program, forces and retentive data (chapters 5 and 6). -/
structure ProgSt where
  slot0 : ImageSlot := {}
  slot1 : ImageSlot := {}
  /-- running (active) image slot; non-volatile -/
  slot : Nat := 0
  cache : List CacheEntry := []
  /-- image being verified and translated by the Cutter: its slot, and whom it serves -/
  cutting : Option (Nat × CutFor) := none
  state : ProgramState := .empty
  /-- setting "start at boot": 0 Off, 1 Cold, 2 Warm (R214); non-volatile -/
  startAtBoot : Nat := 2
  /-- the start at boot has been made since this boot -/
  startedAtBoot : Bool := false
  kindRequested : Nat := 0
  kindPerformed : Nat := 0
  /-- T_start: instant, and local time in 2⁻³² ns -/
  tStart : Nat := 0
  tStartLocal : Nat := 0
  /-- T_start on the activation timer (R191) -/
  tStartTimer : Nat := 0
  /-- end of the conversion of a recut switch (R226) -/
  convertedAt : Nat := 0
  tasks : Tbl TaskRun := []
  recut : Option Recut := none
  lastRecut : CarryCounts := {}
  forces : Tbl Force := []
  /-- retentive image: canonical value of each retentive variable, by identity -/
  retentive : List (Nat × Bytes) := []
  bank0 : Option Bank := none
  bank1 : Option Bank := none
  commit : Option Commit := none
  /-- causes of the commits that wait for the one in progress, in the order in which they were called for (R219) -/
  commitNext : List Nat := []
  /-- the retentive image has been loaded since boot (R218) -/
  retentiveLoaded : Bool := false
  lastBank : Nat := 1
  lastCommitAt : Nat := 0
  lastSequence : Nat := 0
  lastCommitTai : Nat := 0
  lastCause : Nat := 0
  directories : List RetentiveDirectory := []
  noValidBank : Bool := false
  fellBack : Bool := false
  /-- a stop has committed: the entry that waits (none after a Lock-out), and takes decided since -/
  stopping : Option (Option Nat × Nat) := none
  varReads : List VarRead := []
  /-- the exported state of the last run can serve a warm start (R216) -/
  warmDigest : Option Bytes := none
  deriving DecidableEq, Repr, Inhabited

/-! ### The activation controller (chapter 14) -/

/-- One activation source with its configuration record (Table 14.3) and its counters. -/
structure ActSource where
  origin : Nat := 0
  index : Nat := 0
  sense : Nat := 0
  priority : Nat := 0
  initialMask : Bool := false
  masked : Bool := false
  /-- the signal at the previous clock evaluated, for edges -/
  previous : Bool := false
  /-- pulses of a pulse origin not yet evaluated -/
  pulses : Nat := 0
  counter : Nat := 0
  /-- commit in progress: clock at which it started -/
  started : Option Nat := none
  /-- a commit that the controller has still to start: clock from which it waits -/
  waiting : Option Nat := none
  /-- recorded commit time since the last delivery -/
  commitTime : Option Nat := none
  detections : Nat := 0
  commits : Nat := 0
  overflow : Nat := 0
  whileMasked : Nat := 0
  through : Nat := 0
  dropped : Nat := 0
  lastCommit : Nat := 0
  deriving DecidableEq, Repr, Inhabited

/-- The activation controller. -/
structure ActSt where
  sources : Tbl ActSource := []
  /-- command hold: limit instant, none for no limit (R461, R462) -/
  hold : Option (Option Nat) := none
  /-- clock of the last commit start (R455) -/
  lastStart : Option Nat := none
  deriving DecidableEq, Repr, Inhabited

/-! ### Position and cues (chapter 9) -/

/-- Position states (Table 9.4). -/
inductive PositionState where
  | invalid | degraded | valid
  deriving DecidableEq, Repr, Inhabited

/-- One axle as a fusion channel sees it (R322). -/
structure AxleFusion where
  slipping : Bool := false
  sliding : Bool := false
  /-- consecutive ticks of excess above, and below, the inertial reference -/
  above : Nat := 0
  below : Nat := 0
  /-- disturbed: faulted, slipping or sliding, and then until it has agreed for 200 ms -/
  disturbed : Bool := false
  /-- consecutive ticks of agreement within half the margin while disturbed -/
  agree : Nat := 0
  /-- axle speeds of the last 500 ticks, newest first, in 2⁻³² mm/s -/
  speeds : List Int := []
  deriving DecidableEq, Repr, Inhabited

/-- A bridging in progress (R325, R328): ticks since it started or since an anchor in it, speed and bridging term then. -/
structure Bridging where
  ticks : Nat
  total : Nat
  v0 : Int
  b : Int
  /-- it has lasted longer than 5 s (R325) -/
  tooLong : Bool := false
  deriving DecidableEq, Repr, Inhabited

/-- One fusion channel (R321 to R325). Distances in 2⁻¹⁶ mm. -/
structure Fusion where
  value : Int := 0
  /-- internal values of the last 100 ticks, newest first -/
  past : List Int := []
  v : Int := 0
  /-- inertial reference of this tick, mm/s in 2⁻¹⁶ -/
  vRef : Int := 0
  /-- gradient bias β in 2⁻¹⁶ mm/s² -/
  beta : Int := 0
  /-- measured accelerations of the last 500 ticks, mm/s² in 2⁻¹⁶, newest first -/
  accels : List Int := []
  axle1 : AxleFusion := {}
  axle2 : AxleFusion := {}
  bridging : Option Bridging := none
  /-- bridging term kept when bridging ends, in 2⁻¹⁶ mm -/
  b : Int := 0
  state : PositionState := .invalid
  deriving DecidableEq, Repr, Inhabited

/-- Sensor fault tracking of an axle (R318). -/
structure AxleFault where
  faulted : Bool := false
  /-- ticks in a row without a fault, with agreeing counts -/
  clean : Nat := 0
  /-- edge counts of the last 100 ticks, newest first -/
  edges : List Int := []
  deriving DecidableEq, Repr, Inhabited

/-- A tick of the position history (R330, POSITION_AT): boundary in local 2⁻³² ns, counter, speed, confidence, state. -/
structure TickRecord where
  boundary : Nat
  counter : Int
  speed : Int
  confidence : Nat
  state : PositionState
  /-- neither axle was disturbed, and nothing bridged -/
  clean : Bool := true
  deriving DecidableEq, Repr, Inhabited

/-- Position configuration (Table 9.2). -/
structure PositionConfig where
  ppr1 : Nat := 1024
  ppr2 : Nat := 1024
  diameter1 : Nat := 92000
  diameter2 : Nat := 92000
  sense : Nat := 0
  axis : Nat := 0
  vMax : Nat := 44445
  epsU : Nat := 5000
  epsC : Nat := 1000
  cValid : Nat := 1000
  deriving DecidableEq, Repr, Inhabited

/-- Cue states (Table 9.9), in the order of their codes. -/
inductive CueState where
  | idle | armed | fired | missed | disabled
  deriving DecidableEq, Repr, Inhabited

/-- One cue (R332 to R340). -/
structure Cue where
  state : CueState := .idle
  /-- the request last armed (Table 9.6) -/
  request : Bytes := []
  firings : Nat := 0
  misses : Nat := 0
  /-- a Standby's trigger has passed since the arming (R339) -/
  passed : Bool := false
  /-- instant at which it passed -/
  passedAt : Nat := 0
  /-- a time cue of action 3 has reached its instant: its window acts at the next tick -/
  windowDue : Bool := false
  deriving DecidableEq, Repr, Inhabited

/-- The position unit and the cue engine. -/
structure PosSt where
  config : PositionConfig := {}
  channel1 : Fusion := {}
  channel2 : Fusion := {}
  fault1 : AxleFault := {}
  fault2 : AxleFault := {}
  acc1Faulted : Bool := false
  acc2Faulted : Bool := false
  /-- ticks for which the two accelerometers have differed by more than 0.5 m/s², and have agreed within 0.25 m/s² -/
  accDiffer : Nat := 0
  accAgree : Nat := 0
  accLatched : Bool := false
  /-- ticks for which the fusion channels have disagreed (R321) -/
  disagree : Nat := 0
  internalFault : Bool := false
  /-- anchor: counter and tolerance, and time (R330) -/
  anchor : Int := 0
  tolerance : Nat := 0
  anchorTai : Nat := 0
  /-- scale factor κ as a ratio, calibrated, and the scale reference with its mark's tick (R331) -/
  kappaNum : Nat := 1
  kappaDen : Nat := 1
  calibrated : Bool := false
  scaleReference : Option Int := none
  scaleAt : Nat := 0
  /-- boundary of the last disturbed tick that has left the history -/
  unclean : Nat := 0
  /-- ticks of reinitialisation left (R320) -/
  reinit : Nat := 0
  /-- agreeing run of Table 9.4: done, and start values of the present run (counter, distances of both axles in 2⁻¹⁶ mm) -/
  runDone : Bool := false
  runCounter : Int := 0
  run1 : Int := 0
  run2 : Int := 0
  state : PositionState := .invalid
  counter : Int := 0
  speed : Int := 0
  confidence : Nat := 0
  /-- sign of the last non-zero speed (R299) -/
  lastSign : Int := 1
  /-- history of the last 10 s, newest first -/
  history : List TickRecord := []
  /-- instant of the last tick -/
  tickAt : Nat := 0
  ticks : Nat := 0
  cues : Tbl Cue := []
  /-- values recorded at each task's latest release: cue, state code, firings (R338) -/
  areas : Tbl (List (Nat × Nat × Nat)) := []
  /-- counters (Table 9.11) -/
  slip1 : Nat := 0
  slip2 : Nat := 0
  slide1 : Nat := 0
  slide2 : Nat := 0
  bridgings : Nat := 0
  longestBridging : Nat := 0
  axleFaults1 : Nat := 0
  axleFaults2 : Nat := 0
  accFaults1 : Nat := 0
  accFaults2 : Nat := 0
  marksAccepted : Nat := 0
  marksRejected : Nat := 0
  cueFirings : Nat := 0
  cueMisses : Nat := 0
  requestsDropped : Nat := 0
  /-- marks and window closings that wait for the next tick: queue entries -/
  waiting : List Nat := []
  deriving DecidableEq, Repr, Inhabited

/-! ### Safety functions and safe I/O (chapter 8) -/

/-- One safe input (R276 to R283). -/
structure SafeInput where
  /-- filtered reading: closed -/
  closed : Bool := false
  /-- what each acquisition path reads (R276) -/
  path0 : Bool := false
  path1 : Bool := false
  /-- external fault -/
  fault : Bool := false
  proven : Bool := false
  /-- dark pulses in a row that the input failed to follow -/
  missedPulses : Nat := 0
  /-- open since this instant with its pulses correct, for clearing a fault (R281) -/
  openSince : Option Nat := none
  /-- for the first of a pair: instant since which the combination is neither open nor closed (R280) -/
  discrepantSince : Option Nat := none
  deriving DecidableEq, Repr, Inhabited

/-- One safe output (R284 to R291). -/
structure SafeOutput where
  /-- last release's command in each lane's copy-out: bit 0 A, bit 1 B, bit 2 C -/
  commanded : Nat := 0
  /-- last release of the driving task, and as off since -/
  releasedAt : Option Nat := none
  offSince : Option Nat := none
  /-- output timeout has passed since the last release (R288) -/
  timedOut : Bool := false
  tripped : Bool := false
  /-- the trip has been reported, at the tick after it -/
  tripSeen : Bool := false
  backFed : Bool := false
  /-- while back-fed: the terminal has carried no voltage from outside since this instant (R287) -/
  unfedSince : Option Nat := none
  fieldFault : Bool := false
  overdue : Bool := false
  /-- the monitor channels whose gate permits at the last evaluation: bit 0 A, bit 1 B, bit 2 C (R273) -/
  gates : Nat := 0
  /-- instants at which each switch was last tested: SWA1, SWA2, SWB1, SWB2, SWC1, SWC2 -/
  tested : Tbl Nat := []
  /-- switches tested in the round in progress: mask -/
  roundMask : Nat := 0
  deriving DecidableEq, Repr, Inhabited

/-- An open safe-position window (R299). -/
structure Window where
  opening : Int
  forward : Bool
  since : Nat
  deriving DecidableEq, Repr, Inhabited

/-- A RESET_KEY arming (R310, R311). -/
structure Arming where
  entry : Nat
  issuer : Nat
  name : Bytes
  since : Nat
  /-- the key was closed when the arming started and has not opened since -/
  mustOpen : Bool
  deriving DecidableEq, Repr, Inhabited

/-- A copy of the Lock-out flag in the clear state (Table 8.11): as written at delivery and at a reset. -/
def clearFlag : Bytes :=
  [0x4B, 0x58, 0x4C, 0x4F, 0x01, 0x00, 0x00, 0x00] ++ List.replicate 16 0 ++ [0xFF] ++ List.replicate 31 0 ++ [0xC7, 0x0C, 0x65, 0x08, 0x54, 0x64, 0x36, 0x69]

/-- Safe I/O, safety functions, parameter set, change log and Lock-out flag (chapter 8). -/
structure SafetySt where
  inputs : Tbl SafeInput := []
  outputs : Tbl SafeOutput := []
  /-- active parameter set body: none while none has ever been activated or it was reset to defaults; non-volatile -/
  active : Option Bytes := none
  activeVersion : Nat := 0
  activeSigner : Bytes := []
  everActivated : Bool := false
  /-- the active set was found missing, unverified or with a wrong CRC: the monitor channels use the default set (R304) -/
  activeBad : Bool := false
  /-- the set has been activated since the Lock-out entry (R310) -/
  activatedSince : Bool := false
  staged : Option Bytes := none
  stagedVersion : Nat := 0
  stagedSigner : Bytes := []
  /-- limited speed: violated, and instant since which the value has stayed below the limit less hysteresis -/
  speedViolated : Bool := false
  speedClearFrom : Option Nat := none
  zoneInForce : Option Nat := none
  /-- standstill: proven, and start of the present second with its counter (R296) -/
  standstill : Bool := false
  stillFrom : Option Nat := none
  stillCounter : Int := 0
  /-- direction: reference r, violated, intended 0 none, 1 forward, 2 reverse (R297) -/
  reference : Int := 0
  directionViolated : Bool := false
  intended : Nat := 0
  windows : Tbl Window := []
  /-- a monitor channel has differed at the last tick: state and channel (R274) -/
  monitorDiffered : Option (Nat × Lane) := none
  /-- internal faults found and not since found gone, each the cause and detail of Table 8.10 (log entry 85) -/
  standing : List (Nat × Nat) := []
  testPulses : Bool := false
  /-- local time of the last dark pulse of each source whose readings have been taken (R278) -/
  pulsed : Tbl Nat := []
  /-- instant from which the safe inputs are sampled since boot -/
  sampledFrom : Nat := 0
  /-- the two stored copies of the Lock-out flag (Table 8.11); non-volatile -/
  flag0 : Bytes := clearFlag
  flag1 : Bytes := clearFlag
  /-- change log, oldest first (Table 8.9), and last sequence; non-volatile -/
  changeLog : List Bytes := []
  changeSequence : Nat := 0
  arming : Option Arming := none
  keyA : Bool := false
  keyB : Bool := false
  keyClosedAt : Option Nat := none
  keyDiscrepantSince : Option Nat := none
  /-- switch-test rounds completed; SAFE_IO_TEST entries that wait -/
  rounds : Nat := 0
  ioTests : List Nat := []
  /-- field supply in V as last seen, low since -/
  fieldVolts : Nat := 0
  fieldLow : Bool := false
  deriving DecidableEq, Repr, Inhabited

/-! ### The signal chain (chapter 10) -/

/-- A channel's configuration (Table 10.2), without its coefficients. -/
structure ChannelConfig where
  median : Nat := 1
  decimation : Nat := 1
  autoSwitch : Bool := false
  rate : Nat := 1
  timeout : Nat := 3
  primary : Nat := 0
  primarySignal : Nat := 0
  alternateSignal : Nat := 0
  alternate : Nat := 0xFFFF
  symmetry : Nat := 0
  deriving DecidableEq, Repr, Inhabited

/-- A coefficient bank: symmetry and coefficients (R355). -/
structure CoeffBank where
  symmetry : Nat
  taps : List Int
  deriving DecidableEq, Repr, Inhabited

/-- A dissolve (R356, R357), waiting until it has started. -/
structure Dissolve where
  length : Nat
  /-- it has started; outputs delivered since -/
  started : Bool
  k : Nat
  stamp : Nat
  entry : Nat
  deriving DecidableEq, Repr, Inhabited

/-- One filter channel. -/
structure FilterChannel where
  config : ChannelConfig := {}
  /-- the channel has been configured -/
  configured : Bool := false
  enabled : Bool := false
  /-- 0 primary, 1 alternate -/
  source : Nat := 0
  stale : Bool := false
  /-- the next admitted sample is an input switch (R346, R347) or the start after boot -/
  switchNext : Bool := false
  bank : List Int := []
  staged : Option CoeffBank := none
  /-- last samples, newest first; last 256 median outputs, newest first -/
  samples : List Int := []
  medians : List Int := []
  n : Nat := 0
  held : Int := 0
  value : Int := 0
  flags : Nat := 0
  dissolve : Option Dissolve := none
  /-- start of the present 100 ms window in local time, and samples admitted in it -/
  window : Nat := 0
  admitted : Nat := 0
  lastSample : Nat := 0
  framesTaken : Nat := 0
  framesDropped : Nat := 0
  repeats : Nat := 0
  setsFilled : Nat := 0
  gaps : Nat := 0
  rateDropped : Nat := 0
  staleEvents : Nat := 0
  inputSwitches : Nat := 0
  saturations : Nat := 0
  dissolvesDone : Nat := 0
  dissolvesEnded : Nat := 0
  deriving DecidableEq, Repr, Inhabited

/-- A stream as the engine follows it (R345). -/
structure Stream where
  expected : Nat
  last : List Int
  /-- instant of its last frame -/
  arrivedAt : Nat
  deriving DecidableEq, Repr, Inhabited

/-- The signal chain. -/
structure SignalSt where
  channels : Tbl FilterChannel := []
  streams : Tbl Stream := []
  wrongFrames : Nat := 0
  deriving DecidableEq, Repr, Inhabited

/-! ### Pairs (chapter 7) -/

/-- Pair roles (Table 3.12). -/
inductive PairRole where
  | solo | active | standby
  deriving DecidableEq, Repr, Inhabited

/-- A Slipstream message in a port's queue: kind, message number, sequence of its first fragment, and how much of it has left. -/
structure SlipMsg where
  kind : Nat
  message : Nat
  sequence : Nat
  body : Bytes
  sent : Nat := 0
  /-- traffic key under which it leaves; none before there is one (R241) -/
  key : Option Bytes := none
  deriving DecidableEq, Repr, Inhabited

/-- The sending side of one Slipstream port (R239, R242). -/
structure SlipPort where
  /-- messages not yet wholly started, in sender order -/
  queue : List SlipMsg := []
  /-- a fragment is in progress -/
  sending : Bool := false
  /-- the Squall latency holds the next fragment until this instant (R524) -/
  startAt : Option Nat := none
  /-- end of the last fragment (R242) -/
  lastAt : Nat := 0
  deriving DecidableEq, Repr, Inhabited

/-- The Standby's own decision on a forwarded take, waiting for TAKE_END (R249). -/
structure OwnDecision where
  task : Nat
  take : Nat
  /-- 0 release, 1 release and isolate, 2 Lock-out, 3 not executed -/
  decision : Nat
  signature : Word64
  safeOutputs : Nat
  checkpointCrc : Word64
  deriving DecidableEq, Repr, Inhabited

/-- A completion held until the Standby's ACK: where it goes, and its bytes (R247). -/
structure HeldCompletion where
  issuer : Nat
  token : Nat
  origin : Option Nat
  sessions : List Nat
  channel : Option Nat
  bytes : Bytes
  deriving DecidableEq, Repr, Inhabited

/-- Pairing, the Slipstream engine and the Standby's supervision. -/
structure PairSt where
  role : PairRole := .solo
  /-- settings that PAIR_CONFIGURE writes (R233); non-volatile -/
  enabled : Bool := false
  peer : Bytes := []
  supervised : Nat := 0xFF
  holdMs : Nat := 60
  ipv4 : Bytes := []
  mac : Bytes := []
  pairComId : Nat := 41602
  /-- a pair is formed: the partner is present -/
  present : Bool := false
  /-- formation failure cause: 0 none, 1 identifier, 2 sides, 3 generation, 4 anchor, 5 no side strap, 6 certificate -/
  failure : Nat := 0
  partnerGeneration : Nat := 0
  /-- TAI ns since which this module has been Active, for Table 7.1 -/
  activeSince : Nat := 0
  /-- own reasons of Table 7.7 (bits), partner's reasons, partner's last report -/
  reasons : Nat := 0
  partnerReasons : Nat := 0
  partnerReport : Bytes := []
  /-- image digest that the partner holds translated in its non-running slot -/
  partnerImage : Bytes := []
  /-- Slipstream ports with light: bit 0 X22, bit 1 X23 -/
  portsUp : Nat := 0
  /-- the sending sides of X22 and X23 -/
  link0 : SlipPort := {}
  link1 : SlipPort := {}
  /-- a port has light again since this instant, while reason 4 holds -/
  lightAt : Option Nat := none
  /-- sender's fragment and message counts (Table 7.3) -/
  sequence : Nat := 0
  message : Nat := 0
  linkDelay : Nat := 0
  /-- secret of the handshake with the partner (R234), number of the traffic key, instant from which it is used, fragments protected under it -/
  secret : Option Nat := none
  keyNumber : Nat := 0
  keyedAt : Nat := 0
  keyUses : Nat := 0
  /-- completions that the Active holds until the ACK of their token (R247) -/
  awaitingAck : List HeldCompletion := []
  /-- Standby: own decisions and TAKE_ENDs waiting for each other -/
  own : List OwnDecision := []
  takeEnds : List PairTakeEnd := []
  /-- snapshots that wait for the TAKE_END of their task's previous take (R339) -/
  waitingSnapshots : List PairSnapshot := []
  /-- last accepted checkpoint by task: identity and value (R250), and the instant it was accepted -/
  checkpoints : Tbl (List (Nat × Bytes)) := []
  checkpointAt : Nat := 0
  /-- mirror image of the Active: values of mirrored and retentive variables by identity (R244) -/
  mirror : List (Nat × Bytes) := []
  /-- last TRDP and SDTv2 sequence counters reported per flow slot -/
  flowCounters : Tbl (Nat × Nat) := []
  /-- Δ in mm, and time difference in ns (R248) -/
  delta : Int := 0
  timeDifference : Int := 0
  timeGoodSince : Option Nat := none
  /-- last forwarded snapshot's take number by task, and the last take whose TAKE_END arrived (R339) -/
  forwarded : Tbl Nat := []
  takeEnded : Tbl Nat := []
  /-- image digest that the partner runs (HELLO), and its T_start in local ns (RESYNC configuration) -/
  partnerRunning : Bytes := []
  partnerStart : Nat := 0
  /-- supervision of the supervised task: next due take instant, pair telegram received for it, misses in a row -/
  superviseT0 : Option Nat := none
  telegramSeen : Bool := false
  misses : Nat := 0
  /-- takeover instant to come, handover instant armed -/
  takeoverAt : Option Nat := none
  handoverAt : Option Nat := none
  /-- divergences of the last hour (R249) -/
  divergedAt : List Nat := []
  /-- resynchronisation: running since R_s, tasks exported, imported, passed; retry due; failures in a row -/
  resyncAt : Option Nat := none
  /-- tasks exported (Active), tasks whose probation has passed (Standby) -/
  resyncPassed : List Nat := []
  /-- exports received from the partner by task -/
  resyncExports : Tbl Bytes := []
  /-- PAIR_RESYNC commands that wait for R_s to be fixed -/
  resyncWaiters : List Nat := []
  /-- Active: the configuration of this resynchronisation has been sent -/
  resyncSent : Bool := false
  /-- the Active's running image waits for the Cutter -/
  cutWaits : Bool := false
  resyncRetry : Option Nat := none
  resyncFailures : Nat := 0
  /-- the partner's update package, its schedule and its gate result (R501) -/
  partnerPackage : Bytes := []
  partnerSchedule : Nat := 0
  partnerGates : Option Bool := none
  /-- counters (Table 7.15) -/
  compared : Nat := 0
  divergences : Nat := 0
  mismatches : Nat := 0
  failedWrites : Nat := 0
  resyncStarted : Nat := 0
  resyncCompleted : Nat := 0
  resyncFailedCount : Nat := 0
  takeovers : Nat := 0
  lastTakeover : Nat := 0
  lastTakeoverCause : Nat := 0
  lost0 : Nat := 0
  lost1 : Nat := 0
  duplicates : Nat := 0
  tagFailures : Nat := 0
  deriving DecidableEq, Repr, Inhabited

/-! ### Networks (chapter 11) -/

/-- Port configuration (PORT_CONFIGURE, Table 11.8). -/
structure PortConfig where
  enabled : Bool := true
  rate : Nat := 0
  protection : Bool := false
  pvid : Nat := 1
  pcp : Nat := 0
  learnLimit : Nat := 1024
  /-- queue limits in KiB by class where set; 32 otherwise -/
  limits : Tbl Nat := []
  /-- VLAN memberships: VLAN, tagged -/
  vlans : Tbl Bool := []
  deriving DecidableEq, Repr, Inhabited

/-- A frame in an egress queue (R383). -/
structure QueuedFrame where
  bytes : Bytes
  stamp : Nat
  ingress : Nat
  deriving DecidableEq, Repr, Inhabited

/-- A gate control list (R388): cycle in ns, base in local 2⁻³² ns, entries of mask and interval. -/
structure GateList where
  cycle : Nat
  base : Nat
  entries : List (Nat × Nat)
  deriving DecidableEq, Repr, Inhabited

/-- One fabric port. -/
structure PortSt where
  config : PortConfig := {}
  up : Bool := false
  /-- present rate in Mbit/s -/
  rate : Nat := 0
  /-- class queues, oldest first -/
  queues : Tbl (List QueuedFrame) := []
  /-- frame in progress: end instant -/
  sending : Option Nat := none
  /-- launch queues 0 to 3 -/
  launches : Tbl (List Bytes) := []
  /-- guard bands: no class-queue frame starts before this instant -/
  guardUntil : Nat := 0
  gates : Option GateList := none
  gatesNext : Option GateList := none
  /-- open gates at present -/
  gateMask : Nat := 0xFF
  flood : Bucket := {}
  /-- counters (PORT_COUNTERS): drops by cause of R382, in its order from 0 -/
  framesIn : Nat := 0
  framesOut : Nat := 0
  octetsIn : Nat := 0
  octetsOut : Nat := 0
  drops : Tbl Nat := []
  learnFailures : Nat := 0
  learnRefusals : Nat := 0
  floodedIn : Nat := 0
  lateLaunches : Nat := 0
  linkChanges : Nat := 0
  /-- back-pressure of the Squall registers holds the class queues until this instant (R524) -/
  heldUntil : Nat := 0
  deriving DecidableEq, Repr, Inhabited

/-- A learned entry (R378). -/
structure Learned where
  mac : Nat
  vlan : Nat
  port : Nat
  /-- bucket index, none for a CAM entry -/
  bucket : Option Nat
  lastSeen : Nat
  deriving DecidableEq, Repr, Inhabited

/-- A pinned entry (R377, R380). -/
structure Pinned where
  mac : Nat
  vlan : Nat
  ports : Nat
  /-- pinned by FDB_PIN, and number of subscriptions that pin it automatically -/
  manual : Bool
  automatic : Nat
  deriving DecidableEq, Repr, Inhabited

/-- A flow record (Table 11.4). -/
structure FlowRec where
  direction : Nat
  flags : Nat
  comId : Nat
  destination : Nat
  source : Nat
  vlan : Nat
  pcp : Nat
  dscp : Nat
  length : Nat
  context : Nat
  period : Nat
  timeout : Nat
  offset : Nat
  stream : Nat
  relative : Int
  smi : Nat
  udv : Nat
  ncm : Nat
  latency : Nat
  deriving DecidableEq, Repr, Inhabited

/-- A flow slot (R394 to R403). -/
structure Flow where
  record : FlowRec
  enabled : Bool := false
  /-- data last accepted, or last released -/
  data : Bytes := []
  /-- last accepted telegram: end of reception, sequence counter -/
  receivedAt : Option Nat := none
  sequence : Nat := 0
  /-- flow fresh, until its timeout -/
  fresh : Bool := false
  sequenceError : Bool := false
  sdtUnsafe : Bool := false
  safeSequence : Nat := 0
  /-- SDTv2 channel monitoring: failures in the standard's window -/
  monitorCount : Nat := 0
  /-- AUTH: highest counter accepted under each context, and last counter sent -/
  authAccepted : Tbl Nat := []
  authSent : Nat := 0
  /-- telegrams admitted in the present 100 ms window, and its start in local time -/
  window : Nat := 0
  admitted : Nat := 0
  /-- scheduled publication: last launch in local µs, and its instant -/
  launched : Nat := 0
  launchedAt : Nat := 0
  everReleased : Bool := false
  /-- scheduled: releases with their instants, newest first, back to one that a launch can use -/
  releases : List (Nat × Bytes) := []
  /-- suspended by an inauguration, or its relative position does not exist (R373) -/
  address : Option Nat := none
  noAddress : Bool := false
  telegrams : Nat := 0
  drops : Tbl Nat := []
  suspended : Nat := 0
  withoutData : Nat := 0
  droppedReleases : Nat := 0
  deriving DecidableEq, Repr, Inhabited

/-- A FRER function of a stream (R386). -/
structure Frer where
  /-- stream identification entries: method 1 null stream, 2 IP; and match fields -/
  identifications : List (Nat × Bytes) := []
  /-- sequence generation: ports, next sequence -/
  generation : Option Nat := none
  nextSequence : Nat := 0
  /-- sequence recovery: ports, history length, reset timeout in ms -/
  recovery : Option Nat := none
  history : Nat := 16
  resetMs : Nat := 100
  /-- highest sequence taken, and those of the history seen -/
  highest : Option Nat := none
  seen : List Nat := []
  lastAccepted : Nat := 0
  duplicates : Nat := 0
  /-- instant at which each path (port) last delivered -/
  paths : Tbl Nat := []
  latent : List Nat := []
  deriving DecidableEq, Repr, Inhabited

/-- One line's TTDP supervision (R371). -/
structure TtdpLine where
  neighbour : Option Nat := none
  lastSent : Nat := 0
  lastHello : Nat := 0
  missed : Nat := 0
  fast : Bool := false
  deriving DecidableEq, Repr, Inhabited

/-- The switch, the train backbone node and the process-data offload. -/
structure NetSt where
  ports : Tbl PortSt := []
  pinned : List Pinned := []
  learned : List Learned := []
  /-- draw of the hash key of this boot (R377) -/
  hashKey : Nat := 0
  aging : Nat := 300
  flows : Tbl Flow := []
  frer : Tbl Frer := []
  latentErrors : Nat := 0
  /-- inauguration: detection instant while one runs -/
  inaugurating : Option Nat := none
  ttdp : Tbl TtdpLine := []
  directory : Option Directory := none
  etbTopo : Nat := 0
  opTrnTopo : Nat := 0
  /-- relays driven open; mask of relays whose read-back fails; operations -/
  relaysOpen : Bool := false
  relayFaults : Nat := 0
  relayOperations : Nat := 0
  /-- R-NAT: consist subnet, prefix length, static host entries -/
  subnet : Nat := 0
  prefixLength : Nat := 0
  hosts : List (Nat × Nat) := []
  heartbeatMs : Nat := 100
  heartbeatComId : Nat := 41603
  heartbeatGroup : Nat := 0
  heartbeatOn : Bool := false
  heartbeats : Nat := 0
  /-- instant of the last heartbeat, or of its start -/
  heartbeatAt : Nat := 0
  uuid : Bytes := []
  /-- SFP+ cages: power level and readable -/
  cages : Tbl (Nat × Bool) := []
  /-- message data dropped while Reel restarts -/
  reelDropped : Nat := 0
  /-- launches of this instant, for late counting: port and end -/
  launchEnds : Tbl Nat := []
  deriving DecidableEq, Repr, Inhabited

/-! ### The MVB bridge (chapter 12) -/

/-- A port record (Table 12.1). -/
structure MvbRecord where
  size : Nat
  direction : Nat
  period : Nat
  phase : Nat
  freshness : Nat
  confirm : Nat
  echo : Nat
  device : Nat
  timeout : Nat
  deriving DecidableEq, Repr, Inhabited

/-- A command write on a source port, from its grant (R423 to R425). -/
structure MvbWriteSt where
  entry : Nat
  value : Bytes
  granted : Nat
  /-- first transmission -/
  sent : Option Nat := none
  /-- echo frames have arrived since, all different -/
  differed : Bool := false
  deriving DecidableEq, Repr, Inhabited

/-- A configured port of the bridge. -/
structure MvbPort where
  record : MvbRecord
  enabled : Bool := true
  /-- source buffer, or last data of a sink -/
  data : Bytes := []
  receivedAt : Option Nat := none
  oneLine : Bool := false
  fresh : Bool := false
  write : Option MvbWriteSt := none
  /-- binding supervision: instant of the first transmission of an unconfirmed value, and failure recorded (R426) -/
  unconfirmedSince : Option Nat := none
  failed : Bool := false
  /-- the buffer holds a value not yet transmitted -/
  unsent : Bool := false
  /-- its output binding has ended, and nothing has fed it since: not answered (R212, R228) -/
  unsourced : Bool := false
  /-- reads that wait for a frame: entry, commit instant -/
  reads : List (Nat × Nat) := []
  deriving DecidableEq, Repr, Inhabited

/-- A bridge semaphore (R427). -/
structure Semaphore where
  holder : Nat
  ports : List Nat
  expires : Nat
  /-- staged values by handle -/
  staged : Tbl Bytes := []
  /-- an unlock waits for the command writes on the covered ports: its entry -/
  unlock : Option Nat := none
  deriving DecidableEq, Repr, Inhabited

/-- A committed unlock whose staged writes run (R428): ports not yet done, and the status of each one that is. -/
structure UnlockSt where
  left : List Nat
  results : Tbl Nat := []
  deriving DecidableEq, Repr, Inhabited

/-- A far device's status as last polled (R422). -/
structure MvbDevice where
  present : Bool := false
  status : Nat := 0
  missed : Nat := 0
  /-- its last poll is not yet answered -/
  polled : Bool := false
  deriving DecidableEq, Repr, Inhabited

/-- A map entry (R430). -/
structure MvbMapEntry where
  slot : Nat
  ports : List (Nat × Nat)
  withoutData : Nat := 0
  deriving DecidableEq, Repr, Inhabited

/-- One MVB bus. -/
structure MvbBus where
  enabled : Bool := false
  /-- administrator candidate -/
  candidate : Bool := false
  device1 : Nat := 0
  device2 : Nat := 0
  statusPeriod : Nat := 128
  administrators : List Nat := []
  extra : List Nat := []
  master : Bool := false
  lines : Nat := 0
  /-- basic periods since the module became master, and a basic period's start -/
  periods : Nat := 0
  periodAt : Nat := 0
  devices : Tbl MvbDevice := []
  framesSent : Nat := 0
  framesReceived : Nat := 0
  oneLine : Nat := 0
  errorsA : Nat := 0
  errorsB : Nat := 0
  gained : Nat := 0
  passed : Nat := 0
  confirmed : Nat := 0
  timedOut : Nat := 0
  farErrors : Nat := 0
  bindingFailures : Nat := 0
  readsTimedOut : Nat := 0
  semaphoresLost : Nat := 0
  mapWithoutData : Nat := 0
  deriving DecidableEq, Repr, Inhabited

/-- The MVB bridge. -/
structure MvbSt where
  bus0 : MvbBus := {}
  bus1 : MvbBus := {}
  ports : Tbl MvbPort := []
  semaphores : Tbl Semaphore := []
  /-- committed unlocks by acceptance-queue entry -/
  unlocks : Tbl UnlockSt := []
  maps : Tbl MvbMapEntry := []
  deriving DecidableEq, Repr, Inhabited

/-! ### Updates (chapter 16) -/

/-- Interface generations and identity of a firmware set in a slot (Table 16.1). -/
structure FirmwareSet where
  release : Nat := 0
  slipstream : Nat := 1
  mailbox : Nat := 1
  settings : Nat := 1
  kpc : Nat := 1
  /-- body digests of components 1 to 5, where an update wrote the slot -/
  digests : Tbl Bytes := []
  /-- their signers, for the anti-rollback floors -/
  signers : Tbl Bytes := []
  /-- body digest of the package, its version and its signer -/
  package : Bytes := []
  packageVersion : Nat := 0
  packageSigner : Bytes := []
  deriving DecidableEq, Repr, Inhabited

/-- Updating: the staged set, the schedule and the trial; non-volatile. -/
structure UpdSt where
  /-- 0 empty, 1 staged, 2 running, 3 on trial, 4 fallback -/
  slotA : Nat := 2
  slotB : Nat := 0
  setA : FirmwareSet := {}
  setB : FirmwareSet := {}
  /-- package bytes received: total length and bytes so far -/
  load : Option (Nat × Bytes) := none
  /-- 0 None, 1 Staged, 2 Activating -/
  axis : Nat := 0
  /-- activation instant in local 2⁻³² ns, 0 none -/
  schedule : Nat := 0
  /-- an Active waits for its partner since t_a (R500) -/
  waitingSince : Option Nat := none
  trialCount : Nat := 0
  onTrial : Bool := false
  outcome : Nat := 0
  outcomeTai : Nat := 0
  /-- cause of a failed trial that the boot of the previous slot records: 1 Halted, 2 120 s passed, 3 third power-good; 0 none -/
  failCause : Nat := 0
  /-- this module's gate result for an activation of both modules (R501) -/
  ownGates : Option Bool := none
  /-- the activation waits for the program stop of step 1 -/
  activating : Bool := false
  /-- instants at which the supply was last below 19.2 V (R495) -/
  lowSupplyAt : Option Nat := none
  /-- safety groups to be reset at the trial pass (R504): bit 0 parameter set, bit 1 position configuration -/
  resetGroups : Nat := 0
  deriving DecidableEq, Repr, Inhabited

/-! ### The whole module -/

/-- The state of the module. -/
structure State where
  /-- the commands and events that wait, first in, first out -/
  pending : List Instr
  /-- time since the model began, in half-nanoseconds (log entry 6) -/
  time : Nat
  /-- draws made of Config's free values (log entry 1) -/
  draws : Nat
  /-- what has left the module, oldest first (log entry 7) -/
  out : List Output
  module : ModuleSt
  clock : ClockSt
  recorder : RecorderSt
  trust : TrustSt
  mbx : MbxSt
  test : TestSt
  voter : VoterSt
  prog : ProgSt
  act : ActSt
  pos : PosSt
  safety : SafetySt
  signal : SignalSt
  pair : PairSt
  net : NetSt
  mvb : MvbSt
  update : UpdSt
  deriving DecidableEq, Repr

/-- The module right after reset: Stowed, with no supply, as it left the factory and never powered; every register at the value
the manual gives, and otherwise at the value of log entry 8. -/
def State.reset : State where
  pending := []
  time := 0
  draws := 0
  out := []
  module := {}
  clock := {}
  recorder := {}
  trust := {}
  mbx := {}
  test := {}
  voter := {}
  prog := {}
  act := {}
  pos := {}
  safety := {}
  signal := {}
  pair := {}
  net := {}
  mvb := {}
  update := {}

end Sys2Proof.Machine
end

