-- ==== Sys2Proof/Machine/Ops.lean ====
section
/-! DEFINITION. The operations that every block shares: the model's time and the local clock, draws of free values, the axes of
the module's condition, and the making of recorder entries. -/

namespace Sys2Proof.Machine

/-! ### Time (log entry 6): half-nanoseconds -/

/-- µs, ms and s in half-nanoseconds. -/
def micro (n : Nat) : Nat := 2000 * n
def milli (n : Nat) : Nat := 2000000 * n
def second (n : Nat) : Nat := 2000000000 * n

/-- The instant moved on to a due instant, if it lies ahead (log entry 11). -/
def reach (t : Nat) (s : State) : State := { s with time := max s.time t }

/-- GF clock periods counted at the Gaffer (R89). -/
def gfCount (s : State) : Nat := s.time / 5

/-- One ns, and one s, in the local clock's units of 2⁻³² ns (R435). -/
def nsUnit : Nat := 2 ^ 32
def secUnit : Nat := 1000000000 * 2 ^ 32

/-- The local clock at an instant not before its last setting: the addend once for each 4 ns period of TM (R436). -/
def clockAt (c : ClockSt) (t : Nat) : Nat := c.value + c.addend * (t / 8 - c.asOf / 8)

/-- The local clock now, in 2⁻³² ns since 1970 TAI. -/
def localNow (s : State) : Nat := clockAt s.clock s.time

/-- Its seconds, nanoseconds and fraction (R435). -/
def localSeconds (s : State) : Nat := localNow s / secUnit
def localNanos (s : State) : Nat := localNow s % secUnit / nsUnit
def localFraction (s : State) : Nat := localNow s % nsUnit

/-- Whole ns of a local time. -/
def toNs (v : Nat) : Nat := v / nsUnit

/-- Local time of TAI seconds and nanoseconds. -/
def ofTai (sec ns : Nat) : Nat := sec * secUnit + ns * nsUnit

/-- Seconds (8 bytes) and nanoseconds (4 bytes) of a local time, as completions carry them. -/
def taiBytes (v : Nat) : Bytes := le 8 (v / secUnit) ++ le 4 (v % secUnit / nsUnit)

/-- The first instant at which the clock has reached a local time. -/
def instantOf (c : ClockSt) (v : Nat) : Nat :=
  if v ≤ c.value then c.asOf else 8 * (c.asOf / 8 + (v - c.value + c.addend - 1) / c.addend)

/-- The instant moved on until the local clock reads at least `v`. -/
def reachLocal (v : Nat) (s : State) : State := reach (instantOf s.clock v) s

/-- The activation timer at an instant and now: the local clock without its steps (R191). -/
def timerAt (c : ClockSt) (t : Nat) : Nat := c.timer + c.addend * (t / 8 - c.asOf / 8)
def timerNow (s : State) : Nat := timerAt s.clock s.time

/-- The first instant at which the activation timer has reached a value. -/
def timerInstant (s : State) (v : Nat) : Nat :=
  let c := s.clock
  if v ≤ c.timer then c.asOf else 8 * (c.asOf / 8 + (v - c.timer + c.addend - 1) / c.addend)

/-- µs in the local clock's units. -/
def usUnit : Nat := 1000 * 2 ^ 32

/-- The local clock set to a value now (R442). -/
def setLocal (v : Nat) (s : State) : State :=
  { s with clock := { s.clock with value := v, timer := timerNow s, asOf := s.time } }

/-- The addend changed from now on. -/
def setAddend (a : Nat) (s : State) : State :=
  { s with clock := { s.clock with value := localNow s, timer := timerNow s, asOf := s.time, addend := a } }

/-! ### Free values and outputs -/

/-- The next free value of a run (log entry 1). -/
def drawn (s : State) : Nat := Config.entropy s.draws

/-- The state after one draw. -/
def afterDraw (s : State) : State := { s with draws := s.draws + 1 }

/-- Something leaves the module (log entry 7). -/
def emit (o : Output) (s : State) : State := { s with out := s.out ++ [o] }

/-! ### Changing one block -/

def modModule (f : ModuleSt → ModuleSt) (s : State) : State := { s with module := f s.module }
def modClock (f : ClockSt → ClockSt) (s : State) : State := { s with clock := f s.clock }
def modRecorder (f : RecorderSt → RecorderSt) (s : State) : State := { s with recorder := f s.recorder }
def modTrust (f : TrustSt → TrustSt) (s : State) : State := { s with trust := f s.trust }
def modMbx (f : MbxSt → MbxSt) (s : State) : State := { s with mbx := f s.mbx }
def modTest (f : TestSt → TestSt) (s : State) : State := { s with test := f s.test }
def modVoter (f : VoterSt → VoterSt) (s : State) : State := { s with voter := f s.voter }
def modProg (f : ProgSt → ProgSt) (s : State) : State := { s with prog := f s.prog }
def modAct (f : ActSt → ActSt) (s : State) : State := { s with act := f s.act }
def modPos (f : PosSt → PosSt) (s : State) : State := { s with pos := f s.pos }
def modSafety (f : SafetySt → SafetySt) (s : State) : State := { s with safety := f s.safety }
def modSignal (f : SignalSt → SignalSt) (s : State) : State := { s with signal := f s.signal }
def modPair (f : PairSt → PairSt) (s : State) : State := { s with pair := f s.pair }
def modNet (f : NetSt → NetSt) (s : State) : State := { s with net := f s.net }
def modMvb (f : MvbSt → MvbSt) (s : State) : State := { s with mvb := f s.mvb }
def modUpdate (f : UpdSt → UpdSt) (s : State) : State := { s with update := f s.update }

/-- One lane changed. -/
def modLane (l : Lane) (f : LaneSt → LaneSt) (s : State) : State :=
  { s with voter := { s.voter with lanes := s.voter.lanes.modify l f } }

/-- One lane. -/
def laneOf (s : State) (l : Lane) : LaneSt := s.voter.lanes.get l

/-! ### The axes (Table 3.12) -/

/-- Code of the module state. -/
def ModuleState.code : ModuleState → Nat
  | .stowed => 0 | .booting => 1 | .proving => 2 | .service => 3 | .maintenance => 4 | .lockout => 5 | .halted => 6

/-- Code of the time state. -/
def TimeState.code : TimeState → Nat
  | .unset => 0 | .locked => 1 | .holdover => 2

/-- Code of the position state. -/
def PositionState.code : PositionState → Nat
  | .invalid => 0 | .degraded => 1 | .valid => 2

/-- Code of the pair role. -/
def PairRole.code : PairRole → Nat
  | .solo => 0 | .active => 1 | .standby => 2

/-- Code of the program axis. -/
def ProgramState.code : ProgramState → Nat
  | .empty => 0 | .stopped => 1 | .running => 2 | .recutPending => 3

/-- Code of a lane state (Table 4.9). -/
def LaneState.code : LaneState → Nat
  | .voting => 0 | .isolated => 1 | .restarting => 2 | .ready => 3 | .transferring => 4 | .probation => 5 | .retired => 6
  | .stopped => 7

/-- Code of a cue state (Table 9.9). -/
def CueState.code : CueState → Nat
  | .idle => 0 | .armed => 1 | .fired => 2 | .missed => 3 | .disabled => 4

/-- The mailbox interface exists: every state but Stowed, Booting and Halted (Table 17.1). -/
def hasMailbox (s : State) : Bool :=
  s.module.state = .proving || s.module.state = .service || s.module.state = .maintenance || s.module.state = .lockout

/-- Booting has lasted a number of µs: the boot chain has passed the step with that bound (Tables 2.2 and 17.4). -/
def bootedFor (s : State) (us : Nat) : Bool := s.module.state = .booting && s.module.bootAt + micro us ≤ s.time

/-- The ECN and MVB ports are active: from step 5 of the boot chain on (R28, Table 17.4; log entry 121). -/
def portsActive (s : State) : Bool := hasMailbox s || bootedFor s 700000

/-- The Slipstream ports are lit: from step 4 of the boot chain on, when Slate has its keys (R28, R511, Table 17.4; log entry 121). -/
def slipLit (s : State) : Bool := hasMailbox s || bootedFor s 250000

/-- A lane belongs to the voting set: it votes, or is stopped with the others (log entry 12). -/
def inVotingSet (l : LaneSt) : Bool := l.state = .voting || l.state = .stopped

/-- Lanes voting: bit 0 A, bit 1 B, bit 2 C. -/
def votingMask (s : State) : Nat := laneMask fun l => inVotingSet (laneOf s l)

/-- How many lanes a mask names. -/
def maskCount (m : Nat) : Nat := bit (hasBit m 0) + bit (hasBit m 1) + bit (hasBit m 2)

/-- Two lanes vote (R129). -/
def twoLane (s : State) : Bool := maskCount (votingMask s) = 2

/-- Forcing axis: the force table holds an entry (R209). -/
def forced (s : State) : Bool := !s.prog.forces.isEmpty

/-- Recorder axis: a freeze is in force (R480). -/
def frozen (s : State) : Bool :=
  match s.recorder.freeze with
  | some f => f.since.isSome
  | none => false

/-- Proven standstill as any chapter uses it (R296). -/
def standstill (s : State) : Bool := s.safety.standstill

/-- The program runs: Running or Recut-pending. -/
def programRuns (s : State) : Bool := s.prog.state = .running || s.prog.state = .recutPending

/-- The partner is present and reports no reason (R251). -/
def partnerReady (s : State) : Bool := s.pair.present && s.pair.partnerReasons = 0

/-- Not ready for takeover, as MODULE_STATUS flags bit 2 shows it (R251). -/
def notReady (s : State) : Bool :=
  match s.pair.role with
  | .solo => true
  | .active => !partnerReady s
  | .standby => s.pair.reasons != 0

/-- A tamper or power-loss latch is set (R61). -/
def latchSet (s : State) : Bool := s.trust.lull.tamper || s.trust.lull.powerLoss

/-- Un-enrolled: no operator anchor (R41). -/
def unenrolled (s : State) : Bool := s.trust.anchor.isNone

/-- The flags of MODULE_STATUS (Table 3.11). -/
def moduleFlags (s : State) : Nat :=
  bit (forced s) + 2 * bit (latchSet s) + 4 * bit (notReady s) + 8 * bit s.trust.ownerLock + 16 * bit (unenrolled s)

/-! ### The running image -/

/-- An image slot. -/
def slotOf (s : State) (n : Nat) : ImageSlot := if n = 0 then s.prog.slot0 else s.prog.slot1

/-- An image slot changed. -/
def modSlot (n : Nat) (f : ImageSlot → ImageSlot) (s : State) : State :=
  modProg (fun p => if n = 0 then { p with slot0 := f p.slot0 } else { p with slot1 := f p.slot1 }) s

/-- The image in the running slot. -/
def runningImage (s : State) : Option Image := (slotOf s s.prog.slot).image

/-- A task of an image. -/
def taskRec (i : Image) (t : Nat) : Option TaskRec := i.tasks.find? fun r => r.task = t

/-- A task of the running image. -/
def runningTask (s : State) (t : Nat) : Option TaskRec := (runningImage s).bind fun i => taskRec i t

/-- The owner of a voted channel in the running image (R160). -/
def channelOwner (s : State) (k : Nat) : Option Nat :=
  (runningImage s).bind fun i => (i.tasks.find? fun r => hasBit r.channels k).map TaskRec.task

/-! ### Activation origins (Table 14.1) -/

/-- One pulse of a pulse origin: 2 flow reception, 4 MVB reception, 5 filter delivery, 6 module event, 7 command. The sources with
that origin and index see it at the next clock that is evaluated (SOURCE_DETECTION). -/
def pulse (origin index : Nat) (s : State) : State :=
  modAct (fun a => { a with sources := a.sources.map fun p =>
    if p.2.origin = origin && p.2.index = index then (p.1, { p.2 with pulses := p.2.pulses + 1 }) else p }) s

/-! ### Recorder entries (chapter 15) -/

/-- Units of a bucket's deficit that one record draws: what the recorder counts as one token (R476, log entry 13). -/
def tokenUnit : Nat := 2000000000

/-- A bucket's deficit at an instant, filled at `rate` tokens a second. -/
def Bucket.at (b : Bucket) (rate t : Nat) : Nat := b.deficit - rate * (t - b.asOf)

/-- Whether a bucket of a depth is above zero at an instant. -/
def Bucket.open (b : Bucket) (rate depth t : Nat) : Bool := b.at rate t < depth * tokenUnit

/-- The bucket after one token has been drawn. -/
def Bucket.draw (b : Bucket) (rate t : Nat) : Bucket := ⟨b.at rate t + tokenUnit, t⟩

/-- Whole tokens in a bucket, for RECORDER_STATUS. -/
def Bucket.tokens (b : Bucket) (rate depth t : Nat) : Nat := (depth * tokenUnit - b.at rate t) / tokenUnit

/-- One ring. -/
def ringOf (r : RecorderSt) : Ring → RingSt
  | .general => r.general
  | .juridical => r.juridical

/-- One ring changed. -/
def modRing (g : Ring) (f : RingSt → RingSt) (r : RecorderSt) : RecorderSt :=
  match g with
  | .general => { r with general := f r.general }
  | .juridical => { r with juridical := f r.juridical }

/-- Record slots of a ring (Table 1.9). -/
def ringSlots : Ring → Nat
  | .general => 8347648
  | .juridical => 32768

/-- What a record is made of. -/
structure RecordFields where
  cls : Nat
  source : Nat
  origin : Nat
  task : Nat
  epoch : Nat
  payload : Bytes

/-- The 128 bytes of a record (Table 15.1): made now, with a sequence. -/
def recordBytes (s : State) (seq : Nat) (f : RecordFields) : Bytes :=
  let flags := bit (forced s) + 2 * s.clock.state.code + 8 * s.pos.state.code + 32 * bit (s.pair.role = .standby)
  let h := le 8 seq ++ le 8 (localSeconds s) ++ le 4 (localNanos s) ++ le 2 f.cls ++ le 2 f.source ++ leInt 8 s.pos.counter ++
    le 4 f.epoch ++ le 1 f.task ++ le 1 flags ++ le 1 f.origin ++ [0] ++ padTo 80 f.payload
  h ++ le 4 (crc32 h) ++ le 4 (seq % 2 ^ 32 ^^^ 0x5245584B)

/-- Classes that draw no token and are never suppressed: RECORDER, CLEAR and SUPPRESSED (R476). -/
def freeClass (c : Nat) : Bool := c = 0x20 || c = 0x21 || c = 0x22

/-- A suppression counted among at most 64 pairs of class and source, further pairs in one count (R476). -/
def countSuppression (l : List Suppression) (further cls source : Nat) : List Suppression × Nat :=
  if l.any (fun p => p.cls = cls && p.source = source) then
    (l.map fun p => if p.cls = cls && p.source = source then { p with count := p.count + 1 } else p, further)
  else if l.length < 64 then (l ++ [⟨cls, source, 1⟩], further)
  else (l, further + 1)

/-- Whether a record's buckets are all above zero (R476). -/
def bucketsOpen (r : RecorderSt) (g : Ring) (f : RecordFields) (t : Nat) : Bool :=
  match g with
  | .general => r.bucketGeneral.open 200 4096 t && (f.origin != 1 || r.bucketReel.open 50 1024 t)
  | .juridical => r.bucketJuridical.open 20 512 t

/-- The buckets after a record has drawn its tokens. -/
def drawBuckets (r : RecorderSt) (g : Ring) (f : RecordFields) (t : Nat) : RecorderSt :=
  match g with
  | .general =>
    { r with bucketGeneral := r.bucketGeneral.draw 200 t,
             bucketReel := if f.origin = 1 then r.bucketReel.draw 50 t else r.bucketReel }
  | .juridical => { r with bucketJuridical := r.bucketJuridical.draw 20 t }

/-- Whether the buffer has a place in a ring's part of it (R480): 4096 places, 256 of them reserved for Juridical records. -/
def bufferPlace (r : RecorderSt) (g : Ring) : Bool :=
  match g with
  | .general => (r.buffer.filter fun p => p.1 = .general).length < 3840
  | .juridical => r.buffer.length < 4096

/-- The record is accepted: it takes the next sequence of its ring and enters the buffer, and a reserved limit that it exceeds
is first raised by 4096 (R474, R478); without a place it is overflowed and counted (R480). -/
def enterBuffer (s : State) (r : RecorderSt) (g : Ring) (f : RecordFields) : RecorderSt :=
  if bufferPlace r g then
    let ring := ringOf r g
    let seq := ring.last + 1
    modRing g (fun x => { x with last := seq, accepted := x.accepted + 1,
                                 limit := if seq > x.limit then x.limit + 4096 else x.limit })
      { r with buffer := r.buffer ++ [(g, recordBytes s seq f)] }
  else modRing g (fun x => { x with overflowed := x.overflowed + 1, overflowedFreeze := x.overflowedFreeze + 1 }) r

/-- A record that is made (R474 to R476): accepted, suppressed and counted, or overflowed. No record is made in Stowed. -/
def makeRecord (g : Ring) (f : RecordFields) (s : State) : State :=
  if s.module.state = .stowed then s
  else if freeClass f.cls then modRecorder (fun r => enterBuffer s r g f) s
  else if bucketsOpen s.recorder g f s.time then
    modRecorder (fun r => enterBuffer s (drawBuckets r g f s.time) g f) s
  else
    modRecorder (modRing g fun x =>
      let p := countSuppression x.pendingSuppressed x.pendingFurther f.cls f.source
      let q := countSuppression x.suppressions x.further f.cls f.source
      { x with suppressed := x.suppressed + 1, pendingSuppressed := p.1, pendingFurther := p.2,
               suppressions := q.1, further := q.2, lastSuppressed := s.time }) s

/-- A record of Slate (origin 0). -/
def record (g : Ring) (cls source : Nat) (payload : Bytes) (s : State) : State :=
  makeRecord g ⟨cls, source, 0, 0xFF, s.mbx.epoch, payload⟩ s

/-- A record that Reel requests (origin 1; classes 0x000A, 0x000B and 0x000D of the General ring, R473). -/
def recordReel (cls source : Nat) (payload : Bytes) (s : State) : State :=
  makeRecord .general ⟨cls, source, 1, 0xFF, s.mbx.epoch, payload⟩ s

end Sys2Proof.Machine
end

