-- ==== Sys2Proof/Machine/Mailbox.lean ====
section
/-! DEFINITION. The mailbox and the command interface (chapter 3): completions, token tables, acceptance, delivery, discard at an
epoch change, and the end of a session. -/

namespace Sys2Proof.Machine

/-! ### Status codes (Table 3.4) -/

def stOk : Nat := 0x0000
def stAccepted : Nat := 0x0001
def stDeferred : Nat := 0x0002
def stDiscarded : Nat := 0x0101
def stCancelled : Nat := 0x0102
def stStaleEpoch : Nat := 0x0110
def stClassDisabled : Nat := 0x0111
def stTokenOld : Nat := 0x0112
def stTooLarge : Nat := 0x0113
def stBadVersion : Nat := 0x0114
def stBadHeader : Nat := 0x0115
def stDenied : Nat := 0x0201
def stRefused : Nat := 0x0202
def stBadArgument : Nat := 0x0301
def stUnknown : Nat := 0x0302
def stFarTimeout : Nat := 0x0401
def stFarError : Nat := 0x0402
def stBusyRetry : Nat := 0x0501
def stIntegrity : Nat := 0x0601

/-! ### Envelopes, completions and issuers -/

/-- Issuer identities of Table 3.1: kinds 1 voted lane channel, 2 credential, 3 peer module, 4 pre-login session. -/
def issuerOf (kind index : Nat) : Nat := kind * 2 ^ 24 + index % 2 ^ 16

/-- Kind and index of an issuer identity. -/
def issuerKind (i : Nat) : Nat := i / 2 ^ 24
def issuerIndex (i : Nat) : Nat := i % 2 ^ 16

/-- Issuer identity of a session (R67); a peer without a role mapping counts under its traffic context (log entry 14). -/
def sessionIssuer (n : Nat) (x : Session) : Nat :=
  match x.kind with
  | .login => issuerOf 2 (x.credential.getD 0)
  | .peer => issuerOf 3 (x.credential.getD (x.context.getD n))
  | .preLogin | .enrolment => issuerOf 4 n

/-- Bytes 0x00 to 0x1B of an envelope header (Table 3.2). -/
def envelopeHeader (m : Msg) (code : Nat) : Bytes :=
  le 4 m.magic.toNat ++ [m.version, m.flags] ++ le 2 code ++ le 4 m.token.toNat ++ le 4 m.epoch.toNat ++ le 4 m.length.toNat ++
    le 4 m.issuer.toNat ++ le 4 m.reserved.toNat

/-- A completion: the 32-byte header of Table 3.3 and its result (R70). -/
def completionBytes (version flags code token epoch status issuer : Nat) (result : Bytes) : Bytes :=
  let h := le 4 0x4343584B ++ le 1 version ++ le 1 flags ++ le 2 code ++ le 4 token ++ le 4 epoch ++ le 2 status ++ le 2 0 ++
    le 4 result.length ++ le 4 issuer
  h ++ le 4 (crc32 h) ++ result

/-! ### Squall registers that the mailbox reads (Tables 17.13) -/

/-- Delay of completions to sessions, and to lane channels, in half-nanoseconds: 0 unless Test is Squall (R524). -/
def sessionDelay (s : State) : Nat :=
  if s.test.squall && hasBit s.test.mbxDelay.toNat 17 then micro (s.test.mbxDelay.toNat % 2 ^ 16) else 0
def laneDelay (s : State) : Nat :=
  if s.test.squall && hasBit s.test.mbxDelay.toNat 16 then micro (s.test.mbxDelay.toNat % 2 ^ 16) else 0

/-- One more perturbation applied. -/
def countApplied (s : State) : State := modTest (fun t => { t with applied := t.applied + 1 }) s

/-! ### Delivery -/

/-- A protected message counted on a context (R57). -/
def countMessage (c : Nat) (s : State) : State :=
  modTrust (fun t => { t with contexts := Tbl.update t.contexts c fun x => { x with messages := x.messages + 1 } }) s

/-- Bytes leave on a session: on a TLS session's stream, or as one reply on the reply ComId of a hardware session, whose context has
protected one more message (R57, R85, R86); nothing on a session that has ended. -/
def sendNow (n : Nat) (bytes : Bytes) (s : State) : State :=
  match Tbl.find s.trust.sessions n with
  | none => s
  | some x => match x.kind, x.context with
    | .peer, some c => emit (.reply n s.mbx.replyComId bytes) (countMessage c s)
    | _, _ => emit (.completion n bytes) s

/-- Bytes sent on a session, held first where the Squall response delay applies. -/
def sendSession (n : Nat) (credit : Bool) (bytes : Bytes) (s : State) : State :=
  if Tbl.has s.trust.sessions n then
    if sessionDelay s = 0 then sendNow n bytes s
    else modMbx (fun m => { m with delayed := m.delayed ++ [⟨n, bytes, s.time + sessionDelay s, credit⟩] }) (countApplied s)
  else s

/-- A completion or notice made for a voted channel, which waits for its owner's freeze (R79); while the program runs, one for a
channel without an owner is dropped (R228). -/
def sendChannel (k token : Nat) (bytes : Bytes) (s : State) : State :=
  if programRuns s && (channelOwner s k).isNone then s
  else
    let s := if laneDelay s = 0 then s else countApplied s
    modMbx (fun m => { m with completions := m.completions ++ [⟨k, token, bytes, s.time + laneDelay s⟩] }) s

/-- A completion leaves for its issuer: on the channel, or on every session still open that issued or re-issued it. -/
def releaseCompletion (h : HeldCompletion) (s : State) : State :=
  match h.channel with
  | some k => sendChannel k h.token h.bytes s
  | none => h.sessions.foldl (fun t n => sendSession n (h.origin = some n) h.bytes t) s

/-- Delivery of a final completion (R247): an Active with a ready partner first waits for its acknowledgement. -/
def deliverCompletion (h : HeldCompletion) (s : State) : State :=
  if s.pair.role = .active && partnerReady s then modPair (fun p => { p with awaitingAck := p.awaitingAck ++ [h] }) s
  else releaseCompletion h s

/-! ### The Slipstream engine's sending side (R239 to R242) -/

/-- The module's public keys. -/
def ecPublic (s : State) : Bytes := padTo 97 ((s.trust.identity.map Config.ecdsaPublic).getD [])
def pqPublic (s : State) : Bytes := padTo 1952 ((s.trust.identity.map Config.mldsaPublic).getD [])

/-- The module identifier (R40). -/
def identifier (s : State) : Bytes := padTo 16 (Config.sha384 (ecPublic s ++ pqPublic s))

/-- Priority of a message kind, 1 the highest (Table 7.4). -/
def slipPriority : Nat → Nat
  | 2 => 1 | 3 => 2 | 4 => 3 | 5 => 3 | 6 => 4 | 7 => 5 | 1 => 6 | 8 => 6 | _ => 7

/-- The sending side of a port, 0 X22 or 1 X23. -/
def slipPort (s : State) (p : Nat) : SlipPort := if p = 0 then s.pair.link0 else s.pair.link1
def modSlip (p : Nat) (f : SlipPort → SlipPort) (s : State) : State :=
  modPair (fun x => if p = 0 then { x with link0 := f x.link0 } else { x with link1 := f x.link1 }) s

/-- Payload bytes of one fragment, and the fragments of a message. -/
def fragmentSize : Nat := 1452
def fragmentCount (body : Bytes) : Nat := max 1 ((body.length + fragmentSize - 1) / fragmentSize)

/-- The message whose fragment a port starts next: the highest priority, in sender order. -/
def nextMessage : List SlipMsg → Option SlipMsg
  | [] => none
  | m :: rest =>
    match nextMessage rest with
    | some n => if slipPriority n.kind < slipPriority m.kind then some n else some m
    | none => some m

/-- Header of the next fragment of a message (Table 7.3). -/
def fragmentHeader (m : SlipMsg) : Bytes :=
  let rest := m.body.length - m.sent
  le 4 0x5353584B ++ le 1 1 ++ le 1 m.kind ++ le 2 (bit (rest ≤ fragmentSize)) ++ le 8 (m.sequence + m.sent / fragmentSize) ++ le 4 m.message ++
    le 4 m.sent ++ le 4 m.body.length ++ le 2 (min rest fragmentSize) ++ le 2 0

/-- A message after its next fragment has started: none once it has wholly started. -/
def afterFragment (m : SlipMsg) : Option SlipMsg :=
  if m.body.length ≤ m.sent + fragmentSize then none else some { m with sent := m.sent + fragmentSize }

/-- Nonce of a fragment (R241): the direction value, which is the sender's side (log entry 143), and the sequence. -/
def fragmentNonce (s : State) (header : Bytes) : Bytes := le 4 s.module.side ++ Bytes.slice header 8 8

/-- Ciphertext and tag of a fragment. Before there are traffic keys a HELLO leaves in clear, its tag bytes 0 (log entry 143). -/
def sealFragment (s : State) (key : Option Bytes) (header payload : Bytes) : Bytes × Bytes :=
  match key with
  | some k =>
    let c := Config.slipSeal k (fragmentNonce s header) header payload
    (padTo payload.length c.1, padTo 16 c.2)
  | none => (payload, padTo 16 [])

/-- The Ethernet frame of a fragment (R239, R240): the peer's burnt-in address, the own one, EtherType 0x88B5, header, payload and tag. -/
def fragmentFrame (s : State) (p : Nat) (m : SlipMsg) : Bytes :=
  let header := fragmentHeader m
  let c := sealFragment s m.key header (Bytes.slice m.body m.sent fragmentSize)
  padTo 6 (Config.slipMac (padTo 16 s.pair.peer) p) ++ padTo 6 (Config.slipMac (identifier s) p) ++ [0x88, 0xB5] ++ header ++ c.1 ++ c.2

/-- A port starts its next fragment. -/
def startFragment (p : Nat) (s : State) : State :=
  match nextMessage (slipPort s p).queue with
  | none => s
  | some m =>
    let frame := fragmentFrame s p m
    emit (.fragment p frame) (modSlip p (fun x => { x with
      sending := true, startAt := none, queue := x.queue.filterMap fun y => if y.message = m.message then afterFragment m else some y }) s)

/-- The latency that Squall adds to each fragment of a port (R524). -/
def slipLatency (s : State) (p : Nat) : Nat :=
  if s.test.squall && hasBit s.test.slipLatency.toNat (16 + p) then micro (s.test.slipLatency.toNat % 2 ^ 16) else 0

/-- An idle port with light and something to send: its next fragment starts, after the Squall latency where there is one. -/
def serveSlip (p : Nat) (s : State) : State :=
  let x := slipPort s p
  if !hasBit s.pair.portsUp p || x.sending || x.startAt.isSome || x.queue.isEmpty then s
  else if slipLatency s p = 0 then startFragment p s
  else modSlip p (fun x => { x with startAt := some (s.time + slipLatency s p) }) (countApplied s)

/-- The traffic key in force. -/
def slipKeyNow (s : State) : Option Bytes := s.pair.secret.map fun x => Config.slipKey x s.pair.keyNumber

/-- 2³² messages and 24 h: the life of a traffic key (R57, R241). -/
def keyLife (p : PairSt) (fragments now : Nat) : Bool := p.keyUses + fragments ≤ 2 ^ 32 && now < p.keyedAt + second 86400

/-- The traffic key counts the fragments that it is to protect; before its life ends the next one replaces it, while messages already queued
leave under the old one (R56, R57). -/
def useKey (fragments : Nat) (s : State) : State :=
  modPair (fun p =>
    if keyLife p fragments s.time then { p with keyUses := p.keyUses + fragments }
    else { p with keyNumber := p.keyNumber + 1, keyedAt := s.time, keyUses := fragments }) s

/-- A message handed to the engine for some ports, as a mask: every fragment goes out on those that are lit, with one sequence number. -/
def sendSlipOn (ports kind : Nat) (body : Bytes) (s : State) : State :=
  let n := fragmentCount body
  let s := useKey n s
  let m : SlipMsg := { kind := kind, message := s.pair.message, sequence := s.pair.sequence, body := body, key := slipKeyNow s }
  let put (x : SlipPort) (p : Nat) : SlipPort := if hasBit (s.pair.portsUp &&& ports) p then { x with queue := x.queue ++ [m] } else x
  let s := modPair (fun x => { x with message := x.message + 1, sequence := x.sequence + n, link0 := put x.link0 0, link1 := put x.link1 1 }) s
  serveSlip 1 (serveSlip 0 (emit (.slipstream kind body) s))

/-- A message handed to the engine: it goes out on both ports. -/
def sendSlip (kind : Nat) (body : Bytes) (s : State) : State := sendSlipOn 3 kind body s

/-- A message to the partner, when one is present (Table 7.4). -/
def slipstream (kind : Nat) (body : Bytes) (s : State) : State := if s.pair.present then sendSlip kind body s else s

/-! ### The receiving side (R239, R241) -/

/-- Every fragment of a message has come with a tag that verifies. -/
def wholeArrival (got : SlipArrival) : Bool := (List.range got.count).all fun n => got.copies.any fun c => c.fragment = n && c.tagOk

/-- A fragment of a message has come on a port. -/
def cameOn (got : SlipArrival) (p n : Nat) : Bool := got.copies.any fun c => c.port = p && c.fragment = n && c.tagOk

/-- Fragments lost on a port: those that came on the other alone. -/
def lostOn (got : SlipArrival) (p : Nat) : Nat := ((List.range got.count).filter fun n => cameOn got (1 - p) n && !cameOn got p n).length

/-- Copies that verify. -/
def goodCopies (got : SlipArrival) : List SlipCopy := got.copies.filter SlipCopy.tagOk

/-- The counters of the receiving side: copies dropped for their tag, second copies dropped, and fragments that one port has lost. -/
def countArrival (got : SlipArrival) (s : State) : State :=
  let kept := ((List.range got.count).filter fun n => (goodCopies got).any fun c => c.fragment = n).length
  modPair (fun p => { p with
    tagFailures := p.tagFailures + (got.copies.filter fun c => !c.tagOk).length, duplicates := p.duplicates + ((goodCopies got).length - kept)
    lost0 := p.lost0 + lostOn got 0, lost1 := p.lost1 + lostOn got 1 }) s

/-! ### Token tables (R97) -/

/-- The token table of an issuer. -/
def tokenTable (s : State) (issuer : Nat) : TokenTable := Tbl.get s.mbx.tables issuer {}

/-- An issuer's token table replaced. -/
def setTable (issuer : Nat) (t : TokenTable) (s : State) : State :=
  modMbx (fun m => { m with tables := Tbl.put m.tables issuer t }) s

/-- The newest 32 of a list. -/
def last32 {α : Type} (l : List α) : List α := l.drop (l.length - 32)

/-- A final completion stored for re-issue; a result above 1 KiB is not kept. -/
def TokenTable.store (t : TokenTable) (c : Stored) : TokenTable :=
  { t with stored := last32 (t.stored.filter (fun x => x.token != c.token) ++ [c]) }

/-- A token put on the discard list. -/
def TokenTable.discard (t : TokenTable) (token : Nat) : TokenTable :=
  { t with discards := last32 (t.discards.filter (· != token) ++ [token]) }

/-- How a token is handled (the table of R97). -/
inductive TokenClass where
  | replay (c : Stored)
  | attach (id : Nat)
  /-- its completion is made and waits for the partner's acknowledgement -/
  | awaiting
  | fresh
  | old
  deriving DecidableEq, Repr

/-- Classification of a token by the first row that applies. -/
def tokenClass (s : State) (issuer token : Nat) : TokenClass :=
  let t := tokenTable s issuer
  match s.mbx.queue.find? fun e => e.issuer = issuer && e.token = token with
  | some e => .attach e.id
  | none =>
    if s.pair.awaitingAck.any fun h => h.issuer = issuer && h.token = token then .awaiting
    else
      match t.stored.find? fun c => c.token = token with
      | some c => if c.kept then .replay c else .fresh
      | none =>
        if t.discards.contains token then .fresh
        else
          match t.newest with
          | none => .fresh
          | some n =>
            let ahead := (token + 2 ^ 32 - n) % 2 ^ 32
            if 0 < ahead && ahead < 2 ^ 31 then .fresh else .old

/-! ### Commands -/

/-- Who may issue a command: the Issuers column of its table. -/
structure Issuers where
  lanes : Bool := false
  /-- any session after login, and any hardware session -/
  session : Bool := false
  preLogin : Bool := false
  enrolment : Bool := false
  /-- roles: bit 0 Observer, 1 Operator, 2 Maintainer, 3 Safety commissioner, 4 Owner -/
  roles : Nat := 0
  deriving DecidableEq, Repr

/-- Role masks. -/
def operator : Nat := 2
def maintainer : Nat := 4
def safety : Nat := 8
def owner : Nat := 16

/-- Whether an issuer with roles holds the right for a command (R43, R50). -/
def Issuers.allow (i : Issuers) (s : State) (issuer roles : Nat) : Bool :=
  match issuerKind issuer with
  | 1 => i.lanes
  | 4 => if unenrolled s then i.enrolment else i.preLogin
  | _ => i.session || roles &&& i.roles != 0

/-- What the execution of a command answers. -/
inductive Reply where
  /-- it completes now with a status and a result -/
  | done (status : Nat) (result : Bytes)
  /-- it goes on: where it stands, and whether it has committed -/
  | goesOn (phase : EntryPhase) (committed : Bool)
  deriving DecidableEq, Repr

/-- A command: who may issue it, whether its waiting places are exhausted (R90), and what it does. -/
structure Command where
  issuers : Issuers
  busy : State → Nat → Bytes → Bool := fun _ _ _ => false
  body : Entry → State → State × Reply

/-- Refusals and plain answers of a body. -/
def fails (status : Nat) (s : State) : State × Reply := (s, .done status [])
def answers (result : Bytes) (s : State) : State × Reply := (s, .done stOk result)

/-- The entry of a number in the acceptance queue. -/
def entryOf (s : State) (id : Nat) : Option Entry := s.mbx.queue.find? fun e => e.id = id

/-- An entry changed in the queue. -/
def modEntry (id : Nat) (f : Entry → Entry) (s : State) : State :=
  modMbx (fun m => { m with queue := m.queue.map fun e => if e.id = id then f e else e }) s

/-- An entry marked committed: an epoch change no longer discards it (R94). -/
def commitEntry (id : Nat) (s : State) : State := modEntry id (fun e => { e with committed := true }) s

/-- The limit of a result on its carrier (R72). -/
def resultFits (e : Entry) (result : Bytes) : Bool :=
  if e.channel.isSome then result.length ≤ 480 else issuerKind e.issuer != 3 || result.length ≤ 65000

/-- A command ends: it leaves the queue, its completion is stored and forwarded to the partner, and is delivered. `epoch` is the
epoch current when the completion is made. -/
def finish (epoch : Nat) (e : Entry) (status : Nat) (result : Bytes) (s : State) : State :=
  let e := (entryOf s e.id).getD e
  let status := if resultFits e result then status else stTooLarge
  let result := if resultFits e result then result else []
  let bytes := completionBytes 1 0 e.code e.token epoch status e.issuer result
  let c : Stored := ⟨e.token, e.code, status, epoch, if result.length ≤ 1024 then result else [], result.length ≤ 1024⟩
  let s := modMbx (fun m => { m with queue := m.queue.filter fun x => x.id != e.id }) s
  let s := setTable e.issuer ((tokenTable s e.issuer).store c) s
  let s := if s.pair.role = .active then slipstream 4 (le 4 e.issuer ++ le 4 e.token ++ bytes) s else s
  deliverCompletion ⟨e.issuer, e.token, e.origin, e.sessions, e.channel, bytes⟩ s

/-- An outstanding command completes at an event of its block. -/
def completeEntry (id status : Nat) (result : Bytes) (s : State) : State :=
  match entryOf s id with
  | some e => finish s.mbx.epoch e status result s
  | none => s

/-- What commands that are no longer in the queue had left waiting in their blocks goes with them: a dissolve not yet started, a freeze
being made, marks and window closings due at the next tick, requested self-test rounds, a voter test not yet begun, values not yet sent to a
bus, and an unlock that waits (R94, R98). -/
def dropDead (s : State) : State :=
  let alive (id : Nat) : Bool := (entryOf s id).isSome
  let dissolve (x : FilterChannel) : FilterChannel :=
    { x with dissolve := x.dissolve.filter fun d => d.started || alive d.entry }
  let s := modSignal (fun g => { g with channels := g.channels.map fun p => (p.1, dissolve p.2) }) s
  let s := modRecorder (fun r => { r with freeze := r.freeze.filter fun f => f.since.isSome || alive f.entry }) s
  let s := modPos (fun p => { p with waiting := p.waiting.filter alive }) s
  let s := modTest (fun t => { t with requested := t.requested.filter fun r => r.2.all alive }) s
  let s := modVoter (fun v => { v with testRunning := v.testRunning.filter fun r => r.1.all alive }) s
  let write (x : MvbPort) : MvbPort := { x with write := x.write.filter fun w => w.sent.isSome || alive w.entry }
  let lock (x : Semaphore) : Semaphore := { x with unlock := x.unlock.filter alive }
  modMvb (fun b => { b with ports := b.ports.map (fun p => (p.1, write p.2)), semaphores := b.semaphores.map fun p => (p.1, lock p.2) }) s

/-- Every accepted, uncommitted command that acts on a target completes with CANCELLED, and no part of its effect is released (R98). -/
def cancelTargets (p : Entry → Bool) (s : State) : State :=
  let victims := s.mbx.queue.filter fun e => !e.committed && p e
  dropDead (victims.foldl (fun t e => completeEntry e.id stCancelled [] t)
    (modMbx (fun m => { m with cancelled := m.cancelled + victims.length }) s))

/-- The execution of a granted command, and what its answer makes of its entry. -/
def run (c : Command) (e : Entry) (s : State) : State :=
  match c.body e s with
  | (t, .done status result) => finish s.mbx.epoch e status result t
  | (t, .goesOn phase committed) => modEntry e.id (fun x => { x with phase := phase, committed := x.committed || committed }) t

/-- Slate's authorisation and then execution (steps 7 and 8 of Table 3.6A). -/
def serve (commands : Nat → Option Command) (e : Entry) (s : State) : State :=
  match commands e.code with
  | none => finish s.mbx.epoch e stUnknown [] s
  | some c => if c.issuers.allow s e.issuer e.roles then run c e s else finish s.mbx.epoch e stDenied [] s

/-! ### Acceptance (R88) -/

/-- A command that has passed step 1. -/
structure Arrival where
  code : Nat
  issuer : Nat
  token : Nat
  epoch : Nat
  payload : Bytes
  session : Option Nat
  channel : Option Nat
  roles : Nat
  source : Nat := 0
  sealKey : Bytes := []
  deriving DecidableEq, Repr

/-- An answer that is not stored: a replay or a refusal before acceptance. -/
def answerArrival (a : Arrival) (flags epoch status : Nat) (result : Bytes) (s : State) : State :=
  let bytes := completionBytes 1 flags a.code a.token epoch status a.issuer result
  match a.channel, a.session with
  | some k, _ => sendChannel k a.token bytes s
  | none, some n => sendSession n false bytes s
  | none, none => s

/-- A refusal before acceptance, with the counters of MAILBOX_COUNTERS. -/
def refuseArrival (a : Arrival) (status : Nat) (s : State) : State :=
  let s := modMbx (fun m => { m with staleEpoch := m.staleEpoch + bit (status = stStaleEpoch),
                                     busyRetry := m.busyRetry + bit (status = stBusyRetry) }) s
  answerArrival a 0 s.mbx.epoch status [] s

/-- Class of a command code, and whether the class is disabled for an issuer's kind (R102). -/
def classOf (code : Nat) : Nat := code / 256
def classDisabled (s : State) (issuer code : Nat) : Bool :=
  hasBit (Tbl.get s.mbx.disabled (classOf code) 0) (if issuerKind issuer = 1 then 0 else 1)

/-- Credits that a session's outstanding commands hold (R68). -/
def sessionCredits (s : State) (n : Nat) : Nat :=
  (s.mbx.queue.filter fun e => e.origin = some n).length + (s.pair.awaitingAck.filter fun h => h.origin = some n).length +
    (s.mbx.delayed.filter fun d => d.credit && d.session = n).length

/-- Whether a credit is available: 4 for a session after login, 1 before it; a voted lane command has its copies' credits. -/
def creditFree (s : State) (a : Arrival) : Bool :=
  match a.session with
  | some n => sessionCredits s n < (if issuerKind a.issuer = 4 then 1 else 4)
  | none => true

/-- A SAFETY-class command of a lane channel or of the Safety commissioner's session stands in the fast lane (R91). -/
def isFast (a : Arrival) : Bool :=
  classOf a.code = 6 && (issuerKind a.issuer = 1 || issuerKind a.issuer = 2 && hasBit a.roles 3)

/-- The queue entry of an accepted command. -/
def newEntry (s : State) (a : Arrival) : Entry where
  id := s.mbx.nextId
  code := a.code
  issuer := a.issuer
  token := a.token
  epoch := a.epoch
  payload := a.payload
  stamp := gfCount s
  origin := a.session
  sessions := a.session.toList
  channel := a.channel
  roles := a.roles
  fast := isFast a
  phase := .under
  committed := false
  source := a.source
  sealKey := a.sealKey

/-- An entry comes before another in the acceptance queue: by stamp, then by issuer identity, then by token (R89). -/
def Entry.before (a b : Entry) : Bool :=
  a.stamp < b.stamp || a.stamp = b.stamp && (a.issuer < b.issuer || a.issuer = b.issuer && a.token < b.token)

/-- An entry in its place in the acceptance queue. -/
def insertEntry (e : Entry) : List Entry → List Entry
  | [] => [e]
  | x :: l => if e.before x then e :: x :: l else x :: insertEntry e l

/-- Step 6: the command is stamped and enters the queue, and its token becomes the newest of its issuer. -/
def accept (a : Arrival) (s : State) : State :=
  let t := tokenTable s a.issuer
  let newest := match t.newest with
    | some n => if (a.token + 2 ^ 32 - n) % 2 ^ 32 < 2 ^ 31 then some a.token else some n
    | none => some a.token
  let s' := setTable a.issuer { t with newest := newest, discards := t.discards.filter (· != a.token) } s
  modMbx (fun m => { m with queue := insertEntry (newEntry s a) m.queue, nextId := m.nextId + 1, accepted := m.accepted + 1,
                            maxDepth := max m.maxDepth (m.queue.length + 1) }) s'

/-- A session named in a list once. -/
def addSession (a : Arrival) (l : List Nat) : List Nat :=
  match a.session with
  | some n => if l.contains n then l else l ++ [n]
  | none => l

/-- A second credit that a lane has taken for one command returns: it holds credit once for each (R76). -/
def LaneMbx.spareCredit (k token : Nat) (w : LaneMbx) : LaneMbx :=
  { w with channels := Tbl.update w.channels k fun c => if 1 < c.credits.count token then { c with credits := c.credits.erase token } else c }

/-- Each lane returns the credit of a copy that attached to an outstanding command (R76). -/
def returnCredit (k token : Nat) (s : State) : State :=
  modMbx (fun m => { m with lanes := m.lanes.map fun _ w => w.spareCredit k token }) s

/-- Steps 2 to 8 of Table 3.6A for a command that has passed step 1. -/
def present (commands : Nat → Option Command) (a : Arrival) (s : State) : State :=
  match tokenClass s a.issuer a.token with
  | .replay c =>
    answerArrival { a with code := c.code } 1 c.epoch c.status c.result (modMbx (fun m => { m with replays := m.replays + 1 }) s)
  | .attach id =>
    let s := modEntry id (fun e => { e with sessions := addSession a e.sessions }) s
    let s := match a.channel with
      | some k => returnCredit k a.token s
      | none => s
    modMbx (fun m => { m with attachments := m.attachments + 1 }) s
  | .awaiting =>
    let s := modPair (fun p => { p with awaitingAck := p.awaitingAck.map fun h =>
      if h.issuer = a.issuer && h.token = a.token then { h with sessions := addSession a h.sessions } else h }) s
    let s := match a.channel with
      | some k => returnCredit k a.token s
      | none => s
    modMbx (fun m => { m with attachments := m.attachments + 1 }) s
  | .old => refuseArrival a stTokenOld s
  | .fresh =>
    if a.epoch != s.mbx.epoch then refuseArrival a stStaleEpoch s
    else if classDisabled s a.issuer a.code then refuseArrival a stClassDisabled s
    else if !creditFree s a then refuseArrival a stBusyRetry s
    else
      match commands a.code with
      | some c => if c.busy s a.issuer a.payload then refuseArrival a stBusyRetry s
                  else serve commands (newEntry s a) (accept a s)
      | none => serve commands (newEntry s a) (accept a s)

/-! ### The end of a session (R52 to R54) -/

/-- A context retires: a Live one receives for 2 s more, one that is only Keyed is Free at once (Table 2.6). -/
def retireContext (now c : Nat) (t : Tbl SaContext) : Tbl SaContext :=
  match Tbl.find t c with
  | some x => match x.state with
    | .keyed => Tbl.erase t c
    | .live => Tbl.put t c { x with state := .draining, drainEnd := now + second 2 }
    | .draining => t
  | none => t

/-- A session ends: nothing more is delivered on it, and a hardware session's traffic context retires (R54). -/
def dropSession (n : Nat) (s : State) : State :=
  match Tbl.find s.trust.sessions n with
  | none => s
  | some x =>
    let s := modTrust (fun t => { t with sessions := Tbl.erase t.sessions n,
                                         contexts := match x.context with
                                           | some c => retireContext s.time c t.contexts
                                           | none => t.contexts }) s
    let s := modMbx (fun m => { m with queue := m.queue.map fun e => { e with sessions := e.sessions.filter (· != n) },
                                       delayed := m.delayed.filter (fun d => d.session != n), closing := m.closing.filter fun c => c.1 != n }) s
    let s := modPair (fun p => { p with awaitingAck := p.awaitingAck.map fun h =>
      { h with sessions := h.sessions.filter (· != n) } }) s
    emit (.sessionClosed n) s

/-- The completion of a session's command is made but not yet sent: it waits for the partner, or the Squall delay holds it. -/
def completionHeld (s : State) (c : Nat × Nat × Nat) : Bool :=
  s.pair.awaitingAck.any (fun h => h.issuer = c.2.1 && h.token = c.2.2) || s.mbx.delayed.any fun d => d.session = c.1 && Bytes.field d.bytes 8 4 = c.2.2

/-- Sessions that end after a completion, which has been sent by now (R53). -/
def closable (s : State) : List Nat := (s.mbx.closing.filter fun c => !completionHeld s c).map Prod.fst

/-- They end at the end of Test mode, whose own session has ended it already. -/
def settleDropped (s : State) : State := (closable s).foldl (fun t n => dropSession n t) s

/-! ### End of Test mode (R522) -/

/-- Completions that the Squall delay holds are sent. -/
def flushDelayed (s : State) : State :=
  let d := s.mbx.delayed
  let s := modMbx (fun m => { m with delayed := [], completions := m.completions.map fun c => { c with notBefore := 0 } }) s
  settleDropped (d.foldl (fun t x => sendNow x.session x.bytes t) s)

/-- Fragments that the Squall latency holds start. -/
def flushSlip (s : State) : State :=
  let now (p : Nat) (s : State) : State := if (slipPort s p).startAt.isSome then startFragment p s else s
  now 1 (now 0 s)

/-- Test returns to Off for a cause: the Squall registers are reset, delays in progress end, and the exit is recorded (causes 1
TEST_EXIT, 2 end of the session, 3 limit, 4 condition lapsed, 5 Lock-out, 6 takeover or handover; log entry 15). -/
def testOff (cause : Nat) (s : State) : State :=
  if s.test.squall then
    let name := s.test.credential
    let s := modTest (fun t => { t with squall := false, mbxDelay := 0, bpPorts := 0, backpressure := 0, jitter := 3,
                                        slipLatency := 0, corrupt := 0, seed := 0, x := 0 }) s
    let s := modNet (fun n => { n with ports := n.ports.map fun p => (p.1, { p.2 with heldUntil := 0 }) }) s
    record .juridical 0x12 0 (padTo 32 name ++ le 1 1 ++ le 1 cause) (flushSlip (flushDelayed s))
  else s

/-- The conditions of R521 that must go on holding. -/
def testConditions (s : State) : Bool :=
  s.module.testEn && standstill s && s.pair.role != .active &&
    (s.module.state = .service || s.module.state = .maintenance) && !s.trust.ownerLock && s.update.axis != 2

/-- Test ends when a condition of R521 has lapsed. -/
def testGate (s : State) : State := if testConditions s then s else testOff 4 s

/-- A session ends, and with it a Test mode that it entered (R522). -/
def endSession (n : Nat) (s : State) : State :=
  if Tbl.has s.trust.sessions n then dropSession n (if s.test.squall && s.test.session = n then testOff 2 s else s) else s

/-- A session ends after the completion of its own command: at once, or when a completion that is held has been sent (R53). -/
def endAfter (n issuer token : Nat) (s : State) : State :=
  if completionHeld s (n, issuer, token) then modMbx (fun m => { m with closing := m.closing ++ [(n, issuer, token)] }) s else endSession n s

/-- Sessions that waited for a completion to be sent end. -/
def settleClosing (s : State) : State := (closable s).foldl (fun t n => endSession n t) s

/-! ### Commands from sessions -/

/-- Limit of a payload on a session's carrier (R72). -/
def payloadLimit (x : Session) : Nat := if x.kind = .peer then 65000 else 1048576

/-- The header fields of a session's envelope are as R88 step 1 asks, but for the version. -/
def headerOk (m : Msg) (code : Nat) (x : Session) : Bool :=
  m.magic = 0x4D43584B && m.flags.toNat < 2 && m.reserved = 0 && m.hcrc.toNat = crc32 (envelopeHeader m code) &&
    m.length.toNat ≤ payloadLimit x && (x.kind != .peer || m.payload.length = m.length.toNat)

/-- The key of a session's sealed fields (R49): the TLS exporter with the label "KXE sealed field", or, on a hardware session, the
derivation given with its context. -/
def sealKeyOf (s : State) (x : Session) : Bytes :=
  match x.context.bind fun c => Tbl.find s.trust.contexts c with
  | some c => Config.contextSealKey c.key
  | none => Config.tlsExporter x.secret (ascii "KXE sealed field")

/-- The arrival that a session's envelope makes. -/
def sessionArrival (code : Nat) (m : Msg) (x : Session) (key : Bytes) : Arrival where
  code := code
  issuer := sessionIssuer m.session x
  token := m.token.toNat
  epoch := m.epoch.toNat
  payload := m.payload.take m.length.toNat
  session := some m.session
  channel := none
  roles := x.roles
  source := x.source
  sealKey := key

/-- A copy or an envelope whose header fails its check is counted (R99). -/
def countHeaderError (s : State) : State := modMbx (fun m => { m with headerErrors := m.headerErrors + 1 }) s

/-- A TLS stream can no longer be framed, or ends inside a message (R85). -/
def streamBroken (m : Msg) (x : Session) : Bool :=
  x.kind != .peer && (m.magic != 0x4D43584B || payloadLimit x < m.length.toNat || m.payload.length < m.length.toNat)

/-- A command received on an external session: step 1 and the rest (R85 to R88). Without a mailbox interface or without the
session nothing is received. DESIGN CHOICE: an unsupported version is answered before any other fault of the header (log entry 130). -/
def receive (commands : Nat → Option Command) (code : Nat) (m : Msg) (s : State) : State :=
  match hasMailbox s, Tbl.find s.trust.sessions m.session with
  | true, some x =>
    if streamBroken m x then endSession m.session s
    else
      let a := sessionArrival code m x (sealKeyOf s x)
      let s := modTrust (fun t => { t with sessions := Tbl.put t.sessions m.session { x with lastCommand := s.time } }) s
      if m.version != 1 then
        sendSession m.session false (completionBytes 1 0 code a.token s.mbx.epoch stBadVersion a.issuer []) (countHeaderError s)
      else if !headerOk m code x then
        sendSession m.session false (completionBytes 1 0 code a.token s.mbx.epoch stBadHeader a.issuer []) (countHeaderError s)
      else present commands a (modMbx (fun b => { b with reissues := b.reissues + m.flags.toNat }) s)
  | _, _ => s

/-! ### Completion slots (R75, R79, R80) -/

/-- The four completion slots of a channel by number. -/
def LaneChannel.slot (c : LaneChannel) : Nat → Slot
  | 0 => c.slot0
  | 1 => c.slot1
  | 2 => c.slot2
  | _ => c.slot3

/-- A slot changed. -/
def LaneChannel.setSlot (c : LaneChannel) (n : Nat) (x : Slot) : LaneChannel :=
  match n with
  | 0 => { c with slot0 := x }
  | 1 => { c with slot1 := x }
  | 2 => { c with slot2 := x }
  | _ => { c with slot3 := x }

/-- A free slot. -/
def LaneChannel.freeSlot (c : LaneChannel) : Option Nat := [0, 1, 2, 3].find? fun n => (c.slot n).phase = .free

/-- A channel of a lane's window. -/
def LaneMbx.channel (w : LaneMbx) (k : Nat) : LaneChannel := Tbl.get w.channels k {}

/-- A lane's window changed. -/
def modWindow (l : Lane) (f : LaneMbx → LaneMbx) (s : State) : State :=
  modMbx (fun m => { m with lanes := m.lanes.modify l f }) s

/-- A lane's channel changed. -/
def modChannel (l : Lane) (k : Nat) (f : LaneChannel → LaneChannel) (s : State) : State :=
  modWindow l (fun w => { w with channels := Tbl.put w.channels k (f (w.channel k)) }) s

/-- Slots of a channel whose phase satisfies a test are freed, and the credits of their tokens return (R76, R80). -/
def LaneChannel.freeWhere (c : LaneChannel) (p : SlotPhase → Bool) : LaneChannel :=
  [0, 1, 2, 3].foldl (fun c n =>
    let x := c.slot n
    if p x.phase then { c.setSlot n {} with credits := c.credits.erase x.token } else c) c

/-- A take of a task has been voted with a lane in the majority: the slots it popped are freed, and the shadow entries that it
popped or fetched leave (R80, R82). -/
def laneVoted (l : Lane) (task take : Nat) (s : State) : State :=
  modWindow l (fun w =>
    { w with channels := w.channels.map fun p => (p.1, p.2.freeWhere (· = .popped task take)),
             shadow := w.shadow.filter fun e => e.popped != (task, take) && e.fetched != some (task, take) }) s

/-- Voted takes of a task counted for the shadow entries that an epoch change left unvoted. -/
def countShadow (task : Nat) (s : State) : State :=
  let owned (e : ShadowEntry) : Bool := channelOwner s e.channel = some task
  let step (e : ShadowEntry) : ShadowEntry := if owned e then { e with unvoted := e.unvoted.map (· + 1) } else e
  modMbx (fun m => { m with lanes := m.lanes.map fun _ w => { w with shadow := w.shadow.map step } }) s

/-- A lane's take still awaits its vote: the lane has not left the voting set since. -/
def awaitsVote (s : State) (l : Lane) (task take : Nat) : Bool :=
  let x := (laneOf s l).state
  s.voter.takes.any fun v => v.task = task && v.take = take && v.released.isNone && !v.decided &&
    (hasBit v.lanes l.num && x = .voting || hasBit v.probation l.num && (x = .transferring || x = .probation))

/-- At an epoch change: slots popped in takes that will not be voted are freed, and their shadow entries begin to count
(R80, R82). -/
def freeUnvoted (s : State) : State :=
  modMbx (fun m => { m with lanes := m.lanes.map fun l w =>
    { w with
      channels := w.channels.map fun p => (p.1, p.2.freeWhere fun
        | .popped task take => !awaitsVote s l task take
        | _ => false)
      shadow := w.shadow.map fun e =>
        if e.unvoted.isNone && !awaitsVote s l e.popped.1 e.popped.2 then { e with unvoted := some 0 } else e } }) s

/-- Completions of a task's channels that are due enter the queues of its lanes at its freeze, in the order in which they
were made; one enters when every such lane has a free slot for it (R79, R80, log entry 16). `lanes` are those that execute the take. The
result is the completions taken and the state. -/
def enterCompletions (lanes : List Lane) (task : Nat) (s : State) : List ChannelCompletion × State :=
  let due (c : ChannelCompletion) : Bool := channelOwner s c.channel = some task && c.notBefore ≤ s.time
  (s.mbx.completions.filter due).foldl (fun (acc : List ChannelCompletion × State) c =>
    let t := acc.2
    let room (l : Lane) : Bool := (((t.mbx.lanes.get l).channel c.channel).freeSlot).isSome
    if lanes.all room then
      let t := lanes.foldl (fun t l => modChannel l c.channel (fun ch =>
        match ch.freeSlot with
        | some n => { ch.setSlot n ⟨.queued, c.token, c.bytes⟩ with ready := ch.ready ++ [n] }
        | none => ch) t) t
      (acc.1 ++ [c], modMbx (fun m => { m with completions := m.completions.erase c }) t)
    else acc) ([], s)

/-! ### The epoch (R93 to R95) -/

/-- One DISCARDED notice, with the token put on its issuer's discard list. -/
def discardOne (issuer token code : Nat) (channel : Option Nat) (sessions : List Nat) (s : State) : State :=
  let bytes := completionBytes 1 0 code token s.mbx.epoch stDiscarded issuer []
  let s := setTable issuer ((tokenTable s issuer).discard token) s
  let s := modMbx (fun m => { m with discarded := m.discarded + 1 }) s
  match channel with
  | some k => sendChannel k token bytes s
  | none => sessions.foldl (fun t n => sendSession n false bytes t) s

/-- Channel and token of a held copy or of a voted issue, each once. -/
def heldTokens (s : State) : List (Nat × Nat × Nat) :=
  ((s.mbx.held.map fun h => (h.channel, h.token, Bytes.field h.envelope 6 2)) ++
    (s.mbx.voted.map fun v => (v.channel, v.token, Bytes.field v.envelope 6 2))).foldl
    (fun l x => if l.any fun y => y.1 = x.1 && y.2.1 = x.2.1 then l else l ++ [x]) []

/-- What an epoch change takes from the blocks: what discarded commands had left waiting, and the semaphores of lane channels (R94,
R429). -/
def dropOrphans (s : State) : State :=
  let s := dropDead s
  let lost (bus : Nat) : Nat := (s.mvb.semaphores.filter fun p => issuerKind p.2.holder = 1 && p.2.ports.any fun h => h / 4096 = bus).length
  modMvb (fun b => { b with semaphores := b.semaphores.filter fun p => issuerKind p.2.holder != 1
                            bus0 := { b.bus0 with semaphoresLost := b.bus0.semaphoresLost + lost 0 }
                            bus1 := { b.bus1 with semaphoresLost := b.bus1.semaphoresLost + lost 1 } }) s

/-- The epoch increments: the new value is stored, every command accepted but not committed and every held lane copy is
discarded with a notice, semaphores of lane channels are released, and the module event is signalled. A Standby discards only
commands of its own sessions and holds no copies (R246). -/
def epochIncrement (s : State) : State :=
  let victims := s.mbx.queue.filter fun e => !e.committed
  let copies := if s.pair.role = .standby then [] else
    (heldTokens s).filter fun x => !victims.any fun e => e.channel = some x.1 && e.token = x.2.1
  let s := modMbx (fun m => { m with epoch := (m.epoch + 1) % 2 ^ 32, storedEpoch := (m.epoch + 1) % 2 ^ 32,
                                     queue := m.queue.filter fun e => e.committed, held := [], voted := [] }) s
  let s := victims.foldl (fun t e => discardOne e.issuer e.token e.code e.channel e.sessions t) s
  let s := copies.foldl (fun t x => discardOne (issuerOf 1 x.1) x.2.1 x.2.2 (some x.1) [] t) s
  pulse 6 0 (freeUnvoted (dropOrphans s))

/-- An increment at a take boundary: events that fall at the same one increment the epoch once (R93). -/
def epochAtBoundary (s : State) : State :=
  if s.voter.epochAt = some s.time then s
  else modVoter (fun v => { v with epochAt := some s.time }) (epochIncrement s)

end Sys2Proof.Machine
end

