-- ==== Sys2Proof/Machine/Operands.lean ====
section
/-! DEFINITION. How commands read their requests: lengths, fields, sealed fields, and the names of issuers. -/

namespace Sys2Proof.Machine

/-- A body whose request has a fixed length; any other length is a malformed request (R85, R88 step 7). -/
def sized (n : Nat) (f : Entry → State → State × Reply) (e : Entry) (s : State) : State × Reply :=
  if e.payload.length = n then f e s else fails stBadArgument s

/-- An unsigned field of the request. -/
def Entry.field (e : Entry) (o n : Nat) : Nat := Bytes.field e.payload o n

/-- A signed field of the request. -/
def Entry.fieldInt (e : Entry) (o n : Nat) : Int := Bytes.fieldInt e.payload o n

/-- Bytes of the request. -/
def Entry.slice (e : Entry) (o n : Nat) : Bytes := Bytes.slice e.payload o n

/-- Reserved fields of the request, given as offset and length, are 0 (R10). -/
def Entry.clear (e : Entry) (l : List (Nat × Nat)) : Bool := l.all fun f => e.field f.1 f.2 = 0

/-- A sealed field at an offset of a request: the 2-byte length, then nonce, ciphertext and tag (R49). None where the length is below
28 or runs past the end. -/
structure Sealed where
  nonce : Bytes
  cipher : Bytes
  tag : Bytes
  /-- offset after the field -/
  next : Nat
  deriving DecidableEq, Repr

/-- The sealed field at an offset. -/
def sealedAt (bs : Bytes) (o : Nat) : Option Sealed :=
  let n := Bytes.field bs o 2
  if bs.length < o + 2 || n < 28 || bs.length < o + 2 + n then none
  else some ⟨Bytes.slice bs (o + 2) 12, Bytes.slice bs (o + 14) (n - 28), Bytes.slice bs (o + 2 + n - 16) 16, o + 2 + n⟩

/-- The plaintext of a sealed field under the key of the session on which its command came (R49, log entry 2); none where the tag
fails. -/
def Sealed.open (x : Sealed) (e : Entry) : Option Bytes := Config.gcmOpen (leNat e.sealKey) x.nonce x.cipher x.tag

/-- The session on which a command came. -/
def Entry.session (e : Entry) : Nat := e.origin.getD 0

/-- The name under which a command's issuer acts: the credential's name, or a peer's module identifier, 32 bytes. -/
def issuerName (s : State) (issuer : Nat) : Bytes :=
  match issuerKind issuer with
  | 2 => match Tbl.find s.trust.credentials (issuerIndex issuer) with
    | some c => padTo 32 c.name
    | none => padTo 32 []
  | 3 => match Tbl.find s.trust.contexts (issuerIndex issuer) with
    | some c => padTo 32 c.peer
    | none => padTo 32 []
  | _ => padTo 32 []

/-- Whether a role set holds one of the roles of a mask. -/
def anyRole (roles mask : Nat) : Bool := roles &&& mask != 0

/-- Issuers of the reads that any session and the lanes may issue. -/
def anyOrLanes : Issuers := { lanes := true, session := true }

/-- Issuers that are sessions holding one of the roles of a mask. -/
def roleOnly (mask : Nat) : Issuers := { roles := mask }

/-- Lanes and sessions holding one of the roles of a mask. -/
def roleOrLanes (mask : Nat) : Issuers := { lanes := true, roles := mask }

/-- An event whose whole effect is a next state. -/
abbrev Out := Host.Outcome State Fault Refusal

/-- A message of the partner: one that is not whole is not heard. -/
def heard (got : SlipArrival) (f : State → Out) (s : State) : Out := if wholeArrival got then f (countArrival got s) else .next (countArrival got s)

end Sys2Proof.Machine
end

