-- ==== Sys2Proof/Machine/SafeIo.lean ====
section
/-! DEFINITION. Safe inputs and outputs, the parameter set, gates, windows, change log and Lock-out flag as data (chapter 8). -/

namespace Sys2Proof.Machine

/-! ### The parameter set (R303, R304) -/

/-- The default set (R304): every output disabled; for the rest, every input unused, zone 0 at the greatest limit, no window
(log entry 21). -/
def defaultParams : Bytes :=
  le 4 0x5053584B ++ le 2 1 ++ padTo 26 [] ++ padTo 256 [] ++ padTo 128 [] ++
    (le 1 1 ++ le 1 0 ++ le 2 0 ++ le 2 0 ++ le 2 0 ++ le 4 111112 ++ le 4 0) ++ padTo 112 [] ++
    (le 2 0 ++ le 1 0xFF ++ le 1 0xFF ++ padTo 12 []) ++ padTo 128 []

/-- The body that the monitor channels use. -/
def params (s : State) : Bytes :=
  match s.safety.active with
  | some b => if s.safety.activeBad then defaultParams else b
  | none => defaultParams

/-- The parameter CRC (R304). -/
def paramCrc (b : Bytes) : Nat := crc64 b

/-- Fields of the entries of Tables 8.5 to 8.8 and of the motion field. -/
def inputField (b : Bytes) (i o n : Nat) : Nat := Bytes.field b (0x20 + 16 * i + o) n
def outputField (b : Bytes) (i o n : Nat) : Nat := Bytes.field b (0x120 + 16 * i + o) n
def zoneField (b : Bytes) (z o n : Nat) : Nat := Bytes.field b (0x1A0 + 16 * z + o) n
def motionField (b : Bytes) (o n : Nat) : Nat := Bytes.field b (0x220 + o) n
def windowField (b : Bytes) (w o n : Nat) : Nat := Bytes.field b (0x230 + 16 * w + o) n

/-- Field voltage in V of a field class. -/
def fieldVoltage : Nat → Nat
  | 0 => 24 | 1 => 36 | 2 => 48 | 3 => 72 | 4 => 96 | _ => 110

/-- The input entry of SIi keeps the rules of Table 8.5. -/
def inputEntryOk (b : Bytes) (i : Nat) : Bool :=
  let mode := inputField b i 0 1
  let pairOk := if i % 2 = 0 then mode ≤ 3 && ((mode = 2 || mode = 3) == (inputField b (i + 1) 0 1 = 4)) else mode ≤ 1 || mode = 4
  pairOk && inputField b i 8 8 = 0 &&
    (mode = 0 ||
      (inputField b i 1 1 ≤ 3 || inputField b i 1 1 = 0xFF) && inputField b i 2 1 < 2 &&
        1 ≤ inputField b i 4 2 && inputField b i 4 2 ≤ 1000 &&
        (if mode = 2 || mode = 3 then 5 ≤ inputField b i 6 2 && inputField b i 6 2 ≤ 1000 else inputField b i 6 2 = 0))

/-- The output entry of SOi keeps the rules of Table 8.6. -/
def outputEntryOk (b : Bytes) (i : Nat) : Bool :=
  outputField b i 0 1 ≤ 1 && outputField b i 3 1 = 0 && outputField b i 8 8 = 0 &&
    (outputField b i 0 1 = 0 ||
      outputField b i 1 1 ≤ 2 && outputField b i 2 1 < 16 &&
        (outputField b i 6 2 = 0 || 100 ≤ outputField b i 6 2 && outputField b i 6 2 ≤ 1000))

/-- A zone's entry keeps the rules of Table 8.7. -/
def zoneEntryOk (b : Bytes) (z : Nat) : Bool :=
  zoneField b z 0 1 ≤ 1 && zoneField b z 0xC 4 = 0 &&
    (zoneField b z 0 1 = 0 || zoneField b z 1 1 ≤ 1 && zoneField b z 6 2 ≤ 5000 && zoneField b z 8 4 ≤ 111112)

/-- A window's entry keeps the rules of Table 8.8. -/
def windowEntryOk (b : Bytes) (w : Nat) : Bool :=
  windowField b w 0 1 ≤ 1 && windowField b w 3 1 = 0 && windowField b w 0xA 6 = 0 &&
    (windowField b w 0 1 = 0 ||
      (windowField b w 1 1 = 1 || windowField b w 1 1 = 2) && windowField b w 2 1 < 2 &&
        1000 ≤ windowField b w 4 4 && windowField b w 4 4 ≤ 1000000)

/-- A selector input of the motion field. -/
def selectorOk (n : Nat) : Bool := n < 16 || n = 0xFF

/-- The body keeps the rules of R303. -/
def paramsOk (b : Bytes) : Bool :=
  b.length = 688 && Bytes.field b 0 4 = 0x5053584B && Bytes.field b 4 2 = 1 && Bytes.field b 6 2 = 0 && Bytes.field b 0x18 1 ≤ 5 &&
    Bytes.field b 0x19 7 = 0 && (List.range 16).all (inputEntryOk b) && (List.range 8).all (outputEntryOk b) &&
    (List.range 8).all (zoneEntryOk b) && (List.range 8).all (windowEntryOk b) &&
    zoneField b 0 0 1 = 1 && zoneField b 0 1 1 = 0 &&
    motionField b 0 2 ≤ 1000 && selectorOk (motionField b 2 1) && selectorOk (motionField b 3 1) && motionField b 4 12 = 0

/-! ### Safe inputs (R276 to R283) -/

/-- A safe input's state as kept. -/
def inputOf (s : State) (i : Nat) : SafeInput := Tbl.get s.safety.inputs i {}

/-- A safe input changed. -/
def modInput (i : Nat) (f : SafeInput → SafeInput) (s : State) : State :=
  modSafety (fun x => { x with inputs := Tbl.put x.inputs i (f (Tbl.get x.inputs i {})) }) s

/-- Mode of SIi, and the first input of its pair where it belongs to one. -/
def inputMode (s : State) (i : Nat) : Nat := inputField (params s) i 0 1
def pairFirst (s : State) (i : Nat) : Option Nat :=
  match inputMode s i with
  | 2 | 3 => some i
  | 4 => some (i - 1)
  | _ => none

/-- A pair reads closed, and reads open, by its two inputs' filtered readings (R280). -/
def pairClosed (s : State) (f : Nat) : Bool :=
  (inputOf s f).closed && ((inputOf s (f + 1)).closed == (inputMode s f = 2))
def pairOpen (s : State) (f : Nat) : Bool :=
  !(inputOf s f).closed && ((inputOf s (f + 1)).closed != (inputMode s f = 2))

/-- The input, or the pair it belongs to, reads closed. -/
def readsClosed (s : State) (i : Nat) : Bool :=
  match pairFirst s i with
  | some f => pairClosed s f
  | none => inputMode s i = 1 && (inputOf s i).closed

/-- The input, or the pair it belongs to, has an external fault. -/
def inputFaulted (s : State) (i : Nat) : Bool :=
  match pairFirst s i with
  | some f => (inputOf s f).fault || (inputOf s (f + 1)).fault
  | none => inputMode s i = 1 && (inputOf s i).fault

/-- State of SIi in every report: 0 open, 1 closed, 2 fault (Table 4.2). -/
def inputState (s : State) (i : Nat) : Nat := if inputFaulted s i then 2 else bit (readsClosed s i)

/-- The states of SI0 to SI15, two bits each. -/
def inputStates (s : State) : Nat := ((List.range 16).map fun i => inputState s i * 4 ^ i).sum

/-- The input has the proving flag, and is used. -/
def provingInput (s : State) (i : Nat) : Bool := inputMode s i != 0 && hasBit (inputField (params s) i 2 1) 0

/-- The proven mask (R283). -/
def provenMask (s : State) : Nat :=
  ((List.range 16).map fun i => bit (provingInput s i && (inputOf s i).proven) * 2 ^ i).sum

/-- Every proving input becomes unproven (R282). -/
def unproveAll (s : State) : State :=
  modSafety (fun x => { x with inputs := x.inputs.map fun p => (p.1, { p.2 with proven := false }) }) s

/-- An external fault of an input or of its pair: reported, and the proven bits cleared (R281). Unused inputs never report one. -/
def faultInput (i : Nat) (s : State) : State :=
  match pairFirst s i with
  | some f => modInput (f + 1) (fun x => { x with proven := false }) (modInput f (fun x => { x with fault := true, proven := false }) s)
  | none => if inputMode s i = 1 then modInput i (fun x => { x with fault := true, proven := false }) s else s

/-- An external fault clears once the input, or its pair, reads open with its test pulses correct (R281). -/
def clearFault (i : Nat) (s : State) : State :=
  let clear (x : SafeInput) : SafeInput := { x with fault := false, missedPulses := 0 }
  match pairFirst s i with
  | some f => if pairOpen s f then modInput (f + 1) clear (modInput f clear s) else s
  | none => if inputMode s i = 1 && !(inputOf s i).closed then modInput i clear s else s

/-- An input, or its pair, has gone from open to closed with its pulses correct: proving inputs become proven (R283). -/
def proveInput (i : Nat) (s : State) : State :=
  let prove (n : Nat) (t : State) : State :=
    if provingInput t n then modInput n (fun x => { x with proven := true }) t else t
  let sound (n : Nat) : Bool := (inputOf s n).missedPulses = 0
  if inputFaulted s i || !readsClosed s i then s
  else
    match pairFirst s i with
    | some f => if sound f && sound (f + 1) then prove (f + 1) (prove f s) else s
    | none => if sound i then prove i s else s

/-- The input read open before the level that its filter time has just confirmed: that time began after the sampling did (R283, log entry 83). -/
def openBefore (s : State) (i : Nat) : Bool := s.safety.sampledFrom + micro (100 * inputField (params s) i 4 2) < s.time

/-- The time of a pair's discrepancy starts or ends by the readings that stand (R280). -/
def watchPair (f : Nat) (s : State) : State :=
  let since := if pairClosed s f || pairOpen s f then none
    else match (inputOf s f).discrepantSince with
      | some t => some t
      | none => some s.time
  modInput f (fun x => { x with discrepantSince := since }) s

/-- The pairs watched from now on: the sampling has started, or another parameter set has been activated. -/
def watchPairs (s : State) : State :=
  (List.range 16).foldl (fun t i => if pairFirst t i = some i then watchPair i t else modInput i (fun x => { x with discrepantSince := none }) t) s

/-- What an acquisition path reads of a voltage (Table 8.1): between the thresholds the previous reading stands. -/
def pathReads (un mv : Nat) (previous : Bool) : Bool := 600 * un ≤ mv || (300 * un < mv && previous)

/-- A filtered reading changes (R277): the pair's discrepancy time starts or ends, a fault may clear, and a proving input may
become proven. -/
def changeInput (i : Nat) (closed : Bool) (s : State) : State :=
  if (inputOf s i).closed = closed then s
  else
    let was := readsClosed s i
    let s := modInput i (fun x => { x with closed := closed }) s
    let s := match pairFirst s i with
      | some f => watchPair f s
      | none => s
    if inputFaulted s i then clearFault i s
    else if readsClosed s i && !was && openBefore s i then proveInput i s
    else s

/-! ### Safe outputs (R284 to R291) -/

/-- A safe output as kept. -/
def outputOf (s : State) (i : Nat) : SafeOutput := Tbl.get s.safety.outputs i {}

/-- A safe output changed. -/
def modOutput (i : Nat) (f : SafeOutput → SafeOutput) (s : State) : State :=
  modSafety (fun x => { x with outputs := Tbl.put x.outputs i (f (Tbl.get x.outputs i {})) }) s

/-- SOi is enabled in the active set. -/
def outputEnabled (s : State) (i : Nat) : Bool := outputField (params s) i 0 1 = 1

/-- Lane L's switch pair of SOi is closed (R273, R287, R288). -/
def pairOn (s : State) (i : Nat) (l : Lane) : Bool :=
  let o := outputOf s i
  hasBit o.commanded l.num && hasBit o.gates l.num && !o.timedOut && !o.tripped && !o.backFed && s.module.state != .lockout &&
    outputEnabled s i

/-- The terminal of SOi is on: at least two lanes' pairs are closed (R284). -/
def terminalOn (s : State) (i : Nat) : Bool := 2 ≤ maskCount (laneMask (pairOn s i))

/-- An external output fault of SOi. -/
def outputFaulted (s : State) (i : Nat) : Bool :=
  let o := outputOf s i
  o.tripSeen || o.backFed || o.fieldFault

/-- A mask over the eight safe outputs. -/
def outputMask (f : Nat → Bool) : Nat := ((List.range 8).map fun i => bit (f i) * 2 ^ i).sum

/-- SOi is commanded on: at least two lanes' copy-outs command it. -/
def commandedOn (s : State) (i : Nat) : Bool := 2 ≤ maskCount (outputOf s i).commanded

/-- Every switch of every safe output opens: no command stands until the next release. -/
def allOutputsOff (s : State) : State :=
  modSafety (fun x => { x with outputs := x.outputs.map fun p => (p.1, { p.2 with commanded := 0, gates := 0 }) }) s

/-- The switches of one lane open (R126). -/
def laneOutputsOff (l : Lane) (s : State) : State :=
  modSafety (fun x => { x with outputs := x.outputs.map fun p =>
    (p.1, { p.2 with commanded := p.2.commanded &&& (7 - 2 ^ l.num) }) }) s

/-! ### Functions, windows and gates (R292 to R301) -/

/-- The position state is Invalid. -/
def positionInvalid (s : State) : Bool := s.pos.state = .invalid

/-- The violations that stand, with the position state counted in (R293). -/
def speedForbids (s : State) : Bool := positionInvalid s || s.safety.speedViolated
def directionForbids (s : State) : Bool := positionInvalid s || s.safety.directionViolated

/-- Zone z applies (R294). An input in fault state matches neither value. -/
def zoneApplies (s : State) (z : Nat) : Bool :=
  let b := params s
  z = 0 || zoneField b z 0 1 = 1 &&
    (zoneField b z 1 1 = 0 || (List.range 16).all fun i =>
      !hasBit (zoneField b z 2 2) i || inputState s i = bit (hasBit (zoneField b z 4 2) i))

/-- The zone whose limit is in force: the lowest limit among the applicable zones, then the lowest number. -/
def zoneInForce (s : State) : Nat :=
  ((List.range 8).filter (zoneApplies s)).foldl
    (fun best z => if zoneField (params s) z 8 4 < zoneField (params s) best 8 4 then z else best) 0

/-- The limit in force, mm/s. -/
def limitInForce (s : State) : Nat := zoneField (params s) (zoneInForce s) 8 4

/-- The intended direction: 0 none, 1 forward, 2 reverse (R297). -/
def intendedDirection (s : State) : Nat :=
  let reads (o : Nat) (v : Nat) : Bool :=
    let n := motionField (params s) o 1
    n < 16 && inputState s n = v
  if reads 2 1 && reads 3 0 then 1 else if reads 2 0 && reads 3 1 then 2 else 0

/-- A state on which a monitor channel differs, if it is this one (R274). -/
def flips (differs : Option Nat) (n : Nat) : Bool := differs = some n

/-- A state as a monitor channel has it: the agreed one, or the other where the channel differs on it. -/
def viewed (differs : Option Nat) (n : Nat) (agreed : Bool) : Bool := agreed != flips differs n

/-- An open window permits (R300): its entry is enabled (R303), the confidence interval lies wholly inside, and standstill is proven where its flag
asks. -/
def windowPermits (differs : Option Nat) (s : State) (w : Nat) (x : Window) : Bool :=
  let l : Int := windowField (params s) w 4 4
  let lo := if x.forward then x.opening else x.opening - l
  let c : Int := s.pos.confidence
  windowField (params s) w 0 1 = 1 && !positionInvalid s && lo ≤ s.pos.counter - c && s.pos.counter + c ≤ lo + l &&
    (!hasBit (windowField (params s) w 2 1) 0 || viewed differs 9 (standstill s))

/-- An open window of the side of SOi permits (R301). -/
def sidePermits (differs : Option Nat) (s : State) (side : Nat) : Bool :=
  side != 0 && s.safety.windows.any fun p =>
    windowField (params s) p.1 1 1 = side && viewed differs (16 + p.1) (windowPermits differs s p.1 p.2)

/-- An unproven proving input guards SOi (R282). -/
def unprovenGuard (differs : Option Nat) (s : State) (i : Nat) : Bool :=
  (List.range 16).any fun n => provingInput s n && !viewed differs (32 + n) (inputOf s n).proven && hasBit (inputField (params s) n 3 1) i

/-- The gate of SOi in a monitor channel that differs on a state, or on none (R273): what the mapped functions, the windows and the proving
inputs permit. -/
def gateIn (differs : Option Nat) (s : State) (i : Nat) : Bool :=
  let f := outputField (params s) i 2 1
  outputEnabled s i && viewed differs i (!unprovenGuard differs s i && !(hasBit f 0 && viewed differs 8 (speedForbids s)) &&
    !(hasBit f 1 && !viewed differs 9 (standstill s)) && !(hasBit f 2 && viewed differs 10 (directionForbids s)) &&
    (!hasBit f 3 || sidePermits differs s (outputField (params s) i 1 1)))

/-- The gate of SOi as the channels that agree have it. -/
def gateOf (s : State) (i : Nat) : Bool := gateIn none s i

/-- The gate of SOi in a lane's monitor channel. -/
def channelGate (s : State) (i : Nat) (l : Lane) : Bool :=
  gateIn ((s.safety.monitorDiffered.filter fun d => d.2 = l).map Prod.fst) s i

/-- The gate permits, by at least two monitor channels (R274). -/
def gatePermits (s : State) (i : Nat) : Bool := 2 ≤ maskCount (outputOf s i).gates

/-- The gates of every output as the monitor channels evaluate them now. -/
def evaluateGates (s : State) : State :=
  (List.range 8).foldl (fun t i =>
    if outputEnabled t i || (outputOf t i).gates != 0 then modOutput i (fun o => { o with gates := laneMask (channelGate s i) }) t else t) s

/-- A window opens (R299): one already open ignores it. -/
def openWindow (w : Nat) (s : State) : State :=
  if Tbl.has s.safety.windows w then s
  else
    let forward : Bool := 0 < s.pos.speed || s.pos.speed = 0 && 0 < s.pos.lastSign
    modSafety (fun x => { x with windows := Tbl.put x.windows w ⟨s.pos.counter, forward, s.time⟩ }) s

/-- A window closes. -/
def closeWindow (w : Nat) (s : State) : State := modSafety (fun x => { x with windows := Tbl.erase x.windows w }) s

/-- Every window closes. -/
def closeWindows (s : State) : State := modSafety (fun x => { x with windows := [] }) s

/-! ### Change log and Lock-out flag (R306 to R309) -/

/-- Bytes 0x00 to 0x53 of a change-log record (Table 8.9). -/
def changeLogBody (s : State) (kind cause issuer : Nat) (name : Bytes) (old new : Nat) : Bytes :=
  le 8 (s.safety.changeSequence + 1) ++ le 8 (localSeconds s) ++ le 4 (localNanos s) ++ le 1 kind ++ [0] ++ le 2 cause ++
    le 4 issuer ++ le 8 old ++ le 8 new ++ padTo 32 name ++ le 4 s.mbx.epoch ++ le 4 0

/-- A change-log record is written, in the log and in the Juridical ring (R306): kind, cause, issuer with its credential name, and the parameter
CRCs before and after. -/
def changeLog (kind cause issuer : Nat) (name : Bytes) (old new : Nat) (s : State) : State :=
  let body := changeLogBody s kind cause issuer name old new
  let bytes := body ++ le 4 (crc32 body) ++ le 4 0 ++ le 4 0x4C47584B
  let log := s.safety.changeLog ++ [bytes]
  let s := modSafety (fun x => { x with changeLog := log.drop (log.length - 2048), changeSequence := x.changeSequence + 1 }) s
  record .juridical 0x14 kind (body.take 0x50) s

/-- A copy of the Lock-out flag (Table 8.11). -/
structure FlagFields where
  state : Nat
  cause : Nat := 0
  seconds : Nat := 0
  nanos : Nat := 0
  epoch : Nat := 0
  task : Nat := 0xFF
  lanes : Nat := 0
  further : Nat := 0
  take : Nat := 0
  detail : Nat := 0

/-- Its 64 bytes. -/
def FlagFields.bytes (f : FlagFields) : Bytes :=
  let b := le 4 0x4F4C584B ++ le 1 1 ++ le 1 f.state ++ le 2 f.cause ++ le 8 f.seconds ++ le 4 f.nanos ++ le 4 f.epoch ++
    le 1 f.task ++ le 1 f.lanes ++ le 2 f.further ++ le 4 0 ++ le 8 f.take ++ le 8 f.detail ++ le 8 0
  b ++ le 8 (crc64 b)

/-- A copy has a correct CRC; it is set. -/
def flagValid (b : Bytes) : Bool := b.length = 64 && Bytes.field b 0x38 8 = crc64 (b.take 0x38)
def flagSet (b : Bytes) : Bool := flagValid b && Bytes.field b 5 1 = 1

/-- The copy that states the flag: the first set one, else the first valid one. -/
def flagCopy (s : State) : Bytes :=
  if flagSet s.safety.flag0 then s.safety.flag0
  else if flagSet s.safety.flag1 then s.safety.flag1
  else if flagValid s.safety.flag0 then s.safety.flag0
  else padTo 64 s.safety.flag1

/-- The Lock-out flag is set, and its first cause. -/
def lockoutFlag (s : State) : Bool := flagSet s.safety.flag0 || flagSet s.safety.flag1
def lockoutCause (s : State) : Nat := Bytes.field (flagCopy s) 6 2

/-- Both copies written. -/
def writeFlag (b : Bytes) (s : State) : State := modSafety (fun x => { x with flag0 := b, flag1 := b }) s

/-- The flag as a cause finds it (R308): counted as a further cause in one already set, else written new with the cause. -/
def flagWith (s : State) (cause task take detail lanes : Nat) : Bytes :=
  if lockoutFlag s then
    let b := flagCopy s
    let b := Bytes.overwrite b 0x1A (le 2 (min 0xFFFF (Bytes.field b 0x1A 2 + 1)))
    b.take 0x38 ++ le 8 (crc64 (b.take 0x38))
  else
    FlagFields.bytes { state := 1, cause := cause, seconds := localSeconds s, nanos := localNanos s, epoch := s.mbx.epoch,
                       task := task, lanes := lanes, take := take, detail := detail }

/-! ### Output timeouts (R288) -/

/-- The bindings of a task. -/
def taskInputs (i : Image) (t : TaskRec) : List InputBinding := (i.inputs.drop t.inputFirst).take t.inputCount
def taskOutputs (i : Image) (t : TaskRec) : List OutputBinding := (i.outputs.drop t.outputFirst).take t.outputCount

/-- The task that drives SOi in the running image. -/
def outputDriver (s : State) (i : Nat) : Option TaskRec :=
  (runningImage s).bind fun m => m.tasks.find? fun t => (taskOutputs m t).any fun b => b.kind = 2 && b.target = i

/-- The output timeout of SOi in half-nanoseconds. -/
def outputTimeout (s : State) (i : Nat) : Nat :=
  if s.pair.role != .solo then milli s.pair.holdMs
  else
    let own := match outputDriver s i with
      | some t => micro (2 * (if t.event then t.interarrival else t.cycle) + t.deadline)
      | none => 0
    max own (milli (outputField (params s) i 4 2))

end Sys2Proof.Machine
end

