-- ==== Sys2Proof/Machine/Activation.lean ====
section
/-! DEFINITION. The activation controller (chapter 14): sources, detections, commits, masks, hold and the activation of event tasks. -/

namespace Sys2Proof.Machine

/-! ### Settings changes that the Active forwards (R252) -/

/-- An Active forwards a committed settings change by CONTROL: the command that made it and its payload (log entry 80). -/
def forwardChange (code : Nat) (payload : Bytes) (s : State) : State :=
  if s.pair.role = .active then slipstream 2 (le 1 7 ++ le 2 code ++ payload) s else s
def forwardSettings (e : Entry) (s : State) : State := forwardChange e.code e.payload s

/-! ### Sources -/

/-- A source as configured; one without an entry is disabled. -/
def sourceOf (s : State) (n : Nat) : ActSource := Tbl.get s.act.sources n {}

/-- A source changed. -/
def modSource (n : Nat) (f : ActSource → ActSource) (s : State) : State :=
  modAct (fun a => { a with sources := Tbl.put a.sources n (f (Tbl.get a.sources n {})) }) s

/-- Pulse origins (Table 14.1). -/
def pulseOrigin (o : Nat) : Bool := o = 2 || 4 ≤ o && o ≤ 7

/-- The signal of a source as it stands (Table 14.1). -/
def sourceSignal (s : State) (x : ActSource) : Bool :=
  match x.origin with
  | 1 => inputState s x.index = 1
  | 3 => match Tbl.find s.net.flows x.index with
    | some f => f.fresh
    | none => false
  | 0 => false
  | _ => 0 < x.pulses

/-- A commit of the source is in progress. -/
def ActSource.committing (x : ActSource) : Bool := x.started.isSome || x.waiting.isSome

/-- Whether a sense finds its condition (Table 14.2). -/
def senseFinds (x : ActSource) (signal : Bool) : Bool :=
  match x.sense with
  | 0 => signal && x.counter = 0 && !x.committing
  | 1 => !signal && x.counter = 0 && !x.committing
  | 2 => signal && !x.previous
  | 3 => !signal && x.previous
  | _ => signal != x.previous

/-- A detection (R454, R455): counted, whether masked or held or not, and starting a commit where the source is unmasked and has none
in progress. -/
def ActSource.detect (x : ActSource) (clock : Nat) : ActSource :=
  let x := { x with counter := min 255 (x.counter + 1), overflow := x.overflow + bit (x.counter = 255), detections := x.detections + 1,
                    whileMasked := x.whileMasked + bit x.masked }
  if x.masked || x.committing then x else { x with waiting := some clock }

/-- The event task of the running image that binds a source (R161 kind 5). -/
def boundTask (s : State) (n : Nat) : Option Nat :=
  (runningImage s).bind fun i =>
    (i.tasks.find? fun t => t.event && (taskInputs i t).any fun b => b.kind = 5 && b.source = n).map TaskRec.task

/-! ### Commits -/

/-- Of two sources that wait, the one of higher priority, then of lower number, starts first. -/
def startsBefore (a b : Nat × ActSource) : Bool :=
  a.2.priority < b.2.priority || a.2.priority = b.2.priority && a.1 < b.1

/-- The source that starts next. -/
def nextToStart (s : State) : Option (Nat × ActSource) :=
  (s.act.sources.filter fun p => p.2.waiting.isSome).foldl
    (fun best p => match best with
      | none => some p
      | some q => if startsBefore p q then some p else some q) none

/-- One commit starts, at the first clock at which it waits and no other has started; not at or after `before` where a bound is
given. -/
def startOne (before : Option Nat) (s : State) : State :=
  match nextToStart s with
  | none => s
  | some (n, x) =>
    let d := max (x.waiting.getD 0) (match s.act.lastStart with
      | some c => c + 1
      | none => 0)
    let allowed : Bool := match before with
      | some b => d < b
      | none => true
    if allowed then
      modAct (fun a => { a with lastStart := some d }) (modSource n (fun y => { y with waiting := none, started := some d }) s)
    else s

/-- Commits start, at most one in each clock, up to a clock. -/
def startCommits (before : Option Nat) : Nat → State → State
  | 0, s => s
  | k + 1, s => startCommits before k (startOne before s)

/-- How many sources there are. -/
def sourceCount : Nat := 128

/-! ### Activation of event tasks (R192, R456, R461) -/

/-- A hold applies to an event task's activations: a command hold, or the recut guard. -/
def recutGuarding (s : State) : Bool :=
  match s.prog.recut with
  | some r => r.guarding
  | none => false
def activationsHeld (s : State) : Bool := s.act.hold.isSome || recutGuarding s

/-- A task of the program as it runs. -/
def taskRun (s : State) (t : Nat) : TaskRun := Tbl.get s.prog.tasks t {}
def modTask (t : Nat) (f : TaskRun → TaskRun) (s : State) : State :=
  modProg (fun p => { p with tasks := Tbl.put p.tasks t (f (Tbl.get p.tasks t {})) }) s

/-- An event task is activated by a commit now: at once, or when its minimum interarrival has passed; merged with an activation
already due. No instant is created while held, on a Standby (whose activations the Active forwards), or without a running program. -/
def activateEvent (t : Nat) (s : State) : State :=
  if !programRuns s || activationsHeld s || s.pair.role = .standby || s.prog.stopping.isSome then s
  else
    match runningTask s t with
    | none => s
    | some r =>
      if (taskRun s t).nextInstant.isSome then s
      else
        let due := match (taskRun s t).lastInstant with
          | some l => max s.time (l + micro r.interarrival)
          | none => s.time
        modTask t (fun x => { x with nextInstant := some due }) s

/-- A commit is complete: it is counted, its instant kept if it is the first since the last delivery, and its task activated. -/
def commitSource (n : Nat) (s : State) : State :=
  let s := modSource n (fun x => { x with
    started := none, commits := x.commits + 1, lastCommit := localNow s, through := x.through + bit x.masked
    commitTime := match x.commitTime with
      | some c => some c
      | none => some s.time }) s
  match boundTask s n with
  | some t => activateEvent t s
  | none => s

/-- SOURCE_DETECTION (R452): a source's sense is evaluated at a GF clock. -/
def execSourceDetection (n clock : Nat) (s : State) : Out :=
  let s := reach (5 * clock) s
  let x := sourceOf s n
  if x.origin = 0 then .next s
  else
    let s := startCommits (some clock) sourceCount s
    let x := sourceOf s n
    let signal := sourceSignal s x
    let found := senseFinds x signal
    let x := if found then x.detect clock else x
    .next (modSource n (fun _ => { x with previous := signal && !pulseOrigin x.origin, pulses := x.pulses - 1 }) s)

/-- ACTIVATION_COMMIT (R455): the commit of a source completes at the end of its third clock. -/
def execActivationCommit (n : Nat) (s : State) : Out :=
  let s := if (sourceOf s n).waiting.isSome then startCommits none sourceCount s else s
  match (sourceOf s n).started with
  | some d => .next (commitSource n (reach (5 * (d + 3)) s))
  | none => .next s

/-! ### Hold and release (R461, R462) -/

/-- The event tasks of the running image. -/
def eventTasks (s : State) : List TaskRec :=
  match runningImage s with
  | some i => i.tasks.filter TaskRec.event
  | none => []

/-- An event task has a commit since its last activation, of a source or of a cue. -/
def taskCommitted (s : State) (t : TaskRec) : Bool :=
  (taskRun s t.task).cueHeld ||
    match runningImage s with
    | some i => (taskInputs i t).any fun b => b.kind = 5 && ((sourceOf s b.source).commitTime).isSome
    | none => false

/-- The activation that a cue of action 2 commits: held like any other while a hold applies (R335). -/
def activateCue (t : Nat) (s : State) : State :=
  if activationsHeld s then modTask t (fun x => { x with cueHeld := true }) s else activateEvent t s

/-- A hold takes effect now: activation instants not yet reached are withheld. -/
def withholdEvents (s : State) : State :=
  (eventTasks s).foldl (fun t r => modTask r.task (fun x => { x with
    nextInstant := match x.nextInstant with
      | some d => if d < s.time then some d else none
      | none => none }) t) s

/-- No hold applies any more: every event task with a commit since its last activation is activated. The result is how many. -/
def releaseEvents (s : State) : Nat × State :=
  if activationsHeld s then (0, s)
  else
    let due := (eventTasks s).filter (taskCommitted s)
    (due.length, due.foldl (fun t r => activateEvent r.task t) s)

/-- The command hold ends. -/
def endHold (s : State) : Nat × State := releaseEvents (modAct (fun a => { a with hold := none }) s)

/-- ACTIVATION_HOLD_LIMIT (R462): the limit of the command hold passes. -/
def execActivationHoldLimit (s : State) : Out :=
  match s.act.hold with
  | some (some limit) => .next (endHold (reach limit s)).2
  | _ => .next s

/-! ### Masks (R459, R460) -/

/-- A source's mask set: a commit not yet started no longer starts. -/
def maskSource (n : Nat) (s : State) : State := modSource n (fun x => { x with masked := true, waiting := none }) s

/-- A source's mask cleared: with a count above 0 a commit starts. -/
def unmaskSource (n : Nat) (s : State) : State :=
  modSource n (fun x =>
    { x with masked := false, waiting := if x.masked && 0 < x.counter && !x.committing then some (gfCount s) else x.waiting }) s

/-- Masks and counters at a program start (Table 14.10). -/
def sourcesAtStart (s : State) : State :=
  modAct (fun a => { a with hold := none, sources := a.sources.map fun p =>
    (p.1, { p.2 with counter := 0, overflow := 0, commitTime := none, started := none, waiting := none, masked := p.2.initialMask }) }) s

/-- The entries of the activations section for a task (R457), and the sources cleared. -/
def deliverActivations (t : TaskRec) (t0 : Nat) (s : State) : Bytes × State :=
  match runningImage s with
  | none => ([], s)
  | some i =>
    let sources := (List.range 128).filter fun n => (taskInputs i t).any fun b => b.kind = 5 && b.source = n
    let entry (n : Nat) : Bytes :=
      let x := sourceOf s n
      let age := match x.commitTime with
        | some c => min 0xFFFFFFFE ((t0 - c) / 2)
        | none => 0xFFFFFFFF
      le 1 n ++ le 1 x.counter ++ le 2 0 ++ le 4 age
    (sources.flatMap entry, sources.foldl (fun u n => modSource n (fun x => { x with counter := 0, commitTime := none }) u) s)

/-! ### Commands (Table 14.12) -/

/-- The configuration record of a source (Table 14.3). -/
def sourceRecord (n : Nat) (x : ActSource) : Bytes :=
  le 1 n ++ le 1 x.origin ++ le 2 x.index ++ le 1 x.sense ++ le 1 x.priority ++ le 1 (bit x.initialMask) ++ [0]

/-- A mask over the sources: bit s for source s. -/
def sourceMask (s : State) : Nat := ((List.range 128).map fun n => bit (sourceOf s n).masked * 2 ^ n).sum

/-- ACTIVATION_STATUS. -/
def cmdActivationStatus : Command where
  issuers := anyOrLanes
  body := sized 3 fun e s =>
    let first := e.field 0 1
    let count := e.field 1 2
    if count = 0 || 128 < count || 128 < first + count then fails stBadArgument s
    else
      let left := match s.act.hold with
        | some (some l) => (l - s.time) / milli 1
        | _ => 0
      let one (k : Nat) : Bytes :=
        let x := sourceOf s (first + k)
        sourceRecord (first + k) x ++ le 1 (bit x.masked) ++ le 1 x.counter ++ le 1 ((boundTask s (first + k)).getD 0xFF) ++ [0]
      answers (le 1 (bit s.act.hold.isSome + 2 * bit (recutGuarding s)) ++ le 4 left ++ (List.range count).flatMap one) s

/-- The index of an origin lies in its range (Table 14.1). -/
def originIndexOk (origin index : Nat) : Bool :=
  match origin with
  | 0 => index = 0
  | 1 => index < 16
  | 2 | 3 => index < 2048
  | 4 => index < 8192
  | 5 => index < 128
  | 6 => index < 4
  | 7 => index = 0
  | _ => false

/-- Uncommitted ACTIVATION_TRIGGER commands on a source complete with CANCELLED (Table 14.10). -/
def cancelTriggers (n self : Nat) (s : State) : State :=
  cancelTargets (fun e => e.code = 0x0C05 && e.id != self && Bytes.field e.payload 0 1 = n) s

/-- SOURCE_CONFIGURE (R453). -/
def cmdSourceConfigure : Command where
  issuers := roleOnly maintainer
  body := sized 8 fun e s =>
    let n := e.field 0 1
    let origin := e.field 1 1
    let sense := e.field 4 1
    let priority := e.field 5 1
    if 128 ≤ n || !originIndexOk origin (e.field 2 2) || 4 < sense || priority = 0 || 16 < priority || 2 ≤ e.field 6 1 ||
        e.field 7 1 != 0 then fails stBadArgument s
    else if s.pair.role = .standby then fails stRefused s
    else if (boundTask s n).isSome then fails 0x0C10 s
    else if pulseOrigin origin && sense != 2 then fails 0x0C13 s
    else
      let old := sourceOf s n
      let s := cancelTriggers n e.id s
      let s := modSource n (fun x => { x with
        origin := origin, index := e.field 2 2, sense := sense, priority := priority, initialMask := hasBit (e.field 6 1) 0
        counter := 0, commitTime := none, started := none, waiting := none, pulses := 0, previous := false }) s
      answers (le 1 old.origin) (forwardSettings e s)

/-- SOURCE_MASK (R459, R460). -/
def cmdSourceMask : Command where
  issuers := roleOrLanes maintainer
  body := sized 32 fun e s =>
    let set := e.field 0 16
    let clear := e.field 16 16
    if set &&& clear != 0 then fails stBadArgument s
    else if s.pair.role = .standby then fails stRefused s
    else
      let before := sourceMask s
      let s := ((List.range 128).filter (hasBit set)).foldl (fun t n => maskSource n t) s
      let s := ((List.range 128).filter (hasBit clear)).foldl (fun t n => unmaskSource n t) s
      answers (le 16 before) (forwardSettings e s)

/-- ACTIVATION_HOLD (R461). -/
def cmdActivationHold : Command where
  issuers := roleOrLanes maintainer
  body := sized 8 fun e s =>
    let op := e.field 0 1
    let limit := e.field 4 4
    if !e.clear [(1, 3)] then fails stBadArgument s
    else if op = 1 then
      if 60000 < limit then fails stBadArgument s
      else if s.pair.role = .standby then fails stRefused s
      else
        let s := modAct (fun a => { a with hold := some (if limit = 0 then none else some (s.time + milli limit)) }) s
        answers (le 1 0) (forwardSettings e (withholdEvents s))
    else if op = 2 then
      if s.pair.role = .standby then fails stRefused s
      else if s.act.hold.isNone then fails 0x0C12 s
      else
        let r := endHold s
        answers (le 1 r.1) (forwardSettings e r.2)
    else fails stBadArgument s

/-- ACTIVATION_TRIGGER: the pulse of origin 7 is a detection of the source (R470). -/
def cmdActivationTrigger : Command where
  issuers := roleOrLanes maintainer
  body := sized 1 fun e s =>
    let n := e.field 0 1
    if 128 ≤ n then fails stBadArgument s
    else if (sourceOf s n).origin != 7 then fails 0x0C11 s
    else
      let s := modSource n (fun x => x.detect (gfCount s)) s
      answers (le 1 (sourceOf s n).counter) s

/-- ACTIVATION_COUNTERS. -/
def cmdActivationCounters : Command where
  issuers := anyOrLanes
  body := sized 1 fun e s =>
    let n := e.field 0 1
    if 128 ≤ n then fails stBadArgument s
    else
      let x := sourceOf s n
      answers (le 8 x.detections ++ le 4 x.commits ++ le 4 x.overflow ++ le 4 x.whileMasked ++ le 4 x.through ++ le 4 x.dropped ++
        taiBytes x.lastCommit) s

end Sys2Proof.Machine
end

