-- ==== Sys2Proof/Machine/Recorder.lean ====
section
/-! DEFINITION. The event recorder (chapter 15): writing, suppression counts, freeze and release, reading, and clearing. -/

namespace Sys2Proof.Machine

/-! ### Rings -/

/-- Sequence of a stored or buffered record. -/
def seqOf (b : Bytes) : Nat := Bytes.field b 0 8

/-- A slot holds a valid record (R472). -/
def validRecord (b : Bytes) : Bool :=
  seqOf b != 0 && Bytes.field b 0x7C 4 = ((seqOf b % 2 ^ 32) ^^^ 0x5245584B) && Bytes.field b 0x78 4 = crc32 (Bytes.slice b 0 0x78)

/-- One record into a list in ascending sequence. -/
def insertRecord (b : Bytes) : List Bytes → List Bytes
  | [] => [b]
  | c :: l => if seqOf b < seqOf c then b :: c :: l else c :: insertRecord b l

/-- The records of a ring that a command can return, in ascending sequence: valid, above the floor and not in a bad slot (R482). -/
def RingSt.records (r : RingSt) : List Bytes :=
  (r.slots.filter fun p => validRecord p.2 && r.floor < seqOf p.2 && !r.bad.contains p.1).foldl (fun l p => insertRecord p.2 l) []

/-- Oldest and newest sequence of a ring; 0 where it holds none. -/
def RingSt.oldest (r : RingSt) : Nat :=
  match r.records with
  | b :: _ => seqOf b
  | [] => 0
def RingSt.newest (r : RingSt) : Nat := if r.floor < r.newestWritten then r.newestWritten else 0

/-- The first slot from a number on, in ring order, that is not bad; at most as many are passed over as are bad. -/
def goodSlot (n : Nat) (bad : List Nat) : Nat → Nat → Nat
  | 0, k => k
  | fuel + 1, k => if bad.contains k then goodSlot n bad fuel ((k + 1) % n) else k

/-- The slot that the next record of a ring goes into. -/
def RingSt.target (r : RingSt) (g : Ring) : Nat := goodSlot (ringSlots g) r.bad (r.bad.length + 1) r.nextSlot

/-- The store metadata of a ring brought up to date (R478). -/
def RingSt.writeMeta (r : RingSt) (g : Ring) : RingSt :=
  { r with metaSlot := (r.nextSlot + ringSlots g - 1) % ringSlots g, metaSequence := r.newestWritten, sinceMeta := 0 }

/-! ### Freeze and release (R480, R481) -/

/-- A freeze in force, or being made by a command that is still outstanding. -/
def freezeHeld (s : State) : Bool :=
  match s.recorder.freeze with
  | some f => f.since.isSome || (entryOf s f.entry).isSome
  | none => false

/-- The RECORDER record (class 0x20) of an event in both rings: events 1 freeze, 2 release, 3 lost records (log entry 17). -/
def recorderEvent (event : Nat) (general juridical : Bytes) (s : State) : State :=
  record .juridical 0x20 event juridical (record .general 0x20 event general s)

/-- The drain of an ended freeze is done: the release records are made with the cause and each ring's overflow count. -/
def makeRelease (x : ReleaseSt) (s : State) : State :=
  let g := s.recorder.general.overflowedFreeze
  let j := s.recorder.juridical.overflowedFreeze
  let s := recorderEvent 2 (le 1 x.cause ++ le 4 g) (le 1 x.cause ++ le 4 j) s
  modRecorder (fun r => { r with releasing := some { x with made := some (r.general.last, r.juridical.last, g, j) } }) s

/-- The steps that follow the writing of records while a freeze ends: release records once the buffer of the freeze is drained, and
the completion of RECORDER_RELEASE once they are written. -/
def releaseSteps (s : State) : State :=
  match s.recorder.releasing with
  | none => s
  | some x =>
    let left (g : Ring) (n : Nat) : Bool := s.recorder.buffer.any fun p => p.1 = g && seqOf p.2 ≤ n
    match x.made with
    | none => if left .general x.general || left .juridical x.juridical then s else makeRelease x s
    | some (g, j, og, oj) =>
      if left .general g || left .juridical j then s
      else
        let s := modRecorder (fun r => { r with releasing := none }) s
        match x.entry with
        | some id => completeEntry id stOk (le 2 x.drained ++ le 4 og ++ le 4 oj) s
        | none => s

/-- A freeze in force ends for a cause: the buffer begins to drain. -/
def endFreeze (cause : Nat) (entry : Option Nat) (s : State) : State :=
  let s := modRecorder (fun r => { r with
    freeze := none
    releasing := some ⟨cause, r.general.last, r.juridical.last, r.buffer.length, entry, none⟩ }) s
  releaseSteps s

/-- The freeze being made commits once both freeze records are written: writing stops, the metadata is brought up to date, and the
command completes. A freeze whose command was discarded at an epoch change is dropped. -/
def freezeSteps (s : State) : State :=
  match s.recorder.freeze with
  | some f =>
    if f.since.isSome then s
    else if (entryOf s f.entry).isNone then modRecorder (fun r => { r with freeze := none }) s
    else if s.recorder.buffer.any fun p => p.1 = .general && seqOf p.2 ≤ f.general || p.1 = .juridical && seqOf p.2 ≤ f.juridical then s
    else
      let s := modRecorder (fun r => { r with
        freeze := some { f with since := some s.time }
        general := { r.general.writeMeta .general with overflowedFreeze := 0 }
        juridical := { r.juridical.writeMeta .juridical with overflowedFreeze := 0 } }) s
      completeEntry f.entry stOk (le 8 s.recorder.general.newest ++ le 8 s.recorder.juridical.newest ++
        le 8 (clockAt s.clock (s.time + second 60) / secUnit)) s
  | none => s

/-- A CLEAR record has been written: RECORDER_CLEAR_CONFIRM completes (R487). -/
def clearSteps (s : State) : State :=
  match s.recorder.clearing with
  | some (g, seq, first, last, id) =>
    if s.recorder.buffer.any fun p => p.1 = g && seqOf p.2 ≤ seq then s
    else completeEntry id stOk (le 8 first ++ le 8 last ++ le 8 seq) (modRecorder (fun r => { r with clearing := none }) s)
  | none => s

/-! ### Writing (R477, R478) -/

/-- Whether the recorder writes a record of a ring now: not once stopped at a supply failure, not while frozen, and, while a freeze
is being made, not past the ring's freeze record. -/
def writesNow (s : State) (g : Ring) (seq : Nat) : Bool :=
  !s.recorder.stopped && s.module.state != .stowed &&
    match s.recorder.freeze with
    | some f => f.since.isNone && seq ≤ (match g with | .general => f.general | .juridical => f.juridical)
    | none => true

/-- A record written into a ring's slot and read back (R477). -/
def RingSt.write (r : RingSt) (g : Ring) (b : Bytes) (readBack : Bool) : RingSt :=
  let k := r.target g
  let next := (k + 1) % ringSlots g
  if readBack then
    let r := { r with slots := Tbl.put r.slots k b, eraseLeft := r.eraseLeft.filter (· != k), nextSlot := next,
                      newestWritten := seqOf b, written := r.written + 1, sinceMeta := r.sinceMeta + 1 }
    if r.sinceMeta = 4096 then r.writeMeta g else r
  else { r with slots := Tbl.erase r.slots k, bad := r.bad ++ [k], nextSlot := next, failures := r.failures + 1 }

/-- The first buffered record of a ring. -/
def firstOf (r : RecorderSt) (g : Ring) : Option Bytes := (r.buffer.find? fun p => p.1 = g).map Prod.snd

/-- RECORD_WRITE (R477): the oldest buffered record of a ring is written and read back. -/
def execRecordWrite (g : Ring) (readBack : Bool) (s : State) : Out :=
  match firstOf s.recorder g with
  | none => .next s
  | some b =>
    if writesNow s g (seqOf b) then
      let s := modRecorder (fun r =>
        let r := modRing g (fun x => x.write g b readBack) r
        if readBack then { r with buffer := r.buffer.erase (g, b) } else r) s
      .next (clearSteps (releaseSteps (freezeSteps s)))
    else .next s

/-! ### Suppression (R476) -/

/-- The counts of a SUPPRESSED record: class, source and count of as many pairs as its payload holds. -/
def suppressionBytes (l : List Suppression) : Bytes := l.flatMap fun x => le 2 x.cls ++ le 2 x.source ++ le 4 x.count

/-- A token is available in the bucket of a ring. -/
def ringToken (s : State) (g : Ring) : Bool :=
  match g with
  | .general => s.recorder.bucketGeneral.open 200 4096 s.time
  | .juridical => s.recorder.bucketJuridical.open 20 512 s.time

/-- SUPPRESSED_RECORD (R476): after 1 s without a suppression in a ring, and with a token available, the counts are recorded. -/
def execSuppressedRecord (g : Ring) (s : State) : Out :=
  let r := ringOf s.recorder g
  if r.pendingSuppressed.isEmpty && r.pendingFurther = 0 then .next s
  else
    let s := reach (r.lastSuppressed + second 1) s
    if ringToken s g then
      let s := record g 0x22 0 (suppressionBytes (r.pendingSuppressed.take 9) ++
        suppressionBytes [⟨0, 0, ((r.pendingSuppressed.drop 9).map Suppression.count).sum + r.pendingFurther⟩]) s
      .next (modRecorder (modRing g fun x => { x with pendingSuppressed := [], pendingFurther := 0 }) s)
    else .next s

/-! ### Events of freeze and ticket -/

/-- FREEZE_TIMEOUT (R481): 60 s after the freeze committed it ends. -/
def execFreezeTimeout (s : State) : Out :=
  match s.recorder.freeze with
  | some f => match f.since with
    | some t => .next (endFreeze 2 none (reach (t + second 60) s))
    | none => .next s
  | none => .next s

/-- CLEAR_TICKET_EXPIRY (R483): a ticket is valid for 300 s. -/
def execClearTicketExpiry (s : State) : Out :=
  match s.recorder.ticket with
  | some t => .next (modRecorder (fun r => { r with ticket := none }) (reach t.expires s))
  | none => .next s

/-- At a module restart or loss of power: buffered records are discarded and counted, and what is not in the store is lost
(R479). Each ring's next sequence follows the greater of its newest written record and its reserved limit (R478). -/
def recorderReset (r : RecorderSt) : RecorderSt :=
  let ring (x : RingSt) : RingSt :=
    { slots := x.slots, bad := x.bad, last := max x.newestWritten x.limit, limit := x.limit, floor := x.floor, nextSlot := x.nextSlot,
      newestWritten := x.newestWritten, metaSlot := x.metaSlot, metaSequence := x.metaSequence, sinceMeta := x.sinceMeta,
      eraseLeft := x.eraseLeft, firstOfBoot := max x.newestWritten x.limit + 1 }
  { general := ring r.general, juridical := ring r.juridical, lostLast := r.buffer.length,
    lostTotal := r.lostTotal + r.buffer.length }

/-! ### Commands (Table 15.5) -/

/-- Ring of a request's ring field. -/
def ringField : Nat → Option Ring
  | 0 => some .general
  | 1 => some .juridical
  | _ => none

/-- One ring in RECORDER_STATUS. -/
def ringStatus (r : RingSt) (g : Ring) : Bytes :=
  le 4 (ringSlots g) ++ le 2 r.bad.length ++ le 8 r.oldest ++ le 8 r.newest ++ le 8 r.floor ++ le 1 (bit !r.eraseLeft.isEmpty)

/-- RECORDER_STATUS. -/
def cmdRecorderStatus : Command where
  issuers := anyOrLanes
  body := sized 0 fun _ s =>
    let r := s.recorder
    let (left, by_) := match r.freeze with
      | some f => match f.since with
        | some t => ((t + second 60 - s.time) / milli 1, f.issuer)
        | none => (0, 0)
      | none => (0, 0)
    answers (le 1 (bit (frozen s)) ++ le 4 left ++ le 4 by_ ++ ringStatus r.general .general ++ ringStatus r.juridical .juridical ++
      le 2 r.buffer.length ++ le 2 (r.bucketGeneral.tokens 200 4096 s.time) ++ le 2 (r.bucketReel.tokens 50 1024 s.time) ++
      le 2 (r.bucketJuridical.tokens 20 512 s.time) ++ le 1 (bit r.ticket.isSome) ++ le 4 r.lostLast) s

/-- RECORDER_READ (R482). -/
def cmdRecorderRead : Command where
  issuers := { session := true }
  body := sized 14 fun e s =>
    let count := e.field 12 2
    match ringField (e.field 0 1) with
    | none => fails stBadArgument s
    | some g =>
      if g = .juridical && !anyRole e.roles (maintainer ||| safety ||| owner) then fails stDenied s
      else if count = 0 || 256 < count || !e.clear [(1, 1)] then fails stBadArgument s
      else
        let r := ringOf s.recorder g
        let filter := e.field 2 2
        let first := max (e.field 4 8) r.oldest
        let found := (r.records.filter fun b => first ≤ seqOf b && (filter = 0 || Bytes.field b 0x14 2 = filter)).take count
        let next := match found.getLast? with
          | some b => seqOf b + 1
          | none => first
        answers (le 8 r.oldest ++ le 8 r.newest ++ le 2 found.length ++ le 8 next ++ found.flatten) s

/-- RECORDER_FREEZE (R480): it completes once writing has stopped after the freeze records. -/
def cmdRecorderFreeze : Command where
  issuers := roleOnly (maintainer ||| owner)
  body := sized 0 fun e s =>
    if freezeHeld s then fails 0x0D10 s
    else if s.module.supplyLostAt.isSome then fails stRefused s
    else
      let s := recorderEvent 1 [] [] s
      (modRecorder (fun r => { r with freeze := some ⟨r.general.last, r.juridical.last, none, e.issuer, e.id⟩ }) s, .goesOn .under false)

/-- RECORDER_RELEASE (R481, R487). -/
def cmdRecorderRelease : Command where
  issuers := roleOnly (maintainer ||| owner)
  body := sized 0 fun e s =>
    if frozen s then (endFreeze 1 (some e.id) s, .goesOn .under true) else fails 0x0D11 s

/-- The clear conditions of R483 that both commands check. -/
def clearRefusal (s : State) : Option Nat :=
  if s.module.state != .maintenance then some stRefused
  else if s.trust.ownerLock then some 0x0212
  else if freezeHeld s then some 0x0D10
  else none

/-- RECORDER_CLEAR_REQUEST (R483). -/
def cmdRecorderClearRequest : Command where
  issuers := roleOnly (maintainer ||| owner)
  body := sized 16 fun e s =>
    match ringField (e.field 0 1) with
    | none => fails stBadArgument s
    | some g =>
      if !e.clear [(1, 7)] then fails stBadArgument s
      else match clearRefusal s with
      | some st => fails st s
      | none =>
        if s.recorder.ticket.isSome then fails 0x0D12 s
        else if (ringOf s.recorder g).newest < e.field 8 8 then fails 0x0D13 s
        else
          let number := drawn s % 2 ^ 32
          let t : ClearTicket := ⟨number, g, e.field 8 8, e.issuer, e.roles, issuerName s e.issuer, s.time + second 300⟩
          let s := modRecorder (fun r => { r with ticket := some t }) (afterDraw s)
          answers (le 4 number ++ le 8 (clockAt s.clock t.expires / secUnit)) s

/-- The slots of a ring whose records a floor removes. -/
def removedSlots (r : RingSt) (floor : Nat) : List Nat := (r.slots.filter fun p => seqOf p.2 ≤ floor).map Prod.fst

/-- The commit of a clear (R484). -/
def clearRing (t : ClearTicket) (confirm : Bytes) (id : Nat) (s : State) : State :=
  let r := ringOf s.recorder t.ring
  let last := if t.newest = 0 then r.last else t.newest
  let first := match r.records with
    | b :: _ => seqOf b
    | [] => last
  let s := modRecorder (fun x =>
    let x := { x with ticket := none, buffer := if t.newest = 0 then x.buffer.filter (fun p => p.1 != t.ring) else x.buffer }
    modRing t.ring (fun y => { (y.writeMeta t.ring) with floor := max y.floor last, eraseLeft := removedSlots y last }) x) s
  let payload := t.name ++ confirm ++ le 8 first ++ le 8 last
  let source := match t.ring with
    | .general => 0
    | .juridical => 1
  let s := record t.ring 0x21 source payload s
  let s := modRecorder (fun x => { x with clearing := some (t.ring, (ringOf x t.ring).last, first, last, id) }) s
  if t.ring = .general then record .juridical 0x21 source payload s else s

/-- RECORDER_CLEAR_CONFIRM (R483, R484). -/
def cmdRecorderClearConfirm : Command where
  issuers := roleOnly (maintainer ||| owner)
  body := sized 4 fun e s =>
    match clearRefusal s with
    | some st => fails st s
    | none =>
      match s.recorder.ticket with
      | none => fails 0x0D12 s
      | some t =>
        let roles := t.roles ||| e.roles
        if t.number != e.field 0 4 || t.issuer = e.issuer || !anyRole roles maintainer || !anyRole roles owner then fails 0x0D12 s
        else (clearRing t (issuerName s e.issuer) e.id s, .goesOn .under true)

/-- One ring in RECORDER_COUNTERS. -/
def ringCounters (r : RingSt) : Bytes :=
  le 8 r.accepted ++ le 8 r.written ++ le 4 r.suppressed ++ le 4 r.overflowed ++ le 4 r.failures

/-- RECORDER_COUNTERS: the first 64 pairs of class and source, and all further ones in one count. -/
def cmdRecorderCounters : Command where
  issuers := anyOrLanes
  body := sized 0 fun _ s =>
    let r := s.recorder
    let pairs := r.general.suppressions ++ r.juridical.suppressions
    let rest := ((pairs.drop 64).map Suppression.count).sum + r.general.further + r.juridical.further
    let shown := pairs.take 64 ++ (if rest = 0 then [] else [⟨0, 0, rest⟩])
    answers (ringCounters r.general ++ ringCounters r.juridical ++ suppressionBytes shown ++ le 4 r.lostTotal) s

end Sys2Proof.Machine
end

