-- ==== Sys2Proof/Machine/Signal.lean ====
section
/-! DEFINITION. The signal chain (chapter 10): streams, the channel pipeline, the settle mask, coefficient banks and the dissolve. -/

namespace Sys2Proof.Machine

/-! ### Channels -/

/-- A filter channel. -/
def chanOf (s : State) (c : Nat) : FilterChannel := Tbl.get s.signal.channels c {}

/-- A filter channel changed. -/
def modChan (c : Nat) (f : FilterChannel → FilterChannel) (s : State) : State :=
  modSignal (fun x => { x with channels := Tbl.put x.channels c (f (Tbl.get x.channels c {})) }) s

/-- Stream and signal of the source in use. -/
def FilterChannel.stream (x : FilterChannel) : Nat := if x.source = 0 then x.config.primary else x.config.alternate
def FilterChannel.signal (x : FilterChannel) : Nat := if x.source = 0 then x.config.primarySignal else x.config.alternateSignal

/-- The staged bank becomes active and is stored as settings; the staged bank is empty. -/
def FilterChannel.adopt (x : FilterChannel) : FilterChannel :=
  match x.staged with
  | some b => { x with bank := b.taps, staged := none, dissolve := none, config := { x.config with symmetry := b.symmetry } }
  | none => { x with dissolve := none }

/-- A dissolve that has started. -/
def FilterChannel.dissolving (x : FilterChannel) : Bool :=
  match x.dissolve with
  | some d => d.started
  | none => false

/-- Histories cleared, input count and decimation phase restarted (R353). -/
def FilterChannel.clear (x : FilterChannel) : FilterChannel := { x with samples := [], medians := [], n := 0 }

/-- An input switch (R353, R358): a running dissolve ends with the staged bank active. -/
def FilterChannel.inputSwitch (x : FilterChannel) : FilterChannel :=
  let x := if x.dissolving then { x.adopt with dissolvesEnded := x.dissolvesEnded + 1 } else x
  { x.clear with inputSwitches := x.inputSwitches + 1, switchNext := false, stale := false }

/-! ### Arithmetic (R349 to R351, R357) -/

/-- A number into an ascending list. -/
def insertInt (a : Int) : List Int → List Int
  | [] => [a]
  | b :: l => if a ≤ b then a :: b :: l else b :: insertInt a l

/-- The middle value of the last W samples, the history starting with zeros. -/
def medianOf (w : Nat) (samples : List Int) : Int :=
  let l := (samples.take w ++ List.replicate (w - samples.length) 0).foldl (fun l a => insertInt a l) []
  l.getD (w / 2) 0

/-- The accumulator of R350: h[i] × m[n − i], the history zero before its start. -/
def firSum : List Int → List Int → Int
  | h :: hs, m :: ms => h * m + firSum hs ms
  | _, _ => 0

/-- Floor of a quotient by a positive number. -/
def floorDiv (a b : Int) : Int := Int.fdiv a b

/-- Saturation to 24 bits. -/
def saturate24 (y : Int) : Int := max (-(2 ^ 23)) (min (2 ^ 23 - 1) y)

/-- A bank's output before saturation. -/
def bankOutput (bank medians : List Int) : Int := floorDiv (firSum bank medians + 2 ^ 22) (2 ^ 23)

/-- The k-th output of a dissolve of length L (R357). -/
def blend (l k : Nat) (old new : Int) : Int :=
  floorDiv (2 * ((l - k : Int) * old + k * new) + l) (2 * l)

/-- The filter is settled with N taps and width W (R353). -/
def settledFor (taps w n : Nat) : Bool := taps + w - 1 ≤ n
def FilterChannel.settled (x : FilterChannel) : Bool := settledFor x.bank.length x.config.median x.n

/-- A waiting dissolve's own conditions hold (R356). -/
def FilterChannel.dissolveReady (x : FilterChannel) : Bool :=
  match x.dissolve, x.staged with
  | some d, some b => !d.started && !x.stale && settledFor (max x.bank.length b.taps.length) x.config.median x.n
  | _, _ => false

/-! ### Load (R360, R361) -/

/-- Load of a bank of N taps at f_in and M, MAC/s. -/
def bankLoad (rate m taps : Nat) : Nat := rate * (8 * ((taps + 7) / 8)) / m

/-- Capacity of the engine. -/
def capacity : Nat := 1600000000

/-- Load of a channel: its bank while enabled, and the staged bank of a running dissolve. -/
def FilterChannel.load (x : FilterChannel) : Nat :=
  if x.enabled then
    bankLoad x.config.rate x.config.decimation x.bank.length +
      (if x.dissolving then bankLoad x.config.rate x.config.decimation ((x.staged.map fun b => b.taps.length).getD 0) else 0)
  else 0

/-- Load of the engine. -/
def engineLoad (s : State) : Nat := (s.signal.channels.map fun p => p.2.load).sum

/-- The dissolves that are ready in their channels: they stand in the dissolve queue (R362). -/
def dissolveQueue (s : State) : List Dissolve :=
  s.signal.channels.filterMap fun p => if p.2.dissolveReady then p.2.dissolve else none

/-- A dissolve's command was accepted before another's, in the order of R89. -/
def dissolveBefore (s : State) (a b : Dissolve) : Bool :=
  match entryOf s a.entry, entryOf s b.entry with
  | some x, some y => x.before y
  | _, _ => a.stamp < b.stamp

/-- A channel's dissolve is the oldest in the queue and its added load fits. -/
def dissolveAdmitted (s : State) (c : Nat) : Bool :=
  let x := chanOf s c
  x.dissolveReady &&
    match x.dissolve, x.staged with
    | some d, some b => (dissolveQueue s).all (fun q => !dissolveBefore s q d) &&
        engineLoad s + bankLoad x.config.rate x.config.decimation b.taps.length ≤ capacity
    | _, _ => false

/-- The dissolve of a channel starts with its first output j: SIGNAL_DISSOLVE commits and completes ACCEPTED (R367). -/
def startDissolve (c j : Nat) (s : State) : State :=
  match (chanOf s c).dissolve with
  | none => s
  | some d =>
    completeEntry d.entry stAccepted (le 4 j)
      (commitEntry d.entry (modChan c (fun x => { x with dissolve := some { d with started := true } }) s))

/-! ### The end of a dissolve (R355, R357) -/

/-- A channel's active bank, as the request of COEFF_LOAD states a bank. -/
def bankPayload (c : Nat) (x : FilterChannel) : Bytes := le 1 c ++ le 1 x.config.symmetry ++ le 2 x.bank.length ++ x.bank.flatMap (leInt 3)

/-- A channel changed: where a running dissolve ends in the change, the bank that is the active one now is a settings change. -/
def endDissolve (c : Nat) (f : FilterChannel → FilterChannel) (s : State) : State :=
  let t := modChan c f s
  if (chanOf s c).dissolving then forwardChange 0x0803 (bankPayload c (chanOf t c)) t else t

/-- A bank that became the Active's active one is the Standby's too (R252). -/
def takeBank (b : Bytes) (s : State) : State :=
  modChan (Bytes.field b 0 1) (fun x => { x with
    bank := (List.range (Bytes.field b 2 2)).map fun i => Bytes.fieldInt b (4 + 3 * i) 3
    config := { x.config with symmetry := Bytes.field b 1 1 } }) s

/-- The last output of a dissolve has been delivered: the staged bank is the active one. -/
def FilterChannel.dissolved (x : FilterChannel) : FilterChannel := { x.adopt with dissolvesDone := x.dissolvesDone + 1 }

/-! ### Delivery (R352, R354) -/

/-- A value delivered into the channel's input register, with its flags; an unmasked value is the held one from now on. -/
def deliverOutput (c : Nat) (value : Int) (flags : Nat) (s : State) : State :=
  pulse 5 c (modChan c (fun x => { x with value := value, flags := flags, held := if hasBit flags 0 then x.held else value }) s)

/-- The held value delivered with the held flag, where the channel goes stale or waits after a drop. -/
def deliverHeld (c : Nat) (s : State) : State := modChan c (fun x => { x with value := x.held, flags := 1 }) s

/-- The output at the present input count, a multiple of M. -/
def produceOutput (c : Nat) (s : State) : State :=
  let x := chanOf s c
  let j := x.n / x.config.decimation
  let s := if x.dissolving && x.dissolve.any (fun d => d.k = d.length) then
    endDissolve c FilterChannel.dissolved s else s
  let s := if dissolveAdmitted s c then startDissolve c j s else s
  let x := chanOf s c
  if !x.settled then deliverOutput c x.held 1 s
  else
    let raw := bankOutput x.bank x.medians
    let s := if saturate24 raw != raw then modChan c (fun x => { x with saturations := x.saturations + 1 }) s else s
    match x.dissolve, x.staged with
    | some d, some b =>
      if d.started then
        let raw' := bankOutput b.taps x.medians
        let s := if saturate24 raw' != raw' then modChan c (fun x => { x with saturations := x.saturations + 1 }) s else s
        let k := d.k + 1
        let s := modChan c (fun x => { x with dissolve := some { d with k := k } }) s
        deliverOutput c (blend d.length k (saturate24 raw) (saturate24 raw')) (if k < d.length then 2 else 0) s
      else deliverOutput c (saturate24 raw) 0 s
    | _, _ => deliverOutput c (saturate24 raw) 0 s

/-! ### Samples (R345 to R348) -/

/-- Samples that a channel may admit in one 100 ms window (R346). -/
def admission (rate : Nat) : Nat := (101 * rate + 999) / 1000 + 1

/-- The 100 ms window of local time. -/
def windowNow (s : State) : Nat := toNs (localNow s) / 100000000

/-- One sample offered to an enabled channel: admitted and passed through the pipeline, or dropped for its rate. While the filter
engine has failed its self-test, every channel delivers its held value (Table 17.9). -/
def takeSample (c : Nat) (a : Int) (s : State) : State :=
  let w := windowNow s
  let s := modChan c (fun x => { x with admitted := if x.window = w then x.admitted else 0, window := w, lastSample := s.time }) s
  let x := chanOf s c
  if admission x.config.rate ≤ x.admitted then
    deliverHeld c (modChan c (fun x => { x with rateDropped := x.rateDropped + 1, switchNext := true }) s)
  else
    let s := if x.switchNext || x.stale then endDissolve c FilterChannel.inputSwitch s else s
    let x := chanOf s c
    let samples := (a :: x.samples).take x.config.median
    let x := { x with admitted := x.admitted + 1, samples := samples, n := x.n + 1,
                      medians := (medianOf x.config.median samples :: x.medians).take 256 }
    let s := modChan c (fun _ => x) s
    if x.n % x.config.decimation != 0 then s
    else if s.test.filterFailed then deliverHeld c s
    else produceOutput c s

/-- The channels, enabled, whose source in use is a signal of a stream. -/
def takersOf (s : State) (stream : Nat) : List Nat :=
  (s.signal.channels.filter fun p => p.2.enabled && p.2.stream = stream).map Prod.fst

/-- The channels whose configuration names a stream. -/
def FilterChannel.names (x : FilterChannel) (stream : Nat) : Bool :=
  x.configured && (x.config.primary = stream || x.config.alternate = stream)
def knownStream (s : State) (stream : Nat) : Bool := s.signal.channels.any fun p => p.2.names stream

/-- The sample sets of a frame's payload: `signals` samples of 24 bits each, in network order. -/
def sampleSets (signals count : Nat) (b : Bytes) : List (List Int) :=
  (List.range count).map fun k =>
    (List.range signals).map fun i => toSigned 24 (beNat (Bytes.slice b (0x18 + 3 * (k * signals + i)) 3))

/-- A number in network order at an offset. -/
def Bytes.beField (b : Bytes) (o n : Nat) : Nat := beNat (Bytes.slice b o n)

/-- The payload is a well-formed stream frame (R344, Table 10.1). -/
def streamOk (b : Bytes) : Bool :=
  let signals := Bytes.beField b 3 1
  let count := Bytes.beField b 6 2
  Bytes.beField b 0 2 = 0x4B53 && Bytes.beField b 2 1 = 1 && 1 ≤ signals && signals ≤ 16 && 1 ≤ count &&
    count ≤ 1476 / (3 * signals) && b.length = 0x18 + 3 * signals * count

/-- A stream frame that the rule of R344 drops, counted: module-wide from a wrong port or of an unknown stream, otherwise at the channels
that name its stream. -/
def dropStreamFrame (port : Nat) (b : Bytes) (s : State) : State :=
  let stream := Bytes.beField b 4 2 % 4096
  if port < 4 || 20 ≤ port || !knownStream s stream then modSignal (fun x => { x with wrongFrames := x.wrongFrames + 1 }) s
  else modSignal (fun x => { x with channels := x.channels.map fun p =>
    (p.1, if p.2.names stream then { p.2 with framesDropped := p.2.framesDropped + 1 } else p.2) }) s

/-- Every taker of a stream changed. -/
def modTakers (stream : Nat) (f : FilterChannel → FilterChannel) (s : State) : State :=
  (takersOf s stream).foldl (fun t c => modChan c f t) s

/-- Sample sets taken by the channels in order. -/
def takeSets (stream : Nat) (sets : List (List Int)) (s : State) : State :=
  sets.foldl (fun t set =>
    (takersOf t stream).foldl (fun u c => match set[(chanOf u c).signal]? with
      | some a => takeSample c a u
      | none => u) t) s

/-- A frame of a known stream, by its first field against the expected index (R345). -/
def takeFrame (stream first : Nat) (sets : List (List Int)) (s : State) : State :=
  let entry := Tbl.find s.signal.streams stream
  let e := match entry with
    | some x => x.expected
    | none => first
  let ahead := (first + 2 ^ 32 - e) % 2 ^ 32
  let last := match entry with
    | some x => x.last
    | none => []
  if 2 ^ 31 ≤ ahead then modTakers stream (fun x => { x with repeats := x.repeats + 1 }) s
  else
    let s := if 8 < ahead then modTakers stream (fun x => { x with switchNext := true, gaps := x.gaps + 1 }) s
      else takeSets stream (List.replicate ahead last) (modTakers stream (fun x => { x with setsFilled := x.setsFilled + ahead }) s)
    let s := takeSets stream sets (modTakers stream (fun x => { x with framesTaken := x.framesTaken + 1 }) s)
    let now : Stream := ⟨(first + sets.length) % 2 ^ 32, (sets.getLast?).getD last, s.time⟩
    modSignal (fun x => { x with streams := Tbl.put x.streams stream now }) s

/-- Filter channels run in every state but Stowed, Booting and Halted (R364, Table 17.1). -/
def signalRuns (s : State) : Bool := hasMailbox s

/-- STREAM_FRAME (R345): a stream frame from a backplane port reaches the filter engine. -/
def execStreamFrame (port : Nat) (b : Bytes) (s : State) : Out :=
  let stream := Bytes.beField b 4 2 % 4096
  if !signalRuns s then .next s
  else if !streamOk b || !knownStream s stream then .next (dropStreamFrame port b s)
  else
    .next (takeFrame stream (Bytes.beField b 8 4) (sampleSets (Bytes.beField b 3 1) (Bytes.beField b 6 2) b) s)

/-- Instant at which a source goes stale: timeout / f_in after its last sample. -/
def staleAt (x : FilterChannel) (last : Nat) : Nat := last + second x.config.timeout / x.config.rate

/-- The source not in use is configured and not stale: its stream carries its signal, and has come within the timeout. -/
def otherLive (s : State) (x : FilterChannel) : Bool :=
  let other := if x.source = 0 then x.config.alternate else x.config.primary
  let signal := if x.source = 0 then x.config.alternateSignal else x.config.primarySignal
  match Tbl.find s.signal.streams other with
  | some st => other < 4096 && signal < st.last.length && s.time < staleAt x st.arrivedAt
  | none => false

/-- The other source taken into use by an input switch. -/
def FilterChannel.otherSource (x : FilterChannel) (last : Nat) : FilterChannel :=
  { x.inputSwitch with source := 1 - x.source, lastSample := last }

/-- Instant of the last sample of a stream; now where none has come. -/
def lastArrival (s : State) (stream : Nat) : Nat :=
  match Tbl.find s.signal.streams stream with
  | some st => st.arrivedAt
  | none => s.time

/-- CHANNEL_STALE (R347): no sample of the source has arrived for the timeout. -/
def execChannelStale (c : Nat) (s : State) : Out :=
  let x := chanOf s c
  if !x.enabled || x.stale || !signalRuns s then .next s
  else
    let s := reach (staleAt x x.lastSample) s
    let s := modChan c (fun x => { x with staleEvents := x.staleEvents + 1 }) s
    if x.config.autoSwitch && otherLive s x then
      let other := if x.source = 0 then x.config.alternate else x.config.primary
      .next (endDissolve c (fun x => x.otherSource (lastArrival s other)) s)
    else .next (deliverHeld c (modChan c (fun x => { x with stale := true }) s))

/-- DISSOLVE_START (R356): the waiting dissolve of a channel starts with the next output. -/
def execDissolveStart (c : Nat) (s : State) : Out :=
  let x := chanOf s c
  .next (if dissolveAdmitted s c then startDissolve c (x.n / x.config.decimation + 1) s else s)

/-- DISSOLVE_COMPLETE (R357): after its last output the staged bank is the active one. -/
def execDissolveComplete (c : Nat) (s : State) : Out :=
  match (chanOf s c).dissolve with
  | some d => .next (if d.started && d.k = d.length then
      endDissolve c FilterChannel.dissolved s else s)
  | none => .next s

/-- Channels after a restart: configuration, active bank and enables are settings; everything else starts anew (R353, R355). -/
def signalReset (x : SignalSt) (now : Nat) : SignalSt :=
  { channels := x.channels.map fun p => (p.1, { config := p.2.config, configured := p.2.configured, enabled := p.2.enabled,
                                                 bank := p.2.bank, flags := 1, lastSample := now }) }

/-! ### Commands (Table 10.6) -/

/-- Group delay in half input samples, 0xFFFF where not stated (R359). -/
def groupDelay (symmetry taps w : Nat) : Nat := if symmetry = 0 then 0xFFFF else taps - 1 + (w - 1)

/-- Taps have the symmetry declared (R348). -/
def symmetric (symmetry : Nat) (h : List Int) : Bool :=
  match symmetry with
  | 0 => true
  | 1 => h == h.reverse
  | _ => h == h.reverse.map fun a => -a

/-- Coefficients of 3 bytes each from an offset. -/
def coefficients (b : Bytes) (o n : Nat) : List Int := (List.range n).map fun i => Bytes.fieldInt b (o + 3 * i) 3

/-- State of a channel in SIGNAL_STATUS. -/
def channelState (x : FilterChannel) : Nat :=
  if !x.enabled then 3 else if x.stale then 2 else if x.dissolving then 4 else if x.dissolve.isSome then 5
  else if !x.settled then 1 else 0

/-- One channel in SIGNAL_STATUS. -/
def channelStatus (c : Nat) (x : FilterChannel) : Bytes :=
  let staged := (x.staged.map fun b => b.taps.length).getD 0
  let (k, l) := match x.dissolve with
    | some d => (d.k, d.length)
    | none => (0, 0)
  le 1 c ++ le 1 (bit x.enabled) ++ le 1 x.source ++ le 1 (channelState x) ++ le 2 x.bank.length ++ le 2 staged ++
    le 1 x.config.median ++ le 1 x.config.decimation ++ le 4 x.n ++ le 2 k ++ le 2 l ++
    le 2 (groupDelay x.config.symmetry x.bank.length x.config.median) ++ leInt 4 x.value ++ le 1 x.flags

/-- SIGNAL_STATUS. -/
def cmdSignalStatus : Command where
  issuers := anyOrLanes
  body := sized 3 fun e s =>
    let first := e.field 0 1
    let count := e.field 1 2
    if count = 0 || 128 < count || 128 < first + count then fails stBadArgument s
    else answers (le 4 (engineLoad s) ++ le 2 (dissolveQueue s).length ++
      (List.range count).flatMap fun k => channelStatus (first + k) (chanOf s (first + k))) s

/-- The request of CHANNEL_CONFIGURE keeps the limits of Table 10.2. -/
def channelConfigOk (b : Bytes) : Bool :=
  let f := Bytes.field b
  let n := f 0x0E 2
  b.length = 0x14 + 3 * n && f 0 1 < 128 && [1, 3, 5, 7, 9].contains (f 1 1) && 1 ≤ f 2 1 && f 2 1 ≤ 64 && f 3 1 < 2 &&
    1 ≤ f 4 2 && f 4 2 ≤ 20000 && 2 ≤ f 6 2 && f 6 2 ≤ 1000 && f 8 2 < 4096 && f 0x0A 1 < 16 && f 0x0B 1 < 16 &&
    (f 0x0C 2 < 4096 || f 0x0C 2 = 0xFFFF) && 1 ≤ n && n ≤ 256 && f 0x10 1 ≤ 2 && f 0x11 3 = 0

/-- The configuration that a request gives. -/
def channelConfig (b : Bytes) : ChannelConfig :=
  let f := Bytes.field b
  { median := f 1 1, decimation := f 2 1, autoSwitch := hasBit (f 3 1) 0, rate := f 4 2, timeout := f 6 2, primary := f 8 2,
    primarySignal := f 0x0A 1, alternateSignal := f 0x0B 1, alternate := f 0x0C 2, symmetry := f 0x10 1 }

/-- CHANNEL_CONFIGURE (R348, R355): of an enabled channel it is a reload. -/
def cmdChannelConfigure : Command where
  issuers := roleOnly maintainer
  body := fun e s =>
    let b := e.payload
    if !channelConfigOk b then fails stBadArgument s
    else
      let c := Bytes.field b 0 1
      let x := chanOf s c
      let cfg := channelConfig b
      let taps := coefficients b 0x14 (Bytes.field b 0x0E 2)
      let y := { x with config := cfg, configured := true, bank := taps, staged := none, dissolve := none, source := 0, stale := false,
                        switchNext := false, lastSample := s.time }
      if x.dissolve.isSome then fails 0x0811 s
      else if capacity < engineLoad s - x.load + y.load then fails 0x0810 s
      else if !symmetric cfg.symmetry taps then fails 0x0813 s
      else
        let t := modChan c (fun _ => y.clear) s
        answers (le 2 x.bank.length ++ le 4 (engineLoad t)) (forwardSettings e t)

/-- The channel of a request is enabled; if not, the command is refused (R366). -/
def onEnabled (c : Nat) (f : State → State × Reply) (s : State) : State × Reply :=
  if 128 ≤ c then fails stBadArgument s else if !(chanOf s c).enabled then fails stRefused s else f s

/-- COEFF_LOAD (R355). -/
def cmdCoeffLoad : Command where
  issuers := roleOrLanes maintainer
  body := fun e s =>
    let n := e.field 2 2
    let sym := e.field 1 1
    if n = 0 || 256 < n || 2 < sym || e.payload.length != 4 + 3 * n then fails stBadArgument s
    else onEnabled (e.field 0 1) (fun s =>
      let c := e.field 0 1
      let taps := coefficients e.payload 4 n
      if (chanOf s c).dissolve.isSome then fails 0x0811 s
      else if !symmetric sym taps then fails 0x0813 s
      else
        answers (le 2 (groupDelay sym n (chanOf s c).config.median)) (modChan c (fun x => { x with staged := some ⟨sym, taps⟩ }) s)) s

/-- SIGNAL_DISSOLVE (R356): it waits, uncommitted, for its first output. -/
def cmdSignalDissolve : Command where
  issuers := roleOrLanes maintainer
  body := sized 4 fun e s =>
    let c := e.field 0 1
    let l := e.field 2 2
    if l = 0 || 4096 < l || !e.clear [(1, 1)] then fails stBadArgument s
    else onEnabled c (fun s =>
      let x := chanOf s c
      if x.dissolve.isSome then fails 0x0811 s
      else if x.staged.isNone then fails 0x0812 s
      else (modChan c (fun x => { x with dissolve := some ⟨l, false, 0, e.stamp, e.id⟩ }) s, .goesOn .under false)) s

/-- Commands accepted on a channel and not committed. -/
def onChannel (c self : Nat) (e : Entry) : Bool :=
  (e.code = 0x0803 || e.code = 0x0804 || e.code = 0x0806) && Bytes.field e.payload 0 1 = c && e.id != self

/-- CHANNEL_CONTROL (R364): a disable ends a dissolve with the old bank and cancels the commands on the channel; an enable is a start. -/
def cmdChannelControl : Command where
  issuers := roleOnly maintainer
  body := sized 2 fun e s =>
    let c := e.field 0 1
    let on := e.field 1 1
    if 128 ≤ c || 1 < on then fails stBadArgument s
    else
      let x := chanOf s c
      let before := le 1 (bit x.enabled)
      if on = 1 then
        if x.enabled then answers (before ++ le 2 0) s
        else if !x.configured then fails stRefused s
        else if capacity < engineLoad s + { x with enabled := true }.load then fails 0x0810 s
        else answers (before ++ le 2 0) (forwardSettings e (modChan c (fun x =>
          { x.clear with enabled := true, stale := false, switchNext := false, lastSample := s.time }) s))
      else if !x.enabled then answers (before ++ le 2 0) s
      else
        let n := (s.mbx.queue.filter fun q => !q.committed && onChannel c e.id q).length
        let s := cancelTargets (onChannel c e.id) s
        let s := modChan c (fun x => { x with enabled := false, flags := 1, dissolve := none,
                                              dissolvesEnded := x.dissolvesEnded + bit x.dissolving }) s
        answers (before ++ le 2 n) (forwardSettings e s)

/-- INPUT_SWITCH (R353). -/
def cmdInputSwitch : Command where
  issuers := roleOrLanes maintainer
  body := sized 2 fun e s =>
    let c := e.field 0 1
    let src := e.field 1 1
    if 1 < src then fails stBadArgument s
    else onEnabled c (fun s =>
      let x := chanOf s c
      if src = x.source then answers (le 1 x.source) s
      else if x.config.alternate = 0xFFFF then fails 0x0814 s
      else
        let other := if x.source = 0 then x.config.alternate else x.config.primary
        answers (le 1 x.source) (endDissolve c (fun x => x.otherSource (lastArrival s other)) s)) s

/-- SIGNAL_COUNTERS. -/
def cmdSignalCounters : Command where
  issuers := anyOrLanes
  body := sized 1 fun e s =>
    let c := e.field 0 1
    if 128 ≤ c then fails stBadArgument s
    else
      let x := chanOf s c
      answers (le 8 x.framesTaken ++ le 4 x.framesDropped ++ le 4 x.repeats ++ le 4 x.setsFilled ++ le 4 x.gaps ++
        le 4 x.rateDropped ++ le 4 x.staleEvents ++ le 4 x.inputSwitches ++ le 4 x.saturations ++ le 4 x.dissolvesDone ++
        le 4 x.dissolvesEnded ++ le 4 s.signal.wrongFrames) s

end Sys2Proof.Machine
end

