-- ==== Sys2Proof/Machine/Fabric.lean ====
section
/-! DEFINITION. The switching fabric (chapter 11): ports, forwarding database, egress queues, gates, launches, replication. -/

namespace Sys2Proof.Machine

/-! ### Ports -/

/-- A fabric port. -/
def portOf (s : State) (p : Nat) : PortSt := Tbl.get s.net.ports p {}

/-- A fabric port changed. -/
def modPort (p : Nat) (f : PortSt → PortSt) (s : State) : State :=
  modNet (fun n => { n with ports := Tbl.put n.ports p (f (Tbl.get n.ports p {})) }) s

/-- Ports 28 to 31 are internal (Table 11.1). -/
def internalPort (p : Nat) : Bool := 28 ≤ p

/-- Rate in Mbit/s: of an internal port by Table 1.8. -/
def portRate (s : State) (p : Nat) : Nat :=
  match p with
  | 28 => 10000
  | 29 => 5000
  | 30 | 31 => 1000
  | _ => (portOf s p).rate

/-- The port carries frames: enabled with link, and for ports 0 to 3 no relay that fails to follow (R374), nor one still closed (R28). -/
def portUp (s : State) (p : Nat) : Bool :=
  internalPort p || (portOf s p).up && (portOf s p).config.enabled && (4 ≤ p || s.net.relayFaults = 0 && s.module.state != .booting)

/-- The fabric runs from the step of Booting on that activates its ports (R28); in Stowed and Halted the ports are down. -/
def fabricRuns (s : State) : Bool := portsActive s

/-- Causes of R382 in its order. -/
def dropLength : Nat := 0
def dropFcs : Nat := 1
def dropVlan : Nat := 2
def dropTree : Nat := 3
def dropPinned : Nat := 4
def dropFlood : Nat := 5
def dropQueue : Nat := 6
def dropGate : Nat := 7
def dropVerify : Nat := 8
def dropMacsec : Nat := 9
def dropStream : Nat := 10
def dropDown : Nat := 11

/-- One drop counted at a port. -/
def countDrop (p cause : Nat) (s : State) : State :=
  modPort p (fun x => { x with drops := Tbl.put x.drops cause (Tbl.get x.drops cause 0 + 1) }) s

/-! ### Frames -/

/-- Destination, source, VLAN tag and EtherType of an Ethernet II frame. -/
def frameDest (b : Bytes) : Nat := Bytes.beField b 0 6
def frameSource (b : Bytes) : Nat := Bytes.beField b 6 6
def frameTagged (b : Bytes) : Bool := Bytes.beField b 12 2 = 0x8100
def frameType (b : Bytes) : Nat := if frameTagged b then Bytes.beField b 16 2 else Bytes.beField b 12 2
def framePayload (b : Bytes) : Bytes := if frameTagged b then b.drop 18 else b.drop 14

/-- A group address. -/
def groupAddress (mac : Nat) : Bool := (mac / 2 ^ 40) % 2 = 1

/-- VLAN of a frame on a port: its tag's, or the port's. -/
def frameVlan (c : PortConfig) (b : Bytes) : Nat :=
  if frameTagged b && Bytes.beField b 14 2 % 4096 != 0 then Bytes.beField b 14 2 % 4096 else c.pvid

/-- Priority of a frame: its PCP, or the port's default. -/
def framePriority (c : PortConfig) (b : Bytes) : Nat := if frameTagged b then Bytes.beField b 14 2 / 8192 else c.pcp

/-- Membership of a port in a VLAN: tagged or not, none for no membership. A port belongs to its own VLAN, untagged unless listed;
internal ports belong to all, tagged. -/
def membership (s : State) (p vlan : Nat) : Option Bool :=
  if internalPort p then some true
  else
    match Tbl.find (portOf s p).config.vlans vlan with
    | some t => some t
    | none => if (portOf s p).config.pvid = vlan then some false else none

/-- The frame as it leaves on a port: with or without its tag. -/
def retag (tagged : Bool) (vlan pcp : Nat) (b : Bytes) : Bytes :=
  let body := if frameTagged b then b.drop 16 else b.drop 12
  b.take 12 ++ (if tagged then be 2 0x8100 ++ be 2 (pcp * 8192 + vlan) else []) ++ body

/-- The Live context under which a port sends (R405). -/
def sendContext (s : State) (p : Nat) : Option Nat :=
  (s.trust.contexts.find? fun c => c.2.purpose = 1 && c.2.binding = p && c.2.state = .live).map Prod.fst

/-- The context that protects a frame of a port; frames of key agreement (EtherType 0x888E) leave in clear. -/
def frameContext (s : State) (p : Nat) (b : Bytes) : Option Nat := if frameType b = 0x888E then none else sendContext s p

/-- A frame that a port with "protection required" cannot send, since none of its contexts is Live (R406). -/
def unprotectable (s : State) (p : Nat) (b : Bytes) : Bool :=
  (portOf s p).config.protection && (sendContext s p).isNone && frameType b != 0x888E

/-- Time on the wire in half-nanoseconds, with FCS, preamble and gap, and the 802.1AE expansion where the port protects. -/
def wireTime (s : State) (p : Nat) (len : Nat) : Nat :=
  (max 60 len + 24 + (if (sendContext s p).isSome then 32 else 0)) * 8 * 2000 / (max 1 (portRate s p))

/-! ### Gates (R388, R389) -/

/-- Offset within the cycle of a gate list at a local time, in ns. -/
def gateOffset (g : GateList) (localTime : Nat) : Nat := if localTime < g.base then 0 else toNs (localTime - g.base) % g.cycle

/-- Entries from the one in force at an offset, with the time left of the first: mask and ns. The list's last states stand until the
cycle ends. -/
def entriesFrom : List (Nat × Nat) → Nat → Nat → List (Nat × Nat)
  | [], _, _ => []
  | [(m, _)], off, cycle => [(m, cycle - off)]
  | (m, t) :: l, off, cycle => if off < t then (m, t - off) :: l else entriesFrom l (off - t) (cycle - t)

/-- Mask of open gates at an offset. -/
def gateMaskAt (g : GateList) (off : Nat) : Nat :=
  match entriesFrom g.entries off g.cycle with
  | (m, _) :: _ => m
  | [] => 0xFF

/-- ns for which a class stays open through a list of intervals. -/
def openRun (c : Nat) : List (Nat × Nat) → Nat
  | [] => 0
  | (m, t) :: l => if hasBit m c then t + openRun c l else 0

/-- ns until a class closes, counting into the next cycle; 0 where it is closed, none where it never closes. -/
def openFor (g : GateList) (off c : Nat) : Option Nat :=
  if g.entries.all fun e => hasBit e.1 c then none
  else some (openRun c (entriesFrom g.entries off g.cycle ++ entriesFrom g.entries 0 g.cycle))

/-- The longest open interval of a class, none where it never closes. -/
def longestOpen (g : GateList) (c : Nat) : Option Nat :=
  if g.entries.all fun e => hasBit e.1 c then none
  else
    let starts := g.entries.foldl (fun (acc : List Nat × Nat) e => (acc.1 ++ [acc.2], acc.2 + e.2)) ([], 0)
    some ((starts.1.filter (· < g.cycle)).foldl (fun best o => max best ((openFor g o c).getD 0)) 0)

/-- A frame of a wire time may start now in a class: its gate is open, and stays open until the frame ends. -/
def gateAllows (s : State) (p c wire : Nat) : Bool :=
  match (portOf s p).gates with
  | none => true
  | some g => match openFor g (gateOffset g (localNow s)) c with
    | none => true
    | some t => 0 < t && wire ≤ 2 * t

/-! ### Egress (R383 to R385) -/

/-- One frame into a queue by stamp, then by ingress port. -/
def insertFrame (f : QueuedFrame) : List QueuedFrame → List QueuedFrame
  | [] => [f]
  | g :: l => if f.stamp < g.stamp || f.stamp = g.stamp && f.ingress < g.ingress then f :: g :: l else g :: insertFrame f l

/-- Limit of a queue in bytes. -/
def queueLimit (c : PortConfig) (cls : Nat) : Nat := 1024 * Tbl.get c.limits cls 32

/-- The highest class whose oldest frame may start now. -/
def nextClass (s : State) (p : Nat) : Option (Nat × QueuedFrame) :=
  ([7, 6, 5, 4, 3, 2, 1, 0].filterMap fun c =>
    match Tbl.get (portOf s p).queues c [] with
    | f :: _ => if gateAllows s p c (wireTime s p f.bytes.length) then some (c, f) else none
    | [] => none).head?

/-- A frame starts on a port. -/
def startFrame (p : Nat) (b : Bytes) (start : Nat) (s : State) : State :=
  let ends := start + wireTime s p b.length
  emit (.frame p (frameContext s p b) b)
    (modPort p (fun x => { x with sending := some ends, framesOut := x.framesOut + 1, octetsOut := x.octetsOut + b.length }) s)

/-- An idle port starts its next class-queue frame, outside guard bands and back-pressure. -/
def startNext (p : Nat) (s : State) : State :=
  let x := portOf s p
  if x.sending.isSome || s.time < x.guardUntil || s.time < x.heldUntil || !portUp s p then s
  else
    match nextClass s p with
    | none => s
    | some (c, f) =>
      startFrame p f.bytes s.time (modPort p (fun x => { x with queues := Tbl.put x.queues c ((Tbl.get x.queues c []).drop 1) }) s)

/-- A frame arrives at an egress queue: dropped and counted where the port is down, the gate can never hold it or the queue is full. -/
def enqueue (p cls ingress : Nat) (b : Bytes) (s : State) : State :=
  let q := Tbl.get (portOf s p).queues cls []
  let neverFits : Bool := match (portOf s p).gates with
    | none => false
    | some g => match longestOpen g cls with
      | none => false
      | some t => 2 * t < wireTime s p b.length
  if !portUp s p then countDrop p dropDown s
  else if unprotectable s p b then countDrop p dropMacsec s
  else if neverFits then countDrop p dropGate s
  else if queueLimit (portOf s p).config cls < (q.map fun f => f.bytes.length).sum + b.length then countDrop p dropQueue s
  else startNext p (modPort p (fun x => { x with queues := Tbl.put x.queues cls (insertFrame ⟨b, s.time, ingress⟩ q) }) s)

/-- EGRESS_FRAME_DONE: the frame in progress ends, and the port starts the next. -/
def execEgressFrameDone (p : Nat) (s : State) : Out :=
  match (portOf s p).sending with
  | some t => .next (startNext p (modPort p (fun x => { x with sending := none }) (reach t s)))
  | none => .next (startNext p s)

/-! ### The forwarding database (R377 to R381) -/

/-- Bucket of an address and VLAN under the boot's key. -/
def bucketOf (s : State) (mac vlan : Nat) : Nat := Config.sipHash s.net.hashKey (be 6 mac ++ be 2 vlan) % 4096

/-- The pinned and learned entries of an address and VLAN. -/
def pinnedEntry (s : State) (mac vlan : Nat) : Option Pinned := s.net.pinned.find? fun e => e.mac = mac && e.vlan = vlan
def learnedEntry (s : State) (mac vlan : Nat) : Option Learned := s.net.learned.find? fun e => e.mac = mac && e.vlan = vlan

/-- A new address learned on its ingress port, within the port's limit, in a free way or a free CAM entry (R378). -/
def learnNew (p mac vlan : Nat) (s : State) : State :=
  let b := bucketOf s mac vlan
  let add (bucket : Option Nat) : State := modNet (fun n => { n with learned := n.learned ++ [⟨mac, vlan, p, bucket, s.time⟩] }) s
  if (portOf s p).config.learnLimit ≤ (s.net.learned.filter fun e => e.port = p).length then
    modPort p (fun x => { x with learnRefusals := x.learnRefusals + 1 }) s
  else if (s.net.learned.filter fun e => e.bucket = some b).length < 4 then add (some b)
  else if (s.net.learned.filter fun e => e.bucket = none).length < 64 then add none
  else modPort p (fun x => { x with learnFailures := x.learnFailures + 1 }) s

/-- The source address of a frame learned, moved or refreshed. -/
def learn (p mac vlan : Nat) (s : State) : State :=
  if groupAddress mac then s
  else if (pinnedEntry s mac vlan).isSome then s
  else
    match learnedEntry s mac vlan with
    | some _ => modNet (fun n => { n with learned := n.learned.map fun e =>
        if e.mac = mac && e.vlan = vlan then { e with port := p, lastSeen := s.time } else e }) s
    | none => learnNew p mac vlan s

/-- A source that a pinned entry places elsewhere. -/
def pinnedElsewhere (s : State) (p mac vlan : Nat) : Bool :=
  match pinnedEntry s mac vlan with
  | some e => !hasBit e.ports p
  | none => false

/-- Units of a flood bucket that one byte draws: 1 % of R Mbit/s fills R units in half a nanosecond. -/
def floodUnit : Nat := 1600000

/-- A flooded frame at an egress port: through the token bucket, or dropped where the bucket is empty (R381). -/
def floodTo (p cls ingress : Nat) (b : Bytes) (s : State) : State :=
  let rate := portRate s p
  let bucket := (portOf s p).flood
  if !portUp s p then countDrop p dropDown s
  else if bucket.at rate s.time < 16384 * floodUnit then
    enqueue p cls ingress b
      (modPort p (fun x => { x with flood := ⟨bucket.at rate s.time + b.length * floodUnit, s.time⟩ }) s)
  else countDrop p dropFlood s

/-- The ports of a VLAN other than one. -/
def vlanPorts (s : State) (vlan but : Nat) : List Nat :=
  (List.range 32).filter fun p => p != but && p != 30 && (membership s p vlan).isSome

/-- A frame sent to each of a list of ports: dropped under VLAN membership at a port outside its VLAN, and at its ingress port where the
list is empty (R382, log entry 148). -/
def sendTo (flood : Bool) (ports : List Nat) (vlan cls ingress : Nat) (b : Bytes) (s : State) : State :=
  if ports.isEmpty then countDrop ingress dropVlan s
  else
    ports.foldl (fun t p => match membership t p vlan with
      | none => countDrop p dropVlan t
      | some tagged =>
        let out := retag tagged vlan cls b
        if flood then floodTo p cls ingress out t else enqueue p cls ingress out t) s

/-- Forwarding of a frame by the first table that matches, else by flooding (R377, R381). -/
def forward (p vlan cls : Nat) (b : Bytes) (s : State) : State :=
  let dest := frameDest b
  match pinnedEntry s dest vlan with
  | some e => sendTo false ((List.range 32).filter fun q => q != p && hasBit e.ports q) vlan cls p b s
  | none =>
    match learnedEntry s dest vlan with
    | some e => sendTo false (if e.port = p then [] else [e.port]) vlan cls p b s
    | none =>
      sendTo true (vlanPorts s vlan p) vlan cls p b (modPort p (fun x => { x with floodedIn := x.floodedIn + 1 }) s)

/-! ### Replication and elimination (R386, R387) -/

/-- A frame matches an identification entry: method 1, destination address (6) and VLAN (2); method 2, IP source (4), destination
(4), protocol (1), DSCP (1), source port (2), destination port (2) and VLAN (2) (log entry 26). -/
def identifies (x : Nat × Bytes) (vlan : Nat) (b : Bytes) : Bool :=
  let f := Bytes.beField x.2
  let ip := framePayload b
  if x.1 = 1 then f 0 6 = frameDest b && f 6 2 = vlan
  else frameType b = 0x0800 && f 0 4 = Bytes.beField ip 12 4 && f 4 4 = Bytes.beField ip 16 4 && f 8 1 = Bytes.beField ip 9 1 &&
    f 9 1 = Bytes.beField ip 1 1 / 4 && f 10 2 = Bytes.beField ip 20 2 && f 12 2 = Bytes.beField ip 22 2 && f 14 2 = vlan

/-- The stream of a frame that a recovery function serves on the port of its arrival. -/
def frerStream (s : State) (port vlan : Nat) (b : Bytes) : Option Nat :=
  (s.net.frer.find? fun p => p.2.recovery.any (fun m => hasBit m port) && p.2.identifications.any fun x => identifies x vlan b).map Prod.fst

/-- The stream of a frame that a generation function serves. -/
def splitStream (s : State) (vlan : Nat) (b : Bytes) : Option Nat :=
  (s.net.frer.find? fun p => p.2.generation.isSome && p.2.identifications.any fun x => identifies x vlan b).map Prod.fst

/-- The next sequence number of a stream's generation function with its ports, and the function advanced; none without a function. -/
def generate (n : Nat) (s : State) : Option (Nat × Nat) × State :=
  match Tbl.find s.net.frer n with
  | none => (none, s)
  | some f => match f.generation with
    | none => (none, s)
    | some ports =>
      (some (f.nextSequence, ports),
        modNet (fun x => { x with frer := Tbl.put x.frer n { f with nextSequence := (f.nextSequence + 1) % 65536 } }) s)

/-- A frame with an R-TAG after its addresses and VLAN tag. -/
def addRtag (seq : Nat) (b : Bytes) : Bytes :=
  let n := if frameTagged b then 16 else 12
  b.take n ++ be 2 0xF1C1 ++ be 2 0 ++ be 2 seq ++ b.drop n

/-- The sequence number of an R-TAG (EtherType 0xF1C1). -/
def rtagSequence (b : Bytes) : Option Nat := if frameType b = 0xF1C1 then some (Bytes.beField (framePayload b) 2 2) else none

/-- The vector recovery algorithm: whether a sequence number is accepted, and the function afterwards. -/
def Frer.recover (f : Frer) (seq path now : Nat) : Bool × Frer :=
  let f := { f with paths := Tbl.put f.paths path now, latent := f.latent.filter (· != path) }
  match f.highest with
  | none => (true, { f with highest := some seq, seen := [seq], lastAccepted := now })
  | some h =>
    let ahead := (seq + 65536 - h) % 65536
    let behind := (h + 65536 - seq) % 65536
    if 0 < ahead && ahead < f.history then
      (true, { f with highest := some seq, lastAccepted := now,
                      seen := seq :: f.seen.filter fun x => (seq + 65536 - x) % 65536 < f.history })
    else if behind < f.history && !f.seen.contains seq then (true, { f with seen := seq :: f.seen, lastAccepted := now })
    else (false, { f with duplicates := f.duplicates + 1 })

/-! ### Ingress -/

/-- The context under which a frame verified can receive on its port. -/
def receiveContext (s : State) (p : Nat) : MacsecVerdict → Bool
  | .verified c => match Tbl.find s.trust.contexts c with
    | some x => x.purpose = 1 && x.binding = p
    | none => false
  | _ => false

/-- The cause for which a frame is dropped at ingress, in the order of the checks. -/
def ingressDrop (s : State) (p : Nat) (f : RxFrame) : Option Nat :=
  let c := (portOf s p).config
  let b := f.bytes
  let vlan := frameVlan c b
  if !portUp s p then some dropDown
  else if 1522 < b.length + 4 then some dropLength
  else if !f.fcsOk then some dropFcs
  else if f.macsec != .clear && !receiveContext s p f.macsec then some dropVerify
  else if f.macsec = .clear && c.protection && frameType b != 0x888E then some dropMacsec
  else if frameType b = 0x88B6 then
    if 4 ≤ p && p < 20 && streamOk (framePayload b) && knownStream s (Bytes.beField (framePayload b) 4 2 % 4096) then none
    else some dropStream
  else if (membership s p vlan).isNone then some dropVlan
  else if frameDest b = 0x0180C2000000 && 4 ≤ p && p < 20 then some dropTree
  else if pinnedElsewhere s p (frameSource b) vlan then some dropPinned
  else none

/-- A frame that passed the checks: learned, and forwarded: once through the recovery function of its stream, or split by its generation
function. -/
def admitFrame (p : Nat) (b : Bytes) (s : State) : State :=
  let c := (portOf s p).config
  let vlan := frameVlan c b
  let cls := framePriority c b
  let s := learn p (frameSource b) vlan s
  if frameDest b / 16 = 0x0180C200000 then sendTo false [28] vlan cls p b s
  else
    match frerStream s p vlan b, rtagSequence b with
    | some n, some seq =>
      let r := (Tbl.get s.net.frer n {}).recover seq p s.time
      let s := modNet (fun x => { x with frer := Tbl.put x.frer n r.2 }) s
      if r.1 then forward p vlan cls b s else s
    | _, none => match splitStream s vlan b with
      | none => forward p vlan cls b s
      | some n => match generate n s with
        | (some (seq, ports), s) => sendTo false ((List.range 32).filter (hasBit ports)) vlan cls p (addRtag seq b) s
        | (none, s) => forward p vlan cls b s
    | none, some _ => forward p vlan cls b s

/-- FRAME_RECEIVE (R377): a frame arrives at a fabric port. -/
def execFrameReceive (p : Nat) (f : RxFrame) (s : State) : Out :=
  if !fabricRuns s then .next s
  else
    let s := modPort p (fun x => { x with framesIn := x.framesIn + 1, octetsIn := x.octetsIn + f.bytes.length }) s
    match ingressDrop s p f with
    | some cause =>
      let s := countDrop p cause s
      .next (if cause = dropStream then dropStreamFrame p (framePayload f.bytes) s else s)
    | none =>
      if frameType f.bytes = 0x88B6 then .next (enqueue 30 (framePriority (portOf s p).config f.bytes) p f.bytes s)
      else .next (admitFrame p f.bytes s)

/-- FDB_AGING (R379): a learned entry ages out when nothing has come from its address for the aging time. -/
def execFdbAging (mac vlan : Nat) (s : State) : Out :=
  match learnedEntry s mac vlan with
  | some e =>
    .next (modNet (fun n => { n with learned := n.learned.filter fun x => !(x.mac = mac && x.vlan = vlan) })
      (reach (e.lastSeen + second s.net.aging) s))
  | none => .next s

/-- FRER_RESET_TIMEOUT (R386): a recovery function that accepted nothing for its reset timeout starts again with an empty history. -/
def execFrerResetTimeout (n : Nat) (s : State) : Out :=
  match Tbl.find s.net.frer n with
  | some f =>
    if f.recovery.isSome && f.highest.isSome then
      .next (modNet (fun x => { x with frer := Tbl.put x.frer n { f with highest := none, seen := [] } })
        (reach (f.lastAccepted + milli f.resetMs) s))
    else .next s
  | none => .next s

/-- FRER_LATENT_ERROR (R387): a path has stopped delivering for twice the reset timeout. -/
def execFrerLatentError (n path : Nat) (s : State) : Out :=
  match Tbl.find s.net.frer n with
  | some f => match Tbl.find f.paths path with
    | some t =>
      if f.recovery.isSome && !f.latent.contains path then
        let s := reach (t + 2 * milli f.resetMs) s
        let s := modNet (fun x => { x with frer := Tbl.put x.frer n { f with latent := f.latent ++ [path] },
                                           latentErrors := x.latentErrors + 1 }) s
        .next (recordReel 0x0A path (le 2 n ++ le 1 path) s)
      else .next s
    | none => .next s
  | none => .next s

/-! ### Gate events, launches, back-pressure -/

/-- ns from an offset to the next gate event. -/
def nextGateEvent (g : GateList) (off : Nat) : Nat :=
  match entriesFrom g.entries off g.cycle with
  | (_, t) :: _ => t
  | [] => g.cycle

/-- GATE_EVENT (R388): at the next gate event in local time the gates change, and a waiting frame may start. -/
def execGateEvent (p : Nat) (s : State) : Out :=
  match (portOf s p).gates with
  | none => .next s
  | some g =>
    let now := localNow s
    let off := gateOffset g now
    let due := max now g.base - max now g.base % nsUnit + nextGateEvent g off * nsUnit
    let s := reachLocal due s
    .next (startNext p (modPort p (fun x => { x with gateMask := gateMaskAt g (gateOffset g (localNow s)) }) s))

/-- The first cycle start of a list at or after a local time. -/
def cycleStart (g : GateList) (now : Nat) : Nat :=
  if now ≤ g.base then g.base else g.base + (toNs (now - g.base - 1) / g.cycle + 1) * (g.cycle * nsUnit)

/-- GATE_LIST_TAKEOVER (R390): at its first cycle start the new list takes over. -/
def execGateListTakeover (p : Nat) (s : State) : Out :=
  match (portOf s p).gatesNext with
  | none => .next s
  | some g =>
    let s := reachLocal g.base s
    .next (startNext p (modPort p (fun x => { x with gates := if g.entries.isEmpty then none else some g, gatesNext := none,
                                                     gateMask := gateMaskAt g 0 }) s))

/-- The wire time of the longest frame of a port (R392). -/
def longestWire (s : State) (p : Nat) : Nat := wireTime s p 1518

/-- LAUNCH_GUARD_BAND (R392): from the longest frame's wire time before a launch instant, no class-queue frame starts until it. -/
def execLaunchGuardBand (p instant : Nat) (s : State) : Out :=
  .next (modPort p (fun x => { x with guardUntil := max x.guardUntil instant }) (reach (instant - longestWire s p) s))

/-- The head frame of a launch queue handed to its port (R335, R393); none where the queue is empty. A launch behind an earlier one
still on the wire starts directly after it and is counted late. -/
def launchHead (p q : Nat) (s : State) : Option State :=
  match Tbl.get (portOf s p).launches q [] with
  | [] => none
  | b :: l =>
    let s := modPort p (fun x => { x with launches := Tbl.put x.launches q l, guardUntil := s.time }) s
    if !portUp s p then some (countDrop p dropDown s)
    else if unprotectable s p b then some (countDrop p dropMacsec s)
    else
      let last := Tbl.get s.net.launchEnds p 0
      let s := if s.time < last then modPort p (fun x => { x with lateLaunches := x.lateLaunches + 1 }) s else s
      let start := max s.time (max last ((portOf s p).sending.getD 0))
      let s := startFrame p b start s
      some (modNet (fun n => { n with launchEnds := Tbl.put n.launchEnds p (start + wireTime s p b.length) }) s)

/-- Ports that the Squall registers select for back-pressure. -/
def squallPorts (s : State) : List Nat := (List.range 28).filter (hasBit s.test.bpPorts.toNat)

/-- BACKPRESSURE_WINDOW (R524): at the start of each window of PERIOD µs of local time, the selected ports hold their class queues for
HOLD µs. -/
def execBackpressureWindow (s : State) : Out :=
  let period := s.test.backpressure.toNat / 2 ^ 16
  let hold := s.test.backpressure.toNat % 2 ^ 16
  if !s.test.squall || period = 0 || hold = 0 then .next s
  else
    let step := period * 1000 * nsUnit
    let s := reachLocal ((localNow s + step - 1) / step * step) s
    .next ((squallPorts s).foldl (fun t p => modPort p (fun x => { x with heldUntil := s.time + micro hold }) t) (countApplied s))

/-! ### Commands on ports, addresses, gates and launches (Table 11.8) -/

/-- A configuration change on a Standby is refused (R411). -/
def notStandby (f : State → State × Reply) (s : State) : State × Reply := if s.pair.role = .standby then fails stRefused s else f s

/-- VLANs that any port names. -/
def vlansInUse (s : State) (p : Nat) (new : List Nat) : List Nat :=
  (new ++ s.net.ports.flatMap fun x => if x.1 = p then [] else x.2.config.vlans.map Prod.fst).foldl
    (fun l v => if l.contains v then l else v :: l) []

/-- KiB that the limits of all queues take. -/
def totalLimits (s : State) (p : Nat) (new : Nat) : Nat :=
  new + (((List.range 32).filter (· != p)).map fun q =>
    ((List.range 8).map fun c => Tbl.get (portOf s q).config.limits c 32).sum).sum

/-- The rate settings that a port's physical layer has (Table 11.1). -/
def rateOk (p rate : Nat) : Bool := if p = 26 || p = 27 then rate = 0 || rate = 3 else rate ≤ 2

/-- PORT_CONFIGURE. -/
def cmdPortConfigure : Command where
  issuers := roleOnly maintainer
  body := fun e s =>
    let b := e.payload
    let f := Bytes.field b
    let n := (b.length - 26) / 4
    let p := f 0 1
    let limits := (List.range 8).map fun c => f (10 + 2 * c) 2
    let clear := e.clear ((7, 1) :: (List.range n).map fun k => (29 + 4 * k, 1))
    let vlans := (List.range n).map fun k => (f (26 + 4 * k) 2, f (28 + 4 * k) 1)
    if b.length < 30 || b.length != 26 + 4 * n || 256 < n || 28 ≤ p || 1 < f 1 1 || !rateOk p (f 2 1) || 1 < f 3 1 ||
        f 4 2 = 0 || 4094 < f 4 2 || 7 < f 6 1 || !clear || !limits.all (fun l => 4 ≤ l && l ≤ 256) ||
        !vlans.all (fun v => 1 ≤ v.1 && v.1 ≤ 4094 && v.2 ≤ 1) || 256 < (vlansInUse s p (vlans.map Prod.fst)).length then
      fails stBadArgument s
    else notStandby (fun s =>
      if p < 4 && s.trust.ownerLock && s.trust.contexts.any (fun c => c.2.purpose = 1 && c.2.binding = p) then fails 0x0212 s
      else if 12288 < totalLimits s p limits.sum then fails 0x0917 s
      else
        let old := portOf s p
        let cfg : PortConfig := {
          enabled := f 1 1 = 1, rate := f 2 1, protection := f 3 1 = 1, pvid := f 4 2, pcp := f 6 1, learnLimit := f 8 2
          limits := (List.range 8).zip limits
          vlans := vlans.foldl (fun t v => Tbl.put t v.1 (v.2 = 1)) [] }
        let down : Bool := !cfg.enabled || cfg.rate != old.config.rate
        let s := modPort p (fun x => { x with config := cfg, up := x.up && !down }) s
        answers (le 1 (bit old.config.enabled)) (forwardSettings e s)) s

/-- PORT_COUNTERS. -/
def cmdPortCounters : Command where
  issuers := anyOrLanes
  body := sized 1 fun e s =>
    let p := e.field 0 1
    if 32 ≤ p then fails stBadArgument s
    else
      let x := portOf s p
      answers (le 8 x.framesIn ++ le 8 x.framesOut ++ le 8 x.octetsIn ++ le 8 x.octetsOut ++
        ((List.range 12).flatMap fun c => le 4 (Tbl.get x.drops c 0)) ++ le 4 x.learnFailures ++ le 4 x.learnRefusals ++
        le 8 x.floodedIn ++ le 4 x.lateLaunches ++ le 4 x.linkChanges) s

/-- A MAC address of a request: six bytes as on the wire. -/
def macField (e : Entry) (o : Nat) : Nat := beNat (e.slice o 6)

/-- A pinned entry set: by hand, or with port 29 for a subscription (R380). -/
def pin (mac vlan ports : Nat) (automatic : Bool) (s : State) : State :=
  match pinnedEntry s mac vlan with
  | some _ => modNet (fun n => { n with pinned := n.pinned.map fun x =>
      if x.mac = mac && x.vlan = vlan then
        if automatic then { x with ports := x.ports ||| ports, automatic := x.automatic + 1 }
        else { x with ports := ports ||| (if x.automatic = 0 then 0 else 2 ^ 29), manual := true }
      else x }) s
  | none => modNet (fun n => { n with pinned := n.pinned ++ [⟨mac, vlan, ports, !automatic, bit automatic⟩] }) s

/-- FDB_PIN (R377). -/
def cmdFdbPin : Command where
  issuers := roleOnly maintainer
  body := sized 12 fun e s =>
    let vlan := e.field 6 2
    if vlan = 0 || 4094 < vlan then fails stBadArgument s
    else notStandby (fun s =>
      if (pinnedEntry s (macField e 0) vlan).isNone && 4096 ≤ s.net.pinned.length then fails 0x0913 s
      else
        let s := pin (macField e 0) vlan (e.field 8 4) false s
        let s := modNet (fun n => { n with learned := n.learned.filter fun x => !(x.mac = macField e 0 && x.vlan = vlan) }) s
        answers (le 2 s.net.pinned.length) (forwardSettings e s)) s

/-- FDB_UNPIN. -/
def cmdFdbUnpin : Command where
  issuers := roleOnly maintainer
  body := sized 8 fun e s =>
    let vlan := e.field 6 2
    notStandby (fun s =>
      match pinnedEntry s (macField e 0) vlan with
      | some x =>
        if !x.manual then fails stBadArgument s
        else
          let same (y : Pinned) : Bool := y.mac = x.mac && y.vlan = vlan
          let demote (y : Pinned) : Pinned := if same y then { y with manual := false, ports := 2 ^ 29 } else y
          let rest := if x.automatic = 0 then s.net.pinned.filter (fun y => !same y) else s.net.pinned.map demote
          answers [] (forwardSettings e (modNet (fun n => { n with pinned := rest }) s))
      | none => fails stBadArgument s) s

/-- FDB_READ: pinned entries, or learned ones with those of the CAM. -/
def cmdFdbRead : Command where
  issuers := { session := true }
  body := sized 5 fun e s =>
    let table := e.field 0 1
    let count := e.field 3 2
    if 1 < table || count = 0 || 256 < count then fails stBadArgument s
    else
      let all : List Bytes :=
        if table = 0 then s.net.pinned.map fun x => be 6 x.mac ++ le 2 x.vlan ++ le 4 x.ports ++ le 4 0
        else s.net.learned.map fun x => be 6 x.mac ++ le 2 x.vlan ++ le 4 (2 ^ x.port) ++ le 4 ((s.time - x.lastSeen) / second 1)
      let found := (all.drop (e.field 1 2)).take count
      answers (le 2 found.length ++ found.flatten) s

/-- FDB_FLUSH: learned entries of a port, or of all. -/
def cmdFdbFlush : Command where
  issuers := roleOnly maintainer
  body := sized 1 fun e s =>
    let p := e.field 0 1
    if 32 ≤ p && p != 0xFF then fails stBadArgument s
    else
      let keep (x : Learned) : Bool := p != 0xFF && x.port != p
      let n := s.net.learned.length - (s.net.learned.filter keep).length
      answers (le 2 n) (modNet (fun x => { x with learned := x.learned.filter keep }) s)

/-- FRER_CONFIGURE (R386). -/
def cmdFrerConfigure : Command where
  issuers := roleOnly maintainer
  body := sized 26 fun e s =>
    let n := e.field 0 1
    let kind := e.field 1 1
    let method := e.field 2 1
    let ports := e.field 19 4
    let history := e.field 23 1
    let reset := e.field 24 2
    let old := Tbl.get s.net.frer n {}
    let store (f : Frer) (s : State) : State × Reply :=
      answers [] (forwardSettings e (modNet (fun x => { x with frer := Tbl.put x.frer n f }) s))
    let portCount := ((List.range 32).filter (hasBit ports)).length
    if kind = 1 then
      if method != 1 && method != 2 then fails stBadArgument s
      else notStandby (fun s =>
        if 512 ≤ (s.net.frer.map fun p => p.2.identifications.length).sum then fails 0x0916 s
        else store { old with identifications := old.identifications ++ [(method, e.slice 3 16)] } s) s
    else if kind = 2 then
      if portCount = 0 || 4 < portCount then fails stBadArgument s
      else notStandby (store { old with generation := some ports, nextSequence := 0 }) s
    else if kind = 3 then
      if portCount = 0 || history < 2 || 32 < history || reset = 0 || 10000 < reset then fails stBadArgument s
      else notStandby (store { old with recovery := some ports, history := history, resetMs := reset, highest := none, seen := [],
                                        paths := [], latent := [] }) s
    else fails stBadArgument s

/-- GATE_CONFIGURE (R388, R390). -/
def cmdGateConfigure : Command where
  issuers := roleOnly maintainer
  body := fun e s =>
    let n := e.field 1 2
    let cycle := e.field 3 4
    let entries := (List.range n).map fun k => (e.field (19 + 8 * k) 1, e.field (23 + 8 * k) 4)
    let clear := e.clear ((List.range n).map fun k => (20 + 8 * k, 3))
    if e.payload.length != 19 + 8 * n || 32 ≤ e.field 0 1 || 1000000000 ≤ e.field 15 4 || !clear then fails stBadArgument s
    else notStandby (fun s =>
      if 256 < n || cycle < 10000 || 1000000000 < cycle ||
          !entries.all (fun x => 4 ≤ x.2 && x.2 ≤ 1000000000 && x.2 % 4 = 0) then fails 0x0915 s
      else
        let g : GateList := ⟨cycle, ofTai (e.field 7 8) (e.field 15 4), entries⟩
        let first := cycleStart g (localNow s)
        let s := modPort (e.field 0 1) (fun x => { x with gatesNext := some { g with base := first } }) s
        (forwardSettings e s, .done stAccepted (taiBytes first))) s

/-- LAUNCH_WRITE (R391). -/
def cmdLaunchWrite : Command where
  issuers := roleOrLanes maintainer
  body := fun e s =>
    let p := e.field 0 1
    let q := e.field 1 1
    let n := e.field 2 2
    if e.payload.length != 4 + n || 28 ≤ p || 4 ≤ q || n < 60 || (if e.channel.isSome then 956 else 1518) < n then
      fails stBadArgument s
    else
      let l := Tbl.get (portOf s p).launches q []
      if 16 ≤ l.length then fails 0x0914 s
      else
        answers (le 1 (l.length + 1))
          (modPort p (fun x => { x with launches := Tbl.put x.launches q (l ++ [e.payload.drop 4]) }) s)

/-- LAUNCH_FLUSH. -/
def cmdLaunchFlush : Command where
  issuers := roleOrLanes maintainer
  body := sized 2 fun e s =>
    let p := e.field 0 1
    let q := e.field 1 1
    if 28 ≤ p || 4 ≤ q then fails stBadArgument s
    else
      answers (le 1 (Tbl.get (portOf s p).launches q []).length) (modPort p (fun x => { x with launches := Tbl.put x.launches q [] }) s)

end Sys2Proof.Machine
end

