-- ==== Sys2Proof/Machine/Trdp.lean ====
section
/-! DEFINITION. The train backbone node and TRDP process data (chapter 11): inauguration, flow slots, publishing, reception, limits. -/

namespace Sys2Proof.Machine

/-! ### TTDP and inauguration (R371 to R373) -/

/-- A line of the backbone, and one changed. -/
def lineOf (s : State) (l : Nat) : TtdpLine := Tbl.get s.net.ttdp l {}
def modLine (l : Nat) (f : TtdpLine → TtdpLine) (s : State) : State :=
  modNet (fun n => { n with ttdp := Tbl.put n.ttdp l (f (Tbl.get n.ttdp l {})) }) s

/-- Reel runs. -/
def reelRuns (s : State) : Bool := s.module.reelDownSince.isNone

/-- Detection of a change of topology: an inauguration starts, unless one runs (R371, R372). -/
def startInauguration (s : State) : State :=
  if s.net.inaugurating.isSome then s else modNet (fun n => { n with inaugurating := some s.time }) s

/-- A line carries TTDP: its port is up. -/
def lineRuns (s : State) (l : Nat) : Bool := fabricRuns s && portUp s l

/-- TTDP_HELLO_SEND (R371): every 100 ms, in fast HELLO every 10 ms. -/
def execTtdpHelloSend (l : Nat) (s : State) : Out :=
  if lineRuns s l then
    let x := lineOf s l
    let s := reach (x.lastSent + milli (if x.fast then 10 else 100)) s
    .next (emit (.ttdp l x.fast) (modLine l (fun y => { y with lastSent := s.time }) s))
  else .next s

/-- TTDP_HELLO_RECEIVE (R371): a HELLO is not missed; one of a new neighbour is a change of topology. -/
def execTtdpHelloReceive (l neighbour : Nat) (s : State) : Out :=
  if lineRuns s l then
    let known := (lineOf s l).neighbour = some neighbour
    let s := modLine l (fun y => { y with neighbour := some neighbour, lastHello := s.time, missed := 0, fast := false }) s
    .next (if known then s else startInauguration s)
  else .next s

/-- TTDP_HELLO_TIMEOUT (R371): one missed HELLO changes the line to fast HELLO; three missed fast ones detect a change. -/
def execTtdpHelloTimeout (l : Nat) (s : State) : Out :=
  let x := lineOf s l
  if x.neighbour.isNone || !lineRuns s l then .next s
  else if !x.fast then
    let s := reach (x.lastHello + milli 100) s
    .next (modLine l (fun y => { y with fast := true, missed := 0, lastHello := s.time }) s)
  else
    let s := reach (x.lastHello + milli 10) s
    if x.missed < 2 then .next (modLine l (fun y => { y with missed := y.missed + 1, lastHello := s.time }) s)
    else
      .next (startInauguration (modLine l (fun y => { y with neighbour := none, missed := 0, fast := false }) s))

/-- TOPOLOGY_FRAME (R372): one that changes the connectivity table starts an inauguration; Reel exchanges them. -/
def execTopologyFrame (l : Nat) (changed : Bool) (s : State) : Out :=
  .next (if lineRuns s l && reelRuns s && changed then startInauguration s else s)

/-! ### Flow slots -/

/-- A flow slot, and one changed. -/
def flowOf (s : State) (n : Nat) : Option Flow := Tbl.find s.net.flows n
def modFlow (n : Nat) (f : Flow → Flow) (s : State) : State := modNet (fun x => { x with flows := Tbl.update x.flows n f }) s

/-- Flags of a flow record. -/
def FlowRec.sdt (r : FlowRec) : Bool := hasBit r.flags 0
def FlowRec.auth (r : FlowRec) : Bool := hasBit r.flags 1
def FlowRec.scheduled (r : FlowRec) : Bool := hasBit r.flags 2
def FlowRec.etb (r : FlowRec) : Bool := hasBit r.flags 3
def FlowRec.atRelative (r : FlowRec) : Bool := hasBit r.flags 4
def FlowRec.pull (r : FlowRec) : Bool := hasBit r.flags 5
def FlowRec.publishes (r : FlowRec) : Bool := r.direction = 1

/-- A flow at its place in a train directory: one with RELATIVE takes the address of the node at its position, if there is one (R373). -/
def Flow.placed (d : Directory) (f : Flow) : Flow :=
  if !f.record.atRelative then f
  else
    let hit := d.addresses.find? fun a => a.1 = (d.own : Int) + f.record.relative
    { f with address := hit.map fun a => a.2 ||| f.record.destination, noAddress := hit.isNone }

/-- INAUGURATION_COMPLETE (R372, R373): the counters and the directory are loaded, flows with RELATIVE take their addresses, and
publications resume. -/
def execInaugurationComplete (d : Directory) (s : State) : Out :=
  if s.net.inaugurating.isNone || !reelRuns s then .next s
  else
    let s := modNet (fun n => { n with inaugurating := none, directory := some d, etbTopo := d.etbTopo, opTrnTopo := d.opTrnTopo,
                                       flows := n.flows.map fun p => (p.1, p.2.placed d) }) s
    .next (recordReel 0x0A 0 (le 4 d.etbTopo ++ le 4 d.opTrnTopo ++ le 1 d.own) s)

/-- RELAY_READBACK (R374): a relay that does not follow its drive holds ports 0 to 3 down and is recorded. -/
def execRelayReadback (r : Nat) (closed : Bool) (s : State) : Out :=
  let bad := closed = s.net.relaysOpen
  let known := hasBit s.net.relayFaults r
  if bad = known then .next s
  else
    let s := modNet (fun n => { n with relayFaults := n.relayFaults ^^^ 2 ^ r }) s
    .next (if bad then record .general 0x0A 0 (le 1 r ++ le 1 (bit closed)) s else s)

/-- Port of an SFP+ cage: X20, X21, X22, X23 (log entry 28). -/
def cagePort (c : Nat) : Nat := if c < 2 then 26 + c else 30 + c

/-- SFP_INSERTION (R534): a transceiver of Power Level III, or one that cannot be read, stays at Level I with its port down. -/
def execSfpInsertion (cage : Nat) (readable : Bool) (level : Nat) (s : State) : Out :=
  let ok := readable && level ≤ 2
  let s := modNet (fun n => { n with cages := Tbl.put n.cages cage (if ok then level else 1, readable) }) s
  if ok then .next s
  else
    let p := cagePort cage
    let s := if p < 28 then modPort p (fun x => { x with up := false }) s
             else modPair (fun q => { q with portsUp := q.portsUp &&& (3 - 2 ^ (p - 32)) }) s
    .next (record .general 0x0A p (le 1 cage ++ le 1 (bit readable) ++ le 1 level) s)

/-! ### Limits of R396 -/

/-- 2⁻³² telegrams a second: what a period or cycle in µs loads. -/
def rateUnit : Nat := 1000000 * 2 ^ 32
def loadOf (us : Nat) : Nat := if us = 0 then 0 else rateUnit / us

/-- Cycle or interarrival of the task of an image that publishes on a slot. -/
def publisherCycle (i : Image) (slot : Nat) : Nat :=
  match i.tasks.find? fun t => (taskOutputs i t).any fun b => b.kind = 1 && b.target = slot with
  | some t => if t.event then t.interarrival else t.cycle
  | none => 0

/-- Load of one slot in an image: of its period, or of its publisher's release rate. -/
def slotLoad (i : Option Image) (slot : Nat) (r : FlowRec) : Nat :=
  if r.publishes && !r.scheduled then
    match i with
    | some i => loadOf (publisherCycle i slot)
    | none => 0
  else loadOf r.period

/-- The highest-priority task of a list: 1 is the highest. -/
def firstPriority (l : List TaskRec) : Option TaskRec :=
  l.foldl (fun best t => match best with
    | none => some t
    | some b => if t.priority < b.priority then some t else some b) none

/-- The supervised task in an image (R233): the configured one, or by default the highest-priority cyclic safety task, or cyclic task. -/
def supervisedTask (s : State) (i : Image) : Option TaskRec :=
  if s.pair.supervised != 0xFF then taskRec i s.pair.supervised
  else
    let cyclic := i.tasks.filter fun t => !t.event
    let safe := cyclic.filter TaskRec.safety
    firstPriority (if safe.isEmpty then cyclic else safe)

/-- Load of the heartbeat and of the pair telegram, which count in both directions. -/
def innerLoad (s : State) (i : Option Image) : Nat :=
  let pair := if s.pair.enabled then
    match i.bind (supervisedTask s) with
    | some t => loadOf (if t.event then t.interarrival else t.cycle)
    | none => 0 else 0
  loadOf (s.net.heartbeatMs * 1000) + pair

/-- Sum of the loads of a list of slots that satisfy a test. -/
def sumLoads (i : Option Image) (slots : Tbl FlowRec) (p : FlowRec → Bool) : Nat :=
  ((slots.filter fun x => p x.2).map fun x => slotLoad i x.1 x.2).sum

/-- Whether enabled records keep within the limits. -/
def ratesFit (s : State) (i : Option Image) (slots : Tbl FlowRec) : Bool :=
  sumLoads i slots (fun r => !r.publishes) + innerLoad s i ≤ 400000 * 2 ^ 32 &&
    sumLoads i slots FlowRec.publishes + innerLoad s i ≤ 400000 * 2 ^ 32 && sumLoads i slots FlowRec.auth ≤ 300000 * 2 ^ 32

/-- Records of the enabled slots. -/
def enabledRecords (s : State) : Tbl FlowRec := (s.net.flows.filter fun p => p.2.enabled).map fun p => (p.1, p.2.record)

/-! ### Publishing (R397, R399, R401) -/

/-- The key of a context, as the handle that Config's functions take. -/
def contextKey (s : State) (c : Nat) : Bytes := match Tbl.find s.trust.contexts c with
  | some x => x.key
  | none => []

/-- The topology counters of a telegram: the current ones on the backbone, otherwise 0. -/
def topoOf (s : State) (r : FlowRec) : Nat × Nat := if r.etb then (s.net.etbTopo, s.net.opTrnTopo) else (0, 0)

/-- The AUTH trailer: counter, reserved, tag (R399). -/
def authTrailer (key header data : Bytes) (counter : Nat) : Bytes :=
  let head := be 8 counter ++ [0, 0, 0, 0]
  head ++ Config.gcmTag (leNat key) (Config.trdpSalt key ++ be 8 counter) (header ++ data ++ head)

/-- A publication sends one telegram with user data: trailers, counters, and the sequence advanced. -/
def sendTelegram (n kind dest : Nat) (f : Flow) (user : Bytes) (s : State) : State :=
  let r := f.record
  let topo := topoOf s r
  let data := if r.sdt then user ++ Config.sdtTrailer r.smi r.udv f.safeSequence user else user
  let header := Config.trdpHeader f.sequence kind r.comId topo.1 topo.2 data.length
  let counter := f.authSent + 1
  let wire := if r.auth then data ++ authTrailer (contextKey s r.context) header data counter else data
  let s := modFlow n (fun f => { f with sequence := (f.sequence + 1) % 2 ^ 32, telegrams := f.telegrams + 1,
                                        safeSequence := if r.sdt then (f.safeSequence + 1) % 2 ^ 32 else f.safeSequence,
                                        authSent := if r.auth then counter else f.authSent }) s
  let s := if r.auth then countMessage r.context s else s
  let out := if r.stream ≤ 255 then generate r.stream s else (none, s)
  emit (.telegram n kind dest f.sequence topo.1 topo.2 wire out.1) out.2

/-- Where a publication sends. -/
def Flow.target (f : Flow) : Nat := f.address.getD f.record.destination

/-- A publication of the backbone is suspended: an inauguration runs, or its position does not exist, nor any before the first
inauguration (R373). -/
def suspendedNow (s : State) (f : Flow) : Bool :=
  f.record.etb && (s.net.inaugurating.isSome || f.noAddress || f.record.atRelative && f.address.isNone)

/-- One telegram, or its suspension counted. -/
def publishOne (n : Nat) (f : Flow) (user : Bytes) (s : State) : State :=
  if suspendedNow s f then modFlow n (fun f => { f with suspended := f.suspended + 1 }) s
  else sendTelegram n 0 f.target f user s

/-- Releases that a launch can still use: those after an instant, and the newest before it. -/
def trimReleases (l : List (Nat × Bytes)) (t : Nat) : List (Nat × Bytes) :=
  (l.filter fun r => t < r.1) ++ ((l.filter fun r => r.1 ≤ t).take 1)

/-- A take's release of a publication's data: sent, kept for the launch of a scheduled one, or dropped on a disabled slot (R397,
R403). -/
def publishFlow (n : Nat) (user : Bytes) (s : State) : State :=
  match flowOf s n with
  | none => s
  | some f =>
    if !f.enabled then modFlow n (fun f => { f with droppedReleases := f.droppedReleases + 1 }) s
    else
      let s := modFlow n (fun f => { f with data := user, everReleased := true }) s
      if f.record.scheduled then
        modFlow n (fun f => { f with releases := trimReleases ((s.time, user) :: f.releases) (s.time - micro 10) }) s
      else publishOne n f user s

/-- Local time in whole µs. -/
def localMicros (s : State) : Nat := localNow s / (1000 * nsUnit)

/-- The next launch of a scheduled publication after its last, in local µs (R397). -/
def nextLaunch (f : Flow) : Nat :=
  let p := max 1 f.record.period
  if f.launched < f.record.offset then f.record.offset
  else f.record.offset + ((f.launched - f.record.offset) / p + 1) * p

/-- The data of a launch at an instant: none where no release has been committed since the previous launch, or none at least 10 µs
before it (R397). -/
def launchData (f : Flow) (t : Nat) : Option Bytes :=
  if f.releases.any fun r => f.launchedAt < r.1 then (f.releases.find? fun r => r.1 + micro 10 ≤ t).map Prod.snd else none

/-- A launch without data counted. -/
def launchEmpty (n : Nat) (s : State) : State := modFlow n (fun f => { f with withoutData := f.withoutData + 1 }) s

/-- The scheduled launch of a slot now, with data that a map supplies or that of the releases. -/
def launchFlow (n us : Nat) (data : Option Bytes) (s : State) : State :=
  match flowOf s n with
  | none => s
  | some f =>
    let s := modFlow n (fun f => { f with launched := us, launchedAt := s.time,
                                          releases := trimReleases f.releases (s.time - micro 10) }) s
    match data with
    | some d => publishOne n f d (modFlow n (fun f => { f with data := d, everReleased := true }) s)
    | none => launchEmpty n s

/-- Scheduled launches whose instants a forward step of the clock has passed are counted as launches without data (Table 13.3). -/
def skipLaunches (s : State) : State :=
  let now := localMicros s
  let skip (f : Flow) : Flow :=
    if f.enabled && f.record.publishes && f.record.scheduled && f.launched < now then
      let p := max 1 f.record.period
      let n := if nextLaunch f ≤ now then (now - nextLaunch f) / p + 1 else 0
      { f with withoutData := f.withoutData + n, launched := now, launchedAt := if n = 0 then f.launchedAt else s.time }
    else f
  modNet (fun x => { x with flows := x.flows.map fun p => (p.1, skip p.2) }) s

/-! ### Reception (R398 to R402) -/

/-- Whether an address is one of the groups. -/
def multicastAddress (ip : Nat) : Bool := ip / 2 ^ 28 = 14

/-- A telegram matches a subscription (check 2): its ComId, destination and source. -/
def matchesFlow (f : Flow) (t : Telegram) : Bool :=
  f.enabled && f.record.direction = 2 && f.record.comId = t.comId && f.target = t.destination &&
    (f.record.source = 0 || f.record.source = t.source)

/-- Check 3: the topology counters. -/
def topoOk (s : State) (f : Flow) (t : Telegram) : Bool :=
  if f.record.etb then (t.etbTopo = 0 || t.etbTopo = s.net.etbTopo) && (t.opTrnTopo = 0 || t.opTrnTopo = s.net.opTrnTopo)
  else t.etbTopo = 0 && t.opTrnTopo = 0

/-- Length of the data that a subscription's telegram carries before an AUTH trailer. -/
def payloadLength (r : FlowRec) : Nat := r.length + (if r.sdt then Config.sdtTrailerLength else 0)

/-- The present 100 ms window of local time, and a flow's admitted count in it. -/
def window100 (s : State) : Nat := toNs (localNow s) / 100000000
def admittedNow (s : State) (f : Flow) : Nat := if f.window = window100 s then f.admitted else 0

/-- The limit of check 5: ⌈1.01 × 100 000 / period⌉ + 1. -/
def admitLimit (r : FlowRec) : Nat := (101000 + r.period - 1) / (max 1 r.period) + 1

/-- Check 6: the counter is newer than the last accepted, within 2³¹, or the flow is not fresh. -/
def newer (f : Flow) (seq : Nat) : Bool :=
  let ahead := (seq + 2 ^ 32 - f.sequence) % 2 ^ 32
  !f.fresh || 0 < ahead && ahead < 2 ^ 31

/-- Contexts under which a flow's telegrams are accepted: its own, and in a rekey the other of the same binding (R56, R399). -/
def flowContexts (s : State) (r : FlowRec) : List Nat :=
  match Tbl.find s.trust.contexts r.context with
  | some own => (s.trust.contexts.filter fun c => c.1 = r.context || c.2.purpose = own.purpose && c.2.binding = own.binding).map Prod.fst
  | none => []

/-- Check 7: the context under which the trailer verifies, with its counter (R399). -/
def authVerifies (s : State) (f : Flow) (t : Telegram) : Option (Nat × Nat) :=
  let n := t.data.length - 28
  let trailer := t.data.drop n
  let counter := beNat (trailer.take 8)
  let good (c : Nat) : Bool :=
    let key := contextKey s c
    Bytes.slice trailer 8 4 = [0, 0, 0, 0] && ((Tbl.find f.authAccepted c).all fun h => h < counter) &&
      trailer.drop 12 = Config.gcmTag (leNat key) (Config.trdpSalt key ++ be 8 counter) (t.header ++ t.data.take n ++ trailer.take 12)
  ((flowContexts s f.record).find? good).map fun c => (c, counter)

/-- Check 8: the SDTv2 checks (R401, log entry 4). -/
def sdtPasses (s : State) (f : Flow) (data : Bytes) : Bool :=
  let seq := Config.sdtCounter data
  let ahead := (seq + 2 ^ 32 - f.safeSequence) % 2 ^ 32
  Config.sdtSafeCode f.record.smi f.record.udv s.net.uuid s.net.opTrnTopo data && (!f.fresh || 0 < ahead && ahead < 2 ^ 31) &&
    Config.sdtLatency data ≤ f.record.latency

/-- The first of checks 3 to 8 that a telegram fails, in their order. -/
def failedCheck (s : State) (f : Flow) (t : Telegram) : Option Nat :=
  let n := t.data.length - (if f.record.auth then 28 else 0)
  if !topoOk s f t then some 3
  else if n != payloadLength f.record || (f.record.auth && t.data.length < 28) then some 4
  else if admitLimit f.record ≤ admittedNow s f then some 5
  else if !newer f t.sequence then some 6
  else if f.record.auth && (authVerifies s f t).isNone then some 7
  else if f.record.sdt && !sdtPasses s f (t.data.take n) then some 8
  else none

/-- A drop of a flow counted under its check. -/
def dropFlow (n check : Nat) (s : State) : State :=
  modFlow n (fun f => { f with drops := Tbl.put f.drops check (Tbl.get f.drops check 0 + 1) }) s

/-- An accepted telegram: data, freshness, counters, the sequence error of R400 and the SDTv2 state. -/
def acceptTelegram (n : Nat) (t : Telegram) (s : State) : State :=
  match flowOf s n with
  | none => s
  | some f =>
    let hit := authVerifies s f t
    let now := window100 s
    let count := admittedNow s f + 1
    let body := t.data.take (payloadLength f.record)
    let trips := f.record.sdt && Config.sdtTrips f.monitorCount f.record.ncm
    let jump := f.receivedAt.isSome && t.sequence != (f.sequence + 1) % 2 ^ 32
    let s := modFlow n (fun f => { f with
      data := body.take f.record.length, receivedAt := some s.time, sequence := t.sequence, fresh := true,
      sequenceError := f.sequenceError || jump, telegrams := f.telegrams + 1, window := now, admitted := count,
      sdtUnsafe := trips, safeSequence := if f.record.sdt then Config.sdtCounter body else f.safeSequence,
      authAccepted := match f.record.auth, hit with
        | true, some h => Tbl.put f.authAccepted h.1 h.2
        | _, _ => f.authAccepted }) s
    let s := match f.record.auth, hit with
      | true, some h => countMessage h.1 s
      | _, _ => s
    pulse 2 n s

/-- A telegram that fails a check: counted; one that the window admitted counts there, and a failed safety check makes the flow unsafe. -/
def rejectTelegram (n check : Nat) (s : State) : State :=
  let now := window100 s
  let s := modFlow n (fun f =>
    let count := if f.window = now then f.admitted else 0
    { f with admitted := if 5 < check then count + 1 else count, window := now,
             sdtUnsafe := f.sdtUnsafe || check = 8, monitorCount := f.monitorCount + bit (check = 8) }) s
  dropFlow n check s

/-- Process data that matches no flow goes to Reel, and is dropped and counted while Reel restarts (R402). -/
def toReel (s : State) : State := if reelRuns s then s else modNet (fun n => { n with reelDropped := n.reelDropped + 1 }) s

/-- Reception of a process-data telegram, and the slot that accepted it (R398). -/
def receiveTelegram (t : Telegram) (s : State) : State × Option Nat :=
  let subs := s.net.flows.filter fun p => p.2.record.direction = 2 && p.2.record.comId = t.comId
  if t.udpPort != 17224 || !t.fcsOk || !t.protocolOk || 1 < t.kind then ((subs.foldl (fun x p => dropFlow p.1 1 x) s), none)
  else
    match s.net.flows.find? fun p => matchesFlow p.2 t with
    | none => (toReel (subs.foldl (fun x p => dropFlow p.1 2 x) s), none)
    | some p => match failedCheck s p.2 t with
      | some c => (rejectTelegram p.1 c s, none)
      | none => (acceptTelegram p.1 t s, some p.1)

/-- A flow goes stale at its freshness timeout (R400). -/
def flowStaleAt (f : Flow) : Nat := f.receivedAt.getD 0 + micro f.record.timeout

/-- TRDP_PR_RECEIVE (R397): enabled publications with PULL answer with the data last released; before the first release none is
sent. A Standby transmits nothing under the publication identity (R261). -/
def execTrdpPrReceive (t : Telegram) (s : State) : Out :=
  if !fabricRuns s || s.pair.role = .standby || t.udpPort != 17224 || !t.fcsOk || !t.protocolOk || t.kind != 2 then .next s
  else
    match s.net.flows.find? fun p => p.2.enabled && p.2.record.publishes && p.2.record.pull && p.2.record.comId = t.comId with
    | none => .next (toReel s)
    | some (n, f) =>
      if !f.everReleased then .next s
      else if suspendedNow s f then .next (modFlow n (fun f => { f with suspended := f.suspended + 1 }) s)
      else .next (sendTelegram n 1 t.source f f.data s)

/-! ### Commands (Table 11.8) -/

/-- The record of a request (Table 11.4). -/
def flowRecord (b : Bytes) : FlowRec where
  direction := Bytes.field b 2 1
  flags := Bytes.field b 3 1
  comId := Bytes.field b 4 4
  destination := Bytes.field b 8 4
  source := Bytes.field b 0x0C 4
  vlan := Bytes.field b 0x10 2
  pcp := Bytes.field b 0x12 1
  dscp := Bytes.field b 0x13 1
  length := Bytes.field b 0x14 2
  context := Bytes.field b 0x16 2
  period := Bytes.field b 0x18 4
  timeout := Bytes.field b 0x1C 4
  offset := Bytes.field b 0x20 4
  stream := Bytes.field b 0x24 2
  relative := Bytes.fieldInt b 0x26 1
  smi := Bytes.field b 0x28 4
  udv := Bytes.field b 0x2C 2
  ncm := Bytes.field b 0x2E 2
  latency := Bytes.field b 0x30 4

/-- The module's own ComIds. -/
def ownComIds (s : State) : List Nat := [s.mbx.commandComId, s.mbx.replyComId, s.pair.pairComId, s.net.heartbeatComId]

/-- Ranges and rules of Table 11.4. -/
def flowRecordOk (s : State) (r : FlowRec) : Bool :=
  let sub := r.direction = 2
  let timed : Bool := if sub then 500 ≤ r.period && r.period ≤ 10000000 && 1000 ≤ r.timeout && r.timeout ≤ 60000000 && r.offset = 0
    else if r.scheduled then 100 ≤ r.period && r.period ≤ 10000000 && r.timeout = 0 && r.offset < r.period
    else r.period = 0 && r.timeout = 0 && r.offset = 0
  (sub || r.direction = 1) && !(sub && (r.scheduled || r.pull)) && (r.etb || !r.atRelative) &&
    r.comId != 0 && !(ownComIds s).contains r.comId && (sub || r.source = 0) && r.vlan ≤ 4094 && r.pcp ≤ 7 && r.dscp ≤ 63 &&
    r.length + (if r.sdt then Config.sdtTrailerLength else 0) + (if r.auth then 28 else 0) ≤ 1432 &&
    (if r.auth then Tbl.has s.trust.contexts r.context else r.context = 0xFFFF) && timed && (r.stream ≤ 255 || r.stream = 0xFFFF) &&
    (!r.atRelative || decide (-62 ≤ r.relative) && decide (r.relative ≤ 62)) && (!r.sdt || 1 ≤ r.ncm && r.ncm ≤ 1000)

/-- The group address and VLAN that a multicast subscription pins (R380). -/
def groupPin (r : FlowRec) : Option (Nat × Nat) :=
  if r.direction = 2 && multicastAddress r.destination then
    some (0x01005E000000 + r.destination % 2 ^ 23, if r.vlan = 0 then 1 else r.vlan)
  else none

/-- A subscription's automatic pin removed: with the last one the entry goes, unless set by hand. -/
def unpin (mac vlan : Nat) (s : State) : State :=
  let lower (x : Pinned) : Pinned :=
    if x.mac = mac && x.vlan = vlan then
      { x with automatic := x.automatic - 1, ports := if x.automatic ≤ 1 && x.ports.testBit 29 then x.ports - 2 ^ 29 else x.ports }
    else x
  modNet (fun n => { n with pinned := (n.pinned.map lower).filter fun x => x.manual || 0 < x.automatic }) s

/-- FLOW_CONFIGURE (R395, R396, R404). -/
def cmdFlowConfigure : Command where
  issuers := roleOnly maintainer
  body := sized 64 fun e s =>
    let n := e.field 0 2
    let r := flowRecord e.payload
    if 2048 ≤ n || !flowRecordOk s r || 64 ≤ r.flags || !e.clear [(0x27, 1), (0x34, 12)] then fails stBadArgument s
    else notStandby (fun s =>
      let old := flowOf s n
      let others := s.net.flows.filter fun p => p.1 != n
      let changesLength := match old with
        | some f => f.record.length != r.length
        | none => false
      let oldPin := old.bind fun f => groupPin f.record
      let needsPin : Bool := match groupPin r with
        | some p => (pinnedEntry s p.1 p.2).isNone && 4096 ≤ s.net.pinned.length
        | none => false
      if (match old with | some f => f.enabled | none => false) || (changesLength && programRuns s) then fails 0x0910 s
      else if !ratesFit s (runningImage s) (Tbl.put (enabledRecords s) n r) then fails 0x0911 s
      else if r.sdt && 512 ≤ (others.filter fun p => p.2.record.sdt).length then fails 0x0912 s
      else if needsPin then fails 0x0913 s
      else
        let s := match oldPin with
          | some p => unpin p.1 p.2 s
          | none => s
        let s := match groupPin r with
          | some p => pin p.1 p.2 (2 ^ 29) true s
          | none => s
        let fresh : Flow := { record := r }
        let placed := match s.net.directory with
          | some d => fresh.placed d
          | none => fresh
        let s := modNet (fun x => { x with flows := Tbl.put x.flows n placed }) s
        answers [] (forwardSettings e s)) s

/-- Commands on a slot that have not committed. -/
def onSlot (n self : Nat) (q : Entry) : Bool := (q.code = 0x0908 || q.code = 0x0909) && q.id != self && Bytes.field q.payload 0 2 = n

/-- FLOW_CONTROL (R397, R403). -/
def cmdFlowControl : Command where
  issuers := roleOrLanes maintainer
  body := sized 3 fun e s =>
    let n := e.field 0 2
    match flowOf s n with
    | none => if e.field 2 1 = 0 && n < 2048 then notStandby (answers (le 1 0 ++ le 2 0)) s else fails stBadArgument s
    | some f =>
      if 1 < e.field 2 1 then fails stBadArgument s
      else notStandby (fun s =>
        if e.field 2 1 = 1 then
          if !ratesFit s (runningImage s) (Tbl.put (enabledRecords s) n f.record) then fails 0x0911 s
          else if f.enabled then answers (le 1 1 ++ le 2 0) s
          else
            let s := modFlow n (fun f => { f with enabled := true, sequence := 0, sdtUnsafe := false, safeSequence := 0,
                                                  monitorCount := 0, launched := localMicros s, launchedAt := s.time, releases := [],
                                                  everReleased := false }) s
            answers (le 1 0 ++ le 2 0) (forwardSettings e s)
        else
          let k := (s.mbx.queue.filter fun q => !q.committed && onSlot n e.id q).length
          let s := cancelTargets (onSlot n e.id) s
          let s := modFlow n (fun f => { f with enabled := false, fresh := false, releases := [] }) s
          answers (le 1 (bit f.enabled) ++ le 2 k) (forwardSettings e s)) s

/-- Age of a flow's data in µs at an instant, saturated (R400). -/
def flowAge (f : Flow) (t : Nat) : Nat := match f.receivedAt with
  | some r => min 0xFFFFFFFF ((t - r) / micro 1)
  | none => 0xFFFFFFFF

/-- One slot as FLOW_STATUS shows it. -/
def flowReport (s : State) (n : Nat) : Bytes :=
  let x := flowOf s n
  let f := x.getD { record := flowRecord [] }
  let seq := if f.record.publishes && 0 < f.telegrams then (f.sequence + 2 ^ 32 - 1) % 2 ^ 32 else f.sequence
  le 2 n ++ le 1 (bit f.enabled) ++ le 1 (bit f.fresh) ++ le 1 (bit (f.record.sdt && !f.sdtUnsafe)) ++ [0] ++ le 4 (flowAge f s.time) ++
    le 4 seq ++ le 4 f.telegrams ++ ((List.range 8).flatMap fun c => le 4 (Tbl.get f.drops (c + 1) 0)) ++ le 4 f.suspended ++
    le 4 f.withoutData

/-- FLOW_STATUS. -/
def cmdFlowStatus : Command where
  issuers := anyOrLanes
  body := sized 4 fun e s =>
    let first := e.field 0 2
    let count := e.field 2 2
    if count = 0 || 64 < count || 2048 < first + count then fails stBadArgument s
    else answers ((List.range count).flatMap fun k => flowReport s (first + k)) s

/-- RNAT_CONFIGURE. -/
def cmdRnatConfigure : Command where
  issuers := roleOnly maintainer
  body := fun e s =>
    let n := (e.payload.length - 8) / 8
    if e.payload.length < 8 || e.payload.length != 8 + 8 * n || 1024 < n || 32 < e.field 4 1 || !e.clear [(5, 3)] then fails stBadArgument s
    else notStandby (fun s =>
      if s.net.inaugurating.isSome then fails 0x0918 s
      else
        let hosts := (List.range n).map fun k => (e.field (8 + 8 * k) 4, e.field (12 + 8 * k) 4)
        answers [] (forwardSettings e (modNet (fun x => { x with subnet := e.field 0 4, prefixLength := e.field 4 1, hosts := hosts }) s))) s

/-- NET_SETTINGS: aging, heartbeat, ComIds (heartbeat, pair, mailbox command and reply), group, consist UUID. -/
def cmdNetSettings : Command where
  issuers := roleOnly maintainer
  body := sized 42 fun e s =>
    let aging := e.field 0 4
    let period := e.field 4 2
    if aging < 10 || 1000000 < aging || period < 10 || 1000 < period then fails stBadArgument s
    else notStandby (fun s =>
      let s := modNet (fun x => { x with aging := aging, heartbeatMs := period, heartbeatComId := e.field 6 4,
                                         heartbeatGroup := e.field 22 4, uuid := e.slice 26 16 }) s
      let s := modPair (fun x => { x with pairComId := e.field 10 4 }) s
      let s := modMbx (fun x => { x with commandComId := e.field 14 4, replyComId := e.field 18 4 }) s
      answers [] (forwardSettings e s)) s

/-- NET_STATUS. -/
def cmdNetStatus : Command where
  issuers := anyOrLanes
  body := sized 0 fun _ s =>
    let n := s.net
    let img := runningImage s
    let recs := enabledRecords s
    let links := ((List.range 28).map fun p => if (portOf s p).up && (4 ≤ p || n.relayFaults = 0) then 2 ^ p else 0).sum
    let flooding := ((List.range 32).map fun p =>
      if 16384 * floodUnit ≤ (portOf s p).flood.at (portRate s p) s.time then 2 ^ p else 0).sum
    let routing := s.pair.role != .standby && n.directory.isSome
    answers (le 4 links ++ le 1 (bit n.inaugurating.isSome) ++ le 4 n.etbTopo ++ le 4 n.opTrnTopo ++
      le 1 (match n.directory with | some d => d.own | none => 0) ++
      le 1 (match n.directory with | some d => d.addresses.length | none => 0) ++ le 1 (bit (n.relayFaults != 0)) ++
      le 1 (bit routing) ++ le 2 (recs.filter fun r => r.2.publishes).length ++ le 2 (recs.filter fun r => !r.2.publishes).length ++
      le 4 ((sumLoads img recs (fun r => !r.publishes) + innerLoad s img) / 2 ^ 32) ++
      le 4 ((sumLoads img recs FlowRec.publishes + innerLoad s img) / 2 ^ 32) ++
      le 2 (n.flows.filter fun p => p.2.record.sdt).length ++
      le 1 (s.trust.contexts.filter fun c => c.2.purpose = 1 && c.2.state = .live).length ++
      le 2 (n.learned.filter fun x => x.bucket.isSome).length ++ le 1 (n.learned.filter fun x => x.bucket.isNone).length ++
      le 2 n.pinned.length ++ le 4 flooding ++ le 2 n.latentErrors) s

end Sys2Proof.Machine
end

