-- ==== Sys2Proof/Machine/Mvb.lean ====
section
/-! DEFINITION. The MVB bridge (chapter 12): port table, polling, confirmed writes, semaphores, maps. -/

namespace Sys2Proof.Machine

/-! ### Buses, ports and handles (R413, R414) -/

/-- Bus and address of a handle. -/
def handleBus (h : Nat) : Nat := h / 4096 % 2
def handleAddress (h : Nat) : Nat := h % 4096

/-- A bus, and one changed. -/
def busOf (s : State) (b : Nat) : MvbBus := if b = 0 then s.mvb.bus0 else s.mvb.bus1
def modBus (b : Nat) (f : MvbBus → MvbBus) (s : State) : State :=
  modMvb (fun m => if b = 0 then { m with bus0 := f m.bus0 } else { m with bus1 := f m.bus1 }) s

/-- A port record, and one changed. -/
def mvbPort (s : State) (h : Nat) : Option MvbPort := Tbl.find s.mvb.ports h
def modMvbPort (h : Nat) (f : MvbPort → MvbPort) (s : State) : State := modMvb (fun m => { m with ports := Tbl.update m.ports h f }) s

/-- Bytes of a port (Table 12.1). -/
def MvbRecord.bytes (r : MvbRecord) : Nat := 2 * 2 ^ r.size

/-- The ports of a bus. -/
def busPorts (s : State) (b : Nat) : Tbl MvbPort := s.mvb.ports.filter fun p => handleBus p.1 = b

/-- The bridge takes part on a bus: enabled, and Reel runs (R416). -/
def busRuns (s : State) (b : Nat) : Bool := fabricRuns s && (busOf s b).enabled && reelRuns s

/-- The module's own device address on a bus (R431). -/
def ownDevice (s : State) (b : Nat) : Nat := if s.module.side = 2 then (busOf s b).device2 else (busOf s b).device1

/-- Feeds of a source port (R419). -/
def fedByBinding (s : State) (h : Nat) : Bool :=
  match runningImage s with
  | some i => i.outputs.any fun b => b.kind = 3 && b.target = h
  | none => false
def fedByMap (s : State) (h : Nat) : Bool := s.mvb.maps.any fun m => m.2.ports.any fun p => p.1 = h

/-- A port that the running image binds. -/
def boundByImage (s : State) (h : Nat) : Bool :=
  fedByBinding s h || (match runningImage s with
    | some i => i.inputs.any fun b => b.kind = 4 && b.source = h
    | none => false)

/-- Write timeout of a source port in ms (Table 12.1). -/
def writeTimeout (s : State) (r : MvbRecord) : Nat :=
  let echo := match mvbPort s r.echo with
    | some e => e.record.period
    | none => r.period
  if r.timeout = 0 then 4 * max r.period (if r.confirm = 1 then echo else r.period) else r.timeout

/-! ### Completion of writes (R423 to R428) -/

/-- One write done: of a single command, or one port of an unlock, which completes with the last of them. -/
def endWrite (h status : Nat) (w : MvbWriteSt) (s : State) : State :=
  let b := handleBus h
  let s := modMvbPort h (fun p => { p with write := none }) s
  let s := modBus b (fun x => { x with confirmed := x.confirmed + bit (status = stOk), timedOut := x.timedOut + bit (status = stFarTimeout),
                                       farErrors := x.farErrors + bit (status = stFarError) }) s
  match Tbl.find s.mvb.unlocks w.entry with
  | none =>
    let first := (w.sent.getD 0 - (busOf s b).periodAt) % milli 1 / micro 1
    completeEntry w.entry status (if status = stOk then le 4 first else []) s
  | some u =>
    let u := { left := u.left.filter (· != h), results := Tbl.put u.results h status : UnlockSt }
    if !u.left.isEmpty then modMvb (fun m => { m with unlocks := Tbl.put m.unlocks w.entry u }) s
    else
      let overall := ((u.results.find? fun r => r.2 != stOk).map Prod.snd).getD stOk
      completeEntry w.entry overall (u.results.flatMap fun r => le 2 r.1 ++ le 2 r.2)
        (modMvb (fun m => { m with unlocks := Tbl.erase m.unlocks w.entry }) s)

/-- A write is granted its port: the value waits in the source buffer for its first transmission. -/
def grantWrite (h entry : Nat) (value : Bytes) (s : State) : State :=
  modMvbPort h (fun p => { p with write := some { entry := entry, value := value, granted := s.time }, unsourced := false }) s

/-- The oldest MVB_WRITE that waits for a port. -/
def waitingWrite (s : State) (h : Nat) : Option Entry :=
  s.mbx.queue.find? fun e => e.code = 0x0A05 && e.phase = .waits .mvb && Bytes.field e.payload 0 2 = h

/-- A port without a write is granted to the oldest that waits for it (R425). -/
def grantNext (h : Nat) (s : State) : State :=
  match mvbPort s h, waitingWrite s h with
  | some p, some e =>
    if p.write.isNone then modEntry e.id (fun x => { x with phase := .under }) (grantWrite h e.id (e.payload.drop 4) s) else s
  | _, _ => s

/-- No command write is outstanding on a port: none in its buffer and none waiting. -/
def writeFree (s : State) (h : Nat) : Bool :=
  (match mvbPort s h with
    | some p => p.write.isNone
    | none => true) && (waitingWrite s h).isNone

/-- A waiting unlock commits when no command write is outstanding on a covered port: every staged value moves in one step, and the
semaphore is released (R428). -/
def tryUnlock (n : Nat) (s : State) : State :=
  match Tbl.find s.mvb.semaphores n with
  | none => s
  | some x => match x.unlock with
    | none => s
    | some entry =>
      if !x.ports.all (writeFree s) then s
      else
        let s := modMvb (fun m => { m with semaphores := Tbl.erase m.semaphores n }) s
        let staged := x.staged.filter fun p => (mvbPort s p.1).isSome
        if staged.isEmpty then completeEntry entry stOk [] s
        else
          let s := commitEntry entry (modMvb (fun m => { m with unlocks := Tbl.put m.unlocks entry { left := staged.map Prod.fst } }) s)
          staged.foldl (fun t p => grantWrite p.1 entry p.2 t) s

/-- Unlocks that a port's end of write may let commit. -/
def tryUnlocks (s : State) : State := (s.mvb.semaphores.map Prod.fst).foldl (fun t n => tryUnlock n t) s

/-- A write on a port ends with a status: the next is granted, and a waiting unlock may commit. -/
def finishWrite (h status : Nat) (w : MvbWriteSt) (s : State) : State := tryUnlocks (grantNext h (endWrite h status w s))

/-! ### Frames -/

/-- Whether a source port is answered: enabled, on the module that is not Standby, and for a mapped port while the flow is fresh (R430,
R431, R432). -/
def answersPoll (s : State) (h : Nat) (p : MvbPort) : Bool :=
  p.enabled && p.record.direction = 1 && !p.unsourced && s.pair.role != .standby &&
    s.mvb.maps.all fun m => !(m.2.ports.any fun q => q.1 = h) || match flowOf s m.2.slot with
      | some f => f.fresh
      | none => false

/-- A frame of a port has ended: the reads that wait for it complete (R421). -/
def serveReads (h : Nat) (data : Bytes) (lines : Nat) (s : State) : State :=
  match mvbPort s h with
  | none => s
  | some p =>
    let s := modMvbPort h (fun p => { p with reads := [] }) s
    p.reads.foldl (fun t r => completeEntry r.1 stOk (le 1 lines ++ taiBytes (localNow t) ++ data) t) s

/-- The module answers a poll of a source port: the value that waits is transmitted, which commits its write (R424). -/
def transmit (h : Nat) (s : State) : State :=
  match mvbPort s h with
  | none => s
  | some p =>
    if !answersPoll s h p then s
    else
      let first : Option MvbWriteSt := p.write.filter fun w => w.sent.isNone
      let data := match first with
        | some w => w.value
        | none => p.data
      let s := modMvbPort h (fun p => { p with
        data := data, unsent := false,
        write := p.write.map fun w => if w.sent.isNone then { w with sent := some s.time } else w,
        unconfirmedSince := if p.unsent && p.unconfirmedSince.isNone then some s.time else p.unconfirmedSince }) s
      let s := match first with
        | some w => commitEntry w.entry s
        | none => s
      let s := modBus (handleBus h) (fun b => { b with framesSent := b.framesSent + 1 }) s
      serveReads h data 0 (emit (.mvb (handleBus h) p.record.size (handleAddress h) data) s)

/-- A master frame of the bridge; it answers its own poll of a port it sources. -/
def sendPoll (b fcode address : Nat) (s : State) : State :=
  let s := emit (.mvb b fcode address []) (modBus b (fun x => { x with framesSent := x.framesSent + 1 }) s)
  if fcode < 5 then transmit (b * 4096 + address) s else s

/-- The device addresses that a bus's status round polls: those of the port table and those added (R422). -/
def statusList (s : State) (b : Nat) : List Nat :=
  (((busPorts s b).map fun p => p.2.record.device).filter (· != 0xFFFF) ++ (busOf s b).extra).foldl
    (fun l d => if l.contains d then l else l ++ [d]) []

/-- Polls left without an answer count as missed; two in a row mark the device absent (R422). -/
def countMissed (b : Nat) (s : State) : State :=
  let miss (d : MvbDevice) : MvbDevice :=
    if d.polled then { d with polled := false, missed := d.missed + 1, present := d.present && d.missed = 0 } else d
  modBus b (fun x => { x with devices := x.devices.map fun p => (p.1, miss p.2) }) s

/-- A status poll of a device marked. -/
def markPolled (b d : Nat) (s : State) : State :=
  modBus b (fun x => { x with devices := Tbl.put x.devices d { Tbl.get x.devices d {} with polled := true } }) s

/-- The event phase of a basic period (F_code 9, log entry 30). -/
def eventPhase (b : Nat) (s : State) : State :=
  emit (.mvb b 9 0 []) (modBus b (fun x => { x with framesSent := x.framesSent + 1 }) s)

/-- MVB_BASIC_PERIOD (R415, R421, R422): the master's polls of one basic period: the periodic list, the device status round and the
event phase. -/
def execMvbBasicPeriod (b : Nat) (s : State) : Out :=
  let x := busOf s b
  if !busRuns s b || !x.master || s.pair.role = .standby then .next s
  else
    let s := countMissed b (reach (x.periodAt + milli 1) s)
    let polls := (busPorts s b).filter fun p => p.2.enabled && x.periods % p.2.record.period = p.2.record.phase
    let s := modBus b (fun y => { y with periods := y.periods + 1, periodAt := s.time }) s
    let s := polls.foldl (fun t p => sendPoll b p.2.record.size (handleAddress p.1) t) s
    let all := statusList s b
    let now := ((List.range all.length).filter fun k => x.periods % x.statusPeriod = k % x.statusPeriod).filterMap fun k => all[k]?
    let s := now.foldl (fun t d => if d = ownDevice t b then sendPoll b 15 d t else markPolled b d (sendPoll b 15 d t)) s
    .next (eventPhase b s)

/-- MVB_MASTER_FRAME (R415, R431): as device, polls of sourced ports and of the own device status are answered. -/
def execMvbMasterFrame (b fcode address : Nat) (s : State) : Out :=
  if !busRuns s b then .next s
  else
    let s := countMissed b (modBus b (fun x => { x with framesReceived := x.framesReceived + 1 }) s)
    if fcode = 15 then
      if address = ownDevice s b then
        let status := le 2 (drawn s)
        .next (emit (.mvb b 15 address status) (modBus b (fun x => { x with framesSent := x.framesSent + 1 }) (afterDraw s)))
      else .next (if (statusList s b).contains address then markPolled b address s else s)
    else
      match mvbPort s (b * 4096 + address) with
      | some p => .next (if p.record.size = fcode then transmit (b * 4096 + address) s else s)
      | none => .next s

/-- The echo of a port's value: the first equal frame after the transmission confirms, others differ (R423, R424, R426). -/
def echoSeen (echo : Nat) (data : Bytes) (s : State) : State :=
  (s.mvb.ports.filter fun p => p.2.record.direction = 1 && p.2.record.confirm = 1 && p.2.record.echo = echo).foldl (fun t p =>
    let t := if p.2.unconfirmedSince.isSome && !p.2.unsent && p.2.data = data then
        modMvbPort p.1 (fun q => { q with unconfirmedSince := none, failed := false }) t else t
    match p.2.write with
    | some w =>
      if w.sent.isNone then t
      else if w.value = data then finishWrite p.1 stOk w t
      else modMvbPort p.1 (fun q => { q with write := q.write.map fun v => { v with differed := true } }) t
    | none => t) s

/-- A device's status answer, for the writes that it confirms or fails. -/
def statusSeen (b device status : Nat) (s : State) : State :=
  let trouble := Config.mvbTrouble status
  ((busPorts s b).filter fun p => p.2.record.direction = 1 && p.2.record.confirm = 2 && p.2.record.device = device).foldl (fun t p =>
    let t := if p.2.unconfirmedSince.isSome && !p.2.unsent && !trouble then
        modMvbPort p.1 (fun q => { q with unconfirmedSince := none, failed := false }) t else t
    match p.2.write with
    | some w => if w.sent.isNone then t else finishWrite p.1 (if trouble then stFarError else stOk) w t
    | none => t) s

/-- MVB_SLAVE_FRAME (R413, R420 to R424): a valid frame from either line. -/
def execMvbSlaveFrame (b fcode address : Nat) (data : Bytes) (lineA lineB : Bool) (s : State) : Out :=
  if !busRuns s b then .next s
  else
    let s := modBus b (fun x => { x with lines := bit lineA + 2 * bit lineB, oneLine := x.oneLine + bit (lineA != lineB),
                                         errorsA := x.errorsA + bit (!lineA), errorsB := x.errorsB + bit (!lineB) }) s
    if !lineA && !lineB then .next s
    else
      let s := modBus b (fun x => { x with framesReceived := x.framesReceived + 1 }) s
      if fcode = 15 then
        let word := beNat (data.take 2)
        let s := modBus b (fun x => { x with devices := Tbl.put x.devices address ⟨true, word, 0, false⟩ }) s
        .next (statusSeen b address word s)
      else
        let h := b * 4096 + address
        match mvbPort s h with
        | none => .next s
        | some p =>
          if p.record.size != fcode || data.length != p.record.bytes || !p.enabled then .next s
          else
            let s := if p.record.direction = 2 then
                pulse 4 h (modMvbPort h (fun q => { q with data := data, receivedAt := some s.time, oneLine := lineA != lineB,
                                                           fresh := true }) s)
              else s
            let lines := if lineA && lineB then 0 else if lineA then 1 else 2
            .next (echoSeen h data (serveReads h data lines s))

/-! ### Timed events -/

/-- MVB_SINK_STALE (R420). -/
def execMvbSinkStale (h : Nat) (s : State) : Out :=
  match mvbPort s h with
  | some p =>
    if p.fresh && p.record.direction = 2 then
      .next (modMvbPort h (fun q => { q with fresh := false }) (reach (p.receivedAt.getD 0 + milli p.record.freshness) s))
    else .next s
  | none => .next s

/-- MVB_WRITE_DEADLINE (R424): the write timeout after the first transmission, or twice it from the grant when nothing was sent. -/
def execMvbWriteDeadline (h : Nat) (s : State) : Out :=
  match mvbPort s h with
  | none => .next s
  | some p => match p.write with
    | none => .next s
    | some w =>
      let limit := milli (writeTimeout s p.record)
      match w.sent with
      | some t => .next (finishWrite h (if w.differed then stFarError else stFarTimeout) w (reach (t + limit) s))
      | none => .next (finishWrite h stFarTimeout w (reach (w.granted + 2 * limit) s))

/-- MVB_READ_TIMEOUT (R434): twice the period plus 1 ms after the commit without a frame. -/
def execMvbReadTimeout (h : Nat) (s : State) : Out :=
  match mvbPort s h with
  | none => .next s
  | some p => match p.reads with
    | [] => .next s
    | r :: rest =>
      let s := modMvbPort h (fun q => { q with reads := rest }) (reach (r.2 + milli (2 * p.record.period + 1)) s)
      let s := modBus (handleBus h) (fun b => { b with readsTimedOut := b.readsTimedOut + 1 }) s
      .next (completeEntry r.1 stFarTimeout [] s)

/-- MVB_BINDING_WRITE_FAILURE (R426): counted and recorded once until a value is confirmed again. -/
def execMvbBindingWriteFailure (h : Nat) (s : State) : Out :=
  match mvbPort s h with
  | none => .next s
  | some p => match p.unconfirmedSince with
    | none => .next s
    | some t =>
      if p.failed then .next s
      else
        let s := modMvbPort h (fun q => { q with failed := true }) (reach (t + milli (writeTimeout s p.record)) s)
        let s := modBus (handleBus h) (fun b => { b with bindingFailures := b.bindingFailures + 1 }) s
        .next (recordReel 0x0B h (le 2 h) s)

/-- A semaphore is released with its staged values discarded; an unlock that waits completes with a status (R429). -/
def loseSemaphore (n status : Nat) (s : State) : State :=
  match Tbl.find s.mvb.semaphores n with
  | none => s
  | some x =>
    let b := handleBus (x.ports.headD 0)
    let s := modMvb (fun m => { m with semaphores := Tbl.erase m.semaphores n }) s
    let s := modBus b (fun y => { y with semaphoresLost := y.semaphoresLost + 1 }) s
    match x.unlock with
    | some entry => completeEntry entry status [] s
    | none => s

/-- MVB_LOCK_EXPIRY (R429). -/
def execMvbLockExpiry (n : Nat) (s : State) : Out :=
  match Tbl.find s.mvb.semaphores n with
  | some x => .next (loseSemaphore n 0x0A14 (reach x.expires s))
  | none => .next s

/-- MVB_MASTERSHIP_OFFER (R415, R431): accepted by an administrator candidate that is not Standby, else passed on. -/
def execMvbMastershipOffer (b : Nat) (s : State) : Out :=
  if !busRuns s b then .next s
  else if (busOf s b).candidate && s.pair.role != .standby && !(busOf s b).master then
    .next (modBus b (fun x => { x with master := true, gained := x.gained + 1, periods := 0, periodAt := s.time }) s)
  else .next (modBus b (fun x => { x with passed := x.passed + 1 }) s)

/-- A release writes a port that an output binding feeds (R426). -/
def releaseMvb (h : Nat) (data : Bytes) (s : State) : State := modMvbPort h (fun p => { p with data := data, unsent := true, unsourced := false }) s

/-! ### Maps (R430) -/

/-- The maps of a slot. -/
def slotMaps (s : State) (n : Nat) : List MvbMapEntry := (s.mvb.maps.filter fun m => m.2.slot = n).map Prod.snd

/-- Data of a launch that maps feed: none where a mapped port is not fresh. -/
def mapData (s : State) (f : Flow) (maps : List MvbMapEntry) : Option Bytes :=
  let ports := maps.flatMap fun m => m.ports
  let fresh (h : Nat) : Bool := match mvbPort s h with
    | some p => p.fresh
    | none => false
  if ports.all fun p => fresh p.1 then
    some (ports.foldl (fun d p => match mvbPort s p.1 with
      | some q => Bytes.overwrite d p.2 q.data
      | none => d) (List.replicate f.record.length 0))
  else none

/-- A launch without data counted at the maps of a slot. -/
def countMapEmpty (n : Nat) (s : State) : State :=
  let bus := match slotMaps s n with
    | m :: _ => handleBus ((m.ports.map Prod.fst).headD 0)
    | [] => 0
  let count (m : MvbMapEntry) : MvbMapEntry := if m.slot = n then { m with withoutData := m.withoutData + 1 } else m
  modBus bus (fun b => { b with mapWithoutData := b.mapWithoutData + 1 })
    (modMvb (fun m => { m with maps := m.maps.map fun p => (p.1, count p.2) }) s)

/-- The data of an accepted telegram written into the mapped source ports in one step. -/
def feedMaps (n : Nat) (s : State) : State :=
  match flowOf s n with
  | none => s
  | some f =>
    (slotMaps s n).foldl (fun t m => m.ports.foldl (fun t p => match mvbPort t p.1 with
      | some q => if q.record.direction = 1 then modMvbPort p.1 (fun q => { q with data := Bytes.slice f.data p.2 q.record.bytes, unsourced := false }) t else t
      | none => t) t) s

/-! ### The flow events that maps take part in -/

/-- SCHEDULED_LAUNCH (R397, R430): at the slot's next launch in local time. -/
def execScheduledLaunch (n : Nat) (s : State) : Out :=
  match flowOf s n with
  | none => .next s
  | some f =>
    if !f.enabled || !f.record.publishes || !f.record.scheduled || s.pair.role = .standby then .next s
    else
      let us := nextLaunch f
      let s := reachLocal (us * 1000 * nsUnit) s
      let maps := slotMaps s n
      if maps.isEmpty then .next (launchFlow n us (launchData f s.time) s)
      else
        let data := mapData s f maps
        .next (launchFlow n us data (if data.isNone then countMapEmpty n s else s))

/-- TRDP_PD_RECEIVE (R398): reception, and a mapped slot's ports written. -/
def execTrdpPdReceive (t : Telegram) (s : State) : Out :=
  if !fabricRuns s then .next s
  else
    match receiveTelegram t s with
    | (s, some n) => .next (feedMaps n s)
    | (s, none) => .next s

/-- FLOW_FRESHNESS_TIMEOUT (R400): the flow goes stale. -/
def execFlowFreshnessTimeout (n : Nat) (s : State) : Out :=
  match flowOf s n with
  | some f =>
    if f.fresh then .next (modFlow n (fun f => { f with fresh := false }) (reach (flowStaleAt f) s)) else .next s
  | none => .next s

/-! ### Commands (Table 12.4) -/

/-- Poll load in µs of one basic period of a bus (R418). -/
def periodLoad (ports : List MvbRecord) (k : Nat) : Nat :=
  ((ports.filter fun r => k % r.period = r.phase).map fun r => 44 + 6 * r.bytes).sum

/-- The worst basic period. -/
def worstLoad (ports : List MvbRecord) : Nat := (List.range 1024).foldl (fun m k => max m (periodLoad ports k)) 0

/-- MVB_STATUS. -/
def cmdMvbStatus : Command where
  issuers := anyOrLanes
  body := sized 0 fun _ s =>
    let one (b : Nat) : Bytes :=
      let x := busOf s b
      le 1 (bit x.enabled) ++ le 1 (bit x.candidate) ++ le 1 (bit x.master) ++ le 1 x.lines ++
        le 2 (worstLoad ((busPorts s b).map fun p => p.2.record))
    let absent (x : MvbBus) : Nat := (x.devices.filter fun d => !d.2.present).length
    answers (one 0 ++ one 1 ++ le 2 s.mvb.ports.length ++ le 2 s.mvb.maps.length ++ le 1 s.mvb.semaphores.length ++
      le 2 (s.mvb.ports.filter fun p => p.2.write.isSome).length ++ le 2 (absent s.mvb.bus0 + absent s.mvb.bus1)) s

/-- The image binds a port of a bus. -/
def bindsBus (s : State) (b : Nat) : Bool := (busPorts s b).any fun p => boundByImage s p.1

/-- MVB_CONFIGURE: the first eight addresses at most are the administrator list (log entry 31). -/
def cmdMvbConfigure : Command where
  issuers := roleOnly maintainer
  body := fun e s =>
    let b := e.field 0 1
    let n := (e.payload.length - 10) / 2
    let period := e.field 8 2
    let all := (List.range n).map fun k => e.field (10 + 2 * k) 2
    if e.payload.length != 10 + 2 * n || n = 0 || 264 < n || 1 < b || 1 < e.field 1 1 || 1 < e.field 2 1 || period < 16 || 1024 < period ||
        4095 < e.field 4 2 || 4095 < e.field 6 2 || !e.clear [(3, 1)] then fails stBadArgument s
    else notStandby (fun s =>
      if programRuns s && bindsBus s b then fails stRefused s
      else
        let old := busOf s b
        let s := modBus b (fun x => { x with
          enabled := e.field 1 1 = 1, candidate := e.field 2 1 = 1, device1 := e.field 4 2, device2 := e.field 6 2, statusPeriod := period,
          administrators := all.take 8, extra := all.drop 8, master := x.master && e.field 1 1 = 1 && e.field 2 1 = 1 }) s
        if 256 < (statusList s b).length then fails 0x0A15 (modBus b (fun _ => old) s)
        else answers (le 1 (bit old.enabled)) (forwardSettings e s)) s

/-- The record of a request (Table 12.1). -/
def mvbRecord (b : Bytes) : MvbRecord where
  size := Bytes.field b 2 1
  direction := Bytes.field b 3 1
  period := Bytes.field b 4 2
  phase := Bytes.field b 6 2
  freshness := if Bytes.field b 3 1 = 2 && Bytes.field b 8 2 = 0 then 3 * Bytes.field b 4 2 else Bytes.field b 8 2
  confirm := Bytes.field b 0x0A 1
  echo := Bytes.field b 0x0C 2
  device := Bytes.field b 0x0E 2
  timeout := Bytes.field b 0x10 2

/-- Ranges and rules of Table 12.1. -/
def mvbRecordOk (s : State) (r : MvbRecord) : Bool :=
  let longest := max r.period (match mvbPort s r.echo with
    | some e => if r.confirm = 1 then e.record.period else 0
    | none => 0)
  r.size ≤ 4 && 1 ≤ r.direction && r.direction ≤ 3 && [1, 2, 4, 8, 16, 32, 64, 128, 256, 512, 1024].contains r.period && r.phase < r.period &&
    (if r.direction = 2 then r.period ≤ r.freshness && r.freshness ≤ 60000 else r.freshness = 0) &&
    (if r.direction = 1 then r.confirm = 1 || r.confirm = 2 else r.confirm = 0) &&
    (if r.confirm = 1 then r.echo < 8192 else r.echo = 0xFFFF) && (r.device ≤ 4095 || r.device = 0xFFFF) &&
    (r.confirm != 2 || r.device ≤ 4095) &&
    (r.direction != 1 || r.timeout = 0 || 2 ≤ r.timeout && r.timeout ≤ 10000 && 2 * longest ≤ r.timeout)

/-- Uncommitted commands on a port: its writes, and unlocks of semaphores that cover it. -/
def onPort (s : State) (h : Nat) (q : Entry) : Bool :=
  q.code = 0x0A05 && Bytes.field q.payload 0 2 = h ||
    s.mvb.semaphores.any fun x => x.2.unlock = some q.id && x.2.ports.contains h

/-- What a port's record leaves when another record takes its place, or none: as at a disable, uncommitted commands on the port complete with
CANCELLED; its committed write and its reads end with FAR_SIDE_TIMEOUT, and semaphores that cover it are lost (log entry 149). -/
def endPort (h : Nat) (s : State) : State :=
  match mvbPort s h with
  | none => s
  | some p =>
    let s := cancelTargets (onPort s h) s
    let s := match p.write with
      | some w => if w.sent.isSome then endWrite h stFarTimeout w s else s
      | none => s
    let s := p.reads.foldl (fun t r => completeEntry r.1 stFarTimeout [] t) s
    ((s.mvb.semaphores.filter fun x => x.2.ports.contains h).map Prod.fst).foldl (fun t k => loseSemaphore k stCancelled t) s

/-- MVB_PORT_CONFIGURE (R417, R418). -/
def cmdMvbPortConfigure : Command where
  issuers := roleOnly maintainer
  body := sized 25 fun e s =>
    let h := e.field 0 2
    let r := mvbRecord e.payload
    let others := (busPorts s (handleBus h)).filter fun p => p.1 != h
    let remove := e.field 24 1
    if 8192 ≤ h || 1 < remove || !e.clear [(0x0B, 1), (0x12, 6)] || (remove = 0 && !mvbRecordOk s r) || (remove = 1 && (mvbPort s h).isNone) then fails stBadArgument s
    else notStandby (fun s =>
      if boundByImage s h then fails stRefused s
      else if remove = 1 then
        let s := modMvb (fun m => { m with ports := Tbl.erase m.ports h }) (endPort h s)
        answers (le 2 s.mvb.ports.length) (forwardSettings e s)
      else if (mvbPort s h).isNone && 1024 ≤ s.mvb.ports.length then fails 0x0A15 s
      else
        let buffer := if r.direction = 1 then List.replicate r.bytes 0 else []
        let t := modMvb (fun m => { m with ports := Tbl.put m.ports h { record := r, data := buffer } }) s
        if 256 < (statusList t (handleBus h)).length then fails 0x0A15 s
        else if (busOf s (handleBus h)).candidate && 600 < worstLoad (r :: others.map fun p => p.2.record) then fails 0x0A16 s
        else
          let t := modMvb (fun m => { m with ports := Tbl.put m.ports h { record := r, data := buffer } }) (endPort h s)
          answers (le 2 t.mvb.ports.length) (forwardSettings e t)) s

/-- MVB_PORT_CONTROL (R432). -/
def cmdMvbPortControl : Command where
  issuers := roleOrLanes maintainer
  body := sized 3 fun e s =>
    let h := e.field 0 2
    let on := e.field 2 1
    match mvbPort s h with
    | none => fails 0x0A10 s
    | some p =>
      if 1 < on then fails stBadArgument s
      else notStandby (fun s =>
        if on = 1 then
          let buffer := if p.record.direction = 1 then List.replicate p.record.bytes 0 else []
          let s := if p.enabled then s else
            modMvbPort h (fun q => { q with enabled := true, data := buffer, receivedAt := none, fresh := false, oneLine := false }) s
          answers (le 1 (bit p.enabled) ++ le 2 0) (forwardSettings e s)
        else
          let victims := onPort s h
          let n := (s.mbx.queue.filter fun q => !q.committed && victims q).length
          let s := cancelTargets victims s
          let s := modMvbPort h (fun q => { q with enabled := false, fresh := false, write := q.write.filter fun w => w.sent.isSome }) s
          let covering := (s.mvb.semaphores.filter fun x => x.2.ports.contains h).map Prod.fst
          let s := covering.foldl (fun t k => loseSemaphore k stCancelled t) s
          answers (le 1 (bit p.enabled) ++ le 2 n) (forwardSettings e s)) s

/-- A semaphore of another issuer covers a port. -/
def lockedAgainst (s : State) (issuer h : Nat) : Bool := s.mvb.semaphores.any fun x => x.2.holder != issuer && x.2.ports.contains h

/-- MVB_WRITE (R423 to R427). -/
def cmdMvbWrite : Command where
  issuers := roleOrLanes maintainer
  body := fun e s =>
    let h := e.field 0 2
    let n := e.field 2 1
    if e.payload.length < 4 || !e.clear [(3, 1)] then fails stBadArgument s
    else
      match mvbPort s h with
      | none => fails 0x0A10 s
      | some p =>
        if e.payload.length != 4 + p.record.bytes then fails stBadArgument s
        else notStandby (fun s =>
          if p.record.direction != 1 || fedByBinding s h || fedByMap s h then fails 0x0A11 s
          else if lockedAgainst s e.issuer h then fails 0x0A12 s
          else if !(busOf s (handleBus h)).enabled then fails 0x0A17 s
          else if !p.enabled then fails stRefused s
          else if n != 0xFF then
            match Tbl.find s.mvb.semaphores n with
            | some x =>
              if x.holder = e.issuer && x.ports.contains h && x.unlock.isNone then
                (modMvb (fun m => { m with semaphores := Tbl.put m.semaphores n { x with staged := Tbl.put x.staged h (e.payload.drop 4) } }) s,
                  .done stAccepted (le 4 0))
              else fails 0x0A14 s
            | none => fails 0x0A14 s
          else if p.write.isSome || (waitingWrite s h).isSome then (s, .goesOn (.waits .mvb) false)
          else (grantWrite h e.id (e.payload.drop 4) s, .goesOn .under false)) s

/-- MVB_READ (R421): the data of the next frame of the port. -/
def cmdMvbRead : Command where
  issuers := anyOrLanes
  body := sized 2 fun e s =>
    let h := e.field 0 2
    match mvbPort s h with
    | none => fails 0x0A10 s
    | some p =>
      if !(busOf s (handleBus h)).enabled then fails 0x0A17 s
      else if !p.enabled then fails stRefused s
      else (modMvbPort h (fun q => { q with reads := q.reads ++ [(e.id, s.time)] }) s, .goesOn .under true)

/-- MVB_LOCK (R427). -/
def cmdMvbLock : Command where
  issuers := roleOrLanes maintainer
  body := fun e s =>
    let n := (e.payload.length - 2) / 2
    let handles := (List.range n).map fun k => e.field (2 * k) 2
    let time := e.field (2 * n) 2
    if e.payload.length != 2 * n + 2 || n = 0 || 8 < n || 10000 < time || !handles.all (fun h => h < 8192 && handleBus h = handleBus (handles.headD 0)) then
      fails stBadArgument s
    else if !handles.all (fun h => (mvbPort s h).isSome) then fails 0x0A10 s
    else notStandby (fun s =>
      let lockable (h : Nat) : Bool := match mvbPort s h with
        | some p => p.record.direction = 2 || p.record.direction = 1 && !fedByBinding s h && !fedByMap s h
        | none => false
      if !handles.all lockable then fails 0x0A11 s
      else if s.mvb.semaphores.any fun x => x.2.ports.any handles.contains then fails 0x0A12 s
      else
        match Tbl.lowestFree s.mvb.semaphores 32 with
        | none => fails 0x0A13 s
        | some k =>
          let x : Semaphore := { holder := e.issuer, ports := handles, expires := s.time + milli (if time = 0 then 100 else time) }
          answers (le 1 k) (modMvb (fun m => { m with semaphores := Tbl.put m.semaphores k x }) s)) s

/-- MVB_UNLOCK (R428). -/
def cmdMvbUnlock : Command where
  issuers := roleOrLanes maintainer
  body := sized 2 fun e s =>
    let n := e.field 0 1
    if 1 < e.field 1 1 then fails stBadArgument s
    else notStandby (fun s =>
      match Tbl.find s.mvb.semaphores n with
      | none => fails 0x0A14 s
      | some x =>
        if x.holder != e.issuer || x.unlock.isSome then fails 0x0A14 s
        else if hasBit (e.field 1 1) 0 || x.staged.isEmpty && x.ports.all (writeFree s) then
          answers [] (modMvb (fun m => { m with semaphores := Tbl.erase m.semaphores n }) s)
        else
          let free := x.ports.all (writeFree s)
          let s := modMvb (fun m => { m with semaphores := Tbl.put m.semaphores n { x with unlock := some e.id } }) s
          (if free then tryUnlock n s else s, .goesOn .under free)) s

/-- MVB_MAP (R430). -/
def cmdMvbMap : Command where
  issuers := roleOnly maintainer
  body := fun e s =>
    let n := (e.payload.length - 6) / 4
    let k := e.field 0 2
    let slot := e.field 2 2
    let ports := (List.range n).map fun j => (e.field (6 + 4 * j) 2, e.field (8 + 4 * j) 2)
    let remove := e.field 4 1
    let within (f : Flow) : Bool := ports.all fun p => match mvbPort s p.1 with
      | some q => p.2 + q.record.bytes ≤ f.record.length
      | none => false
    if e.payload.length != 6 + 4 * n || n = 0 || 16 < n || !e.clear [(5, 1)] || 1 < remove || 2048 ≤ slot ||
        !ports.all (fun p => handleBus p.1 = handleBus ((ports.map Prod.fst).headD 0)) then fails stBadArgument s
    else notStandby (fun s =>
      if remove = 1 then
        if !Tbl.has s.mvb.maps k then fails stBadArgument s
        else
          let s := modMvb (fun m => { m with maps := Tbl.erase m.maps k }) s
          answers (le 2 s.mvb.maps.length) (forwardSettings e s)
      else
        match flowOf s slot with
        | none => fails stBadArgument s
        | some f =>
          let bound := match runningImage s with
            | some i => (i.inputs.any fun b => b.kind = 1 && b.source = slot) || i.outputs.any fun b => b.kind = 1 && b.target = slot
            | none => false
          let direction := if f.record.publishes then 2 else 1
          let right (h : Nat) : Bool := match mvbPort s h with
            | some q => q.record.direction = direction && !(direction = 1 && (fedByBinding s h))
            | none => false
          if bound || f.enabled then fails 0x0910 s
          else if 512 ≤ k then fails 0x0A15 s
          else if !ports.all (fun p => right p.1) then fails 0x0A11 s
          else if !within f || (f.record.publishes && !f.record.scheduled) then fails stBadArgument s
          else
            let s := modMvb (fun m => { m with maps := Tbl.put m.maps k { slot := slot, ports := ports } }) s
            answers (le 2 s.mvb.maps.length) (forwardSettings e s)) s

/-- MVB_DEVICES (R422): devices from an address on, as last polled. -/
def cmdMvbDevices : Command where
  issuers := anyOrLanes
  body := sized 5 fun e s =>
    let b := e.field 0 1
    let count := e.field 3 2
    if 1 < b || count = 0 || 256 < count then fails stBadArgument s
    else
      let found := (((busOf s b).devices.filter fun d => e.field 1 2 ≤ d.1).take count)
      answers (found.flatMap fun d => le 2 d.1 ++ le 1 (bit d.2.present) ++ [0] ++ le 2 d.2.status ++ le 2 d.2.missed) s

/-- MVB_COUNTERS. -/
def cmdMvbCounters : Command where
  issuers := anyOrLanes
  body := sized 1 fun e s =>
    let b := e.field 0 1
    if 1 < b then fails stBadArgument s
    else
      let x := busOf s b
      answers (le 8 x.framesSent ++ le 8 x.framesReceived ++ le 4 x.oneLine ++ le 4 x.errorsA ++ le 4 x.errorsB ++ le 4 x.gained ++
        le 4 x.passed ++ le 4 x.confirmed ++ le 4 x.timedOut ++ le 4 x.farErrors ++ le 4 x.bindingFailures ++ le 4 x.readsTimedOut ++
        le 4 x.semaphoresLost ++ le 4 x.mapWithoutData) s

end Sys2Proof.Machine
end

