-- ==== Sys2Proof/Machine/Cues.lean ====
section
/-! DEFINITION. The cue engine (chapter 9): arming, firing, the actions of cues, and the cue areas. -/

namespace Sys2Proof.Machine

/-! ### Cues -/

/-- A cue, and one changed. -/
def cueOf (s : State) (n : Nat) : Cue := Tbl.get s.pos.cues n {}
def modCue (n : Nat) (f : Cue → Cue) (s : State) : State := modPos (fun p => { p with cues := Tbl.put p.cues n (f (Tbl.get p.cues n {})) }) s

/-- The binding record of a cue in the running image. -/
def cueBinding (s : State) (n : Nat) : Option CueBinding := (runningImage s).bind fun i => i.cues.find? fun b => b.cue = n

/-- Fields of the request last armed (Table 9.6): trigger, direction, window operation, instant in local time, counter value. -/
def Cue.trigger (c : Cue) : Nat := Bytes.field c.request 1 1
def Cue.direction (c : Cue) : Nat := Bytes.field c.request 2 1
def Cue.windowOp (c : Cue) : Nat := Bytes.field c.request 3 1
def Cue.instant (c : Cue) : Nat := ofTai (Bytes.field c.request 8 8) (Bytes.field c.request 0x10 4)
def Cue.mark (c : Cue) : Int := Bytes.fieldInt c.request 0x18 8

/-- Armed cues of a trigger. -/
def Cue.awaits (c : Cue) (trigger : Nat) : Bool := c.state = .armed && c.trigger = trigger && !c.passed

/-! ### Firing (R334, R335) -/

/-- A cue ends as Fired or Missed. -/
def cueFired (n : Nat) (s : State) : State :=
  modPos (fun p => { p with cueFirings := p.cueFirings + 1 })
    (modCue n (fun c => { c with state := .fired, firings := (c.firings + 1) % 2 ^ 32, windowDue := false }) s)
def cueMissed (n : Nat) (s : State) : State :=
  modPos (fun p => { p with cueMisses := p.cueMisses + 1 })
    (modCue n (fun c => { c with state := .missed, misses := c.misses + 1, windowDue := false }) s)

/-- A window's entry is enabled in the active set. -/
def windowEnabled (s : State) (w : Nat) : Bool := w < 8 && windowField (params s) w 0 1 = 1

/-- The action of a cue's binding, taken now: Fired, or Missed where it cannot be taken. -/
def cueAction (n : Nat) (b : CueBinding) (s : State) : State :=
  match b.action with
  | 1 => match launchHead (b.target / 256) (b.target % 256) s with
    | some t => cueFired n t
    | none => cueMissed n s
  | 2 => cueFired n (activateCue b.target s)
  | _ =>
    if !windowEnabled s b.target then cueMissed n s
    else if (cueOf s n).windowOp = 1 then cueFired n (openWindow b.target s)
    else cueFired n (closeWindow b.target s)

/-- Cues whose trigger passes wait: on a Standby (R339), and on a module that takes over until the takeover instant (R254). -/
def cuesWait (s : State) : Bool := s.pair.role = .standby || s.pair.takeoverAt.isSome

/-- A trigger has passed: the action is taken, or on a Standby the passed mark set (R339). -/
def cuePasses (n : Nat) (s : State) : State :=
  match cueBinding s n with
  | none => s
  | some b =>
    if cuesWait s then modCue n (fun c => { c with passed := true, passedAt := s.time }) s
    else cueAction n b s

/-- A time cue's instant is reached: an action 3 waits for the end of the next tick (R335). -/
def timeCuePasses (n : Nat) (s : State) : State :=
  match cueBinding s n with
  | none => s
  | some b =>
    if b.action = 3 && !cuesWait s then modCue n (fun c => { c with windowDue := true }) s else cuePasses n s

/-- TIME_CUE (R335): an armed time cue reaches its instant. -/
def execTimeCue (n : Nat) (s : State) : Out :=
  let c := cueOf s n
  if c.awaits 1 && !c.windowDue then .next (timeCuePasses n (reachLocal c.instant s)) else .next s

/-- Whether a counter value is crossed in a tick from one counter to the next (R334). -/
def crosses (direction : Nat) (x before now : Int) : Bool :=
  let up : Bool := before < x && x ≤ now
  let down : Bool := x < before && now ≤ x
  match direction with
  | 1 => up
  | 2 => down
  | _ => up || down

/-- The cues that act at the end of a tick: position cues crossed, and windows that time cues have due whose instant the tick's boundary has
reached. -/
def cueTick (boundary : Nat) (before now : Int) (s : State) : State :=
  (s.pos.cues.map Prod.fst).foldl (fun t n =>
    let c := cueOf t n
    if c.windowDue && c.state = .armed && c.instant ≤ boundary then cuePasses n t
    else if c.awaits 2 && crosses c.direction c.mark before now then cuePasses n t
    else t) s

/-- A step of the local clock (R336): armed time cues whose instants it has carried local time past fire, or with action 1 end as
Missed. -/
def cuesAtStep (s : State) : State :=
  (s.pos.cues.map Prod.fst).foldl (fun t n =>
    let c := cueOf t n
    if c.awaits 1 && !c.windowDue && c.instant ≤ localNow t then
      match cueBinding t n with
      | some b => if b.action = 1 && !cuesWait t then cueMissed n t else cuePasses n t
      | none => t
    else t) s

/-! ### Requests (R333) -/

/-- One request of a released take. -/
def applyCueRequest (n : Nat) (r : Bytes) (s : State) : State :=
  if (cueOf s n).state = .disabled then modPos (fun p => { p with requestsDropped := p.requestsDropped + 1 }) s
  else if Bytes.field r 0 1 = 2 then modCue n (fun c => { c with state := .idle, passed := false, windowDue := false }) s
  else
    let s := modCue n (fun c => { c with state := .armed, request := r, passed := false, windowDue := false }) s
    let c := cueOf s n
    if c.trigger != 1 || localNow s < c.instant then s
    else match cueBinding s n with
      | some b => if b.action = 1 && c.instant + 100 * nsUnit < localNow s && !cuesWait s then cueMissed n s
                  else if c.instant < localNow s then cuePasses n s
                  else timeCuePasses n s
      | none => s

/-- The cues that a task owns. -/
def taskCues (s : State) (t : Nat) : List Nat :=
  match runningImage s with
  | some i => (i.cues.filter fun b => b.task = t).map CueBinding.cue
  | none => []

/-- State and firings of a task's cues as they stand. -/
def cueValues (s : State) (t : Nat) : List (Nat × Nat × Nat) :=
  (taskCues s t).map fun n => (n, (cueOf s n).state.code, (cueOf s n).firings)

/-- The requests of a take applied at its release, and the values recorded for the task's next takes (R338). -/
def releaseCues (t : Nat) (requests : List (Nat × Bytes)) (s : State) : State :=
  let s := requests.foldl (fun u r => applyCueRequest r.1 r.2 u) s
  modPos (fun p => { p with areas := Tbl.put p.areas t (cueValues s t) }) s

/-- The values delivered with a snapshot: those of the latest release, before the first Idle with 0 firings or Disabled. -/
def cueAreaOf (s : State) (t : Nat) : List (Nat × Nat × Nat) :=
  match Tbl.find s.pos.areas t with
  | some a => a
  | none => (taskCues s t).map fun n => (n, if (cueOf s n).state = .disabled then 4 else 0, 0)

/-! ### Cues at other events (R340) -/

/-- Program stop and Lock-out: every armed cue ends without its action. -/
def endCues (s : State) : State :=
  modPos (fun p => { p with cues := p.cues.map fun c =>
    (c.1, if c.2.state = .armed then { c.2 with state := .idle, passed := false, windowDue := false } else c.2) }) s

/-- Program start: every cue that is not Disabled is Idle without firings. -/
def cuesAtStart (s : State) : State :=
  modPos (fun p => { p with areas := []
                            cues := (p.cues.filter fun c => c.2.state = .disabled).map fun c => (c.1, { state := .disabled }) }) s

/-! ### Commands -/

/-- CUE_STATUS. -/
def cmdCueStatus : Command where
  issuers := anyOrLanes
  body := sized 3 fun e s =>
    let first := e.field 0 1
    let count := e.field 1 2
    if count = 0 || 256 < count || 256 < first + count then fails stBadArgument s
    else
      let one (k : Nat) : Bytes :=
        let n := first + k
        let c := cueOf s n
        let b := cueBinding s n
        le 1 n ++ le 1 (bit b.isSome) ++ le 1 ((b.map CueBinding.task).getD 0xFF) ++ le 1 ((b.map CueBinding.action).getD 0) ++
          le 1 c.state.code ++ le 1 c.trigger ++ le 2 0 ++ le 4 c.firings ++ le 4 c.misses ++ padTo 32 (if c.state = .armed then c.request else [])
      answers ((List.range count).flatMap one) s

/-- CUE_CONTROL (R340, R343). -/
def cmdCueControl : Command where
  issuers := roleOnly maintainer
  body := sized 2 fun e s =>
    let n := e.field 0 1
    let enable := e.field 1 1
    if 1 < enable then fails stBadArgument s
    else
      let old := (cueOf s n).state
      if enable = 0 then
        let s := cancelTargets (fun q => q.code = 0x0706 && q.id != e.id && Bytes.field q.payload 0 1 = n) s
        answers (le 1 old.code) (modCue n (fun c => { c with state := .disabled, passed := false, windowDue := false }) s)
      else answers (le 1 old.code) (if old = .disabled then modCue n (fun c => { c with state := .idle }) s else s)

end Sys2Proof.Machine
end

