-- ==== Sys2Proof/Machine/Images.lean ====
section
/-! DEFINITION. Application images (chapter 5): types and leaves, the container, and the Cutter's verification by Table 5.8. -/

namespace Sys2Proof

/-! ### Types and leaves (R154, R155) -/

/-- Machine type of a code of R167. -/
def MType.ofCode : Nat → Option MType
  | 0 => some .bool | 1 => some .i8 | 2 => some .i16 | 3 => some .i32 | 4 => some .i64 | 5 => some .u8 | 6 => some .u16
  | 7 => some .u32 | 8 => some .u64 | 9 => some .f32 | 10 => some .f64 | _ => none

/-- Width in bits, a BOOL as its one byte. -/
def MType.bits : MType → Nat
  | .bool | .i8 | .u8 => 8
  | .i16 | .u16 => 16
  | .i32 | .u32 | .f32 => 32
  | .i64 | .u64 | .f64 => 64

/-- Bytes of the canonical form. -/
def MType.bytes (t : MType) : Nat := t.bits / 8

/-- Classes of machine types. -/
def MType.isFloat : MType → Bool
  | .f32 | .f64 => true
  | _ => false
def MType.isInt : MType → Bool
  | .bool | .f32 | .f64 => false
  | _ => true
def MType.isSigned : MType → Bool
  | .i8 | .i16 | .i32 | .i64 => true
  | _ => false

end Sys2Proof

namespace Sys2Proof.Machine

/-- The machine type of an elementary type (Table 5.3). -/
def elementary (t : Nat) : Option MType :=
  [MType.bool, .i8, .i16, .i32, .i64, .u8, .u16, .u32, .u64, .u8, .u16, .u32, .u64, .f32, .f64, .i64, .i64, .i64, .i64, .i64, .u8, .u16][t]?

/-- Canonical size of a record. -/
def TypeRecord.size : TypeRecord → Nat
  | .array _ _ s | .struct _ s | .string _ s | .wstring _ s => s

/-- Canonical size of a type. -/
def typeSize (types : List TypeRecord) (t : Nat) : Nat :=
  if t < 32 then ((elementary t).map MType.bytes).getD 0 else ((types[t - 32]?).map TypeRecord.size).getD 0

/-- Leaves of a type, down to a depth. -/
def leafCount (types : List TypeRecord) : Nat → Nat → Nat
  | 0, _ => 1
  | k + 1, t =>
    if t < 32 then 1
    else match types[t - 32]? with
      | some (.array e n _) => n * leafCount types k e
      | some (.struct ms _) => (ms.map (leafCount types k)).sum
      | some (.string c _) => c
      | some (.wstring c _) => c / 2
      | none => 0

/-- Types nest at most 8 levels deep (R156), and an elementary type lies below. -/
def nesting : Nat := 9

/-- Machine type and byte offset of a leaf. -/
def leafAt (types : List TypeRecord) : Nat → Nat → Nat → Option (MType × Nat)
  | 0, _, _ => none
  | k + 1, t, n =>
    if t < 32 then if n = 0 then (elementary t).map fun m => (m, 0) else none
    else match types[t - 32]? with
      | some (.array e count _) =>
        let l := leafCount types k e
        if l = 0 || count ≤ n / l then none else (leafAt types k e (n % l)).map fun p => (p.1, n / l * typeSize types e + p.2)
      | some (.struct ms _) =>
        let find := ms.foldl (fun (acc : Option (Nat × Nat × Nat) × Nat × Nat) m =>
          let l := leafCount types k m
          match acc.1 with
          | some _ => acc
          | none => if acc.2.1 < l then (some (m, acc.2.1, acc.2.2), acc.2) else (none, acc.2.1 - l, acc.2.2 + typeSize types m))
          (none, n, 0)
        match find.1 with
        | some (m, r, o) => (leafAt types k m r).map fun p => (p.1, o + p.2)
        | none => none
      | some (.string c _) => if n < c then some (.u8, n) else none
      | some (.wstring c _) => if n < c / 2 then some (.u16, 2 * n) else none
      | none => none

/-- Leaf of a symbol. -/
def Image.leaf (i : Image) (x : Symbol) (n : Nat) : Option (MType × Nat) := leafAt i.types nesting x.type n

/-- Attributes of a symbol (Table 5.4). -/
def Symbol.retentive (x : Symbol) : Bool := hasBit x.attributes 0
def Symbol.mirrored (x : Symbol) : Bool := hasBit x.attributes 1
def Symbol.forcible (x : Symbol) : Bool := hasBit x.attributes 2
def Symbol.safe (x : Symbol) : Bool := hasBit x.attributes 3
def Symbol.input (x : Symbol) : Bool := hasBit x.attributes 4
def Symbol.output (x : Symbol) : Bool := hasBit x.attributes 5
def Symbol.constant (x : Symbol) : Bool := hasBit x.attributes 6

/-- The absent offset of an initial or default value. -/
def noValue : Nat := 0xFFFFFFFFFFFFFFFF

/-- Initial value and substitute default of a symbol. -/
def Image.valueAt (i : Image) (o n : Nat) : Bytes := if o = noValue then List.replicate n 0 else padTo n (Bytes.slice i.values o n)
def Image.initial (i : Image) (x : Symbol) : Bytes := i.valueAt x.initial x.size
def Image.default (i : Image) (x : Symbol) : Bytes := i.valueAt x.deflt x.size

/-- Index and record of an identity. -/
def Image.byIdentity (i : Image) (id : Nat) : Option (Nat × Symbol) :=
  (((List.range i.symbols.length).zip i.symbols).find? fun p => p.2.identity = id)

/-- Canonical description of a type, as one list of numbers (R227): kinds, counts, capacities and elementary types in order. -/
def describe (types : List TypeRecord) : Nat → Nat → List Nat
  | 0, t => [t]
  | k + 1, t =>
    if t < 32 then [0, t]
    else match types[t - 32]? with
      | some (.array e n _) => [1, n] ++ describe types k e
      | some (.struct ms _) => [2, ms.length] ++ ms.flatMap (describe types k)
      | some (.string c _) => [3, c]
      | some (.wstring c _) => [4, c]
      | none => [5]

/-- Snapshot size of a task (R561): from the distinct sources of each kind, flows and MVB ports with their targets' sizes. -/
def snapshotSize (i : Image) (bs : List InputBinding) : Nat :=
  let target (b : InputBinding) : Nat := match i.byIdentity b.target with
    | some x => x.2.size
    | none => 0
  let kind (k : Nat) : Nat :=
    let here := (bs.filter fun b => b.kind = k).foldl (fun (l : List InputBinding) b =>
      if l.any fun x => k = 3 || x.source = b.source then l else l ++ [b]) []
    if here.isEmpty then 0 else 8 + (here.map fun b => 8 + (if k = 1 || k = 4 then target b else 0)).sum
  72 + kind 1 + kind 2 + kind 3 + kind 4 + kind 5

/-! ### Instruction words (R167, Table 5.9) -/

/-- A decoded instruction: its word offset in the function, fields and extension words. -/
structure KWord where
  pos : Nat
  op : Nat
  t : Nat
  t2 : Nat
  d : Nat
  a : Nat
  b : Nat
  ext : List Nat
  deriving DecidableEq, Repr

/-- Opcodes with their extension words, and the fields of the word that they use: bit 0 T, 1 T2, 2 D, 3 A, 4 B (Tables 5.10, 5.11). -/
def kpcOps : List (Nat × Nat × Nat) :=
  [(0x00, 0, 0), (0x01, 1, 5), (0x02, 0, 13), (0x03, 1, 29), (0x10, 0, 29), (0x11, 0, 29), (0x12, 0, 29), (0x13, 0, 29), (0x14, 0, 29),
   (0x15, 0, 13), (0x16, 0, 13), (0x17, 0, 29), (0x18, 0, 29), (0x19, 1, 29), (0x1A, 0, 13)] ++
  [(0x20, 0, 29), (0x21, 0, 29), (0x22, 0, 29), (0x23, 0, 13), (0x24, 0, 29), (0x25, 0, 29), (0x26, 0, 29), (0x27, 0, 29),
   (0x30, 0, 29), (0x31, 0, 29), (0x32, 0, 29), (0x33, 0, 29), (0x34, 0, 29), (0x35, 0, 29)] ++
  [(0x40, 0, 15), (0x41, 0, 15), (0x42, 0, 15), (0x43, 0, 15), (0x50, 0, 13), (0x51, 0, 13), (0x52, 0, 13), (0x53, 0, 13),
   (0x54, 0, 13), (0x55, 0, 13), (0x56, 0, 29), (0x57, 0, 13), (0x58, 0, 13), (0x59, 0, 13), (0x5A, 0, 29), (0x5B, 0, 13),
   (0x5C, 0, 13), (0x5D, 0, 13)] ++
  [(0x60, 2, 13), (0x61, 2, 25), (0x62, 3, 0), (0x70, 0, 0), (0x71, 1, 0), (0x72, 0, 8), (0x73, 0, 0), (0x74, 0, 0), (0x75, 0, 4),
   (0x76, 0, 4), (0x77, 0, 0), (0x78, 1, 12), (0x79, 1, 12)]

/-- Extension words of an opcode and the fields it uses. -/
def kpcOp (op : Nat) : Option (Nat × Nat) := (kpcOps.find? fun x => x.1 = op).map Prod.snd

/-- The instruction at the head of a list of words, and the words after it. -/
def nextWord (pos : Nat) : List Word64 → Option (KWord × List Word64)
  | [] => none
  | w :: ws =>
    let v := w.toNat
    match kpcOp (v / 2 ^ 56) with
    | none => none
    | some (n, _) =>
      if ws.length < n then none
      else some (⟨pos, v / 2 ^ 56, v / 2 ^ 52 % 16, v / 2 ^ 48 % 16, v / 2 ^ 32 % 65536, v / 65536 % 65536, v % 65536,
        (ws.take n).map BitVec.toNat⟩, ws.drop n)

/-- The instructions of a function, up to the first that does not decode; and the word offset of that. -/
def decodeWords : Nat → Nat → List Word64 → List KWord × Option Nat
  | 0, _, _ => ([], none)
  | k + 1, pos, ws =>
    match ws, nextWord pos ws with
    | [], _ => ([], none)
    | _, none => ([], some pos)
    | _, some (x, rest) =>
      let r := decodeWords k (pos + 1 + x.ext.length) rest
      (x :: r.1, r.2)

/-- The instructions of a function. -/
def FunctionRec.instrs (f : FunctionRec) : List KWord := (decodeWords f.code.length 0 f.code).1

/-- Offset in the container of a function's first instruction word. -/
def FunctionRec.base (f : FunctionRec) : Nat := f.offset + 16 + (f.locals.length + 7) / 8 * 8

/-- Reserved bits of an instruction are 0: unused fields, extension words, codes of types; CONST's word is within its type (R168). -/
def KWord.clean (x : KWord) : Bool :=
  let use := ((kpcOp x.op).map Prod.snd).getD 0
  let field (n v : Nat) : Bool := hasBit use n || v = 0
  let e (k : Nat) : Nat := x.ext.getD k 0
  field 0 x.t && field 1 x.t2 && field 2 x.d && field 3 x.a && field 4 x.b && x.t ≤ 10 && x.t2 ≤ 10 &&
    match x.op with
    | 0x01 => match MType.ofCode x.t with
      | some .bool => e 0 < 2
      | some m => e 0 < 2 ^ m.bits
      | none => false
    | 0x03 | 0x19 | 0x79 => e 0 < 2 ^ 16
    | 0x60 | 0x61 => e 1 % 2 ^ 32 = 0
    | 0x62 => e 2 % 2 ^ 32 = 0
    | 0x78 => e 0 < 2 ^ 32
    | _ => true

/-! ### The container (R151, R152) -/

/-- A container: its bytes and its sections, each a kind, an offset and a content. -/
structure Container where
  bytes : Bytes
  sections : List (Nat × Nat × Bytes)
  deriving DecidableEq, Repr

/-- A section's offset and content. -/
def Container.section (c : Container) (k : Nat) : Nat × Bytes := ((c.sections.find? fun s => s.1 = k).map Prod.snd).getD (0, [])

/-- Records of a fixed size with their offsets in the container. -/
def recordsOf (n : Nat) : Nat → Nat → Bytes → List (Nat × Bytes)
  | 0, _, _ => []
  | k + 1, o, b => if b.length < n then [] else (o, b.take n) :: recordsOf n k (o + n) (b.drop n)

/-- The records of a section. -/
def Container.records (c : Container) (k n : Nat) : List (Nat × Bytes) :=
  recordsOf n ((c.section k).2.length / n) (c.section k).1 (c.section k).2

/-- The section table. -/
def parseContainer (b : Bytes) : Container where
  bytes := b
  sections := (List.range (Bytes.field b 0x20 4)).map fun k =>
    let o := 64 + 24 * k
    (Bytes.field b o 4, Bytes.field b (o + 8) 8, Bytes.slice b (Bytes.field b (o + 8) 8) (Bytes.field b (o + 16) 8))

/-- A symbol record (Table 5.4). -/
def parseSymbol (b : Bytes) : Symbol where
  identity := Bytes.field b 0 8
  type := Bytes.field b 8 4
  attributes := Bytes.field b 0x0C 2
  owner := Bytes.field b 0x0E 1
  substitute := Bytes.field b 0x0F 1
  size := Bytes.field b 0x10 4
  leaves := Bytes.field b 0x14 4
  initial := Bytes.field b 0x18 8
  nameAt := Bytes.field b 0x20 4
  nameLength := Bytes.field b 0x24 2
  deflt := Bytes.field b 0x28 8

/-- A type record as it stands: offset, kind, reserved byte, member count, size and body words. -/
structure RawType where
  offset : Nat
  kind : Nat
  reserved : Nat
  count : Nat
  size : Nat
  body : List Nat
  deriving DecidableEq, Repr

/-- Words of a record's body by its kind (Table 5.5). -/
def bodyWords (kind count : Nat) : Option Nat :=
  match kind with
  | 1 => some 2
  | 2 => some count
  | 3 | 4 => some 1
  | _ => none

/-- The type records, up to the first that is no record, with its offset. -/
def parseTypes : Nat → Nat → Bytes → List RawType × Option Nat
  | 0, _, _ => ([], none)
  | k + 1, o, b =>
    if b.isEmpty then ([], none)
    else match bodyWords (Bytes.field b 0 1) (Bytes.field b 2 2) with
      | none => ([], some o)
      | some n =>
        if b.length < 8 + 4 * n then ([], some o)
        else
          let r := parseTypes k (o + 8 + 4 * n) (b.drop (8 + 4 * n))
          (⟨o, Bytes.field b 0 1, Bytes.field b 1 1, Bytes.field b 2 2, Bytes.field b 4 4,
            (List.range n).map fun j => Bytes.field b (8 + 4 * j) 4⟩ :: r.1, r.2)

/-- A type record by its kind. -/
def RawType.record (r : RawType) : TypeRecord :=
  match r.kind with
  | 1 => .array (r.body.getD 0 0) (r.body.getD 1 0) r.size
  | 2 => .struct r.body r.size
  | 3 => .string (r.body.getD 0 0) r.size
  | _ => .wstring (r.body.getD 0 0) r.size

/-- The function records, up to the first that is malformed, with its offset (R166). -/
def parseFunctions : Nat → Nat → Bytes → List FunctionRec × Option Nat
  | 0, _, _ => ([], none)
  | k + 1, o, b =>
    if b.isEmpty then ([], none)
    else
      let locals := Bytes.field b 4 2
      let padded := (locals + 7) / 8 * 8
      let words := Bytes.field b 8 4
      let total := 16 + padded + 8 * words
      if b.length < 16 then ([], some o)
      else if Bytes.field b 6 2 != 0 then ([], some (o + 6))
      else if Bytes.field b 12 4 != 0 then ([], some (o + 12))
      else if locals < Bytes.field b 0 2 + Bytes.field b 2 2 then ([], some o)
      else if b.length < total then ([], some (o + 8))
      else if (Bytes.slice b 16 locals).any fun x => 10 < x.toNat then ([], some (o + 16))
      else if !allZero (Bytes.slice b (16 + locals) (padded - locals)) then ([], some (o + 16 + locals))
      else
        let f : FunctionRec := {
          params := Bytes.field b 0 2, results := Bytes.field b 2 2, locals := (Bytes.slice b 16 locals).map BitVec.toNat
          code := (List.range words).map fun j => BitVec.ofNat 64 (Bytes.field b (16 + padded + 8 * j) 8)
          offset := o }
        let r := parseFunctions k (o + total) (b.drop total)
        (f :: r.1, r.2)

/-- A task binding record (Table 5.6). -/
def parseTask (b : Bytes) : TaskRec where
  task := Bytes.field b 0 1
  event := Bytes.field b 1 1 = 1
  priority := Bytes.field b 2 1
  safety := hasBit (Bytes.field b 3 1) 0
  cycle := Bytes.field b 4 4
  offset := Bytes.field b 8 4
  deadline := Bytes.field b 0x0C 4
  entry := Bytes.field b 0x10 4
  stack := Bytes.field b 0x14 4
  channels := Bytes.field b 0x18 2
  interarrival := Bytes.field b 0x1C 4
  inputFirst := Bytes.field b 0x20 4
  inputCount := Bytes.field b 0x24 4
  outputFirst := Bytes.field b 0x28 4
  outputCount := Bytes.field b 0x2C 4

/-- Binding records (R161, R163, R164). -/
def parseInput (b : Bytes) : InputBinding :=
  ⟨Bytes.field b 0 1, hasBit (Bytes.field b 1 1) 0, Bytes.field b 4 4, Bytes.field b 8 8, Bytes.field b 16 8⟩
def parseOutput (b : Bytes) : OutputBinding :=
  ⟨Bytes.field b 0 1, hasBit (Bytes.field b 1 1) 0, Bytes.field b 4 4, Bytes.field b 8 8⟩
def parseCue (b : Bytes) : CueBinding := ⟨Bytes.field b 0 1, Bytes.field b 1 1, Bytes.field b 2 1, Bytes.field b 3 1, Bytes.field b 4 4⟩

/-- The image that a container holds. -/
def parseImage (b : Bytes) : Image :=
  let c := parseContainer b
  { identity := Bytes.slice b 8 16
    version := Bytes.field b 0x18 4
    flags := Bytes.field b 0x1C 4
    symbols := (c.records 1 48).map fun r => parseSymbol r.2
    types := (parseTypes (c.section 3).2.length 0 (c.section 3).2).1.map RawType.record
    functions := (parseFunctions (c.section 4).2.length (c.section 4).1 (c.section 4).2).1
    tasks := (c.records 5 64).map fun r => parseTask r.2
    inputs := (c.records 6 24).map fun r => parseInput r.2
    outputs := (c.records 7 16).map fun r => parseOutput r.2
    cues := (c.records 8 16).map fun r => parseCue r.2
    values := (c.section 9).2
    names := (c.section 2).2
    debug := (c.section 10).2 }

/-! ### Verification (R165, Table 5.8): each check answers the offset at which it fails -/

/-- The offset of a failure, unless a condition holds. -/
def need (ok : Bool) (o : Nat) : Option Nat := if ok then none else some o

/-- The first failure. -/
def firstSome (l : List (Option Nat)) : Option Nat := (l.filterMap id).head?

/-- Check 1: the header (Table 5.1), for the generation and version of the signed object. -/
def check1 (b : Bytes) (generation version : Nat) : Option Nat :=
  let f := Bytes.field b
  firstSome [need (64 ≤ b.length && f 0 4 = 0x4D49584B) 0, need (f 4 2 = 1) 4, need (f 6 2 = 1 && generation = 1) 6,
    need (f 0x18 4 = version) 0x18, need (f 0x1C 4 < 2) 0x1C, need (8 ≤ f 0x20 4 && f 0x20 4 ≤ 10) 0x20, need (f 0x24 4 = 0) 0x24,
    need (allZero (Bytes.slice b 0x30 16)) 0x30]

/-- Record size of a section that holds records of one size. -/
def recordSize : Nat → Nat
  | 1 => 48 | 5 => 64 | 6 => 24 | 7 => 16 | 8 => 16 | _ => 1

/-- Check 2: the section table (R152). DESIGN CHOICE: an empty section whose offset lies inside another one overlaps it (log entry 141). -/
def check2 (b : Bytes) : Option Nat :=
  let n := Bytes.field b 0x20 4
  let stop := 64 + 24 * n
  let rows := (List.range n).map fun k => let o := 64 + 24 * k; (o, Bytes.field b o 4, Bytes.field b (o + 8) 8, Bytes.field b (o + 16) 8)
  let one (x : Nat × Nat × Nat × Nat) : List (Option Nat) :=
    let o := x.1
    let kind := x.2.1
    let start := x.2.2.1
    let length := x.2.2.2
    [need (1 ≤ kind && kind ≤ 10 && (rows.filter fun y => y.2.1 = kind && y.1 < o).isEmpty) o, need (Bytes.field b (o + 4) 4 = 0) (o + 4),
     need (start % 8 = 0 && stop ≤ start) (o + 8),
     need (start + length ≤ b.length && (0 < length || !([1, 2, 4, 5].contains kind)) && length % recordSize kind = 0) (o + 16),
     need (rows.all fun y => y.1 = o || start + length ≤ y.2.2.1 || y.2.2.1 + y.2.2.2 ≤ start) (o + 8)]
  firstSome (need (stop ≤ b.length) 64 :: rows.flatMap one ++
    (List.range 8).map fun k => need (rows.any fun y => y.2.1 = k + 1) 0x20)

/-- The symbols with the offsets of their records. -/
def symbolsAt (c : Container) : List (Nat × Symbol) := (c.records 1 48).map fun r => (r.1, parseSymbol r.2)

/-- Check 3: identities and names. DEDUCED: the reserved field at 0x26 of a symbol record is checked here (log entry 141). -/
def check3 (c : Container) : Option Nat :=
  let syms := symbolsAt c
  let names := (c.section 2).2.length
  let prior := 0 :: syms.map fun s => s.2.identity
  firstSome ((syms.zip prior).flatMap fun p =>
    let s := p.1.2
    let o := p.1.1
    [need (p.2 < s.identity && s.identity < 0xFFFFFF0000000000) o,
     need (1 ≤ s.nameLength && s.nameLength ≤ 255 && s.nameAt + s.nameLength ≤ names) (o + 0x20),
     need (Bytes.field c.bytes (o + 0x26) 2 = 0) (o + 0x26)])

/-- Size, leaves and depth of a type, from those of the records below a position. -/
def shapeOf (below : List (Nat × Nat × Nat)) (t : Nat) : Option (Nat × Nat × Nat) :=
  if t < 32 then (elementary t).map fun m => (m.bytes, 1, 0) else below[t - 32]?

/-- The shape that a record's body gives. -/
def RawType.shape (below : List (Nat × Nat × Nat)) (r : RawType) : Option (Nat × Nat × Nat) :=
  let arg (k : Nat) : Nat := r.body.getD k 0
  match r.kind with
  | 1 => if 1 ≤ arg 1 && arg 1 ≤ 16777216 then
      (shapeOf below (arg 0)).map fun s => (s.1 * arg 1, s.2.1 * arg 1, s.2.2 + 1) else none
  | 2 => if 1 ≤ r.count && r.count ≤ 4096 then
      r.body.foldl (fun acc t => match acc, shapeOf below t with
        | some a, some s => some (a.1 + s.1, a.2.1 + s.2.1, max a.2.2 (s.2.2 + 1))
        | _, _ => none) (some (0, 0, 1)) else none
  | 3 => if 1 ≤ arg 0 && arg 0 ≤ 65535 then some (arg 0, arg 0, 1) else none
  | _ => if 2 ≤ arg 0 && arg 0 ≤ 65534 && arg 0 % 2 = 0 then some (arg 0, arg 0 / 2, 1) else none

/-- The shapes of the type records, and the offset of the first record that breaks R154 or R156. -/
def shapes : List RawType → List (Nat × Nat × Nat) → List (Nat × Nat × Nat) × Option Nat
  | [], done => (done, none)
  | r :: l, done =>
    if r.reserved != 0 then (done, some (r.offset + 1))
    else if r.kind != 2 && r.count != 0 then (done, some (r.offset + 2))
    else match r.shape done with
      | none => (done, some (r.offset + (if r.kind = 2 && (r.count = 0 || 4096 < r.count) then 2 else 8)))
      | some s =>
        if s.1 != r.size then (done, some (r.offset + 4))
        else if 8 < s.2.2 then (done, some r.offset)
        else shapes l (done ++ [s])

/-- Check 4: types, and each symbol's size and leaves. -/
def check4 (c : Container) : Option Nat :=
  let sec := c.section 3
  let raw := parseTypes sec.2.length sec.1 sec.2
  let sh := shapes raw.1 []
  firstSome ([sh.2, raw.2] ++ (symbolsAt c).flatMap fun s =>
    match shapeOf sh.1 s.2.type with
    | none => [some (s.1 + 8)]
    | some x => [need (s.2.size = x.1) (s.1 + 0x10), need (s.2.leaves = x.2.1) (s.1 + 0x14)])

/-- Check 5: attributes (R158) and owners. DEDUCED: so is the substitute policy (log entry 141). -/
def check5 (c : Container) (i : Image) : Option Nat :=
  let one (s : Nat × Symbol) : List (Option Nat) :=
    let x := s.2
    let owner := i.tasks.find? fun t => t.task = x.owner
    [need (x.attributes < 128 && !(x.input && x.output) && (!x.constant || x.attributes = 64) && (!x.forcible || x.input || x.output))
       (s.1 + 0x0C),
     need (if x.constant then x.owner = 0xFF else owner.isSome) (s.1 + 0x0E),
     need (!x.safe || (match owner with | some t => t.safety | none => false)) (s.1 + 0x0C),
     need (if x.input then x.substitute ≤ 2 else x.substitute = 0) (s.1 + 0x0F)]
  let retained := (symbolsAt c).foldl (fun (acc : Nat × Option Nat) s =>
    if !s.2.retentive || acc.2.isSome then acc
    else if 262144 < acc.1 + s.2.size then (acc.1, some (s.1 + 0x0C)) else (acc.1 + s.2.size, none)) (0, none)
  firstSome ((symbolsAt c).flatMap one ++ [retained.2])

/-- Whether the BOOL leaves of a value are 0 or 1. -/
def boolsOk (i : Image) (x : Symbol) (v : Bytes) : Bool :=
  (List.range x.leaves).all fun n => match i.leaf x n with
    | some (.bool, o) => Bytes.field v o 1 < 2
    | _ => true

/-- Check 6: initial and default values. -/
def check6 (c : Container) (i : Image) : Option Nat :=
  firstSome ((symbolsAt c).flatMap fun s =>
    let one (o at_ : Nat) : Option Nat :=
      need (o = noValue || o + s.2.size ≤ i.values.length && boolsOk i s.2 (Bytes.slice i.values o s.2.size)) (s.1 + at_)
    [one s.2.initial 0x18, one s.2.deflt 0x28])

/-- Least common multiple of the cyclic tasks' cycles in µs (R160). -/
def hyperperiod (tasks : List TaskRec) : Nat := (tasks.filter fun t => !t.event).foldl (fun h t => Nat.lcm h t.cycle) 1

/-- Check 7: tasks. -/
def check7 (c : Container) (i : Image) : Option Nat :=
  let recs := c.records 5 64
  let broken := (parseFunctions (c.section 4).2.length (c.section 4).1 (c.section 4).2).2.isSome
  let one (r : Nat × Bytes) : List (Option Nat) :=
    let o := r.1
    let t := parseTask r.2
    let prior := (recs.filter fun q => q.1 < o).map fun q => parseTask q.2
    let entryOk : Bool := match i.functions[t.entry]? with
      | some f => f.params = 0 && f.results = 0
      | none => broken
    [need (t.task ≤ 15 && !(prior.any fun p => p.task = t.task)) o, need (Bytes.field r.2 1 1 ≤ 1) (o + 1),
     need (1 ≤ t.priority && t.priority ≤ 16 && !(prior.any fun p => p.priority = t.priority)) (o + 2), need (Bytes.field r.2 3 1 ≤ 1) (o + 3),
     need (if t.event then t.cycle = 0 else t.cycle % 100 = 0 && 500 ≤ t.cycle && t.cycle ≤ 10000000) (o + 4),
     need (if t.event then t.offset = 0 else t.offset % 100 = 0 && t.offset < t.cycle) (o + 8),
     need (100 ≤ t.deadline && t.deadline ≤ (if t.event then t.interarrival else t.cycle)) (o + 0x0C), need entryOk (o + 0x10),
     need (t.stack ≤ 1048576) (o + 0x14), need (!(prior.any fun p => p.channels &&& t.channels != 0)) (o + 0x18),
     need (Bytes.field r.2 0x1A 2 = 0) (o + 0x1A), need (if t.event then 500 ≤ t.interarrival else t.interarrival = 0) (o + 0x1C),
     need (allZero (r.2.drop 0x30)) (o + 0x30), need (hyperperiod (prior ++ [t]) ≤ 60000000) (o + 4)]
  firstSome (need (recs.length ≤ 16) (c.section 5).1 :: recs.flatMap one ++
    [need (hasBit i.flags 0 = i.tasks.any TaskRec.safety) 0x1C])

/-- The binding records of a task, with their offsets. -/
def taskRecords (c : Container) (k n first count : Nat) : List (Nat × Bytes) := ((c.records k n).drop first).take count

/-- An input binding's own rules (R161, Table 5.7). -/
def inputOk (i : Image) (t : TaskRec) (b : InputBinding) (x : Symbol) : Bool :=
  match b.kind with
  | 1 => b.source ≤ 2047
  | 2 => b.source ≤ 127 && x.type = 3
  | 3 => b.source = 0 && x.leaves = 3 && ((List.range 3).map fun n => (i.leaf x n).map Prod.fst) = [some .u32, some .u16, some .u16]
  | 4 => b.source < 8192
  | 5 => b.source ≤ 127 && x.type = 5 && t.event
  | 6 => match i.byIdentity b.sourceId with
    | some y => y.2.owner = b.source && y.2.output && describe i.types nesting y.2.type = describe i.types nesting x.type
    | none => false
  | _ => false

/-- The task that owns a variable of an identity. -/
def ownerTask (i : Image) (id : Nat) : Option TaskRec := (i.byIdentity id).bind fun x => i.tasks.find? fun t => t.task = x.2.owner

/-- Records of a section that lie in no task's range, each with the task that owns the variable it names. -/
def strayRecords (i : Image) (records placed : List (Nat × Bytes)) (named : Bytes → Nat) : List ((Nat × Bytes) × Option TaskRec) :=
  (records.filter fun r => !placed.contains r).map fun r => (r, ownerTask i (named r.2))

/-- Check 8: bindings (R161, R163, R164). DEDUCED: a record in no task's range is held to the rules as one of the task that owns its
variable (log entry 141). -/
def check8 (c : Container) (i : Image) : Option Nat :=
  let ins (t : TaskRec) : List (Nat × Bytes) := taskRecords c 6 24 t.inputFirst t.inputCount
  let outs (t : TaskRec) : List (Nat × Bytes) := taskRecords c 7 16 t.outputFirst t.outputCount
  let allIns := c.records 6 24
  let allOuts := c.records 7 16
  let input (t : TaskRec) (r : Nat × Bytes) : List (Option Nat) :=
    let b := parseInput r.2
    let prior := (ins t).filter fun q => q.1 < r.1
    let target := i.byIdentity b.target
    [need (1 ≤ b.kind && b.kind ≤ 6) r.1, need (Bytes.field r.2 1 1 ≤ (if b.kind = 1 || b.kind = 4 then 1 else 0)) (r.1 + 1),
     need (Bytes.field r.2 2 2 = 0) (r.1 + 2),
     need (match target with
       | some x => x.2.owner = t.task && x.2.input && inputOk i t b x.2
       | none => false) (r.1 + 8),
     need (prior.all (fun q => (parseInput q.2).target < b.target) &&
       (allIns.filter fun q => (parseInput q.2).target = b.target).length = 1) (r.1 + 8),
     need (b.kind = 6 || b.sourceId = 0) (r.1 + 16)]
  let output (t : TaskRec) (r : Nat × Bytes) : List (Option Nat) :=
    let b := parseOutput r.2
    let limit := match b.kind with
      | 1 => 2048
      | 2 => 8
      | _ => 8192
    [need (1 ≤ b.kind && b.kind ≤ 3) r.1, need (Bytes.field r.2 1 1 ≤ (if b.kind = 2 then 0 else 1)) (r.1 + 1),
     need (Bytes.field r.2 2 2 = 0) (r.1 + 2),
     need (b.target < limit && (allOuts.filter fun q => (parseOutput q.2).kind = b.kind && (parseOutput q.2).target = b.target).length = 1) (r.1 + 4),
     need (match i.byIdentity b.source with
       | some x => x.2.owner = t.task && x.2.output && (b.kind != 2 || x.2.type = 0 && x.2.safe && t.safety)
       | none => false) (r.1 + 8)]
  let cue (r : Nat × Bytes) : List (Option Nat) :=
    let b := parseCue r.2
    let owner := i.tasks.find? fun t => t.task = b.task
    let targetOk : Bool := match b.action with
      | 1 => b.target / 256 ≤ 27 && b.target % 256 ≤ 3
      | 2 => i.tasks.any fun t => t.task = b.target && t.event
      | _ => b.target ≤ 7
    [need (((c.records 8 16).filter fun q => (parseCue q.2).cue = b.cue).length = 1) r.1,
     need (match owner with | some t => b.action != 3 || t.safety | none => false) (r.1 + 1),
     need (1 ≤ b.triggers && b.triggers ≤ 3) (r.1 + 2), need (1 ≤ b.action && b.action ≤ 3) (r.1 + 3), need targetOk (r.1 + 4),
     need (allZero (r.2.drop 8)) (r.1 + 8)]
  let ranges := (c.records 5 64).flatMap fun r =>
    let t := parseTask r.2
    [need (t.inputFirst + t.inputCount ≤ i.inputs.length) (r.1 + 0x20), need (t.outputFirst + t.outputCount ≤ i.outputs.length) (r.1 + 0x28)]
  let strayIn := strayRecords i allIns (i.tasks.flatMap ins) fun b => (parseInput b).target
  let strayOut := strayRecords i allOuts (i.tasks.flatMap outs) fun b => (parseOutput b).source
  let stray (rule : TaskRec → Nat × Bytes → List (Option Nat)) (r : (Nat × Bytes) × Option TaskRec) : List (Option Nat) :=
    match r.2 with
    | some t => rule t r.1
    | none => [some (r.1.1 + 8)]
  firstSome (ranges ++ (i.tasks.flatMap fun t => (ins t).flatMap (input t)) ++ strayIn.flatMap (stray input) ++
    (i.tasks.flatMap fun t => (outs t).flatMap (output t)) ++ strayOut.flatMap (stray output) ++ (c.records 8 16).flatMap cue)

/-- Offset in the container of an instruction. -/
def FunctionRec.site (f : FunctionRec) (x : KWord) : Nat := f.base + 8 * x.pos

/-- A rule for every instruction of every function. -/
def everywhere (i : Image) (rule : FunctionRec → KWord → Option Nat) : Option Nat :=
  firstSome (i.functions.flatMap fun f => f.instrs.map (rule f))

/-- Check 9: functions decode, reserved bits and fields 0. -/
def check9 (c : Container) (i : Image) : Option Nat :=
  let broken := (parseFunctions (c.section 4).2.length (c.section 4).1 (c.section 4).2).2
  firstSome ((i.functions.flatMap fun f =>
    (f.instrs.map fun x => need x.clean (f.site x)) ++ [(decodeWords f.code.length 0 f.code).2.map fun p => f.base + 8 * p]) ++ [broken])

/-- A local of a function has one of the types that a test admits. -/
def FunctionRec.has (f : FunctionRec) (n : Nat) (p : MType → Bool) : Bool :=
  match (f.locals[n]?).bind MType.ofCode with
  | some m => p m
  | none => false

/-- Types that a data opcode allows (Table 5.10). -/
def opAllows (op : Nat) (m : MType) : Bool :=
  if [0x01, 0x02, 0x03, 0x30, 0x31].contains op then true
  else if [0x10, 0x11, 0x12, 0x13, 0x17, 0x18].contains op then m.isInt || m.isFloat
  else if op = 0x14 || 0x24 ≤ op && op ≤ 0x27 then m.isInt
  else if op = 0x15 || op = 0x16 then m.isSigned || m.isFloat
  else if 0x20 ≤ op && op ≤ 0x23 then m.isInt || m = .bool
  else if 0x32 ≤ op && op ≤ 0x35 then m.isInt || m.isFloat
  else m.isFloat

/-- Types between which BITS reinterprets: float and unsigned of one width. -/
def bitsPair (a b : MType) : Bool :=
  (a = .f32 && b = .u32) || (a = .u32 && b = .f32) || (a = .f64 && b = .u64) || (a = .u64 && b = .f64)

/-- The operand types of one instruction are as Table 5.10 asks. -/
def typed (f : FunctionRec) (x : KWord) : Bool :=
  match MType.ofCode x.t, MType.ofCode x.t2 with
  | some t, some t2 =>
    let c := x.ext.getD 0 0
    if x.op = 0x00 || 0x62 ≤ x.op && x.op != 0x72 then true
    else if x.op = 0x72 then f.has x.a (· = .bool)
    else if x.op = 0x60 then f.has x.d (· = t) && (x.a = 0xFFFF || f.has x.a MType.isInt)
    else if x.op = 0x61 then f.has x.a (· = t) && (x.b = 0xFFFF || f.has x.b MType.isInt)
    else if x.op = 0x40 then f.has x.d (· = t) && f.has x.a (· = t2)
    else if x.op = 0x41 || x.op = 0x42 then t.isInt && t2.isFloat && f.has x.d (· = t) && f.has x.a (· = t2)
    else if x.op = 0x43 then bitsPair t t2 && f.has x.d (· = t) && f.has x.a (· = t2)
    else
      let use := ((kpcOp x.op).map Prod.snd).getD 0
      let compare := 0x30 ≤ x.op && x.op ≤ 0x35
      let shift := 0x24 ≤ x.op && x.op ≤ 0x27
      opAllows x.op t && f.has x.d (fun m => if compare then m = .bool else m = t) && (!hasBit use 3 || f.has x.a (· = t)) &&
        (!hasBit use 4 || f.has x.b (fun m => if shift then m.isInt else m = t)) &&
        (x.op != 0x03 || f.has c (· = .bool)) && (x.op != 0x19 || f.has c (· = t))
  | _, _ => false

/-- Check 10: operand types. -/
def check10 (i : Image) : Option Nat := everywhere i fun f x => need (typed f x) (f.site x)

/-- Nesting of the control constructs: kinds 0 BLOCK, 1 LOOP, 2 IF, 3 an IF past its ELSE. -/
def nestingFault (f : FunctionRec) : List KWord → List Nat → Option Nat
  | [], [] => none
  | [], _ => some (f.base + 8 * f.code.length)
  | x :: l, open_ =>
    match x.op with
    | 0x70 => nestingFault f l (0 :: open_)
    | 0x71 => if 1 ≤ x.ext.getD 0 0 && x.ext.getD 0 0 < 2 ^ 32 then nestingFault f l (1 :: open_) else some (f.site x + 8)
    | 0x72 => nestingFault f l (2 :: open_)
    | 0x73 => match open_ with
      | 2 :: r => nestingFault f l (3 :: r)
      | _ => some (f.site x)
    | 0x74 => match open_ with
      | _ :: r => nestingFault f l r
      | [] => some (f.site x)
    | 0x75 => if x.d < (open_.filter (· < 2)).length then nestingFault f l open_ else some (f.site x)
    | 0x76 => if x.d < (open_.filter (· = 1)).length then nestingFault f l open_ else some (f.site x)
    | _ => nestingFault f l open_

/-- Check 11: constructs nested and closed, depths in range, loops bounded. -/
def check11 (i : Image) : Option Nat := firstSome (i.functions.map fun f => nestingFault f f.instrs [])

/-- Functions that a function calls. -/
def FunctionRec.callees (f : FunctionRec) : List Nat := (f.instrs.filter fun x => x.op = 0x78).map fun x => x.ext.getD 0 0

/-- Functions that one reaches, itself among them, by at most `k` calls. -/
def reached (i : Image) : Nat → List Nat → List Nat
  | 0, l => l
  | k + 1, l =>
    let next := (l.flatMap fun n => match i.functions[n]? with
      | some f => f.callees
      | none => []).foldl (fun acc n => if acc.contains n then acc else acc ++ [n]) l
    if next.length = l.length then l else reached i k next

/-- Tasks that can run a function. -/
def runners (i : Image) (n : Nat) : List TaskRec := i.tasks.filter fun t => (reached i i.functions.length [t.entry]).contains n

/-- Leaves that an LD or ST with an index can address within a variable: those at c + k × stride for an index of a type. -/
def indexedLeaves (leaves c stride : Nat) (m : MType) : List Nat :=
  (List.range leaves).filter fun n =>
    if stride = 0 then n = c
    else
      let k := ((n : Int) - c) / stride
      k * stride = (n : Int) - c && decide (-(2 : Int) ^ (m.bits - 1) ≤ k) && decide (k < (2 : Int) ^ (m.bits - 1))

/-- A task may load a variable it owns and any constant; store to one it owns with neither INPUT nor CONSTANT (R173). -/
def mayLoad (x : Symbol) (t : TaskRec) : Bool := x.constant || x.owner = t.task
def mayStore (x : Symbol) (t : TaskRec) : Bool := x.owner = t.task && !x.input && !x.constant

/-- An LD or ST keeps the rules of R173. -/
def accessOk (i : Image) (f : FunctionRec) (n : Nat) (x : KWord) (store : Bool) : Bool :=
  let word := x.ext.getD 0 0
  let c := word % 2 ^ 32
  let index := if store then x.b else x.a
  match i.symbols[word / 2 ^ 32]? with
  | none => false
  | some y =>
    let leaves := if index = 0xFFFF then [c]
      else match (f.locals[index]?).bind MType.ofCode with
        | some m => indexedLeaves y.leaves c (x.ext.getD 1 0 / 2 ^ 32) m
        | none => []
    (runners i n).all (fun t => if store then mayStore y t else mayLoad y t) &&
      leaves.all fun l => l < y.leaves && (i.leaf y l).map Prod.fst = MType.ofCode x.t

/-- A COPY keeps them, leaf by leaf where it lies within both variables (R174). -/
def copyOk (i : Image) (n : Nat) (x : KWord) : Bool :=
  let a := x.ext.getD 0 0
  let b := x.ext.getD 1 0
  let count := x.ext.getD 2 0 / 2 ^ 32
  let la := a % 2 ^ 32
  let lb := b % 2 ^ 32
  match i.symbols[a / 2 ^ 32]?, i.symbols[b / 2 ^ 32]? with
  | some y, some z =>
    (runners i n).all (fun t => mayLoad y t && mayStore z t) &&
      (y.leaves < la + count || z.leaves < lb + count ||
        (List.range count).all fun k => (i.leaf y (la + k)).map Prod.fst = (i.leaf z (lb + k)).map Prod.fst)
  | _, _ => false

/-- Check 12: memory access. -/
def check12 (i : Image) : Option Nat :=
  firstSome (((List.range i.functions.length).zip i.functions).flatMap fun p => p.2.instrs.map fun x =>
    match x.op with
    | 0x60 => need (accessOk i p.2 p.1 x false) (p.2.site x)
    | 0x61 => need (accessOk i p.2 p.1 x true) (p.2.site x)
    | 0x62 => need (copyOk i p.1 x) (p.2.site x)
    | _ => none)

/-- For each function a figure of its own plus the largest of its callees', after `k` rounds. -/
def overCalls (i : Image) (own : FunctionRec → Nat) : Nat → List Nat
  | 0 => i.functions.map fun _ => 0
  | k + 1 =>
    let prior := overCalls i own k
    i.functions.map fun f => own f + (f.callees.map fun n => prior.getD n 0).foldl max 0

/-- Check 13: call graph and argument types. -/
def check13 (i : Image) : Option Nat :=
  let calls := everywhere i fun f x =>
    if x.op != 0x78 then none
    else match i.functions[x.ext.getD 0 0]? with
      | none => some (f.site x + 8)
      | some g => need ((f.locals.drop x.a).take g.params = g.locals.take g.params &&
          (f.locals.drop x.d).take g.results = (g.locals.drop g.params).take g.results) (f.site x)
  let depth := overCalls i (fun _ => 1) 65
  firstSome (calls :: (i.functions.zip depth).map fun p => need (p.2 ≤ 64) p.1.offset)

/-- KPC stack of a call (R177). -/
def FunctionRec.frame (f : FunctionRec) : Nat := 64 + 8 * f.locals.length

/-- Check 14: stack bounds. -/
def check14 (c : Container) (i : Image) : Option Nat :=
  let bound := overCalls i FunctionRec.frame 64
  firstSome ((c.records 5 64).map fun r => need (bound.getD (parseTask r.2).entry 0 ≤ (parseTask r.2).stack) (r.1 + 0x14))

/-- Argument and result types of a service (Table 5.12). -/
def serviceTypes : Nat → Option (List Nat × List Nat)
  | 0x0001 => some ([], [4, 7])
  | 0x0002 => some ([], [8, 7, 6])
  | 0x0003 => some ([], [5, 5, 5, 5])
  | 0x0004 => some ([], [7])
  | 0x0010 => some ([7], [5, 7, 0])
  | 0x0011 => some ([], [4, 3, 7])
  | 0x0020 => some ([5, 6, 7, 7], [7, 6])
  | 0x0021 => some ([5, 7, 7], [5, 6, 7])
  | 0x0030 => some ([5, 7], [6])
  | 0x0031 => some ([5], [6])
  | 0x0032 => some ([5], [5, 7])
  | 0x0040 => some ([6, 6, 7], [6])
  | _ => none

/-- Check 15: service codes and argument types. -/
def check15 (i : Image) : Option Nat :=
  everywhere i fun f x =>
    if x.op != 0x79 then none
    else match serviceTypes (x.ext.getD 0 0) with
      | none => some (f.site x + 8)
      | some s => need ((f.locals.drop x.a).take s.1.length = s.1 && (f.locals.drop x.d).take s.2.length = s.2) (f.site x)

/-- Check 16: limits (Table 5.13). -/
def check16 (c : Container) (i : Image) : Option Nat :=
  firstSome ([need (c.bytes.length ≤ 67108864) 0,
    need ((i.functions.map fun f => f.code.length).sum ≤ 4194304 && i.functions.length ≤ 65536) (c.section 4).1,
    need (i.symbols.length ≤ 262144 && (i.symbols.map Symbol.size).sum ≤ 268435456) (c.section 1).1,
    need (i.types.length ≤ 65536) (c.section 3).1, need (i.inputs.length ≤ 16384) (c.section 6).1,
    need (i.outputs.length ≤ 16384) (c.section 7).1, need (i.cues.length ≤ 256) (c.section 8).1] ++
    (c.records 5 64).map fun r =>
      let t := parseTask r.2
      need (t.inputCount ≤ 4096 && t.outputCount ≤ 4096 &&
        snapshotSize i ((i.inputs.drop t.inputFirst).take t.inputCount) ≤ 1048576) (r.1 + 0x20))

/-- The first failed check with its offset, the checks made in order. -/
def verifyImage (b : Bytes) (generation version : Nat) : Option (Nat × Nat) :=
  let c := parseContainer b
  let i := parseImage b
  let checks : List (Nat × (Unit → Option Nat)) :=
    [(1, fun _ => check1 b generation version), (2, fun _ => check2 b), (3, fun _ => check3 c), (4, fun _ => check4 c),
     (5, fun _ => check5 c i), (6, fun _ => check6 c i), (7, fun _ => check7 c i), (8, fun _ => check8 c i), (9, fun _ => check9 c i),
     (10, fun _ => check10 i), (11, fun _ => check11 i), (12, fun _ => check12 i), (13, fun _ => check13 i), (14, fun _ => check14 c i),
     (15, fun _ => check15 i), (16, fun _ => check16 c i)]
  checks.findSome? fun k => (k.2 ()).map fun o => (k.1, o)

end Sys2Proof.Machine
end

