-- ==== Sys2Proof/Machine/KpcFloat.lean ====
section
/-! DEFINITION. IEEE 754 binary32 and binary64 as R170 and R171 use them: exact arithmetic on integers with one rounding to nearest,
ties to even, canonical NaNs, and correctly rounded elementary functions by enclosures that are refined until they round to one value. -/

namespace Sys2Proof.Machine

/-! ### Formats -/

/-- A binary interchange format: precision and width. -/
structure Fmt where
  p : Nat
  w : Nat
  deriving DecidableEq, Repr

/-- binary32 and binary64. -/
def f32 : Fmt := ⟨24, 32⟩
def f64 : Fmt := ⟨53, 64⟩

/-- Largest exponent of a finite value, and exponent of the last bit of the subnormals. -/
def Fmt.emax (f : Fmt) : Nat := 2 ^ (f.w - f.p - 1) - 1
def Fmt.qmin (f : Fmt) : Int := 2 - (f.emax : Int) - f.p

/-- Patterns of +∞, of the canonical NaN (R170), and the sign bit. -/
def Fmt.inf (f : Fmt) : Nat := (2 ^ (f.w - f.p) - 1) * 2 ^ (f.p - 1)
def Fmt.nan (f : Fmt) : Nat := f.inf + 2 ^ (f.p - 2)
def Fmt.sign (f : Fmt) : Nat := 2 ^ (f.w - 1)

/-- A floating-point datum: a NaN (signalling or not), an infinity, or ±m × 2^e. -/
inductive Fl where
  | nan (signalling : Bool)
  | inf (neg : Bool)
  | fin (neg : Bool) (m : Nat) (e : Int)
  deriving DecidableEq, Repr

/-- The datum of a pattern. -/
def Fmt.read (f : Fmt) (b : Nat) : Fl :=
  let neg : Bool := b.testBit (f.w - 1)
  let a := b % f.sign
  let x := a / 2 ^ (f.p - 1)
  let m := a % 2 ^ (f.p - 1)
  if a = f.inf then .inf neg
  else if f.inf < a then .nan (!a.testBit (f.p - 2))
  else if x = 0 then .fin neg m f.qmin
  else .fin neg (m + 2 ^ (f.p - 1)) (f.qmin + x - 1)

/-- A pattern with a sign. -/
def Fmt.signed (f : Fmt) (neg : Bool) (b : Nat) : Nat := if neg then f.sign + b else b

/-- num / den over 2^q, as a fraction. -/
def scaled (num den : Nat) (q : Int) : Nat × Nat := if q < 0 then (num * 2 ^ (-q).toNat, den) else (num, den * 2 ^ q.toNat)

/-- Quotient rounded to nearest, ties to even. -/
def roundDiv (a b : Nat) : Nat :=
  let m := a / b
  let r := a % b
  if b < 2 * r || (2 * r = b && m % 2 = 1) then m + 1 else m

/-- Exponent of a positive fraction: the floor of its binary logarithm. -/
def logFloor (num den : Nat) : Int :=
  let e := (Nat.log2 num : Int) - Nat.log2 den
  let s := scaled num den e
  if s.1 < s.2 then e - 1 else e

/-- The pattern of a positive fraction, rounded once to nearest even; beyond the largest finite value, +∞. -/
def Fmt.roundPos (f : Fmt) (num den : Nat) : Nat :=
  let q := max (logFloor num den - (f.p - 1)) f.qmin
  let s := scaled num den q
  min ((q - f.qmin).toNat * 2 ^ (f.p - 1) + roundDiv s.1 s.2) f.inf

/-- The pattern of v × 2^e, rounded once; a zero takes the sign given. -/
def Fmt.ofInt (f : Fmt) (v e : Int) (negZero : Bool) : Nat :=
  if v = 0 then f.signed negZero 0
  else
    let s := scaled v.natAbs 1 (-e)
    f.signed (v < 0) (f.roundPos s.1 s.2)

/-- The signed integer of a finite datum's significand. -/
def sgn (neg : Bool) (m : Nat) : Int := if neg then -(m : Int) else m

/-- Two finite data brought to one exponent. -/
def align (m1 : Int) (e1 : Int) (m2 : Int) (e2 : Int) : Int × Int × Int :=
  let e := min e1 e2
  (m1 * 2 ^ (e1 - e).toNat, m2 * 2 ^ (e2 - e).toNat, e)

/-! ### Arithmetic (R170) -/

/-- Addition. -/
def Fmt.add (f : Fmt) (a b : Nat) : Nat :=
  match f.read a, f.read b with
  | .nan _, _ | _, .nan _ => f.nan
  | .inf s, .inf t => if s = t then f.signed s f.inf else f.nan
  | .inf s, .fin .. | .fin .., .inf s => f.signed s f.inf
  | .fin s m e, .fin t n g =>
    let x := align (sgn s m) e (sgn t n) g
    f.ofInt (x.1 + x.2.1) x.2.2 (s && t)

/-- Negation, absolute value. -/
def Fmt.neg (f : Fmt) (a : Nat) : Nat :=
  match f.read a with
  | .nan _ => f.nan
  | _ => if a.testBit (f.w - 1) then a - f.sign else a + f.sign
def Fmt.abs (f : Fmt) (a : Nat) : Nat :=
  match f.read a with
  | .nan _ => f.nan
  | _ => a % f.sign

/-- Subtraction. -/
def Fmt.sub (f : Fmt) (a b : Nat) : Nat :=
  match f.read b with
  | .nan _ => f.nan
  | _ => f.add a (f.neg b)

/-- Multiplication. -/
def Fmt.mul (f : Fmt) (a b : Nat) : Nat :=
  match f.read a, f.read b with
  | .nan _, _ | _, .nan _ => f.nan
  | .inf s, .inf t => f.signed (s != t) f.inf
  | .inf s, .fin t n _ | .fin t n _, .inf s => if n = 0 then f.nan else f.signed (s != t) f.inf
  | .fin s m e, .fin t n g => f.ofInt (sgn (s != t) (m * n)) (e + g) (s != t)

/-- Division. -/
def Fmt.div (f : Fmt) (a b : Nat) : Nat :=
  match f.read a, f.read b with
  | .nan _, _ | _, .nan _ | .inf _, .inf _ => f.nan
  | .inf s, .fin t _ _ => f.signed (s != t) f.inf
  | .fin s _ _, .inf t => f.signed (s != t) 0
  | .fin s m e, .fin t n g =>
    if n = 0 then if m = 0 then f.nan else f.signed (s != t) f.inf
    else if m = 0 then f.signed (s != t) 0
    else
      let x := scaled m n (g - e)
      f.signed (s != t) (f.roundPos x.1 x.2)

/-- A × B + C with one rounding. -/
def Fmt.fma (f : Fmt) (a b c : Nat) : Nat :=
  match f.read a, f.read b, f.read c with
  | .nan _, _, _ | _, .nan _, _ | _, _, .nan _ => f.nan
  | .fin s m e, .fin t n g, .fin u k h =>
    let x := align (sgn (s != t) (m * n)) (e + g) (sgn u k) h
    f.ofInt (x.1 + x.2.1) x.2.2 ((s != t) && u)
  | .fin _ _ _, .fin _ _ _, .inf u => f.signed u f.inf
  | x, y, z =>
    let zero : Bool := match x, y with
      | .fin _ m _, _ => m = 0
      | _, .fin _ n _ => n = 0
      | _, _ => false
    let s : Bool := a.testBit (f.w - 1) != b.testBit (f.w - 1)
    if zero then f.nan
    else match z with
      | .inf u => if u = s then f.signed s f.inf else f.nan
      | _ => f.signed s f.inf

/-- The integer square root, bit by bit from `k`. -/
def isqrtFrom (n : Nat) : Nat → Nat → Nat
  | 0, r => r
  | k + 1, r => isqrtFrom n k (if (r + 2 ^ k) * (r + 2 ^ k) ≤ n then r + 2 ^ k else r)

/-- The integer square root. -/
def isqrt (n : Nat) : Nat := isqrtFrom n (Nat.log2 n / 2 + 1) 0

/-- Square root: two more bits than the precision, and one that says whether anything is left. -/
def Fmt.sqrt (f : Fmt) (a : Nat) : Nat :=
  match f.read a with
  | .nan _ => f.nan
  | .inf s => if s then f.nan else f.inf
  | .fin s m e =>
    if m = 0 then f.signed s 0
    else if s then f.nan
    else
      let odd := (e % 2).toNat
      let n := m * 2 ^ odd * 2 ^ (2 * (f.p + 2))
      let r := isqrt n
      let x := scaled (2 * r + (if r * r = n then 0 else 1)) 1 (-((e - odd) / 2 - (f.p + 2) - 1))
      f.roundPos x.1 x.2

/-- A finite or infinite datum's place in the order, −0 below +0; none for a NaN. -/
def Fmt.key (f : Fmt) (a : Nat) : Option Int :=
  match f.read a with
  | .nan _ => none
  | _ => some (if a.testBit (f.w - 1) then -((a % f.sign : Nat) : Int) - 1 else (a : Int))

/-- MIN and MAX: the canonical NaN when either operand is one. -/
def Fmt.min (f : Fmt) (a b : Nat) : Nat :=
  match f.key a, f.key b with
  | some x, some y => if x ≤ y then a else b
  | _, _ => f.nan
def Fmt.max (f : Fmt) (a b : Nat) : Nat :=
  match f.key a, f.key b with
  | some x, some y => if x ≤ y then b else a
  | _, _ => f.nan

/-- Comparison: less, equal, greater, or none for a NaN; −0 equals +0. -/
def Fmt.compare (f : Fmt) (a b : Nat) : Option Ordering :=
  match f.key a, f.key b with
  | some x, some y =>
    let flat (v : Int) : Int := if v < 0 then v + 1 else v
    some (if flat x < flat y then .lt else if flat x = flat y then .eq else .gt)
  | _, _ => none

/-! ### Integral values and conversions (R171) -/

/-- Roundings to an integer: toward −∞, toward +∞, toward zero, to nearest even. -/
inductive IntRound where
  | down | up | zero | nearest
  deriving DecidableEq, Repr

/-- A finite datum rounded to an integer. -/
def roundInt (r : IntRound) (neg : Bool) (m : Nat) (e : Int) : Int :=
  if 0 ≤ e then sgn neg (m * 2 ^ e.toNat)
  else
    let d := 2 ^ (-e).toNat
    let whole := m / d
    let rest := m % d
    match r with
    | .zero => sgn neg whole
    | .nearest => sgn neg (roundDiv m d)
    | .down => if neg && rest != 0 then -(whole : Int) - 1 else sgn neg whole
    | .up => if !neg && rest != 0 then whole + 1 else sgn neg whole

/-- FLOOR, CEIL, RINT. -/
def Fmt.integral (f : Fmt) (r : IntRound) (a : Nat) : Nat :=
  match f.read a with
  | .nan _ => f.nan
  | .inf _ => a
  | .fin s m e => f.ofInt (roundInt r s m e) 0 s

/-- A float to an integer between two limits: none for a NaN or a result out of range, with what it saturates to (R171). -/
def Fmt.toInt (f : Fmt) (r : IntRound) (lo hi : Int) (a : Nat) : Int × Bool :=
  match f.read a with
  | .nan _ => (0, true)
  | .inf s => (if s then lo else hi, true)
  | .fin s m e =>
    let v := roundInt r s m e
    if v < lo then (lo, true) else if hi < v then (hi, true) else (v, false)

/-- A float of one format in another; a NaN becomes the canonical one. -/
def Fmt.convert (g f : Fmt) (a : Nat) : Nat :=
  match g.read a with
  | .nan _ => f.nan
  | .inf s => f.signed s f.inf
  | .fin s m e => f.ofInt (sgn s m) e s

/-- Whether a pattern is a NaN, or a zero. -/
def Fmt.isNan (f : Fmt) (a : Nat) : Bool := f.inf < a % f.sign
def Fmt.isZero (f : Fmt) (a : Nat) : Bool := a % f.sign = 0

/-! ### Enclosures: centre and error in units of 2⁻ⁿ -/

/-- A real number within `e` of `c`, both in units of 2⁻ⁿ. -/
structure Ball where
  c : Int
  e : Nat
  deriving DecidableEq, Repr

/-- A fraction. -/
def Ball.ofRat (n : Nat) (num : Int) (den : Nat) : Ball := ⟨num * 2 ^ n / den, 1⟩
def Ball.add (a b : Ball) : Ball := ⟨a.c + b.c, a.e + b.e⟩
def Ball.sub (a b : Ball) : Ball := ⟨a.c - b.c, a.e + b.e⟩
def Ball.neg (a : Ball) : Ball := ⟨-a.c, a.e⟩
/-- A multiple by an integer, and a quotient by a positive one. -/
def Ball.times (k : Int) (a : Ball) : Ball := ⟨k * a.c, k.natAbs * a.e⟩
def Ball.over (k : Nat) (a : Ball) : Ball := ⟨a.c / k, a.e / k + 2⟩
/-- Product and quotient. -/
def Ball.mul (n : Nat) (a b : Ball) : Ball :=
  ⟨a.c * b.c / 2 ^ n, (a.c.natAbs * b.e + b.c.natAbs * a.e + a.e * b.e) / 2 ^ n + 2⟩
def Ball.div (n : Nat) (a b : Ball) : Ball :=
  let q := a.c * 2 ^ n / b.c
  ⟨q, (a.e * 2 ^ n + (q.natAbs + 1) * b.e) / (b.c.natAbs - b.e) + 3⟩

/-- Σ ± z^(2i+1)/(2i+1): arcus tangens (alternating) and its hyperbolic counterpart for |z| < 1/2. -/
def oddSeries (n : Nat) (alternating : Bool) (zz : Ball) : Nat → Nat → Ball → Ball → Ball
  | 0, _, _, sum => ⟨sum.c, sum.e + 1⟩
  | k + 1, i, p, sum =>
    let t := p.over (2 * i + 1)
    oddSeries n alternating zz k (i + 1) (p.mul n zz) (if alternating && i % 2 = 1 then sum.sub t else sum.add t)

/-- The series of a ball. -/
def oddSum (n : Nat) (alternating : Bool) (z : Ball) : Ball := oddSeries n alternating (z.mul n z) n 0 z ⟨0, 0⟩

/-- π and ln 2. -/
def piBall (n : Nat) : Ball := ((oddSum n true (.ofRat n 1 5)).times 16).sub ((oddSum n true (.ofRat n 1 239)).times 4)
def ln2Ball (n : Nat) : Ball := (oddSum n false (.ofRat n 1 3)).times 2

/-- Σ r^i/i! over the even or the odd i with alternating signs, or over all i. -/
def factorialSeries (n : Nat) (step : Nat) (alternating : Bool) (rr : Ball) : Nat → Nat → Bool → Ball → Ball → Ball
  | 0, _, _, _, sum => ⟨sum.c, sum.e + 1⟩
  | k + 1, i, minus, t, sum =>
    let next := (t.mul n rr).over (if step = 1 then i + 1 else (i + 1) * (i + 2))
    factorialSeries n step alternating rr k (i + step) (alternating && !minus) next (if minus then sum.sub t else sum.add t)

/-- Exponential, sine and cosine of a ball below 1. -/
def expSum (n : Nat) (r : Ball) : Ball := factorialSeries n 1 false r n 0 false ⟨2 ^ n, 0⟩ ⟨0, 0⟩
def sinSum (n : Nat) (r : Ball) : Ball := factorialSeries n 2 true (r.mul n r) n 1 false r ⟨0, 0⟩
def cosSum (n : Nat) (r : Ball) : Ball := factorialSeries n 2 true (r.mul n r) n 0 false ⟨2 ^ n, 0⟩ ⟨0, 0⟩

/-- Sine and cosine of a fraction: reduced by multiples of π/2. -/
def sinCos (n : Nat) (num : Int) (den : Nat) : Ball × Ball :=
  let half := (piBall n).over 2
  let x := Ball.ofRat n num den
  let q := (2 * x.c + half.c) / (2 * half.c)
  let r := x.sub (half.times q)
  let s := sinSum n r
  let c := cosSum n r
  match (q % 4).toNat with
  | 0 => (s, c)
  | 1 => (c, s.neg)
  | 2 => (s.neg, c.neg)
  | _ => (c.neg, s)

/-- Arcus tangens of a fraction at least 0. -/
def atanPos (n : Nat) (num den : Nat) : Ball :=
  let quarter := (piBall n).over 4
  if 5 * num ≤ 2 * den then oddSum n true (.ofRat n num den)
  else if 2 * num ≤ 5 * den then quarter.add (oddSum n true (.ofRat n ((num : Int) - den) (num + den)))
  else (quarter.times 2).sub (oddSum n true (.ofRat n den num))

/-- Natural logarithm of a positive fraction. -/
def lnBall (n : Nat) (num den : Nat) : Ball :=
  let e := logFloor num den
  let s := scaled num den e
  let up := 3 * s.2 < 2 * s.1
  let a := s.1
  let b := if up then 2 * s.2 else s.2
  ((oddSum n false (.ofRat n ((a : Int) - b) (a + b))).times 2).add ((ln2Ball n).times (if up then e + 1 else e))

/-- Exponential of a ball: a ball, and the power of two that it is multiplied by. -/
def expBall (n : Nat) (t : Ball) : Ball × Int :=
  let l := ln2Ball n
  let k := t.c / l.c
  (expSum n (t.sub (l.times k)), k)

/-- The pattern on which both ends of an enclosure c ± e, times 2^q, agree. -/
def Fmt.settle (f : Fmt) (b : Ball) (q : Int) : Option Nat :=
  let lo := b.c - b.e
  let hi := b.c + b.e
  if (0 < lo || hi < 0) && f.ofInt lo q false = f.ofInt hi q false then some (f.ofInt lo q false) else none

/-- Refinement: the enclosure at n bits, at 2n, and so on until it settles. -/
def Fmt.refine (f : Fmt) (g : Nat → Ball × Int) : Nat → Nat → Nat
  | 0, n => f.ofInt (g n).1.c (g n).2 false
  | k + 1, n =>
    match f.settle (g n).1 (g n).2 with
    | some b => b
    | none => f.refine g k (2 * n)

/-- The correctly rounded value that enclosures at every precision describe. -/
def Fmt.limit (f : Fmt) (g : Nat → Ball × Int) : Nat := f.refine g 16 128

/-! ### Elementary functions (R170) -/

/-- Numerator (signed) and denominator of m × 2^e. -/
def ratOf (neg : Bool) (m : Nat) (e : Int) : Int × Nat :=
  if e < 0 then (sgn neg m, 2 ^ (-e).toNat) else (sgn neg (m * 2 ^ e.toNat), 1)

/-- Bits of the integer part, which a reduction by π/2 needs in addition. -/
def headBits (m : Nat) (e : Int) : Nat := (Nat.log2 m + e + 8).toNat

/-- SIN, COS, TAN. -/
def Fmt.sin (f : Fmt) (a : Nat) : Nat :=
  match f.read a with
  | .nan _ | .inf _ => f.nan
  | .fin s m e =>
    if m = 0 then a
    else f.limit fun n => let k := n + headBits m e; ((sinCos k (ratOf s m e).1 (ratOf s m e).2).1, -(k : Int))
def Fmt.cos (f : Fmt) (a : Nat) : Nat :=
  match f.read a with
  | .nan _ | .inf _ => f.nan
  | .fin s m e =>
    if m = 0 then f.ofInt 1 0 false
    else f.limit fun n => let k := n + headBits m e; ((sinCos k (ratOf s m e).1 (ratOf s m e).2).2, -(k : Int))
def Fmt.tan (f : Fmt) (a : Nat) : Nat :=
  match f.read a with
  | .nan _ | .inf _ => f.nan
  | .fin s m e =>
    if m = 0 then a
    else f.limit fun n =>
      let k := n + headBits m e
      let sc := sinCos k (ratOf s m e).1 (ratOf s m e).2
      (sc.1.div k sc.2, -(k : Int))

/-- ATAN. -/
def Fmt.atan (f : Fmt) (a : Nat) : Nat :=
  match f.read a with
  | .nan _ => f.nan
  | .inf s => f.signed s (f.limit fun n => ((piBall n).over 2, -(n : Int)))
  | .fin s m e =>
    if m = 0 then a
    else
      let x := ratOf false m e
      f.signed s (f.limit fun n => (atanPos n x.1.toNat x.2, -(n : Int)))

/-- √(1 − x²) for a fraction x = a/b below 1, as a ball. -/
def coSine (n a b : Nat) : Ball := ⟨isqrt ((b * b - a * a) * 2 ^ (2 * n) / (b * b)), 2⟩

/-- Arcus tangens of a quotient of balls, both positive: by the quotient's ends (the function's slope is at most 1). -/
def atanBall (n : Nat) (q : Ball) : Ball :=
  let c := q.c.toNat
  let r := atanPos n c (2 ^ n)
  ⟨r.c, r.e + q.e⟩

/-- ASIN and ACOS. -/
def Fmt.asin (f : Fmt) (a : Nat) : Nat :=
  match f.read a with
  | .nan _ | .inf _ => f.nan
  | .fin s m e =>
    let x := ratOf false m e
    let k := x.1.toNat
    if m = 0 then a
    else if x.2 < k then f.nan
    else if k = x.2 then f.signed s (f.limit fun n => ((piBall n).over 2, -(n : Int)))
    else f.signed s (f.limit fun n => (atanBall n ((Ball.ofRat n k x.2).div n (coSine n k x.2)), -(n : Int)))
def Fmt.acos (f : Fmt) (a : Nat) : Nat :=
  match f.read a with
  | .nan _ | .inf _ => f.nan
  | .fin s m e =>
    let x := ratOf false m e
    let k := x.1.toNat
    if x.2 < k then f.nan
    else if k = x.2 && !s then 0
    else f.limit fun n =>
      let pi := piBall n
      let angle := if k = x.2 then ⟨0, 0⟩ else if k = 0 then pi.over 2 else
        (pi.over 2).sub (atanBall n ((Ball.ofRat n k x.2).div n (coSine n k x.2)))
      (if s then pi.sub angle else angle, -(n : Int))

/-- ATAN2 of y and x. -/
def Fmt.atan2 (f : Fmt) (a b : Nat) : Nat :=
  let ofPi (s : Bool) (num den : Nat) : Nat := f.signed s (f.limit fun n => (((piBall n).times num).over den, -(n : Int)))
  match f.read a, f.read b with
  | .nan _, _ | _, .nan _ => f.nan
  | .inf s, .inf t => if t then ofPi s 3 4 else ofPi s 1 4
  | .inf s, .fin .. => ofPi s 1 2
  | .fin s .., .inf t => if t then ofPi s 1 1 else f.signed s 0
  | .fin s m e, .fin t k g =>
    if m = 0 then if t then ofPi s 1 1 else f.signed s 0
    else if k = 0 then ofPi s 1 2
    else
      let r := scaled m k (g - e)
      f.signed s (f.limit fun n => let x := atanPos n r.1 r.2; (if t then (piBall n).sub x else x, -(n : Int)))

/-- EXP. -/
def Fmt.exp (f : Fmt) (a : Nat) : Nat :=
  match f.read a with
  | .nan _ => f.nan
  | .inf s => if s then 0 else f.inf
  | .fin s m e =>
    let x := ratOf s m e
    if m = 0 then f.ofInt 1 0 false
    else if 2000 * (x.2 : Int) < x.1 then f.inf
    else if x.1 < -2000 * (x.2 : Int) then 0
    else f.limit fun n => let b := expBall n (.ofRat n x.1 x.2); (b.1, b.2 - n)

/-- LN and LOG10. -/
def Fmt.ln (f : Fmt) (a : Nat) : Nat :=
  match f.read a with
  | .nan _ => f.nan
  | .inf s => if s then f.nan else f.inf
  | .fin s m e =>
    let x := ratOf false m e
    if m = 0 then f.signed true f.inf
    else if s then f.nan
    else if x.1 = x.2 then 0
    else f.limit fun n => (lnBall n x.1.toNat x.2, -(n : Int))

/-- The exponent of ten that a whole number is, if it is one: at most `k`. -/
def tenPower : Nat → Nat → Option Nat
  | 0, v => if v = 1 then some 0 else none
  | k + 1, v => if v = 1 then some 0 else if v % 10 = 0 then (tenPower k (v / 10)).map (· + 1) else none

def Fmt.log10 (f : Fmt) (a : Nat) : Nat :=
  match f.read a with
  | .nan _ => f.nan
  | .inf s => if s then f.nan else f.inf
  | .fin s m e =>
    let x := ratOf false m e
    if m = 0 then f.signed true f.inf
    else if s then f.nan
    else
      match if x.1 % x.2 = 0 then tenPower 310 (x.1.toNat / x.2) else none with
      | some k => f.ofInt k 0 false
      | none => f.limit fun n => ((lnBall n x.1.toNat x.2).div n (lnBall n 10 1), -(n : Int))

/-- A datum's integer value parity: 0 no integer, 1 odd, 2 even. -/
def parity (m : Nat) (e : Int) : Nat :=
  if m = 0 then 2
  else if 0 < e then 2
  else
    let d := 2 ^ (-e).toNat
    if m % d != 0 then 0 else if m / d % 2 = 1 then 1 else 2

/-- Odd part and exponent of m × 2^e. -/
def oddPart : Nat → Nat → Int → Nat × Int
  | 0, m, e => (m, e)
  | k + 1, m, e => if m % 2 = 0 && m != 0 then oddPart k (m / 2) (e + 1) else (m, e)

/-- The exact 2^j-th root of m × 2^e, m odd, if it is rational. -/
def exactRoot : Nat → Nat → Int → Option (Nat × Int)
  | 0, m, e => some (m, e)
  | j + 1, m, e => let r := isqrt m; if r * r = m && e % 2 = 0 then exactRoot j r (e / 2) else none

/-- x^y for x = m × 2^e positive and other than 1, y = ±k × 2^g other than 0: exact where it has few enough bits, else enclosed. -/
def Fmt.powPos (f : Fmt) (m : Nat) (e : Int) (yneg : Bool) (k : Nat) (g : Int) : Nat :=
  let x := ratOf false m e
  let y := ratOf yneg k g
  let rough := ((lnBall 128 x.1.toNat x.2).times y.1).c / y.2
  let odd := oddPart 64 m e
  let yo := oddPart 64 k g
  let root := if 0 ≤ yo.2 then some (odd.1, odd.2) else if yo.2 < -64 then none else exactRoot (-yo.2).toNat odd.1 odd.2
  let power : Int := sgn yneg (if 0 ≤ yo.2 then yo.1 * 2 ^ yo.2.toNat else yo.1)
  if 2000 * 2 ^ 128 < rough then f.inf
  else if rough < -2000 * 2 ^ 128 then 0
  else
    match root with
    | some (1, b) => f.ofInt 1 (b * power) false
    | some (r, b) =>
      if 0 < power && power ≤ 64 then f.ofInt ((r ^ power.toNat : Nat) : Int) (b * power) false
      else f.limit fun n => let t := expBall n (((lnBall n x.1.toNat x.2).times y.1).over y.2); (t.1, t.2 - n)
    | none => f.limit fun n => let t := expBall n (((lnBall n x.1.toNat x.2).times y.1).over y.2); (t.1, t.2 - n)

/-- EXPT, with the special values of IEEE 754-2019 clause 9.2.1. -/
def Fmt.expt (f : Fmt) (a b : Nat) : Nat :=
  let one := f.ofInt 1 0 false
  match f.read a, f.read b with
  | .nan true, _ | _, .nan true => f.nan
  | _, .fin _ 0 _ => one
  | x, y =>
    if a = one then one
    else match x, y with
      | .nan _, _ | _, .nan _ => f.nan
      | .fin s m e, .inf t =>
        let r := ratOf false m e
        if r.1 = r.2 && s then one
        else if (r.1 < r.2) = (t = true) then f.inf else 0
      | .inf _, .inf t => if t then 0 else f.inf
      | .inf s, .fin t k g =>
        let o := s && parity k g = 1
        f.signed o (if t then 0 else f.inf)
      | .fin s m e, .fin t k g =>
        if m = 0 then f.signed (s && parity k g = 1) (if t then f.inf else 0)
        else if s && parity k g = 0 then f.nan
        else
          let r := ratOf false m e
          f.signed (s && parity k g = 1) (if r.1 = r.2 then one else f.powPos m e t k g)

end Sys2Proof.Machine
end

