-- ==== Sys2Proof/Machine/Flags.lean ====
section
/-! DEFINITION. The results and the fault word of KPC instructions (R168 to R171, R175): values of one machine type as natural
numbers of its width, with the fault bits that an operation sets. -/

namespace Sys2Proof.Machine

/-! ### The fault word (R175) -/

/-- Bits of the fault word. -/
def faultArith : Nat := 1
def faultBound : Nat := 2
def faultLoop : Nat := 4
def faultSvc : Nat := 8

/-- A fault added to a take's word; the site of the first is kept. A fault of 0 adds nothing. -/
def LaneTake.raise (fault : Nat) (site : Nat × Nat) (t : LaneTake) : LaneTake :=
  if fault = 0 then t
  else { t with faultWord := t.faultWord ||| fault
                faultAt := if t.faultWord = 0 then some site else t.faultAt }

/-! ### Values -/

/-- A value of a machine type: a BOOL is 0 or 1, an integer the bits of its width, a float the bits of its format. -/
abbrev Val := Nat

/-- What an operation gives: its value, and the bits that it sets in the fault word. -/
abbrev Result := Val × Nat

/-- A value without a fault. -/
def plain (v : Val) : Result := (v, 0)

/-- The format of a float type. -/
def fmt : MType → Fmt
  | .f32 => f32
  | _ => f64

end Sys2Proof.Machine

namespace Sys2Proof

/-- The integer that a value of an integer type or of B stands for. -/
def MType.intOf (t : MType) (v : Machine.Val) : Int := if t.isSigned then toSigned t.bits v else v

/-- An integer wrapped to the width of a type (R169). -/
def MType.wrap (t : MType) (v : Int) : Machine.Val := ofSigned t.bits v

/-- The value of a type that a local's 64 bits hold: the low bits at its width, for B whether they differ from 0. -/
def MType.take (t : MType) (w : Word64) : Machine.Val := if t = .bool then bit (w.toNat % 256 != 0) else w.toNat % 2 ^ t.bits

/-- The least and the greatest integer of a type. -/
def MType.least (t : MType) : Int := if t.isSigned then -(2 : Int) ^ (t.bits - 1) else 0
def MType.greatest (t : MType) : Int := if t.isSigned then (2 : Int) ^ (t.bits - 1) - 1 else (2 : Int) ^ t.bits - 1

/-- The width in which AND, OR, XOR and NOT work: 1 for B. -/
def MType.width (t : MType) : Nat := if t = .bool then 1 else t.bits

/-- The order of two values; none where one is a NaN. -/
def MType.order (t : MType) (a b : Machine.Val) : Option Ordering :=
  if t.isFloat then (Machine.fmt t).compare a b else some (compare (t.intOf a) (t.intOf b))

end Sys2Proof

namespace Sys2Proof.Machine

/-! ### Arithmetic (R169, R170) -/

/-- An operation on two operands by class of type: exact on integers and wrapped, or the float operation. -/
def arith (ints : Int → Int → Int) (floats : Fmt → Nat → Nat → Nat) (t : MType) (a b : Val) : Result :=
  if t.isFloat then plain (floats (fmt t) a b) else plain (t.wrap (ints (t.intOf a) (t.intOf b)))

def opAdd := arith (· + ·) Fmt.add
def opSub := arith (· - ·) Fmt.sub
def opMul := arith (· * ·) Fmt.mul
def opMin := arith min Fmt.min
def opMax := arith max Fmt.max

/-- DIV and MOD of integers: 0 for a divisor of 0, truncation toward zero, and ARITH for both and for the one overflow. -/
def divides (t : MType) (a b : Val) : Bool := t.intOf b != 0 && !(t.isSigned && t.intOf a = t.least && t.intOf b = -1)
def opDiv (t : MType) (a b : Val) : Result :=
  if t.isFloat then plain ((fmt t).div a b)
  else if t.intOf b = 0 then (0, faultArith)
  else if divides t a b then plain (t.wrap ((t.intOf a).tdiv (t.intOf b)))
  else (t.wrap t.least, faultArith)
def opMod (t : MType) (a b : Val) : Result :=
  if divides t a b then plain (t.wrap ((t.intOf a).tmod (t.intOf b))) else (0, faultArith)

/-- NEG and ABS: the most negative integer gives itself. -/
def opNeg (t : MType) (a : Val) : Result := if t.isFloat then plain ((fmt t).neg a) else plain (t.wrap (-t.intOf a))
def opAbs (t : MType) (a : Val) : Result := if t.isFloat then plain ((fmt t).abs a) else plain (t.wrap (t.intOf a).natAbs)

/-! ### Bits (Table 5.10) -/

def opAnd (_ : MType) (a b : Val) : Result := plain (a &&& b)
def opOr (_ : MType) (a b : Val) : Result := plain (a ||| b)
def opXor (_ : MType) (a b : Val) : Result := plain (a ^^^ b)
def opNot (t : MType) (a : Val) : Result := plain (2 ^ t.width - 1 - a)

/-- Shifts and rotations by an unsigned count (R169, Table 5.10). -/
def opShl (t : MType) (a n : Val) : Result := if t.bits ≤ n then plain 0 else plain (a * 2 ^ n % 2 ^ t.bits)
def opShr (t : MType) (a n : Val) : Result :=
  if t.bits ≤ n then plain (if t.isSigned && t.intOf a < 0 then 2 ^ t.bits - 1 else 0) else plain (t.wrap (t.intOf a / (2 : Int) ^ n))
def opRol (t : MType) (a n : Val) : Result :=
  let k := n % t.bits
  plain ((a * 2 ^ k + a / 2 ^ (t.bits - k)) % 2 ^ t.bits)
def opRor (t : MType) (a n : Val) : Result :=
  let k := n % t.bits
  plain ((a / 2 ^ k + a * 2 ^ (t.bits - k)) % 2 ^ t.bits)

/-! ### Comparisons (R170): an unordered pair compares false but for NE -/

def opEq (t : MType) (a b : Val) : Result := plain (bit (t.order a b == some Ordering.eq))
def opNe (t : MType) (a b : Val) : Result := plain (bit (t.order a b != some Ordering.eq))
def opLt (t : MType) (a b : Val) : Result := plain (bit (t.order a b == some Ordering.lt))
def opLe (t : MType) (a b : Val) : Result := plain (bit (t.order a b == some Ordering.lt || t.order a b == some Ordering.eq))
def opGt (t : MType) (a b : Val) : Result := plain (bit (t.order a b == some Ordering.gt))
def opGe (t : MType) (a b : Val) : Result := plain (bit (t.order a b == some Ordering.gt || t.order a b == some Ordering.eq))

/-! ### Conversions (R171) -/

/-- A float of type `t2` as an integer of type `t`, rounded as given, saturating with ARITH. -/
def opToInt (r : IntRound) (t t2 : MType) (a : Val) : Result :=
  let x := (fmt t2).toInt r t.least t.greatest a
  (t.wrap x.1, if x.2 then faultArith else 0)

/-- CVT (Table 5.11A). -/
def opCvt (t t2 : MType) (a : Val) : Result :=
  if t = .bool then plain (bit (if t2.isFloat then !(fmt t2).isZero a else a != 0))
  else if t.isFloat then
    if t2.isFloat then plain ((fmt t2).convert (fmt t) a) else plain ((fmt t).ofInt (t2.intOf a) 0 false)
  else if t2.isFloat then opToInt .nearest t t2 a
  else plain (t.wrap (t2.intOf a))

/-- BITS (R170): the same bits, a NaN of the float type made canonical. -/
def opBits (t t2 : MType) (a : Val) : Result :=
  let f := if t.isFloat then fmt t else fmt t2
  plain (if f.isNan a then f.nan else a)

end Sys2Proof.Machine
end

