-- ==== Sys2Proof/Machine/Kpc.lean ====
section
/-! DEFINITION. The KPC instructions (chapter 5): each acts on the take that a lane runs, in the frame of its innermost call. -/

namespace Sys2Proof.Machine

/-! ### The take that a lane runs (R190) -/

/-- Priority of a task of the running image; a task it does not have comes last. -/
def taskPriority (s : State) (t : Nat) : Nat :=
  match runningTask s t with
  | some r => r.priority
  | none => 17

/-- A take that has been started and whose entry function has not returned. -/
def LaneTake.runs (t : LaneTake) : Bool := t.phase = .running && !t.frames.isEmpty

/-- The one of highest priority among a lane's takes that run. -/
def runningTake (s : State) (l : Lane) : Option LaneTake :=
  ((laneOf s l).takes.filter LaneTake.runs).foldl
    (fun best t => match best with
      | none => some t
      | some b => if taskPriority s t.task < taskPriority s b.task then some t else some b) none

/-- Two records of one take. -/
def LaneTake.same (a b : LaneTake) : Bool := a.task = b.task && a.take = b.take

/-- A take of a lane replaced. -/
def LaneSt.setTake (x : LaneSt) (t : LaneTake) : LaneSt := { x with takes := x.takes.map fun u => if u.same t then t else u }

/-! ### What an instruction works on -/

/-- The state that an instruction sees: image, lane, the lane's mailbox window, the take with the frames of its outer calls, the frame
of the innermost call with the position already past the instruction, and the instruction's own function and word offset. -/
structure Kpc where
  image : Image
  lane : LaneSt
  window : LaneMbx
  take : LaneTake
  frame : Frame
  site : Nat × Nat

/-- What an instruction comes to. -/
abbrev KpcOut := Host.Outcome Kpc Fault Refusal

/-- A local read as a type, and written. -/
def Kpc.get (k : Kpc) (t : MType) (n : Nat) : Val := t.take (Tbl.get k.frame.locals n 0)
def Kpc.set (k : Kpc) (n : Nat) (v : Val) : Kpc :=
  { k with frame := { k.frame with locals := Tbl.put k.frame.locals n (BitVec.ofNat 64 v) } }

/-- Bits set in the fault word. -/
def Kpc.raise (k : Kpc) (fault : Nat) : Kpc := { k with take := k.take.raise fault k.site }

/-- A result written to a local, with its fault. -/
def Kpc.write (k : Kpc) (d : Nat) (r : Result) : Kpc := (k.set d r.1).raise r.2

/-- The position moved. -/
def Kpc.goTo (k : Kpc) (p : Nat) : Kpc := { k with frame := { k.frame with position := p } }

/-- The open constructs changed. -/
def Kpc.constructs (k : Kpc) (c : List Construct) : Kpc := { k with frame := { k.frame with constructs := c } }

/-! ### Returning (R176) -/

/-- The results of a call copied into the caller's locals. -/
def copyResults (i : Image) (f g : Frame) : Frame :=
  match i.functions[f.function]? with
  | none => g
  | some r =>
    let give (l : Tbl Word64) (n : Nat) : Tbl Word64 := Tbl.put l (f.resultsTo + n) (Tbl.get f.locals (r.params + n) 0)
    { g with locals := (List.range r.results).foldl give g.locals }

/-- The frames after the innermost call has returned. -/
def returned (i : Image) : List Frame → List Frame
  | f :: g :: rest => copyResults i f g :: rest
  | _ => []

/-- Instruction words of a frame's function. -/
def codeLength (i : Image) (f : Frame) : Nat :=
  match i.functions[f.function]? with
  | some r => r.code.length
  | none => 0

/-- Calls that have reached the end of their function's code return. -/
def settle (i : Image) : Nat → List Frame → List Frame
  | 0, l => l
  | k + 1, l => match l with
    | f :: rest => if codeLength i f ≤ f.position then settle i k (returned i (f :: rest)) else f :: rest
    | [] => []

/-- The lane after an instruction. -/
def Kpc.finish (k : Kpc) : LaneSt :=
  let frames := k.frame :: k.take.frames
  k.lane.setTake { k.take with frames := settle k.image frames.length frames }

/-- An instruction of a number of words on a lane: on its running take, if it has one. -/
def kpc (l : Lane) (words : Nat) (f : Kpc → KpcOut) (s : State) : Out :=
  match runningImage s, runningTake s l with
  | some i, some t =>
    match t.frames with
    | [] => .next s
    | fr :: rest =>
      match f ⟨i, laneOf s l, s.mbx.lanes.get l, { t with frames := rest }, { fr with position := fr.position + words },
          (fr.function, fr.position)⟩ with
      | .next k => .next (modLane l (fun _ => k.finish) s)
      | .fault e => .fault e
      | .refused e => .refused e
  | _, _ => .next s

/-- A data instruction: allowed for its types, it writes one result. -/
def kpcData (l : Lane) (words : Nat) (allowed : Bool) (d : Nat) (f : Kpc → Result) (s : State) : Out :=
  if allowed then kpc l words (fun k => .next (k.write d (f k))) s else .refused .kpcIllTyped

/-- One and two operands of the instruction's type. -/
def kpcUnary (l : Lane) (op : Nat) (t : MType) (r : Regs) (f : MType → Val → Result) (s : State) : Out :=
  kpcData l 1 (opAllows op t) r.d (fun k => f t (k.get t r.a)) s
def kpcBinary (l : Lane) (op : Nat) (t : MType) (r : Regs) (f : MType → Val → Val → Result) (s : State) : Out :=
  kpcData l 1 (opAllows op t) r.d (fun k => f t (k.get t r.a) (k.get t r.b)) s

/-- A shift by a count of any integer type, read as unsigned. -/
def kpcShift (l : Lane) (op : Nat) (t tb : MType) (r : Regs) (f : MType → Val → Val → Result) (s : State) : Out :=
  kpcData l 1 (opAllows op t && tb.isInt) r.d (fun k => f t (k.get t r.a) (k.get tb r.b)) s

/-! ### Data instructions (Table 5.10) -/

/-- NOP. -/
def execKNop (l : Lane) (s : State) : Out := kpc l 1 (fun k => .next k) s

/-- CONST: bits of the extension word above the width must be 0, and a B is 0 or 1 (check 9). -/
def execKConst (l : Lane) (t : MType) (d : Nat) (value : Word64) (s : State) : Out :=
  kpcData l 2 (value.toNat < 2 ^ t.width) d (fun _ => plain value.toNat) s

/-- MOV. -/
def execKMov (l : Lane) (t : MType) (r : Regs) (s : State) : Out := kpcUnary l 0x02 t r (fun _ a => plain a) s

/-- SEL. -/
def execKSel (l : Lane) (t : MType) (r : Regs) (c : Nat) (s : State) : Out :=
  kpcData l 2 true r.d (fun k => plain (if k.get .bool c = 1 then k.get t r.a else k.get t r.b)) s

/-- FMA. -/
def execKFma (l : Lane) (t : MType) (r : Regs) (c : Nat) (s : State) : Out :=
  kpcData l 2 (opAllows 0x19 t) r.d (fun k => plain ((fmt t).fma (k.get t r.a) (k.get t r.b) (k.get t c))) s

/-- ADD. -/
def execKAdd (l : Lane) (t : MType) (r : Regs) (s : State) : Out := kpcBinary l 0x10 t r opAdd s

/-- SUB. -/
def execKSub (l : Lane) (t : MType) (r : Regs) (s : State) : Out := kpcBinary l 0x11 t r opSub s

/-- MUL. -/
def execKMul (l : Lane) (t : MType) (r : Regs) (s : State) : Out := kpcBinary l 0x12 t r opMul s

/-- DIV. -/
def execKDiv (l : Lane) (t : MType) (r : Regs) (s : State) : Out := kpcBinary l 0x13 t r opDiv s

/-- MOD. -/
def execKMod (l : Lane) (t : MType) (r : Regs) (s : State) : Out := kpcBinary l 0x14 t r opMod s

/-- MIN. -/
def execKMin (l : Lane) (t : MType) (r : Regs) (s : State) : Out := kpcBinary l 0x17 t r opMin s

/-- MAX. -/
def execKMax (l : Lane) (t : MType) (r : Regs) (s : State) : Out := kpcBinary l 0x18 t r opMax s

/-- AND. -/
def execKAnd (l : Lane) (t : MType) (r : Regs) (s : State) : Out := kpcBinary l 0x20 t r opAnd s

/-- OR. -/
def execKOr (l : Lane) (t : MType) (r : Regs) (s : State) : Out := kpcBinary l 0x21 t r opOr s

/-- XOR. -/
def execKXor (l : Lane) (t : MType) (r : Regs) (s : State) : Out := kpcBinary l 0x22 t r opXor s

/-- EQ. -/
def execKEq (l : Lane) (t : MType) (r : Regs) (s : State) : Out := kpcBinary l 0x30 t r opEq s

/-- NE. -/
def execKNe (l : Lane) (t : MType) (r : Regs) (s : State) : Out := kpcBinary l 0x31 t r opNe s

/-- LT. -/
def execKLt (l : Lane) (t : MType) (r : Regs) (s : State) : Out := kpcBinary l 0x32 t r opLt s

/-- LE. -/
def execKLe (l : Lane) (t : MType) (r : Regs) (s : State) : Out := kpcBinary l 0x33 t r opLe s

/-- GT. -/
def execKGt (l : Lane) (t : MType) (r : Regs) (s : State) : Out := kpcBinary l 0x34 t r opGt s

/-- GE. -/
def execKGe (l : Lane) (t : MType) (r : Regs) (s : State) : Out := kpcBinary l 0x35 t r opGe s

/-- NEG. -/
def execKNeg (l : Lane) (t : MType) (r : Regs) (s : State) : Out := kpcUnary l 0x15 t r opNeg s

/-- ABS. -/
def execKAbs (l : Lane) (t : MType) (r : Regs) (s : State) : Out := kpcUnary l 0x16 t r opAbs s

/-- NOT. -/
def execKNot (l : Lane) (t : MType) (r : Regs) (s : State) : Out := kpcUnary l 0x23 t r opNot s

/-- SQRT. -/
def execKSqrt (l : Lane) (t : MType) (r : Regs) (s : State) : Out := kpcUnary l 0x1A t r (fun t a => plain ((fmt t).sqrt a)) s

/-- SIN. -/
def execKSin (l : Lane) (t : MType) (r : Regs) (s : State) : Out := kpcUnary l 0x50 t r (fun t a => plain ((fmt t).sin a)) s

/-- COS. -/
def execKCos (l : Lane) (t : MType) (r : Regs) (s : State) : Out := kpcUnary l 0x51 t r (fun t a => plain ((fmt t).cos a)) s

/-- TAN. -/
def execKTan (l : Lane) (t : MType) (r : Regs) (s : State) : Out := kpcUnary l 0x52 t r (fun t a => plain ((fmt t).tan a)) s

/-- ASIN. -/
def execKAsin (l : Lane) (t : MType) (r : Regs) (s : State) : Out := kpcUnary l 0x53 t r (fun t a => plain ((fmt t).asin a)) s

/-- ACOS. -/
def execKAcos (l : Lane) (t : MType) (r : Regs) (s : State) : Out := kpcUnary l 0x54 t r (fun t a => plain ((fmt t).acos a)) s

/-- ATAN. -/
def execKAtan (l : Lane) (t : MType) (r : Regs) (s : State) : Out := kpcUnary l 0x55 t r (fun t a => plain ((fmt t).atan a)) s

/-- EXP. -/
def execKExp (l : Lane) (t : MType) (r : Regs) (s : State) : Out := kpcUnary l 0x57 t r (fun t a => plain ((fmt t).exp a)) s

/-- LN. -/
def execKLn (l : Lane) (t : MType) (r : Regs) (s : State) : Out := kpcUnary l 0x58 t r (fun t a => plain ((fmt t).ln a)) s

/-- LOG10. -/
def execKLog10 (l : Lane) (t : MType) (r : Regs) (s : State) : Out := kpcUnary l 0x59 t r (fun t a => plain ((fmt t).log10 a)) s

/-- ATAN2. -/
def execKAtan2 (l : Lane) (t : MType) (r : Regs) (s : State) : Out := kpcBinary l 0x56 t r (fun t a b => plain ((fmt t).atan2 a b)) s

/-- EXPT. -/
def execKExpt (l : Lane) (t : MType) (r : Regs) (s : State) : Out := kpcBinary l 0x5A t r (fun t a b => plain ((fmt t).expt a b)) s

/-- FLOOR. -/
def execKFloor (l : Lane) (t : MType) (r : Regs) (s : State) : Out := kpcUnary l 0x5B t r (fun t a => plain ((fmt t).integral .down a)) s

/-- CEIL. -/
def execKCeil (l : Lane) (t : MType) (r : Regs) (s : State) : Out := kpcUnary l 0x5C t r (fun t a => plain ((fmt t).integral .up a)) s

/-- RINT. -/
def execKRint (l : Lane) (t : MType) (r : Regs) (s : State) : Out := kpcUnary l 0x5D t r (fun t a => plain ((fmt t).integral .nearest a)) s

/-- SHL. -/
def execKShl (l : Lane) (t tb : MType) (r : Regs) (s : State) : Out := kpcShift l 0x24 t tb r opShl s

/-- SHR. -/
def execKShr (l : Lane) (t tb : MType) (r : Regs) (s : State) : Out := kpcShift l 0x25 t tb r opShr s

/-- ROL. -/
def execKRol (l : Lane) (t tb : MType) (r : Regs) (s : State) : Out := kpcShift l 0x26 t tb r opRol s

/-- ROR. -/
def execKRor (l : Lane) (t tb : MType) (r : Regs) (s : State) : Out := kpcShift l 0x27 t tb r opRor s

/-- CVT. -/
def execKCvt (l : Lane) (t t2 : MType) (r : Regs) (s : State) : Out := kpcData l 1 true r.d (fun k => opCvt t t2 (k.get t2 r.a)) s

/-- TRUNC. -/
def execKTrunc (l : Lane) (t t2 : MType) (r : Regs) (s : State) : Out := 
  kpcData l 1 (t.isInt && t2.isFloat) r.d (fun k => opToInt .zero t t2 (k.get t2 r.a)) s

/-- ROUND. -/
def execKRound (l : Lane) (t t2 : MType) (r : Regs) (s : State) : Out := 
  kpcData l 1 (t.isInt && t2.isFloat) r.d (fun k => opToInt .nearest t t2 (k.get t2 r.a)) s

/-- BITS. -/
def execKBits (l : Lane) (t t2 : MType) (r : Regs) (s : State) : Out := 
  kpcData l 1 (bitsPair t t2) r.d (fun k => opBits t t2 (k.get t2 r.a)) s

/-! ### Memory (R173, R174) -/

/-- Canonical value of a variable in the lane. -/
def LaneSt.value (x : LaneSt) (i : Image) (n : Nat) (y : Symbol) : Bytes := Tbl.get x.vars n (i.initial y)

/-- A variable's value replaced. -/
def Kpc.setVar (k : Kpc) (n : Nat) (v : Bytes) : Kpc := { k with lane := { k.lane with vars := Tbl.put k.lane.vars n v } }

/-- The task of the take. -/
def Kpc.task (k : Kpc) : Option TaskRec := taskRec k.image k.take.task

/-- A symbol that the task may load from, or store to. -/
def Kpc.loadable (k : Kpc) (n : Nat) : Option Symbol :=
  match k.image.symbols[n]?, k.task with
  | some y, some t => if mayLoad y t then some y else none
  | _, _ => none
def Kpc.storable (k : Kpc) (n : Nat) : Option Symbol :=
  match k.image.symbols[n]?, k.task with
  | some y, some t => if mayStore y t then some y else none
  | _, _ => none

/-- The index of an access: 0 for none, otherwise the local read as a signed integer of its type. -/
def Kpc.index (k : Kpc) (n : Nat) : Option Int :=
  if n = 0xFFFF then some 0
  else match ((k.image.functions[k.frame.function]?).bind fun f => f.locals[n]?).bind MType.ofCode with
    | some m => if m.isInt then some (toSigned m.bits (m.take (Tbl.get k.frame.locals n 0))) else none
    | none => none

/-- Where an access goes. -/
inductive Access where
  /-- outside the variable -/
  | outside
  /-- byte offset of a leaf of the type asked for -/
  | leaf (offset : Nat)
  /-- an access that verification refuses -/
  | illTyped

/-- The access of an LD or ST. -/
def Kpc.access (k : Kpc) (y : Symbol) (t : MType) (ref : LeafRef) (index : Nat) : Access :=
  match k.index index with
  | none => .illTyped
  | some i =>
    let n : Int := ref.leaf + i * ref.stride
    if n < 0 || y.leaves ≤ n then .outside
    else match k.image.leaf y n.toNat with
      | some (m, o) => if m = t then .leaf o else .illTyped
      | none => .illTyped

/-- LD. -/
def execKLd (l : Lane) (t : MType) (r : Regs) (ref : LeafRef) (s : State) : Out :=
  kpc l 3 (fun k => match k.loadable ref.symbol with
    | none => .refused .kpcIllTyped
    | some y => match k.access y t ref r.a with
      | .illTyped => .refused .kpcIllTyped
      | .outside => .next (k.write r.d (0, faultBound))
      | .leaf o => .next (k.set r.d (Bytes.field (k.lane.value k.image ref.symbol y) o t.bytes))) s

/-- ST. -/
def execKSt (l : Lane) (t : MType) (r : Regs) (ref : LeafRef) (s : State) : Out :=
  kpc l 3 (fun k => match k.storable ref.symbol with
    | none => .refused .kpcIllTyped
    | some y => match k.access y t ref r.b with
      | .illTyped => .refused .kpcIllTyped
      | .outside => .next (k.raise faultBound)
      | .leaf o => .next (k.setVar ref.symbol
          (Bytes.overwrite (k.lane.value k.image ref.symbol y) o (le t.bytes (k.get t r.a))))) s

/-- Byte offsets and sizes of a run of leaves. -/
def leafRun (i : Image) (y : Symbol) (first count : Nat) : List (Option (MType × Nat)) :=
  (List.range count).map fun n => i.leaf y (first + n)

/-- COPY: the run as it stands is written leaf by leaf. -/
def execKCopy (l : Lane) (source sourceLeaf target targetLeaf count : Nat) (s : State) : Out :=
  kpc l 4 (fun k => match k.loadable source, k.storable target with
    | some y, some z =>
      if count = 0 then .next k
      else if y.leaves < sourceLeaf + count || z.leaves < targetLeaf + count then .next (k.raise faultBound)
      else
        let from_ := leafRun k.image y sourceLeaf count
        let to_ := leafRun k.image z targetLeaf count
        if from_.map (Option.map Prod.fst) = to_.map (Option.map Prod.fst) then
          let old := k.lane.value k.image source y
          .next (k.setVar target ((from_.zip to_).foldl (fun v p => match p with
            | (some (m, o), some (_, q)) => Bytes.overwrite v q (Bytes.slice old o m.bytes)
            | _ => v) (k.lane.value k.image target z)))
        else .refused .kpcIllTyped
    | _, _ => .refused .kpcIllTyped) s

/-! ### Control (R176) -/

/-- Instructions of the frame's function from a position on. -/
def Kpc.ahead (k : Kpc) : List KWord :=
  match k.image.functions[k.frame.function]? with
  | some f => f.instrs.filter fun x => k.frame.position ≤ x.pos
  | none => []

/-- The position after the END that closes the outermost of `n` open constructs. -/
def afterEnd : List KWord → Nat → Option Nat
  | [], _ => none
  | x :: l, n =>
    if 0x70 ≤ x.op && x.op ≤ 0x72 then afterEnd l (n + 1)
    else if x.op = 0x74 then (if n ≤ 1 then some (x.pos + 1) else afterEnd l (n - 1))
    else afterEnd l n

/-- The position after the ELSE or the END of an IF just opened, and whether it is an ELSE. -/
def afterElse : List KWord → Nat → Option (Nat × Bool)
  | [], _ => none
  | x :: l, n =>
    if 0x70 ≤ x.op && x.op ≤ 0x72 then afterElse l (n + 1)
    else if x.op = 0x73 && n = 1 then some (x.pos + 1, true)
    else if x.op = 0x74 then (if n ≤ 1 then some (x.pos + 1, false) else afterElse l (n - 1))
    else afterElse l n

/-- Kinds of construct. -/
def Construct.isLoop : Construct → Bool
  | .loop _ _ _ => true
  | _ => false
def Construct.isBlock : Construct → Bool
  | .block => true
  | _ => false

/-- How many constructs lie within the D-th enclosing one of a kind. -/
def enclosing (p : Construct → Bool) : List Construct → Nat → Option Nat
  | [], _ => none
  | c :: l, d => if p c then (if d = 0 then some 0 else (enclosing p l (d - 1)).map (· + 1)) else (enclosing p l d).map (· + 1)

/-- Execution goes on after the END of the construct that has `n` others open within it. -/
def Kpc.leave (k : Kpc) (n : Nat) : KpcOut :=
  match afterEnd k.ahead (n + 1) with
  | some p => .next ((k.goTo p).constructs (k.frame.constructs.drop (n + 1)))
  | none => .fault .kpcStructure

/-- Another entry of a loop's body is due: made while the bound allows, otherwise LOOP is set and `done` goes on after the loop. -/
def Kpc.again (k : Kpc) (bound entries body : Nat) (outer : List Construct) (done : Kpc → KpcOut) : KpcOut :=
  if entries < bound then .next ((k.goTo body).constructs (.loop bound (entries + 1) body :: outer)) else done (k.raise faultLoop)

/-- BLOCK. -/
def execKBlock (l : Lane) (s : State) : Out := kpc l 1 (fun k => .next (k.constructs (.block :: k.frame.constructs))) s

/-- LOOP: opens with the first entry of its body. -/
def execKLoop (l : Lane) (bound : Nat) (s : State) : Out :=
  kpc l 2 (fun k =>
    if 0 < bound then .next (k.constructs (.loop bound 1 k.frame.position :: k.frame.constructs))
    else .refused .kpcIllTyped) s

/-- IF. -/
def execKIf (l : Lane) (a : Nat) (s : State) : Out :=
  kpc l 1 (fun k =>
    if k.get .bool a = 1 then .next (k.constructs (.cond true :: k.frame.constructs))
    else match afterElse k.ahead 1 with
      | some (p, true) => .next ((k.goTo p).constructs (.cond false :: k.frame.constructs))
      | some (p, false) => .next (k.goTo p)
      | none => .fault .kpcStructure) s

/-- ELSE, reached at the end of the part that ran. -/
def execKElse (l : Lane) (s : State) : Out :=
  kpc l 1 (fun k => match k.frame.constructs with
    | .cond true :: _ => k.leave 0
    | _ => .fault .kpcStructure) s

/-- END. -/
def execKEnd (l : Lane) (s : State) : Out :=
  kpc l 1 (fun k => match k.frame.constructs with
    | .loop bound entries body :: outer => k.again bound entries body outer fun j => .next (j.constructs outer)
    | _ :: outer => .next (k.constructs outer)
    | [] => .fault .kpcStructure) s

/-- BREAK. -/
def execKBreak (l : Lane) (depth : Nat) (s : State) : Out :=
  kpc l 1 (fun k => match enclosing (fun c => c.isLoop || c.isBlock) k.frame.constructs depth with
    | some n => k.leave n
    | none => .fault .kpcStructure) s

/-- NEXT. -/
def execKNext (l : Lane) (depth : Nat) (s : State) : Out :=
  kpc l 1 (fun k => match enclosing Construct.isLoop k.frame.constructs depth with
    | some n => match k.frame.constructs.drop n with
      | .loop bound entries body :: outer => k.again bound entries body outer fun j => j.leave n
      | _ => .fault .kpcStructure
    | none => .fault .kpcStructure) s

/-- RETURN: the position moves to the end of the code, where the call returns. -/
def execKReturn (l : Lane) (s : State) : Out := kpc l 1 (fun k => .next (k.goTo (codeLength k.image k.frame))) s

/-- The frame of a call: arguments in the parameters, every other local all zero bits. -/
def callFrame (function params a d : Nat) (caller : Tbl Word64) : Frame where
  function := function
  position := 0
  locals := (List.range params).foldl (fun l n => Tbl.put l n (Tbl.get caller (a + n) 0)) []
  constructs := []
  resultsTo := d

/-- CALL. -/
def execKCall (l : Lane) (d a function : Nat) (s : State) : Out :=
  kpc l 2 (fun k => match k.image.functions[function]? with
    | some f => .next { k with take := { k.take with frames := k.frame :: k.take.frames }
                               frame := callFrame function f.params a d k.frame.locals }
    | none => .refused .kpcIllTyped) s

/-! ### Services (Table 5.12) -/

/-- Values of consecutive locals, and values written to consecutive locals. -/
def Kpc.args (k : Kpc) (a : Nat) (types : List Nat) : List Val :=
  ((List.range types.length).zip types).map fun p => k.get ((MType.ofCode p.2).getD .u64) (a + p.1)
def Kpc.results (k : Kpc) (d : Nat) (vs : List Val) : Kpc := ((List.range vs.length).zip vs).foldl (fun k p => k.set (d + p.1) p.2) k

/-- A service call: its results, or none for invalid arguments, which return all-zero results and set SVC (R178). -/
def service (l : Lane) (code d a : Nat) (f : Kpc → List Val → Option (Kpc × List Val)) (s : State) : Out :=
  let types := (serviceTypes code).getD ([], [])
  kpc l 2 (fun k => match f k (k.args a types.1) with
    | some (j, vs) => .next (j.results d vs)
    | none => .next ((k.results d (types.2.map fun _ => 0)).raise faultSvc)) s

/-- A field of the take's snapshot (Table 4.1). -/
def Kpc.snap (k : Kpc) (o n : Nat) : Nat := Bytes.field k.take.snapshot o n

/-- TIME_NOW: the snapshot time. -/
def execKTimeNow (l : Lane) (d a : Nat) (s : State) : Out :=
  service l 0x0001 d a (fun k _ => some (k, [k.snap 0x18 8, k.snap 0x20 4])) s

/-- TAKE_INFO. -/
def execKTakeInfo (l : Lane) (d a : Nat) (s : State) : Out :=
  service l 0x0002 d a (fun k _ => some (k, [k.snap 0x08 8, k.snap 0x10 4, k.snap 0x06 2])) s

/-- MODES: module state, lanes voting, time state, position state. -/
def execKModes (l : Lane) (d a : Nat) (s : State) : Out :=
  service l 0x0003 d a (fun k _ => some (k, [k.snap 0x3A 1, k.snap 0x3B 1, k.snap 0x38 1, k.snap 0x39 1])) s

/-- FAULTS. -/
def execKFaults (l : Lane) (d a : Nat) (s : State) : Out := service l 0x0004 d a (fun k _ => some (k, [k.take.faultWord])) s

/-- INPUT_STATUS. -/
def execKInputStatus (l : Lane) (d a : Nat) (s : State) : Out :=
  service l 0x0010 d a (fun k v => (Tbl.find k.take.inputs (v.getD 0 0)).map fun x => (k, [x.status, x.age, bit x.valid])) s

/-- POSITION. -/
def execKPosition (l : Lane) (d a : Nat) (s : State) : Out :=
  service l 0x0011 d a (fun k _ => some (k, [k.snap 0x28 8, k.snap 0x30 4, k.snap 0x34 4])) s

/-- A symbol that is an array of BYTE of the calling task, or where allowed a constant one; its element count where it matters. -/
def Kpc.byteArray (k : Kpc) (n : Nat) (count : Option Nat) (constant : Bool) : Option Symbol :=
  match k.image.symbols[n]? with
  | none => none
  | some y =>
    match k.image.types[y.type - 32]? with
    | some (.array 9 c _) =>
      if 32 ≤ y.type && (count.isNone || count = some c) && (y.owner = k.take.task && !y.constant || constant && y.constant) then some y
      else none
    | _ => none

/-- The task owns a channel. -/
def Kpc.ownsChannel (k : Kpc) (c : Nat) : Bool :=
  match k.task with
  | some t => c < 16 && hasBit t.channels c
  | none => false

/-- The envelope of a lane command (R179, Table 3.2). -/
def laneEnvelope (reissue : Bool) (channel code token epoch : Nat) (payload : Bytes) : Bytes :=
  let h := le 4 0x4D43584B ++ le 1 1 ++ le 1 (bit reissue) ++ le 2 code ++ le 4 token ++ le 4 epoch ++ le 4 payload.length ++
    le 4 (0x01000000 + channel) ++ le 4 0
  h ++ le 4 (crc32 h) ++ payload

/-- Credit of a channel by the runtime's own records: commands it tracks as outstanding, and completion slots that this take has popped
(R68, R76). -/
def Kpc.creditUsed (k : Kpc) (c : Nat) : Nat :=
  let ch := k.window.channel c
  (k.lane.tracked.filter fun t => t.channel = c && t.done.isNone).length +
    ([0, 1, 2, 3].filter fun n => (ch.slot n).phase = .popped k.take.task k.take.take).length

/-- MBX_ISSUE. -/
def execKMbxIssue (l : Lane) (d a : Nat) (s : State) : Out :=
  service l 0x0020 d a (fun k v =>
    let c := v.getD 0 0
    let n := v.getD 3 0
    match k.byteArray (v.getD 2 0) none false with
    | none => none
    | some y =>
      if !k.ownsChannel c || 992 < n || y.size < n then none
      else if 4 ≤ k.creditUsed c then some (k, [0, stBusyRetry])
      else
        let token := Tbl.get k.lane.nextToken c 1
        let env := laneEnvelope false c (v.getD 1 0) token (k.snap 0x10 4) ((k.lane.value k.image (v.getD 2 0) y).take n)
        let lane := { k.lane with nextToken := Tbl.put k.lane.nextToken c ((token + 1) % 2 ^ 32)
                                  tracked := k.lane.tracked ++ [{ channel := c, token := token, envelope := env }] }
        some ({ k with lane := lane, take := { k.take with commands := k.take.commands ++ [(c, env)] } }, [token, 0])) s

/-- MBX_RESULT. -/
def execKMbxResult (l : Lane) (d a : Nat) (s : State) : Out :=
  service l 0x0021 d a (fun k v =>
    let c := v.getD 0 0
    let n := v.getD 2 0
    match k.byteArray n none false with
    | none => none
    | some y =>
      if !k.ownsChannel c || y.input then none
      else match k.lane.tracked.find? fun t => t.channel = c && t.token = v.getD 1 0 with
        | none => some (k, [2, 0, 0])
        | some t => match t.done with
          | none => some (k, [0, 0, 0])
          | some (status, result) =>
            some (k.setVar n (Bytes.overwrite (k.lane.value k.image n y) 0 (result.take y.size)), [1, status, result.length])) s

/-- The binding record of a cue of the calling task. -/
def Kpc.cue (k : Kpc) (n : Nat) : Option CueBinding := k.image.cues.find? fun b => b.cue = n && b.task = k.take.task

/-- State code and firings of a cue in the take's cue area (R338). -/
def Kpc.cueArea (k : Kpc) (n : Nat) : Nat × Nat :=
  match k.take.cueArea.find? fun x => x.1 = n with
  | some x => x.2
  | none => (0, 0)

/-- A cue request keeps the rules of R332. -/
def cueRequestOk (b : CueBinding) (r : Bytes) : Bool :=
  let trigger := Bytes.field r 1 1
  Bytes.field r 0 1 = 2 ||
    Bytes.field r 0 1 = 1 && (trigger = 1 || trigger = 2) && hasBit b.triggers (trigger - 1) &&
      (trigger = 1 || 1 ≤ Bytes.field r 2 1 && Bytes.field r 2 1 ≤ 3) &&
      (b.action != 3 || 1 ≤ Bytes.field r 3 1 && Bytes.field r 3 1 ≤ 2)

/-- A cue request made: none for an invalid one. -/
def Kpc.request (k : Kpc) (n : Nat) (r : Bytes) : Option (Kpc × List Val) :=
  match k.cue n with
  | none => none
  | some b =>
    if !cueRequestOk b r then none
    else if (k.cueArea n).1 = 4 then some (k, [0x0710])
    else if 64 ≤ k.take.cues.length then some (k, [stBusyRetry])
    else some ({ k with take := { k.take with cues := k.take.cues ++ [(n, r)] } }, [stAccepted])

/-- CUE_REQUEST. -/
def execKCueRequest (l : Lane) (d a : Nat) (s : State) : Out :=
  service l 0x0030 d a (fun k v => match k.byteArray (v.getD 1 0) (some 32) false with
    | some y => k.request (v.getD 0 0) ((k.lane.value k.image (v.getD 1 0) y).take 32)
    | none => none) s

/-- CUE_CANCEL: a request with op 2 and all other fields 0. -/
def execKCueCancel (l : Lane) (d a : Nat) (s : State) : Out :=
  service l 0x0031 d a (fun k v => k.request (v.getD 0 0) (padTo 32 [2])) s

/-- CUE_STATE. -/
def execKCueState (l : Lane) (d a : Nat) (s : State) : Out :=
  service l 0x0032 d a (fun k v => (k.cue (v.getD 0 0)).map fun _ => (k, [(k.cueArea (v.getD 0 0)).1, (k.cueArea (v.getD 0 0)).2])) s

/-- RECORD: application classes only (R473), at most 16 requests in a take. -/
def execKRecord (l : Lane) (d a : Nat) (s : State) : Out :=
  service l 0x0040 d a (fun k v =>
    match k.byteArray (v.getD 2 0) (some 80) true with
    | none => none
    | some y =>
      if v.getD 0 0 < 0x8000 then none
      else if 16 ≤ k.take.records.length then some (k, [stBusyRetry])
      else
        let made := (v.getD 0 0, v.getD 1 0, (k.lane.value k.image (v.getD 2 0) y).take 80)
        some ({ k with take := { k.take with records := k.take.records ++ [made] } }, [stAccepted])) s

end Sys2Proof.Machine
end

