-- ==== Sys2Proof/Machine/Retentive.lean ====
section
/-! DEFINITION. Values across images and restarts (chapter 6): carry-over by identity, the retentive image, its banks, directories and
commits. -/

namespace Sys2Proof.Machine

/-! ### Carry-over (R227, Table 6.8) -/

/-- Machine types between which Table 6.8 converts exactly. -/
def widens (a b : MType) : Bool :=
  a.isInt && b.isInt && a.bits < b.bits && (a.isSigned == b.isSigned || !a.isSigned) ||
    a.isInt && a.bits ≤ 16 && b.isFloat || a.isInt && a.bits = 32 && b = .f64 || a = .f32 && b = .f64

/-- The type of a symbol compared by its canonical description. -/
def typeKey (types : List TypeRecord) (y : Symbol) : List Nat := describe types nesting y.type

/-- A value of an old variable in the type of the new one, and whether the type is the same; none where the new variable takes its
initial value. -/
def carryValue (ot nt : List TypeRecord) (o n : Symbol) (v initial : Bytes) : Option (Bytes × Bool) :=
  if typeKey ot o = typeKey nt n then some (v, true)
  else if o.type < 32 then
    match elementary o.type, if n.type < 32 then elementary n.type else none with
    | some a, some b => if widens a b then some (le b.bytes (opCvt b a (leNat v)).1, false) else none
    | _, _ => none
  else if n.type < 32 then none
  else
    match ot[o.type - 32]?, nt[n.type - 32]? with
    | some (.string a _), some (.string b _) => if a < b then some (padTo b v, false) else none
    | some (.wstring a _), some (.wstring b _) => if a < b then some (padTo b v, false) else none
    | some (.array e a _), some (.array f b _) =>
      if a < b && describe ot nesting e = describe nt nesting f then some (v ++ initial.drop v.length, false) else none
    | _, _ => none

/-! ### The retentive image (R218) -/

/-- The retentive variables of an image, in its order of ascending identity. -/
def Image.retentives (i : Image) : List Symbol := i.symbols.filter Symbol.retentive

/-- A value in a list by identity, and the list with one value replaced. -/
def valueById (l : List (Nat × Bytes)) (id : Nat) : Option Bytes := (l.find? fun p => p.1 = id).map Prod.snd
def setById (l : List (Nat × Bytes)) (id : Nat) (v : Bytes) : List (Nat × Bytes) := (l.filter fun p => p.1 != id) ++ [(id, v)]

/-- The retentive values in bank order. -/
def retentiveBytes (s : State) (i : Image) : Bytes :=
  i.retentives.flatMap fun y => (valueById s.prog.retentive y.identity).getD (i.initial y)

/-! ### Banks (R219, R220) -/

/-- Bytes 0x00 to 0x2F of a bank's descriptor (Table 6.7). -/
def Bank.descriptor (b : Bank) (n : Nat) : Bytes :=
  le 4 0x5452584B ++ le 1 1 ++ le 1 n ++ le 1 b.cause ++ [0] ++ le 8 b.sequence ++ padTo 16 b.directory ++ le 4 b.values.length ++ le 4 0 ++
    le 8 b.seconds

/-- Its CRC. -/
def Bank.check (b : Bank) (n : Nat) : Nat := crc64 (b.values ++ b.descriptor n)

/-- A bank that passes its checks. -/
def bankValid (n : Nat) (b : Option Bank) : Option Bank := b.filter fun x => x.valid && x.crc = x.check n

/-- The valid bank of the higher sequence (R222). -/
def bestBank (p : ProgSt) : Option Bank :=
  match bankValid 0 p.bank0, bankValid 1 p.bank1 with
  | some a, some b => some (if a.sequence < b.sequence then b else a)
  | some a, none => some a
  | none, b => b

/-- The highest sequence of either bank. -/
def topSequence (p : ProgSt) : Nat := max ((p.bank0.map Bank.sequence).getD 0) ((p.bank1.map Bank.sequence).getD 0)

/-- The content of a commit that starts now. -/
def newBank (s : State) (n cause : Nat) : Option Bank :=
  (runningImage s).map fun i =>
    let b : Bank := { cause := cause, sequence := topSequence s.prog + 1, directory := (slotOf s s.prog.slot).digest.take 16,
                      values := retentiveBytes s i, seconds := localSeconds s, crc := 0, valid := false }
    { b with crc := b.check n }

/-- A bank replaced. -/
def setBank (n : Nat) (b : Option Bank) (p : ProgSt) : ProgSt := if n = 0 then { p with bank0 := b } else { p with bank1 := b }

/-- A commit starts, into the bank not written last, whose old content loses its mark. -/
def openCommit (cause : Nat) (s : State) : State :=
  let n := 1 - s.prog.lastBank
  match newBank s n cause with
  | none => s
  | some b => modProg (fun p => { (setBank n (some b) p) with commit := some ⟨n, cause, s.time, b⟩ }) s

/-- What waits after a supply failure has abandoned a commit: the abandoned one of a program stop or a recut is made again first; the next
periodic one follows 60 s after the supply failure's (log entry 102). -/
def afterAbandon (cause : Nat) (waiting : List Nat) : List Nat := if cause = 0 then waiting else cause :: waiting

/-- A commit is called for (R219): a supply failure abandons one of another cause in progress; any other waits for those called for before it. -/
def beginCommit (cause : Nat) (s : State) : State :=
  match s.prog.commit with
  | none => openCommit cause s
  | some c =>
    if cause = 1 then (if c.cause = 1 then s else openCommit cause (modProg (fun p => { p with commitNext := afterAbandon c.cause p.commitNext }) s))
    else modProg (fun p => { p with commitNext := p.commitNext ++ [cause] }) s

/-- The commit in progress ends: written with its valid mark, or failed. The next one that waits starts. -/
def endCommit (written : Bool) (s : State) : State :=
  match s.prog.commit with
  | none => s
  | some c =>
    let s := if written then
        modProg (fun p => { (setBank c.bank (some { c.content with valid := true }) p) with
          lastBank := c.bank, lastCommitAt := c.started, lastSequence := c.content.sequence, lastCommitTai := c.content.seconds
          lastCause := c.cause }) s
      else modProg (fun p => { p with lastCommitAt := c.started }) s
    let next := s.prog.commitNext
    let s := modProg (fun p => { p with commit := none, commitNext := next.tail }) s
    match next.head? with
    | some k => openCommit k s
    | none => s

/-- RETENTIVE_COMMIT_PERIODIC (R219): 60 s after the previous commit. Before a program start has loaded the retentive image there is
nothing to commit. -/
def execRetentiveCommitPeriodic (s : State) : Out :=
  if s.prog.retentiveLoaded && s.prog.commit.isNone then .next (beginCommit 0 (reach (s.prog.lastCommitAt + second 60) s)) else .next s

/-! ### Directories and loading (R221, R222) -/

/-- The directory of an image. -/
def directoryOf (x : ImageSlot) (i : Image) : RetentiveDirectory := ⟨x.digest, i.retentives, i.types⟩

/-- A directory that is kept: of an image in a slot, or of the one that a valid bank names. -/
def keepsDirectory (p : ProgSt) (d : RetentiveDirectory) : Bool :=
  d.digest = p.slot0.digest || d.digest = p.slot1.digest ||
    [bankValid 0 p.bank0, bankValid 1 p.bank1].any fun b => match b with
      | some x => x.directory = d.digest.take 16
      | none => false

/-- The directory of the image in a slot is written. -/
def writeDirectory (n : Nat) (s : State) : State :=
  match (slotOf s n).image with
  | none => s
  | some i =>
    let d := directoryOf (slotOf s n) i
    modProg (fun p => { p with directories := (p.directories.filter fun x => x.digest != d.digest && keepsDirectory p x) ++ [d] }) s

/-- The values of a bank by the directory that it names: symbol and value. -/
def bankValues (p : ProgSt) (b : Bank) : List (Symbol × Bytes) × List TypeRecord :=
  match p.directories.find? fun d => d.digest.take 16 = b.directory with
  | none => ([], [])
  | some d => ((d.symbols.foldl (fun (acc : List (Symbol × Bytes) × Nat) y => (acc.1 ++ [(y, Bytes.slice b.values acc.2 y.size)], acc.2 + y.size))
      ([], 0)).1, d.types)

/-- The retentive values that a start of an image loads (R222): carried by identity from the best bank, else initial. -/
def loadedRetentives (s : State) (i : Image) : List (Nat × Bytes) :=
  let kept := match bestBank s.prog with
    | some b => bankValues s.prog b
    | none => ([], [])
  i.retentives.map fun y =>
    let carried := (kept.1.find? fun p => p.1.identity = y.identity).bind fun p => carryValue kept.2 i.types p.1 y p.2 (i.initial y)
    (y.identity, (carried.map Prod.fst).getD (i.initial y))

/-- Neither bank is valid: the flag of PROGRAM_STATUS and a Juridical record. -/
def reportBanks (s : State) : State :=
  let none_ := (bestBank s.prog).isNone
  let s := modProg (fun p => { p with noValidBank := none_ }) s
  if none_ then record .juridical 0x15 0 [] s else s

end Sys2Proof.Machine
end

