-- ==== Sys2Proof/Machine/Take.lean ====
section
/-! DEFINITION. What a take reads and what it produces (chapters 4 and 6): snapshots, copy-in, copy-out, the serialisation, and the
canonical export of a task's state. -/

namespace Sys2Proof.Machine

/-! ### Leaves -/

/-- The canonical form of a leaf's bytes (Table 4.6): a BOOL is 0 or 1, a NaN the canonical one. -/
def canonLeaf (m : MType) (b : Bytes) : Bytes :=
  match m with
  | .bool => [if allZero b then 0 else 1]
  | .f32 => if f32.isNan (leNat b) then le 4 f32.nan else b
  | .f64 => if f64.isNan (leNat b) then le 8 f64.nan else b
  | _ => b

/-- The leaves of a symbol with their byte offsets. -/
def Image.leavesOf (i : Image) (y : Symbol) : List (MType × Nat) := (List.range y.leaves).filterMap fun n => i.leaf y n

/-- Data of a telegram or port that fill the leaves of a variable, and the data that a variable gives (R162, R163). -/
def fromWire (i : Image) (y : Symbol) (network : Bool) (data : Bytes) : Bytes :=
  (i.leavesOf y).flatMap fun l =>
    let b := padTo l.1.bytes (Bytes.slice data l.2 l.1.bytes)
    canonLeaf l.1 (if network then b.reverse else b)
def toWire (i : Image) (y : Symbol) (network : Bool) (v : Bytes) : Bytes :=
  (i.leavesOf y).flatMap fun l => if network then (Bytes.slice v l.2 l.1.bytes).reverse else Bytes.slice v l.2 l.1.bytes

/-! ### Forces (R205, R207, R208) -/

/-- The 96 bytes of a force entry (Table 6.5). -/
def Force.bytes (f : Force) : Bytes :=
  le 8 f.identity ++ le 4 f.first ++ le 4 f.count ++ le 2 f.value.length ++ le 1 (bit f.safety) ++ [0] ++ le 4 f.setter ++
    le 8 f.setTime ++ padTo 64 f.value

/-- The force entry that 96 bytes state. -/
def parseForce (b : Bytes) : Force where
  identity := Bytes.field b 0 8
  first := Bytes.field b 8 4
  count := Bytes.field b 0xC 4
  safety := hasBit (Bytes.field b 0x12 1) 0
  setter := Bytes.field b 0x14 4
  setTime := Bytes.field b 0x18 8
  value := (Bytes.slice b 0x20 64).take (Bytes.field b 0x10 2)

/-- A lane's force area (R207): the entries, and their CRC-64. -/
def forceAreaOf (entries : Bytes) : Bytes := entries ++ le 8 (crc64 entries)

/-- The check that a lane makes of its force area. -/
def forceAreaOk (area : Bytes) : Bool := 8 ≤ area.length && Bytes.field area (area.length - 8) 8 = crc64 (area.take (area.length - 8))

/-- The entries of a force area. -/
def areaForces (area : Bytes) : List Force := (List.range (area.length / 96)).map fun n => parseForce (Bytes.slice area (96 * n) 96)

/-- The force entries on variables of a task. -/
def taskForces (s : State) (i : Image) (t : Nat) : List Force :=
  (s.prog.forces.map Prod.snd).filter fun f => match i.byIdentity f.identity with
    | some p => p.2.owner = t
    | none => false

/-- The forced leaf of a variable, if a force covers it. -/
def forcedLeaf (i : Image) (fs : List Force) (y : Symbol) (n : Nat) : Option Bytes :=
  (fs.find? fun f => f.identity = y.identity && f.first ≤ n && n < f.first + f.count).bind fun f =>
    match i.leaf y f.first, i.leaf y n with
    | some a, some b => some (canonLeaf b.1 (padTo b.1.bytes (Bytes.slice f.value (b.2 - a.2) b.1.bytes)))
    | _, _ => none

/-- A variable's value with its forced leaves in place. -/
def applyForces (i : Image) (fs : List Force) (y : Symbol) (v : Bytes) : Bytes :=
  if fs.any fun f => f.identity = y.identity then
    (List.range y.leaves).foldl (fun v n => match forcedLeaf i fs y n, i.leaf y n with
      | some b, some l => Bytes.overwrite v l.2 b
      | _, _ => v) v
  else v

/-- Forces cover every leaf of a variable. -/
def forcedWhole (i : Image) (fs : List Force) (y : Symbol) : Bool := (List.range y.leaves).all fun n => (forcedLeaf i fs y n).isSome

/-! ### Snapshots (R106, R107, R561) -/

/-- Numbers in ascending order, each once. -/
def insertNat (a : Nat) : List Nat → List Nat
  | [] => [a]
  | b :: l => if a < b then a :: b :: l else if a = b then b :: l else b :: insertNat a l
def sortNats (l : List Nat) : List Nat := l.foldl (fun l a => insertNat a l) []

/-- Section code of a binding kind (Tables 4.2 and 5.7). -/
def sectionKind : Nat → Nat
  | 1 => 2 | 2 => 3 | 3 => 4 | 4 => 5 | _ => 1

/-- The distinct sources of one kind that a task binds. -/
def sourcesOf (i : Image) (r : TaskRec) (kind : Nat) : List Nat :=
  if kind = 3 then (if (taskInputs i r).any fun b => b.kind = 3 then [0] else [])
  else sortNats (((taskInputs i r).filter fun b => b.kind = kind).map InputBinding.source)

/-- Canonical size of the target of a source's binding. -/
def sourceSize (i : Image) (r : TaskRec) (kind source : Nat) : Nat :=
  match (taskInputs i r).find? fun b => b.kind = kind && b.source = source with
  | some b => ((i.byIdentity b.target).map fun p => p.2.size).getD 0
  | none => 0

/-- Sampled data with the forced leaves of every target of the source in place (R208). -/
def forcedData (i : Image) (r : TaskRec) (fs : List Force) (kind source : Nat) (data : Bytes) : Bytes :=
  ((taskInputs i r).filter fun b => b.kind = kind && b.source = source).foldl (fun d b =>
    match i.byIdentity b.target with
    | none => d
    | some (_, y) => (List.range y.leaves).foldl (fun d n => match forcedLeaf i fs y n, i.leaf y n with
      | some v, some l => Bytes.overwrite d l.2 (if b.network then v.reverse else v)
      | _, _ => d) d) data

/-- The entry of a flow slot, a filter channel, the safe inputs and an MVB port at the freeze (Table 4.2). -/
def flowEntry (s : State) (i : Image) (r : TaskRec) (fs : List Force) (n : Nat) : Bytes :=
  let size := sourceSize i r 1 n
  let x := flowOf s n
  let status := match x with
    | some f => bit f.fresh + 2 * bit f.sequenceError + 4 * bit f.sdtUnsafe
    | none => 0
  let age := match x with
    | some f => flowAge f s.time
    | none => 0xFFFFFFFF
  le 2 n ++ le 1 status ++ [0] ++ le 4 age ++ padTo size (forcedData i r fs 1 n (padTo size ((x.map Flow.data).getD [])))
def filterEntry (s : State) (i : Image) (r : TaskRec) (fs : List Force) (n : Nat) : Bytes :=
  let x := chanOf s n
  le 1 n ++ le 1 x.flags ++ le 2 0 ++ forcedData i r fs 2 n (leInt 4 x.value)
def inputsEntry (s : State) (i : Image) (r : TaskRec) (fs : List Force) : Bytes :=
  forcedData i r fs 3 0 (le 4 (inputStates s) ++ le 2 (provenMask s) ++ le 2 0)
def mvbEntry (s : State) (i : Image) (r : TaskRec) (fs : List Force) (h : Nat) : Bytes :=
  let size := sourceSize i r 4 h
  match mvbPort s h with
  | none => le 2 h ++ [0, 0] ++ le 4 0xFFFFFFFF ++ padTo size (forcedData i r fs 4 h (padTo size []))
  | some p =>
    let trouble : Bool := match Tbl.find (busOf s (handleBus h)).devices p.record.device with
      | some d => !d.present || Config.mvbTrouble d.status
      | none => false
    let age := match p.receivedAt with
      | some t => min 0xFFFFFFFF ((s.time - t) / micro 1)
      | none => 0xFFFFFFFF
    le 2 h ++ le 1 (bit p.fresh + 2 * bit trouble + 4 * bit p.oneLine) ++ [0] ++ le 4 age ++
      padTo size (forcedData i r fs 4 h (padTo size p.data))

/-- The entries of the activations section with the forced counts in place (R106, R208). -/
def forcedActivations (i : Image) (r : TaskRec) (fs : List Force) (entries : Bytes) : Bytes :=
  (List.range (entries.length / 8)).flatMap fun n =>
    let e := Bytes.slice entries (8 * n) 8
    e.take 1 ++ forcedData i r fs 5 (Bytes.field e 0 1) (Bytes.slice e 1 1) ++ e.drop 2

/-- A section with its header; none without entries. -/
def snapshotSection (kind count : Nat) (entries : Bytes) : Bytes :=
  if count = 0 then [] else le 2 kind ++ le 2 count ++ le 4 (8 + entries.length) ++ entries

/-- The tick that a snapshot carries (R327): the latest whose boundary lies at least 20 µs back. -/
def snapshotTick (s : State) : Option TickRecord := s.pos.history.find? fun h => h.boundary + 20000 * nsUnit ≤ localNow s

/-- The position that snapshots carry over the own counter: that of a module which took over (R254). -/
def positionShift (s : State) : Int := if s.pair.role = .active then s.pair.delta else 0

/-- The header fields from 0x18 to 0x3B (Table 4.1). -/
def snapshotFields (s : State) : Bytes :=
  let t := snapshotTick s
  let counter := (t.map TickRecord.counter).getD 0
  le 8 (localSeconds s) ++ le 4 (localNanos s) ++ le 4 (localFraction s) ++ leInt 8 (counter + positionShift s) ++
    leInt 4 ((t.map TickRecord.speed).getD 0) ++ le 4 ((t.map TickRecord.confidence).getD 0xFFFFFFFF) ++ le 1 s.clock.state.code ++
    le 1 (((t.map TickRecord.state).getD .invalid).code) ++ le 1 s.module.state.code ++ le 1 (votingMask s)

/-- The snapshot of a task at its freeze, with the entries of its activations section. -/
def buildSnapshot (s : State) (i : Image) (r : TaskRec) (flags take : Nat) (activations : Bytes) : Bytes :=
  let fs := taskForces s i r.task
  let section_ (kind : Nat) (entry : Nat → Bytes) : Bytes :=
    let l := sourcesOf i r kind
    snapshotSection (sectionKind kind) l.length (l.flatMap entry)
  let act := snapshotSection 1 (activations.length / 8) (forcedActivations i r fs activations)
  let body := act ++ section_ 1 (flowEntry s i r fs) ++ section_ 2 (filterEntry s i r fs) ++ section_ 3 (fun _ => inputsEntry s i r fs) ++
    section_ 4 (mvbEntry s i r fs)
  let count := ([1, 2, 3, 4, 5].filter fun k => !(sourcesOf i r k).isEmpty).length
  let head := le 4 0x4E53584B ++ le 1 1 ++ le 1 r.task ++ le 2 flags ++ le 8 take ++ le 4 s.mbx.epoch ++
    le 4 (64 + body.length + 8) ++ snapshotFields s ++ le 4 count
  let all := head ++ body
  all ++ le 8 (crc64 all)

/-- The snapshot CRC that a lane checks (R108). -/
def snapshotOk (b : Bytes) : Bool := 72 ≤ b.length && Bytes.field b (b.length - 8) 8 = crc64 (b.take (b.length - 8))

/-- The delivery bound d_k of a snapshot (R111), in half-nanoseconds: 10 µs + 0.08 µs per KiB. -/
def deliveryTime (size : Nat) : Nat := micro 10 + 160 * size / 1024

/-! ### Reading a snapshot -/

/-- The entries of a section of a snapshot's body. -/
def sectionEntries (kind : Nat) : Nat → Bytes → Bytes
  | 0, _ => []
  | k + 1, b =>
    let n := Bytes.field b 4 4
    if b.length < 8 || n < 8 then []
    else if Bytes.field b 0 2 = kind then Bytes.slice b 8 (n - 8) else sectionEntries kind k (b.drop n)

/-- The entry of a source in a task's snapshot. -/
def entryFor (i : Image) (r : TaskRec) (snap : Bytes) (kind source : Nat) : Bytes :=
  let entries := sectionEntries (sectionKind kind) 6 ((snap.take (snap.length - 8)).drop 64)
  let size (n : Nat) : Nat := 8 + (if kind = 1 || kind = 4 then sourceSize i r kind n else 0)
  let before := ((sourcesOf i r kind).takeWhile fun n => n != source).map size
  Bytes.slice entries before.sum (size source)

/-! ### Copy-in (R195, R196, R199, R200) -/

/-- The version of a task's output image that a take sees: the one published last at or before its activation instant. -/
def versionAt (x : LaneSt) (task t0 : Nat) : Option Version :=
  (x.versions.filter fun v => v.task = task && v.publishedAt ≤ t0).foldl
    (fun best v => match best with
      | none => some v
      | some b => if b.publishedAt ≤ v.publishedAt then some v else some b) none

/-- What one binding gives its target: value, status, age and validity. -/
structure Copied where
  value : Bytes
  status : Nat := 0
  age : Nat := 0
  valid : Bool := true

/-- The substitute of an invalid flow or port (R200); a value held from before the start is entered there (R215). -/
def substituteOf (i : Image) (x : LaneSt) (n : Nat) (y : Symbol) : Bytes :=
  match y.substitute with
  | 0 => (Tbl.find x.heldInputs n).getD (i.initial y)
  | 1 => i.default y
  | _ => List.replicate y.size 0

/-- The copy of one binding. -/
def copyBinding (i : Image) (r : TaskRec) (x : LaneSt) (t : LaneTake) (b : InputBinding) (n : Nat) (y : Symbol) : Copied :=
  let e := entryFor i r t.snapshot b.kind (if b.kind = 3 then 0 else b.source)
  match b.kind with
  | 1 | 4 =>
    let status := Bytes.field e 2 1
    let ok := hasBit status 0 && !(b.kind = 1 && hasBit status 2)
    let v := fromWire i y b.network (e.drop 8)
    if ok then { value := v, status := status, age := Bytes.field e 4 4 }
    else { value := substituteOf i x n y, status := status, age := Bytes.field e 4 4, valid := false }
  | 2 => { value := Bytes.slice e 4 4, status := Bytes.field e 1 1, valid := !hasBit (Bytes.field e 1 1) 0 }
  | 3 => { value := padTo 8 e }
  | 5 => { value := padTo 1 (Bytes.slice e 1 1) }
  | _ => match (versionAt x b.source t.t0).bind fun v => Tbl.find v.values b.sourceId with
    | some v => { value := v }
    | none => { value := x.value i n y, valid := false }

/-- A binding kind whose target holds the value that it received last while valid (R200). -/
def holdsKind (kind : Nat) : Bool := kind = 1 || kind = 4

/-- One target written at copy-in, with the input forces of the take; its status is kept under the binding's index within the task (R199). -/
def copyOne (i : Image) (r : TaskRec) (fs : List Force) (acc : LaneSt × LaneTake) (p : Nat × InputBinding) : LaneSt × LaneTake :=
  let b := p.2
  match i.byIdentity b.target with
  | none => acc
  | some (n, y) =>
    let x := acc.1
    let c := copyBinding i r x acc.2 b n y
    let valid := c.valid || forcedWhole i fs y
    let v := applyForces i fs y c.value
    let x := { x with vars := Tbl.put x.vars n v, heldInputs := if holdsKind b.kind && valid then Tbl.put x.heldInputs n v else x.heldInputs }
    (x, { acc.2 with inputs := Tbl.put acc.2.inputs p.1 ⟨c.status + 128 * bit (forcedWhole i fs y), c.age, valid⟩ })

/-- The input bindings of a task with their indices within it. -/
def indexedInputs (i : Image) (r : TaskRec) : List (Nat × InputBinding) := (List.range (taskInputs i r).length).zip (taskInputs i r)

/-- The task's retained state in a lane. -/
def ownsSymbol (i : Image) (task n : Nat) : Bool := match i.symbols[n]? with
  | some y => y.owner = task
  | none => false
def savedOf (i : Image) (r : TaskRec) (x : LaneSt) : Saved where
  vars := x.vars.filter fun p => ownsSymbol i r.task p.1
  held := x.heldInputs.filter fun p => ownsSymbol i r.task p.1
  nextToken := x.nextToken.filter fun p => hasBit r.channels p.1
  tracked := x.tracked.filter fun t => hasBit r.channels t.channel
  seenEpoch := Tbl.find x.seenEpoch r.task

/-- Table entries that satisfy a test replaced by others. -/
def Tbl.graft {α : Type} (t : Tbl α) (p : Nat → Bool) (new : Tbl α) : Tbl α :=
  new.foldl (fun t e => Tbl.put t e.1 e.2) (t.filter fun e => !p e.1)

/-- The task's retained state put back as it stood at the copy-in of a take that does not count (R113, R216); what the take
published is withdrawn. -/
def LaneSt.restore (i : Image) (r : TaskRec) (x : LaneSt) (t : LaneTake) : LaneSt :=
  let x := { x with takes := x.takes.filter fun u => !u.same t
                    versions := x.versions.filter fun v => !(v.task = t.task && v.take = t.take) }
  if t.phase = .delivered then x
  else { x with
    vars := Tbl.graft x.vars (ownsSymbol i r.task) t.saved.vars
    heldInputs := Tbl.graft x.heldInputs (ownsSymbol i r.task) t.saved.held
    nextToken := Tbl.graft x.nextToken (hasBit r.channels) t.saved.nextToken
    tracked := (x.tracked.filter fun c => !hasBit r.channels c.channel) ++ t.saved.tracked
    seenEpoch := match t.saved.seenEpoch with
      | some e => Tbl.put x.seenEpoch r.task e
      | none => Tbl.erase x.seenEpoch r.task }

/-- A take abandoned in a lane. -/
def abandonTake (l : Lane) (t : LaneTake) (s : State) : State :=
  match runningImage s with
  | none => s
  | some i => match taskRec i t.task with
    | none => s
    | some r => modLane l (fun x => x.restore i r t) s

/-- Every take that the lanes still hold is abandoned. -/
def abandonAll (s : State) : State :=
  Lane.all.foldl (fun s l => (laneOf s l).takes.foldl (fun s t => abandonTake l t s) s) s

/-! ### Tokens at copy-in (R84) -/

/-- A completion for a token is to be found in the lane's queue or shadow. -/
def LaneMbx.found (w : LaneMbx) (k token : Nat) : Bool :=
  let c := w.channel k
  (c.ready.any fun n => (c.slot n).token = token) || w.shadow.any fun e => e.channel = k && e.token = token

/-- The outstanding commands that the take issues again: those marked for it, and after an epoch change those of which no completion is
to be found. -/
def reissues (x : LaneSt) (w : LaneMbx) (r : TaskRec) (t : LaneTake) : List Tracked :=
  let changed := Tbl.find x.seenEpoch r.task != some t.epoch
  x.tracked.filter fun c => hasBit r.channels c.channel && c.done.isNone && (c.again || changed && !w.found c.channel c.token)

/-- An envelope with the REISSUE flag and an epoch, its CRC renewed. -/
def reissued (env : Bytes) (epoch : Nat) : Bytes :=
  laneEnvelope true (Bytes.field env 0x14 4 % 2 ^ 24) (Bytes.field env 6 2) (Bytes.field env 8 4) epoch (env.drop 32)

/-- The take with those commands issued. -/
def resolveTokens (r : TaskRec) (w : LaneMbx) (x : LaneSt) (t : LaneTake) : LaneSt × LaneTake :=
  let again := reissues x w r t
  let renew (c : Tracked) : Tracked :=
    if again.contains c then { c with envelope := reissued c.envelope t.epoch, again := false } else c
  ({ x with tracked := x.tracked.map renew, seenEpoch := Tbl.put x.seenEpoch r.task t.epoch },
    { t with commands := t.commands ++ again.map fun c => (c.channel, reissued c.envelope t.epoch) })

/-- The start of a take in a lane: its copy-in, atomically, and the call of its entry function. -/
def startTake (i : Image) (r : TaskRec) (w : LaneMbx) (x : LaneSt) (t : LaneTake) : LaneSt :=
  let t := { t with saved := savedOf i r x }
  let fs := areaForces t.forceArea
  let done := (indexedInputs i r).foldl (copyOne i r fs) (x, t)
  let done := resolveTokens r w done.1 done.2
  let x := done.1
  let t := { done.2 with phase := .running, before := x.vars.filter fun p => ownsSymbol i r.task p.1,
                         frames := settle i 1 [⟨r.entry, 0, [], [], 0⟩] }
  x.setTake t

/-! ### Copy-out and serialisation (R114 to R119, R197) -/

/-- The record of a fault word (R175). -/
def faultRecord (t : LaneTake) : List (Nat × Nat × Bytes) :=
  if t.faultWord = 0 then []
  else
    let site := t.faultAt.getD (0, 0)
    [(0x000C, t.task, padTo 80 (le 4 t.faultWord ++ le 4 site.1 ++ le 4 site.2 ++ le 1 t.task))]

/-- The output image that a take publishes: by identity, with the output forces. -/
def outputImage (i : Image) (x : LaneSt) (t : LaneTake) : Tbl Bytes :=
  let fs := areaForces t.forceArea
  ((List.range i.symbols.length).zip i.symbols).foldl (fun o p =>
    if p.2.owner = t.task && p.2.output then Tbl.put o p.2.identity (applyForces i fs p.2 (x.value i p.1 p.2)) else o) []

/-- The versions that a copy-in can still select. -/
def keptVersions (x : LaneSt) (now task : Nat) : List Version :=
  let low := (x.takes.filter fun t => t.phase = .delivered).foldl (fun m t => min m t.t0) now
  let best := ((versionAt x task low).map Version.publishedAt).getD 0
  x.versions.filter fun v => v.task != task || best ≤ v.publishedAt

/-- Copy-out: the take's output image becomes a new version, visible from its logical publication instant. -/
def copyOut (i : Image) (now : Nat) (x : LaneSt) (t : LaneTake) : LaneSt :=
  let x := { x with versions := x.versions ++ [(⟨t.task, t.take, t.deadline, outputImage i x t⟩ : Version)] }
  { x with versions := keptVersions x now t.task }

/-- The canonical form of a variable's value (Table 4.6). -/
def canonical (i : Image) (y : Symbol) (v : Bytes) : Bytes :=
  (i.leavesOf y).foldl (fun b l => Bytes.overwrite b l.2 (canonLeaf l.1 (Bytes.slice v l.2 l.1.bytes))) v

/-- The records of variables in their canonical forms: an output on every take, a mirrored or retentive variable when its canonical form has
changed (R116, R118). -/
def variableRecords (i : Image) (x : LaneSt) (t : LaneTake) : List SerialRecord :=
  let out := outputImage i x t
  ((List.range i.symbols.length).zip i.symbols).flatMap fun p =>
    let y := p.2
    if y.owner != t.task then []
    else
      let v := canonical i y (x.value i p.1 y)
      let old := canonical i y (Tbl.get t.before p.1 (i.initial y))
      (if y.output then [⟨y.identity, 1, canonical i y (Tbl.get out y.identity v)⟩] else []) ++
        (if (y.mirrored || y.retentive) && v != old then [⟨y.identity, 2, v⟩] else [])

/-- Requests numbered in issue order under each key, keys ascending. -/
def numbered (base tag : Nat) (l : List (Nat × Bytes)) : List SerialRecord :=
  (sortNats (l.map Prod.fst)).flatMap fun k =>
    let here := l.filter fun p => p.1 = k
    ((List.range here.length).zip here).map fun p => ⟨base + k * 2 ^ 16 + p.1, tag, p.2.2⟩

/-- Bytes of a record (R115), and of a list of them. DESIGN CHOICE: of a value longer than 65 535 bytes the length field states the low 16 bits, and
all the bytes follow (log entry 139). -/
def SerialRecord.bytes (r : SerialRecord) : Bytes := le 8 r.identity ++ le 1 r.tag ++ le 2 r.value.length ++ r.value
def recordsBytes (l : List SerialRecord) : Bytes := l.flatMap SerialRecord.bytes

/-- The serialisation of a take (R114). -/
def serialise (i : Image) (x : LaneSt) (t : LaneTake) : List SerialRecord :=
  let head : SerialRecord := ⟨0, 0, le 2 t.task ++ le 2 0 ++ le 4 t.epoch ++ le 8 t.take⟩
  let requests := (t.records ++ faultRecord t).map fun r => le 2 r.1 ++ le 2 r.2.1 ++ padTo 80 r.2.2
  let recs := ((List.range requests.length).zip requests).map fun p => (⟨0xFFFFFF3000000000 + p.1, 5, p.2⟩ : SerialRecord)
  let body := head :: variableRecords i x t ++ numbered 0xFFFFFF1000000000 3 t.commands ++ numbered 0xFFFFFF2000000000 4 t.cues ++ recs
  body ++ [⟨0xFFFFFFFFFFFFFFFF, 0xFF, le 4 body.length ++ le 8 (recordsBytes body).length⟩]

/-- The take signature (R121). -/
def signatureOf (l : List SerialRecord) : Word64 := BitVec.ofNat 64 (crc64 (recordsBytes l))

/-- Records of a tag in a serialisation. -/
def tagged (tag : Nat) (l : List SerialRecord) : List SerialRecord := l.filter fun r => r.tag = tag

/-- Key of a request record's identity: the channel or cue. -/
def SerialRecord.key (r : SerialRecord) : Nat := r.identity / 2 ^ 16 % 2 ^ 16

/-! ### Exports (Table 4.10, log entry 38) -/

/-- The canonical export of a task's retained state and of its last published output image: the last version's outputs, every variable,
the held values, the next token of each channel, and the commands tracked. -/
def exportRecords (i : Image) (r : TaskRec) (x : LaneSt) : List SerialRecord :=
  let last := (x.versions.filter fun v => v.task = r.task).getLast?
  let head : SerialRecord := ⟨0, 0, le 2 r.task ++ le 2 0 ++ le 4 (Tbl.get x.seenEpoch r.task 0) ++ le 8 ((last.map Version.take).getD 0)⟩
  let vars := ((List.range i.symbols.length).zip i.symbols).flatMap fun p =>
    let y := p.2
    if y.owner != r.task then []
    else
      (match last.bind fun v => Tbl.find v.values y.identity with
        | some v => [(⟨y.identity, 1, canonical i y v⟩ : SerialRecord)]
        | none => []) ++ [(⟨y.identity, 2, canonical i y (x.value i p.1 y)⟩ : SerialRecord)] ++
      (match Tbl.find x.heldInputs p.1 with
        | some v => [(⟨y.identity, 6, v⟩ : SerialRecord)]
        | none => [])
  let tokens := (x.nextToken.filter fun p => hasBit r.channels p.1).map fun p =>
    (⟨0xFFFFFF1000000000 + p.1 * 2 ^ 16, 7, le 4 p.2⟩ : SerialRecord)
  let doneBytes (c : Tracked) : Bytes := match c.done with
    | some d => le 1 1 ++ le 2 d.1 ++ le 4 d.2.length ++ d.2
    | none => le 1 0
  let tracked := numbered 0xFFFFFF1000000000 8 ((x.tracked.filter fun c => hasBit r.channels c.channel).map fun c =>
    (c.channel, le 4 c.token ++ le 1 (bit c.again) ++ doneBytes c ++ c.envelope))
  head :: vars ++ tokens ++ tracked

def exportBytes (i : Image) (r : TaskRec) (x : LaneSt) : Bytes := recordsBytes (exportRecords i r x)

/-- The records that bytes hold: a variable's record has its symbol's size, any other the length it states. -/
def parseRecords (i : Image) : Nat → Bytes → List SerialRecord
  | 0, _ => []
  | k + 1, b =>
    if b.length < 11 then []
    else
      let id := Bytes.field b 0 8
      let n := match i.byIdentity id with
        | some p => p.2.size
        | none => Bytes.field b 9 2
      ⟨id, Bytes.field b 8 1, Bytes.slice b 11 n⟩ :: parseRecords i k (b.drop (11 + n))

/-- A tracked command as its export states it. -/
def parseTracked (channel : Nat) (v : Bytes) : Tracked :=
  let done : Bool := Bytes.field v 5 1 = 1
  let n := Bytes.field v 8 4
  { channel := channel, token := Bytes.field v 0 4, again := Bytes.field v 4 1 = 1,
    done := if done then some (Bytes.field v 6 2, Bytes.slice v 12 n) else none,
    envelope := v.drop (if done then 12 + n else 6) }

/-- An export imported into a lane: the task's state as it states it. -/
def importRecords (i : Image) (r : TaskRec) (now : Nat) (l : List SerialRecord) (x : LaneSt) : LaneSt :=
  let vars := (tagged 2 l).filterMap fun e => (i.byIdentity e.identity).map fun p => (p.1, e.value)
  let held := (tagged 6 l).filterMap fun e => (i.byIdentity e.identity).map fun p => (p.1, e.value)
  let outs := tagged 1 l
  let head := ((tagged 0 l).headD ⟨0, 0, []⟩).value
  { x with
    vars := Tbl.graft x.vars (ownsSymbol i r.task) vars
    heldInputs := Tbl.graft x.heldInputs (ownsSymbol i r.task) held
    nextToken := Tbl.graft x.nextToken (hasBit r.channels) ((tagged 7 l).map fun e => (e.key, leNat e.value))
    tracked := (x.tracked.filter fun c => !hasBit r.channels c.channel) ++ (tagged 8 l).map fun e => parseTracked e.key e.value
    seenEpoch := Tbl.put x.seenEpoch r.task (Bytes.field head 4 4)
    versions := (x.versions.filter fun v => v.task != r.task) ++
      (if outs.isEmpty then [] else [⟨r.task, Bytes.field head 8 8, now, outs.foldl (fun t e => Tbl.put t e.identity e.value) []⟩]) }

end Sys2Proof.Machine
end

