-- ==== Sys2Proof/Machine/Health.lean ====
section
/-! DEFINITION. What a module tells its partner about itself: the health value and report (R264, R265), the pair settings digest, and the
reasons for not being ready (R251). -/

namespace Sys2Proof.Machine

/-- The record of Table 9.2. -/
def PositionConfig.bytes (c : PositionConfig) : Bytes :=
  le 2 c.ppr1 ++ le 2 c.ppr2 ++ le 4 c.diameter1 ++ le 4 c.diameter2 ++ le 1 c.sense ++ le 1 c.axis ++ le 2 0 ++ le 4 c.vMax ++ le 4 c.epsU ++
    le 4 c.epsC ++ le 4 c.cValid

/-! ### The pair settings digest -/

/-- A list of numbers as bytes. -/
def wordsOf (l : List Nat) : Bytes := l.flatMap (le 8)

/-- The settings that an Active forwards (R252), in the order of their blocks: position, activation sources, filter channels, fabric, flows,
FRER, node and MVB (log entry 76). -/
def pairSettings (s : State) : Bytes :=
  let source (p : Nat × ActSource) : List Nat := [p.1, p.2.origin, p.2.index, p.2.sense, p.2.priority, bit p.2.initialMask]
  let channel (p : Nat × FilterChannel) : List Nat :=
    let c := p.2.config
    [p.1, c.median, c.decimation, bit c.autoSwitch, c.rate, c.timeout, c.primary, c.primarySignal, c.alternateSignal, c.alternate, c.symmetry,
     bit p.2.enabled] ++ p.2.bank.map (ofSigned 64)
  let port (p : Nat × PortSt) : List Nat :=
    let c := p.2.config
    [p.1, bit c.enabled, c.rate, bit c.protection, c.pvid, c.pcp, c.learnLimit] ++ c.limits.flatMap (fun l => [l.1, l.2]) ++
      c.vlans.flatMap fun v => [v.1, bit v.2]
  let pin (p : Pinned) : List Nat := if p.manual then [p.mac, p.vlan, p.ports] else []
  let flow (p : Nat × Flow) : List Nat :=
    let r := p.2.record
    [p.1, bit p.2.enabled, r.direction, r.flags, r.comId, r.destination, r.source, r.vlan, r.pcp, r.dscp, r.length, r.context, r.period, r.timeout,
     r.offset, r.stream, ofSigned 64 r.relative, r.smi, r.udv, r.ncm, r.latency]
  let frer (p : Nat × Frer) : List Nat :=
    [p.1, p.2.generation.getD 0, p.2.recovery.getD 0, p.2.history, p.2.resetMs] ++ p.2.identifications.flatMap fun m => [m.1, leNat m.2]
  let bus (b : MvbBus) : List Nat := [bit b.enabled, bit b.candidate, b.device1, b.device2, b.statusPeriod] ++ b.administrators ++ b.extra
  let mvb (p : Nat × MvbPort) : List Nat :=
    let r := p.2.record
    [p.1, bit p.2.enabled, r.size, r.direction, r.period, r.phase, r.freshness, r.confirm, r.echo, r.device, r.timeout]
  s.pos.config.bytes ++ wordsOf (s.voter.staggerSet :: s.act.sources.flatMap source ++ s.signal.channels.flatMap channel ++
    s.net.ports.flatMap port ++ s.net.pinned.flatMap pin ++ s.net.flows.flatMap flow ++ s.net.frer.flatMap frer ++
    [s.net.subnet, s.net.prefixLength] ++ s.net.hosts.flatMap (fun h => [h.1, h.2]) ++
    [s.net.aging, s.net.heartbeatMs, s.net.heartbeatComId, s.net.heartbeatGroup] ++ bus s.mvb.bus0 ++ bus s.mvb.bus1 ++
    s.mvb.ports.flatMap mvb) ++ (s.safety.active.getD [])

/-- The pair settings digest. -/
def settingsDigest (s : State) : Bytes := Config.sha384 (pairSettings s)

/-! ### Health (R264, R265) -/

/-- How many of the numbers below `n` satisfy a test. -/
def countBelow (n : Nat) (p : Nat → Bool) : Nat := ((List.range n).filter p).length

/-- The health value (Table 7.10). -/
def healthValue (s : State) : Nat :=
  2 ^ 31 * bit (s.module.state = .service) + 2 ^ 29 * maskCount (votingMask s) + 2 ^ 28 * bit (!s.test.anyFailed) +
    2 ^ 27 * bit (s.clock.state = .locked) + 2 ^ 25 * s.pos.state.code + 2 ^ 16 * countBelow 28 (portUp s) +
    2 ^ 8 * (countBelow 16 (fun i => !inputFaulted s i) + countBelow 8 fun i => !outputFaulted s i)

/-- Test of Table 17.8. -/
def selfTest (s : State) (n : Nat) : SelfTest := Tbl.get s.test.tests n {}

/-- The least of a number and the greatest that 4 bytes hold. -/
def cap32 (n : Nat) : Nat := min n (2 ^ 32 - 1)

/-- The health report (Table 7.11). -/
def healthReport (s : State) : Bytes :=
  let tests := s.test.tests.map Prod.snd
  let p := s.pair
  le 4 (healthValue s) ++ le 2 p.reasons ++ le 1 p.role.code ++ le 1 s.module.state.code ++
    Lane.all.flatMap (fun l => le 1 (laneOf s l).state.code) ++ le 1 s.prog.state.code ++ le 4 s.mbx.epoch ++ le 8 (selfTest s 0).lastRound ++
    le 4 (selfTest s 0).rounds ++ le 4 (tests.map SelfTest.rounds).sum ++ le 4 (tests.map SelfTest.failures).sum ++
    le 4 (cap32 ((s.time - p.checkpointAt) / milli 1)) ++ leInt 8 p.delta ++ leInt 4 p.timeDifference ++
    padTo 8 (slotOf s s.prog.slot).digest ++ padTo 4 (settingsDigest s)

/-- The report sent in STATUS. -/
def sendStatus (s : State) : State := slipstream 7 (healthReport s) s

/-- The module is no longer master of a bus. -/
def dropMasters (s : State) : State :=
  modMvb (fun m => { m with bus0 := { m.bus0 with master := false }, bus1 := { m.bus1 with master := false } }) s

/-- The pair role changes: the module event 3 of Table 14.1 is signalled, and a Standby holds no mastership of an MVB bus (R431). -/
def setRole (r : PairRole) (s : State) : State :=
  if s.pair.role = r then s
  else
    let s := pulse 6 3 (modPair (fun p => { p with role := r }) s)
    if r = .standby then dropMasters s else s

/-! ### Reasons for not being ready (Table 7.7) -/

/-- A reason of Table 7.7 set or cleared on a Standby; any change of readiness is reported in STATUS, and when readiness ends every safe
output goes off (R259). -/
def setReason (n : Nat) (v : Bool) (s : State) : State :=
  if s.pair.role = .standby && hasBit s.pair.reasons n != v then
    let was := s.pair.reasons
    let now := if v then was + 2 ^ n else was - 2 ^ n
    let s := modPair (fun p => { p with reasons := now }) s
    let s := if was = 0 && now != 0 then allOutputsOff s else s
    if (was = 0) != (now = 0) then sendStatus s else s
  else s

end Sys2Proof.Machine
end

