-- ==== Sys2Proof/Machine/Lockout.lean ====
section
/-! DEFINITION. The program stop, the isolation of a lane and the entry to Lock-out (chapters 4, 6 and 8). -/

namespace Sys2Proof.Machine

/-! ### Forces dropped (R209, R210) -/

/-- The FORCE record of an entry set, replaced, cleared or dropped: identity, leaves, setter, old and new value; values of more than 30 bytes go
on in a second record (log entry 39). -/
def recordForce (n : Nat) (f : Force) (old new : Bytes) (s : State) : State :=
  let ring : Ring := if f.safety then .juridical else .general
  let s := record ring 7 n (le 8 f.identity ++ le 4 f.first ++ le 4 f.count ++ le 4 f.setter ++ padTo 30 old ++ padTo 30 new) s
  if 30 < max old.length new.length then
    record ring 7 n (le 8 f.identity ++ le 4 f.first ++ padTo 34 (old.drop 30) ++ padTo 34 (new.drop 30)) s
  else s

/-- Entries that satisfy a test leave the force table. -/
def dropForces (p : Force → Bool) (s : State) : State :=
  (s.prog.forces.filter fun e => p e.2).foldl (fun t e =>
    recordForce e.1 e.2 e.2.value [] (modProg (fun g => { g with forces := Tbl.erase g.forces e.1 }) t)) s

/-- The force table forwarded to a Standby (R252). -/
def forwardForces (s : State) : State :=
  if s.pair.role = .active then slipstream 2 (le 1 8 ++ s.prog.forces.flatMap fun f => f.2.bytes) s else s

/-- Entries dropped by themselves: a Standby learns of a changed table. -/
def dropAndForward (p : Force → Bool) (s : State) : State :=
  if s.prog.forces.any fun f => p f.2 then forwardForces (dropForces p s) else s

/-! ### The signature trace (R144) -/

/-- An entry of the trace, unless it is frozen. -/
def traceAdd (entry : Bytes) (s : State) : State :=
  modVoter (fun v =>
    if v.traceLeft = some 0 then v
    else
      let l := v.trace ++ [entry]
      { v with trace := l.drop (l.length - 1024), traceLeft := v.traceLeft.map (· - 1) }) s

/-- An isolation or a Lock-out triggers the trace. -/
def traceTrigger (s : State) : State :=
  modVoter (fun v => { v with traceLeft := match v.traceLeft with
    | some n => some n
    | none => some 64 }) s

/-! ### Counters of a lane (R143) -/

/-- The health counters of a lane changed. -/
def modHealth (l : Lane) (f : LaneHealth → LaneHealth) (s : State) : State := modLane l (fun x => { x with health := f x.health }) s

/-! ### Reshoot: its start and its end (R132, R136, R137) -/

/-- The states of a reshoot. -/
def LaneSt.reshooting (x : LaneSt) : Bool :=
  x.state = .restarting || x.state = .ready || x.state = .transferring || x.state = .probation

/-- The commands that wait for the end of a lane's reshoot complete. -/
def answerReshoot (l : Lane) (status : Nat) (s : State) : State :=
  let here := s.voter.reshootWaiters.filter fun w => w.2 = l.num
  let s := modVoter (fun v => { v with reshootWaiters := v.reshootWaiters.filter fun w => w.2 != l.num }) s
  here.foldl (fun t w => completeEntry w.1 status (if status = stOk then le 1 (laneOf t l).state.code else []) t) s

/-- The restart step of a reshoot begins. -/
def startReshoot (l : Lane) (s : State) : State :=
  modLane l (fun x => { x with state := .restarting, reshoot := [], takes := [], versions := []
                               health := { x.health with reshootsStarted := x.health.reshootsStarted + 1 } }) s

/-- LANE records of the General ring: events 0 isolation, 1 reshoot failed, 2 divergence, 3 rejoin, 4 two-lane limit, 5 voter test
(log entry 20). -/
def recordLane (l : Nat) (payload : Bytes) (s : State) : State := record .general 4 l payload s

/-- A reshoot fails: the lane is Isolated again, or Retired after the second failure in a row or a single attempt. -/
def failReshoot (l : Lane) (s : State) : State :=
  let x := laneOf s l
  let retired : Bool := x.oneAttempt || 1 ≤ x.failedReshoots
  let s := modLane l (fun x => { x with state := if retired then .retired else .isolated, failedReshoots := x.failedReshoots + 1
                                        oneAttempt := false, reshoot := [], takes := [], reshootStart := s.time
                                        health := { x.health with reshootsFailed := x.health.reshootsFailed + 1 } }) s
  answerReshoot l 0x0412 (recordLane l.num (le 1 1) s)

/-- A program stop or Lock-out ends the reshoots: the lanes are Stopped, a Retired lane's attempt ends in Retired (R137, R147). -/
def endReshoots (s : State) : State :=
  Lane.all.foldl (fun s l =>
    if (laneOf s l).reshooting then
      answerReshoot l 0x0412 (modLane l (fun x => { x with state := if x.oneAttempt then .retired else .stopped, oneAttempt := false
                                                           stale := true, reshoot := [], takes := [] }) s)
    else s) s

/-- The voting lanes are Stopped: the program runs no takes. -/
def stopLanes (s : State) : State :=
  modVoter (fun v => { v with takes := [], lanes := v.lanes.map fun _ x =>
    if x.state = .voting then { x with state := .stopped, takes := [], actReady := 0, actCommits := [], memoryError := false } else x })
    (endReshoots s)

/-! ### Stopping the program (R212) -/

/-- A safe output's command ends, which is no release of its task as off (R287). -/
def commandOff (n : Nat) (s : State) : State := modOutput n (fun o => { o with commanded := 0 }) s

/-- A publication stops: nothing is left to launch or to answer with. -/
def stopPublication (n : Nat) (s : State) : State := modFlow n (fun f => { f with releases := [], everReleased := false }) s

/-- Every publication stops (R236, R257, R261): only an Active transmits under the publication identity. -/
def silence (s : State) : State :=
  modNet (fun n => { n with flows := n.flows.map fun p => (p.1, if p.2.record.publishes then { p.2 with releases := [], everReleased := false } else p.2) }) s

/-- A source port is no longer sourced. -/
def stopSource (h : Nat) (s : State) : State :=
  modMvbPort h (fun p => { p with unsourced := true, unsent := false, unconfirmedSince := none }) s

/-- What an output binding drives stops. -/
def endBinding (b : OutputBinding) (s : State) : State :=
  match b.kind with
  | 1 => stopPublication b.target s
  | 2 => commandOff b.target s
  | _ => stopSource b.target s

/-- The output bindings of the running image of a kind end. -/
def endBindings (kind : Nat) (s : State) : State :=
  match runningImage s with
  | some i => (i.outputs.filter fun b => b.kind = kind).foldl (fun t b => endBinding b t) s
  | none => s

/-- Steps 1 to 5 of R212: safe outputs, flows, ports and cues, and the retentive commit. -/
def stopSteps (s : State) : State := beginCommit 2 (endCues (endBindings 3 (endBindings 1 (endBindings 2 s))))

/-- A take awaits its decision. -/
def inFlight (s : State) : Bool := s.voter.takes.any fun v => v.released.isNone && !v.decided

/-- Commands that a stopped program leaves without an end: reads that wait for a vote are refused (log entry 40). -/
def endVarReads (s : State) : State :=
  s.prog.varReads.foldl (fun t r => completeEntry r.entry stRefused [] t) (modProg (fun p => { p with varReads := [] }) s)

/-- No further take is activated: what was due is withdrawn, a pending recut and a command hold end (R212, R229, R467). -/
def endActivations (s : State) : State :=
  modAct (fun a => { a with hold := none })
    (modProg (fun p => { p with recut := none, state := if p.state = .recutPending then .running else p.state, tasks := p.tasks.map fun t => (t.1, { t.2 with due := none, nextInstant := none, cueHeld := false }) }) s)

/-- A program stop commits, for a command or none that waits. -/
def beginStop (entry : Option Nat) (s : State) : State :=
  let s := modProg (fun p => { p with stopping := some (entry, 0) }) (endActivations s)
  let s := if s.pair.role = .active then slipstream 2 (le 1 4) s else s
  if inFlight s then s else stopSteps s

/-- Step 6: the program is Stopped, and the stop completes. -/
def finishStop (s : State) : State :=
  let waiting := s.prog.stopping
  let s := stopLanes (endVarReads (modProg (fun p => { p with stopping := none, state := if p.state = .empty then .empty else .stopped }) s))
  match waiting with
  | some (some id, n) => completeEntry id stOk (le 2 n) s
  | _ => s

/-- RETENTIVE_COMMIT_COMPLETE (R219): the commit in progress ends; one that a program stop waits for ends the stop. A commit that fails on
a Standby makes its checkpoint invalid (R266). -/
def endCommitStep (written : Bool) (s : State) : State :=
  match s.prog.commit with
  | none => s
  | some c =>
    let s := endCommit written s
    if c.cause = 2 && s.prog.stopping.isSome then finishStop s else s

/-! ### Lock-out (R307, R308, R309) -/

/-- A cause found in Lock-out is recorded and counted, and ends an arming (R308, R311). -/
def furtherCause (cause detail : Nat) (s : State) : State :=
  let s := writeFlag (flagWith s cause 0xFF 0 detail 0) s
  let s := record .juridical 0x13 0xFFFF (le 2 cause ++ le 8 detail) s
  match s.safety.arming with
  | some a => completeEntry a.entry 0x0613 [] (modSafety (fun x => { x with arming := none }) s)
  | none => s

/-- The change-log record of a Lock-out entry. -/
def logEntry (cause issuer : Nat) (s : State) : State :=
  let crc := paramCrc (params s)
  changeLog 3 cause issuer (issuerName s issuer) crc crc s

/-- The flag and the change log of an entry; `lanes` voted at it. -/
def logLockout (cause issuer task take detail lanes : Nat) (s : State) : State :=
  logEntry cause issuer (writeFlag (flagWith s cause task take detail lanes) s)

/-- The epoch of an event: at a take boundary it increments once (R93). -/
def epochStep (boundary : Bool) (s : State) : State := if boundary then epochAtBoundary s else epochIncrement s

/-- What the entry to Lock-out does to the program: nothing more is released, and R212 steps 2 to 6 follow. The program is Stopped at
once (Table 17.6); the retentive commit runs on. -/
def stopAtOnce (s : State) : State :=
  let s := abandonAll s
  let ran := programRuns s
  let s := if ran then stopSteps (endActivations s) else s
  let stop := s.prog.stopping
  let s := stopLanes (endVarReads (modProg (fun p => { p with state := if ran then .stopped else p.state, stopping := none }) s))
  match stop with
  | some (some id, n) => completeEntry id stOk (le 2 n) s
  | _ => s

/-- The pair's part of an entry to Lock-out: a notice of the Active, and what was armed ends. -/
def pairAtLockout (s : State) : State :=
  let s := if s.pair.role = .active then slipstream 2 (le 1 0) s else s
  setReason 5 true (setReason 1 false (modPair (fun p =>
    { p with superviseT0 := none, takeoverAt := none, handoverAt := none, resyncAt := none, resyncRetry := none, own := [], takeEnds := []
             waitingSnapshots := [] }) s))

/-- The heartbeat starts with the first Service, Maintenance or Lock-out after boot (R409). -/
def startHeartbeat (s : State) : State :=
  if s.net.heartbeatOn then s else modNet (fun n => { n with heartbeatOn := true, heartbeatAt := s.time }) s

/-- Entry to Lock-out on a cause: issuer and deciding take where there are any. -/
def lockOut (boundary : Bool) (cause issuer task take detail : Nat) (s : State) : State :=
  match s.module.state with
  | .stowed | .halted => s
  | .booting => if lockoutFlag s then logEntry cause issuer (furtherCause cause detail s) else logLockout cause issuer task take detail (votingMask s) s
  | .lockout => furtherCause cause detail s
  | _ =>
    let lanes := votingMask s
    let s := testOff 5 (allOutputsOff s)
    let s := epochStep boundary s
    let s := freeUnvoted (stopAtOnce (traceTrigger s))
    let s := logLockout cause issuer task take detail lanes (closeWindows s)
    let s := if s.module.state = .maintenance then dropAndForward Force.safety s else s
    let s := modSafety (fun x => { x with activatedSince := false }) s
    pairAtLockout (startHeartbeat (modModule (fun m => { m with state := .lockout, enteredAt := s.time }) s))

/-- An internal fault found by a test of the safety domain: one occurrence of its cause while it stands (log entry 85). -/
def internalFault (cause detail : Nat) (s : State) : State :=
  if s.safety.standing.contains (cause, detail) then s
  else
    let s := modTest (fun t => { t with anyFailed := true }) s
    lockOut false cause 0 0xFF 0 detail (modSafety (fun x => { x with standing := x.standing ++ [(cause, detail)] }) s)

/-- Internal faults that a later test finds gone. -/
def faultsGone (p : Nat × Nat → Bool) (s : State) : State := modSafety (fun x => { x with standing := x.standing.filter fun f => !p f }) s

/-! ### A resynchronisation that fails (R268) -/

/-- PAIR records: events 0 formation failed (its cause), 1 takeover (its cause), 2 resynchronisation failed (how many in a row), 3 Lock-out
of an Active that a Standby not ready cannot replace (log entry 82). -/
def recordPair (event : Nat) (payload : Bytes) (s : State) : State := record .general 5 s.module.side (le 1 event ++ payload) s

/-- A running resynchronisation ends (R268 text). -/
def endResync (s : State) : State :=
  setReason 1 false (modPair (fun p => { p with resyncAt := none, resyncRetry := none, resyncPassed := [], resyncExports := [], resyncSent := false }) s)

/-- The PAIR_RESYNC commands that wait for R_s complete. -/
def answerResync (status : Nat) (s : State) : State :=
  s.pair.resyncWaiters.foldl (fun t id => completeEntry id status [] t) (modPair (fun p => { p with resyncWaiters := [] }) s)

/-- A resynchronisation fails on the Standby (R268): it restarts 1 s later, and the third failure in a row sets reason 10. -/
def resyncFails (s : State) : State :=
  let n := s.pair.resyncFailures + 1
  let retry := if 3 ≤ n then none else some (s.time + second 1)
  let s := setReason 10 (3 ≤ n) (setReason 0 true s)
  let s := recordPair 2 (le 1 n) (endResync s)
  let s := modPair (fun p => { p with resyncFailures := n, resyncFailedCount := p.resyncFailedCount + 1, resyncRetry := retry }) s
  if 3 ≤ n then answerResync 0x0515 s else s

/-- A lane fault of a Standby fails the resynchronisation that runs. -/
def laneFailsResync (s : State) : State := if s.pair.role = .standby && s.pair.resyncAt.isSome then resyncFails s else s

/-! ### Isolation (R126, R128) -/

/-- 24 h. -/
def day : Nat := second 86400

/-- Isolations of a lane in the last 24 h. -/
def recentIsolations (x : LaneSt) (now : Nat) : List Nat := x.isolatedAt.filter fun t => now < t + day

/-- A lane leaves the voting set: the steps of R126. Causes: 0 dissent, 1 missing, 2 lane fault and its cause from 2 on, 7 LANE_ISOLATE,
8 Squall, 9 failed serialisation check, 10 failed start-up test (log entry 41). -/
def isolateLane (boundary : Bool) (l : Lane) (cause task take : Nat) (hold : Bool) (s : State) : State :=
  let running : Bool := s.prog.state = .running || s.prog.state = .recutPending
  let s := modLane l (fun x => { x with isolatedAt := recentIsolations x s.time ++ [s.time], hold := hold, takes := [], actReady := 0
                                        actCommits := [], reshootStart := s.time, oneAttempt := false
                                        health := { x.health with isolations := x.health.isolations + 1 } }) s
  let retired : Bool := 3 ≤ (laneOf s l).isolatedAt.length
  let s := modLane l (fun x => { x with state := if retired then .retired else .isolated }) s
  let s := modMbx (fun m => { m with held := m.held.filter fun h => h.lane != l }) s
  let s := traceTrigger (epochStep boundary (laneOutputsOff l s))
  let s := modVoter (fun v => { v with twoLaneSince := match v.twoLaneSince with
    | some t => some t
    | none => some s.time }) s
  let s := recordLane l.num (le 1 0 ++ le 1 cause ++ le 1 task ++ le 8 take ++ le 4 s.mbx.epoch) s
  laneFailsResync (if retired || hold || !running then s else startReshoot l s)

/-- Seconds of the present two-lane operation. -/
def twoLaneSeconds (s : State) : Nat := match s.voter.twoLaneSince with
  | some t => (s.time - t) / second 1
  | none => 0

/-- Two-lane operation that ends is added to the time of the lanes that were out (R143). -/
def countTwoLane (s : State) : State :=
  let n := twoLaneSeconds s
  let count (x : LaneSt) : LaneSt := if inVotingSet x then x else { x with health := { x.health with twoLane := x.health.twoLane + n } }
  modVoter (fun v => { v with twoLaneSince := none, twoLaneExpired := false, lanes := v.lanes.map fun _ x => count x }) s

/-- Two-lane operation ends with a program start, unless a Retired lane stays out. -/
def closeTwoLane (s : State) : State := if Lane.all.any fun l => (laneOf s l).state = .retired then s else countTwoLane s

/-- A lane that votes is found wrong: isolated in three-lane operation, Lock-out in two-lane operation (R129). -/
def loseLane (boundary : Bool) (l : Lane) (cause task take : Nat) (s : State) : State :=
  if maskCount (votingMask s) = 3 then isolateLane boundary l cause task take false s
  else lockOut boundary 2 0 task take task s

/-- Number of a lane fault cause (Table 4.12). -/
def faultNumber : LaneFaultCause → Nat
  | .memory => 0 | .snapshot => 1 | .trap => 2 | .watchdog => 3 | .clock => 4

/-- A lane fault counted by cause. -/
def countFault (l : Lane) (c : LaneFaultCause) (s : State) : State :=
  modHealth l (fun h => match c with
    | .memory => { h with faultMemory := h.faultMemory + 1 }
    | .snapshot => { h with faultSnapshot := h.faultSnapshot + 1 }
    | .trap => { h with faultTrap := h.faultTrap + 1 }
    | .watchdog => { h with faultWatchdog := h.faultWatchdog + 1 }
    | .clock => { h with faultClock := h.faultClock + 1 }) s

/-- A lane is missing for every awaited take that it has not posted (R122). -/
def countMissing (l : Lane) (s : State) : State :=
  let posted (v : VoteTake) : Bool := (match l with | .a => v.a | .b => v.b | .c => v.c).isSome
  let n := (s.voter.takes.filter fun v => hasBit v.lanes l.num && !posted v).length
  modHealth l (fun h => { h with missing := h.missing + n }) s

/-- A lane fault (R105): of a voting lane it isolates the lane, of a rejoining one it fails the reshoot; of one that is out already it
is counted. -/
def laneFault (l : Lane) (c : LaneFaultCause) (s : State) : State :=
  let s := countFault l c s
  let s := if c = .memory then modLane l (fun x => { x with memoryError := true }) s else s
  let x := laneOf s l
  if x.reshooting then laneFailsResync (failReshoot l s)
  else if inVotingSet x then loseLane false l (2 + faultNumber c) 0xFF 0 (countMissing l s)
  else s

/-- Lanes run in every state after Booting but Halted. -/
def lanesRun (s : State) : Bool := hasMailbox s

/-- LANE_FAULT (R105). -/
def execLaneFault (l : Lane) (c : LaneFaultCause) (s : State) : Out := if lanesRun s then .next (laneFault l c s) else .next s

end Sys2Proof.Machine
end

