-- ==== Sys2Proof/Machine/Trust.lean ====
section
/-! DEFINITION. Trust (chapter 2): signed objects, identity and enrolment, credentials and sessions, security-association contexts,
the Owner lock and the Lull domain. -/

namespace Sys2Proof.Machine

/-! ### The Lull domain's clock (R60) -/

/-- Lull seconds now: the crystal's rate is a free value within 5 s per day (log entry 42). -/
def lullNow (s : State) : Nat :=
  let l := s.trust.lull
  let ran := s.time - l.asOf
  let rate : Int := (Config.entropy l.drift % 2000001 : Nat) - 1000000
  l.seconds + ((ran * (86400 * 1000000 + 5 * rate)) / (86400 * 1000000 * second 1)).toNat

/-- The Lull clock written: its drift from now on is another free value. -/
def setLull (seconds : Nat) (s : State) : State :=
  afterDraw (modTrust (fun t => { t with lull := { t.lull with seconds := seconds, asOf := s.time, drift := s.draws } }) s)

/-- A Lull domain field changed. -/
def modLull (f : LullSt → LullSt) (s : State) : State := modTrust (fun t => { t with lull := f t.lull }) s

/-- A CUSTODY record: what happened (0 Owner lock, 1 tamper detection, 2 acknowledgement, 3 cell low, 4 validity interval not
checked) and its items (log entry 43). -/
def custody (event : Nat) (payload : Bytes) (s : State) : State := record .juridical 0x12 0 (le 1 event ++ payload) s

/-- The latches of LULL_STATUS. -/
def latchBits (s : State) : Nat := bit s.trust.lull.tamper + 2 * bit s.trust.lull.powerLoss

/-! ### Signed objects (R35 to R38) -/

/-- The fields of the header of Table 2.3. -/
def objectType (b : Bytes) : Nat := Bytes.field b 0x06 2
def objectVersion (b : Bytes) : Nat := Bytes.field b 0x08 4
def objectGeneration (b : Bytes) : Nat := Bytes.field b 0x0C 4
def objectLength (b : Bytes) : Nat := Bytes.field b 0x10 8
def objectDigest (b : Bytes) : Bytes := Bytes.slice b 0x18 48
def objectSigner (b : Bytes) : Bytes := Bytes.slice b 0x48 32
def objectBody (b : Bytes) : Bytes := b.drop 0x1000

/-- The bytes that both signatures cover (R36). -/
def objectMessage (b : Bytes) : Bytes := b.take 0x68

/-- Key identifier of a public key (Table 2.3). -/
def keyId (key : Bytes) : Bytes := padTo 16 (Config.sha384 key)

/-- The key or the anchor that a certificate's or an anchor's object names. -/
def trustedKey (b : Bytes) : TrustedKey :=
  let c := Config.certificateBody (objectBody b)
  ⟨c.1, keyId c.2.1, keyId c.2.2.1, c.2.1, c.2.2.1, objectVersion b, c.2.2.2.1, c.2.2.2.2⟩

/-- Magic, format, reserved bytes, length and digest are those of Table 2.3. -/
def objectFormOk (b : Bytes) : Bool :=
  0x1000 ≤ b.length && b.take 4 = ascii "KXSO" && Bytes.field b 4 2 = 1 && allZero (Bytes.slice b 0xDB5 587) &&
    objectLength b = b.length - 0x1000 && objectDigest b = Config.sha384 (objectBody b)

/-- Both signatures of an object verify under a pair of public keys. -/
def signedBy (ec pq b : Bytes) : Bool :=
  Config.ecdsaVerify ec (objectMessage b) (Bytes.slice b 0x68 96) && Config.mldsaVerify pq (objectMessage b) (Bytes.slice b 0xC8 3309)

/-- Purposes of the operator keys that sign an object type (Table 2.4): 0 stands for the anchor. -/
def signerPurposes : Nat → List Nat
  | 0x10 => [1]
  | 0x11 => [0, 2]
  | 0x12 => [3]
  | 0x30 => [0]
  | 0x31 => [0]
  | _ => []

/-- The keys under the operator's anchor. -/
def operatorKeys (s : State) : List TrustedKey := (s.trust.anchor.map fun a => { a with purpose := 0 }).toList ++ s.trust.certificates

/-- A key certificate's interval holds, where it is checked at all: only while Time is Locked (R37 text). -/
def intervalOk (s : State) (k : TrustedKey) : Bool :=
  k.purpose = 0 || s.clock.state != .locked || k.validFrom ≤ localSeconds s && localSeconds s ≤ k.validUntil

/-- The operator's key that both key identifiers of an object name and that Table 2.4 allows for its type. -/
def operatorSigner (s : State) (b : Bytes) : Option TrustedKey :=
  (operatorKeys s).find? fun k => (signerPurposes (objectType b)).contains k.purpose && k.ecId ++ k.pqId = objectSigner b

/-- Both signatures of an object verify under keys that Slate trusts for its type. -/
def signatureOk (s : State) (b : Bytes) : Bool :=
  if (signerPurposes (objectType b)).isEmpty then
    let id := objectSigner b
    let keys := Config.clopelKeys (id.take 16) (id.drop 16)
    Config.clopelTrusts (objectType b) (id.take 16) (id.drop 16) && signedBy keys.1 keys.2 b
  else
    match operatorSigner s b with
    | some k => intervalOk s k && signedBy k.ecKey k.pqKey b
    | none => false

/-- The anti-rollback floor of a type and signer (R38). -/
def floorOf (s : State) (type : Nat) (signer : Bytes) : Nat := ((s.trust.floors.find? fun f => f.1 = (type, signer)).map Prod.snd).getD 0

/-- A floor raised to the version of an object that is activated; it never falls. -/
def raiseFloor (type : Nat) (signer : Bytes) (version : Nat) (s : State) : State :=
  modTrust (fun t =>
    let rest := t.floors.filter fun f => f.1 != (type, signer)
    { t with floors := rest ++ [((type, signer), max version (floorOf s type signer))] }) s

/-- Verification of an object of a type (R37): none when it is accepted, otherwise the status of the rejection. -/
def verifyObject (s : State) (type : Nat) (b : Bytes) : Option Nat :=
  if !(objectFormOk b && objectType b = type && signatureOk s b) then some stIntegrity
  else if objectVersion b < floorOf s type (objectSigner b) then some 0x0215
  else none

/-- The recorder notes that the validity interval of a certificate was not checked, as Time is not Locked: the type of the object for which
it served, and who signed that (R37 text). -/
def noteUnchecked (type : Nat) (signer : Bytes) (s : State) : State :=
  if s.clock.state = .locked then s else custody 4 (le 2 type ++ signer) s

/-- The same for an object that an operator's certified key has signed. -/
def noteInterval (b : Bytes) (s : State) : State :=
  match operatorSigner s b with
  | some k => if k.purpose != 0 then noteUnchecked (objectType b) (objectSigner b) s else s
  | none => s

/-- The same for what is verified again at boot: an object signed by an operator's certified key, by its signer. -/
def noteSigner (type : Nat) (signer : Bytes) (s : State) : State :=
  if s.trust.certificates.any fun k => k.ecId ++ k.pqId = signer then noteUnchecked type signer s else s

/-- Objects that follow one another in a request: as many as begin with the magic, each as long as its header says; and the
rest (log entry 44). -/
def splitObjects : Nat → Bytes → List Bytes × Bytes
  | 0, b => ([], b)
  | n + 1, b =>
    let size := 0x1000 + objectLength b
    if b.take 4 = ascii "KXSO" && size ≤ b.length then
      let r := splitObjects n (b.drop size)
      (b.take size :: r.1, r.2)
    else ([], b)

/-! ### Identity (R39 to R41) -/

/-- Signatures of the identity keys. -/
def signEc (s : State) (m : Bytes) : Bytes := padTo 96 ((s.trust.identity.map fun k => Config.ecdsaSign k m).getD [])
def signPq (s : State) (m : Bytes) : Bytes := padTo 3309 ((s.trust.identity.map fun k => Config.mldsaSign k m).getD [])

/-- An object that the module signs itself (type 0x0032), format 1, version 1 and generation 1 (log entry 44). -/
def ownObject (s : State) (type : Nat) (body : Bytes) : Bytes :=
  let head := ascii "KXSO" ++ le 2 1 ++ le 2 type ++ le 4 1 ++ le 4 1 ++ le 8 body.length ++ padTo 48 (Config.sha384 body) ++
    keyId (ecPublic s) ++ keyId (pqPublic s)
  let m := padTo 0x68 head
  m ++ signEc s m ++ signPq s m ++ List.replicate 587 0 ++ body

/-- IDENTITY_READ (R66). -/
def cmdIdentityRead : Command where
  issuers := { lanes := true, session := true, preLogin := true, enrolment := true }
  body := sized 0 fun _ s =>
    let ids := match s.trust.anchor with
      | some a => padTo 16 a.ecId ++ padTo 16 a.pqId
      | none => List.replicate 32 0
    answers (identifier s ++ ecPublic s ++ pqPublic s ++ le 1 (bit !(unenrolled s)) ++ ids ++
      Config.manufacturerCertificate (ecPublic s ++ pqPublic s)) s

/-- ENROL_REQUEST (R41): the enrolment request carries the public keys and the nonce. -/
def cmdEnrolRequest : Command where
  issuers := { enrolment := true, preLogin := true }
  body := sized 16 fun e s =>
    if unenrolled s then answers (ownObject s 0x32 (ecPublic s ++ pqPublic s ++ e.payload)) s else fails stRefused s

/-! ### Credentials (R45 to R48) -/

/-- A password of 12 to 128 bytes of UTF-8 in normal form C. -/
def passwordOk (p : Bytes) : Bool := 12 ≤ p.length && p.length ≤ 128 && Config.isNfc p

/-- Names are zero-padded to 32 bytes and have at least one byte. -/
def nameOk (n : Bytes) : Bool := n.length = 32 && !(unpad n).isEmpty

/-- A credential by name. -/
def credentialByName (s : State) (name : Bytes) : Option (Nat × Credential) := s.trust.credentials.find? fun c => c.2.name = unpad name

/-- A new credential's salt, tag and record. -/
def newCredential (s : State) (name : Bytes) (roles : Nat) (password : Bytes) : Credential :=
  let salt := le 16 (drawn s)
  { name := unpad name, roles := roles, salt := salt, tag := Config.argon2id salt password }

/-- LOGIN and CREDENTIAL records carry the credential name, the source address and the session context of the command (R48). -/
def recordCredential (cls index event : Nat) (name : Bytes) (e : Entry) (s : State) : State :=
  record .juridical cls index (padTo 32 name ++ le 4 e.source ++ le 2 e.session ++ le 1 event) s

/-- A credential changed. -/
def modCredential (n : Nat) (f : Credential → Credential) (s : State) : State :=
  modTrust (fun t => { t with credentials := Tbl.update t.credentials n f }) s

/-- Whether some credential of a table holds the Owner role. -/
def ownerLeft (t : Tbl Credential) : Bool := t.any fun c => hasBit c.2.roles 4

/-- The sessions of a credential end, but for one. -/
def endCredentialSessions (n : Nat) (but : Option Nat) (s : State) : State :=
  (s.trust.sessions.filter fun x => x.2.kind = .login && x.2.credential = some n && some x.1 != but).foldl (fun t x => endSession x.1 t) s

/-- Another session than one holds the Owner or the Safety commissioner role of a role set (R44). -/
def roleBusy (s : State) (roles self : Nat) : Bool := s.trust.sessions.any fun x => x.1 != self && (x.2.roles &&& roles &&& (owner + safety)) != 0

/-- A command's own session ends after its completion (R53). -/
def endOwn (e : Entry) (s : State) : State := endAfter e.session e.issuer e.token s

/-- A command that completes first and then ends its own session, or does what else must follow its completion (R53). -/
def thenAfter (e : Entry) (result : Bytes) (f : State → State) (s : State) : State × Reply :=
  (f (finish s.mbx.epoch e stOk result s), .goesOn .under true)

/-- The effect of CREDENTIAL_SET on an existing or a new credential. -/
def setCredential (e : Entry) (n roles : Nat) (new : Credential) (changed : Bool) (s : State) : State × Reply :=
  let self := e.session
  let own := match Tbl.find s.trust.sessions self with
    | some x => x.kind = .login && x.credential = some n
    | none => false
  if own && roleBusy s roles self then fails 0x0211 s
  else
    let s := modTrust (fun t => { t with credentials := Tbl.put t.credentials n new }) s
    let s := if own then modTrust (fun t => { t with sessions := Tbl.update t.sessions self fun x => { x with roles := roles } }) s else s
    let s := recordCredential 0x11 n 0 new.name e s
    answers [] (if changed then endCredentialSessions n (if own then some self else none) s else s)

/-- CREDENTIAL_SET (R45, R66): the Owner for any credential, any session for its own password. -/
def cmdCredentialSet : Command where
  issuers := { session := true }
  body e s :=
    let name := e.slice 0 32
    let roles := e.field 32 1
    match sealedAt e.payload 33 with
    | none => fails stBadArgument s
    | some f =>
      let flags := e.field f.next 1
      let keep := hasBit flags 0
      let have_ := credentialByName s name
      let password := (f.open e).getD []
      if e.payload.length != f.next + 1 || !nameOk name || roles = 0 || 32 ≤ roles || 2 ≤ flags || (f.open e).isNone ||
          (if keep then have_.isNone else !passwordOk password) then fails stBadArgument s
      else
        let isOwner := hasBit e.roles 4
        match have_ with
        | some (n, c) =>
          let mine := issuerKind e.issuer = 2 && issuerIndex e.issuer = n
          if !isOwner && !(mine && roles = c.roles && !keep) then fails stDenied s
          else
            let fresh := newCredential s name roles password
            let new := if keep then { c with roles := roles } else { c with roles := roles, salt := fresh.salt, tag := fresh.tag }
            if !ownerLeft (Tbl.put s.trust.credentials n new) then fails 0x0214 s
            else setCredential e n roles new (!keep || roles != c.roles) (if keep then s else afterDraw s)
        | none =>
          if !isOwner then fails stDenied s
          else
            match Tbl.lowestFree s.trust.credentials 64 with
            | none => fails 0x0217 s
            | some n => setCredential e n roles (newCredential s name roles password) true (afterDraw s)

/-- CREDENTIAL_REMOVE (R52, R53, R66). -/
def cmdCredentialRemove : Command where
  issuers := roleOnly owner
  body := sized 32 fun e s =>
    match credentialByName s e.payload with
    | none => fails stBadArgument s
    | some (n, c) =>
      if !ownerLeft (Tbl.erase s.trust.credentials n) then fails 0x0214 s
      else
        let s := modTrust (fun t => { t with credentials := Tbl.erase t.credentials n }) s
        let own := (Tbl.find s.trust.sessions e.session).any fun x => x.kind = .login && x.credential = some n
        let after (t : State) : State :=
          let t := endCredentialSessions n (some e.session) t
          if own then endOwn e t else t
        thenAfter e [] after (recordCredential 0x11 n 1 c.name e s)

/-! ### Enrolment and the anchor (R41, R42) -/

/-- An anchor object signed by the keys given, and certificates that it signs: none when all are accepted (R37). -/
def enrolCheck (s : State) (ec pq anchor : Bytes) (certs : List Bytes) : Option Nat :=
  let k := trustedKey anchor
  let low (type : Nat) (b : Bytes) : Bool := objectVersion b < floorOf s type (objectSigner b)
  let good := objectFormOk anchor && objectType anchor = 0x30 && objectSigner anchor = keyId ec ++ keyId pq && signedBy ec pq anchor &&
    certs.all fun c => objectFormOk c && objectType c = 0x31 && objectSigner c = k.ecId ++ k.pqId && signedBy k.ecKey k.pqKey c
  if !good then some stIntegrity else if low 0x30 anchor || certs.any (low 0x31) then some 0x0215 else none

/-- The anchor and the certificates under it installed, and their floors raised. -/
def installAnchor (anchor : Bytes) (certs : List Bytes) (s : State) : State :=
  let s := modTrust (fun t => { t with anchor := some (trustedKey anchor), certificates := certs.map trustedKey }) s
  certs.foldl (fun t c => raiseFloor 0x31 (objectSigner c) (objectVersion c) t) (raiseFloor 0x30 (objectSigner anchor) (objectVersion anchor) s)

/-- A restart of the module is due within 100 ms (R101). -/
def dueRestart (s : State) : State := modModule (fun m => { m with restartDue := some (s.time + milli 100) }) s

/-- ENROL_INSTALL (R41, R42): anchor, certificates and the first Owner credential; then the session ends and the module restarts. -/
def cmdEnrolInstall : Command where
  issuers := { enrolment := true, preLogin := true }
  body e s :=
    if !(unenrolled s) then fails stRefused s
    else
      match splitObjects 17 e.payload with
      | (anchor :: cert :: certs, rest) =>
        match sealedAt rest 32 with
        | some f =>
          match f.open e with
          | some password =>
            if rest.length != f.next || !nameOk (rest.take 32) || !passwordOk password then fails stBadArgument s
            else
              let k := trustedKey anchor
              match enrolCheck s k.ecKey k.pqKey anchor (cert :: certs) with
              | some status => fails status s
              | none =>
                let c := newCredential s (rest.take 32) 16 password
                let s := modTrust (fun t => { t with credentials := Tbl.put t.credentials 0 c }) (afterDraw (installAnchor anchor (cert :: certs) s))
                thenAfter e [] (fun t => dueRestart (endOwn e t)) (recordCredential 0x11 0 0 c.name e s)
          | none => fails stBadArgument s
        | none => fails stBadArgument s
      | _ => fails stBadArgument s

/-- ANCHOR_ROTATE (R42, R58): the new anchor signed by the present one, and certificates re-issued under it. -/
def cmdAnchorRotate : Command where
  issuers := roleOnly owner
  body e s :=
    match splitObjects 17 e.payload, s.trust.anchor with
    | (anchor :: certs, []), some a =>
      if s.module.state != .maintenance then fails stRefused s
      else if s.trust.ownerLock then fails 0x0212 s
      else
        match enrolCheck s a.ecKey a.pqKey anchor certs with
        | some status => fails status s
        | none => answers [] (installAnchor anchor certs s)
    | _, _ => fails stBadArgument s

/-! ### Sessions (R50 to R53) -/

/-- Kinds and numbers of sessions. -/
def Session.awaits (x : Session) : Bool := x.kind = .preLogin
def Session.counts (x : Session) : Bool := x.kind = .login || x.kind = .peer

/-- Sessions that count toward the 64. -/
def sessionCount (s : State) : Nat := (s.trust.sessions.filter fun x => x.2.counts).length

/-- The number of a new session context: the first unused one from a drawn start (log entry 1). -/
def freeSession (s : State) : Nat :=
  ((List.range 256).map fun k => (drawn s + k) % 256).find? (fun n => !Tbl.has s.trust.sessions n) |>.getD 256

/-- A session opened, with the binding signature sent as its first record (R51). -/
def openSession (x : Session) (s : State) : State :=
  let n := freeSession s
  let s := modTrust (fun t => { t with sessions := Tbl.put t.sessions n x }) (afterDraw s)
  emit (.binding n (signPq s (Config.tlsExporter x.secret (ascii "KXE pq binding")))) s

/-- Whether the module serves external sessions: it has a mailbox interface, and Reel carries their segments (R31). -/
def servesSessions (s : State) : Bool := hasMailbox s && s.module.reelDownSince.isNone

/-- Event TLS_SESSION_OPEN (R41, R50). Un-enrolled: one session at a time, on port X14 (20). Enrolled: at most 8 awaiting login. -/
def execTlsSessionOpen (port source : Nat) (s : State) : Out :=
  let admitted := servesSessions s && (if unenrolled s then port = 20 && s.trust.sessions.isEmpty
    else (s.trust.sessions.filter fun x => x.2.awaits).length < 8)
  if admitted then
    .next (openSession ⟨if unenrolled s then .enrolment else .preLogin, port, source, none, 0, none, s.time, s.time, localSeconds s, s.time, drawn s⟩
      (afterDraw s))
  else .next s

/-- Event SESSION_STREAM_ERROR (R85): the session ends. -/
def execSessionStreamError (n : Nat) (s : State) : Out := .next (endSession n s)

/-- Event PRE_LOGIN_TIMEOUT (R50): 30 s without a login end the session. -/
def execPreLoginTimeout (n : Nat) (s : State) : Out :=
  match Tbl.find s.trust.sessions n with
  | some x => if x.awaits then .next (endSession n (reach (x.openedAt + second 30) s)) else .next s
  | none => .next s

/-- Event SESSION_IDLE_TIMEOUT (R52). -/
def execSessionIdleTimeout (n : Nat) (s : State) : Out :=
  match Tbl.find s.trust.sessions n with
  | some x => if x.awaits then .next s else .next (endSession n (reach (x.lastCommand + second s.trust.idleLimit) s))
  | none => .next s

/-- Event SESSION_LIFETIME_EXPIRY (R52): 12 h after login. -/
def execSessionLifetimeExpiry (n : Nat) (s : State) : Out :=
  match Tbl.find s.trust.sessions n with
  | some x => if x.kind = .login then .next (endSession n (reach (x.loginAt + second 43200) s)) else .next s
  | none => .next s

/-- SESSION_END (R53): its own session after the completion, or, for an Owner, any. -/
def cmdSessionEnd : Command where
  issuers := { session := true }
  body := sized 2 fun e s =>
    let n := e.field 0 2
    if n = 0xFFFF || e.origin = some n then thenAfter e [] (endOwn e) s
    else if !hasBit e.roles 4 then fails stDenied s
    else if Tbl.has s.trust.sessions n then answers [] (endSession n s)
    else fails stBadArgument s

/-- The name that a session acts under. -/
def sessionName (s : State) (n : Nat) (x : Session) : Bytes :=
  match x.kind, x.context with
  | .peer, some c => padTo 32 ((Tbl.find s.trust.contexts c).map SaContext.peer |>.getD [])
  | _, _ => issuerName s (sessionIssuer n x)

/-- SESSION_LIST (R66): sessions after login and hardware sessions; kind 0 TLS, 1 hardware (log entry 45). -/
def cmdSessionList : Command where
  issuers := roleOnly (maintainer + owner)
  body := sized 0 fun _ s =>
    let l := s.trust.sessions.filter fun x => x.2.counts
    answers (le 1 l.length ++ l.flatMap fun x =>
      le 2 x.1 ++ [Config.sessionKind (x.2.kind = .peer)] ++ sessionName s x.1 x.2 ++ le 1 x.2.roles ++ le 8 x.2.loginTai) s

/-! ### Login (R46 to R48) -/

/-- Login attempts of a source within the last 60 s. -/
def recentAttempts (s : State) (source : Nat) : Nat := (s.trust.attempts.filter fun a => a.1 = source && s.time < a.2 + second 60).length

/-- A SESSION_LOGIN received counts toward its source's rate, whatever its outcome. -/
def countAttempt (n : Nat) (s : State) : State :=
  match Tbl.find s.trust.sessions n with
  | some x =>
    let kept := s.trust.attempts.filter fun a => s.time < a.2 + second 60
    modTrust (fun t => { t with attempts := kept ++ [(x.source, s.time)] }) s
  | none => s

/-- Source address of a session. -/
def sessionSource (s : State) (n : Nat) : Nat := ((Tbl.find s.trust.sessions n).map Session.source).getD 0

/-- The credential that a login names is locked. -/
def loginLocked (s : State) (name : Bytes) : Bool := (credentialByName s name).any fun c => s.time < c.2.lockedUntil

/-- A login that is refused without an Argon2id evaluation: source over its rate, or credential locked. -/
def loginBarred (s : State) (session : Nat) (name : Bytes) : Bool := 10 < recentAttempts s (sessionSource s session) || loginLocked s name

/-- Logins that hold or wait for the Argon2id evaluator. -/
def argonEntries (s : State) : List Entry := s.mbx.queue.filter fun e => e.phase = .holds .argon || e.phase = .waits .argon

/-- A failed login (R47): counted, recorded, and from the fifth on the credential locks. -/
def loginFailed (e : Entry) (s : State) : State :=
  let name := e.slice 0 32
  match credentialByName s name with
  | none => recordCredential 0x10 0xFFFF 0 name e s
  | some (n, c) =>
    let k := c.failures + 1
    let s := recordCredential 0x10 n 0 name e (modCredential n (fun c => { c with failures := k }) s)
    if k < 5 then s
    else
      let until_ := s.time + second (min (60 * 2 ^ (k - 5)) 86400)
      recordCredential 0x10 n 1 name e (modCredential n (fun c => { c with lockedUntil := until_ }) s)

/-- A login whose password verifies (R44, R47): the count is reset and, unless the roles are busy, the session is logged in. -/
def loginPassed (e : Entry) (n : Nat) (c : Credential) (s : State) : State :=
  let s := modCredential n (fun c => { c with failures := 0 }) s
  let self := e.session
  if roleBusy s c.roles self then completeEntry e.id 0x0211 [] s
  else
    let login (x : Session) : Session :=
      { x with kind := .login, credential := some n, roles := c.roles, loginAt := s.time, loginTai := localSeconds s, lastCommand := s.time }
    completeEntry e.id stOk (le 1 c.roles ++ le 2 self ++ le 2 s.trust.idleLimit)
      (modTrust (fun t => { t with sessions := Tbl.update t.sessions self login }) s)

/-- The next waiting login is granted the evaluator; those whose credential has locked meanwhile complete without it. -/
def grantArgon : List Entry → State → State
  | [], s => s
  | e :: rest, s =>
    if loginLocked s (e.slice 0 32) then grantArgon rest (completeEntry e.id 0x0210 [] s)
    else modEntry e.id (fun x => { x with phase := .holds .argon }) s

/-- A further session would be more than the 64: those open, and those that the logins under evaluation can make (R50, log entry 131). -/
def sessionsFull (s : State) : Bool := 64 ≤ sessionCount s + (argonEntries s).length

/-- SESSION_LOGIN (R47): its evaluation ends at ARGON2ID_DONE. -/
def cmdSessionLogin : Command where
  issuers := { preLogin := true, enrolment := true }
  busy s issuer payload :=
    !(unenrolled s) && (sessionsFull s || !loginBarred s (issuerIndex issuer) (payload.take 32) && 5 ≤ (argonEntries s).length)
  body e s :=
    match sealedAt e.payload 32 with
    | none => fails stBadArgument s
    | some f =>
      if e.payload.length != f.next || (f.open e).isNone then fails stBadArgument s
      else if unenrolled s then fails stRefused s
      else if loginBarred s e.session (e.slice 0 32) then fails 0x0210 s
      else if (argonEntries s).isEmpty then (s, .goesOn (.holds .argon) false)
      else (s, .goesOn (.waits .argon) false)

/-- Event ARGON2ID_DONE (R46): the login under evaluation is decided and the next one begins. -/
def execArgon2idDone (s : State) : Out :=
  match s.mbx.queue.find? fun e => e.phase = .holds .argon with
  | none => .next s
  | some e =>
    let password := ((sealedAt e.payload 32).bind fun f => f.open e).getD []
    let decided := match credentialByName s (e.slice 0 32) with
      | some (n, c) =>
        if c.tag = Config.argon2id c.salt password then loginPassed e n c s else completeEntry e.id 0x0216 [] (loginFailed e s)
      | none => completeEntry e.id 0x0216 [] (loginFailed e s)
    .next (grantArgon (decided.mbx.queue.filter fun q => q.phase = .waits .argon) decided)

/-- Event CREDENTIAL_LOCK_EXPIRY (R47): the credential is usable again. -/
def execCredentialLockExpiry (n : Nat) (s : State) : Out :=
  match Tbl.find s.trust.credentials n with
  | some c =>
    if c.lockedUntil = 0 then .next s
    else .next (modCredential n (fun c => { c with lockedUntil := 0 }) (reach c.lockedUntil s))
  | none => .next s

/-! ### Security-association contexts (R54 to R57) -/

/-- Contexts that IEEE 802.1AE uses. -/
def macsecContexts (s : State) : Nat := (s.trust.contexts.filter fun c => c.2.purpose = 1).length

/-- The lowest-numbered Free context for a purpose (R55). -/
def freeContext (s : State) (purpose : Nat) : Option Nat :=
  if purpose = 1 && 64 ≤ macsecContexts s then none else Tbl.lowestFree s.trust.contexts 256

/-- A context changed. -/
def modContext (n : Nat) (f : SaContext → SaContext) (s : State) : State :=
  modTrust (fun t => { t with contexts := Tbl.update t.contexts n f }) s

/-- A context retires: receive only for 2 s (Table 2.6). -/
def drain (n : Nat) (s : State) : State := modContext n (fun c => { c with state := .draining, drainEnd := s.time + second 2 }) s

/-- The Live context of a purpose, binding and peer. -/
def liveContext (s : State) (x : SaContext) (but : Nat) : Option Nat :=
  (s.trust.contexts.find? fun c => c.1 != but && c.2.state = .live && c.2.purpose = x.purpose && c.2.binding = x.binding && c.2.peer = x.peer).map Prod.fst

/-- What names a context goes over to its successor: the flows that it protects, and its hardware session (log entry 46). -/
def moveContext (old new : Nat) (s : State) : State :=
  let flow (f : Flow) : Flow := if f.record.context = old && f.record.auth then { f with record := { f.record with context := new }, authSent := 0 } else f
  let session (x : Session) : Session := if x.context = some old then { x with context := some new } else x
  modTrust (fun t => { t with sessions := t.sessions.map fun p => (p.1, session p.2) })
    (modNet (fun n => { n with flows := n.flows.map fun p => (p.1, flow p.2) }) s)

/-- A context goes Live: a Live predecessor of the same binding retires in the same step (R56). -/
def goLive (n : Nat) (s : State) : State :=
  match Tbl.find s.trust.contexts n with
  | none => s
  | some x =>
    let s' := modContext n (fun c => { c with state := .live, since := s.time, messages := 0 }) s
    match liveContext s x n with
    | some old => moveContext old n (drain old s')
    | none => s'

/-- A context installed in the Keyed state. -/
def keyContext (n : Nat) (x : SaContext) (s : State) : State := modTrust (fun t => { t with contexts := Tbl.put t.contexts n x }) s

/-- Roles mapped to a peer module, with the context of the mapping (R50). -/
def peerMapping (s : State) (peer : Bytes) : Option (Nat × SaContext) :=
  s.trust.contexts.find? fun c => c.2.purpose = 3 && c.2.state = .live && c.2.peer = peer

/-- The roles of a set that a session may hold: the Owner and the Safety commissioner role only while no other session holds them (R44, log
entry 132). -/
def grantable (s : State) (roles self : Nat) : Nat :=
  let taken (mask : Nat) : Bool := s.trust.sessions.any fun x => x.1 != self && x.2.roles &&& mask != 0
  roles &&& (31 - (if taken owner then owner else 0) - (if taken safety then safety else 0))

/-- A hardware session holds the roles that are mapped to its peer now. -/
def remapPeer (n : Nat) (s : State) : State :=
  match Tbl.find s.trust.sessions n with
  | none => s
  | some x =>
    match x.kind, x.context.bind fun c => Tbl.find s.trust.contexts c with
    | .peer, some c =>
      let map := peerMapping s c.peer
      let y := { x with credential := map.map Prod.fst, roles := grantable s ((map.map fun m => m.2.roles).getD 0) n }
      modTrust (fun t => { t with sessions := Tbl.put t.sessions n y }) s
    | _, _ => s

/-- The hardware sessions hold the roles that are mapped to their peers now. -/
def remapPeers (s : State) : State := (s.trust.sessions.map Prod.fst).foldl (fun t n => remapPeer n t) s

/-- SA_INSTALL (R55): an association of IEEE 802.1AE is Keyed until key agreement; a TRDP key and a role map are Live at once. -/
def cmdSaInstall : Command where
  issuers := roleOnly owner
  body e s :=
    let purpose := e.field 0 1
    let binding := e.field 1 4
    match sealedAt e.payload 5 with
    | none => fails stBadArgument s
    | some f =>
      let peer := e.slice f.next 16
      let roles := e.field (f.next + 16) 1
      match f.open e with
      | none => fails stBadArgument s
      | some key =>
        if e.payload.length != f.next + 17 || purpose = 0 || 3 < purpose || purpose = 1 && 28 ≤ binding || 32 ≤ roles then fails stBadArgument s
        else
          match freeContext s purpose with
          | none => fails 0x0213 s
          | some n =>
            let x : SaContext := ⟨.keyed, purpose, if purpose = 3 then 0 else binding, key, peer, if purpose = 3 then roles else 0, s.time, 0, 0⟩
            let s := keyContext n x s
            if purpose = 1 then answers (le 2 n) (modTrust (fun t => { t with cak := Tbl.put t.cak binding key }) s)
            else answers (le 2 n) (remapPeers (goLive n s))

/-- SA_RELEASE (R54, R58): a Keyed context is Free at once, a Live one drains. DESIGN CHOICE: the connectivity association key of an IEEE
802.1AE port stays, so a later agreement keys a Free context again (log entry 133). -/
def cmdSaRelease : Command where
  issuers := roleOnly owner
  body := sized 2 fun e s =>
    let n := e.field 0 2
    match Tbl.find s.trust.contexts n with
    | none => fails stBadArgument s
    | some x =>
      if s.trust.ownerLock && x.purpose = 1 && x.binding < 4 then fails 0x0212 s
      else
        match x.state with
        | .keyed => answers [] (modTrust (fun t => { t with contexts := Tbl.erase t.contexts n }) s)
        | .live => answers [] (remapPeers (drain n s))
        | .draining => answers [] s

/-- Event SA_DRAIN_END (R54): the context is Free and its key slot zeroised. -/
def execSaDrainEnd (n : Nat) (s : State) : Out :=
  match Tbl.find s.trust.contexts n with
  | some x =>
    if x.state = .draining then .next (modTrust (fun t => { t with contexts := Tbl.erase t.contexts n }) (reach x.drainEnd s)) else .next s
  | none => .next s

/-- Event SA_REKEY_LIMIT (R57): before 2³² messages or 24 h a successor is keyed and goes Live; with no Free context the context
retires without one. -/
def execSaRekeyLimit (n : Nat) (s : State) : Out :=
  match Tbl.find s.trust.contexts n with
  | some x =>
    if x.state = .live && (x.purpose = 2 || x.purpose = 4) then
      let s := if x.messages < 2 ^ 32 then reach (x.since + second 86400) s else s
      match freeContext s x.purpose with
      | some m => .next (goLive m (afterDraw (keyContext m { x with state := .keyed, key := le 32 (drawn s), since := s.time, messages := 0 } s)))
      | none => .next (drain n s)
    else .next s
  | none => .next s

/-- Event MKPDU_RECEIVE (R57): when key agreement under the port's connectivity association key has agreed a secure association key, it is
loaded into the Keyed context of the port, or into a Free one, which goes Live (R56). -/
def execMkpduReceive (port key : Nat) (agreed : Bool) (s : State) : Out :=
  if servesSessions s && agreed && Tbl.has s.trust.cak port then
    let x : SaContext := ⟨.keyed, 1, port, le 32 key, [], 0, s.time, 0, 0⟩
    match s.trust.contexts.find? fun c => c.2.purpose = 1 && c.2.binding = port && c.2.state = .keyed with
    | some (n, y) => .next (goLive n (keyContext n { y with key := le 32 key } s))
    | none =>
      match freeContext s 1 with
      | some n =>
        let peer := match s.trust.contexts.find? fun c => c.2.purpose = 1 && c.2.binding = port && c.2.state = .live with
          | some c => c.2.peer
          | none => []
        .next (goLive n (keyContext n { x with peer := peer } s))
      | none => .next s
  else .next s

/-- Event HARDWARE_SESSION_OPEN (R50, R51): both sides have presented peer key certificates; an unverified binding ends the session. -/
def execHardwareSessionOpen (peer : Bytes) (certified bound : Bool) (s : State) : Out :=
  match freeContext s 4 with
  | none => .next s
  | some c =>
    if servesSessions s && !(unenrolled s) && certified && !sessionsFull s then
      let s := noteUnchecked 0x31 peer s
      let key := le 32 (drawn s)
      let s := afterDraw s
      let map := peerMapping s peer
      let n := freeSession s
      let roles := grantable s ((map.map fun m => m.2.roles).getD 0) n
      let x : Session := ⟨.peer, 28, 0, map.map Prod.fst, roles, some c, s.time, s.time, localSeconds s, s.time, drawn s⟩
      let s := openSession x (goLive c (keyContext c ⟨.keyed, 4, n, key, peer, 0, s.time, 0, 0⟩ s))
      .next (if bound then s else endSession n s)
    else .next s

/-! ### Owner lock, tamper and the Lull domain (R58 to R63) -/

/-- OWNER_LOCK (R58, R59): every change is recorded; a set lock ends Test. -/
def cmdOwnerLock : Command where
  issuers := roleOnly owner
  body := sized 1 fun e s =>
    let v := e.field 0 1
    let previous := s.trust.ownerLock
    if 1 < v then fails stBadArgument s
    else
      let s := modTrust (fun t => { t with ownerLock := v = 1 }) s
      let s := if previous = (v = 1) then s else custody 0 (le 1 v ++ issuerName s e.issuer) s
      answers (le 1 (bit previous)) (testGate s)

/-- TAMPER_ACKNOWLEDGE (R63). -/
def cmdTamperAcknowledge : Command where
  issuers := roleOnly owner
  body := sized 0 fun e s =>
    if !latchSet s || s.module.state != .maintenance then fails stRefused s
    else
      let result := le 8 s.trust.lull.tamperTime ++ le 1 (latchBits s)
      let s := custody 2 (le 1 (latchBits s) ++ issuerName s e.issuer ++ le 8 (localSeconds s)) s
      answers result (modLull (fun l => { l with tamper := false, powerLoss := false, reported := false, reportedLoss := false }) s)

/-- LULL_STATUS (R60). -/
def cmdLullStatus : Command where
  issuers := anyOrLanes
  body := sized 0 fun _ s => answers (le 8 (lullNow s) ++ le 2 s.trust.lull.cellMv ++ le 1 (latchBits s + 4 * bit s.trust.lull.cellLow)) s

/-- Event CASE_OPEN_SAMPLE (R61): a sample that finds the case open sets the latch with the clock's value at that sample. -/
def execCaseOpenSample (isOpen : Bool) (s : State) : Out :=
  let now := lullNow s
  .next (modLull (fun l => if isOpen then { l with caseOpen := true, tamper := true, tamperTime := now } else { l with caseOpen := false }) s)

/-- A latch is set that has not been found before. -/
def latchNew (s : State) : Bool :=
  let l := s.trust.lull
  l.tamper && !l.reported || l.powerLoss && !l.reportedLoss

/-- Event LULL_LATCH_READ (R62): while the module is powered, a latch found set is recorded once and sets its diagnostic flag. -/
def execLullLatchRead (s : State) : Out :=
  if s.module.state != .stowed && latchNew s then
    .next (modLull (fun l => { l with reported := l.tamper, reportedLoss := l.powerLoss })
      (custody 1 (le 1 (latchBits s) ++ le 8 s.trust.lull.tamperTime) s))
  else .next s

/-- Event CELL_MEASUREMENT (R60), while the module is powered: below 2.5 V the cell is low and one record is written; from 2.6 V on it is
not. -/
def execCellMeasurement (mv : Nat) (s : State) : Out :=
  if s.module.state != .stowed then
    let low := s.trust.lull.cellLow
    let s := modLull (fun l => { l with cellMv := mv, cellLow := if mv < 2500 then true else if 2600 ≤ mv then false else low }) s
    .next (if mv < 2500 && !low then custody 3 (le 2 mv) s else s)
  else .next s

end Sys2Proof.Machine
end

