-- ==== Sys2Proof/Machine/Start.lean ====
section
/-! DEFINITION. Program start, restart and recut (chapter 6): the checks of a start, the state that it gives, and the switch to a new
image. -/

namespace Sys2Proof.Machine

/-! ### Translations (R187, R188) -/

/-- Version of a component of the firmware set in a slot: 0 Slate, 1 Reel, 2 lane runtime, 3 Cutter, 4 settings schema. -/
def componentVersion (s : State) (slot c : Nat) : Nat := Tbl.get s.module.versions (16 * slot + c) (Config.deliveredVersion slot c)

/-- The Cutter version that runs. -/
def cutterVersion (s : State) : Nat := componentVersion s s.module.firmwareSlot 3

/-- The usable cache entries of an image. -/
def cacheEntries (s : State) (digest : Bytes) : List CacheEntry :=
  s.prog.cache.filter fun c => c.digest = digest && c.cutter = cutterVersion s && c.revision = Config.hardwareRevision

/-- All three lanes' translations of an image are in the cache. -/
def translated (s : State) (digest : Bytes) : Bool := [0, 1, 2].all fun l => (cacheEntries s digest).any fun c => c.lane = l

/-- W_k: the largest of the three lanes' worst-case response times, ns. -/
def responseBound (s : State) (digest : Bytes) (task : Nat) : Nat :=
  (cacheEntries s digest).foldl (fun m c => max m (Tbl.get c.translation.w task 0)) 0

/-- The translations of an image are loaded: their entries are used now (R188). -/
def useEntries (digest : Bytes) (s : State) : State :=
  modProg (fun p => { p with cache := p.cache.map fun c => if c.digest = digest then { c with used := s.time } else c }) s

/-- The translated image of a slot. -/
def translatedImage (s : State) (n : Nat) : Option Image :=
  (slotOf s n).image.filter fun _ => (slotOf s n).state = 2 && translated s (slotOf s n).digest

/-- The Program axis where no program runs. -/
def idleAxis (s : State) : ProgramState := if (slotOf s s.prog.slot).state = 2 then .stopped else .empty
def settleAxis (s : State) : State := if programRuns s then s else modProg (fun p => { p with state := idleAxis s }) s

/-! ### Bindings (R162, R211, R419, R430, R458) -/

/-- Size of the variable of an identity. -/
def sizeOfIdentity (i : Image) (id : Nat) : Nat := ((i.byIdentity id).map fun p => p.2.size).getD 0

/-- A slot that the image may bind: configured in the direction, of the length, and no map's. -/
def slotResolves (s : State) (n : Nat) (publishes : Bool) (size : Nat) : Bool :=
  match flowOf s n with
  | some f => f.record.publishes = publishes && f.record.length = size && (slotMaps s n).isEmpty
  | none => false

/-- A port of the bridge that the image may bind: 1 as a source, 2 as a sink (Table 12.1). -/
def portResolves (s : State) (h direction size : Nat) : Bool :=
  match mvbPort s h with
  | some p => p.record.direction = direction && p.record.bytes = size
  | none => false

/-- One input binding of a task resolves. -/
def inputResolves (s : State) (i : Image) (b : InputBinding) : Bool :=
  let size := sizeOfIdentity i b.target
  match b.kind with
  | 1 => slotResolves s b.source false size
  | 2 => (chanOf s b.source).configured
  | 4 => portResolves s b.source 2 size
  | 5 => (sourceOf s b.source).origin != 0
  | _ => true

/-- One output binding resolves. -/
def outputResolves (s : State) (i : Image) (b : OutputBinding) : Bool :=
  let size := sizeOfIdentity i b.source
  match b.kind with
  | 1 => slotResolves s b.target true size
  | 2 => b.target < 8
  | _ => portResolves s b.target 1 size && !fedByMap s b.target

/-- No activation source is bound by two tasks. -/
def sourcesApart (i : Image) : Bool :=
  (List.range 128).all fun n => (i.tasks.filter fun t => (taskInputs i t).any fun b => b.kind = 5 && b.source = n).length ≤ 1

/-- Every binding resolves, and the telegram rates stay within R396. -/
def bindingsResolve (s : State) (i : Image) : Bool :=
  i.inputs.all (inputResolves s i) && i.outputs.all (outputResolves s i) && sourcesApart i && ratesFit s (some i) (enabledRecords s)

/-! ### Fit (R111, R226) -/

/-- Whether base + d_k + 2s + W_k + 5 µs lies within a limit in µs; `extra` is in half-nanoseconds divided by 1024. -/
def fitsWithin (stagger w size extra limitUs : Nat) : Bool :=
  1024 * (micro 10 + 2 * micro stagger + 2 * w + micro 5) + 160 * size + extra ≤ 1024 * micro limitUs

/-- A task fits a stagger. -/
def taskFits (s : State) (i : Image) (digest : Bytes) (stagger : Nat) (t : TaskRec) : Bool :=
  fitsWithin stagger (responseBound s digest t.task) (snapshotSize i (taskInputs i t)) 0 t.deadline

/-- The first task of an image that does not fit a stagger. -/
def misfit (s : State) (i : Image) (digest : Bytes) (stagger : Nat) : Option TaskRec := i.tasks.find? fun t => !taskFits s i digest stagger t

/-! ### Pair checks (R237, R238) -/

/-- Cycle of a task, or the minimum interarrival of an event task, µs. -/
def TaskRec.period (t : TaskRec) : Nat := if t.event then t.interarrival else t.cycle

/-- B_k of a task with a force table. -/
def copyBytes (i : Image) (forces : Tbl Force) (t : TaskRec) : Nat :=
  let owned (f : Nat × Force) : Bool := match i.byIdentity f.2.identity with
    | some p => p.2.owner = t.task
    | none => false
  let kept := i.symbols.filter fun y => y.owner = t.task && (y.mirrored || y.retentive)
  16 + snapshotSize i (taskInputs i t) + 96 * (forces.filter owned).length + 2048 * ((List.range 16).filter (hasBit t.channels)).length + 48 +
    12 * ((taskOutputs i t).filter fun b => b.kind = 1).length + 8 * (i.cues.filter fun b => b.task = t.task).length +
    (kept.map fun y => 11 + y.size).sum

/-- Σ B_k / T_k ≤ 800 bytes/µs, over the common multiple of the periods. -/
def budgetFits (i : Image) (forces : Tbl Force) : Bool :=
  let l := i.tasks.foldl (fun l t => Nat.lcm l (max 1 t.period)) 1
  (i.tasks.map fun t => copyBytes i forces t * (l / max 1 t.period)).sum ≤ 800 * l

/-- The supervision fit and the hold fit. -/
def supervisionFits (s : State) (i : Image) : Bool :=
  match supervisedTask s i with
  | none => false
  | some p =>
    let held (t : TaskRec) : Bool := t.period + 2 * t.deadline + t.offset + 2 * p.cycle + p.deadline + 800 ≤ 1000 * s.pair.holdMs
    !p.event && p.offset + p.deadline ≤ 9400 &&
      i.tasks.all fun t => (t.task != p.task && !((taskOutputs i t).any fun b => b.kind = 2)) || held t

/-! ### The checks of a start (R211) -/

/-- The image version of a slot is below its floor (R150). -/
def belowFloor (s : State) (x : ImageSlot) : Bool := x.version < floorOf s 0x10 x.signer

/-- The status with which a start of a slot is refused, if it is. -/
def startRefusal (s : State) (slot : Nat) : Option Nat :=
  let up : Bool := s.module.state = .service || s.module.state = .maintenance
  if !up || latchSet s || programRuns s || s.prog.stopping.isSome || (s.pair.enabled && s.pair.role = .standby) then some stRefused
  else
    match translatedImage s slot with
    | none => some 0x0317
    | some i =>
      let x := slotOf s slot
      if belowFloor s x then some 0x0215
      else if !bindingsResolve s i then some 0x0312
      else if (misfit s i x.digest s.voter.staggerSet).isSome then some 0x0311
      else if s.pair.enabled && !budgetFits i s.prog.forces then some 0x0512
      else if s.pair.enabled && !supervisionFits s i then some 0x0514
      else none

/-! ### Warm sources (R216) -/

/-- The exports of all tasks from a lane. -/
def laneExport (i : Image) (x : LaneSt) : Bytes := i.tasks.flatMap fun r => exportBytes i r x

/-- A lane whose memory can serve a restart. -/
def memoryServes (x : LaneSt) : Bool := x.state = .stopped && !x.stale && !x.memoryError

/-- Lanes whose memory can serve a restart of an image. -/
def memoryLanes (s : State) (digest : Bytes) : List Lane :=
  if s.prog.warmDigest = some digest then Lane.all.filter fun l => memoryServes (laneOf s l) else []

/-- The export on which at least two lanes agree. -/
def agreedLane (s : State) (i : Image) (digest : Bytes) : Option Lane :=
  let l := memoryLanes s digest
  let sum (x : Lane) : Nat := crc64 (laneExport i (laneOf s x))
  l.find? fun p => l.any fun q => p != q && sum p = sum q

/-- Where a warm start takes its state from. -/
inductive WarmSource where
  | lane (l : Lane)
  | partner
  | absent
  deriving DecidableEq, Repr

/-- The first source that is available. -/
def warmSource (s : State) (slot : Nat) (i : Image) : WarmSource :=
  let digest := (slotOf s slot).digest
  match agreedLane s i digest with
  | some l => .lane l
  | none =>
    if s.pair.present && s.pair.partnerRunning = digest && i.tasks.all fun t => Tbl.has s.pair.resyncExports t.task then .partner else .absent

/-! ### State of the lanes at a start (R213, R215, R216) -/

/-- A lane that starts with the others. -/
def LaneSt.ready (x : LaneSt) : LaneSt :=
  { x with state := .voting, hold := false, oneAttempt := false, reshoot := [], takes := [], versions := [], kept := [], stale := false,
           memoryError := false, actReady := 0, actCommits := [] }

/-- A lane's state after a cold start: initial values but for the retentive ones, tokens from 1. -/
def LaneSt.cold (i : Image) (kept : List (Nat × Bytes)) (x : LaneSt) : LaneSt :=
  let vars := ((List.range i.symbols.length).zip i.symbols).filterMap fun p => (valueById kept p.2.identity).map fun v => (p.1, v)
  { x with vars := vars, heldInputs := [], nextToken := [], tracked := [], seenEpoch := [] }

/-- A lane that imports the state of all tasks from exports. -/
def LaneSt.imports (i : Image) (now : Nat) (exports : Nat → Bytes) (x : LaneSt) : LaneSt :=
  i.tasks.foldl (fun x r => importRecords i r now (parseRecords i (exports r.task).length (exports r.task)) x) x

/-- The token tables of the voted channels, their slots and shadows, and the completions that wait, are emptied (R213). -/
def coldMailbox (s : State) : State :=
  modMbx (fun m => { m with tables := m.tables.filter fun t => issuerKind t.1 != 1, completions := [], paired := []
                            lanes := m.lanes.map fun _ w => { w with shadow := [], channels := w.channels.map fun c =>
                              (c.1, { c.2 with credits := [], ready := [], slot0 := {}, slot1 := {}, slot2 := {}, slot3 := {} }) } }) s

/-- Shadow entries of the earlier run: no take of the new one popped or fetched them. -/
def warmShadow (s : State) : State :=
  modMbx (fun m => { m with lanes := m.lanes.map fun _ w => { w with shadow := w.shadow.map fun e =>
    { e with popped := (e.popped.1, 0), fetched := none } } }) s

/-- The retentive values that the lanes hold, and the mirrored and retentive ones (R218, R244). -/
def laneValues (i : Image) (x : LaneSt) (p : Symbol → Bool) : List (Nat × Bytes) :=
  (((List.range i.symbols.length).zip i.symbols).filter fun q => p q.2).map fun q => (q.2.identity, canonical i q.2 (x.value i q.1 q.2))

/-- The retentive and the mirror image as the first voting lane has them. -/
def takeImages (i : Image) (s : State) : State :=
  match Lane.all.find? fun l => (laneOf s l).state = .voting with
  | none => s
  | some l =>
    let x := laneOf s l
    modPair (fun p => { p with mirror := laneValues i x fun y => y.mirrored || y.retentive })
      (modProg (fun p => { p with retentive := laneValues i x Symbol.retentive, retentiveLoaded := true }) s)

/-- Lanes that are not Retired, changed. -/
def modStarting (f : Lane → LaneSt → LaneSt) (s : State) : State :=
  modVoter (fun v => { v with lanes := v.lanes.map fun l x => if x.state = .retired then x else f l x }) s

/-- The lanes' state under the restart rules, and whether it is a warm one. -/
def restartLanes (warm : Bool) (slot : Nat) (i : Image) (s : State) : Bool × State :=
  let source := if warm then warmSource s slot i else .absent
  match source with
  | .lane k =>
    let good := memoryLanes s (slotOf s slot).digest
    let sum := crc64 (laneExport i (laneOf s k))
    let from_ := laneOf s k
    (true, warmShadow (modStarting (fun l x =>
      let y := if good.contains l && crc64 (laneExport i x) = sum then x
        else LaneSt.imports i s.time (fun t => match taskRec i t with
          | some r => exportBytes i r from_
          | none => []) x
      y.ready) s))
  | .partner =>
    let exports := s.pair.resyncExports
    (true, warmShadow (modStarting (fun _ x => (x.imports i s.time fun t => Tbl.get exports t []).ready) s))
  | .absent =>
    let kept := loadedRetentives s i
    (false, coldMailbox (reportBanks (modStarting (fun _ x => (x.cold i kept).ready) s)))

/-! ### The start itself (R191, R211, R214) -/

/-- The first whole 10 ms of local time at least 2 ms ahead. -/
def startTime (s : State) : Nat :=
  let unit := 10000 * usUnit
  let least := localNow s + 2000 * usUnit
  unit * ((least + unit - 1) / unit)

/-- The tasks as a start leaves them: cyclic ones due at their offsets, with take number 1 to come. -/
def startTasks (i : Image) (flag : Nat) : Tbl TaskRun :=
  i.tasks.foldl (fun t r => Tbl.put t r.task { due := if r.event then none else some r.offset, firstFlag := flag }) []

/-- PROGRAM records (Table 15.2): event 0 start with kinds and fallback, 1 verification failed, 2 recut report, 3 carried identity
initialised, 4 channel without an owner (log entry 50). -/
def recordProgram (source : Nat) (payload : Bytes) (s : State) : State := record .general 6 source payload s

/-- Voting lanes after a start: with three, two-lane operation is over. -/
def settleLanes (s : State) : State :=
  modVoter (fun v => { v with
    twoLaneSince := if maskCount (votingMask s) = 3 then none else match v.twoLaneSince with
      | some t => some t
      | none => some s.time
    twoLaneExpired := v.twoLaneExpired && maskCount (votingMask s) != 3
    takes := [], stagger := v.staggerSet, epochAt := none }) s

/-- A program start commits (R211): T_start in local time, the epoch, the restart rules of the kind, and the first activations. -/
def startProgram (kind slot tLocal : Nat) (s : State) : State :=
  match (slotOf s slot).image with
  | none => s
  | some i =>
    let x := slotOf s slot
    let timer := timerNow s + tLocal - localNow s
    let s := modProg (fun p => { p with slot := slot, kindRequested := kind, tStartLocal := tLocal, tStartTimer := timer, tStart := timerInstant s timer }) s
    let s := raiseFloor 0x10 x.signer x.version (epochIncrement (closeTwoLane (useEntries x.digest s)))
    let r := restartLanes (kind = 1) slot i s
    let fell : Bool := kind = 1 && !r.1
    let s := modPair (fun p => { p with resyncExports := [] }) (takeImages i (settleLanes r.2))
    let s := writeDirectory slot (sourcesAtStart (cuesAtStart s))
    let s := modProg (fun p => { p with
      state := .running, kindPerformed := bit r.1, fellBack := fell, tasks := startTasks i (if r.1 then 8 else 4), recut := none,
      convertedAt := 0, stopping := none, warmDigest := some x.digest,
      noValidBank := if r.1 then false else p.noValidBank }) s
    let s := recordProgram 0xFFFF (le 1 0 ++ le 1 kind ++ le 1 (bit r.1) ++ le 1 (bit fell)) s
    if s.pair.role = .active then slipstream 2 (le 1 3 ++ le 1 (bit r.1) ++ le 8 (toNs tLocal) ++ padTo 48 x.digest) s else s

/-- START_AT_BOOT (R214): on the first entry to Service since boot. -/
def startAtBoot (s : State) : State :=
  if s.prog.startedAtBoot then s
  else
    let s := modProg (fun p => { p with startedAtBoot := true }) s
    if s.prog.startAtBoot = 0 || (startRefusal s s.prog.slot).isSome then s
    else startProgram (s.prog.startAtBoot - 1) s.prog.slot (startTime s) s

/-! ### Recut: conditions (R223, R226) -/

/-- What a recut must not change outside Maintenance at proven standstill: the safety tasks with their bindings and code, and the
variables with SAFETY. -/
def codeOf (i : Image) (entry : Nat) : List (Nat × Nat × Nat × List Nat × List Word64 × List Nat) :=
  (reached i i.functions.length [entry]).filterMap fun n => (i.functions[n]?).map fun f =>
    (n, f.params, f.results, f.locals, f.code, (f.instrs.flatMap KWord.ext).filterMap fun e => (i.symbols[e]?).map Symbol.identity)

/-- A task as it stands in an image. -/
def taskContent (i : Image) (t : TaskRec) :=
  ({ t with inputFirst := 0, outputFirst := 0 }, taskInputs i t, taskOutputs i t, i.cues.filter fun b => b.task = t.task, codeOf i t.entry)

/-- A variable as it stands in an image. -/
def symbolContent (i : Image) (y : Symbol) : List Nat × Bytes × Bytes :=
  ([y.identity, y.attributes, y.owner, y.substitute] ++ typeKey i.types y, i.initial y, i.default y)

/-- Safety content differs between two images. -/
def safetyChanged (a b : Image) : Bool :=
  let tasks (i : Image) := (i.tasks.filter TaskRec.safety).map (taskContent i)
  let vars (i : Image) := (i.symbols.filter Symbol.safe).map (symbolContent i)
  tasks a != tasks b || vars a != vars b

/-- The value that a variable of the new image takes from the old one, and whether its type is the same (Table 6.8). -/
def carried (a b : Image) (x : LaneSt) (y : Symbol) : Option (Bytes × Bool) :=
  (a.byIdentity y.identity).bind fun p => carryValue a.types b.types p.2 y (x.value a p.1 p.2) (b.initial y)

/-- The types of a carried identity allow its value to be carried, and are the same. -/
def carries (a b : Image) (y : Symbol) : Option Bool :=
  (a.byIdentity y.identity).bind fun p => (carryValue a.types b.types p.2 y (a.initial p.2) (b.initial y)).map Prod.snd

/-- A force is kept by a recut. -/
def forceKept (a b : Image) (f : Force) : Bool :=
  match a.byIdentity f.identity, b.byIdentity f.identity with
  | some o, some n => carries a b n.2 = some true && n.2.forcible && o.2.safe = n.2.safe
  | _, _ => false

/-- The carry-over report. -/
def carryCounts (a b : Image) (forces : Tbl Force) : CarryCounts where
  carried := (b.symbols.filter fun y => (carries a b y).isSome).length
  initialised := (b.symbols.filter fun y => (carries a b y).isNone).length
  discarded := (a.symbols.filter fun y => (b.byIdentity y.identity).isNone).length
  forcesKept := (forces.filter fun f => forceKept a b f.2).length
  forcesDropped := (forces.filter fun f => !forceKept a b f.2).length

/-- Carried canonical state in bytes. -/
def carriedBytes (a b : Image) : Nat := ((b.symbols.filter fun y => !y.constant && (carries a b y).isSome).map fun y => sizeOfIdentity a y.identity).sum

/-- V in half-nanoseconds divided by 1024: 50 µs + 0.5 µs per KiB. -/
def conversion1024 (bytes : Nat) : Nat := 1024 * micro 50 + 1000 * bytes

/-- A task passes the switch fit check. -/
def switchFits (s : State) (b : Image) (digest : Bytes) (bytes : Nat) (t : TaskRec) : Bool :=
  fitsWithin s.voter.stagger (responseBound s digest t.task) (snapshotSize b (taskInputs b t)) (conversion1024 bytes)
    ((if t.event then 0 else t.offset) + t.deadline)

/-- A cyclic task that could be in flight at a switch. -/
def overlaps (t : TaskRec) : Bool := !t.event && t.cycle < t.offset + t.deadline

/-- The task that fails a condition of a recut: none when all pass, 0xFF when no task is at fault. -/
def recutMisfit (s : State) (a b : Image) (digest : Bytes) : Option Nat :=
  if a.identity != b.identity then some 0xFF
  else
    match (a.tasks ++ b.tasks).find? overlaps with
    | some t => some t.task
    | none => (b.tasks.find? fun t => !switchFits s b digest (carriedBytes a b) t).map TaskRec.task

/-- Longest deadline of the event tasks, µs. -/
def guardLength (i : Image) : Nat := (i.tasks.filter TaskRec.event).foldl (fun g t => max g t.deadline) 0

/-- The switch boundary (R224): the first hyperperiod boundary at least 100 ms ahead, in µs after T_start. -/
def switchBoundary (s : State) (i : Image) : Nat :=
  let h := max 1 (hyperperiod i.tasks)
  let now := timerNow s + 100000 * usUnit - s.prog.tStartTimer
  h * ((now + h * usUnit - 1) / (h * usUnit))

/-- Instant of a time of the program in µs after T_start. -/
def programInstant (s : State) (us : Nat) : Nat := timerInstant s (s.prog.tStartTimer + us * usUnit)

/-- Local time of it as the clock stands. -/
def programLocal (s : State) (us : Nat) : Nat := localNow s + (s.prog.tStartTimer + us * usUnit) - timerNow s

/-! ### Recut: the switch (R225 to R228) -/

/-- A lane's variables in the new image. -/
def LaneSt.convert (a b : Image) (seen : Tbl Nat) (x : LaneSt) : LaneSt :=
  let rows := (List.range b.symbols.length).zip b.symbols
  let vars := rows.filterMap fun p => if p.2.constant then none else (carried a b x p.2).map fun v => (p.1, v.1)
  let held := rows.filterMap fun p =>
    if !p.2.input then none else (a.byIdentity p.2.identity).bind fun o =>
      let old := if o.2.input then Tbl.find x.heldInputs o.1 else some (x.value a o.1 o.2)
      old.bind fun v => (carryValue a.types b.types o.2 p.2 v (b.initial p.2)).map fun w => (p.1, w.1)
  let convertVersion (v : Version) : List Version := b.tasks.filterMap fun t =>
    let values := v.values.filterMap fun e => match b.byIdentity e.1, a.byIdentity e.1 with
      | some n, some o => if n.2.owner = t.task && n.2.output then
          (carryValue a.types b.types o.2 n.2 e.2 (b.initial n.2)).map fun w => (e.1, w.1) else none
      | _, _ => none
    if values.isEmpty then none else some { v with task := t.task, values := values }
  let owned (k : Nat) : Bool := b.tasks.any fun t => hasBit t.channels k
  { x with vars := vars, heldInputs := held, versions := x.versions.flatMap convertVersion, kept := [], seenEpoch := seen,
           nextToken := x.nextToken.filter fun p => owned p.1, tracked := x.tracked.filter fun c => owned c.channel }

/-- The epoch up to which a new task's outstanding tokens are resolved: the present one when every former owner of its channels has
seen it. -/
def seenAfter (a b : Image) (old : Tbl Nat) (epoch : Nat) : Tbl Nat :=
  b.tasks.foldl (fun t r =>
    let owners := a.tasks.filter fun o => o.channels &&& r.channels != 0
    if owners.all fun o => Tbl.find old o.task = some epoch then Tbl.put t r.task epoch else t) []

/-- What the new image no longer binds ends. -/
def endUnbound (a b : Image) (s : State) : State :=
  (a.outputs.filter fun x => !b.outputs.any fun y => y.kind = x.kind && y.target = x.target).foldl (fun t x => endBinding x t) s

/-- Armed cues whose binding record changes end; the recorded values of the others pass to their owner. -/
def recutCues (a b : Image) (s : State) : State :=
  let same (n : Nat) : Bool := (a.cues.find? fun c => c.cue = n) = (b.cues.find? fun c => c.cue = n)
  let old := s.pos.areas.flatMap Prod.snd
  let area (t : TaskRec) : Nat × List (Nat × Nat × Nat) := (t.task, (b.cues.filter fun c => c.task = t.task).map fun c =>
    (old.find? fun v => v.1 = c.cue).getD (c.cue, 0, 0))
  modPos (fun p => { p with
    cues := p.cues.map fun c => (c.1, if c.2.state = .armed && !same c.1 then { c.2 with state := .idle, passed := false, windowDue := false } else c.2)
    areas := (b.tasks.map area).foldl (fun t e => Tbl.put t e.1 e.2) [] }) s

/-- Held activations of a source that no new event task binds are dropped and counted. -/
def recutSources (a b : Image) (s : State) : State :=
  let bound (i : Image) (n : Nat) : Bool := i.tasks.any fun t => t.event && (taskInputs i t).any fun x => x.kind = 5 && x.source = n
  let after (p : Nat × ActSource) : Nat × ActSource :=
    if bound a p.1 && !bound b p.1 then (p.1, { p.2 with dropped := p.2.dropped + p.2.counter, counter := 0, commitTime := none }) else p
  modAct (fun c => { c with sources := c.sources.map after }) s

/-- Forces that do not follow the recut are dropped. -/
def recutForces (a b : Image) (s : State) : State := dropForces (fun f => !forceKept a b f) s

/-- Channels without an owner in the new image lose their completions, with a record. -/
def recutChannels (a b : Image) (s : State) : State :=
  let owned (i : Image) (k : Nat) : Bool := i.tasks.any fun t => hasBit t.channels k
  let lost := (List.range 16).filter fun k => owned a k && !owned b k
  lost.foldl (fun t k => recordProgram 0xFFFF (le 1 4 ++ le 1 k) t)
    (modMbx (fun m => { m with completions := m.completions.filter fun c => !lost.contains c.channel }) s)

/-- Identities of both images whose value is initialised are recorded (R227). -/
def reportInitialised (a b : Image) (s : State) : State :=
  (b.symbols.filter fun y => (a.byIdentity y.identity).isSome && (carries a b y).isNone).foldl (fun t y =>
    if y.safe then record .juridical 0x16 0 (le 1 1 ++ le 8 y.identity) t else recordProgram y.owner (le 1 3 ++ le 8 y.identity) t) s

/-- Dropped forces on variables with SAFETY are recorded as carry-over too (Table 15.2, class 0x0016). -/
def reportForces (a b : Image) (s : State) : State :=
  (s.prog.forces.filter fun f => f.2.safety && !forceKept a b f.2).foldl (fun t f => record .juridical 0x16 0 (le 1 0 ++ le 8 f.2.identity) t) s

/-- VARIABLE_READs that wait follow their variable by identity; one that the new image has no such leaves for is refused (R232; log entry 40). -/
def readStands (b : Image) (q : VarRead) : Bool := (b.byIdentity q.identity).any fun p => q.first + q.count ≤ p.2.leaves && !p.2.constant
def recutReads (b : Image) (s : State) : State :=
  let lost := s.prog.varReads.filter fun q => !readStands b q
  lost.foldl (fun t q => completeEntry q.entry stBadArgument [] t)
    (modProg (fun p => { p with varReads := p.varReads.filter (readStands b) }) s)

/-- Bytes of a carry-over report. -/
def CarryCounts.bytes (c : CarryCounts) : Bytes :=
  le 4 c.carried ++ le 4 c.initialised ++ le 4 c.discarded ++ le 4 c.forcesKept ++ le 4 c.forcesDropped

/-- The switch at S. -/
def switchImages (r : Recut) (a b : Image) (s : State) : State :=
  let counts := carryCounts a b s.prog.forces
  let v := (conversion1024 (carriedBytes a b) + 1023) / 1024
  let s := reportInitialised a b (recutForces a b (reportForces a b s))
  let s := recutReads b (recutChannels a b (recutSources a b (recutCues a b (endUnbound a b s))))
  let epoch := s.mbx.epoch
  let s := modVoter (fun w => { w with lanes := w.lanes.map fun _ x => x.convert a b (seenAfter a b x.seenEpoch epoch) }) s
  let x := slotOf s r.slot
  let run (t : TaskRec) (old : TaskRun) : TaskRun :=
    { takes := old.takes, lastInstant := if t.event then old.lastInstant else none, due := if t.event then none else some (r.switchUs + t.offset), firstFlag := 16,
      voted := false, cueHeld := old.cueHeld }
  let tasks := b.tasks.foldl (fun t k => Tbl.put t k.task (run k (Tbl.get s.prog.tasks k.task {}))) []
  let s := modProg (fun p => { p with
    slot := r.slot, state := .running, tasks := tasks, recut := some { r with guarding := false, switched := true }, lastRecut := counts,
    convertedAt := s.time + v, warmDigest := some x.digest }) s
  let s := modPair (fun p => { p with partnerRunning := if p.present then x.digest else p.partnerRunning }) s
  let s := takeImages b (raiseFloor 0x10 x.signer x.version (useEntries x.digest s))
  (releaseEvents (recordProgram 0xFFFF (le 1 2 ++ counts.bytes) s)).2

/-- A pending recut: armed and not yet switched. -/
def pendingRecut (s : State) : Option Recut := s.prog.recut.filter fun r => !r.switched

/-- Event RECUT_GUARD (R225): activations of the old image's event tasks are held from S − G. -/
def execRecutGuard (s : State) : Out :=
  match pendingRecut s with
  | some r =>
    if r.guarding then .next s
    else
      let s := reach (programInstant s r.guardUs) s
      .next (withholdEvents (modProg (fun p => { p with recut := some { r with guarding := true } }) s))
  | none => .next s

/-- An Active tells its partner the instant of a pending recut, 0 where it ends (R224, R252). -/
def forwardRecut (s : State) : State :=
  let t := match pendingRecut s with
    | some r => toNs (programLocal s r.switchUs)
    | none => 0
  if s.pair.role = .active then slipstream 2 (le 1 5 ++ le 8 t) s else s

/-- A switch that falls due in a reshoot takes place at the first hyperperiod boundary after it (R137); the Standby is told. -/
def postponeRecut (r : Recut) (a : Image) (s : State) : State :=
  let h := max 1 (hyperperiod a.tasks)
  (releaseEvents (forwardRecut (modProg (fun p => { p with recut := some { r with guarding := false, switchUs := r.switchUs + h, guardUs := r.guardUs + h } }) s))).2

/-- A lane of a Standby that is being rebuilt when the Active's recut switches fails its reshoot: both modules switch at S (R224; log entry 142). -/
def endStandbyReshoots (s : State) : State :=
  Lane.all.foldl (fun t l => if (laneOf t l).reshooting then failReshoot l t else t) s

/-- Event RECUT_SWITCH (R224 to R228), once every take activated before S is decided. -/
def execRecutSwitch (s : State) : Out :=
  match pendingRecut s, runningImage s with
  | some r, some a =>
    let late : Bool := s.pair.role != .standby && s.prog.tasks.any fun t => match t.2.due with
      | some d => d < r.switchUs
      | none => false
    match translatedImage s r.slot with
    | some b =>
      if late || inFlight s || s.prog.stopping.isSome then .next s
      else
        let s := reach (programInstant s r.switchUs) s
        let rebuilt : Bool := Lane.all.any fun l => (laneOf s l).reshooting
        if rebuilt && s.pair.role != .standby then .next (postponeRecut r a s) else .next (switchImages r a b (endStandbyReshoots s))
    | none => .next s
  | _, _ => .next s

end Sys2Proof.Machine
end

