-- ==== Sys2Proof/Machine/Program.lean ====
section
/-! DEFINITION. The PROGRAM commands (chapter 6), image loading and translation (chapter 5). -/

namespace Sys2Proof.Machine

/-! ### Resources (R90) -/

/-- Commands in the queue that hold or wait for a resource. -/
def resourceBusy (s : State) (r : Resource) : Bool := s.mbx.queue.any fun e => e.phase = .holds r || e.phase = .waits r

/-- A body that needs a resource: it runs at once when none holds it, otherwise it waits for the grant. -/
def needing (r : Resource) (f : Entry → State → State × Reply) (e : Entry) (s : State) : State × Reply :=
  if s.mbx.queue.any fun q => q.id != e.id && (q.phase = .holds r || q.phase = .waits r && e.phase != .waits r) then (s, .goesOn (.waits r) false)
  else f e s

/-! ### Status (Table 6.11) -/

/-- The image identity of a slot, from its body where the Cutter has not seen the image yet (Table 5.1). -/
def ImageSlot.imageIdentity (x : ImageSlot) : Bytes :=
  match x.image, x.load with
  | some i, _ => i.identity
  | none, some (_, body) => if x.state = 1 then Bytes.slice body 8 16 else []
  | none, none => []

/-- PROGRAM_STATUS. -/
def cmdProgramStatus : Command where
  issuers := anyOrLanes
  body := sized 0 fun _ s =>
    let p := s.prog
    let slot (x : ImageSlot) : Bytes := padTo 16 x.imageIdentity ++ le 4 x.version ++ le 1 x.state
    let stage := match pendingRecut s with
      | some r => if r.guarding then 2 else 1
      | none => 0
    let at_ := match pendingRecut s with
      | some r => taiBytes (programLocal s r.switchUs)
      | none => le 12 0
    answers (le 1 p.state.code ++ le 1 p.slot ++ slot p.slot0 ++ slot p.slot1 ++ le 1 p.kindRequested ++ le 1 p.kindPerformed ++
      le 8 (p.tStartLocal / secUnit) ++ le 1 stage ++ at_ ++ le 2 p.forces.length ++ le 8 p.lastSequence ++ le 8 p.lastCommitTai ++
      le 1 p.lastCause ++ p.lastRecut.bytes ++ le 4 (bit p.noValidBank + 2 * bit p.fellBack)) s

/-! ### Start and stop (R211, R212) -/

/-- The slot that a request names: 0xFF is the current one, or the other one. -/
def slotNamed (n dflt : Nat) : Option Nat := if n < 2 then some n else if n = 0xFF then some dflt else none

/-- A slot's image is translated, but not under the Cutter that runs, or its entries have failed: the next start has it translated afresh
(R187, R188). -/
def uncut (s : State) (n : Nat) : Bool := (slotOf s n).state = 2 && !translated s (slotOf s n).digest

/-- PROGRAM_START: it commits when T_start is set, before the epoch increment that it causes. An image whose translations are missing waits for
the Cutter first. -/
def cmdProgramStart : Command where
  issuers := roleOnly (operator + maintainer)
  body := sized 2 fun e s =>
    match slotNamed (e.field 1 1) s.prog.slot with
    | none => fails stBadArgument s
    | some slot =>
      if 1 < e.field 0 1 then fails stBadArgument s
      else
        match startRefusal s slot with
        | some status => if status = 0x0317 && uncut s slot then (s, .goesOn (.waits .cutter) false) else fails status s
        | none =>
          let t := startTime s
          let s := startProgram (e.field 0 1) slot t (commitEntry e.id s)
          answers (le 1 s.prog.kindPerformed ++ taiBytes t) s

/-- PROGRAM_STOP: it completes after step 6 of R212. -/
def cmdProgramStop : Command where
  issuers := roleOnly (operator + maintainer)
  body := sized 0 fun e s =>
    if !programRuns s || s.prog.stopping.isSome || s.pair.role = .standby || (s.module.state = .service && !standstill s) then fails stRefused s
    else (beginStop (some e.id) (commitEntry e.id s), .goesOn .under true)

/-! ### Recut (R223, R229) -/

/-- The completion of RECUT_START. -/
def recutResult (s : State) (us v : Nat) (armed : Bool) (c : CarryCounts) (task : Nat) : Bytes :=
  (if armed then taiBytes (programLocal s us) else le 12 0) ++ le 4 v ++ c.bytes ++ le 1 task

/-- The status with which a recut is refused before its conditions are looked at. -/
def recutRefusal (s : State) (a : Image) (slot : Nat) : Option Nat :=
  match translatedImage s slot with
  | none => some 0x0317
  | some b =>
    if safetyChanged a b && !(s.module.state = .maintenance && standstill s) then some stRefused
    else if belowFloor s (slotOf s slot) then some 0x0215
    else if !bindingsResolve s b then some 0x0312
    else none

/-- RECUT_START: a report, or a recut armed. -/
def cmdRecutStart : Command where
  issuers := roleOnly maintainer
  body := sized 1 fun e s =>
    let slot := 1 - s.prog.slot
    if 1 < e.field 0 1 then fails stBadArgument s
    else if s.prog.state != .running || s.prog.stopping.isSome || s.pair.role = .standby then fails stRefused s
    else
      match runningImage s, (slotOf s slot).image with
      | some a, some b =>
        match recutRefusal s a slot with
        | some status => fails status s
        | none =>
          let counts := carryCounts a b s.prog.forces
          let us := switchBoundary s a
          let v := (conversion1024 (carriedBytes a b) + 1024 * 2000 - 1) / (1024 * 2000)
          match recutMisfit s a b (slotOf s slot).digest with
          | some task => (s, .done 0x0313 (recutResult s us v false counts task))
          | none =>
            if s.pair.present && s.pair.partnerImage != (slotOf s slot).digest then fails 0x0511 s
            else if e.field 0 1 = 1 then answers (recutResult s us v false counts 0xFF) s
            else
              let s := writeDirectory slot (modProg (fun p => { p with state := .recutPending, recut := some { slot := slot, switchUs := us, guardUs := us - guardLength a } }) s)
              (forwardRecut s, .done stAccepted (recutResult s us v true counts 0xFF))
      | _, _ => fails 0x0317 s

/-- RECUT_CANCEL: until S − G. -/
def cmdRecutCancel : Command where
  issuers := roleOnly maintainer
  body := sized 0 fun _ s =>
    match pendingRecut s with
    | some r =>
      if r.guarding || programInstant s r.guardUs ≤ s.time then fails stRefused s
      else
        answers [] (forwardRecut (modProg (fun p => { p with recut := none, state := .running }) s))
    | none => fails stRefused s

/-! ### Forces (R205, R206) -/

/-- The role and the conditions that R206 asks for. -/
def forceRole (safe : Bool) (roles : Nat) : Bool := if safe then hasBit roles 3 else hasBit roles 2
def forceState (s : State) (safe : Bool) : Bool :=
  if safe then s.module.state = .maintenance && standstill s else s.module.state = .service || s.module.state = .maintenance

/-- The leaves of a run, when it lies in the variable. -/
def runLeaves (i : Image) (y : Symbol) (first count : Nat) : List (MType × Nat) :=
  if 0 < count && first + count ≤ y.leaves then (List.range count).filterMap fun n => i.leaf y (first + n) else []

/-- A forced value is canonical: its BOOL leaves are 0 or 1. -/
def forceValueOk (leaves : List (MType × Nat)) (value : Bytes) : Bool :=
  (leaves.map fun l => l.1.bytes).sum = value.length &&
    leaves.all fun l => l.1 != .bool || Bytes.field value (l.2 - (leaves.headD (.bool, 0)).2) 1 ≤ 1

/-- FORCE_SET. -/
def cmdForceSet : Command where
  issuers := roleOnly (maintainer + safety)
  body e s :=
    let id := e.field 0 8
    let first := e.field 8 4
    let count := e.field 12 4
    let n := e.field 16 2
    let value := e.payload.drop 18
    let y := (runningImage s).bind fun i => (i.byIdentity id).map Prod.snd
    let safe := (y.map Symbol.safe).getD false
    if e.payload.length < 18 || n = 0 || 64 < n || value.length != n || count = 0 then fails stBadArgument s
    else if !forceRole safe e.roles then fails stDenied s
    else if s.prog.state = .empty || s.pair.role = .standby || !forceState s safe then fails stRefused s
    else
      match runningImage s, y with
      | some i, some y =>
        if !y.forcible || y.leaves < first + count then fails 0x0315 s
        else if !forceValueOk (runLeaves i y first count) value then fails stBadArgument s
        else
          let old := s.prog.forces.find? fun f => f.2.identity = id && f.2.first = first
          let overlap := s.prog.forces.any fun f =>
            f.2.identity = id && f.2.first != first && f.2.first < first + count && first < f.2.first + f.2.count
          let index := match old with
            | some f => some f.1
            | none => Tbl.lowestFree s.prog.forces 512
          match index with
          | none => fails 0x0314 s
          | some k =>
            let f : Force := ⟨id, first, count, safe, e.issuer, localSeconds s, value⟩
            let table := Tbl.put s.prog.forces k f
            if overlap then fails stBadArgument s
            else if s.pair.enabled && !budgetFits i table then fails 0x0512 s
            else
              let s := recordForce k f ((old.map fun o => o.2.value).getD []) value (modProg (fun p => { p with forces := table }) s)
              answers (le 2 k ++ le 2 table.length ++ le 1 (bit old.isSome)) (forwardForces s)
      | _, _ => fails 0x0315 s

/-- FORCE_CLEAR. -/
def cmdForceClear : Command where
  issuers := roleOnly (maintainer + safety)
  body := sized 12 fun e s =>
    let id := e.field 0 8
    let first := e.field 8 4
    let may (f : Force) : Bool := forceRole f.safety e.roles && forceState s f.safety
    let named (f : Force) : Bool := f.identity = id && (first = 0xFFFFFFFF || f.first = first)
    let hit (f : Force) : Bool := if id = 0 then may f else named f
    let hits := s.prog.forces.filter fun f => hit f.2
    let up : Bool := forceState s false
    if hits.any fun f => !forceRole f.2.safety e.roles then fails stDenied s
    else if s.pair.role = .standby || !up || hits.any fun f => !forceState s f.2.safety then fails stRefused s
    else
      let s := dropForces hit s
      answers (le 2 hits.length ++ le 2 s.prog.forces.length) (if hits.isEmpty then s else forwardForces s)

/-- FORCE_LIST. -/
def cmdForceList : Command where
  issuers := { session := true }
  body := sized 4 fun e s =>
    let l := (s.prog.forces.filter fun f => e.field 0 2 ≤ f.1).take (e.field 2 2)
    answers (le 2 l.length ++ l.flatMap fun f => f.2.bytes) s

/-! ### VARIABLE_READ (R232) -/

/-- VARIABLE_READ: it completes at the owning task's next voted take. -/
def cmdVariableRead : Command where
  issuers := { session := true }
  body := sized 16 fun e s =>
    if !programRuns s || s.prog.stopping.isSome then fails stRefused s
    else
      match (runningImage s).bind fun i => (i.byIdentity (e.field 0 8)).map fun p => (i, p) with
      | some (i, _, y) =>
        if e.field 12 4 = 0 || y.leaves < e.field 8 4 + e.field 12 4 || (taskRec i y.owner).isNone || y.constant then fails stBadArgument s
        else (modProg (fun p => { p with varReads := p.varReads ++ [⟨e.id, e.field 0 8, e.field 8 4, e.field 12 4⟩] }) s, .goesOn .under true)
      | none => fails stBadArgument s

/-! ### Loading (R37, R148, R165, R186, R232) -/

/-- A slot that cannot be written: it holds the running image, or a recut is pending. -/
def slotBusy (s : State) (n : Nat) : Bool := (programRuns s && n = s.prog.slot) || (pendingRecut s).isSome

/-- The offset at which the next chunk of a slot is expected. -/
def nextOffset (x : ImageSlot) : Nat := (x.load.map fun l => l.2.length).getD 0

/-- A chunk that can be written. -/
def chunkOk (s : State) (slot total offset size : Nat) : Bool :=
  let x := slotOf s slot
  total ≤ 0x1000 + 2 ^ 26 && 0 < size && size ≤ 1048000 && offset + size ≤ total &&
    (offset = 0 || (offset = nextOffset x && (x.load.map Prod.fst) = some total))

/-- IMAGE_LOAD: the chunk goes to the flash programmer, which it holds until RESOURCE_GRANT. -/
def cmdImageLoad : Command where
  issuers := roleOnly maintainer
  body := needing .flash fun e s =>
    match slotNamed (e.field 0 1) (1 - s.prog.slot) with
    | some slot =>
      if e.payload.length < 20 || !e.clear [(1, 3)] || !chunkOk s slot (e.field 4 8) (e.field 12 8) (e.payload.length - 20) then fails stBadArgument s
      else if slotBusy s slot then fails 0x0316 s
      else (s, .goesOn (.holds .flash) false)
    | none => fails stBadArgument s

/-- An image that Slate rejects leaves its slot failed. -/
def failSlot (slot : Nat) (s : State) : State := settleAxis (modSlot slot (fun x => { x with state := 3, load := none }) s)

/-- A lane in its restart step that lacks a cache entry of a loaded slot, with the slot (R132). -/
def reshootCut (s : State) : Option (Nat × Lane) :=
  let lacks (p : Nat × Lane) : Bool := (laneOf s p.2).state = .restarting && (slotOf s p.1).state = 2 &&
    !(cacheEntries s (slotOf s p.1).digest).any fun c => c.lane = p.2.num
  ([0, 1].flatMap fun n => Lane.all.map fun l => (n, l)).find? lacks

/-- The slot whose image a command that waits for the Cutter names: IMAGE_LOAD or PROGRAM_START. -/
def cutSlot (s : State) (e : Entry) : Option Nat :=
  if e.code = 0x0303 then slotNamed (e.field 1 1) s.prog.slot else slotNamed (e.field 0 1) (1 - s.prog.slot)

/-- The Cutter, when it is idle, takes the next image that waits for it: one that a reshoot needs, then the image of a partner (R252), then the
oldest command's (R90, R186). -/
def nextCut (s : State) : State :=
  let take (slot : Nat) (why : CutFor) (s : State) : State := modProg (fun p => { p with cutting := some (slot, why) }) s
  if s.prog.cutting.isSome then s
  else
    match reshootCut s, s.mbx.queue.find? fun e => e.phase = .waits .cutter with
    | some (slot, l), _ => take slot (.reshoot l.num) s
    | none, e =>
      if s.pair.cutWaits then modPair (fun p => { p with cutWaits := false }) (take (1 - s.prog.slot) .partner s)
      else
        match e, e.bind (cutSlot s) with
        | some e, some slot => modEntry e.id (fun x => { x with phase := .holds .cutter }) (take slot (.command e.id) s)
        | _, _ => s

/-- The last chunk is written: Slate verifies the object, and the Cutter is asked for it. -/
def objectWritten (e : Entry) (slot : Nat) (object : Bytes) (s : State) : State :=
  match verifyObject s 0x10 object with
  | some status => completeEntry e.id status [] (failSlot slot s)
  | none =>
    let body := objectBody object
    let s := noteInterval object (modSlot slot (fun x =>
      { x with state := 1, load := some (objectGeneration object, body), digest := objectDigest object, version := objectVersion object,
               signer := objectSigner object, image := none, object := object }) s)
    let s := if s.pair.role = .active then slipstream 9 (le 1 1 ++ object) s else s
    nextCut (modEntry e.id (fun x => { x with phase := .waits .cutter, committed := true }) s)

/-- A chunk is written to flash (R232): it commits. -/
def chunkWritten (e : Entry) (s : State) : State :=
  match slotNamed (e.field 0 1) (1 - s.prog.slot) with
  | none => completeEntry e.id stBadArgument [] s
  | some slot =>
    let total := e.field 4 8
    let offset := e.field 12 8
    let chunk := e.payload.drop 20
    let x := slotOf s slot
    let before := if offset = 0 then [] else (x.load.map Prod.snd).getD []
    let bytes := before ++ chunk
    let s := settleAxis (modSlot slot (fun _ => { load := some (total, bytes) }) (commitEntry e.id s))
    if bytes.length = total then objectWritten e slot bytes s else completeEntry e.id stOk [] s

/-- Instruction words of an image, extension words included. -/
def instructionWords (i : Image) : Nat := (i.functions.map fun f => f.code.length).sum

/-! ### Diversity (R182 to R184) -/

/-- The diversity seed of a lane's translation of an image under a counter. -/
def diversitySeed (s : State) (digest : Bytes) (lane counter : Nat) : Bytes :=
  (Config.diversityHmac (s.trust.identity.getD 0) digest lane (cutterVersion s) counter).take 8

/-- The counters of the three lanes, raised in turn for lane C and for lane B until the three seeds differ (R182; log entry 137). -/
def spreadCounters (seed : Nat → Nat → Bytes) : Nat → Bool → Nat × Nat × Nat → Nat × Nat × Nat
  | 0, _, n => n
  | fuel + 1, turnC, (a, b, c) =>
    if seed 0 a = seed 1 b || seed 0 a = seed 2 c || seed 1 b = seed 2 c then
      spreadCounters seed fuel (!turnC) (if turnC then (a, b, c + 1) else (a, b + 1, c))
    else (a, b, c)

/-- Translation of a lane in an attempt. -/
def attemptLane (t : Attempt) : Nat → Translation
  | 0 => t.a
  | 1 => t.b
  | _ => t.c

/-- What fails a condition of R183: two lanes, and a function by its index or a variable by its identity. -/
structure DiversityFault where
  first : Nat
  second : Nat
  isVariable : Bool
  which : Nat
  deriving DecidableEq, Repr

/-- A function of 8 or more KPC instructions whose native code is the same in two lanes. -/
def sameCode (i : Image) (x y : Translation) : Option Nat :=
  (List.range i.functions.length).find? fun n =>
    (match i.functions[n]? with
     | some f => 8 ≤ f.instrs.length
     | none => false) && x.code[n]? = y.code[n]?

/-- A variable of 64 bytes or more at one offset in both data regions. -/
def samePlace (i : Image) (x y : Translation) : Option Nat :=
  (((List.range i.symbols.length).zip i.symbols).find? fun p => 64 ≤ p.2.size && x.placement[p.1]? = y.placement[p.1]?).map fun p => p.2.identity

/-- The first condition of R183 that an attempt fails. -/
def attemptFault (i : Image) (t : Attempt) : Option DiversityFault :=
  ([(0, 1), (0, 2), (1, 2)] : List (Nat × Nat)).findSome? fun p =>
    match sameCode i (attemptLane t p.1) (attemptLane t p.2), samePlace i (attemptLane t p.1) (attemptLane t p.2) with
    | some n, _ => some ⟨p.1, p.2, false, n⟩
    | none, some id => some ⟨p.1, p.2, true, id⟩
    | none, none => none

/-- The first attempt that meets the conditions, with the number of its counter: after the first one, three retries at most; or what the
last of them failed. -/
def chooseAttempt (i : Image) : Nat → List Attempt → DiversityFault → Except DiversityFault (Nat × Attempt)
  | _, [], f => .error f
  | n, t :: l, _ =>
    match attemptFault i t with
    | none => .ok (n, t)
    | some f => chooseAttempt i (n + 1) l f

/-- What a report comes to for an image. -/
def cutOutcome (i : Image) (r : CutterReport) : Except DiversityFault (Nat × Attempt) :=
  chooseAttempt i 0 (r.attempts.take 4) ⟨0, 1, false, 0⟩

/-! ### The cache (R187, R188) -/

/-- The three entries that an attempt gives. -/
def freshEntries (s : State) (digest : Bytes) (n : Nat) (t : Attempt) : List CacheEntry :=
  let seed := diversitySeed s digest
  let counters := spreadCounters seed 256 true (n, n, n)
  [(0, counters.1), (1, counters.2.1), (2, counters.2.2)].map fun p =>
    { digest := digest, lane := p.1, cutter := cutterVersion s, revision := Config.hardwareRevision, counter := p.2, seed := seed p.1 p.2,
      translation := attemptLane t p.1, used := s.time }

/-- The entry least recently used among those that may leave. -/
def leastUsed (loose : CacheEntry → Bool) (l : List CacheEntry) : Option CacheEntry :=
  (l.filter loose).foldl (fun m c => match m with
    | some x => if c.used < x.used then some c else some x
    | none => some c) none

/-- The cache after so many entries have left, the least recently used first. -/
def evict (loose : CacheEntry → Bool) : Nat → List CacheEntry → List CacheEntry
  | 0, l => l
  | n + 1, l =>
    match leastUsed loose l with
    | some c => evict loose n (l.erase c)
    | none => l

/-- The cache with the entries of an image entered (R188): at most 12, never evicting one of an image in a slot. -/
def enterCache (s : State) (digest : Bytes) (n : Nat) (t : Attempt) : List CacheEntry :=
  let old := s.prog.cache.filter fun c => c.digest != digest
  let loose (c : CacheEntry) : Bool := c.digest != s.prog.slot0.digest && c.digest != s.prog.slot1.digest
  evict loose (old.length + 3 - 12) old ++ freshEntries s digest n t

/-! ### Verification and translation (R165, R184, R186) -/

/-- The image of a slot that the Cutter is given: one translated before, or a loaded one, verified now; with the check and the offset
where it fails. -/
def cutImage (x : ImageSlot) : Except (Nat × Nat) (Option Image) :=
  match x.image, x.load with
  | some i, _ => .ok (if x.state = 2 then some i else none)
  | none, some (generation, body) =>
    match verifyImage body generation x.version with
    | some fault => .error fault
    | none => .ok (if x.state = 1 then some (parseImage body) else none)
  | none, none => .ok none

/-- What the Cutter has made of a slot: nothing to translate, a refusal with its status and result, or a translation. -/
inductive CutResult where
  | idle
  | refused (status : Nat) (result : Bytes)
  | done (image : Image)
  deriving DecidableEq, Repr

/-- The Cutter is done with a slot: a verified and diverse image is translated, with its entries in the cache; anything else is recorded. -/
def cut (slot : Nat) (report : CutterReport) (s : State) : CutResult × State :=
  let x := slotOf s slot
  match cutImage x with
  | .error (check, offset) => (.refused 0x0310 (le 1 check ++ le 8 offset), recordProgram 0xFFFF (le 1 1 ++ le 1 check ++ le 8 offset) s)
  | .ok none => (.idle, s)
  | .ok (some i) =>
    match cutOutcome i report with
    | .error f => (.refused 0x0318 [], recordProgram 0xFFFF (le 1 5 ++ le 1 f.first ++ le 1 f.second ++ le 1 (bit f.isVariable) ++ le 8 f.which) s)
    | .ok (n, t) =>
      let s := modSlot slot (fun x => { x with state := 2, image := some i, load := none }) s
      (.done i, settleAxis (modProg (fun p => { p with cache := enterCache s x.digest n t }) s))

/-- A Standby tells its Active that it holds an image translated (R252). -/
def tellHeld (digest : Bytes) (s : State) : State :=
  if s.pair.role = .standby then slipstream 2 (le 1 12 ++ digest) s else s

/-- The completion of an IMAGE_LOAD whose image is translated. -/
def loadResult (i : Image) (version ms : Nat) : Bytes := padTo 16 i.identity ++ le 4 version ++ le 4 (instructionWords i) ++ le 4 ms

/-- IMAGE_ERASE: it commits when the slot is marked empty. -/
def cmdImageErase : Command where
  issuers := roleOnly maintainer
  body := needing .flash (sized 1 fun e s =>
    if 1 < e.field 0 1 then fails stBadArgument s
    else if slotBusy s (e.field 0 1) || (s.prog.cutting.any fun c => c.1 = e.field 0 1) then fails 0x0316 s
    else answers [] (settleAxis (modSlot (e.field 0 1) (fun _ => {}) s)))

end Sys2Proof.Machine
end

