-- ==== Sys2Proof/Machine/Lanes.lean ====
section
/-! DEFINITION. The LANE commands, the steps of a reshoot and the events of single lanes (chapter 4). -/

namespace Sys2Proof.Machine

/-! ### Status and health (R143, R146) -/

/-- The acceptance window in µs (Table 4.3): twice the stagger and 20 µs. -/
def acceptanceWindow (s : State) : Nat := 2 * s.voter.stagger + 20

/-- The lane that a request names. -/
def laneField (e : Entry) : Option Lane := if e.field 0 1 < 3 then some (Lane.at (e.field 0 1)) else none

/-- LANE_STATUS. DESIGN CHOICE: the stagger that it shows is the one in force, which STAGGER_SET changes only at the next program start (log
entry 138). -/
def cmdLaneStatus : Command where
  issuers := anyOrLanes
  body := sized 0 fun _ s =>
    let v := s.voter
    let one (l : Lane) : Bytes := le 1 (laneOf s l).state.code ++ le 1 (recentIsolations (laneOf s l) s.time).length
    answers (Lane.all.flatMap one ++ le 2 v.stagger ++ le 2 (acceptanceWindow s) ++ le 4 (twoLaneSeconds s) ++ le 4 (3600 * v.twoLaneLimit) ++
      le 8 v.testTime ++ le 1 v.testResult ++ le 1 (bit v.testQueued)) s

/-- A counter that saturates. -/
def capped (n v : Nat) : Bytes := le n (min v (2 ^ (8 * n) - 1))

/-- The counters of Table 4.12 in its order. -/
def healthBytes (h : LaneHealth) (now : Nat) : Bytes :=
  capped 8 h.majority ++ capped 4 h.dissents ++ capped 4 h.missing ++ capped 4 h.faultMemory ++ capped 4 h.faultSnapshot ++ capped 4 h.faultTrap ++
    capped 4 h.faultWatchdog ++ capped 4 h.faultClock ++ capped 4 h.corrected ++ capped 4 h.isolations ++ capped 4 h.reshootsStarted ++
    capped 4 h.reshootsCompleted ++ capped 4 h.reshootsFailed ++ ((List.range 16).flatMap fun k => capped 4 (Tbl.get h.response k 0)) ++
    capped 4 (h.twoLane + now) ++ capped 4 h.testsRun ++ capped 4 h.testsFailed

/-- LANE_HEALTH. -/
def cmdLaneHealth : Command where
  issuers := anyOrLanes
  body := sized 1 fun e s =>
    match laneField e with
    | some l => answers (healthBytes (laneOf s l).health (if inVotingSet (laneOf s l) then 0 else twoLaneSeconds s)) s
    | none => fails stBadArgument s

/-- LANE_TRACE_READ (R144). -/
def cmdLaneTraceRead : Command where
  issuers := { session := true }
  body := sized 4 fun e s =>
    let count := e.field 2 2
    if count = 0 || 1024 < count then fails stBadArgument s
    else
      let l := (s.voter.trace.drop (e.field 0 2)).take count
      answers (le 1 (bit (s.voter.traceLeft = some 0)) ++ le 2 l.length ++ l.flatten) s

/-- The lifetime counters alone. -/
def clearHealth (h : LaneHealth) : LaneHealth :=
  { majority := h.majority, isolations := h.isolations, twoLane := h.twoLane, testsRun := h.testsRun, testsFailed := h.testsFailed }

/-- LANE_DIAG_CLEAR: bit 0 clears what is not lifetime, bit 1 rearms the trace. -/
def cmdLaneDiagClear : Command where
  issuers := roleOnly maintainer
  body := sized 1 fun e s =>
    let flags := e.field 0 1
    if 3 < flags then fails stBadArgument s
    else
      let s := if hasBit flags 0 then Lane.all.foldl (fun t l => modHealth l clearHealth t) s else s
      answers [] (if hasBit flags 1 then modVoter (fun v => { v with traceLeft := none }) s else s)

/-! ### Isolation, reshoot, stagger and voter test by command (R110, R142, R147) -/

/-- LANE_ISOLATE: it commits before the epoch increment that it causes. -/
def cmdLaneIsolate : Command where
  issuers := roleOnly maintainer
  body := sized 2 fun e s =>
    match laneField e with
    | none => fails stBadArgument s
    | some l =>
      if 1 < e.field 1 1 then fails stBadArgument s
      else if s.module.state != .maintenance || s.pair.role = .active then fails stRefused s
      else if maskCount (votingMask s) < 3 then fails 0x0411 s
      else if (laneOf s l).state != .voting then fails stBadArgument s
      else answers [] (isolateLane false l 7 0xFF 0 (e.field 1 1 = 1) (commitEntry e.id s))

/-- LANE_RESHOOT: it commits when the lane enters Restarting, and completes when that reshoot ends. -/
def cmdLaneReshoot : Command where
  issuers := roleOnly maintainer
  body := sized 1 fun e s =>
    match laneField e with
    | none => fails stBadArgument s
    | some l =>
      let x := laneOf s l
      if x.state != .isolated && x.state != .retired then fails 0x0410 s
      else if s.module.state = .lockout || s.prog.state != .running then fails stRefused s
      else
        let s := modLane l (fun x => { x with hold := false, oneAttempt := x.state = .retired }) s
        (modVoter (fun v => { v with reshootWaiters := v.reshootWaiters ++ [(e.id, l.num)] }) (startReshoot l s), .goesOn .under true)

/-- A stagger that the loaded image does not fit. -/
def staggerMisfit (s : State) (stagger : Nat) : Bool :=
  match translatedImage s s.prog.slot with
  | some i => (misfit s i (slotOf s s.prog.slot).digest stagger).isSome
  | none => false

/-- STAGGER_SET: effective at the next program start. -/
def cmdStaggerSet : Command where
  issuers := roleOnly maintainer
  body := sized 2 fun e s =>
    let v := e.field 0 2
    if v < 20 || 200 < v then fails stBadArgument s
    else if programRuns s then fails stRefused s
    else if staggerMisfit s v then fails 0x0413 s
    else answers (le 2 s.voter.staggerSet) (forwardSettings e (modVoter (fun w => { w with staggerSet := v }) s))

/-- The states in which the comparator test runs in the background (R141). -/
def comparatorState (s : State) : Bool :=
  s.module.state != .lockout && (s.pair.role = .standby || s.module.state = .maintenance && standstill s)

/-- VOTER_TEST: its patterns run in background slices, of which the first commits it; elsewhere it is queued. -/
def cmdVoterTest : Command where
  issuers := roleOnly maintainer
  body := sized 0 fun e s =>
    let deferred := le 2 0 ++ le 2 0xFFFF
    if s.voter.testQueued || s.voter.testRunning.isSome then (s, .done stDeferred deferred)
    else if comparatorState s then (modVoter (fun v => { v with testRunning := some (some e.id, 0) }) s, .goesOn .under false)
    else (modVoter (fun v => { v with testQueued := true }) s, .done stDeferred deferred)

/-! ### Reshoot (R132 to R137) -/

/-- Both voting lanes' exports of a task are there. -/
def ReshootTask.exported (r : ReshootTask) : Bool := 2 ≤ r.exports.length

/-- A task of the lane's reshoot changed. -/
def modReshoot (l : Lane) (task : Nat) (f : ReshootTask → ReshootTask) (s : State) : State :=
  modLane l (fun x => { x with reshoot := Tbl.update x.reshoot task f }) s

/-- No take of a task awaits its decision. -/
def taskIdle (s : State) (task : Nat) : Bool := !s.voter.takes.any fun v => v.task = task && v.released.isNone && !v.decided

/-- The tasks of a reshoot at its start: an idle event task may be exported at once. -/
def reshootTasks (s : State) (i : Image) : Tbl ReshootTask :=
  i.tasks.foldl (fun t r => Tbl.put t r.task { exportable := r.event && taskIdle s r.task }) []

/-- LANE_RESTART_DONE (R132): the lane is Ready with empty buffers, and the reshoot starts; a restart that fails its tests fails the
reshoot. A restart whose native code the Cutter has yet to make goes on. -/
def execLaneRestartDone (l : Lane) (passed : Bool) (s : State) : Out :=
  match (laneOf s l).state, runningImage s with
  | .restarting, some i =>
    if (reshootCut s).any (fun p => p.2 = l) then .next s
    else if passed then
      .next (useEntries (slotOf s s.prog.slot).digest (modWindow l (fun w => { shadow := w.shadow }) (modLane l (fun x => { x with
        state := .ready, reshootStart := s.time, reshoot := reshootTasks s i, takes := [], versions := [], kept := [], watchdogServed := s.time }) s)))
    else .next (failReshoot l s)
  | _, _ => .next s

/-- The lane that a reshoot is rebuilding. -/
def rejoining (s : State) : Option Lane := Lane.all.find? fun l =>
  (laneOf s l).state = .ready || (laneOf s l).state = .transferring || (laneOf s l).state = .probation

/-- A fault in an export or in its check code, as a mask over its first bytes. -/
def xorBytes (mask : Word64) (b : Bytes) : Bytes := (List.range b.length).zipWith (fun n x => if n < 8 then x ^^^ BitVec.ofNat 8 (mask.toNat / 256 ^ n % 256) else x) b

/-- RESHOOT_EXPORT_DONE (R132): a voting lane's export of a task; once both are there they are compared. -/
def execReshootExportDone (v : Lane) (task : Nat) (upset : Word64) (s : State) : Out :=
  match rejoining s, (runningImage s).bind fun i => (taskRec i task).map fun r => (i, r) with
  | some l, some (i, r) =>
    match Tbl.find (laneOf s l).reshoot task with
    | none => .next s
    | some t =>
      if !t.exportable || t.imported || t.exported || Tbl.has t.exports v.num || !inVotingSet (laneOf s v) then .next s
      else
        let bytes := xorBytes upset (exportBytes i r (laneOf s v))
        let s := modReshoot l task (fun t => { t with exports := Tbl.put t.exports v.num bytes }) s
        let sums := (t.exports.map fun e => crc64 e.2) ++ [crc64 bytes]
        if sums.any fun x => x != crc64 bytes then .next (lockOut false 2 0 task 0 task s)
        else if 2 ≤ sums.length then
          .next (modLane l (fun x => { x with state := if x.state = .ready then .transferring else x.state }) s)
        else .next s
  | _, _ => .next s

/-- Every task of a reshoot is imported. -/
def allImported (x : LaneSt) : Bool := x.reshoot.all fun t => t.2.imported

/-- The import of a task from a voting lane: its records, with the versions of its output image that later takes can see. -/
def importFrom (i : Image) (r : TaskRec) (now : Nat) (bytes : Bytes) (donor : LaneSt) (x : LaneSt) : LaneSt :=
  let x := importRecords i r now (parseRecords i bytes.length bytes) x
  { x with versions := (x.versions.filter fun v => v.task != r.task) ++ donor.versions.filter fun v => v.task = r.task }

/-- RESHOOT_IMPORT_DONE (R132, R136): the rejoining lane has imported and re-exported a task. -/
def execReshootImportDone (task : Nat) (upset : Word64) (s : State) : Out :=
  match rejoining s, (runningImage s).bind fun i => (taskRec i task).map fun r => (i, r) with
  | some l, some (i, r) =>
    match Tbl.find (laneOf s l).reshoot task with
    | none => .next s
    | some t =>
      match t.exports with
      | (n, bytes) :: _ =>
        if !t.exported || t.imported then .next s
        else
          let donor := laneOf s (Lane.at n)
          let s := modLane l (importFrom i r s.time bytes donor) s
          if crc64 (exportBytes i r (laneOf s l)) ^^^ upset.toNat != crc64 bytes then .next (failReshoot l s)
          else
            let s := modReshoot l task (fun t => { t with imported := true, exports := [] }) s
            .next (modLane l (fun x => { x with state := if allImported x then .probation else .transferring }) s)
      | [] => .next s
  | _, _ => .next s

/-- What an activation of a task does to a reshoot (R133): an export or import still under way is abandoned and repeated after the take; the
third time fails the reshoot. -/
def reshootAtActivation (task : Nat) (s : State) : State :=
  match rejoining s with
  | none => s
  | some l =>
    match Tbl.find (laneOf s l).reshoot task with
    | none => s
    | some t =>
      if t.imported || !t.exportable then s
      else if 2 ≤ t.abandoned then failReshoot l s
      else modReshoot l task (fun t => { t with abandoned := t.abandoned + 1, exports := [], exportable := false }) s

/-- A take of a task has been voted: its state may be exported, if the take was activated at or after the reshoot start (R132). -/
def reshootAtVote (task t0 : Nat) (s : State) : State :=
  match rejoining s with
  | none => s
  | some l =>
    if (laneOf s l).reshootStart ≤ t0 then modReshoot l task (fun t => if t.imported then t else { t with exportable := true }) s else s

/-- A lane has passed its probation with a task. -/
def passProbation (l : Lane) (task : Nat) (s : State) : State := modReshoot l task (fun t => { t with passed := t.imported }) s

/-- Every cyclic task has passed probation; an event task that was not activated stands by its re-export check (R134). -/
def mayRejoin (i : Image) (x : LaneSt) : Bool :=
  allImported x && x.state = .probation && i.tasks.all fun r => r.event || (match Tbl.find x.reshoot r.task with
    | some t => t.passed
    | none => false)

/-- RESHOOT_REJOIN (R132): at the first activation instant after that the lane votes again, and the epoch increments. -/
def rejoinLane (l : Lane) (s : State) : State :=
  let n := twoLaneSeconds s
  let s := modLane l (fun x => { x with state := .voting, oneAttempt := false, failedReshoots := 0, reshoot := []
                                        health := { x.health with reshootsCompleted := x.health.reshootsCompleted + 1
                                                                  twoLane := x.health.twoLane + n } }) s
  let s := modVoter (fun v => { v with twoLaneSince := none, twoLaneExpired := false }) s
  answerReshoot l stOk (recordLane l.num (le 1 3) (epochAtBoundary s))

/-- The rejoin of an activation instant, if one is due. -/
def rejoinAt (s : State) : State :=
  match rejoining s, runningImage s with
  | some l, some i => if mayRejoin i (laneOf s l) then rejoinLane l s else s
  | _, _ => s

/-- RESHOOT_RETRY (R136): 1 s after a failed reshoot a new one starts. -/
def execReshootRetry (l : Lane) (s : State) : Out :=
  let x := laneOf s l
  if x.state = .isolated && !x.hold && 1 ≤ x.failedReshoots && programRuns s && s.prog.stopping.isNone && s.module.state != .lockout then
    .next (startReshoot l (reach (x.reshootStart + second 1) s))
  else .next s

/-! ### Two-lane limit (R130) -/

/-- TWO_LANE_LIMIT_EXPIRY: the expiry is recorded and flagged. -/
def execTwoLaneLimitExpiry (s : State) : Out :=
  match s.voter.twoLaneSince with
  | some t =>
    if s.voter.twoLaneExpired || !hasMailbox s then .next s
    else
      let s := reach (t + second (3600 * s.voter.twoLaneLimit)) s
      .next (recordLane 0xFFFF (le 1 4 ++ le 2 s.voter.twoLaneLimit) (modVoter (fun v => { v with twoLaneExpired := true }) s))
  | none => .next s

/-- TWO_LANE_LOCKOUT: at proven standstill after the expiry. -/
def execTwoLaneLockout (s : State) : Out :=
  if s.voter.twoLaneExpired && standstill s && s.module.state != .lockout && hasMailbox s then
    .next (lockOut false 4 0 0xFF 0 s.voter.twoLaneLimit s)
  else .next s

/-! ### Divergence (R127) -/

/-- The records of a serialisation that begin within its first bytes. -/
def keptRecords : Nat → List SerialRecord → List SerialRecord
  | _, [] => []
  | room, r :: l => if room = 0 then [] else r :: keptRecords (room - r.bytes.length) l

/-- The first record in which the first bytes of two serialisations differ, where enough of it is kept to name it. -/
def firstDifference : Nat → List SerialRecord → List SerialRecord → Option SerialRecord
  | _, [], [] => none
  | room, r :: _, [] => if 9 ≤ room then some r else none
  | room, [], r :: _ => if 9 ≤ room then some r else none
  | room, r :: l, q :: m =>
    if r.bytes.take room != q.bytes.take room then (if 9 ≤ room then some r else none)
    else firstDifference (room - r.bytes.length) l m

/-- Bytes of a serialisation that a lane keeps (R127). -/
def keptBytes : Nat := 65536

/-- The records that the first 64 KiB of a serialisation hold, the last of them perhaps in part. -/
def keptSerialisation (l : List SerialRecord) : List SerialRecord := keptRecords keptBytes l

/-- DIVERGENCE_COMPARISON_DONE: the first record that differs within 64 KiB is added to the isolation's record. -/
def execDivergenceComparisonDone (l : Lane) (task : Nat) (s : State) : Out :=
  match s.voter.divergence.find? fun d => d.1 = l.num && d.2.1 = task with
  | none => .next s
  | some d =>
    let s := modVoter (fun v => { v with divergence := v.divergence.erase d }) s
    match firstDifference keptBytes d.2.2.1 d.2.2.2 with
    | some r => .next (recordLane l.num (le 1 2 ++ le 1 task ++ le 1 0 ++ le 8 r.identity ++ le 1 r.tag) s)
    | none => .next (recordLane l.num (le 1 2 ++ le 1 task ++ le 1 1 ++ le 8 0 ++ le 1 0) s)

/-! ### Watchdog and memory (R104, R105) -/

/-- A lane's watchdog timeout. -/
def watchdogTimeout (s : State) : Nat :=
  match runningImage s with
  | some i =>
    let cyclic := (i.tasks.filter fun t => !t.event).map TaskRec.cycle
    let shortest (l : List Nat) : Nat := l.foldl (fun m x => if m = 0 then x else min m x) 0
    if !programRuns s then milli 20
    else if cyclic.isEmpty then micro (2 * shortest ((i.tasks.filter TaskRec.event).map TaskRec.interarrival))
    else micro (2 * shortest cyclic)
  | none => milli 20

/-- A lane that runs: it is neither held in reset nor restarting. -/
def LaneSt.runs (x : LaneSt) : Bool := x.state != .isolated && x.state != .restarting && x.state != .retired

/-- The instant at which a lane's watchdog was served last: while the lane runs no take its idle loop serves it. -/
def watchdogLast (x : LaneSt) (now : Nat) : Nat := if x.takes.any fun t => t.phase = .running then x.watchdogServed else now

/-- LANE_WATCHDOG_EXPIRY (R105): a lane whose runtime has not served its watchdog in time reports a lane fault. -/
def execLaneWatchdogExpiry (l : Lane) (s : State) : Out :=
  let x := laneOf s l
  if lanesRun s && x.runs then .next (laneFault l .watchdog (reach (watchdogLast x s.time + watchdogTimeout s) s)) else .next s

/-- CORRECTED_MEMORY_ERROR (R104): counted. -/
def execCorrectedMemoryError (l : Lane) (s : State) : Out :=
  if lanesRun s then .next (modHealth l (fun h => { h with corrected := h.corrected + 1 }) s) else .next s

end Sys2Proof.Machine
end

