-- ==== Sys2Proof/Machine/Position.lean ====
section
/-! DEFINITION. The position unit: sensor faults, the two fusion channels, counter, speed, confidence and state, reference marks, and the
POSITION commands but those of cues (chapter 9). -/

namespace Sys2Proof.Machine

/-! ### Configuration (R320) -/

/-- π in units of 10⁻¹⁵ (log entry 60). -/
def pi15 : Nat := 3141592653589793

/-- The configuration that 32 bytes state. -/
def positionConfig (b : Bytes) : PositionConfig where
  ppr1 := Bytes.field b 0 2
  ppr2 := Bytes.field b 2 2
  diameter1 := Bytes.field b 4 4
  diameter2 := Bytes.field b 8 4
  sense := Bytes.field b 0xC 1
  axis := Bytes.field b 0xD 1
  vMax := Bytes.field b 0x10 4
  epsU := Bytes.field b 0x14 4
  epsC := Bytes.field b 0x18 4
  cValid := Bytes.field b 0x1C 4

/-- A number lies in a range. -/
def within (lo hi n : Nat) : Bool := lo ≤ n && n ≤ hi

/-- Pulse frequency at v_max stays within 50 kHz. -/
def pulsesFit (ppr diameter vMax : Nat) : Bool := ppr * vMax * 100 * 10 ^ 15 ≤ 50000 * pi15 * diameter

/-- A configuration keeps R320. -/
def PositionConfig.ok (c : PositionConfig) : Bool :=
  within 16 4096 c.ppr1 && within 16 4096 c.ppr2 && within 50000 150000 c.diameter1 && within 50000 150000 c.diameter2 && c.axis % 4 != 3 &&
    within 1000 111112 c.vMax && within 500 50000 c.epsU && within 200 20000 c.epsC && within 100 100000 c.cValid &&
    pulsesFit c.ppr1 c.diameter1 c.vMax && pulsesFit c.ppr2 c.diameter2 c.vMax

/-- Edge distance q_i in 2⁻³² mm, with the scale factor κ. -/
def edgeDistance (p : PosSt) (ppr diameter : Nat) : Nat := p.kappaNum * pi15 * diameter * 2 ^ 32 / (p.kappaDen * (4 * max 1 ppr) * 100 * 10 ^ 15)
def PosSt.q1 (p : PosSt) : Nat := edgeDistance p p.config.ppr1 p.config.diameter1
def PosSt.q2 (p : PosSt) : Nat := edgeDistance p p.config.ppr2 p.config.diameter2
def PosSt.qMax (p : PosSt) : Nat := max p.q1 p.q2

/-- The scale error ε in ppm (R328), and κ in ppm of 1. -/
def PosSt.epsilon (p : PosSt) : Nat := if p.calibrated then p.config.epsC else p.config.epsU
def PosSt.kappaPpm (p : PosSt) : Nat := p.kappaNum * 1000000 / p.kappaDen

/-! ### Axles (R318, R322) -/

/-- Edge counts of an axle with forward positive. -/
def signedEdges (reversed : Bool) (x : AxleSense) : Int := if reversed then -x.edges else x.edges

/-- An axle's speed: the edges of 10 ms times q, divided by 10 ms, not rounded; in 2⁻³² mm/s. -/
def axleSpeed (q : Nat) (edges : List Int) : Int := edges.foldl (· + ·) 0 * q * 100

/-- max(300 mm/s, 2 % of a speed), times 50. -/
def margin50 (v : Int) : Int := max (15000 * 2 ^ 32) v.natAbs

/-- Two speeds agree within half the margin of the first. -/
def agrees (v ref : Int) : Bool := ((v - ref).natAbs : Int) * 100 ≤ margin50 v

/-- Acceleration of an axle over the last 50 ms, in 2⁻³² mm/s². -/
def axleAcceleration (v : Int) (speeds : List Int) : Option Int := (speeds[499]?).map fun old => (v - old) * 20

/-- Mean of the measured accelerations of the last 50 ms, in 2⁻¹⁶ mm/s². -/
def meanAcceleration (a : List Int) : Int := floorDiv (a.foldl (· + ·) 0) (max 1 a.length)

/-- How an axle's acceleration compares with the measured one: beyond it by more than 1.5 m/s² above, or below. -/
def accelerationTest (acc : Option Int) (mean : Int) : Bool × Bool :=
  match acc with
  | some x => (x - mean * 65536 > 1500 * 2 ^ 32, mean * 65536 - x > 1500 * 2 ^ 32)
  | none => (false, false)

/-- One tick of an axle in a fusion channel: its speed against the inertial reference, both in 2⁻³² mm/s; `accelerations` is none while the
accelerometer is faulted. -/
def AxleFusion.tick (x : AxleFusion) (faulted : Bool) (v vRef : Int) (accelerations : Option (List Int)) : AxleFusion :=
  let exceeds : Bool := (v - vRef) * 50 > margin50 v
  let lacks : Bool := (vRef - v) * 50 > margin50 v
  let above := if exceeds then x.above + 1 else 0
  let below := if lacks then x.below + 1 else 0
  let test := match accelerations with
    | some a => accelerationTest (axleAcceleration v x.speeds) (meanAcceleration a)
    | none => (false, false)
  let slips : Bool := 5 ≤ above || test.1
  let slides : Bool := 5 ≤ below || test.2
  let agree := if x.disturbed && agrees v vRef then x.agree + 1 else 0
  let settled : Bool := 2000 ≤ agree
  { slipping := slips || x.slipping && !settled, sliding := slides || x.sliding && !settled, above := above, below := below, agree := agree,
    disturbed := faulted || slips || slides || x.disturbed && !settled, speeds := (v :: x.speeds).take 500 }

/-- Neither faulted nor disturbed. -/
def AxleFusion.sound (x : AxleFusion) (faulted : Bool) : Bool := !faulted && !x.disturbed

/-- An axle's sensor findings, with the counts of the last 10 ms kept: it is faulted from the tick at which one is found. The counts agree
when they agree with the other axle's speed or with the inertial reference. -/
def AxleFault.tick (x : AxleFault) (sense : AxleSense) (edges : Int) (agreeing : Bool) : AxleFault :=
  let bad := sense.wiring || sense.overfrequency || sense.deadChannel || sense.illegal
  { faulted := x.faulted || bad, clean := if bad || !agreeing then 0 else x.clean + 1, edges := (edges :: x.edges).take 100 }

/-! ### A fusion channel (R322 to R325) -/

/-- The growth of the bridging term in a number of ticks: 0.01 |v₀| t + 150 t², in 2⁻¹⁶ mm. -/
def bridgingGrowth (v0 : Int) (ticks : Nat) : Nat := 65536 * (100 * v0.natAbs * ticks + 150 * ticks * ticks) / 10 ^ 8

/-- What both fusion channels take in at a tick: edges, edge distances, speeds and faults of the axles. -/
structure AxleInputs where
  n1 : Int
  n2 : Int
  q1 : Nat
  q2 : Nat
  v1 : Int
  v2 : Int
  faulted1 : Bool
  faulted2 : Bool

/-- The increment of Table 9.3 in 2⁻¹⁶ mm. -/
def increment (a : AxleInputs) (sound1 sound2 accFaulted : Bool) (v vRef : Int) : Int :=
  let d1 := a.n1 * a.q1
  let d2 := a.n2 * a.q2
  if sound1 && sound2 then floorDiv (d1 + d2 + 2 ^ 16) (2 ^ 17)
  else if sound1 then floorDiv (d1 + 2 ^ 15) (2 ^ 16)
  else if sound2 then floorDiv (d2 + 2 ^ 15) (2 ^ 16)
  else if accFaulted then floorDiv (v * 65536 + 5000) 10000
  else floorDiv (vRef + 5000) 10000

/-- The bridging after a tick, and the bridging term. -/
def bridgeTick (x : Fusion) (bridges : Bool) (v : Int) : Option Bridging × Int :=
  match x.bridging with
  | none => if bridges then (some ⟨0, 0, v, x.b, false⟩, x.b) else (none, x.b)
  | some g =>
    let n := g.ticks + 1
    let b := g.b + bridgingGrowth g.v0 n
    if bridges then (some { g with ticks := n, total := g.total + 1 }, b) else (none, b)

/-- The gradient bias after a tick (R323): filtered towards the difference of the accelerometer and the axles' mean acceleration with
2 s. -/
def biasTick (x : Fusion) (a : AxleInputs) (sound accFaulted : Bool) (reading : Int) : Int :=
  match axleAcceleration a.v1 x.axle1.speeds, axleAcceleration a.v2 x.axle2.speeds with
  | some p, some q => if sound && !accFaulted then x.beta + floorDiv (reading * 65536 - floorDiv (p + q) (2 ^ 17) - x.beta) 20000 else x.beta
  | _, _ => x.beta

/-- The values of a fusion channel at a tick, but its state. -/
def Fusion.tick (x : Fusion) (a : AxleInputs) (accFaulted : Bool) (reading : Int) : Fusion :=
  let aM := if accFaulted then 0 else reading * 65536 - x.beta
  let vRef := x.v * 65536 + floorDiv aM 10000
  let accels := (aM :: x.accels).take 500
  let known := if accFaulted then none else some accels
  let axle1 := x.axle1.tick a.faulted1 a.v1 (vRef * 65536) known
  let axle2 := x.axle2.tick a.faulted2 a.v2 (vRef * 65536) known
  let sound1 := axle1.sound a.faulted1
  let sound2 := axle2.sound a.faulted2
  let value := x.value + increment a sound1 sound2 accFaulted x.v vRef
  let past := (x.value :: x.past).take 100
  let v := floorDiv ((value - past.getLastD x.value) * 100 + 32768) 65536
  let bridge := bridgeTick x (!sound1 && !sound2) v
  { value := value, past := past, v := v, vRef := vRef, beta := biasTick x a (sound1 && sound2) accFaulted reading, accels := accels,
    axle1 := axle1, axle2 := axle2, bridging := bridge.1, b := bridge.2, state := x.state }

/-- The counter of a channel: the floor of its internal value in mm. -/
def Fusion.counter (x : Fusion) : Int := floorDiv x.value 65536

/-- The confidence half-width of a channel in 2⁻¹⁶ mm (R328). -/
def Fusion.confidence (x : Fusion) (p : PosSt) : Nat :=
  65536 * p.tolerance + p.epsilon * (x.counter - p.anchor).natAbs * 65536 / 1000000 + x.b.toNat + p.qMax / 65536

/-- Whole mm of a width, rounded up. -/
def ceilMm (c : Nat) : Nat := (c + 65535) / 65536

/-- Disturbed or bridging at this tick, as a channel sees it. -/
def Fusion.unsteady (x : Fusion) (f1 f2 : Bool) : Bool := !x.axle1.sound f1 || !x.axle2.sound f2

/-! ### The unit at a tick (R319, R321, R326 to R329) -/

/-- Invalid under Table 9.4, but for the module state. -/
def PosSt.invalid (p : PosSt) (x : Fusion) : Bool :=
  0 < p.reinit || p.internalFault || x.bridging.any Bridging.tooLong ||
    p.fault1.faulted && p.fault2.faulted && p.acc1Faulted && p.acc2Faulted

/-- The state of Table 9.4 with a confidence in 2⁻¹⁶ mm. -/
def PosSt.stateOf (p : PosSt) (x : Fusion) (c : Nat) : PositionState :=
  if p.invalid x then .invalid
  else if x.unsteady p.fault1.faulted p.fault2.faulted || p.acc1Faulted || p.acc2Faulted || 65536 * p.config.cValid < c || !p.runDone then .degraded
  else .valid

/-- Both accelerometers after a tick (R319): a difference of more than 0.5 m/s² for 100 ms faults both until they agree within 0.25 m/s² for
1 s. -/
def accelTick (s1 s2 : AccelSense) (p : PosSt) : PosSt :=
  let diff := (s1.reading - s2.reading).natAbs
  let differ := if 500 < diff then p.accDiffer + 1 else 0
  let agree := if diff ≤ 250 then p.accAgree + 1 else 0
  let latched : Bool := 1000 ≤ differ || p.accLatched && agree < 10000
  let f1 := s1.faulty || latched
  let f2 := s2.faulty || latched
  { p with accDiffer := differ, accAgree := agree, accLatched := latched, acc1Faulted := f1, acc2Faulted := f2
           accFaults1 := p.accFaults1 + bit (f1 && !p.acc1Faulted), accFaults2 := p.accFaults2 + bit (f2 && !p.acc2Faulted) }

/-- The axles' findings after a tick (R318). -/
def axlesTick (t : TickSense) (n1 n2 : Int) (p : PosSt) : PosSt :=
  let v (q : Nat) (x : AxleFault) (n : Int) : Int := axleSpeed q ((n :: x.edges).take 100)
  let v1 := v p.q1 p.fault1 n1
  let v2 := v p.q2 p.fault2 n2
  let ref := p.channel1.v * 2 ^ 32
  let a1 : Bool := agrees v1 ref || (!p.fault2.faulted && agrees v1 v2)
  let a2 : Bool := agrees v2 ref || (!p.fault1.faulted && agrees v2 v1)
  let f1 := p.fault1.tick t.axle1 n1 a1
  let f2 := p.fault2.tick t.axle2 n2 a2
  { p with fault1 := f1, fault2 := f2, axleFaults1 := p.axleFaults1 + bit (f1.faulted && !p.fault1.faulted)
           axleFaults2 := p.axleFaults2 + bit (f2.faulted && !p.fault2.faulted) }

/-- A reading of an accelerometer with forward positive. -/
def forwardReading (c : PositionConfig) (x : AccelSense) : Int := if hasBit c.axis 2 then -x.reading else x.reading

/-- The event counters of the published channel (Table 9.11). -/
def countEvents (x y : Fusion) (p : PosSt) : PosSt :=
  { p with
    slip1 := p.slip1 + bit (y.axle1.slipping && !x.axle1.slipping), slip2 := p.slip2 + bit (y.axle2.slipping && !x.axle2.slipping)
    slide1 := p.slide1 + bit (y.axle1.sliding && !x.axle1.sliding), slide2 := p.slide2 + bit (y.axle2.sliding && !x.axle2.sliding)
    bridgings := p.bridgings + bit (y.bridging.isSome && x.bridging.isNone)
    longestBridging := match x.bridging with
      | some g => max p.longestBridging ((g.total + 1) / 10)
      | none => p.longestBridging }

/-- The agreeing run of Table 9.4 after a tick. -/
def runTick (a : AxleInputs) (y : Fusion) (p : PosSt) : PosSt :=
  if p.runDone then p
  else
    let r1 := p.run1 + a.n1 * a.q1
    let r2 := p.run2 + a.n2 * a.q2
    let run := (y.counter - p.runCounter).natAbs
    let beyond : Bool := (r1 - r2).natAbs * 50 > run * 2 ^ 32 + 100 * p.qMax
    if y.unsteady a.faulted1 a.faulted2 || beyond then { p with runCounter := y.counter, run1 := 0, run2 := 0 }
    else { p with run1 := r1, run2 := r2, runDone := 1000 ≤ run }

/-- The comparison of the two channels (R321): two consecutive ticks of a difference are an internal fault. -/
def compareChannels (p : PosSt) : PosSt :=
  let differ : Bool := (p.channel1.counter - p.channel2.counter).natAbs * 2 ^ 32 > 2 * p.qMax + 2 ^ 32 ||
    (p.channel1.v - p.channel2.v).natAbs > 100 || p.channel1.state != p.channel2.state
  { p with disagree := if differ then p.disagree + 1 else 0, internalFault := p.internalFault || differ && 1 ≤ p.disagree }

/-- The published confidence in 2⁻¹⁶ mm (R321). -/
def PosSt.published (p : PosSt) : Nat :=
  max (p.channel1.confidence p) (p.channel2.confidence p) + 65536 * (p.channel1.counter - p.channel2.counter).natAbs

/-- The tick entered into the history of 10 s; the last disturbed tick that leaves it is remembered. -/
def historyTick (boundary : Nat) (clean : Bool) (p : PosSt) : PosSt :=
  let h : List TickRecord := ⟨boundary, p.counter, p.speed, p.confidence, p.state, clean⟩ :: p.history
  let old := h.drop 100000
  { p with history := h.take 100000, unclean := old.foldl (fun m x => if x.clean then m else max m x.boundary) p.unclean }

/-- The position unit's values at a tick. -/
def unitTick (boundary : Nat) (booting : Bool) (t : TickSense) (p : PosSt) : PosSt :=
  let n1 := signedEdges (hasBit p.config.sense 0) t.axle1
  let n2 := signedEdges (hasBit p.config.sense 1) t.axle2
  let p := accelTick t.acc1 t.acc2 (axlesTick t n1 n2 { p with reinit := p.reinit - 1 })
  let a : AxleInputs := { n1 := n1, n2 := n2, q1 := p.q1, q2 := p.q2, v1 := axleSpeed p.q1 p.fault1.edges, v2 := axleSpeed p.q2 p.fault2.edges,
                          faulted1 := p.fault1.faulted, faulted2 := p.fault2.faulted }
  let x := p.channel1.tick a p.acc1Faulted (forwardReading p.config t.acc1)
  let y := p.channel2.tick a p.acc2Faulted (forwardReading p.config t.acc2)
  let y := { y with value := y.value + 65536 * t.fusionFault }
  let p := runTick a x (countEvents p.channel1 x p)
  let p := { p with channel1 := x, channel2 := y }
  let p := { p with channel1 := { x with state := p.stateOf x (x.confidence p) }, channel2 := { y with state := p.stateOf y (y.confidence p) } }
  let p := compareChannels p
  let c := p.published
  let state := if booting then .invalid else p.stateOf x c
  let clean := !x.unsteady a.faulted1 a.faulted2
  historyTick boundary clean { p with
    counter := x.counter, speed := x.v, confidence := ceilMm c, state := state, ticks := p.ticks + 1
    lastSign := if 0 < x.v then 1 else if x.v < 0 then -1 else p.lastSign }

/-- The boundary of the next tick (R326): the first 100 µs of local time whose values are not yet available. -/
def nextTick (s : State) : Nat :=
  let unit := 100 * usUnit
  let least := localNow s - 20 * usUnit
  let b := unit * ((least + unit - 1) / unit)
  if (s.pos.history.head?).map TickRecord.boundary = some b then b + unit else b

/-- The module event 2 of Table 14.1, where the Position state has changed. -/
def signalPosition (before : PositionState) (s : State) : State := if s.pos.state = before then s else pulse 6 2 s

/-! ### Marks (R330, R331) -/

/-- The instant that a mark or POSITION_AT names, and whether it lies in the last 10 s. -/
def markInstant (b : Bytes) : Nat := ofTai (Bytes.field b 0 8) (Bytes.field b 8 4)
def markRecent (s : State) (v : Nat) : Bool := v ≤ localNow s && localNow s ≤ v + 10 * secUnit

/-- The tick at an instant: the last at or before it. -/
def tickAt (s : State) (v : Nat) : Option TickRecord := s.pos.history.find? fun h => h.boundary ≤ v

/-- A window is open. -/
def windowOpen (s : State) : Bool := !s.safety.windows.isEmpty

/-- An anchor taken in a fusion channel: its bridging term starts again. -/
def Fusion.anchored (x : Fusion) : Fusion :=
  { x with b := 0, bridging := x.bridging.map fun g => { g with ticks := 0, v0 := x.v, b := 0 } }

/-- An anchor. -/
def anchorAt (counter : Int) (tolerance tai : Nat) (p : PosSt) : PosSt :=
  { p with anchor := counter, tolerance := tolerance, anchorTai := tai, channel1 := p.channel1.anchored, channel2 := p.channel2.anchored }

/-- A calibration from a reference is accepted: long enough, steady between the marks, and within 2 %. -/
def calibrationOk (p : PosSt) (from_ to_ : Nat) (k m : Int) : Bool :=
  200000 ≤ k.natAbs && p.unclean ≤ from_ && !(p.history.any fun h => !h.clean && from_ < h.boundary && h.boundary ≤ to_) &&
    (m - k).natAbs * 50 ≤ k.natAbs

/-- The scale part of a mark: whether it is accepted, the measured distance, and the unit after it. -/
def scaleMark (h : TickRecord) (k : Int) (p : PosSt) : Bool × Int × PosSt :=
  let reference (q : PosSt) : PosSt := { q with scaleReference := some h.counter, scaleAt := h.boundary }
  if k = 0 then (true, 0, reference p)
  else
    match p.scaleReference with
    | none => (false, 0, p)
    | some r =>
      let m := h.counter - r
      if calibrationOk p p.scaleAt h.boundary k m then
        let g := Nat.gcd (p.kappaNum * k.natAbs) (p.kappaDen * m.natAbs)
        (true, m, reference { p with kappaNum := p.kappaNum * k.natAbs / g, kappaDen := p.kappaDen * m.natAbs / g, calibrated := true })
      else (false, m, p)

/-- A mark applied at a tick: its completion follows. -/
def applyMark (e : Entry) (s : State) : State :=
  let flags := e.field 12 1
  let k := e.fieldInt 20 8
  match tickAt s (markInstant e.payload) with
  | none => completeEntry e.id 0x0711 [] s
  | some h =>
    if hasBit flags 0 && windowOpen s then completeEntry e.id 0x0713 [] s
    else
      let r := if hasBit flags 1 then scaleMark h k s.pos else (true, 0, s.pos)
      let p := if hasBit flags 0 then anchorAt h.counter (e.field 16 4) (e.field 0 8) r.2.2 else r.2.2
      let p := { p with confidence := ceilMm p.published, marksAccepted := p.marksAccepted + bit r.1, marksRejected := p.marksRejected + bit !r.1 }
      let s := modPos (fun _ => p) (if r.1 || hasBit flags 0 then commitEntry e.id s else s)
      let s := record .general 9 0 (le 1 (bit !r.1) ++ leInt 8 h.counter ++ leInt 8 r.2.1 ++ le 4 p.kappaPpm ++ le 4 (e.field 28 4)) s
      completeEntry e.id (if r.1 then stOk else 0x0712) (if r.1 then leInt 8 h.counter ++ leInt 8 r.2.1 ++ le 4 p.kappaPpm ++ le 4 p.confidence else []) s

/-! ### Commands (Table 9.11) -/

/-- Fault and disturbance bits of an axle. -/
def axleBits (f : AxleFault) (x : AxleFusion) : Nat := bit f.faulted + 2 * bit x.slipping + 4 * bit x.sliding

/-- POSITION_STATUS. -/
def cmdPositionStatus : Command where
  issuers := anyOrLanes
  body := sized 0 fun _ s =>
    let p := s.pos
    let x := p.channel1
    answers (le 1 p.state.code ++ leInt 8 p.counter ++ leInt 4 p.speed ++ le 4 p.confidence ++
      le 1 (axleBits p.fault1 x.axle1 + 8 * axleBits p.fault2 x.axle2) ++ le 1 (bit p.acc1Faulted + 2 * bit p.acc2Faulted) ++
      le 1 (bit x.bridging.isSome) ++ le 4 ((x.bridging.map fun g => g.total / 10).getD 0) ++ le 4 (ceilMm x.b.toNat) ++
      leInt 2 (floorDiv x.beta 65536) ++ le 4 p.kappaPpm ++ le 1 (bit p.calibrated) ++ leInt 8 p.anchor ++ le 8 p.anchorTai ++
      le 1 (bit p.internalFault) ++ le 8 (crc64 p.config.bytes)) s

/-- The unit reinitialised with a configuration (R320): Invalid for the 10 ticks that follow, each tick taking one from `reinit` before it
looks. -/
def reinitialise (c : PositionConfig) (p : PosSt) : PosSt :=
  { p with config := c, reinit := 11, state := .invalid, kappaNum := 1, kappaDen := 1, calibrated := false, scaleReference := none
           runDone := false, runCounter := p.counter, run1 := 0, run2 := 0
           channel1 := { p.channel1 with state := .invalid }, channel2 := { p.channel2 with state := .invalid } }

/-- POSITION_CONFIGURE. -/
def cmdPositionConfigure : Command where
  issuers := roleOnly safety
  body := sized 32 fun e s =>
    let c := positionConfig e.payload
    if !e.clear [(0x0E, 2)] || 4 ≤ c.sense || 8 ≤ c.axis then fails stBadArgument s
    else if s.module.state != .maintenance then fails stRefused s
    else if !standstill s then fails 0x0615 s
    else if !c.ok then fails 0x0714 s
    else
      let old := crc64 s.pos.config.bytes
      let new := crc64 c.bytes
      let s := record .juridical 9 0 (le 8 old ++ le 8 new ++ issuerName s e.issuer) s
      answers (le 8 old ++ le 8 new) (forwardSettings e (evaluateGates (closeWindows (signalPosition s.pos.state (modPos (reinitialise c) s)))))

/-- POSITION_MARK: it waits for the tick that applies it. -/
def cmdPositionMark : Command where
  issuers := roleOrLanes maintainer
  body := sized 32 fun e s =>
    if 1000000000 ≤ e.field 8 4 || 3 < e.field 12 1 || !e.clear [(13, 3)] || 100000 < e.field 16 4 then fails stBadArgument s
    else if !markRecent s (markInstant e.payload) || (tickAt s (markInstant e.payload)).isNone then fails 0x0711 s
    else if hasBit (e.field 12 1) 0 && windowOpen s then fails 0x0713 s
    else (modPos (fun p => { p with waiting := p.waiting ++ [e.id] }) s, .goesOn .under false)

/-- POSITION_AT. -/
def cmdPositionAt : Command where
  issuers := anyOrLanes
  body := sized 12 fun e s =>
    let v := markInstant e.payload
    if 1000000000 ≤ e.field 8 4 then fails stBadArgument s
    else if !markRecent s v then fails 0x0711 s
    else
      match tickAt s v with
      | some h => answers (taiBytes h.boundary ++ leInt 8 h.counter ++ leInt 4 h.speed ++ le 4 h.confidence ++ le 1 h.state.code) s
      | none => fails 0x0711 s

/-- POSITION_COUNTERS. -/
def cmdPositionCounters : Command where
  issuers := anyOrLanes
  body := sized 0 fun _ s =>
    let p := s.pos
    answers ([p.slip1, p.slip2, p.slide1, p.slide2, p.bridgings, p.longestBridging, p.axleFaults1, p.axleFaults2, p.accFaults1, p.accFaults2,
      p.marksAccepted, p.marksRejected, p.cueFirings, p.cueMisses, p.requestsDropped].flatMap (le 4)) s

/-! ### Events of single sensors -/

/-- AXLE_CLEAN (R318): an axle without a fault for 1 s, with agreeing counts throughout. -/
def execAxleClean (axle : Nat) (s : State) : Out :=
  let clean (x : AxleFault) : AxleFault := if 10000 ≤ x.clean then { x with faulted := false } else x
  .next (modPos (fun p => if axle = 1 then { p with fault1 := clean p.fault1 } else { p with fault2 := clean p.fault2 }) s)

end Sys2Proof.Machine
end

