-- ==== Sys2Proof/Machine/Motion.lean ====
section
/-! DEFINITION. The position tick and the safety functions that the monitor channels evaluate at it (chapters 8 and 9). -/

namespace Sys2Proof.Machine

/-! ### Speeds (R292), in 10⁻⁶ × 2⁻³² mm/s -/

/-- A speed in 10⁻⁶ mm/s in this unit. -/
def fineSpeed (n : Nat) : Nat := 2 ^ 32 * n

/-- The bridging that the published speed rests on. -/
def bridgingNow (p : PosSt) : Option Bridging := p.channel1.bridging

/-- The bounded speed u, in 10⁻⁶ mm/s. -/
def boundedSpeed (s : State) : Nat :=
  let p := s.pos
  let eb := match bridgingNow p with
    | some g => 10000 * g.v0.natAbs + 30000 * g.ticks
    | none => 0
  p.speed.natAbs * (1000000 + p.epsilon) + eb + 1000000 * motionField (params s) 0 2

/-- An axle's speed of R322, without its sign. -/
def countSpeed (q : Nat) (edges : List Int) : Nat := 1000000 * (axleSpeed q edges).natAbs

/-- The axles' speeds. -/
def axleSpeeds (s : State) : Nat × Nat := (countSpeed s.pos.q1 s.pos.fault1.edges, countSpeed s.pos.q2 s.pos.fault2.edges)

/-- The value of the overspeed test. -/
def testSpeed (s : State) : Nat := max (fineSpeed (boundedSpeed s)) (max (axleSpeeds s).1 (axleSpeeds s).2)

/-- The low-speed test: below 138.9 mm/s. -/
def lowSpeed (s : State) : Bool := testSpeed s < fineSpeed 138900000

/-! ### Safely limited speed (R293, R295) -/

/-- SAFETY_FUNCTION records (Table 15.2): sources 0 limited speed, 2 direction, 4 overdue switch test, 5 pause of the switch tests, 6 key
operation (log entry 59). -/
def recordFunction (source : Nat) (payload : Bytes) (s : State) : State := record .juridical 0x13 source payload s

/-- A transition of limited speed. -/
def setSpeedViolated (v : Bool) (s : State) : State :=
  recordFunction 0 (le 1 (bit v) ++ leInt 8 s.pos.counter ++ leInt 4 s.pos.speed ++ le 1 (zoneInForce s))
    (modSafety (fun x => { x with speedViolated := v, speedClearFrom := none }) s)

/-- The test's value is at or below the limit of the zone in force less its hysteresis. -/
def belowClear (s : State) : Bool := testSpeed s + fineSpeed (1000000 * zoneField (params s) (zoneInForce s) 6 2) ≤ fineSpeed (1000000 * limitInForce s)

/-- Limited speed at a tick. -/
def speedTick (s : State) : State :=
  let s := modSafety (fun x => { x with zoneInForce := some (zoneInForce s) }) s
  if positionInvalid s || fineSpeed (1000000 * limitInForce s) < testSpeed s then
    if s.safety.speedViolated then modSafety (fun x => { x with speedClearFrom := none }) s else setSpeedViolated true s
  else if belowClear s then
    modSafety (fun x => { x with speedClearFrom := match x.speedClearFrom with
      | some t => some t
      | none => some s.time }) s
  else modSafety (fun x => { x with speedClearFrom := none }) s

/-- SPEED_VIOLATION_CLEAR (R295): 1 s at or below the limit less the hysteresis. -/
def execSpeedViolationClear (s : State) : Out :=
  match s.safety.speedClearFrom with
  | some t =>
    if s.safety.speedViolated && !positionInvalid s then .next (evaluateGates (setSpeedViolated false (reach (t + second 1) s))) else .next s
  | none => .next s

/-! ### Standstill (R293, R296) -/

/-- Standstill at a tick: lost when a condition fails, its second started again by a movement of more than 100 mm. -/
def standstillTick (s : State) : State :=
  let x := s.safety
  let lost (t : State) : State := modSafety (fun x => { x with standstill := false }) t
  if positionInvalid s || !lowSpeed s then modSafety (fun x => { x with stillFrom := none }) (lost s)
  else if x.stillFrom.isNone || 100 < (s.pos.counter - x.stillCounter).natAbs then
    modSafety (fun x => { x with stillFrom := some s.time, stillCounter := s.pos.counter }) (lost s)
  else s

/-- A direction violation recorded as it begins or clears. -/
def recordDirection (v : Bool) (s : State) : State :=
  recordFunction 2 (le 1 (bit v) ++ leInt 8 s.safety.reference ++ leInt 8 s.pos.counter ++ le 1 s.safety.intended) s

/-- Standstill becomes proven: the direction's reference is set and its violation clears (R297, R298). -/
def proveStandstill (s : State) : State :=
  let violated := s.safety.directionViolated
  let s := modSafety (fun x => { x with standstill := true, reference := s.pos.counter, directionViolated := false }) s
  if violated then recordDirection false s else s

/-- STANDSTILL_PROVEN (R296): both conditions have held for 1 s. -/
def execStandstillProven (s : State) : Out :=
  match s.safety.stillFrom with
  | some t => if s.safety.standstill || positionInvalid s then .next s else .next (evaluateGates (proveStandstill (reach (t + second 1) s)))
  | none => .next s

/-! ### Safe direction (R293, R297, R298) -/

/-- The reference position after a tick. -/
def referenceTick (intended : Nat) (counter r : Int) : Int :=
  match intended with
  | 1 => max r counter
  | 2 => min r counter
  | _ => r

/-- The position lies more than 500 mm from the reference against the intended direction. -/
def strays (intended : Nat) (counter r : Int) : Bool :=
  match intended with
  | 1 => counter < r - 500
  | 2 => r + 500 < counter
  | _ => counter < r - 500 || r + 500 < counter

/-- Direction at a tick. -/
def directionTick (s : State) : State :=
  let want := intendedDirection s
  let r := if want = s.safety.intended then s.safety.reference else s.pos.counter
  let r := referenceTick want s.pos.counter r
  let s := modSafety (fun x => { x with intended := want, reference := r }) s
  if !s.safety.directionViolated && (positionInvalid s || strays want s.pos.counter r) then
    recordDirection true (modSafety (fun x => { x with directionViolated := true }) s)
  else s

/-! ### Windows (R300) -/

/-- At a tick every window closes when the position is Invalid or no program runs. -/
def windowTick (s : State) : State := if positionInvalid s || !programRuns s then closeWindows s else s

/-- WINDOW_OPEN_TIME_EXPIRY (R300). -/
def execWindowOpenTimeExpiry (w : Nat) (s : State) : Out :=
  let limit := windowField (params s) w 8 2
  match Tbl.find s.safety.windows w with
  | some x => if limit = 0 then .next s else .next (evaluateGates (closeWindow w (reach (x.since + second limit) s)))
  | none => .next s

/-- WINDOW_CLOSE takes effect at a tick: the windows that were open. -/
def applyWindowClose (e : Entry) (s : State) : State :=
  let were := (s.safety.windows.filter fun p => hasBit (e.field 0 1) p.1).map Prod.fst
  let s := were.foldl (fun t w => closeWindow w t) (commitEntry e.id s)
  completeEntry e.id stOk (le 1 ((were.map fun w => 2 ^ w).sum)) s

/-! ### Safe outputs at a tick (R287) -/

/-- A trip is reported at the next tick, and ends when the driving task has released the output as off for 100 ms. -/
def tripTick (now : Nat) (o : SafeOutput) : SafeOutput :=
  let ended : Bool := match o.offSince with
    | some t => o.commanded = 0 && t + milli 100 ≤ now
    | none => false
  { o with tripped := o.tripped && !ended, tripSeen := o.tripped && !ended }

/-- A back-feed fault clears when the terminal has carried no voltage from outside for 100 ms. -/
def backFeedTick (now : Nat) (fed : Bool) (o : SafeOutput) : SafeOutput :=
  if !o.backFed then o
  else if fed then { o with unfedSince := none }
  else
    match o.unfedSince with
    | some t => if t + milli 100 ≤ now then { o with backFed := false, unfedSince := none } else o
    | none => { o with unfedSince := some now }

/-- The outputs at a tick. -/
def outputsTick (fed : Nat) (s : State) : State :=
  let one (p : Nat × SafeOutput) : Nat × SafeOutput := (p.1, backFeedTick s.time (hasBit fed p.1) (tripTick s.time p.2))
  modSafety (fun x => { x with outputs := x.outputs.map one }) s

/-! ### The monitor channels (R274) -/

/-- A channel that differs on a state for two consecutive ticks is an internal fault. -/
def monitorTick (differs : Option (Nat × Lane)) (s : State) : State :=
  let before := s.safety.monitorDiffered
  let s := modSafety (fun x => { x with monitorDiffered := differs }) s
  match differs with
  | some d => if before = some d then internalFault 0x13 (d.1 + 256 * d.2.num) s else s
  | none => faultsGone (fun f => f.1 = 0x13) s

/-! ### The tick -/

/-- Marks and window closings that waited for the tick. -/
def waitingTick (s : State) : State :=
  let ids := s.pos.waiting
  ids.foldl (fun t id => match entryOf t id with
    | some e => if e.code = 0x0703 then applyMark e t else applyWindowClose e t
    | none => t) (modPos (fun p => { p with waiting := [] }) s)

/-- The safety functions at a tick. -/
def functionsTick (s : State) : State := testGate (windowTick (directionTick (speedTick (standstillTick s))))

/-- POSITION_TICK (R273, R322, R326): the unit's values at a boundary of 100 µs are available 20 µs after it; marks, cues, functions, monitor
comparison and gates follow. -/
def execPositionTick (t : TickSense) (s : State) : Out :=
  match s.module.state with
  | .stowed | .halted => .next s
  | m =>
    let boundary := nextTick s
    let before := s.pos.counter
    let latched := s.pos.internalFault
    let state := s.pos.state
    let s := modPos (fun p => { p with tickAt := s.time }) (reachLocal boundary s)
    let s := signalPosition state (reachLocal (boundary + 20 * usUnit) (modPos (unitTick boundary (m = .booting) t) s))
    let s := if s.pos.internalFault && !latched then record .juridical 9 0 (le 1 1 ++ leInt 8 s.pos.counter) s else s
    let s := cueTick boundary before s.pos.counter (waitingTick s)
    let s := functionsTick (outputsTick t.backFed s)
    .next (evaluateGates (monitorTick t.monitorDiffers s))

/-- BRIDGING_LIMIT (R325): 5 s of bridging make the state Invalid until it ends. -/
def execBridgingLimit (s : State) : Out :=
  let mark (x : Fusion) : Fusion :=
    if x.bridging.any fun g => 50000 ≤ g.total then { x with bridging := x.bridging.map fun g => { g with tooLong := true }, state := .invalid } else x
  let reached : Bool := s.pos.channel1.bridging.any fun g => 50000 ≤ g.total
  let s := modPos (fun p => { p with channel1 := mark p.channel1, channel2 := mark p.channel2 }) s
  if reached then .next (evaluateGates (functionsTick (signalPosition s.pos.state (modPos (fun p => { p with state := .invalid }) s)))) else .next s

end Sys2Proof.Machine
end

