-- ==== Sys2Proof/Machine/Guard.lean ====
section
/-! DEFINITION. Safe inputs and outputs in operation, the SAFETY commands, and the Lock-out reset with its key (chapter 8). -/

namespace Sys2Proof.Machine

/-! ### Safe inputs (R277 to R281) -/

/-- The safe inputs are sampled. -/
def inputsSampled (s : State) : Bool := hasMailbox s

/-- What the two paths of an input read of their voltages in mV (R276). -/
def readPaths (i mv0 mv1 : Nat) (s : State) : State :=
  let un := fieldVoltage (Bytes.field (params s) 0x18 1)
  modInput i (fun x => { x with path0 := pathReads un mv0 x.path0, path1 := pathReads un mv1 x.path1 }) s

/-- SAFE_INPUT_CHANGE (R276, R277): the voltages at both paths have stood for the input's filter time. -/
def execSafeInputChange (i : Nat) (volts : PathVolts) (s : State) : Out :=
  if !inputsSampled s then .next s
  else
    let s := readPaths i volts.path0 volts.path1 s
    let x := inputOf s i
    .next (if x.path0 == x.path1 then changeInput i x.path0 s else s)

/-- INPUT_PATH_FAULT (R277): the paths differ for more than 500 µs. -/
def execInputPathFault (i : Nat) (s : State) : Out := if inputsSampled s then .next (internalFault 0x12 (i + 256 * 0xFF) s) else .next s

/-- INPUT_PATH_TEST (R277): the interruption of a path must be seen by it alone. -/
def execInputPathTest (i path : Nat) (shown : Bool) (s : State) : Out :=
  if !inputsSampled s then .next s
  else if shown then .next (faultsGone (fun f => f = (0x12, i + 256 * path) || f = (0x12, i + 256 * 0xFF)) s)
  else .next (internalFault 0x12 (i + 256 * path) s)

/-- What one reading of a dark pulse says of an input (R279): nothing of one that is assigned to no source. -/
def pulseRead (source : Nat) (r : PulseReading) (s : State) : State :=
  let assigned := inputField (params s) r.input 1 1
  if inputMode s r.input = 0 || assigned = 0xFF then s
  else if (inputOf s r.input).closed then
    if r.followedOther || (assigned != source && r.followed) then faultInput r.input s
    else if assigned != source then s
    else
      let missed := if r.followed then 0 else (inputOf s r.input).missedPulses + 1
      let s := modInput r.input (fun x => { x with missedPulses := missed }) s
      if 2 ≤ missed then faultInput r.input s else s
  else
    let s := modInput r.input (fun x => { x with missedPulses := 0 }) s
    if inputFaulted s r.input then clearFault r.input s else s

/-- Start of the dark pulse of a source whose readings are next due (R278): 5 × j ms past a 20 ms boundary of local time; its last reading
is 450 µs after it. -/
def pulseStart (s : State) (source : Nat) : Nat :=
  let unit := 20000 * usUnit
  let phase := 5000 * source * usUnit
  let b := phase + unit * ((localNow s - 450 * usUnit + unit - 1 - phase) / unit)
  if Tbl.find s.safety.pulsed source = some b then b + unit else b

/-- TEST_PULSE (R278, R279): a dark pulse of 300 µs, and its readings until 150 µs after its end. -/
def execTestPulse (source : Nat) (readings : List PulseReading) (sourceOk : Bool) (s : State) : Out :=
  if !s.safety.testPulses then .next s
  else
    let start := pulseStart s source
    let s := modSafety (fun x => { x with pulsed := Tbl.put x.pulsed source start }) (emit (.darkPulse source) s)
    let s := reachLocal (start + 450 * usUnit) s
    if sourceOk then .next (readings.foldl (fun t r => pulseRead source r t) (faultsGone (fun f => f = (0x14, source)) s))
    else .next (internalFault 0x14 source s)

/-- PAIR_DISCREPANCY_FAULT (R280): a pair neither open nor closed for longer than its discrepancy time. -/
def execPairDiscrepancyFault (k : Nat) (s : State) : Out :=
  let f := 2 * k
  match pairFirst s f, (inputOf s f).discrepantSince with
  | some _, some t => .next (faultInput f (reach (t + milli (inputField (params s) f 6 2)) s))
  | _, _ => .next s

/-! ### Safe outputs (R287 to R291) -/

/-- OUTPUT_TIMEOUT (R288): the timeout passes without a release of the driving task. -/
def execOutputTimeout (i : Nat) (s : State) : Out :=
  match (outputOf s i).releasedAt with
  | some t => if (outputOf s i).timedOut then .next s else .next (modOutput i (fun o => { o with timedOut := true }) (reach (t + outputTimeout s i) s))
  | none => .next s

/-- OVERCURRENT_TRIP (R287): an output that conducts goes off. -/
def execOvercurrentTrip (i : Nat) (s : State) : Out :=
  if terminalOn s i then .next (modOutput i (fun o => { o with tripped := true }) s) else .next s

/-- BACK_FEED_FAULT (R287): voltage from outside for more than 1 ms while all six switches are open. -/
def execBackFeedFault (i : Nat) (s : State) : Out :=
  let open_ : Bool := !(Lane.all.any (pairOn s i))
  if inputsSampled s && open_ then .next (modOutput i (fun o => { o with backFed := true, unfedSince := none }) s) else .next s

/-- The lanes of the path in which a switch lies, as a mask (Table 8.2): SWA1, SWA2, SWB1, SWB2, SWC1, SWC2 are 0 to 5. -/
def switchPath (w : Nat) : Nat := [3, 5, 3, 6, 6, 5].getD w 0

/-- A switch of an output can be tested now (R289): while the output is off, while all three paths conduct, where its path does not conduct, or by
a dark test. -/
def switchTestable (s : State) (i w : Nat) : Bool :=
  let closed := laneMask (pairOn s i)
  !terminalOn s i || maskCount closed = 3 || switchPath w &&& closed != switchPath w || outputField (params s) i 6 2 != 0

/-- Every switch of an output can be tested now. -/
def outputTestable (s : State) (i : Nat) : Bool := (List.range 6).all (switchTestable s i)

/-- Instant at which a switch was last tested. -/
def testedAt (s : State) (o : SafeOutput) (w : Nat) : Nat := Tbl.get o.tested w s.module.bootAt

/-- The oldest test of an output's switches. -/
def oldestTest (s : State) (o : SafeOutput) : Nat := ((List.range 6).map (testedAt s o)).foldl min s.time

/-- The enabled outputs. -/
def enabledOutputs (s : State) : List Nat := (List.range 8).filter (outputEnabled s)

/-- A round of switch tests ends when every switch of every enabled output has been tested in it. -/
def roundStep (s : State) : State :=
  if (enabledOutputs s).all fun i => (outputOf s i).roundMask = 63 then
    let s := modSafety (fun x => { x with rounds := x.rounds + 1, outputs := x.outputs.map fun p => (p.1, { p.2 with roundMask := 0 }) }) s
    let ids := s.safety.ioTests
    ids.foldl (fun t id => completeEntry id stOk (le 4 t.safety.rounds ++ le 2 0) t) (modSafety (fun x => { x with ioTests := [] }) s)
  else s

/-- SAFE_IO_TESTs that wait complete: with a failure, or deferred. -/
def endIoTests (status failures : Nat) (s : State) : State :=
  let ids := s.safety.ioTests
  ids.foldl (fun t id => completeEntry id status (le 4 t.safety.rounds ++ le 2 failures) t) (modSafety (fun x => { x with ioTests := [] }) s)

/-- SWITCH_TEST (R289, R290): one switch tested alone. A failure found by a requested round completes the request before the Lock-out. -/
def execSwitchTest (i w : Nat) (passed senseOk : Bool) (s : State) : Out :=
  if !inputsSampled s || !outputEnabled s i || s.safety.fieldLow then .next s
  else if !senseOk then .next (internalFault 0x11 i (endIoTests stOk 1 s))
  else if !switchTestable s i w then .next (endIoTests stDeferred 0 s)
  else if !passed then .next (internalFault 0x10 (i + 256 * w) (endIoTests stOk 1 s))
  else
    let s := faultsGone (fun f => f = (0x11, i) || f = (0x10, i + 256 * w)) s
    let s := modOutput i (fun o => { o with tested := Tbl.put o.tested w s.time, roundMask := o.roundMask ||| 2 ^ w }) s
    let s := modOutput i (fun o => { o with overdue := o.overdue && oldestTest s o + day ≤ s.time }) s
    .next (roundStep s)

/-- SWITCH_TEST_OVERDUE (R290): a switch untested for 24 h. -/
def execSwitchTestOverdue (i : Nat) (s : State) : Out :=
  if !inputsSampled s || !outputEnabled s i || (outputOf s i).overdue then .next s
  else
    let s := reach (oldestTest s (outputOf s i) + day) s
    .next (recordFunction 4 (le 1 i) (modOutput i (fun o => { o with overdue := true }) s))

/-- PARAMETER_CRC_CHECK (R275): a monitor channel's copy against the CRC that Slate loaded with it. -/
def execParameterCrcCheck (channel : Lane) (crc : Word64) (s : State) : Out :=
  if !inputsSampled s then .next s
  else if crc.toNat = paramCrc (params s) then .next (faultsGone (fun f => f = (0x15, channel.num)) s)
  else .next (internalFault 0x15 channel.num s)

/-- The field supply lies below 0.6 Un. -/
def fieldBelow (s : State) (volts : Nat) : Bool := 10 * volts < 6 * fieldVoltage (Bytes.field (params s) 0x18 1)

/-- The field supply as seen: the outputs report a field-supply fault while it is low. -/
def seeField (volts : Nat) (low : Bool) (s : State) : State :=
  let s := modSafety (fun x => { x with fieldVolts := volts, fieldLow := low }) s
  (List.range 8).foldl (fun t i => modOutput i (fun o => { o with fieldFault := low }) t) s

/-- FIELD_SUPPLY_LOW and FIELD_SUPPLY_RETURN (R291). -/
def execFieldSupplyLow (volts : Nat) (s : State) : Out :=
  if inputsSampled s && fieldBelow s volts then
    .next (if s.safety.fieldLow then seeField volts true s else recordFunction 5 (le 2 volts) (seeField volts true s))
  else .next s
def execFieldSupplyReturn (volts : Nat) (s : State) : Out :=
  if inputsSampled s && !fieldBelow s volts then .next (seeField volts false s) else .next s

/-! ### The parameter set (R305, R316) -/

/-- States in which a parameter set may be changed. -/
def parameterState (s : State) : Bool :=
  s.module.state = .maintenance || s.module.state = .lockout && (lockoutCause s = 0x15 || lockoutCause s = 0x21)

/-- SAFETY_PARAM_LOAD: the set is staged. -/
def cmdSafetyParamLoad : Command where
  issuers := roleOnly safety
  body e s :=
    if !parameterState s then fails stRefused s
    else if !standstill s then fails 0x0615 s
    else
      match verifyObject s 0x12 e.payload with
      | some status => fails status s
      | none =>
        let b := objectBody e.payload
        if !paramsOk b then fails 0x0617 s
        else
          let s := modSafety (fun x => { x with staged := some b, stagedVersion := objectVersion e.payload, stagedSigner := objectSigner e.payload }) s
          answers (le 8 (paramCrc b) ++ le 4 (objectVersion e.payload)) (noteInterval e.payload s)

/-- SAFETY_PARAM_ACTIVATE: the five steps of R305. -/
def cmdSafetyParamActivate : Command where
  issuers := roleOnly safety
  body := sized 8 fun e s =>
    if !parameterState s then fails stRefused s
    else if !standstill s then fails 0x0615 s
    else
      match s.safety.staged with
      | none => fails 0x0616 s
      | some b =>
        if e.field 0 8 != paramCrc b then fails 0x0614 s
        else
          let old := paramCrc (params s)
          let x := s.safety
          let s := allOutputsOff (commitEntry e.id s)
          let s := faultsGone (fun f => f.1 = 0x15) s
          let s := modSafety (fun y => { y with active := some b, activeVersion := x.stagedVersion, activeSigner := x.stagedSigner, everActivated := true
                                                activeBad := false, activatedSince := s.module.state = .lockout, staged := none }) s
          let s := unproveAll (raiseFloor 0x12 x.stagedSigner x.stagedVersion s)
          let s := changeLog 1 0 e.issuer (issuerName s e.issuer) old (paramCrc b) (watchPairs s)
          answers (le 8 old) (forwardSettings e (evaluateGates s))

/-! ### Status and the other commands -/

/-- SAFETY_STATUS. -/
def cmdSafetyStatus : Command where
  issuers := anyOrLanes
  body := sized 0 fun _ s =>
    let x := s.safety
    let inputFaults := ((List.range 16).map fun i => bit (inputFaulted s i) * 2 ^ i).sum
    answers (padTo 64 (flagCopy s) ++ le 1 (bit x.arming.isSome) ++ le 8 (paramCrc (params s)) ++ le 4 (if x.activeBad then 0 else x.activeVersion) ++
      le 8 ((x.staged.map paramCrc).getD 0) ++ le 4 (inputStates s) ++ le 2 (provenMask s) ++ le 2 inputFaults ++
      le 1 (outputMask (commandedOn s)) ++ le 1 (outputMask (gatePermits s)) ++ le 1 (outputMask (terminalOn s)) ++
      le 1 (outputMask (outputFaulted s)) ++ le 1 (outputMask fun i => (outputOf s i).overdue) ++ le 1 (bit (standstill s)) ++
      le 4 (limitInForce s) ++ le 1 (bit (speedForbids s)) ++ le 1 (intendedDirection s + 128 * bit (directionForbids s)) ++
      le 1 ((x.windows.map fun p => 2 ^ p.1).sum) ++ le 4 x.rounds ++ le 2 x.fieldVolts) s

/-- LOCKOUT_ENTER: it commits at the entry, before its epoch increment. -/
def cmdLockoutEnter : Command where
  issuers := roleOrLanes safety
  body := sized 8 fun e s => answers [] (lockOut false 0x20 e.issuer 0xFF 0 (e.field 0 8) (commitEntry e.id s))

/-- A change-log record whose valid mark and CRC hold. -/
def logValid (b : Bytes) : Bool := Bytes.field b 0x5C 4 = 0x4C47584B && Bytes.field b 0x54 4 = crc32 (b.take 0x54)

/-- CHANGE_LOG_READ. -/
def cmdChangeLogRead : Command where
  issuers := roleOnly (maintainer + safety + owner)
  body := sized 10 fun e s =>
    let count := e.field 8 2
    if count = 0 || 5 < count then fails stBadArgument s
    else
      let l := (s.safety.changeLog.filter fun b => logValid b && e.field 0 8 ≤ Bytes.field b 0 8).take count
      answers (le 2 l.length ++ l.flatten) s

/-- WINDOW_CLOSE: it waits for the tick that closes the windows. -/
def cmdWindowClose : Command where
  issuers := roleOrLanes safety
  body := sized 1 fun e s => (modPos (fun p => { p with waiting := p.waiting ++ [e.id] }) s, .goesOn .under false)

/-- SAFE_IO_TEST: a round for every output starts. -/
def cmdSafeIoTest : Command where
  issuers := roleOnly maintainer
  body := sized 0 fun e s =>
    let s := modSafety (fun x => { x with outputs := x.outputs.map fun p => (p.1, { p.2 with roundMask := 0 }) }) s
    if (enabledOutputs s).any fun i => !outputTestable s i then (s, .done stDeferred (le 4 s.safety.rounds ++ le 2 0))
    else if (enabledOutputs s).isEmpty then answers (le 4 (s.safety.rounds + 1) ++ le 2 0) (modSafety (fun x => { x with rounds := x.rounds + 1 }) s)
    else (modSafety (fun x => { x with ioTests := x.ioTests ++ [e.id] }) s, .goesOn .under true)

/-! ### Lock-out reset (R310 to R312) -/

/-- A cause stands against a reset: no set that verifies, an internal fault not found gone, or no set activated since where the cause asks
for it. -/
def causePresent (s : State) : Bool :=
  s.safety.activeBad || !s.safety.standing.isEmpty || ((lockoutCause s = 0x15 || lockoutCause s = 0x21) && !s.safety.activatedSince)

/-- The key reads closed: both contacts. -/
def keyClosed (s : State) : Bool := s.safety.keyA && s.safety.keyB

/-- LOCKOUT_RESET: the arming starts. -/
def cmdLockoutReset : Command where
  issuers := roleOnly safety
  body := sized 0 fun e s =>
    if issuerKind e.issuer != 2 then fails stDenied s
    else if s.module.state != .lockout then fails 0x0610 s
    else if !standstill s then fails 0x0615 s
    else if causePresent s then fails 0x0613 s
    else if s.safety.arming.isSome then fails stRefused s
    else (modSafety (fun x => { x with arming := some ⟨e.id, e.issuer, issuerName s e.issuer, s.time, keyClosed s⟩ }) s, .goesOn .under true)

/-- The arming ends with a status. -/
def endArming (status : Nat) (s : State) : State :=
  match s.safety.arming with
  | some a => completeEntry a.entry status [] (modSafety (fun x => { x with arming := none }) s)
  | none => s

/-- LOCKOUT_RESET_EFFECT (R312): the flag is cleared and logged, the inputs must prove again, and the module enters Proving. -/
def resetLockout (a : Arming) (held : Nat) (s : State) : State :=
  let crc := paramCrc (params s)
  let s := modSafety (fun x => { x with arming := none, flag0 := clearFlag, flag1 := clearFlag }) s
  let s := unproveAll (changeLog 4 0 a.issuer a.name crc crc s)
  let s := modModule (fun m => { m with state := .proving, enteredAt := s.time, provingAfterReset := true }) s
  completeEntry a.entry stOk (le 2 (held / milli 1)) s

/-- A key operation that has no effect is recorded. -/
def recordKey (held : Nat) (s : State) : State := recordFunction 6 (le 4 (held / milli 1)) s

/-- The key opens after a closing. -/
def keyOpens (since : Nat) (s : State) : State :=
  let held := s.time - since
  match s.safety.arming with
  | none => recordKey held s
  | some a =>
    if a.mustOpen then recordKey held (modSafety (fun x => { x with arming := some { a with mustOpen := false } }) s)
    else if held < second 2 then recordKey held s
    else if second 10 ≤ held then endArming 0x0612 s
    else if a.since + second 60 ≤ s.time then endArming 0x0611 s
    else resetLockout a held s

/-- RESET_KEY_CHANGE (R311). -/
def execResetKeyChange (a b : Bool) (s : State) : Out :=
  if !inputsSampled s then .next s
  else
    let was := keyClosed s
    let closedAt := s.safety.keyClosedAt
    let s := modSafety (fun x => { x with
      keyA := a, keyB := b
      keyDiscrepantSince := if a == b then none else match x.keyDiscrepantSince with
        | some t => some t
        | none => some s.time
      keyClosedAt := if a && b then (if was then x.keyClosedAt else some s.time) else none }) s
    match was && !keyClosed s, closedAt with
    | true, some t => .next (keyOpens t s)
    | _, _ => .next s

/-- RESET_KEY_HOLD_LIMIT (R311): a closing after the arming reaches 10 s. -/
def execResetKeyHoldLimit (s : State) : Out :=
  match s.safety.arming, s.safety.keyClosedAt with
  | some a, some t => if a.mustOpen then .next s else .next (endArming 0x0612 (reach (t + second 10) s))
  | _, _ => .next s

/-- RESET_KEY_DISCREPANCY (R311): the contacts disagree for 100 ms. -/
def execResetKeyDiscrepancy (s : State) : Out :=
  match s.safety.arming, s.safety.keyDiscrepantSince with
  | some _, some t => .next (endArming 0x0612 (reach (t + milli 100) s))
  | _, _ => .next s

/-- RESET_KEY_ARMING_TIMEOUT (R311): 60 s without a valid operation. -/
def execResetKeyArmingTimeout (s : State) : Out :=
  match s.safety.arming with
  | some a => .next (endArming 0x0611 (reach (a.since + second 60) s))
  | none => .next s

end Sys2Proof.Machine
end

