-- ==== Sys2Proof/Machine/Time.lean ====
section
/-! DEFINITION. The local clock's sources, servo and steps, and the TIME commands (chapter 13). -/

namespace Sys2Proof.Machine

/-! ### Instances (R437 to R440) -/

/-- One PTP instance, and one changed. -/
def instanceOf (s : State) : PtpSource → PtpInstance
  | .etb => s.clock.etb
  | .ecn => s.clock.ecn
def modInstance (k : PtpSource) (f : PtpInstance → PtpInstance) (s : State) : State :=
  modClock (fun c => match k with
    | .etb => { c with etb := f c.etb }
    | .ecn => { c with ecn := f c.ecn }) s

/-- Number of an instance in reports. -/
def instanceNumber : PtpSource → Nat
  | .etb => 1
  | .ecn => 2

/-- The instance that disciplines the clock. An instance's grandmaster is kept only where it is another clock than the module. -/
def sourceInstance (s : State) : Option PtpSource :=
  match s.clock.source with
  | 1 => some .etb
  | 2 => some .ecn
  | 3 => if s.clock.etb.grandmaster.isSome then some .etb else if s.clock.ecn.grandmaster.isSome then some .ecn else none
  | _ => none

/-- The grandmaster that disciplines the clock. -/
def sourceMaster (s : State) : Option (PtpSource × Nat) := (sourceInstance s).bind fun k => ((instanceOf s k).grandmaster).map fun g => (k, g)

/-- The instance of a port. -/
def portInstance (p : Nat) : Option PtpSource := if p < 4 then some .etb else if p < 28 then some .ecn else none

/-- A port's PTP record, and one changed. -/
def ptpPort (s : State) (p : Nat) : PtpPort := Tbl.get s.clock.ports p {}
def modPtpPort (p : Nat) (f : PtpPort → PtpPort) (s : State) : State :=
  modClock (fun c => { c with ports := Tbl.put c.ports p (f (Tbl.get c.ports p {})) }) s

/-- Port states of IEEE 1588-2019. -/
def ptpListening : Nat := 4
def ptpMaster : Nat := 6
def ptpPassive : Nat := 7
def ptpSlave : Nat := 9

/-- The ports of an instance in the SLAVE state. -/
def slavePorts (s : State) (k : PtpSource) : List Nat :=
  (s.clock.ports.filter fun p => portInstance p.1 = some k && p.2.portState = ptpSlave).map Prod.fst

/-! ### States (Table 13.2) -/

/-- The mean of the rate estimates of the last 60 s in Locked; the present addend where there are none. -/
def meanRate (c : ClockSt) (now : Nat) : Nat :=
  let l := c.rates.filter fun r => now < r.1 + second 60
  if l.isEmpty then c.addend else (l.map Prod.snd).sum / l.length

/-- Locked becomes Holdover: the clock runs on at the mean rate (R443), and the module event 1 of Table 14.1 is signalled. -/
def enterHoldover (s : State) : State :=
  if s.clock.state = .locked then
    let mean := meanRate s.clock s.time
    pulse 6 1 <| modClock (fun c => { c with state := .holdover, holdoverSince := localSeconds s, holdoverOffset := c.offset.natAbs, goodSyncs := 0, rates := [] })
      (setAddend mean s)
  else modClock (fun c => { c with goodSyncs := 0 }) s

/-- What follows when the grandmaster that disciplines the clock may have changed. -/
def afterMaster (before : Option (PtpSource × Nat)) (s : State) : State := if sourceMaster s = before then s else enterHoldover s

/-- The Lull clock written from the local clock (R444). -/
def writeLull (s : State) : State := modClock (fun c => { c with lullWritten := s.time }) (setLull (localSeconds s) s)

/-- The lock criterion holds: 8 Sync messages in a row within the lock threshold; the change of state is a module event. -/
def lockStep (s : State) : State :=
  if 8 ≤ s.clock.goodSyncs && s.clock.state != .locked && (sourceMaster s).isSome then
    pulse 6 1 <| writeLull (modClock (fun c => { c with state := .locked, holdoverSince := 0, holdoverOffset := 0, rates := [] }) s)
  else s

/-! ### Steps and slews (R441, R442) -/

/-- Step amount as it stands in the step sum: 64 bits, signed. -/
def wrap64 (v : Int) : Int := toSigned 64 (ofSigned 64 v)

/-- A step of the local clock to a value, with its effects (Table 13.3): what acts on local time otherwise follows from the clock. -/
def stepClock (new : Nat) (source grandmaster issuer : Nat) (s : State) : State :=
  let old := localNow s
  let amount : Int := (toNs new : Int) - toNs old
  let s := setLocal new s
  let s := modClock (fun c => { c with stepCount := c.stepCount + 1, stepSum := wrap64 (c.stepSum + amount), lastStep := new }) s
  let s := record .general 8 source (taiBytes old ++ taiBytes new ++ le 8 grandmaster ++ le 4 issuer) s
  cuesAtStep (skipLaunches s)

/-- The addend that the servo sets: a rate and a correction of at most 100 ppm, within 500 ppm of nominal. -/
def nominalAddend : Nat := 0x0400000000
def servoAddend (rate : Nat) (ppm : Int) : Nat :=
  let c : Int := max (-100) (min 100 ppm)
  let v : Int := floorDiv (rate * (1000000 + c)) 1000000
  let lim : Int := nominalAddend * 500 / 1000000
  (max ((nominalAddend : Int) - lim) (min (nominalAddend + lim) v)).toNat

/-- One measurement of the source instance. -/
def servo (k : PtpSource) (m : SyncMeasure) (s : State) : State :=
  let good : Bool := m.theta.natAbs ≤ s.clock.lockThreshold
  let s := modClock (fun c => { c with offset := m.theta, meanPathDelay := m.pathDelay, goodSyncs := if good then c.goodSyncs + 1 else 0 }) s
  let first : Bool := s.clock.state = .unset && !s.clock.steppedUnset
  let s := if first || s.clock.stepThreshold ≤ m.theta.natAbs then
      stepClock ((localNow s : Int) - m.theta * nsUnit).toNat (instanceNumber k) m.grandmaster 0 (modClock (fun c => { c with steppedUnset := true }) s)
    else setAddend (servoAddend m.rate m.correctionPpm) s
  let s := if s.clock.state = .locked then
      modClock (fun c => { c with rates := (s.time, m.rate) :: c.rates.filter fun r => s.time < r.1 + second 60 }) s
    else s
  lockStep s

/-- PTP_SYNC (R441): a Sync of the grandmaster that an instance follows. -/
def execPtpSync (k : PtpSource) (m : SyncMeasure) (s : State) : Out :=
  if !fabricRuns s || (instanceOf s k).grandmaster != some m.grandmaster then .next s
  else
    let s := (slavePorts s k).foldl (fun t p => modPtpPort p (fun x => { x with syncReceived := x.syncReceived + 1, followUpReceived := x.followUpReceived + 1 }) t) s
    let s := modInstance k (fun x => { x with arb := m.arb }) s
    if sourceInstance s = some k then .next (servo k m s) else .next s

/-- The other SLAVE ports of an instance give way to a selected one. -/
def selectPort (k : PtpSource) (p : Nat) (s : State) : State :=
  let s := ((slavePorts s k).filter (· != p)).foldl (fun t q => modPtpPort q (fun x => { x with portState := ptpPassive }) t) s
  modPtpPort p (fun x => { x with portState := ptpSlave }) s

/-- PTP_ANNOUNCE (R438): the best master clock algorithm's finding on an Announce. -/
def execPtpAnnounce (k : PtpSource) (p : Nat) (a : AnnounceMsg) (s : State) : Out :=
  if !fabricRuns s || portInstance p != some k then .next s
  else
    let before := sourceMaster s
    let s := modPtpPort p (fun x => { x with announceReceived := x.announceReceived + 1 }) s
    if a.selected then
      let s := modInstance k (fun x => { x with grandmaster := some a.grandmaster, stepsRemoved := a.steps, arb := a.arb }) (selectPort k p s)
      .next (afterMaster before s)
    else .next (modPtpPort p (fun x => { x with portState := if x.portState = ptpSlave then x.portState else ptpMaster }) s)

/-- A port loses its master: an announce receipt timeout, or its link. The instance is without a grandmaster once no port is SLAVE. -/
def loseMaster (k : PtpSource) (p : Nat) (state : Nat) (s : State) : State :=
  let before := sourceMaster s
  let slave : Bool := (ptpPort s p).portState = ptpSlave
  let s := modPtpPort p (fun x => { x with portState := state }) s
  if slave && (slavePorts s k).isEmpty then afterMaster before (modInstance k (fun x => { x with grandmaster := none, stepsRemoved := 0, arb := false }) s) else s

/-- PTP_ANNOUNCE_TIMEOUT (R440): the port becomes a master. -/
def execPtpAnnounceTimeout (k : PtpSource) (p : Nat) (s : State) : Out :=
  if !fabricRuns s || portInstance p != some k then .next s
  else .next (loseMaster k p ptpMaster (modPtpPort p (fun x => { x with announceTimeouts := x.announceTimeouts + 1 }) s))

/-- The link of a PTP port goes down or comes up. -/
def ptpLink (p : Nat) (up : Bool) (s : State) : State :=
  match portInstance p with
  | some k => if up then modPtpPort p (fun x => { x with portState := ptpListening }) s else loseMaster k p ptpListening s
  | none => s

/-- PTP_PDELAY (R438, R439): a peer delay measured; an ECN port is asCapable up to 800 ns. -/
def execPtpPdelay (p delay : Nat) (capable : Bool) (s : State) : Out :=
  match portInstance p with
  | some k =>
    if fabricRuns s then
      .next (modPtpPort p (fun x => { x with peerDelay := delay, asCapable := capable && (k = .etb || delay ≤ 800), pdelayReceived := x.pdelayReceived + 1 }) s)
    else .next s
  | none => .next s

/-- PTP_MESSAGE_SEND (R438): a master port sends Sync with Follow_Up and Announce, every port Pdelay requests. -/
def execPtpMessageSend (p : Nat) (kind : PtpKind) (s : State) : Out :=
  let master : Bool := (ptpPort s p).portState = ptpMaster
  if !fabricRuns s || (portInstance p).isNone || !portUp s p || (kind != .pdelay && !master) then .next s
  else
    let count (x : PtpPort) : PtpPort := match kind with
      | .sync => { x with syncSent := x.syncSent + 1, followUpSent := x.followUpSent + 1 }
      | .announce => { x with announceSent := x.announceSent + 1 }
      | .pdelay => { x with pdelaySent := x.pdelaySent + 1 }
    .next (emit (.ptp p kind) (modPtpPort p count s))

/-- LULL_CLOCK_WRITE (R444): once an hour while Locked. -/
def execLullClockWrite (s : State) : Out :=
  if s.clock.state = .locked then .next (writeLull (reach (s.clock.lullWritten + second 3600) s)) else .next s

/-! ### Commands (Table 13.9) -/

/-- Rate of the clock against nominal, in ppb. -/
def ratePpb (addend : Nat) : Int := floorDiv (((addend : Int) - nominalAddend) * 1000000000) nominalAddend

/-- The holdover error bound in ns: the offset at entry and 1 ms an hour (R443). -/
def holdoverBound (s : State) : Nat :=
  if s.clock.state = .holdover then s.clock.holdoverOffset + (localSeconds s - s.clock.holdoverSince) * 1000000 / 3600 else 0

/-- TIME_STATUS. -/
def cmdTimeStatus : Command where
  issuers := anyOrLanes
  body := sized 0 fun _ s =>
    let c := s.clock
    let k := sourceInstance s
    let x : PtpInstance := (k.map (instanceOf s)).getD {}
    answers (le 1 c.state.code ++ le 1 c.source ++ le 1 ((k.map instanceNumber).getD 0) ++ le 1 (bit x.arb) ++ le 8 (x.grandmaster.getD 0) ++
      le 2 x.stepsRemoved ++ le 2 0 ++ leInt 8 c.offset ++ le 4 c.meanPathDelay ++ le 8 c.addend ++ leInt 4 (ratePpb c.addend) ++
      le 8 c.holdoverSince ++ le 8 (holdoverBound s) ++ le 4 c.stepCount ++ leInt 8 c.stepSum ++ taiBytes c.lastStep ++
      le 1 (bit c.ecn.grandmaster.isNone)) s

/-- TIME_CONFIGURE. -/
def cmdTimeConfigure : Command where
  issuers := roleOnly maintainer
  body := sized 16 fun e s =>
    let sync := e.fieldInt 5 1
    let lock := e.field 8 4
    let step := e.field 12 4
    if 3 < e.field 0 1 || 127 < e.field 1 1 || sync < -4 || 0 < sync || lock < 100 || 100000 < lock || step < 10000 || 1000000000 < step ||
        !e.clear [(6, 2)] then
      fails stBadArgument s
    else
      let old := s.clock.source
      let s := modClock (fun c => { c with source := e.field 0 1, etbDomain := e.field 1 1, etbPriority1 := e.field 2 1, etbPriority2 := e.field 3 1
                                           ecnPriority1 := e.field 4 1, logSync := sync, lockThreshold := lock, stepThreshold := step }) s
      answers (le 1 old) (if old = e.field 0 1 then s else enterHoldover s)

/-- TIME_SET: a step that leaves the time state as it is, and writes the Lull clock. -/
def cmdTimeSet : Command where
  issuers := roleOnly maintainer
  body := sized 12 fun e s =>
    let new := ofTai (e.field 0 8) (e.field 8 4)
    let amount : Int := (toNs new : Int) - toNs (localNow s)
    if 1000000000 ≤ e.field 8 4 || amount < -2 ^ 63 || 2 ^ 63 ≤ amount then fails stBadArgument s
    else if s.clock.state = .locked then fails 0x0B10 s
    else
      let s := stepClock new 0 0 e.issuer s
      answers (leInt 8 amount) (setLull (localSeconds s) s)

/-- TIME_PORT_STATUS. -/
def cmdTimePortStatus : Command where
  issuers := anyOrLanes
  body := sized 1 fun e s =>
    match portInstance (e.field 0 1) with
    | none => fails 0x0B11 s
    | some k =>
      let x := ptpPort s (e.field 0 1)
      answers (le 1 (instanceNumber k) ++ le 1 x.portState ++ le 1 (bit x.asCapable) ++ le 1 0 ++ le 4 x.peerDelay ++
        [x.syncReceived, x.followUpReceived, x.pdelayReceived, x.announceReceived, x.syncSent, x.followUpSent, x.pdelaySent, x.announceSent,
          x.timestampFaults, x.announceTimeouts].flatMap (le 4)) s

end Sys2Proof.Machine
end

