-- ==== Sys2Proof/Machine/Update.lean ====
section
/-! DEFINITION. Updating (chapter 16): the package, staging, the gates, activation, the trial, and the UPDATE commands. -/

namespace Sys2Proof.Machine

/-! ### Firmware slots -/

/-- The set in a firmware slot, and its state (Table 16.7). -/
def setOf (s : State) (n : Nat) : FirmwareSet := if n = 0 then s.update.setA else s.update.setB
def modSet (n : Nat) (f : FirmwareSet → FirmwareSet) (s : State) : State :=
  modUpdate (fun u => if n = 0 then { u with setA := f u.setA } else { u with setB := f u.setB }) s
def slotState (s : State) (n : Nat) : Nat := if n = 0 then s.update.slotA else s.update.slotB
def setSlotState (n v : Nat) (s : State) : State := modUpdate (fun u => if n = 0 then { u with slotA := v } else { u with slotB := v }) s

/-- The firmware slot that is not running. -/
def spareSlot (s : State) : Nat := 1 - s.module.firmwareSlot

/-- Body digest of a component of a slot, numbered from 0. -/
def componentDigest (s : State) (slot c : Nat) : Bytes := Tbl.get (setOf s slot).digests c (Config.deliveredDigest slot c)

/-- The settings groups that the spare slot's schema resets (R503). -/
def resetMask (s : State) : Nat := Config.schemaResets (componentDigest s (spareSlot s) 4) (componentDigest s s.module.firmwareSlot 4)

/-- The staged package changes the Slipstream generation (Table 16.2). -/
def changesSlipstream (s : State) : Bool := (setOf s (spareSlot s)).slipstream != (setOf s s.module.firmwareSlot).slipstream

/-- A package is staged. -/
def isStaged (s : State) : Bool := slotState s (spareSlot s) = 1

/-- The Update axis changed; in a Standby, Staged and Activating are reason 9 (R492). -/
def setAxis (v : Nat) (s : State) : State := testGate (setReason 9 (v != 0) (modUpdate (fun u => { u with axis := v }) s))

/-- A record of class 0x0030. -/
def recordUpdate (event : Nat) (payload : Bytes) (s : State) : State := record .general 0x30 0 (le 1 event ++ payload) s

/-! ### The package (R488 to R490) -/

/-- The 32-byte entries of the component table. -/
def packageEntries (b : Bytes) : List Bytes := (List.range 5).map fun k => Bytes.slice b (64 + 32 * k) 32

/-- Header and component table are as R488 and R489 ask. -/
def packageFormOk (b : Bytes) : Bool :=
  224 ≤ b.length && b.length ≤ 2 ^ 27 && Bytes.field b 0 4 = 0x5055584B && Bytes.field b 4 2 = 1 && Bytes.field b 6 2 = 5 &&
    Bytes.field b 0xF 1 = 0 && allZero (Bytes.slice b 0x18 40) &&
    ([1, 2, 3, 4, 5].all fun t => ((packageEntries b).filter fun e => Bytes.field e 0 2 = t).length = 1) &&
    (packageEntries b).all fun e => Bytes.field e 2 2 = 0 && Bytes.field e 24 8 = 0 && Bytes.field e 8 8 + Bytes.field e 16 8 ≤ b.length

/-- The entry and the object of a component type. -/
def packageComponent (b : Bytes) (t : Nat) : Bytes × Bytes :=
  let e := ((packageEntries b).find? fun e => Bytes.field e 0 2 = t).getD []
  (e, Bytes.slice b (Bytes.field e 8 8) (Bytes.field e 16 8))

/-- Whether a component's generation is that of the header: Slate's Slipstream, Reel's mailbox, a KPC generation of the set, and the
settings generation (log entry 77). -/
def generationFits (b : Bytes) (t generation : Nat) : Bool :=
  match t with
  | 1 => generation = Bytes.field b 0xC 1
  | 2 => generation = Bytes.field b 0xD 1
  | 5 => generation = Bytes.field b 0xE 1
  | _ => 0 < generation && hasBit (Bytes.field b 0x10 4) (generation - 1)

/-- The refusal of one component, if any. -/
def componentRefusal (s : State) (b : Bytes) (t : Nat) : Option Nat :=
  let c := packageComponent b t
  match verifyObject s t c.2 with
  | some status => some status
  | none => if objectVersion c.2 = Bytes.field c.1 4 4 && generationFits b t (objectGeneration c.2) then none else some stIntegrity

/-- The KPC generation of the image in an image slot, when it holds one. -/
def slotGeneration (x : ImageSlot) : Option Nat := if x.state = 2 then some 1 else if x.state = 1 then x.load.map Prod.fst else none

/-- Hardware revision and the interfaces allow the package (R490, Table 16.2). -/
def compatible (s : State) (b : Bytes) : Bool :=
  let loads (x : ImageSlot) : Bool := (slotGeneration x).all fun g => 0 < g && hasBit (Bytes.field b 0x10 4) (g - 1)
  Bytes.field b 0x14 2 ≤ Config.hardwareRevision && Config.hardwareRevision ≤ Bytes.field b 0x16 2 && loads s.prog.slot0 && loads s.prog.slot1 &&
    Config.schemaReads (objectDigest (packageComponent b 5).2) (componentDigest s s.module.firmwareSlot 4)

/-- The refusal of a package's body, if any. -/
def packageRefusal (s : State) (b : Bytes) : Option Nat :=
  if !packageFormOk b then some stIntegrity
  else
    match firstSome ([1, 2, 3, 4, 5].map (componentRefusal s b)) with
    | some status => some status
    | none => if compatible s b then none else some 0x0E10

/-- The set that a package holds. -/
def packageSet (object : Bytes) : FirmwareSet :=
  let b := objectBody object
  { release := Bytes.field b 8 4, slipstream := Bytes.field b 0xC 1, mailbox := Bytes.field b 0xD 1, settings := Bytes.field b 0xE 1,
    kpc := Bytes.field b 0x10 4
    digests := [0, 1, 2, 3, 4].map fun c => (c, objectDigest (packageComponent b (c + 1)).2)
    signers := [0, 1, 2, 3, 4].map fun c => (c, objectSigner (packageComponent b (c + 1)).2)
    package := objectDigest object, packageVersion := objectVersion object, packageSigner := objectSigner object }

/-- The components of a package are those of the running slot (R499). -/
def isFallback (s : State) (object : Bytes) : Bool :=
  [0, 1, 2, 3, 4].all fun c =>
    let o := (packageComponent (objectBody object) (c + 1)).2
    objectVersion o = componentVersion s s.module.firmwareSlot c && objectDigest o = componentDigest s s.module.firmwareSlot c

/-! ### Staging (R491, R499) -/

/-- The schedule ends. -/
def unschedule (s : State) : State := modUpdate (fun u => { u with schedule := 0, waitingSince := none, ownGates := none }) s

/-- A change of package or schedule is told to the partner (R501). -/
def forwardSchedule (s : State) : State :=
  if s.pair.enabled then slipstream 2 (le 1 10 ++ (setOf s (spareSlot s)).package ++ le 8 (toNs s.update.schedule)) s else s

/-- A chunk that can be written. -/
def stageOk (s : State) (total offset size : Nat) : Bool :=
  total ≤ 0x1000 + 2 ^ 27 && 0 < size && size ≤ 1048000 && offset + size ≤ total &&
    (offset = 0 || s.update.load.any fun l => l.1 = total && l.2.length = offset)

/-- UPDATE_STAGE: the chunk goes to the flash programmer, which it holds until RESOURCE_GRANT. -/
def cmdUpdateStage : Command where
  issuers := roleOnly maintainer
  body := needing .flash fun e s =>
    if e.payload.length < 17 || !stageOk s (e.field 0 8) (e.field 8 8) (e.payload.length - 16) then fails stBadArgument s
    else if s.update.axis = 2 then fails 0x0E18 s
    else (s, .goesOn (.holds .flash) false)

/-- The whole package is written: it is verified, and staged or kept as a fallback copy. -/
def packageWritten (e : Entry) (object : Bytes) (s : State) : State :=
  let n := spareSlot s
  let refusal := match verifyObject s 0x20 object with
    | some status => some status
    | none => packageRefusal s (objectBody object)
  match refusal with
  | some status => completeEntry e.id status [] (unschedule (setAxis 0 s))
  | none =>
    let b := objectBody object
    let fallback := isFallback s object
    let versions := [0, 1, 2, 3, 4].foldl (fun t c => Tbl.put t (16 * n + c) (objectVersion (packageComponent b (c + 1)).2)) s.module.versions
    let s := modModule (fun m => { m with versions := versions }) (modSet n (fun _ => packageSet object) s)
    let s := if fallback then setAxis 0 (setSlotState n 4 s) else setAxis 1 (setSlotState n 1 s)
    let s := forwardSchedule s
    completeEntry e.id stOk (le 4 (packageSet object).release ++ le 1 (bit (changesSlipstream s)) ++ le 4 (resetMask s)) s

/-- A chunk is written to flash: it commits, and the first one empties the slot. -/
def stageWritten (e : Entry) (s : State) : State :=
  let before := if e.field 8 8 = 0 then [] else (s.update.load.map Prod.snd).getD []
  let bytes := before ++ e.payload.drop 16
  let s := commitEntry e.id (setSlotState (spareSlot s) 0 (modSet (spareSlot s) (fun _ => {}) s))
  if bytes.length = e.field 0 8 then packageWritten e bytes (modUpdate (fun u => { u with load := none }) s)
  else completeEntry e.id stOk [] (modUpdate (fun u => { u with load := some (e.field 0 8, bytes) }) s)

/-! ### Scheduling (R494, R501) -/

/-- The partner holds the staged package too. -/
def partnerHolds (s : State) : Bool := s.pair.present && s.pair.partnerPackage = (setOf s (spareSlot s)).package

/-- UPDATE_SCHEDULE. -/
def cmdUpdateSchedule : Command where
  issuers := roleOnly maintainer
  body := sized 12 fun e s =>
    let ta := ofTai (e.field 0 8) (e.field 8 4)
    let now := localNow s
    if 1000000000 ≤ e.field 8 4 then fails stBadArgument s
    else if s.update.axis = 2 then fails 0x0E18 s
    else if !isStaged s then fails 0x0E11 s
    else if s.clock.state = .unset || ta < now + 60 * secUnit || now + 30 * 86400 * secUnit < ta then fails 0x0E12 s
    else if s.pair.enabled && changesSlipstream s && !partnerHolds s then fails 0x0E16 s
    else if s.trust.ownerLock then fails 0x0212 s
    else
      let previous := s.update.schedule / secUnit
      let s := forwardSchedule (modUpdate (fun u => { u with schedule := ta }) (unschedule s))
      (s, .done stAccepted (le 8 previous))

/-- UPDATE_CANCEL. -/
def cmdUpdateCancel : Command where
  issuers := roleOnly maintainer
  body := sized 1 fun e s =>
    if 1 < e.field 0 1 then fails stBadArgument s
    else if s.update.axis = 2 then fails 0x0E18 s
    else if !isStaged s then fails 0x0E11 s
    else
      let s := unschedule s
      let s := if e.field 0 1 = 1 then setAxis 0 (setSlotState (spareSlot s) 0 (modSet (spareSlot s) (fun _ => {}) s)) else s
      answers [] (forwardSchedule s)

/-- Signer of a component of a slot. -/
def componentSigner (s : State) (n c : Nat) : Bytes := Tbl.get (setOf s n).signers c []

/-- The floor of a firmware component type for the signer of the component that runs (R38; log entry 150). -/
def componentFloor (s : State) (t : Nat) : Nat := floorOf s t (componentSigner s s.module.firmwareSlot (t - 1))

/-- UPDATE_STATUS. -/
def cmdUpdateStatus : Command where
  issuers := anyOrLanes
  body := sized 0 fun _ s =>
    let u := s.update
    let slot (n : Nat) : Bytes :=
      let x := setOf s n
      let version (c : Nat) : Nat := if slotState s n = 0 then 0 else componentVersion s n c
      le 1 (slotState s n) ++ le 4 x.release ++ (List.range 5).flatMap (fun c => le 4 (version c)) ++ le 1 x.slipstream ++ le 1 x.mailbox ++
        le 1 x.settings ++ le 4 x.kpc
    let groups (n : Nat) : Bytes := ((Config.schemaGroups (componentDigest s n 4)).take 16).flatMap (le 4)
    answers (le 1 u.axis ++ le 1 s.module.firmwareSlot ++ slot 0 ++ slot 1 ++ le 8 (u.schedule / secUnit) ++ le 1 u.trialCount ++ le 2 u.outcome ++
      le 8 u.outcomeTai ++ [1, 2, 3, 4, 5].flatMap (fun t => le 4 (componentFloor s t)) ++ groups s.module.firmwareSlot ++
      if isStaged s then groups (spareSlot s) else []) s

/-! ### The gates (R495) -/

/-- The supply has stayed at or above 19.2 V for 10 s, and the hold-up store is charged. -/
def supplyGate (s : State) : Bool :=
  s.module.supplied && 19200 ≤ s.module.supplyMv && s.module.holdUpCharged && s.update.lowSupplyAt.all fun t => t + second 10 ≤ s.time

/-- The first failed gate of Table 16.3 before those of the pair, as its status. -/
def ownGate (s : State) : Option Nat :=
  if !standstill s then some 0x0E13
  else if !supplyGate s then some 0x0E14
  else if s.trust.ownerLock then some 0x0212
  else if s.test.squall || s.prog.state = .recutPending then some stRefused
  else none

/-- A failed gate refuses the activation: the schedule is removed, and the record names the gate. -/
def refuseActivation (status : Nat) (s : State) : State :=
  recordUpdate 0 (le 2 status) (modUpdate (fun u => { u with outcome := status, outcomeTai := localSeconds s }) (unschedule s))

/-! ### Activation (R496) -/

/-- Steps 2 and 3 end at most 300 ms after the stop: the module resets then. -/
def armUpdateReset (s : State) : State :=
  let mask := resetMask s
  modModule (fun m => { m with restartDue := some (s.time + milli 300) }) (modUpdate (fun u => { u with resetGroups := mask }) s)

/-- Step 1 is done: no stop is under way and no retentive commit is in progress. -/
def updateStopped (s : State) : State :=
  if s.update.activating && s.module.restartDue.isNone && s.prog.stopping.isNone && s.prog.commit.isNone then armUpdateReset s else s

/-- A Standby ends its forwarded executions and commits its retentive image. -/
def endForwarded (s : State) : State := finishStop (beginCommit 2 (endCues (abandonAll (endActivations s))))

/-- The activation begins: the program stops (step 1). -/
def beginActivation (s : State) : State :=
  let s := setAxis 2 (modUpdate (fun u => { u with activating := true }) (unschedule s))
  let s := if !programRuns s then s else if s.pair.role = .standby then endForwarded s
    else if s.prog.stopping.isSome then s else beginStop none s
  updateStopped s

/-- A supply failure in steps 1 to 3 ends the activation: the package stays staged without a schedule (R498). -/
def supplyEndsActivation (s : State) : State :=
  if s.update.activating then
    modModule (fun m => { m with restartDue := none }) (setAxis 1 (modUpdate (fun u => { u with activating := false }) (unschedule s)))
  else s

/-- An activation of both modules (R501): once both gate results are known, both activate or both refuse. -/
def bothGates (s : State) : State :=
  match s.update.ownGates, s.pair.partnerGates with
  | some true, some true => beginActivation (modPair (fun p => { p with partnerGates := none }) s)
  | some _, some _ => refuseActivation 0x0E16 (modPair (fun p => { p with partnerGates := none }) s)
  | _, _ => s

/-- The gate of a package that changes the Slipstream generation. -/
def pairPackageGate (s : State) : Bool := partnerHolds s && s.pair.partnerSchedule = toNs s.update.schedule

/-- Event UPDATE_ACTIVATION at t_a (R495, R500, R501). -/
def execUpdateActivation (s : State) : Out :=
  if s.update.schedule = 0 || s.update.axis != 1 || s.update.waitingSince.isSome || s.update.ownGates.isSome || !hasMailbox s then .next s
  else
    let s := reachLocal s.update.schedule s
    let both := s.pair.enabled && changesSlipstream s
    if !isStaged s then .next (unschedule s)
    else if s.clock.state = .unset then .next (refuseActivation 0x0E12 s)
    else
      match ownGate s with
      | some status =>
        let s := if both then slipstream 2 (le 1 11 ++ le 1 0) s else s
        .next (refuseActivation status (modPair (fun p => { p with partnerGates := none }) s))
      | none =>
        if both then
          if pairPackageGate s then
            let s := slipstream 2 (le 1 11 ++ le 1 1) s
            .next (bothGates (modUpdate (fun u => { u with ownGates := some true }) s))
          else .next (refuseActivation 0x0E16 (slipstream 2 (le 1 11 ++ le 1 0) s))
        else if s.pair.role = .active then
          if s.pair.present then .next (modUpdate (fun u => { u with waitingSince := some s.time }) s)
          else .next (refuseActivation 0x0E15 s)
        else .next (beginActivation s)

/-! ### The trial (R497, R498) -/

/-- The settings groups as the model numbers them (log entry 75), reset to their defaults: 2 trust, 3 mailbox, 4 lanes, 5 program, 6 pair,
7 filter channels, 8 fabric and flows, 9 MVB, 10 time, 11 activation sources. -/
def resetGroup (n : Nat) (s : State) : State :=
  let z := State.reset
  match n with
  | 2 => modTrust (fun t => { t with tlsPort := z.trust.tlsPort, idleLimit := z.trust.idleLimit }) s
  | 3 => modMbx (fun m => { m with disabled := z.mbx.disabled, commandComId := z.mbx.commandComId, replyComId := z.mbx.replyComId }) s
  | 4 => modVoter (fun v => { v with staggerSet := z.voter.staggerSet, twoLaneLimit := z.voter.twoLaneLimit }) s
  | 5 => modModule (fun m => { m with startMaintenance := false }) (modProg (fun p => { p with startAtBoot := z.prog.startAtBoot }) s)
  | 6 => modPair (fun p => { p with enabled := false, peer := [], supervised := 0xFF, holdMs := 60, ipv4 := [], mac := [] }) s
  | 7 => modSignal (fun _ => z.signal) s
  | 8 => modNet (fun n => { n with ports := n.ports.map fun p => (p.1, { p.2 with config := {} })
                                   flows := [], frer := [], pinned := [], subnet := 0, prefixLength := 0, hosts := []
                                   aging := 300, heartbeatMs := 100, heartbeatComId := 41603, heartbeatGroup := 0 }) s
  | 9 => modMvb (fun _ => z.mvb) s
  | 10 => modClock (fun c => { c with source := z.clock.source, etbDomain := z.clock.etbDomain, etbPriority1 := z.clock.etbPriority1
                                      etbPriority2 := z.clock.etbPriority2, ecnPriority1 := z.clock.ecnPriority1, logSync := z.clock.logSync
                                      lockThreshold := z.clock.lockThreshold, stepThreshold := z.clock.stepThreshold }) s
  | 11 => modAct (fun _ => z.act) s
  | _ => s

/-- The safety parameter set falls back to the default set (R504): Lock-out with cause 0x0021, and a change-log record of kind 2. -/
def resetParameters (s : State) : State :=
  let old := paramCrc (s.safety.active.getD defaultParams)
  let s := modSafety (fun x => { x with active := none, activeVersion := 0, activeSigner := [], activeBad := false }) s
  let version := (Config.schemaGroups (componentDigest s s.module.firmwareSlot 4)).headD 0
  lockOut false 0x21 0 0xFF 0 version (changeLog 2 0 0 [] old (paramCrc defaultParams) (watchPairs s))

/-- The converted settings become the running settings: groups that the schema resets take their defaults, each recorded. -/
def applyResets (s : State) : State :=
  let mask := s.update.resetGroups
  let s := (List.range 32).foldl (fun t n => if hasBit mask n then recordUpdate 4 (le 1 n) (resetGroup n t) else t) s
  let s := if hasBit mask 1 then signalPosition s.pos.state (modPos (reinitialise {}) s) else s
  if hasBit mask 0 then resetParameters s else s

/-- The trial passes (R497), steps 1 to 3. -/
def trialPass (s : State) : State :=
  let n := s.module.firmwareSlot
  let signer := componentSigner s n
  let s := [0, 1, 2, 3, 4].foldl (fun t c => raiseFloor (c + 1) (signer c) (componentVersion t n c) t) s
  let s := raiseFloor 0x20 (setOf s n).packageSigner (setOf s n).packageVersion s
  let s := applyResets s
  let s := modUpdate (fun u => { u with onTrial := false, trialCount := 0, resetGroups := 0, outcome := 0, outcomeTai := localSeconds s }) s
  recordUpdate 1 (le 4 (setOf s n).release) (setAxis 0 (setSlotState n 2 s))

/-- The trial fails: the previous slot runs from the next boot on, and the failed slot is empty. -/
def trialFail (cause : Nat) (s : State) : State :=
  let n := s.module.firmwareSlot
  let s := modSet n (fun _ => {}) (setSlotState (1 - n) 2 (setSlotState n 0 s))
  let s := modUpdate (fun u => { u with axis := 0, onTrial := false, trialCount := 0, resetGroups := 0, failCause := cause, outcome := 0x0E17 }) s
  modModule (fun m => { m with firmwareSlot := 1 - n }) s

/-- Event UPDATE_TRIAL_TIMEOUT (R498): 120 s have passed since power-good. -/
def execUpdateTrialTimeout (s : State) : Out :=
  if s.update.onTrial && s.module.state != .stowed then
    let s := reach (s.module.bootAt + second 120) s
    .next (modModule (fun m => { m with restartDue := some s.time }) (trialFail 2 s))
  else .next s

end Sys2Proof.Machine
end

