-- ==== Sys2Proof/Machine/SelfTest.lean ====
section
/-! DEFINITION. Background tests (R517 to R520), Test mode and the TEST commands (chapter 17). -/

namespace Sys2Proof.Machine

/-! ### Background tests (Table 17.8) -/

/-- Slices of a round, and the interval of its round in half-nanoseconds. -/
def roundSlices (n : Nat) : Nat := [206, 512, 12, 81, 32, 8, 32, 17].getD n 1
def roundInterval (n : Nat) : Nat := milli ([2060, 5120, 120, 810, 320, 80, 320, 170].getD n 1)

/-- Test changed. -/
def modSelfTest (n : Nat) (f : SelfTest → SelfTest) (s : State) : State := modTest (fun t => { t with tests := Tbl.put t.tests n (f (selfTest s n)) }) s

/-- Whether a test may run: the comparator only in the states of R141. -/
def testRuns (s : State) (n : Nat) : Bool := n != 0 || comparatorState s

/-- The next test of the background rounds. -/
def backgroundNext (s : State) : Nat := (((List.range 8).map fun k => (s.test.next + k) % 8).find? (testRuns s)).getD 1

/-- The test whose slice runs: a voter test first, then requested rounds, then the background rounds (R519, log entry 78). -/
def sliceTest (s : State) : Nat :=
  if comparatorState s && (s.voter.testRunning.isSome || s.voter.testQueued) then 0
  else
    match s.test.requested.find? fun r => testRuns s r.1 with
    | some r => r.1
    | none => backgroundNext s

/-- The first slice for a requested test commits the commands that asked for it (R527). -/
def commitRequests (n : Nat) (s : State) : State :=
  (s.test.requested.filter fun r => r.1 = n).foldl (fun t r => match r.2 with
    | some id => commitEntry id t
    | none => t) s

/-- A SELF_TEST_RUN of which every round has ended completes. -/
def answerRequests (s : State) : State :=
  let ended := s.test.running.filter fun r => !s.test.requested.any fun q => q.2 = some r.1
  ended.foldl (fun t r => completeEntry r.1 stOk (le 1 r.2.1 ++ le 2 r.2.2) t)
    (modTest (fun t => { t with running := t.running.filter fun r => t.requested.any fun q => q.2 = some r.1 }) s)

/-- A round of a test ends: the requests for it are served. -/
def endRound (n : Nat) (s : State) : State :=
  let asked (id : Nat) : Bool := s.test.requested.any fun r => r = (n, some id)
  let s := modSelfTest n (fun t => { t with slices := 0, rounds := t.rounds + 1, lastRound := localSeconds s, lastEnd := s.time, starved := false }) s
  let s := modTest (fun t => { t with running := t.running.map fun r => if asked r.1 then (r.1, r.2.1 + 1, r.2.2) else r
                                      requested := t.requested.filter fun r => r.1 != n }) s
  answerRequests (if n = 5 then modTest (fun t => { t with filterFailed := false }) s else s)

/-! ### The comparator test (R138 to R142) -/

/-- The base value of the test signatures. -/
def patternBase : Word64 := 0xA5A55A5A0F0FF0F0

/-- A pattern of Table 4.11: the lanes that vote, as a mask, the signature loaded for each of them, and the decision expected, as its code and
the lane isolated (0xFF none). -/
structure Pattern where
  lanes : Nat := 7
  a : Option Word64 := some patternBase
  b : Option Word64 := some patternBase
  c : Option Word64 := some patternBase
  decision : Nat := 0
  isolated : Nat := 0xFF
  deriving DecidableEq, Repr

/-- A pattern with another signature in a lane, or none. -/
def Pattern.load (l : Nat) (v : Option Word64) (p : Pattern) : Pattern :=
  match l with
  | 0 => { p with a := v }
  | 1 => { p with b := v }
  | _ => { p with c := v }

/-- The lanes of the two-lane sets AB, AC and BC, and the one that is not in the set. -/
def pairSet (n : Nat) : Nat × Nat := [(0, 1), (0, 2), (1, 2)].getD n (0, 1)
def pairWithout (n : Nat) : Nat := 2 - n

/-- A two-lane pattern. -/
def pairPattern (n : Nat) : Pattern :=
  ({ lanes := 2 ^ (pairSet n).1 + 2 ^ (pairSet n).2 } : Pattern).load (pairWithout n) none

/-- The patterns of Table 4.11, numbered from 0 in its order; in group 4 the lanes follow one another for each bit (log entry 41). -/
def pattern (n : Nat) : Pattern :=
  if n < 1 then {}
  else if n < 4 then ({ decision := 1, isolated := n - 1 } : Pattern).load (n - 1) (some (~~~patternBase))
  else if n < 5 then { b := some (~~~patternBase), c := some (patternBase.rotateLeft 1), decision := 2 }
  else if n < 197 then
    ({ decision := 1, isolated := (n - 5) % 3 } : Pattern).load ((n - 5) % 3) (some (patternBase ^^^ (1 <<< ((n - 5) / 3))))
  else if n < 200 then pairPattern (n - 197)
  else if n < 203 then
    ({ pairPattern (n - 200) with decision := 2 } : Pattern).load (pairSet (n - 200)).2 (some (patternBase ^^^ (1 <<< 63)))
  else ({ decision := 1, isolated := n - 203 } : Pattern).load (n - 203) none

/-- The voter has decided a pattern as expected, in time (R140). -/
def patternPasses (n : Nat) (r : VoterReading) : Bool :=
  r.decision = (pattern n).decision && r.lane = (pattern n).isolated && r.us ≤ 40

/-- The whole test of R139: the number of the first pattern whose reading is wrong, or after the 206 patterns that of the first line drive whose
read-back is. -/
def comparatorFinding (readings : List VoterReading) (drives : List Bool) : Option Nat :=
  let wrong (n : Nat) : Bool := match readings[n]? with
    | some r => !patternPasses n r
    | none => true
  match (List.range (roundSlices 0)).find? wrong with
  | some n => some n
  | none => ((List.range 5).find? fun k => drives[k]? != some true).map (roundSlices 0 + ·)

/-- The next pattern: of the VOTER_TEST that runs, or of the background round. -/
def nextPattern (s : State) : Nat := match s.voter.testRunning with
  | some r => r.2
  | none => (selfTest s 0).slices

/-- A queued test starts where it may run (R142). -/
def startQueued (s : State) : State :=
  if s.voter.testQueued && s.voter.testRunning.isNone then modVoter (fun v => { v with testQueued := false, testRunning := some (none, 0) }) s else s

/-- The first pattern of a VOTER_TEST commits it (R147). -/
def commitVoterTest (s : State) : State :=
  match s.voter.testRunning with
  | some (some id, 0) => commitEntry id s
  | _ => s

/-- Results of a whole comparator test for LANE_STATUS and the health counters of the lanes. -/
def comparatorResult (passed : Bool) (s : State) : State :=
  let s := modVoter (fun v => { v with testTime := localSeconds s, testResult := if passed then 1 else 2 }) s
  Lane.all.foldl (fun t l => modHealth l (fun h => { h with testsRun := h.testsRun + 1, testsFailed := h.testsFailed + bit (!passed) }) t) s

/-- The group of Table 4.11 that a pattern of the comparator test, counted from 0, belongs to; 8 for the line drives (log entry 41). -/
def patternGroup (n : Nat) : Nat :=
  if n < 1 then 1 else if n < 4 then 2 else if n < 5 then 3 else if n < 197 then 4 else if n < 200 then 5 else if n < 203 then 6 else if n < 206 then 7 else 8

/-- The comparator fails at a pattern: LANE_VOTER_FAIL is recorded with its group and number (log entry 41). -/
def recordVoterFail (pattern : Nat) (s : State) : State :=
  recordLane 0xFFFF (le 1 5 ++ le 1 0xFF ++ le 1 (patternGroup pattern) ++ le 2 pattern) (comparatorResult false s)

/-- Lock-out for a failed comparator test (R140). -/
def comparatorLockout (pattern : Nat) (s : State) : State := lockOut false 0x3 0 0xFF 0 (patternGroup pattern + 256 * pattern) s

/-- A pattern in the background fails: a VOTER_TEST completes under the old epoch, and the module enters Lock-out. -/
def comparatorFails (pattern : Nat) (s : State) : State :=
  let waiter := s.voter.testRunning
  let s := modVoter (fun v => { v with testRunning := none }) (recordVoterFail pattern s)
  let s := match waiter with
    | some (some id, run) => completeEntry id 0x0414 (le 2 (run + 1) ++ le 2 pattern) s
    | _ => s
  comparatorLockout pattern (endRound 0 s)

/-- A reset that the block itself causes, named in the next BOOT record (R520): 1 Gaffer memory, 2 domain crossing, 3 Slate's watchdog. -/
def internalReset (cause : Nat) (s : State) : State := modModule (fun m => { m with resetCause := cause, restartDue := some s.time }) s

/-- Failure of the crypto engine: every session and every 802.1AE port closes, and Live contexts are zeroised. -/
def cryptoFails (s : State) : State :=
  let bound (p : Nat) : Bool := s.trust.contexts.any fun c => c.2.purpose = 1 && c.2.binding = p
  let live := (s.trust.contexts.filter fun c => c.2.state = .live).map Prod.fst
  let s := (s.trust.sessions.map Prod.fst).foldl (fun t n => endSession n t) s
  let s := modNet (fun n => { n with ports := n.ports.map fun p => if bound p.1 || p.2.config.protection then (p.1, { p.2 with up := false }) else p }) s
  modTrust (fun t => { t with contexts := t.contexts.filter fun c => !live.contains c.1 }) s

/-- The reaction to a failing slice of a test (Table 17.9). -/
def sliceFails (n slice : Nat) (s : State) : State :=
  let s := modSelfTest n (fun t => { t with failures := t.failures + 1 }) (modTest (fun t =>
    { t with anyFailed := true
             running := t.running.map fun r => if t.requested.any (fun q => q = (n, some r.1)) then (r.1, r.2.1, r.2.2 + 1) else r }) s)
  let s := if n = 0 then s else record .general 0x20 9 (le 1 n) s
  match n with
  | 0 => comparatorFails slice s
  | 1 => internalReset 1 s
  | 2 => cryptoFails s
  | 5 => modTest (fun t => { t with filterFailed := true }) s
  | 6 => lockOut false 0x16 0 0xFF 0 (Config.safetyAddress 1) s
  | 7 => internalReset 2 s
  | _ => s

/-- Tests whose round has not ended within four times its interval are starved, each recorded once (R518). -/
def starveTests (s : State) : State :=
  (List.range 8).foldl (fun t n =>
    let x := selfTest t n
    if testRuns t n && !x.starved && max x.lastEnd t.module.bootAt + 4 * roundInterval n < t.time then
      record .general 0x20 8 (le 1 n) (modSelfTest n (fun y => { y with starved := true }) t)
    else t) s

/-- One pattern of a running VOTER_TEST has passed; the last one completes it. -/
def patternPassed (waiter : Option Nat) (k : Nat) (s : State) : State :=
  if k + 1 < roundSlices 0 then modVoter (fun v => { v with testRunning := some (waiter, k + 1) }) s
  else
    let s := modVoter (fun v => { v with testRunning := none }) (comparatorResult true s)
    match waiter with
    | some id => completeEntry id stOk (le 2 (roundSlices 0) ++ le 2 0xFFFF) s
    | none => s

/-- A passing slice of a round. -/
def roundPasses (n : Nat) (s : State) : State :=
  let slices := (selfTest s n).slices + 1
  if slices < roundSlices n then modSelfTest n (fun t => { t with slices := slices }) s
  else endRound n (if n = 0 then comparatorResult true s else s)

/-- A passing slice of a test: of the VOTER_TEST that runs, or of the test's round. -/
def slicePasses (n : Nat) (s : State) : State :=
  match n, s.voter.testRunning with
  | 0, some (waiter, k) => patternPassed waiter k s
  | _, _ => roundPasses n s

/-- Cleared slots of the store still to be overwritten: one is, in the store's slack (R484). -/
def eraseOne (s : State) : State :=
  let wipe (r : RingSt) : RingSt := match r.eraseLeft with
    | [] => r
    | k :: rest => { r with eraseLeft := rest, slots := Tbl.erase r.slots k }
  modRecorder (fun r => { r with general := wipe r.general, juridical := wipe r.juridical }) s

/-- The slack in which slices start (R517): no take awaits its decision, and while a program runs every take of the hyperperiod has been
activated and the next activation instant is not at hand. In a Standby the takes are those forwarded. -/
def slackOpen (s : State) : Bool :=
  s.voter.takes.isEmpty &&
    match runningImage s with
    | some i =>
      let h := max 1 (hyperperiod i.tasks)
      let next := ((timerNow s - s.prog.tStartTimer) / usUnit / h + 1) * h
      let later (t : Nat × TaskRun) : Bool := t.2.due.all (fun d => next ≤ d && s.time + micro 10 ≤ programInstant s d) &&
        t.2.nextInstant.all fun n => s.time + micro 10 ≤ n
      !programRuns s || s.pair.role = .standby || s.prog.tasks.all later
    | none => true

/-- Event BACKGROUND_SLICE (R517 to R520): one slice of a test, with its finding; for the comparator, the voter's reading of the pattern. Where
no slice can start, the tests only starve. -/
def execBackgroundSlice (finding : SliceFinding) (s : State) : Out :=
  if !hasMailbox s then .next s
  else if !slackOpen s then .next (starveTests s)
  else
    let n := sliceTest s
    let s := if n = 0 then commitVoterTest (startQueued s) else s
    let slice := if n = 0 then nextPattern s else (selfTest s n).slices
    let passes : Bool := if n = 0 then patternPasses slice finding.reading else finding.passed
    let s := commitRequests n (starveTests (eraseOne s))
    let s := modTest (fun t => { t with next := (n + 1) % 8 }) s
    .next (if passes then slicePasses n s
           else if [0, 1, 6, 7].contains n then sliceFails n slice s
           else slicePasses n (sliceFails n slice s))

/-! ### Test mode (R521, R522) -/

/-- Event TEST_EN_CHANGE (R549). -/
def execTestEnChange (strapped : Bool) (s : State) : Out :=
  if s.module.state = .stowed then .next s else .next (testGate (modModule (fun m => { m with testEn := strapped }) s))

/-- Event TEST_LIMIT_EXPIRY (R522). -/
def execTestLimitExpiry (s : State) : Out := if s.test.squall then .next (testOff 3 (reach s.test.ends s)) else .next s

/-- SQL_GATE (Table 17.12). -/
def squallGate (s : State) : Nat :=
  8 * bit s.module.testEn + 4 * bit (standstill s) + 2 * bit (s.pair.role != .active) + bit s.test.squall

/-- TEST_STATUS. -/
def cmdTestStatus : Command where
  issuers := anyOrLanes
  body := sized 0 fun _ s =>
    let t := s.test
    let one (n : Nat) : Bytes :=
      let x := selfTest s n
      le 4 (cap32 x.rounds) ++ le 4 (cap32 x.failures) ++ le 1 (bit x.starved) ++ le 8 x.lastRound
    answers (le 1 (bit t.squall) ++ le 1 (squallGate s) ++ (if t.squall then padTo 32 t.credential else padTo 32 []) ++
      le 8 (if t.squall then t.entry else 0) ++ le 4 (if t.squall then (t.ends - s.time) / second 1 else 0) ++
      [t.mbxDelay, t.bpPorts, t.backpressure, t.jitter, t.slipLatency, t.corrupt, t.seed].flatMap (fun w => le 4 w.toNat) ++
      le 4 (cap32 t.applied) ++ le 4 (cap32 t.held) ++ (List.range 8).flatMap one ++
      le 1 (t.requested.length + bit s.voter.testQueued)) s

/-- TEST_ENTER. -/
def cmdTestEnter : Command where
  issuers := roleOnly maintainer
  body := sized 8 fun e s =>
    let limit := if e.field 0 4 = 0 then 3600 else e.field 0 4
    if limit < 60 || 28800 < limit then fails stBadArgument s
    else if !s.module.testEn || !standstill s then fails 0x0F10 s
    else if s.trust.ownerLock then fails 0x0212 s
    else if s.pair.role = .active || !(s.module.state = .service || s.module.state = .maintenance) || s.update.axis = 2 || s.test.squall then
      fails stRefused s
    else
      let asked := e.field 4 4
      let seed := if asked = 0 then drawn s % 2 ^ 32 else asked
      let s := if asked = 0 then afterDraw s else s
      let name := issuerName s e.issuer
      let s := modTest (fun t => { t with squall := true, session := e.session, credential := name, entry := localSeconds s, ends := s.time + second limit
                                          seed := BitVec.ofNat 32 seed, x := BitVec.ofNat 32 seed, applied := 0, held := 0 }) s
      answers (le 4 seed) (record .juridical 0x12 0 (padTo 32 name ++ le 1 0 ++ le 1 0) s)

/-- TEST_EXIT. -/
def cmdTestExit : Command where
  issuers := roleOnly maintainer
  body := sized 0 fun _ s => if s.test.squall then answers (le 4 (cap32 s.test.applied)) (testOff 1 s) else fails 0x0F11 s

/-- The fields of SQUALL_SET lie in their ranges, and its reserved bits are 0 (Tables 17.13 to 17.17, R10). -/
def squallFieldsOk (b : Bytes) : Bool :=
  let f := Bytes.field b
  let period := f 10 2
  let jitter := f 12 4
  f 0 4 < 2 ^ 18 && f 4 4 < 2 ^ 28 && f 12 4 < 2 ^ 16 && f 16 4 < 2 ^ 18 && f 20 4 &&& 0x7CC0FF00 = 0 &&
    f 0 2 ≤ 50000 && (f 8 4 = 0 || 10 ≤ period && f 8 2 ≤ period) && jitter / 4 % 2 ^ 14 ≤ 1000 && f 16 2 ≤ 20000 && f 23 1 % 4 < 3

/-- SQUALL_SET: reserved bits read 0. -/
def cmdSquallSet : Command where
  issuers := roleOnly maintainer
  body := sized 24 fun e s =>
    let w (o mask : Nat) : Word32 := BitVec.ofNat 32 (e.field o 4 &&& mask)
    let corrupt := e.field 20 4 &&& (if e.field 20 1 = 0 then 0x033F00FF else 0x833F00FF)
    if !squallFieldsOk e.payload then fails stBadArgument s
    else if !s.test.squall then fails 0x0F11 s
    else if s.test.session != e.session then fails 0x0F12 s
    else answers [] (modTest (fun t => { t with mbxDelay := w 0 0x3FFFF, bpPorts := w 4 0xFFFFFFF, backpressure := w 8 0xFFFFFFFF
                                                jitter := w 12 0xFFFF, slipLatency := w 16 0x3FFFF, corrupt := BitVec.ofNat 32 corrupt }) s)

/-- SELF_TEST_RUN: the comparator outside the states of R141 is queued, and the command completes DEFERRED. -/
def cmdSelfTestRun : Command where
  issuers := roleOnly maintainer
  body := sized 1 fun e s =>
    let named := (List.range 8).filter fun n => hasBit (e.field 0 1) n
    let queue (owner : Option Nat) (ns : List Nat) : State := modTest (fun t => { t with requested := t.requested ++ ns.map fun n => (n, owner) }) s
    if named.isEmpty then answers (le 1 0 ++ le 2 0) s
    else if named.contains 0 && !comparatorState s then
      (modVoter (fun v => { v with testQueued := true }) (queue none (named.filter (· != 0))), .done stDeferred (le 1 0 ++ le 2 0))
    else (modTest (fun t => { t with running := t.running ++ [(e.id, 0, 0)] }) (queue (some e.id) named), .goesOn .under false)

end Sys2Proof.Machine
end

