-- ==== Sys2Proof/Machine/Module.lean ====
section
/-! DEFINITION. The module state machine (R508 to R514): reset, boot, Proving, supply loss, Reel, and the MODULE commands. -/

namespace Sys2Proof.Machine

/-! ### Reset (R25, R530, log entry 8) -/

/-- What each block keeps over a reset: settings, and what stands in flash, in the store and in the Lull domain. -/
def keptClock (c : ClockSt) (now : Nat) : ClockSt :=
  { asOf := now, source := c.source, etbDomain := c.etbDomain, etbPriority1 := c.etbPriority1, etbPriority2 := c.etbPriority2,
    ecnPriority1 := c.ecnPriority1, logSync := c.logSync, lockThreshold := c.lockThreshold, stepThreshold := c.stepThreshold }

/-- DESIGN CHOICE: over a reset every security-association context is lost, while the connectivity association keys stay (log entry 134); the
login attempts counted for a source are forgotten, while a credential's failures and its lock stay (log entry 135). -/
def keptTrust (t : TrustSt) : TrustSt :=
  { identity := t.identity, anchor := t.anchor, certificates := t.certificates, ownerLock := t.ownerLock, floors := t.floors,
    credentials := t.credentials, tlsPort := t.tlsPort, idleLimit := t.idleLimit, cak := t.cak, lull := { t.lull with reported := false, reportedLoss := false } }

def keptMbx (m : MbxSt) : MbxSt := { epoch := m.storedEpoch, storedEpoch := m.storedEpoch, commandComId := m.commandComId, replyComId := m.replyComId }

def keptLane (x : LaneSt) : LaneSt := { isolatedAt := x.isolatedAt, health := x.health }

def keptVoter (v : VoterSt) : VoterSt :=
  { lanes := v.lanes.map fun _ x => keptLane x, staggerSet := v.staggerSet, stagger := v.staggerSet, twoLaneLimit := v.twoLaneLimit }

def keptSlot (x : ImageSlot) : ImageSlot := if x.state = 1 then x else { x with load := none }

def keptProg (p : ProgSt) : ProgSt :=
  { slot0 := keptSlot p.slot0, slot1 := keptSlot p.slot1, slot := p.slot, cache := p.cache, startAtBoot := p.startAtBoot, bank0 := p.bank0,
    bank1 := p.bank1, lastBank := p.lastBank, lastSequence := p.lastSequence, lastCommitTai := p.lastCommitTai, lastCause := p.lastCause,
    directories := p.directories }

def keptSource (x : ActSource) : ActSource :=
  { origin := x.origin, index := x.index, sense := x.sense, priority := x.priority, initialMask := x.initialMask, masked := x.initialMask }

def keptSafety (x : SafetySt) : SafetySt :=
  { active := x.active, activeVersion := x.activeVersion, activeSigner := x.activeSigner, everActivated := x.everActivated, flag0 := x.flag0,
    flag1 := x.flag1, changeLog := x.changeLog, changeSequence := x.changeSequence }

def keptPair (p : PairSt) : PairSt :=
  { enabled := p.enabled, peer := p.peer, supervised := p.supervised, holdMs := p.holdMs, ipv4 := p.ipv4, mac := p.mac, pairComId := p.pairComId }

def keptFrer (f : Frer) : Frer :=
  { identifications := f.identifications, generation := f.generation, recovery := f.recovery, history := f.history, resetMs := f.resetMs }

def keptNet (n : NetSt) : NetSt :=
  { ports := n.ports.map fun p => (p.1, { config := p.2.config, gates := p.2.gates }), pinned := n.pinned, aging := n.aging,
    flows := n.flows.map fun f => (f.1, { record := f.2.record, enabled := f.2.enabled }), frer := n.frer.map fun f => (f.1, keptFrer f.2),
    relayOperations := n.relayOperations, subnet := n.subnet, prefixLength := n.prefixLength, hosts := n.hosts, heartbeatMs := n.heartbeatMs,
    heartbeatComId := n.heartbeatComId, heartbeatGroup := n.heartbeatGroup, uuid := n.uuid, cages := n.cages }

def keptBus (b : MvbBus) : MvbBus :=
  { enabled := b.enabled, candidate := b.candidate, device1 := b.device1, device2 := b.device2, statusPeriod := b.statusPeriod,
    administrators := b.administrators, extra := b.extra }

def keptMvb (m : MvbSt) : MvbSt :=
  { bus0 := keptBus m.bus0, bus1 := keptBus m.bus1, ports := m.ports.map fun p => (p.1, { record := p.2.record, enabled := p.2.enabled })
    maps := m.maps.map fun p => (p.1, { p.2 with withoutData := 0 }) }

def keptUpdate (u : UpdSt) : UpdSt := { u with load := none, ownGates := none, waitingSince := none }

def keptModule (m : ModuleSt) (now : Nat) : ModuleSt :=
  { resetHeld := m.resetHeld, supplied := m.supplied, supplyLostAt := m.supplyLostAt, supplyMv := m.supplyMv, holdUpNf := m.holdUpNf
    holdUpCharged := m.holdUpCharged, enteredAt := now, bootCount := m.bootCount, firmwareSlot := m.firmwareSlot, versions := m.versions
    startMaintenance := m.startMaintenance, maintenanceNext := m.maintenanceNext, resetCause := m.resetCause, testEn := m.testEn }

/-- The module enters Stowed: every interface presents the state of Table 1.10, and sessions end. -/
def goStowed (s : State) : State :=
  let s := countTwoLane s
  let s := s.trust.sessions.foldl (fun t x => emit (.sessionClosed x.1) t) s
  { pending := s.pending, time := s.time, draws := s.draws, out := s.out, module := keptModule s.module s.time, clock := keptClock s.clock s.time
    recorder := recorderReset s.recorder, trust := keptTrust s.trust, mbx := keptMbx s.mbx, test := {}, voter := keptVoter s.voter
    prog := keptProg s.prog, act := { sources := s.act.sources.map fun x => (x.1, keptSource x.2) }, pos := { config := s.pos.config }
    safety := keptSafety s.safety, signal := signalReset s.signal s.time, pair := keptPair s.pair, net := keptNet s.net, mvb := keptMvb s.mvb
    update := keptUpdate s.update }

/-- Step 3 of an update's activation: the staged slot becomes active on trial (R496). -/
def markTrial (s : State) : State :=
  let n := s.module.firmwareSlot
  let s := setSlotState (1 - n) 3 (setSlotState n 4 s)
  modModule (fun m => { m with firmwareSlot := 1 - n })
    (modUpdate (fun u => { u with activating := false, onTrial := true, trialCount := 0 }) s)

/-- Event RESET (R530): RST_N, or the internal reset of a restart. -/
def execReset (s : State) : Out :=
  let held (s : State) : State := modModule (fun m => { m with resetHeld := true }) s
  if s.module.state = .stowed then .next (held s)
  else
    let due := s.module.restartDue
    let s := match due with
      | some t => reach t s
      | none => s
    let s := if due.isSome && s.update.activating then markTrial s else s
    .next (held (goStowed (supplyEndsActivation s)))

/-- Event SLATE_WATCHDOG_EXPIRY (R520): the module resets, and the BOOT record names the cause. -/
def execSlateWatchdogExpiry (s : State) : Out :=
  if s.module.state = .stowed || s.module.state = .halted then .next s
  else .next (modModule (fun m => { m with resetHeld := true, resetCause := 3 }) (goStowed (supplyEndsActivation s)))

/-! ### Boot (R32 to R34) -/

/-- The BOOT record (Table 15.2). -/
def recordBoot (s : State) : State :=
  let m := s.module
  record .general 1 0 (le 4 m.bootCount ++ le 1 m.firmwareSlot ++ le 1 s.prog.slot ++ (List.range 5).flatMap (fun c => le 4 (componentVersion s m.firmwareSlot c)) ++
    le 1 (latchBits s) ++ le 4 s.recorder.lostLast ++ le 8 s.recorder.general.firstOfBoot ++ le 8 s.recorder.juridical.firstOfBoot ++ le 1 m.resetCause) s

/-- Slate in a slot verifies (steps 2 and 3). -/
def slateBoots (f : BootFacts) (n : Nat) : Bool := if n = 0 then f.slateA else f.slateB

/-- Whether a slot yields a complete set: it verifies, and no component is below the floor of its type and signer (R33, R37, R498 text). -/
def setBoots (s : State) (f : BootFacts) (n : Nat) : Bool :=
  slateBoots f n && (if n = 0 then f.setA else f.setB) &&
    (List.range 5).all fun c => floorOf s (c + 1) (componentSigner s n c) ≤ componentVersion s n c

/-- Slate of a slot finds in step 5 that its set is not complete, and records it (R33; log entry 136). -/
def recordSlotFailure (f : BootFacts) (n : Nat) (s : State) : State :=
  if slateBoots f n && !setBoots s f n then recordUpdate 5 (le 1 n) s else s

/-- The trial count at power-good (R498): a third power-good ends the trial. -/
def countTrial (s : State) : State :=
  if !s.update.onTrial then s
  else if s.update.trialCount = 2 then trialFail 3 s
  else modUpdate (fun u => { u with trialCount := u.trialCount + 1 }) s

/-- Boot on the other slot (R33): the slot that failed holds no complete set. -/
def bootOther (s : State) : State :=
  if s.update.onTrial then trialFail 1 s
  else
    let n := s.module.firmwareSlot
    modModule (fun m => { m with firmwareSlot := 1 - n }) (setSlotState (1 - n) 2 (setSlotState n 0 s))

/-- Step 6: an image or a cache entry that fails its check (R34), the two copies of the Lock-out flag (R309), and the parameter set; after a reset
to defaults the default set is the active one (R304). -/
def bootChecks (f : BootFacts) (s : State) : State :=
  let image := if s.prog.slot = 0 then f.image0 else f.image1
  let x := slotOf s s.prog.slot
  let s := if x.state != 1 && x.state != 2 then s
    else if image then noteSigner 0x10 x.signer s
    else modModule (fun m => { m with imageFailed := true }) (modSlot s.prog.slot (fun _ => { state := 3 }) s)
  let good (c : List CacheEntry) : List CacheEntry := ((c.zip (List.range c.length)).filter fun x => !f.cacheFails.contains x.2).map Prod.fst
  let s := settleAxis (modProg (fun p => { p with cache := good p.cache }) s)
  let s := if !flagValid s.safety.flag0 && !flagValid s.safety.flag1 then lockOut false 0x16 0 0xFF 0 (Config.safetyAddress 0) s else s
  let s := if s.safety.active.isNone then s
    else if f.params then noteSigner 0x12 s.safety.activeSigner s
    else lockOut false 0x15 0 0xFF 0 0xFF (modSafety (fun x => { x with activeBad := true }) s)
  if s.update.onTrial && hasBit s.update.resetGroups 0 then modSafety (fun x => { x with activeBad := true }) s else s

/-- A failed trial is recorded by the boot of the previous slot (R498). -/
def reportTrial (s : State) : State :=
  if s.update.failCause = 0 then s
  else recordUpdate 2 (le 1 s.update.failCause) (modUpdate (fun u => { u with failCause := 0, outcomeTai := localSeconds s }) s)

/-- The Lull domain stopped and lost its state (R60, R61): the power-loss latch is set, the tamper latch is lost, and what its clock
and its tamper time read from then on is free (log entry 84). -/
def lullLost (s : State) : State :=
  let clock := drawn s % 2 ^ 64
  let s := afterDraw s
  let time := drawn s % 2 ^ 64
  modLull (fun l => { l with powerLoss := true, tamper := false, tamperTime := time }) (setLull clock (afterDraw s))

/-- The boot chain of Table 2.2 up to its step 7, with what its verifications find. -/
def boot (f : BootFacts) (s : State) : State :=
  let side := if f.side0 && !f.side1 then 1 else if f.side1 && !f.side0 then 2 else 0
  let s := if s.trust.identity.isNone then afterDraw (modTrust (fun t => { t with identity := some (drawn s) }) s) else s
  let s := afterDraw (modNet (fun n => { n with hashKey := drawn s }) s)
  let s := modModule (fun m => { m with state := .booting, bootAt := s.time, enteredAt := s.time, bootCount := m.bootCount + 1, side := side }) s
  let s := if f.lullStopped then lullLost s else s
  let s := setLocal (lullNow s * secUnit) s
  let s := modModule (fun m => { m with bootLatch := latchSet s }) (countTrial s)
  let spare := spareSlot s
  let s := if setBoots s f s.module.firmwareSlot then s
    else
      let s := recordSlotFailure f s.module.firmwareSlot s
      if setBoots s f spare then bootOther s
      else modModule (fun m => { m with state := .halted, haltedCode := 1 }) (let s := recordSlotFailure f spare s
        if s.update.onTrial then trialFail 1 s else s)
  if s.module.state = .halted then s
  else
    let s := modMbx (fun m => { m with epoch := (m.storedEpoch + 1) % 2 ^ 32, storedEpoch := (m.storedEpoch + 1) % 2 ^ 32 }) s
    let s := setRole (if s.pair.enabled then .standby else .solo) (modPair (fun p => { p with reasons := if p.enabled then 32 else 0 }) s)
    let s := bootChecks f (reportTrial (recordBoot s))
    modModule (fun m => { m with resetCause := 0 }) s

/-- Event POWER_GOOD (R32): the lamp test begins (R558), and the supply is taken as nominal until it is measured otherwise (log entry 79). -/
def execPowerGood (f : BootFacts) (s : State) : Out :=
  if s.module.state != .stowed then .next s
  else
    let s := modModule (fun m => { m with supplied := true, supplyLostAt := none, supplyMv := 24000 }) s
    .next (if s.module.resetHeld then s else modModule (fun m => { m with lampTest := some s.time }) (boot f s))

/-- Event RESET_RELEASE (R509). -/
def execResetRelease (f : BootFacts) (s : State) : Out :=
  if s.module.state = .stowed && s.module.resetHeld then
    let s := modModule (fun m => { m with resetHeld := false }) s
    .next (if s.module.supplied then boot f s else s)
  else .next s

/-! ### From Booting to work (R509, R512, R214) -/

/-- A module state is entered. The heartbeat starts with the first Service, Maintenance or Lock-out after boot (R409); a Standby in
Service is rid of reason 5, and one whose partner's program runs then resynchronises. -/
def enterState (m : ModuleState) (s : State) : State :=
  let s := modModule (fun x => { x with state := m, enteredAt := s.time }) s
  let s := if m = .proving then s else startHeartbeat s
  let partnerRuns := 2 ≤ Bytes.field s.pair.partnerReport 0x0B 1
  let s := if m = .service && partnerRuns && hasBit s.pair.reasons 5 then setReason 0 true s else s
  testGate (setReason 5 (m != .service) s)

/-- Event BOOTING_END: the relays open, the test-pulse sources start, and Proving or Lock-out follows; an update trial that boots into a
Lock-out of cause 0x0021 alone passes (R497). -/
def execBootingEnd (s : State) : Out :=
  if s.module.state != .booting then .next s
  else
    let s := startInauguration (modNet (fun n => { n with relaysOpen := true, relayOperations := n.relayOperations + 1 }) s)
    let s := watchPairs (modSafety (fun x => { x with testPulses := true, sampledFrom := s.time, activatedSince := false }) s)
    if lockoutFlag s then
      let s := enterState .lockout (traceTrigger s)
      .next (if s.update.onTrial && lockoutCause s = 0x21 && Bytes.field (flagCopy s) 0x1A 2 = 0 then trialPass s else s)
    else .next (enterState .proving s)

/-- A lane of the start-up test: it stops with the others, or is Isolated. DESIGN CHOICE: cause 10 of the record (log entry 41). -/
def startLane (l : Lane) (passed : Bool) (s : State) : State :=
  if passed then modLane l (fun x => { x with state := .stopped }) s
  else traceTrigger <| recordLane l.num (le 1 0 ++ le 1 10 ++ le 1 0xFF ++ le 8 0 ++ le 4 s.mbx.epoch) (modLane l (fun x => { x with state := .isolated }) s)

/-- A translation made afresh in step 1: it enters the cache; one that fails is an image that fails its verification (R34, R184). -/
def freshTranslation (report : Option CutterReport) (s : State) : State :=
  let x := slotOf s s.prog.slot
  if translated s x.digest && x.state = 2 then s
  else
    match report with
    | some r =>
      let r := cut s.prog.slot r s
      match r.1 with
      | .refused _ _ => modModule (fun m => { m with imageFailed := true }) (failSlot s.prog.slot r.2)
      | _ => r.2
    | none => s

/-- If no pair has formed by the end of Proving, a module with pairing on is Active with its partner absent (R511). -/
def pairAtProvingEnd (s : State) : State :=
  if s.pair.enabled && !s.pair.present then
    setRole .active (modPair (fun p => { p with reasons := 0, activeSince := toNs (localNow s) }) s)
  else s

/-- The state that the settings give (R509, R510). -/
def settledState (s : State) (trial : Bool) : ModuleState :=
  if unenrolled s || latchSet s || s.module.bootLatch || trial || s.module.provingAfterReset || s.module.imageFailed || s.module.startMaintenance || s.module.maintenanceNext then
    .maintenance
  else .service

/-- Service or Maintenance is entered after Proving; Service starts the program as R214 gives. -/
def leaveProving (s : State) : State :=
  let next := settledState s false
  let s := modModule (fun m => { m with provingAfterReset := false, maintenanceNext := false }) (enterState next s)
  if next = .service then startAtBoot s else s

/-- The module enters Halted (R509); a trial has failed by that, and the previous slot boots. -/
def halt (code : Nat) (s : State) : State :=
  let s := modModule (fun m => { m with state := .halted, haltedCode := code, enteredAt := s.time }) (modNet (fun n => { n with relaysOpen := false }) s)
  let s := modSafety (fun x => { x with testPulses := false }) (allOutputsOff s)
  if s.update.onTrial then modModule (fun m => { m with restartDue := some s.time }) (trialFail 1 s) else s

/-- The tests of Proving have passed. A trial passes in Maintenance and then goes on as after an ordinary Proving. -/
def provingPassed (s : State) : State :=
  let s := comparatorResult true s
  if s.update.onTrial then
    let s := trialPass (enterState .maintenance s)
    if s.module.state = .lockout then s else leaveProving s
  else leaveProving s

/-- Event PROVING_END (R512): lanes, the comparator test (R139), the other tests, then the state that follows. -/
def execProvingEnd (f : ProvingFacts) (s : State) : Out :=
  if s.module.state != .proving then .next s
  else
    let s := startLane .c f.laneC (startLane .b f.laneB (startLane .a f.laneA s))
    let s := settleLanes (freshTranslation f.cutter s)
    if bit f.laneA + bit f.laneB + bit f.laneC < 2 then .next (halt 2 s)
    else
      let s := pairAtProvingEnd s
      match comparatorFinding f.readings f.drives, f.failure with
      | some n, _ => .next (comparatorLockout n (recordVoterFail n s))
      | none, some (cause, detail) => .next (lockOut false cause 0 0xFF 0 detail (comparatorResult true s))
      | none, none => .next (provingPassed s)

/-! ### Supply (R219, R479, R514, R539) -/

/-- A SUPPLY record: 0 failure, 1 return, 2 degraded store. -/
def recordSupply (event value : Nat) (s : State) : State := record .general 2 0 (le 1 event ++ le 4 value) s

/-- Event SUPPLY_FAILURE (R219): the commit starts, a freeze ends, and an activation in its first steps ends. A module that RST_N holds Stowed
only notes the interruption (R25). -/
def execSupplyFailure (mv : Nat) (s : State) : Out :=
  if !s.module.supplied || s.module.supplyLostAt.isSome then .next s
  else if s.module.state = .stowed then .next (modModule (fun m => { m with supplyLostAt := some s.time, supplyMv := mv }) s)
  else
    let s := modModule (fun m => { m with supplyLostAt := some s.time, supplyMv := mv, holdUpCharged := false }) s
    let s := modUpdate (fun u => { u with lowSupplyAt := some s.time }) s
    let s := if s.prog.retentiveLoaded then beginCommit 1 s else s
    let s := if freezeHeld s then endFreeze 3 none s else s
    .next (supplyEndsActivation (recordSupply 0 mv s))

/-- Event SUPPLY_RETURN (R514): the module carries on. One that RST_N holds Stowed only notes it (R25). -/
def execSupplyReturn (mv : Nat) (s : State) : Out :=
  match s.module.supplyLostAt with
  | none => .next s
  | some _ =>
    let s := modModule (fun m => { m with supplyLostAt := none, supplyMv := mv }) s
    let s := modRecorder (fun r => { r with stopped := false }) (modUpdate (fun u => { u with lowSupplyAt := some s.time }) s)
    .next (if s.module.state = .stowed then s else recordSupply 1 mv s)

/-- Event RECORDER_SUPPLY_STOP (R479): 16 ms after the detection the recorder stops. -/
def execRecorderSupplyStop (s : State) : Out :=
  match s.module.supplyLostAt with
  | some t => .next (modRecorder (fun r => { r with stopped := true }) (reach (t + milli 16) s))
  | none => .next s

/-- Event HOLD_UP_EXPIRY (R514): 20 ms after the supply fell, reset is asserted. -/
def execHoldUpExpiry (s : State) : Out :=
  match s.module.supplyLostAt with
  | some t =>
    let s := goStowed (supplyEndsActivation (reach (t + milli 20) s))
    .next (modModule (fun m => { m with supplied := false, supplyLostAt := none, holdUpCharged := false }) s)
  | none => .next s

/-- Event HOLD_UP_STORE_CHARGED (R539): the store reports charged when it holds 2.04 J between 48 V and 30 V. -/
def execHoldUpStoreCharged (nanofarad : Nat) (s : State) : Out :=
  if !s.module.supplied then .next s
  else
    let charged := 2040000000 ≤ nanofarad * 702
    let s := modModule (fun m => { m with holdUpNf := nanofarad, holdUpCharged := charged }) s
    .next (if charged then s else recordSupply 2 nanofarad s)

/-! ### Reel (R31) -/

/-- Event REEL_FAULT: five missed heartbeats or a protection fault; Slate restarts Reel, every external session ends, and mastership of the MVB
buses passes to other administrators (R416). -/
def execReelFault (protection : Bool) (s : State) : Out :=
  if !hasMailbox s || s.module.reelDownSince.isSome then .next s
  else
    let s := modModule (fun m => { m with reelDownSince := some s.time, reelRestarts := m.reelRestarts + 1 }) s
    let s := (s.trust.sessions.map Prod.fst).foldl (fun t n => endSession n t) s
    .next (record .general 3 (bit protection) [] (dropMasters s))

/-- Event REEL_RESTART_COMPLETE. -/
def execReelRestartComplete (s : State) : Out := .next (modModule (fun m => { m with reelDownSince := none }) s)

/-! ### The MODULE commands (Table 3.11) -/

/-- The axes of Table 3.12, one byte each, with the lanes that vote. -/
def axesBytes (s : State) : Bytes :=
  le 1 s.module.state.code ++ le 1 s.pair.role.code ++ le 1 (votingMask s) ++ le 1 s.prog.state.code ++ le 1 (bit (forced s)) ++
    le 1 s.clock.state.code ++ le 1 s.pos.state.code ++ le 1 (bit (frozen s)) ++ le 1 s.update.axis ++ le 1 (bit s.test.squall)

/-- MODULE_STATUS (R100). -/
def cmdModuleStatus : Command where
  issuers := anyOrLanes
  body := sized 0 fun _ s => answers (axesBytes s ++ le 4 s.mbx.epoch ++ taiBytes (localNow s) ++ le 4 (moduleFlags s)) s

/-- MODULE_INFO. -/
def cmdModuleInfo : Command where
  issuers := anyOrLanes
  body := sized 0 fun _ s =>
    let n := s.module.firmwareSlot
    let x := setOf s n
    answers (identifier s ++ padTo 16 (ascii "KXE-3000") ++ le 2 Config.hardwareRevision ++ (List.range 4).flatMap (fun c => le 4 (componentVersion s n c)) ++
      le 1 x.slipstream ++ le 1 (Nat.log2 x.kpc + 1) ++ le 1 x.mailbox ++ le 1 x.settings ++ le 1 n ++ le 1 s.prog.slot ++ le 4 s.module.bootCount) s

/-- An Active whose partner is not ready. -/
def activeAlone (s : State) : Bool := s.pair.role = .active && !partnerReady s

/-- MODE_REQUEST (R509): forces on SAFETY variables are dropped on leaving Maintenance (R210), and the first entry to Service starts the
program as at boot (R214). -/
def cmdModeRequest : Command where
  issuers := roleOnly (operator + maintainer)
  body := sized 1 fun e s =>
    let target := e.field 0 1
    let was := s.module.state
    let up : Bool := was = .service || was = .maintenance
    if target != 3 && target != 4 then fails stBadArgument s
    else if !up || target = 3 && (unenrolled s || latchSet s || s.module.bootLatch) || target = 4 && (!standstill s || activeAlone s) then fails stRefused s
    else
      let next : ModuleState := if target = 3 then .service else .maintenance
      if next = was then answers (le 1 was.code) s
      else
        let s := enterState next s
        answers (le 1 was.code) (if next = .service then startAtBoot (dropAndForward Force.safety s) else s)

/-- MODULE_RESTART (R101, R510). -/
def cmdModuleRestart : Command where
  issuers := roleOnly (operator + maintainer)
  body := sized 1 fun e s =>
    let start := e.field 0 1
    if start != 0 && start != 4 then fails stBadArgument s
    else if s.module.state = .service && !standstill s || activeAlone s then fails stRefused s
    else (dueRestart (modModule (fun m => { m with maintenanceNext := start = 4 }) s), .done stAccepted [])

/-- CLASS_CONTROL (R98, R102). -/
def cmdClassControl : Command where
  issuers := roleOnly maintainer
  body := sized 3 fun e s =>
    let c := e.field 0 1
    let kinds := e.field 1 1
    let enable := e.field 2 1
    let named := 3 ≤ c && c ≤ 5 || 7 ≤ c && c ≤ 0xF
    if !named || 3 < kinds || 1 < enable then fails stBadArgument s
    else
      let old := Tbl.get s.mbx.disabled c 0
      let new := if enable = 1 then old &&& (3 - kinds) else old ||| kinds
      let s := modMbx (fun m => { m with disabled := Tbl.put m.disabled c new }) s
      let hit (q : Entry) : Bool := enable = 0 && classOf q.code = c && hasBit kinds (if issuerKind q.issuer = 1 then 0 else 1)
      let n := (s.mbx.queue.filter fun q => !q.committed && hit q).length
      answers (le 1 (3 - old) ++ le 2 n) (cancelTargets hit s)

/-- TOKEN_QUERY (R97): other identities only for a Maintainer or an Owner. -/
def cmdTokenQuery : Command where
  issuers := anyOrLanes
  body := sized 8 fun e s =>
    let issuer := if e.field 0 4 = 0 then e.issuer else e.field 0 4
    let token := e.field 4 4
    if issuer != e.issuer && !anyRole e.roles (maintainer + owner) then fails stDenied s
    else if s.mbx.queue.any (fun q => q.issuer = issuer && q.token = token) || s.pair.awaitingAck.any fun h => h.issuer = issuer && h.token = token then
      answers (le 1 1 ++ le 2 0 ++ le 4 0) s
    else
      match (tokenTable s issuer).stored.find? fun c => c.token = token with
      | some c => answers (le 1 2 ++ le 2 c.status ++ le 4 c.epoch) s
      | none => answers (le 1 0 ++ le 2 0 ++ le 4 0) s

/-- MAILBOX_COUNTERS. -/
def cmdMailboxCounters : Command where
  issuers := anyOrLanes
  body := sized 0 fun _ s =>
    let m := s.mbx
    answers (le 8 m.accepted ++ [m.replays, m.attachments, m.discarded, m.cancelled, m.staleEpoch, m.busyRetry, m.headerErrors, m.windowMismatches,
      m.voteAcceptances].flatMap (fun n => le 4 n) ++ le 2 m.maxDepth ++ le 4 m.maxWait) s

end Sys2Proof.Machine
end

