-- ==== Sys2Proof/Machine/Freeze.lean ====
section
/-! DEFINITION. Activation and input freeze (chapters 4 and 6): the snapshot of a task, its delivery to the lanes, and the take that the
voter then awaits. -/

namespace Sys2Proof.Machine

/-! ### Lanes that execute a take -/

/-- A lane that is being rebuilt has imported a task. -/
def imported (x : LaneSt) (task : Nat) : Bool := x.reshooting && match Tbl.find x.reshoot task with
  | some t => t.imported
  | none => false

/-- Lanes that vote on a take, and lanes that execute it without a vote (R132), as masks. -/
def runMask (s : State) : Nat := laneMask fun l => (laneOf s l).state = .voting
def probationMask (s : State) (task : Nat) : Nat := laneMask fun l => imported (laneOf s l) task

/-- Lanes that execute a take of a task. -/
def executing (s : State) (task : Nat) : List Lane := Lane.all.filter fun l => (laneOf s l).state = .voting || imported (laneOf s l) task

/-! ### Delivery (R106, R109) -/

/-- What one freeze settles: the task's record, its instant, take number and epoch, the snapshot and the force entries, and the instant at
which the snapshot has arrived. -/
structure Frozen where
  task : TaskRec
  t0 : Nat
  take : Nat
  epoch : Nat
  snapshot : Bytes
  forces : Bytes
  arrival : Nat

/-- The take as it is delivered to a lane, which starts it at its stagger offset; after a recut the offsets follow the end of the conversion. -/
def Frozen.laneTake (f : Frozen) (s : State) (l : Lane) : LaneTake where
  task := f.task.task
  take := f.take
  epoch := f.epoch
  t0 := f.t0
  deadline := f.t0 + micro f.task.deadline
  readyAt := max s.prog.convertedAt f.arrival + micro (s.voter.stagger * l.num)
  phase := .delivered
  snapshot := f.snapshot
  forceArea := forceAreaOf f.forces
  cueArea := cueAreaOf s f.task.task

/-- The take that the voter awaits; one that the Active forwarded is decided for comparison only (R245). -/
def Frozen.voteTake (f : Frozen) (s : State) : VoteTake where
  task := f.task.task
  take := f.take
  epoch := f.epoch
  t0 := f.t0
  deadline := f.t0 + micro f.task.deadline
  lanes := runMask s
  probation := probationMask s f.task.task
  compareOnly := s.pair.role = .standby

/-- The take is delivered to every lane that executes it, and awaited. -/
def openTake (f : Frozen) (s : State) : State :=
  let s' := (executing s f.task.task).foldl (fun t l => modLane l (fun x => { x with takes := x.takes ++ [f.laneTake s l] }) t) s
  modVoter (fun v => { v with takes := v.takes ++ [f.voteTake s] }) s'

/-- The SNAPSHOT message (R243). -/
def snapshotMessage (task : Nat) (snapshot forces : Bytes) (completions : List ChannelCompletion) : Bytes :=
  let c := completions.flatMap ChannelCompletion.bytes
  le 1 task ++ [0] ++ le 2 completions.length ++ le 2 (forces.length / 96) ++ le 2 0 ++ le 4 snapshot.length ++ le 4 c.length ++ snapshot ++
    forces ++ c

/-! ### The freeze (R19, R106, R191 to R193) -/

/-- The flags of a task's next snapshot (Table 4.1). -/
def snapshotFlags (s : State) (r : TaskRec) (forces : Bytes) : Nat := bit (!forces.isEmpty) + 2 * bit r.event + (taskRun s r.task).firstFlag

/-- The task as an activation leaves it: the next cyclic activation one cycle later. -/
def TaskRun.activated (x : TaskRun) (r : TaskRec) (t0 : Nat) : TaskRun :=
  { x with takes := x.takes + 1, lastInstant := some t0, due := x.due.map (· + r.cycle), nextInstant := none, firstFlag := 0, cueHeld := false }

/-- A task is activated at t0: the completions due enter its channels, its sources are delivered, and its snapshot is taken and forwarded
(R79, R193, R457). -/
def freezeInputs (i : Image) (r : TaskRec) (t0 : Nat) (s : State) : State :=
  let entered := enterCompletions (executing s r.task) r.task s
  let acts := deliverActivations r t0 entered.2
  let s := acts.2
  let forces := (taskForces s i r.task).flatMap Force.bytes
  let take := (taskRun s r.task).takes + 1
  let snapshot := buildSnapshot s i r (snapshotFlags s r forces) take acts.1
  let s := modTask r.task (fun x => x.activated r t0) s
  let s := openTake ⟨r, t0, take, s.mbx.epoch, snapshot, forces, t0 + deliveryTime snapshot.length⟩ s
  if s.pair.role = .active then slipstream 3 (snapshotMessage r.task snapshot forces entered.1) s else s

/-- What an activation instant does before its snapshot: a lane that has passed its probation votes again, and the reshoot's export of the
task, if one is under way, is abandoned (R132, R133). -/
def freezeTask (i : Image) (r : TaskRec) (t0 : Nat) (s : State) : State := freezeInputs i r t0 (reshootAtActivation r.task (rejoinAt s))

/-- The next activation instant of a task, if one is to come. -/
def activationInstant (s : State) (r : TaskRec) : Option Nat :=
  if r.event then (taskRun s r.task).nextInstant else ((taskRun s r.task).due).map (programInstant s)

/-- No activation of this module falls at or after a recut switch, a handover instant, or in a takeover before its instant. -/
def activationBarred (s : State) (t0 : Nat) : Bool :=
  s.pair.takeoverAt.isSome || ((pendingRecut s).any fun r => programInstant s r.switchUs ≤ t0) ||
    s.pair.role = .active && s.pair.handoverAt.any fun h => h ≤ toNs (clockAt s.clock t0)

/-- INPUT_FREEZE (R19, R191 to R193): the next activation instant of a task, of a program that runs and does not stop. A Standby's
activations are those that the Active forwards (R245). -/
def execInputFreeze (task : Nat) (s : State) : Out :=
  if !programRuns s || s.prog.stopping.isSome || s.pair.role = .standby then .next s
  else
    match runningImage s with
    | none => .next s
    | some i => match taskRec i task with
      | none => .next s
      | some r => match activationInstant s r with
        | none => .next s
        | some t0 => .next (if activationBarred s t0 then s else freezeTask i r t0 (reach t0 s))

end Sys2Proof.Machine
end

