-- ==== Sys2Proof/Machine/Pair.lean ====
section
/-! DEFINITION. Active and standby pairs (chapter 7): formation, roles, readiness, takeover, handover, and the PAIR commands. -/

namespace Sys2Proof.Machine

/-! ### Records, held completions and the end of a resynchronisation -/

/-- Completions that wait for the partner's acknowledgement leave (R247). -/
def releaseAwaiting (p : HeldCompletion → Bool) (s : State) : State :=
  let go := s.pair.awaitingAck.filter p
  settleClosing (go.foldl (fun t h => releaseCompletion h t) (modPair (fun x => { x with awaitingAck := x.awaitingAck.filter fun h => !p h }) s))

/-- A failed mirror write at the Standby (R266): its checkpoint is invalid; in a resynchronisation that fails. -/
def failMirror (s : State) : State :=
  if s.pair.role != .standby then s
  else
    let s := modPair (fun p => { p with failedWrites := p.failedWrites + 1 }) s
    if s.pair.resyncAt.isSome then resyncFails s else setReason 0 true s

/-! ### Resynchronisation on the Active (R267) -/

/-- A mask of reasons that a resynchronisation ends, and one of those with which none starts (Table 7.7). -/
def resyncReasons : Nat := 0x8D
def resyncBars : Nat := 0x472

/-- The reasons that bar one also for PAIR_RESYNC, which clears reasons 6 and 10. -/
def commandBars : Nat := 0x32

/-- R_s: the next activation of the supervised task, in local ns. -/
def resyncStart (s : State) : Option Nat :=
  ((runningImage s).bind (supervisedTask s)).bind fun r => ((taskRun s r.task).due).map fun us => toNs (programLocal s us)

/-- The Active fixes R_s and tells the Standby; commands that wait for it complete. -/
def armResync (s : State) : State :=
  match resyncStart s with
  | none => s
  | some rs =>
    let s := slipstream 2 (le 1 9 ++ le 8 rs) s
    answerResync stAccepted (modPair (fun p => { p with resyncAt := some rs, resyncRetry := none, resyncPassed := [], resyncSent := false
                                                        resyncStarted := p.resyncStarted + 1 }) s)

/-- Whether the Active can arm a resynchronisation now; a PAIR_RESYNC passes over the reasons that it clears. -/
def mayArm (s : State) (bars : Nat) : Bool :=
  s.pair.role = .active && s.pair.present && programRuns s && s.prog.stopping.isNone && s.pair.resyncAt.isNone &&
    s.pair.partnerReasons &&& bars = 0

/-- The resynchronisation that runs has ended at the Standby, by its report. -/
def resyncReported (s : State) : State :=
  match s.pair.resyncAt with
  | none => s
  | some rs =>
    let r := s.pair.partnerReasons
    if !programRuns s then modPair (fun p => { p with resyncAt := none }) s
    else if hasBit r 1 || toNs (localNow s) < rs then s
    else if hasBit r 0 then
      modPair (fun p => { p with resyncAt := none, resyncFailedCount := p.resyncFailedCount + 1
                                 resyncRetry := if hasBit r 10 then none else some (s.time + second 1) }) s
    else modPair (fun p => { p with resyncAt := none, resyncCompleted := p.resyncCompleted + 1 }) s

/-- A report of the partner's reasons reaches an Active (R247, R251, R266, R267): with any reason it waits for no acknowledgement, and it
learns of the need to resynchronise. -/
def partnerReports (r : Nat) (s : State) : State :=
  let failed : Bool := hasBit r 10 && !hasBit s.pair.partnerReasons 10
  let s := modPair (fun p => { p with partnerReasons := r }) s
  if s.pair.role != .active then s
  else
    let s := resyncReported (if r = 0 then s else releaseAwaiting (fun _ => true) s)
    let s := if failed then answerResync 0x0515 s else s
    if !s.pair.resyncWaiters.isEmpty && mayArm s commandBars then armResync s
    else if r &&& resyncReasons != 0 && s.pair.resyncRetry.isNone && mayArm s resyncBars then armResync s
    else s

/-! ### The partner (R234 to R236) -/

/-- The partner is lost to an Active: its completions wait for no acknowledgement, and what was armed with it ends; with pairing off the
module is then Solo (R272). -/
def partnerLost (s : State) : State :=
  let s := modPair (fun p => { p with present := false, partnerReasons := 1, partnerReport := [], partnerImage := [], partnerRunning := []
                                      handoverAt := none, secret := none }) s
  let s := answerResync 0x0510 (endResync (releaseAwaiting (fun _ => true) s))
  if s.pair.role = .active && !s.pair.enabled then setRole .solo s else s

/-- The reasons that hold of a module by its own state when it becomes Standby. -/
def ownReasons (s : State) : Nat := 0x20 * bit (s.module.state != .service) + 0x80 * bit (positionInvalid s) + 0x200 * bit (s.update.axis != 0)

/-- The takes of this module end undecided, and what a Standby holds of the Active's takes is empty. -/
def clearTakes (s : State) : State :=
  let s := modVoter (fun v => { v with takes := [] }) (abandonAll s)
  let s := modMbx (fun m => { m with held := [], voted := [] }) s
  modPair (fun p => { p with own := [], takeEnds := [], waitingSnapshots := [], superviseT0 := none, telegramSeen := false, misses := 0
                             takeoverAt := none, handoverAt := none }) s

/-- The module activates no take of its own. -/
def endDues (s : State) : State := modProg (fun p => { p with tasks := p.tasks.map fun t => (t.1, { t.2 with due := none, nextInstant := none }) }) s

/-- A module that acts as Active steps down (R236, R256): it stops releasing and publishing, its safe outputs go off, and it is Standby,
not ready. -/
def stepDown (s : State) : State :=
  let s := releaseAwaiting (fun _ => true) (endResync (endDues (silence (clearTakes (allOutputsOff s)))))
  sendStatus (setRole .standby (modPair (fun p => { p with reasons := ownReasons s ||| 1 }) s))

/-- The Slipstream generation that runs (R234). -/
def ownGeneration (s : State) : Nat := (setOf s s.module.firmwareSlot).slipstream

/-- The first condition of R234 that fails, as PAIR_STATUS numbers the causes: 1 identifier, 2 sides, 3 generation, 4 anchor, 5 no side strap,
6 certificate; 0 none (log entry 82). -/
def formationCause (h : PairHello) (s : State) : Nat :=
  if !h.namesUs || h.identifier != s.pair.peer then 1
  else if s.module.side = 0 then 5
  else if h.side != 3 - s.module.side then 2
  else if h.generation != ownGeneration s then 3
  else if unenrolled s || !h.sameAnchor then 4
  else if !h.certified then 6
  else 0

/-- The instant since which the module counts as Active (Table 7.1): a module that is not Active yet counts from now. -/
def activeFrom (s : State) : Nat := if s.pair.role = .active then s.pair.activeSince else toNs (localNow s)

/-- Role at formation (Table 7.1). -/
def formationRole (h : PairHello) (s : State) : PairRole :=
  if programRuns s then
    if !h.running || activeFrom s < h.activeSince || activeFrom s = h.activeSince && s.module.side = 1 then .active else .standby
  else if h.running then .standby
  else if s.module.side = 1 then .active
  else .standby

/-- The digest of the running image. -/
def runningDigest (s : State) : Bytes := (slotOf s s.prog.slot).digest

/-- A new Standby's reasons: those of its own, and what its partner's HELLO shows. -/
def formationReasons (h : PairHello) (s : State) : Nat :=
  ownReasons s + bit h.running + 4 * bit (h.running && h.imageDigest != runningDigest s) + 8 * bit (h.settingsDigest != leNat (settingsDigest s))

/-! ### Becoming Active (R254, R255, R261) -/

/-- The publication identity is taken: an ARP announcement on every interface, and counters that jump by 1024 (R261). -/
def takeIdentity (s : State) : State :=
  let flow (p : Nat × Flow) : Nat × Flow := match Tbl.find s.pair.flowCounters p.1 with
    | some c => (p.1, { p.2 with sequence := (c.1 + 1024) % 2 ^ 32, safeSequence := (c.2 + 1024) % 2 ^ 32 })
    | none => p
  let s := modNet (fun n => { n with flows := n.flows.map flow }) s
  (List.range 28).foldl (fun t p => if portUp t p then emit (.arp p) t else t) s

/-- A module becomes Active for a cause: 0 missed takes, 1 Lock-out notice, 2 divergence, 3 handover. -/
def becomeActive (cause : Nat) (s : State) : State :=
  let s := modPair (fun p => { p with reasons := 0, takeovers := p.takeovers + 1, lastTakeover := localSeconds s, lastTakeoverCause := cause
                                      activeSince := toNs (localNow s) }) (endResync s)
  takeIdentity (recordPair 1 (le 1 cause) (epochIncrement (setRole .active s)))

/-- The first 100 µs boundary of local time at least 500 µs ahead. -/
def takeoverBoundary (s : State) : Nat :=
  let unit := 100 * usUnit
  unit * ((localNow s + 500 * usUnit + unit - 1) / unit)

/-- A Standby becomes Active for a cause, and its schedule starts anew at T_to. -/
def activate (cause : Nat) (s : State) : State :=
  let s := becomeActive cause (clearTakes (testOff 6 s))
  modPair (fun p => { p with takeoverAt := some (takeoverBoundary s) }) s

/-- The role of a formation is taken. DESIGN CHOICE: a Standby whose program runs and whose partner's does not becomes Active as in a takeover
for missed takes (Table 7.1; log entry 144). -/
def takeRole (role : PairRole) (s : State) : State :=
  if !programRuns s then s
  else if role = .standby && s.pair.role != .standby then stepDown s
  else if role = .active && s.pair.role = .standby then activate 0 s
  else s

/-- What Slate derives from the handshake (R234): new traffic keys. -/
def keySlip (s : State) : State :=
  afterDraw (modPair (fun p => { p with secret := some (drawn s), keyNumber := 0, keyedAt := s.time, keyUses := 0 }) s)

/-- A Standby whose program is stopped sends the state that a warm start of its Active may take (R216; log entry 145). -/
def sendWarmState (s : State) : State :=
  if s.pair.role != .standby || programRuns s then s
  else
    match (runningImage s).bind fun i => (agreedLane s i (runningDigest s)).map fun l => (i, l) with
    | none => s
    | some (i, l) => i.tasks.foldl (fun t r =>
        let b := exportBytes i r (laneOf s l)
        slipstream 9 (le 1 2 ++ le 1 r.task ++ le 4 b.length ++ b ++ le 8 (crc64 b)) t) s

/-- The pair forms (R235). -/
def formPair (h : PairHello) (s : State) : State :=
  let role := formationRole h s
  let since := activeFrom s
  let s := keySlip (takeRole role s)
  let s := modPair (fun p => { p with
    present := true, failure := 0, partnerRunning := h.imageDigest, partnerImage := [], partnerReasons := 1, activeSince := since
    reasons := if role = .standby then formationReasons h s else 0 }) s
  sendWarmState (sendStatus (testGate (setRole role s)))

/-- Event SLIPSTREAM_HELLO (R234): a HELLO and the handshake after it. A failure is recorded when its cause changes. -/
def execSlipstreamHello (h : PairHello) (s : State) : Out :=
  if !s.pair.enabled || !slipLit s then .next s
  else
    let s := modPair (fun p => { p with partnerGeneration := h.generation }) s
    match formationCause h s with
    | 0 => .next (formPair h s)
    | cause =>
      let s := if s.pair.failure = cause then s else recordPair 0 (le 1 cause) s
      .next (partnerLost (modPair (fun p => { p with failure := cause }) s))

/-- What a HELLO states: side, generation, own and peer identifier, whether the program runs, since when Active, the pair settings digest and
the digest of the running image (log entry 80). -/
def helloBody (s : State) : Bytes :=
  le 1 s.module.side ++ le 1 (ownGeneration s) ++ identifier s ++ padTo 16 s.pair.peer ++ le 1 (bit (programRuns s)) ++ le 8 (activeFrom s) ++
    padTo 48 (settingsDigest s) ++ padTo 48 (runningDigest s)

/-- Event SLIPSTREAM_HELLO_SEND (R234): every 100 ms until a pair forms. -/
def execSlipstreamHelloSend (s : State) : Out :=
  if s.pair.enabled && !s.pair.present && s.pair.portsUp != 0 && slipLit s then .next (sendSlip 1 (helloBody s) s) else .next s

/-! ### Reports and acknowledgements (R247, R251, R265) -/

/-- Event HEALTH_REPORT_SEND (R242): every 100 ms. -/
def execHealthReportSend (s : State) : Out := .next (if slipLit s then sendStatus s else s)

/-- The digest of the image that the partner's report names by its first 8 bytes, where a slot holds that image (Table 7.11). -/
def reportedImage (report : Bytes) (s : State) : Bytes :=
  let named (d : Bytes) : Bool := !d.isEmpty && d.take 8 = Bytes.slice report 0x34 8
  ([(slotOf s s.prog.slot).digest, (slotOf s (1 - s.prog.slot)).digest].find? named).getD s.pair.partnerRunning

/-- Event STATUS (R265). A partner that reports itself Solo is no partner any more (R272). -/
def statusHeard (report : Bytes) (s : State) : Out :=
  if !s.pair.present then .next s
  else if Bytes.field report 6 1 = 0 then .next (partnerLost s)
  else .next (partnerReports (Bytes.field report 4 2) (modPair (fun p => { p with partnerReport := report, partnerRunning := reportedImage report s }) s))

def execSlipStatus (m : Arrived Bytes) (s : State) : Out := heard m.got (statusHeard m.body) s

/-- Event ACK (R247): the completion of a token is delivered; an ACK of a TAKE_END has issuer 0. -/
def ackHeard (issuer token reasons : Nat) (s : State) : Out :=
  if !s.pair.present then .next s
  else .next (partnerReports reasons (releaseAwaiting (fun h => h.issuer = issuer && h.token = token) s))
def execSlipAck (issuer token : Nat) (m : Arrived Nat) (s : State) : Out := heard m.got (ackHeard issuer token m.body) s

/-- The Standby's acknowledgement, with its reasons. -/
def acknowledge (issuer token : Nat) (s : State) : State := slipstream 5 (le 4 issuer ++ le 4 token ++ le 2 s.pair.reasons) s

/-- A completion of the Active enters the Standby's copy of the token tables. -/
def copyToken (issuer token : Nat) (completion : Bytes) (s : State) : State :=
  let result := completion.drop 32
  let c : Stored := ⟨token, Bytes.field completion 6 2, Bytes.field completion 16 2, Bytes.field completion 12 4,
    if result.length ≤ 1024 then result else [], result.length ≤ 1024⟩
  let t := tokenTable s issuer
  let newest := match t.newest with
    | some n => if (token + 2 ^ 32 - n) % 2 ^ 32 < 2 ^ 31 then token else n
    | none => token
  let t := { t with newest := some newest, discards := t.discards.filter (· != token) }
  setTable issuer (t.store c) s

/-- Event TOKEN (R247): the Standby's copy of the Active's token tables. -/
def tokenHeard (issuer token : Nat) (completion : Bytes) (s : State) : Out :=
  if s.pair.role != .standby then .next s else .next (acknowledge issuer token (copyToken issuer token completion s))
def execSlipToken (issuer token : Nat) (m : Arrived Bytes) (s : State) : Out := heard m.got (tokenHeard issuer token m.body) s

/-- A port has been without traffic for 100 µs: the module's own KEEPALIVE goes out on it, with its local time (R242; log entry 80). -/
def sendKeepalive (port : Nat) (s : State) : State :=
  let x := slipPort s port
  if s.pair.present && !x.sending && x.startAt.isNone && x.queue.isEmpty && x.lastAt + micro 100 ≤ s.time then
    sendSlipOn (2 ^ port) 8 (le 8 (toNs (localNow s))) s
  else s

/-- Event KEEPALIVE (R242, R248): exchanged on a port, it measures the link delay. One second after a port has come back, reason 4 ends, and a
resynchronisation follows. -/
def keepaliveHeard (port delay : Nat) (s : State) : Out :=
  if !hasBit s.pair.portsUp port then .next s
  else
    let s := sendKeepalive port s
    let s := modPair (fun p => { p with linkDelay := delay }) s
    match s.pair.lightAt with
    | some t =>
      if t + second 1 ≤ s.time then .next (setReason 4 false (setReason 0 true (modPair (fun p => { p with lightAt := none }) s))) else .next s
    | none => .next s

def execSlipKeepalive (port : Nat) (m : Arrived Nat) (s : State) : Out := heard m.got (keepaliveHeard port m.body) s

/-- Light on a Slipstream port comes or goes (R239, R251): without any port an Active is alone; a Standby goes on under the pair telegram. -/
def slipLink (port : Nat) (up : Bool) (s : State) : State :=
  let old := s.pair.portsUp
  let now := if up then old ||| 2 ^ port else old &&& (3 - 2 ^ port)
  let s := modPair (fun p => { p with portsUp := now, lightAt := if up && hasBit p.reasons 4 && p.lightAt.isNone then some s.time
                                                                  else if now = 0 then none else p.lightAt }) s
  let s := if up then s else modSlip port (fun _ => {}) s
  if now = 0 && s.pair.present && s.pair.role != .standby then partnerLost s else s

/-- Event SLIPSTREAM_FRAGMENT_DONE (R242): the next fragment starts, or one that the Squall latency has held. -/
def execSlipstreamFragmentDone (port : Nat) (s : State) : Out :=
  if 2 ≤ port then .next s
  else
    match (slipPort s port).startAt with
    | some t => .next (startFragment port (reach t s))
    | none => .next (serveSlip port (modSlip port (fun x => { x with sending := false, lastAt := s.time }) s))

/-! ### Takeover (R253 to R255) -/

/-- The takeover on a failure of the Active (R253, R254): a Standby that is not ready never takes over. -/
def takeOver (cause : Nat) (s : State) : State :=
  if s.pair.role != .standby || s.pair.reasons != 0 then s
  else
    modPair (fun p => { p with present := p.portsUp != 0, partnerReasons := 1 }) (activate cause (slipstream 2 (le 1 1) s))

/-- The schedule re-based on an instant of local time: cyclic tasks are due at their offsets after it. -/
def rebase (tLocal : Nat) (dueAt : TaskRec → Nat) (s : State) : State :=
  let timer := timerNow s + tLocal - localNow s
  let s := modProg (fun p => { p with tStartTimer := timer, tStart := timerInstant s timer }) s
  match runningImage s with
  | none => s
  | some i => modProg (fun p => { p with tasks := i.tasks.foldl (fun t r => Tbl.put t r.task
      { Tbl.get t r.task {} with due := if r.event then none else some (dueAt r), nextInstant := none }) p.tasks }) s

/-- A pending recut moves to the first hyperperiod boundary of the new schedule not before its switch instant. -/
def rebaseRecut (oldStart : Nat) (s : State) : State :=
  match pendingRecut s, runningImage s with
  | some r, some a =>
    let h := max 1 (hyperperiod a.tasks)
    let us := h * ((oldStart + r.switchUs * usUnit - s.prog.tStartTimer + h * usUnit - 1) / (h * usUnit))
    modProg (fun p => { p with recut := some { r with switchUs := us, guardUs := us - guardLength a, guarding := false } }) s
  | _, _ => s

/-- Cues whose trigger passed in the gap act now, but for frame launches, which end without action and are counted (R255). -/
def gapCues (s : State) : State :=
  ((s.pos.cues.filter fun c => c.2.state = .armed && c.2.passed).map Prod.fst).foldl (fun t n =>
    match cueBinding t n with
    | some b => if b.action = 1 then cueMissed n t else cueAction n b t
    | none => t) s

/-- Event TAKEOVER_INSTANT (R254, R255): T_to, the new T_start. -/
def execTakeoverInstant (s : State) : Out :=
  match s.pair.takeoverAt with
  | none => .next s
  | some t =>
    let s := modPair (fun p => { p with takeoverAt := none }) (reachLocal t s)
    let old := s.prog.tStartTimer
    let s := rebase t TaskRec.offset (modProg (fun p => { p with tStartLocal := t }) s)
    .next (gapCues (releaseEvents (rebaseRecut old s)).2)

/-! ### Handover (R257, R500) -/

/-- A lane of the partner is being rebuilt, by its last report (Tables 4.9 and 7.11). -/
def partnerReshoots (s : State) : Bool := (Bytes.slice s.pair.partnerReport 8 3).any fun b => 2 ≤ b.toNat && b.toNat ≤ 5

/-- In either module a lane is rebuilt, a recut is pending, or a resynchronisation runs: no handover falls here. -/
def handoverBarred (s : State) : Bool :=
  (Lane.all.any fun l => (laneOf s l).reshooting) || partnerReshoots s || (pendingRecut s).isSome || s.pair.resyncAt.isSome ||
    hasBit s.pair.partnerReasons 1

/-- T_h: the first hyperperiod boundary at least 100 ms ahead, in local ns. -/
def handoverTime (s : State) : Nat :=
  match runningImage s with
  | some i => if programRuns s then toNs (programLocal s (switchBoundary s i)) else toNs (localNow s) + 100000000
  | none => toNs (localNow s) + 100000000

/-- T_h is armed and forwarded. -/
def armHandover (s : State) : State :=
  let t := handoverTime s
  slipstream 2 (le 1 6 ++ le 8 t) (modPair (fun p => { p with handoverAt := some t }) s)

/-- Commands that the Standby role refuses. -/
def standbyRefuses (code : Nat) : Bool :=
  [0x0303, 0x0304, 0x0305, 0x0307, 0x0308, 0x0902, 0x0904, 0x0905, 0x0908, 0x0909, 0x090B, 0x090C, 0x090F, 0x0910, 0x0A02, 0x0A03, 0x0A04, 0x0A05, 0x0A07,
   0x0A08, 0x0A09, 0x0C02, 0x0C03, 0x0C04].contains code

/-- Accepted commands that have not committed and that the Standby role refuses complete; values that they had left waiting go. -/
def refuseCommands (s : State) : State :=
  let victims := s.mbx.queue.filter fun e => !e.committed && standbyRefuses e.code
  let s := victims.foldl (fun t e => completeEntry e.id stRefused [] t) s
  let kept (w : MvbWriteSt) : Bool := w.sent.isSome || (entryOf s w.entry).isSome
  modMvb (fun m => { m with ports := m.ports.map fun p => (p.1, { p.2 with write := p.2.write.filter kept }) }) s

/-- The Active's part at T_h, once every take in flight is decided: it is Standby, ready, and goes on with an update that waited for it. -/
def handOff (s : State) : State :=
  let waits := s.update.waitingSince.isSome
  let s := releaseAwaiting (fun _ => true) (refuseCommands (endDues (silence (clearTakes s))))
  let s := sendStatus (setRole .standby (modPair (fun p => { p with reasons := ownReasons s, partnerReasons := 0 }) s))
  if waits then beginActivation s else s

/-- The Active hands off when T_h has come and nothing is in flight. -/
def handoverStep (s : State) : State :=
  match s.pair.handoverAt with
  | some h => if s.pair.role = .active && h ≤ toNs (localNow s) && !inFlight s then handOff s else s
  | none => s

/-- The schedule at T_h goes on: T_h is a boundary of every cycle. -/
def dueAfterHandover (r : TaskRec) : Nat := r.offset % max 1 r.cycle

/-- The Standby's part at T_h: it is Active and activates from T_h on, without re-phasing. -/
def takeHandover (h : Nat) (s : State) : State :=
  let s := modPair (fun p => { p with handoverAt := none }) s
  if s.pair.reasons != 0 then s
  else
    let s := modPair (fun p => { p with superviseT0 := none, own := [], takeEnds := [], waitingSnapshots := [], partnerReasons := 0 }) (becomeActive 3 (testOff 6 s))
    (releaseEvents (if programRuns s then rebase (h * nsUnit) dueAfterHandover s else s)).2

/-- A handover is put off by a hyperperiod, when T_h falls in a reshoot, a recut or a resynchronisation. -/
def postponeHandover (h : Nat) (s : State) : State :=
  let step := match runningImage s with
    | some i => max 1 (hyperperiod i.tasks) * 1000
    | none => 100000000
  let s := modPair (fun p => { p with handoverAt := some (h + step) }) s
  if s.pair.role = .active then slipstream 2 (le 1 6 ++ le 8 (h + step)) s else s

/-- Event HANDOVER_INSTANT (R257): T_h. A partner that is no longer ready disarms it (R272). -/
def execHandoverInstant (s : State) : Out :=
  match s.pair.handoverAt with
  | none => .next s
  | some h =>
    let s := reachLocal (h * nsUnit) s
    if s.pair.role = .standby then .next (if s.pair.reasons = 0 && handoverBarred s then postponeHandover h s else takeHandover h s)
    else if !partnerReady s then .next (modPair (fun p => { p with handoverAt := none }) s)
    else if handoverBarred s then .next (postponeHandover h s)
    else .next (handoverStep s)

/-- Event UPDATE_PARTNER_WAIT_END (R500): the partner is ready and the handover is armed, or the wait of 3600 s ends. -/
def execUpdatePartnerWaitEnd (s : State) : Out :=
  match s.update.waitingSince with
  | none => .next s
  | some t =>
    if partnerReady s then .next (if s.pair.handoverAt.isSome then s else armHandover s)
    else .next (refuseActivation 0x0E15 (reach (t + second 3600) s))

/-- Event RESYNC_RETRY (R268): 1 s after a failed resynchronisation the Active starts a new one. -/
def execResyncRetry (s : State) : Out :=
  match s.pair.resyncRetry with
  | none => .next s
  | some t =>
    let s := modPair (fun p => { p with resyncRetry := none }) (reach t s)
    .next (if mayArm s resyncBars then armResync s else s)

/-! ### The PAIR commands (R271, R272) -/

/-- The task that is supervised, or the setting where no image tells. -/
def supervisedNow (s : State) : Nat := (((runningImage s).bind (supervisedTask s)).map TaskRec.task).getD s.pair.supervised

/-- Σ B_k / T_k in 0.1 bytes/µs. -/
def budgetUse (i : Image) (forces : Tbl Force) : Nat :=
  let l := i.tasks.foldl (fun l t => Nat.lcm l (max 1 t.period)) 1
  10 * (i.tasks.map fun t => copyBytes i forces t * (l / max 1 t.period)).sum / l

/-- 0 no resynchronisation, 1 running, 2 failed. -/
def resyncState (s : State) : Nat :=
  if s.pair.resyncAt.isSome || hasBit s.pair.reasons 1 then 1
  else if hasBit s.pair.reasons 10 || s.pair.role = .active && s.pair.present && hasBit s.pair.partnerReasons 10 then 2
  else 0

/-- PAIR_STATUS. -/
def cmdPairStatus : Command where
  issuers := anyOrLanes
  body := sized 0 fun _ s =>
    let p := s.pair
    let budget := match runningImage s with
      | some i => min 0xFFFF (budgetUse i s.prog.forces)
      | none => 0
    answers (le 1 p.role.code ++ le 1 s.module.side ++ le 1 (bit p.enabled) ++ le 1 (bit p.present) ++ le 1 (bit (!notReady s)) ++ le 2 p.reasons ++
      le 2 (if p.present then p.partnerReasons else 0) ++ le 1 (supervisedNow s) ++ le 1 p.holdMs ++ le 2 budget ++ le 1 p.portsUp ++ le 1 p.failure ++
      le 4 p.takeovers ++ le 8 p.lastTakeover ++ le 1 p.lastTakeoverCause ++ le 1 (resyncState s) ++ padTo 16 p.peer) s

/-- PAIR_HEALTH. -/
def cmdPairHealth : Command where
  issuers := anyOrLanes
  body := sized 1 fun e s =>
    match e.field 0 1 with
    | 0 => answers (healthReport s) s
    | 1 => if s.pair.present then answers (padTo 64 s.pair.partnerReport) s else fails 0x0510 s
    | _ => fails stBadArgument s

/-- PAIR_CONFIGURE: enable 0 makes a Standby Solo at once, and an Active when it has no partner. -/
def cmdPairConfigure : Command where
  issuers := roleOnly maintainer
  body := sized 32 fun e s =>
    let enable := e.field 0 1
    let task := e.field 17 1
    let hold := e.field 18 1
    if 1 < enable || (16 ≤ task && task != 0xFF) || hold < 10 || 60 < hold || !e.clear [(29, 3)] then fails stBadArgument s
    else if programRuns s then fails stRefused s
    else
      let old := s.pair.enabled
      let s := modPair (fun p => { p with enabled := enable = 1, peer := e.slice 1 16, supervised := task, holdMs := hold, ipv4 := e.slice 19 4
                                          mac := e.slice 23 6 }) s
      let leaves : Bool := enable = 0 && (s.pair.role = .standby || s.pair.role = .active && !s.pair.present)
      let s := if leaves then
          let s := setRole .solo (modPair (fun p => { p with reasons := 0 }) (endResync (clearTakes s)))
          modPair (fun p => { p with present := false }) (sendStatus s)
        else s
      answers (le 1 (bit old)) s

/-- PAIR_SWITCHOVER. -/
def cmdPairSwitchover : Command where
  issuers := roleOnly (operator + maintainer)
  body := sized 0 fun _ s =>
    if !s.pair.enabled then fails 0x0510 s
    else if s.pair.role != .active || (pendingRecut s).isSome then fails stRefused s
    else if !s.pair.present then fails 0x0510 s
    else if !partnerReady s then fails 0x0511 s
    else if s.pair.partnerGeneration != ownGeneration s then fails 0x0513 s
    else
      let s := armHandover s
      (s, .done stAccepted (taiBytes ((s.pair.handoverAt.getD 0) * nsUnit)))

/-- Lock-out in either module. -/
def lockoutInPair (s : State) : Bool := s.module.state = .lockout || Bytes.field s.pair.partnerReport 7 1 = 5

/-- PAIR_RESYNC: it completes when R_s is fixed. -/
def cmdPairResync : Command where
  issuers := roleOnly maintainer
  body := sized 0 fun e s =>
    if !s.pair.enabled || !s.pair.present then fails 0x0510 s
    else if lockoutInPair s then fails stRefused s
    else
      let s := modPair (fun p => { p with resyncWaiters := p.resyncWaiters ++ [e.id], resyncFailures := 0 }) s
      let s := if s.pair.role = .standby then setReason 10 false (setReason 6 false (setReason 0 true s)) else s
      (if mayArm s commandBars then armResync s else s, .goesOn .under false)

/-- The margin of one task in the hold fit, µs. -/
def holdMargin (s : State) (p t : TaskRec) : Int :=
  1000 * (s.pair.holdMs : Int) - ((t.period + 2 * t.deadline + t.offset + 2 * p.cycle + p.deadline + 800 : Nat) : Int)

/-- The tasks that the hold fit looks at. -/
def heldTasks (i : Image) (p : TaskRec) : List TaskRec := i.tasks.filter fun t => t.task = p.task || (taskOutputs i t).any fun b => b.kind = 2

/-- Supervision margin, hold margin and the first failing task of an image; without a supervised cyclic task the margins are free values
(log entry 81). -/
def budgetMargins (s : State) (digest : Bytes) (i : Image) : Int × Int × Nat :=
  match (supervisedTask s i).filter fun p => !p.event with
  | none => (Config.unstatedMargin (leNat digest) 0, Config.unstatedMargin (leNat digest) 1, ((supervisedTask s i).map TaskRec.task).getD 0xFF)
  | some p =>
    let margin : Int := 9400 - ((p.offset + p.deadline : Nat) : Int)
    let least := (heldTasks i p).foldl (fun m t => min m (holdMargin s p t)) (holdMargin s p p)
    let failing := if margin < 0 then p.task else (((heldTasks i p).find? fun t => holdMargin s p t < 0).map TaskRec.task).getD 0xFF
    (margin, least, failing)

/-- PAIR_BUDGET. -/
def cmdPairBudget : Command where
  issuers := { session := true }
  body := sized 1 fun e s =>
    if 1 < e.field 0 1 then fails stBadArgument s
    else
      let x := slotOf s (e.field 0 1)
      match x.image with
      | none => fails 0x0317 s
      | some i =>
        let m := budgetMargins s x.digest i
        answers (le 1 i.tasks.length ++ i.tasks.flatMap (fun t => le 1 t.task ++ le 4 (copyBytes i s.prog.forces t) ++ le 4 t.period) ++
          le 2 (min 0xFFFF (budgetUse i s.prog.forces)) ++ leInt 4 m.1 ++ leInt 4 m.2.1 ++ le 1 m.2.2) s

/-- PAIR_COUNTERS. -/
def cmdPairCounters : Command where
  issuers := anyOrLanes
  body := sized 0 fun _ s =>
    let p := s.pair
    answers (le 8 p.compared ++ [p.divergences, p.mismatches, p.failedWrites, p.resyncStarted, p.resyncCompleted, p.resyncFailedCount, p.takeovers, p.lost0,
      p.lost1].flatMap (le 4) ++ le 8 p.duplicates ++ le 4 p.tagFailures) s

end Sys2Proof.Machine
end

