-- ==== Sys2Proof/Machine/Standby.lean ====
section
/-! DEFINITION. The Standby: forwarded takes, their comparison with the Active's decisions, supervision, and resynchronisation
(chapter 7). -/

namespace Sys2Proof.Machine

/-! ### Following the Active's program (R252) -/

/-- The slot that holds an image translated. -/
def holderSlot (s : State) (digest : Bytes) : Option Nat :=
  [s.prog.slot, 1 - s.prog.slot].find? fun n => (translatedImage s n).isSome && (slotOf s n).digest = digest

/-- The Standby starts the Active's program as the Active has started it; it activates nothing by itself. -/
def mirrorStart (kind : Nat) (tNs : Nat) (digest : Bytes) (s : State) : State :=
  let s := modPair (fun p => { p with partnerRunning := digest, partnerStart := tNs }) s
  match holderSlot s digest with
  | none => setReason 2 true (failMirror s)
  | some n =>
    let s := endDues (startProgram kind n (tNs * nsUnit) (clearTakes s))
    if s.prog.kindPerformed = kind then s else setReason 0 true s

/-- The program that the Active runs is joined in a resynchronisation, if the Standby does not run it yet. -/
def joinProgram (s : State) : State :=
  let p := s.pair
  if programRuns s && runningDigest s = p.partnerRunning then s
  else if (holderSlot s p.partnerRunning).isSome then mirrorStart 0 p.partnerStart p.partnerRunning s
  else s

/-- A recut instant forwarded (R224), the first one or a later one: the new image stands in the other slot. -/
def mirrorRecut (sNs : Nat) (s : State) : State :=
  if sNs = 0 then
    if (pendingRecut s).isSome then modProg (fun p => { p with recut := none, state := .running }) s else s
  else
    let slot := 1 - s.prog.slot
    match runningImage s, translatedImage s slot with
    | some a, some _ =>
      if !programRuns s then failMirror s
      else
        let ahead := timerNow s + sNs * nsUnit - localNow s - s.prog.tStartTimer
        let us := (ahead + usUnit / 2) / usUnit
        let s := modProg (fun p => { p with state := .recutPending, recut := some { slot := slot, switchUs := us, guardUs := us - guardLength a } }) s
        (releaseEvents (writeDirectory slot s)).2
    | _, _ => failMirror s

/-- The force table forwarded (R252): entries that the running image cannot take are a change that cannot be applied. -/
def mirrorForces (l : List Bytes) (s : State) : State :=
  let fs := l.map parseForce
  let known (f : Force) : Bool := (runningImage s).any fun i => (i.byIdentity f.identity).isSome
  if !fs.all known then failMirror s
  else
    let same (a b : Force) : Bool := a.identity = b.identity && a.first = b.first
    let s := dropForces (fun f => !fs.any fun g => same f g) s
    let old := s.prog.forces.map Prod.snd
    let table := (List.range fs.length).zip fs
    let s := modProg (fun p => { p with forces := table }) s
    table.foldl (fun t e =>
      if old.contains e.2 then t
      else recordForce e.1 e.2 (((old.find? fun f => same f e.2).map Force.value).getD []) e.2.value t) s

/-- An image received by RESYNC (R252, R267): verified through Slate and translated into the slot that does not run. -/
def receiveImage (object : Bytes) (s : State) : State :=
  let slot := 1 - s.prog.slot
  match verifyObject s 0x10 object with
  | some _ => failMirror s
  | none =>
    if (holderSlot s (objectDigest object)).isSome then tellHeld (objectDigest object) s
    else
      let s := noteInterval object (modSlot slot (fun _ =>
        { state := 1, load := some (objectGeneration object, objectBody object), digest := objectDigest object, version := objectVersion object,
          signer := objectSigner object, object := object }) s)
      nextCut (modPair (fun p => { p with cutWaits := true }) s)

/-! ### Alignment (R248) -/

/-- Local time of a snapshot. -/
def snapshotLocal (b : Bytes) : Nat := ofTai (Bytes.field b 0x18 8) (Bytes.field b 0x20 4) + Bytes.field b 0x24 4

/-- Δ at a forwarded snapshot; a jump larger than both half-widths, or a position of its own that is Invalid, is reason 7. -/
def alignPosition (b : Bytes) (s : State) : State :=
  match s.pos.history.find? fun h => h.boundary + 20000 * nsUnit ≤ snapshotLocal b with
  | none => setReason 7 true s
  | some h =>
    let delta := Bytes.fieldInt b 0x28 8 - h.counter
    let jump := (delta - s.pair.delta).natAbs
    let bad : Bool := h.state = .invalid || !s.pair.forwarded.isEmpty && h.confidence + Bytes.field b 0x34 4 < jump
    let s := modPair (fun p => { p with delta := delta }) s
    if bad then setReason 7 true s else s

/-- The time difference at a forwarded snapshot: above 50 µs with both clocks Locked it is reason 8, which clears after 10 s below it. -/
def alignTime (b : Bytes) (s : State) : State :=
  let diff : Int := (toNs (localNow s) : Int) - (toNs (snapshotLocal b) : Int) - (s.pair.linkDelay : Int)
  let s := modPair (fun p => { p with timeDifference := diff }) s
  if 50000 < diff.natAbs then
    let s := modPair (fun p => { p with timeGoodSince := none }) s
    if s.clock.state = .locked && Bytes.field b 0x38 1 = 1 then setReason 8 true s else s
  else
    let since := s.pair.timeGoodSince.getD s.time
    let s := modPair (fun p => { p with timeGoodSince := some since }) s
    if since + second 10 ≤ s.time then setReason 8 false s else s

/-! ### Forwarded takes (R245, R246, R339) -/

/-- Completions of a SNAPSHOT message enter the channels of the Standby's lanes as they did on the Active. -/
def enterForwarded (task : Nat) (l : List (Nat × Bytes)) (s : State) : State :=
  let c := l.map fun p => (⟨p.1, Bytes.field p.2 8 4, p.2, 0⟩ : ChannelCompletion)
  (enterCompletions (executing s task) task (modMbx (fun m => { m with completions := m.completions ++ c }) s)).2

/-- A forwarded take is activated at the snapshot's t0 as the Active's activation instant, and its lanes start from the message's arrival. -/
def openForwarded (m : PairSnapshot) (s : State) : State :=
  match runningTask s m.task with
  | none => s
  | some r =>
    if !programRuns s || hasBit s.pair.reasons 2 then s
    else
      let take := Bytes.field m.snapshot 8 8
      let t0 := min s.time (instantOf s.clock (snapshotLocal m.snapshot))
      let s := reshootAtActivation r.task (rejoinAt s)
      let s := if r.event then (deliverActivations r t0 s).2 else s
      let s := enterForwarded r.task m.completions s
      let s := modTask r.task (fun x => { x with takes := max x.takes take, lastInstant := some t0, firstFlag := 0, cueHeld := false }) s
      let s := openTake ⟨r, t0, take, Bytes.field m.snapshot 0x10 4, m.snapshot, m.forces.flatten, s.time⟩ s
      if s.pair.superviseT0.isNone && supervisedNow s = r.task then modPair (fun p => { p with superviseT0 := some t0 }) s else s

/-- A task that owns cues waits for the TAKE_END of its previous forwarded take. -/
def waitsForEnd (m : PairSnapshot) (previous : Option Nat) (s : State) : Bool :=
  !(taskCues s m.task).isEmpty && previous = some (Bytes.field m.snapshot 8 8 - 1) && Tbl.find s.pair.takeEnded m.task != previous

/-- Take number and epoch of a forwarded snapshot. -/
def snapshotTake (m : PairSnapshot) : Nat := Bytes.field m.snapshot 8 8
def snapshotEpoch (m : PairSnapshot) : Nat := Bytes.field m.snapshot 0x10 4

/-- What the receipt of a snapshot leaves: its alignment, the greater epoch (R246), and the take numbers from which a takeover goes on (R254). -/
def noteSnapshot (m : PairSnapshot) (s : State) : State :=
  let s := alignTime m.snapshot (alignPosition m.snapshot s)
  let s := modMbx (fun b => { b with epoch := max b.epoch (snapshotEpoch m), storedEpoch := max b.storedEpoch (snapshotEpoch m) }) s
  let s := if programRuns s then modTask m.task (fun x => { x with takes := max x.takes (snapshotTake m) }) s else s
  modPair (fun p => { p with forwarded := Tbl.put p.forwarded m.task (snapshotTake m) }) s

/-- Event SNAPSHOT (R245); a take whose message is not whole is not executed, which its TAKE_END then finds (Table 7.6). -/
def execSlipSnapshot (x : Arrived PairSnapshot) (s : State) : Out :=
  let m := x.body
  let s := countArrival x.got s
  if s.pair.role != .standby || !wholeArrival x.got then .next s
  else
    let previous := Tbl.find s.pair.forwarded m.task
    let s := noteSnapshot m s
    if waitsForEnd m previous s then .next (modPair (fun p => { p with waitingSnapshots := p.waitingSnapshots ++ [m] }) s)
    else .next (openForwarded m s)

/-- Snapshots of a task that have waited start. -/
def releaseWaiting (task : Nat) (s : State) : State :=
  let go := s.pair.waitingSnapshots.filter fun m => m.task = task
  go.foldl (fun t m => openForwarded m t) (modPair (fun p => { p with waitingSnapshots := p.waitingSnapshots.filter fun m => m.task != task }) s)

/-- Every snapshot that has waited starts: the TAKE_ENDs are found missing (Table 7.6). -/
def releaseEvery (s : State) : State := (s.pair.waitingSnapshots.map PairSnapshot.task).foldl (fun t n => releaseWaiting n t) s

/-! ### Comparison (R249, R250, R259) -/

/-- A take is compared while the checkpoint stands, or in the probation of a resynchronisation. -/
def comparable (s : State) (task : Nat) : Bool := s.pair.reasons &&& 7 = 0 || Tbl.has s.pair.resyncExports task

/-- What a ready Standby sets at a tracked take: each safe output of the task follows both decisions. -/
def trackOutputs (task both : Nat) (s : State) : State :=
  let driven := (List.range 8).filter fun i => (outputDriver s i).any fun r => r.task = task
  let lanes := runMask s
  let s := driven.foldl (fun t i => modOutput i (fun o =>
    let v := if hasBit both i then lanes else 0
    { o with commanded := v, releasedAt := some t.time, timedOut := false
             offSince := if v != 0 then none else if o.commanded = 0 then o.offSince else some t.time }) t) s
  if driven.isEmpty then s else evaluateGates s

/-- Values of a checkpoint enter the mirror and the retentive image. -/
def acceptCheckpoint (task : Nat) (l : List (Nat × Bytes)) (s : State) : State :=
  let retentive (id : Nat) : Bool := (runningImage s).any fun i => (i.byIdentity id).any fun p => p.2.retentive
  let s := l.foldl (fun t e =>
    let t := modPair (fun p => { p with mirror := setById p.mirror e.1 e.2 }) t
    if retentive e.1 then modProg (fun p => { p with retentive := setById p.retentive e.1 e.2 }) t else t) s
  modPair (fun p => { p with checkpoints := Tbl.put p.checkpoints task l, checkpointAt := s.time }) s

/-- Every cyclic task has passed its probation and every event task is imported: the Standby is ready again (Table 7.12). -/
def resyncDone (s : State) : State :=
  match runningImage s with
  | none => s
  | some i =>
    let p := s.pair
    if p.resyncAt.isSome && i.tasks.all fun r => p.resyncPassed.contains r.task || r.event && Tbl.has p.resyncExports r.task then
      let s := modPair (fun p => { p with resyncCompleted := p.resyncCompleted + 1, resyncFailures := 0 }) s
      endResync (setReason 7 false (setReason 3 false (setReason 2 false (setReason 0 false s))))
    else s

/-- A task's probation has passed. -/
def resyncPass (task : Nat) (s : State) : State :=
  if Tbl.has s.pair.resyncExports task && !s.pair.resyncPassed.contains task then
    resyncDone (modPair (fun p => { p with resyncPassed := p.resyncPassed ++ [task] }) s)
  else s

/-- A take whose decisions agree is tracked. -/
def trackTake (d : OwnDecision) (e : PairTakeEnd) (s : State) : State :=
  let s := acceptCheckpoint e.task e.checkpoint (modPair (fun p => { p with compared := p.compared + 1 }) s)
  let s := if s.pair.reasons = 0 then trackOutputs e.task (d.safeOutputs &&& e.safeOutputs) s else s
  resyncPass e.task s

/-- One hour. -/
def hour : Nat := second 3600

/-- A different signature with an Active that is not worse: reason 0, and reason 6 at the third within an hour. -/
def diverge (s : State) : State :=
  let recent := (s.pair.divergedAt.filter fun t => s.time < t + hour) ++ [s.time]
  let s := modPair (fun p => { p with divergences := p.divergences + 1, divergedAt := recent }) s
  setReason (if 3 ≤ recent.length then 6 else 0) true s

/-- The Active's Lock-out (Table 7.6): takeover if ready, otherwise safe outputs off and a record. -/
def activeLockedOut (s : State) : State :=
  if s.pair.role != .standby then s
  else if s.pair.reasons = 0 then takeOver 1 s
  else recordPair 3 [] (allOutputsOff s)

/-- Table 7.6, with both decisions present. -/
def compareTake (d : OwnDecision) (e : PairTakeEnd) (s : State) : State :=
  if e.decision = 2 then activeLockedOut s
  else if !comparable s e.task || d.decision = 2 then s
  else if d.signature != e.signature then
    if Tbl.has s.pair.resyncExports e.task && s.pair.resyncAt.isSome then resyncFails s
    else if e.health < healthValue s && s.pair.reasons = 0 then takeOver 2 s
    else diverge s
  else if d.checkpointCrc != e.checkpointCrc then failMirror (modPair (fun p => { p with mismatches := p.mismatches + 1 }) s)
  else trackTake d e s

/-- The Standby's own decision on a forwarded take: compared with a TAKE_END that has arrived, or kept for it. -/
def ownDecided (d : OwnDecision) (s : State) : State :=
  if s.pair.role != .standby then s
  else
    match s.pair.takeEnds.find? fun e => e.task = d.task && e.take = d.take with
    | some e => compareTake d e (modPair (fun p => { p with takeEnds := p.takeEnds.filter fun x => x.task != e.task }) s)
    | none => modPair (fun p => { p with own := (p.own.filter fun x => x.task != d.task) ++ [d] }) s

/-- A take of which no whole SNAPSHOT has come. -/
def notExecuted (e : PairTakeEnd) (s : State) : Bool := comparable s e.task && (Tbl.find s.pair.forwarded e.task).all fun n => n < e.take

/-- A TAKE_END meets the own decision, or waits for it; of a take that was not executed it is a failed mirror write (Table 7.6). -/
def endDecided (e : PairTakeEnd) (s : State) : State :=
  match s.pair.own.find? fun d => d.task = e.task && d.take = e.take with
  | some d => compareTake d e (modPair (fun p => { p with own := p.own.filter fun x => x.task != e.task }) s)
  | none =>
    if e.decision = 2 then activeLockedOut s
    else if notExecuted e s then failMirror s
    else modPair (fun p => { p with takeEnds := (p.takeEnds.filter fun x => x.task != e.task) ++ [e] }) s

/-! ### Supervision (R253) -/

/-- The supervised task. -/
def supervisedRec (s : State) : Option TaskRec := (runningImage s).bind (supervisedTask s)

/-- Supervision goes on with the next take of the supervised task after one activated at an instant. -/
def superviseNext (t0 : Nat) (s : State) : State :=
  match supervisedRec s with
  | some r => modPair (fun p => { p with superviseT0 := some (t0 + micro r.cycle), telegramSeen := false }) s
  | none => s

/-- Slipstream is lost on both ports while the pair telegram arrives: reason 4. -/
def slipstreamLost (s : State) : State :=
  setReason 4 true (modPair (fun p => { p with misses := 0, lightAt := if p.portsUp = 0 then none else some s.time }) s)

/-- Event SUPERVISED_TAKE_MISSED (R253): at t0 + D_sup + 200 µs. -/
def execSupervisedTakeMissed (s : State) : Out :=
  match s.pair.role, s.pair.superviseT0, supervisedRec s with
  | .standby, some t0, some r =>
    let seen := s.pair.telegramSeen
    let s := superviseNext t0 (reach (t0 + micro (r.deadline + 200)) s)
    if seen then .next (releaseEvery (slipstreamLost s))
    else
      let s := releaseEvery (modPair (fun p => { p with misses := p.misses + 1 }) s)
      .next (if 2 ≤ s.pair.misses then takeOver 0 s else s)
  | _, _, _ => .next s

/-- Event PAIR_TELEGRAM (R253): the Active lives. Where the TAKE_END of the same or of the previous take is missing on both ports, reason 4. -/
def execPairTelegram (task take : Nat) (s : State) : Out :=
  if s.pair.role != .standby || supervisedNow s != task || Tbl.find s.pair.takeEnded task = some take then .next s
  else
    let dark : Bool := s.pair.portsUp = 0
    let s := modPair (fun p => { p with misses := 0 }) s
    let s := if dark || s.pair.telegramSeen then
        let s := slipstreamLost s
        match s.pair.superviseT0 with
        | some t0 => superviseNext t0 s
        | none => s
      else s
    .next (if dark then s else modPair (fun p => { p with telegramSeen := true }) s)

/-! ### TAKE_END (R249, R339) -/

/-- A cue state of Table 9.9. -/
def cueStateOf : Nat → CueState
  | 0 => .idle | 1 => .armed | 2 => .fired | 3 => .missed | _ => .disabled

/-- State and firings of the Active's cues. -/
def mirrorCues (task : Nat) (l : List (Nat × Nat × Nat)) (s : State) : State :=
  let one (x : Cue) (code firings : Nat) : Cue := { x with state := cueStateOf code, firings := firings, passed := x.passed && code = 1 }
  let s := l.foldl (fun t c => modCue c.1 (fun x => one x c.2.1 c.2.2) t) s
  modPos (fun p => { p with areas := Tbl.put p.areas task l }) s

/-- What a TAKE_END reports besides its decision: counters, cues, and that the supervised take was made. -/
def noteEnd (e : PairTakeEnd) (s : State) : State :=
  let s := modPair (fun p => { p with flowCounters := e.flows.foldl (fun t f => Tbl.put t f.1 (f.2.1, f.2.2)) p.flowCounters
                                      takeEnded := Tbl.put p.takeEnded e.task e.take }) s
  let s := mirrorCues e.task e.cues s
  if supervisedNow s = e.task then
    let t0 := if Tbl.find s.pair.forwarded e.task = some e.take then (taskRun s e.task).lastInstant else s.pair.superviseT0
    modPair (fun p => { p with misses := 0 }) (match t0 with
      | some t => superviseNext t s
      | none => s)
  else s

/-- Event TAKE_END (R249); one that is not whole is a failed mirror write (R266). -/
def execSlipTakeEnd (x : Arrived PairTakeEnd) (s : State) : Out :=
  let e := x.body
  let s := countArrival x.got s
  if s.pair.role != .standby then .next s
  else
    let s := acknowledge 0 e.take s
    .next (releaseWaiting e.task (if wholeArrival x.got then endDecided e (noteEnd e s) else failMirror s))

/-! ### Import (Table 7.12) -/

/-- The task's takes in flight end: its state is replaced. -/
def dropTakes (task : Nat) (s : State) : State :=
  let s := Lane.all.foldl (fun s l => ((laneOf s l).takes.filter fun t => t.task = task).foldl (fun s t => abandonTake l t s) s) s
  modVoter (fun v => { v with takes := v.takes.filter fun t => t.task != task }) s

/-- A task's export imported into every voting lane, each of which re-exports it. -/
def importState (task : Nat) (records : Bytes) (crc : Word64) (s : State) : State :=
  let s := joinProgram s
  match programRuns s, (runningImage s).bind fun i => (taskRec i task).map fun r => (i, r) with
  | true, some (i, r) =>
    if crc64 records != crc.toNat || runningDigest s != s.pair.partnerRunning then resyncFails s
    else
      let s := dropTakes task s
      let lanes := Lane.all.filter fun l => (laneOf s l).state = .voting
      let s := lanes.foldl (fun t l => modLane l (importRecords i r t.time (parseRecords i records.length records)) t) s
      if lanes.all fun l => crc64 (exportBytes i r (laneOf s l)) = crc.toNat then
        resyncDone (modPair (fun p => { p with resyncExports := Tbl.put p.resyncExports task records }) s)
      else resyncFails s
  | _, _ => resyncFails s

/-- The exported state of the partner: imported in a resynchronisation, or kept for the warm start of a stopped Active (R216). -/
def stateReceived (task : Nat) (records : Bytes) (crc : Word64) (s : State) : State :=
  if s.pair.role = .standby then (if s.pair.resyncAt.isSome then importState task records crc s else s)
  else if !programRuns s && crc64 records = crc.toNat then
    modPair (fun p => { p with resyncExports := Tbl.put p.resyncExports task records }) s
  else s

/-! ### Export on the Active (Table 7.12) -/

/-- The partner holds the running image translated, in either slot. -/
def partnerHasImage (s : State) : Bool :=
  let d := runningDigest s
  s.pair.partnerRunning = d || s.pair.partnerImage = d || (Bytes.slice s.pair.partnerReport 0x34 8 = d.take 8 && !d.isEmpty)

/-- A task's state is exported by every voting lane, compared, and transferred; exports that differ are repeated after the next take. -/
def exportTask (i : Image) (r : TaskRec) (s : State) : State :=
  let l := (Lane.all.filter fun l => (laneOf s l).state = .voting).map fun l => exportBytes i r (laneOf s l)
  match l with
  | [] => s
  | b :: rest =>
    if rest.all fun x => crc64 x = crc64 b then
      modPair (fun p => { p with resyncPassed := p.resyncPassed ++ [r.task] }) (slipstream 9 (le 1 2 ++ le 1 r.task ++ le 4 b.length ++ b ++ le 8 (crc64 b)) s)
    else s

/-- A resynchronisation runs on the Active, and a task has still to be exported. -/
def exportDue (s : State) (task : Nat) : Bool :=
  s.pair.role = .active && s.pair.present && s.pair.resyncAt.isSome && partnerHasImage s && !s.pair.resyncPassed.contains task

/-- A take of a task has been voted on the Active: its state is exported when the take was activated at or after R_s. -/
def resyncAtVote (task t0 : Nat) (s : State) : State :=
  match runningImage s, s.pair.resyncAt with
  | some i, some rs => match taskRec i task with
    | some r => if exportDue s task && rs ≤ toNs (clockAt s.clock t0) then exportTask i r s else s
    | none => s
  | _, _ => s

/-- Event tasks that are idle are exported at once. -/
def exportIdle (s : State) : State :=
  match runningImage s with
  | none => s
  | some i => (i.tasks.filter TaskRec.event).foldl (fun t r => if exportDue t r.task && taskIdle t r.task then exportTask i r t else t) s

/-- What the configuration of a resynchronisation carries (log entry 80). -/
def configurationBody (s : State) : Bytes :=
  let settings := pairSettings s
  let forces := s.prog.forces.flatMap fun f => f.2.bytes
  let tokens := s.mbx.tables.flatMap fun t => t.2.stored.flatMap fun c =>
    le 4 t.1 ++ le 4 c.token ++ completionBytes 1 0 c.code c.token c.epoch c.status t.1 c.result
  le 1 0 ++ le 8 (toNs s.prog.tStartLocal) ++ le 4 settings.length ++ settings ++ le 4 forces.length ++ forces ++ tokens

/-- Event RESYNC_START (R267): at R_s the Active sends its configuration and, when the digest differs, its running image. -/
def execResyncStart (s : State) : Out :=
  match s.pair.role, s.pair.resyncAt with
  | .active, some rs =>
    if s.pair.resyncSent then .next s
    else
      let s := modPair (fun p => { p with resyncSent := true }) (reachLocal (rs * nsUnit) s)
      let s := slipstream 9 (configurationBody s) s
      let s := if partnerHasImage s then s else slipstream 9 (le 1 1 ++ (slotOf s s.prog.slot).object) s
      .next (exportIdle s)
  | _, _ => .next s

/-! ### CONTROL (R252, R253, R256, R257, R267, R501) -/

/-- R_s of a resynchronisation that the Active has armed. -/
def resyncArmed (rs : Nat) (s : State) : State :=
  if s.pair.role != .standby then s
  else
    let s := modPair (fun p => { p with resyncAt := some rs, resyncExports := [], resyncPassed := [], resyncRetry := none, resyncStarted := p.resyncStarted + 1
                                        resyncFailures := if hasBit p.reasons 10 then 0 else p.resyncFailures }) s
    let s := setReason 10 false (setReason 6 false (setReason 1 true s))
    answerResync stAccepted s

/-- A change that the Active forwards to a Standby. -/
def asStandby (f : State → State) (s : State) : State := if s.pair.role = .standby then f s else s

/-- Every CONTROL message but a settings change. -/
def applyControl (m : PairControl) (s : State) : State :=
  match m with
  | .lockoutNotice => activeLockedOut s
  | .takeoverNotice =>
    if s.pair.role = .active then modPair (fun p => { p with partnerRunning := runningDigest s }) (stepDown s) else s
  | .start warm tStart digest => asStandby (mirrorStart (bit warm) tStart digest) s
  | .stop => asStandby (fun s => if programRuns s && s.prog.stopping.isNone then beginStop none (endResync s) else s) s
  | .recut t => asStandby (mirrorRecut t) s
  | .handover th => asStandby (modPair fun p => { p with handoverAt := some th }) s
  | .settings _ _ => s
  | .forces table => asStandby (mirrorForces table) s
  | .resyncArmed rs => resyncArmed rs s
  | .updateSchedule digest ta => modPair (fun p => { p with partnerPackage := digest, partnerSchedule := ta }) s
  | .updateGates passed => bothGates (modPair (fun p => { p with partnerGates := some passed }) s)
  | .imageHeld digest =>
    let s := modPair (fun p => { p with partnerImage := digest }) s
    if s.pair.resyncSent then exportIdle s else s

end Sys2Proof.Machine
end

