-- ==== Sys2Proof/Machine/Window.lean ====
section
/-! DEFINITION. The lane-visible control window: the mailbox, activation, short-time and Squall blocks (Tables 3.5, 13.5, 14.5 and 17.10), the
start of a take in a lane, and the runtime's handling of completions. -/

namespace Sys2Proof.Machine

/-! ### Reading registers -/

/-- A register value as a word. -/
def word (n : Nat) : Word32 := BitVec.ofNat 32 n

/-- A 4-byte field of a buffer. -/
def wordAt (b : Bytes) (o : Nat) : Word32 := word (Bytes.field b o 4)

/-- MBX_CHk_STATE (Table 3.8). -/
def LaneChannel.state (c : LaneChannel) : Nat :=
  (4 - c.credits.length) + 16 * bit c.doorbell.isSome + 256 * c.ready.length + 2 ^ 16 * bit c.hdrErr + 2 ^ 17 * bit c.overrun + 2 ^ 18 * bit c.noCredit

/-- MBX_CHk_OWNER (Table 3.5). -/
def ownerRegister (s : State) (k : Nat) : Nat := match channelOwner s k with
  | some t => 256 + t
  | none => 0

/-- The mailbox block but for its RC registers, which read 0 here (Table 3.5). -/
def mailboxRegister (l : Lane) (o : Nat) (s : State) : Word32 :=
  let w := s.mbx.lanes.get l
  if o = 0 then 0x01104D42
  else if o = 4 then word l.num
  else if o = 8 then word s.mbx.epoch
  else if o = 0xC then word (acceptanceWindow s)
  else if 0x100 ≤ o && o < 0x200 then
    let k := (o - 0x100) / 16
    if o % 16 = 4 then word (w.channel k).state else if o % 16 = 0xC then word (ownerRegister s k) else 0
  else if o = 0x200 then word w.shadowCh
  else if o = 0x204 then word w.shadowToken
  else if 0x1000 ≤ o && o < 0x1200 then wordAt w.shadowBuffer (o - 0x1000)
  else if 0x4000 ≤ o && o < 0x8000 then wordAt (w.channel ((o - 0x4000) / 0x400)).request (o % 0x400)
  else if 0x8000 ≤ o then wordAt ((w.channel ((o - 0x8000) / 0x800)).slot (o / 0x200 % 4)).bytes (o % 0x200)
  else 0

/-- ACT_STATUS (Table 14.8). -/
def actStatus (l : Lane) (s : State) : Nat :=
  let x := laneOf s l
  bit (activationsHeld s) + 2 * bit (x.actReady != 0 && x.actDefer) + 4 * bit x.actThrough

/-- The activation block but for ACT_TAKE (Table 14.5). -/
def activationRegister (l : Lane) (o : Nat) (s : State) : Word32 :=
  match o with
  | 0 => 0x01104143
  | 4 => word (laneOf s l).actReady
  | 0xC => word (bit (laneOf s l).actDefer)
  | 0x10 => word (actStatus l s)
  | _ => 0

/-- The step sum as 64 bits. -/
def stepSum64 (s : State) : Nat := ofSigned 64 s.clock.stepSum

/-- The short-time block (Table 13.5). -/
def timeRegister (l : Lane) (o : Nat) (s : State) : Word32 :=
  match o with
  | 0 => 0x0100544D
  | 4 => word (toNs (localNow s))
  | 8 => word s.clock.state.code
  | 0xC => word s.clock.stepCount
  | 0x10 => word (stepSum64 s)
  | 0x14 => (laneOf s l).stepSumHigh
  | _ => 0

/-- The Squall block (Table 17.10). -/
def squallRegister (o : Nat) (s : State) : Word32 :=
  match o with
  | 0 => 0x01055351
  | 4 => word (squallGate s)
  | 8 => s.test.mbxDelay
  | 0xC => s.test.bpPorts
  | 0x10 => s.test.backpressure
  | 0x14 => s.test.jitter
  | 0x18 => s.test.slipLatency
  | 0x1C => s.test.corrupt
  | 0x20 => s.test.seed
  | _ => 0

/-- What a register of a lane's window reads, without the effect of a read of an RC register; other offsets read 0. Registers are accessed as
whole words. -/
def readRegister (l : Lane) (offset : Nat) (s : State) : Word32 :=
  if offset % 4 != 0 then 0
  else match offset / 0x10000 with
    | 0 => mailboxRegister l offset s
    | 1 => activationRegister l (offset % 0x10000) s
    | 3 => timeRegister l (offset % 0x10000) s
    | 4 => squallRegister (offset % 0x10000) s
    | _ => 0

/-- The value that a lane's read returns. -/
def readBack (l : Lane) (v : Nat) (s : State) : State := modLane l (fun x => { x with readData := word v }) s

/-! ### Completions in a lane (R75, R82 to R84) -/

/-- The take of a task that a lane has started and that is not yet voted. -/
def laneTakeOf (s : State) (l : Lane) (task : Nat) : Option LaneTake := (laneOf s l).takes.find? fun t => t.task = task && t.phase != .delivered

/-- Task and take in which a lane works on a channel: take 0 where none of the owner's is under way. -/
def channelTake (s : State) (l : Lane) (k : Nat) : Nat × Nat :=
  let task := (channelOwner s k).getD 0
  (task, ((laneTakeOf s l task).map LaneTake.take).getD 0)

/-- A lane's runtime takes in a completion: a DISCARDED notice or a stale epoch is issued again (R84, R95, R179), any other ends its command. A
token that it does not track is ignored. -/
def noteCompletion (l : Lane) (k : Nat) (bytes : Bytes) (s : State) : State :=
  let token := Bytes.field bytes 8 4
  let status := Bytes.field bytes 16 2
  let one (c : Tracked) : Tracked :=
    if c.channel != k || c.token != token || c.done.isSome then c
    else if status = stDiscarded || status = stStaleEpoch then { c with again := true }
    else { c with done := some (status, bytes.drop 32) }
  modLane l (fun x => { x with tracked := x.tracked.map one }) s

/-- The newest 128 entries of a shadow. -/
def last128 {α : Type} (l : List α) : List α := l.drop (l.length - 128)

/-- MBX_CH_POP (R75): a read of MBX_CHk_POP. -/
def execMbxChPop (l : Lane) (k : Fin 16) (s : State) : Out :=
  let c := (s.mbx.lanes.get l).channel k
  match c.ready with
  | [] => .next (readBack l 0 s)
  | n :: rest =>
    let x := c.slot n
    let now := channelTake s l k
    let s := modChannel l k (fun c => { c.setSlot n { x with phase := .popped now.1 now.2 } with ready := rest }) s
    let s := modWindow l (fun w => { w with shadow := last128 (w.shadow ++ [⟨k, x.token, x.bytes, now, none, none⟩]) }) s
    .next (noteCompletion l k x.bytes (readBack l (2 ^ 31 + n) s))

/-- A completion as a shadow fetch returns it: with the SHADOW flag, its header CRC made anew. -/
def shadowed (b : Bytes) : Bytes :=
  let h := Bytes.overwrite (b.take 28) 5 (le 1 (Bytes.field b 5 1 ||| 2))
  h ++ le 4 (crc32 h) ++ b.drop 32

/-- MBX_SHADOW_FETCH (R83): an entry can be fetched once in each take. -/
def execMbxShadowFetch (l : Lane) (s : State) : Out :=
  let w := s.mbx.lanes.get l
  let now := channelTake s l w.shadowCh
  let named (e : ShadowEntry) : Bool := e.channel = w.shadowCh && e.token = w.shadowToken
  match w.shadow.find? fun e => named e && e.fetched != some now with
  | none => .next (readBack l 0 s)
  | some e =>
    let s := modWindow l (fun w => { w with shadowBuffer := shadowed e.bytes
                                            shadow := w.shadow.map fun x => if named x then { x with fetched := some now } else x }) s
    .next (noteCompletion l w.shadowCh e.bytes (readBack l (2 ^ 31 + e.bytes.length) s))

/-- SHADOW_ENTRY_EXPIRY (R82): four voted takes of the owning task after the epoch change that left it unvoted. -/
def execShadowEntryExpiry (l : Lane) (k : Fin 16) (token : Word32) (s : State) : Out :=
  let ended (e : ShadowEntry) : Bool := e.channel = k.val && e.token = token.toNat && e.unvoted.any fun n => 4 ≤ n
  .next (modWindow l (fun w => { w with shadow := w.shadow.filter fun e => !ended e }) s)

/-- MAILBOX_RESPONSE_DELAY_END (R524): the oldest completion that the Squall delay holds is sent. -/
def execMailboxResponseDelayEnd (s : State) : Out :=
  match s.mbx.delayed with
  | [] => .next s
  | d :: rest =>
    let s := modMbx (fun m => { m with delayed := rest }) (reach d.due s)
    .next (settleClosing (sendNow d.session d.bytes s))

/-! ### Doorbells and register writes (R74 to R76) -/

/-- A doorbell: the buffer is handed to the Gaffer, or the copy is ignored under an error flag (Table 3.8). -/
def doorbell (l : Lane) (k : Nat) (value : Word32) (s : State) : State :=
  let bound : Bool := (channelOwner s k).isSome
  modChannel l k (fun c =>
    if c.doorbell.isSome then { c with overrun := true }
    else if !bound then { c with hdrErr := true }
    else if 4 ≤ c.credits.length then { c with noCredit := true }
    else { c with doorbell := some (value.toNat % 2048) })
    (if bound || ((s.mbx.lanes.get l).channel k).doorbell.isSome then s else countHeaderError s)

/-- MBX_CH_DOORBELL (R76). -/
def execMbxChDoorbell (l : Lane) (k : Fin 16) (value : Word32) (s : State) : Out := .next (if lanesRun s then doorbell l k value s else s)

/-- A word written into a request buffer, which ignores it while the Gaffer copies. -/
def writeRequest (l : Lane) (k o : Nat) (value : Word32) (s : State) : State :=
  modChannel l k (fun c =>
    if c.doorbell.isSome then c
    else { c with request := Bytes.overwrite (padTo (max c.request.length (o + 4)) c.request) o (le 4 value.toNat) }) s

/-- The error flags of MBX_CHk_STATE cleared. -/
def clearErrors (l : Lane) (k : Nat) (value : Word32) (s : State) : State :=
  let off (n : Nat) (b : Bool) : Bool := b && !hasBit value.toNat n
  modChannel l k (fun c => { c with hdrErr := off 16 c.hdrErr, overrun := off 17 c.overrun, noCredit := off 18 c.noCredit }) s

/-- A write to the mailbox block. -/
def writeMailbox (l : Lane) (o : Nat) (value : Word32) (s : State) : State :=
  if 0x100 ≤ o && o < 0x200 then
    let k := (o - 0x100) / 16
    if o % 16 = 0 then doorbell l k value s else if o % 16 = 4 then clearErrors l k value s else s
  else if o = 0x200 then modWindow l (fun w => { w with shadowCh := value.toNat % 16 }) s
  else if o = 0x204 then modWindow l (fun w => { w with shadowToken := value.toNat }) s
  else if 0x4000 ≤ o && o < 0x8000 then writeRequest l ((o - 0x4000) / 0x400) (o % 0x400) value s
  else s

/-- A DEFER write at the GF clock of its arrival (R464): a READY bit whose commit started in the three clocks before still interrupts, once. -/
def writeDefer (l : Lane) (value : Word32) (s : State) : State :=
  let m := gfCount s
  modLane l (fun x =>
    if value.getLsbD 0 then
      let through := x.actCommits.any fun c => hasBit x.actReady c.1 && c.2 + 3 ≥ m && c.2 < m
      { x with actDefer := true, actInterrupt := through, actThrough := x.actThrough || through }
    else { x with actDefer := false, actInterrupt := x.actReady != 0 }) s

/-- ACT_DEFER (R464). -/
def execActDefer (l : Lane) (value : Word32) (s : State) : Out := .next (if lanesRun s then writeDefer l value s else s)

/-- A write to the activation block: ACT_DEFER, and the W1C bit of ACT_STATUS. -/
def writeActivation (l : Lane) (o : Nat) (value : Word32) (s : State) : State :=
  if o = 0xC then writeDefer l value s
  else if o = 0x10 then modLane l (fun x => { x with actThrough := x.actThrough && !value.getLsbD 2 }) s
  else s

/-- REGISTER_WRITE (R9): RO fields, the short-time and Squall blocks, and offsets not listed ignore a write. -/
def execRegisterWrite (l : Lane) (offset : Nat) (value : Word32) (s : State) : Out :=
  if !lanesRun s || offset % 4 != 0 then .next s
  else match offset / 0x10000 with
    | 0 => .next (writeMailbox l offset value s)
    | 1 => .next (writeActivation l (offset % 0x10000) value s)
    | _ => .next s

/-- extend() of R447 on what one pass of its loop reads: the step sum, and the short time. -/
def FullTime.extend (sum : Int) (short : Nat) (f : FullTime) : FullTime :=
  let last := f.last + (sum - f.lastSum)
  let d : Int := ((short : Int) - last) % 2 ^ 32
  { last := last + if 2 ^ 31 ≤ d then d - 2 ^ 32 else d, lastSum := sum }

/-- The full time at copy-in: the snapshot time, and the step sum. -/
def FullTime.start (sum : Int) (snapshot : Bytes) : FullTime where
  last := Bytes.field snapshot 0x18 8 * 1000000000 + Bytes.field snapshot 0x20 4
  lastSum := sum

/-- The running takes of a lane with their full time extended now. -/
def extendTakes (s : State) (x : LaneSt) : LaneSt :=
  { x with takes := x.takes.map fun t =>
      if t.phase = .running then { t with fullTime := t.fullTime.extend s.clock.stepSum (timeRegister .a 4 s).toNat } else t }

/-- TIM_STEP_SUM_LO (R446): a read latches the upper half of the step sum. It is the first of the runtime's reads of R447, and the extension
that follows is made with it (log entry 147). -/
def execTimStepSumLo (l : Lane) (s : State) : Out :=
  .next (modLane l (fun x => { extendTakes s x with readData := word (stepSum64 s), stepSumHigh := word (stepSum64 s / 2 ^ 32) }) s)

/-! ### Starts (R109, R190, R463, R464) -/

/-- The ready task of the highest priority. -/
def readyTask (s : State) (l : Lane) : Option Nat :=
  ((List.range 16).filter fun k => hasBit (laneOf s l).actReady k).foldl (fun best k => match best with
    | none => some k
    | some b => if taskPriority s k < taskPriority s b then some k else some b) none

/-- ACT_TAKE (R463). -/
def execActTake (l : Lane) (s : State) : Out :=
  match readyTask s l with
  | none => .next (readBack l 0 s)
  | some k =>
    let s := modLane l (fun x => { x with actReady := x.actReady - 2 ^ k, actCommits := Tbl.erase x.actCommits k }) s
    .next (readBack l (2 ^ 31 + k) (modLane l (fun x => { x with actInterrupt := x.actReady != 0 && !x.actDefer }) s))

/-- A READY bit set: the start interrupt is raised unless DEFER has taken effect (R464). -/
def setReady (l : Lane) (task : Nat) (s : State) : State :=
  let clock := gfCount s
  modLane l (fun x => { x with actReady := x.actReady ||| 2 ^ task, actCommits := Tbl.put x.actCommits task clock
                               actInterrupt := x.actInterrupt || !x.actDefer }) s

/-- The next value of the jitter sequence (R524). -/
def xorshift (x : Word32) : Word32 :=
  let x := x ^^^ (x <<< 13)
  let x := x ^^^ (x >>> 17)
  x ^^^ (x <<< 5)

/-- Jitter is set for a lane. -/
def jitters (s : State) (l : Lane) : Bool := s.test.squall && s.test.jitter.toNat % 4 = l.num

/-- The delay that Squall adds to a lane's start, and the state after it: held and counted in two-lane operation. -/
def jitterStart (l : Lane) (s : State) : Nat × State :=
  if !jitters s l then (0, s)
  else if maskCount (votingMask s) < 3 then (0, modTest (fun t => { t with held := t.held + 1 }) s)
  else
    let x := xorshift s.test.x
    (micro (x.toNat % (s.test.jitter.toNat / 4 % 2 ^ 14 + 1)), countApplied (modTest (fun t => { t with x := x }) s))

/-- Earlier takes of a task in a lane, which it has not posted, are abandoned (R113). -/
def abandonEarlier (l : Lane) (t : LaneTake) (s : State) : State :=
  ((laneOf s l).takes.filter fun u => u.task = t.task && u.take < t.take && u.phase != .posted).foldl (fun s u => abandonTake l u s) s

/-- TAKE_START (R109): a delivered take reaches its start offset in a lane. The snapshot CRC is checked, and the copy-in made. -/
def execTakeStart (l : Lane) (task : Nat) (s : State) : Out :=
  match (laneOf s l).takes.find? fun t => t.task = task && t.phase = .delivered, runningImage s with
  | some t, some i =>
    match taskRec i task with
    | none => .next s
    | some r =>
      let j := jitterStart l s
      let s := abandonEarlier l t (reach (t.readyAt + j.1) j.2)
      if !(snapshotOk t.snapshot && forceAreaOk t.forceArea) then .next (laneFault l .snapshot s)
      else
        let w := s.mbx.lanes.get l
        let t := { t with fullTime := FullTime.start s.clock.stepSum t.snapshot }
        .next (modLane l (fun x => startTake i r w { x with watchdogServed := watchdogLast x s.time } t) (setReady l task s))
  | _, _ => .next s

end Sys2Proof.Machine
end

