-- ==== Sys2Proof/Machine/Commands.lean ====
section
/-! DEFINITION. The command codes (chapters 2 to 17), and each command as it arrives on an external session (R85 to R88). -/

namespace Sys2Proof.Machine

/-- Commands of class 0x01 (chapter 3). -/
def commandsModule : Nat → Option Command
  | 0x0101 => some cmdModuleStatus
  | 0x0102 => some cmdModuleInfo
  | 0x0103 => some cmdModeRequest
  | 0x0104 => some cmdModuleRestart
  | 0x0105 => some cmdClassControl
  | 0x0106 => some cmdTokenQuery
  | 0x0107 => some cmdMailboxCounters
  | _ => none

/-- Commands of class 0x02 (chapter 2). -/
def commandsTrust : Nat → Option Command
  | 0x0201 => some cmdSessionLogin
  | 0x0202 => some cmdSessionEnd
  | 0x0203 => some cmdSessionList
  | 0x0204 => some cmdIdentityRead
  | 0x0205 => some cmdEnrolRequest
  | 0x0206 => some cmdEnrolInstall
  | 0x0207 => some cmdAnchorRotate
  | 0x0208 => some cmdCredentialSet
  | 0x0209 => some cmdCredentialRemove
  | 0x020A => some cmdSaInstall
  | 0x020B => some cmdSaRelease
  | 0x020C => some cmdOwnerLock
  | 0x020D => some cmdTamperAcknowledge
  | 0x020E => some cmdLullStatus
  | _ => none

/-- Commands of class 0x03 (chapter 6). -/
def commandsProgram : Nat → Option Command
  | 0x0301 => some cmdProgramStatus
  | 0x0302 => some cmdImageLoad
  | 0x0303 => some cmdProgramStart
  | 0x0304 => some cmdProgramStop
  | 0x0305 => some cmdRecutStart
  | 0x0306 => some cmdRecutCancel
  | 0x0307 => some cmdForceSet
  | 0x0308 => some cmdForceClear
  | 0x0309 => some cmdForceList
  | 0x030A => some cmdVariableRead
  | 0x030B => some cmdImageErase
  | _ => none

/-- Commands of class 0x04 (chapter 4). -/
def commandsLane : Nat → Option Command
  | 0x0401 => some cmdLaneStatus
  | 0x0402 => some cmdLaneHealth
  | 0x0403 => some cmdLaneTraceRead
  | 0x0404 => some cmdLaneIsolate
  | 0x0405 => some cmdLaneReshoot
  | 0x0406 => some cmdStaggerSet
  | 0x0407 => some cmdVoterTest
  | 0x0408 => some cmdLaneDiagClear
  | _ => none

/-- Commands of class 0x05 (chapter 7). -/
def commandsPair : Nat → Option Command
  | 0x0501 => some cmdPairStatus
  | 0x0502 => some cmdPairHealth
  | 0x0503 => some cmdPairConfigure
  | 0x0504 => some cmdPairSwitchover
  | 0x0505 => some cmdPairResync
  | 0x0506 => some cmdPairBudget
  | 0x0507 => some cmdPairCounters
  | _ => none

/-- Commands of class 0x06 (chapter 8). -/
def commandsSafety : Nat → Option Command
  | 0x0601 => some cmdSafetyStatus
  | 0x0602 => some cmdSafetyParamLoad
  | 0x0603 => some cmdSafetyParamActivate
  | 0x0604 => some cmdLockoutEnter
  | 0x0605 => some cmdLockoutReset
  | 0x0606 => some cmdChangeLogRead
  | 0x0607 => some cmdWindowClose
  | 0x0608 => some cmdSafeIoTest
  | _ => none

/-- Commands of class 0x07 (chapter 9). -/
def commandsPosition : Nat → Option Command
  | 0x0701 => some cmdPositionStatus
  | 0x0702 => some cmdPositionConfigure
  | 0x0703 => some cmdPositionMark
  | 0x0704 => some cmdPositionAt
  | 0x0705 => some cmdCueStatus
  | 0x0706 => some cmdCueControl
  | 0x0707 => some cmdPositionCounters
  | _ => none

/-- Commands of class 0x08 (chapter 10). -/
def commandsSignal : Nat → Option Command
  | 0x0801 => some cmdSignalStatus
  | 0x0802 => some cmdChannelConfigure
  | 0x0803 => some cmdCoeffLoad
  | 0x0804 => some cmdSignalDissolve
  | 0x0805 => some cmdChannelControl
  | 0x0806 => some cmdInputSwitch
  | 0x0807 => some cmdSignalCounters
  | _ => none

/-- Commands of class 0x09 (chapter 11). -/
def commandsNet : Nat → Option Command
  | 0x0901 => some cmdNetStatus
  | 0x0902 => some cmdPortConfigure
  | 0x0903 => some cmdPortCounters
  | 0x0904 => some cmdFdbPin
  | 0x0905 => some cmdFdbUnpin
  | 0x0906 => some cmdFdbRead
  | 0x0907 => some cmdFdbFlush
  | 0x0908 => some cmdFlowConfigure
  | 0x0909 => some cmdFlowControl
  | 0x090A => some cmdFlowStatus
  | 0x090B => some cmdFrerConfigure
  | 0x090C => some cmdGateConfigure
  | 0x090D => some cmdLaunchWrite
  | 0x090E => some cmdLaunchFlush
  | 0x090F => some cmdRnatConfigure
  | 0x0910 => some cmdNetSettings
  | _ => none

/-- Commands of class 0x0A (chapter 12). -/
def commandsMvb : Nat → Option Command
  | 0x0A01 => some cmdMvbStatus
  | 0x0A02 => some cmdMvbConfigure
  | 0x0A03 => some cmdMvbPortConfigure
  | 0x0A04 => some cmdMvbPortControl
  | 0x0A05 => some cmdMvbWrite
  | 0x0A06 => some cmdMvbRead
  | 0x0A07 => some cmdMvbLock
  | 0x0A08 => some cmdMvbUnlock
  | 0x0A09 => some cmdMvbMap
  | 0x0A0A => some cmdMvbDevices
  | 0x0A0B => some cmdMvbCounters
  | _ => none

/-- Commands of class 0x0B (chapter 13). -/
def commandsTime : Nat → Option Command
  | 0x0B01 => some cmdTimeStatus
  | 0x0B02 => some cmdTimeConfigure
  | 0x0B03 => some cmdTimeSet
  | 0x0B04 => some cmdTimePortStatus
  | _ => none

/-- Commands of class 0x0C (chapter 14). -/
def commandsActivation : Nat → Option Command
  | 0x0C01 => some cmdActivationStatus
  | 0x0C02 => some cmdSourceConfigure
  | 0x0C03 => some cmdSourceMask
  | 0x0C04 => some cmdActivationHold
  | 0x0C05 => some cmdActivationTrigger
  | 0x0C06 => some cmdActivationCounters
  | _ => none

/-- Commands of class 0x0D (chapter 15). -/
def commandsRecorder : Nat → Option Command
  | 0x0D01 => some cmdRecorderStatus
  | 0x0D02 => some cmdRecorderRead
  | 0x0D03 => some cmdRecorderFreeze
  | 0x0D04 => some cmdRecorderRelease
  | 0x0D05 => some cmdRecorderClearRequest
  | 0x0D06 => some cmdRecorderClearConfirm
  | 0x0D07 => some cmdRecorderCounters
  | _ => none

/-- Commands of class 0x0E (chapter 16). -/
def commandsUpdate : Nat → Option Command
  | 0x0E01 => some cmdUpdateStatus
  | 0x0E02 => some cmdUpdateStage
  | 0x0E03 => some cmdUpdateSchedule
  | 0x0E04 => some cmdUpdateCancel
  | _ => none

/-- Commands of class 0x0F (chapter 17). -/
def commandsTest : Nat → Option Command
  | 0x0F01 => some cmdTestStatus
  | 0x0F02 => some cmdTestEnter
  | 0x0F03 => some cmdTestExit
  | 0x0F04 => some cmdSquallSet
  | 0x0F05 => some cmdSelfTestRun
  | _ => none

/-- The command of a code: none where the code is not known (R88 step 7). -/
def commands (code : Nat) : Option Command :=
  match code / 256 with
  | 1 => commandsModule code
  | 2 => commandsTrust code
  | 3 => commandsProgram code
  | 4 => commandsLane code
  | 5 => commandsPair code
  | 6 => commandsSafety code
  | 7 => commandsPosition code
  | 8 => commandsSignal code
  | 9 => commandsNet code
  | 10 => commandsMvb code
  | 11 => commandsTime code
  | 12 => commandsActivation code
  | 13 => commandsRecorder code
  | 14 => commandsUpdate code
  | 15 => commandsTest code
  | _ => none

/-- A command received on an external session. -/
def command (code : Nat) (m : Msg) (s : State) : Out := .next (receive commands code m s)

/-! ### Class 0x01 (chapter 3) -/

/-- MODULE_STATUS (0x0101). -/
def execModuleStatus (m : Msg) (s : State) : Out := command 0x0101 m s

/-- MODULE_INFO (0x0102). -/
def execModuleInfo (m : Msg) (s : State) : Out := command 0x0102 m s

/-- MODE_REQUEST (0x0103). -/
def execModeRequest (m : Msg) (s : State) : Out := command 0x0103 m s

/-- MODULE_RESTART (0x0104). -/
def execModuleRestart (m : Msg) (s : State) : Out := command 0x0104 m s

/-- CLASS_CONTROL (0x0105). -/
def execClassControl (m : Msg) (s : State) : Out := command 0x0105 m s

/-- TOKEN_QUERY (0x0106). -/
def execTokenQuery (m : Msg) (s : State) : Out := command 0x0106 m s

/-- MAILBOX_COUNTERS (0x0107). -/
def execMailboxCounters (m : Msg) (s : State) : Out := command 0x0107 m s

/-! ### Class 0x02 (chapter 2) -/

/-- SESSION_LOGIN (0x0201): an attempt counts whatever its outcome (R47). -/
def execSessionLogin (m : Msg) (s : State) : Out := command 0x0201 m (countAttempt m.session s)

/-- SESSION_END (0x0202). -/
def execSessionEnd (m : Msg) (s : State) : Out := command 0x0202 m s

/-- SESSION_LIST (0x0203). -/
def execSessionList (m : Msg) (s : State) : Out := command 0x0203 m s

/-- IDENTITY_READ (0x0204). -/
def execIdentityRead (m : Msg) (s : State) : Out := command 0x0204 m s

/-- ENROL_REQUEST (0x0205). -/
def execEnrolRequest (m : Msg) (s : State) : Out := command 0x0205 m s

/-- ENROL_INSTALL (0x0206). -/
def execEnrolInstall (m : Msg) (s : State) : Out := command 0x0206 m s

/-- ANCHOR_ROTATE (0x0207). -/
def execAnchorRotate (m : Msg) (s : State) : Out := command 0x0207 m s

/-- CREDENTIAL_SET (0x0208). -/
def execCredentialSet (m : Msg) (s : State) : Out := command 0x0208 m s

/-- CREDENTIAL_REMOVE (0x0209). -/
def execCredentialRemove (m : Msg) (s : State) : Out := command 0x0209 m s

/-- SA_INSTALL (0x020A). -/
def execSaInstall (m : Msg) (s : State) : Out := command 0x020A m s

/-- SA_RELEASE (0x020B). -/
def execSaRelease (m : Msg) (s : State) : Out := command 0x020B m s

/-- OWNER_LOCK (0x020C). -/
def execOwnerLock (m : Msg) (s : State) : Out := command 0x020C m s

/-- TAMPER_ACKNOWLEDGE (0x020D). -/
def execTamperAcknowledge (m : Msg) (s : State) : Out := command 0x020D m s

/-- LULL_STATUS (0x020E). -/
def execLullStatus (m : Msg) (s : State) : Out := command 0x020E m s

/-! ### Class 0x03 (chapter 6) -/

/-- PROGRAM_STATUS (0x0301). -/
def execProgramStatus (m : Msg) (s : State) : Out := command 0x0301 m s

/-- IMAGE_LOAD (0x0302). -/
def execImageLoad (m : Msg) (s : State) : Out := command 0x0302 m s

/-- PROGRAM_START (0x0303). -/
def execProgramStart (m : Msg) (s : State) : Out := command 0x0303 m s

/-- PROGRAM_STOP (0x0304). -/
def execProgramStop (m : Msg) (s : State) : Out := command 0x0304 m s

/-- RECUT_START (0x0305). -/
def execRecutStart (m : Msg) (s : State) : Out := command 0x0305 m s

/-- RECUT_CANCEL (0x0306). -/
def execRecutCancel (m : Msg) (s : State) : Out := command 0x0306 m s

/-- FORCE_SET (0x0307). -/
def execForceSet (m : Msg) (s : State) : Out := command 0x0307 m s

/-- FORCE_CLEAR (0x0308). -/
def execForceClear (m : Msg) (s : State) : Out := command 0x0308 m s

/-- FORCE_LIST (0x0309). -/
def execForceList (m : Msg) (s : State) : Out := command 0x0309 m s

/-- VARIABLE_READ (0x030A). -/
def execVariableRead (m : Msg) (s : State) : Out := command 0x030A m s

/-- IMAGE_ERASE (0x030B). -/
def execImageErase (m : Msg) (s : State) : Out := command 0x030B m s

/-! ### Class 0x04 (chapter 4) -/

/-- LANE_STATUS (0x0401). -/
def execLaneStatus (m : Msg) (s : State) : Out := command 0x0401 m s

/-- LANE_HEALTH (0x0402). -/
def execLaneHealth (m : Msg) (s : State) : Out := command 0x0402 m s

/-- LANE_TRACE_READ (0x0403). -/
def execLaneTraceRead (m : Msg) (s : State) : Out := command 0x0403 m s

/-- LANE_ISOLATE (0x0404). -/
def execLaneIsolate (m : Msg) (s : State) : Out := command 0x0404 m s

/-- LANE_RESHOOT (0x0405). -/
def execLaneReshoot (m : Msg) (s : State) : Out := command 0x0405 m s

/-- STAGGER_SET (0x0406). -/
def execStaggerSet (m : Msg) (s : State) : Out := command 0x0406 m s

/-- VOTER_TEST (0x0407). -/
def execVoterTest (m : Msg) (s : State) : Out := command 0x0407 m s

/-- LANE_DIAG_CLEAR (0x0408). -/
def execLaneDiagClear (m : Msg) (s : State) : Out := command 0x0408 m s

/-! ### Class 0x05 (chapter 7) -/

/-- PAIR_STATUS (0x0501). -/
def execPairStatus (m : Msg) (s : State) : Out := command 0x0501 m s

/-- PAIR_HEALTH (0x0502). -/
def execPairHealth (m : Msg) (s : State) : Out := command 0x0502 m s

/-- PAIR_CONFIGURE (0x0503). -/
def execPairConfigure (m : Msg) (s : State) : Out := command 0x0503 m s

/-- PAIR_SWITCHOVER (0x0504). -/
def execPairSwitchover (m : Msg) (s : State) : Out := command 0x0504 m s

/-- PAIR_RESYNC (0x0505). -/
def execPairResync (m : Msg) (s : State) : Out := command 0x0505 m s

/-- PAIR_BUDGET (0x0506). -/
def execPairBudget (m : Msg) (s : State) : Out := command 0x0506 m s

/-- PAIR_COUNTERS (0x0507). -/
def execPairCounters (m : Msg) (s : State) : Out := command 0x0507 m s

/-! ### Class 0x06 (chapter 8) -/

/-- SAFETY_STATUS (0x0601). -/
def execSafetyStatus (m : Msg) (s : State) : Out := command 0x0601 m s

/-- SAFETY_PARAM_LOAD (0x0602). -/
def execSafetyParamLoad (m : Msg) (s : State) : Out := command 0x0602 m s

/-- SAFETY_PARAM_ACTIVATE (0x0603). -/
def execSafetyParamActivate (m : Msg) (s : State) : Out := command 0x0603 m s

/-- LOCKOUT_ENTER (0x0604). -/
def execLockoutEnter (m : Msg) (s : State) : Out := command 0x0604 m s

/-- LOCKOUT_RESET (0x0605). -/
def execLockoutReset (m : Msg) (s : State) : Out := command 0x0605 m s

/-- CHANGE_LOG_READ (0x0606). -/
def execChangeLogRead (m : Msg) (s : State) : Out := command 0x0606 m s

/-- WINDOW_CLOSE (0x0607). -/
def execWindowClose (m : Msg) (s : State) : Out := command 0x0607 m s

/-- SAFE_IO_TEST (0x0608). -/
def execSafeIoTest (m : Msg) (s : State) : Out := command 0x0608 m s

/-! ### Class 0x07 (chapter 9) -/

/-- POSITION_STATUS (0x0701). -/
def execPositionStatus (m : Msg) (s : State) : Out := command 0x0701 m s

/-- POSITION_CONFIGURE (0x0702). -/
def execPositionConfigure (m : Msg) (s : State) : Out := command 0x0702 m s

/-- POSITION_MARK (0x0703). -/
def execPositionMark (m : Msg) (s : State) : Out := command 0x0703 m s

/-- POSITION_AT (0x0704). -/
def execPositionAt (m : Msg) (s : State) : Out := command 0x0704 m s

/-- CUE_STATUS (0x0705). -/
def execCueStatus (m : Msg) (s : State) : Out := command 0x0705 m s

/-- CUE_CONTROL (0x0706). -/
def execCueControl (m : Msg) (s : State) : Out := command 0x0706 m s

/-- POSITION_COUNTERS (0x0707). -/
def execPositionCounters (m : Msg) (s : State) : Out := command 0x0707 m s

/-! ### Class 0x08 (chapter 10) -/

/-- SIGNAL_STATUS (0x0801). -/
def execSignalStatus (m : Msg) (s : State) : Out := command 0x0801 m s

/-- CHANNEL_CONFIGURE (0x0802). -/
def execChannelConfigure (m : Msg) (s : State) : Out := command 0x0802 m s

/-- COEFF_LOAD (0x0803). -/
def execCoeffLoad (m : Msg) (s : State) : Out := command 0x0803 m s

/-- SIGNAL_DISSOLVE (0x0804). -/
def execSignalDissolve (m : Msg) (s : State) : Out := command 0x0804 m s

/-- CHANNEL_CONTROL (0x0805). -/
def execChannelControl (m : Msg) (s : State) : Out := command 0x0805 m s

/-- INPUT_SWITCH (0x0806). -/
def execInputSwitch (m : Msg) (s : State) : Out := command 0x0806 m s

/-- SIGNAL_COUNTERS (0x0807). -/
def execSignalCounters (m : Msg) (s : State) : Out := command 0x0807 m s

/-! ### Class 0x09 (chapter 11) -/

/-- NET_STATUS (0x0901). -/
def execNetStatus (m : Msg) (s : State) : Out := command 0x0901 m s

/-- PORT_CONFIGURE (0x0902). -/
def execPortConfigure (m : Msg) (s : State) : Out := command 0x0902 m s

/-- PORT_COUNTERS (0x0903). -/
def execPortCounters (m : Msg) (s : State) : Out := command 0x0903 m s

/-- FDB_PIN (0x0904). -/
def execFdbPin (m : Msg) (s : State) : Out := command 0x0904 m s

/-- FDB_UNPIN (0x0905). -/
def execFdbUnpin (m : Msg) (s : State) : Out := command 0x0905 m s

/-- FDB_READ (0x0906). -/
def execFdbRead (m : Msg) (s : State) : Out := command 0x0906 m s

/-- FDB_FLUSH (0x0907). -/
def execFdbFlush (m : Msg) (s : State) : Out := command 0x0907 m s

/-- FLOW_CONFIGURE (0x0908). -/
def execFlowConfigure (m : Msg) (s : State) : Out := command 0x0908 m s

/-- FLOW_CONTROL (0x0909). -/
def execFlowControl (m : Msg) (s : State) : Out := command 0x0909 m s

/-- FLOW_STATUS (0x090A). -/
def execFlowStatus (m : Msg) (s : State) : Out := command 0x090A m s

/-- FRER_CONFIGURE (0x090B). -/
def execFrerConfigure (m : Msg) (s : State) : Out := command 0x090B m s

/-- GATE_CONFIGURE (0x090C). -/
def execGateConfigure (m : Msg) (s : State) : Out := command 0x090C m s

/-- LAUNCH_WRITE (0x090D). -/
def execLaunchWrite (m : Msg) (s : State) : Out := command 0x090D m s

/-- LAUNCH_FLUSH (0x090E). -/
def execLaunchFlush (m : Msg) (s : State) : Out := command 0x090E m s

/-- RNAT_CONFIGURE (0x090F). -/
def execRnatConfigure (m : Msg) (s : State) : Out := command 0x090F m s

/-- NET_SETTINGS (0x0910). -/
def execNetSettings (m : Msg) (s : State) : Out := command 0x0910 m s

/-! ### Class 0x0A (chapter 12) -/

/-- MVB_STATUS (0x0A01). -/
def execMvbStatus (m : Msg) (s : State) : Out := command 0x0A01 m s

/-- MVB_CONFIGURE (0x0A02). -/
def execMvbConfigure (m : Msg) (s : State) : Out := command 0x0A02 m s

/-- MVB_PORT_CONFIGURE (0x0A03). -/
def execMvbPortConfigure (m : Msg) (s : State) : Out := command 0x0A03 m s

/-- MVB_PORT_CONTROL (0x0A04). -/
def execMvbPortControl (m : Msg) (s : State) : Out := command 0x0A04 m s

/-- MVB_WRITE (0x0A05). -/
def execMvbWrite (m : Msg) (s : State) : Out := command 0x0A05 m s

/-- MVB_READ (0x0A06). -/
def execMvbRead (m : Msg) (s : State) : Out := command 0x0A06 m s

/-- MVB_LOCK (0x0A07). -/
def execMvbLock (m : Msg) (s : State) : Out := command 0x0A07 m s

/-- MVB_UNLOCK (0x0A08). -/
def execMvbUnlock (m : Msg) (s : State) : Out := command 0x0A08 m s

/-- MVB_MAP (0x0A09). -/
def execMvbMap (m : Msg) (s : State) : Out := command 0x0A09 m s

/-- MVB_DEVICES (0x0A0A). -/
def execMvbDevices (m : Msg) (s : State) : Out := command 0x0A0A m s

/-- MVB_COUNTERS (0x0A0B). -/
def execMvbCounters (m : Msg) (s : State) : Out := command 0x0A0B m s

/-! ### Class 0x0B (chapter 13) -/

/-- TIME_STATUS (0x0B01). -/
def execTimeStatus (m : Msg) (s : State) : Out := command 0x0B01 m s

/-- TIME_CONFIGURE (0x0B02). -/
def execTimeConfigure (m : Msg) (s : State) : Out := command 0x0B02 m s

/-- TIME_SET (0x0B03). -/
def execTimeSet (m : Msg) (s : State) : Out := command 0x0B03 m s

/-- TIME_PORT_STATUS (0x0B04). -/
def execTimePortStatus (m : Msg) (s : State) : Out := command 0x0B04 m s

/-! ### Class 0x0C (chapter 14) -/

/-- ACTIVATION_STATUS (0x0C01). -/
def execActivationStatus (m : Msg) (s : State) : Out := command 0x0C01 m s

/-- SOURCE_CONFIGURE (0x0C02). -/
def execSourceConfigure (m : Msg) (s : State) : Out := command 0x0C02 m s

/-- SOURCE_MASK (0x0C03). -/
def execSourceMask (m : Msg) (s : State) : Out := command 0x0C03 m s

/-- ACTIVATION_HOLD (0x0C04). -/
def execActivationHold (m : Msg) (s : State) : Out := command 0x0C04 m s

/-- ACTIVATION_TRIGGER (0x0C05). -/
def execActivationTrigger (m : Msg) (s : State) : Out := command 0x0C05 m s

/-- ACTIVATION_COUNTERS (0x0C06). -/
def execActivationCounters (m : Msg) (s : State) : Out := command 0x0C06 m s

/-! ### Class 0x0D (chapter 15) -/

/-- RECORDER_STATUS (0x0D01). -/
def execRecorderStatus (m : Msg) (s : State) : Out := command 0x0D01 m s

/-- RECORDER_READ (0x0D02). -/
def execRecorderRead (m : Msg) (s : State) : Out := command 0x0D02 m s

/-- RECORDER_FREEZE (0x0D03). -/
def execRecorderFreeze (m : Msg) (s : State) : Out := command 0x0D03 m s

/-- RECORDER_RELEASE (0x0D04). -/
def execRecorderRelease (m : Msg) (s : State) : Out := command 0x0D04 m s

/-- RECORDER_CLEAR_REQUEST (0x0D05). -/
def execRecorderClearRequest (m : Msg) (s : State) : Out := command 0x0D05 m s

/-- RECORDER_CLEAR_CONFIRM (0x0D06). -/
def execRecorderClearConfirm (m : Msg) (s : State) : Out := command 0x0D06 m s

/-- RECORDER_COUNTERS (0x0D07). -/
def execRecorderCounters (m : Msg) (s : State) : Out := command 0x0D07 m s

/-! ### Class 0x0E (chapter 16) -/

/-- UPDATE_STATUS (0x0E01). -/
def execUpdateStatus (m : Msg) (s : State) : Out := command 0x0E01 m s

/-- UPDATE_STAGE (0x0E02). -/
def execUpdateStage (m : Msg) (s : State) : Out := command 0x0E02 m s

/-- UPDATE_SCHEDULE (0x0E03). -/
def execUpdateSchedule (m : Msg) (s : State) : Out := command 0x0E03 m s

/-- UPDATE_CANCEL (0x0E04). -/
def execUpdateCancel (m : Msg) (s : State) : Out := command 0x0E04 m s

/-! ### Class 0x0F (chapter 17) -/

/-- TEST_STATUS (0x0F01). -/
def execTestStatus (m : Msg) (s : State) : Out := command 0x0F01 m s

/-- TEST_ENTER (0x0F02). -/
def execTestEnter (m : Msg) (s : State) : Out := command 0x0F02 m s

/-- TEST_EXIT (0x0F03). -/
def execTestExit (m : Msg) (s : State) : Out := command 0x0F03 m s

/-- SQUALL_SET (0x0F04). -/
def execSquallSet (m : Msg) (s : State) : Out := command 0x0F04 m s

/-- SELF_TEST_RUN (0x0F05). -/
def execSelfTestRun (m : Msg) (s : State) : Out := command 0x0F05 m s

end Sys2Proof.Machine
end

