-- ==== Sys2Proof/Machine/Vote.lean ====
section
/-! DEFINITION. Voted issue and the voter (chapters 3 and 4): lane copies, signatures, decisions, and the release of a take. -/

namespace Sys2Proof.Machine

/-! ### Lane copies (R76 to R78, R88, R95, R135) -/

/-- Step 1 of Table 3.6A for the copy of a channel, of the length that its doorbell gave. -/
def laneCopyOk (k len : Nat) (env : Bytes) : Bool :=
  32 ≤ len && len ≤ 1024 && Bytes.field env 0 4 = 0x4D43584B && Bytes.field env 4 1 = 1 && Bytes.field env 5 1 < 2 &&
    Bytes.field env 0x10 4 + 32 = len && Bytes.field env 0x14 4 = issuerOf 1 k && Bytes.field env 0x18 4 = 0 &&
    Bytes.field env 0x1C 4 = crc32 (env.take 28)

/-- The command that a lane's envelope states. -/
def laneArrival (k : Nat) (env : Bytes) : Arrival where
  code := Bytes.field env 6 2
  issuer := issuerOf 1 k
  token := Bytes.field env 8 4
  epoch := Bytes.field env 12 4
  payload := env.drop 32
  session := none
  channel := some k
  roles := 0

/-- Accepted lane commands that are remembered for the copies that come later. -/
def lastAccepted (l : List VotedIssue) : List VotedIssue := l.drop (l.length - 64)

/-- A voted command reaches its point of acceptance (R77): held copies that differ from it are dropped and counted, and steps 2 to 8 follow.
`lanes` are those whose copies have been taken over. -/
def acceptVoted (k : Nat) (env : Bytes) (lanes : Nat) (s : State) : State :=
  let token := Bytes.field env 8 4
  let same (c t : Nat) : Bool := c = k && t = token
  let wrong := (s.mbx.held.filter fun h => same h.channel h.token && h.envelope != env).length
  let s := modMbx (fun m => { m with
    held := m.held.filter fun h => !same h.channel h.token
    voted := m.voted.filter fun v => !same v.channel v.token
    paired := lastAccepted ((m.paired.filter fun v => !same v.channel v.token) ++ [⟨k, token, env, lanes⟩])
    windowMismatches := m.windowMismatches + wrong, reissues := m.reissues + Bytes.field env 5 1 }) s
  present commands (laneArrival k env) s

/-- A copy that differs from the command of its channel and token (R78). -/
def windowMismatch (s : State) : State := modMbx (fun m => { m with windowMismatches := m.windowMismatches + 1 }) s

/-- The acceptance window of a token is still open: it begins with the first copy held. -/
def copyWindowOpen (s : State) (k token : Nat) : Bool :=
  match s.mbx.held.find? fun h => h.channel = k && h.token = token with
  | some h => s.time ≤ h.takenAt + micro (acceptanceWindow s)
  | none => false

/-- A copy held for pairing: with an identical one of another lane in the window it makes the voted command. -/
def pairCopy (l : Lane) (k : Nat) (env : Bytes) (s : State) : State :=
  let token := Bytes.field env 8 4
  let twin (h : HeldCopy) : Bool := h.lane != l && h.channel = k && h.token = token && h.envelope = env
  if copyWindowOpen s k token && s.mbx.held.any twin then
    acceptVoted k env (laneMask fun x => x = l || s.mbx.held.any fun h => twin h && h.lane = x) s
  else
    let now := channelTake s l k
    modMbx (fun m => { m with held := m.held ++ [⟨l, k, token, env, s.time, now.1, now.2⟩] }) s

/-- A copy of a command that the majority has issued: accepted if it equals the record, otherwise dropped and counted. -/
def meetsVoted (l : Lane) (v : VotedIssue) (env : Bytes) (s : State) : State :=
  if v.envelope = env then acceptVoted v.channel env (2 ^ l.num) (modMbx (fun m => { m with voteAcceptances := m.voteAcceptances + 1 }) s)
  else windowMismatch s

/-- A copy carries the current epoch, and what it is held against an older one: it is a re-issue (R84, R95). -/
def reissuedSince (s : State) (old env : Bytes) : Bool := Bytes.field env 12 4 = s.mbx.epoch && Bytes.field old 12 4 != s.mbx.epoch

/-- A later lane's copy of an accepted command: it counts with the copies that made it, and gives back the second credit that its lane took
for the command, if it did (R76, R78). -/
def joinPaired (l : Lane) (v : VotedIssue) (s : State) : State :=
  modWindow l (LaneMbx.spareCredit v.channel v.token)
    (modMbx (fun m => { m with paired := m.paired.map fun w => if w = v then { w with lanes := w.lanes + 2 ^ l.num } else w }) s)

/-- A copy that has passed steps 1 and 5: dropped where a DISCARDED notice covers it (R95), held against the majority's command or the accepted one
of its token (R77, R78), or held for pairing. -/
def takeCopy (l : Lane) (k : Nat) (env : Bytes) (s : State) : State :=
  let token := Bytes.field env 8 4
  let epoch := Bytes.field env 12 4
  let same (v : VotedIssue) : Bool := v.channel = k && v.token = token && !reissuedSince s v.envelope env
  if s.pair.role = .standby then s
  else if (tokenTable s (issuerOf 1 k)).discards.contains token && epoch != s.mbx.epoch then s
  else
    match s.mbx.voted.find? fun v => same v && hasBit v.lanes l.num with
    | some v => meetsVoted l v env s
    | none =>
      match s.mbx.paired.find? same with
      | some v => if v.envelope != env then windowMismatch s else if hasBit v.lanes l.num then pairCopy l k env s else joinPaired l v s
      | none => pairCopy l k env s

/-- LANE_COPY_TAKEOVER (R76, R77): copies of lanes out of the voting set are ignored. -/
def execLaneCopyTakeover (l : Lane) (k : Fin 16) (s : State) : Out :=
  match ((s.mbx.lanes.get l).channel k).doorbell with
  | none => .next s
  | some len =>
    let c := (s.mbx.lanes.get l).channel k
    let env := padTo len c.request
    let s := modChannel l k (fun c => { c with doorbell := none }) s
    if !inVotingSet (laneOf s l) then .next s
    else if !(laneCopyOk k len env && (channelOwner s k).isSome) then .next (modChannel l k (fun c => { c with hdrErr := true }) (countHeaderError s))
    else if 4 ≤ c.credits.length then .next (modChannel l k (fun c => { c with noCredit := true }) s)
    else .next (takeCopy l k env (modChannel l k (fun c => { c with credits := c.credits ++ [Bytes.field env 8 4] }) s))

/-! ### Signatures and verdicts (R122, R123, Table 4.8) -/

/-- The take of a task and number. -/
def VoteTake.same (v : VoteTake) (task take : Nat) : Bool := v.task = task && v.take = take

/-- The signature that a lane has posted. -/
def VoteTake.signature (v : VoteTake) : Lane → Option Word64
  | .a => v.a
  | .b => v.b
  | .c => v.c

/-- A lane's signature recorded, with its serialisation. -/
def VoteTake.post (l : Lane) (sig : Word64) (ser : List SerialRecord) (v : VoteTake) : VoteTake :=
  let v := { v with serialised := v.serialised.set l ser }
  match l with
  | .a => { v with a := some sig }
  | .b => { v with b := some sig }
  | .c => { v with c := some sig }

/-- An awaited take, and one changed. -/
def voteOf (s : State) (task take : Nat) : Option VoteTake := s.voter.takes.find? fun v => v.same task take
def modVote (task take : Nat) (f : VoteTake → VoteTake) (s : State) : State :=
  modVoter (fun v => { v with takes := v.takes.map fun t => if t.same task take then f t else t }) s

/-- The lanes that vote on a take: those that preceding decisions left (R125). -/
def votersOf (s : State) (v : VoteTake) : List Lane := Lane.all.filter fun l => hasBit v.lanes l.num && (laneOf s l).state = .voting

/-- What the voter decides. -/
inductive Verdict where
  | wait
  /-- release: the signature, the lanes of the majority, and those that have posted another -/
  | release (sig : Word64) (majority odd : List Lane)
  | lockout
  deriving DecidableEq, Repr

/-- The first signature of a list that two lanes have posted. -/
def agreedSignature : List (Lane × Word64) → Option Word64
  | [] => none
  | p :: l => if l.any fun q => q.2 = p.2 then some p.2 else agreedSignature l

/-- The decision on the signatures posted so far, of so many voting lanes (Table 4.8): two that agree release; without such a pair it is
Lock-out when every lane has posted. -/
def verdict (posted : List (Lane × Word64)) (voting : Nat) : Verdict :=
  match agreedSignature posted with
  | some sig => .release sig ((posted.filter fun p => p.2 = sig).map Prod.fst) ((posted.filter fun p => p.2 != sig).map Prod.fst)
  | none => if voting ≤ posted.length then .lockout else .wait

/-- The signatures that a take's voters have posted. -/
def postedBy (s : State) (v : VoteTake) : List (Lane × Word64) := (votersOf s v).filterMap fun l => (v.signature l).map fun x => (l, x)

/-- A mask of lanes. -/
def maskOf (l : List Lane) : Nat := laneMask l.contains

/-- The lanes of a mask. -/
def lanesOf (mask : Nat) : List Lane := Lane.all.filter fun l => hasBit mask l.num

/-- The lane of the majority that is first in the order A, B, C. -/
def firstLane (mask : Nat) : Lane := (lanesOf mask).headD .a

/-- The signature that released a take. -/
def VoteTake.voted (v : VoteTake) : Option Word64 := v.released.bind fun m => v.signature (firstLane m)

/-! ### The trace (R144) -/

/-- The 48 bytes of a trace entry. -/
def traceEntry (v : VoteTake) (decision : Nat) (isolated : Option Lane) (s : State) : Bytes :=
  let sig (x : Option Word64) : Bytes := le 8 ((x.map BitVec.toNat).getD 0)
  le 1 v.task ++ le 1 decision ++ le 1 ((isolated.map Lane.num).getD 0xFF) ++ le 1 (votingMask s) ++ le 4 v.epoch ++ le 8 v.take ++
    sig v.a ++ sig v.b ++ sig v.c ++ le 4 ((s.time - v.t0) / micro 1) ++ le 4 0

/-- A finding after a release traced, by what it leads to. DESIGN CHOICE: it is an entry of its own (log entry 140). -/
def lateDecision (s : State) (l : Lane) : Nat × Option Lane := if maskCount (votingMask s) = 3 then (1, some l) else (2, none)

/-- A decision traced. -/
def traceDecision (v : VoteTake) (decision : Nat) (isolated : Option Lane) (s : State) : State := traceAdd (traceEntry v decision isolated s) s

/-! ### Lanes lost, and Lock-out (R123 to R129) -/

/-- Lock-out by the vote: a Standby's has its own cause (Table 8.10). -/
def voteLockout (boundary : Bool) (cause : Nat) (v : VoteTake) (s : State) : State :=
  if s.pair.role = .standby then lockOut boundary 5 0 v.task v.take 0 s else lockOut boundary cause 0 v.task v.take v.task s

/-- A voting lane is found wrong on a take: isolated in three-lane operation, Lock-out in two-lane operation. -/
def loseVoter (boundary : Bool) (l : Lane) (cause : Nat) (v : VoteTake) (s : State) : State :=
  if maskCount (votingMask s) = 3 then isolateLane boundary l cause v.task v.take false s else voteLockout boundary 2 v s

/-- The comparison of R127 is asked for, unless Squall made the difference. -/
def askComparison (l : Lane) (v : VoteTake) (s : State) : State :=
  if hasBit v.corrupted l.num then s
  else match v.released with
    | some m => modVoter (fun x => { x with divergence := x.divergence ++ [(l.num, v.task, v.serialised.get l, v.serialised.get (firstLane m))] }) s
    | none => s

/-- A lane dissents from the majority: causes 0, and 8 where Squall inverted a bit. -/
def dissents (l : Lane) (v : VoteTake) (s : State) : State :=
  let s := askComparison l v (modHealth l (fun h => { h with dissents := h.dissents + 1 }) s)
  loseVoter false l (if hasBit v.corrupted l.num then 8 else 0) v s

/-! ### What a voted lane holds (R80, R82, R113) -/

/-- A take leaves a lane: its state stands. -/
def takeVoted (l : Lane) (v : VoteTake) (s : State) : State :=
  laneVoted l v.task v.take (modLane l (fun x => { x with takes := x.takes.filter fun t => !(t.task = v.task && t.take = v.take) }) s)

/-- A lane counted in the majority. -/
def inMajority (v : VoteTake) (l : Lane) (s : State) : State :=
  takeVoted l v (modHealth l (fun h => { h with majority := h.majority + 1 }) s)

/-- A lane in probation meets the majority's signature (R132, R136). -/
def compareProbation (sig : Word64) (v : VoteTake) (l : Lane) (s : State) : State :=
  if !hasBit v.probation l.num || !(laneOf s l).reshooting then s
  else match v.signature l with
    | none => s
    | some x => if x = sig then passProbation l v.task (takeVoted l v s) else failReshoot l s

/-- Signatures that a take still awaits: of voters, and of lanes in probation. -/
def awaits (s : State) (v : VoteTake) : Bool :=
  Lane.all.any fun l => (v.signature l).isNone &&
    (hasBit v.lanes l.num && (laneOf s l).state = .voting || hasBit v.probation l.num && (laneOf s l).reshooting)

/-- A decided take whose signatures are all in is awaited no longer. -/
def closeTake (task take : Nat) (s : State) : State :=
  match voteOf s task take with
  | some v => if v.released.isSome && !awaits s v then modVoter (fun x => { x with takes := x.takes.filter fun t => !t.same task take }) s else s
  | none => s

/-! ### What a release does (R16, R218, Table 4.4) -/

/-- Values of a released output image, by identity. -/
def outputValue (l : List SerialRecord) (id : Nat) : Option Bytes := ((tagged 1 l).find? fun r => r.identity = id).map SerialRecord.value

/-- Whether a take commands SOi on: its output binding of kind 2. -/
def commandsOutput (i : Image) (r : TaskRec) (l : List SerialRecord) (n : Nat) : Bool :=
  (taskOutputs i r).any fun b => b.kind = 2 && b.target = n && (outputValue l b.source).any fun v => !allZero v

/-- The safe outputs that a take commands on. -/
def commandedMask (i : Image) (r : TaskRec) (l : List SerialRecord) : Nat := outputMask (commandsOutput i r l)

/-- A safe output released: the lanes of the majority close or open their switch pairs, and the timeout starts again (R287, R288). -/
def releaseOutput (n : Nat) (on : Bool) (majority : Nat) (s : State) : State :=
  modOutput n (fun o => { o with
    commanded := if on then majority else 0, releasedAt := some s.time, timedOut := false
    offSince := if on then none else if o.commanded = 0 && o.offSince.isSome then o.offSince else some s.time }) s

/-- One output binding released. -/
def releaseBinding (i : Image) (majority : Nat) (l : List SerialRecord) (b : OutputBinding) (s : State) : State :=
  match i.byIdentity b.source, outputValue l b.source with
  | some (_, y), some v =>
    match b.kind with
    | 1 => publishFlow b.target (toWire i y b.network v) s
    | 2 => releaseOutput b.target (!allZero v) majority s
    | _ => releaseMvb b.target (toWire i y b.network v) s
  | _, _ => s

/-- An application record (R475), or the record of a fault word (R175). -/
def applicationRecord (v : VoteTake) (r : SerialRecord) (s : State) : State :=
  makeRecord .general ⟨Bytes.field r.value 0 2, Bytes.field r.value 2 2, 2, v.task, v.epoch, r.value.drop 4⟩ s

/-- One value of a mirrored or retentive variable (R218, R244). -/
def keepValue (i : Image) (r : SerialRecord) (s : State) : State :=
  let s := modPair (fun p => { p with mirror := setById p.mirror r.identity r.value }) s
  if (i.byIdentity r.identity).any fun p => p.2.retentive then modProg (fun p => { p with retentive := setById p.retentive r.identity r.value }) s
  else s

/-- A command recorded with tag 0x03 (R77): accepted now when a majority lane's copy is held, else when the first such copy comes. -/
def issueVoted (majority : Nat) (r : SerialRecord) (s : State) : State :=
  let k := r.key
  let env := r.value
  let token := Bytes.field env 8 4
  let discarded : Bool := (tokenTable s (issuerOf 1 k)).discards.contains token && Bytes.field env 12 4 != s.mbx.epoch
  if discarded || s.mbx.paired.any fun p => p.channel = k && p.envelope = env then s
  else
    let mine (h : HeldCopy) : Bool := h.channel = k && h.token = token && hasBit majority h.lane.num
    let equal := s.mbx.held.filter fun h => mine h && h.envelope = env
    if !equal.isEmpty then
      acceptVoted k env (maskOf (equal.map HeldCopy.lane)) (modMbx (fun m => { m with voteAcceptances := m.voteAcceptances + 1 }) s)
    else modMbx (fun m => { m with
      windowMismatches := m.windowMismatches + (m.held.filter mine).length
      held := m.held.filter fun h => !(h.channel = k && h.token = token)
      voted := (m.voted.filter fun v => !(v.channel = k && v.token = token)) ++ [⟨k, token, env, majority⟩] }) s

/-- The commands of a released take, and the copies of tokens that the majority never issues (R78). -/
def issueCommands (majority : Nat) (v : VoteTake) (l : List SerialRecord) (s : State) : State :=
  let s := (tagged 3 l).foldl (fun t r => issueVoted majority r t) s
  modMbx (fun m => { m with held := m.held.filter fun h => !(h.task = v.task && h.take = v.take) }) s

/-- The leaves that a VARIABLE_READ names, in a lane. -/
def readLeaves (i : Image) (x : LaneSt) (q : VarRead) : Bytes :=
  match i.byIdentity q.identity with
  | none => []
  | some (n, y) => ((List.range q.count).filterMap fun k => i.leaf y (q.first + k)).flatMap fun p => Bytes.slice (x.value i n y) p.2 p.1.bytes

/-- The reads that wait for a task's vote. -/
def readsOf (s : State) (i : Image) (task : Nat) : List VarRead :=
  s.prog.varReads.filter fun q => (i.byIdentity q.identity).any fun p => p.2.owner = task

/-- The lane whose copy of a read's leaves fails, where two lanes of the majority differ: the first of them if a third agrees with the second,
otherwise the second. -/
def readLoser (s : State) (i : Image) (p q : Lane) (rest : List Lane) (x : VarRead) : Lane :=
  if rest.any fun r => readLeaves i (laneOf s r) x = readLeaves i (laneOf s q) x then p else q

/-- VARIABLE_READs complete (R232) with the leaves that two lanes of the majority have alike. Where they differ it is a dissent under R218, and the
read waits for the task's next vote. -/
def answerReads (i : Image) (v : VoteTake) (majority : List Lane) (s : State) : State :=
  match majority with
  | p :: q :: rest =>
    let reads := readsOf s i v.task
    let equal (x : VarRead) : Bool := readLeaves i (laneOf s p) x = readLeaves i (laneOf s q) x
    let done := (reads.filter equal).map fun x => (x, readLeaves i (laneOf s p) x)
    let lost := ((reads.filter fun x => !equal x).head?).map (readLoser s i p q rest)
    let s := modProg (fun g => { g with varReads := g.varReads.filter fun x => !(reads.contains x && equal x) }) s
    let s := done.foldl (fun t x => completeEntry x.1.entry stOk (le 8 v.take ++ le 4 v.epoch ++ x.2) t) s
    match lost with
    | some l => loseVoter false l 9 v s
    | none => s
  | _ => s

/-- Every task of a switched recut has had a voted take: its retentive commit starts (Table 6.6). -/
def recutVoted (s : State) : State :=
  match s.prog.recut, runningImage s with
  | some r, some i =>
    if r.switched && i.tasks.all fun t => (taskRun s t.task).voted then beginCommit 3 (modProg (fun p => { p with recut := none }) s) else s
  | _, _ => s

/-! ### TAKE_END (R244) -/

/-- The checkpoint of a task: its mirrored and retentive variables by a list of values. -/
def checkpointBytes (i : Image) (task : Nat) (values : List (Nat × Bytes)) : Bytes :=
  let kept := i.symbols.filter fun y => y.owner = task && (y.mirrored || y.retentive)
  recordsBytes (kept.map fun y => ⟨y.identity, 2, (valueById values y.identity).getD (i.initial y)⟩)

/-- A flow entry, and a cue entry. -/
def flowEnd (s : State) (n : Nat) : Bytes :=
  match flowOf s n with
  | some f => le 2 n ++ le 2 (bit f.record.sdt) ++ le 4 ((f.sequence + 2 ^ 32 - 1) % 2 ^ 32) ++ le 4 ((f.safeSequence + 2 ^ 32 - 1) % 2 ^ 32)
  | none => le 2 n ++ le 2 0 ++ le 4 0 ++ le 4 0
def cueEnd (c : Nat × Nat × Nat) : Bytes := le 1 c.1 ++ le 1 c.2.1 ++ le 2 0 ++ le 4 c.2.2

/-- The TAKE_END message of a decision. -/
def takeEndBody (i : Image) (r : TaskRec) (v : VoteTake) (decision outputs : Nat) (sig : Word64) (s : State) : Bytes :=
  let flows := ((taskOutputs i r).filter fun b => b.kind = 1).map OutputBinding.target
  let cues := cueValues s v.task
  let check := checkpointBytes i v.task s.pair.mirror
  le 1 v.task ++ le 1 decision ++ le 1 (votingMask s) ++ le 1 outputs ++ le 4 v.epoch ++ le 8 v.take ++ le 8 sig.toNat ++
    le 4 ((s.time - v.t0) / micro 1) ++ le 4 (healthValue s) ++ le 2 flows.length ++ le 2 cues.length ++ le 4 check.length ++ le 8 (crc64 check) ++
    flows.flatMap (flowEnd s) ++ cues.flatMap cueEnd ++ check

/-- An Active tells its partner how a take has ended. -/
def sendTakeEnd (i : Image) (r : TaskRec) (v : VoteTake) (decision outputs : Nat) (sig : Word64) (s : State) : State :=
  if s.pair.role = .active then slipstream 6 (takeEndBody i r v decision outputs sig s) s else s

/-! ### The release -/

/-- What the majority's serialisation releases outside the module (Table 4.4). -/
def releaseImage (i : Image) (r : TaskRec) (v : VoteTake) (majority : Nat) (l : List SerialRecord) (s : State) : State :=
  let s := (taskOutputs i r).foldl (fun t b => releaseBinding i majority l b t) s
  let s := if (taskOutputs i r).any fun b => b.kind = 2 then evaluateGates s else s
  let s := releaseCues v.task ((tagged 4 l).map fun q => (q.key, q.value)) s
  let s := (tagged 5 l).foldl (fun t q => applicationRecord v q t) s
  let s := (tagged 2 l).foldl (fun t q => keepValue i q t) s
  if s.pair.role = .active && supervisedNow s = v.task then emit (.pairTelegram (Config.moduleAddress (identifier s)) s.pair.pairComId v.task v.take) s else s

/-- A take that is released: everything that its serialisation holds. -/
def releaseTake (i : Image) (r : TaskRec) (v : VoteTake) (majority : Nat) (l : List SerialRecord) (s : State) : State :=
  let s := issueCommands majority v l (releaseImage i r v majority l s)
  recutVoted (modTask v.task (fun t => { t with voted := true }) s)

/-- A take that is decided for comparison only (R245): its cue requests act on the Standby's cues, and the decision meets the Active's. -/
def compareOwn (i : Image) (r : TaskRec) (v : VoteTake) (decision : Nat) (sig : Word64) (first : Lane) (l : List SerialRecord) (s : State) : State :=
  let s := (tagged 4 l).foldl (fun t q => applyCueRequest q.key q.value t) s
  let s := recutVoted (modTask v.task (fun t => { t with voted := true }) s)
  let values := laneValues i (laneOf s first) fun y => y.mirrored || y.retentive
  ownDecided ⟨v.task, v.take, decision, sig, commandedMask i r l, BitVec.ofNat 64 (crc64 (checkpointBytes i v.task values))⟩ s

/-- A lane's serialisation has the voted signature (R218). -/
def sound (v : VoteTake) (sig : Word64) (l : Lane) : Bool := signatureOf (v.serialised.get l) = sig

/-- The lanes of the majority that the Gaffer reads in vain, in the order A, B, C, up to the first whose check passes, and that one (R218). -/
def soundLanes (v : VoteTake) (sig : Word64) (majority : List Lane) : List Lane × Option Lane :=
  (majority.takeWhile fun l => !sound v sig l, majority.find? (sound v sig))

/-- The take of a released vote is stamped as such. -/
def markReleased (v : VoteTake) (majority : List Lane) (s : State) : State :=
  modVote v.task v.take (fun x => { x with released := some (maskOf majority), decided := x.compareOnly }) s

/-- What follows each decision: the end of a program stop, and a handover that has waited (R212, R257). -/
def afterDecision (s : State) : State :=
  match s.prog.stopping with
  | some (id, n) =>
    let s := modProg (fun p => { p with stopping := some (id, n + 1) }) s
    handoverStep (if inFlight s then s else stopSteps s)
  | none => handoverStep s

/-- The majority's serialisation that is released: the first whose check passes; a Standby takes the first of the majority. -/
def soundSerial (v : VoteTake) (sig : Word64) (majority : List Lane) : Option Lane :=
  if v.compareOnly then majority.head? else (soundLanes v sig majority).2

/-- Lanes whose serialisation fails the check of R218 leave the voting set (cause 9). -/
def checkFails (v : VoteTake) (sig : Word64) (majority : List Lane) (s : State) : State :=
  if v.compareOnly then s else (soundLanes v sig majority).1.foldl (fun t l => loseVoter false l 9 v t) s

/-- The effects of a release that need its serialisation. -/
def releaseSerial (i : Image) (r : TaskRec) (v : VoteTake) (sig : Word64) (majority odd : List Lane) (s : State) : State :=
  let decision := bit (!odd.isEmpty)
  match soundSerial v sig majority with
  | none => s
  | some l =>
    answerReads i v majority <|
      if v.compareOnly then compareOwn i r v decision sig l (v.serialised.get l) s
      else releaseTake i r v (maskOf majority) (v.serialised.get l) s

/-- The TAKE_END of a release, which shows the lanes and the health as the decision leaves them (Table 7.5). -/
def endRelease (i : Image) (r : TaskRec) (v : VoteTake) (sig : Word64) (majority odd : List Lane) (s : State) : State :=
  match soundSerial v sig majority with
  | some l => if v.compareOnly then s else sendTakeEnd i r v (bit (!odd.isEmpty)) (commandedMask i r (v.serialised.get l)) sig s
  | none => s

/-- The voter releases a take (Table 4.8), and isolates the lanes that have posted another signature. -/
def decideRelease (i : Image) (r : TaskRec) (v : VoteTake) (sig : Word64) (majority odd : List Lane) (s : State) : State :=
  let s := traceDecision v (bit (!odd.isEmpty)) odd.head? (markReleased v majority s)
  let v := { v with released := some (maskOf majority) }
  let s := countShadow v.task (majority.foldl (fun t l => inMajority v l t) s)
  let s := checkFails v sig majority (releaseSerial i r v sig majority odd s)
  let s := Lane.all.foldl (fun t l => compareProbation sig v l t) s
  let s := reshootAtVote v.task v.t0 s
  let s := endRelease i r v sig majority odd (odd.foldl (fun t l => dissents l v t) s)
  let s := closeTake v.task v.take (if v.compareOnly then s else resyncAtVote v.task v.t0 s)
  afterDecision s

/-- No two signatures agree, or fewer than two have come: nothing is released (Table 4.8). -/
def decideLockout (boundary : Bool) (i : Image) (r : TaskRec) (v : VoteTake) (s : State) : State :=
  let s := sendTakeEnd i r v 2 0 0 (traceDecision v 2 none s)
  voteLockout boundary (if (votersOf s v).length = 3 then 1 else 2) v s

/-- A signature that agrees with a release already made: its lane's switch pairs follow. -/
def joinMajority (i : Image) (r : TaskRec) (v : VoteTake) (l : Lane) (s : State) : State :=
  let s := modVote v.task v.take (fun x => { x with released := x.released.map (· + 2 ^ l.num) }) (inMajority v l s)
  let follow (t : State) (b : OutputBinding) : State :=
    modOutput b.target (fun o => if o.commanded = 0 then o else { o with commanded := o.commanded ||| 2 ^ l.num }) t
  let s := if v.compareOnly then s else ((taskOutputs i r).filter fun b => b.kind = 2).foldl follow s
  closeTake v.task v.take s

/-- A signature that differs from a release already made (R124). -/
def lateDissent (v : VoteTake) (l : Lane) (s : State) : State :=
  let d := lateDecision s l
  closeTake v.task v.take (dissents l v (traceDecision v d.1 d.2 s))

/-- A voter's signature has arrived. -/
def arrival (i : Image) (r : TaskRec) (v : VoteTake) (l : Lane) (s : State) : State :=
  match v.voted with
  | some sig => if v.signature l = some sig then joinMajority i r v l s else lateDissent v l s
  | none =>
    match verdict (postedBy s v) (votersOf s v).length with
    | .wait => s
    | .release sig majority odd => decideRelease i r v sig majority odd s
    | .lockout => decideLockout false i r v s

/-! ### SIGNATURE_POST (R112, R122) -/

/-- Signature corruption of Squall (R524): the signature as the voter receives it, whether a bit of it is inverted, and the state. -/
def corruptSignature (l : Lane) (sig : Word64) (s : State) : Word64 × Bool × State :=
  let w := s.test.corrupt.toNat
  if !s.test.squall || !hasBit w 31 || w / 2 ^ 24 % 4 != l.num then (sig, false, s)
  else if maskCount (votingMask s) < 3 then (sig, false, modTest (fun t => { t with held := t.held + 1 }) s)
  else
    let count := w % 256 - 1
    let left := w - w % 256 + count - (if count = 0 then 2 ^ 31 else 0)
    (sig ^^^ (1 <<< (w / 2 ^ 16 % 64)), true, countApplied (modTest (fun t => { t with corrupt := BitVec.ofNat 32 left }) s))

/-- A take's response time in a lane, µs. -/
def countResponse (l : Lane) (t : LaneTake) (s : State) : State :=
  let us := (s.time - t.readyAt) / micro 1
  modHealth l (fun h => { h with response := Tbl.put h.response t.task (max us (Tbl.get h.response t.task 0)) }) s

/-- The lane's side of posting: copy-out, serialisation and signature; the watchdog is served. -/
def postInLane (i : Image) (l : Lane) (t : LaneTake) (s : State) : State × List SerialRecord :=
  let x := copyOut i s.time (laneOf s l) t
  let ser := serialise i x t
  let x := x.setTake { t with phase := .posted }
  let x := { x with kept := Tbl.put x.kept t.task (keptSerialisation ser), watchdogServed := s.time
                    actReady := if hasBit x.actReady t.task then x.actReady - 2 ^ t.task else x.actReady }
  (countResponse l t (modLane l (fun _ => x) s), ser)

/-- The voter receives a signature: it is recorded, and decided on. -/
def voterReceives (i : Image) (r : TaskRec) (v : VoteTake) (l : Lane) (sig : Word64) (ser : List SerialRecord) (s : State) : State :=
  let c := if hasBit v.lanes l.num then corruptSignature l sig s else (sig, false, s)
  let v := { v.post l c.1 ser with corrupted := v.corrupted + (if c.2.1 then 2 ^ l.num else 0) }
  let s := modVote v.task v.take (fun _ => v) c.2.2
  if hasBit v.lanes l.num then arrival i r v l s
  else match v.voted with
    | some sig => closeTake v.task v.take (compareProbation sig v l s)
    | none => s

/-- A signature in time. `upset` is what a fault in the lane makes of it. -/
def postSignature (i : Image) (r : TaskRec) (v : VoteTake) (l : Lane) (t : LaneTake) (upset : Word64) (s : State) : State :=
  let p := postInLane i l t s
  voterReceives i r v l (signatureOf p.2 ^^^ upset) p.2 p.1

/-- A posting names a take whose deadline has passed. -/
def postedLate (s : State) (task take : Nat) : Bool :=
  match runningTask s task with
  | none => false
  | some r =>
    let x := taskRun s task
    0 < take && (take < x.takes || take = x.takes && x.lastInstant.any fun t => t + micro r.deadline < s.time)

/-- The take that a posting names, as the voter awaits it from a lane. -/
def awaitedFrom (s : State) (l : Lane) (task take : Nat) : Option VoteTake :=
  (voteOf s task take).filter fun v => (hasBit v.lanes l.num || hasBit v.probation l.num) && (v.signature l).isNone

/-- A posting for an awaited take that the lane has not finished: what it posts counts, with no serialisation behind it. -/
def postUnfinished (i : Image) (r : TaskRec) (v : VoteTake) (l : Lane) (sig : Word64) (s : State) : State :=
  voterReceives i r v l sig [] s

/-- SIGNATURE_POST (R112, R122): a posting of an isolated lane is ignored, a late one discarded; one that names no awaited take is a lane fault. The
epoch that the lane posts is its snapshot's and names nothing more. -/
def execSignaturePost (l : Lane) (task take _epoch : Nat) (upset : Word64) (s : State) : Out :=
  let x := laneOf s l
  if !lanesRun s || !(inVotingSet x || x.reshooting && x.state != .restarting) then .next s
  else
    match awaitedFrom s l task take, runningImage s with
    | some v, some i =>
      match taskRec i task, x.takes.find? fun t => t.task = task && t.take = take && t.phase = .running && t.frames.isEmpty with
      | some r, some t => .next (if v.deadline < s.time then s else postSignature i r v l t upset s)
      | some r, none => .next (if v.deadline < s.time then s else postUnfinished i r v l upset s)
      | none, _ => .next s
    | _, _ => .next (if postedLate s task take then s else laneFault l .trap s)

/-! ### VOTE_DEADLINE (R122, R194) -/

/-- A lane has not posted by the deadline: its take is abandoned. -/
def missed (v : VoteTake) (l : Lane) (s : State) : State :=
  let s := modHealth l (fun h => { h with missing := h.missing + 1 }) s
  ((laneOf s l).takes.filter fun t => t.task = v.task && t.take = v.take).foldl (fun t u => abandonTake l u t) s

/-- A lane in probation that has not posted fails its reshoot. -/
def missedProbation (v : VoteTake) (l : Lane) (s : State) : State :=
  if hasBit v.probation l.num && (laneOf s l).reshooting && (v.signature l).isNone then failReshoot l s else s

/-- A missing lane after a release is isolated (R124). -/
def missingLost (v : VoteTake) (l : Lane) (s : State) : State :=
  let d := lateDecision s l
  loseVoter true l 1 v (traceDecision v d.1 d.2 s)

/-- The deadline of a take: what is missing is decided. -/
def atDeadline (i : Image) (r : TaskRec) (v : VoteTake) (s : State) : State :=
  let missing := (votersOf s v).filter fun l => (v.signature l).isNone
  let s := missing.foldl (fun t l => missed v l t) s
  let s := Lane.all.foldl (fun t l => missedProbation v l t) s
  let s := modVoter (fun x => { x with takes := x.takes.filter fun t => !t.same v.task v.take }) s
  match v.released with
  | some _ => missing.foldl (fun t l => missingLost v l t) s
  | none => decideLockout true i r v s

/-- The awaited take whose deadline the voter takes first among those due in a clock period or before: by the period of GF in which the deadline
falls, then by task priority, highest first (R125). -/
def firstDue (s : State) (period : Nat) : Option VoteTake :=
  let before (a b : VoteTake) : Bool := a.deadline / 5 < b.deadline / 5 || a.deadline / 5 = b.deadline / 5 && taskPriority s a.task < taskPriority s b.task
  (s.voter.takes.filter fun v => v.deadline / 5 ≤ period).foldl (fun best v => match best with
    | none => some v
    | some b => if before v b then some v else some b) none

/-- The deadlines that are due, one decision after the other, up to and with the one of a take. -/
def decideDue (i : Image) (v : VoteTake) : Nat → State → State
  | 0, s => s
  | fuel + 1, s =>
    match firstDue s (v.deadline / 5) with
    | none => s
    | some w =>
      match taskRec i w.task with
      | none => s
      | some r =>
        let s := atDeadline i r w (reach w.deadline s)
        if w.same v.task v.take then s else decideDue i v fuel s

/-- VOTE_DEADLINE (R122, R125): the deadline of a task's oldest awaited take, after those that the voter takes before it. -/
def execVoteDeadline (task : Nat) (s : State) : Out :=
  match s.voter.takes.find? fun v => v.task = task, runningImage s with
  | some v, some i => .next (decideDue i v (s.voter.takes.length) s)
  | _, _ => .next s

end Sys2Proof.Machine
end

