-- ==== Sys2Proof/Machine/Events.lean ====
section
/-! DEFINITION. Events that meet the whole module: the heartbeat, links, the end of a retentive commit, message data, the messages of the
partner that carry commands, and the grants of resources. -/

namespace Sys2Proof.Machine

/-! ### The heartbeat (R408, R409) -/

/-- Flags of the heartbeat: those of MODULE_STATUS, and bit 5 while every safe output is off. -/
def heartbeatFlags (s : State) : Nat := moduleFlags s + 32 * bit (!(List.range 8).any fun i => terminalOn s i)

/-- The 64 bytes of Table 11.6. -/
def heartbeatData (s : State) : Bytes :=
  identifier s ++ axesBytes s ++ le 1 (if s.pair.enabled then s.module.side else 0) ++ [0] ++ be 4 (heartbeatFlags s) ++ be 4 s.mbx.epoch ++
    be 4 (healthValue s) ++ be 8 (localSeconds s) ++ be 4 (localNanos s) ++ be 4 s.net.heartbeats ++
    (if (runningImage s).isSome then padTo 8 (slotOf s s.prog.slot).digest else padTo 8 [])

/-- HEARTBEAT (R409): at each period from its start until the module is Stowed. -/
def execHeartbeat (s : State) : Out :=
  if !s.net.heartbeatOn || !hasMailbox s then .next s
  else
    let s := reach (s.net.heartbeatAt + milli s.net.heartbeatMs) s
    let s := modNet (fun n => { n with heartbeats := n.heartbeats + 1, heartbeatAt := s.time }) s
    .next (emit (.heartbeat (Config.moduleAddress (identifier s)) s.net.heartbeatComId s.net.heartbeatGroup (heartbeatData s)) s)

/-! ### Links (R251, R371, R440) -/

/-- A change of link counted on a fabric port. -/
def portLink (port : Nat) (up : Bool) (rate : Nat) (s : State) : State :=
  modPort port (fun p => { p with up := up, rate := if up then rate else p.rate, linkChanges := p.linkChanges + bit (p.up != up)
                                  sending := if up then p.sending else none }) s

/-- Both lines of a direction of the backbone have lost their link: a change of topology. -/
def directionLost (port : Nat) (s : State) : Bool := port < 4 && !(portOf s (port - port % 2)).up && !(portOf s (port - port % 2 + 1)).up

/-- LINK_CHANGE (R371): ports 0 to 27 of the fabric, and 32 and 33 for the Slipstream ports X22 and X23. -/
def execLinkChange (port : Nat) (up : Bool) (rate : Nat) (s : State) : Out :=
  if s.module.state = .stowed || s.module.state = .halted then .next s
  else if port = 32 || port = 33 then .next (slipLink (port - 32) up s)
  else if internalPort port then .next s
  else
    let was := (portOf s port).up
    let s := ptpLink port up (portLink port up rate s)
    .next (if was && !up && directionLost port s then startInauguration s else s)

/-! ### The end of a retentive commit (R219, R266) -/

/-- RETENTIVE_COMMIT_COMPLETE: a commit that fails on a Standby is a failed mirror write; an activation of an update may have waited for it. -/
def execRetentiveCommitComplete (written : Bool) (s : State) : Out :=
  if s.prog.commit.isNone then .next s
  else
    let s := endCommitStep written s
    .next (updateStopped (if written then s else failMirror s))

/-! ### Message data (R86, R402) -/

/-- The fields of an envelope. -/
def envelopeMsg (session : Nat) (b : Bytes) : Msg where
  session := session
  magic := word (Bytes.field b 0 4)
  version := BitVec.ofNat 8 (Bytes.field b 4 1)
  flags := BitVec.ofNat 8 (Bytes.field b 5 1)
  token := word (Bytes.field b 8 4)
  epoch := word (Bytes.field b 12 4)
  length := word (Bytes.field b 16 4)
  issuer := word (Bytes.field b 20 4)
  reserved := word (Bytes.field b 24 4)
  hcrc := word (Bytes.field b 28 4)
  payload := b.drop 32

/-- A session is a hardware session. -/
def isPeer (s : State) (n : Nat) : Bool := match Tbl.find s.trust.sessions n with
  | some x => x.kind = .peer
  | none => false

/-- MESSAGE_DATA_RECEIVE (R86, R402): a request of a hardware session on the command ComId; nothing else is answered, and while Reel restarts
everything is dropped and counted. -/
def execMessageDataReceive (session comId : Nat) (envelope : Bytes) (s : State) : Out :=
  if !hasMailbox s then .next s
  else if !reelRuns s then .next (toReel s)
  else if comId = s.mbx.commandComId && isPeer s session && 32 ≤ envelope.length then
    let s := match (Tbl.find s.trust.sessions session).bind Session.context with
      | some c => countMessage c s
      | none => s
    .next (receive commands (Bytes.field envelope 6 2) (envelopeMsg session envelope) s)
  else .next s

/-! ### What the Active forwards (R252, R267) -/

/-- The role of the pair alone replaced. -/
def withRole (r : PairRole) (s : State) : State := modPair (fun p => { p with role := r }) s

/-- A settings change of the Active, made by the command that made it there; one that cannot be applied is a failed mirror write, and leaves the
settings apart (R252). Code 0x0803 states a coefficient bank that a dissolve has made the active one. -/
def applySettings (c : Nat × Bytes) (s : State) : State :=
  if c.1 = 0x0803 then takeBank c.2 s else
  match commands c.1 with
  | none => setReason 3 true (failMirror s)
  | some cmd =>
    let e : Entry := { id := s.mbx.nextId, code := c.1, issuer := 0, token := 0, epoch := s.mbx.epoch, payload := c.2, stamp := gfCount s, origin := none,
                       sessions := [], channel := none, roles := 0, fast := false, phase := .under, committed := false }
    match cmd.body e (withRole .solo s) with
    | (t, .done status _) => if status ≤ stDeferred then withRole .standby t else setReason 3 true (failMirror (withRole .standby t))
    | (t, .goesOn _ _) => withRole .standby t

/-- CONTROL (R252). -/
def controlHeard (message : PairControl) (s : State) : Out :=
  if !s.pair.present then .next s
  else
    match message with
    | .settings code payload => .next (asStandby (applySettings (code, payload)) s)
    | _ => .next (applyControl message s)
def execSlipControl (m : Arrived PairControl) (s : State) : Out := heard m.got (controlHeard m.body) s

/-- The configuration of a resynchronisation (Table 7.12). -/
def applyConfiguration (tStart : Nat) (settings : List (Nat × Bytes)) (forces : List Bytes) (tokens : List (Nat × Nat × Bytes)) (s : State) : State :=
  let s := settings.foldl (fun t c => applySettings c t) s
  let s := tokens.foldl (fun t c => copyToken c.1 c.2.1 c.2.2 t) s
  mirrorForces forces (joinProgram (modPair (fun p => { p with partnerStart := tStart }) s))

/-- RESYNC (R252, R267). -/
def resyncHeard (message : PairResync) (s : State) : Out :=
  if !s.pair.present then .next s
  else
    match message with
    | .configuration t settings forces tokens =>
      .next (asStandby (fun s => if s.pair.resyncAt.isSome then applyConfiguration t settings forces tokens s else s) s)
    | .image object => .next (asStandby (receiveImage object) s)
    | .state task records crc => .next (stateReceived task records crc s)
def execSlipResync (m : Arrived PairResync) (s : State) : Out := heard m.got (resyncHeard m.body) s

/-! ### Grants (R90, R91) -/

/-- The command that a resource serves next: the oldest that waits; fast lane and ordinary commands alternate, a fast one first. -/
def nextWaiting (s : State) (r : Resource) : Option Entry :=
  let w := s.mbx.queue.filter fun e => e.phase = .waits r
  match w.find? Entry.fast, w.find? fun e => !e.fast with
  | some f, some o => if s.mbx.fastLast.contains r then some o else some f
  | some f, none => some f
  | none, o => o

/-- Which queue the last contended grant of a resource went to. -/
def noteGrant (r : Resource) (e : Entry) (s : State) : State :=
  modMbx (fun m => { m with fastLast := m.fastLast.filter (· != r) ++ if e.fast then [r] else [] }) s

/-- The flash programmer has finished with a command: its chunk is written. -/
def resourceDone (e : Entry) (s : State) : State :=
  match e.code with
  | 0x0302 => chunkWritten e s
  | 0x0E02 => stageWritten e s
  | _ => s

/-- RESOURCE_GRANT (R90): a resource finishes serving a command, and serves the next. The Argon2id evaluator and the Cutter grant themselves at
their own events. -/
def execResourceGrant (resource : Resource) (s : State) : Out :=
  if resource = .argon || resource = .cutter then .next s
  else
    let s := match s.mbx.queue.find? fun e => e.phase = .holds resource with
      | some e => resourceDone e s
      | none => s
    match nextWaiting s resource with
    | some e => .next (serve commands e (noteGrant resource e s))
    | none => .next s

/-! ### The Cutter (R165, R186) -/

/-- An image is translated: IMAGE_LOAD completes, a start that waited is served, and a Standby tells its Active. -/
def cutDone (why : CutFor) (i : Image) (x : ImageSlot) (ms : Nat) (s : State) : State :=
  match why with
  | .command id =>
    match s.mbx.queue.find? fun e => e.id = id with
    | some e => if e.code = 0x0303 then serve commands e s else completeEntry id stOk (loadResult i x.version ms) s
    | none => s
  | .partner => tellHeld x.digest s
  | .reshoot _ => s

/-- An image that fails the Cutter's verification or its diversity: its slot is failed and the command completes; a Standby then lacks an image
of its Active; at a reshoot the reshoot fails (R184). -/
def cutRefused (why : CutFor) (slot status : Nat) (result : Bytes) (s : State) : State :=
  match why with
  | .command id => completeEntry id status result (failSlot slot s)
  | .partner => setReason 0 true (failSlot slot s)
  | .reshoot l => failReshoot (Lane.at l) s

/-- Event CUTTER_TRANSLATION_DONE: the image that the Cutter has been working on is done with, and it takes the next. -/
def execCutterTranslationDone (report : CutterReport) (s : State) : Out :=
  let s := nextCut s
  match s.prog.cutting with
  | none => .next s
  | some (slot, why) =>
    let x := slotOf s slot
    let r := cut slot report (modProg (fun p => { p with cutting := none }) s)
    .next (nextCut (match r.1 with
      | .idle => r.2
      | .refused status result => cutRefused why slot status result r.2
      | .done i => cutDone why i x report.ms r.2))

end Sys2Proof.Machine
end

