-- ==== Sys2Proof/Machine/Dispatch.lean ====
section
/-! DEFINITION. The dispatch: one arm for each command, in the order of the opcode table. -/

namespace Sys2Proof.Machine

/-- What a command does to everything but the queue. -/
def exec (i : Instr) (s : State) : Host.Outcome State Fault Refusal :=
  match i with
  | .sessionLogin m => Sys2Proof.Machine.execSessionLogin m s
  | .sessionEnd m => Sys2Proof.Machine.execSessionEnd m s
  | .sessionList m => Sys2Proof.Machine.execSessionList m s
  | .identityRead m => Sys2Proof.Machine.execIdentityRead m s
  | .enrolRequest m => Sys2Proof.Machine.execEnrolRequest m s
  | .enrolInstall m => Sys2Proof.Machine.execEnrolInstall m s
  | .anchorRotate m => Sys2Proof.Machine.execAnchorRotate m s
  | .credentialSet m => Sys2Proof.Machine.execCredentialSet m s
  | .credentialRemove m => Sys2Proof.Machine.execCredentialRemove m s
  | .saInstall m => Sys2Proof.Machine.execSaInstall m s
  | .saRelease m => Sys2Proof.Machine.execSaRelease m s
  | .ownerLock m => Sys2Proof.Machine.execOwnerLock m s
  | .tamperAcknowledge m => Sys2Proof.Machine.execTamperAcknowledge m s
  | .lullStatus m => Sys2Proof.Machine.execLullStatus m s
  | .moduleStatus m => Sys2Proof.Machine.execModuleStatus m s
  | .moduleInfo m => Sys2Proof.Machine.execModuleInfo m s
  | .modeRequest m => Sys2Proof.Machine.execModeRequest m s
  | .moduleRestart m => Sys2Proof.Machine.execModuleRestart m s
  | .classControl m => Sys2Proof.Machine.execClassControl m s
  | .tokenQuery m => Sys2Proof.Machine.execTokenQuery m s
  | .mailboxCounters m => Sys2Proof.Machine.execMailboxCounters m s
  | .laneStatus m => Sys2Proof.Machine.execLaneStatus m s
  | .laneHealth m => Sys2Proof.Machine.execLaneHealth m s
  | .laneTraceRead m => Sys2Proof.Machine.execLaneTraceRead m s
  | .laneIsolate m => Sys2Proof.Machine.execLaneIsolate m s
  | .laneReshoot m => Sys2Proof.Machine.execLaneReshoot m s
  | .staggerSet m => Sys2Proof.Machine.execStaggerSet m s
  | .voterTest m => Sys2Proof.Machine.execVoterTest m s
  | .laneDiagClear m => Sys2Proof.Machine.execLaneDiagClear m s
  | .programStatus m => Sys2Proof.Machine.execProgramStatus m s
  | .imageLoad m => Sys2Proof.Machine.execImageLoad m s
  | .programStart m => Sys2Proof.Machine.execProgramStart m s
  | .programStop m => Sys2Proof.Machine.execProgramStop m s
  | .recutStart m => Sys2Proof.Machine.execRecutStart m s
  | .recutCancel m => Sys2Proof.Machine.execRecutCancel m s
  | .forceSet m => Sys2Proof.Machine.execForceSet m s
  | .forceClear m => Sys2Proof.Machine.execForceClear m s
  | .forceList m => Sys2Proof.Machine.execForceList m s
  | .variableRead m => Sys2Proof.Machine.execVariableRead m s
  | .imageErase m => Sys2Proof.Machine.execImageErase m s
  | .pairStatus m => Sys2Proof.Machine.execPairStatus m s
  | .pairHealth m => Sys2Proof.Machine.execPairHealth m s
  | .pairConfigure m => Sys2Proof.Machine.execPairConfigure m s
  | .pairSwitchover m => Sys2Proof.Machine.execPairSwitchover m s
  | .pairResync m => Sys2Proof.Machine.execPairResync m s
  | .pairBudget m => Sys2Proof.Machine.execPairBudget m s
  | .pairCounters m => Sys2Proof.Machine.execPairCounters m s
  | .safetyStatus m => Sys2Proof.Machine.execSafetyStatus m s
  | .safetyParamLoad m => Sys2Proof.Machine.execSafetyParamLoad m s
  | .safetyParamActivate m => Sys2Proof.Machine.execSafetyParamActivate m s
  | .lockoutEnter m => Sys2Proof.Machine.execLockoutEnter m s
  | .lockoutReset m => Sys2Proof.Machine.execLockoutReset m s
  | .changeLogRead m => Sys2Proof.Machine.execChangeLogRead m s
  | .windowClose m => Sys2Proof.Machine.execWindowClose m s
  | .safeIoTest m => Sys2Proof.Machine.execSafeIoTest m s
  | .positionStatus m => Sys2Proof.Machine.execPositionStatus m s
  | .positionConfigure m => Sys2Proof.Machine.execPositionConfigure m s
  | .positionMark m => Sys2Proof.Machine.execPositionMark m s
  | .positionAt m => Sys2Proof.Machine.execPositionAt m s
  | .cueStatus m => Sys2Proof.Machine.execCueStatus m s
  | .cueControl m => Sys2Proof.Machine.execCueControl m s
  | .positionCounters m => Sys2Proof.Machine.execPositionCounters m s
  | .signalStatus m => Sys2Proof.Machine.execSignalStatus m s
  | .channelConfigure m => Sys2Proof.Machine.execChannelConfigure m s
  | .coeffLoad m => Sys2Proof.Machine.execCoeffLoad m s
  | .signalDissolve m => Sys2Proof.Machine.execSignalDissolve m s
  | .channelControl m => Sys2Proof.Machine.execChannelControl m s
  | .inputSwitch m => Sys2Proof.Machine.execInputSwitch m s
  | .signalCounters m => Sys2Proof.Machine.execSignalCounters m s
  | .netStatus m => Sys2Proof.Machine.execNetStatus m s
  | .portConfigure m => Sys2Proof.Machine.execPortConfigure m s
  | .portCounters m => Sys2Proof.Machine.execPortCounters m s
  | .fdbPin m => Sys2Proof.Machine.execFdbPin m s
  | .fdbUnpin m => Sys2Proof.Machine.execFdbUnpin m s
  | .fdbRead m => Sys2Proof.Machine.execFdbRead m s
  | .fdbFlush m => Sys2Proof.Machine.execFdbFlush m s
  | .flowConfigure m => Sys2Proof.Machine.execFlowConfigure m s
  | .flowControl m => Sys2Proof.Machine.execFlowControl m s
  | .flowStatus m => Sys2Proof.Machine.execFlowStatus m s
  | .frerConfigure m => Sys2Proof.Machine.execFrerConfigure m s
  | .gateConfigure m => Sys2Proof.Machine.execGateConfigure m s
  | .launchWrite m => Sys2Proof.Machine.execLaunchWrite m s
  | .launchFlush m => Sys2Proof.Machine.execLaunchFlush m s
  | .rnatConfigure m => Sys2Proof.Machine.execRnatConfigure m s
  | .netSettings m => Sys2Proof.Machine.execNetSettings m s
  | .mvbStatus m => Sys2Proof.Machine.execMvbStatus m s
  | .mvbConfigure m => Sys2Proof.Machine.execMvbConfigure m s
  | .mvbPortConfigure m => Sys2Proof.Machine.execMvbPortConfigure m s
  | .mvbPortControl m => Sys2Proof.Machine.execMvbPortControl m s
  | .mvbWrite m => Sys2Proof.Machine.execMvbWrite m s
  | .mvbRead m => Sys2Proof.Machine.execMvbRead m s
  | .mvbLock m => Sys2Proof.Machine.execMvbLock m s
  | .mvbUnlock m => Sys2Proof.Machine.execMvbUnlock m s
  | .mvbMap m => Sys2Proof.Machine.execMvbMap m s
  | .mvbDevices m => Sys2Proof.Machine.execMvbDevices m s
  | .mvbCounters m => Sys2Proof.Machine.execMvbCounters m s
  | .timeStatus m => Sys2Proof.Machine.execTimeStatus m s
  | .timeConfigure m => Sys2Proof.Machine.execTimeConfigure m s
  | .timeSet m => Sys2Proof.Machine.execTimeSet m s
  | .timePortStatus m => Sys2Proof.Machine.execTimePortStatus m s
  | .activationStatus m => Sys2Proof.Machine.execActivationStatus m s
  | .sourceConfigure m => Sys2Proof.Machine.execSourceConfigure m s
  | .sourceMask m => Sys2Proof.Machine.execSourceMask m s
  | .activationHold m => Sys2Proof.Machine.execActivationHold m s
  | .activationTrigger m => Sys2Proof.Machine.execActivationTrigger m s
  | .activationCounters m => Sys2Proof.Machine.execActivationCounters m s
  | .recorderStatus m => Sys2Proof.Machine.execRecorderStatus m s
  | .recorderRead m => Sys2Proof.Machine.execRecorderRead m s
  | .recorderFreeze m => Sys2Proof.Machine.execRecorderFreeze m s
  | .recorderRelease m => Sys2Proof.Machine.execRecorderRelease m s
  | .recorderClearRequest m => Sys2Proof.Machine.execRecorderClearRequest m s
  | .recorderClearConfirm m => Sys2Proof.Machine.execRecorderClearConfirm m s
  | .recorderCounters m => Sys2Proof.Machine.execRecorderCounters m s
  | .updateStatus m => Sys2Proof.Machine.execUpdateStatus m s
  | .updateStage m => Sys2Proof.Machine.execUpdateStage m s
  | .updateSchedule m => Sys2Proof.Machine.execUpdateSchedule m s
  | .updateCancel m => Sys2Proof.Machine.execUpdateCancel m s
  | .testStatus m => Sys2Proof.Machine.execTestStatus m s
  | .testEnter m => Sys2Proof.Machine.execTestEnter m s
  | .testExit m => Sys2Proof.Machine.execTestExit m s
  | .squallSet m => Sys2Proof.Machine.execSquallSet m s
  | .selfTestRun m => Sys2Proof.Machine.execSelfTestRun m s
  | .kNop lane => Sys2Proof.Machine.execKNop lane s
  | .kConst lane t d value => Sys2Proof.Machine.execKConst lane t d value s
  | .kMov lane t r => Sys2Proof.Machine.execKMov lane t r s
  | .kSel lane t r c => Sys2Proof.Machine.execKSel lane t r c s
  | .kAdd lane t r => Sys2Proof.Machine.execKAdd lane t r s
  | .kSub lane t r => Sys2Proof.Machine.execKSub lane t r s
  | .kMul lane t r => Sys2Proof.Machine.execKMul lane t r s
  | .kDiv lane t r => Sys2Proof.Machine.execKDiv lane t r s
  | .kMod lane t r => Sys2Proof.Machine.execKMod lane t r s
  | .kNeg lane t r => Sys2Proof.Machine.execKNeg lane t r s
  | .kAbs lane t r => Sys2Proof.Machine.execKAbs lane t r s
  | .kMin lane t r => Sys2Proof.Machine.execKMin lane t r s
  | .kMax lane t r => Sys2Proof.Machine.execKMax lane t r s
  | .kFma lane t r c => Sys2Proof.Machine.execKFma lane t r c s
  | .kSqrt lane t r => Sys2Proof.Machine.execKSqrt lane t r s
  | .kAnd lane t r => Sys2Proof.Machine.execKAnd lane t r s
  | .kOr lane t r => Sys2Proof.Machine.execKOr lane t r s
  | .kXor lane t r => Sys2Proof.Machine.execKXor lane t r s
  | .kNot lane t r => Sys2Proof.Machine.execKNot lane t r s
  | .kShl lane t tb r => Sys2Proof.Machine.execKShl lane t tb r s
  | .kShr lane t tb r => Sys2Proof.Machine.execKShr lane t tb r s
  | .kRol lane t tb r => Sys2Proof.Machine.execKRol lane t tb r s
  | .kRor lane t tb r => Sys2Proof.Machine.execKRor lane t tb r s
  | .kEq lane t r => Sys2Proof.Machine.execKEq lane t r s
  | .kNe lane t r => Sys2Proof.Machine.execKNe lane t r s
  | .kLt lane t r => Sys2Proof.Machine.execKLt lane t r s
  | .kLe lane t r => Sys2Proof.Machine.execKLe lane t r s
  | .kGt lane t r => Sys2Proof.Machine.execKGt lane t r s
  | .kGe lane t r => Sys2Proof.Machine.execKGe lane t r s
  | .kCvt lane t t2 r => Sys2Proof.Machine.execKCvt lane t t2 r s
  | .kTrunc lane t t2 r => Sys2Proof.Machine.execKTrunc lane t t2 r s
  | .kRound lane t t2 r => Sys2Proof.Machine.execKRound lane t t2 r s
  | .kBits lane t t2 r => Sys2Proof.Machine.execKBits lane t t2 r s
  | .kSin lane t r => Sys2Proof.Machine.execKSin lane t r s
  | .kCos lane t r => Sys2Proof.Machine.execKCos lane t r s
  | .kTan lane t r => Sys2Proof.Machine.execKTan lane t r s
  | .kAsin lane t r => Sys2Proof.Machine.execKAsin lane t r s
  | .kAcos lane t r => Sys2Proof.Machine.execKAcos lane t r s
  | .kAtan lane t r => Sys2Proof.Machine.execKAtan lane t r s
  | .kAtan2 lane t r => Sys2Proof.Machine.execKAtan2 lane t r s
  | .kExp lane t r => Sys2Proof.Machine.execKExp lane t r s
  | .kLn lane t r => Sys2Proof.Machine.execKLn lane t r s
  | .kLog10 lane t r => Sys2Proof.Machine.execKLog10 lane t r s
  | .kExpt lane t r => Sys2Proof.Machine.execKExpt lane t r s
  | .kFloor lane t r => Sys2Proof.Machine.execKFloor lane t r s
  | .kCeil lane t r => Sys2Proof.Machine.execKCeil lane t r s
  | .kRint lane t r => Sys2Proof.Machine.execKRint lane t r s
  | .kLd lane t r ref => Sys2Proof.Machine.execKLd lane t r ref s
  | .kSt lane t r ref => Sys2Proof.Machine.execKSt lane t r ref s
  | .kCopy lane source sourceLeaf target targetLeaf count => Sys2Proof.Machine.execKCopy lane source sourceLeaf target targetLeaf count s
  | .kBlock lane => Sys2Proof.Machine.execKBlock lane s
  | .kLoop lane bound => Sys2Proof.Machine.execKLoop lane bound s
  | .kIf lane a => Sys2Proof.Machine.execKIf lane a s
  | .kElse lane => Sys2Proof.Machine.execKElse lane s
  | .kEnd lane => Sys2Proof.Machine.execKEnd lane s
  | .kBreak lane depth => Sys2Proof.Machine.execKBreak lane depth s
  | .kNext lane depth => Sys2Proof.Machine.execKNext lane depth s
  | .kReturn lane => Sys2Proof.Machine.execKReturn lane s
  | .kCall lane d a function => Sys2Proof.Machine.execKCall lane d a function s
  | .kTimeNow lane d a => Sys2Proof.Machine.execKTimeNow lane d a s
  | .kTakeInfo lane d a => Sys2Proof.Machine.execKTakeInfo lane d a s
  | .kModes lane d a => Sys2Proof.Machine.execKModes lane d a s
  | .kFaults lane d a => Sys2Proof.Machine.execKFaults lane d a s
  | .kInputStatus lane d a => Sys2Proof.Machine.execKInputStatus lane d a s
  | .kPosition lane d a => Sys2Proof.Machine.execKPosition lane d a s
  | .kMbxIssue lane d a => Sys2Proof.Machine.execKMbxIssue lane d a s
  | .kMbxResult lane d a => Sys2Proof.Machine.execKMbxResult lane d a s
  | .kCueRequest lane d a => Sys2Proof.Machine.execKCueRequest lane d a s
  | .kCueCancel lane d a => Sys2Proof.Machine.execKCueCancel lane d a s
  | .kCueState lane d a => Sys2Proof.Machine.execKCueState lane d a s
  | .kRecord lane d a => Sys2Proof.Machine.execKRecord lane d a s
  | .mbxChDoorbell lane k value => Sys2Proof.Machine.execMbxChDoorbell lane k value s
  | .laneCopyTakeover lane k => Sys2Proof.Machine.execLaneCopyTakeover lane k s
  | .mbxChPop lane k => Sys2Proof.Machine.execMbxChPop lane k s
  | .mbxShadowFetch lane => Sys2Proof.Machine.execMbxShadowFetch lane s
  | .actTake lane => Sys2Proof.Machine.execActTake lane s
  | .actDefer lane value => Sys2Proof.Machine.execActDefer lane value s
  | .timStepSumLo lane => Sys2Proof.Machine.execTimStepSumLo lane s
  | .registerWrite lane offset value => Sys2Proof.Machine.execRegisterWrite lane offset value s
  | .powerGood facts => Sys2Proof.Machine.execPowerGood facts s
  | .bootingEnd => Sys2Proof.Machine.execBootingEnd s
  | .provingEnd facts => Sys2Proof.Machine.execProvingEnd facts s
  | .reset => Sys2Proof.Machine.execReset s
  | .supplyFailure mv => Sys2Proof.Machine.execSupplyFailure mv s
  | .supplyReturn mv => Sys2Proof.Machine.execSupplyReturn mv s
  | .recorderSupplyStop => Sys2Proof.Machine.execRecorderSupplyStop s
  | .holdUpExpiry => Sys2Proof.Machine.execHoldUpExpiry s
  | .slateWatchdogExpiry => Sys2Proof.Machine.execSlateWatchdogExpiry s
  | .reelFault protection => Sys2Proof.Machine.execReelFault protection s
  | .reelRestartComplete => Sys2Proof.Machine.execReelRestartComplete s
  | .caseOpenSample isOpen => Sys2Proof.Machine.execCaseOpenSample isOpen s
  | .lullLatchRead => Sys2Proof.Machine.execLullLatchRead s
  | .cellMeasurement mv => Sys2Proof.Machine.execCellMeasurement mv s
  | .lullClockWrite => Sys2Proof.Machine.execLullClockWrite s
  | .tlsSessionOpen port source => Sys2Proof.Machine.execTlsSessionOpen port source s
  | .hardwareSessionOpen peer certified bound => Sys2Proof.Machine.execHardwareSessionOpen peer certified bound s
  | .sessionStreamError session => Sys2Proof.Machine.execSessionStreamError session s
  | .preLoginTimeout session => Sys2Proof.Machine.execPreLoginTimeout session s
  | .sessionIdleTimeout session => Sys2Proof.Machine.execSessionIdleTimeout session s
  | .sessionLifetimeExpiry session => Sys2Proof.Machine.execSessionLifetimeExpiry session s
  | .argon2idDone => Sys2Proof.Machine.execArgon2idDone s
  | .credentialLockExpiry credential => Sys2Proof.Machine.execCredentialLockExpiry credential s
  | .saDrainEnd context => Sys2Proof.Machine.execSaDrainEnd context s
  | .saRekeyLimit context => Sys2Proof.Machine.execSaRekeyLimit context s
  | .mkpduReceive port key agreed => Sys2Proof.Machine.execMkpduReceive port key agreed s
  | .inputFreeze task => Sys2Proof.Machine.execInputFreeze task s
  | .takeStart lane task => Sys2Proof.Machine.execTakeStart lane task s
  | .signaturePost lane task take epoch upset => Sys2Proof.Machine.execSignaturePost lane task take epoch upset s
  | .voteDeadline task => Sys2Proof.Machine.execVoteDeadline task s
  | .laneFault lane cause => Sys2Proof.Machine.execLaneFault lane cause s
  | .laneWatchdogExpiry lane => Sys2Proof.Machine.execLaneWatchdogExpiry lane s
  | .divergenceComparisonDone lane task => Sys2Proof.Machine.execDivergenceComparisonDone lane task s
  | .laneRestartDone lane passed => Sys2Proof.Machine.execLaneRestartDone lane passed s
  | .reshootExportDone lane task upset => Sys2Proof.Machine.execReshootExportDone lane task upset s
  | .reshootImportDone task upset => Sys2Proof.Machine.execReshootImportDone task upset s
  | .reshootRetry lane => Sys2Proof.Machine.execReshootRetry lane s
  | .twoLaneLimitExpiry => Sys2Proof.Machine.execTwoLaneLimitExpiry s
  | .twoLaneLockout => Sys2Proof.Machine.execTwoLaneLockout s
  | .backgroundSlice finding => Sys2Proof.Machine.execBackgroundSlice finding s
  | .cutterTranslationDone report => Sys2Proof.Machine.execCutterTranslationDone report s
  | .retentiveCommitPeriodic => Sys2Proof.Machine.execRetentiveCommitPeriodic s
  | .retentiveCommitComplete written => Sys2Proof.Machine.execRetentiveCommitComplete written s
  | .recutGuard => Sys2Proof.Machine.execRecutGuard s
  | .recutSwitch => Sys2Proof.Machine.execRecutSwitch s
  | .sourceDetection source clock => Sys2Proof.Machine.execSourceDetection source clock s
  | .activationCommit source => Sys2Proof.Machine.execActivationCommit source s
  | .activationHoldLimit => Sys2Proof.Machine.execActivationHoldLimit s
  | .positionTick sense => Sys2Proof.Machine.execPositionTick sense s
  | .standstillProven => Sys2Proof.Machine.execStandstillProven s
  | .speedViolationClear => Sys2Proof.Machine.execSpeedViolationClear s
  | .windowOpenTimeExpiry window => Sys2Proof.Machine.execWindowOpenTimeExpiry window s
  | .bridgingLimit => Sys2Proof.Machine.execBridgingLimit s
  | .axleClean axle => Sys2Proof.Machine.execAxleClean axle s
  | .timeCue cue => Sys2Proof.Machine.execTimeCue cue s
  | .safeInputChange input volts => Sys2Proof.Machine.execSafeInputChange input volts s
  | .inputPathFault input => Sys2Proof.Machine.execInputPathFault input s
  | .inputPathTest input path shown => Sys2Proof.Machine.execInputPathTest input path shown s
  | .testPulse source readings sourceOk => Sys2Proof.Machine.execTestPulse source readings sourceOk s
  | .pairDiscrepancyFault pair => Sys2Proof.Machine.execPairDiscrepancyFault pair s
  | .outputTimeout output => Sys2Proof.Machine.execOutputTimeout output s
  | .overcurrentTrip output => Sys2Proof.Machine.execOvercurrentTrip output s
  | .backFeedFault output => Sys2Proof.Machine.execBackFeedFault output s
  | .switchTest output switch passed senseOk => Sys2Proof.Machine.execSwitchTest output switch passed senseOk s
  | .switchTestOverdue output => Sys2Proof.Machine.execSwitchTestOverdue output s
  | .parameterCrcCheck channel crc => Sys2Proof.Machine.execParameterCrcCheck channel crc s
  | .fieldSupplyLow volts => Sys2Proof.Machine.execFieldSupplyLow volts s
  | .resetKeyChange contactA contactB => Sys2Proof.Machine.execResetKeyChange contactA contactB s
  | .resetKeyHoldLimit => Sys2Proof.Machine.execResetKeyHoldLimit s
  | .resetKeyArmingTimeout => Sys2Proof.Machine.execResetKeyArmingTimeout s
  | .streamFrame port payload => Sys2Proof.Machine.execStreamFrame port payload s
  | .channelStale channel => Sys2Proof.Machine.execChannelStale channel s
  | .dissolveStart channel => Sys2Proof.Machine.execDissolveStart channel s
  | .dissolveComplete channel => Sys2Proof.Machine.execDissolveComplete channel s
  | .frameReceive port frame => Sys2Proof.Machine.execFrameReceive port frame s
  | .egressFrameDone port => Sys2Proof.Machine.execEgressFrameDone port s
  | .fdbAging mac vlan => Sys2Proof.Machine.execFdbAging mac vlan s
  | .gateEvent port => Sys2Proof.Machine.execGateEvent port s
  | .gateListTakeover port => Sys2Proof.Machine.execGateListTakeover port s
  | .launchGuardBand port instant => Sys2Proof.Machine.execLaunchGuardBand port instant s
  | .frerResetTimeout stream => Sys2Proof.Machine.execFrerResetTimeout stream s
  | .frerLatentError stream path => Sys2Proof.Machine.execFrerLatentError stream path s
  | .ttdpHelloSend line => Sys2Proof.Machine.execTtdpHelloSend line s
  | .ttdpHelloReceive line neighbour => Sys2Proof.Machine.execTtdpHelloReceive line neighbour s
  | .ttdpHelloTimeout line => Sys2Proof.Machine.execTtdpHelloTimeout line s
  | .topologyFrame line changed => Sys2Proof.Machine.execTopologyFrame line changed s
  | .inaugurationComplete directory => Sys2Proof.Machine.execInaugurationComplete directory s
  | .linkChange port up rate => Sys2Proof.Machine.execLinkChange port up rate s
  | .relayReadback relay closed => Sys2Proof.Machine.execRelayReadback relay closed s
  | .sfpInsertion cage readable level => Sys2Proof.Machine.execSfpInsertion cage readable level s
  | .trdpPdReceive telegram => Sys2Proof.Machine.execTrdpPdReceive telegram s
  | .trdpPrReceive telegram => Sys2Proof.Machine.execTrdpPrReceive telegram s
  | .messageDataReceive session comId envelope => Sys2Proof.Machine.execMessageDataReceive session comId envelope s
  | .flowFreshnessTimeout slot => Sys2Proof.Machine.execFlowFreshnessTimeout slot s
  | .scheduledLaunch slot => Sys2Proof.Machine.execScheduledLaunch slot s
  | .heartbeat => Sys2Proof.Machine.execHeartbeat s
  | .mvbBasicPeriod bus => Sys2Proof.Machine.execMvbBasicPeriod bus s
  | .mvbMasterFrame bus fcode address => Sys2Proof.Machine.execMvbMasterFrame bus fcode address s
  | .mvbSlaveFrame bus fcode address data lineA lineB => Sys2Proof.Machine.execMvbSlaveFrame bus fcode address data lineA lineB s
  | .mvbSinkStale handle => Sys2Proof.Machine.execMvbSinkStale handle s
  | .mvbWriteDeadline handle => Sys2Proof.Machine.execMvbWriteDeadline handle s
  | .mvbReadTimeout handle => Sys2Proof.Machine.execMvbReadTimeout handle s
  | .mvbLockExpiry semaphore => Sys2Proof.Machine.execMvbLockExpiry semaphore s
  | .mvbMastershipOffer bus => Sys2Proof.Machine.execMvbMastershipOffer bus s
  | .mvbBindingWriteFailure handle => Sys2Proof.Machine.execMvbBindingWriteFailure handle s
  | .ptpSync source measure => Sys2Proof.Machine.execPtpSync source measure s
  | .ptpAnnounce source port announce => Sys2Proof.Machine.execPtpAnnounce source port announce s
  | .ptpAnnounceTimeout source port => Sys2Proof.Machine.execPtpAnnounceTimeout source port s
  | .ptpPdelay port delay capable => Sys2Proof.Machine.execPtpPdelay port delay capable s
  | .slipstreamHello hello => Sys2Proof.Machine.execSlipstreamHello hello s
  | .slipstreamHelloSend => Sys2Proof.Machine.execSlipstreamHelloSend s
  | .slipControl message => Sys2Proof.Machine.execSlipControl message s
  | .slipSnapshot message => Sys2Proof.Machine.execSlipSnapshot message s
  | .slipToken issuer token completion => Sys2Proof.Machine.execSlipToken issuer token completion s
  | .slipAck issuer token reasons => Sys2Proof.Machine.execSlipAck issuer token reasons s
  | .slipTakeEnd message => Sys2Proof.Machine.execSlipTakeEnd message s
  | .slipStatus report => Sys2Proof.Machine.execSlipStatus report s
  | .slipKeepalive port delay => Sys2Proof.Machine.execSlipKeepalive port delay s
  | .slipResync message => Sys2Proof.Machine.execSlipResync message s
  | .pairTelegram task take => Sys2Proof.Machine.execPairTelegram task take s
  | .supervisedTakeMissed => Sys2Proof.Machine.execSupervisedTakeMissed s
  | .takeoverInstant => Sys2Proof.Machine.execTakeoverInstant s
  | .handoverInstant => Sys2Proof.Machine.execHandoverInstant s
  | .resyncStart => Sys2Proof.Machine.execResyncStart s
  | .resyncRetry => Sys2Proof.Machine.execResyncRetry s
  | .updateActivation => Sys2Proof.Machine.execUpdateActivation s
  | .updatePartnerWaitEnd => Sys2Proof.Machine.execUpdatePartnerWaitEnd s
  | .updateTrialTimeout => Sys2Proof.Machine.execUpdateTrialTimeout s
  | .recordWrite ring readBack => Sys2Proof.Machine.execRecordWrite ring readBack s
  | .suppressedRecord ring => Sys2Proof.Machine.execSuppressedRecord ring s
  | .freezeTimeout => Sys2Proof.Machine.execFreezeTimeout s
  | .clearTicketExpiry => Sys2Proof.Machine.execClearTicketExpiry s
  | .shadowEntryExpiry lane k token => Sys2Proof.Machine.execShadowEntryExpiry lane k token s
  | .testEnChange strapped => Sys2Proof.Machine.execTestEnChange strapped s
  | .testLimitExpiry => Sys2Proof.Machine.execTestLimitExpiry s
  | .backpressureWindow => Sys2Proof.Machine.execBackpressureWindow s
  | .resetRelease facts => Sys2Proof.Machine.execResetRelease facts s
  | .resourceGrant resource => Sys2Proof.Machine.execResourceGrant resource s
  | .fieldSupplyReturn volts => Sys2Proof.Machine.execFieldSupplyReturn volts s
  | .resetKeyDiscrepancy => Sys2Proof.Machine.execResetKeyDiscrepancy s
  | .holdUpStoreCharged nanofarad => Sys2Proof.Machine.execHoldUpStoreCharged nanofarad s
  | .slipstreamFragmentDone port => Sys2Proof.Machine.execSlipstreamFragmentDone port s
  | .healthReportSend => Sys2Proof.Machine.execHealthReportSend s
  | .ptpMessageSend port kind => Sys2Proof.Machine.execPtpMessageSend port kind s
  | .mailboxResponseDelayEnd => Sys2Proof.Machine.execMailboxResponseDelayEnd s
  | .correctedMemoryError lane => Sys2Proof.Machine.execCorrectedMemoryError lane s

end Sys2Proof.Machine
end

