-- ==== Sys2Proof/Machine/Lamps.lean ====
section
/-! DEFINITION. The status lamps of the front panel (R556 to R558): what each shows follows from the axes, so State holds no lamp. -/

namespace Sys2Proof.Machine

/-- Colours of a lamp. -/
inductive LampColour where
  | green | amber | red
  deriving DecidableEq, Repr

/-- What a lamp shows: nothing, a colour, a colour blinking, or a red code. -/
inductive LampShow where
  | off
  | steady (c : LampColour)
  | blinking (c : LampColour)
  | code (n : Nat)
  deriving DecidableEq, Repr

/-- The eight lamps, top to bottom. -/
structure Lamps where
  pwr : LampShow := .off
  state : LampShow := .off
  lanes : LampShow := .off
  prog : LampShow := .off
  pair : LampShow := .off
  time : LampShow := .off
  force : LampShow := .off
  test : LampShow := .off
  deriving DecidableEq, Repr

/-- Every lamp alike. -/
def Lamps.all (x : LampShow) : Lamps := ⟨x, x, x, x, x, x, x, x⟩

/-- STATE, from the module state. -/
def stateLamp (s : State) : LampShow :=
  match s.module.state with
  | .stowed => .off
  | .booting | .proving => .steady .amber
  | .service => .steady .green
  | .maintenance => .blinking .green
  | .lockout => .steady .red
  | .halted => .code s.module.haltedCode

/-- LANES, from the lanes that vote: with fewer than two, none of its colours is given, and it is amber (log entry 151). -/
def lanesLamp (s : State) : LampShow := .steady (if votingMask s = 7 then .green else .amber)

/-- PROG, from the program axis. -/
def progLamp (s : State) : LampShow :=
  match s.prog.state with
  | .empty => .off
  | .stopped => .steady .amber
  | .running => .steady .green
  | .recutPending => .blinking .green

/-- PAIR, from the pair role and bit 2 of the flags of MODULE_STATUS. -/
def pairLamp (s : State) : LampShow :=
  match s.pair.role with
  | .solo => .off
  | .active => if hasBit (moduleFlags s) 2 then .steady .amber else .steady .green
  | .standby => if hasBit (moduleFlags s) 2 then .steady .amber else .blinking .green

/-- TIME, from the time axis. -/
def timeLamp (s : State) : LampShow :=
  match s.clock.state with
  | .unset => .off
  | .locked => .steady .green
  | .holdover => .steady .amber

/-- Every lamp with its axis (Table 18.11). -/
def axisLamps (s : State) : Lamps :=
  { pwr := .steady .green, state := stateLamp s, lanes := lanesLamp s, prog := progLamp s, pair := pairLamp s
    time := timeLamp s, force := if forced s then .steady .amber else .off, test := if s.test.squall then .blinking .amber else .off }

/-- The colour of the lamp test, while one runs: each colour for 200 ms from the power-good (R558). -/
def testColour (s : State) : Option LampColour :=
  match s.module.state, s.module.lampTest with
  | .booting, some t =>
    if s.time < t + milli 200 then some .green else if s.time < t + milli 400 then some .amber else if s.time < t + milli 600 then some .red else none
  | _, _ => none

/-- What the lamps show (R556 to R558): nothing in Stowed; PWR and STATE alone in Halted, and in Booting up to step 4 of the boot chain, which
ends 250 ms after its start (Table 17.4). -/
def lamps (s : State) : Lamps :=
  match testColour s with
  | some c => Lamps.all (.steady c)
  | none =>
    match s.module.state with
    | .stowed => {}
    | .halted => { pwr := .steady .green, state := stateLamp s }
    | .booting => if slipLit s then axisLamps s else { pwr := .steady .green, state := stateLamp s }
    | _ => axisLamps s

/-- Whether a lamp is lit at a time after its pattern began, and in which colour: blinking is 500 ms on and 500 ms off, code n is n flashes of
200 ms separated by 300 ms and then 1.5 s dark. -/
def LampShow.lit (x : LampShow) (ms : Nat) : Option LampColour :=
  match x with
  | .off => none
  | .steady c => some c
  | .blinking c => if ms % 1000 < 500 then some c else none
  | .code n =>
    let m := ms % (500 * n - 300 + 1500)
    if m < 500 * n - 300 && m % 500 < 200 then some .red else none

end Sys2Proof.Machine
end

