-- ==== Sys2Proof/Safety.lean ====
section
/-! DEFINITION. The terms in which claims are stated: when a command of a session is accepted and authorised, what it is accepted as, how
it answers, what a report holds, when a lane runs a KPC instruction, and the parts of the state that frames name. -/

namespace Sys2Proof.Claims

open Sys2Proof.Machine

/-! ### Commands of a session (Table 3.6A) -/

/-- The state once an envelope of a session has been read. -/
def listened (m : Msg) (x : Session) (s : State) : State :=
  modTrust (fun t => { t with sessions := Tbl.put t.sessions m.session { x with lastCommand := s.time } }) s

/-- The state once step 1 has passed a session's envelope. -/
def received (m : Msg) (x : Session) (s : State) : State := modMbx (fun b => { b with reissues := b.reissues + m.flags.toNat }) (listened m x s)

/-- What a session's envelope presents to steps 2 to 7, under the key of its session. -/
def arrived (code : Nat) (m : Msg) (x : Session) (s : State) : Arrival := sessionArrival code m x (sealKeyOf s x)

/-- The entry as which a command is accepted, and the state in which it is executed. -/
def entered (code : Nat) (m : Msg) (x : Session) (s : State) : Entry := newEntry (received m x s) (arrived code m x s)
def taken (code : Nat) (m : Msg) (x : Session) (s : State) : State := accept (arrived code m x s) (received m x s)

/-- Step 1 passes the envelope: the mailbox interface and the session exist, the stream can be framed, and the header is as R88 asks. -/
def framed (code : Nat) (m : Msg) (x : Session) (s : State) : Bool :=
  hasMailbox s && Tbl.find s.trust.sessions m.session == some x && !streamBroken m x && m.version == 1 && headerOk m code x

/-- Steps 1 to 7 pass the command for issuers of the Issuers column: a fresh token, the current epoch, an enabled class, a free credit
and the right to issue it. -/
def arrives (i : Issuers) (code : Nat) (m : Msg) (x : Session) (s : State) : Bool :=
  let a := arrived code m x s
  let r := received m x s
  framed code m x s && tokenClass r a.issuer a.token == .fresh && a.epoch == s.mbx.epoch && !classDisabled r a.issuer code &&
    creditFree r a && i.allow (taken code m x s) a.issuer a.roles

/-- A command's execution comes to an end, or goes on. -/
def conclude (epoch : Nat) (e : Entry) : State × Reply → State
  | (t, .done status result) => finish epoch e status result t
  | (t, .goesOn phase committed) => modEntry e.id (fun x => { x with phase := phase, committed := x.committed || committed }) t

/-- The state in which an accepted command that meets a condition leaves the module, and its existence for some command and state. -/
def Answers (make : Msg → Instr) (i : Issuers) (code : Nat) (when_ : Entry → State → Bool) (answer : Entry → State → State × Reply) : Prop :=
  ∀ m x s, arrives i code m x s = true → when_ (entered code m x s) (taken code m x s) = true →
    exec (make m) s = .next (conclude s.mbx.epoch (entered code m x s) (answer (entered code m x s) (taken code m x s)))

/-- A field of a report: offset, bytes, value. -/
abbrev Field := Nat × Nat × Nat

/-- A result of a length whose fields stand at their offsets, least significant byte first. -/
def IsReport (length : Nat) (fields : List Field) (r : Bytes) : Prop :=
  r.length = length ∧ ∀ f ∈ fields, Bytes.field r f.1 f.2.1 = f.2.2 % 256 ^ f.2.1

/-- An accepted command that meets a condition completes with OK and a report, and changes nothing else. -/
def Reports (make : Msg → Instr) (i : Issuers) (code : Nat) (when_ : Entry → State → Bool) (length : Entry → State → Nat)
    (fields : Entry → State → List Field) : Prop :=
  ∀ m x s, arrives i code m x s = true → when_ (entered code m x s) (taken code m x s) = true →
    ∃ r, exec (make m) s = .next (finish s.mbx.epoch (entered code m x s) stOk r (taken code m x s)) ∧
      IsReport (length (entered code m x s) (taken code m x s)) (fields (entered code m x s) (taken code m x s)) r

/-- Some command and state meet what `Answers` and `Reports` ask. -/
def Met (i : Issuers) (code : Nat) (when_ : Entry → State → Bool) : Prop :=
  ∃ m x s, (arrives i code m x s && when_ (entered code m x s) (taken code m x s)) = true

/-! ### The rows of the command tables -/

/-- A row of a command table: its code, its Issuers column and its command. -/
structure Row where
  code : Nat
  issuers : Issuers
  make : Msg → Instr

/-- The rows of the chapters' command tables, with the Issuers column as each table gives it. -/
def trustRows : List Row := [
  ⟨0x0201, { preLogin := true, enrolment := true }, .sessionLogin⟩,
  ⟨0x0202, { session := true }, .sessionEnd⟩,
  ⟨0x0203, roleOnly (maintainer + owner), .sessionList⟩,
  ⟨0x0204, { lanes := true, session := true, preLogin := true, enrolment := true }, .identityRead⟩,
  ⟨0x0205, { enrolment := true, preLogin := true }, .enrolRequest⟩,
  ⟨0x0206, { enrolment := true, preLogin := true }, .enrolInstall⟩,
  ⟨0x0207, roleOnly owner, .anchorRotate⟩,
  ⟨0x0208, { session := true }, .credentialSet⟩,
  ⟨0x0209, roleOnly owner, .credentialRemove⟩,
  ⟨0x020A, roleOnly owner, .saInstall⟩,
  ⟨0x020B, roleOnly owner, .saRelease⟩,
  ⟨0x020C, roleOnly owner, .ownerLock⟩,
  ⟨0x020D, roleOnly owner, .tamperAcknowledge⟩,
  ⟨0x020E, anyOrLanes, .lullStatus⟩]
def moduleRows : List Row := [
  ⟨0x0101, anyOrLanes, .moduleStatus⟩,
  ⟨0x0102, anyOrLanes, .moduleInfo⟩,
  ⟨0x0103, roleOnly (operator + maintainer), .modeRequest⟩,
  ⟨0x0104, roleOnly (operator + maintainer), .moduleRestart⟩,
  ⟨0x0105, roleOnly maintainer, .classControl⟩,
  ⟨0x0106, anyOrLanes, .tokenQuery⟩,
  ⟨0x0107, anyOrLanes, .mailboxCounters⟩]
def laneRows : List Row := [
  ⟨0x0401, anyOrLanes, .laneStatus⟩,
  ⟨0x0402, anyOrLanes, .laneHealth⟩,
  ⟨0x0403, { session := true }, .laneTraceRead⟩,
  ⟨0x0404, roleOnly maintainer, .laneIsolate⟩,
  ⟨0x0405, roleOnly maintainer, .laneReshoot⟩,
  ⟨0x0406, roleOnly maintainer, .staggerSet⟩,
  ⟨0x0407, roleOnly maintainer, .voterTest⟩,
  ⟨0x0408, roleOnly maintainer, .laneDiagClear⟩]
def programRows : List Row := [
  ⟨0x0301, anyOrLanes, .programStatus⟩,
  ⟨0x0302, roleOnly maintainer, .imageLoad⟩,
  ⟨0x0303, roleOnly (operator + maintainer), .programStart⟩,
  ⟨0x0304, roleOnly (operator + maintainer), .programStop⟩,
  ⟨0x0305, roleOnly maintainer, .recutStart⟩,
  ⟨0x0306, roleOnly maintainer, .recutCancel⟩,
  ⟨0x0307, roleOnly (maintainer + safety), .forceSet⟩,
  ⟨0x0308, roleOnly (maintainer + safety), .forceClear⟩,
  ⟨0x0309, { session := true }, .forceList⟩,
  ⟨0x030A, { session := true }, .variableRead⟩,
  ⟨0x030B, roleOnly maintainer, .imageErase⟩]
def pairRows : List Row := [
  ⟨0x0501, anyOrLanes, .pairStatus⟩,
  ⟨0x0502, anyOrLanes, .pairHealth⟩,
  ⟨0x0503, roleOnly maintainer, .pairConfigure⟩,
  ⟨0x0504, roleOnly (operator + maintainer), .pairSwitchover⟩,
  ⟨0x0505, roleOnly maintainer, .pairResync⟩,
  ⟨0x0506, { session := true }, .pairBudget⟩,
  ⟨0x0507, anyOrLanes, .pairCounters⟩]
def safetyRows : List Row := [
  ⟨0x0601, anyOrLanes, .safetyStatus⟩,
  ⟨0x0602, roleOnly safety, .safetyParamLoad⟩,
  ⟨0x0603, roleOnly safety, .safetyParamActivate⟩,
  ⟨0x0604, roleOrLanes safety, .lockoutEnter⟩,
  ⟨0x0605, roleOnly safety, .lockoutReset⟩,
  ⟨0x0606, roleOnly (maintainer + safety + owner), .changeLogRead⟩,
  ⟨0x0607, roleOrLanes safety, .windowClose⟩,
  ⟨0x0608, roleOnly maintainer, .safeIoTest⟩]
def positionRows : List Row := [
  ⟨0x0701, anyOrLanes, .positionStatus⟩,
  ⟨0x0702, roleOnly safety, .positionConfigure⟩,
  ⟨0x0703, roleOrLanes maintainer, .positionMark⟩,
  ⟨0x0704, anyOrLanes, .positionAt⟩,
  ⟨0x0705, anyOrLanes, .cueStatus⟩,
  ⟨0x0706, roleOnly maintainer, .cueControl⟩,
  ⟨0x0707, anyOrLanes, .positionCounters⟩]
def signalRows : List Row := [
  ⟨0x0801, anyOrLanes, .signalStatus⟩,
  ⟨0x0802, roleOnly maintainer, .channelConfigure⟩,
  ⟨0x0803, roleOrLanes maintainer, .coeffLoad⟩,
  ⟨0x0804, roleOrLanes maintainer, .signalDissolve⟩,
  ⟨0x0805, roleOnly maintainer, .channelControl⟩,
  ⟨0x0806, roleOrLanes maintainer, .inputSwitch⟩,
  ⟨0x0807, anyOrLanes, .signalCounters⟩]
def netRows : List Row := [
  ⟨0x0901, anyOrLanes, .netStatus⟩,
  ⟨0x0902, roleOnly maintainer, .portConfigure⟩,
  ⟨0x0903, anyOrLanes, .portCounters⟩,
  ⟨0x0904, roleOnly maintainer, .fdbPin⟩,
  ⟨0x0905, roleOnly maintainer, .fdbUnpin⟩,
  ⟨0x0906, { session := true }, .fdbRead⟩,
  ⟨0x0907, roleOnly maintainer, .fdbFlush⟩,
  ⟨0x0908, roleOnly maintainer, .flowConfigure⟩,
  ⟨0x0909, roleOrLanes maintainer, .flowControl⟩,
  ⟨0x090A, anyOrLanes, .flowStatus⟩,
  ⟨0x090B, roleOnly maintainer, .frerConfigure⟩,
  ⟨0x090C, roleOnly maintainer, .gateConfigure⟩,
  ⟨0x090D, roleOrLanes maintainer, .launchWrite⟩,
  ⟨0x090E, roleOrLanes maintainer, .launchFlush⟩,
  ⟨0x090F, roleOnly maintainer, .rnatConfigure⟩,
  ⟨0x0910, roleOnly maintainer, .netSettings⟩]
def mvbRows : List Row := [
  ⟨0x0A01, anyOrLanes, .mvbStatus⟩,
  ⟨0x0A02, roleOnly maintainer, .mvbConfigure⟩,
  ⟨0x0A03, roleOnly maintainer, .mvbPortConfigure⟩,
  ⟨0x0A04, roleOrLanes maintainer, .mvbPortControl⟩,
  ⟨0x0A05, roleOrLanes maintainer, .mvbWrite⟩,
  ⟨0x0A06, anyOrLanes, .mvbRead⟩,
  ⟨0x0A07, roleOrLanes maintainer, .mvbLock⟩,
  ⟨0x0A08, roleOrLanes maintainer, .mvbUnlock⟩,
  ⟨0x0A09, roleOnly maintainer, .mvbMap⟩,
  ⟨0x0A0A, anyOrLanes, .mvbDevices⟩,
  ⟨0x0A0B, anyOrLanes, .mvbCounters⟩]
def timeRows : List Row := [
  ⟨0x0B01, anyOrLanes, .timeStatus⟩,
  ⟨0x0B02, roleOnly maintainer, .timeConfigure⟩,
  ⟨0x0B03, roleOnly maintainer, .timeSet⟩,
  ⟨0x0B04, anyOrLanes, .timePortStatus⟩]
def activationRows : List Row := [
  ⟨0x0C01, anyOrLanes, .activationStatus⟩,
  ⟨0x0C02, roleOnly maintainer, .sourceConfigure⟩,
  ⟨0x0C03, roleOrLanes maintainer, .sourceMask⟩,
  ⟨0x0C04, roleOrLanes maintainer, .activationHold⟩,
  ⟨0x0C05, roleOrLanes maintainer, .activationTrigger⟩,
  ⟨0x0C06, anyOrLanes, .activationCounters⟩]
def recorderRows : List Row := [
  ⟨0x0D01, anyOrLanes, .recorderStatus⟩,
  ⟨0x0D02, { session := true }, .recorderRead⟩,
  ⟨0x0D03, roleOnly (maintainer + owner), .recorderFreeze⟩,
  ⟨0x0D04, roleOnly (maintainer + owner), .recorderRelease⟩,
  ⟨0x0D05, roleOnly (maintainer + owner), .recorderClearRequest⟩,
  ⟨0x0D06, roleOnly (maintainer + owner), .recorderClearConfirm⟩,
  ⟨0x0D07, anyOrLanes, .recorderCounters⟩]
def updateRows : List Row := [
  ⟨0x0E01, anyOrLanes, .updateStatus⟩,
  ⟨0x0E02, roleOnly maintainer, .updateStage⟩,
  ⟨0x0E03, roleOnly maintainer, .updateSchedule⟩,
  ⟨0x0E04, roleOnly maintainer, .updateCancel⟩]
def testRows : List Row := [
  ⟨0x0F01, anyOrLanes, .testStatus⟩,
  ⟨0x0F02, roleOnly maintainer, .testEnter⟩,
  ⟨0x0F03, roleOnly maintainer, .testExit⟩,
  ⟨0x0F04, roleOnly maintainer, .squallSet⟩,
  ⟨0x0F05, roleOnly maintainer, .selfTestRun⟩]
def rows : List Row := trustRows ++ moduleRows ++ laneRows ++ programRows ++ pairRows ++ safetyRows ++ positionRows ++ signalRows ++ netRows ++ mvbRows ++ timeRows ++ activationRows ++ recorderRows ++ updateRows ++ testRows

/-- A SESSION_LOGIN counts as an attempt of its source before anything else (R47). -/
def offered (code : Nat) (m : Msg) (s : State) : State := if code = 0x0201 then countAttempt m.session s else s

/-- The lane on which a KPC instruction runs. -/
def kpcLane : Instr → Option Lane
  | .kNop l => some l
  | .kConst l _ _ _ => some l
  | .kMov l _ _ => some l
  | .kSel l _ _ _ => some l
  | .kAdd l _ _ => some l
  | .kSub l _ _ => some l
  | .kMul l _ _ => some l
  | .kDiv l _ _ => some l
  | .kMod l _ _ => some l
  | .kNeg l _ _ => some l
  | .kAbs l _ _ => some l
  | .kMin l _ _ => some l
  | .kMax l _ _ => some l
  | .kFma l _ _ _ => some l
  | .kSqrt l _ _ => some l
  | .kAnd l _ _ => some l
  | .kOr l _ _ => some l
  | .kXor l _ _ => some l
  | .kNot l _ _ => some l
  | .kShl l _ _ _ => some l
  | .kShr l _ _ _ => some l
  | .kRol l _ _ _ => some l
  | .kRor l _ _ _ => some l
  | .kEq l _ _ => some l
  | .kNe l _ _ => some l
  | .kLt l _ _ => some l
  | .kLe l _ _ => some l
  | .kGt l _ _ => some l
  | .kGe l _ _ => some l
  | .kCvt l _ _ _ => some l
  | .kTrunc l _ _ _ => some l
  | .kRound l _ _ _ => some l
  | .kBits l _ _ _ => some l
  | .kSin l _ _ => some l
  | .kCos l _ _ => some l
  | .kTan l _ _ => some l
  | .kAsin l _ _ => some l
  | .kAcos l _ _ => some l
  | .kAtan l _ _ => some l
  | .kAtan2 l _ _ => some l
  | .kExp l _ _ => some l
  | .kLn l _ _ => some l
  | .kLog10 l _ _ => some l
  | .kExpt l _ _ => some l
  | .kFloor l _ _ => some l
  | .kCeil l _ _ => some l
  | .kRint l _ _ => some l
  | .kLd l _ _ _ => some l
  | .kSt l _ _ _ => some l
  | .kCopy l _ _ _ _ _ => some l
  | .kBlock l => some l
  | .kLoop l _ => some l
  | .kIf l _ => some l
  | .kElse l => some l
  | .kEnd l => some l
  | .kBreak l _ => some l
  | .kNext l _ => some l
  | .kReturn l => some l
  | .kCall l _ _ _ => some l
  | .kTimeNow l _ _ => some l
  | .kTakeInfo l _ _ => some l
  | .kModes l _ _ => some l
  | .kFaults l _ _ => some l
  | .kInputStatus l _ _ => some l
  | .kPosition l _ _ => some l
  | .kMbxIssue l _ _ => some l
  | .kMbxResult l _ _ => some l
  | .kCueRequest l _ _ => some l
  | .kCueCancel l _ _ => some l
  | .kCueState l _ _ => some l
  | .kRecord l _ _ => some l
  | _ => none

/-! ### KPC instructions (chapter 5) -/

/-- A lane runs a take of the running image: the image, the take, its innermost frame and the frames of the calls around it. -/
def Runs (l : Lane) (s : State) (i : Image) (t : LaneTake) (f : Frame) (rest : List Frame) : Prop :=
  runningImage s = some i ∧ runningTake s l = some t ∧ t.frames = f :: rest

/-- The value of a type that a local of a frame holds, and the integer that it stands for. -/
def operand (f : Frame) (t : MType) (n : Nat) : Val := t.take (Tbl.get f.locals n 0)
def integer (f : Frame) (t : MType) (n : Nat) : Int := t.intOf (operand f t n)

/-- The frame past an instruction of a number of words, and with a local written. -/
def past (f : Frame) (words : Nat) : Frame := { f with position := f.position + words }
def written (f : Frame) (d v : Nat) : Frame := { f with locals := Tbl.put f.locals d (BitVec.ofNat 64 v) }

/-- The take with fault bits set by an instruction of a frame (R175). -/
def faulted (bits : Nat) (f : Frame) (t : LaneTake) : LaneTake := t.raise bits (f.function, f.position)

/-- The state once a lane's take has gone on to a stack of frames: a call that is at the end of its code has returned. -/
def goesOn (l : Lane) (i : Image) (t : LaneTake) (frames : List Frame) (s : State) : State :=
  modLane l (fun x => x.setTake { t with frames := settle i frames.length frames }) s

/-- On every lane that runs a take, an instruction of a number of words that meets a condition leaves a take and a stack of frames, and
changes nothing else. -/
def Steps (l : Lane) (j : Instr) (when_ : Image → LaneTake → Frame → Prop) (take : Image → LaneTake → Frame → LaneTake)
    (frames : Image → LaneTake → Frame → List Frame → List Frame) : Prop :=
  ∀ s i t f rest, Runs l s i t f rest → when_ i t f → exec j s = .next (goesOn l i (take i t f) (frames i t f rest) s)

/-- An instruction that writes a value and fault bits, whatever the state. -/
def Writes (l : Lane) (j : Instr) (words d : Nat) (result : Frame → Nat × Nat) : Prop :=
  Steps l j (fun _ _ _ => True) (fun _ t f => faulted (result f).2 f t) (fun _ _ f rest => written (past f words) d (result f).1 :: rest)

/-- What an instruction of a number of words sees on a lane that runs a take. -/
def seen (words : Nat) (l : Lane) (s : State) (i : Image) (t : LaneTake) (f : Frame) (rest : List Frame) : Kpc :=
  ⟨i, laneOf s l, s.mbx.lanes.get l, { t with frames := rest }, past f words, (f.function, f.position)⟩

/-- The index of an access (R173): 0 without an index local, otherwise the local read as a signed integer of its declared type. -/
def Indexed (i : Image) (f : Frame) (a : Nat) (x : Int) : Prop :=
  a = 0xFFFF ∧ x = 0 ∨
    a ≠ 0xFFFF ∧ ∃ g c m, i.functions[f.function]? = some g ∧ g.locals[a]? = some c ∧ MType.ofCode c = some m ∧ m.isInt = true ∧
      x = toSigned m.bits (operand f m a)

/-- The instructions of a frame's function from a position on. -/
def ahead (i : Image) (f : Frame) (position : Nat) : List KWord :=
  match i.functions[f.function]? with
  | some g => g.instrs.filter fun x => position ≤ x.pos
  | none => []

/-! ### The parts of the state that frames name -/

/-- A part of the state. Some parts lie inside others. -/
inductive Part where
  /-- the commands that wait -/
  | queue
  /-- the time -/
  | time
  /-- the draws of free values -/
  | draws
  /-- what has left the module -/
  | out
  /-- the module's own registers -/
  | module
  /-- the module state (Table 3.12) -/
  | moduleState
  /-- the clock and PTP -/
  | clock
  /-- the event recorder -/
  | recorder
  /-- trust, sessions, contexts and Lull -/
  | trust
  /-- the external sessions -/
  | sessions
  /-- the security-association contexts -/
  | contexts
  /-- the operator anchor -/
  | anchor
  /-- the Owner lock -/
  | ownerLock
  /-- the credentials -/
  | credentials
  /-- the version floors -/
  | floors
  /-- the Lull domain -/
  | lull
  /-- the mailbox: queue, token tables, lane windows, counters -/
  | mbx
  /-- the epoch and its stored value -/
  | epoch
  /-- the lane mailbox windows -/
  | windows
  /-- the disabled command classes -/
  | disabled
  /-- Test, Squall and the self-tests -/
  | test
  /-- the lanes and the Continuity voter -/
  | voter
  /-- the program: images, retentive memory, forces -/
  | prog
  /-- the force table -/
  | forces
  /-- the image slots -/
  | images
  /-- the activation controller -/
  | act
  /-- the position unit and the cues -/
  | pos
  /-- the safety functions and safe I/O -/
  | safety
  /-- the parameter set in force -/
  | parameters
  /-- the two copies of the Lock-out flag -/
  | flag
  /-- the safety change log -/
  | changeLog
  /-- the signal chain -/
  | signal
  /-- the pair and the Slipstream -/
  | pair
  /-- the pair role -/
  | role
  /-- the networks -/
  | net
  /-- the MVB bridge -/
  | mvb
  /-- the update of the module -/
  | update
  deriving DecidableEq, Repr

/-- A part is the same in two states. -/
def Part.same (s t : State) : Part → Prop
  | .queue => t.pending = s.pending
  | .time => t.time = s.time
  | .draws => t.draws = s.draws
  | .out => t.out = s.out
  | .module => t.module = s.module
  | .moduleState => t.module.state = s.module.state
  | .clock => t.clock = s.clock
  | .recorder => t.recorder = s.recorder
  | .trust => t.trust = s.trust
  | .sessions => t.trust.sessions = s.trust.sessions
  | .contexts => t.trust.contexts = s.trust.contexts
  | .anchor => t.trust.anchor = s.trust.anchor
  | .ownerLock => t.trust.ownerLock = s.trust.ownerLock
  | .credentials => t.trust.credentials = s.trust.credentials
  | .floors => t.trust.floors = s.trust.floors
  | .lull => t.trust.lull = s.trust.lull
  | .mbx => t.mbx = s.mbx
  | .epoch => t.mbx.epoch = s.mbx.epoch ∧ t.mbx.storedEpoch = s.mbx.storedEpoch
  | .windows => t.mbx.lanes = s.mbx.lanes
  | .disabled => t.mbx.disabled = s.mbx.disabled
  | .test => t.test = s.test
  | .voter => t.voter = s.voter
  | .prog => t.prog = s.prog
  | .forces => t.prog.forces = s.prog.forces
  | .images => t.prog.slot0 = s.prog.slot0 ∧ t.prog.slot1 = s.prog.slot1
  | .act => t.act = s.act
  | .pos => t.pos = s.pos
  | .safety => t.safety = s.safety
  | .parameters => t.safety.active = s.safety.active
  | .flag => t.safety.flag0 = s.safety.flag0 ∧ t.safety.flag1 = s.safety.flag1
  | .changeLog => t.safety.changeLog = s.safety.changeLog ∧ t.safety.changeSequence = s.safety.changeSequence
  | .signal => t.signal = s.signal
  | .pair => t.pair = s.pair
  | .role => t.pair.role = s.pair.role
  | .net => t.net = s.net
  | .mvb => t.mvb = s.mvb
  | .update => t.update = s.update

/-- Number of a part. -/
def Part.number : Part → Nat
  | .queue => 0 | .time => 1 | .draws => 2 | .out => 3 | .module => 4 | .moduleState => 5
  | .clock => 6 | .recorder => 7 | .trust => 8 | .sessions => 9 | .contexts => 10 | .anchor => 11
  | .ownerLock => 12 | .credentials => 13 | .floors => 14 | .lull => 15 | .mbx => 16 | .epoch => 17
  | .windows => 18 | .disabled => 19 | .test => 20 | .voter => 21 | .prog => 22 | .forces => 23
  | .images => 24 | .act => 25 | .pos => 26 | .safety => 27 | .parameters => 28 | .flag => 29
  | .changeLog => 30 | .signal => 31 | .pair => 32 | .role => 33 | .net => 34 | .mvb => 35
  | .update => 36

/-- Receiving a command's envelope, refusing it, and completing it: the session's last command and its end, the queue and the token tables,
credits, completions to sessions, lane channels and the partner, and the end of Test with the session that entered it. -/
def receipt : List Part := [.out, .recorder, .trust, .sessions, .contexts, .mbx, .windows, .test, .pair, .net]

/-- The parts of the state that a command or event can change. -/
def touches : Instr → List Part
  | .sessionLogin _ => receipt
  | .sessionEnd _ => receipt
  | .sessionList _ => receipt
  | .identityRead _ => receipt
  | .enrolRequest _ => receipt
  | .enrolInstall _ => receipt ++ [.draws, .module, .anchor, .credentials, .floors]
  | .anchorRotate _ => receipt ++ [.anchor, .floors]
  | .credentialSet _ => receipt ++ [.draws, .credentials]
  | .credentialRemove _ => receipt ++ [.credentials]
  | .saInstall _ => receipt
  | .saRelease _ => receipt
  | .ownerLock _ => receipt ++ [.ownerLock]
  | .tamperAcknowledge _ => receipt ++ [.lull]
  | .lullStatus _ => receipt
  | .moduleStatus _ => receipt
  | .moduleInfo _ => receipt
  | .modeRequest _ => receipt ++ [.module, .moduleState, .floors, .epoch, .voter, .prog, .forces, .act, .pos, .safety, .signal, .mvb]
  | .moduleRestart _ => receipt ++ [.module]
  | .classControl _ => receipt ++ [.disabled, .voter, .pos, .signal, .mvb]
  | .tokenQuery _ => receipt
  | .mailboxCounters _ => receipt
  | .laneStatus _ => receipt
  | .laneHealth _ => receipt
  | .laneTraceRead _ => receipt
  | .laneIsolate _ => receipt ++ [.epoch, .voter, .act, .pos, .safety, .signal, .mvb]
  | .laneReshoot _ => receipt ++ [.voter]
  | .staggerSet _ => receipt ++ [.voter]
  | .voterTest _ => receipt ++ [.voter]
  | .laneDiagClear _ => receipt ++ [.voter]
  | .programStatus _ => receipt
  | .imageLoad _ => receipt
  | .programStart _ => receipt ++ [.floors, .epoch, .voter, .prog, .act, .pos, .signal, .mvb]
  | .programStop _ => receipt ++ [.prog, .act, .pos, .safety, .mvb]
  | .recutStart _ => receipt ++ [.prog]
  | .recutCancel _ => receipt ++ [.prog]
  | .forceSet _ => receipt ++ [.prog, .forces]
  | .forceClear _ => receipt ++ [.prog, .forces]
  | .forceList _ => receipt
  | .variableRead _ => receipt ++ [.prog]
  | .imageErase _ => receipt ++ [.prog, .images]
  | .pairStatus _ => receipt
  | .pairHealth _ => receipt
  | .pairConfigure _ => receipt ++ [.voter, .act, .safety, .role, .mvb]
  | .pairSwitchover _ => receipt
  | .pairResync _ => receipt ++ [.safety]
  | .pairBudget _ => receipt
  | .pairCounters _ => receipt
  | .safetyStatus _ => receipt
  | .safetyParamLoad _ => receipt ++ [.safety]
  | .safetyParamActivate _ => receipt ++ [.floors, .safety, .parameters, .changeLog]
  | .lockoutEnter _ => receipt ++ [.module, .moduleState, .epoch, .voter, .prog, .forces, .act, .pos, .safety, .flag, .changeLog, .signal, .mvb]
  | .lockoutReset _ => receipt ++ [.safety]
  | .changeLogRead _ => receipt
  | .windowClose _ => receipt ++ [.pos]
  | .safeIoTest _ => receipt ++ [.safety]
  | .positionStatus _ => receipt
  | .positionConfigure _ => receipt ++ [.act, .pos, .safety]
  | .positionMark _ => receipt ++ [.pos]
  | .positionAt _ => receipt
  | .cueStatus _ => receipt
  | .cueControl _ => receipt ++ [.voter, .pos, .signal, .mvb]
  | .positionCounters _ => receipt
  | .signalStatus _ => receipt
  | .channelConfigure _ => receipt ++ [.signal]
  | .coeffLoad _ => receipt ++ [.signal]
  | .signalDissolve _ => receipt ++ [.signal]
  | .channelControl _ => receipt ++ [.voter, .pos, .signal, .mvb]
  | .inputSwitch _ => receipt ++ [.signal]
  | .signalCounters _ => receipt
  | .netStatus _ => receipt
  | .portConfigure _ => receipt
  | .portCounters _ => receipt
  | .fdbPin _ => receipt
  | .fdbUnpin _ => receipt
  | .fdbRead _ => receipt
  | .fdbFlush _ => receipt
  | .flowConfigure _ => receipt
  | .flowControl _ => receipt ++ [.voter, .pos, .signal, .mvb]
  | .flowStatus _ => receipt
  | .frerConfigure _ => receipt
  | .gateConfigure _ => receipt
  | .launchWrite _ => receipt
  | .launchFlush _ => receipt
  | .rnatConfigure _ => receipt
  | .netSettings _ => receipt
  | .mvbStatus _ => receipt
  | .mvbConfigure _ => receipt ++ [.mvb]
  | .mvbPortConfigure _ => receipt ++ [.voter, .pos, .signal, .mvb]
  | .mvbPortControl _ => receipt ++ [.voter, .pos, .signal, .mvb]
  | .mvbWrite _ => receipt ++ [.mvb]
  | .mvbRead _ => receipt ++ [.mvb]
  | .mvbLock _ => receipt ++ [.mvb]
  | .mvbUnlock _ => receipt ++ [.mvb]
  | .mvbMap _ => receipt ++ [.mvb]
  | .mvbDevices _ => receipt
  | .mvbCounters _ => receipt
  | .timeStatus _ => receipt
  | .timeConfigure _ => receipt ++ [.clock, .act]
  | .timeSet _ => receipt ++ [.draws, .clock, .lull, .prog, .pos, .safety]
  | .timePortStatus _ => receipt
  | .activationStatus _ => receipt
  | .sourceConfigure _ => receipt ++ [.voter, .act, .pos, .signal, .mvb]
  | .sourceMask _ => receipt ++ [.act]
  | .activationHold _ => receipt ++ [.prog, .act]
  | .activationTrigger _ => receipt ++ [.act]
  | .activationCounters _ => receipt
  | .recorderStatus _ => receipt
  | .recorderRead _ => receipt
  | .recorderFreeze _ => receipt
  | .recorderRelease _ => receipt
  | .recorderClearRequest _ => receipt ++ [.draws]
  | .recorderClearConfirm _ => receipt
  | .recorderCounters _ => receipt
  | .updateStatus _ => receipt
  | .updateStage _ => receipt
  | .updateSchedule _ => receipt ++ [.update]
  | .updateCancel _ => receipt ++ [.safety, .update]
  | .testStatus _ => receipt
  | .testEnter _ => receipt ++ [.draws]
  | .testExit _ => receipt
  | .squallSet _ => receipt
  | .selfTestRun _ => receipt ++ [.voter]
  | .kNop _ => [.voter]
  | .kConst _ _ _ _ => [.voter]
  | .kMov _ _ _ => [.voter]
  | .kSel _ _ _ _ => [.voter]
  | .kAdd _ _ _ => [.voter]
  | .kSub _ _ _ => [.voter]
  | .kMul _ _ _ => [.voter]
  | .kDiv _ _ _ => [.voter]
  | .kMod _ _ _ => [.voter]
  | .kNeg _ _ _ => [.voter]
  | .kAbs _ _ _ => [.voter]
  | .kMin _ _ _ => [.voter]
  | .kMax _ _ _ => [.voter]
  | .kFma _ _ _ _ => [.voter]
  | .kSqrt _ _ _ => [.voter]
  | .kAnd _ _ _ => [.voter]
  | .kOr _ _ _ => [.voter]
  | .kXor _ _ _ => [.voter]
  | .kNot _ _ _ => [.voter]
  | .kShl _ _ _ _ => [.voter]
  | .kShr _ _ _ _ => [.voter]
  | .kRol _ _ _ _ => [.voter]
  | .kRor _ _ _ _ => [.voter]
  | .kEq _ _ _ => [.voter]
  | .kNe _ _ _ => [.voter]
  | .kLt _ _ _ => [.voter]
  | .kLe _ _ _ => [.voter]
  | .kGt _ _ _ => [.voter]
  | .kGe _ _ _ => [.voter]
  | .kCvt _ _ _ _ => [.voter]
  | .kTrunc _ _ _ _ => [.voter]
  | .kRound _ _ _ _ => [.voter]
  | .kBits _ _ _ _ => [.voter]
  | .kSin _ _ _ => [.voter]
  | .kCos _ _ _ => [.voter]
  | .kTan _ _ _ => [.voter]
  | .kAsin _ _ _ => [.voter]
  | .kAcos _ _ _ => [.voter]
  | .kAtan _ _ _ => [.voter]
  | .kAtan2 _ _ _ => [.voter]
  | .kExp _ _ _ => [.voter]
  | .kLn _ _ _ => [.voter]
  | .kLog10 _ _ _ => [.voter]
  | .kExpt _ _ _ => [.voter]
  | .kFloor _ _ _ => [.voter]
  | .kCeil _ _ _ => [.voter]
  | .kRint _ _ _ => [.voter]
  | .kLd _ _ _ _ => [.voter]
  | .kSt _ _ _ _ => [.voter]
  | .kCopy _ _ _ _ _ _ => [.voter]
  | .kBlock _ => [.voter]
  | .kLoop _ _ => [.voter]
  | .kIf _ _ => [.voter]
  | .kElse _ => [.voter]
  | .kEnd _ => [.voter]
  | .kBreak _ _ => [.voter]
  | .kNext _ _ => [.voter]
  | .kReturn _ => [.voter]
  | .kCall _ _ _ _ => [.voter]
  | .kTimeNow _ _ _ => [.voter]
  | .kTakeInfo _ _ _ => [.voter]
  | .kModes _ _ _ => [.voter]
  | .kFaults _ _ _ => [.voter]
  | .kInputStatus _ _ _ => [.voter]
  | .kPosition _ _ _ => [.voter]
  | .kMbxIssue _ _ _ => [.voter]
  | .kMbxResult _ _ _ => [.voter]
  | .kCueRequest _ _ _ => [.voter]
  | .kCueCancel _ _ _ => [.voter]
  | .kCueState _ _ _ => [.voter]
  | .kRecord _ _ _ => [.voter]
  | .mbxChDoorbell _ _ _ => [.mbx, .windows]
  | .laneCopyTakeover _ _ => [.draws, .out, .module, .moduleState, .clock, .recorder, .trust, .sessions, .contexts, .anchor, .ownerLock,
      .credentials, .floors, .lull, .mbx, .epoch, .windows, .disabled, .test, .voter, .prog, .forces, .images, .act, .pos, .safety, .parameters,
      .flag, .changeLog, .signal, .pair, .role, .net, .mvb, .update]
  | .mbxChPop _ _ => [.mbx, .windows, .voter]
  | .mbxShadowFetch _ => [.mbx, .windows, .voter]
  | .actTake _ => [.voter]
  | .actDefer _ _ => [.voter]
  | .timStepSumLo _ => [.voter]
  | .registerWrite _ _ _ => [.mbx, .windows, .voter]
  | .powerGood _ => [.draws, .out, .module, .moduleState, .clock, .recorder, .trust, .sessions, .contexts, .lull, .mbx, .epoch, .windows,
      .test, .voter, .prog, .forces, .images, .act, .pos, .safety, .flag, .changeLog, .signal, .pair, .role, .net, .mvb, .update]
  | .bootingEnd => [.out, .module, .moduleState, .clock, .recorder, .trust, .sessions, .contexts, .floors, .mbx, .epoch, .windows, .disabled,
      .test, .voter, .prog, .forces, .act, .pos, .safety, .parameters, .flag, .changeLog, .signal, .pair, .net, .mvb, .update]
  | .provingEnd _ => [.out, .module, .moduleState, .clock, .recorder, .trust, .sessions, .contexts, .floors, .mbx, .epoch, .windows,
      .disabled, .test, .voter, .prog, .forces, .images, .act, .pos, .safety, .parameters, .flag, .changeLog, .signal, .pair, .role, .net, .mvb,
      .update]
  | .reset => [.time, .out, .module, .moduleState, .clock, .recorder, .trust, .sessions, .contexts, .lull, .mbx, .epoch, .windows, .disabled,
      .test, .voter, .prog, .forces, .images, .act, .pos, .safety, .signal, .pair, .role, .net, .mvb, .update]
  | .supplyFailure _ => [.out, .module, .recorder, .trust, .sessions, .contexts, .mbx, .test, .prog, .safety, .pair, .net, .update]
  | .supplyReturn _ => [.module, .recorder, .update]
  | .recorderSupplyStop => [.time, .recorder]
  | .holdUpExpiry => [.time, .out, .module, .moduleState, .clock, .recorder, .trust, .sessions, .contexts, .lull, .mbx, .epoch, .windows,
      .disabled, .test, .voter, .prog, .forces, .images, .act, .pos, .safety, .signal, .pair, .role, .net, .mvb, .update]
  | .slateWatchdogExpiry => [.out, .module, .moduleState, .clock, .recorder, .trust, .sessions, .contexts, .lull, .mbx, .epoch, .windows,
      .disabled, .test, .voter, .prog, .forces, .images, .act, .pos, .safety, .signal, .pair, .role, .net, .mvb, .update]
  | .reelFault _ => [.out, .module, .recorder, .trust, .sessions, .contexts, .mbx, .test, .pair, .net, .mvb]
  | .reelRestartComplete => [.module]
  | .caseOpenSample _ => [.trust, .lull]
  | .lullLatchRead => [.recorder, .trust, .lull]
  | .cellMeasurement _ => [.recorder, .trust, .lull]
  | .lullClockWrite => [.time, .draws, .clock, .trust, .lull]
  | .tlsSessionOpen _ _ => [.draws, .out, .trust, .sessions]
  | .hardwareSessionOpen _ _ _ => [.draws, .out, .recorder, .trust, .sessions, .contexts, .mbx, .test, .pair, .net]
  | .sessionStreamError _ => [.out, .recorder, .trust, .sessions, .contexts, .mbx, .test, .pair, .net]
  | .preLoginTimeout _ => [.time, .out, .recorder, .trust, .sessions, .contexts, .mbx, .test, .pair, .net]
  | .sessionIdleTimeout _ => [.time, .out, .recorder, .trust, .sessions, .contexts, .mbx, .test, .pair, .net]
  | .sessionLifetimeExpiry _ => [.time, .out, .recorder, .trust, .sessions, .contexts, .mbx, .test, .pair, .net]
  | .argon2idDone => [.out, .recorder, .trust, .sessions, .contexts, .credentials, .mbx, .test, .pair]
  | .credentialLockExpiry _ => [.time, .trust, .credentials]
  | .saDrainEnd _ => [.time, .trust, .contexts]
  | .saRekeyLimit _ => [.time, .draws, .trust, .sessions, .contexts, .net]
  | .mkpduReceive _ _ _ => [.trust, .sessions, .contexts, .net]
  | .inputFreeze _ => [.time, .out, .recorder, .trust, .contexts, .mbx, .epoch, .windows, .test, .voter, .prog, .act, .pos, .signal, .pair, .mvb]
  | .takeStart _ _ => [.time, .out, .module, .moduleState, .recorder, .trust, .sessions, .contexts, .mbx, .epoch, .windows, .test, .voter,
      .prog, .forces, .act, .pos, .safety, .flag, .changeLog, .signal, .pair, .net, .mvb]
  | .signaturePost _ _ _ _ _ => [.draws, .out, .module, .moduleState, .clock, .recorder, .trust, .sessions, .contexts, .anchor, .ownerLock,
      .credentials, .floors, .lull, .mbx, .epoch, .windows, .disabled, .test, .voter, .prog, .forces, .images, .act, .pos, .safety, .parameters,
      .flag, .changeLog, .signal, .pair, .role, .net, .mvb, .update]
  | .voteDeadline _ => [.time, .out, .module, .moduleState, .recorder, .trust, .sessions, .contexts, .mbx, .epoch, .windows, .test, .voter,
      .prog, .forces, .act, .pos, .safety, .flag, .changeLog, .signal, .pair, .net, .mvb]
  | .laneFault _ _ => [.out, .module, .moduleState, .recorder, .trust, .sessions, .contexts, .mbx, .epoch, .windows, .test, .voter, .prog,
      .forces, .act, .pos, .safety, .flag, .changeLog, .signal, .pair, .net, .mvb]
  | .laneWatchdogExpiry _ => [.time, .out, .module, .moduleState, .recorder, .trust, .sessions, .contexts, .mbx, .epoch, .windows, .test,
      .voter, .prog, .forces, .act, .pos, .safety, .flag, .changeLog, .signal, .pair, .net, .mvb]
  | .divergenceComparisonDone _ _ => [.recorder, .voter]
  | .laneRestartDone _ _ => [.out, .recorder, .trust, .contexts, .mbx, .windows, .test, .voter, .prog, .pair]
  | .reshootExportDone _ _ _ => [.out, .module, .moduleState, .recorder, .trust, .sessions, .contexts, .mbx, .epoch, .windows, .test, .voter,
      .prog, .forces, .act, .pos, .safety, .flag, .changeLog, .signal, .pair, .net, .mvb]
  | .reshootImportDone _ _ => [.out, .recorder, .trust, .contexts, .mbx, .test, .voter, .pair]
  | .reshootRetry _ => [.time, .voter]
  | .twoLaneLimitExpiry => [.time, .recorder, .voter]
  | .twoLaneLockout => [.out, .module, .moduleState, .recorder, .trust, .sessions, .contexts, .mbx, .epoch, .windows, .test, .voter, .prog,
      .forces, .act, .pos, .safety, .flag, .changeLog, .signal, .pair, .net, .mvb]
  | .backgroundSlice _ => [.out, .module, .moduleState, .recorder, .trust, .sessions, .contexts, .mbx, .epoch, .windows, .test, .voter,
      .prog, .forces, .act, .pos, .safety, .flag, .changeLog, .signal, .pair, .net, .mvb]
  | .cutterTranslationDone _ => [.draws, .out, .module, .moduleState, .clock, .recorder, .trust, .sessions, .contexts, .anchor, .ownerLock,
      .credentials, .floors, .lull, .mbx, .epoch, .windows, .disabled, .test, .voter, .prog, .forces, .images, .act, .pos, .safety, .parameters,
      .flag, .changeLog, .signal, .pair, .role, .net, .mvb, .update]
  | .retentiveCommitPeriodic => [.time, .prog]
  | .retentiveCommitComplete _ => [.out, .module, .recorder, .trust, .contexts, .mbx, .test, .voter, .prog, .safety, .pair, .update]
  | .recutGuard => [.time, .prog]
  | .recutSwitch => [.time, .out, .recorder, .trust, .contexts, .floors, .mbx, .test, .voter, .prog, .forces, .act, .pos, .safety, .pair,
      .net, .mvb]
  | .sourceDetection _ _ => [.time, .act]
  | .activationCommit _ => [.time, .prog, .act]
  | .activationHoldLimit => [.time, .prog, .act]
  | .positionTick _ => [.time, .out, .module, .moduleState, .recorder, .trust, .sessions, .contexts, .mbx, .epoch, .windows, .test, .voter,
      .prog, .forces, .act, .pos, .safety, .flag, .changeLog, .signal, .pair, .net, .mvb]
  | .standstillProven => [.time, .recorder, .safety]
  | .speedViolationClear => [.time, .recorder, .safety]
  | .windowOpenTimeExpiry _ => [.time, .safety]
  | .bridgingLimit => [.out, .recorder, .trust, .sessions, .contexts, .mbx, .test, .act, .pos, .safety, .pair, .net]
  | .axleClean _ => [.pos]
  | .timeCue _ => [.time, .out, .prog, .pos, .safety, .net]
  | .safeInputChange _ _ => [.safety]
  | .inputPathFault _ => [.out, .module, .moduleState, .recorder, .trust, .sessions, .contexts, .mbx, .epoch, .windows, .test, .voter, .prog,
      .forces, .act, .pos, .safety, .flag, .changeLog, .signal, .pair, .net, .mvb]
  | .inputPathTest _ _ _ => [.out, .module, .moduleState, .recorder, .trust, .sessions, .contexts, .mbx, .epoch, .windows, .test, .voter,
      .prog, .forces, .act, .pos, .safety, .flag, .changeLog, .signal, .pair, .net, .mvb]
  | .testPulse _ _ _ => [.time, .out, .module, .moduleState, .recorder, .trust, .sessions, .contexts, .mbx, .epoch, .windows, .test, .voter,
      .prog, .forces, .act, .pos, .safety, .flag, .changeLog, .signal, .pair, .net, .mvb]
  | .pairDiscrepancyFault _ => [.time, .safety]
  | .outputTimeout _ => [.time, .safety]
  | .overcurrentTrip _ => [.safety]
  | .backFeedFault _ => [.safety]
  | .switchTest _ _ _ _ => [.out, .module, .moduleState, .recorder, .trust, .sessions, .contexts, .mbx, .epoch, .windows, .test, .voter,
      .prog, .forces, .act, .pos, .safety, .flag, .changeLog, .signal, .pair, .net, .mvb]
  | .switchTestOverdue _ => [.time, .recorder, .safety]
  | .parameterCrcCheck _ _ => [.out, .module, .moduleState, .recorder, .trust, .sessions, .contexts, .mbx, .epoch, .windows, .test, .voter,
      .prog, .forces, .act, .pos, .safety, .flag, .changeLog, .signal, .pair, .net, .mvb]
  | .fieldSupplyLow _ => [.recorder, .safety]
  | .resetKeyChange _ _ => [.out, .module, .moduleState, .recorder, .trust, .contexts, .mbx, .test, .safety, .flag, .changeLog, .pair]
  | .resetKeyHoldLimit => [.time, .out, .trust, .contexts, .mbx, .test, .safety, .pair]
  | .resetKeyArmingTimeout => [.time, .out, .trust, .contexts, .mbx, .test, .safety, .pair]
  | .streamFrame _ _ => [.out, .trust, .contexts, .mbx, .test, .act, .signal, .pair]
  | .channelStale _ => [.time, .out, .test, .signal, .pair]
  | .dissolveStart _ => [.out, .trust, .contexts, .mbx, .test, .signal, .pair]
  | .dissolveComplete _ => [.out, .test, .signal, .pair]
  | .frameReceive _ _ => [.out, .signal, .net]
  | .egressFrameDone _ => [.time, .out, .net]
  | .fdbAging _ _ => [.time, .net]
  | .gateEvent _ => [.time, .out, .net]
  | .gateListTakeover _ => [.time, .out, .net]
  | .launchGuardBand _ _ => [.time, .net]
  | .frerResetTimeout _ => [.time, .net]
  | .frerLatentError _ _ => [.time, .recorder, .net]
  | .ttdpHelloSend _ => [.time, .out, .net]
  | .ttdpHelloReceive _ _ => [.net]
  | .ttdpHelloTimeout _ => [.time, .net]
  | .topologyFrame _ _ => [.net]
  | .inaugurationComplete _ => [.recorder, .net]
  | .linkChange _ _ _ => [.out, .clock, .recorder, .trust, .sessions, .contexts, .mbx, .test, .act, .safety, .pair, .role, .net, .mvb]
  | .relayReadback _ _ => [.recorder, .net]
  | .sfpInsertion _ _ _ => [.recorder, .pair, .net]
  | .trdpPdReceive _ => [.trust, .contexts, .act, .net, .mvb]
  | .trdpPrReceive _ => [.out, .trust, .contexts, .net]
  | .messageDataReceive _ _ _ => [.draws, .out, .module, .moduleState, .clock, .recorder, .trust, .sessions, .contexts, .anchor, .ownerLock,
      .credentials, .floors, .lull, .mbx, .epoch, .windows, .disabled, .test, .voter, .prog, .forces, .images, .act, .pos, .safety, .parameters,
      .flag, .changeLog, .signal, .pair, .role, .net, .mvb, .update]
  | .flowFreshnessTimeout _ => [.time, .net]
  | .scheduledLaunch _ => [.time, .out, .trust, .contexts, .net, .mvb]
  | .heartbeat => [.time, .out, .net]
  | .mvbBasicPeriod _ => [.time, .out, .trust, .contexts, .mbx, .test, .pair, .mvb]
  | .mvbMasterFrame _ _ _ => [.draws, .out, .trust, .contexts, .mbx, .test, .pair, .mvb]
  | .mvbSlaveFrame _ _ _ _ _ _ => [.out, .trust, .contexts, .mbx, .test, .act, .pair, .mvb]
  | .mvbSinkStale _ => [.time, .mvb]
  | .mvbWriteDeadline _ => [.time, .out, .trust, .contexts, .mbx, .test, .pair, .mvb]
  | .mvbReadTimeout _ => [.time, .out, .trust, .contexts, .mbx, .test, .pair, .mvb]
  | .mvbLockExpiry _ => [.time, .out, .trust, .contexts, .mbx, .test, .pair, .mvb]
  | .mvbMastershipOffer _ => [.mvb]
  | .mvbBindingWriteFailure _ => [.time, .recorder, .mvb]
  | .ptpSync _ _ => [.draws, .out, .clock, .recorder, .trust, .lull, .prog, .act, .pos, .safety, .net]
  | .ptpAnnounce _ _ _ => [.clock, .act]
  | .ptpAnnounceTimeout _ _ => [.clock, .act]
  | .ptpPdelay _ _ _ => [.clock]
  | .slipstreamHello _ => [.draws, .out, .recorder, .trust, .sessions, .contexts, .mbx, .epoch, .windows, .test, .voter, .prog, .act, .pos,
      .safety, .signal, .pair, .role, .net, .mvb]
  | .slipstreamHelloSend => [.out, .test, .pair]
  | .slipControl _ => [.draws, .out, .module, .moduleState, .clock, .recorder, .trust, .sessions, .contexts, .anchor, .ownerLock,
      .credentials, .floors, .lull, .mbx, .epoch, .windows, .disabled, .test, .voter, .prog, .forces, .images, .act, .pos, .safety, .parameters,
      .flag, .changeLog, .signal, .pair, .role, .net, .mvb, .update]
  | .slipSnapshot _ => [.out, .recorder, .trust, .contexts, .mbx, .epoch, .windows, .test, .voter, .prog, .act, .pos, .safety, .signal,
      .pair, .mvb]
  | .slipToken _ _ _ => [.out, .mbx, .test, .pair]
  | .slipAck _ _ _ => [.out, .recorder, .trust, .sessions, .contexts, .mbx, .test, .pair, .net]
  | .slipTakeEnd _ => [.out, .recorder, .trust, .sessions, .contexts, .mbx, .epoch, .windows, .test, .voter, .prog, .act, .pos, .safety,
      .signal, .pair, .role, .net, .mvb]
  | .slipStatus _ => [.out, .recorder, .trust, .sessions, .contexts, .mbx, .test, .act, .safety, .pair, .role, .net, .mvb]
  | .slipKeepalive _ _ => [.out, .test, .safety, .pair]
  | .slipResync _ => [.draws, .out, .module, .moduleState, .clock, .recorder, .trust, .sessions, .contexts, .anchor, .ownerLock,
      .credentials, .floors, .lull, .mbx, .epoch, .windows, .disabled, .test, .voter, .prog, .forces, .images, .act, .pos, .safety, .parameters,
      .flag, .changeLog, .signal, .pair, .role, .net, .mvb, .update]
  | .pairTelegram _ _ => [.out, .test, .safety, .pair]
  | .supervisedTakeMissed => [.time, .out, .recorder, .trust, .sessions, .contexts, .mbx, .epoch, .windows, .test, .voter, .prog, .act, .pos,
      .safety, .signal, .pair, .role, .net, .mvb]
  | .takeoverInstant => [.time, .out, .prog, .pos, .safety, .pair, .net]
  | .handoverInstant => [.time, .out, .module, .recorder, .trust, .sessions, .contexts, .mbx, .epoch, .windows, .test, .voter, .prog, .act,
      .pos, .safety, .signal, .pair, .role, .net, .mvb, .update]
  | .resyncStart => [.time, .out, .test, .pair]
  | .resyncRetry => [.time, .out, .trust, .contexts, .mbx, .test, .pair]
  | .updateActivation => [.time, .out, .module, .recorder, .trust, .sessions, .contexts, .mbx, .test, .voter, .prog, .act, .pos, .safety,
      .pair, .net, .mvb, .update]
  | .updatePartnerWaitEnd => [.time, .out, .recorder, .test, .pair, .update]
  | .updateTrialTimeout => [.time, .module, .update]
  | .recordWrite _ _ => [.out, .recorder, .trust, .contexts, .mbx, .test, .pair]
  | .suppressedRecord _ => [.time, .recorder]
  | .freezeTimeout => [.time, .out, .recorder, .trust, .contexts, .mbx, .test, .pair]
  | .clearTicketExpiry => [.time, .recorder]
  | .shadowEntryExpiry _ _ _ => [.mbx, .windows]
  | .testEnChange _ => [.out, .module, .recorder, .trust, .sessions, .contexts, .mbx, .test, .pair, .net]
  | .testLimitExpiry => [.time, .out, .recorder, .trust, .sessions, .contexts, .mbx, .test, .pair, .net]
  | .backpressureWindow => [.time, .test, .net]
  | .resetRelease _ => [.draws, .out, .module, .moduleState, .clock, .recorder, .trust, .sessions, .contexts, .lull, .mbx, .epoch, .windows,
      .test, .voter, .prog, .forces, .images, .act, .pos, .safety, .flag, .changeLog, .signal, .pair, .role, .net, .mvb, .update]
  | .resourceGrant _ => [.draws, .out, .module, .moduleState, .clock, .recorder, .trust, .sessions, .contexts, .anchor, .ownerLock,
      .credentials, .floors, .lull, .mbx, .epoch, .windows, .disabled, .test, .voter, .prog, .forces, .images, .act, .pos, .safety, .parameters,
      .flag, .changeLog, .signal, .pair, .role, .net, .mvb, .update]
  | .fieldSupplyReturn _ => [.safety]
  | .resetKeyDiscrepancy => [.time, .out, .trust, .contexts, .mbx, .test, .safety, .pair]
  | .holdUpStoreCharged _ => [.module, .recorder]
  | .slipstreamFragmentDone _ => [.time, .out, .test, .pair]
  | .healthReportSend => [.out, .test, .pair]
  | .ptpMessageSend _ _ => [.out, .clock]
  | .mailboxResponseDelayEnd => [.time, .out, .recorder, .trust, .sessions, .contexts, .mbx, .test, .pair, .net]
  | .correctedMemoryError _ => [.voter]

end Sys2Proof.Claims
end

