-- ==== Sys2Proof/Certificates/Slice0/Obligations.lean ====
section
/-! DEFINITION. The statements for the provers: what each command and event does, what it leaves alone, and what every step keeps. -/

open Sys2Proof Sys2Proof.Machine Sys2Proof.Claims

/-- With a command c at the front of the queue, a step answers exactly what exec answers for c on the state whose queue is the rest: the
same next state, fault or refusal. -/
def Obligations.StepRunsTheFrontCommand : Prop :=
  (∀ (s : State) (c : Instr) (rest : List Instr), s.pending = c :: rest → step s = exec c { s with pending := rest })

/-- On an empty queue a step answers the same state one period of the 400 MHz GF clock later. This is the model's choice of log entry 10,
not a rule of the manual. -/
def Obligations.IdleModuleKeepsItsState : Prop :=
  (∀ s : State, s.pending = [] → step s = .next { s with time := s.time + 5 })

/-- In the state after reset the module is Stowed without supply, no operator anchor is installed, the epoch and its stored value are 0, no
command waits or has been accepted, no session is open, the program is Empty, the position Invalid, the time Unset, the pair role Solo, the
update axis idle, Test off, and nothing has left the module. The values that the manual does not give are the choices of log entry 8. -/
def Obligations.ResetLeavesTheModuleStowed : Prop :=
  (State.reset.module.state = .stowed ∧ State.reset.module.supplied = false ∧ State.reset.trust.anchor = none ∧ State.reset.mbx.epoch = 0 ∧
  State.reset.mbx.storedEpoch = 0 ∧ State.reset.pending = [] ∧ State.reset.mbx.queue = [] ∧ State.reset.trust.sessions = [] ∧
  State.reset.prog.state = .empty ∧ State.reset.pos.state = .invalid ∧ State.reset.clock.state = .unset ∧ State.reset.pair.role = .solo ∧
  State.reset.update.axis = 0 ∧ State.reset.test.squall = false ∧ State.reset.out = [])

/-- The invariant of EpochStoredKept holds in the state after reset. -/
def Obligations.EpochStoredAtReset : Prop :=
  (State.reset.mbx.epoch = State.reset.mbx.storedEpoch)

/-- Whatever command or event a step takes, if the epoch counter equals its stored value before it, it does so after it: no epoch is ever in
use that a loss of supply could bring back. -/
def Obligations.EpochStoredKept : Prop :=
  (∀ s t : State, step s = .next t → s.mbx.epoch = s.mbx.storedEpoch → t.mbx.epoch = t.mbx.storedEpoch)

/-- After any step that answers a next state the time and the count of draws have not fallen, everything that had left the module is still
the beginning of what has left it, and the queue of waiting commands is the tail of the queue before: the order of log entry 7 and the queue
are never rewritten. -/
def Obligations.TimeAndOutputsOnlyGoOn : Prop :=
  (∀ s t : State, step s = .next t → s.time ≤ t.time ∧ s.draws ≤ t.draws ∧ s.out <+: t.out ∧ t.pending = s.pending.tail)

/-- Whatever a step does, the floor of every object type and signer, the boot counter and the next sequence number of the safety change log
are at least what they were: a roll-back cannot be hidden by any command or event. -/
def Obligations.CountersOfRecordNeverFall : Prop :=
  (∀ s t : State, step s = .next t → (∀ type signer, floorOf s type signer ≤ floorOf t type signer) ∧ s.module.bootCount ≤ t.module.bootCount ∧
  s.safety.changeSequence ≤ t.safety.changeSequence)

/-- For every command and event: after a next state, each part of the state that Claims.touches does not name for it is what it was. So for
example the module state is changed only by the commands and events that can restart, lock out or switch it, the force table only by force
commands, a recut, a mode change, a start or a Lock-out, the anchor only by ENROL_INSTALL and ANCHOR_ROTATE, and a KPC instruction or a read
of a lane register changes nothing outside the lanes and the lane windows. -/
def Obligations.NothingElseChanges : Prop :=
  (∀ (i : Instr) (s t : State) (p : Part), exec i s = .next t → p ∉ touches i → p.same s t)

/-- A row of the command table or of the event table always has an effect: for every state and all operands exec answers a next state. Only
a KPC instruction can be refused or fault. -/
def Obligations.OnlyInstructionsStop : Prop :=
  (∀ (i : Instr) (s : State), kpcLane i = none → ∃ t, exec i s = .next t)

/-- Whenever exec refuses, the row is a KPC instruction and the refusal is that of ill-typed operands, and whenever it faults, the row is
IF, ELSE, END, BREAK or NEXT and the fault is that of the missing construct; checks 9 to 13 of the verification exclude both in every image
that runs. -/
def Obligations.InstructionsStopAsVerificationExcludes : Prop :=
  (∀ (i : Instr) (s : State), (∀ r, exec i s = .refused r → r = .kpcIllTyped ∧ (kpcLane i).isSome) ∧
  (∀ f, exec i s = .fault f → f = .kpcStructure ∧ ∃ l, i = .kElse l ∨ i = .kEnd l ∨ (∃ a, i = .kIf l a) ∨ (∃ d, i = .kBreak l d) ∨ ∃ d, i = .kNext l d))

/-- For every row of the command tables and every message and state: without a mailbox interface or without the session nothing happens; a
TLS stream that cannot be framed ends the session; else a version other than 1 is answered with BAD_VERSION (0x0114) and a header that fails
a check of step 1 with BAD_HEADER (0x0115), each counted as a header error, neither accepted nor entered in a token table. -/
def Obligations.EnvelopesAreCheckedFirst : Prop :=
  (∀ r ∈ rows, ∀ (m : Msg) (s : State), (hasMailbox s = false ∨ Tbl.find (offered r.code m s).trust.sessions m.session = none) →
    exec (r.make m) s = .next (offered r.code m s)) ∧
  (∀ r ∈ rows, ∀ (m : Msg) (x : Session) (s : State), hasMailbox s = true → Tbl.find (offered r.code m s).trust.sessions m.session = some x →
    streamBroken m x = true → exec (r.make m) s = .next (endSession m.session (offered r.code m s))) ∧
  (∀ r ∈ rows, ∀ (m : Msg) (x : Session) (s : State), hasMailbox s = true → Tbl.find (offered r.code m s).trust.sessions m.session = some x →
    streamBroken m x = false → (m.version == 1 && headerOk m r.code x) = false →
    exec (r.make m) s = .next (sendSession m.session false
      (completionBytes 1 0 r.code m.token.toNat s.mbx.epoch (if m.version = 1 then 0x0115 else 0x0114) (sessionIssuer m.session x) [])
      (modMbx (fun b => { b with headerErrors := b.headerErrors + 1 }) (listened m x (offered r.code m s)))))

/-- For every row of the command tables, a command whose envelope passes step 1 and whose token is fresh is refused with STALE_EPOCH
(0x0110) when its epoch is not the current one, else with CLASS_DISABLED (0x0111) when its class is disabled for its issuer, else with
BUSY_RETRY (0x0501) when no credit of its session is free; it is answered at once and its token is not entered. -/
def Obligations.FreshCommandsAreRefusedInOrder : Prop :=
  (∀ r ∈ rows, ∀ (m : Msg) (x : Session) (s : State), framed r.code m x (offered r.code m s) = true →
    tokenClass (received m x (offered r.code m s)) (sessionIssuer m.session x) m.token.toNat = .fresh → m.epoch.toNat ≠ s.mbx.epoch →
    exec (r.make m) s = .next (refuseArrival (arrived r.code m x (offered r.code m s)) 0x0110 (received m x (offered r.code m s)))) ∧
  (∀ r ∈ rows, ∀ (m : Msg) (x : Session) (s : State), framed r.code m x (offered r.code m s) = true →
    tokenClass (received m x (offered r.code m s)) (sessionIssuer m.session x) m.token.toNat = .fresh → m.epoch.toNat = s.mbx.epoch →
    classDisabled s (sessionIssuer m.session x) r.code = true →
    exec (r.make m) s = .next (refuseArrival (arrived r.code m x (offered r.code m s)) 0x0111 (received m x (offered r.code m s)))) ∧
  (∀ r ∈ rows, ∀ (m : Msg) (x : Session) (s : State), framed r.code m x (offered r.code m s) = true →
    tokenClass (received m x (offered r.code m s)) (sessionIssuer m.session x) m.token.toNat = .fresh → m.epoch.toNat = s.mbx.epoch →
    classDisabled s (sessionIssuer m.session x) r.code = false → creditFree s (arrived r.code m x (offered r.code m s)) = false →
    exec (r.make m) s = .next (refuseArrival (arrived r.code m x (offered r.code m s)) 0x0501 (received m x (offered r.code m s))))

/-- For every row of the command tables and a message that passes step 1: a token with a kept completion answers that completion again with
flag bit 0, its own epoch and status; a token of an outstanding command adds the session to those it completes on; one whose completion
waits for the partner's acknowledgement adds the session there; an old token is refused with TOKEN_OLD (0x0112). None of them is accepted or
executed again. -/
def Obligations.TokensAreReissued : Prop :=
  (∀ r ∈ rows, ∀ (m : Msg) (x : Session) (s : State) (c : Stored), framed r.code m x (offered r.code m s) = true →
    tokenClass (received m x (offered r.code m s)) (sessionIssuer m.session x) m.token.toNat = .replay c →
    exec (r.make m) s = .next (sendSession m.session false (completionBytes 1 1 c.code m.token.toNat c.epoch c.status (sessionIssuer m.session x) c.result)
      (modMbx (fun b => { b with replays := b.replays + 1 }) (received m x (offered r.code m s))))) ∧
  (∀ r ∈ rows, ∀ (m : Msg) (x : Session) (s : State) (id : Nat), framed r.code m x (offered r.code m s) = true →
    tokenClass (received m x (offered r.code m s)) (sessionIssuer m.session x) m.token.toNat = .attach id →
    exec (r.make m) s = .next (modMbx (fun b => { b with attachments := b.attachments + 1 })
      (modEntry id (fun e => { e with sessions := if e.sessions.contains m.session then e.sessions else e.sessions ++ [m.session] })
        (received m x (offered r.code m s))))) ∧
  (∀ r ∈ rows, ∀ (m : Msg) (x : Session) (s : State), framed r.code m x (offered r.code m s) = true →
    tokenClass (received m x (offered r.code m s)) (sessionIssuer m.session x) m.token.toNat = .awaiting →
    exec (r.make m) s = .next (modMbx (fun b => { b with attachments := b.attachments + 1 })
      (modPair (fun p => { p with awaitingAck := p.awaitingAck.map fun h =>
        if h.issuer = sessionIssuer m.session x && h.token = m.token.toNat
        then { h with sessions := if h.sessions.contains m.session then h.sessions else h.sessions ++ [m.session] } else h })
        (received m x (offered r.code m s))))) ∧
  (∀ r ∈ rows, ∀ (m : Msg) (x : Session) (s : State), framed r.code m x (offered r.code m s) = true →
    tokenClass (received m x (offered r.code m s)) (sessionIssuer m.session x) m.token.toNat = .old →
    exec (r.make m) s = .next (refuseArrival (arrived r.code m x (offered r.code m s)) 0x0112 (received m x (offered r.code m s))))

/-- For every row of the command tables but SESSION_LOGIN, with the Issuers column as the chapter's table gives it: a command that passes
steps 1 to 6 and whose issuer and roles that column does not name is accepted, completes with DENIED (0x0201) and an empty result, and has
no other effect. -/
def Obligations.OnlyIssuersOfTheColumnAreServed : Prop :=
  (∀ r ∈ rows, r.code ≠ 0x0201 → ∀ (m : Msg) (x : Session) (s : State), framed r.code m x s = true →
    tokenClass (received m x s) (sessionIssuer m.session x) m.token.toNat = .fresh → m.epoch.toNat = s.mbx.epoch →
    classDisabled s (sessionIssuer m.session x) r.code = false → creditFree s (arrived r.code m x s) = true →
    r.issuers.allow s (sessionIssuer m.session x) x.roles = false →
    exec (r.make m) s = .next (finish s.mbx.epoch (entered r.code m x s) 0x0201 [] (taken r.code m x s)))

/-- Accepted from an issuer of its column, IDENTITY_READ answers identifier, ECDSA key, ML-DSA-65 key, enrolled flag, the two anchor key
identifiers and the manufacturer certificate; ENROL_REQUEST of an un-enrolled module the enrolment request object (type 0x0032) over the
public keys and the nonce; SESSION_LIST the count and each session's context, kind, name, roles and login time; LULL_STATUS the clock, the
cell voltage and the latches. Each completes with OK and changes nothing else. -/
def Obligations.TrustReportsGiveWhatTheTableLists : Prop :=
  Answers .identityRead { lanes := true, session := true, preLogin := true, enrolment := true } 0x0204 (fun e _ => e.payload.length = 0)
    (fun _ t => answers (identifier t ++ ecPublic t ++ pqPublic t ++ le 1 (bit t.trust.anchor.isSome) ++
      (match t.trust.anchor with | some a => padTo 16 a.ecId ++ padTo 16 a.pqId | none => le 32 0) ++
      Config.manufacturerCertificate (ecPublic t ++ pqPublic t)) t) ∧
  Answers .enrolRequest { enrolment := true, preLogin := true } 0x0205 (fun e t => e.payload.length = 16 && t.trust.anchor.isNone)
    (fun e t => answers (ownObject t 0x32 (ecPublic t ++ pqPublic t ++ e.payload)) t) ∧
  Answers .sessionList (roleOnly (maintainer + owner)) 0x0203 (fun e _ => e.payload.length = 0)
    (fun _ t => let l := t.trust.sessions.filter fun x => x.2.counts
      answers (le 1 l.length ++ l.flatMap fun x =>
        le 2 x.1 ++ [Config.sessionKind (x.2.kind = .peer)] ++ sessionName t x.1 x.2 ++ le 1 x.2.roles ++ le 8 x.2.loginTai) t) ∧
  Reports .lullStatus anyOrLanes 0x020E (fun e _ => e.payload.length = 0)
    (fun _ _ => 11) (fun _ t => [(0, 8, lullNow t), (8, 2, t.trust.lull.cellMv), (10, 1, bit t.trust.lull.tamper + 2 * bit t.trust.lull.powerLoss + 4 * bit t.trust.lull.cellLow)])

/-- ENROL_INSTALL of an un-enrolled module installs anchor and certificates and the first Owner credential as number 0, records it,
completes, ends the session and makes a restart due, if the objects verify and the password opens, and else answers the failing check;
ANCHOR_ROTATE in Maintenance without the Owner lock installs the new anchor and certificates if the present anchor signed them;
CREDENTIAL_SET by an Owner writes a known or a new credential (deriving salt and tag afresh unless the password is kept) if an Owner
remains; CREDENTIAL_REMOVE erases one if an Owner remains, records it and ends its sessions. -/
def Obligations.CredentialsAndAnchorAreKept : Prop :=
  Answers .enrolInstall { enrolment := true, preLogin := true } 0x0206 (fun _ t => t.trust.anchor.isNone)
    (fun e t => match splitObjects 17 e.payload with
      | (anchor :: cert :: certs, rest) =>
        match sealedAt rest 32 with
        | some f =>
          match f.open e with
          | some password =>
            if rest.length != f.next || !nameOk (rest.take 32) || !passwordOk password then fails stBadArgument t
            else
              match enrolCheck t (trustedKey anchor).ecKey (trustedKey anchor).pqKey anchor (cert :: certs) with
              | some status => fails status t
              | none =>
                let c := newCredential t (rest.take 32) 16 password
                let u := modTrust (fun y => { y with credentials := Tbl.put y.credentials 0 c }) (afterDraw (installAnchor anchor (cert :: certs) t))
                thenAfter e [] (fun u => dueRestart (endOwn e u)) (recordCredential 0x11 0 0 c.name e u)
          | none => fails stBadArgument t
        | none => fails stBadArgument t
      | _ => fails stBadArgument t) ∧
  Answers .anchorRotate (roleOnly owner) 0x0207 (fun _ t => t.module.state = .maintenance && !t.trust.ownerLock)
    (fun e t => match splitObjects 17 e.payload, t.trust.anchor with
      | (anchor :: certs, []), some a =>
        match enrolCheck t a.ecKey a.pqKey anchor certs with
        | some status => fails status t
        | none => answers [] (installAnchor anchor certs t)
      | _, _ => fails stBadArgument t) ∧
  Answers .credentialSet { session := true } 0x0208 (fun e _ => hasBit e.roles 4 && nameOk (e.slice 0 32) && 1 ≤ e.field 32 1 && e.field 32 1 < 32 && (sealedAt e.payload 33).isSome)
    (fun e t => match sealedAt e.payload 33 with
      | none => fails stBadArgument t
      | some f =>
        let roles := e.field 32 1
        let keep := hasBit (e.field f.next 1) 0
        let old := credentialByName t (e.slice 0 32)
        match f.open e with
        | none => fails stBadArgument t
        | some password =>
          if e.payload.length != f.next + 1 || 2 ≤ e.field f.next 1 || (if keep then old.isNone else !passwordOk password) then fails stBadArgument t
          else
            match old with
            | some (n, c) =>
              let new := if keep then { c with roles := roles } else
                { c with roles := roles, salt := le 16 (Config.entropy t.draws), tag := Config.argon2id (le 16 (Config.entropy t.draws)) password }
              if !(Tbl.put t.trust.credentials n new).any (fun k => hasBit k.2.roles 4) then fails 0x0214 t
              else setCredential e n roles new (!keep || roles != c.roles) (if keep then t else afterDraw t)
            | none =>
              match Tbl.lowestFree t.trust.credentials 64 with
              | none => fails 0x0217 t
              | some n => setCredential e n roles (newCredential t (e.slice 0 32) roles password) true (afterDraw t)) ∧
  Answers .credentialRemove (roleOnly owner) 0x0209 (fun e t => e.payload.length = 32 && (credentialByName t e.payload).any fun c => (Tbl.erase t.trust.credentials c.1).any fun k => hasBit k.2.roles 4)
    (fun e t => match credentialByName t e.payload with
      | some (n, c) => thenAfter e [] (fun u =>
          if (Tbl.find t.trust.sessions e.session).any (fun x => x.kind = .login && x.credential = some n) then endOwn e (endCredentialSessions n (some e.session) u)
          else endCredentialSessions n (some e.session) u)
          (recordCredential 0x11 n 1 c.name e (modTrust (fun u => { u with credentials := Tbl.erase u.credentials n }) t))
      | none => fails stBadArgument t)

/-- SESSION_END completes and then ends its own session, or as an Owner ends the session named; SESSION_LOGIN is counted as an attempt,
refused with TRUST_LOCKED (0x0210) where barred, and else stands before the Argon2id evaluator, which it holds when free; SA_INSTALL keys
the lowest free context, Live at once unless it is an IEEE 802.1AE association, whose association key is kept for its port; SA_RELEASE frees
a Keyed context, drains a Live one for 2 s and leaves a Draining one; OWNER_LOCK sets the lock, records a change and ends Test where its
conditions lapse; TAMPER_ACKNOWLEDGE in Maintenance clears the latches once a custody record holds them. -/
def Obligations.SessionsAndContextsAreManaged : Prop :=
  Answers .sessionEnd { session := true } 0x0202 (fun e _ => e.payload.length = 2 && (e.field 0 2 = 0xFFFF || e.origin = some (e.field 0 2)))
    (fun e t => thenAfter e [] (endOwn e) t) ∧
  Answers .sessionEnd { session := true } 0x0202 (fun e t => e.payload.length = 2 && e.field 0 2 != 0xFFFF && e.origin != some (e.field 0 2) && hasBit e.roles 4 && Tbl.has t.trust.sessions (e.field 0 2))
    (fun e t => answers [] (endSession (e.field 0 2) t)) ∧
  (∀ (m : Msg) (x : Session) (s : State), framed 0x0201 m x (countAttempt m.session s) = true →
    (let r := received m x (countAttempt m.session s)
     tokenClass r (sessionIssuer m.session x) m.token.toNat = .fresh ∧ m.epoch.toNat = s.mbx.epoch ∧
       classDisabled r (sessionIssuer m.session x) 0x0201 = false ∧ r.trust.anchor.isSome = true ∧
       (64 ≤ sessionCount r + (argonEntries r).length ∨ 5 ≤ (argonEntries r).length ∧ loginBarred r (issuerIndex (sessionIssuer m.session x)) ((m.payload.take m.length.toNat).take 32) = false)) →
    exec (.sessionLogin m) s = .next (refuseArrival (arrived 0x0201 m x (countAttempt m.session s)) 0x0501 (received m x (countAttempt m.session s)))) ∧
  (∀ (m : Msg) (x : Session) (s : State), arrives { preLogin := true, enrolment := true } 0x0201 m x (countAttempt m.session s) = true →
    (let r := received m x (countAttempt m.session s)
     r.trust.anchor.isSome = true ∧ sessionCount r + (argonEntries r).length < 64 ∧ (argonEntries r).length < 5) →
    exec (.sessionLogin m) s = .next (conclude s.mbx.epoch (entered 0x0201 m x (countAttempt m.session s))
      (let e := entered 0x0201 m x (countAttempt m.session s)
       let t := taken 0x0201 m x (countAttempt m.session s)
       match sealedAt e.payload 32 with
       | none => fails stBadArgument t
       | some f =>
         if e.payload.length != f.next || (f.open e).isNone then fails stBadArgument t
         else if loginBarred t e.session (e.slice 0 32) then fails 0x0210 t
         else (t, .goesOn (if (argonEntries t).isEmpty then .holds .argon else .waits .argon) false)))) ∧
  Answers .saInstall (roleOnly owner) 0x020A (fun e t => (sealedAt e.payload 5).any (fun f => e.payload.length = f.next + 17 && e.field (f.next + 16) 1 < 32) && 1 ≤ e.field 0 1 && e.field 0 1 ≤ 3 &&
      (e.field 0 1 != 1 || e.field 1 4 < 28) && (freeContext t (e.field 0 1)).isSome)
    (fun e t => let purpose := e.field 0 1
      match sealedAt e.payload 5, freeContext t purpose with
      | some f, some n =>
        match f.open e with
        | none => fails stBadArgument t
        | some key =>
          let x : SaContext := ⟨.keyed, purpose, if purpose = 3 then 0 else e.field 1 4, key, e.slice f.next 16,
            if purpose = 3 then e.field (f.next + 16) 1 else 0, t.time, 0, 0⟩
          answers (le 2 n) (if purpose = 1 then modTrust (fun u => { u with contexts := Tbl.put u.contexts n x, cak := Tbl.put u.cak (e.field 1 4) key }) t
            else remapPeers (goLive n (modTrust (fun u => { u with contexts := Tbl.put u.contexts n x }) t)))
      | _, _ => fails stBadArgument t) ∧
  Answers .saRelease (roleOnly owner) 0x020B (fun e t => e.payload.length = 2 && (Tbl.find t.trust.contexts (e.field 0 2)).any fun x => !(t.trust.ownerLock && x.purpose = 1 && x.binding < 4))
    (fun e t => let n := e.field 0 2
      answers [] (match (Tbl.find t.trust.contexts n).map SaContext.state with
        | some .keyed => modTrust (fun u => { u with contexts := Tbl.erase u.contexts n }) t
        | some .live => remapPeers (modContext n (fun c => { c with state := .draining, drainEnd := t.time + second 2 }) t)
        | _ => t)) ∧
  Answers .ownerLock (roleOnly owner) 0x020C (fun e _ => e.payload.length = 1 && e.field 0 1 ≤ 1)
    (fun e t => let v := e.field 0 1
      let u := modTrust (fun y => { y with ownerLock := v = 1 }) t
      answers (le 1 (bit t.trust.ownerLock)) (testGate (if t.trust.ownerLock = (v = 1) then u else custody 0 (le 1 v ++ issuerName u e.issuer) u))) ∧
  Answers .tamperAcknowledge (roleOnly owner) 0x020D (fun e t => e.payload.length = 0 && t.module.state = .maintenance && (t.trust.lull.tamper || t.trust.lull.powerLoss))
    (fun e t => answers (le 8 t.trust.lull.tamperTime ++ le 1 (latchBits t))
      (modLull (fun l => { l with tamper := false, powerLoss := false, reported := false, reportedLoss := false })
        (custody 2 (le 1 (latchBits t) ++ issuerName t e.issuer ++ le 8 (localSeconds t)) t)))

/-- An accepted MODULE_STATUS with no payload completes with OK and 30 bytes: the ten axes of Table 3.12, the epoch, the local time and the
flags of Table 3.11; MODULE_INFO with 60 bytes: identifier, ordering code, hardware revision, versions, generations, slots and boot count;
MAILBOX_COUNTERS with 50 bytes: its twelve counters at their offsets. Nothing else changes. In Proving, Service, Maintenance and Lock-out
each lamp shows its axis as Table 18.11 says (LANES with fewer than two lanes: log entry 151), in Halted PWR and the code on STATE alone, in
Stowed none; after a power-good every lamp is green, amber and red for 200 ms each. A code of n flashes and a blinking lamp are lit as R557
says. -/
def Obligations.ModuleReportsGiveWhatTheTableLists : Prop :=
  Reports .moduleStatus anyOrLanes 0x0101 (fun e _ => e.payload.length = 0)
    (fun _ _ => 30) (fun _ t => [(0, 1, t.module.state.code), (1, 1, t.pair.role.code), (2, 1, votingMask t), (3, 1, t.prog.state.code), (4, 1, bit (forced t)), (5, 1, t.clock.state.code),
      (6, 1, t.pos.state.code), (7, 1, bit (frozen t)), (8, 1, t.update.axis), (9, 1, bit t.test.squall), (10, 4, t.mbx.epoch), (14, 8, localSeconds t), (22, 4, localNanos t),
      (26, 4, bit (forced t) + 2 * bit (latchSet t) + 4 * bit (notReady t) + 8 * bit t.trust.ownerLock + 16 * bit t.trust.anchor.isNone)]) ∧
  Reports .moduleInfo anyOrLanes 0x0102 (fun e _ => e.payload.length = 0)
    (fun _ _ => 60) (fun _ t => let x := setOf t t.module.firmwareSlot
      [(0, 16, Bytes.field (identifier t) 0 16), (16, 16, Bytes.field (padTo 16 (ascii "KXE-3000")) 0 16), (32, 2, Config.hardwareRevision), (34, 4, componentVersion t t.module.firmwareSlot 0),
       (38, 4, componentVersion t t.module.firmwareSlot 1), (42, 4, componentVersion t t.module.firmwareSlot 2), (46, 4, componentVersion t t.module.firmwareSlot 3), (50, 1, x.slipstream),
       (51, 1, Nat.log2 x.kpc + 1), (52, 1, x.mailbox), (53, 1, x.settings), (54, 1, t.module.firmwareSlot), (55, 1, t.prog.slot), (56, 4, t.module.bootCount)]) ∧
  Reports .mailboxCounters anyOrLanes 0x0107 (fun e _ => e.payload.length = 0)
    (fun _ _ => 50) (fun _ t => let b := t.mbx
      [(0, 8, b.accepted), (8, 4, b.replays), (12, 4, b.attachments), (16, 4, b.discarded), (20, 4, b.cancelled), (24, 4, b.staleEpoch), (28, 4, b.busyRetry), (32, 4, b.headerErrors),
       (36, 4, b.windowMismatches), (40, 4, b.voteAcceptances), (44, 2, b.maxDepth), (46, 4, b.maxWait)]) ∧
  (∀ (s : State), s.module.state = .proving ∨ s.module.state = .service ∨ s.module.state = .maintenance ∨ s.module.state = .lockout → lamps s =
    { pwr := .steady .green
      state := if s.module.state = .proving then .steady .amber else if s.module.state = .service then .steady .green else if s.module.state = .maintenance then .blinking .green else .steady .red
      lanes := .steady (if votingMask s = 7 then .green else .amber)
      prog := if s.prog.state = .empty then .off else if s.prog.state = .stopped then .steady .amber else if s.prog.state = .running then .steady .green else .blinking .green
      pair := if s.pair.role = .solo then .off else if hasBit (moduleFlags s) 2 then .steady .amber else if s.pair.role = .active then .steady .green else .blinking .green
      time := if s.clock.state = .unset then .off else if s.clock.state = .locked then .steady .green else .steady .amber
      force := if forced s then .steady .amber else .off
      test := if s.test.squall then .blinking .amber else .off }) ∧
  (∀ (s : State), s.module.state = .halted → lamps s = { pwr := .steady .green, state := .code s.module.haltedCode }) ∧
  (∀ (s : State), s.module.state = .stowed → lamps s = {}) ∧
  (∀ (t : Nat) (s : State), s.module.state = .booting → s.module.lampTest = some t →
    (s.time < t + milli 200 → lamps s = Lamps.all (.steady .green)) ∧
    (t + milli 200 ≤ s.time → s.time < t + milli 400 → lamps s = Lamps.all (.steady .amber)) ∧
    (t + milli 400 ≤ s.time → s.time < t + milli 600 → lamps s = Lamps.all (.steady .red))) ∧
  (∀ (n ms k : Nat), 1 ≤ n → (LampShow.code n).lit ms = (LampShow.code n).lit (ms + k * (500 * n + 1200)) ∧
    ∀ m, m < 500 * n + 1200 → ((LampShow.code n).lit m = some .red ↔ ∃ j < n, 500 * j ≤ m ∧ m < 500 * j + 200))

/-- MODE_REQUEST answers the previous state: to Service it needs an anchor and no tamper latch, drops forces on SAFETY variables and starts
the program as at boot; to Maintenance it needs standstill and, of an Active, a ready partner; a state already held is answered alone, and
one not allowed is REFUSED_STATE (0x0202). MODULE_RESTART stores the start state asked for, makes the restart due and is ACCEPTED.
CLASS_CONTROL enables or disables a class for lanes, sessions or both, answers what was enabled and how many uncommitted commands it
cancels. TOKEN_QUERY tells outstanding, completed or unknown of a token, of another identity only to a Maintainer or an Owner. -/
def Obligations.ModuleStateAndMailboxAreCommanded : Prop :=
  Answers .modeRequest (roleOnly (operator + maintainer)) 0x0103 (fun e t => e.payload.length = 1 && e.field 0 1 = 3 && t.module.state = .maintenance && t.trust.anchor.isSome && !latchSet t && !t.module.bootLatch)
    (fun _ t => answers (le 1 4) (startAtBoot (dropAndForward Force.safety (enterState .service t)))) ∧
  Answers .modeRequest (roleOnly (operator + maintainer)) 0x0103 (fun e t => e.payload.length = 1 && e.field 0 1 = 4 && t.module.state = .service && standstill t && !activeAlone t)
    (fun _ t => answers (le 1 3) (enterState .maintenance t)) ∧
  Answers .modeRequest (roleOnly (operator + maintainer)) 0x0103 (fun e t => e.payload.length = 1 && (e.field 0 1 = 3 || e.field 0 1 = 4) && (t.module.state != .service && t.module.state != .maintenance ||
      e.field 0 1 = 3 && (t.trust.anchor.isNone || latchSet t) || e.field 0 1 = 4 && (!standstill t || activeAlone t)))
    (fun _ t => fails 0x0202 t) ∧
  Answers .moduleRestart (roleOnly (operator + maintainer)) 0x0104 (fun e t => e.payload.length = 1 && (e.field 0 1 = 0 || e.field 0 1 = 4) && (t.module.state != .service || standstill t) && !activeAlone t)
    (fun e t => (dueRestart (modModule (fun m => { m with maintenanceNext := e.field 0 1 = 4 }) t), .done 0x0001 [])) ∧
  Answers .classControl (roleOnly maintainer) 0x0105 (fun e _ => e.payload.length = 3 && (3 ≤ e.field 0 1 && e.field 0 1 ≤ 5 || 7 ≤ e.field 0 1 && e.field 0 1 ≤ 15) && e.field 1 1 ≤ 3 && e.field 2 1 ≤ 1)
    (fun e t => let c := e.field 0 1
      let kinds := e.field 1 1
      let old := Tbl.get t.mbx.disabled c 0
      let hit := fun q : Entry => e.field 2 1 = 0 && classOf q.code = c && hasBit kinds (if issuerKind q.issuer = 1 then 0 else 1)
      let u := modMbx (fun b => { b with disabled := Tbl.put b.disabled c (if e.field 2 1 = 1 then old &&& (3 - kinds) else old ||| kinds) }) t
      answers (le 1 (3 - old) ++ le 2 (u.mbx.queue.filter fun q => !q.committed && hit q).length) (cancelTargets hit u)) ∧
  Answers .tokenQuery anyOrLanes 0x0106 (fun e _ => e.payload.length = 8 && (e.field 0 4 = 0 || e.field 0 4 = e.issuer || anyRole e.roles (maintainer + owner)))
    (fun e t => let issuer := if e.field 0 4 = 0 then e.issuer else e.field 0 4
      let outstanding := (t.mbx.queue.any fun q => q.issuer = issuer && q.token = e.field 4 4) ||
        t.pair.awaitingAck.any fun q => q.issuer = issuer && q.token = e.field 4 4
      answers (if outstanding then le 1 1 ++ le 2 0 ++ le 4 0
        else match (tokenTable t issuer).stored.find? fun c => c.token = e.field 4 4 with
          | some c => le 1 2 ++ le 2 c.status ++ le 4 c.epoch
          | none => le 1 0 ++ le 2 0 ++ le 4 0) t)

/-- LANE_STATUS answers 28 bytes: state and recent isolations of A, B and C, stagger, acceptance window, two-lane time and limit, time and
result of the last voter test, and whether one is queued. LANE_HEALTH of a lane answers 132 bytes, the counters of Table 4.12 in table
order, each capped at its maximum. LANE_TRACE_READ answers whether the trace is frozen, how many entries it returns, and those entries from
the oldest. Nothing else changes. -/
def Obligations.LaneReportsGiveWhatTheTableLists : Prop :=
  Reports .laneStatus anyOrLanes 0x0401 (fun e _ => e.payload.length = 0)
    (fun _ _ => 28) (fun _ t => let v := t.voter
      [(0, 1, (laneOf t .a).state.code), (1, 1, (recentIsolations (laneOf t .a) t.time).length), (2, 1, (laneOf t .b).state.code), (3, 1, (recentIsolations (laneOf t .b) t.time).length),
       (4, 1, (laneOf t .c).state.code), (5, 1, (recentIsolations (laneOf t .c) t.time).length), (6, 2, v.stagger), (8, 2, 2 * v.stagger + 20), (10, 4, twoLaneSeconds t),
       (14, 4, 3600 * v.twoLaneLimit), (18, 8, v.testTime), (26, 1, v.testResult), (27, 1, bit v.testQueued)]) ∧
  Reports .laneHealth anyOrLanes 0x0402 (fun e _ => e.payload.length = 1 && e.field 0 1 < 3)
    (fun _ _ => 132) (fun e t => let x := laneOf t (Lane.at (e.field 0 1))
      let h := x.health
      let c := fun v : Nat => min v 0xFFFFFFFF
      [(0, 8, min h.majority 0xFFFFFFFFFFFFFFFF), (8, 4, c h.dissents), (12, 4, c h.missing), (16, 4, c h.faultMemory), (20, 4, c h.faultSnapshot), (24, 4, c h.faultTrap), (28, 4, c h.faultWatchdog),
       (32, 4, c h.faultClock), (36, 4, c h.corrected), (40, 4, c h.isolations), (44, 4, c h.reshootsStarted), (48, 4, c h.reshootsCompleted), (52, 4, c h.reshootsFailed),
       (120, 4, c (h.twoLane + if inVotingSet x then 0 else twoLaneSeconds t)), (124, 4, c h.testsRun), (128, 4, c h.testsFailed)] ++
      (List.range 16).map fun k => (56 + 4 * k, 4, c (Tbl.get h.response k 0))) ∧
  Answers .laneTraceRead { session := true } 0x0403 (fun e _ => e.payload.length = 4 && 1 ≤ e.field 2 2 && e.field 2 2 ≤ 1024)
    (fun e t => let l := (t.voter.trace.drop (e.field 0 2)).take (e.field 2 2)
      answers (le 1 (bit (t.voter.traceLeft = some 0)) ++ le 2 l.length ++ l.flatten) t)

/-- LANE_ISOLATE in Maintenance, of a module that is not Active and has three lanes voting, commits and isolates the lane with cause 7; with
two lanes voting it is LANE_LAST_PAIR (0x0411). LANE_RESHOOT of an Isolated or Retired lane of a running program starts a reshoot and waits
for its end; of another lane it is LANE_NOT_ISOLATED (0x0410). STAGGER_SET from 20 to 200 us answers the previous setting and stores the new
one when the loaded image fits it. VOTER_TEST runs where the comparator test may run, else it is queued and DEFERRED, and joins one that is
queued or running; its 206 patterns pass where the voter decides each as Table 4.11 expects within 40 us, and then its five line drives
where they read back right. LANE_DIAG_CLEAR clears what is not lifetime and rearms the trace as its flags say. -/
def Obligations.LanesAreCommanded : Prop :=
  Answers .laneIsolate (roleOnly maintainer) 0x0404 (fun e t => e.payload.length = 2 && e.field 0 1 < 3 && e.field 1 1 < 2 && t.module.state = .maintenance && t.pair.role != .active && maskCount (votingMask t) = 3 &&
      (laneOf t (Lane.at (e.field 0 1))).state = .voting)
    (fun e t => answers [] (isolateLane false (Lane.at (e.field 0 1)) 7 0xFF 0 (e.field 1 1 = 1) (commitEntry e.id t))) ∧
  Answers .laneIsolate (roleOnly maintainer) 0x0404 (fun e t => e.payload.length = 2 && e.field 0 1 < 3 && e.field 1 1 < 2 && t.module.state = .maintenance && t.pair.role != .active && maskCount (votingMask t) < 3)
    (fun _ t => fails 0x0411 t) ∧
  Answers .laneReshoot (roleOnly maintainer) 0x0405 (fun e t => e.payload.length = 1 && e.field 0 1 < 3 && ((laneOf t (Lane.at (e.field 0 1))).state = .isolated || (laneOf t (Lane.at (e.field 0 1))).state = .retired) &&
      t.module.state != .lockout && t.prog.state = .running && t.prog.stopping.isNone)
    (fun e t => let l := Lane.at (e.field 0 1)
      let u := modLane l (fun x => { x with hold := false, oneAttempt := x.state = .retired }) t
      (modVoter (fun v => { v with reshootWaiters := v.reshootWaiters ++ [(e.id, l.num)] }) (startReshoot l u), .goesOn .under true)) ∧
  Answers .laneReshoot (roleOnly maintainer) 0x0405 (fun e t => e.payload.length = 1 && e.field 0 1 < 3 && (laneOf t (Lane.at (e.field 0 1))).state != .isolated && (laneOf t (Lane.at (e.field 0 1))).state != .retired)
    (fun _ t => fails 0x0410 t) ∧
  Answers .staggerSet (roleOnly maintainer) 0x0406 (fun e t => e.payload.length = 2 && 20 ≤ e.field 0 2 && e.field 0 2 ≤ 200 && !programRuns t && (translatedImage t t.prog.slot).all fun i => (misfit t i (slotOf t t.prog.slot).digest (e.field 0 2)).isNone)
    (fun e t => answers (le 2 t.voter.staggerSet) (forwardSettings e (modVoter (fun w => { w with staggerSet := e.field 0 2 }) t))) ∧
  Answers .voterTest (roleOnly maintainer) 0x0407 (fun e _ => e.payload.length = 0)
    (fun e t => if t.voter.testQueued || t.voter.testRunning.isSome then (t, .done 0x0002 (le 2 0 ++ le 2 0xFFFF))
      else if t.module.state != .lockout && (t.pair.role = .standby || t.module.state = .maintenance && standstill t) then
        (modVoter (fun v => { v with testRunning := some (some e.id, 0) }) t, .goesOn .under false)
      else (modVoter (fun v => { v with testQueued := true }) t, .done 0x0002 (le 2 0 ++ le 2 0xFFFF))) ∧
  Answers .laneDiagClear (roleOnly maintainer) 0x0408 (fun e _ => e.payload.length = 1 && e.field 0 1 ≤ 3)
    (fun e t => let u := if hasBit (e.field 0 1) 0 then modHealth .c clearHealth (modHealth .b clearHealth (modHealth .a clearHealth t)) else t
      answers [] (if hasBit (e.field 0 1) 1 then modVoter (fun v => { v with traceLeft := none }) u else u)) ∧
  (∀ (readings : List VoterReading) (drives : List Bool), comparatorFinding readings drives = none ↔
    (∀ n < 206, ∃ r, readings[n]? = some r ∧ r.decision = (pattern n).decision ∧ r.lane = (pattern n).isolated ∧ r.us ≤ 40) ∧ ∀ k < 5, drives[k]? = some true)

/-- PROGRAM_STATUS answers 110 bytes: program axis, running slot, identity, version and state of both slots, start kinds, T_start, the recut
stage and S, force entries, the last commit, the counts of the last recut and the flags. FORCE_LIST answers the entries from the first index
asked for, as many as asked for. VARIABLE_READ of leaves of a variable of the running image waits, committed, for the owning task's next
voted take. Nothing else changes. -/
def Obligations.ProgramReportsGiveWhatTheTableLists : Prop :=
  Reports .programStatus anyOrLanes 0x0301 (fun e _ => e.payload.length = 0)
    (fun _ _ => 110) (fun _ t => let p := t.prog
      let c := p.lastRecut
      let identity := fun x : ImageSlot => Bytes.field (padTo 16 x.imageIdentity) 0 16
      let s := ((pendingRecut t).map fun r => programLocal t r.switchUs).getD 0
      [(0, 1, p.state.code), (1, 1, p.slot), (2, 16, identity p.slot0), (18, 4, p.slot0.version), (22, 1, p.slot0.state), (23, 16, identity p.slot1), (39, 4, p.slot1.version), (43, 1, p.slot1.state),
       (44, 1, p.kindRequested), (45, 1, p.kindPerformed), (46, 8, p.tStartLocal / secUnit), (54, 1, ((pendingRecut t).map fun r => if r.guarding then 2 else 1).getD 0), (55, 8, s / secUnit),
       (63, 4, s % secUnit / nsUnit), (67, 2, p.forces.length), (69, 8, p.lastSequence), (77, 8, p.lastCommitTai), (85, 1, p.lastCause), (86, 4, c.carried), (90, 4, c.initialised),
       (94, 4, c.discarded), (98, 4, c.forcesKept), (102, 4, c.forcesDropped), (106, 4, bit p.noValidBank + 2 * bit p.fellBack)]) ∧
  Answers .forceList { session := true } 0x0309 (fun e _ => e.payload.length = 4)
    (fun e t => let l := (t.prog.forces.filter fun f => e.field 0 2 ≤ f.1).take (e.field 2 2)
      answers (le 2 l.length ++ l.flatMap fun f => f.2.bytes) t) ∧
  Answers .variableRead { session := true } 0x030A (fun e t => e.payload.length = 16 && programRuns t && t.prog.stopping.isNone && (runningImage t).any fun i => (i.byIdentity (e.field 0 8)).any fun y =>
        1 ≤ e.field 12 4 && e.field 8 4 + e.field 12 4 ≤ y.2.leaves && (taskRec i y.2.owner).isSome && !y.2.constant)
    (fun e t => (modProg (fun p => { p with varReads := p.varReads ++
        [⟨e.id, e.field 0 8, e.field 8 4, e.field 12 4⟩] }) t, .goesOn .under true))

/-- PROGRAM_START of a translated image that passes the checks of R211 (above its floor, its bindings resolve, every task fits; in a pair
its copy budget and supervision fit), in Service or Maintenance with no latch set and no program running, commits and starts the program at
the first whole 10 ms at least 2 ms ahead (R191; see log entry 37), answering the kind performed and T_start. PROGRAM_STOP of a running
program, not on a Standby and in Service only at standstill, commits and begins the stop. RECUT_START checks the other slot's translated
image: a task that does not fit is PROGRAM_RECUT_MISFIT with its counts, a present partner without the image PAIR_PARTNER_NOT_READY, a check
alone reports, and else the recut is armed and ACCEPTED. RECUT_CANCEL before the guard disarms it. -/
def Obligations.ProgramIsStartedAndStopped : Prop :=
  Answers .programStart (roleOnly (operator + maintainer)) 0x0303 (fun e t => e.payload.length = 2 && e.field 0 1 ≤ 1 && (t.module.state = .service || t.module.state = .maintenance) && !latchSet t && !programRuns t && t.prog.stopping.isNone &&
      !(t.pair.enabled && t.pair.role = .standby) && (slotNamed (e.field 1 1) t.prog.slot).any fun n => (translatedImage t n).any fun i =>
        !belowFloor t (slotOf t n) && bindingsResolve t i && (misfit t i (slotOf t n).digest t.voter.staggerSet).isNone &&
        (!t.pair.enabled || budgetFits i t.prog.forces && supervisionFits t i))
    (fun e t => let t0 := 10000 * usUnit * ((localNow t + 2000 * usUnit + 10000 * usUnit - 1) / (10000 * usUnit))
      let u := startProgram (e.field 0 1) ((slotNamed (e.field 1 1) t.prog.slot).getD 0) t0 (commitEntry e.id t)
      answers (le 1 u.prog.kindPerformed ++ taiBytes t0) u) ∧
  Answers .programStop (roleOnly (operator + maintainer)) 0x0304 (fun e t => e.payload.length = 0 && programRuns t && t.prog.stopping.isNone && t.pair.role != .standby && (t.module.state != .service || standstill t))
    (fun e t => (beginStop (some e.id) (commitEntry e.id t), .goesOn .under true)) ∧
  Answers .recutStart (roleOnly maintainer) 0x0305 (fun e t => e.payload.length = 1 && e.field 0 1 ≤ 1 && t.prog.state = .running && t.prog.stopping.isNone && t.pair.role != .standby && (runningImage t).any fun a =>
        (translatedImage t (1 - t.prog.slot)).any fun b => !(safetyChanged a b && !(t.module.state = .maintenance && standstill t)) &&
          !belowFloor t (slotOf t (1 - t.prog.slot)) && bindingsResolve t b)
    (fun e t => let n := 1 - t.prog.slot
      match runningImage t, translatedImage t n with
      | some a, some b =>
        let counts := carryCounts a b t.prog.forces
        let us := switchBoundary t a
        let v := (conversion1024 (carriedBytes a b) + 1024 * 2000 - 1) / (1024 * 2000)
        match recutMisfit t a b (slotOf t n).digest with
        | some task => (t, .done 0x0313 (recutResult t us v false counts task))
        | none =>
          if t.pair.present && t.pair.partnerImage != (slotOf t n).digest then fails 0x0511 t
          else if e.field 0 1 = 1 then answers (recutResult t us v false counts 0xFF) t
          else
            let u := writeDirectory n (modProg (fun p => { p with state := .recutPending, recut := some { slot := n, switchUs := us, guardUs := us - guardLength a } }) t)
            (forwardRecut u, .done 0x0001 (recutResult u us v true counts 0xFF))
      | _, _ => fails 0x0317 t) ∧
  Answers .recutCancel (roleOnly maintainer) 0x0306 (fun e t => e.payload.length = 0 && (pendingRecut t).any fun r => !r.guarding && t.time < programInstant t r.guardUs)
    (fun _ t => let u := modProg (fun p => { p with recut := none, state := .running }) t
      answers [] (forwardRecut u))

/-- FORCE_SET of leaves of a forcible variable with a value of their length, by the role of R206 in its states, replaces the entry that
begins there or takes the lowest free of 512, records it, forwards the table to a Standby and answers index, entries in use and whether it
replaced; a full table is PROGRAM_FORCE_FULL, an overlap BAD_ARGUMENT, too much to copy PAIR_BUDGET. FORCE_CLEAR drops the entries named, or
all that the issuer may clear. IMAGE_LOAD of a chunk in order waits for the flash programmer or holds it; IMAGE_ERASE empties a slot that is
not running, or waits for the flash programmer. -/
def Obligations.ImagesAndForcesAreManaged : Prop :=
  Answers .forceSet (roleOnly (maintainer + safety)) 0x0307 (fun e t => 18 ≤ e.payload.length && 1 ≤ e.field 16 2 && e.field 16 2 ≤ 64 && e.payload.length = 18 + e.field 16 2 && 1 ≤ e.field 12 4 && t.prog.state != .empty && t.pair.role != .standby &&
      (runningImage t).any fun i => (i.byIdentity (e.field 0 8)).any fun p => p.2.forcible && e.field 8 4 + e.field 12 4 ≤ p.2.leaves &&
        forceRole p.2.safe e.roles && forceState t p.2.safe && forceValueOk (runLeaves i p.2 (e.field 8 4) (e.field 12 4)) (e.payload.drop 18))
    (fun e t => let id := e.field 0 8
      let first := e.field 8 4
      let count := e.field 12 4
      match runningImage t, ((runningImage t).bind fun i => (i.byIdentity id).map Prod.snd) with
      | some i, some y =>
        let old := t.prog.forces.find? fun f => f.2.identity = id && f.2.first = first
        match (match old with | some f => some f.1 | none => Tbl.lowestFree t.prog.forces 512) with
        | none => fails 0x0314 t
        | some k =>
          let table := Tbl.put t.prog.forces k ⟨id, first, count, y.safe, e.issuer, localSeconds t, e.payload.drop 18⟩
          if t.prog.forces.any fun f => f.2.identity = id && f.2.first != first && f.2.first < first + count && first < f.2.first + f.2.count then fails stBadArgument t
          else if t.pair.enabled && !budgetFits i table then fails 0x0512 t
          else
            let u := recordForce k ⟨id, first, count, y.safe, e.issuer, localSeconds t, e.payload.drop 18⟩ ((old.map fun o => o.2.value).getD []) (e.payload.drop 18)
              (modProg (fun p => { p with forces := table }) t)
            answers (le 2 k ++ le 2 table.length ++ le 1 (bit old.isSome)) (forwardForces u)
      | _, _ => fails 0x0315 t) ∧
  Answers .forceClear (roleOnly (maintainer + safety)) 0x0308 (fun e t => e.payload.length = 12 && t.pair.role != .standby && (t.module.state = .service || t.module.state = .maintenance) && (t.prog.forces.filter fun f => f.2.identity = e.field 0 8 &&
        (e.field 8 4 = 0xFFFFFFFF || f.2.first = e.field 8 4)).all fun f => forceRole f.2.safety e.roles && forceState t f.2.safety)
    (fun e t => let hit := fun f : Force => if e.field 0 8 = 0 then forceRole f.safety e.roles && forceState t f.safety
        else f.identity = e.field 0 8 && (e.field 8 4 = 0xFFFFFFFF || f.first = e.field 8 4)
      let n := (t.prog.forces.filter fun f => hit f.2).length
      let u := dropForces hit t
      answers (le 2 n ++ le 2 u.prog.forces.length) (if n = 0 then u else forwardForces u)) ∧
  Answers .imageLoad (roleOnly maintainer) 0x0302 (fun e t => 20 ≤ e.payload.length && e.field 1 3 = 0 && (slotNamed (e.field 0 1) (1 - t.prog.slot)).any fun n => chunkOk t n (e.field 4 8) (e.field 12 8) (e.payload.length - 20) && !slotBusy t n)
    (fun e t => if t.mbx.queue.any fun q => q.id != e.id && (q.phase = .holds .flash || q.phase = .waits .flash && e.phase != .waits .flash) then (t, .goesOn (.waits .flash) false)
      else (t, .goesOn (.holds .flash) false)) ∧
  Answers .imageErase (roleOnly maintainer) 0x030B (fun e t => e.payload.length = 1 && e.field 0 1 ≤ 1 && !slotBusy t (e.field 0 1) && !(t.prog.cutting.any fun c => c.1 = e.field 0 1))
    (fun e t => if t.mbx.queue.any fun q => q.id != e.id && (q.phase = .holds .flash || q.phase = .waits .flash && e.phase != .waits .flash) then (t, .goesOn (.waits .flash) false)
      else answers [] (settleAxis (modSlot (e.field 0 1) (fun _ => {}) t)))

/-- PAIR_STATUS answers 45 bytes: role, side, pairing, partner, readiness, reasons of both modules, supervised task, H, budget use, ports,
formation failure, takeovers and the last one, resynchronisation and peer. PAIR_HEALTH answers the module's own health report or, of a
present partner, its last one. PAIR_BUDGET answers for the image in a slot each task's B_k and T_k, the total and the margins; of an empty
slot PROGRAM_NOT_LOADED (0x0317). PAIR_COUNTERS answers 56 bytes of counters in table order. Nothing else changes. -/
def Obligations.PairReportsGiveWhatTheTableLists : Prop :=
  Reports .pairStatus anyOrLanes 0x0501 (fun e _ => e.payload.length = 0)
    (fun _ _ => 45) (fun _ t => let p := t.pair
      [(0, 1, p.role.code), (1, 1, t.module.side), (2, 1, bit p.enabled), (3, 1, bit p.present), (4, 1, bit (!notReady t)), (5, 2, p.reasons), (7, 2, if p.present then p.partnerReasons else 0),
       (9, 1, supervisedNow t), (10, 1, p.holdMs), (11, 2, ((runningImage t).map fun i => min 0xFFFF (budgetUse i t.prog.forces)).getD 0), (13, 1, p.portsUp), (14, 1, p.failure),
       (15, 4, p.takeovers), (19, 8, p.lastTakeover), (27, 1, p.lastTakeoverCause), (28, 1, resyncState t), (29, 16, Bytes.field (padTo 16 p.peer) 0 16)]) ∧
  Answers .pairHealth anyOrLanes 0x0502 (fun e _ => e.payload.length = 1 && (e.field 0 1 = 0 || e.field 0 1 = 1))
    (fun e t => if e.field 0 1 = 0 then answers (healthReport t) t
      else if t.pair.present then answers (padTo 64 t.pair.partnerReport) t else fails 0x0510 t) ∧
  Answers .pairBudget { session := true } 0x0506 (fun e _ => e.payload.length = 1 && e.field 0 1 ≤ 1)
    (fun e t => let x := slotOf t (e.field 0 1)
      match x.image with
      | none => fails 0x0317 t
      | some i =>
        let m := budgetMargins t x.digest i
        answers (le 1 i.tasks.length ++ i.tasks.flatMap (fun k => le 1 k.task ++ le 4 (copyBytes i t.prog.forces k) ++ le 4 k.period) ++
          le 2 (min 0xFFFF (budgetUse i t.prog.forces)) ++ leInt 4 m.1 ++ leInt 4 m.2.1 ++ le 1 m.2.2) t) ∧
  Reports .pairCounters anyOrLanes 0x0507 (fun e _ => e.payload.length = 0)
    (fun _ _ => 56) (fun _ t => let p := t.pair
      [(0, 8, p.compared), (8, 4, p.divergences), (12, 4, p.mismatches), (16, 4, p.failedWrites), (20, 4, p.resyncStarted), (24, 4, p.resyncCompleted), (28, 4, p.resyncFailedCount),
       (32, 4, p.takeovers), (36, 4, p.lost0), (40, 4, p.lost1), (44, 8, p.duplicates), (52, 4, p.tagFailures)])

/-- PAIR_CONFIGURE while no program runs stores enable, peer, supervised task, H from 10 to 60 ms and the publication addresses, answers the
previous enable, and with enable 0 makes a Standby, or an Active without partner, Solo at once (log entry 112). PAIR_SWITCHOVER of an Active
with a ready partner of the same generation arms the handover, tells the partner and is ACCEPTED with T_h; without pairing or partner it is
PAIR_NO_PARTNER (0x0510), with one not ready 0x0511, of another generation 0x0513. PAIR_RESYNC with a partner waits, and arms a
resynchronisation where none of its bars stands (log entry 113). -/
def Obligations.PairIsCommanded : Prop :=
  Answers .pairConfigure (roleOnly maintainer) 0x0503 (fun e t => e.payload.length = 32 && e.field 0 1 ≤ 1 && (e.field 17 1 < 16 || e.field 17 1 = 0xFF) && 10 ≤ e.field 18 1 && e.field 18 1 ≤ 60 && e.field 29 3 = 0 && !programRuns t)
    (fun e t => let u := modPair (fun p => { p with enabled := e.field 0 1 = 1, peer := e.slice 1 16, supervised := e.field 17 1, holdMs := e.field 18 1, ipv4 := e.slice 19 4, mac := e.slice 23 6 }) t
      let leaves := e.field 0 1 = 0 && (t.pair.role = .standby || t.pair.role = .active && !t.pair.present)
      answers (le 1 (bit t.pair.enabled)) (if leaves then modPair (fun p => { p with present := false }) (sendStatus (setRole .solo (modPair (fun p => { p with reasons := 0 }) (endResync (clearTakes u)))))
        else u)) ∧
  Answers .pairSwitchover (roleOnly (operator + maintainer)) 0x0504 (fun e t => e.payload.length = 0 && t.pair.enabled && t.pair.role = .active && (pendingRecut t).isNone && t.prog.stopping.isNone)
    (fun _ t => if !t.pair.present then fails 0x0510 t
      else if t.pair.partnerReasons != 0 then fails 0x0511 t
      else if t.pair.partnerGeneration != ownGeneration t then fails 0x0513 t
      else (slipstream 2 (le 1 6 ++ le 8 (handoverTime t)) (modPair (fun p => { p with handoverAt := some (handoverTime t) }) t),
        .done 0x0001 (taiBytes (((slipstream 2 (le 1 6 ++ le 8 (handoverTime t)) (modPair (fun p => { p with handoverAt := some (handoverTime t) }) t)).pair.handoverAt.getD 0) * nsUnit)))) ∧
  Answers .pairResync (roleOnly maintainer) 0x0505 (fun e t => e.payload.length = 0 && t.pair.enabled && t.pair.present && !lockoutInPair t)
    (fun e t => let u := modPair (fun p => { p with resyncWaiters := p.resyncWaiters ++ [e.id], resyncFailures := 0 }) t
      let u := if t.pair.role = .standby then setReason 10 false (setReason 6 false (setReason 0 true u)) else u
      (if mayArm u commandBars then armResync u else u, .goesOn .under false))

/-- SAFETY_STATUS answers 112 bytes, always: the 64 of a Lock-out flag copy, then the arming, the CRCs and version of the parameter sets,
input states, proven mask and external faults, the masks of the outputs, standstill, the limit in force, speed, direction, open windows,
rounds and field supply. CHANGE_LOG_READ answers the valid records from the sequence asked for on, oldest first, as many as the count of 1
to 5 allows, behind their number. Nothing else changes. -/
def Obligations.SafetyReportsGiveWhatTheTableLists : Prop :=
  Reports .safetyStatus anyOrLanes 0x0601 (fun e _ => e.payload.length = 0)
    (fun _ _ => 112) (fun _ t => let x := t.safety
      [(0, 64, Bytes.field (padTo 64 (flagCopy t)) 0 64), (64, 1, bit x.arming.isSome), (65, 8, paramCrc (params t)), (73, 4, if x.activeBad then 0 else x.activeVersion), (77, 8, (x.staged.map paramCrc).getD 0), (85, 4, inputStates t),
       (89, 2, provenMask t), (91, 2, ((List.range 16).map fun i => bit (inputFaulted t i) * 2 ^ i).sum), (93, 1, outputMask (commandedOn t)), (94, 1, outputMask (gatePermits t)),
       (95, 1, outputMask (terminalOn t)), (96, 1, outputMask (outputFaulted t)), (97, 1, outputMask fun i => (outputOf t i).overdue), (98, 1, bit (standstill t)), (99, 4, limitInForce t),
       (103, 1, bit (positionInvalid t || x.speedViolated)), (104, 1, intendedDirection t + 128 * bit (positionInvalid t || x.directionViolated)), (105, 1, (x.windows.map fun p => 2 ^ p.1).sum),
       (106, 4, x.rounds), (110, 2, x.fieldVolts)]) ∧
  Answers .changeLogRead (roleOnly (maintainer + safety + owner)) 0x0606 (fun e _ => e.payload.length = 10 && 1 ≤ e.field 8 2 && e.field 8 2 ≤ 5)
    (fun e t => let l := (t.safety.changeLog.filter fun b => logValid b && e.field 0 8 ≤ Bytes.field b 0 8).take (e.field 8 2)
      answers (le 2 l.length ++ l.flatten) t)

/-- SAFETY_PARAM_LOAD in Maintenance (or a Lock-out of cause 0x0015 or 0x0021) at standstill stages a set that verifies and is valid, and
answers its CRC and version; SAFETY_PARAM_ACTIVATE with the CRC of the staged set opens every output, makes it active, raises its floor,
clears the proven bits, logs the change and answers the old CRC. LOCKOUT_ENTER commits and enters Lock-out with cause 0x0020, the issuer and
the reason. LOCKOUT_RESET from a TLS session in Lock-out at standstill without a cause still present arms the key. WINDOW_CLOSE waits for
the tick that closes the windows. SAFE_IO_TEST starts a round of every enabled output, is DEFERRED where a test cannot be made, and with no
output enabled counts the round at once. -/
def Obligations.SafetyIsCommanded : Prop :=
  Answers .safetyParamLoad (roleOnly safety) 0x0602 (fun _ t => (t.module.state = .maintenance || t.module.state = .lockout && (lockoutCause t = 0x15 || lockoutCause t = 0x21)) && standstill t)
    (fun e t => match verifyObject t 0x12 e.payload with
      | some status => fails status t
      | none =>
        let b := objectBody e.payload
        if !paramsOk b then fails 0x0617 t
        else answers (le 8 (paramCrc b) ++ le 4 (objectVersion e.payload)) (noteInterval e.payload
          (modSafety (fun x => { x with staged := some b, stagedVersion := objectVersion e.payload, stagedSigner := objectSigner e.payload }) t))) ∧
  Answers .safetyParamActivate (roleOnly safety) 0x0603 (fun e t => e.payload.length = 8 && (t.module.state = .maintenance || t.module.state = .lockout && (lockoutCause t = 0x15 || lockoutCause t = 0x21)) && standstill t &&
      t.safety.staged.any fun b => e.field 0 8 = paramCrc b)
    (fun e t => let x := t.safety
      let b := x.staged.getD []
      let u := faultsGone (fun f => f.1 = 0x15) (allOutputsOff (commitEntry e.id t))
      let u := modSafety (fun y => { y with active := some b, activeVersion := x.stagedVersion, activeSigner := x.stagedSigner, everActivated := true,
                                            activeBad := false, activatedSince := u.module.state = .lockout, staged := none }) u
      let u := unproveAll (raiseFloor 0x12 x.stagedSigner x.stagedVersion u)
      let u := changeLog 1 0 e.issuer (issuerName u e.issuer) (paramCrc (params t)) (paramCrc b) (watchPairs u)
      answers (le 8 (paramCrc (params t))) (forwardSettings e (evaluateGates u))) ∧
  Answers .lockoutEnter (roleOrLanes safety) 0x0604 (fun e _ => e.payload.length = 8)
    (fun e t => answers [] (lockOut false 0x20 e.issuer 0xFF 0 (e.field 0 8) (commitEntry e.id t))) ∧
  Answers .lockoutReset (roleOnly safety) 0x0605 (fun e t => e.payload.length = 0 && issuerKind e.issuer = 2 && t.module.state = .lockout && standstill t && !causePresent t && t.safety.arming.isNone)
    (fun e t => (modSafety (fun x => { x with arming := some ⟨e.id, e.issuer, issuerName t e.issuer, t.time, t.safety.keyA && t.safety.keyB⟩ }) t, .goesOn .under true)) ∧
  Answers .windowClose (roleOrLanes safety) 0x0607 (fun e _ => e.payload.length = 1)
    (fun e t => (modPos (fun p => { p with waiting := p.waiting ++ [e.id] }) t, .goesOn .under false)) ∧
  Answers .safeIoTest (roleOnly maintainer) 0x0608 (fun e _ => e.payload.length = 0)
    (fun e t => let u := modSafety (fun x => { x with outputs := x.outputs.map fun p => (p.1, { p.2 with roundMask := 0 }) }) t
      if (enabledOutputs u).any (fun i => !(List.range 6).all (switchTestable u i)) then (u, .done 0x0002 (le 4 u.safety.rounds ++ le 2 0))
      else if (enabledOutputs u).isEmpty then answers (le 4 (u.safety.rounds + 1) ++ le 2 0) (modSafety (fun x => { x with rounds := x.rounds + 1 }) u)
      else (modSafety (fun x => { x with ioTests := x.ioTests ++ [e.id] }) u, .goesOn .under true))

/-- In every state, where the gate of a safe output whose functions of the active parameter set include the window function (bit 3) is open,
some open window whose side is the output's permits under R300, and the output's side is not 0; and a lane's switch pair of an output is
closed only with the gate of that lane's monitor channel open. -/
def Obligations.WindowFunctionPermitsOnlyBesideAnOpenWindow : Prop :=
  (∀ (s : State) (i : Nat), hasBit (outputField (params s) i 2 1) 3 = true → gateOf s i = true →
    outputField (params s) i 1 1 ≠ 0 ∧ ∃ p ∈ s.safety.windows, windowField (params s) p.1 1 1 = outputField (params s) i 1 1 ∧ windowPermits none s p.1 p.2 = true) ∧
  (∀ (s : State) (i : Nat) (l : Lane), pairOn s i l = true → hasBit (outputOf s i).gates l.num = true)

/-- POSITION_STATUS answers 60 bytes: state, counter, speed, confidence, the flags of axles and accelerometers, bridging, b, the gradient
bias, the scale factor, the last anchor, the internal fault and the configuration CRC. POSITION_AT answers the last tick at or before an
instant of the last 10 s. CUE_STATUS answers 48 bytes for each cue asked for (log entry 126). POSITION_COUNTERS answers its fifteen counters
in order. Nothing else changes. -/
def Obligations.PositionReportsGiveWhatTheTableLists : Prop :=
  Reports .positionStatus anyOrLanes 0x0701 (fun e _ => e.payload.length = 0)
    (fun _ _ => 60) (fun _ t => let p := t.pos
      let x := p.channel1
      [(0, 1, p.state.code), (1, 8, (p.counter % 2 ^ 64).toNat), (9, 4, (p.speed % 2 ^ 32).toNat), (13, 4, p.confidence), (17, 1, axleBits p.fault1 x.axle1 + 8 * axleBits p.fault2 x.axle2),
       (18, 1, bit p.acc1Faulted + 2 * bit p.acc2Faulted), (19, 1, bit x.bridging.isSome), (20, 4, (x.bridging.map fun g => g.total / 10).getD 0), (24, 4, ceilMm x.b.toNat),
       (28, 2, (floorDiv x.beta 65536 % 2 ^ 16).toNat), (30, 4, p.kappaPpm), (34, 1, bit p.calibrated), (35, 8, (p.anchor % 2 ^ 64).toNat), (43, 8, p.anchorTai), (51, 1, bit p.internalFault),
       (52, 8, crc64 p.config.bytes)]) ∧
  Answers .positionAt anyOrLanes 0x0704 (fun e t => e.payload.length = 12 && e.field 8 4 < 1000000000 && markRecent t (markInstant e.payload) && (tickAt t (markInstant e.payload)).isSome)
    (fun e t => match tickAt t (markInstant e.payload) with
      | some h => answers (taiBytes h.boundary ++ leInt 8 h.counter ++ leInt 4 h.speed ++ le 4 h.confidence ++ le 1 h.state.code) t
      | none => fails 0x0711 t) ∧
  Answers .cueStatus anyOrLanes 0x0705 (fun e _ => e.payload.length = 3 && 1 ≤ e.field 1 2 && e.field 0 1 + e.field 1 2 ≤ 256)
    (fun e t => answers ((List.range (e.field 1 2)).flatMap fun k =>
        let n := e.field 0 1 + k
        let c := cueOf t n
        let b := cueBinding t n
        le 1 n ++ le 1 (bit b.isSome) ++ le 1 ((b.map CueBinding.task).getD 0xFF) ++ le 1 ((b.map CueBinding.action).getD 0) ++ le 1 c.state.code ++
          le 1 c.trigger ++ le 2 0 ++ le 4 c.firings ++ le 4 c.misses ++ padTo 32 (if c.state = .armed then c.request else [])) t) ∧
  Reports .positionCounters anyOrLanes 0x0707 (fun e _ => e.payload.length = 0)
    (fun _ _ => 60) (fun _ t => let p := t.pos
      [(0, 4, p.slip1), (4, 4, p.slip2), (8, 4, p.slide1), (12, 4, p.slide2), (16, 4, p.bridgings), (20, 4, p.longestBridging), (24, 4, p.axleFaults1), (28, 4, p.axleFaults2),
       (32, 4, p.accFaults1), (36, 4, p.accFaults2), (40, 4, p.marksAccepted), (44, 4, p.marksRejected), (48, 4, p.cueFirings), (52, 4, p.cueMisses), (56, 4, p.requestsDropped)])

/-- POSITION_CONFIGURE in Maintenance at standstill with a configuration within Table 9.2 records and answers the old and the new CRC,
reinitialises the unit, closes every window and evaluates the gates; a configuration outside it is POSITION_CONFIG_INVALID (0x0714).
POSITION_MARK of an instant of the last 10 s waits for the tick that applies it; too old it is 0x0711, and an anchor with a window open
0x0713. CUE_CONTROL answers the previous state; a disable makes the cue Disabled and cancels the commands that wait for it, an enable of a
Disabled cue makes it Idle. -/
def Obligations.PositionAndCuesAreCommanded : Prop :=
  Answers .positionConfigure (roleOnly safety) 0x0702 (fun e t => e.payload.length = 32 && e.field 0xE 2 = 0 && (positionConfig e.payload).sense < 4 && (positionConfig e.payload).axis < 8 && t.module.state = .maintenance && standstill t)
    (fun e t => let c := positionConfig e.payload
      let old := crc64 t.pos.config.bytes
      let u := record .juridical 9 0 (le 8 old ++ le 8 (crc64 c.bytes) ++ issuerName t e.issuer) t
      if !c.ok then fails 0x0714 t
      else answers (le 8 old ++ le 8 (crc64 c.bytes)) (forwardSettings e (evaluateGates (closeWindows (signalPosition u.pos.state (modPos (reinitialise c) u)))))) ∧
  Answers .positionMark (roleOrLanes maintainer) 0x0703 (fun e _ => e.payload.length = 32 && e.field 8 4 < 1000000000 && e.field 12 1 ≤ 3 && e.field 13 3 = 0 && e.field 16 4 ≤ 100000)
    (fun e t => if !markRecent t (markInstant e.payload) || (tickAt t (markInstant e.payload)).isNone then fails 0x0711 t
      else if hasBit (e.field 12 1) 0 && !t.safety.windows.isEmpty then fails 0x0713 t
      else (modPos (fun p => { p with waiting := p.waiting ++ [e.id] }) t, .goesOn .under false)) ∧
  Answers .cueControl (roleOnly maintainer) 0x0706 (fun e _ => e.payload.length = 2 && e.field 1 1 ≤ 1)
    (fun e t => let n := e.field 0 1
      let old := (cueOf t n).state
      answers (le 1 old.code) (if e.field 1 1 = 0 then
          modCue n (fun c => { c with state := .disabled, passed := false, windowDue := false })
            (cancelTargets (fun q => q.code = 0x0706 && q.id != e.id && Bytes.field q.payload 0 1 = n) t)
        else if old = .disabled then modCue n (fun c => { c with state := .idle }) t else t))

/-- SIGNAL_STATUS answers the load of the engine (log entry 23), the dissolves queued, and for each of the channels asked for 28 bytes with
its bank, state, source, dissolve and last value. SIGNAL_COUNTERS answers 52 bytes: the counters of a channel in table order and the
module-wide count of dropped frames. Nothing else changes. -/
def Obligations.SignalReportsGiveWhatTheTableLists : Prop :=
  Answers .signalStatus anyOrLanes 0x0801 (fun e _ => e.payload.length = 3 && 1 ≤ e.field 1 2 && e.field 0 1 + e.field 1 2 ≤ 128)
    (fun e t => answers (le 4 (engineLoad t) ++ le 2 (dissolveQueue t).length ++ (List.range (e.field 1 2)).flatMap fun k =>
        let x := chanOf t (e.field 0 1 + k)
        le 1 (e.field 0 1 + k) ++ le 1 (bit x.enabled) ++ le 1 x.source ++ le 1 (channelState x) ++ le 2 x.bank.length ++ le 2 ((x.staged.map fun b => b.taps.length).getD 0) ++
          le 1 x.config.median ++ le 1 x.config.decimation ++ le 4 x.n ++ le 2 (match x.dissolve with | some d => (d.k, d.length) | none => (0, 0)).1 ++
          le 2 (match x.dissolve with | some d => (d.k, d.length) | none => (0, 0)).2 ++
          le 2 (groupDelay x.config.symmetry x.bank.length x.config.median) ++ leInt 4 x.value ++ le 1 x.flags) t) ∧
  Reports .signalCounters anyOrLanes 0x0807 (fun e _ => e.payload.length = 1 && e.field 0 1 < 128)
    (fun _ _ => 52) (fun e t => let x := chanOf t (e.field 0 1)
      [(0, 8, x.framesTaken), (8, 4, x.framesDropped), (12, 4, x.repeats), (16, 4, x.setsFilled), (20, 4, x.gaps), (24, 4, x.rateDropped), (28, 4, x.staleEvents), (32, 4, x.inputSwitches),
       (36, 4, x.saturations), (40, 4, x.dissolvesDone), (44, 4, x.dissolvesEnded), (48, 4, t.signal.wrongFrames)])

/-- CHANNEL_CONFIGURE with fields of Table 10.2 of a channel without a dissolve sets its configuration and bank, with all histories as at a
start, and answers the previous N and the load. COEFF_LOAD of an enabled channel stages a bank of the symmetry named and answers its group
delay; SIGNAL_DISSOLVE of a staged bank waits, uncommitted, for its first output. INPUT_SWITCH changes to the other source, where there is
one, and answers the previous one. CHANNEL_CONTROL enables a configured channel as at a start, or disables one, ending its dissolve and
cancelling the uncommitted commands on it. The statuses 0x0810 to 0x0814 are answered where the table says. -/
def Obligations.FilterChannelsAreCommanded : Prop :=
  Answers .channelConfigure (roleOnly maintainer) 0x0802 (fun e _ => channelConfigOk e.payload)
    (fun e t => let b := e.payload
      let c := e.field 0 1
      let x := chanOf t c
      let taps := coefficients b 0x14 (e.field 0x0E 2)
      let y := { x with config := channelConfig b, configured := true, bank := taps, staged := none, dissolve := none, source := 0, stale := false, switchNext := false, lastSample := t.time }
      if x.dissolve.isSome then fails 0x0811 t
      else if capacity < engineLoad t - x.load + y.load then fails 0x0810 t
      else if !symmetric (e.field 0x10 1) taps then fails 0x0813 t
      else
        let u := modChan c (fun _ => y.clear) t
        answers (le 2 x.bank.length ++ le 4 (engineLoad u)) (forwardSettings e u)) ∧
  Answers .coeffLoad (roleOrLanes maintainer) 0x0803 (fun e t => 1 ≤ e.field 2 2 && e.field 2 2 ≤ 256 && e.field 1 1 ≤ 2 && e.payload.length = 4 + 3 * e.field 2 2 && e.field 0 1 < 128 && (chanOf t (e.field 0 1)).enabled)
    (fun e t => let c := e.field 0 1
      let taps := coefficients e.payload 4 (e.field 2 2)
      if (chanOf t c).dissolve.isSome then fails 0x0811 t
      else if !symmetric (e.field 1 1) taps then fails 0x0813 t
      else answers (le 2 (groupDelay (e.field 1 1) (e.field 2 2) (chanOf t c).config.median)) (modChan c (fun x => { x with staged := some ⟨e.field 1 1, taps⟩ }) t)) ∧
  Answers .signalDissolve (roleOrLanes maintainer) 0x0804 (fun e t => e.payload.length = 4 && 1 ≤ e.field 2 2 && e.field 2 2 ≤ 4096 && e.field 0 1 < 128 && (chanOf t (e.field 0 1)).enabled && e.clear [(1, 1)])
    (fun e t => let c := e.field 0 1
      if (chanOf t c).dissolve.isSome then fails 0x0811 t
      else if (chanOf t c).staged.isNone then fails 0x0812 t
      else (modChan c (fun x => { x with dissolve := some ⟨e.field 2 2, false, 0, e.stamp, e.id⟩ }) t, .goesOn .under false)) ∧
  Answers .inputSwitch (roleOrLanes maintainer) 0x0806 (fun e t => e.payload.length = 2 && e.field 1 1 ≤ 1 && e.field 0 1 < 128 && (chanOf t (e.field 0 1)).enabled)
    (fun e t => let x := chanOf t (e.field 0 1)
      if e.field 1 1 = x.source then answers (le 1 x.source) t
      else if x.config.alternate = 0xFFFF then fails 0x0814 t
      else answers (le 1 x.source) (endDissolve (e.field 0 1) (fun y => y.otherSource (lastArrival t (if x.source = 0 then x.config.alternate else x.config.primary))) t)) ∧
  Answers .channelControl (roleOnly maintainer) 0x0805 (fun e t => e.payload.length = 2 && e.field 0 1 < 128 && e.field 1 1 = 1 && (chanOf t (e.field 0 1)).configured && !(chanOf t (e.field 0 1)).enabled)
    (fun e t => let c := e.field 0 1
      if capacity < engineLoad t + { chanOf t c with enabled := true }.load then fails 0x0810 t
      else answers (le 1 0 ++ le 2 0) (forwardSettings e (modChan c (fun x => { x.clear with enabled := true, stale := false, switchNext := false, lastSample := t.time }) t))) ∧
  Answers .channelControl (roleOnly maintainer) 0x0805 (fun e t => e.payload.length = 2 && e.field 0 1 < 128 && e.field 1 1 = 0 && (chanOf t (e.field 0 1)).enabled)
    (fun e t => let c := e.field 0 1
      let u := modChan c (fun x => { x with enabled := false, flags := 1, dissolve := none, dissolvesEnded := x.dissolvesEnded + bit x.dissolving }) (cancelTargets (onChannel c e.id) t)
      answers (le 1 1 ++ le 2 (t.mbx.queue.filter fun q => !q.committed && onChannel c e.id q).length) (forwardSettings e u))

/-- NET_STATUS answers 43 bytes: links, inauguration, topology counters, position, relay, routing, flows, loads, SDTv2 slots, contexts,
forwarding entries, flooding ports and latent errors. PORT_COUNTERS answers 104 bytes of a port's counters, the drops by the twelve causes
of R382 among them. FDB_READ answers the pinned or the learned entries asked for. FLOW_STATUS answers 56 bytes for each slot asked for.
Nothing else changes. -/
def Obligations.NetworkReportsGiveWhatTheTableLists : Prop :=
  Reports .netStatus anyOrLanes 0x0901 (fun e _ => e.payload.length = 0)
    (fun _ _ => 43) (fun _ t => let n := t.net
      let recs := enabledRecords t
      [(0, 4, ((List.range 28).map fun p => if (portOf t p).up && (4 ≤ p || n.relayFaults = 0) then 2 ^ p else 0).sum), (4, 1, bit n.inaugurating.isSome), (5, 4, n.etbTopo), (9, 4, n.opTrnTopo),
       (13, 1, (n.directory.map fun d => d.own).getD 0), (14, 1, (n.directory.map fun d => d.addresses.length).getD 0), (15, 1, bit (n.relayFaults != 0)),
       (16, 1, bit (t.pair.role != .standby && n.directory.isSome)), (17, 2, (recs.filter fun r => r.2.publishes).length), (19, 2, (recs.filter fun r => !r.2.publishes).length),
       (21, 4, (sumLoads (runningImage t) recs (fun r => !r.publishes) + innerLoad t (runningImage t)) / 2 ^ 32),
       (25, 4, (sumLoads (runningImage t) recs FlowRec.publishes + innerLoad t (runningImage t)) / 2 ^ 32), (29, 2, (n.flows.filter fun p => p.2.record.sdt).length),
       (31, 1, (t.trust.contexts.filter fun c => c.2.purpose = 1 && c.2.state = .live).length), (32, 2, (n.learned.filter fun x => x.bucket.isSome).length),
       (34, 1, (n.learned.filter fun x => x.bucket.isNone).length), (35, 2, n.pinned.length),
       (37, 4, ((List.range 32).map fun p => if 16384 * floodUnit ≤ (portOf t p).flood.at (portRate t p) t.time then 2 ^ p else 0).sum), (41, 2, n.latentErrors)]) ∧
  Reports .portCounters anyOrLanes 0x0903 (fun e _ => e.payload.length = 1 && e.field 0 1 < 32)
    (fun _ _ => 104) (fun e t => let x := portOf t (e.field 0 1)
      [(0, 8, x.framesIn), (8, 8, x.framesOut), (16, 8, x.octetsIn), (24, 8, x.octetsOut), (80, 4, x.learnFailures), (84, 4, x.learnRefusals), (88, 8, x.floodedIn), (96, 4, x.lateLaunches),
       (100, 4, x.linkChanges)] ++ (List.range 12).map fun c => (32 + 4 * c, 4, Tbl.get x.drops c 0)) ∧
  Answers .fdbRead { session := true } 0x0906 (fun e _ => e.payload.length = 5 && e.field 0 1 ≤ 1 && 1 ≤ e.field 3 2 && e.field 3 2 ≤ 256)
    (fun e t => let all := if e.field 0 1 = 0 then t.net.pinned.map fun x => be 6 x.mac ++ le 2 x.vlan ++ le 4 x.ports ++ le 4 0
        else t.net.learned.map fun x => be 6 x.mac ++ le 2 x.vlan ++ le 4 (2 ^ x.port) ++ le 4 ((t.time - x.lastSeen) / second 1)
      let found := (all.drop (e.field 1 2)).take (e.field 3 2)
      answers (le 2 found.length ++ found.flatten) t) ∧
  Answers .flowStatus anyOrLanes 0x090A (fun e _ => e.payload.length = 4 && 1 ≤ e.field 2 2 && e.field 2 2 ≤ 64 && e.field 0 2 + e.field 2 2 ≤ 2048)
    (fun e t => answers ((List.range (e.field 2 2)).flatMap fun k => flowReport t (e.field 0 2 + k)) t)

/-- On a module that is not a Standby, PORT_CONFIGURE with fields in range sets a port's configuration, takes the link down on a disable or
a change of rate and answers the previous enable; FDB_PIN pins an address, removing a learned entry of it; FDB_UNPIN removes a manual pin;
FRER_CONFIGURE adds an identification, a generation or a recovery; GATE_CONFIGURE arms a gate list for the first cycle start and is
ACCEPTED. FDB_FLUSH removes the learned entries of a port or of all, LAUNCH_WRITE queues a frame of at most 16 in a launch queue,
LAUNCH_FLUSH empties it. The limits of the table answer 0x0212 and 0x0913 to 0x0917. -/
def Obligations.FabricIsCommanded : Prop :=
  Answers .portConfigure (roleOnly maintainer) 0x0902 (fun e t => let b := e.payload
    let n := (b.length - 26) / 4
    let vlans := (List.range n).map fun k => (e.field (26 + 4 * k) 2, e.field (28 + 4 * k) 1)
    30 ≤ b.length && b.length = 26 + 4 * n && n ≤ 256 && e.field 0 1 < 28 && e.field 1 1 ≤ 1 && rateOk (e.field 0 1) (e.field 2 1) && e.field 3 1 ≤ 1 && 1 ≤ e.field 4 2 && e.field 4 2 ≤ 4094 &&
      e.field 6 1 ≤ 7 && ((List.range 8).map fun c => e.field (10 + 2 * c) 2).all (fun l => 4 ≤ l && l ≤ 256) && vlans.all (fun v => 1 ≤ v.1 && v.1 ≤ 4094 && v.2 ≤ 1) &&
      (vlansInUse t (e.field 0 1) (vlans.map Prod.fst)).length ≤ 256 && t.pair.role != .standby && e.clear ((7, 1) :: (List.range n).map fun k => (29 + 4 * k, 1)))
    (fun e t => let p := e.field 0 1
      let limits := (List.range 8).map fun c => e.field (10 + 2 * c) 2
      let vlans := (List.range ((e.payload.length - 26) / 4)).map fun k => (e.field (26 + 4 * k) 2, e.field (28 + 4 * k) 1)
      let old := (portOf t p).config
      let cfg : PortConfig := {
        enabled := e.field 1 1 = 1, rate := e.field 2 1, protection := e.field 3 1 = 1, pvid := e.field 4 2, pcp := e.field 6 1, learnLimit := e.field 8 2,
        limits := (List.range 8).zip limits, vlans := vlans.foldl (fun t v => Tbl.put t v.1 (v.2 = 1)) [] }
      if p < 4 && t.trust.ownerLock && t.trust.contexts.any (fun c => c.2.purpose = 1 && c.2.binding = p) then (fails 0x0212 t)
      else if 12288 < totalLimits t p limits.sum then fails 0x0917 t
      else answers (le 1 (bit old.enabled)) (forwardSettings e (modPort p (fun x => { x with config := cfg, up := x.up && !(!cfg.enabled || cfg.rate != old.rate) }) t))) ∧
  Answers .fdbPin (roleOnly maintainer) 0x0904 (fun e t => e.payload.length = 12 && 1 ≤ e.field 6 2 && e.field 6 2 ≤ 4094 && t.pair.role != .standby)
    (fun e t => let mac := macField e 0
      let vlan := e.field 6 2
      if (pinnedEntry t mac vlan).isNone && 4096 ≤ t.net.pinned.length then fails 0x0913 t
      else
        let u := modNet (fun n => { n with learned := n.learned.filter fun x => !(x.mac = mac && x.vlan = vlan) }) (pin mac vlan (e.field 8 4) false t)
        answers (le 2 u.net.pinned.length) (forwardSettings e u)) ∧
  Answers .fdbUnpin (roleOnly maintainer) 0x0905 (fun e t => e.payload.length = 8 && t.pair.role != .standby && (pinnedEntry t (macField e 0) (e.field 6 2)).any Pinned.manual)
    (fun e t => match pinnedEntry t (macField e 0) (e.field 6 2) with
      | some x =>
        let same := fun y : Pinned => y.mac = x.mac && y.vlan = e.field 6 2
        answers [] (forwardSettings e (modNet (fun n => { n with
          pinned := if x.automatic = 0 then t.net.pinned.filter (fun y => !same y) else t.net.pinned.map fun y => if same y then { y with manual := false, ports := 2 ^ 29 } else y }) t))
      | none => fails stBadArgument t) ∧
  Answers .fdbFlush (roleOnly maintainer) 0x0907 (fun e _ => e.payload.length = 1 && (e.field 0 1 < 32 || e.field 0 1 = 0xFF))
    (fun e t => let keep := fun x : Learned => e.field 0 1 != 0xFF && x.port != e.field 0 1
      answers (le 2 (t.net.learned.length - (t.net.learned.filter keep).length)) (modNet (fun x => { x with learned := x.learned.filter keep }) t)) ∧
  Answers .frerConfigure (roleOnly maintainer) 0x090B (fun e t => let ports := ((List.range 32).filter (hasBit (e.field 19 4))).length
    e.payload.length = 26 && t.pair.role != .standby && (e.field 1 1 = 1 && (e.field 2 1 = 1 || e.field 2 1 = 2) || e.field 1 1 = 2 && 1 ≤ ports && ports ≤ 4 ||
      e.field 1 1 = 3 && 1 ≤ ports && 2 ≤ e.field 23 1 && e.field 23 1 ≤ 32 && 1 ≤ e.field 24 2 && e.field 24 2 ≤ 10000))
    (fun e t => let n := e.field 0 1
      let old := Tbl.get t.net.frer n {}
      let store := fun f : Frer => answers [] (forwardSettings e (modNet (fun x => { x with frer := Tbl.put x.frer n f }) t))
      if e.field 1 1 = 1 then
        if 512 ≤ (t.net.frer.map fun p => p.2.identifications.length).sum then fails 0x0916 t
        else store { old with identifications := old.identifications ++ [(e.field 2 1, e.slice 3 16)] }
      else if e.field 1 1 = 2 then store { old with generation := some (e.field 19 4), nextSequence := 0 }
      else store { old with recovery := some (e.field 19 4), history := e.field 23 1, resetMs := e.field 24 2, highest := none, seen := [], paths := [], latent := [] }) ∧
  Answers .gateConfigure (roleOnly maintainer) 0x090C (fun e t => e.payload.length = 19 + 8 * e.field 1 2 && e.field 0 1 < 32 && e.field 15 4 < 1000000000 && t.pair.role != .standby && e.clear ((List.range (e.field 1 2)).map fun k => (20 + 8 * k, 3)))
    (fun e t => let n := e.field 1 2
      let cycle := e.field 3 4
      let entries := (List.range n).map fun k => (e.field (19 + 8 * k) 1, e.field (23 + 8 * k) 4)
      if 256 < n || cycle < 10000 || 1000000000 < cycle || !entries.all (fun x => 4 ≤ x.2 && x.2 ≤ 1000000000 && x.2 % 4 = 0) then fails 0x0915 t
      else
        let g : GateList := ⟨cycle, ofTai (e.field 7 8) (e.field 15 4), entries⟩
        let first := cycleStart g (localNow t)
        (forwardSettings e (modPort (e.field 0 1) (fun x => { x with gatesNext := some { g with base := first } }) t), .done 0x0001 (taiBytes first))) ∧
  Answers .launchWrite (roleOrLanes maintainer) 0x090D (fun e _ => e.payload.length = 4 + e.field 2 2 && e.field 0 1 < 28 && e.field 1 1 < 4 && 60 ≤ e.field 2 2 && e.field 2 2 ≤ if e.channel.isSome then 956 else 1518)
    (fun e t => let l := Tbl.get (portOf t (e.field 0 1)).launches (e.field 1 1) []
      if 16 ≤ l.length then fails 0x0914 t
      else answers (le 1 (l.length + 1)) (modPort (e.field 0 1) (fun x => { x with launches := Tbl.put x.launches (e.field 1 1) (l ++ [e.payload.drop 4]) }) t)) ∧
  Answers .launchFlush (roleOrLanes maintainer) 0x090E (fun e _ => e.payload.length = 2 && e.field 0 1 < 28 && e.field 1 1 < 4)
    (fun e t => answers (le 1 (Tbl.get (portOf t (e.field 0 1)).launches (e.field 1 1) []).length) (modPort (e.field 0 1) (fun x => { x with launches := Tbl.put x.launches (e.field 1 1) [] }) t))

/-- On a module that is not a Standby, FLOW_CONFIGURE with a record of Table 11.4 of a slot that is not enabled stores the record, moving
the automatic pin of its group (log entry 33); FLOW_CONTROL enables a configured slot as at a start, or disables it and cancels the
uncommitted commands on it, answering the previous enable; RNAT_CONFIGURE outside an inauguration stores subnet, prefix and static hosts;
NET_SETTINGS with aging from 10 to 1 000 000 s and a heartbeat of 10 to 1000 ms stores its fields. The statuses 0x0910 to 0x0913 and 0x0918
are answered where the table says. -/
def Obligations.FlowsAndSettingsAreCommanded : Prop :=
  Answers .flowConfigure (roleOnly maintainer) 0x0908 (fun e t => e.payload.length = 64 && e.field 0 2 < 2048 && flowRecordOk t (flowRecord e.payload) && t.pair.role != .standby && (flowRecord e.payload).flags < 64 && e.clear [(0x27, 1), (0x34, 12)])
    (fun e t => let n := e.field 0 2
      let r := flowRecord e.payload
      let old := flowOf t n
      let oldPin := old.bind fun f => groupPin f.record
      if (match old with | some f => f.enabled | none => false) || ((match old with | some f => f.record.length != r.length | none => false) && programRuns t) then fails 0x0910 t
      else if !ratesFit t (runningImage t) (Tbl.put (enabledRecords t) n r) then fails 0x0911 t
      else if r.sdt && 512 ≤ ((t.net.flows.filter fun p => p.1 != n).filter fun p => p.2.record.sdt).length then fails 0x0912 t
      else if (match groupPin r with | some p => (pinnedEntry t p.1 p.2).isNone && 4096 ≤ t.net.pinned.length | none => false) then fails 0x0913 t
      else
        let u := match oldPin with | some p => unpin p.1 p.2 t | none => t
        let u := match groupPin r with | some p => pin p.1 p.2 (2 ^ 29) true u | none => u
        answers [] (forwardSettings e (modNet (fun x => { x with flows := Tbl.put x.flows n (match u.net.directory with | some d => ({ record := r } : Flow).placed d | none => { record := r }) }) u))) ∧
  Answers .flowControl (roleOrLanes maintainer) 0x0909 (fun e t => e.payload.length = 3 && e.field 2 1 ≤ 1 && t.pair.role != .standby && (flowOf t (e.field 0 2)).isSome)
    (fun e t => let n := e.field 0 2
      match flowOf t n with
      | some f =>
        if e.field 2 1 = 1 then
          if !ratesFit t (runningImage t) (Tbl.put (enabledRecords t) n f.record) then fails 0x0911 t
          else if f.enabled then answers (le 1 1 ++ le 2 0) t
          else answers (le 1 0 ++ le 2 0) (forwardSettings e (modFlow n (fun f => { f with
            enabled := true, sequence := 0, sdtUnsafe := false, safeSequence := 0, monitorCount := 0,
            launched := localMicros t, launchedAt := t.time, releases := [], everReleased := false }) t))
        else
          let u := modFlow n (fun f => { f with enabled := false, fresh := false, releases := [] }) (cancelTargets (onSlot n e.id) t)
          answers (le 1 (bit f.enabled) ++ le 2 (t.mbx.queue.filter fun q => !q.committed && onSlot n e.id q).length) (forwardSettings e u)
      | none => fails stBadArgument t) ∧
  Answers .rnatConfigure (roleOnly maintainer) 0x090F (fun e t => 8 ≤ e.payload.length && e.payload.length = 8 + 8 * ((e.payload.length - 8) / 8) && (e.payload.length - 8) / 8 ≤ 1024 && e.field 4 1 ≤ 32 && t.pair.role != .standby && e.clear [(5, 3)])
    (fun e t => if t.net.inaugurating.isSome then fails 0x0918 t
      else answers [] (forwardSettings e (modNet (fun x => { x with
        subnet := e.field 0 4, prefixLength := e.field 4 1,
        hosts := (List.range ((e.payload.length - 8) / 8)).map fun k => (e.field (8 + 8 * k) 4, e.field (12 + 8 * k) 4) }) t))) ∧
  Answers .netSettings (roleOnly maintainer) 0x0910 (fun e t => e.payload.length = 42 && 10 ≤ e.field 0 4 && e.field 0 4 ≤ 1000000 && 10 ≤ e.field 4 2 && e.field 4 2 ≤ 1000 && t.pair.role != .standby)
    (fun e t => let u := modNet (fun x => { x with aging := e.field 0 4, heartbeatMs := e.field 4 2, heartbeatComId := e.field 6 4, heartbeatGroup := e.field 22 4, uuid := e.slice 26 16 }) t
      let u := modMbx (fun x => { x with commandComId := e.field 14 4, replyComId := e.field 18 4 }) (modPair (fun x => { x with pairComId := e.field 10 4 }) u)
      answers [] (forwardSettings e u))

/-- MVB_STATUS answers 21 bytes: for each bus enable, role, mastership, lines and worst poll load, then ports, maps, semaphores, writes
outstanding and devices absent. MVB_DEVICES answers the devices of a bus from an address on, as last polled. MVB_COUNTERS answers the 64
bytes of a bus's counters in table order. Nothing else changes. -/
def Obligations.MvbReportsGiveWhatTheTableLists : Prop :=
  Reports .mvbStatus anyOrLanes 0x0A01 (fun e _ => e.payload.length = 0)
    (fun _ _ => 21) (fun _ t => let x := busOf t 0
      let y := busOf t 1
      [(0, 1, bit x.enabled), (1, 1, bit x.candidate), (2, 1, bit x.master), (3, 1, x.lines), (4, 2, worstLoad ((busPorts t 0).map fun p => p.2.record)), (6, 1, bit y.enabled),
       (7, 1, bit y.candidate), (8, 1, bit y.master), (9, 1, y.lines), (10, 2, worstLoad ((busPorts t 1).map fun p => p.2.record)), (12, 2, t.mvb.ports.length), (14, 2, t.mvb.maps.length),
       (16, 1, t.mvb.semaphores.length), (17, 2, (t.mvb.ports.filter fun p => p.2.write.isSome).length),
       (19, 2, (t.mvb.bus0.devices.filter fun d => !d.2.present).length + (t.mvb.bus1.devices.filter fun d => !d.2.present).length)]) ∧
  Answers .mvbDevices anyOrLanes 0x0A0A (fun e _ => e.payload.length = 5 && e.field 0 1 ≤ 1 && 1 ≤ e.field 3 2 && e.field 3 2 ≤ 256)
    (fun e t => answers ((((busOf t (e.field 0 1)).devices.filter fun d => e.field 1 2 ≤ d.1).take (e.field 3 2)).flatMap fun d =>
        le 2 d.1 ++ le 1 (bit d.2.present) ++ [0] ++ le 2 d.2.status ++ le 2 d.2.missed) t) ∧
  Reports .mvbCounters anyOrLanes 0x0A0B (fun e _ => e.payload.length = 1 && e.field 0 1 ≤ 1)
    (fun _ _ => 64) (fun e t => let x := busOf t (e.field 0 1)
      [(0, 8, x.framesSent), (8, 8, x.framesReceived), (16, 4, x.oneLine), (20, 4, x.errorsA), (24, 4, x.errorsB), (28, 4, x.gained), (32, 4, x.passed), (36, 4, x.confirmed), (40, 4, x.timedOut),
       (44, 4, x.farErrors), (48, 4, x.bindingFailures), (52, 4, x.readsTimedOut), (56, 4, x.semaphoresLost), (60, 4, x.mapWithoutData)])

/-- On a module that is not a Standby, MVB_CONFIGURE of a bus that no running image binds stores its fields and lists (log entry 31) and
answers the previous enable; MVB_PORT_CONFIGURE of a port that no image binds stores or removes its record, within the limits of ports,
devices and load, and answers the entries in use; MVB_PORT_CONTROL enables a port with an empty buffer, or disables it, cancelling its
uncommitted commands and losing the semaphores that cover it; MVB_MAP maps ports of the right direction into a slot that is configured,
disabled and not bound, or removes a map. The statuses 0x0910, 0x0A11, 0x0A15 and 0x0A16 are answered where the table says. -/
def Obligations.MvbBusesAndPortsAreConfigured : Prop :=
  Answers .mvbConfigure (roleOnly maintainer) 0x0A02 (fun e t => let n := (e.payload.length - 10) / 2
    e.payload.length = 10 + 2 * n && 1 ≤ n && n ≤ 264 && e.field 0 1 ≤ 1 && e.field 1 1 ≤ 1 && e.field 2 1 ≤ 1 && 16 ≤ e.field 8 2 && e.field 8 2 ≤ 1024 && e.field 4 2 ≤ 4095 &&
      e.field 6 2 ≤ 4095 && t.pair.role != .standby && !(programRuns t && bindsBus t (e.field 0 1)) && e.clear [(3, 1)])
    (fun e t => let b := e.field 0 1
      let all := (List.range ((e.payload.length - 10) / 2)).map fun k => e.field (10 + 2 * k) 2
      let u := modBus b (fun x => { x with
        enabled := e.field 1 1 = 1, candidate := e.field 2 1 = 1, device1 := e.field 4 2, device2 := e.field 6 2, statusPeriod := e.field 8 2,
        administrators := all.take 8, extra := all.drop 8, master := x.master && e.field 1 1 = 1 && e.field 2 1 = 1 }) t
      if 256 < (statusList u b).length then fails 0x0A15 (modBus b (fun _ => busOf t b) u)
      else answers (le 1 (bit (busOf t b).enabled)) (forwardSettings e u)) ∧
  Answers .mvbPortConfigure (roleOnly maintainer) 0x0A03 (fun e t => e.payload.length = 25 && e.field 0 2 < 8192 && (e.field 24 1 = 0 && mvbRecordOk t (mvbRecord e.payload) || e.field 24 1 = 1 && (mvbPort t (e.field 0 2)).isSome) &&
      t.pair.role != .standby && !boundByImage t (e.field 0 2) && e.clear [(0x0B, 1), (0x12, 6)])
    (fun e t => let h := e.field 0 2
      let r := mvbRecord e.payload
      if e.field 24 1 = 1 then
        let u := modMvb (fun m => { m with ports := Tbl.erase m.ports h }) (endPort h t)
        answers (le 2 u.mvb.ports.length) (forwardSettings e u)
      else if (mvbPort t h).isNone && 1024 ≤ t.mvb.ports.length then fails 0x0A15 t
      else
        let place := modMvb fun m => { m with ports := Tbl.put m.ports h { record := r, data := if r.direction = 1 then List.replicate r.bytes 0 else [] } }
        let u := place t
        if 256 < (statusList u (handleBus h)).length then fails 0x0A15 t
        else if (busOf t (handleBus h)).candidate && 600 < worstLoad (r :: ((busPorts t (handleBus h)).filter fun p => p.1 != h).map fun p => p.2.record) then fails 0x0A16 t
        else answers (le 2 (place (endPort h t)).mvb.ports.length) (forwardSettings e (place (endPort h t)))) ∧
  Answers .mvbPortControl (roleOrLanes maintainer) 0x0A04 (fun e t => e.payload.length = 3 && (mvbPort t (e.field 0 2)).isSome && e.field 2 1 ≤ 1 && t.pair.role != .standby)
    (fun e t => let h := e.field 0 2
      match mvbPort t h with
      | none => fails 0x0A10 t
      | some p =>
        if e.field 2 1 = 1 then
          answers (le 1 (bit p.enabled) ++ le 2 0) (forwardSettings e (if p.enabled then t else modMvbPort h (fun q => { q with
            enabled := true, data := if p.record.direction = 1 then List.replicate p.record.bytes 0 else [], receivedAt := none, fresh := false, oneLine := false }) t))
        else
          let victims := onPort t h
          let u := modMvbPort h (fun q => { q with enabled := false, fresh := false, write := q.write.filter fun w => w.sent.isSome }) (cancelTargets victims t)
          let lost := ((u.mvb.semaphores.filter fun x => x.2.ports.contains h).map Prod.fst).foldl (fun t k => loseSemaphore k stCancelled t) u
          answers (le 1 (bit p.enabled) ++ le 2 (t.mbx.queue.filter fun q => !q.committed && victims q).length) (forwardSettings e lost)) ∧
  Answers .mvbMap (roleOnly maintainer) 0x0A09 (fun e t => let n := (e.payload.length - 6) / 4
    let ports := (List.range n).map fun j => (e.field (6 + 4 * j) 2, e.field (8 + 4 * j) 2)
    e.payload.length = 6 + 4 * n && 1 ≤ n && n ≤ 16 && e.field 4 1 ≤ 1 && e.field 2 2 < 2048 && ports.all (fun p => handleBus p.1 = handleBus ((ports.map Prod.fst).headD 0)) &&
      t.pair.role != .standby && (if e.field 4 1 = 1 then Tbl.has t.mvb.maps (e.field 0 2) else (flowOf t (e.field 2 2)).isSome) && e.clear [(5, 1)])
    (fun e t => let k := e.field 0 2
      let slot := e.field 2 2
      let ports := (List.range ((e.payload.length - 6) / 4)).map fun j => (e.field (6 + 4 * j) 2, e.field (8 + 4 * j) 2)
      if e.field 4 1 = 1 then
        let u := modMvb (fun m => { m with maps := Tbl.erase m.maps k }) t
        answers (le 2 u.mvb.maps.length) (forwardSettings e u)
      else
        match flowOf t slot with
        | none => fails stBadArgument t
        | some f =>
          let bound := match runningImage t with
            | some i => (i.inputs.any fun b => b.kind = 1 && b.source = slot) || i.outputs.any fun b => b.kind = 1 && b.target = slot
            | none => false
          let direction := if f.record.publishes then 2 else 1
          let right := fun h => match mvbPort t h with
            | some q => q.record.direction = direction && !(direction = 1 && (fedByBinding t h))
            | none => false
          let within := ports.all fun p => match mvbPort t p.1 with
            | some q => p.2 + q.record.bytes ≤ f.record.length
            | none => false
          if bound || f.enabled then fails 0x0910 t
          else if 512 ≤ k then fails 0x0A15 t
          else if !ports.all (fun p => right p.1) then fails 0x0A11 t
          else if !within || (f.record.publishes && !f.record.scheduled) then fails stBadArgument t
          else
            let u := modMvb (fun m => { m with maps := Tbl.put m.maps k { slot := slot, ports := ports } }) t
            answers (le 2 u.mvb.maps.length) (forwardSettings e u))

/-- MVB_WRITE of the data of an enabled source port of an enabled bus, fed by neither binding nor map and not locked against its issuer, is
staged and ACCEPTED under a semaphore that its issuer holds over the port, waits while a write of the port is outstanding, and else is
granted; MVB_READ waits for the next frame of the port; MVB_LOCK of up to 8 lockable ports of one bus takes the lowest free of 32 semaphores
for its time; MVB_UNLOCK by the holder frees it, or has its staged writes made together. The statuses 0x0A10 to 0x0A14 and 0x0A17 are
answered where the table says. -/
def Obligations.MvbDataIsWrittenAndRead : Prop :=
  Answers .mvbWrite (roleOrLanes maintainer) 0x0A05 (fun e t => 4 ≤ e.payload.length && (mvbPort t (e.field 0 2)).any (fun p => e.payload.length = 4 + p.record.bytes) && t.pair.role != .standby && e.clear [(3, 1)])
    (fun e t => let h := e.field 0 2
      let n := e.field 2 1
      match mvbPort t h with
      | none => fails 0x0A10 t
      | some p =>
        if p.record.direction != 1 || fedByBinding t h || fedByMap t h then fails 0x0A11 t
        else if lockedAgainst t e.issuer h then fails 0x0A12 t
        else if !(busOf t (handleBus h)).enabled then fails 0x0A17 t
        else if !p.enabled then fails 0x0202 t
        else if n != 0xFF then
          match Tbl.find t.mvb.semaphores n with
          | some x =>
            if x.holder = e.issuer && x.ports.contains h && x.unlock.isNone then
              (modMvb (fun m => { m with semaphores := Tbl.put m.semaphores n { x with staged := Tbl.put x.staged h (e.payload.drop 4) } }) t, .done 0x0001 (le 4 0))
            else fails 0x0A14 t
          | none => fails 0x0A14 t
        else if p.write.isSome || (waitingWrite t h).isSome then (t, .goesOn (.waits .mvb) false)
        else (grantWrite h e.id (e.payload.drop 4) t, .goesOn .under false)) ∧
  Answers .mvbRead anyOrLanes 0x0A06 (fun e t => e.payload.length = 2 && (mvbPort t (e.field 0 2)).any MvbPort.enabled && (busOf t (handleBus (e.field 0 2))).enabled)
    (fun e t => (modMvbPort (e.field 0 2) (fun q => { q with reads := q.reads ++ [(e.id, t.time)] }) t, .goesOn .under true)) ∧
  Answers .mvbLock (roleOrLanes maintainer) 0x0A07 (fun e t => let n := (e.payload.length - 2) / 2
    let handles := (List.range n).map fun k => e.field (2 * k) 2
    e.payload.length = 2 * n + 2 && 1 ≤ n && n ≤ 8 && e.field (2 * n) 2 ≤ 10000 && handles.all (fun h => h < 8192 && handleBus h = handleBus (handles.headD 0)) &&
      handles.all (fun h => (mvbPort t h).isSome) && t.pair.role != .standby)
    (fun e t => let n := (e.payload.length - 2) / 2
      let handles := (List.range n).map fun k => e.field (2 * k) 2
      let time := e.field (2 * n) 2
      let lockable := fun h => match mvbPort t h with
        | some p => p.record.direction = 2 || p.record.direction = 1 && !fedByBinding t h && !fedByMap t h
        | none => false
      if !handles.all lockable then fails 0x0A11 t
      else if t.mvb.semaphores.any fun x => x.2.ports.any handles.contains then fails 0x0A12 t
      else
        match Tbl.lowestFree t.mvb.semaphores 32 with
        | none => fails 0x0A13 t
        | some k => answers (le 1 k) (modMvb (fun m => { m with
            semaphores := Tbl.put m.semaphores k { holder := e.issuer, ports := handles, expires := t.time + milli (if time = 0 then 100 else time) } }) t)) ∧
  Answers .mvbUnlock (roleOrLanes maintainer) 0x0A08 (fun e t => e.payload.length = 2 && e.field 1 1 ≤ 1 && t.pair.role != .standby && (Tbl.find t.mvb.semaphores (e.field 0 1)).any fun x => x.holder = e.issuer && x.unlock.isNone)
    (fun e t => let n := e.field 0 1
      match Tbl.find t.mvb.semaphores n with
      | none => fails 0x0A14 t
      | some x =>
        if hasBit (e.field 1 1) 0 || x.staged.isEmpty && x.ports.all (writeFree t) then
          answers [] (modMvb (fun m => { m with semaphores := Tbl.erase m.semaphores n }) t)
        else
          let u := modMvb (fun m => { m with semaphores := Tbl.put m.semaphores n { x with unlock := some e.id } }) t
          (if x.ports.all (writeFree t) then tryUnlock n u else u, .goesOn .under (x.ports.all (writeFree t))))

/-- TIME_STATUS answers 81 bytes: state, source and instance, grandmaster, offset, path delay, addend and rate, holdover, steps and the
grandmaster of the ECN instance. TIME_PORT_STATUS answers 48 bytes of a port of an instance, and of another port TIME_NO_PORT (0x0B11).
ACTIVATION_STATUS answers the hold and, for each source asked for, its configuration, mask, counter and task. ACTIVATION_COUNTERS answers 40
bytes of a source's counters. Nothing else changes. -/
def Obligations.TimeAndActivationReportsGiveWhatTheTableLists : Prop :=
  Reports .timeStatus anyOrLanes 0x0B01 (fun e _ => e.payload.length = 0)
    (fun _ _ => 81) (fun _ t => let c := t.clock
      let x := ((sourceInstance t).map (instanceOf t)).getD {}
      [(0, 1, c.state.code), (1, 1, c.source), (2, 1, ((sourceInstance t).map instanceNumber).getD 0), (3, 1, bit x.arb), (4, 8, x.grandmaster.getD 0), (12, 2, x.stepsRemoved), (14, 2, 0),
       (16, 8, (c.offset % 2 ^ 64).toNat), (24, 4, c.meanPathDelay), (28, 8, c.addend), (36, 4, (ratePpb c.addend % 2 ^ 32).toNat), (40, 8, c.holdoverSince), (48, 8, holdoverBound t),
       (56, 4, c.stepCount), (60, 8, (c.stepSum % 2 ^ 64).toNat), (68, 8, c.lastStep / secUnit), (76, 4, c.lastStep % secUnit / nsUnit), (80, 1, bit c.ecn.grandmaster.isNone)]) ∧
  Reports .timePortStatus anyOrLanes 0x0B04 (fun e _ => e.payload.length = 1 && (portInstance (e.field 0 1)).isSome)
    (fun _ _ => 48) (fun e t => let x := ptpPort t (e.field 0 1)
      [(0, 1, ((portInstance (e.field 0 1)).map instanceNumber).getD 0), (1, 1, x.portState), (2, 1, bit x.asCapable), (3, 1, 0), (4, 4, x.peerDelay), (8, 4, x.syncReceived),
       (12, 4, x.followUpReceived), (16, 4, x.pdelayReceived), (20, 4, x.announceReceived), (24, 4, x.syncSent), (28, 4, x.followUpSent), (32, 4, x.pdelaySent), (36, 4, x.announceSent),
       (40, 4, x.timestampFaults), (44, 4, x.announceTimeouts)]) ∧
  Answers .activationStatus anyOrLanes 0x0C01 (fun e _ => e.payload.length = 3 && 1 ≤ e.field 1 2 && e.field 0 1 + e.field 1 2 ≤ 128)
    (fun e t => let left := match t.act.hold with
        | some (some l) => (l - t.time) / milli 1
        | _ => 0
      answers (le 1 (bit t.act.hold.isSome + 2 * bit (recutGuarding t)) ++ le 4 left ++ (List.range (e.field 1 2)).flatMap fun k =>
        let x := sourceOf t (e.field 0 1 + k)
        sourceRecord (e.field 0 1 + k) x ++ le 1 (bit x.masked) ++ le 1 x.counter ++ le 1 ((boundTask t (e.field 0 1 + k)).getD 0xFF) ++ [0]) t) ∧
  Reports .activationCounters anyOrLanes 0x0C06 (fun e _ => e.payload.length = 1 && e.field 0 1 < 128)
    (fun _ _ => 40) (fun e t => let x := sourceOf t (e.field 0 1)
      [(0, 8, x.detections), (8, 4, x.commits), (12, 4, x.overflow), (16, 4, x.whileMasked), (20, 4, x.through), (24, 4, x.dropped), (28, 8, x.lastCommit / secUnit),
       (36, 4, x.lastCommit % secUnit / nsUnit)])

/-- TIME_CONFIGURE within its limits stores the settings, answers the previous source and enters Holdover on a change of it; TIME_SET of a
clock that is not Locked steps it, answers the step and writes the Lull clock, and of a Locked one is TIME_LOCKED (0x0B10). On a module that
is not a Standby, SOURCE_CONFIGURE of a source without a task stores its configuration with its counts cleared and cancels its triggers,
SOURCE_MASK masks and unmasks the sources named and answers the previous masks, and ACTIVATION_HOLD holds, or ends a hold and answers the
tasks activated. ACTIVATION_TRIGGER of a source of origin 7 is a detection and answers the counter. The statuses 0x0C10 to 0x0C13 are
answered where the table says. -/
def Obligations.TimeAndActivationAreCommanded : Prop :=
  Answers .timeConfigure (roleOnly maintainer) 0x0B02 (fun e _ => e.payload.length = 16 && e.field 0 1 ≤ 3 && e.field 1 1 ≤ 127 && decide (-4 ≤ e.fieldInt 5 1) && decide (e.fieldInt 5 1 ≤ 0) && 100 ≤ e.field 8 4 && e.field 8 4 ≤ 100000 &&
      10000 ≤ e.field 12 4 && e.field 12 4 ≤ 1000000000 && e.clear [(6, 2)])
    (fun e t => let u := modClock (fun c => { c with
        source := e.field 0 1, etbDomain := e.field 1 1, etbPriority1 := e.field 2 1, etbPriority2 := e.field 3 1, ecnPriority1 := e.field 4 1, logSync := e.fieldInt 5 1,
        lockThreshold := e.field 8 4, stepThreshold := e.field 12 4 }) t
      answers (le 1 t.clock.source) (if t.clock.source = e.field 0 1 then u else enterHoldover u)) ∧
  Answers .timeSet (roleOnly maintainer) 0x0B03 (fun e t => e.payload.length = 12 && e.field 8 4 < 1000000000 && decide (-2 ^ 63 ≤ (toNs (ofTai (e.field 0 8) (e.field 8 4)) : Int) - toNs (localNow t)) &&
      decide ((toNs (ofTai (e.field 0 8) (e.field 8 4)) : Int) - toNs (localNow t) < 2 ^ 63))
    (fun e t => let new := ofTai (e.field 0 8) (e.field 8 4)
      if t.clock.state = .locked then fails 0x0B10 t
      else
        let u := stepClock new 0 0 e.issuer t
        answers (leInt 8 ((toNs new : Int) - toNs (localNow t))) (setLull (localSeconds u) u)) ∧
  Answers .sourceConfigure (roleOnly maintainer) 0x0C02 (fun e t => e.payload.length = 8 && e.field 0 1 < 128 && originIndexOk (e.field 1 1) (e.field 2 2) && e.field 4 1 ≤ 4 && 1 ≤ e.field 5 1 && e.field 5 1 ≤ 16 && e.field 6 1 ≤ 1 && e.field 7 1 = 0 &&
      t.pair.role != .standby)
    (fun e t => let n := e.field 0 1
      if (boundTask t n).isSome then fails 0x0C10 t
      else if pulseOrigin (e.field 1 1) && e.field 4 1 != 2 then fails 0x0C13 t
      else
        let u := modSource n (fun x => { x with
          origin := e.field 1 1, index := e.field 2 2, sense := e.field 4 1, priority := e.field 5 1, initialMask := hasBit (e.field 6 1) 0, counter := 0, commitTime := none,
          started := none, waiting := none, pulses := 0, previous := false }) (cancelTriggers n e.id t)
        answers (le 1 (sourceOf t n).origin) (forwardSettings e u)) ∧
  Answers .sourceMask (roleOrLanes maintainer) 0x0C03 (fun e t => e.payload.length = 32 && e.field 0 16 &&& e.field 16 16 = 0 && t.pair.role != .standby)
    (fun e t => let u := ((List.range 128).filter (hasBit (e.field 0 16))).foldl (fun t n => maskSource n t) t
      let u := ((List.range 128).filter (hasBit (e.field 16 16))).foldl (fun t n => unmaskSource n t) u
      answers (le 16 (sourceMask t)) (forwardSettings e u)) ∧
  Answers .activationHold (roleOrLanes maintainer) 0x0C04 (fun e t => e.payload.length = 8 && (e.field 0 1 = 1 && e.field 4 4 ≤ 60000 || e.field 0 1 = 2) && t.pair.role != .standby && e.clear [(1, 3)])
    (fun e t => if e.field 0 1 = 1 then
        answers (le 1 0) (forwardSettings e (withholdEvents (modAct (fun a => { a with hold := some (if e.field 4 4 = 0 then none else some (t.time + milli (e.field 4 4))) }) t)))
      else if t.act.hold.isNone then fails 0x0C12 t
      else answers (le 1 (endHold t).1) (forwardSettings e (endHold t).2)) ∧
  Answers .activationTrigger (roleOrLanes maintainer) 0x0C05 (fun e _ => e.payload.length = 1 && e.field 0 1 < 128)
    (fun e t => if (sourceOf t (e.field 0 1)).origin != 7 then fails 0x0C11 t
      else
        let u := modSource (e.field 0 1) (fun x => x.detect (gfCount t)) t
        answers (le 1 (sourceOf u (e.field 0 1)).counter) u)

/-- RECORDER_STATUS answers 84 bytes: freeze, its remaining time and issuer, slots, bad slots, oldest, newest, floor and erase of each ring,
buffer use, the three token counts, ticket and lost records. RECORDER_COUNTERS answers the counters of both rings, the first 64 suppressions
and one for all further ones, and the records lost. RECORDER_READ answers the records of a ring from a sequence on, all or those of a class,
at most the count asked for, and refuses the Juridical ring to a session without one of its three roles. UPDATE_STATUS answers the axis, the
running slot, both slots, the schedule, trials, outcome, floors and the groups' schema versions (the versions of components and schemas are
free, log entry 3). TEST_STATUS answers the Test axis, gate, entry, limit, Squall registers, perturbations and the self-tests. Nothing else
changes. -/
def Obligations.RecorderUpdateAndTestReportsGiveWhatTheTablesList : Prop :=
  Reports .recorderStatus anyOrLanes 0x0D01 (fun e _ => e.payload.length = 0)
    (fun _ _ => 84) (fun _ t => let r := t.recorder
      let f := r.freeze.filter fun f => f.since.isSome
      [(0, 1, bit f.isSome), (1, 4, ((f.bind FreezeSt.since).map fun u => (u + second 60 - t.time) / milli 1).getD 0), (5, 4, (f.map FreezeSt.issuer).getD 0),
       (9, 4, ringSlots .general), (13, 2, r.general.bad.length), (15, 8, r.general.oldest), (23, 8, r.general.newest), (31, 8, r.general.floor), (39, 1, bit !r.general.eraseLeft.isEmpty),
       (40, 4, ringSlots .juridical), (44, 2, r.juridical.bad.length), (46, 8, r.juridical.oldest), (54, 8, r.juridical.newest), (62, 8, r.juridical.floor),
       (70, 1, bit !r.juridical.eraseLeft.isEmpty), (71, 2, r.buffer.length), (73, 2, r.bucketGeneral.tokens 200 4096 t.time), (75, 2, r.bucketReel.tokens 50 1024 t.time),
       (77, 2, r.bucketJuridical.tokens 20 512 t.time), (79, 1, bit r.ticket.isSome), (80, 4, r.lostLast)]) ∧
  Answers .recorderRead { session := true } 0x0D02 (fun e _ => e.payload.length = 14 && e.field 0 1 ≤ 1 && e.clear [(1, 1)])
    (fun e t => let g : Ring := if e.field 0 1 = 0 then .general else .juridical
      if g = .juridical && !anyRole e.roles (maintainer + safety + owner) then fails stDenied t
      else if e.field 12 2 = 0 || 256 < e.field 12 2 then fails stBadArgument t
      else
        let r := ringOf t.recorder g
        let start := max (e.field 4 8) r.oldest
        let found := (r.records.filter fun b => start ≤ seqOf b && (e.field 2 2 = 0 || Bytes.field b 0x14 2 = e.field 2 2)).take (e.field 12 2)
        answers (le 8 r.oldest ++ le 8 r.newest ++ le 2 found.length ++ le 8 ((found.getLast?.map (seqOf · + 1)).getD start) ++ found.flatten) t) ∧
  Answers .recorderCounters anyOrLanes 0x0D07 (fun e _ => e.payload.length = 0)
    (fun _ t => let g := t.recorder.general
      let j := t.recorder.juridical
      let pairs := g.suppressions ++ j.suppressions
      let rest := ((pairs.drop 64).map Suppression.count).sum + g.further + j.further
      let shown := pairs.take 64 ++ if rest = 0 then [] else [⟨0, 0, rest⟩]
      answers (le 8 g.accepted ++ le 8 g.written ++ le 4 g.suppressed ++ le 4 g.overflowed ++ le 4 g.failures ++
        (le 8 j.accepted ++ le 8 j.written ++ le 4 j.suppressed ++ le 4 j.overflowed ++ le 4 j.failures) ++ suppressionBytes shown ++ le 4 t.recorder.lostTotal) t) ∧
  Answers .updateStatus anyOrLanes 0x0E01 (fun e _ => e.payload.length = 0)
    (fun _ t => let u := t.update
      let version (n c : Nat) : Nat := if slotState t n = 0 then 0 else componentVersion t n c
      let slot (n : Nat) : Bytes := le 1 (slotState t n) ++ le 4 (setOf t n).release ++ [0, 1, 2, 3, 4].flatMap (fun c => le 4 (version n c)) ++
        le 1 (setOf t n).slipstream ++ le 1 (setOf t n).mailbox ++ le 1 (setOf t n).settings ++ le 4 (setOf t n).kpc
      let groups (n : Nat) : Bytes := ((Config.schemaGroups (componentDigest t n 4)).take 16).flatMap (le 4)
      let floor (c : Nat) : Nat := floorOf t (c + 1) (componentSigner t t.module.firmwareSlot c)
      answers (le 1 u.axis ++ le 1 t.module.firmwareSlot ++ slot 0 ++ slot 1 ++ le 8 (u.schedule / secUnit) ++ le 1 u.trialCount ++ le 2 u.outcome ++
        le 8 u.outcomeTai ++ [0, 1, 2, 3, 4].flatMap (fun c => le 4 (floor c)) ++ groups t.module.firmwareSlot ++
        if isStaged t then groups (spareSlot t) else []) t) ∧
  Reports .testStatus anyOrLanes 0x0F01 (fun e _ => e.payload.length = 0)
    (fun _ _ => 219) (fun _ t => let x := t.test
      [(0, 1, bit x.squall), (1, 1, squallGate t), (2, 32, if x.squall then Bytes.field (padTo 32 x.credential) 0 32 else 0), (34, 8, if x.squall then x.entry else 0), (42, 4, if x.squall then (x.ends - t.time) / second 1 else 0), (46, 4, x.mbxDelay.toNat),
       (50, 4, x.bpPorts.toNat), (54, 4, x.backpressure.toNat), (58, 4, x.jitter.toNat), (62, 4, x.slipLatency.toNat), (66, 4, x.corrupt.toNat), (70, 4, x.seed.toNat),
       (74, 4, cap32 x.applied), (78, 4, cap32 x.held), (218, 1, x.requested.length + bit t.voter.testQueued)] ++
      (List.range 8).flatMap fun n => [(82 + 17 * n, 4, cap32 (selfTest t n).rounds), (86 + 17 * n, 4, cap32 (selfTest t n).failures), (90 + 17 * n, 1, bit (selfTest t n).starved),
        (91 + 17 * n, 8, (selfTest t n).lastRound)])

/-- RECORDER_FREEZE makes the freeze records and goes on until both are written; during a freeze it is RECORDER_FROZEN (0x0D10) and during a
supply failure REFUSED_STATE. RECORDER_RELEASE ends a freeze and goes on, committed, and without one is RECORDER_NOT_FROZEN (0x0D11).
Outside Maintenance a clear is REFUSED_STATE; in it, with the Owner lock clear and no freeze, RECORDER_CLEAR_REQUEST of a sequence that is
not above the newest issues the one ticket, valid for 300 s, with a number drawn from free values (log entry 2), and answers number and
expiry; with a ticket outstanding it is RECORDER_TICKET, above the newest RECORDER_RANGE. RECORDER_CLEAR_CONFIRM of the ticket by another
issuer who completes Maintainer and Owner clears the ring; any other is RECORDER_TICKET (0x0D12). -/
def Obligations.RecorderIsFrozenReleasedAndClearedAsItsTableSays : Prop :=
  Answers .recorderFreeze (roleOnly (maintainer + owner)) 0x0D03 (fun e _ => e.payload.length = 0)
    (fun e t => if freezeHeld t then fails 0x0D10 t
      else if t.module.supplyLostAt.isSome then fails stRefused t
      else
        let u := recorderEvent 1 [] [] t
        (modRecorder (fun r => { r with freeze := some ⟨r.general.last, r.juridical.last, none, e.issuer, e.id⟩ }) u, .goesOn .under false)) ∧
  Answers .recorderRelease (roleOnly (maintainer + owner)) 0x0D04 (fun e _ => e.payload.length = 0)
    (fun e t => if frozen t then (endFreeze 1 (some e.id) t, .goesOn .under true) else fails 0x0D11 t) ∧
  Answers .recorderClearRequest (roleOnly (maintainer + owner)) 0x0D05 (fun e _ => e.payload.length = 16 && e.field 0 1 ≤ 1 && e.clear [(1, 7)])
    (fun e t => let g : Ring := if e.field 0 1 = 0 then .general else .juridical
      if t.module.state != .maintenance then fails stRefused t
      else if t.trust.ownerLock then fails 0x0212 t
      else if freezeHeld t then fails 0x0D10 t
      else if t.recorder.ticket.isSome then fails 0x0D12 t
      else if (ringOf t.recorder g).newest < e.field 8 8 then fails 0x0D13 t
      else
        let number := drawn t % 2 ^ 32
        let k : ClearTicket := ⟨number, g, e.field 8 8, e.issuer, e.roles, issuerName t e.issuer, t.time + second 300⟩
        answers (le 4 number ++ le 8 (clockAt t.clock (t.time + second 300) / secUnit)) (modRecorder (fun r => { r with ticket := some k }) (afterDraw t))) ∧
  Answers .recorderClearConfirm (roleOnly (maintainer + owner)) 0x0D06 (fun e t => e.payload.length = 4 && t.module.state = .maintenance && !t.trust.ownerLock && !freezeHeld t)
    (fun e t => match t.recorder.ticket.filter fun k => k.number = e.field 0 4 && k.issuer != e.issuer && anyRole (k.roles ||| e.roles) maintainer && anyRole (k.roles ||| e.roles) owner with
      | some k => (clearRing k (issuerName t e.issuer) e.id t, .goesOn .under true)
      | none => fails 0x0D12 t)

/-- UPDATE_STAGE of a chunk in order holds the flash programmer, or waits for it; UPDATE_SCHEDULE of a staged set for an instant from 60 s
to 30 days ahead by a set clock sets the schedule and answers ACCEPTED with the previous one; UPDATE_CANCEL removes it and may empty the
staged slot; each is refused while an update activates (0x0E18), and the latter two with nothing staged (0x0E11). TEST_ENTER within the gate
of R521 sets Test to Squall with the seed asked for or a free one (log entry 2), records it and answers the seed; TEST_EXIT ends it and
answers the perturbations; SQUALL_SET by the entering session writes the Squall registers. SELF_TEST_RUN queues a round of each named test
and goes on until it ends, defers the comparator outside its states, and completes at once where no test is named. -/
def Obligations.UpdateTestAndSelfTestCommandsActAsTheirTablesSay : Prop :=
  Answers .updateStage (roleOnly maintainer) 0x0E02 (fun e t => 17 ≤ e.payload.length && e.field 0 8 ≤ 0x1000 + 2 ^ 27 && e.payload.length - 16 ≤ 1048000 && e.field 8 8 + (e.payload.length - 16) ≤ e.field 0 8 &&
      (e.field 8 8 = 0 || t.update.load.any fun l => l.1 = e.field 0 8 && l.2.length = e.field 8 8))
    (fun e t => if t.mbx.queue.any fun q => q.id != e.id && (q.phase = .holds .flash || q.phase = .waits .flash && e.phase != .waits .flash) then (t, .goesOn (.waits .flash) false)
      else if t.update.axis = 2 then fails 0x0E18 t
      else (t, .goesOn (.holds .flash) false)) ∧
  Answers .updateSchedule (roleOnly maintainer) 0x0E03 (fun e _ => e.payload.length = 12 && e.field 8 4 < 1000000000)
    (fun e t => let at_ := ofTai (e.field 0 8) (e.field 8 4)
      if t.update.axis = 2 then fails 0x0E18 t
      else if slotState t (spareSlot t) != 1 then fails 0x0E11 t
      else if t.clock.state = .unset || at_ < localNow t + 60 * secUnit || localNow t + 30 * 86400 * secUnit < at_ then fails 0x0E12 t
      else if t.pair.enabled && changesSlipstream t && !partnerHolds t then fails 0x0E16 t
      else if t.trust.ownerLock then fails 0x0212 t
      else (forwardSchedule (modUpdate (fun u => { u with schedule := at_ }) (unschedule t)), .done stAccepted (le 8 (t.update.schedule / secUnit)))) ∧
  Answers .updateCancel (roleOnly maintainer) 0x0E04 (fun e _ => e.payload.length = 1 && e.field 0 1 ≤ 1)
    (fun e t => if t.update.axis = 2 then fails 0x0E18 t
      else if slotState t (spareSlot t) != 1 then fails 0x0E11 t
      else if e.field 0 1 = 1 then
        let u := unschedule t
        answers [] (forwardSchedule (setAxis 0 (setSlotState (spareSlot u) 0 (modSet (spareSlot u) (fun _ => {}) u))))
      else answers [] (forwardSchedule (unschedule t))) ∧
  Answers .testEnter (roleOnly maintainer) 0x0F02 (fun e _ => e.payload.length = 8 && (e.field 0 4 = 0 || 60 ≤ e.field 0 4 && e.field 0 4 ≤ 28800))
    (fun e t => if !t.module.testEn || !standstill t then fails 0x0F10 t
      else if t.trust.ownerLock then fails 0x0212 t
      else if t.pair.role = .active || !(t.module.state = .service || t.module.state = .maintenance) || t.update.axis = 2 || t.test.squall then fails stRefused t
      else
        let seed := if e.field 4 4 = 0 then drawn t % 2 ^ 32 else e.field 4 4
        let u := if e.field 4 4 = 0 then afterDraw t else t
        let name := issuerName u e.issuer
        let u := modTest (fun x => { x with
          squall := true, session := e.session, credential := name, entry := localSeconds u, ends := u.time + second (if e.field 0 4 = 0 then 3600 else e.field 0 4),
          seed := BitVec.ofNat 32 seed, x := BitVec.ofNat 32 seed, applied := 0, held := 0 }) u
        answers (le 4 seed) (record .juridical 0x12 0 (padTo 32 name ++ le 1 0 ++ le 1 0) u)) ∧
  Answers .testExit (roleOnly maintainer) 0x0F03 (fun e _ => e.payload.length = 0)
    (fun _ t => if t.test.squall then answers (le 4 (cap32 t.test.applied)) (testOff 1 t) else fails 0x0F11 t) ∧
  Answers .squallSet (roleOnly maintainer) 0x0F04 (fun e _ => e.payload.length = 24 && e.field 0 4 < 2 ^ 18 && e.field 4 4 < 2 ^ 28 && e.field 12 4 < 2 ^ 16 && e.field 16 4 < 2 ^ 18 && e.field 20 4 &&& 0x7CC0FF00 = 0 && e.field 0 2 ≤ 50000 && (e.field 8 4 = 0 || 10 ≤ e.field 10 2 && e.field 8 2 ≤ e.field 10 2) && e.field 12 4 / 4 % 2 ^ 14 ≤ 1000 && e.field 16 2 ≤ 20000 &&
      e.field 23 1 % 4 < 3)
    (fun e t => if !t.test.squall then fails 0x0F11 t
      else if t.test.session != e.session then fails 0x0F12 t
      else answers [] (modTest (fun x => { x with
        mbxDelay := BitVec.ofNat 32 (e.field 0 4 &&& 0x3FFFF), bpPorts := BitVec.ofNat 32 (e.field 4 4 &&& 0xFFFFFFF), backpressure := BitVec.ofNat 32 (e.field 8 4 &&& 0xFFFFFFFF),
        jitter := BitVec.ofNat 32 (e.field 12 4 &&& 0xFFFF), slipLatency := BitVec.ofNat 32 (e.field 16 4 &&& 0x3FFFF),
        corrupt := BitVec.ofNat 32 (e.field 20 4 &&& (if e.field 20 1 = 0 then 0x033F00FF else 0x833F00FF)) }) t)) ∧
  Answers .selfTestRun (roleOnly maintainer) 0x0F05 (fun e _ => e.payload.length = 1)
    (fun e t => let named := (List.range 8).filter fun n => hasBit (e.field 0 1) n
      if named = [] then answers (le 1 0 ++ le 2 0) t
      else if named.contains 0 && !comparatorState t then
        (modVoter (fun v => { v with testQueued := true }) (modTest (fun x => { x with requested := x.requested ++ (named.filter (· != 0)).map fun n => (n, none) }) t), .done stDeferred (le 1 0 ++ le 2 0))
      else
        (modTest (fun x => { x with running := x.running ++ [(e.id, 0, 0)] }) (modTest (fun x => { x with requested := x.requested ++ named.map fun n => (n, some e.id) }) t), .goesOn .under false))

/-- On every lane that runs a take, ADD, SUB, MUL, NEG and ABS write the exact integer result modulo 2 to the width of T, so that NEG and
ABS of the most negative value return it; DIV truncates toward zero and MOD takes the sign of the dividend, with A = (A DIV B) x B + (A MOD
B); a zero divisor gives 0 for both and sets ARITH (bit 0 of the fault word); the most negative value by -1 gives it for DIV and 0 for MOD,
and sets ARITH; a shift count of the width or more gives 0 for SHL and a logical SHR and copies of the sign bit for an arithmetic SHR, and a
smaller count shifts. Each also moves past its word and changes nothing else. -/
def Obligations.IntegerArithmeticWrapsAndDividesAsR169Says : Prop :=
  (∀ (l : Lane) (t : MType) (r : Regs), t.isInt = true → Writes l (.kAdd l t r) 1 r.d fun f => (((integer f t r.a + integer f t r.b) % 2 ^ t.bits).toNat, 0)) ∧
  (∀ (l : Lane) (t : MType) (r : Regs), t.isInt = true → Writes l (.kSub l t r) 1 r.d fun f => (((integer f t r.a - integer f t r.b) % 2 ^ t.bits).toNat, 0)) ∧
  (∀ (l : Lane) (t : MType) (r : Regs), t.isInt = true → Writes l (.kMul l t r) 1 r.d fun f => (((integer f t r.a * integer f t r.b) % 2 ^ t.bits).toNat, 0)) ∧
  (∀ (l : Lane) (t : MType) (r : Regs), t.isSigned = true → Writes l (.kNeg l t r) 1 r.d fun f => ((-integer f t r.a % 2 ^ t.bits).toNat, 0)) ∧
  (∀ (l : Lane) (t : MType) (r : Regs), t.isSigned = true → Writes l (.kAbs l t r) 1 r.d fun f => ((((integer f t r.a).natAbs : Int) % 2 ^ t.bits).toNat, 0)) ∧
  (∀ (t : MType) (f : Frame) (n : Nat), t.isSigned = true → integer f t n = -2 ^ (t.bits - 1) →
    (-integer f t n % 2 ^ t.bits).toNat = operand f t n ∧ (((integer f t n).natAbs : Int) % 2 ^ t.bits).toNat = operand f t n) ∧
  (∀ (l : Lane) (t : MType) (r : Regs), t.isInt = true → Writes l (.kDiv l t r) 1 r.d fun f => 
      if integer f t r.b = 0 then (0, 1) else if t.isSigned ∧ integer f t r.a = -2 ^ (t.bits - 1) ∧ integer f t r.b = -1 then ((-2 ^ (t.bits - 1) % 2 ^ t.bits : Int).toNat, 1)
      else (((integer f t r.a).tdiv (integer f t r.b) % 2 ^ t.bits).toNat, 0)) ∧
  (∀ (l : Lane) (t : MType) (r : Regs), t.isInt = true → Writes l (.kMod l t r) 1 r.d fun f => 
      if integer f t r.b = 0 then (0, 1) else if t.isSigned ∧ integer f t r.a = -2 ^ (t.bits - 1) ∧ integer f t r.b = -1 then (0, 1) else (((integer f t r.a).tmod (integer f t r.b) % 2 ^ t.bits).toNat, 0)) ∧
  (∀ (f : Frame) (t : MType) (a b : Nat), integer f t a = (integer f t a).tdiv (integer f t b) * integer f t b + (integer f t a).tmod (integer f t b)) ∧
  (∀ (l : Lane) (t c : MType) (r : Regs), t.isInt = true → c.isInt = true → Writes l (.kShl l t c r) 1 r.d fun f => if t.bits ≤ operand f c r.b then (0, 0) else (operand f t r.a * 2 ^ operand f c r.b % 2 ^ t.bits, 0)) ∧
  (∀ (l : Lane) (t c : MType) (r : Regs), t.isInt = true → c.isInt = true → Writes l (.kShr l t c r) 1 r.d fun f => 
      if t.bits ≤ operand f c r.b then (if t.isSigned ∧ integer f t r.a < 0 then 2 ^ t.bits - 1 else 0, 0) else ((integer f t r.a / 2 ^ operand f c r.b % 2 ^ t.bits).toNat, 0))

/-- On every lane that runs a take, NOP only moves on; CONST writes the low bits of its word, MOV its operand bit for bit, SEL one of two
operands by a BOOL; AND, OR, XOR and NOT work at the width of T, 1 for B; ROL and ROR rotate by the count modulo the width; MIN and MAX of
integers give the lesser and the greater; EQ to GE of integers and of B compare the integers and write 0 or 1; CVT between integers, to B
and from B keeps the low bits of the extended source, and to B gives whether it is not zero; BITS passes every pattern that is no NaN. Each
moves past its words and changes nothing else; none sets a fault bit. CONST of bits above the width of T, which check 9 excludes, is refused
as ill-typed. -/
def Obligations.BitsComparisonsAndMovesGiveTable510 : Prop :=
  (∀ l : Lane, Steps l (.kNop l) (fun _ _ _ => True) (fun _ t _ => t) (fun _ _ f rest => past f 1 :: rest)) ∧
  (∀ (l : Lane) (t : MType) (d : Nat) (v : Word64), v.toNat < 2 ^ t.width → Writes l (.kConst l t d v) 2 d fun _ => (v.toNat, 0)) ∧
  (∀ (l : Lane) (t : MType) (d : Nat) (v : Word64) (s : State), 2 ^ t.width ≤ v.toNat → exec (.kConst l t d v) s = .refused .kpcIllTyped) ∧
  (∀ (l : Lane) (t : MType) (r : Regs), Writes l (.kMov l t r) 1 r.d fun f => (operand f t r.a, 0)) ∧
  (∀ (l : Lane) (t : MType) (r : Regs) (c : Nat), Writes l (.kSel l t r c) 2 r.d fun f => (if operand f .bool c = 1 then operand f t r.a else operand f t r.b, 0)) ∧
  (∀ (l : Lane) (t : MType) (r : Regs), (t.isInt || t == .bool) = true → Writes l (.kAnd l t r) 1 r.d fun f => (operand f t r.a &&& operand f t r.b, 0)) ∧
  (∀ (l : Lane) (t : MType) (r : Regs), (t.isInt || t == .bool) = true → Writes l (.kOr l t r) 1 r.d fun f => (operand f t r.a ||| operand f t r.b, 0)) ∧
  (∀ (l : Lane) (t : MType) (r : Regs), (t.isInt || t == .bool) = true → Writes l (.kXor l t r) 1 r.d fun f => (operand f t r.a ^^^ operand f t r.b, 0)) ∧
  (∀ (l : Lane) (t : MType) (r : Regs), (t.isInt || t == .bool) = true → Writes l (.kNot l t r) 1 r.d fun f => ((if t = .bool then 1 else 2 ^ t.bits - 1) - operand f t r.a, 0)) ∧
  (∀ (l : Lane) (t c : MType) (r : Regs), t.isInt = true → c.isInt = true → Writes l (.kRol l t c r) 1 r.d fun f => 
      let k := operand f c r.b % t.bits
      ((operand f t r.a * 2 ^ k + operand f t r.a / 2 ^ (t.bits - k)) % 2 ^ t.bits, 0)) ∧
  (∀ (l : Lane) (t c : MType) (r : Regs), t.isInt = true → c.isInt = true → Writes l (.kRor l t c r) 1 r.d fun f => 
      let k := operand f c r.b % t.bits
      ((operand f t r.a / 2 ^ k + operand f t r.a * 2 ^ (t.bits - k)) % 2 ^ t.bits, 0)) ∧
  (∀ (l : Lane) (t : MType) (r : Regs), t.isInt = true → Writes l (.kMin l t r) 1 r.d fun f => (((min (integer f t r.a) (integer f t r.b)) % 2 ^ t.bits).toNat, 0)) ∧
  (∀ (l : Lane) (t : MType) (r : Regs), t.isInt = true → Writes l (.kMax l t r) 1 r.d fun f => (((max (integer f t r.a) (integer f t r.b)) % 2 ^ t.bits).toNat, 0)) ∧
  (∀ (l : Lane) (t : MType) (r : Regs), t.isFloat = false → Writes l (.kEq l t r) 1 r.d fun f => (bit (integer f t r.a = integer f t r.b), 0)) ∧
  (∀ (l : Lane) (t : MType) (r : Regs), t.isFloat = false → Writes l (.kNe l t r) 1 r.d fun f => (bit (integer f t r.a ≠ integer f t r.b), 0)) ∧
  (∀ (l : Lane) (t : MType) (r : Regs), t.isInt = true → Writes l (.kLt l t r) 1 r.d fun f => (bit (integer f t r.a < integer f t r.b), 0)) ∧
  (∀ (l : Lane) (t : MType) (r : Regs), t.isInt = true → Writes l (.kLe l t r) 1 r.d fun f => (bit (integer f t r.a ≤ integer f t r.b), 0)) ∧
  (∀ (l : Lane) (t : MType) (r : Regs), t.isInt = true → Writes l (.kGt l t r) 1 r.d fun f => (bit (integer f t r.a > integer f t r.b), 0)) ∧
  (∀ (l : Lane) (t : MType) (r : Regs), t.isInt = true → Writes l (.kGe l t r) 1 r.d fun f => (bit (integer f t r.a ≥ integer f t r.b), 0)) ∧
  (∀ (l : Lane) (t c : MType) (r : Regs), c.isFloat = false ∧ t.isFloat = false → Writes l (.kCvt l t c r) 1 r.d fun f => (if t = .bool then bit (operand f c r.a ≠ 0) else (integer f c r.a % 2 ^ t.bits).toNat, 0)) ∧
  (∀ (l : Lane) (t c : MType) (r : Regs), bitsPair t c = true → Writes l (.kBits l t c r) 1 r.d fun f => (let g := if t.isFloat then fmt t else fmt c; if g.isNan (operand f c r.a) then g.nan else operand f c r.a, 0))

/-- On every lane that runs a take, each float instruction writes the result of its format (binary32 for F32, binary64 for F64), sets no
fault bit but for a conversion to an integer, moves past its words and changes nothing else: ADD to MAX, FMA, SQRT, SIN to EXPT, FLOOR, CEIL
and RINT, and EQ to GE by the comparison of the format, where a NaN is unordered. CVT rounds an integer or a float to nearest; TRUNC, ROUND
and CVT to an integer saturate and set ARITH out of range or for a NaN. Any NaN operand gives the canonical NaN in ADD to MAX, NEG, ABS and
SQRT, and no order in a comparison. A TRUNC or ROUND of other types is refused as ill-typed. -/
def Obligations.FloatInstructionsGiveTheirFormatsResult : Prop :=
  (∀ (l : Lane) (t : MType) (r : Regs), t.isFloat = true → Writes l (.kAdd l t r) 1 r.d fun f => ((fmt t).add (operand f t r.a) (operand f t r.b), 0)) ∧
  (∀ (l : Lane) (t : MType) (r : Regs), t.isFloat = true → Writes l (.kSub l t r) 1 r.d fun f => ((fmt t).sub (operand f t r.a) (operand f t r.b), 0)) ∧
  (∀ (l : Lane) (t : MType) (r : Regs), t.isFloat = true → Writes l (.kMul l t r) 1 r.d fun f => ((fmt t).mul (operand f t r.a) (operand f t r.b), 0)) ∧
  (∀ (l : Lane) (t : MType) (r : Regs), t.isFloat = true → Writes l (.kDiv l t r) 1 r.d fun f => ((fmt t).div (operand f t r.a) (operand f t r.b), 0)) ∧
  (∀ (l : Lane) (t : MType) (r : Regs), t.isFloat = true → Writes l (.kMin l t r) 1 r.d fun f => ((fmt t).min (operand f t r.a) (operand f t r.b), 0)) ∧
  (∀ (l : Lane) (t : MType) (r : Regs), t.isFloat = true → Writes l (.kMax l t r) 1 r.d fun f => ((fmt t).max (operand f t r.a) (operand f t r.b), 0)) ∧
  (∀ (l : Lane) (t : MType) (r : Regs), t.isFloat = true → Writes l (.kNeg l t r) 1 r.d fun f => ((fmt t).neg (operand f t r.a), 0)) ∧
  (∀ (l : Lane) (t : MType) (r : Regs), t.isFloat = true → Writes l (.kAbs l t r) 1 r.d fun f => ((fmt t).abs (operand f t r.a), 0)) ∧
  (∀ (l : Lane) (t : MType) (r : Regs), t.isFloat = true → Writes l (.kSqrt l t r) 1 r.d fun f => ((fmt t).sqrt (operand f t r.a), 0)) ∧
  (∀ (l : Lane) (t : MType) (r : Regs), t.isFloat = true → Writes l (.kSin l t r) 1 r.d fun f => ((fmt t).sin (operand f t r.a), 0)) ∧
  (∀ (l : Lane) (t : MType) (r : Regs), t.isFloat = true → Writes l (.kCos l t r) 1 r.d fun f => ((fmt t).cos (operand f t r.a), 0)) ∧
  (∀ (l : Lane) (t : MType) (r : Regs), t.isFloat = true → Writes l (.kTan l t r) 1 r.d fun f => ((fmt t).tan (operand f t r.a), 0)) ∧
  (∀ (l : Lane) (t : MType) (r : Regs), t.isFloat = true → Writes l (.kAsin l t r) 1 r.d fun f => ((fmt t).asin (operand f t r.a), 0)) ∧
  (∀ (l : Lane) (t : MType) (r : Regs), t.isFloat = true → Writes l (.kAcos l t r) 1 r.d fun f => ((fmt t).acos (operand f t r.a), 0)) ∧
  (∀ (l : Lane) (t : MType) (r : Regs), t.isFloat = true → Writes l (.kAtan l t r) 1 r.d fun f => ((fmt t).atan (operand f t r.a), 0)) ∧
  (∀ (l : Lane) (t : MType) (r : Regs), t.isFloat = true → Writes l (.kExp l t r) 1 r.d fun f => ((fmt t).exp (operand f t r.a), 0)) ∧
  (∀ (l : Lane) (t : MType) (r : Regs), t.isFloat = true → Writes l (.kLn l t r) 1 r.d fun f => ((fmt t).ln (operand f t r.a), 0)) ∧
  (∀ (l : Lane) (t : MType) (r : Regs), t.isFloat = true → Writes l (.kLog10 l t r) 1 r.d fun f => ((fmt t).log10 (operand f t r.a), 0)) ∧
  (∀ (l : Lane) (t : MType) (r : Regs), t.isFloat = true → Writes l (.kFloor l t r) 1 r.d fun f => ((fmt t).integral .down (operand f t r.a), 0)) ∧
  (∀ (l : Lane) (t : MType) (r : Regs), t.isFloat = true → Writes l (.kCeil l t r) 1 r.d fun f => ((fmt t).integral .up (operand f t r.a), 0)) ∧
  (∀ (l : Lane) (t : MType) (r : Regs), t.isFloat = true → Writes l (.kRint l t r) 1 r.d fun f => ((fmt t).integral .nearest (operand f t r.a), 0)) ∧
  (∀ (l : Lane) (t : MType) (r : Regs), t.isFloat = true → Writes l (.kAtan2 l t r) 1 r.d fun f => ((fmt t).atan2 (operand f t r.a) (operand f t r.b), 0)) ∧
  (∀ (l : Lane) (t : MType) (r : Regs), t.isFloat = true → Writes l (.kExpt l t r) 1 r.d fun f => ((fmt t).expt (operand f t r.a) (operand f t r.b), 0)) ∧
  (∀ (l : Lane) (t : MType) (r : Regs) (c : Nat), t.isFloat = true → Writes l (.kFma l t r c) 2 r.d fun f => ((fmt t).fma (operand f t r.a) (operand f t r.b) (operand f t c), 0)) ∧
  (∀ (l : Lane) (t : MType) (r : Regs), t.isFloat = true → Writes l (.kEq l t r) 1 r.d fun f => (let o := (fmt t).compare (operand f t r.a) (operand f t r.b); bit (o == some .eq), 0)) ∧
  (∀ (l : Lane) (t : MType) (r : Regs), t.isFloat = true → Writes l (.kNe l t r) 1 r.d fun f => (let o := (fmt t).compare (operand f t r.a) (operand f t r.b); bit (o != some .eq), 0)) ∧
  (∀ (l : Lane) (t : MType) (r : Regs), t.isFloat = true → Writes l (.kLt l t r) 1 r.d fun f => (let o := (fmt t).compare (operand f t r.a) (operand f t r.b); bit (o == some .lt), 0)) ∧
  (∀ (l : Lane) (t : MType) (r : Regs), t.isFloat = true → Writes l (.kLe l t r) 1 r.d fun f => (let o := (fmt t).compare (operand f t r.a) (operand f t r.b); bit (o == some .lt || o == some .eq), 0)) ∧
  (∀ (l : Lane) (t : MType) (r : Regs), t.isFloat = true → Writes l (.kGt l t r) 1 r.d fun f => (let o := (fmt t).compare (operand f t r.a) (operand f t r.b); bit (o == some .gt), 0)) ∧
  (∀ (l : Lane) (t : MType) (r : Regs), t.isFloat = true → Writes l (.kGe l t r) 1 r.d fun f => (let o := (fmt t).compare (operand f t r.a) (operand f t r.b); bit (o == some .gt || o == some .eq), 0)) ∧
  (∀ (l : Lane) (t c : MType) (r : Regs), t.isFloat = true ∧ c.isFloat = false → Writes l (.kCvt l t c r) 1 r.d fun f => ((fmt t).ofInt (integer f c r.a) 0 false, 0)) ∧
  (∀ (l : Lane) (t c : MType) (r : Regs), t.isFloat = true ∧ c.isFloat = true → Writes l (.kCvt l t c r) 1 r.d fun f => ((fmt c).convert (fmt t) (operand f c r.a), 0)) ∧
  (∀ (l : Lane) (t c : MType) (r : Regs), t = .bool ∧ c.isFloat = true → Writes l (.kCvt l t c r) 1 r.d fun f => (bit (!(fmt c).isZero (operand f c r.a)), 0)) ∧
  (∀ (l : Lane) (t c : MType) (r : Regs), t.isInt = true ∧ c.isFloat = true → Writes l (.kCvt l t c r) 1 r.d fun f => 
      let v := (fmt c).toInt .nearest t.least t.greatest (operand f c r.a)
      ((v.1 % 2 ^ t.bits).toNat, if v.2 then 1 else 0)) ∧
  (∀ (l : Lane) (t c : MType) (r : Regs), t.isInt = true ∧ c.isFloat = true → Writes l (.kTrunc l t c r) 1 r.d fun f => 
      let v := (fmt c).toInt .zero t.least t.greatest (operand f c r.a)
      ((v.1 % 2 ^ t.bits).toNat, if v.2 then 1 else 0)) ∧
  (∀ (l : Lane) (t c : MType) (r : Regs), t.isInt = true ∧ c.isFloat = true → Writes l (.kRound l t c r) 1 r.d fun f => 
      let v := (fmt c).toInt .nearest t.least t.greatest (operand f c r.a)
      ((v.1 % 2 ^ t.bits).toNat, if v.2 then 1 else 0)) ∧
  (∀ (l : Lane) (t c : MType) (r : Regs) (s : State), (t.isInt && c.isFloat) = false →
    exec (.kTrunc l t c r) s = .refused .kpcIllTyped ∧ exec (.kRound l t c r) s = .refused .kpcIllTyped) ∧
  (∀ (g : Fmt) (r : IntRound) (least greatest : Int) (a : Nat), least ≤ 0 → 0 ≤ greatest →
    least ≤ (g.toInt r least greatest a).1 ∧ (g.toInt r least greatest a).1 ≤ greatest) ∧
  (∀ (g : Fmt) (a b : Nat) (s : Bool), g.read a = .nan s →
    g.add a b = g.nan ∧ g.add b a = g.nan ∧ g.sub a b = g.nan ∧ g.sub b a = g.nan ∧ g.mul a b = g.nan ∧ g.mul b a = g.nan ∧ g.div a b = g.nan ∧
    g.div b a = g.nan ∧ g.min a b = g.nan ∧ g.min b a = g.nan ∧ g.max a b = g.nan ∧ g.max b a = g.nan ∧ g.neg a = g.nan ∧ g.abs a = g.nan ∧ g.sqrt a = g.nan ∧
    g.compare a b = none ∧ g.compare b a = none)

/-- On every lane that runs a take: with leaf c + i x s in the variable and of the type asked for, LD of a variable that the task owns or a
constant reads the leaf's bytes, and ST to a variable that the task owns without INPUT and CONSTANT overwrites them in that lane only; with
a leaf below 0 or at or past the leaf count LD gives 0 bits, ST has no effect, and BOUND is set. COPY of leaves that match pairwise replaces
each target leaf by the source leaf as it stood; a count of 0 copies nothing; a run that would leave either variable copies nothing and sets
BOUND. Each moves past its words and changes nothing else. An access to a symbol that the task may not load or store, which check 12
excludes, is refused as ill-typed. -/
def Obligations.MemoryInstructionsReachOnlyTheirVariables : Prop :=
  (∀ (l : Lane) (ty : MType) (r : Regs) (ref : LeafRef) (y : Symbol) (q : TaskRec) (x : Int) (s : State) (i : Image) (t : LaneTake) (f : Frame) (rest : List Frame), Runs l s i t f rest → i.symbols[ref.symbol]? = some y → taskRec i t.task = some q → (y.constant || y.owner == q.task) = true → Indexed i f r.a x → (ref.leaf : Int) + x * ref.stride < 0 ∨ (y.leaves : Int) ≤ (ref.leaf : Int) + x * ref.stride →
    exec (.kLd l ty r ref) s = .next (goesOn l i (faulted 2 f t) (written (past f 3) r.d 0 :: rest) s)) ∧
  (∀ (l : Lane) (ty : MType) (r : Regs) (ref : LeafRef) (y : Symbol) (q : TaskRec) (x : Int) (o : Nat) (s : State) (i : Image) (t : LaneTake) (f : Frame) (rest : List Frame), Runs l s i t f rest → i.symbols[ref.symbol]? = some y → taskRec i t.task = some q → (y.constant || y.owner == q.task) = true → Indexed i f r.a x → 0 ≤ (ref.leaf : Int) + x * ref.stride → (ref.leaf : Int) + x * ref.stride < y.leaves → i.leaf y ((ref.leaf : Int) + x * ref.stride).toNat = some (ty, o) →
    exec (.kLd l ty r ref) s =
     .next (goesOn l i t (written (past f 3) r.d (Bytes.field ((laneOf s l).value i ref.symbol y) o ty.bytes) :: rest) s)) ∧
  (∀ (l : Lane) (ty : MType) (r : Regs) (ref : LeafRef) (y : Symbol) (q : TaskRec) (x : Int) (s : State) (i : Image) (t : LaneTake) (f : Frame) (rest : List Frame), Runs l s i t f rest → i.symbols[ref.symbol]? = some y → taskRec i t.task = some q → y.owner = q.task ∧ y.input = false ∧ y.constant = false → Indexed i f r.b x → (ref.leaf : Int) + x * ref.stride < 0 ∨ (y.leaves : Int) ≤ (ref.leaf : Int) + x * ref.stride →
    exec (.kSt l ty r ref) s = .next (goesOn l i (faulted 2 f t) (past f 3 :: rest) s)) ∧
  (∀ (l : Lane) (ty : MType) (r : Regs) (ref : LeafRef) (y : Symbol) (q : TaskRec) (x : Int) (o : Nat) (s : State) (i : Image) (t : LaneTake) (f : Frame) (rest : List Frame), Runs l s i t f rest → i.symbols[ref.symbol]? = some y → taskRec i t.task = some q → y.owner = q.task ∧ y.input = false ∧ y.constant = false → Indexed i f r.b x → 0 ≤ (ref.leaf : Int) + x * ref.stride → (ref.leaf : Int) + x * ref.stride < y.leaves → i.leaf y ((ref.leaf : Int) + x * ref.stride).toNat = some (ty, o) →
    exec (.kSt l ty r ref) s = .next (goesOn l i t (past f 3 :: rest)
     (modLane l (fun z => { z with vars := Tbl.put z.vars ref.symbol (Bytes.overwrite (z.value i ref.symbol y) o (le ty.bytes (operand f ty r.a))) }) s))) ∧
  (∀ (l : Lane) (ty : MType) (r : Regs) (ref : LeafRef) (y : Symbol) (q : TaskRec) (s : State) (i : Image) (t : LaneTake) (f : Frame) (rest : List Frame), Runs l s i t f rest → i.symbols[ref.symbol]? = some y → taskRec i t.task = some q → (y.constant || y.owner == q.task) = false →
    exec (.kLd l ty r ref) s = .refused .kpcIllTyped) ∧
  (∀ (l : Lane) (ty : MType) (r : Regs) (ref : LeafRef) (y : Symbol) (q : TaskRec) (s : State) (i : Image) (t : LaneTake) (f : Frame) (rest : List Frame), Runs l s i t f rest → i.symbols[ref.symbol]? = some y → taskRec i t.task = some q → y.owner ≠ q.task ∨ y.input = true ∨ y.constant = true →
    exec (.kSt l ty r ref) s = .refused .kpcIllTyped) ∧
  (∀ (l : Lane) (sy sl ty tl n : Nat) (y z : Symbol) (q : TaskRec) (s : State) (i : Image) (t : LaneTake) (f : Frame) (rest : List Frame), Runs l s i t f rest → i.symbols[sy]? = some y → i.symbols[ty]? = some z → taskRec i t.task = some q → (y.constant || y.owner == q.task) = true → z.owner = q.task ∧ z.input = false ∧ z.constant = false → n = 0 →
    exec (.kCopy l sy sl ty tl n) s = .next (goesOn l i t (past f 4 :: rest) s)) ∧
  (∀ (l : Lane) (sy sl ty tl n : Nat) (y z : Symbol) (q : TaskRec) (s : State) (i : Image) (t : LaneTake) (f : Frame) (rest : List Frame), Runs l s i t f rest → i.symbols[sy]? = some y → i.symbols[ty]? = some z → taskRec i t.task = some q → (y.constant || y.owner == q.task) = true → z.owner = q.task ∧ z.input = false ∧ z.constant = false → n ≠ 0 → y.leaves < sl + n ∨ z.leaves < tl + n →
    exec (.kCopy l sy sl ty tl n) s = .next (goesOn l i (faulted 2 f t) (past f 4 :: rest) s)) ∧
  (∀ (l : Lane) (sy sl ty tl n : Nat) (y z : Symbol) (q : TaskRec) (s : State) (i : Image) (t : LaneTake) (f : Frame) (rest : List Frame), Runs l s i t f rest → i.symbols[sy]? = some y → i.symbols[ty]? = some z → taskRec i t.task = some q → (y.constant || y.owner == q.task) = true → z.owner = q.task ∧ z.input = false ∧ z.constant = false → n ≠ 0 → sl + n ≤ y.leaves → tl + n ≤ z.leaves → (∀ k < n, (i.leaf y (sl + k)).map Prod.fst = (i.leaf z (tl + k)).map Prod.fst) →
    exec (.kCopy l sy sl ty tl n) s = .next (goesOn l i t (past f 4 :: rest) (modLane l (fun x => { x with
     vars := Tbl.put x.vars ty ((List.range n).foldl (fun v k => match i.leaf y (sl + k), i.leaf z (tl + k) with
      | some (m, o), some (_, q) => Bytes.overwrite v q (Bytes.slice (x.value i sy y) o m.bytes)
      | _, _ => v) (x.value i ty z)) }) s)))

/-- On every lane that runs a take: BLOCK opens a construct, LOOP one with its first entry made, IF one when its condition is 1; otherwise
IF goes on after the ELSE of its construct or after its END. ELSE reached from the first part goes on after the END. END of a LOOP, or NEXT,
starts another entry while the bound allows it; one past the bound sets LOOP and goes on after the END. END of any other construct closes
it; BREAK goes on after the END of the D-th enclosing BLOCK or LOOP. RETURN takes the call to the end of its code, CALL opens a frame with
the arguments in the parameters and every other local 0, and a call at the end of its code gives its results to the consecutive locals from
D. A LOOP of bound 0, which verification excludes, is refused as ill-typed, and ELSE, END, BREAK and NEXT with no construct to leave fault.
Nothing else changes. -/
def Obligations.ControlConstructsGoWhereR176Says : Prop :=
  (∀ (l : Lane) (s : State) (i : Image) (t : LaneTake) (f : Frame) (rest : List Frame), Runs l s i t f rest →
    exec (.kBlock l) s = .next (goesOn l i t ({ past f 1 with constructs := .block :: f.constructs } :: rest) s)) ∧
  (∀ (l : Lane) (bound : Nat) (s : State) (i : Image) (t : LaneTake) (f : Frame) (rest : List Frame), Runs l s i t f rest → 0 < bound →
    exec (.kLoop l bound) s = .next (goesOn l i t ({ past f 2 with constructs := .loop bound 1 (f.position + 2) :: f.constructs } :: rest) s)) ∧
  (∀ (l : Lane) (s : State) (i : Image) (t : LaneTake) (f : Frame) (rest : List Frame), Runs l s i t f rest →
    exec (.kLoop l 0) s = .refused .kpcIllTyped) ∧
  (∀ (l : Lane) (a : Nat) (s : State) (i : Image) (t : LaneTake) (f : Frame) (rest : List Frame), Runs l s i t f rest → operand f .bool a = 1 →
    exec (.kIf l a) s = .next (goesOn l i t ({ past f 1 with constructs := .cond true :: f.constructs } :: rest) s)) ∧
  (∀ (l : Lane) (a p : Nat) (s : State) (i : Image) (t : LaneTake) (f : Frame) (rest : List Frame), Runs l s i t f rest → operand f .bool a ≠ 1 → afterElse (ahead i f (f.position + 1)) 1 = some (p, true) →
    exec (.kIf l a) s = .next (goesOn l i t ({ f with position := p, constructs := .cond false :: f.constructs } :: rest) s)) ∧
  (∀ (l : Lane) (a p : Nat) (s : State) (i : Image) (t : LaneTake) (f : Frame) (rest : List Frame), Runs l s i t f rest → operand f .bool a ≠ 1 → afterElse (ahead i f (f.position + 1)) 1 = some (p, false) →
    exec (.kIf l a) s = .next (goesOn l i t ({ f with position := p } :: rest) s)) ∧
  (∀ (l : Lane) (p : Nat) (outer : List Construct) (s : State) (i : Image) (t : LaneTake) (f : Frame) (rest : List Frame), Runs l s i t f rest → f.constructs = .cond true :: outer → afterEnd (ahead i f (f.position + 1)) 1 = some p →
    exec (.kElse l) s = .next (goesOn l i t ({ f with position := p, constructs := outer } :: rest) s)) ∧
  (∀ (l : Lane) (bound n body : Nat) (outer : List Construct) (s : State) (i : Image) (t : LaneTake) (f : Frame) (rest : List Frame), Runs l s i t f rest → f.constructs = .loop bound n body :: outer → n < bound →
    exec (.kEnd l) s = .next (goesOn l i t ({ f with position := body, constructs := .loop bound (n + 1) body :: outer } :: rest) s)) ∧
  (∀ (l : Lane) (bound n body : Nat) (outer : List Construct) (s : State) (i : Image) (t : LaneTake) (f : Frame) (rest : List Frame), Runs l s i t f rest → f.constructs = .loop bound n body :: outer → bound ≤ n →
    exec (.kEnd l) s = .next (goesOn l i (faulted 4 f t) ({ past f 1 with constructs := outer } :: rest) s)) ∧
  (∀ (l : Lane) (c : Construct) (outer : List Construct) (s : State) (i : Image) (t : LaneTake) (f : Frame) (rest : List Frame), Runs l s i t f rest → f.constructs = c :: outer → c.isLoop = false →
    exec (.kEnd l) s = .next (goesOn l i t ({ past f 1 with constructs := outer } :: rest) s)) ∧
  (∀ (l : Lane) (d n p : Nat) (s : State) (i : Image) (t : LaneTake) (f : Frame) (rest : List Frame), Runs l s i t f rest → enclosing (fun c => c.isLoop || c.isBlock) f.constructs d = some n → afterEnd (ahead i f (f.position + 1)) (n + 1) = some p →
    exec (.kBreak l d) s = .next (goesOn l i t ({ f with position := p, constructs := f.constructs.drop (n + 1) } :: rest) s)) ∧
  (∀ (l : Lane) (d n bound e body : Nat) (outer : List Construct) (s : State) (i : Image) (t : LaneTake) (f : Frame) (rest : List Frame), Runs l s i t f rest → enclosing Construct.isLoop f.constructs d = some n → f.constructs.drop n = .loop bound e body :: outer → e < bound →
    exec (.kNext l d) s = .next (goesOn l i t ({ f with position := body, constructs := .loop bound (e + 1) body :: outer } :: rest) s)) ∧
  (∀ (l : Lane) (d n bound e body p : Nat) (outer : List Construct) (s : State) (i : Image) (t : LaneTake) (f : Frame) (rest : List Frame), Runs l s i t f rest → enclosing Construct.isLoop f.constructs d = some n → f.constructs.drop n = .loop bound e body :: outer → bound ≤ e → afterEnd (ahead i f (f.position + 1)) (n + 1) = some p →
    exec (.kNext l d) s = .next (goesOn l i (faulted 4 f t) ({ f with position := p, constructs := outer } :: rest) s)) ∧
  (∀ (l : Lane) (s : State) (i : Image) (t : LaneTake) (f : Frame) (rest : List Frame), Runs l s i t f rest →
    exec (.kReturn l) s = .next (goesOn l i t ({ f with position := codeLength i f } :: rest) s)) ∧
  (∀ (l : Lane) (d a n : Nat) (g : FunctionRec) (s : State) (i : Image) (t : LaneTake) (f : Frame) (rest : List Frame), Runs l s i t f rest → i.functions[n]? = some g →
    exec (.kCall l d a n) s = .next (goesOn l i t (⟨n, 0, (List.range g.params).foldl (fun x k => Tbl.put x k (Tbl.get f.locals (a + k) 0)) [], [], d⟩ :: past f 2 :: rest) s)) ∧
  (∀ (i : Image) (n : Nat) (f g : Frame) (rest : List Frame) (x : FunctionRec), i.functions[f.function]? = some x → x.code.length ≤ f.position →
    settle i (n + 1) (f :: g :: rest) = settle i n ({ g with
      locals := (List.range x.results).foldl (fun l k => Tbl.put l (f.resultsTo + k) (Tbl.get f.locals (x.params + k) 0)) g.locals } :: rest)) ∧
  (∀ (l : Lane) (s : State) (i : Image) (t : LaneTake) (f : Frame) (rest : List Frame), Runs l s i t f rest → f.constructs = [] →
    exec (.kElse l) s = .fault .kpcStructure) ∧
  (∀ (l : Lane) (s : State) (i : Image) (t : LaneTake) (f : Frame) (rest : List Frame), Runs l s i t f rest → f.constructs = [] →
    exec (.kEnd l) s = .fault .kpcStructure) ∧
  (∀ (l : Lane) (s : State) (i : Image) (t : LaneTake) (f : Frame) (rest : List Frame), Runs l s i t f rest → f.constructs = [] →
    exec (.kBreak l 0) s = .fault .kpcStructure) ∧
  (∀ (l : Lane) (s : State) (i : Image) (t : LaneTake) (f : Frame) (rest : List Frame), Runs l s i t f rest → f.constructs = [] →
    exec (.kNext l 0) s = .fault .kpcStructure)

/-- On every lane that runs a take: TIME_NOW, TAKE_INFO, MODES and POSITION write the snapshot's fields to consecutive locals, FAULTS the
fault word, INPUT_STATUS the state of a binding of the task. MBX_ISSUE on a channel of the task, with at most 992 bytes of an array of BYTE
of the task, issues an envelope under the channel's next token and tracks it, or writes 0x0501 without credit and uses no token. MBX_RESULT
writes 0 pending, 1 complete with status and length and the result in the symbol, 2 unknown. CUE_REQUEST and CUE_CANCEL of a cue of the task
add a request, or write 0x0710 (CUE_LATCHED) or 0x0501; CUE_STATE writes its state and firings; RECORD of an application class adds a record
request, the 17th writes 0x0501. A call with invalid arguments writes zeros, sets SVC and does nothing else. -/
def Obligations.ServiceCallsGiveTable512 : Prop :=
  (∀ (l : Lane) (d a : Nat) (s : State) (i : Image) (t : LaneTake) (f : Frame) (rest : List Frame), Runs l s i t f rest →
    exec (.kTimeNow l d a) s = .next (goesOn l i t (written (written (past f 2) d (Bytes.field t.snapshot 0x18 8)) (d + 1) (Bytes.field t.snapshot 0x20 4) :: rest) s)) ∧
  (∀ (l : Lane) (d a : Nat) (s : State) (i : Image) (t : LaneTake) (f : Frame) (rest : List Frame), Runs l s i t f rest →
    exec (.kTakeInfo l d a) s = .next (goesOn l i t (written (written (written (past f 2) d (Bytes.field t.snapshot 0x08 8)) (d + 1) (Bytes.field t.snapshot 0x10 4)) (d + 2) (Bytes.field t.snapshot 0x06 2) :: rest) s)) ∧
  (∀ (l : Lane) (d a : Nat) (s : State) (i : Image) (t : LaneTake) (f : Frame) (rest : List Frame), Runs l s i t f rest →
    exec (.kModes l d a) s = .next (goesOn l i t (written (written (written (written (past f 2) d (Bytes.field t.snapshot 0x3A 1)) (d + 1) (Bytes.field t.snapshot 0x3B 1)) (d + 2) (Bytes.field t.snapshot 0x38 1)) (d + 3) (Bytes.field t.snapshot 0x39 1) :: rest) s)) ∧
  (∀ (l : Lane) (d a : Nat) (s : State) (i : Image) (t : LaneTake) (f : Frame) (rest : List Frame), Runs l s i t f rest →
    exec (.kPosition l d a) s = .next (goesOn l i t (written (written (written (past f 2) d (Bytes.field t.snapshot 0x28 8)) (d + 1) (Bytes.field t.snapshot 0x30 4)) (d + 2) (Bytes.field t.snapshot 0x34 4) :: rest) s)) ∧
  (∀ (l : Lane) (d a : Nat) (s : State) (i : Image) (t : LaneTake) (f : Frame) (rest : List Frame), Runs l s i t f rest →
    exec (.kFaults l d a) s = .next (goesOn l i t (written (past f 2) d t.faultWord :: rest) s)) ∧
  (∀ (l : Lane) (d a : Nat) (x : InputState) (s : State) (i : Image) (t : LaneTake) (f : Frame) (rest : List Frame), Runs l s i t f rest → Tbl.find t.inputs (operand f .u32 a) = some x →
    exec (.kInputStatus l d a) s = .next (goesOn l i t (written (written (written (past f 2) d x.status) (d + 1) x.age) (d + 2) (bit x.valid) :: rest) s)) ∧
  (∀ (l : Lane) (d a : Nat) (s : State) (i : Image) (t : LaneTake) (f : Frame) (rest : List Frame), Runs l s i t f rest → Tbl.find t.inputs (operand f .u32 a) = none →
    exec (.kInputStatus l d a) s = .next (goesOn l i (faulted 8 f t) (written (written (written (past f 2) d 0) (d + 1) 0) (d + 2) 0 :: rest) s)) ∧
  (∀ (l : Lane) (d a : Nat) (y : Symbol) (s : State) (i : Image) (t : LaneTake) (f : Frame) (rest : List Frame), Runs l s i t f rest → (seen 2 l s i t f rest).byteArray (operand f .u32 (a + 2)) none false = some y → (seen 2 l s i t f rest).ownsChannel (operand f .u8 a) = true → (operand f .u32 (a + 3)) ≤ 992 → (operand f .u32 (a + 3)) ≤ y.size → 4 ≤ (seen 2 l s i t f rest).creditUsed (operand f .u8 a) →
    exec (.kMbxIssue l d a) s = .next (goesOn l i t (written (written (past f 2) d 0) (d + 1) 0x0501 :: rest) s)) ∧
  (∀ (l : Lane) (d a : Nat) (y : Symbol) (s : State) (i : Image) (t : LaneTake) (f : Frame) (rest : List Frame), Runs l s i t f rest → (seen 2 l s i t f rest).byteArray (operand f .u32 (a + 2)) none false = some y → (seen 2 l s i t f rest).ownsChannel (operand f .u8 a) = true → (operand f .u32 (a + 3)) ≤ 992 → (operand f .u32 (a + 3)) ≤ y.size → (seen 2 l s i t f rest).creditUsed (operand f .u8 a) < 4 →
    exec (.kMbxIssue l d a) s = .next (goesOn l i { t with commands := t.commands ++ [((operand f .u8 a), laneEnvelope false (operand f .u8 a) (operand f .u16 (a + 1)) (Tbl.get (laneOf s l).nextToken (operand f .u8 a) 1) (Bytes.field t.snapshot 0x10 4) (((laneOf s l).value i (operand f .u32 (a + 2)) y).take (operand f .u32 (a + 3))))] } (written (written (past f 2) d (Tbl.get (laneOf s l).nextToken (operand f .u8 a) 1)) (d + 1) 0 :: rest) (modLane l (fun x => { x with nextToken := Tbl.put x.nextToken (operand f .u8 a) ((Tbl.get x.nextToken (operand f .u8 a) 1 + 1) % 2 ^ 32), tracked := x.tracked ++ [{ channel := (operand f .u8 a), token := Tbl.get x.nextToken (operand f .u8 a) 1, envelope := laneEnvelope false (operand f .u8 a) (operand f .u16 (a + 1)) (Tbl.get x.nextToken (operand f .u8 a) 1) (Bytes.field t.snapshot 0x10 4) ((x.value i (operand f .u32 (a + 2)) y).take (operand f .u32 (a + 3))) }] }) s))) ∧
  (∀ (l : Lane) (d a : Nat) (s : State) (i : Image) (t : LaneTake) (f : Frame) (rest : List Frame), Runs l s i t f rest → (seen 2 l s i t f rest).byteArray (operand f .u32 (a + 2)) none false = none ∨ (seen 2 l s i t f rest).ownsChannel (operand f .u8 a) = false ∨ 992 < (operand f .u32 (a + 3)) →
    exec (.kMbxIssue l d a) s = .next (goesOn l i (faulted 8 f t) (written (written (past f 2) d 0) (d + 1) 0 :: rest) s)) ∧
  (∀ (l : Lane) (d a : Nat) (y : Symbol) (s : State) (i : Image) (t : LaneTake) (f : Frame) (rest : List Frame), Runs l s i t f rest → (seen 2 l s i t f rest).byteArray (operand f .u32 (a + 2)) none false = some y → (seen 2 l s i t f rest).ownsChannel (operand f .u8 a) = true → y.input = false → ((laneOf s l).tracked.find? fun x => x.channel = (operand f .u8 a) && x.token = (operand f .u32 (a + 1))) = none →
    exec (.kMbxResult l d a) s = .next (goesOn l i t (written (written (written (past f 2) d 2) (d + 1) 0) (d + 2) 0 :: rest) s)) ∧
  (∀ (l : Lane) (d a : Nat) (y : Symbol) (k : Tracked) (s : State) (i : Image) (t : LaneTake) (f : Frame) (rest : List Frame), Runs l s i t f rest → (seen 2 l s i t f rest).byteArray (operand f .u32 (a + 2)) none false = some y → (seen 2 l s i t f rest).ownsChannel (operand f .u8 a) = true → y.input = false → ((laneOf s l).tracked.find? fun x => x.channel = (operand f .u8 a) && x.token = (operand f .u32 (a + 1))) = some k → k.done = none →
    exec (.kMbxResult l d a) s = .next (goesOn l i t (written (written (written (past f 2) d 0) (d + 1) 0) (d + 2) 0 :: rest) s)) ∧
  (∀ (l : Lane) (d a : Nat) (y : Symbol) (k : Tracked) (status : Nat) (result : Bytes) (s : State) (i : Image) (t : LaneTake) (f : Frame) (rest : List Frame), Runs l s i t f rest → (seen 2 l s i t f rest).byteArray (operand f .u32 (a + 2)) none false = some y → (seen 2 l s i t f rest).ownsChannel (operand f .u8 a) = true → y.input = false → ((laneOf s l).tracked.find? fun x => x.channel = (operand f .u8 a) && x.token = (operand f .u32 (a + 1))) = some k → k.done = some (status, result) →
    exec (.kMbxResult l d a) s = .next (goesOn l i t (written (written (written (past f 2) d 1) (d + 1) status) (d + 2) result.length :: rest) (modLane l (fun x => { x with vars := Tbl.put x.vars (operand f .u32 (a + 2)) (Bytes.overwrite (x.value i (operand f .u32 (a + 2)) y) 0 (result.take y.size)) }) s))) ∧
  (∀ (l : Lane) (d a : Nat) (s : State) (i : Image) (t : LaneTake) (f : Frame) (rest : List Frame), Runs l s i t f rest → (seen 2 l s i t f rest).byteArray (operand f .u32 (a + 2)) none false = none ∨ (seen 2 l s i t f rest).ownsChannel (operand f .u8 a) = false →
    exec (.kMbxResult l d a) s = .next (goesOn l i (faulted 8 f t) (written (written (written (past f 2) d 0) (d + 1) 0) (d + 2) 0 :: rest) s)) ∧
  (∀ (l : Lane) (d a : Nat) (y : Symbol) (b : CueBinding) (s : State) (i : Image) (t : LaneTake) (f : Frame) (rest : List Frame), Runs l s i t f rest → (seen 2 l s i t f rest).byteArray (operand f .u32 (a + 1)) (some 32) false = some y → (seen 2 l s i t f rest).cue (operand f .u8 a) = some b → cueRequestOk b (((laneOf s l).value i (operand f .u32 (a + 1)) y).take 32) = true → ((seen 2 l s i t f rest).cueArea (operand f .u8 a)).1 = 4 →
    exec (.kCueRequest l d a) s = .next (goesOn l i t (written (past f 2) d 0x0710 :: rest) s)) ∧
  (∀ (l : Lane) (d a : Nat) (y : Symbol) (b : CueBinding) (s : State) (i : Image) (t : LaneTake) (f : Frame) (rest : List Frame), Runs l s i t f rest → (seen 2 l s i t f rest).byteArray (operand f .u32 (a + 1)) (some 32) false = some y → (seen 2 l s i t f rest).cue (operand f .u8 a) = some b → cueRequestOk b (((laneOf s l).value i (operand f .u32 (a + 1)) y).take 32) = true → ((seen 2 l s i t f rest).cueArea (operand f .u8 a)).1 ≠ 4 → 64 ≤ t.cues.length →
    exec (.kCueRequest l d a) s = .next (goesOn l i t (written (past f 2) d 0x0501 :: rest) s)) ∧
  (∀ (l : Lane) (d a : Nat) (y : Symbol) (b : CueBinding) (s : State) (i : Image) (t : LaneTake) (f : Frame) (rest : List Frame), Runs l s i t f rest → (seen 2 l s i t f rest).byteArray (operand f .u32 (a + 1)) (some 32) false = some y → (seen 2 l s i t f rest).cue (operand f .u8 a) = some b → cueRequestOk b (((laneOf s l).value i (operand f .u32 (a + 1)) y).take 32) = true → ((seen 2 l s i t f rest).cueArea (operand f .u8 a)).1 ≠ 4 → t.cues.length < 64 →
    exec (.kCueRequest l d a) s = .next (goesOn l i { t with cues := t.cues ++ [((operand f .u8 a), (((laneOf s l).value i (operand f .u32 (a + 1)) y).take 32))] } (written (past f 2) d 0x0001 :: rest) s)) ∧
  (∀ (l : Lane) (d a : Nat) (s : State) (i : Image) (t : LaneTake) (f : Frame) (rest : List Frame), Runs l s i t f rest → (seen 2 l s i t f rest).byteArray (operand f .u32 (a + 1)) (some 32) false = none ∨ (seen 2 l s i t f rest).cue (operand f .u8 a) = none →
    exec (.kCueRequest l d a) s = .next (goesOn l i (faulted 8 f t) (written (past f 2) d 0 :: rest) s)) ∧
  (∀ (l : Lane) (d a : Nat) (b : CueBinding) (s : State) (i : Image) (t : LaneTake) (f : Frame) (rest : List Frame), Runs l s i t f rest → (seen 2 l s i t f rest).cue (operand f .u8 a) = some b → cueRequestOk b (padTo 32 [2]) = true → ((seen 2 l s i t f rest).cueArea (operand f .u8 a)).1 = 4 →
    exec (.kCueCancel l d a) s = .next (goesOn l i t (written (past f 2) d 0x0710 :: rest) s)) ∧
  (∀ (l : Lane) (d a : Nat) (b : CueBinding) (s : State) (i : Image) (t : LaneTake) (f : Frame) (rest : List Frame), Runs l s i t f rest → (seen 2 l s i t f rest).cue (operand f .u8 a) = some b → cueRequestOk b (padTo 32 [2]) = true → ((seen 2 l s i t f rest).cueArea (operand f .u8 a)).1 ≠ 4 → 64 ≤ t.cues.length →
    exec (.kCueCancel l d a) s = .next (goesOn l i t (written (past f 2) d 0x0501 :: rest) s)) ∧
  (∀ (l : Lane) (d a : Nat) (b : CueBinding) (s : State) (i : Image) (t : LaneTake) (f : Frame) (rest : List Frame), Runs l s i t f rest → (seen 2 l s i t f rest).cue (operand f .u8 a) = some b → cueRequestOk b (padTo 32 [2]) = true → ((seen 2 l s i t f rest).cueArea (operand f .u8 a)).1 ≠ 4 → t.cues.length < 64 →
    exec (.kCueCancel l d a) s = .next (goesOn l i { t with cues := t.cues ++ [((operand f .u8 a), (padTo 32 [2]))] } (written (past f 2) d 0x0001 :: rest) s)) ∧
  (∀ (l : Lane) (d a : Nat) (s : State) (i : Image) (t : LaneTake) (f : Frame) (rest : List Frame), Runs l s i t f rest → (seen 2 l s i t f rest).cue (operand f .u8 a) = none →
    exec (.kCueCancel l d a) s = .next (goesOn l i (faulted 8 f t) (written (past f 2) d 0 :: rest) s)) ∧
  (∀ (l : Lane) (d a : Nat) (s : State) (i : Image) (t : LaneTake) (f : Frame) (rest : List Frame), Runs l s i t f rest → (seen 2 l s i t f rest).cue (operand f .u8 a) = none →
    exec (.kCueState l d a) s = .next (goesOn l i (faulted 8 f t) (written (written (past f 2) d 0) (d + 1) 0 :: rest) s)) ∧
  (∀ (l : Lane) (d a : Nat) (b : CueBinding) (s : State) (i : Image) (t : LaneTake) (f : Frame) (rest : List Frame), Runs l s i t f rest → (seen 2 l s i t f rest).cue (operand f .u8 a) = some b →
    exec (.kCueState l d a) s = .next (goesOn l i t (written (written (past f 2) d ((seen 2 l s i t f rest).cueArea (operand f .u8 a)).1) (d + 1) ((seen 2 l s i t f rest).cueArea (operand f .u8 a)).2 :: rest) s)) ∧
  (∀ (l : Lane) (d a : Nat) (y : Symbol) (s : State) (i : Image) (t : LaneTake) (f : Frame) (rest : List Frame), Runs l s i t f rest → (seen 2 l s i t f rest).byteArray (operand f .u32 (a + 2)) (some 80) true = some y → 0x8000 ≤ (operand f .u16 a) → 16 ≤ t.records.length →
    exec (.kRecord l d a) s = .next (goesOn l i t (written (past f 2) d 0x0501 :: rest) s)) ∧
  (∀ (l : Lane) (d a : Nat) (y : Symbol) (s : State) (i : Image) (t : LaneTake) (f : Frame) (rest : List Frame), Runs l s i t f rest → (seen 2 l s i t f rest).byteArray (operand f .u32 (a + 2)) (some 80) true = some y → 0x8000 ≤ (operand f .u16 a) → t.records.length < 16 →
    exec (.kRecord l d a) s = .next (goesOn l i { t with records := t.records ++ [((operand f .u16 a), (operand f .u16 (a + 1)), ((laneOf s l).value i (operand f .u32 (a + 2)) y).take 80)] } (written (past f 2) d 0x0001 :: rest) s)) ∧
  (∀ (l : Lane) (d a : Nat) (s : State) (i : Image) (t : LaneTake) (f : Frame) (rest : List Frame), Runs l s i t f rest → (seen 2 l s i t f rest).byteArray (operand f .u32 (a + 2)) (some 80) true = none ∨ (operand f .u16 a) < 0x8000 →
    exec (.kRecord l d a) s = .next (goesOn l i (faulted 8 f t) (written (past f 2) d 0 :: rest) s))

/-- While the lanes run, a doorbell hands a bound channel's buffer with its LENGTH to the Gaffer, or sets OVERRUN while one is outstanding,
HDR_ERR on an unbound channel, NO_CREDIT with four credits held. A takeover of a good copy takes a credit and clears the doorbell; a bad one
sets HDR_ERR. A pop with READY 0 reads 0 and changes nothing else; otherwise it reads VALID and the oldest slot, takes it off READY and
places it in the shadow. A shadow fetch of an entry not fetched in this take copies it to the buffer with the SHADOW flag and reads FOUND
and its length, else 0. ACT_TAKE reads VALID and the ready task of highest priority and clears its bit, or 0. DEFER 0 raises the interrupt
for what is ready. TIM_STEP_SUM_LO latches the upper half, and the runtime extends each running take's full time; the extension is exact for
less than 2^31 ns between two reads (R447; log entry 147). A write to the shadow registers or ACT_STATUS has its effect, one to RO fields
none. A shadow entry ends after four voted takes, and a delayed completion is sent at its instant. Nothing else changes. -/
def Obligations.LaneWindowsActAsTheirBlocksSay : Prop :=
  (∀ (l : Lane) (k : Fin 16) (value : Word32) (s : State), hasMailbox s = true → ((s.mbx.lanes.get l).channel k).doorbell.isSome = true → 
    exec (.mbxChDoorbell l k value) s = .next (modChannel l k (fun _ => { ((s.mbx.lanes.get l).channel k) with overrun := true }) s)) ∧
  (∀ (l : Lane) (k : Fin 16) (value : Word32) (s : State), hasMailbox s = true → ((s.mbx.lanes.get l).channel k).doorbell = none → channelOwner s k = none → 
    exec (.mbxChDoorbell l k value) s = .next (modChannel l k (fun _ => { ((s.mbx.lanes.get l).channel k) with hdrErr := true }) (countHeaderError s))) ∧
  (∀ (l : Lane) (k : Fin 16) (value : Word32) (s : State), hasMailbox s = true → ((s.mbx.lanes.get l).channel k).doorbell = none → (channelOwner s k).isSome = true → 4 ≤ ((s.mbx.lanes.get l).channel k).credits.length → 
    exec (.mbxChDoorbell l k value) s = .next (modChannel l k (fun _ => { ((s.mbx.lanes.get l).channel k) with noCredit := true }) s)) ∧
  (∀ (l : Lane) (k : Fin 16) (value : Word32) (s : State), hasMailbox s = true → ((s.mbx.lanes.get l).channel k).doorbell = none → (channelOwner s k).isSome = true → ((s.mbx.lanes.get l).channel k).credits.length < 4 → 
    exec (.mbxChDoorbell l k value) s = .next (modChannel l k (fun _ => { ((s.mbx.lanes.get l).channel k) with doorbell := some (value.toNat % 2048) }) s)) ∧
  (∀ (l : Lane) (k : Fin 16) (s : State), ((s.mbx.lanes.get l).channel k).doorbell = none → 
    exec (.laneCopyTakeover l k) s = .next s) ∧
  (∀ (l : Lane) (k : Fin 16) (n : Nat) (s : State), ((s.mbx.lanes.get l).channel k).doorbell = some n → inVotingSet (laneOf s l) = true → (laneCopyOk k n (padTo n ((s.mbx.lanes.get l).channel k).request) && (channelOwner s k).isSome) = false → 
    exec (.laneCopyTakeover l k) s = .next (modChannel l k (fun c => { c with hdrErr := true }) (countHeaderError (modChannel l k (fun c => { c with doorbell := none }) s)))) ∧
  (∀ (l : Lane) (k : Fin 16) (n : Nat) (s : State), ((s.mbx.lanes.get l).channel k).doorbell = some n → inVotingSet (laneOf s l) = true → (laneCopyOk k n (padTo n ((s.mbx.lanes.get l).channel k).request) && (channelOwner s k).isSome) = true → ((s.mbx.lanes.get l).channel k).credits.length < 4 → 
    exec (.laneCopyTakeover l k) s = .next 
      (takeCopy l k (padTo n ((s.mbx.lanes.get l).channel k).request) (modChannel l k (fun c => { c with credits := c.credits ++ [Bytes.field (padTo n ((s.mbx.lanes.get l).channel k).request) 8 4] }) (modChannel l k (fun c => { c with doorbell := none }) s)))) ∧
  (∀ (l : Lane) (k : Fin 16) (s : State), ((s.mbx.lanes.get l).channel k).ready = [] → 
    exec (.mbxChPop l k) s = .next (readBack l 0 s)) ∧
  (∀ (l : Lane) (k : Fin 16) (n : Nat) (rest : List Nat) (s : State), ((s.mbx.lanes.get l).channel k).ready = n :: rest → 
    exec (.mbxChPop l k) s = .next 
      (noteCompletion l k (((s.mbx.lanes.get l).channel k).slot n).bytes (readBack l (2 ^ 31 + n) (modWindow l (fun w => { w with shadow := last128 (w.shadow ++ [⟨k, (((s.mbx.lanes.get l).channel k).slot n).token, (((s.mbx.lanes.get l).channel k).slot n).bytes, channelTake s l k, none, none⟩]) })
        (modChannel l k (fun c => { c.setSlot n { (((s.mbx.lanes.get l).channel k).slot n) with phase := .popped (channelTake s l k).1 (channelTake s l k).2 } with ready := rest }) s))))) ∧
  (∀ (l : Lane) (s : State), ((s.mbx.lanes.get l).shadow.find? fun e => (e.channel = (s.mbx.lanes.get l).shadowCh && e.token = (s.mbx.lanes.get l).shadowToken) && e.fetched != some (channelTake s l (s.mbx.lanes.get l).shadowCh)) = none → 
    exec (.mbxShadowFetch l) s = .next (readBack l 0 s)) ∧
  (∀ (l : Lane) (e : ShadowEntry) (s : State), ((s.mbx.lanes.get l).shadow.find? fun e => (e.channel = (s.mbx.lanes.get l).shadowCh && e.token = (s.mbx.lanes.get l).shadowToken) && e.fetched != some (channelTake s l (s.mbx.lanes.get l).shadowCh)) = some e → 
    exec (.mbxShadowFetch l) s = .next 
      (noteCompletion l (s.mbx.lanes.get l).shadowCh e.bytes (readBack l (2 ^ 31 + e.bytes.length) (modWindow l (fun w => { w with
        shadowBuffer := shadowed e.bytes
        shadow := (s.mbx.lanes.get l).shadow.map fun x => if x.channel = (s.mbx.lanes.get l).shadowCh && x.token = (s.mbx.lanes.get l).shadowToken then
          { x with fetched := some (channelTake s l (s.mbx.lanes.get l).shadowCh) } else x }) s)))) ∧
  (∀ (l : Lane) (s : State), readyTask s l = none → 
    exec (.actTake l) s = .next (readBack l 0 s)) ∧
  (∀ (l : Lane) (k : Nat) (s : State), readyTask s l = some k → 
    exec (.actTake l) s = .next 
      (readBack l (2 ^ 31 + k) (modLane l (fun x => { x with
        actReady := x.actReady - 2 ^ k, actCommits := Tbl.erase x.actCommits k, actInterrupt := x.actReady - 2 ^ k != 0 && !x.actDefer }) s))) ∧
  (∀ (l : Lane) (value : Word32) (s : State), hasMailbox s = true → value.getLsbD 0 = false → 
    exec (.actDefer l value) s = .next (modLane l (fun x => { x with actDefer := false, actInterrupt := x.actReady != 0 }) s)) ∧
  (∀ (l : Lane) (value : Word32) (s : State), hasMailbox s = true → value.getLsbD 0 = true → 
    exec (.actDefer l value) s = .next (modLane l (fun x => { x with
      actDefer := true, actInterrupt := (x.actCommits.any fun c => hasBit x.actReady c.1 && c.2 + 3 ≥ gfCount s && c.2 < gfCount s),
      actThrough := x.actThrough || (x.actCommits.any fun c => hasBit x.actReady c.1 && c.2 + 3 ≥ gfCount s && c.2 < gfCount s) }) s)) ∧
  (∀ (l : Lane) (s : State), exec (.timStepSumLo l) s = .next (modLane l (fun x => { x with
      takes := x.takes.map (fun t => if t.phase = .running then { t with fullTime := t.fullTime.extend s.clock.stepSum (toNs (localNow s) % 2 ^ 32) } else t),
      readData := BitVec.ofNat 32 (ofSigned 64 s.clock.stepSum), stepSumHigh := BitVec.ofNat 32 (ofSigned 64 s.clock.stepSum / 2 ^ 32) }) s)) ∧
  (∀ (sum advance : Int) (f : FullTime), 0 ≤ advance → advance < 2 ^ 31 →
    f.extend sum ((f.last + (sum - f.lastSum) + advance) % 2 ^ 32).toNat = { last := f.last + (sum - f.lastSum) + advance, lastSum := sum }) ∧
  (∀ (l : Lane) (value : Word32) (s : State), hasMailbox s = true → 
    exec (.registerWrite l 0x200 value) s = .next (modWindow l (fun w => { w with shadowCh := value.toNat % 16 }) s)) ∧
  (∀ (l : Lane) (value : Word32) (s : State), hasMailbox s = true → 
    exec (.registerWrite l 0x204 value) s = .next (modWindow l (fun w => { w with shadowToken := value.toNat }) s)) ∧
  (∀ (l : Lane) (value : Word32) (s : State), hasMailbox s = true → 
    exec (.registerWrite l 0x10010 value) s = .next (modLane l (fun x => { x with actThrough := x.actThrough && !value.getLsbD 2 }) s)) ∧
  (∀ (l : Lane) (value : Word32) (off : Nat) (s : State), hasMailbox s = true → (off % 4 != 0 || off < 0x100 || 0x30000 ≤ off) = true → 
    exec (.registerWrite l off value) s = .next s) ∧
  (∀ (l : Lane) (k : Fin 16) (token : Word32) (s : State), exec (.shadowEntryExpiry l k token) s = .next (modWindow l (fun w => { w with
      shadow := w.shadow.filter fun e => !(e.channel = k.val && e.token = token.toNat && e.unvoted.any fun n => 4 ≤ n) }) s)) ∧
  (∀ (d : DelayedCompletion) (rest : List DelayedCompletion) (s : State), s.mbx.delayed = d :: rest → 
    exec (.mailboxResponseDelayEnd) s = .next (settleClosing (sendNow d.session d.bytes (modMbx (fun m => { m with delayed := rest }) (reach d.due s))))) ∧
  (∀ (n : Nat) (bytes : Bytes) (x : Session) (s : State), Tbl.find s.trust.sessions n = some x → x.kind ≠ .peer → sendNow n bytes s = emit (.completion n bytes) s) ∧
  (∀ (n c : Nat) (bytes : Bytes) (x : Session) (s : State), Tbl.find s.trust.sessions n = some x → x.kind = .peer → x.context = some c → sendNow n bytes s = emit (.reply n s.mbx.replyComId bytes) (countMessage c s)) ∧
  (∀ (s : State), s.mbx.delayed = [] → 
    exec (.mailboxResponseDelayEnd) s = .next s)

/-- POWER_GOOD of a Stowed module supplies it and boots it, unless reset is held; RESET_RELEASE ends the hold and boots a supplied one.
BOOTING_END opens the relays, starts the test pulses and enters Proving, or Lock-out under a set flag. PROVING_END with fewer than two lanes
halts, with a failure locks out with its cause, else goes to the state that follows. RESET and a watchdog expiry stow the module, keeping
what survives; a supply failure notes its instant, starts a retentive commit and ends a freeze, a return clears it, 16 ms after it the
recorder stops and 20 ms after it the module stows. The hold-up store, the Reel faults and restart, TEST_EN, the Test limit and a background
slice have their effects; a comparator slice passes where the voter's reading is the pattern's decision. Where the slack is not open the
tests only starve. An event whose state does not hold changes nothing. -/
def Obligations.ModuleStatesFollowSupplyAndTests : Prop :=
  (∀ (f : BootFacts) (s : State), s.module.state = .stowed → s.module.resetHeld = false → 
    exec (.powerGood f) s = .next (modModule (fun m => { m with lampTest := some s.time }) (boot f (modModule (fun m => { m with supplied := true, supplyLostAt := none, supplyMv := 24000 }) s)))) ∧
  (∀ (f : BootFacts) (s : State), s.module.state = .stowed → s.module.resetHeld = true → 
    exec (.powerGood f) s = .next (modModule (fun m => { m with supplied := true, supplyLostAt := none, supplyMv := 24000 }) s)) ∧
  (∀ (f : BootFacts) (s : State), s.module.state ≠ .stowed → exec (.powerGood f) s = .next s) ∧
  (∀ (f : BootFacts) (s : State), s.module.state = .stowed → s.module.resetHeld = true → s.module.supplied = true → 
    exec (.resetRelease f) s = .next (boot f (modModule (fun m => { m with resetHeld := false }) s))) ∧
  (∀ (f : BootFacts) (s : State), s.module.state = .stowed → s.module.resetHeld = true → s.module.supplied = false → 
    exec (.resetRelease f) s = .next (modModule (fun m => { m with resetHeld := false }) s)) ∧
  (∀ (s : State), s.module.state = .booting → lockoutFlag s = false → 
    exec (.bootingEnd) s = .next 
      (enterState .proving (watchPairs (modSafety (fun x => { x with testPulses := true, sampledFrom := s.time, activatedSince := false })
        (startInauguration (modNet (fun n => { n with relaysOpen := true, relayOperations := n.relayOperations + 1 }) s)))))) ∧
  (∀ (s : State), s.module.state = .booting → lockoutFlag s = true → s.update.onTrial = false → 
    exec (.bootingEnd) s = .next 
      (enterState .lockout (traceTrigger (watchPairs (modSafety (fun x => { x with testPulses := true, sampledFrom := s.time, activatedSince := false })
        (startInauguration (modNet (fun n => { n with relaysOpen := true, relayOperations := n.relayOperations + 1 }) s))))))) ∧
  (∀ (f : ProvingFacts) (n : Nat) (s : State), s.module.state = .proving → 2 ≤ bit f.laneA + bit f.laneB + bit f.laneC → comparatorFinding f.readings f.drives = some n → 
    exec (.provingEnd f) s = .next 
      (lockOut false 3 0 0xFF 0 (patternGroup n + 256 * n) (recordVoterFail n (pairAtProvingEnd (settleLanes (freshTranslation f.cutter (startLane .c f.laneC (startLane .b f.laneB (startLane .a f.laneA s))))))))) ∧
  (∀ (s : State), s.module.state ≠ .booting → exec (.bootingEnd) s = .next s) ∧
  (∀ (f : ProvingFacts) (s : State), s.module.state = .proving → bit f.laneA + bit f.laneB + bit f.laneC < 2 → 
    exec (.provingEnd f) s = .next (halt 2 (settleLanes (freshTranslation f.cutter (startLane .c f.laneC (startLane .b f.laneB (startLane .a f.laneA s))))))) ∧
  (∀ (f : ProvingFacts) (s : State), s.module.state = .proving → 2 ≤ bit f.laneA + bit f.laneB + bit f.laneC → comparatorFinding f.readings f.drives = none → f.failure = none → 
    exec (.provingEnd f) s = .next (provingPassed (pairAtProvingEnd (settleLanes (freshTranslation f.cutter (startLane .c f.laneC (startLane .b f.laneB (startLane .a f.laneA s)))))))) ∧
  (∀ (f : ProvingFacts) (cause detail : Nat) (s : State), s.module.state = .proving → 2 ≤ bit f.laneA + bit f.laneB + bit f.laneC → comparatorFinding f.readings f.drives = none → f.failure = some (cause, detail) → 
    exec (.provingEnd f) s = .next (lockOut false cause 0 0xFF 0 detail (comparatorResult true (pairAtProvingEnd (settleLanes (freshTranslation f.cutter (startLane .c f.laneC (startLane .b f.laneB (startLane .a f.laneA s))))))))) ∧
  (∀ (s : State), s.module.state = .stowed → 
    exec (.reset) s = .next (modModule (fun m => { m with resetHeld := true }) s)) ∧
  (∀ (s : State), s.module.state ≠ .stowed → s.module.restartDue = none → 
    exec (.reset) s = .next (modModule (fun m => { m with resetHeld := true }) (goStowed (supplyEndsActivation s)))) ∧
  (∀ (u : Nat) (s : State), s.module.state ≠ .stowed → s.module.restartDue = some u → s.update.activating = false → 
    exec (.reset) s = .next (modModule (fun m => { m with resetHeld := true }) (goStowed (reach u s)))) ∧
  (∀ (s : State), s.module.state ≠ .stowed → s.module.state ≠ .halted → 
    exec (.slateWatchdogExpiry) s = .next (modModule (fun m => { m with resetHeld := true, resetCause := 3 }) (goStowed (supplyEndsActivation s)))) ∧
  (∀ (mv : Nat) (s : State), s.module.supplied = true → s.module.state ≠ .stowed → s.module.supplyLostAt = none → 
    exec (.supplyFailure mv) s = .next 
      (let u := (modUpdate (fun u => { u with lowSupplyAt := some s.time }) (modModule (fun m => { m with supplyLostAt := some s.time, supplyMv := mv, holdUpCharged := false }) s))
       let u := if u.prog.retentiveLoaded then beginCommit 1 u else u
       supplyEndsActivation (recordSupply 0 mv (if freezeHeld u then endFreeze 3 none u else u)))) ∧
  (∀ (mv : Nat) (s : State), s.module.supplied = true → s.module.state = .stowed → s.module.supplyLostAt = none → 
    exec (.supplyFailure mv) s = .next (modModule (fun m => { m with supplyLostAt := some s.time, supplyMv := mv }) s)) ∧
  (∀ (mv : Nat) (s : State), s.module.supplyLostAt.isSome = true → 
    exec (.supplyFailure mv) s = .next s) ∧
  (∀ (mv : Nat) (s : State), s.module.supplyLostAt.isSome = true → s.module.state ≠ .stowed → 
    exec (.supplyReturn mv) s = .next 
      (recordSupply 1 mv (modRecorder (fun r => { r with stopped := false }) (modUpdate (fun u => { u with lowSupplyAt := some s.time })
        (modModule (fun m => { m with supplyLostAt := none, supplyMv := mv }) s))))) ∧
  (∀ (u : Nat) (s : State), s.module.supplyLostAt = some u → 
    exec (.recorderSupplyStop) s = .next (modRecorder (fun r => { r with stopped := true }) (reach (u + milli 16) s))) ∧
  (∀ (u : Nat) (s : State), s.module.supplyLostAt = some u → 
    exec (.holdUpExpiry) s = .next (modModule (fun m => { m with supplied := false, supplyLostAt := none, holdUpCharged := false }) (goStowed (supplyEndsActivation (reach (u + milli 20) s))))) ∧
  (∀ (mv : Nat) (s : State), s.module.supplyLostAt = none → 
    exec (.supplyReturn mv) s = .next s) ∧
  (∀ (s : State), s.module.supplyLostAt = none → 
    exec (.recorderSupplyStop) s = .next s) ∧
  (∀ (s : State), s.module.supplyLostAt = none → exec (.holdUpExpiry) s = .next s) ∧
  (∀ (n : Nat) (s : State), s.module.supplied = true → 2040000000 ≤ n * 702 → 
    exec (.holdUpStoreCharged n) s = .next (modModule (fun m => { m with holdUpNf := n, holdUpCharged := true }) s)) ∧
  (∀ (n : Nat) (s : State), s.module.supplied = true → n * 702 < 2040000000 → 
    exec (.holdUpStoreCharged n) s = .next (recordSupply 2 n (modModule (fun m => { m with holdUpNf := n, holdUpCharged := false }) s))) ∧
  (∀ (p : Bool) (s : State), hasMailbox s = true → s.module.reelDownSince = none → 
    exec (.reelFault p) s = .next 
      (record .general 3 (bit p) [] (dropMasters ((s.trust.sessions.map Prod.fst).foldl (fun t n => endSession n t)
        (modModule (fun m => { m with reelDownSince := some s.time, reelRestarts := m.reelRestarts + 1 }) s))))) ∧
  (∀ s : State, exec .reelRestartComplete s = .next (modModule (fun m => { m with reelDownSince := none }) s)) ∧
  (∀ (b : Bool) (s : State), s.module.state ≠ .stowed → 
    exec (.testEnChange b) s = .next (testGate (modModule (fun m => { m with testEn := b }) s))) ∧
  (∀ (s : State), s.test.squall = true → 
    exec (.testLimitExpiry) s = .next (testOff 3 (reach s.test.ends s))) ∧
  (∀ (s : State), s.test.squall = false → exec (.testLimitExpiry) s = .next s) ∧
  (∀ (passed : Bool) (reading : VoterReading) (s : State), hasMailbox s = true → slackOpen s = true → sliceTest s ≠ 0 → passed = true → 
    exec (.backgroundSlice ⟨passed, reading⟩) s = .next 
      (slicePasses (sliceTest s) (modTest (fun t => { t with next := (sliceTest s + 1) % 8 }) (commitRequests (sliceTest s) (starveTests (eraseOne s)))))) ∧
  (∀ (passed : Bool) (reading : VoterReading) (s : State), hasMailbox s = true → slackOpen s = true → sliceTest s ≠ 0 → passed = false → 
    exec (.backgroundSlice ⟨passed, reading⟩) s = .next 
      (let u := sliceFails (sliceTest s) (selfTest s (sliceTest s)).slices (modTest (fun t => { t with next := (sliceTest s + 1) % 8 }) (commitRequests (sliceTest s) (starveTests (eraseOne s))))
       if [1, 6, 7].contains (sliceTest s) then u else slicePasses (sliceTest s) u)) ∧
  (∀ (passed : Bool) (reading : VoterReading) (s : State), hasMailbox s = true → slackOpen s = true → sliceTest s = 0 → patternPasses (nextPattern (commitVoterTest (startQueued s))) reading = true → 
    exec (.backgroundSlice ⟨passed, reading⟩) s = .next 
      (slicePasses 0 (modTest (fun t => { t with next := 1 }) (commitRequests 0 (starveTests (eraseOne (commitVoterTest (startQueued s)))))))) ∧
  (∀ (passed : Bool) (reading : VoterReading) (s : State), hasMailbox s = true → slackOpen s = true → sliceTest s = 0 → patternPasses (nextPattern (commitVoterTest (startQueued s))) reading = false → 
    exec (.backgroundSlice ⟨passed, reading⟩) s = .next 
      (sliceFails 0 (nextPattern (commitVoterTest (startQueued s))) (modTest (fun t => { t with next := 1 }) (commitRequests 0 (starveTests (eraseOne (commitVoterTest (startQueued s)))))))) ∧
  (∀ (passed : Bool) (reading : VoterReading) (s : State), hasMailbox s = true → slackOpen s = false → exec (.backgroundSlice ⟨passed, reading⟩) s = .next (starveTests s)) ∧
  (∀ (passed : Bool) (reading : VoterReading) (s : State), hasMailbox s = false → exec (.backgroundSlice ⟨passed, reading⟩) s = .next s)

/-- An un-enrolled module that serves sessions opens one enrolment session on port X14 (20); an enrolled one a pre-login session while fewer
than 8 await login; any other is not opened. A hardware session of a certified peer opens on a Free context with the roles of its mapping
that no other session holds alone (log entry 132), or ends at once where its binding is not verified (its key is a free value, log entry 2).
A session ends at a stream error, 30 s after it opened without login, at its idle limit, or 12 h after login. The password hash of a login
decides it (the hash is a free function, log entry 2), and a lock of a credential ends at its instant. A draining context is erased at its
end; a TRDP or hardware context is rekeyed before 24 h or 2^32 messages or retires; an agreed key of a port goes Live. An open case sets the
latch with its time; a latch found set, and a low cell, are recorded once; the Lull clock is written each hour while Locked. -/
def Obligations.SessionsContextsAndLullFollowTheirEvents : Prop :=
  (∀ (port source : Nat) (s : State), servesSessions s = true → unenrolled s = true → port = 20 → s.trust.sessions = [] → 
    exec (.tlsSessionOpen port source) s = .next (openSession ⟨.enrolment, port, source, none, 0, none, s.time, s.time, localSeconds s, s.time, Config.entropy s.draws⟩ (afterDraw s))) ∧
  (∀ (port source : Nat) (s : State), servesSessions s = true → unenrolled s = false → (s.trust.sessions.filter fun x => x.2.awaits).length < 8 → 
    exec (.tlsSessionOpen port source) s = .next (openSession ⟨.preLogin, port, source, none, 0, none, s.time, s.time, localSeconds s, s.time, Config.entropy s.draws⟩ (afterDraw s))) ∧
  (∀ (port source : Nat) (s : State), unenrolled s = true → port ≠ 20 ∨ s.trust.sessions ≠ [] → 
    exec (.tlsSessionOpen port source) s = .next s) ∧
  (∀ (port source : Nat) (s : State), unenrolled s = false → 8 ≤ (s.trust.sessions.filter fun x => x.2.awaits).length → 
    exec (.tlsSessionOpen port source) s = .next s) ∧
  (∀ (peer : Bytes) (c : Nat) (s : State), freeContext s 4 = some c → servesSessions s = true → unenrolled s = false → sessionsFull s = false → 
    exec (.hardwareSessionOpen peer true true) s = .next 
      (let u := afterDraw (noteUnchecked 0x31 peer s)
       let map := peerMapping u peer
       openSession ⟨.peer, 28, 0, map.map Prod.fst, grantable u ((map.map fun m => m.2.roles).getD 0) (freeSession u), some c, u.time, u.time, localSeconds u, u.time, drawn u⟩
         (goLive c (keyContext c ⟨.keyed, 4, freeSession u, le 32 (drawn (noteUnchecked 0x31 peer s)), peer, 0, u.time, 0, 0⟩ u)))) ∧
  (∀ (peer : Bytes) (c : Nat) (s : State), freeContext s 4 = some c → servesSessions s = true → unenrolled s = false → sessionsFull s = false → 
    exec (.hardwareSessionOpen peer true false) s = .next 
      (endSession (freeSession (afterDraw (noteUnchecked 0x31 peer s))) (
       let u := afterDraw (noteUnchecked 0x31 peer s)
       let map := peerMapping u peer
       openSession ⟨.peer, 28, 0, map.map Prod.fst, grantable u ((map.map fun m => m.2.roles).getD 0) (freeSession u), some c, u.time, u.time, localSeconds u, u.time, drawn u⟩
         (goLive c (keyContext c ⟨.keyed, 4, freeSession u, le 32 (drawn (noteUnchecked 0x31 peer s)), peer, 0, u.time, 0, 0⟩ u))))) ∧
  (∀ (peer : Bytes) (certified bound : Bool) (s : State), certified = false ∨ unenrolled s = true ∨ freeContext s 4 = none → 
    exec (.hardwareSessionOpen peer certified bound) s = .next s) ∧
  (∀ (n : Nat) (s : State), exec (.sessionStreamError n) s = .next (endSession n s)) ∧
  (∀ (n : Nat) (x : Session) (s : State), Tbl.find s.trust.sessions n = some x → x.awaits = true → 
    exec (.preLoginTimeout n) s = .next (endSession n (reach (x.openedAt + second 30) s))) ∧
  (∀ (n : Nat) (x : Session) (s : State), Tbl.find s.trust.sessions n = some x → x.awaits = false → 
    exec (.sessionIdleTimeout n) s = .next (endSession n (reach (x.lastCommand + second s.trust.idleLimit) s))) ∧
  (∀ (n : Nat) (x : Session) (s : State), Tbl.find s.trust.sessions n = some x → x.kind = .login → 
    exec (.sessionLifetimeExpiry n) s = .next (endSession n (reach (x.loginAt + second 43200) s))) ∧
  (∀ (n : Nat) (x : Session) (s : State), Tbl.find s.trust.sessions n = some x → x.awaits = false → 
    exec (.preLoginTimeout n) s = .next s) ∧
  (∀ (n : Nat) (x : Session) (s : State), Tbl.find s.trust.sessions n = some x → x.awaits = true → 
    exec (.sessionIdleTimeout n) s = .next s) ∧
  (∀ (n : Nat) (x : Session) (s : State), Tbl.find s.trust.sessions n = some x → x.kind ≠ .login → 
    exec (.sessionLifetimeExpiry n) s = .next s) ∧
  (∀ (n : Nat) (s : State), Tbl.find s.trust.sessions n = none → 
    exec (.preLoginTimeout n) s = .next s) ∧
  (∀ (n : Nat) (s : State), Tbl.find s.trust.sessions n = none → 
    exec (.sessionIdleTimeout n) s = .next s) ∧
  (∀ (n : Nat) (s : State), Tbl.find s.trust.sessions n = none → 
    exec (.sessionLifetimeExpiry n) s = .next s) ∧
  (∀ (e : Entry) (n : Nat) (c : Credential) (s : State), (s.mbx.queue.find? fun q => q.phase = .holds .argon) = some e → credentialByName s (e.slice 0 32) = some (n, c) → c.tag = Config.argon2id c.salt (((sealedAt e.payload 32).bind fun f => f.open e).getD []) → 
    exec (.argon2idDone) s = .next 
      (let u := loginPassed e n c s; grantArgon (u.mbx.queue.filter fun q => q.phase = .waits .argon) u)) ∧
  (∀ (e : Entry) (s : State), (s.mbx.queue.find? fun q => q.phase = .holds .argon) = some e → (∀ n c, credentialByName s (e.slice 0 32) = some (n, c) → c.tag ≠ Config.argon2id c.salt (((sealedAt e.payload 32).bind fun f => f.open e).getD [])) → 
    exec (.argon2idDone) s = .next 
      (let u := completeEntry e.id 0x0216 [] (loginFailed e s); grantArgon (u.mbx.queue.filter fun q => q.phase = .waits .argon) u)) ∧
  (∀ (s : State), (s.mbx.queue.find? fun q => q.phase = .holds .argon) = none → 
    exec (.argon2idDone) s = .next s) ∧
  (∀ (n : Nat) (c : Credential) (s : State), Tbl.find s.trust.credentials n = some c → c.lockedUntil ≠ 0 → 
    exec (.credentialLockExpiry n) s = .next (modCredential n (fun c => { c with lockedUntil := 0 }) (reach c.lockedUntil s))) ∧
  (∀ (n : Nat) (s : State), Tbl.find s.trust.credentials n = none → 
    exec (.credentialLockExpiry n) s = .next s) ∧
  (∀ (n : Nat) (x : SaContext) (s : State), Tbl.find s.trust.contexts n = some x → x.state = .draining → 
    exec (.saDrainEnd n) s = .next (modTrust (fun t => { t with contexts := Tbl.erase t.contexts n }) (reach x.drainEnd s))) ∧
  (∀ (n : Nat) (x : SaContext) (s : State), Tbl.find s.trust.contexts n = some x → x.state ≠ .draining → 
    exec (.saDrainEnd n) s = .next s) ∧
  (∀ (n m : Nat) (x : SaContext) (s : State), Tbl.find s.trust.contexts n = some x → x.state = .live → (x.purpose = 2 ∨ x.purpose = 4) → x.messages < 2 ^ 32 → freeContext s x.purpose = some m → 
    exec (.saRekeyLimit n) s = .next 
      (goLive m (afterDraw (keyContext m { x with state := .keyed, key := le 32 (drawn s), since := (reach (x.since + second 86400) s).time, messages := 0 } (reach (x.since + second 86400) s))))) ∧
  (∀ (n : Nat) (x : SaContext) (s : State), Tbl.find s.trust.contexts n = some x → x.state = .live → (x.purpose = 2 ∨ x.purpose = 4) → x.messages < 2 ^ 32 → freeContext s x.purpose = none → 
    exec (.saRekeyLimit n) s = .next (drain n (reach (x.since + second 86400) s))) ∧
  (∀ (n : Nat) (x : SaContext) (s : State), Tbl.find s.trust.contexts n = some x → x.state ≠ .live ∨ x.purpose ≠ 2 ∧ x.purpose ≠ 4 → 
    exec (.saRekeyLimit n) s = .next s) ∧
  (∀ (port key n : Nat) (y : SaContext) (s : State), servesSessions s = true → Tbl.has s.trust.cak port = true → (s.trust.contexts.find? fun c => c.2.purpose = 1 && c.2.binding = port && c.2.state = .keyed) = some (n, y) → 
    exec (.mkpduReceive port key true) s = .next (goLive n (keyContext n { y with key := le 32 key } s))) ∧
  (∀ (port key n : Nat) (s : State), servesSessions s = true → Tbl.has s.trust.cak port = true → (s.trust.contexts.find? fun c => c.2.purpose = 1 && c.2.binding = port && c.2.state = .keyed) = none → freeContext s 1 = some n → 
    exec (.mkpduReceive port key true) s = .next 
      (goLive n (keyContext n ⟨.keyed, 1, port, le 32 key, ((s.trust.contexts.find? fun c => c.2.purpose = 1 && c.2.binding = port && c.2.state = .live).map fun c => c.2.peer).getD [], 0, s.time, 0, 0⟩ s))) ∧
  (∀ (port key : Nat) (agreed : Bool) (s : State), (servesSessions s && agreed && Tbl.has s.trust.cak port) = false → 
    exec (.mkpduReceive port key agreed) s = .next s) ∧
  (∀ (s : State), 
    exec (.caseOpenSample true) s = .next (modLull (fun l => { l with caseOpen := true, tamper := true, tamperTime := lullNow s }) s)) ∧
  (∀ (s : State), 
    exec (.caseOpenSample false) s = .next (modLull (fun l => { l with caseOpen := false }) s)) ∧
  (∀ (s : State), s.module.state ≠ .stowed → latchNew s = true → 
    exec (.lullLatchRead) s = .next 
      (modLull (fun l => { l with reported := l.tamper, reportedLoss := l.powerLoss }) (custody 1 (le 1 (latchBits s) ++ le 8 s.trust.lull.tamperTime) s))) ∧
  (∀ (s : State), s.module.state = .stowed ∨ latchNew s = false → 
    exec (.lullLatchRead) s = .next s) ∧
  (∀ (mv : Nat) (s : State), s.module.state ≠ .stowed → mv < 2500 → s.trust.lull.cellLow = false → 
    exec (.cellMeasurement mv) s = .next (custody 3 (le 2 mv) (modLull (fun l => { l with cellMv := mv, cellLow := true }) s))) ∧
  (∀ (mv : Nat) (s : State), s.module.state ≠ .stowed → 2600 ≤ mv → 
    exec (.cellMeasurement mv) s = .next (modLull (fun l => { l with cellMv := mv, cellLow := false }) s)) ∧
  (∀ (mv : Nat) (s : State), s.module.state ≠ .stowed → 2500 ≤ mv → mv < 2600 → 
    exec (.cellMeasurement mv) s = .next (modLull (fun l => { l with cellMv := mv }) s)) ∧
  (∀ (s : State), s.clock.state = .locked → 
    exec (.lullClockWrite) s = .next (writeLull (reach (s.clock.lullWritten + second 3600) s))) ∧
  (∀ (s : State), s.clock.state ≠ .locked → exec (.lullClockWrite) s = .next s) ∧
  (∀ (mv : Nat) (s : State), s.module.state ≠ .stowed → mv < 2500 → s.trust.lull.cellLow = true → 
    exec (.cellMeasurement mv) s = .next (modLull (fun l => { l with cellMv := mv, cellLow := true }) s)) ∧
  (∀ (mv : Nat) (s : State), s.module.state = .stowed → exec (.cellMeasurement mv) s = .next s)

/-- INPUT_FREEZE of a task of a program that runs and does not stop, on a module that is no Standby, freezes a take at the task's next
activation instant unless that instant is barred. TAKE_START starts the delivered take, or reports a lane fault where the snapshot CRC is
wrong. SIGNATURE_POST of a lane that votes or reshoots signs an awaited take unless its deadline has passed; one that names no awaited take
is a lane fault unless it is late; a lane that neither votes nor reshoots is ignored. VOTE_DEADLINE decides the oldest awaited take at its
deadline, after those whose deadline falls in an earlier clock period, or in the same one with a higher priority (R125). LANE_FAULT,
LANE_WATCHDOG_EXPIRY and CORRECTED_MEMORY_ERROR of running lanes report or count. A lane restart that passes starts the reshoot, one that
fails fails it; an export is kept and, the second being equal, the lane is Transferring, a differing one locks out; an import that
re-exports equally is accepted, one that does not fails the reshoot; 1 s after a failure a new one starts. The two-lane limit is recorded
once, and at standstill after it the module locks out. A divergence comparison records the first difference. -/
def Obligations.LanesVoteAndReshootFollowTheirEvents : Prop :=
  (∀ (task : Nat) (i : Image) (r : TaskRec) (t0 : Nat) (s : State), programRuns s = true → s.prog.stopping = none → s.pair.role ≠ .standby → runningImage s = some i → taskRec i task = some r → activationInstant s r = some t0 → activationBarred s t0 = false → 
    exec (.inputFreeze task) s = .next (freezeTask i r t0 (reach t0 s))) ∧
  (∀ (task : Nat) (i : Image) (r : TaskRec) (t0 : Nat) (s : State), programRuns s = true → s.prog.stopping = none → s.pair.role ≠ .standby → runningImage s = some i → taskRec i task = some r → activationInstant s r = some t0 → activationBarred s t0 = true → 
    exec (.inputFreeze task) s = .next s) ∧
  (∀ (task : Nat) (s : State), programRuns s = false ∨ s.prog.stopping.isSome = true ∨ s.pair.role = .standby → 
    exec (.inputFreeze task) s = .next s) ∧
  (∀ (l : Lane) (task : Nat) (t : LaneTake) (i : Image) (r : TaskRec) (s : State), ((laneOf s l).takes.find? fun t => t.task = task && t.phase = .delivered) = some t → runningImage s = some i → taskRec i task = some r → (snapshotOk t.snapshot && forceAreaOk t.forceArea) = true → 
    exec (.takeStart l task) s = .next 
      (let u := abandonEarlier l t (reach (t.readyAt + (jitterStart l s).1) (jitterStart l s).2)
       modLane l (fun x => startTake i r (u.mbx.lanes.get l) { x with watchdogServed := watchdogLast x u.time }
         { t with fullTime := FullTime.start u.clock.stepSum t.snapshot }) (setReady l task u))) ∧
  (∀ (l : Lane) (task : Nat) (t : LaneTake) (i : Image) (r : TaskRec) (s : State), ((laneOf s l).takes.find? fun t => t.task = task && t.phase = .delivered) = some t → runningImage s = some i → taskRec i task = some r → snapshotOk t.snapshot = false → 
    exec (.takeStart l task) s = .next 
      (laneFault l .snapshot (abandonEarlier l t (reach (t.readyAt + (jitterStart l s).1) (jitterStart l s).2)))) ∧
  (∀ (l : Lane) (task take epoch : Nat) (upset : Word64) (v : VoteTake) (i : Image) (r : TaskRec) (t : LaneTake) (s : State), lanesRun s = true → (inVotingSet (laneOf s l) || (laneOf s l).reshooting && (laneOf s l).state != .restarting) = true → awaitedFrom s l task take = some v → runningImage s = some i → taskRec i task = some r → ((laneOf s l).takes.find? fun t => t.task = task && t.take = take && t.phase = .running && t.frames.isEmpty) = some t → s.time ≤ v.deadline → 
    exec (.signaturePost l task take epoch upset) s = .next (postSignature i r v l t upset s)) ∧
  (∀ (l : Lane) (task take epoch : Nat) (upset : Word64) (v : VoteTake) (i : Image) (r : TaskRec) (t : LaneTake) (s : State), lanesRun s = true → (inVotingSet (laneOf s l) || (laneOf s l).reshooting && (laneOf s l).state != .restarting) = true → awaitedFrom s l task take = some v → runningImage s = some i → taskRec i task = some r → ((laneOf s l).takes.find? fun t => t.task = task && t.take = take && t.phase = .running && t.frames.isEmpty) = some t → v.deadline < s.time → 
    exec (.signaturePost l task take epoch upset) s = .next s) ∧
  (∀ (l : Lane) (task take epoch : Nat) (upset : Word64) (s : State), lanesRun s = true → (inVotingSet (laneOf s l) || (laneOf s l).reshooting && (laneOf s l).state != .restarting) = true → awaitedFrom s l task take = none → postedLate s task take = false → 
    exec (.signaturePost l task take epoch upset) s = .next (laneFault l .trap s)) ∧
  (∀ (l : Lane) (task take epoch : Nat) (upset : Word64) (s : State), (inVotingSet (laneOf s l) || (laneOf s l).reshooting && (laneOf s l).state != .restarting) = false → 
    exec (.signaturePost l task take epoch upset) s = .next s) ∧
  (∀ (l : Lane) (task take epoch : Nat) (upset : Word64) (v : VoteTake) (i : Image) (r : TaskRec) (s : State), lanesRun s = true → (inVotingSet (laneOf s l) || (laneOf s l).reshooting && (laneOf s l).state != .restarting) = true → awaitedFrom s l task take = some v → runningImage s = some i → taskRec i task = some r → ((laneOf s l).takes.find? fun t => t.task = task && t.take = take && t.phase = .running && t.frames.isEmpty) = none → s.time ≤ v.deadline → 
    exec (.signaturePost l task take epoch upset) s = .next (postUnfinished i r v l upset s)) ∧
  (∀ (task : Nat) (v : VoteTake) (i : Image) (s : State), (s.voter.takes.find? fun v => v.task = task) = some v → runningImage s = some i → 
    exec (.voteDeadline task) s = .next (decideDue i v s.voter.takes.length s)) ∧
  (∀ (task : Nat) (v : VoteTake) (i : Image) (r : TaskRec) (s : State), (s.voter.takes.find? fun v => v.task = task) = some v → firstDue s (v.deadline / 5) = some v → runningImage s = some i → taskRec i task = some r → 
    exec (.voteDeadline task) s = .next (atDeadline i r v (reach v.deadline s))) ∧
  (∀ (period : Nat) (w : VoteTake) (s : State), firstDue s period = some w →
    w ∈ s.voter.takes ∧ w.deadline / 5 ≤ period ∧
      ∀ u ∈ s.voter.takes, u.deadline / 5 ≤ period → w.deadline / 5 < u.deadline / 5 ∨ w.deadline / 5 = u.deadline / 5 ∧ taskPriority s w.task ≤ taskPriority s u.task) ∧
  (∀ (l : Lane) (c : LaneFaultCause) (s : State), lanesRun s = true → 
    exec (.laneFault l c) s = .next (laneFault l c s)) ∧
  (∀ (l : Lane) (s : State), lanesRun s = true → (laneOf s l).runs = true → 
    exec (.laneWatchdogExpiry l) s = .next 
      (laneFault l .watchdog (reach ((if (laneOf s l).takes.any fun t => t.phase = .running then (laneOf s l).watchdogServed else s.time) + watchdogTimeout s) s))) ∧
  (∀ (l : Lane) (s : State), lanesRun s = true → 
    exec (.correctedMemoryError l) s = .next (modHealth l (fun h => { h with corrected := h.corrected + 1 }) s)) ∧
  (∀ (l : Lane) (c : LaneFaultCause) (s : State), lanesRun s = false → exec (.laneFault l c) s = .next s) ∧
  (∀ (l : Lane) (s : State), lanesRun s = false → exec (.laneWatchdogExpiry l) s = .next s) ∧
  (∀ (l : Lane) (s : State), lanesRun s = false → exec (.correctedMemoryError l) s = .next s) ∧
  (∀ (l : Lane) (i : Image) (s : State), (laneOf s l).state = .restarting → runningImage s = some i → (reshootCut s).any (fun p => p.2 = l) = false → 
    exec (.laneRestartDone l true) s = .next 
      (useEntries (slotOf s s.prog.slot).digest (modWindow l (fun w => { shadow := w.shadow }) (modLane l (fun x => { x with
        state := .ready, reshootStart := s.time, reshoot := reshootTasks s i, takes := [], versions := [], kept := [], watchdogServed := s.time }) s)))) ∧
  (∀ (l : Lane) (i : Image) (s : State), (laneOf s l).state = .restarting → runningImage s = some i → (reshootCut s).any (fun p => p.2 = l) = false → 
    exec (.laneRestartDone l false) s = .next (failReshoot l s)) ∧
  (∀ (l : Lane) (passed : Bool) (i : Image) (s : State), (laneOf s l).state = .restarting → runningImage s = some i → (reshootCut s).any (fun p => p.2 = l) = true → 
    exec (.laneRestartDone l passed) s = .next s) ∧
  (∀ (l : Lane) (passed : Bool) (s : State), (laneOf s l).state ≠ .restarting → 
    exec (.laneRestartDone l passed) s = .next s) ∧
  (∀ (l v : Lane) (task : Nat) (upset : Word64) (i : Image) (r : TaskRec) (t : ReshootTask) (s : State), rejoining s = some l → runningImage s = some i → taskRec i task = some r → Tbl.find (laneOf s l).reshoot task = some t → t.exportable = true → t.imported = false → t.exported = false → Tbl.has t.exports v.num = false → inVotingSet (laneOf s v) = true → t.exports = [] → 
    exec (.reshootExportDone v task upset) s = .next (modReshoot l task (fun t => { t with exports := Tbl.put t.exports v.num (xorBytes upset (exportBytes i r (laneOf s v))) }) s)) ∧
  (∀ (l v : Lane) (task : Nat) (upset : Word64) (i : Image) (r : TaskRec) (t : ReshootTask) (n : Nat) (b : Bytes) (s : State), rejoining s = some l → runningImage s = some i → taskRec i task = some r → Tbl.find (laneOf s l).reshoot task = some t → t.exportable = true → t.imported = false → t.exported = false → Tbl.has t.exports v.num = false → inVotingSet (laneOf s v) = true → t.exports = [(n, b)] → crc64 b = crc64 (xorBytes upset (exportBytes i r (laneOf s v))) → 
    exec (.reshootExportDone v task upset) s = .next 
      (modLane l (fun x => { x with state := if x.state = .ready then .transferring else x.state }) (modReshoot l task (fun t => { t with exports := Tbl.put t.exports v.num (xorBytes upset (exportBytes i r (laneOf s v))) }) s))) ∧
  (∀ (l v : Lane) (task : Nat) (upset : Word64) (i : Image) (r : TaskRec) (t : ReshootTask) (n : Nat) (b : Bytes) (s : State), rejoining s = some l → runningImage s = some i → taskRec i task = some r → Tbl.find (laneOf s l).reshoot task = some t → t.exportable = true → t.imported = false → t.exported = false → Tbl.has t.exports v.num = false → inVotingSet (laneOf s v) = true → t.exports = [(n, b)] → crc64 b ≠ crc64 (xorBytes upset (exportBytes i r (laneOf s v))) → 
    exec (.reshootExportDone v task upset) s = .next 
      (lockOut false 2 0 task 0 task (modReshoot l task (fun t => { t with exports := Tbl.put t.exports v.num (xorBytes upset (exportBytes i r (laneOf s v))) }) s))) ∧
  (∀ (l : Lane) (task : Nat) (upset : Word64) (i : Image) (r : TaskRec) (t : ReshootTask) (n : Nat) (b : Bytes) (rest : Tbl Bytes) (s : State), rejoining s = some l → runningImage s = some i → taskRec i task = some r → Tbl.find (laneOf s l).reshoot task = some t → t.exported = true → t.imported = false → t.exports = (n, b) :: rest → crc64 (exportBytes i r (laneOf (modLane l (importFrom i r s.time b (laneOf s (Lane.at n))) s) l)) ^^^ upset.toNat = crc64 b → 
    exec (.reshootImportDone task upset) s = .next 
      (modLane l (fun x => { x with state := if allImported x then .probation else .transferring })
        (modReshoot l task (fun t => { t with imported := true, exports := [] }) (modLane l (importFrom i r s.time b (laneOf s (Lane.at n))) s)))) ∧
  (∀ (l : Lane) (task : Nat) (upset : Word64) (i : Image) (r : TaskRec) (t : ReshootTask) (n : Nat) (b : Bytes) (rest : Tbl Bytes) (s : State), rejoining s = some l → runningImage s = some i → taskRec i task = some r → Tbl.find (laneOf s l).reshoot task = some t → t.exported = true → t.imported = false → t.exports = (n, b) :: rest → crc64 (exportBytes i r (laneOf (modLane l (importFrom i r s.time b (laneOf s (Lane.at n))) s) l)) ^^^ upset.toNat ≠ crc64 b → 
    exec (.reshootImportDone task upset) s = .next (failReshoot l (modLane l (importFrom i r s.time b (laneOf s (Lane.at n))) s))) ∧
  (∀ (v : Lane) (task : Nat) (upset : Word64) (s : State), rejoining s = none → 
    exec (.reshootExportDone v task upset) s = .next s) ∧
  (∀ (task : Nat) (upset : Word64) (s : State), rejoining s = none → 
    exec (.reshootImportDone task upset) s = .next s) ∧
  (∀ (l : Lane) (s : State), (laneOf s l).state = .isolated → (laneOf s l).hold = false → 1 ≤ (laneOf s l).failedReshoots → programRuns s = true → s.prog.stopping = none → s.module.state ≠ .lockout → 
    exec (.reshootRetry l) s = .next (startReshoot l (reach ((laneOf s l).reshootStart + second 1) s))) ∧
  (∀ (l : Lane) (s : State), (laneOf s l).state ≠ .isolated ∨ (laneOf s l).hold = true ∨ (laneOf s l).failedReshoots = 0 → 
    exec (.reshootRetry l) s = .next s) ∧
  (∀ (t : Nat) (s : State), s.voter.twoLaneSince = some t → s.voter.twoLaneExpired = false → hasMailbox s = true → 
    exec (.twoLaneLimitExpiry) s = .next 
      (recordLane 0xFFFF (le 1 4 ++ le 2 s.voter.twoLaneLimit) (modVoter (fun v => { v with twoLaneExpired := true }) (reach (t + second (3600 * s.voter.twoLaneLimit)) s)))) ∧
  (∀ (s : State), s.voter.twoLaneSince = none ∨ s.voter.twoLaneExpired = true → 
    exec (.twoLaneLimitExpiry) s = .next s) ∧
  (∀ (s : State), s.voter.twoLaneExpired = true → standstill s = true → s.module.state ≠ .lockout → hasMailbox s = true → 
    exec (.twoLaneLockout) s = .next (lockOut false 4 0 0xFF 0 s.voter.twoLaneLimit s)) ∧
  (∀ (s : State), s.voter.twoLaneExpired = false ∨ standstill s = false → 
    exec (.twoLaneLockout) s = .next s) ∧
  (∀ (l : Lane) (task : Nat) (d : Nat × Nat × List SerialRecord × List SerialRecord) (r : SerialRecord) (s : State), (s.voter.divergence.find? fun d => d.1 = l.num && d.2.1 = task) = some d → firstDifference 65536 d.2.2.1 d.2.2.2 = some r → 
    exec (.divergenceComparisonDone l task) s = .next 
      (recordLane l.num (le 1 2 ++ le 1 task ++ le 1 0 ++ le 8 r.identity ++ le 1 r.tag) (modVoter (fun v => { v with divergence := v.divergence.erase d }) s))) ∧
  (∀ (l : Lane) (task : Nat) (d : Nat × Nat × List SerialRecord × List SerialRecord) (s : State), (s.voter.divergence.find? fun d => d.1 = l.num && d.2.1 = task) = some d → firstDifference 65536 d.2.2.1 d.2.2.2 = none → 
    exec (.divergenceComparisonDone l task) s = .next 
      (recordLane l.num (le 1 2 ++ le 1 task ++ le 1 1 ++ le 8 0 ++ le 1 0) (modVoter (fun v => { v with divergence := v.divergence.erase d }) s))) ∧
  (∀ (l : Lane) (task : Nat) (s : State), (s.voter.divergence.find? fun d => d.1 = l.num && d.2.1 = task) = none → 
    exec (.divergenceComparisonDone l task) s = .next s)

/-- CUTTER_TRANSLATION_DONE fails an image that a verification check refuses (0x0310) or of which no translation of the four at most is
diverse (0x0318), naming what is alike, and else makes it the slot's translated image with the first diverse translation; no entry of an
image in a slot leaves the cache for it. A retentive commit starts 60 s after the last, and its end is passed on. RECUT_GUARD holds the
event tasks from S - G; RECUT_SWITCH switches images at S once nothing is in flight, or puts S off in a reshoot. A source is evaluated at
its clock; its commit ends with its third clock; a command hold ends at its limit. A grant ends the holder of the resource and serves the
next. A buffered record is written while writing is allowed; suppressed counts are recorded 1 s after the last; a freeze ends after 60 s; a
clear ticket expires. At t_a an update is refused by its gate, waits, consults the partner or begins; the wait and the trial end after their
times. An event whose condition does not hold changes nothing. -/
def Obligations.ProgramRecorderAndUpdateFollowTheirEvents : Prop :=
  (∀ (report : CutterReport) (slot : Nat) (why : CutFor) (s : State), (nextCut s).prog.cutting = some (slot, why) → cutImage (slotOf (nextCut s) slot) = .ok none → 
    exec (.cutterTranslationDone report) s = .next (nextCut (modProg (fun p => { p with cutting := none }) (nextCut s)))) ∧
  (∀ (report : CutterReport) (slot : Nat) (why : CutFor) (check offset : Nat) (s : State), (nextCut s).prog.cutting = some (slot, why) → cutImage (slotOf (nextCut s) slot) = .error (check, offset) → 
    exec (.cutterTranslationDone report) s = .next 
      (nextCut (cutRefused why slot 0x0310 (le 1 check ++ le 8 offset) (recordProgram 0xFFFF (le 1 1 ++ le 1 check ++ le 8 offset) (modProg (fun p => { p with cutting := none }) (nextCut s)))))) ∧
  (∀ (report : CutterReport) (slot : Nat) (why : CutFor) (i : Image) (d : DiversityFault) (s : State), (nextCut s).prog.cutting = some (slot, why) → cutImage (slotOf (nextCut s) slot) = .ok (some i) → cutOutcome i report = .error d → 
    exec (.cutterTranslationDone report) s = .next 
      (nextCut (cutRefused why slot 0x0318 [] (recordProgram 0xFFFF (le 1 5 ++ le 1 d.first ++ le 1 d.second ++ le 1 (bit d.isVariable) ++ le 8 d.which) (modProg (fun p => { p with cutting := none }) (nextCut s)))))) ∧
  (∀ (report : CutterReport) (slot : Nat) (why : CutFor) (i : Image) (n : Nat) (a : Attempt) (s : State), (nextCut s).prog.cutting = some (slot, why) → cutImage (slotOf (nextCut s) slot) = .ok (some i) → cutOutcome i report = .ok (n, a) → 
    exec (.cutterTranslationDone report) s = .next 
      (let u := modSlot slot (fun x => { x with state := 2, image := some i, load := none }) (modProg (fun p => { p with cutting := none }) (nextCut s))
       nextCut (cutDone why i (slotOf (nextCut s) slot) report.ms (settleAxis (modProg (fun p => { p with cache := enterCache u (slotOf (nextCut s) slot).digest n a }) u))))) ∧
  (∀ (report : CutterReport) (s : State), (nextCut s).prog.cutting = none → 
    exec (.cutterTranslationDone report) s = .next (nextCut s)) ∧
  (∀ (i : Image) (report : CutterReport) (n : Nat) (a : Attempt), cutOutcome i report = .ok (n, a) →
    n < 4 ∧ report.attempts[n]? = some a ∧ attemptFault i a = none ∧ ∀ k < n, ∀ b, report.attempts[k]? = some b → attemptFault i b ≠ none) ∧
  (∀ (digest : Bytes) (n : Nat) (a : Attempt) (c : CacheEntry) (s : State), c ∈ s.prog.cache → c.digest ≠ digest → c.digest = s.prog.slot0.digest ∨ c.digest = s.prog.slot1.digest → c ∈ enterCache s digest n a) ∧
  (∀ (s : State), s.prog.retentiveLoaded = true → s.prog.commit = none → 
    exec (.retentiveCommitPeriodic) s = .next (beginCommit 0 (reach (s.prog.lastCommitAt + second 60) s))) ∧
  (∀ (s : State), s.prog.retentiveLoaded = false ∨ s.prog.commit.isSome = true → 
    exec (.retentiveCommitPeriodic) s = .next s) ∧
  (∀ (s : State), s.prog.commit.isSome = true → 
    exec (.retentiveCommitComplete true) s = .next (updateStopped (endCommitStep true s))) ∧
  (∀ (s : State), s.prog.commit.isSome = true → 
    exec (.retentiveCommitComplete false) s = .next (updateStopped (failMirror (endCommitStep false s)))) ∧
  (∀ (written : Bool) (s : State), s.prog.commit = none → 
    exec (.retentiveCommitComplete written) s = .next s) ∧
  (∀ (r : Recut) (s : State), pendingRecut s = some r → r.guarding = false → 
    exec (.recutGuard) s = .next 
      (withholdEvents (modProg (fun p => { p with recut := some { r with guarding := true } }) (reach (programInstant s r.guardUs) s)))) ∧
  (∀ (r : Recut) (s : State), pendingRecut s = some r → r.guarding = true → 
    exec (.recutGuard) s = .next s) ∧
  (∀ (s : State), pendingRecut s = none → exec (.recutGuard) s = .next s) ∧
  (∀ (r : Recut) (a b : Image) (s : State), pendingRecut s = some r → runningImage s = some a → translatedImage s r.slot = some b → (s.pair.role = .standby ∨ ∀ t ∈ s.prog.tasks, ∀ d, t.2.due = some d → r.switchUs ≤ d) → inFlight s = false → s.prog.stopping = none → (s.pair.role = .standby ∨ ∀ l, (laneOf s l).reshooting = false) → 
    exec (.recutSwitch) s = .next (switchImages r a b (endStandbyReshoots (reach (programInstant s r.switchUs) s)))) ∧
  (∀ (r : Recut) (a b : Image) (l : Lane) (s : State), pendingRecut s = some r → runningImage s = some a → translatedImage s r.slot = some b → s.pair.role ≠ .standby → (∀ t ∈ s.prog.tasks, ∀ d, t.2.due = some d → r.switchUs ≤ d) → inFlight s = false → s.prog.stopping = none → (laneOf s l).reshooting = true → 
    exec (.recutSwitch) s = .next (postponeRecut r a (reach (programInstant s r.switchUs) s))) ∧
  (∀ (s : State), pendingRecut s = none → exec (.recutSwitch) s = .next s) ∧
  (∀ (n clock : Nat) (s : State), (sourceOf (reach (5 * clock) s) n).origin = 0 → 
    exec (.sourceDetection n clock) s = .next (reach (5 * clock) s)) ∧
  (∀ (n clock : Nat) (s : State), (sourceOf (reach (5 * clock) s) n).origin ≠ 0 → 
    exec (.sourceDetection n clock) s = .next 
      (let u := (startCommits (some clock) sourceCount (reach (5 * clock) s))
       let x := sourceOf u n
       let y := if senseFinds x (sourceSignal u x) then x.detect clock else x
       modSource n (fun _ => { y with previous := sourceSignal u x && !pulseOrigin y.origin, pulses := y.pulses - 1 }) u)) ∧
  (∀ (n d : Nat) (s : State), (sourceOf s n).waiting = none → (sourceOf s n).started = some d → 
    exec (.activationCommit n) s = .next (commitSource n (reach (5 * (d + 3)) s))) ∧
  (∀ (n d : Nat) (s : State), (sourceOf s n).waiting.isSome = true → (sourceOf (startCommits none sourceCount s) n).started = some d → 
    exec (.activationCommit n) s = .next 
      (commitSource n (reach (5 * (d + 3)) (startCommits none sourceCount s)))) ∧
  (∀ (n : Nat) (s : State), (sourceOf s n).waiting = none → (sourceOf s n).started = none → 
    exec (.activationCommit n) s = .next s) ∧
  (∀ (limit : Nat) (s : State), s.act.hold = some (some limit) → 
    exec (.activationHoldLimit) s = .next (endHold (reach limit s)).2) ∧
  (∀ (s : State), s.act.hold = none ∨ s.act.hold = some none → 
    exec (.activationHoldLimit) s = .next s) ∧
  (∀ (resource : Resource) (e : Entry) (s : State), resource ≠ .argon → resource ≠ .cutter → (s.mbx.queue.find? fun e => e.phase = .holds resource) = none → nextWaiting s resource = some e → 
    exec (.resourceGrant resource) s = .next (serve commands e (noteGrant resource e s))) ∧
  (∀ (resource : Resource) (e f : Entry) (s : State), resource ≠ .argon → resource ≠ .cutter → (s.mbx.queue.find? fun e => e.phase = .holds resource) = some f → nextWaiting (resourceDone f s) resource = some e → 
    exec (.resourceGrant resource) s = .next (serve commands e (noteGrant resource e (resourceDone f s)))) ∧
  (∀ (resource : Resource) (f : Entry) (s : State), resource ≠ .argon → resource ≠ .cutter → (s.mbx.queue.find? fun e => e.phase = .holds resource) = some f → nextWaiting (resourceDone f s) resource = none → 
    exec (.resourceGrant resource) s = .next (resourceDone f s)) ∧
  (∀ (resource : Resource) (s : State), resource = .argon ∨ resource = .cutter → 
    exec (.resourceGrant resource) s = .next s) ∧
  (∀ (g : Ring) (readBack : Bool) (b : Bytes) (s : State), firstOf s.recorder g = some b → writesNow s g (seqOf b) = true → 
    exec (.recordWrite g readBack) s = .next 
      (clearSteps (releaseSteps (freezeSteps (modRecorder (fun r => let r := modRing g (fun x => x.write g b readBack) r; if readBack then { r with buffer := r.buffer.erase (g, b) } else r) s))))) ∧
  (∀ (g : Ring) (readBack : Bool) (b : Bytes) (s : State), firstOf s.recorder g = some b → writesNow s g (seqOf b) = false → 
    exec (.recordWrite g readBack) s = .next s) ∧
  (∀ (g : Ring) (readBack : Bool) (s : State), firstOf s.recorder g = none → 
    exec (.recordWrite g readBack) s = .next s) ∧
  (∀ (g : Ring) (s : State), (ringOf s.recorder g).pendingSuppressed ≠ [] ∨ (ringOf s.recorder g).pendingFurther ≠ 0 → ringToken (reach ((ringOf s.recorder g).lastSuppressed + second 1) s) g = true → 
    exec (.suppressedRecord g) s = .next 
      (modRecorder (modRing g fun x => { x with pendingSuppressed := [], pendingFurther := 0 })
        (record g 0x22 0 (suppressionBytes ((ringOf s.recorder g).pendingSuppressed.take 9) ++
          suppressionBytes [⟨0, 0, (((ringOf s.recorder g).pendingSuppressed.drop 9).map Suppression.count).sum + (ringOf s.recorder g).pendingFurther⟩]) (reach ((ringOf s.recorder g).lastSuppressed + second 1) s)))) ∧
  (∀ (g : Ring) (s : State), (ringOf s.recorder g).pendingSuppressed ≠ [] ∨ (ringOf s.recorder g).pendingFurther ≠ 0 → ringToken (reach ((ringOf s.recorder g).lastSuppressed + second 1) s) g = false → 
    exec (.suppressedRecord g) s = .next (reach ((ringOf s.recorder g).lastSuppressed + second 1) s)) ∧
  (∀ (g : Ring) (s : State), (ringOf s.recorder g).pendingSuppressed = [] → (ringOf s.recorder g).pendingFurther = 0 → 
    exec (.suppressedRecord g) s = .next s) ∧
  (∀ (f : FreezeSt) (t : Nat) (s : State), s.recorder.freeze = some f → f.since = some t → 
    exec (.freezeTimeout) s = .next (endFreeze 2 none (reach (t + second 60) s))) ∧
  (∀ (s : State), s.recorder.freeze = none → exec (.freezeTimeout) s = .next s) ∧
  (∀ (t : ClearTicket) (s : State), s.recorder.ticket = some t → 
    exec (.clearTicketExpiry) s = .next (modRecorder (fun r => { r with ticket := none }) (reach t.expires s))) ∧
  (∀ (s : State), s.recorder.ticket = none → 
    exec (.clearTicketExpiry) s = .next s) ∧
  (∀ (s : State), s.update.schedule ≠ 0 → s.update.axis = 1 → s.update.waitingSince = none → s.update.ownGates = none → hasMailbox s = true → isStaged (reachLocal s.update.schedule s) = false → 
    exec (.updateActivation) s = .next (unschedule (reachLocal s.update.schedule s))) ∧
  (∀ (s : State), s.update.schedule ≠ 0 → s.update.axis = 1 → s.update.waitingSince = none → s.update.ownGates = none → hasMailbox s = true → isStaged (reachLocal s.update.schedule s) = true → (reachLocal s.update.schedule s).clock.state = .unset → 
    exec (.updateActivation) s = .next (refuseActivation 0x0E12 (reachLocal s.update.schedule s))) ∧
  (∀ (status : Nat) (s : State), s.update.schedule ≠ 0 → s.update.axis = 1 → s.update.waitingSince = none → s.update.ownGates = none → hasMailbox s = true → isStaged (reachLocal s.update.schedule s) = true → (reachLocal s.update.schedule s).clock.state ≠ .unset → ownGate (reachLocal s.update.schedule s) = some status → 
    exec (.updateActivation) s = .next 
      (refuseActivation status (modPair (fun p => { p with partnerGates := none }) (if ((reachLocal s.update.schedule s).pair.enabled && changesSlipstream (reachLocal s.update.schedule s)) then slipstream 2 (le 1 11 ++ le 1 0) (reachLocal s.update.schedule s) else (reachLocal s.update.schedule s))))) ∧
  (∀ (s : State), s.update.schedule ≠ 0 → s.update.axis = 1 → s.update.waitingSince = none → s.update.ownGates = none → hasMailbox s = true → isStaged (reachLocal s.update.schedule s) = true → (reachLocal s.update.schedule s).clock.state ≠ .unset → ownGate (reachLocal s.update.schedule s) = none → ((reachLocal s.update.schedule s).pair.enabled && changesSlipstream (reachLocal s.update.schedule s)) = true → pairPackageGate (reachLocal s.update.schedule s) = true → 
    exec (.updateActivation) s = .next 
      (bothGates (modUpdate (fun u => { u with ownGates := some true }) (slipstream 2 (le 1 11 ++ le 1 1) (reachLocal s.update.schedule s))))) ∧
  (∀ (s : State), s.update.schedule ≠ 0 → s.update.axis = 1 → s.update.waitingSince = none → s.update.ownGates = none → hasMailbox s = true → isStaged (reachLocal s.update.schedule s) = true → (reachLocal s.update.schedule s).clock.state ≠ .unset → ownGate (reachLocal s.update.schedule s) = none → ((reachLocal s.update.schedule s).pair.enabled && changesSlipstream (reachLocal s.update.schedule s)) = true → pairPackageGate (reachLocal s.update.schedule s) = false → 
    exec (.updateActivation) s = .next 
      (refuseActivation 0x0E16 (slipstream 2 (le 1 11 ++ le 1 0) (reachLocal s.update.schedule s)))) ∧
  (∀ (s : State), s.update.schedule ≠ 0 → s.update.axis = 1 → s.update.waitingSince = none → s.update.ownGates = none → hasMailbox s = true → isStaged (reachLocal s.update.schedule s) = true → (reachLocal s.update.schedule s).clock.state ≠ .unset → ownGate (reachLocal s.update.schedule s) = none → ((reachLocal s.update.schedule s).pair.enabled && changesSlipstream (reachLocal s.update.schedule s)) = false → (reachLocal s.update.schedule s).pair.role = .active → (reachLocal s.update.schedule s).pair.present = true → 
    exec (.updateActivation) s = .next (modUpdate (fun u => { u with waitingSince := some (reachLocal s.update.schedule s).time }) (reachLocal s.update.schedule s))) ∧
  (∀ (s : State), s.update.schedule ≠ 0 → s.update.axis = 1 → s.update.waitingSince = none → s.update.ownGates = none → hasMailbox s = true → isStaged (reachLocal s.update.schedule s) = true → (reachLocal s.update.schedule s).clock.state ≠ .unset → ownGate (reachLocal s.update.schedule s) = none → ((reachLocal s.update.schedule s).pair.enabled && changesSlipstream (reachLocal s.update.schedule s)) = false → (reachLocal s.update.schedule s).pair.role = .active → (reachLocal s.update.schedule s).pair.present = false → 
    exec (.updateActivation) s = .next (refuseActivation 0x0E15 (reachLocal s.update.schedule s))) ∧
  (∀ (s : State), s.update.schedule ≠ 0 → s.update.axis = 1 → s.update.waitingSince = none → s.update.ownGates = none → hasMailbox s = true → isStaged (reachLocal s.update.schedule s) = true → (reachLocal s.update.schedule s).clock.state ≠ .unset → ownGate (reachLocal s.update.schedule s) = none → ((reachLocal s.update.schedule s).pair.enabled && changesSlipstream (reachLocal s.update.schedule s)) = false → (reachLocal s.update.schedule s).pair.role ≠ .active → 
    exec (.updateActivation) s = .next (beginActivation (reachLocal s.update.schedule s))) ∧
  (∀ (s : State), s.update.schedule = 0 → exec (.updateActivation) s = .next s) ∧
  (∀ (t : Nat) (s : State), s.update.waitingSince = some t → partnerReady s = true → s.pair.handoverAt = none → 
    exec (.updatePartnerWaitEnd) s = .next (armHandover s)) ∧
  (∀ (t : Nat) (s : State), s.update.waitingSince = some t → partnerReady s = true → s.pair.handoverAt.isSome = true → 
    exec (.updatePartnerWaitEnd) s = .next s) ∧
  (∀ (t : Nat) (s : State), s.update.waitingSince = some t → partnerReady s = false → 
    exec (.updatePartnerWaitEnd) s = .next (refuseActivation 0x0E15 (reach (t + second 3600) s))) ∧
  (∀ (s : State), s.update.waitingSince = none → 
    exec (.updatePartnerWaitEnd) s = .next s) ∧
  (∀ (s : State), s.update.onTrial = true → s.module.state ≠ .stowed → 
    exec (.updateTrialTimeout) s = .next 
      (let u := reach (s.module.bootAt + second 120) s
       modModule (fun m => { m with restartDue := some u.time }) (trialFail 2 u))) ∧
  (∀ (s : State), s.update.onTrial = false → 
    exec (.updateTrialTimeout) s = .next s)

/-- POSITION_TICK of a supplied module that is not Halted takes the next boundary's values 20 us after it, and marks, cues, functions,
monitor comparison and gates follow. 1 s clears a speed violation and proves standstill; a window closes at its open time; 5 s of bridging
make the position Invalid; an axle with 10000 clean ticks loses its fault; a time cue passes at its instant. A sampled input takes its new
level where both paths read it, each closed from 0.6 Un, open up to 0.3 Un and as before between them; a path that differs is an internal
fault, as is a failed path, switch, sense or parameter-CRC test or a test-pulse source; passed tests clear their faults. A pair discrepant
for its time is faulted. An output times out, trips, or is back-fed with its switches open; an untested switch is overdue after 24 h. The
field supply is seen low and back. The key's changes, its hold of 10 s, its discrepancy of 100 ms and 60 s of arming end the arming as R311
says. -/
def Obligations.PositionAndSafeIoFollowTheirEvents : Prop :=
  (∀ (t : TickSense) (s : State), s.module.state ≠ .stowed → s.module.state ≠ .halted → 
    exec (.positionTick t) s = .next 
      (let u := modPos (fun p => { p with tickAt := s.time }) (reachLocal (nextTick s) s)
       let u := signalPosition s.pos.state (reachLocal (nextTick s + 20 * usUnit) (modPos (unitTick (nextTick s) (s.module.state = .booting) t) u))
       let u := if u.pos.internalFault && !s.pos.internalFault then record .juridical 9 0 (le 1 1 ++ leInt 8 u.pos.counter) u else u
       evaluateGates (monitorTick t.monitorDiffers (functionsTick (outputsTick t.backFed (cueTick (nextTick s) s.pos.counter u.pos.counter (waitingTick u))))))) ∧
  (∀ (t : TickSense) (s : State), s.module.state = .stowed ∨ s.module.state = .halted → 
    exec (.positionTick t) s = .next s) ∧
  (∀ (t : Nat) (s : State), s.safety.speedClearFrom = some t → s.safety.speedViolated = true → positionInvalid s = false → 
    exec (.speedViolationClear) s = .next (evaluateGates (setSpeedViolated false (reach (t + second 1) s)))) ∧
  (∀ (s : State), s.safety.speedClearFrom = none ∨ s.safety.speedViolated = false ∨ positionInvalid s = true → 
    exec (.speedViolationClear) s = .next s) ∧
  (∀ (t : Nat) (s : State), s.safety.stillFrom = some t → s.safety.standstill = false → positionInvalid s = false → 
    exec (.standstillProven) s = .next (evaluateGates (proveStandstill (reach (t + second 1) s)))) ∧
  (∀ (s : State), s.safety.stillFrom = none ∨ s.safety.standstill = true ∨ positionInvalid s = true → 
    exec (.standstillProven) s = .next s) ∧
  (∀ (w : Nat) (x : Window) (s : State), Tbl.find s.safety.windows w = some x → windowField (params s) w 8 2 ≠ 0 → 
    exec (.windowOpenTimeExpiry w) s = .next (evaluateGates (closeWindow w (reach (x.since + second (windowField (params s) w 8 2)) s)))) ∧
  (∀ (w : Nat) (x : Window) (s : State), Tbl.find s.safety.windows w = some x → windowField (params s) w 8 2 = 0 → 
    exec (.windowOpenTimeExpiry w) s = .next s) ∧
  (∀ (w : Nat) (s : State), Tbl.find s.safety.windows w = none → 
    exec (.windowOpenTimeExpiry w) s = .next s) ∧
  (∀ (s : State), (s.pos.channel1.bridging.any fun g => 50000 ≤ g.total) = true → 
    exec (.bridgingLimit) s = .next 
      (evaluateGates (functionsTick (signalPosition s.pos.state (modPos (fun p => { p with state := .invalid }) (modPos (fun p => { p with channel1 := (if p.channel1.bridging.any fun g => 50000 ≤ g.total then { p.channel1 with bridging := p.channel1.bridging.map fun g => { g with tooLong := true }, state := .invalid } else p.channel1), channel2 := (if p.channel2.bridging.any fun g => 50000 ≤ g.total then { p.channel2 with bridging := p.channel2.bridging.map fun g => { g with tooLong := true }, state := .invalid } else p.channel2) }) s)))))) ∧
  (∀ (s : State), (s.pos.channel1.bridging.any fun g => 50000 ≤ g.total) = false → 
    exec (.bridgingLimit) s = .next (modPos (fun p => { p with channel1 := (if p.channel1.bridging.any fun g => 50000 ≤ g.total then { p.channel1 with bridging := p.channel1.bridging.map fun g => { g with tooLong := true }, state := .invalid } else p.channel1), channel2 := (if p.channel2.bridging.any fun g => 50000 ≤ g.total then { p.channel2 with bridging := p.channel2.bridging.map fun g => { g with tooLong := true }, state := .invalid } else p.channel2) }) s)) ∧
  (∀ (axle : Nat) (s : State), axle = 1 → 10000 ≤ s.pos.fault1.clean → 
    exec (.axleClean axle) s = .next (modPos (fun p => { p with fault1 := { p.fault1 with faulted := false } }) s)) ∧
  (∀ (axle : Nat) (s : State), axle = 1 → s.pos.fault1.clean < 10000 → 
    exec (.axleClean axle) s = .next s) ∧
  (∀ (axle : Nat) (s : State), axle ≠ 1 → 10000 ≤ s.pos.fault2.clean → 
    exec (.axleClean axle) s = .next (modPos (fun p => { p with fault2 := { p.fault2 with faulted := false } }) s)) ∧
  (∀ (axle : Nat) (s : State), axle ≠ 1 → s.pos.fault2.clean < 10000 → 
    exec (.axleClean axle) s = .next s) ∧
  (∀ (n : Nat) (s : State), (cueOf s n).awaits 1 = true → (cueOf s n).windowDue = false → 
    exec (.timeCue n) s = .next (timeCuePasses n (reachLocal (cueOf s n).instant s))) ∧
  (∀ (n : Nat) (s : State), (cueOf s n).awaits 1 = false ∨ (cueOf s n).windowDue = true → 
    exec (.timeCue n) s = .next s) ∧
  (∀ (i mv0 mv1 : Nat) (s : State), inputsSampled s = true → 
    exec (.safeInputChange i ⟨mv0, mv1⟩) s = .next 
      (let u := readPaths i mv0 mv1 s
       if (inputOf u i).path0 = (inputOf u i).path1 then changeInput i (inputOf u i).path0 u else u)) ∧
  (∀ (un mv : Nat) (previous : Bool), 0 < un → 
    (600 * un ≤ mv → pathReads un mv previous = true) ∧ (mv ≤ 300 * un → pathReads un mv previous = false) ∧ (300 * un < mv → mv < 600 * un → pathReads un mv previous = previous)) ∧
  (∀ (i : Nat) (s : State), inputsSampled s = true → 
    exec (.inputPathFault i) s = .next (internalFault 0x12 (i + 256 * 0xFF) s)) ∧
  (∀ (i path : Nat) (s : State), inputsSampled s = true → 
    exec (.inputPathTest i path true) s = .next (faultsGone (fun f => f = (0x12, i + 256 * path) || f = (0x12, i + 256 * 0xFF)) s)) ∧
  (∀ (i path : Nat) (s : State), inputsSampled s = true → 
    exec (.inputPathTest i path false) s = .next (internalFault 0x12 (i + 256 * path) s)) ∧
  (∀ (source : Nat) (readings : List PulseReading) (s : State), s.safety.testPulses = true → 
    exec (.testPulse source readings true) s = .next 
      (readings.foldl (fun t r => pulseRead source r t) (faultsGone (fun f => f = (0x14, source)) (reachLocal (pulseStart s source + 450 * usUnit)
        (modSafety (fun x => { x with pulsed := Tbl.put x.pulsed source (pulseStart s source) }) (emit (.darkPulse source) s)))))) ∧
  (∀ (source : Nat) (readings : List PulseReading) (s : State), s.safety.testPulses = true → 
    exec (.testPulse source readings false) s = .next 
      (internalFault 0x14 source (reachLocal (pulseStart s source + 450 * usUnit)
        (modSafety (fun x => { x with pulsed := Tbl.put x.pulsed source (pulseStart s source) }) (emit (.darkPulse source) s))))) ∧
  (∀ (source : Nat) (readings : List PulseReading) (ok : Bool) (s : State), s.safety.testPulses = false → 
    exec (.testPulse source readings ok) s = .next s) ∧
  (∀ (k t first : Nat) (s : State), pairFirst s (2 * k) = some first → (inputOf s (2 * k)).discrepantSince = some t → 
    exec (.pairDiscrepancyFault k) s = .next 
      (faultInput (2 * k) (reach (t + milli (inputField (params s) (2 * k) 6 2)) s))) ∧
  (∀ (k : Nat) (s : State), (inputOf s (2 * k)).discrepantSince = none → 
    exec (.pairDiscrepancyFault k) s = .next s) ∧
  (∀ (i t : Nat) (s : State), (outputOf s i).releasedAt = some t → (outputOf s i).timedOut = false → 
    exec (.outputTimeout i) s = .next (modOutput i (fun o => { o with timedOut := true }) (reach (t + outputTimeout s i) s))) ∧
  (∀ (i : Nat) (s : State), (outputOf s i).releasedAt = none ∨ (outputOf s i).timedOut = true → 
    exec (.outputTimeout i) s = .next s) ∧
  (∀ (i : Nat) (s : State), terminalOn s i = true → 
    exec (.overcurrentTrip i) s = .next (modOutput i (fun o => { o with tripped := true }) s)) ∧
  (∀ (i : Nat) (s : State), terminalOn s i = false → exec (.overcurrentTrip i) s = .next s) ∧
  (∀ (i : Nat) (s : State), inputsSampled s = true → Lane.all.any (pairOn s i) = false → 
    exec (.backFeedFault i) s = .next (modOutput i (fun o => { o with backFed := true, unfedSince := none }) s)) ∧
  (∀ (i : Nat) (s : State), Lane.all.any (pairOn s i) = true → 
    exec (.backFeedFault i) s = .next s) ∧
  (∀ (i w : Nat) (passed : Bool) (s : State), inputsSampled s = true → outputEnabled s i = true → s.safety.fieldLow = false → 
    exec (.switchTest i w passed false) s = .next (internalFault 0x11 i (endIoTests stOk 1 s))) ∧
  (∀ (i w : Nat) (passed : Bool) (s : State), inputsSampled s = true → outputEnabled s i = true → s.safety.fieldLow = false → switchTestable s i w = false → 
    exec (.switchTest i w passed true) s = .next (endIoTests stDeferred 0 s)) ∧
  (∀ (i w : Nat) (s : State), inputsSampled s = true → outputEnabled s i = true → s.safety.fieldLow = false → switchTestable s i w = true → 
    exec (.switchTest i w false true) s = .next (internalFault 0x10 (i + 256 * w) (endIoTests stOk 1 s))) ∧
  (∀ (i w : Nat) (s : State), inputsSampled s = true → outputEnabled s i = true → s.safety.fieldLow = false → switchTestable s i w = true → 
    exec (.switchTest i w true true) s = .next 
      (let u := faultsGone (fun f => f = (0x11, i) || f = (0x10, i + 256 * w)) s
       let u := modOutput i (fun o => { o with tested := Tbl.put o.tested w u.time, roundMask := o.roundMask ||| 2 ^ w }) u
       roundStep (modOutput i (fun o => { o with overdue := o.overdue && oldestTest u o + day ≤ u.time }) u))) ∧
  (∀ (i w : Nat) (passed sense : Bool) (s : State), inputsSampled s = false ∨ outputEnabled s i = false ∨ s.safety.fieldLow = true → 
    exec (.switchTest i w passed sense) s = .next s) ∧
  (∀ (i : Nat) (s : State), inputsSampled s = true → outputEnabled s i = true → (outputOf s i).overdue = false → 
    exec (.switchTestOverdue i) s = .next 
      (recordFunction 4 (le 1 i) (modOutput i (fun o => { o with overdue := true }) (reach (oldestTest s (outputOf s i) + day) s)))) ∧
  (∀ (i : Nat) (s : State), inputsSampled s = false ∨ outputEnabled s i = false ∨ (outputOf s i).overdue = true → 
    exec (.switchTestOverdue i) s = .next s) ∧
  (∀ (channel : Lane) (crc : Word64) (s : State), inputsSampled s = true → crc.toNat = paramCrc (params s) → 
    exec (.parameterCrcCheck channel crc) s = .next (faultsGone (fun f => f = (0x15, channel.num)) s)) ∧
  (∀ (channel : Lane) (crc : Word64) (s : State), inputsSampled s = true → crc.toNat ≠ paramCrc (params s) → 
    exec (.parameterCrcCheck channel crc) s = .next (internalFault 0x15 channel.num s)) ∧
  (∀ (i mv0 mv1 : Nat) (s : State), inputsSampled s = false → 
    exec (.safeInputChange i ⟨mv0, mv1⟩) s = .next s) ∧
  (∀ (i : Nat) (s : State), inputsSampled s = false → exec (.inputPathFault i) s = .next s) ∧
  (∀ (i path : Nat) (shown : Bool) (s : State), inputsSampled s = false → 
    exec (.inputPathTest i path shown) s = .next s) ∧
  (∀ (channel : Lane) (crc : Word64) (s : State), inputsSampled s = false → 
    exec (.parameterCrcCheck channel crc) s = .next s) ∧
  (∀ (volts : Nat) (s : State), inputsSampled s = true → fieldBelow s volts = true → s.safety.fieldLow = false → 
    exec (.fieldSupplyLow volts) s = .next (recordFunction 5 (le 2 volts) (seeField volts true s))) ∧
  (∀ (volts : Nat) (s : State), inputsSampled s = true → fieldBelow s volts = true → s.safety.fieldLow = true → 
    exec (.fieldSupplyLow volts) s = .next (seeField volts true s)) ∧
  (∀ (volts : Nat) (s : State), inputsSampled s = false ∨ fieldBelow s volts = false → 
    exec (.fieldSupplyLow volts) s = .next s) ∧
  (∀ (volts : Nat) (s : State), inputsSampled s = true → fieldBelow s volts = false → 
    exec (.fieldSupplyReturn volts) s = .next (seeField volts false s)) ∧
  (∀ (volts : Nat) (s : State), inputsSampled s = false ∨ fieldBelow s volts = true → 
    exec (.fieldSupplyReturn volts) s = .next s) ∧
  (∀ (a b : Bool) (t : Nat) (s : State), inputsSampled s = true → keyClosed s = true → (a && b) = false → s.safety.keyClosedAt = some t → 
    exec (.resetKeyChange a b) s = .next 
      (keyOpens t (modSafety (fun x => { x with
        keyA := a, keyB := b
        keyDiscrepantSince := if a == b then none else some (x.keyDiscrepantSince.getD s.time)
        keyClosedAt := if a && b then (if keyClosed s then x.keyClosedAt else some s.time) else none }) s))) ∧
  (∀ (a b : Bool) (s : State), inputsSampled s = true → keyClosed s = false ∨ (a && b) = true ∨ s.safety.keyClosedAt = none → 
    exec (.resetKeyChange a b) s = .next 
      (modSafety (fun x => { x with
        keyA := a, keyB := b
        keyDiscrepantSince := if a == b then none else some (x.keyDiscrepantSince.getD s.time)
        keyClosedAt := if a && b then (if keyClosed s then x.keyClosedAt else some s.time) else none }) s)) ∧
  (∀ (a b : Bool) (s : State), inputsSampled s = false → 
    exec (.resetKeyChange a b) s = .next s) ∧
  (∀ (g : Arming) (t : Nat) (s : State), s.safety.arming = some g → s.safety.keyClosedAt = some t → g.mustOpen = false → 
    exec (.resetKeyHoldLimit) s = .next (endArming 0x0612 (reach (t + second 10) s))) ∧
  (∀ (g : Arming) (t : Nat) (s : State), s.safety.arming = some g → s.safety.keyClosedAt = some t → g.mustOpen = true → 
    exec (.resetKeyHoldLimit) s = .next s) ∧
  (∀ (g : Arming) (t : Nat) (s : State), s.safety.arming = some g → s.safety.keyDiscrepantSince = some t → 
    exec (.resetKeyDiscrepancy) s = .next (endArming 0x0612 (reach (t + milli 100) s))) ∧
  (∀ (g : Arming) (s : State), s.safety.arming = some g → 
    exec (.resetKeyArmingTimeout) s = .next (endArming 0x0611 (reach (g.since + second 60) s))) ∧
  (∀ (s : State), s.safety.arming = none → exec (.resetKeyHoldLimit) s = .next s) ∧
  (∀ (s : State), s.safety.arming = none → 
    exec (.resetKeyDiscrepancy) s = .next s) ∧
  (∀ (s : State), s.safety.arming = none → 
    exec (.resetKeyArmingTimeout) s = .next s)

/-- A stream frame is taken by its stream, dropped at its channels, or counted as wrong. A channel without a sample for its timeout is
stale: it changes to its other live source or delivers its held value. An admitted dissolve starts with the next output; after its last
output the staged bank is active. A telegram is received and its maps fed; a request is answered with the data last released, is counted
while suspended, and goes to Reel where no publication answers it; a Standby answers none. A flow goes stale at its timeout; a scheduled
slot launches at its next launch instant. A request of message data on the command ComId is a command, and is counted while Reel restarts.
The heartbeat is sent each period. HELLOs are sent, received and missed; a new neighbour, three missed ones or a changed topology starts an
inauguration, and its completion loads counters, directory and relative addresses and is recorded. -/
def Obligations.StreamsTelegramsAndTheBackboneFollowTheirEvents : Prop :=
  (∀ (port : Nat) (b : Bytes) (s : State), signalRuns s = true → streamOk b = true → knownStream s (Bytes.beField b 4 2 % 4096) = true → 
    exec (.streamFrame port b) s = .next 
      (takeFrame (Bytes.beField b 4 2 % 4096) (Bytes.beField b 8 4) (sampleSets (Bytes.beField b 3 1) (Bytes.beField b 6 2) b) s)) ∧
  (∀ (port : Nat) (b : Bytes) (s : State), signalRuns s = true → knownStream s (Bytes.beField b 4 2 % 4096) = false → 
    exec (.streamFrame port b) s = .next (modSignal (fun x => { x with wrongFrames := x.wrongFrames + 1 }) s)) ∧
  (∀ (port : Nat) (b : Bytes) (s : State), signalRuns s = true → 4 ≤ port → port < 20 → streamOk b = false → knownStream s (Bytes.beField b 4 2 % 4096) = true → 
    exec (.streamFrame port b) s = .next 
      (modSignal (fun x => { x with channels := x.channels.map fun p => (p.1, if p.2.names (Bytes.beField b 4 2 % 4096) then { p.2 with framesDropped := p.2.framesDropped + 1 } else p.2) }) s)) ∧
  (∀ (port : Nat) (b : Bytes) (s : State), signalRuns s = false → exec (.streamFrame port b) s = .next s) ∧
  (∀ (c : Nat) (s : State), (chanOf s c).enabled = true → (chanOf s c).stale = false → signalRuns s = true → ((chanOf s c).config.autoSwitch && otherLive (modChan c (fun x => { x with staleEvents := x.staleEvents + 1 }) (reach (staleAt (chanOf s c) (chanOf s c).lastSample) s)) (chanOf s c)) = true → 
    exec (.channelStale c) s = .next 
      (endDissolve c (fun x => x.otherSource (lastArrival (modChan c (fun x => { x with staleEvents := x.staleEvents + 1 }) (reach (staleAt (chanOf s c) (chanOf s c).lastSample) s)) (if (chanOf s c).source = 0 then (chanOf s c).config.alternate else (chanOf s c).config.primary))) (modChan c (fun x => { x with staleEvents := x.staleEvents + 1 }) (reach (staleAt (chanOf s c) (chanOf s c).lastSample) s)))) ∧
  (∀ (c : Nat) (s : State), (chanOf s c).enabled = true → (chanOf s c).stale = false → signalRuns s = true → ((chanOf s c).config.autoSwitch && otherLive (modChan c (fun x => { x with staleEvents := x.staleEvents + 1 }) (reach (staleAt (chanOf s c) (chanOf s c).lastSample) s)) (chanOf s c)) = false → 
    exec (.channelStale c) s = .next 
      (deliverHeld c (modChan c (fun x => { x with stale := true }) (modChan c (fun x => { x with staleEvents := x.staleEvents + 1 }) (reach (staleAt (chanOf s c) (chanOf s c).lastSample) s))))) ∧
  (∀ (c : Nat) (s : State), (chanOf s c).enabled = false ∨ (chanOf s c).stale = true ∨ signalRuns s = false → 
    exec (.channelStale c) s = .next s) ∧
  (∀ (c : Nat) (s : State), dissolveAdmitted s c = true → 
    exec (.dissolveStart c) s = .next (startDissolve c ((chanOf s c).n / (chanOf s c).config.decimation + 1) s)) ∧
  (∀ (c : Nat) (s : State), dissolveAdmitted s c = false → 
    exec (.dissolveStart c) s = .next s) ∧
  (∀ (c : Nat) (d : Dissolve) (s : State), (chanOf s c).dissolve = some d → d.started = true → d.k = d.length → 
    exec (.dissolveComplete c) s = .next (endDissolve c (fun x => { x.adopt with dissolvesDone := x.dissolvesDone + 1 }) s)) ∧
  (∀ (c : Nat) (d : Dissolve) (s : State), (chanOf s c).dissolve = some d → d.started = false ∨ d.k ≠ d.length → 
    exec (.dissolveComplete c) s = .next s) ∧
  (∀ (c : Nat) (s : State), (chanOf s c).dissolve = none → 
    exec (.dissolveComplete c) s = .next s) ∧
  (∀ (t : Telegram) (n : Nat) (s : State), fabricRuns s = true → (receiveTelegram t s).2 = some n → 
    exec (.trdpPdReceive t) s = .next (feedMaps n (receiveTelegram t s).1)) ∧
  (∀ (t : Telegram) (s : State), fabricRuns s = true → (receiveTelegram t s).2 = none → 
    exec (.trdpPdReceive t) s = .next (receiveTelegram t s).1) ∧
  (∀ (t : Telegram) (s : State), fabricRuns s = true → s.pair.role ≠ .standby → t.udpPort = 17224 → t.fcsOk = true → t.protocolOk = true → t.kind = 2 → (s.net.flows.find? fun p => p.2.enabled && p.2.record.publishes && p.2.record.pull && p.2.record.comId = t.comId) = none → 
    exec (.trdpPrReceive t) s = .next (toReel s)) ∧
  (∀ (t : Telegram) (n : Nat) (f : Flow) (s : State), fabricRuns s = true → s.pair.role ≠ .standby → t.udpPort = 17224 → t.fcsOk = true → t.protocolOk = true → t.kind = 2 → (s.net.flows.find? fun p => p.2.enabled && p.2.record.publishes && p.2.record.pull && p.2.record.comId = t.comId) = some (n, f) → f.everReleased = true → suspendedNow s f = false → 
    exec (.trdpPrReceive t) s = .next (sendTelegram n 1 t.source f f.data s)) ∧
  (∀ (t : Telegram) (n : Nat) (f : Flow) (s : State), fabricRuns s = true → s.pair.role ≠ .standby → t.udpPort = 17224 → t.fcsOk = true → t.protocolOk = true → t.kind = 2 → (s.net.flows.find? fun p => p.2.enabled && p.2.record.publishes && p.2.record.pull && p.2.record.comId = t.comId) = some (n, f) → f.everReleased = true → suspendedNow s f = true → 
    exec (.trdpPrReceive t) s = .next (modFlow n (fun f => { f with suspended := f.suspended + 1 }) s)) ∧
  (∀ (t : Telegram) (n : Nat) (f : Flow) (s : State), fabricRuns s = true → s.pair.role ≠ .standby → t.udpPort = 17224 → t.fcsOk = true → t.protocolOk = true → t.kind = 2 → (s.net.flows.find? fun p => p.2.enabled && p.2.record.publishes && p.2.record.pull && p.2.record.comId = t.comId) = some (n, f) → f.everReleased = false → 
    exec (.trdpPrReceive t) s = .next s) ∧
  (∀ (t : Telegram) (s : State), s.pair.role = .standby → exec (.trdpPrReceive t) s = .next s) ∧
  (∀ (session comId : Nat) (envelope : Bytes) (s : State), hasMailbox s = true → reelRuns s = true → comId = s.mbx.commandComId → isPeer s session = true → 32 ≤ envelope.length → 
    exec (.messageDataReceive session comId envelope) s = .next (receive commands (Bytes.field envelope 6 2) (envelopeMsg session envelope)
      (match (Tbl.find s.trust.sessions session).bind Session.context with | some c => countMessage c s | none => s))) ∧
  (∀ (session comId : Nat) (envelope : Bytes) (s : State), hasMailbox s = true → reelRuns s = false → 
    exec (.messageDataReceive session comId envelope) s = .next (toReel s)) ∧
  (∀ (session comId : Nat) (envelope : Bytes) (s : State), hasMailbox s = true → reelRuns s = true → comId ≠ s.mbx.commandComId ∨ isPeer s session = false ∨ envelope.length < 32 → 
    exec (.messageDataReceive session comId envelope) s = .next s) ∧
  (∀ (n : Nat) (f : Flow) (s : State), flowOf s n = some f → f.fresh = true → 
    exec (.flowFreshnessTimeout n) s = .next (modFlow n (fun f => { f with fresh := false }) (reach (flowStaleAt f) s))) ∧
  (∀ (n : Nat) (f : Flow) (s : State), flowOf s n = some f → f.fresh = false → 
    exec (.flowFreshnessTimeout n) s = .next s) ∧
  (∀ (n : Nat) (s : State), flowOf s n = none → exec (.flowFreshnessTimeout n) s = .next s) ∧
  (∀ (n : Nat) (f : Flow) (s : State), flowOf s n = some f → f.enabled = true → f.record.publishes = true → f.record.scheduled = true → s.pair.role ≠ .standby → slotMaps (reachLocal (nextLaunch f * 1000 * nsUnit) s) n = [] → 
    exec (.scheduledLaunch n) s = .next (launchFlow n (nextLaunch f) (launchData f (reachLocal (nextLaunch f * 1000 * nsUnit) s).time) (reachLocal (nextLaunch f * 1000 * nsUnit) s))) ∧
  (∀ (n : Nat) (f : Flow) (s : State), flowOf s n = some f → f.enabled = true → f.record.publishes = true → f.record.scheduled = true → s.pair.role ≠ .standby → slotMaps (reachLocal (nextLaunch f * 1000 * nsUnit) s) n ≠ [] → 
    exec (.scheduledLaunch n) s = .next 
      (launchFlow n (nextLaunch f) (mapData (reachLocal (nextLaunch f * 1000 * nsUnit) s) f (slotMaps (reachLocal (nextLaunch f * 1000 * nsUnit) s) n))
        (if (mapData (reachLocal (nextLaunch f * 1000 * nsUnit) s) f (slotMaps (reachLocal (nextLaunch f * 1000 * nsUnit) s) n)).isNone then countMapEmpty n (reachLocal (nextLaunch f * 1000 * nsUnit) s) else (reachLocal (nextLaunch f * 1000 * nsUnit) s)))) ∧
  (∀ (n : Nat) (f : Flow) (s : State), flowOf s n = some f → f.enabled = false ∨ f.record.publishes = false ∨ f.record.scheduled = false → 
    exec (.scheduledLaunch n) s = .next s) ∧
  (∀ (n : Nat) (s : State), flowOf s n = none → exec (.scheduledLaunch n) s = .next s) ∧
  (∀ (s : State), s.net.heartbeatOn = true → hasMailbox s = true → 
    exec (.heartbeat) s = .next 
      (let u := (modNet (fun n => { n with heartbeats := n.heartbeats + 1, heartbeatAt := (reach (s.net.heartbeatAt + milli s.net.heartbeatMs) s).time }) (reach (s.net.heartbeatAt + milli s.net.heartbeatMs) s))
       emit (.heartbeat (Config.moduleAddress (identifier u)) u.net.heartbeatComId u.net.heartbeatGroup (heartbeatData u)) u)) ∧
  (∀ (s : State), s.net.heartbeatOn = false ∨ hasMailbox s = false → 
    exec (.heartbeat) s = .next s) ∧
  (∀ (l : Nat) (s : State), lineRuns s l = true → 
    exec (.ttdpHelloSend l) s = .next 
      (let u := (reach ((lineOf s l).lastSent + milli (if (lineOf s l).fast then 10 else 100)) s)
       emit (.ttdp l (lineOf s l).fast) (modLine l (fun y => { y with lastSent := u.time }) u))) ∧
  (∀ (l neighbour : Nat) (s : State), lineRuns s l = true → (lineOf s l).neighbour = some neighbour → 
    exec (.ttdpHelloReceive l neighbour) s = .next (modLine l (fun y => { y with neighbour := some neighbour, lastHello := s.time, missed := 0, fast := false }) s)) ∧
  (∀ (l neighbour : Nat) (s : State), lineRuns s l = true → (lineOf s l).neighbour ≠ some neighbour → 
    exec (.ttdpHelloReceive l neighbour) s = .next (startInauguration (modLine l (fun y => { y with neighbour := some neighbour, lastHello := s.time, missed := 0, fast := false }) s))) ∧
  (∀ (l : Nat) (s : State), (lineOf s l).neighbour.isSome = true → lineRuns s l = true → (lineOf s l).fast = false → 
    exec (.ttdpHelloTimeout l) s = .next 
      (modLine l (fun y => { y with fast := true, missed := 0, lastHello := (reach ((lineOf s l).lastHello + milli 100) s).time }) (reach ((lineOf s l).lastHello + milli 100) s))) ∧
  (∀ (l : Nat) (s : State), (lineOf s l).neighbour.isSome = true → lineRuns s l = true → (lineOf s l).fast = true → (lineOf s l).missed < 2 → 
    exec (.ttdpHelloTimeout l) s = .next (modLine l (fun y => { y with missed := y.missed + 1, lastHello := (reach ((lineOf s l).lastHello + milli 10) s).time }) (reach ((lineOf s l).lastHello + milli 10) s))) ∧
  (∀ (l : Nat) (s : State), (lineOf s l).neighbour.isSome = true → lineRuns s l = true → (lineOf s l).fast = true → 2 ≤ (lineOf s l).missed → 
    exec (.ttdpHelloTimeout l) s = .next 
      (startInauguration (modLine l (fun y => { y with neighbour := none, missed := 0, fast := false }) (reach ((lineOf s l).lastHello + milli 10) s)))) ∧
  (∀ (l : Nat) (s : State), (lineOf s l).neighbour = none ∨ lineRuns s l = false → 
    exec (.ttdpHelloTimeout l) s = .next s) ∧
  (∀ (l : Nat) (s : State), lineRuns s l = false → exec (.ttdpHelloSend l) s = .next s) ∧
  (∀ (l neighbour : Nat) (s : State), lineRuns s l = false → 
    exec (.ttdpHelloReceive l neighbour) s = .next s) ∧
  (∀ (l : Nat) (s : State), lineRuns s l = true → reelRuns s = true → 
    exec (.topologyFrame l true) s = .next (startInauguration s)) ∧
  (∀ (l : Nat) (changed : Bool) (s : State), lineRuns s l = false ∨ reelRuns s = false ∨ changed = false → 
    exec (.topologyFrame l changed) s = .next s) ∧
  (∀ (d : Directory) (s : State), s.net.inaugurating.isSome = true → reelRuns s = true → 
    exec (.inaugurationComplete d) s = .next 
      (recordReel 0x0A 0 (le 4 d.etbTopo ++ le 4 d.opTrnTopo ++ le 1 d.own) (modNet (fun n => { n with inaugurating := none, directory := some d, etbTopo := d.etbTopo, opTrnTopo := d.opTrnTopo, flows := n.flows.map fun p => (p.1, if !p.2.record.atRelative then p.2 else
            let hit := d.addresses.find? fun a => a.1 = (d.own : Int) + p.2.record.relative
            { p.2 with address := hit.map fun a => a.2 ||| p.2.record.destination, noAddress := hit.isNone }) }) s))) ∧
  (∀ (d : Directory) (s : State), s.net.inaugurating = none ∨ reelRuns s = false → 
    exec (.inaugurationComplete d) s = .next s)

/-- A frame that arrives is counted; it is dropped under its cause, goes to Reel's port for a stream type, or is forwarded. A frame in
progress ends and the port starts the next. A learned entry ages out after the aging time. Gates change at the next gate event and a new
list takes over at its base. A launch guard band holds the class queues. A recovery function resets after its timeout; a latent error is
counted and recorded once. A link change sets the port, and one by which a direction is lost starts an inauguration; ports 32 and 33 are the
Slipstream ports, internal ports have no link. A relay whose read-back changes its verdict is noted, and a fault recorded. A cage that is
unreadable or above Level II stays at Level I with its port down. The Squall window holds the selected ports. A Slipstream fragment ends and
the next starts; the health report is sent. Where the fabric does not run, or the named thing is absent, nothing changes. -/
def Obligations.TheFabricFollowsItsEvents : Prop :=
  (∀ (p : Nat) (f : RxFrame) (cause : Nat) (s : State), fabricRuns s = true → ingressDrop (modPort p (fun x => { x with framesIn := x.framesIn + 1, octetsIn := x.octetsIn + f.bytes.length }) s) p f = some cause → cause = dropStream → 
    exec (.frameReceive p f) s = .next 
      (dropStreamFrame p (framePayload f.bytes) (countDrop p cause (modPort p (fun x => { x with framesIn := x.framesIn + 1, octetsIn := x.octetsIn + f.bytes.length }) s)))) ∧
  (∀ (p : Nat) (f : RxFrame) (cause : Nat) (s : State), fabricRuns s = true → ingressDrop (modPort p (fun x => { x with framesIn := x.framesIn + 1, octetsIn := x.octetsIn + f.bytes.length }) s) p f = some cause → cause ≠ dropStream → 
    exec (.frameReceive p f) s = .next (countDrop p cause (modPort p (fun x => { x with framesIn := x.framesIn + 1, octetsIn := x.octetsIn + f.bytes.length }) s))) ∧
  (∀ (p : Nat) (f : RxFrame) (s : State), fabricRuns s = true → ingressDrop (modPort p (fun x => { x with framesIn := x.framesIn + 1, octetsIn := x.octetsIn + f.bytes.length }) s) p f = none → frameType f.bytes = 0x88B6 → 
    exec (.frameReceive p f) s = .next 
      (enqueue 30 (framePriority (portOf (modPort p (fun x => { x with framesIn := x.framesIn + 1, octetsIn := x.octetsIn + f.bytes.length }) s) p).config f.bytes) p f.bytes (modPort p (fun x => { x with framesIn := x.framesIn + 1, octetsIn := x.octetsIn + f.bytes.length }) s))) ∧
  (∀ (p : Nat) (f : RxFrame) (s : State), fabricRuns s = true → ingressDrop (modPort p (fun x => { x with framesIn := x.framesIn + 1, octetsIn := x.octetsIn + f.bytes.length }) s) p f = none → frameType f.bytes ≠ 0x88B6 → 
    exec (.frameReceive p f) s = .next (admitFrame p f.bytes (modPort p (fun x => { x with framesIn := x.framesIn + 1, octetsIn := x.octetsIn + f.bytes.length }) s))) ∧
  (∀ (p : Nat) (f : RxFrame) (s : State), fabricRuns s = false → exec (.frameReceive p f) s = .next s) ∧
  (∀ (p t : Nat) (s : State), (portOf s p).sending = some t → 
    exec (.egressFrameDone p) s = .next (startNext p (modPort p (fun x => { x with sending := none }) (reach t s)))) ∧
  (∀ (p : Nat) (s : State), (portOf s p).sending = none → 
    exec (.egressFrameDone p) s = .next (startNext p s)) ∧
  (∀ (mac vlan : Nat) (e : Learned) (s : State), learnedEntry s mac vlan = some e → 
    exec (.fdbAging mac vlan) s = .next 
      (modNet (fun n => { n with learned := n.learned.filter fun x => !(x.mac = mac && x.vlan = vlan) })
        (reach (e.lastSeen + second s.net.aging) s))) ∧
  (∀ (mac vlan : Nat) (s : State), learnedEntry s mac vlan = none → 
    exec (.fdbAging mac vlan) s = .next s) ∧
  (∀ (p : Nat) (g : GateList) (s : State), (portOf s p).gates = some g → 
    exec (.gateEvent p) s = .next 
      (let now := localNow s
       let u := reachLocal (max now g.base - max now g.base % nsUnit + nextGateEvent g (gateOffset g now) * nsUnit) s
       startNext p (modPort p (fun x => { x with gateMask := gateMaskAt g (gateOffset g (localNow u)) }) u))) ∧
  (∀ (p : Nat) (s : State), (portOf s p).gates = none → exec (.gateEvent p) s = .next s) ∧
  (∀ (p : Nat) (g : GateList) (s : State), (portOf s p).gatesNext = some g → 
    exec (.gateListTakeover p) s = .next 
      (startNext p (modPort p (fun x => { x with gates := if g.entries.isEmpty then none else some g, gatesNext := none,
                                                 gateMask := gateMaskAt g 0 }) (reachLocal g.base s)))) ∧
  (∀ (p : Nat) (s : State), (portOf s p).gatesNext = none → 
    exec (.gateListTakeover p) s = .next s) ∧
  (∀ (p instant : Nat) (s : State), 
    exec (.launchGuardBand p instant) s = .next 
      (modPort p (fun x => { x with guardUntil := max x.guardUntil instant }) (reach (instant - longestWire s p) s))) ∧
  (∀ (n : Nat) (f : Frer) (s : State), Tbl.find s.net.frer n = some f → f.recovery.isSome = true → f.highest.isSome = true → 
    exec (.frerResetTimeout n) s = .next 
      (modNet (fun x => { x with frer := Tbl.put x.frer n { f with highest := none, seen := [] } }) (reach (f.lastAccepted + milli f.resetMs) s))) ∧
  (∀ (n : Nat) (f : Frer) (s : State), Tbl.find s.net.frer n = some f → f.recovery = none ∨ f.highest = none → 
    exec (.frerResetTimeout n) s = .next s) ∧
  (∀ (n path t : Nat) (f : Frer) (s : State), Tbl.find s.net.frer n = some f → Tbl.find f.paths path = some t → f.recovery.isSome = true → f.latent.contains path = false → 
    exec (.frerLatentError n path) s = .next 
      (recordReel 0x0A path (le 2 n ++ le 1 path) (modNet (fun x => { x with frer := Tbl.put x.frer n { f with latent := f.latent ++ [path] }, latentErrors := x.latentErrors + 1 }) (reach (t + 2 * milli f.resetMs) s)))) ∧
  (∀ (n path t : Nat) (f : Frer) (s : State), Tbl.find s.net.frer n = some f → Tbl.find f.paths path = some t → f.recovery.isSome = true → f.latent.contains path = true → 
    exec (.frerLatentError n path) s = .next s) ∧
  (∀ (n : Nat) (s : State), Tbl.find s.net.frer n = none → 
    exec (.frerResetTimeout n) s = .next s) ∧
  (∀ (n path : Nat) (s : State), Tbl.find s.net.frer n = none → 
    exec (.frerLatentError n path) s = .next s) ∧
  (∀ (port : Nat) (up : Bool) (rate : Nat) (s : State), s.module.state ≠ .stowed → s.module.state ≠ .halted → port = 32 ∨ port = 33 → 
    exec (.linkChange port up rate) s = .next (slipLink (port - 32) up s)) ∧
  (∀ (port : Nat) (up : Bool) (rate : Nat) (s : State), s.module.state ≠ .stowed → s.module.state ≠ .halted → port ≠ 32 → port ≠ 33 → internalPort port = false → ((portOf s port).up && !up && directionLost port (ptpLink port up (portLink port up rate s))) = true → 
    exec (.linkChange port up rate) s = .next (startInauguration (ptpLink port up (portLink port up rate s)))) ∧
  (∀ (port : Nat) (up : Bool) (rate : Nat) (s : State), s.module.state ≠ .stowed → s.module.state ≠ .halted → port ≠ 32 → port ≠ 33 → internalPort port = false → ((portOf s port).up && !up && directionLost port (ptpLink port up (portLink port up rate s))) = false → 
    exec (.linkChange port up rate) s = .next (ptpLink port up (portLink port up rate s))) ∧
  (∀ (port : Nat) (up : Bool) (rate : Nat) (s : State), s.module.state ≠ .stowed → s.module.state ≠ .halted → port ≠ 32 → port ≠ 33 → internalPort port = true → 
    exec (.linkChange port up rate) s = .next s) ∧
  (∀ (port : Nat) (up : Bool) (rate : Nat) (s : State), s.module.state = .stowed ∨ s.module.state = .halted → 
    exec (.linkChange port up rate) s = .next s) ∧
  (∀ (r : Nat) (closed : Bool) (s : State), closed = s.net.relaysOpen → hasBit s.net.relayFaults r = false → 
    exec (.relayReadback r closed) s = .next (record .general 0x0A 0 (le 1 r ++ le 1 (bit closed)) (modNet (fun n => { n with relayFaults := n.relayFaults ^^^ 2 ^ r }) s))) ∧
  (∀ (r : Nat) (closed : Bool) (s : State), closed ≠ s.net.relaysOpen → hasBit s.net.relayFaults r = true → 
    exec (.relayReadback r closed) s = .next (modNet (fun n => { n with relayFaults := n.relayFaults ^^^ 2 ^ r }) s)) ∧
  (∀ (r : Nat) (closed : Bool) (s : State), (closed = s.net.relaysOpen ↔ hasBit s.net.relayFaults r = true) → 
    exec (.relayReadback r closed) s = .next s) ∧
  (∀ (cage level : Nat) (s : State), level ≤ 2 → 
    exec (.sfpInsertion cage true level) s = .next (modNet (fun n => { n with cages := Tbl.put n.cages cage (level, true) }) s)) ∧
  (∀ (cage level : Nat) (readable : Bool) (s : State), readable = false ∨ 2 < level → cagePort cage < 28 → 
    exec (.sfpInsertion cage readable level) s = .next 
      (record .general 0x0A (cagePort cage) (le 1 cage ++ le 1 (bit readable) ++ le 1 level) (modPort (cagePort cage) (fun x => { x with up := false }) (modNet (fun n => { n with cages := Tbl.put n.cages cage (1, readable) }) s)))) ∧
  (∀ (cage level : Nat) (readable : Bool) (s : State), readable = false ∨ 2 < level → 28 ≤ cagePort cage → 
    exec (.sfpInsertion cage readable level) s = .next 
      (record .general 0x0A (cagePort cage) (le 1 cage ++ le 1 (bit readable) ++ le 1 level) (modPair (fun q => { q with portsUp := q.portsUp &&& (3 - 2 ^ (cagePort cage - 32)) }) (modNet (fun n => { n with cages := Tbl.put n.cages cage (1, readable) }) s)))) ∧
  (∀ (s : State), s.test.squall = true → (s.test.backpressure.toNat / 2 ^ 16) ≠ 0 → (s.test.backpressure.toNat % 2 ^ 16) ≠ 0 → 
    exec (.backpressureWindow) s = .next 
      (let u := (reachLocal ((localNow s + (s.test.backpressure.toNat / 2 ^ 16) * 1000 * nsUnit - 1) / ((s.test.backpressure.toNat / 2 ^ 16) * 1000 * nsUnit) * ((s.test.backpressure.toNat / 2 ^ 16) * 1000 * nsUnit)) s)
       (squallPorts u).foldl (fun t p => modPort p (fun x => { x with heldUntil := u.time + micro (s.test.backpressure.toNat % 2 ^ 16) }) t) (countApplied u))) ∧
  (∀ (s : State), s.test.squall = false ∨ (s.test.backpressure.toNat / 2 ^ 16) = 0 ∨ (s.test.backpressure.toNat % 2 ^ 16) = 0 → 
    exec (.backpressureWindow) s = .next s) ∧
  (∀ (port t : Nat) (s : State), port < 2 → (slipPort s port).startAt = some t → 
    exec (.slipstreamFragmentDone port) s = .next (startFragment port (reach t s))) ∧
  (∀ (port : Nat) (s : State), port < 2 → (slipPort s port).startAt = none → 
    exec (.slipstreamFragmentDone port) s = .next (serveSlip port (modSlip port (fun x => { x with sending := false, lastAt := s.time }) s))) ∧
  (∀ (port : Nat) (s : State), 2 ≤ port → exec (.slipstreamFragmentDone port) s = .next s) ∧
  (∀ (s : State), slipLit s = true → 
    exec (.healthReportSend) s = .next (sendStatus s)) ∧
  (∀ (s : State), slipLit s = false → exec (.healthReportSend) s = .next s)

/-- In each basic period the master of a running bus that is no Standby polls the ports due, the device statuses due and the event phase. A
master frame is counted; the own status is answered, a listed device marked, a port of that size transmitted. A slave frame is counted by
line; a status is noted, a sink takes its data, and its reads and echoes are served. A sink goes stale at its freshness; a write ends at its
deadline with far error or time-out; a read times out after twice its period and 1 ms; a binding write that is not confirmed is counted and
recorded once; a semaphore expires. A mastership offer is taken by a candidate that is neither master nor Standby, else passed on. A Sync of
the followed grandmaster is counted and serves the servo of the source instance; Announces select a master, time out and are counted; a peer
delay is measured; a master port sends Sync and Announce, every port that is up Pdelay. Otherwise nothing changes. -/
def Obligations.TheMvbAndTheClockFollowTheirEvents : Prop :=
  (∀ (b : Nat) (s : State), busRuns s b = true → (busOf s b).master = true → s.pair.role ≠ .standby → 
    exec (.mvbBasicPeriod b) s = .next 
      (let u := countMissed b (reach ((busOf s b).periodAt + milli 1) s)
       let polls := (busPorts u b).filter fun p => p.2.enabled && (busOf s b).periods % p.2.record.period = p.2.record.phase
       let u := modBus b (fun y => { y with periods := y.periods + 1, periodAt := u.time }) u
       let u := polls.foldl (fun t p => sendPoll b p.2.record.size (handleAddress p.1) t) u
       let all := statusList u b
       let now := ((List.range all.length).filter fun k => (busOf s b).periods % (busOf s b).statusPeriod = k % (busOf s b).statusPeriod).filterMap fun k => all[k]?
       eventPhase b (now.foldl (fun t d => if d = ownDevice t b then sendPoll b 15 d t else markPolled b d (sendPoll b 15 d t)) u))) ∧
  (∀ (b : Nat) (s : State), busRuns s b = false ∨ (busOf s b).master = false ∨ s.pair.role = .standby → 
    exec (.mvbBasicPeriod b) s = .next s) ∧
  (∀ (b address : Nat) (s : State), busRuns s b = true → address = ownDevice (countMissed b (modBus b (fun x => { x with framesReceived := x.framesReceived + 1 }) s)) b → 
    exec (.mvbMasterFrame b 15 address) s = .next 
      (emit (.mvb b 15 address (le 2 (drawn (countMissed b (modBus b (fun x => { x with framesReceived := x.framesReceived + 1 }) s))))) (modBus b (fun x => { x with framesSent := x.framesSent + 1 }) (afterDraw (countMissed b (modBus b (fun x => { x with framesReceived := x.framesReceived + 1 }) s)))))) ∧
  (∀ (b address : Nat) (s : State), busRuns s b = true → address ≠ ownDevice (countMissed b (modBus b (fun x => { x with framesReceived := x.framesReceived + 1 }) s)) b → (statusList (countMissed b (modBus b (fun x => { x with framesReceived := x.framesReceived + 1 }) s)) b).contains address = true → 
    exec (.mvbMasterFrame b 15 address) s = .next (markPolled b address (countMissed b (modBus b (fun x => { x with framesReceived := x.framesReceived + 1 }) s)))) ∧
  (∀ (b address : Nat) (s : State), busRuns s b = true → address ≠ ownDevice (countMissed b (modBus b (fun x => { x with framesReceived := x.framesReceived + 1 }) s)) b → (statusList (countMissed b (modBus b (fun x => { x with framesReceived := x.framesReceived + 1 }) s)) b).contains address = false → 
    exec (.mvbMasterFrame b 15 address) s = .next (countMissed b (modBus b (fun x => { x with framesReceived := x.framesReceived + 1 }) s))) ∧
  (∀ (b fcode address : Nat) (p : MvbPort) (s : State), busRuns s b = true → fcode ≠ 15 → mvbPort (countMissed b (modBus b (fun x => { x with framesReceived := x.framesReceived + 1 }) s)) (b * 4096 + address) = some p → p.record.size = fcode → 
    exec (.mvbMasterFrame b fcode address) s = .next (transmit (b * 4096 + address) (countMissed b (modBus b (fun x => { x with framesReceived := x.framesReceived + 1 }) s)))) ∧
  (∀ (b fcode address : Nat) (p : MvbPort) (s : State), busRuns s b = true → fcode ≠ 15 → mvbPort (countMissed b (modBus b (fun x => { x with framesReceived := x.framesReceived + 1 }) s)) (b * 4096 + address) = some p → p.record.size ≠ fcode → 
    exec (.mvbMasterFrame b fcode address) s = .next (countMissed b (modBus b (fun x => { x with framesReceived := x.framesReceived + 1 }) s))) ∧
  (∀ (b fcode address : Nat) (s : State), busRuns s b = true → fcode ≠ 15 → mvbPort (countMissed b (modBus b (fun x => { x with framesReceived := x.framesReceived + 1 }) s)) (b * 4096 + address) = none → 
    exec (.mvbMasterFrame b fcode address) s = .next (countMissed b (modBus b (fun x => { x with framesReceived := x.framesReceived + 1 }) s))) ∧
  (∀ (b fcode address : Nat) (s : State), busRuns s b = false → 
    exec (.mvbMasterFrame b fcode address) s = .next s) ∧
  (∀ (b fcode address : Nat) (data : Bytes) (s : State), busRuns s b = true → 
    exec (.mvbSlaveFrame b fcode address data false false) s = .next (modBus b (fun x => { x with lines := bit false + 2 * bit false, oneLine := x.oneLine + bit (false != false), errorsA := x.errorsA + bit (!false), errorsB := x.errorsB + bit (!false) }) s)) ∧
  (∀ (b address : Nat) (data : Bytes) (lineA lineB : Bool) (s : State), busRuns s b = true → lineA = true ∨ lineB = true → 
    exec (.mvbSlaveFrame b 15 address data lineA lineB) s = .next 
      (statusSeen b address (beNat (data.take 2)) (modBus b (fun x => { x with devices := Tbl.put x.devices address ⟨true, beNat (data.take 2), 0, false⟩ })
        (modBus b (fun x => { x with framesReceived := x.framesReceived + 1 }) (modBus b (fun x => { x with lines := bit lineA + 2 * bit lineB, oneLine := x.oneLine + bit (lineA != lineB), errorsA := x.errorsA + bit (!lineA), errorsB := x.errorsB + bit (!lineB) }) s))))) ∧
  (∀ (b fcode address : Nat) (data : Bytes) (lineA lineB : Bool) (p : MvbPort) (s : State), busRuns s b = true → lineA = true ∨ lineB = true → fcode ≠ 15 → mvbPort (modBus b (fun x => { x with framesReceived := x.framesReceived + 1 }) (modBus b (fun x => { x with lines := bit lineA + 2 * bit lineB, oneLine := x.oneLine + bit (lineA != lineB), errorsA := x.errorsA + bit (!lineA), errorsB := x.errorsB + bit (!lineB) }) s)) (b * 4096 + address) = some p → p.record.size = fcode → data.length = p.record.bytes → p.enabled = true → p.record.direction = 2 → 
    exec (.mvbSlaveFrame b fcode address data lineA lineB) s = .next 
      (echoSeen (b * 4096 + address) data (serveReads (b * 4096 + address) data (if lineA && lineB then 0 else if lineA then 1 else 2)
        (pulse 4 (b * 4096 + address) (modMvbPort (b * 4096 + address) (fun q => { q with data := data, receivedAt := some s.time, oneLine := lineA != lineB, fresh := true })
          (modBus b (fun x => { x with framesReceived := x.framesReceived + 1 }) (modBus b (fun x => { x with lines := bit lineA + 2 * bit lineB, oneLine := x.oneLine + bit (lineA != lineB), errorsA := x.errorsA + bit (!lineA), errorsB := x.errorsB + bit (!lineB) }) s))))))) ∧
  (∀ (b fcode address : Nat) (data : Bytes) (lineA lineB : Bool) (p : MvbPort) (s : State), busRuns s b = true → lineA = true ∨ lineB = true → fcode ≠ 15 → mvbPort (modBus b (fun x => { x with framesReceived := x.framesReceived + 1 }) (modBus b (fun x => { x with lines := bit lineA + 2 * bit lineB, oneLine := x.oneLine + bit (lineA != lineB), errorsA := x.errorsA + bit (!lineA), errorsB := x.errorsB + bit (!lineB) }) s)) (b * 4096 + address) = some p → p.record.size = fcode → data.length = p.record.bytes → p.enabled = true → p.record.direction ≠ 2 → 
    exec (.mvbSlaveFrame b fcode address data lineA lineB) s = .next 
      (echoSeen (b * 4096 + address) data (serveReads (b * 4096 + address) data (if lineA && lineB then 0 else if lineA then 1 else 2) (modBus b (fun x => { x with framesReceived := x.framesReceived + 1 }) (modBus b (fun x => { x with lines := bit lineA + 2 * bit lineB, oneLine := x.oneLine + bit (lineA != lineB), errorsA := x.errorsA + bit (!lineA), errorsB := x.errorsB + bit (!lineB) }) s))))) ∧
  (∀ (b fcode address : Nat) (data : Bytes) (lineA lineB : Bool) (p : MvbPort) (s : State), busRuns s b = true → lineA = true ∨ lineB = true → fcode ≠ 15 → mvbPort (modBus b (fun x => { x with framesReceived := x.framesReceived + 1 }) (modBus b (fun x => { x with lines := bit lineA + 2 * bit lineB, oneLine := x.oneLine + bit (lineA != lineB), errorsA := x.errorsA + bit (!lineA), errorsB := x.errorsB + bit (!lineB) }) s)) (b * 4096 + address) = some p → p.record.size ≠ fcode ∨ data.length ≠ p.record.bytes ∨ p.enabled = false → 
    exec (.mvbSlaveFrame b fcode address data lineA lineB) s = .next (modBus b (fun x => { x with framesReceived := x.framesReceived + 1 }) (modBus b (fun x => { x with lines := bit lineA + 2 * bit lineB, oneLine := x.oneLine + bit (lineA != lineB), errorsA := x.errorsA + bit (!lineA), errorsB := x.errorsB + bit (!lineB) }) s))) ∧
  (∀ (b fcode address : Nat) (data : Bytes) (lineA lineB : Bool) (s : State), busRuns s b = true → lineA = true ∨ lineB = true → fcode ≠ 15 → mvbPort (modBus b (fun x => { x with framesReceived := x.framesReceived + 1 }) (modBus b (fun x => { x with lines := bit lineA + 2 * bit lineB, oneLine := x.oneLine + bit (lineA != lineB), errorsA := x.errorsA + bit (!lineA), errorsB := x.errorsB + bit (!lineB) }) s)) (b * 4096 + address) = none → 
    exec (.mvbSlaveFrame b fcode address data lineA lineB) s = .next (modBus b (fun x => { x with framesReceived := x.framesReceived + 1 }) (modBus b (fun x => { x with lines := bit lineA + 2 * bit lineB, oneLine := x.oneLine + bit (lineA != lineB), errorsA := x.errorsA + bit (!lineA), errorsB := x.errorsB + bit (!lineB) }) s))) ∧
  (∀ (b fcode address : Nat) (data : Bytes) (lineA lineB : Bool) (s : State), busRuns s b = false → 
    exec (.mvbSlaveFrame b fcode address data lineA lineB) s = .next s) ∧
  (∀ (h : Nat) (p : MvbPort) (s : State), mvbPort s h = some p → p.fresh = true → p.record.direction = 2 → 
    exec (.mvbSinkStale h) s = .next 
      (modMvbPort h (fun q => { q with fresh := false }) (reach (p.receivedAt.getD 0 + milli p.record.freshness) s))) ∧
  (∀ (h : Nat) (p : MvbPort) (s : State), mvbPort s h = some p → p.fresh = false ∨ p.record.direction ≠ 2 → 
    exec (.mvbSinkStale h) s = .next s) ∧
  (∀ (h t : Nat) (p : MvbPort) (w : MvbWriteSt) (s : State), mvbPort s h = some p → p.write = some w → w.sent = some t → 
    exec (.mvbWriteDeadline h) s = .next 
      (finishWrite h (if w.differed then stFarError else stFarTimeout) w (reach (t + milli (writeTimeout s p.record)) s))) ∧
  (∀ (h : Nat) (p : MvbPort) (w : MvbWriteSt) (s : State), mvbPort s h = some p → p.write = some w → w.sent = none → 
    exec (.mvbWriteDeadline h) s = .next 
      (finishWrite h stFarTimeout w (reach (w.granted + 2 * milli (writeTimeout s p.record)) s))) ∧
  (∀ (h : Nat) (p : MvbPort) (s : State), mvbPort s h = some p → p.write = none → 
    exec (.mvbWriteDeadline h) s = .next s) ∧
  (∀ (h : Nat) (p : MvbPort) (r : Nat × Nat) (rest : Tbl Nat) (s : State), mvbPort s h = some p → p.reads = r :: rest → 
    exec (.mvbReadTimeout h) s = .next 
      (completeEntry r.1 stFarTimeout [] (modBus (handleBus h) (fun b => { b with readsTimedOut := b.readsTimedOut + 1 })
        (modMvbPort h (fun q => { q with reads := rest }) (reach (r.2 + milli (2 * p.record.period + 1)) s))))) ∧
  (∀ (h : Nat) (p : MvbPort) (s : State), mvbPort s h = some p → p.reads = [] → 
    exec (.mvbReadTimeout h) s = .next s) ∧
  (∀ (h t : Nat) (p : MvbPort) (s : State), mvbPort s h = some p → p.unconfirmedSince = some t → p.failed = false → 
    exec (.mvbBindingWriteFailure h) s = .next 
      (recordReel 0x0B h (le 2 h) (modBus (handleBus h) (fun b => { b with bindingFailures := b.bindingFailures + 1 })
        (modMvbPort h (fun q => { q with failed := true }) (reach (t + milli (writeTimeout s p.record)) s))))) ∧
  (∀ (h : Nat) (p : MvbPort) (s : State), mvbPort s h = some p → p.unconfirmedSince = none ∨ p.failed = true → 
    exec (.mvbBindingWriteFailure h) s = .next s) ∧
  (∀ (h : Nat) (s : State), mvbPort s h = none → exec (.mvbSinkStale h) s = .next s) ∧
  (∀ (h : Nat) (s : State), mvbPort s h = none → exec (.mvbWriteDeadline h) s = .next s) ∧
  (∀ (h : Nat) (s : State), mvbPort s h = none → exec (.mvbReadTimeout h) s = .next s) ∧
  (∀ (h : Nat) (s : State), mvbPort s h = none → 
    exec (.mvbBindingWriteFailure h) s = .next s) ∧
  (∀ (n : Nat) (x : Semaphore) (s : State), Tbl.find s.mvb.semaphores n = some x → 
    exec (.mvbLockExpiry n) s = .next (loseSemaphore n 0x0A14 (reach x.expires s))) ∧
  (∀ (n : Nat) (s : State), Tbl.find s.mvb.semaphores n = none → 
    exec (.mvbLockExpiry n) s = .next s) ∧
  (∀ (b : Nat) (s : State), busRuns s b = true → (busOf s b).candidate = true → s.pair.role ≠ .standby → (busOf s b).master = false → 
    exec (.mvbMastershipOffer b) s = .next 
      (modBus b (fun x => { x with master := true, gained := x.gained + 1, periods := 0, periodAt := s.time }) s)) ∧
  (∀ (b : Nat) (s : State), busRuns s b = true → (busOf s b).candidate = false ∨ s.pair.role = .standby ∨ (busOf s b).master = true → 
    exec (.mvbMastershipOffer b) s = .next (modBus b (fun x => { x with passed := x.passed + 1 }) s)) ∧
  (∀ (b : Nat) (s : State), busRuns s b = false → exec (.mvbMastershipOffer b) s = .next s) ∧
  (∀ (k : PtpSource) (m : SyncMeasure) (s : State), fabricRuns s = true → (instanceOf s k).grandmaster = some m.grandmaster → sourceInstance (modInstance k (fun x => { x with arb := m.arb }) ((slavePorts s k).foldl (fun t p => modPtpPort p (fun x => { x with syncReceived := x.syncReceived + 1, followUpReceived := x.followUpReceived + 1 }) t) s)) = some k → 
    exec (.ptpSync k m) s = .next 
      (servo k m (modInstance k (fun x => { x with arb := m.arb }) ((slavePorts s k).foldl (fun t p => modPtpPort p (fun x => { x with syncReceived := x.syncReceived + 1, followUpReceived := x.followUpReceived + 1 }) t) s)))) ∧
  (∀ (k : PtpSource) (m : SyncMeasure) (s : State), fabricRuns s = true → (instanceOf s k).grandmaster = some m.grandmaster → sourceInstance (modInstance k (fun x => { x with arb := m.arb }) ((slavePorts s k).foldl (fun t p => modPtpPort p (fun x => { x with syncReceived := x.syncReceived + 1, followUpReceived := x.followUpReceived + 1 }) t) s)) ≠ some k → 
    exec (.ptpSync k m) s = .next (modInstance k (fun x => { x with arb := m.arb }) ((slavePorts s k).foldl (fun t p => modPtpPort p (fun x => { x with syncReceived := x.syncReceived + 1, followUpReceived := x.followUpReceived + 1 }) t) s))) ∧
  (∀ (k : PtpSource) (m : SyncMeasure) (s : State), fabricRuns s = false ∨ (instanceOf s k).grandmaster ≠ some m.grandmaster → 
    exec (.ptpSync k m) s = .next s) ∧
  (∀ (k : PtpSource) (p : Nat) (a : AnnounceMsg) (s : State), fabricRuns s = true → portInstance p = some k → a.selected = true → 
    exec (.ptpAnnounce k p a) s = .next 
      (afterMaster (sourceMaster s) (modInstance k (fun x => { x with grandmaster := some a.grandmaster, stepsRemoved := a.steps, arb := a.arb })
        (selectPort k p (modPtpPort p (fun x => { x with announceReceived := x.announceReceived + 1 }) s))))) ∧
  (∀ (k : PtpSource) (p : Nat) (a : AnnounceMsg) (s : State), fabricRuns s = true → portInstance p = some k → a.selected = false → 
    exec (.ptpAnnounce k p a) s = .next 
      (modPtpPort p (fun x => { x with portState := if x.portState = ptpSlave then x.portState else ptpMaster }) (modPtpPort p (fun x => { x with announceReceived := x.announceReceived + 1 }) s))) ∧
  (∀ (k : PtpSource) (p : Nat) (s : State), fabricRuns s = true → portInstance p = some k → 
    exec (.ptpAnnounceTimeout k p) s = .next 
      (loseMaster k p ptpMaster (modPtpPort p (fun x => { x with announceTimeouts := x.announceTimeouts + 1 }) s))) ∧
  (∀ (k : PtpSource) (p : Nat) (a : AnnounceMsg) (s : State), fabricRuns s = false ∨ portInstance p ≠ some k → 
    exec (.ptpAnnounce k p a) s = .next s) ∧
  (∀ (k : PtpSource) (p : Nat) (s : State), fabricRuns s = false ∨ portInstance p ≠ some k → 
    exec (.ptpAnnounceTimeout k p) s = .next s) ∧
  (∀ (p delay : Nat) (capable : Bool) (k : PtpSource) (s : State), fabricRuns s = true → portInstance p = some k → 
    exec (.ptpPdelay p delay capable) s = .next 
      (modPtpPort p (fun x => { x with peerDelay := delay, asCapable := capable && (k = .etb || delay ≤ 800), pdelayReceived := x.pdelayReceived + 1 }) s)) ∧
  (∀ (p delay : Nat) (capable : Bool) (s : State), fabricRuns s = false ∨ portInstance p = none → 
    exec (.ptpPdelay p delay capable) s = .next s) ∧
  (∀ (p : Nat) (kind : PtpKind) (s : State), fabricRuns s = true → (portInstance p).isSome = true → portUp s p = true → kind = .pdelay ∨ (ptpPort s p).portState = ptpMaster → 
    exec (.ptpMessageSend p kind) s = .next 
      (emit (.ptp p kind) (modPtpPort p (fun x => match kind with
          | .sync => { x with syncSent := x.syncSent + 1, followUpSent := x.followUpSent + 1 }
          | .announce => { x with announceSent := x.announceSent + 1 }
          | .pdelay => { x with pdelaySent := x.pdelaySent + 1 }) s))) ∧
  (∀ (p : Nat) (kind : PtpKind) (s : State), fabricRuns s = false ∨ portInstance p = none ∨ portUp s p = false ∨ kind ≠ .pdelay ∧ (ptpPort s p).portState ≠ ptpMaster → 
    exec (.ptpMessageSend p kind) s = .next s)

/-- A HELLO forms the pair or, with a formation cause, notes it (recorded when it changes) and loses the partner; an unpaired module with
light sends HELLOs. CONTROL is applied, settings by the Standby; RESYNC brings configuration, image or state. A message of which a fragment
has not come with a tag that verifies is not heard; failed tags, second copies and lost fragments are counted. A SNAPSHOT in a Standby
aligns time and position, raises the epoch and opens its take or waits for the TAKE_END; a TAKE_END that is not whole fails the mirror.
TOKEN copies the token and acknowledges it; ACK releases what awaits it; TAKE_END acknowledges and decides. STATUS is stored, one of Solo
loses the partner. A KEEPALIVE is answered on an idle port and measures the link delay, and 1 s of light ends reason 4. A pair telegram
clears the misses; a missed supervised take counts, two take over, and one seen means that Slipstream is lost. T_to moves T_start; T_h hands
over, is disarmed, put off or carried out; a resynchronisation starts and is tried again. Otherwise nothing changes. -/
def Obligations.ThePairFollowsItsEvents : Prop :=
  (∀ (h : PairHello) (s : State), s.pair.enabled = true → slipLit s = true → formationCause h (modPair (fun p => { p with partnerGeneration := h.generation }) s) = 0 → 
    exec (.slipstreamHello h) s = .next (formPair h (modPair (fun p => { p with partnerGeneration := h.generation }) s))) ∧
  (∀ (h : PairHello) (s : State), s.pair.enabled = true → slipLit s = true → formationCause h (modPair (fun p => { p with partnerGeneration := h.generation }) s) ≠ 0 → 
    exec (.slipstreamHello h) s = .next 
      (partnerLost (modPair (fun p => { p with failure := formationCause h (modPair (fun p => { p with partnerGeneration := h.generation }) s) })
        (if (modPair (fun p => { p with partnerGeneration := h.generation }) s).pair.failure = formationCause h (modPair (fun p => { p with partnerGeneration := h.generation }) s) then (modPair (fun p => { p with partnerGeneration := h.generation }) s) else recordPair 0 (le 1 (formationCause h (modPair (fun p => { p with partnerGeneration := h.generation }) s))) (modPair (fun p => { p with partnerGeneration := h.generation }) s))))) ∧
  (∀ (h : PairHello) (s : State), s.pair.enabled = false ∨ slipLit s = false → 
    exec (.slipstreamHello h) s = .next s) ∧
  (∀ (s : State), s.pair.enabled = true → s.pair.present = false → s.pair.portsUp ≠ 0 → slipLit s = true → 
    exec (.slipstreamHelloSend) s = .next (sendSlip 1 (helloBody s) s)) ∧
  (∀ (s : State), s.pair.enabled = false ∨ s.pair.present = true ∨ s.pair.portsUp = 0 ∨ slipLit s = false → 
    exec (.slipstreamHelloSend) s = .next s) ∧
  (∀ (code : Nat) (payload : Bytes) (got : SlipArrival) (s u : State), wholeArrival got = true → u = countArrival got s → u.pair.present = true → 
    exec (.slipControl ⟨.settings code payload, got⟩) s = .next (asStandby (applySettings (code, payload)) u)) ∧
  (∀ (message : PairControl) (got : SlipArrival) (s u : State), wholeArrival got = true → u = countArrival got s → u.pair.present = true → (∀ code payload, message ≠ .settings code payload) → 
    exec (.slipControl ⟨message, got⟩) s = .next (applyControl message u)) ∧
  (∀ (t : Nat) (settings : Tbl Bytes) (forces : List Bytes) (tokens : List (Nat × Nat × Bytes)) (got : SlipArrival) (s u : State), wholeArrival got = true → u = countArrival got s → u.pair.present = true → 
    exec (.slipResync ⟨.configuration t settings forces tokens, got⟩) s = .next 
      (asStandby (fun u => if u.pair.resyncAt.isSome then applyConfiguration t settings forces tokens u else u) u)) ∧
  (∀ (object : Bytes) (got : SlipArrival) (s u : State), wholeArrival got = true → u = countArrival got s → u.pair.present = true → 
    exec (.slipResync ⟨.image object, got⟩) s = .next (asStandby (receiveImage object) u)) ∧
  (∀ (task : Nat) (records : Bytes) (crc : Word64) (got : SlipArrival) (s u : State), wholeArrival got = true → u = countArrival got s → u.pair.present = true → 
    exec (.slipResync ⟨.state task records crc, got⟩) s = .next (stateReceived task records crc u)) ∧
  (∀ (message : PairControl) (got : SlipArrival) (s u : State), wholeArrival got = true → u = countArrival got s → u.pair.present = false → 
    exec (.slipControl ⟨message, got⟩) s = .next u) ∧
  (∀ (message : PairResync) (got : SlipArrival) (s u : State), wholeArrival got = true → u = countArrival got s → u.pair.present = false → exec (.slipResync ⟨message, got⟩) s = .next u) ∧
  (∀ (issuer token reasons : Nat) (got : SlipArrival) (s u : State), wholeArrival got = true → u = countArrival got s → u.pair.present = false → 
    exec (.slipAck issuer token ⟨reasons, got⟩) s = .next u) ∧
  (∀ (report : Bytes) (got : SlipArrival) (s u : State), wholeArrival got = true → u = countArrival got s → u.pair.present = false → exec (.slipStatus ⟨report, got⟩) s = .next u) ∧
  (∀ (issuer token reasons : Nat) (got : SlipArrival) (s u : State), wholeArrival got = true → u = countArrival got s → u.pair.present = true → 
    exec (.slipAck issuer token ⟨reasons, got⟩) s = .next 
      (partnerReports reasons (releaseAwaiting (fun h => h.issuer = issuer && h.token = token) u))) ∧
  (∀ (report : Bytes) (got : SlipArrival) (s u : State), wholeArrival got = true → u = countArrival got s → u.pair.present = true → Bytes.field report 6 1 = 0 → 
    exec (.slipStatus ⟨report, got⟩) s = .next (partnerLost u)) ∧
  (∀ (report : Bytes) (got : SlipArrival) (s u : State), wholeArrival got = true → u = countArrival got s → u.pair.present = true → Bytes.field report 6 1 ≠ 0 → 
    exec (.slipStatus ⟨report, got⟩) s = .next 
      (partnerReports (Bytes.field report 4 2) (modPair (fun p => { p with partnerReport := report, partnerRunning := reportedImage report u }) u))) ∧
  (∀ (issuer token : Nat) (completion : Bytes) (got : SlipArrival) (s u : State), wholeArrival got = true → u = countArrival got s → u.pair.role = .standby → 
    exec (.slipToken issuer token ⟨completion, got⟩) s = .next (acknowledge issuer token (copyToken issuer token completion u))) ∧
  (∀ (issuer token : Nat) (completion : Bytes) (got : SlipArrival) (s u : State), wholeArrival got = true → u = countArrival got s → u.pair.role ≠ .standby → 
    exec (.slipToken issuer token ⟨completion, got⟩) s = .next u) ∧
  (∀ (task take : Nat) (s : State), s.pair.role ≠ .standby → 
    exec (.pairTelegram task take) s = .next s) ∧
  (∀ (port delay t : Nat) (got : SlipArrival) (s u v : State), wholeArrival got = true → u = countArrival got s → v = sendKeepalive port u → hasBit u.pair.portsUp port = true → v.pair.lightAt = some t → t + second 1 ≤ v.time → 
    exec (.slipKeepalive port ⟨delay, got⟩) s = .next 
      (setReason 4 false (setReason 0 true (modPair (fun p => { p with lightAt := none }) (modPair (fun p => { p with linkDelay := delay }) v))))) ∧
  (∀ (port delay t : Nat) (got : SlipArrival) (s u v : State), wholeArrival got = true → u = countArrival got s → v = sendKeepalive port u → hasBit u.pair.portsUp port = true → v.pair.lightAt = some t → v.time < t + second 1 → 
    exec (.slipKeepalive port ⟨delay, got⟩) s = .next (modPair (fun p => { p with linkDelay := delay }) v)) ∧
  (∀ (port delay : Nat) (got : SlipArrival) (s u v : State), wholeArrival got = true → u = countArrival got s → v = sendKeepalive port u → hasBit u.pair.portsUp port = true → v.pair.lightAt = none → 
    exec (.slipKeepalive port ⟨delay, got⟩) s = .next (modPair (fun p => { p with linkDelay := delay }) v)) ∧
  (∀ (port delay : Nat) (got : SlipArrival) (s u : State), wholeArrival got = true → u = countArrival got s → hasBit u.pair.portsUp port = false → 
    exec (.slipKeepalive port ⟨delay, got⟩) s = .next u) ∧
  (∀ (task take : Nat) (s : State), s.pair.role = .standby → supervisedNow s = task → Tbl.find s.pair.takeEnded task ≠ some take → s.pair.portsUp ≠ 0 → s.pair.telegramSeen = false → 
    exec (.pairTelegram task take) s = .next 
      (modPair (fun p => { p with telegramSeen := true }) (modPair (fun p => { p with misses := 0 }) s))) ∧
  (∀ (task take : Nat) (s : State), s.pair.role = .standby → supervisedNow s = task → Tbl.find s.pair.takeEnded task ≠ some take → s.pair.portsUp = 0 → 
    exec (.pairTelegram task take) s = .next 
      (let u := slipstreamLost (modPair (fun p => { p with misses := 0 }) s)
       let u := match u.pair.superviseT0 with
         | some t0 => superviseNext t0 u
         | none => u
       u)) ∧
  (∀ (task take : Nat) (s : State), s.pair.role = .standby → supervisedNow s = task → Tbl.find s.pair.takeEnded task ≠ some take → s.pair.portsUp ≠ 0 → s.pair.telegramSeen = true → 
    exec (.pairTelegram task take) s = .next 
      (let u := slipstreamLost (modPair (fun p => { p with misses := 0 }) s)
       let u := match u.pair.superviseT0 with
         | some t0 => superviseNext t0 u
         | none => u
       modPair (fun p => { p with telegramSeen := true }) u)) ∧
  (∀ (t0 : Nat) (r : TaskRec) (s : State), s.pair.role = .standby → s.pair.superviseT0 = some t0 → supervisedRec s = some r → s.pair.telegramSeen = true → 
    exec (.supervisedTakeMissed) s = .next (releaseEvery (slipstreamLost (superviseNext t0 (reach (t0 + micro (r.deadline + 200)) s))))) ∧
  (∀ (t0 : Nat) (r : TaskRec) (s : State), s.pair.role = .standby → s.pair.superviseT0 = some t0 → supervisedRec s = some r → s.pair.telegramSeen = false → 2 ≤ (releaseEvery (modPair (fun p => { p with misses := p.misses + 1 }) (superviseNext t0 (reach (t0 + micro (r.deadline + 200)) s)))).pair.misses → 
    exec (.supervisedTakeMissed) s = .next 
      (takeOver 0 (releaseEvery (modPair (fun p => { p with misses := p.misses + 1 }) (superviseNext t0 (reach (t0 + micro (r.deadline + 200)) s)))))) ∧
  (∀ (t0 : Nat) (r : TaskRec) (s : State), s.pair.role = .standby → s.pair.superviseT0 = some t0 → supervisedRec s = some r → s.pair.telegramSeen = false → (releaseEvery (modPair (fun p => { p with misses := p.misses + 1 }) (superviseNext t0 (reach (t0 + micro (r.deadline + 200)) s)))).pair.misses < 2 → 
    exec (.supervisedTakeMissed) s = .next (releaseEvery (modPair (fun p => { p with misses := p.misses + 1 }) (superviseNext t0 (reach (t0 + micro (r.deadline + 200)) s))))) ∧
  (∀ (s : State), s.pair.role ≠ .standby ∨ s.pair.superviseT0 = none → 
    exec (.supervisedTakeMissed) s = .next s) ∧
  (∀ (t : Nat) (s : State), s.pair.takeoverAt = some t → 
    exec (.takeoverInstant) s = .next 
      (let u := modPair (fun p => { p with takeoverAt := none }) (reachLocal t s)
       gapCues (releaseEvents (rebaseRecut u.prog.tStartTimer (rebase t TaskRec.offset (modProg (fun p => { p with tStartLocal := t }) u)))).2)) ∧
  (∀ (s : State), s.pair.takeoverAt = none → exec (.takeoverInstant) s = .next s) ∧
  (∀ (h : Nat) (s : State), s.pair.handoverAt = some h → (reachLocal (h * nsUnit) s).pair.role = .standby → (decide ((reachLocal (h * nsUnit) s).pair.reasons = 0) && handoverBarred (reachLocal (h * nsUnit) s)) = false → 
    exec (.handoverInstant) s = .next (takeHandover h (reachLocal (h * nsUnit) s))) ∧
  (∀ (h : Nat) (s : State), s.pair.handoverAt = some h → (reachLocal (h * nsUnit) s).pair.role = .standby → (decide ((reachLocal (h * nsUnit) s).pair.reasons = 0) && handoverBarred (reachLocal (h * nsUnit) s)) = true → 
    exec (.handoverInstant) s = .next (postponeHandover h (reachLocal (h * nsUnit) s))) ∧
  (∀ (h : Nat) (s : State), s.pair.handoverAt = some h → (reachLocal (h * nsUnit) s).pair.role ≠ .standby → partnerReady (reachLocal (h * nsUnit) s) = false → 
    exec (.handoverInstant) s = .next (modPair (fun p => { p with handoverAt := none }) (reachLocal (h * nsUnit) s))) ∧
  (∀ (h : Nat) (s : State), s.pair.handoverAt = some h → (reachLocal (h * nsUnit) s).pair.role ≠ .standby → partnerReady (reachLocal (h * nsUnit) s) = true → handoverBarred (reachLocal (h * nsUnit) s) = true → 
    exec (.handoverInstant) s = .next (postponeHandover h (reachLocal (h * nsUnit) s))) ∧
  (∀ (h : Nat) (s : State), s.pair.handoverAt = some h → (reachLocal (h * nsUnit) s).pair.role ≠ .standby → partnerReady (reachLocal (h * nsUnit) s) = true → handoverBarred (reachLocal (h * nsUnit) s) = false → 
    exec (.handoverInstant) s = .next (handoverStep (reachLocal (h * nsUnit) s))) ∧
  (∀ (s : State), s.pair.handoverAt = none → exec (.handoverInstant) s = .next s) ∧
  (∀ (rs : Nat) (s : State), s.pair.role = .active → s.pair.resyncAt = some rs → s.pair.resyncSent = false → 
    exec (.resyncStart) s = .next 
      (let u := (modPair (fun p => { p with resyncSent := true }) (reachLocal (rs * nsUnit) s))
       let u := slipstream 9 (configurationBody u) u
       exportIdle (if partnerHasImage u then u else slipstream 9 (le 1 1 ++ (slotOf u u.prog.slot).object) u))) ∧
  (∀ (s : State), s.pair.role ≠ .active ∨ s.pair.resyncAt = none ∨ s.pair.resyncSent = true → 
    exec (.resyncStart) s = .next s) ∧
  (∀ (t : Nat) (s : State), s.pair.resyncRetry = some t → mayArm (modPair (fun p => { p with resyncRetry := none }) (reach t s)) resyncBars = true → 
    exec (.resyncRetry) s = .next (armResync (modPair (fun p => { p with resyncRetry := none }) (reach t s)))) ∧
  (∀ (t : Nat) (s : State), s.pair.resyncRetry = some t → mayArm (modPair (fun p => { p with resyncRetry := none }) (reach t s)) resyncBars = false → 
    exec (.resyncRetry) s = .next (modPair (fun p => { p with resyncRetry := none }) (reach t s))) ∧
  (∀ (s : State), s.pair.resyncRetry = none → exec (.resyncRetry) s = .next s) ∧
  (∀ (issuer token : Nat) (completion : Bytes) (got : SlipArrival) (s : State), wholeArrival got = false → exec (.slipToken issuer token ⟨completion, got⟩) s = .next (countArrival got s)) ∧
  (∀ (message : PairControl) (got : SlipArrival) (s : State), wholeArrival got = false → exec (.slipControl ⟨message, got⟩) s = .next (countArrival got s)) ∧
  (∀ (message : PairResync) (got : SlipArrival) (s : State), wholeArrival got = false → exec (.slipResync ⟨message, got⟩) s = .next (countArrival got s)) ∧
  (∀ (issuer token reasons : Nat) (got : SlipArrival) (s : State), wholeArrival got = false → exec (.slipAck issuer token ⟨reasons, got⟩) s = .next (countArrival got s)) ∧
  (∀ (report : Bytes) (got : SlipArrival) (s : State), wholeArrival got = false → exec (.slipStatus ⟨report, got⟩) s = .next (countArrival got s)) ∧
  (∀ (port delay : Nat) (got : SlipArrival) (s : State), wholeArrival got = false → exec (.slipKeepalive port ⟨delay, got⟩) s = .next (countArrival got s)) ∧
  (∀ (m : PairSnapshot) (got : SlipArrival) (s u : State), wholeArrival got = true → u = countArrival got s → u.pair.role = .standby → waitsForEnd m (Tbl.find u.pair.forwarded m.task) (noteSnapshot m u) = false → 
    exec (.slipSnapshot ⟨m, got⟩) s = .next (openForwarded m (noteSnapshot m u))) ∧
  (∀ (m : PairSnapshot) (got : SlipArrival) (s u : State), wholeArrival got = true → u = countArrival got s → u.pair.role = .standby → waitsForEnd m (Tbl.find u.pair.forwarded m.task) (noteSnapshot m u) = true → 
    exec (.slipSnapshot ⟨m, got⟩) s = .next (let v := noteSnapshot m u; modPair (fun p => { p with waitingSnapshots := p.waitingSnapshots ++ [m] }) v)) ∧
  (∀ (m : PairSnapshot) (got : SlipArrival) (s : State), s.pair.role ≠ .standby ∨ wholeArrival got = false → exec (.slipSnapshot ⟨m, got⟩) s = .next (countArrival got s)) ∧
  (∀ (e : PairTakeEnd) (got : SlipArrival) (s u : State), wholeArrival got = true → u = countArrival got s → u.pair.role = .standby → 
    exec (.slipTakeEnd ⟨e, got⟩) s = .next (releaseWaiting e.task (endDecided e (noteEnd e (acknowledge 0 e.take u))))) ∧
  (∀ (e : PairTakeEnd) (got : SlipArrival) (s u : State), wholeArrival got = false → u = countArrival got s → u.pair.role = .standby → 
    exec (.slipTakeEnd ⟨e, got⟩) s = .next (releaseWaiting e.task (failMirror (acknowledge 0 e.take u)))) ∧
  (∀ (e : PairTakeEnd) (got : SlipArrival) (s : State), s.pair.role ≠ .standby → exec (.slipTakeEnd ⟨e, got⟩) s = .next (countArrival got s)) ∧
  (∀ (got : SlipArrival) (s : State), countArrival got s = modPair (fun p => { p with
      tagFailures := p.tagFailures + (got.copies.filter fun c => !c.tagOk).length,
      duplicates := p.duplicates + ((goodCopies got).length - ((List.range got.count).filter fun n => (goodCopies got).any fun c => c.fragment = n).length),
      lost0 := p.lost0 + lostOn got 0, lost1 := p.lost1 + lostOn got 1 }) s)
end

