-- ==== Sys2Proof/Laws/Bytes.lean ====
section
/-! SUPPORT. Lengths and fields of byte strings put together from little-endian pieces. -/

namespace Sys2Proof

@[simp] theorem le_length (n v : Nat) : (le n v).length = n := by
  induction n generalizing v with
  | zero => rfl
  | succ n ih => simp [le, ih]

@[simp] theorem be_length (n v : Nat) : (be n v).length = n := by simp [be]

@[simp] theorem leInt_length (n : Nat) (v : Int) : (leInt n v).length = n := by simp [leInt]

@[simp] theorem padTo_length (n : Nat) (b : Bytes) : (padTo n b).length = n := by
  simp only [padTo, List.length_append, List.length_take, List.length_replicate]
  omega

theorem leNat_le (n v : Nat) : leNat (le n v) = v % 256 ^ n := by
  induction n generalizing v with
  | zero => simp [le, leNat, Nat.mod_one]
  | succ n ih =>
    simp only [le, leNat, ih, BitVec.toNat_ofNat]
    have h : v % 256 % 2 ^ 8 = v % 256 := Nat.mod_mod _ 256
    rw [h, Nat.pow_succ', Nat.mod_mul]

/-- A field that is a whole little-endian piece. -/
@[simp] theorem field_le (n v : Nat) : Bytes.field (le n v) 0 n = v % 256 ^ n := by
  simp only [Bytes.field, List.drop_zero]
  rw [List.take_of_length_le (by simp), leNat_le]

@[simp] theorem field_leInt (n : Nat) (v : Int) : Bytes.field (leInt n v) 0 n = (v % (2 : Int) ^ (8 * n)).toNat % 256 ^ n := by
  simp [leInt]

/-- A field that lies in the first part of a string, and one that lies past it. -/
theorem field_left {a b : Bytes} {o n : Nat} (h : o + n ≤ a.length) : Bytes.field (a ++ b) o n = Bytes.field a o n := by
  simp only [Bytes.field]
  rw [List.drop_append_of_le_length (by omega), List.take_append_of_le_length (by simp; omega)]

theorem field_right {a b : Bytes} {o n : Nat} (h : a.length ≤ o) : Bytes.field (a ++ b) o n = Bytes.field b (o - a.length) n := by
  simp only [Bytes.field]
  rw [List.drop_append, List.drop_of_length_le h, List.nil_append]

/-- A one-byte field of a one-byte string. -/
@[simp] theorem field_byte (b : Byte) : Bytes.field [b] 0 1 = b.toNat := by simp [Bytes.field, leNat]

/-- A field of `n` bytes is below 256 to the n. -/
theorem leNat_lt (b : Bytes) : leNat b < 256 ^ b.length := by
  induction b with
  | nil => simp [leNat]
  | cons x b ih =>
    have h : x.toNat < 256 := x.isLt
    simp only [leNat, List.length_cons, Nat.pow_succ]
    omega

theorem field_lt (b : Bytes) (o n : Nat) : Bytes.field b o n < 256 ^ n :=
  Nat.lt_of_lt_of_le (leNat_lt _) (Nat.pow_le_pow_right (by decide) (by simp))

theorem field_mod (b : Bytes) (o n : Nat) : Bytes.field b o n % 256 ^ n = Bytes.field b o n := Nat.mod_eq_of_lt (field_lt b o n)

namespace Machine

@[simp] theorem taiBytes_length (v : Nat) : (taiBytes v).length = 12 := by simp [taiBytes]

end Machine

end Sys2Proof
end

