-- ==== Sys2Proof/Laws/Kpc.lean ====
section
/-! SUPPORT. What a KPC instruction leaves on a lane that runs a take: one lemma per shared operation. -/

namespace Sys2Proof.Machine

open Sys2Proof.Claims

theorem modLane_get (l : Lane) (f : LaneSt → LaneSt) (s : State) : modLane l (fun _ => f (laneOf s l)) s = modLane l f s := by
  cases l <;> rfl

/-- Operands as claims name them. -/
theorem get_operand {k : Kpc} {f : Frame} (h : k.frame.locals = f.locals) (t : MType) (n : Nat) : k.get t n = operand f t n := by
  simp only [Kpc.get, operand, h]
theorem intOf_operand (f : Frame) (t : MType) (n : Nat) : t.intOf (operand f t n) = integer f t n := rfl

/-- An instruction's meaning on a running take. -/
theorem kpc_runs {l : Lane} {s : State} {i : Image} {t : LaneTake} {f : Frame} {rest : List Frame} (h : Runs l s i t f rest) (words : Nat)
    (g : Kpc → KpcOut) :
    kpc l words g s = match g (seen words l s i t f rest) with
      | .next k => .next (modLane l (fun _ => k.finish) s)
      | .fault e => .fault e
      | .refused e => .refused e := by
  obtain ⟨h1, h2, h3⟩ := h
  simp only [kpc, h1, h2, seen]
  split
  · simp_all
  · rename_i a b c
    rw [h3] at c
    cases c
    rfl

/-- A data instruction that its types allow writes its result. -/
theorem kpcData_writes {l : Lane} {j : Instr} {words d : Nat} {result : Frame → Nat × Nat} (allowed : Bool) (g : Kpc → Result)
    (hj : ∀ s, exec j s = kpcData l words allowed d g s) (ha : allowed = true)
    (hg : ∀ (k : Kpc) (f : Frame), k.frame.locals = f.locals → g k = result f) : Writes l j words d result := by
  intro s i t f rest h _
  rw [hj, kpcData, if_pos ha, kpc_runs h, hg _ f rfl]
  refine congrArg _ ((congrArg (fun y => modLane l (fun _ => y) s) ?_).trans (modLane_get l _ s))
  beta_reduce
  generalize result f = r
  by_cases h : r.2 = 0 <;>
    simp [Kpc.write, Kpc.set, Kpc.raise, Kpc.finish, written, past, faulted, LaneTake.raise, h]
  all_goals rfl

/-- An instruction that moves on without a fault and without touching the lane otherwise. -/
theorem kpc_steps {l : Lane} {j : Instr} {words : Nat} {w : Image → LaneTake → Frame → Prop} {take : Image → LaneTake → Frame → LaneTake}
    {frames : Image → LaneTake → Frame → List Frame → List Frame} (g : Kpc → KpcOut) (hj : ∀ s, exec j s = kpc l words g s)
    (hg : ∀ (x : LaneSt) (m : LaneMbx) i t f rest, w i t f →
      ∃ k, g ⟨i, x, m, { t with frames := rest }, past f words, (f.function, f.position)⟩ = .next k ∧
        k.finish = x.setTake { take i t f with frames := settle i (frames i t f rest).length (frames i t f rest) }) : Steps l j w take frames := by
  intro s i t f rest h hw
  obtain ⟨k, h1, h2⟩ := hg (laneOf s l) (s.mbx.lanes.get l) i t f rest hw
  rw [hj, kpc_runs h, seen, h1]
  refine congrArg _ ((congrArg (fun y => modLane l (fun _ => y) s) h2).trans ?_)
  exact modLane_get l (fun x => x.setTake { take i t f with frames := settle i (frames i t f rest).length (frames i t f rest) }) s

theorem modLane_modLane (l : Lane) (f g : LaneSt → LaneSt) (s : State) : modLane l f (modLane l g s) = modLane l (fun x => f (g x)) s := by
  cases l <;> rfl

/-- An instruction that changes its lane besides the take. -/
theorem kpc_changes {l : Lane} {words : Nat} {s : State} {i : Image} {t t' : LaneTake} {f : Frame} {rest frames : List Frame}
    {g : Kpc → KpcOut} {k : Kpc} (u : LaneSt → LaneSt) (h : Runs l s i t f rest)
    (h1 : g (seen words l s i t f rest) = .next k)
    (h2 : k.finish = (u (laneOf s l)).setTake { t' with frames := settle i frames.length frames }) :
    kpc l words g s = .next (goesOn l i t' frames (modLane l u s)) := by
  rw [kpc_runs h, h1]
  refine congrArg _ ((congrArg (fun y => modLane l (fun _ => y) s) h2).trans ?_)
  exact (modLane_get l (fun x => (u x).setTake { t' with frames := settle i frames.length frames }) s).trans (modLane_modLane l (fun x => x.setTake { t' with frames := settle i frames.length frames }) u s).symm

theorem modLane_id (l : Lane) (s : State) : modLane l (fun x => x) s = s := by cases l <;> rfl

/-- An instruction that leaves its lane alone besides the take. -/
theorem kpc_moves {l : Lane} {words : Nat} {s : State} {i : Image} {t t' : LaneTake} {f : Frame} {rest frames : List Frame}
    {g : Kpc → KpcOut} {k : Kpc} (h : Runs l s i t f rest)
    (h1 : g (seen words l s i t f rest) = .next k)
    (h2 : k.finish = (laneOf s l).setTake { t' with frames := settle i frames.length frames }) :
    kpc l words g s = .next (goesOn l i t' frames s) := by
  have h3 := kpc_changes (fun x => x) h h1 h2
  rwa [modLane_id] at h3

theorem service_some {code d a : Nat} {g : Kpc → List Val → Option (Kpc × List Val)} {j : Kpc} {vs : List Val} {k : Kpc}
    (h : g k (k.args a ((serviceTypes code).getD ([], [])).1) = some (j, vs)) :
    (fun k : Kpc => match g k (k.args a ((serviceTypes code).getD ([], [])).1) with
      | some (j, vs) => (.next (j.results d vs) : KpcOut)
      | none => .next ((k.results d (((serviceTypes code).getD ([], [])).2.map fun _ => 0)).raise faultSvc)) k = .next (j.results d vs) := by
  simp only [h]

theorem service_none {code d a : Nat} {g : Kpc → List Val → Option (Kpc × List Val)} {k : Kpc}
    (h : g k (k.args a ((serviceTypes code).getD ([], [])).1) = none) :
    (fun k : Kpc => match g k (k.args a ((serviceTypes code).getD ([], [])).1) with
      | some (j, vs) => (.next (j.results d vs) : KpcOut)
      | none => .next ((k.results d (((serviceTypes code).getD ([], [])).2.map fun _ => 0)).raise faultSvc)) k =
      .next ((k.results d (((serviceTypes code).getD ([], [])).2.map fun _ => 0)).raise faultSvc) := by
  simp only [h]

end Sys2Proof.Machine
end

