-- ==== Sys2Proof/Laws/Events.lean ====
section
/-! SUPPORT. Small facts about the operations that events share. -/

namespace Sys2Proof.Machine

theorem modChannel_congr {l : Lane} {k : Nat} {f g : LaneChannel → LaneChannel} {s : State}
    (h : f ((s.mbx.lanes.get l).channel k) = g ((s.mbx.lanes.get l).channel k)) : modChannel l k f s = modChannel l k g s := by
  cases l <;> simp only [modChannel, modWindow, modMbx, PerLane.modify, PerLane.get] at h ⊢ <;> rw [h]

end Sys2Proof.Machine
end

