-- ==== Sys2Proof/Laws/Mailbox.lean ====
section
/-! SUPPORT. What acceptance does, said once: a command that arrives is executed on the state in which it was accepted. -/

namespace Sys2Proof.Machine

open Sys2Proof.Claims

theorem received_epoch (m : Msg) (x : Session) (s : State) : (received m x s).mbx.epoch = s.mbx.epoch := rfl
theorem taken_epoch (code : Nat) (m : Msg) (x : Session) (s : State) : (taken code m x s).mbx.epoch = s.mbx.epoch := rfl

/-- Acceptance touches nothing of the blocks. -/
theorem taken_prog (code : Nat) (m : Msg) (x : Session) (s : State) : (taken code m x s).prog = s.prog := rfl
theorem taken_module (code : Nat) (m : Msg) (x : Session) (s : State) : (taken code m x s).module = s.module := rfl
theorem taken_voter (code : Nat) (m : Msg) (x : Session) (s : State) : (taken code m x s).voter = s.voter := rfl
theorem taken_pair (code : Nat) (m : Msg) (x : Session) (s : State) : (taken code m x s).pair = s.pair := rfl
theorem taken_net (code : Nat) (m : Msg) (x : Session) (s : State) : (taken code m x s).net = s.net := rfl
theorem taken_lull (code : Nat) (m : Msg) (x : Session) (s : State) : (taken code m x s).trust.lull = s.trust.lull := rfl
theorem taken_floors (code : Nat) (m : Msg) (x : Session) (s : State) : (taken code m x s).trust.floors = s.trust.floors := rfl

/-- The execution of a command is its body's answer, concluded. -/
theorem run_eq (c : Command) (e : Entry) (s : State) : run c e s = conclude s.mbx.epoch e (c.body e s) := by
  unfold run conclude
  split <;> simp_all

/-- A command that arrives and finds a waiting place is executed. -/
theorem command_arrives {i : Issuers} {code : Nat} {m : Msg} {x : Session} {s : State} {c : Command} (h : arrives i code m x s = true)
    (hc : commands code = some c) (hi : c.issuers = i)
    (hb : c.busy (received m x s) (sessionIssuer m.session x) (m.payload.take m.length.toNat) = false) :
    command code m s = .next (conclude s.mbx.epoch (entered code m x s) (c.body (entered code m x s) (taken code m x s))) := by
  subst hi
  simp only [arrives, framed, Bool.and_eq_true, beq_iff_eq, Bool.not_eq_true'] at h
  obtain ⟨⟨⟨⟨⟨⟨⟨⟨⟨hm, hx⟩, hs⟩, hv⟩, hh⟩, ht⟩, he⟩, hd⟩, hf⟩, ha⟩ := h
  unfold command receive
  rw [hm, hx]
  simp only [hs, Bool.false_eq_true, if_false, hv, hh, bne_self_eq_false, Bool.not_true]
  change Host.Outcome.next (present commands (arrived code m x s) (received m x s)) = _
  unfold present
  rw [ht]
  have he' : ((arrived code m x s).epoch != (received m x s).mbx.epoch) = false := by
    rw [received_epoch, he]; simp
  have hd' : classDisabled (received m x s) (arrived code m x s).issuer (arrived code m x s).code = false := hd
  have hb' : c.busy (received m x s) (arrived code m x s).issuer (arrived code m x s).payload = false := hb
  have hc' : commands (arrived code m x s).code = some c := hc
  simp only [he', hd', hf, hc', hb', Bool.false_eq_true, if_false, Bool.not_true]
  unfold serve
  have hc'' : commands (newEntry (received m x s) (arrived code m x s)).code = some c := hc
  rw [hc'']
  have ha' : c.issuers.allow (accept (arrived code m x s) (received m x s)) (newEntry (received m x s) (arrived code m x s)).issuer
      (newEntry (received m x s) (arrived code m x s)).roles = true := ha
  simp only [ha', if_true]
  rw [run_eq]
  rfl

/-- A statement about an answer follows from the body of the command. -/
theorem answers_of_body {make : Msg → Instr} {i : Issuers} {code : Nat} {when_ : Entry → State → Bool}
    {answer : Entry → State → State × Reply} (c : Command) (hx : ∀ m s, exec (make m) s = command code m s) (hc : commands code = some c)
    (hi : c.issuers = i) (hb : ∀ s n p, c.busy s n p = false) (h : ∀ e t, when_ e t = true → c.body e t = answer e t) :
    Answers make i code when_ answer := fun m x s ha hw => by
  rw [hx, command_arrives ha hc hi (hb _ _ _), h _ _ hw]

/-- A statement about a report follows from the body of the command. -/
theorem reports_of_body {make : Msg → Instr} {i : Issuers} {code : Nat} {when_ : Entry → State → Bool} {length : Entry → State → Nat}
    {fields : Entry → State → List Field} (c : Command) (hx : ∀ m s, exec (make m) s = command code m s) (hc : commands code = some c)
    (hi : c.issuers = i) (hb : ∀ s n p, c.busy s n p = false)
    (h : ∀ e t, when_ e t = true → ∃ r, c.body e t = answers r t ∧ IsReport (length e t) (fields e t) r) :
    Reports make i code when_ length fields := fun m x s ha hw => by
  obtain ⟨r, hr, hl⟩ := h _ _ hw
  exact ⟨r, by rw [hx, command_arrives ha hc hi (hb _ _ _), hr]; rfl, hl⟩

/-- A row's command is received under its code; SESSION_LOGIN counts as an attempt first. -/
theorem rows_run {r : Row} (h : r ∈ rows) (m : Msg) (s : State) : exec (r.make m) s = command r.code m (offered r.code m s) := by
  simp only [rows, trustRows, moduleRows, laneRows, programRows, pairRows, safetyRows, positionRows, signalRows, netRows, mvbRows, timeRows,
    activationRows, recorderRows, updateRows, testRows, List.mem_append, List.mem_cons, List.not_mem_nil, or_false, or_assoc] at h
  repeat' (rcases h with h | h)
  all_goals rfl

/-- Every row has its command, for the issuers of its column. -/
theorem rows_served {r : Row} (h : r ∈ rows) : ∃ c, commands r.code = some c ∧ c.issuers = r.issuers := by
  simp only [rows, trustRows, moduleRows, laneRows, programRows, pairRows, safetyRows, positionRows, signalRows, netRows, mvbRows, timeRows,
    activationRows, recorderRows, updateRows, testRows, List.mem_append, List.mem_cons, List.not_mem_nil, or_false, or_assoc] at h
  repeat' (rcases h with h | h)
  all_goals exact ⟨_, rfl, rfl⟩

/-- Only SESSION_LOGIN has waiting places of its own. -/
theorem rows_idle {r : Row} (h : r ∈ rows) (hc : r.code ≠ 0x0201) {c : Command} (e : commands r.code = some c) (s : State) (n : Nat) (p : Bytes) :
    c.busy s n p = false := by
  simp only [rows, trustRows, moduleRows, laneRows, programRows, pairRows, safetyRows, positionRows, signalRows, netRows, mvbRows, timeRows,
    activationRows, recorderRows, updateRows, testRows, List.mem_append, List.mem_cons, List.not_mem_nil, or_false, or_assoc] at h
  repeat' (rcases h with h | h)
  all_goals first | exact absurd rfl hc | (cases e; rfl)

/-- A message that passes step 1 goes on to step 2. -/
theorem rows_presented {r : Row} (h : r ∈ rows) {m : Msg} {x : Session} {s : State} (hf : framed r.code m x (offered r.code m s) = true) :
    exec (r.make m) s = .next (present commands (arrived r.code m x (offered r.code m s)) (received m x (offered r.code m s))) := by
  rw [rows_run h]
  simp only [framed, Bool.and_eq_true, beq_iff_eq, Bool.not_eq_true'] at hf
  obtain ⟨⟨⟨⟨hm, hx⟩, hs⟩, hv⟩, hh⟩ := hf
  unfold command receive
  rw [hm, hx]
  simp only [hs, Bool.false_eq_true, if_false, hv, hh, bne_self_eq_false, Bool.not_true]
  rfl

theorem offered_epoch (code : Nat) (m : Msg) (s : State) : (offered code m s).mbx = s.mbx := by
  unfold offered countAttempt
  split
  · split <;> rfl
  · rfl

end Sys2Proof.Machine
end

