-- ==== Sys2Proof/Laws/Onward.lean ====
section
/-! SUPPORT. What every operation of the model keeps: the queue of waiting commands, time, draws and outputs that only go on, the epoch equal
to its stored value, and counters and version floors that never fall. One lemma for each operation of the machine; the operations that
change one block are here, the others in the files named after their modules. -/

namespace Sys2Proof.Machine

/-- Version floors of `l` that `m` does not fall below. -/
def FloorsLe (l m : List ((Nat × Bytes) × Nat)) : Prop :=
  ∀ k, ((l.find? fun f => f.1 = k).map Prod.snd).getD 0 ≤ ((m.find? fun f => f.1 = k).map Prod.snd).getD 0

/-- The stored epoch is the current one. -/
def EpochStored (m : MbxSt) : Prop := m.epoch = m.storedEpoch

/-- `t` lies onward of `s`. -/
structure Onward (s t : State) : Prop where
  pending : t.pending = s.pending
  time : s.time ≤ t.time
  draws : s.draws ≤ t.draws
  out : s.out <+: t.out
  epoch : EpochStored s.mbx → EpochStored t.mbx
  boots : s.module.bootCount ≤ t.module.bootCount
  floors : FloorsLe s.trust.floors t.trust.floors
  changes : s.safety.changeSequence ≤ t.safety.changeSequence

/-- The same of a step's outcome, of a body's answer, of the pairs that operations give, and of a command's body. -/
structure Onto (s : State) (o : Out) : Prop where
  out : ∀ t, o = .next t → Onward s t
structure Onward1 {α : Type} (s : State) (p : State × α) : Prop where
  out : Onward s p.1
structure Onward2 {α : Type} (s : State) (p : α × State) : Prop where
  out : Onward s p.2
structure Onward3 {α β : Type} (s : State) (p : α × β × State) : Prop where
  out : Onward s p.2.2
structure OnwardO (s : State) (o : Option State) : Prop where
  out : ∀ t, o = some t → Onward s t
structure OnwardC (c : Command) : Prop where
  body : ∀ e s t, Onward s t → Onward1 s (c.body e t)

theorem FloorsLe.refl (l : List ((Nat × Bytes) × Nat)) : FloorsLe l l := fun _ => le_rfl
theorem FloorsLe.trans {l m n : List ((Nat × Bytes) × Nat)} (h : FloorsLe l m) (g : FloorsLe m n) : FloorsLe l n := fun k => (h k).trans (g k)

theorem Onward.refl (s : State) : Onward s s := ⟨rfl, le_rfl, le_rfl, List.prefix_rfl, id, le_rfl, FloorsLe.refl _, le_rfl⟩

theorem Onward.trans {s t u : State} (h : Onward s t) (g : Onward t u) : Onward s u :=
  ⟨g.pending.trans h.pending, h.time.trans g.time, h.draws.trans g.draws, h.out.trans g.out, fun e => g.epoch (h.epoch e),
    h.boots.trans g.boots, h.floors.trans g.floors, h.changes.trans g.changes⟩

/-! ### How goals come apart -/

theorem onto_next {s t : State} (h : Onward s t) : Onto s (.next t) := ⟨fun _ e => by cases e; exact h⟩
theorem onto_refused {s : State} {r : Refusal} : Onto s (.refused r) := ⟨fun _ e => by cases e⟩
theorem onto_fault {s : State} {r : Fault} : Onto s (.fault r) := ⟨fun _ e => by cases e⟩
theorem onward1_mk {α : Type} {s t : State} {a : α} (h : Onward s t) : Onward1 s (t, a) := ⟨h⟩
theorem onward2_mk {α : Type} {s t : State} {a : α} (h : Onward s t) : Onward2 s (a, t) := ⟨h⟩
theorem onward3_mk {α β : Type} {s t : State} {a : α} {b : β} (h : Onward s t) : Onward3 s (a, b, t) := ⟨h⟩
theorem onwardO_some {s t : State} (h : Onward s t) : OnwardO s (some t) := ⟨fun _ e => by cases e; exact h⟩
theorem onwardO_none {s : State} : OnwardO s none := ⟨fun _ e => by cases e⟩

theorem onward_ite {s t u : State} {c : Prop} [Decidable c] (h : Onward s t) (g : Onward s u) : Onward s (if c then t else u) := by
  split <;> assumption
theorem onto_ite {s : State} {t u : Out} {c : Prop} [Decidable c] (h : Onto s t) (g : Onto s u) : Onto s (if c then t else u) := by
  split <;> assumption
theorem onward1_ite {α : Type} {s : State} {t u : State × α} {c : Prop} [Decidable c] (h : Onward1 s t) (g : Onward1 s u) :
    Onward1 s (if c then t else u) := by
  split <;> assumption
theorem onward2_ite {α : Type} {s : State} {t u : α × State} {c : Prop} [Decidable c] (h : Onward2 s t) (g : Onward2 s u) :
    Onward2 s (if c then t else u) := by
  split <;> assumption
theorem onward3_ite {α β : Type} {s : State} {t u : α × β × State} {c : Prop} [Decidable c] (h : Onward3 s t) (g : Onward3 s u) :
    Onward3 s (if c then t else u) := by
  split <;> assumption
theorem onwardO_ite {s : State} {t u : Option State} {c : Prop} [Decidable c] (h : OnwardO s t) (g : OnwardO s u) :
    OnwardO s (if c then t else u) := by
  split <;> assumption

/-- A fold over a list keeps it when each step does. -/
theorem onward_foldl {α : Type} {s t : State} {f : State → α → State} {l : List α} (hf : ∀ u a, Onward s u → Onward s (f u a))
    (h : Onward s t) : Onward s (l.foldl f t) := by
  induction l generalizing t with
  | nil => exact h
  | cons a l ih => exact ih (hf t a h)

theorem onward1_foldl {α β : Type} {s : State} {t : State × β} {f : State × β → α → State × β} {l : List α}
    (hf : ∀ u a, Onward1 s u → Onward1 s (f u a)) (h : Onward1 s t) : Onward1 s (l.foldl f t) := by
  induction l generalizing t with
  | nil => exact h
  | cons a l ih => exact ih (hf t a h)

theorem onward2_foldl {α β : Type} {s : State} {t : β × State} {f : β × State → α → β × State} {l : List α}
    (hf : ∀ u a, Onward2 s u → Onward2 s (f u a)) (h : Onward2 s t) : Onward2 s (l.foldl f t) := by
  induction l generalizing t with
  | nil => exact h
  | cons a l ih => exact ih (hf t a h)

theorem onward1_foldl_out {α β : Type} {s : State} {t : State × β} {f : State × β → α → State × β} {l : List α}
    (hf : ∀ u a, Onward1 s u → Onward1 s (f u a)) (h : Onward1 s t) : Onward s (l.foldl f t).1 := (onward1_foldl hf h).out

theorem onward2_foldl_out {α β : Type} {s : State} {t : β × State} {f : β × State → α → β × State} {l : List α}
    (hf : ∀ u a, Onward2 s u → Onward2 s (f u a)) (h : Onward2 s t) : Onward s (l.foldl f t).2 := (onward2_foldl hf h).out

/-- A fact about an intermediate state, and what follows from it. -/
theorem onward_cut {s y : State} {p : Prop} (hy : Onward s y) (hb : Onward s y → p) : p := hb hy

theorem onward1_cut {α : Type} {s : State} {y : State × α} {p : Prop} (hy : Onward1 s y) (hb : Onward1 s y → p) : p := hb hy
theorem onward2_cut {α : Type} {s : State} {y : α × State} {p : Prop} (hy : Onward2 s y) (hb : Onward2 s y → p) : p := hb hy
theorem onward3_cut {α β : Type} {s : State} {y : α × β × State} {p : Prop} (hy : Onward3 s y) (hb : Onward3 s y → p) : p := hb hy

/-- The state of a pair that an operation is known to give. -/
theorem onward1_of_eq {α : Type} {s t : State} {a : α} {x : State × α} (he : x = (t, a)) (hx : Onward1 s x) : Onward s t := by
  subst he; exact hx.out
theorem onward2_of_eq {α : Type} {s t : State} {a : α} {x : α × State} (he : x = (a, t)) (hx : Onward2 s x) : Onward s t := by
  subst he; exact hx.out
theorem onwardO_of_eq {s t : State} {x : Option State} (he : x = some t) (hx : OnwardO s x) : Onward s t := hx.out t he

/-! ### The operations that change one block -/

section
variable {s t : State} (h : Onward s t)
include h

theorem reach_onward (u : Nat) : Onward s (reach u t) := ⟨h.1, h.2.trans (le_max_left _ _), h.3, h.4, h.5, h.6, h.7, h.8⟩
theorem afterDraw_onward : Onward s (afterDraw t) := ⟨h.1, h.2, h.3.trans (Nat.le_succ _), h.4, h.5, h.6, h.7, h.8⟩
theorem emit_onward (o : Output) : Onward s (emit o t) := ⟨h.1, h.2, h.3, h.4.trans (List.prefix_append _ _), h.5, h.6, h.7, h.8⟩
theorem setLocal_onward (v : Nat) : Onward s (setLocal v t) := ⟨h.1, h.2, h.3, h.4, h.5, h.6, h.7, h.8⟩
theorem setAddend_onward (a : Nat) : Onward s (setAddend a t) := ⟨h.1, h.2, h.3, h.4, h.5, h.6, h.7, h.8⟩
theorem modClock_onward (f : ClockSt → ClockSt) : Onward s (modClock f t) := ⟨h.1, h.2, h.3, h.4, h.5, h.6, h.7, h.8⟩
theorem modRecorder_onward (f : RecorderSt → RecorderSt) : Onward s (modRecorder f t) := ⟨h.1, h.2, h.3, h.4, h.5, h.6, h.7, h.8⟩
theorem modTest_onward (f : TestSt → TestSt) : Onward s (modTest f t) := ⟨h.1, h.2, h.3, h.4, h.5, h.6, h.7, h.8⟩
theorem modVoter_onward (f : VoterSt → VoterSt) : Onward s (modVoter f t) := ⟨h.1, h.2, h.3, h.4, h.5, h.6, h.7, h.8⟩
theorem modProg_onward (f : ProgSt → ProgSt) : Onward s (modProg f t) := ⟨h.1, h.2, h.3, h.4, h.5, h.6, h.7, h.8⟩
theorem modAct_onward (f : ActSt → ActSt) : Onward s (modAct f t) := ⟨h.1, h.2, h.3, h.4, h.5, h.6, h.7, h.8⟩
theorem modPos_onward (f : PosSt → PosSt) : Onward s (modPos f t) := ⟨h.1, h.2, h.3, h.4, h.5, h.6, h.7, h.8⟩
theorem modSignal_onward (f : SignalSt → SignalSt) : Onward s (modSignal f t) := ⟨h.1, h.2, h.3, h.4, h.5, h.6, h.7, h.8⟩
theorem modPair_onward (f : PairSt → PairSt) : Onward s (modPair f t) := ⟨h.1, h.2, h.3, h.4, h.5, h.6, h.7, h.8⟩
theorem modNet_onward (f : NetSt → NetSt) : Onward s (modNet f t) := ⟨h.1, h.2, h.3, h.4, h.5, h.6, h.7, h.8⟩
theorem modMvb_onward (f : MvbSt → MvbSt) : Onward s (modMvb f t) := ⟨h.1, h.2, h.3, h.4, h.5, h.6, h.7, h.8⟩
theorem modUpdate_onward (f : UpdSt → UpdSt) : Onward s (modUpdate f t) := ⟨h.1, h.2, h.3, h.4, h.5, h.6, h.7, h.8⟩
theorem modLane_onward (l : Lane) (f : LaneSt → LaneSt) : Onward s (modLane l f t) := ⟨h.1, h.2, h.3, h.4, h.5, h.6, h.7, h.8⟩

theorem modModule_onward (f : ModuleSt → ModuleSt) (hf : t.module.bootCount ≤ (f t.module).bootCount) : Onward s (modModule f t) :=
  ⟨h.1, h.2, h.3, h.4, h.5, h.6.trans hf, h.7, h.8⟩
theorem modTrust_onward (f : TrustSt → TrustSt) (hf : FloorsLe t.trust.floors (f t.trust).floors) : Onward s (modTrust f t) :=
  ⟨h.1, h.2, h.3, h.4, h.5, h.6, h.7.trans hf, h.8⟩
theorem modMbx_onward (f : MbxSt → MbxSt) (hf : EpochStored t.mbx → EpochStored (f t.mbx)) : Onward s (modMbx f t) :=
  ⟨h.1, h.2, h.3, h.4, fun e => hf (h.5 e), h.6, h.7, h.8⟩
theorem modSafety_onward (f : SafetySt → SafetySt) (hf : t.safety.changeSequence ≤ (f t.safety).changeSequence) :
    Onward s (modSafety f t) :=
  ⟨h.1, h.2, h.3, h.4, h.5, h.6, h.7, h.8.trans hf⟩

end

end Sys2Proof.Machine
end

