-- ==== Sys2Proof/Laws/OnwardBlocks.lean ====
section
/-! SUPPORT. What every operation of the model keeps (Sys2Proof/Laws/Onward.lean):
the shared operations, the mailbox, the recorder, safe I/O and the activation controller. -/

namespace Sys2Proof.Machine

theorem openWindow_onward {s t : State} (h : Onward s t) (a0 : ℕ) : Onward s (openWindow a0 t) := by
  unfold openWindow
  repeat' (first | (intro y; clear_value y) | lift_lets | with_reducible exact h | with_reducible apply onward_ite
                 | with_reducible apply modSafety_onward | exact le_rfl)

theorem setTable_onward {s t : State} (h : Onward s t) (a0 : ℕ) (a1 : TokenTable) : Onward s (setTable a0 a1 t) := by
  unfold setTable
  repeat' (first | exact id | lift_lets | with_reducible exact h | with_reducible apply modMbx_onward)

theorem useKey_onward {s t : State} (h : Onward s t) (a0 : ℕ) : Onward s (useKey a0 t) := by
  unfold useKey
  repeat' (first | lift_lets | with_reducible exact h | with_reducible apply modPair_onward)

theorem modSlip_onward {s t : State} (h : Onward s t) (a0 : ℕ) (a1 : SlipPort → SlipPort) : Onward s (modSlip a0 a1 t) := by
  unfold modSlip
  repeat' (first | lift_lets | with_reducible exact h | with_reducible apply modPair_onward)

theorem startFragment_onward {s t : State} (h : Onward s t) (a0 : ℕ) : Onward s (startFragment a0 t) := by
  unfold startFragment
  repeat' (first | (intro y; clear_value y) | lift_lets | with_reducible exact h | with_reducible apply emit_onward
                 | with_reducible apply modSlip_onward | split)

theorem countApplied_onward {s t : State} (h : Onward s t) : Onward s (countApplied t) := by
  unfold countApplied
  repeat' (first | lift_lets | with_reducible exact h | with_reducible apply modTest_onward)

theorem serveSlip_onward {s t : State} (h : Onward s t) (a0 : ℕ) : Onward s (serveSlip a0 t) := by
  unfold serveSlip
  repeat' (first | (intro y; clear_value y) | lift_lets | with_reducible exact h | with_reducible apply onward_ite
                 | with_reducible apply startFragment_onward | with_reducible apply modSlip_onward | with_reducible apply countApplied_onward)

theorem sendSlipOn_onward {s t : State} (h : Onward s t) (a0 : ℕ) (a1 : ℕ) (a2 : Bytes) : Onward s (sendSlipOn a0 a1 a2 t) := by
  unfold sendSlipOn
  repeat' (first | (intro y; refine onward_cut (s := s) (y := y) ?_ ?_; rotate_left; (intro hy; clear_value y); rotate_right; subst y)
                 | (intro (y : _ → _); subst y; try beta_reduce) | (intro y; clear_value y) | lift_lets | with_reducible exact h
                 | with_reducible assumption | with_reducible apply useKey_onward | with_reducible apply modPair_onward
                 | with_reducible apply serveSlip_onward | with_reducible apply emit_onward)

theorem sendSlip_onward {s t : State} (h : Onward s t) (a0 : ℕ) (a1 : Bytes) : Onward s (sendSlip a0 a1 t) := by
  unfold sendSlip
  repeat' (first | lift_lets | with_reducible exact h | with_reducible apply sendSlipOn_onward)

theorem slipstream_onward {s t : State} (h : Onward s t) (a0 : ℕ) (a1 : Bytes) : Onward s (slipstream a0 a1 t) := by
  unfold slipstream
  repeat' (first | lift_lets | with_reducible exact h | with_reducible apply onward_ite | with_reducible apply sendSlip_onward)

theorem sendChannel_onward {s t : State} (h : Onward s t) (a0 : ℕ) (a1 : ℕ) (a2 : Bytes) : Onward s (sendChannel a0 a1 a2 t) := by
  unfold sendChannel
  repeat' (first | (intro y; refine onward_cut (s := s) (y := y) ?_ ?_; rotate_left; (intro hy; clear_value y); rotate_right; subst y) | exact id
                 | lift_lets | with_reducible exact h | with_reducible assumption | with_reducible apply onward_ite
                 | with_reducible apply countApplied_onward | with_reducible apply modMbx_onward)

theorem countMessage_onward {s t : State} (h : Onward s t) (a0 : ℕ) : Onward s (countMessage a0 t) := by
  unfold countMessage
  repeat' (first | exact FloorsLe.refl _ | lift_lets | with_reducible exact h | with_reducible apply modTrust_onward)

theorem sendNow_onward {s t : State} (h : Onward s t) (a0 : ℕ) (a1 : Bytes) : Onward s (sendNow a0 a1 t) := by
  unfold sendNow
  repeat' (first | lift_lets | with_reducible exact h | with_reducible apply emit_onward | with_reducible apply countMessage_onward | split)

theorem sendSession_onward {s t : State} (h : Onward s t) (a0 : ℕ) (a1 : Bool) (a2 : Bytes) : Onward s (sendSession a0 a1 a2 t) := by
  unfold sendSession
  repeat' (first | exact id | lift_lets | with_reducible exact h | with_reducible apply onward_ite | with_reducible apply sendNow_onward
                 | with_reducible apply modMbx_onward | with_reducible apply countApplied_onward)

theorem releaseCompletion_onward {s t : State} (h : Onward s t) (a0 : HeldCompletion) : Onward s (releaseCompletion a0 t) := by
  unfold releaseCompletion
  repeat' (first | intro _ | lift_lets | with_reducible exact h | with_reducible assumption | with_reducible apply onward_foldl
                 | with_reducible apply sendChannel_onward | with_reducible apply sendSession_onward | split)

theorem deliverCompletion_onward {s t : State} (h : Onward s t) (a0 : HeldCompletion) : Onward s (deliverCompletion a0 t) := by
  unfold deliverCompletion
  repeat' (first | lift_lets | with_reducible exact h | with_reducible apply onward_ite | with_reducible apply modPair_onward
                 | with_reducible apply releaseCompletion_onward)

theorem finish_onward {s t : State} (h : Onward s t) (a0 : ℕ) (a1 : Entry) (a2 : ℕ) (a3 : Bytes) : Onward s (finish a0 a1 a2 a3 t) := by
  unfold finish
  repeat' (first | (intro y; refine onward_cut (s := s) (y := y) ?_ ?_; rotate_left; (intro hy; clear_value y); rotate_right; subst y)
                 | (intro y; clear_value y) | exact id | lift_lets | with_reducible exact h | with_reducible assumption
                 | with_reducible apply onward_ite | with_reducible apply modMbx_onward | with_reducible apply setTable_onward
                 | with_reducible apply slipstream_onward | with_reducible apply deliverCompletion_onward)

theorem completeEntry_onward {s t : State} (h : Onward s t) (a0 : ℕ) (a1 : ℕ) (a2 : Bytes) : Onward s (completeEntry a0 a1 a2 t) := by
  unfold completeEntry
  repeat' (first | lift_lets | with_reducible exact h | with_reducible apply finish_onward | split)

theorem modWindow_onward {s t : State} (h : Onward s t) (a0 : Lane) (a1 : LaneMbx → LaneMbx) : Onward s (modWindow a0 a1 t) := by
  unfold modWindow
  repeat' (first | exact id | lift_lets | with_reducible exact h | with_reducible apply modMbx_onward)

theorem laneVoted_onward {s t : State} (h : Onward s t) (a0 : Lane) (a1 : ℕ) (a2 : ℕ) : Onward s (laneVoted a0 a1 a2 t) := by
  unfold laneVoted
  repeat' (first | lift_lets | with_reducible exact h | with_reducible apply modWindow_onward)

theorem makeRecord_onward {s t : State} (h : Onward s t) (a0 : Ring) (a1 : RecordFields) : Onward s (makeRecord a0 a1 t) := by
  unfold makeRecord
  repeat' (first | lift_lets | with_reducible exact h | with_reducible apply onward_ite | with_reducible apply modRecorder_onward)

theorem record_onward {s t : State} (h : Onward s t) (a0 : Ring) (a1 : ℕ) (a2 : ℕ) (a3 : Bytes) : Onward s (record a0 a1 a2 a3 t) := by
  unfold record
  repeat' (first | lift_lets | with_reducible exact h | with_reducible apply makeRecord_onward)

theorem reachLocal_onward {s t : State} (h : Onward s t) (a0 : ℕ) : Onward s (reachLocal a0 t) := by
  unfold reachLocal
  repeat' (first | lift_lets | with_reducible exact h | with_reducible apply reach_onward)

theorem pulse_onward {s t : State} (h : Onward s t) (a0 : ℕ) (a1 : ℕ) : Onward s (pulse a0 a1 t) := by
  unfold pulse
  repeat' (first | lift_lets | with_reducible exact h | with_reducible apply modAct_onward)

theorem changeLog_onward {s t : State} (h : Onward s t) (a0 : ℕ) (a1 : ℕ) (a2 : ℕ) (a3 : Bytes) (a4 : ℕ) (a5 : ℕ) :
    Onward s (changeLog a0 a1 a2 a3 a4 a5 t) := by
  unfold changeLog
  repeat' (first | (intro y; refine onward_cut (s := s) (y := y) ?_ ?_; rotate_left; (intro hy; clear_value y); rotate_right; subst y)
                 | (intro y; clear_value y) | lift_lets | with_reducible exact h | with_reducible assumption
                 | with_reducible apply modSafety_onward | with_reducible apply record_onward | exact Nat.le_succ _)

theorem writeFlag_onward {s t : State} (h : Onward s t) (a0 : Bytes) : Onward s (writeFlag a0 t) := by
  unfold writeFlag
  repeat' (first | lift_lets | with_reducible exact h | with_reducible apply modSafety_onward | exact le_rfl)

theorem flushSlip_onward {s t : State} (h : Onward s t) : Onward s (flushSlip t) := by
  unfold flushSlip
  repeat' (first | (intro (y : _ → _); subst y; try beta_reduce) | lift_lets | with_reducible exact h | with_reducible apply onward_ite
                 | with_reducible apply startFragment_onward)

theorem dropSession_onward {s t : State} (h : Onward s t) (a0 : ℕ) : Onward s (dropSession a0 t) := by
  unfold dropSession
  repeat' (first | (intro y; refine onward_cut (s := s) (y := y) ?_ ?_; rotate_left; (intro hy; clear_value y); rotate_right; subst y)
                 | exact FloorsLe.refl _ | exact id | lift_lets | with_reducible exact h | with_reducible assumption
                 | with_reducible apply modTrust_onward | with_reducible apply modMbx_onward | with_reducible apply modPair_onward
                 | with_reducible apply emit_onward | split)

theorem settleDropped_onward {s t : State} (h : Onward s t) : Onward s (settleDropped t) := by
  unfold settleDropped
  repeat' (first | intro _ | lift_lets | with_reducible exact h | with_reducible assumption | with_reducible apply onward_foldl
                 | with_reducible apply dropSession_onward)

theorem flushDelayed_onward {s t : State} (h : Onward s t) : Onward s (flushDelayed t) := by
  unfold flushDelayed
  repeat' (first | (intro y; refine onward_cut (s := s) (y := y) ?_ ?_; rotate_left; (intro hy; clear_value y); rotate_right; subst y)
                 | (intro y; clear_value y) | exact id | intro _ | lift_lets | with_reducible exact h | with_reducible assumption
                 | with_reducible apply onward_foldl | with_reducible apply modMbx_onward | with_reducible apply settleDropped_onward
                 | with_reducible apply sendNow_onward)

theorem testOff_onward {s t : State} (h : Onward s t) (a0 : ℕ) : Onward s (testOff a0 t) := by
  unfold testOff
  repeat' (first | (intro y; refine onward_cut (s := s) (y := y) ?_ ?_; rotate_left; (intro hy; clear_value y); rotate_right; subst y)
                 | (intro y; clear_value y) | lift_lets | with_reducible exact h | with_reducible assumption | with_reducible apply onward_ite
                 | with_reducible apply modTest_onward | with_reducible apply modNet_onward | with_reducible apply record_onward
                 | with_reducible apply flushSlip_onward | with_reducible apply flushDelayed_onward)

theorem allOutputsOff_onward {s t : State} (h : Onward s t) : Onward s (allOutputsOff t) := by
  unfold allOutputsOff
  repeat' (first | lift_lets | with_reducible exact h | with_reducible apply modSafety_onward | exact le_rfl)

theorem discardOne_onward {s t : State} (h : Onward s t) (a0 : ℕ) (a1 : ℕ) (a2 : ℕ) (a3 : Option ℕ) (a4 : List ℕ) :
    Onward s (discardOne a0 a1 a2 a3 a4 t) := by
  unfold discardOne
  repeat' (first | (intro y; refine onward_cut (s := s) (y := y) ?_ ?_; rotate_left; (intro hy; clear_value y); rotate_right; subst y)
                 | (intro y; clear_value y) | exact id | intro _ | lift_lets | with_reducible exact h | with_reducible assumption
                 | with_reducible apply onward_foldl | with_reducible apply setTable_onward | with_reducible apply modMbx_onward
                 | with_reducible apply sendChannel_onward | with_reducible apply sendSession_onward | split)

theorem freeUnvoted_onward {s t : State} (h : Onward s t) : Onward s (freeUnvoted t) := by
  unfold freeUnvoted
  repeat' (first | exact id | lift_lets | with_reducible exact h | with_reducible apply modMbx_onward)

theorem dropDead_onward {s t : State} (h : Onward s t) : Onward s (dropDead t) := by
  unfold dropDead
  repeat' (first | (intro y; refine onward_cut (s := s) (y := y) ?_ ?_; rotate_left; (intro hy; clear_value y); rotate_right; subst y)
                 | (intro (y : _ → _); subst y; try beta_reduce) | lift_lets | with_reducible exact h | with_reducible assumption
                 | with_reducible apply modSignal_onward | with_reducible apply modRecorder_onward | with_reducible apply modPos_onward
                 | with_reducible apply modTest_onward | with_reducible apply modVoter_onward | with_reducible apply modMvb_onward)

theorem dropOrphans_onward {s t : State} (h : Onward s t) : Onward s (dropOrphans t) := by
  unfold dropOrphans
  repeat' (first | (intro y; refine onward_cut (s := s) (y := y) ?_ ?_; rotate_left; (intro hy; clear_value y); rotate_right; subst y)
                 | (intro (y : _ → _); subst y; try beta_reduce) | lift_lets | with_reducible exact h | with_reducible assumption
                 | with_reducible apply dropDead_onward | with_reducible apply modMvb_onward)

theorem epochIncrement_onward {s t : State} (h : Onward s t) : Onward s (epochIncrement t) := by
  unfold epochIncrement
  repeat' (first | (intro y; refine onward_cut (s := s) (y := y) ?_ ?_; rotate_left; (intro hy; clear_value y); rotate_right; subst y)
                 | (intro y; clear_value y) | exact fun _ => rfl | intro _ | lift_lets | with_reducible exact h | with_reducible assumption
                 | with_reducible apply onward_foldl | with_reducible apply modMbx_onward | with_reducible apply discardOne_onward
                 | with_reducible apply pulse_onward | with_reducible apply freeUnvoted_onward | with_reducible apply dropOrphans_onward)

theorem epochAtBoundary_onward {s t : State} (h : Onward s t) : Onward s (epochAtBoundary t) := by
  unfold epochAtBoundary
  repeat' (first | lift_lets | with_reducible exact h | with_reducible apply onward_ite | with_reducible apply modVoter_onward
                 | with_reducible apply epochIncrement_onward)

theorem modOutput_onward {s t : State} (h : Onward s t) (a0 : ℕ) (a1 : SafeOutput → SafeOutput) : Onward s (modOutput a0 a1 t) := by
  unfold modOutput
  repeat' (first | lift_lets | with_reducible exact h | with_reducible apply modSafety_onward | exact le_rfl)

theorem closeWindows_onward {s t : State} (h : Onward s t) : Onward s (closeWindows t) := by
  unfold closeWindows
  repeat' (first | lift_lets | with_reducible exact h | with_reducible apply modSafety_onward | exact le_rfl)

theorem modInput_onward {s t : State} (h : Onward s t) (a0 : ℕ) (a1 : SafeInput → SafeInput) : Onward s (modInput a0 a1 t) := by
  unfold modInput
  repeat' (first | lift_lets | with_reducible exact h | with_reducible apply modSafety_onward | exact le_rfl)

theorem watchPair_onward {s t : State} (h : Onward s t) (a0 : ℕ) : Onward s (watchPair a0 t) := by
  unfold watchPair
  repeat' (first | (intro y; clear_value y) | lift_lets | with_reducible exact h | with_reducible apply modInput_onward)

theorem watchPairs_onward {s t : State} (h : Onward s t) : Onward s (watchPairs t) := by
  unfold watchPairs
  repeat' (first | intro _ | lift_lets | with_reducible exact h | with_reducible assumption | with_reducible apply onward_ite
                 | with_reducible apply onward_foldl | with_reducible apply watchPair_onward | with_reducible apply modInput_onward)

theorem testGate_onward {s t : State} (h : Onward s t) : Onward s (testGate t) := by
  unfold testGate
  repeat' (first | lift_lets | with_reducible exact h | with_reducible apply onward_ite | with_reducible apply testOff_onward)

theorem sourcesAtStart_onward {s t : State} (h : Onward s t) : Onward s (sourcesAtStart t) := by
  unfold sourcesAtStart
  repeat' (first | lift_lets | with_reducible exact h | with_reducible apply modAct_onward)

theorem cancelTargets_onward {s t : State} (h : Onward s t) (a0 : Entry → Bool) : Onward s (cancelTargets a0 t) := by
  unfold cancelTargets
  repeat' (first | (intro y; clear_value y) | exact id | intro _ | lift_lets | with_reducible exact h | with_reducible assumption
                 | with_reducible apply onward_foldl | with_reducible apply dropDead_onward | with_reducible apply completeEntry_onward
                 | with_reducible apply modMbx_onward)

theorem cancelTriggers_onward {s t : State} (h : Onward s t) (a0 : ℕ) (a1 : ℕ) : Onward s (cancelTriggers a0 a1 t) := by
  unfold cancelTriggers
  repeat' (first | lift_lets | with_reducible exact h | with_reducible apply cancelTargets_onward)

theorem fails_onward {s t : State} (h : Onward s t) (a0 : ℕ) : Onward1 s (fails a0 t) := by
  unfold fails
  repeat' (first | lift_lets | with_reducible exact h | with_reducible apply onward1_mk)

theorem fails_state {s t : State} (h : Onward s t) (a0 : ℕ) : Onward s (fails a0 t).1 :=
  (fails_onward h a0).out

theorem sized_onward {s t : State} (h : Onward s t) (a0 : ℕ) (a1 : Entry → State → State × Reply) (a2 : Entry) (g1 : ∀ e u, Onward s u → Onward1 s
    (a1 e u)) :
    Onward1 s (sized a0 a1 a2 t) := by
  unfold sized
  repeat' (first | lift_lets | with_reducible exact h | with_reducible apply onward1_mk | with_reducible apply fails_state
                 | (with_reducible apply Onward1.out; with_reducible apply g1) | split)

theorem sized_state {s t : State} (h : Onward s t) (a0 : ℕ) (a1 : Entry → State → State × Reply) (a2 : Entry) (g1 : ∀ e u, Onward s u → Onward1 s
    (a1 e u)) :
    Onward s (sized a0 a1 a2 t).1 :=
  (sized_onward h a0 a1 a2 g1).out

theorem modEntry_onward {s t : State} (h : Onward s t) (a0 : ℕ) (a1 : Entry → Entry) : Onward s (modEntry a0 a1 t) := by
  unfold modEntry
  repeat' (first | exact id | lift_lets | with_reducible exact h | with_reducible apply modMbx_onward)

theorem commitEntry_onward {s t : State} (h : Onward s t) (a0 : ℕ) : Onward s (commitEntry a0 t) := by
  unfold commitEntry
  repeat' (first | lift_lets | with_reducible exact h | with_reducible apply modEntry_onward)

theorem unproveAll_onward {s t : State} (h : Onward s t) : Onward s (unproveAll t) := by
  unfold unproveAll
  repeat' (first | lift_lets | with_reducible exact h | with_reducible apply modSafety_onward | exact le_rfl)

theorem answers_onward {s t : State} (h : Onward s t) (a0 : Bytes) : Onward1 s (answers a0 t) := by
  unfold answers
  repeat' (first | lift_lets | with_reducible exact h | with_reducible apply onward1_mk)

theorem answers_state {s t : State} (h : Onward s t) (a0 : Bytes) : Onward s (answers a0 t).1 :=
  (answers_onward h a0).out

theorem forwardChange_onward {s t : State} (h : Onward s t) (a0 : ℕ) (a1 : Bytes) : Onward s (forwardChange a0 a1 t) := by
  unfold forwardChange
  repeat' (first | lift_lets | with_reducible exact h | with_reducible apply onward_ite | with_reducible apply slipstream_onward)

theorem forwardSettings_onward {s t : State} (h : Onward s t) (a0 : Entry) : Onward s (forwardSettings a0 t) := by
  unfold forwardSettings
  repeat' (first | lift_lets | with_reducible exact h | with_reducible apply forwardChange_onward)

theorem evaluateGates_onward {s t : State} (h : Onward s t) : Onward s (evaluateGates t) := by
  unfold evaluateGates
  repeat' (first | intro _ | lift_lets | with_reducible exact h | with_reducible assumption | with_reducible apply onward_ite
                 | with_reducible apply onward_foldl | with_reducible apply modOutput_onward)

theorem modTask_onward {s t : State} (h : Onward s t) (a0 : ℕ) (a1 : TaskRun → TaskRun) : Onward s (modTask a0 a1 t) := by
  unfold modTask
  repeat' (first | lift_lets | with_reducible exact h | with_reducible apply modProg_onward)

theorem activateEvent_onward {s t : State} (h : Onward s t) (a0 : ℕ) : Onward s (activateEvent a0 t) := by
  unfold activateEvent
  repeat' (first | (intro y; clear_value y) | lift_lets | with_reducible exact h | with_reducible apply onward_ite
                 | with_reducible apply modTask_onward | split)

theorem releaseEvents_onward {s t : State} (h : Onward s t) : Onward2 s (releaseEvents t) := by
  unfold releaseEvents
  repeat' (first | (intro y; clear_value y) | intro _ | lift_lets | with_reducible exact h | with_reducible assumption
                 | with_reducible apply onward2_mk | with_reducible apply onward_foldl | with_reducible apply activateEvent_onward | split)

theorem releaseEvents_state {s t : State} (h : Onward s t) : Onward s (releaseEvents t).2 :=
  (releaseEvents_onward h).out

theorem endSession_onward {s t : State} (h : Onward s t) (a0 : ℕ) : Onward s (endSession a0 t) := by
  unfold endSession
  repeat' (first | lift_lets | with_reducible exact h | with_reducible apply onward_ite | with_reducible apply dropSession_onward
                 | with_reducible apply testOff_onward)

theorem countHeaderError_onward {s t : State} (h : Onward s t) : Onward s (countHeaderError t) := by
  unfold countHeaderError
  repeat' (first | exact id | lift_lets | with_reducible exact h | with_reducible apply modMbx_onward)

theorem answerArrival_onward {s t : State} (h : Onward s t) (a0 : Arrival) (a1 : ℕ) (a2 : ℕ) (a3 : ℕ) (a4 : Bytes) :
    Onward s (answerArrival a0 a1 a2 a3 a4 t) := by
  unfold answerArrival
  repeat' (first | (intro y; clear_value y) | lift_lets | with_reducible exact h | with_reducible apply sendChannel_onward
                 | with_reducible apply sendSession_onward | split)

theorem returnCredit_onward {s t : State} (h : Onward s t) (a0 : ℕ) (a1 : ℕ) : Onward s (returnCredit a0 a1 t) := by
  unfold returnCredit
  repeat' (first | exact id | lift_lets | with_reducible exact h | with_reducible apply modMbx_onward)

theorem refuseArrival_onward {s t : State} (h : Onward s t) (a0 : Arrival) (a1 : ℕ) : Onward s (refuseArrival a0 a1 t) := by
  unfold refuseArrival
  repeat' (first | (intro y; refine onward_cut (s := s) (y := y) ?_ ?_; rotate_left; (intro hy; clear_value y); rotate_right; subst y) | exact id
                 | lift_lets | with_reducible exact h | with_reducible assumption | with_reducible apply modMbx_onward
                 | with_reducible apply answerArrival_onward)

theorem Command.body_onward {s t : State} (h : Onward s t) (a0 : Command) (a1 : Entry) (g0 : OnwardC a0) : Onward1 s (a0.body a1 t) :=
  g0.body _ _ _ h

theorem Command.body_state {s t : State} (h : Onward s t) (a0 : Command) (a1 : Entry) (g0 : OnwardC a0) : Onward s (a0.body a1 t).1 :=
  (g0.body _ _ _ h).out

theorem run_onward {s t : State} (h : Onward s t) (a0 : Command) (a1 : Entry) (g0 : OnwardC a0) : Onward s (run a0 a1 t) := by
  unfold run
  repeat' (first | lift_lets | with_reducible exact h | with_reducible assumption | with_reducible apply onward1_mk
                 | with_reducible apply finish_onward | with_reducible apply modEntry_onward | with_reducible apply Command.body_state
                 | refine onward1_of_eq (by assumption) ?_ | split)

theorem serve_onward {s t : State} (h : Onward s t) (a0 : ℕ → Option Command) (a1 : Entry) (g0 : ∀ n c, a0 n = some c → OnwardC c) :
    Onward s (serve a0 a1 t) := by
  unfold serve
  repeat' (first | lift_lets | with_reducible exact h | with_reducible assumption | with_reducible apply onward_ite | with_reducible apply g0
                 | with_reducible apply finish_onward | with_reducible apply run_onward | split)

theorem accept_onward {s t : State} (h : Onward s t) (a0 : Arrival) : Onward s (accept a0 t) := by
  unfold accept
  repeat' (first | (intro y; refine onward_cut (s := s) (y := y) ?_ ?_; rotate_left; (intro hy; clear_value y); rotate_right; subst y)
                 | (intro y; clear_value y) | exact id | lift_lets | with_reducible exact h | with_reducible assumption
                 | with_reducible apply setTable_onward | with_reducible apply modMbx_onward)

theorem present_onward {s t : State} (h : Onward s t) (a0 : ℕ → Option Command) (a1 : Arrival) (g0 : ∀ n c, a0 n = some c → OnwardC c) :
    Onward s (present a0 a1 t) := by
  unfold present
  repeat' (first | (intro y; refine onward_cut (s := s) (y := y) ?_ ?_; rotate_left; (intro hy; clear_value y); rotate_right; subst y) | exact id
                 | intro _ | lift_lets | with_reducible exact h | with_reducible assumption | with_reducible apply onward_ite
                 | with_reducible apply g0 | with_reducible apply answerArrival_onward | with_reducible apply modMbx_onward
                 | with_reducible apply modEntry_onward | with_reducible apply returnCredit_onward | with_reducible apply modPair_onward
                 | with_reducible apply refuseArrival_onward | with_reducible apply serve_onward | with_reducible apply accept_onward | split)

theorem receive_onward {s t : State} (h : Onward s t) (a0 : ℕ → Option Command) (a1 : ℕ) (a2 : Msg) (g0 : ∀ n c, a0 n = some c → OnwardC c) :
    Onward s (receive a0 a1 a2 t) := by
  unfold receive
  repeat' (first | (intro y; refine onward_cut (s := s) (y := y) ?_ ?_; rotate_left; (intro hy; clear_value y); rotate_right; subst y)
                 | (intro y; clear_value y) | exact FloorsLe.refl _ | exact id | intro _ | lift_lets | with_reducible exact h
                 | with_reducible assumption | with_reducible apply onward_ite | with_reducible apply g0 | with_reducible apply endSession_onward
                 | with_reducible apply modTrust_onward | with_reducible apply sendSession_onward | with_reducible apply countHeaderError_onward
                 | with_reducible apply present_onward | with_reducible apply modMbx_onward | split)

theorem modSource_onward {s t : State} (h : Onward s t) (a0 : ℕ) (a1 : ActSource → ActSource) : Onward s (modSource a0 a1 t) := by
  unfold modSource
  repeat' (first | lift_lets | with_reducible exact h | with_reducible apply modAct_onward)

theorem cmdSourceConfigure_onward : OnwardC cmdSourceConfigure := by
  refine ⟨fun e s t h => ?_⟩
  unfold cmdSourceConfigure
  repeat' (first | (intro y; refine onward_cut (s := s) (y := y) ?_ ?_; rotate_left; (intro hy; clear_value y); rotate_right; subst y)
                 | (intro y; clear_value y) | intro _ | lift_lets | with_reducible exact h | with_reducible assumption
                 | with_reducible apply onward1_mk | with_reducible apply cancelTriggers_onward | with_reducible apply modSource_onward
                 | with_reducible apply forwardSettings_onward | with_reducible apply sized_state | with_reducible apply fails_state
                 | with_reducible apply answers_state | split)

theorem cmdActivationStatus_onward : OnwardC cmdActivationStatus := by
  refine ⟨fun e s t h => ?_⟩
  unfold cmdActivationStatus
  repeat' (first | (intro (y : _ → _); subst y; try beta_reduce) | (intro y; clear_value y) | intro _ | lift_lets | with_reducible exact h
                 | with_reducible assumption | with_reducible apply onward1_mk | with_reducible apply sized_state
                 | with_reducible apply fails_state | with_reducible apply answers_state | split)

theorem endAfter_onward {s t : State} (h : Onward s t) (a0 : ℕ) (a1 : ℕ) (a2 : ℕ) : Onward s (endAfter a0 a1 a2 t) := by
  unfold endAfter
  repeat' (first | exact id | lift_lets | with_reducible exact h | with_reducible apply onward_ite | with_reducible apply modMbx_onward
                 | with_reducible apply endSession_onward)

theorem maskSource_onward {s t : State} (h : Onward s t) (a0 : ℕ) : Onward s (maskSource a0 t) := by
  unfold maskSource
  repeat' (first | lift_lets | with_reducible exact h | with_reducible apply modSource_onward)

theorem unmaskSource_onward {s t : State} (h : Onward s t) (a0 : ℕ) : Onward s (unmaskSource a0 t) := by
  unfold unmaskSource
  repeat' (first | lift_lets | with_reducible exact h | with_reducible apply modSource_onward)

theorem cmdSourceMask_onward : OnwardC cmdSourceMask := by
  refine ⟨fun e s t h => ?_⟩
  unfold cmdSourceMask
  repeat' (first | (intro y; refine onward_cut (s := s) (y := y) ?_ ?_; rotate_left; (intro hy; clear_value y); rotate_right; subst y)
                 | (intro y; clear_value y) | intro _ | lift_lets | with_reducible exact h | with_reducible assumption
                 | with_reducible apply onward1_mk | with_reducible apply onward_foldl | with_reducible apply maskSource_onward
                 | with_reducible apply unmaskSource_onward | with_reducible apply forwardSettings_onward | with_reducible apply sized_state
                 | with_reducible apply fails_state | with_reducible apply answers_state | split)

theorem cmdRecorderClearRequest_onward : OnwardC cmdRecorderClearRequest := by
  refine ⟨fun e s t h => ?_⟩
  unfold cmdRecorderClearRequest
  repeat' (first | (intro y; refine onward_cut (s := s) (y := y) ?_ ?_; rotate_left; (intro hy; clear_value y); rotate_right; subst y)
                 | (intro y; clear_value y) | intro _ | lift_lets | with_reducible exact h | with_reducible assumption
                 | with_reducible apply onward1_mk | with_reducible apply modRecorder_onward | with_reducible apply afterDraw_onward
                 | with_reducible apply sized_state | with_reducible apply fails_state | with_reducible apply answers_state | split)

theorem laneOutputsOff_onward {s t : State} (h : Onward s t) (a0 : Lane) : Onward s (laneOutputsOff a0 t) := by
  unfold laneOutputsOff
  repeat' (first | lift_lets | with_reducible exact h | with_reducible apply modSafety_onward | exact le_rfl)

theorem cmdRecorderRead_onward : OnwardC cmdRecorderRead := by
  refine ⟨fun e s t h => ?_⟩
  unfold cmdRecorderRead
  repeat' (first | (intro y; clear_value y) | intro _ | lift_lets | with_reducible exact h | with_reducible assumption
                 | with_reducible apply onward1_mk | with_reducible apply sized_state | with_reducible apply fails_state
                 | with_reducible apply answers_state | split)

theorem cmdRecorderStatus_onward : OnwardC cmdRecorderStatus := by
  refine ⟨fun e s t h => ?_⟩
  unfold cmdRecorderStatus
  repeat' (first | (intro y; clear_value y) | intro _ | lift_lets | with_reducible exact h | with_reducible assumption
                 | with_reducible apply onward1_mk | with_reducible apply sized_state | with_reducible apply answers_state)

theorem activateCue_onward {s t : State} (h : Onward s t) (a0 : ℕ) : Onward s (activateCue a0 t) := by
  unfold activateCue
  repeat' (first | lift_lets | with_reducible exact h | with_reducible apply onward_ite | with_reducible apply modTask_onward
                 | with_reducible apply activateEvent_onward)

theorem closeWindow_onward {s t : State} (h : Onward s t) (a0 : ℕ) : Onward s (closeWindow a0 t) := by
  unfold closeWindow
  repeat' (first | lift_lets | with_reducible exact h | with_reducible apply modSafety_onward | exact le_rfl)

theorem recorderEvent_onward {s t : State} (h : Onward s t) (a0 : ℕ) (a1 : Bytes) (a2 : Bytes) : Onward s (recorderEvent a0 a1 a2 t) := by
  unfold recorderEvent
  repeat' (first | lift_lets | with_reducible exact h | with_reducible apply record_onward)

theorem makeRelease_onward {s t : State} (h : Onward s t) (a0 : ReleaseSt) : Onward s (makeRelease a0 t) := by
  unfold makeRelease
  repeat' (first | (intro y; refine onward_cut (s := s) (y := y) ?_ ?_; rotate_left; (intro hy; clear_value y); rotate_right; subst y)
                 | (intro y; clear_value y) | lift_lets | with_reducible exact h | with_reducible assumption
                 | with_reducible apply recorderEvent_onward | with_reducible apply modRecorder_onward)

theorem releaseSteps_onward {s t : State} (h : Onward s t) : Onward s (releaseSteps t) := by
  unfold releaseSteps
  repeat' (first | (intro y; refine onward_cut (s := s) (y := y) ?_ ?_; rotate_left; (intro hy; clear_value y); rotate_right; subst y)
                 | (intro (y : _ → _); subst y; try beta_reduce) | lift_lets | with_reducible exact h | with_reducible assumption
                 | with_reducible apply onward_ite | with_reducible apply makeRelease_onward | with_reducible apply modRecorder_onward
                 | with_reducible apply completeEntry_onward | split)

theorem endFreeze_onward {s t : State} (h : Onward s t) (a0 : ℕ) (a1 : Option ℕ) : Onward s (endFreeze a0 a1 t) := by
  unfold endFreeze
  repeat' (first | (intro y; refine onward_cut (s := s) (y := y) ?_ ?_; rotate_left; (intro hy; clear_value y); rotate_right; subst y)
                 | lift_lets | with_reducible exact h | with_reducible assumption | with_reducible apply modRecorder_onward
                 | with_reducible apply releaseSteps_onward)

theorem cmdRecorderRelease_onward : OnwardC cmdRecorderRelease := by
  refine ⟨fun e s t h => ?_⟩
  unfold cmdRecorderRelease
  repeat' (first | intro _ | lift_lets | with_reducible exact h | with_reducible assumption | with_reducible apply onward1_mk
                 | with_reducible apply endFreeze_onward | with_reducible apply sized_state | with_reducible apply fails_state | split)

theorem cmdRecorderFreeze_onward : OnwardC cmdRecorderFreeze := by
  refine ⟨fun e s t h => ?_⟩
  unfold cmdRecorderFreeze
  repeat' (first | (intro y; refine onward_cut (s := s) (y := y) ?_ ?_; rotate_left; (intro hy; clear_value y); rotate_right; subst y) | intro _
                 | lift_lets | with_reducible exact h | with_reducible assumption | with_reducible apply onward1_mk
                 | with_reducible apply recorderEvent_onward | with_reducible apply modRecorder_onward | with_reducible apply sized_state
                 | with_reducible apply fails_state | split)

theorem cmdActivationTrigger_onward : OnwardC cmdActivationTrigger := by
  refine ⟨fun e s t h => ?_⟩
  unfold cmdActivationTrigger
  repeat' (first | (intro y; refine onward_cut (s := s) (y := y) ?_ ?_; rotate_left; (intro hy; clear_value y); rotate_right; subst y) | intro _
                 | lift_lets | with_reducible exact h | with_reducible assumption | with_reducible apply onward1_mk
                 | with_reducible apply modSource_onward | with_reducible apply sized_state | with_reducible apply fails_state
                 | with_reducible apply answers_state | split)

theorem modSlot_onward {s t : State} (h : Onward s t) (a0 : ℕ) (a1 : ImageSlot → ImageSlot) : Onward s (modSlot a0 a1 t) := by
  unfold modSlot
  repeat' (first | lift_lets | with_reducible exact h | with_reducible apply modProg_onward)

theorem cmdActivationCounters_onward : OnwardC cmdActivationCounters := by
  refine ⟨fun e s t h => ?_⟩
  unfold cmdActivationCounters
  repeat' (first | (intro y; clear_value y) | intro _ | lift_lets | with_reducible exact h | with_reducible assumption
                 | with_reducible apply onward1_mk | with_reducible apply sized_state | with_reducible apply fails_state
                 | with_reducible apply answers_state | split)

theorem clearRing_onward {s t : State} (h : Onward s t) (a0 : ClearTicket) (a1 : Bytes) (a2 : ℕ) : Onward s (clearRing a0 a1 a2 t) := by
  unfold clearRing
  repeat' (first | (intro y; refine onward_cut (s := s) (y := y) ?_ ?_; rotate_left; (intro hy; clear_value y); rotate_right; subst y)
                 | (intro y; clear_value y) | lift_lets | with_reducible exact h | with_reducible assumption | with_reducible apply onward_ite
                 | with_reducible apply modRecorder_onward | with_reducible apply record_onward)

theorem cmdRecorderClearConfirm_onward : OnwardC cmdRecorderClearConfirm := by
  refine ⟨fun e s t h => ?_⟩
  unfold cmdRecorderClearConfirm
  repeat' (first | (intro y; clear_value y) | intro _ | lift_lets | with_reducible exact h | with_reducible assumption
                 | with_reducible apply onward1_mk | with_reducible apply clearRing_onward | with_reducible apply sized_state
                 | with_reducible apply fails_state | split)

theorem cmdRecorderCounters_onward : OnwardC cmdRecorderCounters := by
  refine ⟨fun e s t h => ?_⟩
  unfold cmdRecorderCounters
  repeat' (first | (intro y; clear_value y) | intro _ | lift_lets | with_reducible exact h | with_reducible assumption
                 | with_reducible apply onward1_mk | with_reducible apply sized_state | with_reducible apply answers_state)

theorem withholdEvents_onward {s t : State} (h : Onward s t) : Onward s (withholdEvents t) := by
  unfold withholdEvents
  repeat' (first | intro _ | lift_lets | with_reducible exact h | with_reducible assumption | with_reducible apply onward_foldl
                 | with_reducible apply modTask_onward)

theorem endHold_onward {s t : State} (h : Onward s t) : Onward2 s (endHold t) := by
  unfold endHold
  repeat' (first | lift_lets | with_reducible exact h | with_reducible apply onward2_mk | with_reducible apply modAct_onward
                 | with_reducible apply releaseEvents_state)

theorem endHold_state {s t : State} (h : Onward s t) : Onward s (endHold t).2 :=
  (endHold_onward h).out

theorem cmdActivationHold_onward : OnwardC cmdActivationHold := by
  refine ⟨fun e s t h => ?_⟩
  unfold cmdActivationHold
  repeat' (first | (intro y; refine onward_cut (s := s) (y := y) ?_ ?_; rotate_left; (intro hy; clear_value y); rotate_right; subst y)
                 | (intro y; refine onward2_cut (s := s) (y := y) ?_ ?_; rotate_left; (intro hy; clear_value y); rotate_right; subst y) | intro _
                 | lift_lets | with_reducible exact h | with_reducible assumption | with_reducible apply onward1_mk
                 | with_reducible apply onward2_mk | with_reducible apply modAct_onward | with_reducible apply forwardSettings_onward
                 | with_reducible apply withholdEvents_onward | with_reducible apply sized_state | with_reducible apply fails_state
                 | with_reducible apply answers_state | with_reducible apply endHold_state | exact Onward2.out (by assumption) | split)

theorem countShadow_onward {s t : State} (h : Onward s t) (a0 : ℕ) : Onward s (countShadow a0 t) := by
  unfold countShadow
  repeat' (first | (intro (y : _ → _); subst y; try beta_reduce) | exact id | lift_lets | with_reducible exact h | with_reducible apply modMbx_onward)

theorem settleClosing_onward {s t : State} (h : Onward s t) : Onward s (settleClosing t) := by
  unfold settleClosing
  repeat' (first | intro _ | lift_lets | with_reducible exact h | with_reducible assumption | with_reducible apply onward_foldl
                 | with_reducible apply endSession_onward)

theorem deliverActivations_onward {s t : State} (h : Onward s t) (a0 : TaskRec) (a1 : ℕ) : Onward2 s (deliverActivations a0 a1 t) := by
  unfold deliverActivations
  repeat' (first | (intro (y : _ → _); subst y; try beta_reduce) | (intro y; clear_value y) | intro _ | lift_lets | with_reducible exact h
                 | with_reducible assumption | with_reducible apply onward2_mk | with_reducible apply onward_foldl
                 | with_reducible apply modSource_onward | split)

theorem deliverActivations_state {s t : State} (h : Onward s t) (a0 : TaskRec) (a1 : ℕ) : Onward s (deliverActivations a0 a1 t).2 :=
  (deliverActivations_onward h a0 a1).out

theorem modChannel_onward {s t : State} (h : Onward s t) (a0 : Lane) (a1 : ℕ) (a2 : LaneChannel → LaneChannel) :
    Onward s (modChannel a0 a1 a2 t) := by
  unfold modChannel
  repeat' (first | lift_lets | with_reducible exact h | with_reducible apply modWindow_onward)

theorem enterCompletions_onward {s t : State} (h : Onward s t) (a0 : List Lane) (a1 : ℕ) : Onward2 s (enterCompletions a0 a1 t) := by
  unfold enterCompletions
  repeat' (first | (intro y; refine onward_cut (s := s) (y := y) ?_ ?_; rotate_left; (intro hy; clear_value y); rotate_right; subst y)
                 | (intro (y : _ → _); subst y; try beta_reduce) | exact id | intro _ | lift_lets | with_reducible exact h
                 | with_reducible assumption | with_reducible apply onward2_mk | with_reducible apply onward_foldl
                 | with_reducible apply onward2_foldl_out | with_reducible apply modChannel_onward | with_reducible apply modMbx_onward
                 | exact Onward2.out (by assumption) | split)

theorem enterCompletions_state {s t : State} (h : Onward s t) (a0 : List Lane) (a1 : ℕ) : Onward s (enterCompletions a0 a1 t).2 :=
  (enterCompletions_onward h a0 a1).out

theorem clearFault_onward {s t : State} (h : Onward s t) (a0 : ℕ) : Onward s (clearFault a0 t) := by
  unfold clearFault
  repeat' (first | (intro (y : _ → _); subst y; try beta_reduce) | lift_lets | with_reducible exact h | with_reducible apply onward_ite
                 | with_reducible apply modInput_onward | split)

theorem startOne_onward {s t : State} (h : Onward s t) (a0 : Option ℕ) : Onward s (startOne a0 t) := by
  unfold startOne
  repeat' (first | (intro y; clear_value y) | lift_lets | with_reducible exact h | with_reducible apply onward_ite
                 | with_reducible apply modAct_onward | with_reducible apply modSource_onward | split)

theorem startCommits_onward {s t : State} (h : Onward s t) (a0 : Option ℕ) (a1 : ℕ) : Onward s (startCommits a0 a1 t) := by
  induction a1 generalizing t with
  | zero => exact h
  | succ k ih => exact ih (startOne_onward h a0)

theorem commitSource_onward {s t : State} (h : Onward s t) (a0 : ℕ) : Onward s (commitSource a0 t) := by
  unfold commitSource
  repeat' (first | (intro y; refine onward_cut (s := s) (y := y) ?_ ?_; rotate_left; (intro hy; clear_value y); rotate_right; subst y)
                 | lift_lets | with_reducible exact h | with_reducible assumption | with_reducible apply modSource_onward
                 | with_reducible apply activateEvent_onward | split)

theorem execActivationCommit_onward {s t : State} (h : Onward s t) (a0 : ℕ) : Onto s (execActivationCommit a0 t) := by
  unfold execActivationCommit
  repeat' (first | (intro y; refine onward_cut (s := s) (y := y) ?_ ?_; rotate_left; (intro hy; clear_value y); rotate_right; subst y)
                 | lift_lets | with_reducible exact h | with_reducible assumption | with_reducible apply onward_ite
                 | with_reducible apply onto_next | with_reducible apply startCommits_onward | with_reducible apply commitSource_onward
                 | with_reducible apply reach_onward | split)

theorem faultInput_onward {s t : State} (h : Onward s t) (a0 : ℕ) : Onward s (faultInput a0 t) := by
  unfold faultInput
  repeat' (first | lift_lets | with_reducible exact h | with_reducible apply onward_ite | with_reducible apply modInput_onward | split)

theorem countArrival_onward {s t : State} (h : Onward s t) (a0 : SlipArrival) : Onward s (countArrival a0 t) := by
  unfold countArrival
  repeat' (first | (intro y; clear_value y) | lift_lets | with_reducible exact h | with_reducible apply modPair_onward)

theorem clearSteps_onward {s t : State} (h : Onward s t) : Onward s (clearSteps t) := by
  unfold clearSteps
  repeat' (first | lift_lets | with_reducible exact h | with_reducible apply onward_ite | with_reducible apply completeEntry_onward
                 | with_reducible apply modRecorder_onward | split)

theorem freezeSteps_onward {s t : State} (h : Onward s t) : Onward s (freezeSteps t) := by
  unfold freezeSteps
  repeat' (first | (intro y; refine onward_cut (s := s) (y := y) ?_ ?_; rotate_left; (intro hy; clear_value y); rotate_right; subst y)
                 | lift_lets | with_reducible exact h | with_reducible assumption | with_reducible apply onward_ite
                 | with_reducible apply modRecorder_onward | with_reducible apply completeEntry_onward | split)

theorem execRecordWrite_onward {s t : State} (h : Onward s t) (a0 : Ring) (a1 : Bool) : Onto s (execRecordWrite a0 a1 t) := by
  unfold execRecordWrite
  repeat' (first | (intro y; refine onward_cut (s := s) (y := y) ?_ ?_; rotate_left; (intro hy; clear_value y); rotate_right; subst y)
                 | lift_lets | with_reducible exact h | with_reducible assumption | with_reducible apply onto_next
                 | with_reducible apply onto_ite | with_reducible apply modRecorder_onward | with_reducible apply clearSteps_onward
                 | with_reducible apply releaseSteps_onward | with_reducible apply freezeSteps_onward | split)

theorem proveInput_onward {s t : State} (h : Onward s t) (a0 : ℕ) : Onward s (proveInput a0 t) := by
  unfold proveInput
  repeat' (first | (intro (y : _ → _); subst y; try beta_reduce) | lift_lets | with_reducible exact h | with_reducible apply onward_ite
                 | with_reducible apply modInput_onward | split)

theorem changeInput_onward {s t : State} (h : Onward s t) (a0 : ℕ) (a1 : Bool) : Onward s (changeInput a0 a1 t) := by
  unfold changeInput
  repeat' (first | (intro y; refine onward_cut (s := s) (y := y) ?_ ?_; rotate_left; (intro hy; clear_value y); rotate_right; subst y)
                 | (intro y; clear_value y) | lift_lets | with_reducible exact h | with_reducible assumption | with_reducible apply onward_ite
                 | with_reducible apply modInput_onward | with_reducible apply watchPair_onward | with_reducible apply clearFault_onward
                 | with_reducible apply proveInput_onward | split)

theorem heard_onward {s t : State} (h : Onward s t) (a0 : SlipArrival) (a1 : State → Out) (g1 : ∀ u, Onward s u → Onto s (a1 u)) :
    Onto s (heard a0 a1 t) := by
  unfold heard
  repeat' (first | lift_lets | with_reducible exact h | with_reducible apply onto_next | with_reducible apply onto_ite | with_reducible apply g1
                 | with_reducible apply countArrival_onward)

theorem recordReel_onward {s t : State} (h : Onward s t) (a0 : ℕ) (a1 : ℕ) (a2 : Bytes) : Onward s (recordReel a0 a1 a2 t) := by
  unfold recordReel
  repeat' (first | lift_lets | with_reducible exact h | with_reducible apply makeRecord_onward)

theorem execFreezeTimeout_onward {s t : State} (h : Onward s t) : Onto s (execFreezeTimeout t) := by
  unfold execFreezeTimeout
  repeat' (first | lift_lets | with_reducible exact h | with_reducible apply onto_next | with_reducible apply endFreeze_onward
                 | with_reducible apply reach_onward | split)

theorem execClearTicketExpiry_onward {s t : State} (h : Onward s t) : Onto s (execClearTicketExpiry t) := by
  unfold execClearTicketExpiry
  repeat' (first | lift_lets | with_reducible exact h | with_reducible apply onto_next | with_reducible apply modRecorder_onward
                 | with_reducible apply reach_onward | split)

theorem execActivationHoldLimit_onward {s t : State} (h : Onward s t) : Onto s (execActivationHoldLimit t) := by
  unfold execActivationHoldLimit
  repeat' (first | lift_lets | with_reducible exact h | with_reducible apply onto_next | with_reducible apply reach_onward
                 | with_reducible apply endHold_state | split)

theorem execSuppressedRecord_onward {s t : State} (h : Onward s t) (a0 : Ring) : Onto s (execSuppressedRecord a0 t) := by
  unfold execSuppressedRecord
  repeat' (first | (intro y; refine onward_cut (s := s) (y := y) ?_ ?_; rotate_left; (intro hy; clear_value y); rotate_right; subst y)
                 | (intro y; clear_value y) | lift_lets | with_reducible exact h | with_reducible assumption | with_reducible apply onto_next
                 | with_reducible apply onto_ite | with_reducible apply reach_onward | with_reducible apply record_onward
                 | with_reducible apply modRecorder_onward)

theorem execSourceDetection_onward {s t : State} (h : Onward s t) (a0 : ℕ) (a1 : ℕ) : Onto s (execSourceDetection a0 a1 t) := by
  unfold execSourceDetection
  repeat' (first | (intro y; refine onward_cut (s := s) (y := y) ?_ ?_; rotate_left; (intro hy; clear_value y); rotate_right; subst y)
                 | (intro y; clear_value y) | lift_lets | with_reducible exact h | with_reducible assumption | with_reducible apply onto_next
                 | with_reducible apply onto_ite | with_reducible apply reach_onward | with_reducible apply startCommits_onward
                 | with_reducible apply modSource_onward)

end Sys2Proof.Machine
end

