-- ==== Sys2Proof/Laws/OnwardNetworks.lean ====
section
/-! SUPPORT. What every operation of the model keeps (Sys2Proof/Laws/Onward.lean):
the signal chain, the networks, the MVB bridge and cues. -/

namespace Sys2Proof.Machine

theorem endCues_onward {s t : State} (h : Onward s t) : Onward s (endCues t) := by
  unfold endCues
  repeat' (first | lift_lets | with_reducible exact h | with_reducible apply modPos_onward)

theorem modFlow_onward {s t : State} (h : Onward s t) (a0 : ℕ) (a1 : Flow → Flow) : Onward s (modFlow a0 a1 t) := by
  unfold modFlow
  repeat' (first | lift_lets | with_reducible exact h | with_reducible apply modNet_onward)

theorem modMvbPort_onward {s t : State} (h : Onward s t) (a0 : ℕ) (a1 : MvbPort → MvbPort) : Onward s (modMvbPort a0 a1 t) := by
  unfold modMvbPort
  repeat' (first | lift_lets | with_reducible exact h | with_reducible apply modMvb_onward)

theorem cuesAtStart_onward {s t : State} (h : Onward s t) : Onward s (cuesAtStart t) := by
  unfold cuesAtStart
  repeat' (first | lift_lets | with_reducible exact h | with_reducible apply modPos_onward)

theorem notStandby_onward {s t : State} (h : Onward s t) (a0 : State → State × Reply) (g0 : ∀ u, Onward s u → Onward1 s (a0 u)) :
    Onward1 s (notStandby a0 t) := by
  unfold notStandby
  repeat' (first | lift_lets | with_reducible exact h | with_reducible apply onward1_mk | with_reducible apply fails_state
                 | (with_reducible apply Onward1.out; with_reducible apply g0) | split)

theorem notStandby_state {s t : State} (h : Onward s t) (a0 : State → State × Reply) (g0 : ∀ u, Onward s u → Onward1 s (a0 u)) :
    Onward s (notStandby a0 t).1 :=
  (notStandby_onward h a0 g0).out

theorem modPort_onward {s t : State} (h : Onward s t) (a0 : ℕ) (a1 : PortSt → PortSt) : Onward s (modPort a0 a1 t) := by
  unfold modPort
  repeat' (first | lift_lets | with_reducible exact h | with_reducible apply modNet_onward)

theorem cmdGateConfigure_onward : OnwardC cmdGateConfigure := by
  refine ⟨fun e s t h => ?_⟩
  unfold cmdGateConfigure
  repeat' (first | (intro y; refine onward_cut (s := s) (y := y) ?_ ?_; rotate_left; (intro hy; clear_value y); rotate_right; subst y)
                 | (intro y; clear_value y) | intro _ | lift_lets | with_reducible exact h | with_reducible assumption
                 | with_reducible apply onward1_mk | with_reducible apply modPort_onward | with_reducible apply forwardSettings_onward
                 | with_reducible apply fails_state | with_reducible apply notStandby_state | split)

theorem cmdMvbDevices_onward : OnwardC cmdMvbDevices := by
  refine ⟨fun e s t h => ?_⟩
  unfold cmdMvbDevices
  repeat' (first | (intro y; clear_value y) | intro _ | lift_lets | with_reducible exact h | with_reducible assumption
                 | with_reducible apply onward1_mk | with_reducible apply sized_state | with_reducible apply fails_state
                 | with_reducible apply answers_state | split)

theorem modChan_onward {s t : State} (h : Onward s t) (a0 : ℕ) (a1 : FilterChannel → FilterChannel) : Onward s (modChan a0 a1 t) := by
  unfold modChan
  repeat' (first | lift_lets | with_reducible exact h | with_reducible apply modSignal_onward)

theorem cmdChannelConfigure_onward : OnwardC cmdChannelConfigure := by
  refine ⟨fun e s t h => ?_⟩
  unfold cmdChannelConfigure
  repeat' (first | lift_lets | with_reducible exact h | with_reducible apply onward1_mk | with_reducible apply modChan_onward
                 | with_reducible apply forwardSettings_onward | with_reducible apply fails_state | with_reducible apply answers_state | split)

theorem cmdFdbFlush_onward : OnwardC cmdFdbFlush := by
  refine ⟨fun e s t h => ?_⟩
  unfold cmdFdbFlush
  repeat' (first | (intro y; clear_value y) | intro _ | lift_lets | with_reducible exact h | with_reducible assumption
                 | with_reducible apply onward1_mk | with_reducible apply modNet_onward | with_reducible apply sized_state
                 | with_reducible apply fails_state | with_reducible apply answers_state | split)

theorem cmdSignalStatus_onward : OnwardC cmdSignalStatus := by
  refine ⟨fun e s t h => ?_⟩
  unfold cmdSignalStatus
  repeat' (first | intro _ | lift_lets | with_reducible exact h | with_reducible assumption | with_reducible apply onward1_mk
                 | with_reducible apply sized_state | with_reducible apply fails_state | with_reducible apply answers_state | split)

theorem onEnabled_onward {s t : State} (h : Onward s t) (a0 : ℕ) (a1 : State → State × Reply) (g1 : ∀ u, Onward s u → Onward1 s (a1 u)) :
    Onward1 s (onEnabled a0 a1 t) := by
  unfold onEnabled
  repeat' (first | lift_lets | with_reducible exact h | with_reducible apply onward1_mk | with_reducible apply fails_state
                 | (with_reducible apply Onward1.out; with_reducible apply g1) | split)

theorem onEnabled_state {s t : State} (h : Onward s t) (a0 : ℕ) (a1 : State → State × Reply) (g1 : ∀ u, Onward s u → Onward1 s (a1 u)) :
    Onward s (onEnabled a0 a1 t).1 :=
  (onEnabled_onward h a0 a1 g1).out

theorem cmdSignalDissolve_onward : OnwardC cmdSignalDissolve := by
  refine ⟨fun e s t h => ?_⟩
  unfold cmdSignalDissolve
  repeat' (first | (intro y; clear_value y) | intro _ | lift_lets | with_reducible exact h | with_reducible assumption
                 | with_reducible apply onward1_mk | with_reducible apply modChan_onward | with_reducible apply sized_state
                 | with_reducible apply fails_state | with_reducible apply onEnabled_state | split)

theorem endDissolve_onward {s t : State} (h : Onward s t) (a0 : ℕ) (a1 : FilterChannel → FilterChannel) : Onward s (endDissolve a0 a1 t) := by
  unfold endDissolve
  repeat' (first | (intro y; refine onward_cut (s := s) (y := y) ?_ ?_; rotate_left; (intro hy; clear_value y); rotate_right; subst y)
                 | lift_lets | with_reducible exact h | with_reducible assumption | with_reducible apply onward_ite
                 | with_reducible apply modChan_onward | with_reducible apply forwardChange_onward)

theorem cmdInputSwitch_onward : OnwardC cmdInputSwitch := by
  refine ⟨fun e s t h => ?_⟩
  unfold cmdInputSwitch
  repeat' (first | (intro y; clear_value y) | intro _ | lift_lets | with_reducible exact h | with_reducible assumption
                 | with_reducible apply onward1_mk | with_reducible apply endDissolve_onward | with_reducible apply sized_state
                 | with_reducible apply fails_state | with_reducible apply onEnabled_state | with_reducible apply answers_state | split)

theorem modCue_onward {s t : State} (h : Onward s t) (a0 : ℕ) (a1 : Cue → Cue) : Onward s (modCue a0 a1 t) := by
  unfold modCue
  repeat' (first | lift_lets | with_reducible exact h | with_reducible apply modPos_onward)

theorem cmdCueControl_onward : OnwardC cmdCueControl := by
  refine ⟨fun e s t h => ?_⟩
  unfold cmdCueControl
  repeat' (first | (intro y; refine onward_cut (s := s) (y := y) ?_ ?_; rotate_left; (intro hy; clear_value y); rotate_right; subst y)
                 | (intro y; clear_value y) | intro _ | lift_lets | with_reducible exact h | with_reducible assumption
                 | with_reducible apply onward_ite | with_reducible apply onward1_mk | with_reducible apply cancelTargets_onward
                 | with_reducible apply modCue_onward | with_reducible apply sized_state | with_reducible apply fails_state
                 | with_reducible apply answers_state | split)

theorem modBus_onward {s t : State} (h : Onward s t) (a0 : ℕ) (a1 : MvbBus → MvbBus) : Onward s (modBus a0 a1 t) := by
  unfold modBus
  repeat' (first | lift_lets | with_reducible exact h | with_reducible apply modMvb_onward)

theorem endWrite_onward {s t : State} (h : Onward s t) (a0 : ℕ) (a1 : ℕ) (a2 : MvbWriteSt) : Onward s (endWrite a0 a1 a2 t) := by
  unfold endWrite
  repeat' (first | (intro y; refine onward_cut (s := s) (y := y) ?_ ?_; rotate_left; (intro hy; clear_value y); rotate_right; subst y)
                 | (intro y; clear_value y) | lift_lets | with_reducible exact h | with_reducible assumption | with_reducible apply onward_ite
                 | with_reducible apply modMvbPort_onward | with_reducible apply modBus_onward | with_reducible apply completeEntry_onward
                 | with_reducible apply modMvb_onward | split)

theorem loseSemaphore_onward {s t : State} (h : Onward s t) (a0 : ℕ) (a1 : ℕ) : Onward s (loseSemaphore a0 a1 t) := by
  unfold loseSemaphore
  repeat' (first | (intro y; refine onward_cut (s := s) (y := y) ?_ ?_; rotate_left; (intro hy; clear_value y); rotate_right; subst y)
                 | (intro y; clear_value y) | lift_lets | with_reducible exact h | with_reducible assumption | with_reducible apply modMvb_onward
                 | with_reducible apply modBus_onward | with_reducible apply completeEntry_onward | split)

theorem endPort_onward {s t : State} (h : Onward s t) (a0 : ℕ) : Onward s (endPort a0 t) := by
  unfold endPort
  repeat' (first | (intro y; refine onward_cut (s := s) (y := y) ?_ ?_; rotate_left; (intro hy; clear_value y); rotate_right; subst y) | intro _
                 | lift_lets | with_reducible exact h | with_reducible assumption | with_reducible apply onward_ite
                 | with_reducible apply onward_foldl | with_reducible apply cancelTargets_onward | with_reducible apply endWrite_onward
                 | with_reducible apply completeEntry_onward | with_reducible apply loseSemaphore_onward | split)

theorem cmdMvbPortConfigure_onward : OnwardC cmdMvbPortConfigure := by
  refine ⟨fun e s t h => ?_⟩
  unfold cmdMvbPortConfigure
  repeat' (first | (intro y; refine onward_cut (s := s) (y := y) ?_ ?_; rotate_left; (intro hy; clear_value y); rotate_right; subst y)
                 | (intro y; clear_value y) | intro _ | lift_lets | with_reducible exact h | with_reducible assumption
                 | with_reducible apply onward1_mk | with_reducible apply modMvb_onward | with_reducible apply endPort_onward
                 | with_reducible apply forwardSettings_onward | with_reducible apply sized_state | with_reducible apply fails_state
                 | with_reducible apply notStandby_state | with_reducible apply answers_state | split)

theorem cmdMvbLock_onward : OnwardC cmdMvbLock := by
  refine ⟨fun e s t h => ?_⟩
  unfold cmdMvbLock
  repeat' (first | (intro (y : _ → _); subst y; try beta_reduce) | (intro y; clear_value y) | intro _ | lift_lets | with_reducible exact h
                 | with_reducible assumption | with_reducible apply onward1_mk | with_reducible apply modMvb_onward
                 | with_reducible apply fails_state | with_reducible apply notStandby_state | with_reducible apply answers_state | split)

theorem cmdFlowControl_onward : OnwardC cmdFlowControl := by
  refine ⟨fun e s t h => ?_⟩
  unfold cmdFlowControl
  repeat' (first | (intro y; refine onward_cut (s := s) (y := y) ?_ ?_; rotate_left; (intro hy; clear_value y); rotate_right; subst y)
                 | (intro y; clear_value y) | intro _ | lift_lets | with_reducible exact h | with_reducible assumption
                 | with_reducible apply onward1_mk | with_reducible apply modFlow_onward | with_reducible apply forwardSettings_onward
                 | with_reducible apply cancelTargets_onward | with_reducible apply sized_state | with_reducible apply notStandby_state
                 | with_reducible apply answers_state | with_reducible apply fails_state | split)

theorem cmdCoeffLoad_onward : OnwardC cmdCoeffLoad := by
  refine ⟨fun e s t h => ?_⟩
  unfold cmdCoeffLoad
  repeat' (first | intro _ | lift_lets | with_reducible exact h | with_reducible assumption | with_reducible apply onward1_mk
                 | with_reducible apply modChan_onward | with_reducible apply fails_state | with_reducible apply onEnabled_state
                 | with_reducible apply answers_state | split)

theorem unpin_onward {s t : State} (h : Onward s t) (a0 : ℕ) (a1 : ℕ) : Onward s (unpin a0 a1 t) := by
  unfold unpin
  repeat' (first | (intro (y : _ → _); subst y; try beta_reduce) | lift_lets | with_reducible exact h | with_reducible apply modNet_onward)

theorem pin_onward {s t : State} (h : Onward s t) (a0 : ℕ) (a1 : ℕ) (a2 : ℕ) (a3 : Bool) : Onward s (pin a0 a1 a2 a3 t) := by
  unfold pin
  repeat' (first | lift_lets | with_reducible exact h | with_reducible apply modNet_onward | split)

theorem cmdFlowConfigure_onward : OnwardC cmdFlowConfigure := by
  refine ⟨fun e s t h => ?_⟩
  unfold cmdFlowConfigure
  repeat' (first | (intro y; refine onward_cut (s := s) (y := y) ?_ ?_; rotate_left; (intro hy; clear_value y); rotate_right; subst y)
                 | (intro y; clear_value y) | intro _ | lift_lets | with_reducible exact h | with_reducible assumption
                 | with_reducible apply onward1_mk | with_reducible apply unpin_onward | with_reducible apply pin_onward
                 | with_reducible apply modNet_onward | with_reducible apply forwardSettings_onward | with_reducible apply sized_state
                 | with_reducible apply fails_state | with_reducible apply notStandby_state | with_reducible apply answers_state | split)

theorem cmdPortCounters_onward : OnwardC cmdPortCounters := by
  refine ⟨fun e s t h => ?_⟩
  unfold cmdPortCounters
  repeat' (first | (intro y; clear_value y) | intro _ | lift_lets | with_reducible exact h | with_reducible assumption
                 | with_reducible apply onward1_mk | with_reducible apply sized_state | with_reducible apply fails_state
                 | with_reducible apply answers_state | split)

theorem cmdChannelControl_onward : OnwardC cmdChannelControl := by
  refine ⟨fun e s t h => ?_⟩
  unfold cmdChannelControl
  repeat' (first | (intro y; refine onward_cut (s := s) (y := y) ?_ ?_; rotate_left; (intro hy; clear_value y); rotate_right; subst y)
                 | (intro y; clear_value y) | intro _ | lift_lets | with_reducible exact h | with_reducible assumption
                 | with_reducible apply onward1_mk | with_reducible apply forwardSettings_onward | with_reducible apply modChan_onward
                 | with_reducible apply cancelTargets_onward | with_reducible apply sized_state | with_reducible apply fails_state
                 | with_reducible apply answers_state | split)

theorem grantWrite_onward {s t : State} (h : Onward s t) (a0 : ℕ) (a1 : ℕ) (a2 : Bytes) : Onward s (grantWrite a0 a1 a2 t) := by
  unfold grantWrite
  repeat' (first | lift_lets | with_reducible exact h | with_reducible apply modMvbPort_onward)

theorem cmdMvbWrite_onward : OnwardC cmdMvbWrite := by
  refine ⟨fun e s t h => ?_⟩
  unfold cmdMvbWrite
  repeat' (first | intro _ | lift_lets | with_reducible exact h | with_reducible assumption | with_reducible apply onward1_mk
                 | with_reducible apply modMvb_onward | with_reducible apply grantWrite_onward | with_reducible apply fails_state
                 | with_reducible apply notStandby_state | split)

theorem cmdFdbUnpin_onward : OnwardC cmdFdbUnpin := by
  refine ⟨fun e s t h => ?_⟩
  unfold cmdFdbUnpin
  repeat' (first | (intro (y : _ → _); subst y; try beta_reduce) | (intro y; clear_value y) | intro _ | lift_lets | with_reducible exact h
                 | with_reducible assumption | with_reducible apply onward1_mk | with_reducible apply forwardSettings_onward
                 | with_reducible apply modNet_onward | with_reducible apply sized_state | with_reducible apply notStandby_state
                 | with_reducible apply fails_state | with_reducible apply answers_state | split)

theorem cmdMvbMap_onward : OnwardC cmdMvbMap := by
  refine ⟨fun e s t h => ?_⟩
  unfold cmdMvbMap
  repeat' (first | (intro y; refine onward_cut (s := s) (y := y) ?_ ?_; rotate_left; (intro hy; clear_value y); rotate_right; subst y)
                 | (intro (y : _ → _); subst y; try beta_reduce) | (intro y; clear_value y) | intro _ | lift_lets | with_reducible exact h
                 | with_reducible assumption | with_reducible apply onward1_mk | with_reducible apply modMvb_onward
                 | with_reducible apply forwardSettings_onward | with_reducible apply fails_state | with_reducible apply notStandby_state
                 | with_reducible apply answers_state | split)

theorem cmdLaunchWrite_onward : OnwardC cmdLaunchWrite := by
  refine ⟨fun e s t h => ?_⟩
  unfold cmdLaunchWrite
  repeat' (first | lift_lets | with_reducible exact h | with_reducible apply onward1_mk | with_reducible apply modPort_onward
                 | with_reducible apply fails_state | with_reducible apply answers_state | split)

theorem cmdMvbPortControl_onward : OnwardC cmdMvbPortControl := by
  refine ⟨fun e s t h => ?_⟩
  unfold cmdMvbPortControl
  repeat' (first | (intro y; refine onward_cut (s := s) (y := y) ?_ ?_; rotate_left; (intro hy; clear_value y); rotate_right; subst y)
                 | (intro (y : _ → _); subst y; try beta_reduce) | (intro y; clear_value y) | intro _ | lift_lets | with_reducible exact h
                 | with_reducible assumption | with_reducible apply onward_ite | with_reducible apply onward1_mk
                 | with_reducible apply onward_foldl | with_reducible apply modMvbPort_onward | with_reducible apply forwardSettings_onward
                 | with_reducible apply cancelTargets_onward | with_reducible apply loseSemaphore_onward | with_reducible apply sized_state
                 | with_reducible apply fails_state | with_reducible apply notStandby_state | with_reducible apply answers_state | split)

theorem cmdRnatConfigure_onward : OnwardC cmdRnatConfigure := by
  refine ⟨fun e s t h => ?_⟩
  unfold cmdRnatConfigure
  repeat' (first | intro _ | lift_lets | with_reducible exact h | with_reducible assumption | with_reducible apply onward1_mk
                 | with_reducible apply forwardSettings_onward | with_reducible apply modNet_onward | with_reducible apply fails_state
                 | with_reducible apply notStandby_state | with_reducible apply answers_state | split)

theorem cmdMvbRead_onward : OnwardC cmdMvbRead := by
  refine ⟨fun e s t h => ?_⟩
  unfold cmdMvbRead
  repeat' (first | intro _ | lift_lets | with_reducible exact h | with_reducible assumption | with_reducible apply onward1_mk
                 | with_reducible apply modMvbPort_onward | with_reducible apply sized_state | with_reducible apply fails_state | split)

theorem cmdPortConfigure_onward : OnwardC cmdPortConfigure := by
  refine ⟨fun e s t h => ?_⟩
  unfold cmdPortConfigure
  repeat' (first | (intro y; refine onward_cut (s := s) (y := y) ?_ ?_; rotate_left; (intro hy; clear_value y); rotate_right; subst y)
                 | (intro y; clear_value y) | intro _ | lift_lets | with_reducible exact h | with_reducible assumption
                 | with_reducible apply onward1_mk | with_reducible apply modPort_onward | with_reducible apply forwardSettings_onward
                 | with_reducible apply fails_state | with_reducible apply notStandby_state | with_reducible apply answers_state | split)

theorem cmdMvbCounters_onward : OnwardC cmdMvbCounters := by
  refine ⟨fun e s t h => ?_⟩
  unfold cmdMvbCounters
  repeat' (first | (intro y; clear_value y) | intro _ | lift_lets | with_reducible exact h | with_reducible assumption
                 | with_reducible apply onward1_mk | with_reducible apply sized_state | with_reducible apply fails_state
                 | with_reducible apply answers_state | split)

theorem cueMissed_onward {s t : State} (h : Onward s t) (a0 : ℕ) : Onward s (cueMissed a0 t) := by
  unfold cueMissed
  repeat' (first | lift_lets | with_reducible exact h | with_reducible apply modPos_onward | with_reducible apply modCue_onward)

theorem countDrop_onward {s t : State} (h : Onward s t) (a0 : ℕ) (a1 : ℕ) : Onward s (countDrop a0 a1 t) := by
  unfold countDrop
  repeat' (first | lift_lets | with_reducible exact h | with_reducible apply modPort_onward)

theorem startFrame_onward {s t : State} (h : Onward s t) (a0 : ℕ) (a1 : Bytes) (a2 : ℕ) : Onward s (startFrame a0 a1 a2 t) := by
  unfold startFrame
  repeat' (first | (intro y; clear_value y) | lift_lets | with_reducible exact h | with_reducible apply emit_onward
                 | with_reducible apply modPort_onward)

theorem launchHead_onward {s t : State} (h : Onward s t) (a0 : ℕ) (a1 : ℕ) : OnwardO s (launchHead a0 a1 t) := by
  unfold launchHead
  repeat' (first | (intro y; refine onward_cut (s := s) (y := y) ?_ ?_; rotate_left; (intro hy; clear_value y); rotate_right; subst y)
                 | (intro y; clear_value y) | lift_lets | with_reducible exact h | with_reducible assumption | with_reducible apply onward_ite
                 | with_reducible apply onwardO_some | exact onwardO_none | with_reducible apply onwardO_ite
                 | with_reducible apply modPort_onward | with_reducible apply countDrop_onward | with_reducible apply startFrame_onward
                 | with_reducible apply modNet_onward | split)

theorem cueFired_onward {s t : State} (h : Onward s t) (a0 : ℕ) : Onward s (cueFired a0 t) := by
  unfold cueFired
  repeat' (first | lift_lets | with_reducible exact h | with_reducible apply modPos_onward | with_reducible apply modCue_onward)

theorem cueAction_onward {s t : State} (h : Onward s t) (a0 : ℕ) (a1 : CueBinding) : Onward s (cueAction a0 a1 t) := by
  unfold cueAction
  repeat' (first | lift_lets | with_reducible exact h | with_reducible apply onward_ite | with_reducible apply launchHead_onward
                 | with_reducible apply cueFired_onward | with_reducible apply cueMissed_onward | with_reducible apply activateCue_onward
                 | with_reducible apply openWindow_onward | with_reducible apply closeWindow_onward | refine onwardO_of_eq (by assumption) ?_
                 | split)

theorem cuePasses_onward {s t : State} (h : Onward s t) (a0 : ℕ) : Onward s (cuePasses a0 t) := by
  unfold cuePasses
  repeat' (first | lift_lets | with_reducible exact h | with_reducible apply onward_ite | with_reducible apply modCue_onward
                 | with_reducible apply cueAction_onward | split)

theorem cuesAtStep_onward {s t : State} (h : Onward s t) : Onward s (cuesAtStep t) := by
  unfold cuesAtStep
  repeat' (first | (intro y; clear_value y) | intro _ | lift_lets | with_reducible exact h | with_reducible assumption
                 | with_reducible apply onward_ite | with_reducible apply onward_foldl | with_reducible apply cueMissed_onward
                 | with_reducible apply cuePasses_onward | split)

theorem skipLaunches_onward {s t : State} (h : Onward s t) : Onward s (skipLaunches t) := by
  unfold skipLaunches
  repeat' (first | (intro (y : _ → _); subst y; try beta_reduce) | (intro y; clear_value y) | lift_lets | with_reducible exact h
                 | with_reducible apply modNet_onward)

theorem cmdFdbRead_onward : OnwardC cmdFdbRead := by
  refine ⟨fun e s t h => ?_⟩
  unfold cmdFdbRead
  repeat' (first | (intro y; clear_value y) | intro _ | lift_lets | with_reducible exact h | with_reducible assumption
                 | with_reducible apply onward1_mk | with_reducible apply sized_state | with_reducible apply fails_state
                 | with_reducible apply answers_state | split)

theorem cmdSignalCounters_onward : OnwardC cmdSignalCounters := by
  refine ⟨fun e s t h => ?_⟩
  unfold cmdSignalCounters
  repeat' (first | (intro y; clear_value y) | intro _ | lift_lets | with_reducible exact h | with_reducible assumption
                 | with_reducible apply onward1_mk | with_reducible apply sized_state | with_reducible apply fails_state
                 | with_reducible apply answers_state | split)

theorem cmdMvbStatus_onward : OnwardC cmdMvbStatus := by
  refine ⟨fun e s t h => ?_⟩
  unfold cmdMvbStatus
  repeat' (first | (intro (y : _ → _); subst y; try beta_reduce) | (intro y; clear_value y) | intro _ | lift_lets | with_reducible exact h
                 | with_reducible assumption | with_reducible apply onward1_mk | with_reducible apply sized_state
                 | with_reducible apply answers_state)

theorem cmdLaunchFlush_onward : OnwardC cmdLaunchFlush := by
  refine ⟨fun e s t h => ?_⟩
  unfold cmdLaunchFlush
  repeat' (first | intro _ | lift_lets | with_reducible exact h | with_reducible assumption | with_reducible apply onward1_mk
                 | with_reducible apply modPort_onward | with_reducible apply sized_state | with_reducible apply fails_state
                 | with_reducible apply answers_state | split)

theorem cmdNetSettings_onward : OnwardC cmdNetSettings := by
  refine ⟨fun e s t h => ?_⟩
  unfold cmdNetSettings
  repeat' (first | (intro y; refine onward_cut (s := s) (y := y) ?_ ?_; rotate_left; (intro hy; clear_value y); rotate_right; subst y) | exact id
                 | intro _ | lift_lets | with_reducible exact h | with_reducible assumption | with_reducible apply onward1_mk
                 | with_reducible apply modNet_onward | with_reducible apply modPair_onward | with_reducible apply modMbx_onward
                 | with_reducible apply forwardSettings_onward | with_reducible apply sized_state | with_reducible apply fails_state
                 | with_reducible apply notStandby_state | with_reducible apply answers_state | split)

theorem cmdCueStatus_onward : OnwardC cmdCueStatus := by
  refine ⟨fun e s t h => ?_⟩
  unfold cmdCueStatus
  repeat' (first | (intro (y : _ → _); subst y; try beta_reduce) | intro _ | lift_lets | with_reducible exact h | with_reducible assumption
                 | with_reducible apply onward1_mk | with_reducible apply sized_state | with_reducible apply fails_state
                 | with_reducible apply answers_state | split)

theorem cmdFrerConfigure_onward : OnwardC cmdFrerConfigure := by
  refine ⟨fun e s t h => ?_⟩
  unfold cmdFrerConfigure
  repeat' (first | (intro y; clear_value y) | intro _ | lift_lets | with_reducible exact h | with_reducible assumption
                 | with_reducible apply onward1_mk | with_reducible apply forwardSettings_onward | with_reducible apply modNet_onward
                 | with_reducible apply sized_state | with_reducible apply answers_state | with_reducible apply fails_state
                 | with_reducible apply notStandby_state | split)

theorem cmdFlowStatus_onward : OnwardC cmdFlowStatus := by
  refine ⟨fun e s t h => ?_⟩
  unfold cmdFlowStatus
  repeat' (first | intro _ | lift_lets | with_reducible exact h | with_reducible assumption | with_reducible apply onward1_mk
                 | with_reducible apply sized_state | with_reducible apply fails_state | with_reducible apply answers_state | split)

theorem cmdFdbPin_onward : OnwardC cmdFdbPin := by
  refine ⟨fun e s t h => ?_⟩
  unfold cmdFdbPin
  repeat' (first | (intro y; refine onward_cut (s := s) (y := y) ?_ ?_; rotate_left; (intro hy; clear_value y); rotate_right; subst y) | intro _
                 | lift_lets | with_reducible exact h | with_reducible assumption | with_reducible apply onward1_mk
                 | with_reducible apply pin_onward | with_reducible apply modNet_onward | with_reducible apply forwardSettings_onward
                 | with_reducible apply sized_state | with_reducible apply fails_state | with_reducible apply notStandby_state
                 | with_reducible apply answers_state | split)

theorem cmdMvbConfigure_onward : OnwardC cmdMvbConfigure := by
  refine ⟨fun e s t h => ?_⟩
  unfold cmdMvbConfigure
  repeat' (first | (intro y; refine onward_cut (s := s) (y := y) ?_ ?_; rotate_left; (intro hy; clear_value y); rotate_right; subst y)
                 | (intro y; clear_value y) | intro _ | lift_lets | with_reducible exact h | with_reducible assumption
                 | with_reducible apply onward1_mk | with_reducible apply modBus_onward | with_reducible apply forwardSettings_onward
                 | with_reducible apply fails_state | with_reducible apply notStandby_state | with_reducible apply answers_state | split)

theorem cmdNetStatus_onward : OnwardC cmdNetStatus := by
  refine ⟨fun e s t h => ?_⟩
  unfold cmdNetStatus
  repeat' (first | (intro y; clear_value y) | intro _ | lift_lets | with_reducible exact h | with_reducible assumption
                 | with_reducible apply onward1_mk | with_reducible apply sized_state | with_reducible apply answers_state)

theorem tryUnlock_onward {s t : State} (h : Onward s t) (a0 : ℕ) : Onward s (tryUnlock a0 t) := by
  unfold tryUnlock
  repeat' (first | (intro y; refine onward_cut (s := s) (y := y) ?_ ?_; rotate_left; (intro hy; clear_value y); rotate_right; subst y)
                 | (intro y; clear_value y) | intro _ | lift_lets | with_reducible exact h | with_reducible assumption
                 | with_reducible apply onward_ite | with_reducible apply onward_foldl | with_reducible apply modMvb_onward
                 | with_reducible apply completeEntry_onward | with_reducible apply commitEntry_onward | with_reducible apply grantWrite_onward
                 | split)

theorem cmdMvbUnlock_onward : OnwardC cmdMvbUnlock := by
  refine ⟨fun e s t h => ?_⟩
  unfold cmdMvbUnlock
  repeat' (first | (intro y; refine onward_cut (s := s) (y := y) ?_ ?_; rotate_left; (intro hy; clear_value y); rotate_right; subst y)
                 | (intro y; clear_value y) | intro _ | lift_lets | with_reducible exact h | with_reducible assumption
                 | with_reducible apply onward_ite | with_reducible apply onward1_mk | with_reducible apply modMvb_onward
                 | with_reducible apply tryUnlock_onward | with_reducible apply sized_state | with_reducible apply fails_state
                 | with_reducible apply notStandby_state | with_reducible apply answers_state | split)

theorem generate_onward {s t : State} (h : Onward s t) (a0 : ℕ) : Onward2 s (generate a0 t) := by
  unfold generate
  repeat' (first | lift_lets | with_reducible exact h | with_reducible apply onward2_mk | with_reducible apply modNet_onward | split)

theorem generate_state {s t : State} (h : Onward s t) (a0 : ℕ) : Onward s (generate a0 t).2 :=
  (generate_onward h a0).out

theorem sendTelegram_onward {s t : State} (h : Onward s t) (a0 : ℕ) (a1 : ℕ) (a2 : ℕ) (a3 : Flow) (a4 : Bytes) :
    Onward s (sendTelegram a0 a1 a2 a3 a4 t) := by
  unfold sendTelegram
  repeat' (first | (intro y; refine onward_cut (s := s) (y := y) ?_ ?_; rotate_left; (intro hy; clear_value y); rotate_right; subst y)
                 | (intro y; refine onward2_cut (s := s) (y := y) ?_ ?_; rotate_left; (intro hy; clear_value y); rotate_right; subst y)
                 | (intro y; clear_value y) | lift_lets | with_reducible exact h | with_reducible assumption | with_reducible apply onward_ite
                 | with_reducible apply onward2_mk | with_reducible apply modFlow_onward | with_reducible apply countMessage_onward
                 | with_reducible apply emit_onward | with_reducible apply generate_state | exact Onward2.out (by assumption) | split)

theorem publishOne_onward {s t : State} (h : Onward s t) (a0 : ℕ) (a1 : Flow) (a2 : Bytes) : Onward s (publishOne a0 a1 a2 t) := by
  unfold publishOne
  repeat' (first | lift_lets | with_reducible exact h | with_reducible apply onward_ite | with_reducible apply modFlow_onward
                 | with_reducible apply sendTelegram_onward)

theorem launchEmpty_onward {s t : State} (h : Onward s t) (a0 : ℕ) : Onward s (launchEmpty a0 t) := by
  unfold launchEmpty
  repeat' (first | lift_lets | with_reducible exact h | with_reducible apply modFlow_onward)

theorem launchFlow_onward {s t : State} (h : Onward s t) (a0 : ℕ) (a1 : ℕ) (a2 : Option Bytes) : Onward s (launchFlow a0 a1 a2 t) := by
  unfold launchFlow
  repeat' (first | (intro y; refine onward_cut (s := s) (y := y) ?_ ?_; rotate_left; (intro hy; clear_value y); rotate_right; subst y)
                 | lift_lets | with_reducible exact h | with_reducible assumption | with_reducible apply modFlow_onward
                 | with_reducible apply publishOne_onward | with_reducible apply launchEmpty_onward | split)

theorem countMapEmpty_onward {s t : State} (h : Onward s t) (a0 : ℕ) : Onward s (countMapEmpty a0 t) := by
  unfold countMapEmpty
  repeat' (first | (intro (y : _ → _); subst y; try beta_reduce) | (intro y; clear_value y) | lift_lets | with_reducible exact h
                 | with_reducible apply modBus_onward | with_reducible apply modMvb_onward)

theorem execScheduledLaunch_onward {s t : State} (h : Onward s t) (a0 : ℕ) : Onto s (execScheduledLaunch a0 t) := by
  unfold execScheduledLaunch
  repeat' (first | (intro y; refine onward_cut (s := s) (y := y) ?_ ?_; rotate_left; (intro hy; clear_value y); rotate_right; subst y)
                 | (intro y; clear_value y) | lift_lets | with_reducible exact h | with_reducible assumption | with_reducible apply onward_ite
                 | with_reducible apply onto_next | with_reducible apply onto_ite | with_reducible apply reachLocal_onward
                 | with_reducible apply launchFlow_onward | with_reducible apply countMapEmpty_onward | split)

theorem dropStreamFrame_onward {s t : State} (h : Onward s t) (a0 : ℕ) (a1 : Bytes) : Onward s (dropStreamFrame a0 a1 t) := by
  unfold dropStreamFrame
  repeat' (first | (intro y; clear_value y) | lift_lets | with_reducible exact h | with_reducible apply onward_ite
                 | with_reducible apply modSignal_onward)

theorem startNext_onward {s t : State} (h : Onward s t) (a0 : ℕ) : Onward s (startNext a0 t) := by
  unfold startNext
  repeat' (first | (intro y; clear_value y) | lift_lets | with_reducible exact h | with_reducible apply onward_ite
                 | with_reducible apply startFrame_onward | with_reducible apply modPort_onward | split)

theorem enqueue_onward {s t : State} (h : Onward s t) (a0 : ℕ) (a1 : ℕ) (a2 : ℕ) (a3 : Bytes) : Onward s (enqueue a0 a1 a2 a3 t) := by
  unfold enqueue
  repeat' (first | (intro y; clear_value y) | lift_lets | with_reducible exact h | with_reducible apply onward_ite
                 | with_reducible apply countDrop_onward | with_reducible apply startNext_onward | with_reducible apply modPort_onward)

theorem learnNew_onward {s t : State} (h : Onward s t) (a0 : ℕ) (a1 : ℕ) (a2 : ℕ) : Onward s (learnNew a0 a1 a2 t) := by
  unfold learnNew
  repeat' (first | (intro (y : _ → _); subst y; try beta_reduce) | (intro y; clear_value y) | lift_lets | with_reducible exact h
                 | with_reducible apply onward_ite | with_reducible apply modNet_onward | with_reducible apply modPort_onward)

theorem learn_onward {s t : State} (h : Onward s t) (a0 : ℕ) (a1 : ℕ) (a2 : ℕ) : Onward s (learn a0 a1 a2 t) := by
  unfold learn
  repeat' (first | lift_lets | with_reducible exact h | with_reducible apply onward_ite | with_reducible apply modNet_onward
                 | with_reducible apply learnNew_onward | split)

theorem floodTo_onward {s t : State} (h : Onward s t) (a0 : ℕ) (a1 : ℕ) (a2 : ℕ) (a3 : Bytes) : Onward s (floodTo a0 a1 a2 a3 t) := by
  unfold floodTo
  repeat' (first | (intro y; clear_value y) | lift_lets | with_reducible exact h | with_reducible apply onward_ite
                 | with_reducible apply countDrop_onward | with_reducible apply enqueue_onward | with_reducible apply modPort_onward)

theorem sendTo_onward {s t : State} (h : Onward s t) (a0 : Bool) (a1 : List ℕ) (a2 : ℕ) (a3 : ℕ) (a4 : ℕ) (a5 : Bytes) :
    Onward s (sendTo a0 a1 a2 a3 a4 a5 t) := by
  unfold sendTo
  repeat' (first | (intro y; clear_value y) | intro _ | lift_lets | with_reducible exact h | with_reducible assumption
                 | with_reducible apply onward_ite | with_reducible apply onward_foldl | with_reducible apply countDrop_onward
                 | with_reducible apply floodTo_onward | with_reducible apply enqueue_onward | split)

theorem forward_onward {s t : State} (h : Onward s t) (a0 : ℕ) (a1 : ℕ) (a2 : ℕ) (a3 : Bytes) : Onward s (forward a0 a1 a2 a3 t) := by
  unfold forward
  repeat' (first | (intro y; clear_value y) | lift_lets | with_reducible exact h | with_reducible apply sendTo_onward
                 | with_reducible apply modPort_onward | split)

theorem admitFrame_onward {s t : State} (h : Onward s t) (a0 : ℕ) (a1 : Bytes) : Onward s (admitFrame a0 a1 t) := by
  unfold admitFrame
  repeat' (first | (intro y; refine onward_cut (s := s) (y := y) ?_ ?_; rotate_left; (intro hy; clear_value y); rotate_right; subst y)
                 | (intro y; clear_value y) | lift_lets | with_reducible exact h | with_reducible assumption | with_reducible apply onward_ite
                 | with_reducible apply onward2_mk | with_reducible apply learn_onward | with_reducible apply sendTo_onward
                 | with_reducible apply modNet_onward | with_reducible apply forward_onward | with_reducible apply generate_state
                 | refine onward2_of_eq (by assumption) ?_ | split)

theorem execFrameReceive_onward {s t : State} (h : Onward s t) (a0 : ℕ) (a1 : RxFrame) : Onto s (execFrameReceive a0 a1 t) := by
  unfold execFrameReceive
  repeat' (first | (intro y; refine onward_cut (s := s) (y := y) ?_ ?_; rotate_left; (intro hy; clear_value y); rotate_right; subst y)
                 | lift_lets | with_reducible exact h | with_reducible assumption | with_reducible apply onward_ite
                 | with_reducible apply onto_next | with_reducible apply onto_ite | with_reducible apply modPort_onward
                 | with_reducible apply countDrop_onward | with_reducible apply dropStreamFrame_onward | with_reducible apply enqueue_onward
                 | with_reducible apply admitFrame_onward | split)

theorem timeCuePasses_onward {s t : State} (h : Onward s t) (a0 : ℕ) : Onward s (timeCuePasses a0 t) := by
  unfold timeCuePasses
  repeat' (first | lift_lets | with_reducible exact h | with_reducible apply onward_ite | with_reducible apply modCue_onward
                 | with_reducible apply cuePasses_onward | split)

theorem applyCueRequest_onward {s t : State} (h : Onward s t) (a0 : ℕ) (a1 : Bytes) : Onward s (applyCueRequest a0 a1 t) := by
  unfold applyCueRequest
  repeat' (first | (intro y; refine onward_cut (s := s) (y := y) ?_ ?_; rotate_left; (intro hy; clear_value y); rotate_right; subst y)
                 | (intro y; clear_value y) | lift_lets | with_reducible exact h | with_reducible assumption | with_reducible apply onward_ite
                 | with_reducible apply modPos_onward | with_reducible apply modCue_onward | with_reducible apply cueMissed_onward
                 | with_reducible apply cuePasses_onward | with_reducible apply timeCuePasses_onward | split)

theorem publishFlow_onward {s t : State} (h : Onward s t) (a0 : ℕ) (a1 : Bytes) : Onward s (publishFlow a0 a1 t) := by
  unfold publishFlow
  repeat' (first | (intro y; refine onward_cut (s := s) (y := y) ?_ ?_; rotate_left; (intro hy; clear_value y); rotate_right; subst y)
                 | lift_lets | with_reducible exact h | with_reducible assumption | with_reducible apply onward_ite
                 | with_reducible apply modFlow_onward | with_reducible apply publishOne_onward | split)

theorem releaseMvb_onward {s t : State} (h : Onward s t) (a0 : ℕ) (a1 : Bytes) : Onward s (releaseMvb a0 a1 t) := by
  unfold releaseMvb
  repeat' (first | lift_lets | with_reducible exact h | with_reducible apply modMvbPort_onward)

theorem releaseCues_onward {s t : State} (h : Onward s t) (a0 : ℕ) (a1 : List (ℕ × Bytes)) : Onward s (releaseCues a0 a1 t) := by
  unfold releaseCues
  repeat' (first | (intro y; refine onward_cut (s := s) (y := y) ?_ ?_; rotate_left; (intro hy; clear_value y); rotate_right; subst y) | intro _
                 | lift_lets | with_reducible exact h | with_reducible assumption | with_reducible apply onward_foldl
                 | with_reducible apply applyCueRequest_onward | with_reducible apply modPos_onward)

theorem execMvbMastershipOffer_onward {s t : State} (h : Onward s t) (a0 : ℕ) : Onto s (execMvbMastershipOffer a0 t) := by
  unfold execMvbMastershipOffer
  repeat' (first | lift_lets | with_reducible exact h | with_reducible apply onto_next | with_reducible apply onto_ite
                 | with_reducible apply modBus_onward)

theorem execGateListTakeover_onward {s t : State} (h : Onward s t) (a0 : ℕ) : Onto s (execGateListTakeover a0 t) := by
  unfold execGateListTakeover
  repeat' (first | (intro y; refine onward_cut (s := s) (y := y) ?_ ?_; rotate_left; (intro hy; clear_value y); rotate_right; subst y)
                 | lift_lets | with_reducible exact h | with_reducible assumption | with_reducible apply onto_next
                 | with_reducible apply reachLocal_onward | with_reducible apply startNext_onward | with_reducible apply modPort_onward | split)

theorem modLine_onward {s t : State} (h : Onward s t) (a0 : ℕ) (a1 : TtdpLine → TtdpLine) : Onward s (modLine a0 a1 t) := by
  unfold modLine
  repeat' (first | lift_lets | with_reducible exact h | with_reducible apply modNet_onward)

theorem deliverHeld_onward {s t : State} (h : Onward s t) (a0 : ℕ) : Onward s (deliverHeld a0 t) := by
  unfold deliverHeld
  repeat' (first | lift_lets | with_reducible exact h | with_reducible apply modChan_onward)

theorem startDissolve_onward {s t : State} (h : Onward s t) (a0 : ℕ) (a1 : ℕ) : Onward s (startDissolve a0 a1 t) := by
  unfold startDissolve
  repeat' (first | lift_lets | with_reducible exact h | with_reducible apply completeEntry_onward | with_reducible apply commitEntry_onward
                 | with_reducible apply modChan_onward | split)

theorem deliverOutput_onward {s t : State} (h : Onward s t) (a0 : ℕ) (a1 : ℤ) (a2 : ℕ) : Onward s (deliverOutput a0 a1 a2 t) := by
  unfold deliverOutput
  repeat' (first | lift_lets | with_reducible exact h | with_reducible apply pulse_onward | with_reducible apply modChan_onward)

theorem produceOutput_onward {s t : State} (h : Onward s t) (a0 : ℕ) : Onward s (produceOutput a0 t) := by
  unfold produceOutput
  repeat' (first | with_reducible exact h | with_reducible apply onward_ite | with_reducible apply endDissolve_onward
                 | with_reducible apply startDissolve_onward | with_reducible apply deliverOutput_onward | with_reducible apply modChan_onward
                 | split)

theorem takeSample_onward {s t : State} (h : Onward s t) (a0 : ℕ) (a1 : ℤ) : Onward s (takeSample a0 a1 t) := by
  unfold takeSample
  repeat' (first | (intro y; refine onward_cut (s := s) (y := y) ?_ ?_; rotate_left; (intro hy; clear_value y); rotate_right; subst y)
                 | (intro y; clear_value y) | lift_lets | with_reducible exact h | with_reducible assumption | with_reducible apply onward_ite
                 | with_reducible apply modChan_onward | with_reducible apply deliverHeld_onward | with_reducible apply endDissolve_onward
                 | with_reducible apply produceOutput_onward)

theorem toReel_onward {s t : State} (h : Onward s t) : Onward s (toReel t) := by
  unfold toReel
  repeat' (first | lift_lets | with_reducible exact h | with_reducible apply onward_ite | with_reducible apply modNet_onward)

theorem execTrdpPrReceive_onward {s t : State} (h : Onward s t) (a0 : Telegram) : Onto s (execTrdpPrReceive a0 t) := by
  unfold execTrdpPrReceive
  repeat' (first | lift_lets | with_reducible exact h | with_reducible apply onto_next | with_reducible apply onto_ite
                 | with_reducible apply toReel_onward | with_reducible apply modFlow_onward | with_reducible apply sendTelegram_onward | split)

theorem execBackpressureWindow_onward {s t : State} (h : Onward s t) : Onto s (execBackpressureWindow t) := by
  unfold execBackpressureWindow
  repeat' (first | (intro y; refine onward_cut (s := s) (y := y) ?_ ?_; rotate_left; (intro hy; clear_value y); rotate_right; subst y)
                 | (intro y; clear_value y) | intro _ | lift_lets | with_reducible exact h | with_reducible assumption
                 | with_reducible apply onto_next | with_reducible apply onto_ite | with_reducible apply onward_foldl
                 | with_reducible apply reachLocal_onward | with_reducible apply modPort_onward | with_reducible apply countApplied_onward)

theorem dropFlow_onward {s t : State} (h : Onward s t) (a0 : ℕ) (a1 : ℕ) : Onward s (dropFlow a0 a1 t) := by
  unfold dropFlow
  repeat' (first | lift_lets | with_reducible exact h | with_reducible apply modFlow_onward)

theorem rejectTelegram_onward {s t : State} (h : Onward s t) (a0 : ℕ) (a1 : ℕ) : Onward s (rejectTelegram a0 a1 t) := by
  unfold rejectTelegram
  repeat' (first | (intro y; refine onward_cut (s := s) (y := y) ?_ ?_; rotate_left; (intro hy; clear_value y); rotate_right; subst y)
                 | (intro y; clear_value y) | lift_lets | with_reducible exact h | with_reducible assumption
                 | with_reducible apply modFlow_onward | with_reducible apply dropFlow_onward)

theorem acceptTelegram_onward {s t : State} (h : Onward s t) (a0 : ℕ) (a1 : Telegram) : Onward s (acceptTelegram a0 a1 t) := by
  unfold acceptTelegram
  repeat' (first | (intro y; refine onward_cut (s := s) (y := y) ?_ ?_; rotate_left; (intro hy; clear_value y); rotate_right; subst y)
                 | (intro y; clear_value y) | lift_lets | with_reducible exact h | with_reducible assumption
                 | with_reducible apply modFlow_onward | with_reducible apply countMessage_onward | with_reducible apply pulse_onward | split)

theorem receiveTelegram_onward {s t : State} (h : Onward s t) (a0 : Telegram) : Onward1 s (receiveTelegram a0 t) := by
  unfold receiveTelegram
  repeat' (first | (intro y; clear_value y) | intro _ | lift_lets | with_reducible exact h | with_reducible assumption
                 | with_reducible apply onward1_mk | with_reducible apply onward_foldl | with_reducible apply dropFlow_onward
                 | with_reducible apply toReel_onward | with_reducible apply rejectTelegram_onward | with_reducible apply acceptTelegram_onward
                 | split)

theorem receiveTelegram_state {s t : State} (h : Onward s t) (a0 : Telegram) : Onward s (receiveTelegram a0 t).1 :=
  (receiveTelegram_onward h a0).out

theorem execMvbSinkStale_onward {s t : State} (h : Onward s t) (a0 : ℕ) : Onto s (execMvbSinkStale a0 t) := by
  unfold execMvbSinkStale
  repeat' (first | lift_lets | with_reducible exact h | with_reducible apply onto_next | with_reducible apply onto_ite
                 | with_reducible apply modMvbPort_onward | with_reducible apply reach_onward | split)

theorem grantNext_onward {s t : State} (h : Onward s t) (a0 : ℕ) : Onward s (grantNext a0 t) := by
  unfold grantNext
  repeat' (first | lift_lets | with_reducible exact h | with_reducible apply onward_ite | with_reducible apply modEntry_onward
                 | with_reducible apply grantWrite_onward | split)

theorem cueTick_onward {s t : State} (h : Onward s t) (a0 : ℕ) (a1 : ℤ) (a2 : ℤ) : Onward s (cueTick a0 a1 a2 t) := by
  unfold cueTick
  repeat' (first | (intro y; clear_value y) | intro _ | lift_lets | with_reducible exact h | with_reducible assumption
                 | with_reducible apply onward_ite | with_reducible apply onward_foldl | with_reducible apply cuePasses_onward)

theorem execMvbReadTimeout_onward {s t : State} (h : Onward s t) (a0 : ℕ) : Onto s (execMvbReadTimeout a0 t) := by
  unfold execMvbReadTimeout
  repeat' (first | (intro y; refine onward_cut (s := s) (y := y) ?_ ?_; rotate_left; (intro hy; clear_value y); rotate_right; subst y)
                 | lift_lets | with_reducible exact h | with_reducible assumption | with_reducible apply onto_next
                 | with_reducible apply modMvbPort_onward | with_reducible apply reach_onward | with_reducible apply modBus_onward
                 | with_reducible apply completeEntry_onward | split)

theorem tryUnlocks_onward {s t : State} (h : Onward s t) : Onward s (tryUnlocks t) := by
  unfold tryUnlocks
  repeat' (first | intro _ | lift_lets | with_reducible exact h | with_reducible assumption | with_reducible apply onward_foldl
                 | with_reducible apply tryUnlock_onward)

theorem finishWrite_onward {s t : State} (h : Onward s t) (a0 : ℕ) (a1 : ℕ) (a2 : MvbWriteSt) : Onward s (finishWrite a0 a1 a2 t) := by
  unfold finishWrite
  repeat' (first | lift_lets | with_reducible exact h | with_reducible apply tryUnlocks_onward | with_reducible apply grantNext_onward
                 | with_reducible apply endWrite_onward)

theorem execMvbWriteDeadline_onward {s t : State} (h : Onward s t) (a0 : ℕ) : Onto s (execMvbWriteDeadline a0 t) := by
  unfold execMvbWriteDeadline
  repeat' (first | (intro y; clear_value y) | lift_lets | with_reducible exact h | with_reducible apply onto_next
                 | with_reducible apply finishWrite_onward | with_reducible apply reach_onward | split)

theorem takeSets_onward {s t : State} (h : Onward s t) (a0 : ℕ) (a1 : List (List ℤ)) : Onward s (takeSets a0 a1 t) := by
  unfold takeSets
  repeat' (first | intro _ | lift_lets | with_reducible exact h | with_reducible assumption | with_reducible apply onward_foldl
                 | with_reducible apply takeSample_onward | split)

theorem feedMaps_onward {s t : State} (h : Onward s t) (a0 : ℕ) : Onward s (feedMaps a0 t) := by
  unfold feedMaps
  repeat' (first | intro _ | lift_lets | with_reducible exact h | with_reducible assumption | with_reducible apply onward_ite
                 | with_reducible apply onward_foldl | with_reducible apply modMvbPort_onward | split)

theorem execTrdpPdReceive_onward {s t : State} (h : Onward s t) (a0 : Telegram) : Onto s (execTrdpPdReceive a0 t) := by
  unfold execTrdpPdReceive
  repeat' (first | lift_lets | with_reducible exact h | with_reducible apply onto_next | with_reducible apply onward1_mk
                 | with_reducible apply onto_ite | with_reducible apply feedMaps_onward | with_reducible apply receiveTelegram_state
                 | refine onward1_of_eq (by assumption) ?_ | split)

theorem statusSeen_onward {s t : State} (h : Onward s t) (a0 : ℕ) (a1 : ℕ) (a2 : ℕ) : Onward s (statusSeen a0 a1 a2 t) := by
  unfold statusSeen
  repeat' (first | (intro y; refine onward_cut (s := s) (y := y) ?_ ?_; rotate_left; (intro hy; clear_value y); rotate_right; subst y)
                 | (intro y; clear_value y) | intro _ | lift_lets | with_reducible exact h | with_reducible assumption
                 | with_reducible apply onward_ite | with_reducible apply onward_foldl | with_reducible apply modMvbPort_onward
                 | with_reducible apply finishWrite_onward | split)

theorem execRelayReadback_onward {s t : State} (h : Onward s t) (a0 : ℕ) (a1 : Bool) : Onto s (execRelayReadback a0 a1 t) := by
  unfold execRelayReadback
  repeat' (first | (intro y; refine onward_cut (s := s) (y := y) ?_ ?_; rotate_left; (intro hy; clear_value y); rotate_right; subst y)
                 | (intro y; clear_value y) | intro _ | lift_lets | with_reducible exact h | with_reducible assumption
                 | with_reducible apply onward_ite | with_reducible apply onto_next | with_reducible apply onto_ite
                 | with_reducible apply modNet_onward | with_reducible apply record_onward)

theorem markPolled_onward {s t : State} (h : Onward s t) (a0 : ℕ) (a1 : ℕ) : Onward s (markPolled a0 a1 t) := by
  unfold markPolled
  repeat' (first | lift_lets | with_reducible exact h | with_reducible apply modBus_onward)

theorem startInauguration_onward {s t : State} (h : Onward s t) : Onward s (startInauguration t) := by
  unfold startInauguration
  repeat' (first | lift_lets | with_reducible exact h | with_reducible apply onward_ite | with_reducible apply modNet_onward)

theorem execTtdpHelloTimeout_onward {s t : State} (h : Onward s t) (a0 : ℕ) : Onto s (execTtdpHelloTimeout a0 t) := by
  unfold execTtdpHelloTimeout
  repeat' (first | (intro y; refine onward_cut (s := s) (y := y) ?_ ?_; rotate_left; (intro hy; clear_value y); rotate_right; subst y)
                 | (intro y; clear_value y) | lift_lets | with_reducible exact h | with_reducible assumption | with_reducible apply onto_next
                 | with_reducible apply onto_ite | with_reducible apply reach_onward | with_reducible apply modLine_onward
                 | with_reducible apply startInauguration_onward)

theorem execDissolveStart_onward {s t : State} (h : Onward s t) (a0 : ℕ) : Onto s (execDissolveStart a0 t) := by
  unfold execDissolveStart
  repeat' (first | (intro y; clear_value y) | lift_lets | with_reducible exact h | with_reducible apply onward_ite
                 | with_reducible apply onto_next | with_reducible apply startDissolve_onward)

theorem execLaunchGuardBand_onward {s t : State} (h : Onward s t) (a0 : ℕ) (a1 : ℕ) : Onto s (execLaunchGuardBand a0 a1 t) := by
  unfold execLaunchGuardBand
  repeat' (first | lift_lets | with_reducible exact h | with_reducible apply onto_next | with_reducible apply modPort_onward
                 | with_reducible apply reach_onward)

theorem countMissed_onward {s t : State} (h : Onward s t) (a0 : ℕ) : Onward s (countMissed a0 t) := by
  unfold countMissed
  repeat' (first | (intro (y : _ → _); subst y; try beta_reduce) | lift_lets | with_reducible exact h | with_reducible apply modBus_onward)

theorem execDissolveComplete_onward {s t : State} (h : Onward s t) (a0 : ℕ) : Onto s (execDissolveComplete a0 t) := by
  unfold execDissolveComplete
  repeat' (first | lift_lets | with_reducible exact h | with_reducible apply onward_ite | with_reducible apply onto_next
                 | with_reducible apply endDissolve_onward | split)

theorem takeBank_onward {s t : State} (h : Onward s t) (a0 : Bytes) : Onward s (takeBank a0 t) := by
  unfold takeBank
  repeat' (first | lift_lets | with_reducible exact h | with_reducible apply modChan_onward)

theorem execFlowFreshnessTimeout_onward {s t : State} (h : Onward s t) (a0 : ℕ) : Onto s (execFlowFreshnessTimeout a0 t) := by
  unfold execFlowFreshnessTimeout
  repeat' (first | lift_lets | with_reducible exact h | with_reducible apply onto_next | with_reducible apply onto_ite
                 | with_reducible apply modFlow_onward | with_reducible apply reach_onward | split)

theorem execEgressFrameDone_onward {s t : State} (h : Onward s t) (a0 : ℕ) : Onto s (execEgressFrameDone a0 t) := by
  unfold execEgressFrameDone
  repeat' (first | lift_lets | with_reducible exact h | with_reducible apply onto_next | with_reducible apply startNext_onward
                 | with_reducible apply modPort_onward | with_reducible apply reach_onward | split)

theorem eventPhase_onward {s t : State} (h : Onward s t) (a0 : ℕ) : Onward s (eventPhase a0 t) := by
  unfold eventPhase
  repeat' (first | lift_lets | with_reducible exact h | with_reducible apply emit_onward | with_reducible apply modBus_onward)

theorem echoSeen_onward {s t : State} (h : Onward s t) (a0 : ℕ) (a1 : Bytes) : Onward s (echoSeen a0 a1 t) := by
  unfold echoSeen
  repeat' (first | (intro y; refine onward_cut (s := s) (y := y) ?_ ?_; rotate_left; (intro hy; clear_value y); rotate_right; subst y) | intro _
                 | lift_lets | with_reducible exact h | with_reducible assumption | with_reducible apply onward_ite
                 | with_reducible apply onward_foldl | with_reducible apply modMvbPort_onward | with_reducible apply finishWrite_onward | split)

theorem serveReads_onward {s t : State} (h : Onward s t) (a0 : ℕ) (a1 : Bytes) (a2 : ℕ) : Onward s (serveReads a0 a1 a2 t) := by
  unfold serveReads
  repeat' (first | (intro y; refine onward_cut (s := s) (y := y) ?_ ?_; rotate_left; (intro hy; clear_value y); rotate_right; subst y) | intro _
                 | lift_lets | with_reducible exact h | with_reducible assumption | with_reducible apply onward_foldl
                 | with_reducible apply modMvbPort_onward | with_reducible apply completeEntry_onward | split)

theorem execMvbSlaveFrame_onward {s t : State} (h : Onward s t) (a0 : ℕ) (a1 : ℕ) (a2 : ℕ) (a3 : Bytes) (a4 : Bool) (a5 : Bool) :
    Onto s (execMvbSlaveFrame a0 a1 a2 a3 a4 a5 t) := by
  unfold execMvbSlaveFrame
  repeat' (first | (intro y; refine onward_cut (s := s) (y := y) ?_ ?_; rotate_left; (intro hy; clear_value y); rotate_right; subst y)
                 | (intro y; clear_value y) | lift_lets | with_reducible exact h | with_reducible assumption | with_reducible apply onward_ite
                 | with_reducible apply onto_next | with_reducible apply onto_ite | with_reducible apply modBus_onward
                 | with_reducible apply statusSeen_onward | with_reducible apply pulse_onward | with_reducible apply modMvbPort_onward
                 | with_reducible apply echoSeen_onward | with_reducible apply serveReads_onward | split)

theorem execTtdpHelloReceive_onward {s t : State} (h : Onward s t) (a0 : ℕ) (a1 : ℕ) : Onto s (execTtdpHelloReceive a0 a1 t) := by
  unfold execTtdpHelloReceive
  repeat' (first | (intro y; refine onward_cut (s := s) (y := y) ?_ ?_; rotate_left; (intro hy; clear_value y); rotate_right; subst y) | intro _
                 | lift_lets | with_reducible exact h | with_reducible assumption | with_reducible apply onward_ite
                 | with_reducible apply onto_next | with_reducible apply onto_ite | with_reducible apply modLine_onward
                 | with_reducible apply startInauguration_onward)

theorem execFdbAging_onward {s t : State} (h : Onward s t) (a0 : ℕ) (a1 : ℕ) : Onto s (execFdbAging a0 a1 t) := by
  unfold execFdbAging
  repeat' (first | lift_lets | with_reducible exact h | with_reducible apply onto_next | with_reducible apply modNet_onward
                 | with_reducible apply reach_onward | split)

theorem execFrerLatentError_onward {s t : State} (h : Onward s t) (a0 : ℕ) (a1 : ℕ) : Onto s (execFrerLatentError a0 a1 t) := by
  unfold execFrerLatentError
  repeat' (first | (intro y; refine onward_cut (s := s) (y := y) ?_ ?_; rotate_left; (intro hy; clear_value y); rotate_right; subst y)
                 | lift_lets | with_reducible exact h | with_reducible assumption | with_reducible apply onto_next
                 | with_reducible apply onto_ite | with_reducible apply reach_onward | with_reducible apply modNet_onward
                 | with_reducible apply recordReel_onward | split)

theorem execSfpInsertion_onward {s t : State} (h : Onward s t) (a0 : ℕ) (a1 : Bool) (a2 : ℕ) : Onto s (execSfpInsertion a0 a1 a2 t) := by
  unfold execSfpInsertion
  repeat' (first | (intro y; refine onward_cut (s := s) (y := y) ?_ ?_; rotate_left; (intro hy; clear_value y); rotate_right; subst y)
                 | (intro y; clear_value y) | lift_lets | with_reducible exact h | with_reducible assumption | with_reducible apply onward_ite
                 | with_reducible apply onto_next | with_reducible apply onto_ite | with_reducible apply modNet_onward
                 | with_reducible apply modPort_onward | with_reducible apply modPair_onward | with_reducible apply record_onward)

theorem transmit_onward {s t : State} (h : Onward s t) (a0 : ℕ) : Onward s (transmit a0 t) := by
  unfold transmit
  repeat' (first | (intro y; refine onward_cut (s := s) (y := y) ?_ ?_; rotate_left; (intro hy; clear_value y); rotate_right; subst y)
                 | (intro y; clear_value y) | lift_lets | with_reducible exact h | with_reducible assumption | with_reducible apply onward_ite
                 | with_reducible apply modMvbPort_onward | with_reducible apply commitEntry_onward | with_reducible apply modBus_onward
                 | with_reducible apply serveReads_onward | with_reducible apply emit_onward | split)

theorem sendPoll_onward {s t : State} (h : Onward s t) (a0 : ℕ) (a1 : ℕ) (a2 : ℕ) : Onward s (sendPoll a0 a1 a2 t) := by
  unfold sendPoll
  repeat' (first | (intro y; refine onward_cut (s := s) (y := y) ?_ ?_; rotate_left; (intro hy; clear_value y); rotate_right; subst y)
                 | lift_lets | with_reducible exact h | with_reducible assumption | with_reducible apply onward_ite
                 | with_reducible apply emit_onward | with_reducible apply modBus_onward | with_reducible apply transmit_onward)

theorem execTopologyFrame_onward {s t : State} (h : Onward s t) (a0 : ℕ) (a1 : Bool) : Onto s (execTopologyFrame a0 a1 t) := by
  unfold execTopologyFrame
  repeat' (first | lift_lets | with_reducible exact h | with_reducible apply onward_ite | with_reducible apply onto_next
                 | with_reducible apply startInauguration_onward)

theorem execTimeCue_onward {s t : State} (h : Onward s t) (a0 : ℕ) : Onto s (execTimeCue a0 t) := by
  unfold execTimeCue
  repeat' (first | (intro y; clear_value y) | lift_lets | with_reducible exact h | with_reducible apply onto_next | with_reducible apply onto_ite
                 | with_reducible apply timeCuePasses_onward | with_reducible apply reachLocal_onward)

theorem modTakers_onward {s t : State} (h : Onward s t) (a0 : ℕ) (a1 : FilterChannel → FilterChannel) : Onward s (modTakers a0 a1 t) := by
  unfold modTakers
  repeat' (first | intro _ | lift_lets | with_reducible exact h | with_reducible assumption | with_reducible apply onward_foldl
                 | with_reducible apply modChan_onward)

theorem takeFrame_onward {s t : State} (h : Onward s t) (a0 : ℕ) (a1 : ℕ) (a2 : List (List ℤ)) : Onward s (takeFrame a0 a1 a2 t) := by
  unfold takeFrame
  repeat' (first | (intro y; refine onward_cut (s := s) (y := y) ?_ ?_; rotate_left; (intro hy; clear_value y); rotate_right; subst y)
                 | (intro y; clear_value y) | lift_lets | with_reducible exact h | with_reducible assumption | with_reducible apply onward_ite
                 | with_reducible apply modTakers_onward | with_reducible apply takeSets_onward | with_reducible apply modSignal_onward)

theorem execMvbBindingWriteFailure_onward {s t : State} (h : Onward s t) (a0 : ℕ) : Onto s (execMvbBindingWriteFailure a0 t) := by
  unfold execMvbBindingWriteFailure
  repeat' (first | (intro y; refine onward_cut (s := s) (y := y) ?_ ?_; rotate_left; (intro hy; clear_value y); rotate_right; subst y)
                 | lift_lets | with_reducible exact h | with_reducible assumption | with_reducible apply onto_next
                 | with_reducible apply onto_ite | with_reducible apply modMvbPort_onward | with_reducible apply reach_onward
                 | with_reducible apply modBus_onward | with_reducible apply recordReel_onward | split)

theorem execMvbMasterFrame_onward {s t : State} (h : Onward s t) (a0 : ℕ) (a1 : ℕ) (a2 : ℕ) : Onto s (execMvbMasterFrame a0 a1 a2 t) := by
  unfold execMvbMasterFrame
  repeat' (first | (intro y; refine onward_cut (s := s) (y := y) ?_ ?_; rotate_left; (intro hy; clear_value y); rotate_right; subst y)
                 | (intro y; clear_value y) | lift_lets | with_reducible exact h | with_reducible assumption | with_reducible apply onward_ite
                 | with_reducible apply onto_next | with_reducible apply onto_ite | with_reducible apply countMissed_onward
                 | with_reducible apply modBus_onward | with_reducible apply emit_onward | with_reducible apply afterDraw_onward
                 | with_reducible apply markPolled_onward | with_reducible apply transmit_onward | split)

theorem execStreamFrame_onward {s t : State} (h : Onward s t) (a0 : ℕ) (a1 : Bytes) : Onto s (execStreamFrame a0 a1 t) := by
  unfold execStreamFrame
  repeat' (first | (intro y; clear_value y) | lift_lets | with_reducible exact h | with_reducible apply onto_next | with_reducible apply onto_ite
                 | with_reducible apply dropStreamFrame_onward | with_reducible apply takeFrame_onward)

theorem execTtdpHelloSend_onward {s t : State} (h : Onward s t) (a0 : ℕ) : Onto s (execTtdpHelloSend a0 t) := by
  unfold execTtdpHelloSend
  repeat' (first | (intro y; refine onward_cut (s := s) (y := y) ?_ ?_; rotate_left; (intro hy; clear_value y); rotate_right; subst y)
                 | (intro y; clear_value y) | lift_lets | with_reducible exact h | with_reducible assumption | with_reducible apply onto_next
                 | with_reducible apply onto_ite | with_reducible apply reach_onward | with_reducible apply emit_onward
                 | with_reducible apply modLine_onward)

theorem execMvbLockExpiry_onward {s t : State} (h : Onward s t) (a0 : ℕ) : Onto s (execMvbLockExpiry a0 t) := by
  unfold execMvbLockExpiry
  repeat' (first | lift_lets | with_reducible exact h | with_reducible apply onto_next | with_reducible apply loseSemaphore_onward
                 | with_reducible apply reach_onward | split)

theorem execGateEvent_onward {s t : State} (h : Onward s t) (a0 : ℕ) : Onto s (execGateEvent a0 t) := by
  unfold execGateEvent
  repeat' (first | (intro y; refine onward_cut (s := s) (y := y) ?_ ?_; rotate_left; (intro hy; clear_value y); rotate_right; subst y)
                 | (intro y; clear_value y) | lift_lets | with_reducible exact h | with_reducible assumption | with_reducible apply onto_next
                 | with_reducible apply reachLocal_onward | with_reducible apply startNext_onward | with_reducible apply modPort_onward | split)

theorem execMvbBasicPeriod_onward {s t : State} (h : Onward s t) (a0 : ℕ) : Onto s (execMvbBasicPeriod a0 t) := by
  unfold execMvbBasicPeriod
  repeat' (first | (intro y; refine onward_cut (s := s) (y := y) ?_ ?_; rotate_left; (intro hy; clear_value y); rotate_right; subst y)
                 | (intro y; clear_value y) | intro _ | lift_lets | with_reducible exact h | with_reducible assumption
                 | with_reducible apply onward_ite | with_reducible apply onto_next | with_reducible apply onto_ite
                 | with_reducible apply onward_foldl | with_reducible apply countMissed_onward | with_reducible apply reach_onward
                 | with_reducible apply modBus_onward | with_reducible apply sendPoll_onward | with_reducible apply markPolled_onward
                 | with_reducible apply eventPhase_onward)

theorem execInaugurationComplete_onward {s t : State} (h : Onward s t) (a0 : Directory) : Onto s (execInaugurationComplete a0 t) := by
  unfold execInaugurationComplete
  repeat' (first | (intro y; refine onward_cut (s := s) (y := y) ?_ ?_; rotate_left; (intro hy; clear_value y); rotate_right; subst y)
                 | lift_lets | with_reducible exact h | with_reducible assumption | with_reducible apply onto_next
                 | with_reducible apply onto_ite | with_reducible apply modNet_onward | with_reducible apply recordReel_onward)

theorem execFrerResetTimeout_onward {s t : State} (h : Onward s t) (a0 : ℕ) : Onto s (execFrerResetTimeout a0 t) := by
  unfold execFrerResetTimeout
  repeat' (first | lift_lets | with_reducible exact h | with_reducible apply onto_next | with_reducible apply onto_ite
                 | with_reducible apply modNet_onward | with_reducible apply reach_onward | split)

theorem execChannelStale_onward {s t : State} (h : Onward s t) (a0 : ℕ) : Onto s (execChannelStale a0 t) := by
  unfold execChannelStale
  repeat' (first | (intro y; refine onward_cut (s := s) (y := y) ?_ ?_; rotate_left; (intro hy; clear_value y); rotate_right; subst y)
                 | (intro y; clear_value y) | lift_lets | with_reducible exact h | with_reducible assumption | with_reducible apply onto_next
                 | with_reducible apply onto_ite | with_reducible apply reach_onward | with_reducible apply modChan_onward
                 | with_reducible apply endDissolve_onward | with_reducible apply deliverHeld_onward)

end Sys2Proof.Machine
end

