-- ==== Sys2Proof/Laws/OnwardProgram.lean ====
section
/-! SUPPORT. What every operation of the model keeps (Sys2Proof/Laws/Onward.lean):
KPC instructions, takes, retentive memory, Lock-out, trust, the program and the lanes. -/

namespace Sys2Proof.Machine

theorem answerReshoot_onward {s t : State} (h : Onward s t) (a0 : Lane) (a1 : ℕ) : Onward s (answerReshoot a0 a1 t) := by
  unfold answerReshoot
  repeat' (first | (intro y; refine onward_cut (s := s) (y := y) ?_ ?_; rotate_left; (intro hy; clear_value y); rotate_right; subst y)
                 | (intro y; clear_value y) | intro _ | lift_lets | with_reducible exact h | with_reducible assumption
                 | with_reducible apply onward_foldl | with_reducible apply modVoter_onward | with_reducible apply completeEntry_onward)

theorem endReshoots_onward {s t : State} (h : Onward s t) : Onward s (endReshoots t) := by
  unfold endReshoots
  repeat' (first | intro _ | lift_lets | with_reducible exact h | with_reducible assumption | with_reducible apply onward_ite
                 | with_reducible apply onward_foldl | with_reducible apply answerReshoot_onward | with_reducible apply modLane_onward)

theorem stopLanes_onward {s t : State} (h : Onward s t) : Onward s (stopLanes t) := by
  unfold stopLanes
  repeat' (first | lift_lets | with_reducible exact h | with_reducible apply modVoter_onward | with_reducible apply endReshoots_onward)

theorem endVarReads_onward {s t : State} (h : Onward s t) : Onward s (endVarReads t) := by
  unfold endVarReads
  repeat' (first | intro _ | lift_lets | with_reducible exact h | with_reducible assumption | with_reducible apply onward_foldl
                 | with_reducible apply completeEntry_onward | with_reducible apply modProg_onward)

theorem finishStop_onward {s t : State} (h : Onward s t) : Onward s (finishStop t) := by
  unfold finishStop
  repeat' (first | (intro y; refine onward_cut (s := s) (y := y) ?_ ?_; rotate_left; (intro hy; clear_value y); rotate_right; subst y)
                 | (intro y; clear_value y) | lift_lets | with_reducible exact h | with_reducible assumption
                 | with_reducible apply stopLanes_onward | with_reducible apply endVarReads_onward | with_reducible apply modProg_onward
                 | with_reducible apply completeEntry_onward | split)

theorem modReshoot_onward {s t : State} (h : Onward s t) (a0 : Lane) (a1 : ℕ) (a2 : ReshootTask → ReshootTask) :
    Onward s (modReshoot a0 a1 a2 t) := by
  unfold modReshoot
  repeat' (first | lift_lets | with_reducible exact h | with_reducible apply modLane_onward)

theorem passProbation_onward {s t : State} (h : Onward s t) (a0 : Lane) (a1 : ℕ) : Onward s (passProbation a0 a1 t) := by
  unfold passProbation
  repeat' (first | lift_lets | with_reducible exact h | with_reducible apply modReshoot_onward)

theorem recordLane_onward {s t : State} (h : Onward s t) (a0 : ℕ) (a1 : Bytes) : Onward s (recordLane a0 a1 t) := by
  unfold recordLane
  repeat' (first | lift_lets | with_reducible exact h | with_reducible apply record_onward)

theorem failReshoot_onward {s t : State} (h : Onward s t) (a0 : Lane) : Onward s (failReshoot a0 t) := by
  unfold failReshoot
  repeat' (first | (intro y; refine onward_cut (s := s) (y := y) ?_ ?_; rotate_left; (intro hy; clear_value y); rotate_right; subst y)
                 | (intro y; clear_value y) | lift_lets | with_reducible exact h | with_reducible assumption
                 | with_reducible apply modLane_onward | with_reducible apply answerReshoot_onward | with_reducible apply recordLane_onward)

theorem modHealth_onward {s t : State} (h : Onward s t) (a0 : Lane) (a1 : LaneHealth → LaneHealth) : Onward s (modHealth a0 a1 t) := by
  unfold modHealth
  repeat' (first | lift_lets | with_reducible exact h | with_reducible apply modLane_onward)

theorem raiseFloor_onward {s t : State} (h : Onward s t) (a0 : ℕ) (a1 : Bytes) (a2 : ℕ) : Onward s (raiseFloor a0 a1 a2 t) := by
  unfold raiseFloor
  refine modTrust_onward h _ fun k => ?_
  by_cases e : k = (a0, a1)
  · subst e
    have : (List.find? (fun f => decide (f.1 = (a0, a1))) (List.filter (fun f => f.1 != (a0, a1)) t.trust.floors)) = none := by
      rw [List.find?_eq_none]
      intro x hx
      have := (List.mem_filter.1 hx).2
      simpa using this
    simp only [List.find?_append, this]
    simp [floorOf]
  · have hf : ∀ l : List ((ℕ × Bytes) × ℕ), List.find? (fun f => decide (f.1 = k)) (List.filter (fun f => f.1 != (a0, a1)) l) =
        List.find? (fun f => decide (f.1 = k)) l := by
      intro l
      induction l with
      | nil => rfl
      | cons f l ih =>
        by_cases c : f.1 = k
        · have : (f.1 != (a0, a1)) = true := by simp [c, e]
          simp [List.filter_cons, c, e]
        · by_cases d : (f.1 != (a0, a1)) = true
          · simp [List.filter_cons, d, c, ih]
          · simp [List.filter_cons, d, c, ih]
    have e' : ¬ (a0, a1) = k := fun c => e c.symm
    simp only [List.find?_append, hf]
    cases List.find? (fun f => decide (f.1 = k)) t.trust.floors <;> simp [e']

theorem logEntry_onward {s t : State} (h : Onward s t) (a0 : ℕ) (a1 : ℕ) : Onward s (logEntry a0 a1 t) := by
  unfold logEntry
  repeat' (first | (intro y; clear_value y) | lift_lets | with_reducible exact h | with_reducible apply changeLog_onward)

theorem furtherCause_onward {s t : State} (h : Onward s t) (a0 : ℕ) (a1 : ℕ) : Onward s (furtherCause a0 a1 t) := by
  unfold furtherCause
  repeat' (first | (intro y; refine onward_cut (s := s) (y := y) ?_ ?_; rotate_left; (intro hy; clear_value y); rotate_right; subst y)
                 | lift_lets | with_reducible exact h | with_reducible assumption | with_reducible apply writeFlag_onward
                 | with_reducible apply record_onward | with_reducible apply completeEntry_onward | with_reducible apply modSafety_onward
                 | exact le_rfl | split)

theorem logLockout_onward {s t : State} (h : Onward s t) (a0 : ℕ) (a1 : ℕ) (a2 : ℕ) (a3 : ℕ) (a4 : ℕ) (a5 : ℕ) :
    Onward s (logLockout a0 a1 a2 a3 a4 a5 t) := by
  unfold logLockout
  repeat' (first | lift_lets | with_reducible exact h | with_reducible apply logEntry_onward | with_reducible apply writeFlag_onward)

theorem epochStep_onward {s t : State} (h : Onward s t) (a0 : Bool) : Onward s (epochStep a0 t) := by
  unfold epochStep
  repeat' (first | lift_lets | with_reducible exact h | with_reducible apply onward_ite | with_reducible apply epochAtBoundary_onward
                 | with_reducible apply epochIncrement_onward)

theorem abandonTake_onward {s t : State} (h : Onward s t) (a0 : Lane) (a1 : LaneTake) : Onward s (abandonTake a0 a1 t) := by
  unfold abandonTake
  repeat' (first | lift_lets | with_reducible exact h | with_reducible apply modLane_onward | split)

theorem abandonAll_onward {s t : State} (h : Onward s t) : Onward s (abandonAll t) := by
  unfold abandonAll
  repeat' (first | intro _ | lift_lets | with_reducible exact h | with_reducible assumption | with_reducible apply onward_foldl
                 | with_reducible apply abandonTake_onward)

theorem openCommit_onward {s t : State} (h : Onward s t) (a0 : ℕ) : Onward s (openCommit a0 t) := by
  unfold openCommit
  repeat' (first | (intro y; clear_value y) | lift_lets | with_reducible exact h | with_reducible apply modProg_onward | split)

theorem beginCommit_onward {s t : State} (h : Onward s t) (a0 : ℕ) : Onward s (beginCommit a0 t) := by
  unfold beginCommit
  repeat' (first | lift_lets | with_reducible exact h | with_reducible apply onward_ite | with_reducible apply openCommit_onward
                 | with_reducible apply modProg_onward | split)

theorem stopPublication_onward {s t : State} (h : Onward s t) (a0 : ℕ) : Onward s (stopPublication a0 t) := by
  unfold stopPublication
  repeat' (first | lift_lets | with_reducible exact h | with_reducible apply modFlow_onward)

theorem commandOff_onward {s t : State} (h : Onward s t) (a0 : ℕ) : Onward s (commandOff a0 t) := by
  unfold commandOff
  repeat' (first | lift_lets | with_reducible exact h | with_reducible apply modOutput_onward)

theorem stopSource_onward {s t : State} (h : Onward s t) (a0 : ℕ) : Onward s (stopSource a0 t) := by
  unfold stopSource
  repeat' (first | lift_lets | with_reducible exact h | with_reducible apply modMvbPort_onward)

theorem endBinding_onward {s t : State} (h : Onward s t) (a0 : OutputBinding) : Onward s (endBinding a0 t) := by
  unfold endBinding
  repeat' (first | lift_lets | with_reducible exact h | with_reducible apply stopPublication_onward | with_reducible apply commandOff_onward
                 | with_reducible apply stopSource_onward | split)

theorem endBindings_onward {s t : State} (h : Onward s t) (a0 : ℕ) : Onward s (endBindings a0 t) := by
  unfold endBindings
  repeat' (first | intro _ | lift_lets | with_reducible exact h | with_reducible assumption | with_reducible apply onward_foldl
                 | with_reducible apply endBinding_onward | split)

theorem stopSteps_onward {s t : State} (h : Onward s t) : Onward s (stopSteps t) := by
  unfold stopSteps
  repeat' (first | lift_lets | with_reducible exact h | with_reducible apply beginCommit_onward | with_reducible apply endCues_onward
                 | with_reducible apply endBindings_onward)

theorem endActivations_onward {s t : State} (h : Onward s t) : Onward s (endActivations t) := by
  unfold endActivations
  repeat' (first | lift_lets | with_reducible exact h | with_reducible apply modAct_onward | with_reducible apply modProg_onward)

theorem stopAtOnce_onward {s t : State} (h : Onward s t) : Onward s (stopAtOnce t) := by
  unfold stopAtOnce
  repeat' (first | (intro y; refine onward_cut (s := s) (y := y) ?_ ?_; rotate_left; (intro hy; clear_value y); rotate_right; subst y)
                 | (intro y; clear_value y) | lift_lets | with_reducible exact h | with_reducible assumption | with_reducible apply onward_ite
                 | with_reducible apply abandonAll_onward | with_reducible apply stopSteps_onward | with_reducible apply endActivations_onward
                 | with_reducible apply stopLanes_onward | with_reducible apply endVarReads_onward | with_reducible apply modProg_onward
                 | with_reducible apply completeEntry_onward | split)

theorem traceTrigger_onward {s t : State} (h : Onward s t) : Onward s (traceTrigger t) := by
  unfold traceTrigger
  repeat' (first | lift_lets | with_reducible exact h | with_reducible apply modVoter_onward)

theorem forwardForces_onward {s t : State} (h : Onward s t) : Onward s (forwardForces t) := by
  unfold forwardForces
  repeat' (first | lift_lets | with_reducible exact h | with_reducible apply onward_ite | with_reducible apply slipstream_onward)

theorem recordForce_onward {s t : State} (h : Onward s t) (a0 : ℕ) (a1 : Force) (a2 : Bytes) (a3 : Bytes) : Onward s (recordForce a0 a1 a2 a3 t) := by
  unfold recordForce
  repeat' (first | (intro y; refine onward_cut (s := s) (y := y) ?_ ?_; rotate_left; (intro hy; clear_value y); rotate_right; subst y)
                 | (intro y; clear_value y) | lift_lets | with_reducible exact h | with_reducible assumption | with_reducible apply onward_ite
                 | with_reducible apply record_onward)

theorem dropForces_onward {s t : State} (h : Onward s t) (a0 : Force → Bool) : Onward s (dropForces a0 t) := by
  unfold dropForces
  repeat' (first | intro _ | lift_lets | with_reducible exact h | with_reducible assumption | with_reducible apply onward_foldl
                 | with_reducible apply recordForce_onward | with_reducible apply modProg_onward)

theorem dropAndForward_onward {s t : State} (h : Onward s t) (a0 : Force → Bool) : Onward s (dropAndForward a0 t) := by
  unfold dropAndForward
  repeat' (first | lift_lets | with_reducible exact h | with_reducible apply onward_ite | with_reducible apply forwardForces_onward
                 | with_reducible apply dropForces_onward)

theorem sendStatus_onward {s t : State} (h : Onward s t) : Onward s (sendStatus t) := by
  unfold sendStatus
  repeat' (first | lift_lets | with_reducible exact h | with_reducible apply slipstream_onward)

theorem setReason_onward {s t : State} (h : Onward s t) (a0 : ℕ) (a1 : Bool) : Onward s (setReason a0 a1 t) := by
  unfold setReason
  repeat' (first | (intro y; refine onward_cut (s := s) (y := y) ?_ ?_; rotate_left; (intro hy; clear_value y); rotate_right; subst y)
                 | (intro y; clear_value y) | lift_lets | with_reducible exact h | with_reducible assumption | with_reducible apply onward_ite
                 | with_reducible apply modPair_onward | with_reducible apply allOutputsOff_onward | with_reducible apply sendStatus_onward)

theorem pairAtLockout_onward {s t : State} (h : Onward s t) : Onward s (pairAtLockout t) := by
  unfold pairAtLockout
  repeat' (first | (intro y; refine onward_cut (s := s) (y := y) ?_ ?_; rotate_left; (intro hy; clear_value y); rotate_right; subst y)
                 | lift_lets | with_reducible exact h | with_reducible assumption | with_reducible apply onward_ite
                 | with_reducible apply slipstream_onward | with_reducible apply setReason_onward | with_reducible apply modPair_onward)

theorem startHeartbeat_onward {s t : State} (h : Onward s t) : Onward s (startHeartbeat t) := by
  unfold startHeartbeat
  repeat' (first | lift_lets | with_reducible exact h | with_reducible apply onward_ite | with_reducible apply modNet_onward)

theorem lockOut_onward {s t : State} (h : Onward s t) (a0 : Bool) (a1 : ℕ) (a2 : ℕ) (a3 : ℕ) (a4 : ℕ) (a5 : ℕ) :
    Onward s (lockOut a0 a1 a2 a3 a4 a5 t) := by
  unfold lockOut
  repeat' (first | (intro y; refine onward_cut (s := s) (y := y) ?_ ?_; rotate_left; (intro hy; clear_value y); rotate_right; subst y)
                 | (intro y; clear_value y) | lift_lets | with_reducible exact h | with_reducible assumption | with_reducible apply onward_ite
                 | with_reducible apply logEntry_onward | with_reducible apply furtherCause_onward | with_reducible apply logLockout_onward
                 | with_reducible apply testOff_onward | with_reducible apply allOutputsOff_onward | with_reducible apply epochStep_onward
                 | with_reducible apply freeUnvoted_onward | with_reducible apply stopAtOnce_onward | with_reducible apply traceTrigger_onward
                 | with_reducible apply closeWindows_onward | with_reducible apply dropAndForward_onward | with_reducible apply modSafety_onward
                 | with_reducible apply pairAtLockout_onward | with_reducible apply startHeartbeat_onward | with_reducible apply modModule_onward
                 | exact le_rfl | split)

theorem countTwoLane_onward {s t : State} (h : Onward s t) : Onward s (countTwoLane t) := by
  unfold countTwoLane
  repeat' (first | (intro (y : _ → _); subst y; try beta_reduce) | (intro y; clear_value y) | lift_lets | with_reducible exact h
                 | with_reducible apply modVoter_onward)

theorem closeTwoLane_onward {s t : State} (h : Onward s t) : Onward s (closeTwoLane t) := by
  unfold closeTwoLane
  repeat' (first | lift_lets | with_reducible exact h | with_reducible apply onward_ite | with_reducible apply countTwoLane_onward)

theorem useEntries_onward {s t : State} (h : Onward s t) (a0 : Bytes) : Onward s (useEntries a0 t) := by
  unfold useEntries
  repeat' (first | lift_lets | with_reducible exact h | with_reducible apply modProg_onward)

theorem warmShadow_onward {s t : State} (h : Onward s t) : Onward s (warmShadow t) := by
  unfold warmShadow
  repeat' (first | exact id | lift_lets | with_reducible exact h | with_reducible apply modMbx_onward)

theorem modStarting_onward {s t : State} (h : Onward s t) (a0 : Lane → LaneSt → LaneSt) : Onward s (modStarting a0 t) := by
  unfold modStarting
  repeat' (first | lift_lets | with_reducible exact h | with_reducible apply modVoter_onward)

theorem coldMailbox_onward {s t : State} (h : Onward s t) : Onward s (coldMailbox t) := by
  unfold coldMailbox
  repeat' (first | exact id | lift_lets | with_reducible exact h | with_reducible apply modMbx_onward)

theorem reportBanks_onward {s t : State} (h : Onward s t) : Onward s (reportBanks t) := by
  unfold reportBanks
  repeat' (first | (intro y; refine onward_cut (s := s) (y := y) ?_ ?_; rotate_left; (intro hy; clear_value y); rotate_right; subst y)
                 | (intro y; clear_value y) | lift_lets | with_reducible exact h | with_reducible assumption | with_reducible apply onward_ite
                 | with_reducible apply modProg_onward | with_reducible apply record_onward)

theorem restartLanes_onward {s t : State} (h : Onward s t) (a0 : Bool) (a1 : ℕ) (a2 : Image) : Onward2 s (restartLanes a0 a1 a2 t) := by
  unfold restartLanes
  repeat' (first | (intro y; clear_value y) | lift_lets | with_reducible exact h | with_reducible apply onward2_mk
                 | with_reducible apply warmShadow_onward | with_reducible apply modStarting_onward | with_reducible apply coldMailbox_onward
                 | with_reducible apply reportBanks_onward | split)

theorem restartLanes_state {s t : State} (h : Onward s t) (a0 : Bool) (a1 : ℕ) (a2 : Image) : Onward s (restartLanes a0 a1 a2 t).2 :=
  (restartLanes_onward h a0 a1 a2).out

theorem takeImages_onward {s t : State} (h : Onward s t) (a0 : Image) : Onward s (takeImages a0 t) := by
  unfold takeImages
  repeat' (first | (intro y; clear_value y) | lift_lets | with_reducible exact h | with_reducible apply modPair_onward
                 | with_reducible apply modProg_onward | split)

theorem settleLanes_onward {s t : State} (h : Onward s t) : Onward s (settleLanes t) := by
  unfold settleLanes
  repeat' (first | lift_lets | with_reducible exact h | with_reducible apply modVoter_onward)

theorem writeDirectory_onward {s t : State} (h : Onward s t) (a0 : ℕ) : Onward s (writeDirectory a0 t) := by
  unfold writeDirectory
  repeat' (first | (intro y; clear_value y) | lift_lets | with_reducible exact h | with_reducible apply modProg_onward | split)

theorem recordProgram_onward {s t : State} (h : Onward s t) (a0 : ℕ) (a1 : Bytes) : Onward s (recordProgram a0 a1 t) := by
  unfold recordProgram
  repeat' (first | lift_lets | with_reducible exact h | with_reducible apply record_onward)

theorem startProgram_onward {s t : State} (h : Onward s t) (a0 : ℕ) (a1 : ℕ) (a2 : ℕ) : Onward s (startProgram a0 a1 a2 t) := by
  unfold startProgram
  repeat' (first | (intro y; refine onward_cut (s := s) (y := y) ?_ ?_; rotate_left; (intro hy; clear_value y); rotate_right; subst y)
                 | (intro y; refine onward2_cut (s := s) (y := y) ?_ ?_; rotate_left; (intro hy; clear_value y); rotate_right; subst y)
                 | (intro y; clear_value y) | lift_lets | with_reducible exact h | with_reducible assumption | with_reducible apply onward_ite
                 | with_reducible apply onward2_mk | with_reducible apply modProg_onward | with_reducible apply raiseFloor_onward
                 | with_reducible apply epochIncrement_onward | with_reducible apply closeTwoLane_onward | with_reducible apply useEntries_onward
                 | with_reducible apply modPair_onward | with_reducible apply takeImages_onward | with_reducible apply settleLanes_onward
                 | with_reducible apply writeDirectory_onward | with_reducible apply sourcesAtStart_onward
                 | with_reducible apply cuesAtStart_onward | with_reducible apply recordProgram_onward | with_reducible apply slipstream_onward
                 | with_reducible apply restartLanes_state | exact Onward2.out (by assumption) | split)

theorem startAtBoot_onward {s t : State} (h : Onward s t) : Onward s (startAtBoot t) := by
  unfold startAtBoot
  repeat' (first | (intro y; refine onward_cut (s := s) (y := y) ?_ ?_; rotate_left; (intro hy; clear_value y); rotate_right; subst y)
                 | lift_lets | with_reducible exact h | with_reducible assumption | with_reducible apply onward_ite
                 | with_reducible apply modProg_onward | with_reducible apply startProgram_onward)

theorem faultsGone_onward {s t : State} (h : Onward s t) (a0 : ℕ × ℕ → Bool) : Onward s (faultsGone a0 t) := by
  unfold faultsGone
  repeat' (first | lift_lets | with_reducible exact h | with_reducible apply modSafety_onward | exact le_rfl)

theorem forwardRecut_onward {s t : State} (h : Onward s t) : Onward s (forwardRecut t) := by
  unfold forwardRecut
  repeat' (first | (intro y; clear_value y) | lift_lets | with_reducible exact h | with_reducible apply onward_ite
                 | with_reducible apply slipstream_onward)

theorem postponeRecut_onward {s t : State} (h : Onward s t) (a0 : Recut) (a1 : Image) : Onward s (postponeRecut a0 a1 t) := by
  unfold postponeRecut
  repeat' (first | (intro y; clear_value y) | lift_lets | with_reducible exact h | with_reducible apply forwardRecut_onward
                 | with_reducible apply modProg_onward | with_reducible apply releaseEvents_state)

theorem reportInitialised_onward {s t : State} (h : Onward s t) (a0 : Image) (a1 : Image) : Onward s (reportInitialised a0 a1 t) := by
  unfold reportInitialised
  repeat' (first | intro _ | lift_lets | with_reducible exact h | with_reducible assumption | with_reducible apply onward_ite
                 | with_reducible apply onward_foldl | with_reducible apply record_onward | with_reducible apply recordProgram_onward)

theorem recutForces_onward {s t : State} (h : Onward s t) (a0 : Image) (a1 : Image) : Onward s (recutForces a0 a1 t) := by
  unfold recutForces
  repeat' (first | lift_lets | with_reducible exact h | with_reducible apply dropForces_onward)

theorem reportForces_onward {s t : State} (h : Onward s t) (a0 : Image) (a1 : Image) : Onward s (reportForces a0 a1 t) := by
  unfold reportForces
  repeat' (first | intro _ | lift_lets | with_reducible exact h | with_reducible assumption | with_reducible apply onward_foldl
                 | with_reducible apply record_onward)

theorem recutReads_onward {s t : State} (h : Onward s t) (a0 : Image) : Onward s (recutReads a0 t) := by
  unfold recutReads
  repeat' (first | (intro y; clear_value y) | intro _ | lift_lets | with_reducible exact h | with_reducible assumption
                 | with_reducible apply onward_foldl | with_reducible apply completeEntry_onward | with_reducible apply modProg_onward)

theorem recutChannels_onward {s t : State} (h : Onward s t) (a0 : Image) (a1 : Image) : Onward s (recutChannels a0 a1 t) := by
  unfold recutChannels
  repeat' (first | (intro (y : _ → _); subst y; try beta_reduce) | (intro y; clear_value y) | exact id | intro _ | lift_lets
                 | with_reducible exact h | with_reducible assumption | with_reducible apply onward_foldl
                 | with_reducible apply recordProgram_onward | with_reducible apply modMbx_onward)

theorem recutSources_onward {s t : State} (h : Onward s t) (a0 : Image) (a1 : Image) : Onward s (recutSources a0 a1 t) := by
  unfold recutSources
  repeat' (first | (intro (y : _ → _); subst y; try beta_reduce) | lift_lets | with_reducible exact h | with_reducible apply modAct_onward)

theorem recutCues_onward {s t : State} (h : Onward s t) (a0 : Image) (a1 : Image) : Onward s (recutCues a0 a1 t) := by
  unfold recutCues
  repeat' (first | (intro (y : _ → _); subst y; try beta_reduce) | (intro y; clear_value y) | lift_lets | with_reducible exact h
                 | with_reducible apply modPos_onward)

theorem endUnbound_onward {s t : State} (h : Onward s t) (a0 : Image) (a1 : Image) : Onward s (endUnbound a0 a1 t) := by
  unfold endUnbound
  repeat' (first | intro _ | lift_lets | with_reducible exact h | with_reducible assumption | with_reducible apply onward_foldl
                 | with_reducible apply endBinding_onward)

theorem switchImages_onward {s t : State} (h : Onward s t) (a0 : Recut) (a1 : Image) (a2 : Image) : Onward s (switchImages a0 a1 a2 t) := by
  unfold switchImages
  repeat' (first | (intro y; refine onward_cut (s := s) (y := y) ?_ ?_; rotate_left; (intro hy; clear_value y); rotate_right; subst y)
                 | (intro (y : _ → _); subst y; try beta_reduce) | (intro y; clear_value y) | lift_lets | with_reducible exact h
                 | with_reducible assumption | with_reducible apply reportInitialised_onward | with_reducible apply recutForces_onward
                 | with_reducible apply reportForces_onward | with_reducible apply recutReads_onward | with_reducible apply recutChannels_onward
                 | with_reducible apply recutSources_onward | with_reducible apply recutCues_onward | with_reducible apply endUnbound_onward
                 | with_reducible apply modVoter_onward | with_reducible apply modProg_onward | with_reducible apply modPair_onward
                 | with_reducible apply takeImages_onward | with_reducible apply raiseFloor_onward | with_reducible apply useEntries_onward
                 | with_reducible apply recordProgram_onward | with_reducible apply releaseEvents_state)

theorem endStandbyReshoots_onward {s t : State} (h : Onward s t) : Onward s (endStandbyReshoots t) := by
  unfold endStandbyReshoots
  repeat' (first | intro _ | lift_lets | with_reducible exact h | with_reducible assumption | with_reducible apply onward_ite
                 | with_reducible apply onward_foldl | with_reducible apply failReshoot_onward)

theorem execRecutSwitch_onward {s t : State} (h : Onward s t) : Onto s (execRecutSwitch t) := by
  unfold execRecutSwitch
  repeat' (first | with_reducible exact h | with_reducible apply onto_next | with_reducible apply onto_ite | with_reducible apply reach_onward
                 | with_reducible apply postponeRecut_onward | with_reducible apply switchImages_onward
                 | with_reducible apply endStandbyReshoots_onward | split)

theorem cmdForceList_onward : OnwardC cmdForceList := by
  refine ⟨fun e s t h => ?_⟩
  unfold cmdForceList
  repeat' (first | (intro y; clear_value y) | intro _ | lift_lets | with_reducible exact h | with_reducible assumption
                 | with_reducible apply onward1_mk | with_reducible apply sized_state | with_reducible apply answers_state)

theorem cmdLaneHealth_onward : OnwardC cmdLaneHealth := by
  refine ⟨fun e s t h => ?_⟩
  unfold cmdLaneHealth
  repeat' (first | intro _ | lift_lets | with_reducible exact h | with_reducible assumption | with_reducible apply onward1_mk
                 | with_reducible apply sized_state | with_reducible apply answers_state | with_reducible apply fails_state | split)

theorem cmdProgramStatus_onward : OnwardC cmdProgramStatus := by
  refine ⟨fun e s t h => ?_⟩
  unfold cmdProgramStatus
  repeat' (first | (intro (y : _ → _); subst y; try beta_reduce) | (intro y; clear_value y) | intro _ | lift_lets | with_reducible exact h
                 | with_reducible assumption | with_reducible apply onward1_mk | with_reducible apply sized_state
                 | with_reducible apply answers_state)

theorem cmdRecutCancel_onward : OnwardC cmdRecutCancel := by
  refine ⟨fun e s t h => ?_⟩
  unfold cmdRecutCancel
  repeat' (first | intro _ | lift_lets | with_reducible exact h | with_reducible assumption | with_reducible apply onward1_mk
                 | with_reducible apply forwardRecut_onward | with_reducible apply modProg_onward | with_reducible apply sized_state
                 | with_reducible apply fails_state | with_reducible apply answers_state | split)

theorem cmdStaggerSet_onward : OnwardC cmdStaggerSet := by
  refine ⟨fun e s t h => ?_⟩
  unfold cmdStaggerSet
  repeat' (first | intro _ | lift_lets | with_reducible exact h | with_reducible assumption | with_reducible apply onward1_mk
                 | with_reducible apply forwardSettings_onward | with_reducible apply modVoter_onward | with_reducible apply sized_state
                 | with_reducible apply fails_state | with_reducible apply answers_state | split)

theorem installAnchor_onward {s t : State} (h : Onward s t) (a0 : Bytes) (a1 : List Bytes) : Onward s (installAnchor a0 a1 t) := by
  unfold installAnchor
  repeat' (first | (intro y; refine onward_cut (s := s) (y := y) ?_ ?_; rotate_left; (intro hy; clear_value y); rotate_right; subst y)
                 | exact FloorsLe.refl _ | intro _ | lift_lets | with_reducible exact h | with_reducible assumption
                 | with_reducible apply onward_foldl | with_reducible apply modTrust_onward | with_reducible apply raiseFloor_onward)

theorem thenAfter_onward {s t : State} (h : Onward s t) (a0 : Entry) (a1 : Bytes) (a2 : State → State) (g2 : ∀ u, Onward s u → Onward s (a2 u)) :
    Onward1 s (thenAfter a0 a1 a2 t) := by
  unfold thenAfter
  repeat' (first | lift_lets | with_reducible exact h | with_reducible apply onward1_mk | with_reducible apply g2
                 | with_reducible apply finish_onward)

theorem thenAfter_state {s t : State} (h : Onward s t) (a0 : Entry) (a1 : Bytes) (a2 : State → State) (g2 : ∀ u, Onward s u → Onward s (a2 u)) :
    Onward s (thenAfter a0 a1 a2 t).1 :=
  (thenAfter_onward h a0 a1 a2 g2).out

theorem dueRestart_onward {s t : State} (h : Onward s t) : Onward s (dueRestart t) := by
  unfold dueRestart
  repeat' (first | lift_lets | with_reducible exact h | with_reducible apply modModule_onward | exact le_rfl)

theorem endOwn_onward {s t : State} (h : Onward s t) (a0 : Entry) : Onward s (endOwn a0 t) := by
  unfold endOwn
  repeat' (first | lift_lets | with_reducible exact h | with_reducible apply endAfter_onward)

theorem recordCredential_onward {s t : State} (h : Onward s t) (a0 : ℕ) (a1 : ℕ) (a2 : ℕ) (a3 : Bytes) (a4 : Entry) :
    Onward s (recordCredential a0 a1 a2 a3 a4 t) := by
  unfold recordCredential
  repeat' (first | lift_lets | with_reducible exact h | with_reducible apply record_onward)

theorem cmdEnrolInstall_onward : OnwardC cmdEnrolInstall := by
  refine ⟨fun e s t h => ?_⟩
  unfold cmdEnrolInstall
  repeat' (first | (intro y; refine onward_cut (s := s) (y := y) ?_ ?_; rotate_left; (intro hy; clear_value y); rotate_right; subst y)
                 | (intro y; clear_value y) | exact FloorsLe.refl _ | intro _ | with_reducible exact h | with_reducible assumption
                 | with_reducible apply onward1_ite | with_reducible apply fails_onward | with_reducible apply modTrust_onward
                 | with_reducible apply afterDraw_onward | with_reducible apply installAnchor_onward | with_reducible apply dueRestart_onward
                 | with_reducible apply endOwn_onward | with_reducible apply recordCredential_onward | with_reducible apply fails_state
                 | with_reducible apply thenAfter_state | with_reducible apply onward1_mk | split | lift_lets)

theorem endCredentialSessions_onward {s t : State} (h : Onward s t) (a0 : ℕ) (a1 : Option ℕ) : Onward s (endCredentialSessions a0 a1 t) := by
  unfold endCredentialSessions
  repeat' (first | intro _ | lift_lets | with_reducible exact h | with_reducible assumption | with_reducible apply onward_foldl
                 | with_reducible apply endSession_onward)

theorem cmdCredentialRemove_onward : OnwardC cmdCredentialRemove := by
  refine ⟨fun e s t h => ?_⟩
  unfold cmdCredentialRemove
  repeat' (first | exact FloorsLe.refl _ | intro _ | with_reducible exact h | with_reducible assumption | with_reducible apply onward_ite
                 | with_reducible apply sized_onward | with_reducible apply modTrust_onward | with_reducible apply endCredentialSessions_onward
                 | with_reducible apply endOwn_onward | with_reducible apply recordCredential_onward | with_reducible apply fails_state
                 | with_reducible apply thenAfter_state | with_reducible apply onward1_mk | split)

theorem cmdIdentityRead_onward : OnwardC cmdIdentityRead := by
  refine ⟨fun e s t h => ?_⟩
  unfold cmdIdentityRead
  repeat' (first | (intro y; clear_value y) | intro _ | lift_lets | with_reducible exact h | with_reducible assumption
                 | with_reducible apply onward1_mk | with_reducible apply sized_state | with_reducible apply answers_state)

theorem cmdLaneStatus_onward : OnwardC cmdLaneStatus := by
  refine ⟨fun e s t h => ?_⟩
  unfold cmdLaneStatus
  repeat' (first | (intro (y : _ → _); subst y; try beta_reduce) | (intro y; clear_value y) | intro _ | lift_lets | with_reducible exact h
                 | with_reducible assumption | with_reducible apply onward1_mk | with_reducible apply sized_state
                 | with_reducible apply answers_state)

theorem needing_onward {s t : State} (h : Onward s t) (a0 : Resource) (a1 : Entry → State → State × Reply) (a2 : Entry)
    (g1 : ∀ e u, Onward s u → Onward1 s (a1 e u)) :
    Onward1 s (needing a0 a1 a2 t) := by
  unfold needing
  repeat' (first | lift_lets | with_reducible exact h | with_reducible apply onward1_mk
                 | (with_reducible apply Onward1.out; with_reducible apply g1) | split)

theorem needing_state {s t : State} (h : Onward s t) (a0 : Resource) (a1 : Entry → State → State × Reply) (a2 : Entry)
    (g1 : ∀ e u, Onward s u → Onward1 s (a1 e u)) :
    Onward s (needing a0 a1 a2 t).1 :=
  (needing_onward h a0 a1 a2 g1).out

theorem beginStop_onward {s t : State} (h : Onward s t) (a0 : Option ℕ) : Onward s (beginStop a0 t) := by
  unfold beginStop
  repeat' (first | (intro y; refine onward_cut (s := s) (y := y) ?_ ?_; rotate_left; (intro hy; clear_value y); rotate_right; subst y)
                 | lift_lets | with_reducible exact h | with_reducible assumption | with_reducible apply onward_ite
                 | with_reducible apply modProg_onward | with_reducible apply endActivations_onward | with_reducible apply slipstream_onward
                 | with_reducible apply stopSteps_onward)

theorem cmdProgramStop_onward : OnwardC cmdProgramStop := by
  refine ⟨fun e s t h => ?_⟩
  unfold cmdProgramStop
  repeat' (first | intro _ | lift_lets | with_reducible exact h | with_reducible assumption | with_reducible apply onward1_mk
                 | with_reducible apply beginStop_onward | with_reducible apply commitEntry_onward | with_reducible apply sized_state
                 | with_reducible apply fails_state | split)

theorem cmdRecutStart_onward : OnwardC cmdRecutStart := by
  refine ⟨fun e s t h => ?_⟩
  unfold cmdRecutStart
  repeat' (first | intro _ | with_reducible exact h | with_reducible assumption | with_reducible apply onward1_ite
                 | with_reducible apply sized_onward | with_reducible apply fails_onward | with_reducible apply writeDirectory_onward
                 | with_reducible apply modProg_onward | with_reducible apply forwardRecut_onward | with_reducible apply fails_state
                 | with_reducible apply answers_state | with_reducible apply onward1_mk | split)

theorem custody_onward {s t : State} (h : Onward s t) (a0 : ℕ) (a1 : Bytes) : Onward s (custody a0 a1 t) := by
  unfold custody
  repeat' (first | lift_lets | with_reducible exact h | with_reducible apply record_onward)

theorem modLull_onward {s t : State} (h : Onward s t) (a0 : LullSt → LullSt) : Onward s (modLull a0 t) := by
  unfold modLull
  repeat' (first | exact FloorsLe.refl _ | lift_lets | with_reducible exact h | with_reducible apply modTrust_onward)

theorem cmdTamperAcknowledge_onward : OnwardC cmdTamperAcknowledge := by
  refine ⟨fun e s t h => ?_⟩
  unfold cmdTamperAcknowledge
  repeat' (first | (intro y; refine onward_cut (s := s) (y := y) ?_ ?_; rotate_left; (intro hy; clear_value y); rotate_right; subst y)
                 | (intro y; clear_value y) | intro _ | lift_lets | with_reducible exact h | with_reducible assumption
                 | with_reducible apply onward1_mk | with_reducible apply custody_onward | with_reducible apply modLull_onward
                 | with_reducible apply sized_state | with_reducible apply fails_state | with_reducible apply answers_state | split)

theorem cmdVariableRead_onward : OnwardC cmdVariableRead := by
  refine ⟨fun e s t h => ?_⟩
  unfold cmdVariableRead
  repeat' (first | intro _ | lift_lets | with_reducible exact h | with_reducible assumption | with_reducible apply onward1_mk
                 | with_reducible apply modProg_onward | with_reducible apply sized_state | with_reducible apply fails_state | split)

theorem cmdSessionLogin_onward : OnwardC cmdSessionLogin := by
  refine ⟨fun e s t h => ?_⟩
  unfold cmdSessionLogin
  repeat' (first | lift_lets | with_reducible exact h | with_reducible apply onward1_mk | with_reducible apply fails_state | split)

theorem cmdVoterTest_onward : OnwardC cmdVoterTest := by
  refine ⟨fun e s t h => ?_⟩
  unfold cmdVoterTest
  repeat' (first | (intro y; clear_value y) | intro _ | lift_lets | with_reducible exact h | with_reducible assumption
                 | with_reducible apply onward1_mk | with_reducible apply modVoter_onward | with_reducible apply sized_state | split)

theorem dropMasters_onward {s t : State} (h : Onward s t) : Onward s (dropMasters t) := by
  unfold dropMasters
  repeat' (first | lift_lets | with_reducible exact h | with_reducible apply modMvb_onward)

theorem setRole_onward {s t : State} (h : Onward s t) (a0 : PairRole) : Onward s (setRole a0 t) := by
  unfold setRole
  repeat' (first | (intro y; refine onward_cut (s := s) (y := y) ?_ ?_; rotate_left; (intro hy; clear_value y); rotate_right; subst y)
                 | lift_lets | with_reducible exact h | with_reducible assumption | with_reducible apply onward_ite
                 | with_reducible apply pulse_onward | with_reducible apply modPair_onward | with_reducible apply dropMasters_onward)

theorem endResync_onward {s t : State} (h : Onward s t) : Onward s (endResync t) := by
  unfold endResync
  repeat' (first | lift_lets | with_reducible exact h | with_reducible apply setReason_onward | with_reducible apply modPair_onward)

theorem cmdImageLoad_onward : OnwardC cmdImageLoad := by
  refine ⟨fun e s t h => ?_⟩
  unfold cmdImageLoad
  repeat' (first | intro _ | lift_lets | with_reducible exact h | with_reducible assumption | with_reducible apply onward1_mk
                 | with_reducible apply needing_state | with_reducible apply fails_state | split)

theorem recordPair_onward {s t : State} (h : Onward s t) (a0 : ℕ) (a1 : Bytes) : Onward s (recordPair a0 a1 t) := by
  unfold recordPair
  repeat' (first | lift_lets | with_reducible exact h | with_reducible apply record_onward)

theorem answerResync_onward {s t : State} (h : Onward s t) (a0 : ℕ) : Onward s (answerResync a0 t) := by
  unfold answerResync
  repeat' (first | intro _ | lift_lets | with_reducible exact h | with_reducible assumption | with_reducible apply onward_foldl
                 | with_reducible apply completeEntry_onward | with_reducible apply modPair_onward)

theorem resyncFails_onward {s t : State} (h : Onward s t) : Onward s (resyncFails t) := by
  unfold resyncFails
  repeat' (first | (intro y; refine onward_cut (s := s) (y := y) ?_ ?_; rotate_left; (intro hy; clear_value y); rotate_right; subst y)
                 | (intro y; clear_value y) | lift_lets | with_reducible exact h | with_reducible assumption | with_reducible apply onward_ite
                 | with_reducible apply setReason_onward | with_reducible apply recordPair_onward | with_reducible apply endResync_onward
                 | with_reducible apply modPair_onward | with_reducible apply answerResync_onward)

theorem laneFailsResync_onward {s t : State} (h : Onward s t) : Onward s (laneFailsResync t) := by
  unfold laneFailsResync
  repeat' (first | lift_lets | with_reducible exact h | with_reducible apply onward_ite | with_reducible apply resyncFails_onward)

theorem startReshoot_onward {s t : State} (h : Onward s t) (a0 : Lane) : Onward s (startReshoot a0 t) := by
  unfold startReshoot
  repeat' (first | lift_lets | with_reducible exact h | with_reducible apply modLane_onward)

theorem isolateLane_onward {s t : State} (h : Onward s t) (a0 : Bool) (a1 : Lane) (a2 : ℕ) (a3 : ℕ) (a4 : ℕ) (a5 : Bool) :
    Onward s (isolateLane a0 a1 a2 a3 a4 a5 t) := by
  unfold isolateLane
  repeat' (first | (intro y; refine onward_cut (s := s) (y := y) ?_ ?_; rotate_left; (intro hy; clear_value y); rotate_right; subst y)
                 | (intro y; clear_value y) | exact id | lift_lets | with_reducible exact h | with_reducible assumption
                 | with_reducible apply onward_ite | with_reducible apply modLane_onward | with_reducible apply modMbx_onward
                 | with_reducible apply traceTrigger_onward | with_reducible apply epochStep_onward | with_reducible apply laneOutputsOff_onward
                 | with_reducible apply modVoter_onward | with_reducible apply recordLane_onward | with_reducible apply laneFailsResync_onward
                 | with_reducible apply startReshoot_onward)

theorem cmdLaneIsolate_onward : OnwardC cmdLaneIsolate := by
  refine ⟨fun e s t h => ?_⟩
  unfold cmdLaneIsolate
  repeat' (first | intro _ | lift_lets | with_reducible exact h | with_reducible assumption | with_reducible apply onward1_mk
                 | with_reducible apply isolateLane_onward | with_reducible apply commitEntry_onward | with_reducible apply sized_state
                 | with_reducible apply fails_state | with_reducible apply answers_state | split)

theorem cmdAnchorRotate_onward : OnwardC cmdAnchorRotate := by
  refine ⟨fun e s t h => ?_⟩
  unfold cmdAnchorRotate
  repeat' (first | lift_lets | with_reducible exact h | with_reducible apply onward1_mk | with_reducible apply installAnchor_onward
                 | with_reducible apply fails_state | with_reducible apply answers_state | split)

theorem cmdForceClear_onward : OnwardC cmdForceClear := by
  refine ⟨fun e s t h => ?_⟩
  unfold cmdForceClear
  repeat' (first | (intro y; refine onward_cut (s := s) (y := y) ?_ ?_; rotate_left; (intro hy; clear_value y); rotate_right; subst y)
                 | (intro (y : _ → _); subst y; try beta_reduce) | (intro y; clear_value y) | intro _ | lift_lets | with_reducible exact h
                 | with_reducible assumption | with_reducible apply onward_ite | with_reducible apply onward1_mk
                 | with_reducible apply dropForces_onward | with_reducible apply forwardForces_onward | with_reducible apply sized_state
                 | with_reducible apply fails_state | with_reducible apply answers_state | split)

theorem cmdForceSet_onward : OnwardC cmdForceSet := by
  refine ⟨fun e s t h => ?_⟩
  unfold cmdForceSet
  repeat' (first | (intro y; refine onward_cut (s := s) (y := y) ?_ ?_; rotate_left; (intro hy; clear_value y); rotate_right; subst y)
                 | (intro y; clear_value y) | lift_lets | with_reducible exact h | with_reducible assumption | with_reducible apply onward1_mk
                 | with_reducible apply recordForce_onward | with_reducible apply modProg_onward | with_reducible apply forwardForces_onward
                 | with_reducible apply fails_state | with_reducible apply answers_state | split)

theorem cmdSessionList_onward : OnwardC cmdSessionList := by
  refine ⟨fun e s t h => ?_⟩
  unfold cmdSessionList
  repeat' (first | (intro y; clear_value y) | intro _ | lift_lets | with_reducible exact h | with_reducible assumption
                 | with_reducible apply onward1_mk | with_reducible apply sized_state | with_reducible apply answers_state)

theorem setLull_onward {s t : State} (h : Onward s t) (a0 : ℕ) : Onward s (setLull a0 t) := by
  unfold setLull
  repeat' (first | exact FloorsLe.refl _ | lift_lets | with_reducible exact h | with_reducible apply afterDraw_onward
                 | with_reducible apply modTrust_onward)

theorem cmdProgramStart_onward : OnwardC cmdProgramStart := by
  refine ⟨fun e s t h => ?_⟩
  unfold cmdProgramStart
  repeat' (first | (intro y; refine onward_cut (s := s) (y := y) ?_ ?_; rotate_left; (intro hy; clear_value y); rotate_right; subst y)
                 | (intro y; clear_value y) | intro _ | lift_lets | with_reducible exact h | with_reducible assumption
                 | with_reducible apply onward1_mk | with_reducible apply startProgram_onward | with_reducible apply commitEntry_onward
                 | with_reducible apply sized_state | with_reducible apply fails_state | with_reducible apply answers_state | split)

theorem cmdEnrolRequest_onward : OnwardC cmdEnrolRequest := by
  refine ⟨fun e s t h => ?_⟩
  unfold cmdEnrolRequest
  repeat' (first | intro _ | lift_lets | with_reducible exact h | with_reducible assumption | with_reducible apply onward1_mk
                 | with_reducible apply sized_state | with_reducible apply answers_state | with_reducible apply fails_state | split)

theorem remapPeer_onward {s t : State} (h : Onward s t) (a0 : ℕ) : Onward s (remapPeer a0 t) := by
  unfold remapPeer
  repeat' (first | (intro y; clear_value y) | exact FloorsLe.refl _ | lift_lets | with_reducible exact h | with_reducible apply modTrust_onward
                 | split)

theorem remapPeers_onward {s t : State} (h : Onward s t) : Onward s (remapPeers t) := by
  unfold remapPeers
  repeat' (first | intro _ | lift_lets | with_reducible exact h | with_reducible assumption | with_reducible apply onward_foldl
                 | with_reducible apply remapPeer_onward)

theorem modContext_onward {s t : State} (h : Onward s t) (a0 : ℕ) (a1 : SaContext → SaContext) : Onward s (modContext a0 a1 t) := by
  unfold modContext
  repeat' (first | exact FloorsLe.refl _ | lift_lets | with_reducible exact h | with_reducible apply modTrust_onward)

theorem drain_onward {s t : State} (h : Onward s t) (a0 : ℕ) : Onward s (drain a0 t) := by
  unfold drain
  repeat' (first | lift_lets | with_reducible exact h | with_reducible apply modContext_onward)

theorem cmdSaRelease_onward : OnwardC cmdSaRelease := by
  refine ⟨fun e s t h => ?_⟩
  unfold cmdSaRelease
  repeat' (first | exact FloorsLe.refl _ | intro _ | lift_lets | with_reducible exact h | with_reducible assumption
                 | with_reducible apply onward1_mk | with_reducible apply modTrust_onward | with_reducible apply remapPeers_onward
                 | with_reducible apply drain_onward | with_reducible apply sized_state | with_reducible apply fails_state
                 | with_reducible apply answers_state | split)

theorem cmdLaneDiagClear_onward : OnwardC cmdLaneDiagClear := by
  refine ⟨fun e s t h => ?_⟩
  unfold cmdLaneDiagClear
  repeat' (first | (intro y; refine onward_cut (s := s) (y := y) ?_ ?_; rotate_left; (intro hy; clear_value y); rotate_right; subst y) | intro _
                 | lift_lets | with_reducible exact h | with_reducible assumption | with_reducible apply onward_ite
                 | with_reducible apply onward1_mk | with_reducible apply onward_foldl | with_reducible apply modHealth_onward
                 | with_reducible apply modVoter_onward | with_reducible apply sized_state | with_reducible apply fails_state
                 | with_reducible apply answers_state | split)

theorem cmdSessionEnd_onward : OnwardC cmdSessionEnd := by
  refine ⟨fun e s t h => ?_⟩
  unfold cmdSessionEnd
  repeat' (first | intro _ | lift_lets | with_reducible exact h | with_reducible assumption | with_reducible apply onward1_mk
                 | with_reducible apply endOwn_onward | with_reducible apply endSession_onward | with_reducible apply sized_state
                 | with_reducible apply thenAfter_state | with_reducible apply fails_state | with_reducible apply answers_state | split)

theorem cmdLullStatus_onward : OnwardC cmdLullStatus := by
  refine ⟨fun e s t h => ?_⟩
  unfold cmdLullStatus
  repeat' (first | intro _ | lift_lets | with_reducible exact h | with_reducible assumption | with_reducible apply onward1_mk
                 | with_reducible apply sized_state | with_reducible apply answers_state)

theorem cmdOwnerLock_onward : OnwardC cmdOwnerLock := by
  refine ⟨fun e s t h => ?_⟩
  unfold cmdOwnerLock
  repeat' (first | (intro y; refine onward_cut (s := s) (y := y) ?_ ?_; rotate_left; (intro hy; clear_value y); rotate_right; subst y)
                 | (intro y; clear_value y) | exact FloorsLe.refl _ | intro _ | lift_lets | with_reducible exact h | with_reducible assumption
                 | with_reducible apply onward_ite | with_reducible apply onward1_mk | with_reducible apply modTrust_onward
                 | with_reducible apply custody_onward | with_reducible apply testGate_onward | with_reducible apply sized_state
                 | with_reducible apply fails_state | with_reducible apply answers_state | split)

theorem settleAxis_onward {s t : State} (h : Onward s t) : Onward s (settleAxis t) := by
  unfold settleAxis
  repeat' (first | lift_lets | with_reducible exact h | with_reducible apply onward_ite | with_reducible apply modProg_onward)

theorem cmdImageErase_onward : OnwardC cmdImageErase := by
  refine ⟨fun e s t h => ?_⟩
  unfold cmdImageErase
  repeat' (first | intro _ | lift_lets | with_reducible exact h | with_reducible assumption | with_reducible apply onward1_mk
                 | with_reducible apply settleAxis_onward | with_reducible apply modSlot_onward | with_reducible apply needing_state
                 | with_reducible apply sized_state | with_reducible apply fails_state | with_reducible apply answers_state | split)

theorem cmdLaneReshoot_onward : OnwardC cmdLaneReshoot := by
  refine ⟨fun e s t h => ?_⟩
  unfold cmdLaneReshoot
  repeat' (first | (intro y; refine onward_cut (s := s) (y := y) ?_ ?_; rotate_left; (intro hy; clear_value y); rotate_right; subst y)
                 | (intro y; clear_value y) | intro _ | lift_lets | with_reducible exact h | with_reducible assumption
                 | with_reducible apply onward1_mk | with_reducible apply modLane_onward | with_reducible apply modVoter_onward
                 | with_reducible apply startReshoot_onward | with_reducible apply sized_state | with_reducible apply fails_state | split)

theorem cmdLaneTraceRead_onward : OnwardC cmdLaneTraceRead := by
  refine ⟨fun e s t h => ?_⟩
  unfold cmdLaneTraceRead
  repeat' (first | (intro y; clear_value y) | intro _ | lift_lets | with_reducible exact h | with_reducible assumption
                 | with_reducible apply onward1_mk | with_reducible apply sized_state | with_reducible apply fails_state
                 | with_reducible apply answers_state | split)

theorem noteUnchecked_onward {s t : State} (h : Onward s t) (a0 : ℕ) (a1 : Bytes) : Onward s (noteUnchecked a0 a1 t) := by
  unfold noteUnchecked
  repeat' (first | lift_lets | with_reducible exact h | with_reducible apply onward_ite | with_reducible apply custody_onward)

theorem noteInterval_onward {s t : State} (h : Onward s t) (a0 : Bytes) : Onward s (noteInterval a0 t) := by
  unfold noteInterval
  repeat' (first | lift_lets | with_reducible exact h | with_reducible apply onward_ite | with_reducible apply noteUnchecked_onward | split)

theorem keyContext_onward {s t : State} (h : Onward s t) (a0 : ℕ) (a1 : SaContext) : Onward s (keyContext a0 a1 t) := by
  unfold keyContext
  repeat' (first | exact FloorsLe.refl _ | lift_lets | with_reducible exact h | with_reducible apply modTrust_onward)

theorem moveContext_onward {s t : State} (h : Onward s t) (a0 : ℕ) (a1 : ℕ) : Onward s (moveContext a0 a1 t) := by
  unfold moveContext
  repeat' (first | (intro (y : _ → _); subst y; try beta_reduce) | exact FloorsLe.refl _ | lift_lets | with_reducible exact h
                 | with_reducible apply modTrust_onward | with_reducible apply modNet_onward)

theorem goLive_onward {s t : State} (h : Onward s t) (a0 : ℕ) : Onward s (goLive a0 t) := by
  unfold goLive
  repeat' (first | (intro y; refine onward_cut (s := s) (y := y) ?_ ?_; rotate_left; (intro hy; clear_value y); rotate_right; subst y)
                 | lift_lets | with_reducible exact h | with_reducible assumption | with_reducible apply modContext_onward
                 | with_reducible apply moveContext_onward | with_reducible apply drain_onward | split)

theorem cmdSaInstall_onward : OnwardC cmdSaInstall := by
  refine ⟨fun e s t h => ?_⟩
  unfold cmdSaInstall
  repeat' (first | (intro y; refine onward_cut (s := s) (y := y) ?_ ?_; rotate_left; (intro hy; clear_value y); rotate_right; subst y)
                 | (intro y; clear_value y) | exact FloorsLe.refl _ | lift_lets | with_reducible exact h | with_reducible assumption
                 | with_reducible apply onward1_mk | with_reducible apply keyContext_onward | with_reducible apply modTrust_onward
                 | with_reducible apply remapPeers_onward | with_reducible apply goLive_onward | with_reducible apply fails_state
                 | with_reducible apply answers_state | split)

theorem setCredential_onward {s t : State} (h : Onward s t) (a0 : Entry) (a1 : ℕ) (a2 : ℕ) (a3 : Credential) (a4 : Bool) :
    Onward1 s (setCredential a0 a1 a2 a3 a4 t) := by
  unfold setCredential
  repeat' (first | (intro y; refine onward_cut (s := s) (y := y) ?_ ?_; rotate_left; (intro hy; clear_value y); rotate_right; subst y)
                 | exact FloorsLe.refl _ | intro _ | lift_lets | with_reducible exact h | with_reducible assumption
                 | with_reducible apply onward_ite | with_reducible apply onward1_mk | with_reducible apply modTrust_onward
                 | with_reducible apply recordCredential_onward | with_reducible apply endCredentialSessions_onward
                 | with_reducible apply fails_state | with_reducible apply answers_state | split)

theorem setCredential_state {s t : State} (h : Onward s t) (a0 : Entry) (a1 : ℕ) (a2 : ℕ) (a3 : Credential) (a4 : Bool) :
    Onward s (setCredential a0 a1 a2 a3 a4 t).1 :=
  (setCredential_onward h a0 a1 a2 a3 a4).out

theorem cmdCredentialSet_onward : OnwardC cmdCredentialSet := by
  refine ⟨fun e s t h => ?_⟩
  have f (n : ℕ) : Onward1 s (fails n t) := fails_onward h _
  unfold cmdCredentialSet
  simp only
  split
  · exact f _
  · refine onward1_ite (f _) ?_
    split
    · refine onward1_ite (f _) (onward1_ite (f _) (setCredential_onward ?_ _ _ _ _ _))
      exact onward_ite h (afterDraw_onward h)
    · refine onward1_ite (f _) ?_
      split
      · exact f _
      · exact setCredential_onward (afterDraw_onward h) _ _ _ _ _

theorem tellHeld_onward {s t : State} (h : Onward s t) (a0 : Bytes) : Onward s (tellHeld a0 t) := by
  unfold tellHeld
  repeat' (first | lift_lets | with_reducible exact h | with_reducible apply onward_ite | with_reducible apply slipstream_onward)

theorem kpc_onward {s t : State} (h : Onward s t) (a0 : Lane) (a1 : ℕ) (a2 : Kpc → KpcOut) : Onto s (kpc a0 a1 a2 t) := by
  unfold kpc
  repeat' (first | lift_lets | with_reducible exact h | with_reducible apply onto_next | with_reducible exact onto_refused
                 | with_reducible exact onto_fault | with_reducible apply modLane_onward | split)

theorem service_onward {s t : State} (h : Onward s t) (a0 : Lane) (a1 : ℕ) (a2 : ℕ) (a3 : ℕ) (a4 : Kpc → List Val → Option (Kpc × List Val)) :
    Onto s (service a0 a1 a2 a3 a4 t) := by
  unfold service
  repeat' (first | (intro y; clear_value y) | lift_lets | with_reducible exact h | with_reducible apply kpc_onward)

theorem execKMbxIssue_onward {s t : State} (h : Onward s t) (a0 : Lane) (a1 : ℕ) (a2 : ℕ) : Onto s (execKMbxIssue a0 a1 a2 t) := by
  unfold execKMbxIssue
  repeat' (first | lift_lets | with_reducible exact h | with_reducible apply service_onward)

theorem traceAdd_onward {s t : State} (h : Onward s t) (a0 : Bytes) : Onward s (traceAdd a0 t) := by
  unfold traceAdd
  repeat' (first | lift_lets | with_reducible exact h | with_reducible apply modVoter_onward)

theorem reshootAtVote_onward {s t : State} (h : Onward s t) (a0 : ℕ) (a1 : ℕ) : Onward s (reshootAtVote a0 a1 t) := by
  unfold reshootAtVote
  repeat' (first | lift_lets | with_reducible exact h | with_reducible apply onward_ite | with_reducible apply modReshoot_onward | split)

theorem silence_onward {s t : State} (h : Onward s t) : Onward s (silence t) := by
  unfold silence
  repeat' (first | lift_lets | with_reducible exact h | with_reducible apply modNet_onward)

theorem kpcData_onward {s t : State} (h : Onward s t) (a0 : Lane) (a1 : ℕ) (a2 : Bool) (a3 : ℕ) (a4 : Kpc → Result) :
    Onto s (kpcData a0 a1 a2 a3 a4 t) := by
  unfold kpcData
  repeat' (first | lift_lets | with_reducible exact h | with_reducible apply onto_ite | with_reducible exact onto_refused
                 | with_reducible apply kpc_onward)

theorem execKTrunc_onward {s t : State} (h : Onward s t) (a0 : Lane) (a1 : MType) (a2 : MType) (a3 : Regs) : Onto s (execKTrunc a0 a1 a2 a3 t) := by
  unfold execKTrunc
  repeat' (first | lift_lets | with_reducible exact h | with_reducible apply kpcData_onward)

theorem countFault_onward {s t : State} (h : Onward s t) (a0 : Lane) (a1 : LaneFaultCause) : Onward s (countFault a0 a1 t) := by
  unfold countFault
  repeat' (first | lift_lets | with_reducible exact h | with_reducible apply modHealth_onward)

theorem execKCopy_onward {s t : State} (h : Onward s t) (a0 : Lane) (a1 : ℕ) (a2 : ℕ) (a3 : ℕ) (a4 : ℕ) (a5 : ℕ) :
    Onto s (execKCopy a0 a1 a2 a3 a4 a5 t) := by
  unfold execKCopy
  repeat' (first | lift_lets | with_reducible exact h | with_reducible apply kpc_onward)

theorem modCredential_onward {s t : State} (h : Onward s t) (a0 : ℕ) (a1 : Credential → Credential) : Onward s (modCredential a0 a1 t) := by
  unfold modCredential
  repeat' (first | exact FloorsLe.refl _ | lift_lets | with_reducible exact h | with_reducible apply modTrust_onward)

theorem loginPassed_onward {s t : State} (h : Onward s t) (a0 : Entry) (a1 : ℕ) (a2 : Credential) : Onward s (loginPassed a0 a1 a2 t) := by
  unfold loginPassed
  repeat' (first | (intro y; refine onward_cut (s := s) (y := y) ?_ ?_; rotate_left; (intro hy; clear_value y); rotate_right; subst y)
                 | (intro (y : _ → _); subst y; try beta_reduce) | (intro y; clear_value y) | exact FloorsLe.refl _ | lift_lets
                 | with_reducible exact h | with_reducible assumption | with_reducible apply onward_ite
                 | with_reducible apply modCredential_onward | with_reducible apply completeEntry_onward | with_reducible apply modTrust_onward)

theorem reshootAtActivation_onward {s t : State} (h : Onward s t) (a0 : ℕ) : Onward s (reshootAtActivation a0 t) := by
  unfold reshootAtActivation
  repeat' (first | lift_lets | with_reducible exact h | with_reducible apply onward_ite | with_reducible apply failReshoot_onward
                 | with_reducible apply modReshoot_onward | split)

theorem rejoinLane_onward {s t : State} (h : Onward s t) (a0 : Lane) : Onward s (rejoinLane a0 t) := by
  unfold rejoinLane
  repeat' (first | (intro y; refine onward_cut (s := s) (y := y) ?_ ?_; rotate_left; (intro hy; clear_value y); rotate_right; subst y)
                 | (intro y; clear_value y) | lift_lets | with_reducible exact h | with_reducible assumption
                 | with_reducible apply modLane_onward | with_reducible apply modVoter_onward | with_reducible apply answerReshoot_onward
                 | with_reducible apply recordLane_onward | with_reducible apply epochAtBoundary_onward)

theorem rejoinAt_onward {s t : State} (h : Onward s t) : Onward s (rejoinAt t) := by
  unfold rejoinAt
  repeat' (first | lift_lets | with_reducible exact h | with_reducible apply onward_ite | with_reducible apply rejoinLane_onward | split)

theorem execDivergenceComparisonDone_onward {s t : State} (h : Onward s t) (a0 : Lane) (a1 : ℕ) : Onto s (execDivergenceComparisonDone a0 a1 t) := by
  unfold execDivergenceComparisonDone
  repeat' (first | (intro y; refine onward_cut (s := s) (y := y) ?_ ?_; rotate_left; (intro hy; clear_value y); rotate_right; subst y)
                 | lift_lets | with_reducible exact h | with_reducible assumption | with_reducible apply onto_next
                 | with_reducible apply modVoter_onward | with_reducible apply recordLane_onward | split)

theorem kpcShift_onward {s t : State} (h : Onward s t) (a0 : Lane) (a1 : ℕ) (a2 : MType) (a3 : MType) (a4 : Regs) (a5 : MType → Val → Val → Result) :
    Onto s (kpcShift a0 a1 a2 a3 a4 a5 t) := by
  unfold kpcShift
  repeat' (first | lift_lets | with_reducible exact h | with_reducible apply kpcData_onward)

theorem execKShr_onward {s t : State} (h : Onward s t) (a0 : Lane) (a1 : MType) (a2 : MType) (a3 : Regs) : Onto s (execKShr a0 a1 a2 a3 t) := by
  unfold execKShr
  repeat' (first | lift_lets | with_reducible exact h | with_reducible apply kpcShift_onward)

theorem endCommit_onward {s t : State} (h : Onward s t) (a0 : Bool) : Onward s (endCommit a0 t) := by
  unfold endCommit
  repeat' (first | (intro y; refine onward_cut (s := s) (y := y) ?_ ?_; rotate_left; (intro hy; clear_value y); rotate_right; subst y)
                 | (intro y; clear_value y) | lift_lets | with_reducible exact h | with_reducible assumption | with_reducible apply onward_ite
                 | with_reducible apply modProg_onward | with_reducible apply openCommit_onward | split)

theorem endCommitStep_onward {s t : State} (h : Onward s t) (a0 : Bool) : Onward s (endCommitStep a0 t) := by
  unfold endCommitStep
  repeat' (first | (intro y; refine onward_cut (s := s) (y := y) ?_ ?_; rotate_left; (intro hy; clear_value y); rotate_right; subst y)
                 | lift_lets | with_reducible exact h | with_reducible assumption | with_reducible apply onward_ite
                 | with_reducible apply endCommit_onward | with_reducible apply finishStop_onward | split)

theorem loseLane_onward {s t : State} (h : Onward s t) (a0 : Bool) (a1 : Lane) (a2 : ℕ) (a3 : ℕ) (a4 : ℕ) : Onward s (loseLane a0 a1 a2 a3 a4 t) := by
  unfold loseLane
  repeat' (first | lift_lets | with_reducible exact h | with_reducible apply onward_ite | with_reducible apply isolateLane_onward
                 | with_reducible apply lockOut_onward)

theorem countMissing_onward {s t : State} (h : Onward s t) (a0 : Lane) : Onward s (countMissing a0 t) := by
  unfold countMissing
  repeat' (first | (intro (y : _ → _); subst y; try beta_reduce) | (intro y; clear_value y) | lift_lets | with_reducible exact h
                 | with_reducible apply modHealth_onward)

theorem laneFault_onward {s t : State} (h : Onward s t) (a0 : Lane) (a1 : LaneFaultCause) : Onward s (laneFault a0 a1 t) := by
  unfold laneFault
  repeat' (first | (intro y; refine onward_cut (s := s) (y := y) ?_ ?_; rotate_left; (intro hy; clear_value y); rotate_right; subst y)
                 | (intro y; clear_value y) | lift_lets | with_reducible exact h | with_reducible assumption | with_reducible apply onward_ite
                 | with_reducible apply countFault_onward | with_reducible apply modLane_onward | with_reducible apply laneFailsResync_onward
                 | with_reducible apply failReshoot_onward | with_reducible apply loseLane_onward | with_reducible apply countMissing_onward)

theorem execLaneWatchdogExpiry_onward {s t : State} (h : Onward s t) (a0 : Lane) : Onto s (execLaneWatchdogExpiry a0 t) := by
  unfold execLaneWatchdogExpiry
  repeat' (first | (intro y; clear_value y) | lift_lets | with_reducible exact h | with_reducible apply onto_next | with_reducible apply onto_ite
                 | with_reducible apply laneFault_onward | with_reducible apply reach_onward)

theorem kpcUnary_onward {s t : State} (h : Onward s t) (a0 : Lane) (a1 : ℕ) (a2 : MType) (a3 : Regs) (a4 : MType → Val → Result) :
    Onto s (kpcUnary a0 a1 a2 a3 a4 t) := by
  unfold kpcUnary
  repeat' (first | lift_lets | with_reducible exact h | with_reducible apply kpcData_onward)

theorem execKExp_onward {s t : State} (h : Onward s t) (a0 : Lane) (a1 : MType) (a2 : Regs) : Onto s (execKExp a0 a1 a2 t) := by
  unfold execKExp
  repeat' (first | lift_lets | with_reducible exact h | with_reducible apply kpcUnary_onward)

theorem execKAsin_onward {s t : State} (h : Onward s t) (a0 : Lane) (a1 : MType) (a2 : Regs) : Onto s (execKAsin a0 a1 a2 t) := by
  unfold execKAsin
  repeat' (first | lift_lets | with_reducible exact h | with_reducible apply kpcUnary_onward)

theorem execSessionLifetimeExpiry_onward {s t : State} (h : Onward s t) (a0 : ℕ) : Onto s (execSessionLifetimeExpiry a0 t) := by
  unfold execSessionLifetimeExpiry
  repeat' (first | lift_lets | with_reducible exact h | with_reducible apply onto_next | with_reducible apply onto_ite
                 | with_reducible apply endSession_onward | with_reducible apply reach_onward | split)

theorem execKNop_onward {s t : State} (h : Onward s t) (a0 : Lane) : Onto s (execKNop a0 t) := by
  unfold execKNop
  repeat' (first | lift_lets | with_reducible exact h | with_reducible apply kpc_onward)

theorem execKCos_onward {s t : State} (h : Onward s t) (a0 : Lane) (a1 : MType) (a2 : Regs) : Onto s (execKCos a0 a1 a2 t) := by
  unfold execKCos
  repeat' (first | lift_lets | with_reducible exact h | with_reducible apply kpcUnary_onward)

theorem execKCeil_onward {s t : State} (h : Onward s t) (a0 : Lane) (a1 : MType) (a2 : Regs) : Onto s (execKCeil a0 a1 a2 t) := by
  unfold execKCeil
  repeat' (first | lift_lets | with_reducible exact h | with_reducible apply kpcUnary_onward)

theorem execKRecord_onward {s t : State} (h : Onward s t) (a0 : Lane) (a1 : ℕ) (a2 : ℕ) : Onto s (execKRecord a0 a1 a2 t) := by
  unfold execKRecord
  repeat' (first | lift_lets | with_reducible exact h | with_reducible apply service_onward)

theorem openSession_onward {s t : State} (h : Onward s t) (a0 : Session) : Onward s (openSession a0 t) := by
  unfold openSession
  repeat' (first | (intro y; refine onward_cut (s := s) (y := y) ?_ ?_; rotate_left; (intro hy; clear_value y); rotate_right; subst y)
                 | (intro y; clear_value y) | exact FloorsLe.refl _ | lift_lets | with_reducible exact h | with_reducible assumption
                 | with_reducible apply modTrust_onward | with_reducible apply afterDraw_onward | with_reducible apply emit_onward)

theorem execCellMeasurement_onward {s t : State} (h : Onward s t) (a0 : ℕ) : Onto s (execCellMeasurement a0 t) := by
  unfold execCellMeasurement
  repeat' (first | (intro y; refine onward_cut (s := s) (y := y) ?_ ?_; rotate_left; (intro hy; clear_value y); rotate_right; subst y)
                 | (intro y; clear_value y) | lift_lets | with_reducible exact h | with_reducible assumption | with_reducible apply onward_ite
                 | with_reducible apply onto_next | with_reducible apply onto_ite | with_reducible apply modLull_onward
                 | with_reducible apply custody_onward)

theorem kpcBinary_onward {s t : State} (h : Onward s t) (a0 : Lane) (a1 : ℕ) (a2 : MType) (a3 : Regs) (a4 : MType → Val → Val → Result) :
    Onto s (kpcBinary a0 a1 a2 a3 a4 t) := by
  unfold kpcBinary
  repeat' (first | lift_lets | with_reducible exact h | with_reducible apply kpcData_onward)

theorem execKGe_onward {s t : State} (h : Onward s t) (a0 : Lane) (a1 : MType) (a2 : Regs) : Onto s (execKGe a0 a1 a2 t) := by
  unfold execKGe
  repeat' (first | lift_lets | with_reducible exact h | with_reducible apply kpcBinary_onward)

theorem execKCall_onward {s t : State} (h : Onward s t) (a0 : Lane) (a1 : ℕ) (a2 : ℕ) (a3 : ℕ) : Onto s (execKCall a0 a1 a2 a3 t) := by
  unfold execKCall
  repeat' (first | lift_lets | with_reducible exact h | with_reducible apply kpc_onward)

theorem execKExpt_onward {s t : State} (h : Onward s t) (a0 : Lane) (a1 : MType) (a2 : Regs) : Onto s (execKExpt a0 a1 a2 t) := by
  unfold execKExpt
  repeat' (first | lift_lets | with_reducible exact h | with_reducible apply kpcBinary_onward)

theorem noteSigner_onward {s t : State} (h : Onward s t) (a0 : ℕ) (a1 : Bytes) : Onward s (noteSigner a0 a1 t) := by
  unfold noteSigner
  repeat' (first | lift_lets | with_reducible exact h | with_reducible apply onward_ite | with_reducible apply noteUnchecked_onward)

theorem execKMod_onward {s t : State} (h : Onward s t) (a0 : Lane) (a1 : MType) (a2 : Regs) : Onto s (execKMod a0 a1 a2 t) := by
  unfold execKMod
  repeat' (first | lift_lets | with_reducible exact h | with_reducible apply kpcBinary_onward)

theorem execKLog10_onward {s t : State} (h : Onward s t) (a0 : Lane) (a1 : MType) (a2 : Regs) : Onto s (execKLog10 a0 a1 a2 t) := by
  unfold execKLog10
  repeat' (first | lift_lets | with_reducible exact h | with_reducible apply kpcUnary_onward)

theorem execRecutGuard_onward {s t : State} (h : Onward s t) : Onto s (execRecutGuard t) := by
  unfold execRecutGuard
  repeat' (first | (intro y; refine onward_cut (s := s) (y := y) ?_ ?_; rotate_left; (intro hy; clear_value y); rotate_right; subst y)
                 | lift_lets | with_reducible exact h | with_reducible assumption | with_reducible apply onto_next
                 | with_reducible apply onto_ite | with_reducible apply reach_onward | with_reducible apply withholdEvents_onward
                 | with_reducible apply modProg_onward | split)

theorem execKCvt_onward {s t : State} (h : Onward s t) (a0 : Lane) (a1 : MType) (a2 : MType) (a3 : Regs) : Onto s (execKCvt a0 a1 a2 a3 t) := by
  unfold execKCvt
  repeat' (first | lift_lets | with_reducible exact h | with_reducible apply kpcData_onward)

theorem countAttempt_onward {s t : State} (h : Onward s t) (a0 : ℕ) : Onward s (countAttempt a0 t) := by
  unfold countAttempt
  repeat' (first | (intro y; clear_value y) | exact FloorsLe.refl _ | lift_lets | with_reducible exact h | with_reducible apply modTrust_onward
                 | split)

theorem internalFault_onward {s t : State} (h : Onward s t) (a0 : ℕ) (a1 : ℕ) : Onward s (internalFault a0 a1 t) := by
  unfold internalFault
  repeat' (first | (intro y; refine onward_cut (s := s) (y := y) ?_ ?_; rotate_left; (intro hy; clear_value y); rotate_right; subst y)
                 | lift_lets | with_reducible exact h | with_reducible assumption | with_reducible apply onward_ite
                 | with_reducible apply modTest_onward | with_reducible apply lockOut_onward | with_reducible apply modSafety_onward
                 | exact le_rfl)

theorem execKMax_onward {s t : State} (h : Onward s t) (a0 : Lane) (a1 : MType) (a2 : Regs) : Onto s (execKMax a0 a1 a2 t) := by
  unfold execKMax
  repeat' (first | lift_lets | with_reducible exact h | with_reducible apply kpcBinary_onward)

theorem execLaneFault_onward {s t : State} (h : Onward s t) (a0 : Lane) (a1 : LaneFaultCause) : Onto s (execLaneFault a0 a1 t) := by
  unfold execLaneFault
  repeat' (first | lift_lets | with_reducible exact h | with_reducible apply onto_next | with_reducible apply onto_ite
                 | with_reducible apply laneFault_onward)

theorem execKFloor_onward {s t : State} (h : Onward s t) (a0 : Lane) (a1 : MType) (a2 : Regs) : Onto s (execKFloor a0 a1 a2 t) := by
  unfold execKFloor
  repeat' (first | lift_lets | with_reducible exact h | with_reducible apply kpcUnary_onward)

theorem grantArgon_onward {s t : State} (h : Onward s t) (a0 : List Entry) : Onward s (grantArgon a0 t) := by
  induction a0 generalizing t with
  | nil => exact h
  | cons e l ih =>
    unfold grantArgon
    split
    · exact ih (completeEntry_onward h _ _ _)
    · exact modEntry_onward h _ _

theorem execKNot_onward {s t : State} (h : Onward s t) (a0 : Lane) (a1 : MType) (a2 : Regs) : Onto s (execKNot a0 a1 a2 t) := by
  unfold execKNot
  repeat' (first | lift_lets | with_reducible exact h | with_reducible apply kpcUnary_onward)

theorem execSessionIdleTimeout_onward {s t : State} (h : Onward s t) (a0 : ℕ) : Onto s (execSessionIdleTimeout a0 t) := by
  unfold execSessionIdleTimeout
  repeat' (first | lift_lets | with_reducible exact h | with_reducible apply onto_next | with_reducible apply onto_ite
                 | with_reducible apply endSession_onward | with_reducible apply reach_onward | split)

theorem execKGt_onward {s t : State} (h : Onward s t) (a0 : Lane) (a1 : MType) (a2 : Regs) : Onto s (execKGt a0 a1 a2 t) := by
  unfold execKGt
  repeat' (first | lift_lets | with_reducible exact h | with_reducible apply kpcBinary_onward)

theorem execLaneRestartDone_onward {s t : State} (h : Onward s t) (a0 : Lane) (a1 : Bool) : Onto s (execLaneRestartDone a0 a1 t) := by
  unfold execLaneRestartDone
  repeat' (first | lift_lets | with_reducible exact h | with_reducible apply onto_next | with_reducible apply onto_ite
                 | with_reducible apply useEntries_onward | with_reducible apply modWindow_onward | with_reducible apply modLane_onward
                 | with_reducible apply failReshoot_onward | split)

theorem execKPosition_onward {s t : State} (h : Onward s t) (a0 : Lane) (a1 : ℕ) (a2 : ℕ) : Onto s (execKPosition a0 a1 a2 t) := by
  unfold execKPosition
  repeat' (first | lift_lets | with_reducible exact h | with_reducible apply service_onward)

theorem failSlot_onward {s t : State} (h : Onward s t) (a0 : ℕ) : Onward s (failSlot a0 t) := by
  unfold failSlot
  repeat' (first | lift_lets | with_reducible exact h | with_reducible apply settleAxis_onward | with_reducible apply modSlot_onward)

theorem execKXor_onward {s t : State} (h : Onward s t) (a0 : Lane) (a1 : MType) (a2 : Regs) : Onto s (execKXor a0 a1 a2 t) := by
  unfold execKXor
  repeat' (first | lift_lets | with_reducible exact h | with_reducible apply kpcBinary_onward)

theorem execKSqrt_onward {s t : State} (h : Onward s t) (a0 : Lane) (a1 : MType) (a2 : Regs) : Onto s (execKSqrt a0 a1 a2 t) := by
  unfold execKSqrt
  repeat' (first | lift_lets | with_reducible exact h | with_reducible apply kpcUnary_onward)

theorem execKIf_onward {s t : State} (h : Onward s t) (a0 : Lane) (a1 : ℕ) : Onto s (execKIf a0 a1 t) := by
  unfold execKIf
  repeat' (first | lift_lets | with_reducible exact h | with_reducible apply kpc_onward)

theorem execKAdd_onward {s t : State} (h : Onward s t) (a0 : Lane) (a1 : MType) (a2 : Regs) : Onto s (execKAdd a0 a1 a2 t) := by
  unfold execKAdd
  repeat' (first | lift_lets | with_reducible exact h | with_reducible apply kpcBinary_onward)

theorem nextCut_onward {s t : State} (h : Onward s t) : Onward s (nextCut t) := by
  unfold nextCut
  repeat' (first | (intro (y : _ → _); subst y; try beta_reduce) | lift_lets | with_reducible exact h | with_reducible apply onward_ite
                 | with_reducible apply modProg_onward | with_reducible apply modPair_onward | with_reducible apply modEntry_onward | split)

theorem execTwoLaneLockout_onward {s t : State} (h : Onward s t) : Onto s (execTwoLaneLockout t) := by
  unfold execTwoLaneLockout
  repeat' (first | lift_lets | with_reducible exact h | with_reducible apply onto_next | with_reducible apply onto_ite
                 | with_reducible apply lockOut_onward)

theorem execSessionStreamError_onward {s t : State} (h : Onward s t) (a0 : ℕ) : Onto s (execSessionStreamError a0 t) := by
  unfold execSessionStreamError
  repeat' (first | lift_lets | with_reducible exact h | with_reducible apply onto_next | with_reducible apply endSession_onward)

theorem loginFailed_onward {s t : State} (h : Onward s t) (a0 : Entry) : Onward s (loginFailed a0 t) := by
  unfold loginFailed
  repeat' (first | (intro y; refine onward_cut (s := s) (y := y) ?_ ?_; rotate_left; (intro hy; clear_value y); rotate_right; subst y)
                 | (intro y; clear_value y) | lift_lets | with_reducible exact h | with_reducible assumption | with_reducible apply onward_ite
                 | with_reducible apply recordCredential_onward | with_reducible apply modCredential_onward | split)

theorem cut_onward {s t : State} (h : Onward s t) (a0 : ℕ) (a1 : CutterReport) : Onward2 s (cut a0 a1 t) := by
  unfold cut
  repeat' (first | (intro y; refine onward_cut (s := s) (y := y) ?_ ?_; rotate_left; (intro hy; clear_value y); rotate_right; subst y)
                 | (intro y; clear_value y) | lift_lets | with_reducible exact h | with_reducible assumption | with_reducible apply onward2_mk
                 | with_reducible apply recordProgram_onward | with_reducible apply modSlot_onward | with_reducible apply settleAxis_onward
                 | with_reducible apply modProg_onward | split)

theorem cut_state {s t : State} (h : Onward s t) (a0 : ℕ) (a1 : CutterReport) : Onward s (cut a0 a1 t).2 :=
  (cut_onward h a0 a1).out

theorem execKNe_onward {s t : State} (h : Onward s t) (a0 : Lane) (a1 : MType) (a2 : Regs) : Onto s (execKNe a0 a1 a2 t) := by
  unfold execKNe
  repeat' (first | lift_lets | with_reducible exact h | with_reducible apply kpcBinary_onward)

theorem execCaseOpenSample_onward {s t : State} (h : Onward s t) (a0 : Bool) : Onto s (execCaseOpenSample a0 t) := by
  unfold execCaseOpenSample
  repeat' (first | (intro y; clear_value y) | lift_lets | with_reducible exact h | with_reducible apply onto_next
                 | with_reducible apply modLull_onward)

theorem execKConst_onward {s t : State} (h : Onward s t) (a0 : Lane) (a1 : MType) (a2 : ℕ) (a3 : Word64) : Onto s (execKConst a0 a1 a2 a3 t) := by
  unfold execKConst
  repeat' (first | lift_lets | with_reducible exact h | with_reducible apply kpcData_onward)

theorem execKBreak_onward {s t : State} (h : Onward s t) (a0 : Lane) (a1 : ℕ) : Onto s (execKBreak a0 a1 t) := by
  unfold execKBreak
  repeat' (first | lift_lets | with_reducible exact h | with_reducible apply kpc_onward)

theorem execKRol_onward {s t : State} (h : Onward s t) (a0 : Lane) (a1 : MType) (a2 : MType) (a3 : Regs) : Onto s (execKRol a0 a1 a2 a3 t) := by
  unfold execKRol
  repeat' (first | lift_lets | with_reducible exact h | with_reducible apply kpcShift_onward)

theorem execReshootRetry_onward {s t : State} (h : Onward s t) (a0 : Lane) : Onto s (execReshootRetry a0 t) := by
  unfold execReshootRetry
  repeat' (first | (intro y; clear_value y) | lift_lets | with_reducible exact h | with_reducible apply onto_next | with_reducible apply onto_ite
                 | with_reducible apply startReshoot_onward | with_reducible apply reach_onward)

theorem execKElse_onward {s t : State} (h : Onward s t) (a0 : Lane) : Onto s (execKElse a0 t) := by
  unfold execKElse
  repeat' (first | lift_lets | with_reducible exact h | with_reducible apply kpc_onward)

theorem execKLe_onward {s t : State} (h : Onward s t) (a0 : Lane) (a1 : MType) (a2 : Regs) : Onto s (execKLe a0 a1 a2 t) := by
  unfold execKLe
  repeat' (first | lift_lets | with_reducible exact h | with_reducible apply kpcBinary_onward)

theorem execKAtan2_onward {s t : State} (h : Onward s t) (a0 : Lane) (a1 : MType) (a2 : Regs) : Onto s (execKAtan2 a0 a1 a2 t) := by
  unfold execKAtan2
  repeat' (first | lift_lets | with_reducible exact h | with_reducible apply kpcBinary_onward)

theorem execKLt_onward {s t : State} (h : Onward s t) (a0 : Lane) (a1 : MType) (a2 : Regs) : Onto s (execKLt a0 a1 a2 t) := by
  unfold execKLt
  repeat' (first | lift_lets | with_reducible exact h | with_reducible apply kpcBinary_onward)

theorem execSaRekeyLimit_onward {s t : State} (h : Onward s t) (a0 : ℕ) : Onto s (execSaRekeyLimit a0 t) := by
  unfold execSaRekeyLimit
  repeat' (first | (intro y; refine onward_cut (s := s) (y := y) ?_ ?_; rotate_left; (intro hy; clear_value y); rotate_right; subst y)
                 | lift_lets | with_reducible exact h | with_reducible assumption | with_reducible apply onward_ite
                 | with_reducible apply onto_next | with_reducible apply onto_ite | with_reducible apply reach_onward
                 | with_reducible apply goLive_onward | with_reducible apply afterDraw_onward | with_reducible apply keyContext_onward
                 | with_reducible apply drain_onward | split)

theorem execTwoLaneLimitExpiry_onward {s t : State} (h : Onward s t) : Onto s (execTwoLaneLimitExpiry t) := by
  unfold execTwoLaneLimitExpiry
  repeat' (first | (intro y; refine onward_cut (s := s) (y := y) ?_ ?_; rotate_left; (intro hy; clear_value y); rotate_right; subst y)
                 | lift_lets | with_reducible exact h | with_reducible assumption | with_reducible apply onto_next
                 | with_reducible apply onto_ite | with_reducible apply reach_onward | with_reducible apply recordLane_onward
                 | with_reducible apply modVoter_onward | split)

theorem execKSin_onward {s t : State} (h : Onward s t) (a0 : Lane) (a1 : MType) (a2 : Regs) : Onto s (execKSin a0 a1 a2 t) := by
  unfold execKSin
  repeat' (first | lift_lets | with_reducible exact h | with_reducible apply kpcUnary_onward)

theorem execKInputStatus_onward {s t : State} (h : Onward s t) (a0 : Lane) (a1 : ℕ) (a2 : ℕ) : Onto s (execKInputStatus a0 a1 a2 t) := by
  unfold execKInputStatus
  repeat' (first | lift_lets | with_reducible exact h | with_reducible apply service_onward)

theorem execReshootImportDone_onward {s t : State} (h : Onward s t) (a0 : ℕ) (a1 : Word64) : Onto s (execReshootImportDone a0 a1 t) := by
  unfold execReshootImportDone
  repeat' (first | with_reducible exact h | with_reducible apply onto_next | with_reducible apply onto_ite | with_reducible apply modLane_onward
                 | with_reducible apply failReshoot_onward | with_reducible apply modReshoot_onward | split)

theorem execSaDrainEnd_onward {s t : State} (h : Onward s t) (a0 : ℕ) : Onto s (execSaDrainEnd a0 t) := by
  unfold execSaDrainEnd
  repeat' (first | exact FloorsLe.refl _ | lift_lets | with_reducible exact h | with_reducible apply onto_next | with_reducible apply onto_ite
                 | with_reducible apply modTrust_onward | with_reducible apply reach_onward | split)

theorem execMkpduReceive_onward {s t : State} (h : Onward s t) (a0 : ℕ) (a1 : ℕ) (a2 : Bool) : Onto s (execMkpduReceive a0 a1 a2 t) := by
  unfold execMkpduReceive
  repeat' (first | (intro y; clear_value y) | lift_lets | with_reducible exact h | with_reducible apply onto_next | with_reducible apply onto_ite
                 | with_reducible apply goLive_onward | with_reducible apply keyContext_onward | split)

theorem execKEnd_onward {s t : State} (h : Onward s t) (a0 : Lane) : Onto s (execKEnd a0 t) := by
  unfold execKEnd
  repeat' (first | lift_lets | with_reducible exact h | with_reducible apply kpc_onward)

theorem objectWritten_onward {s t : State} (h : Onward s t) (a0 : Entry) (a1 : ℕ) (a2 : Bytes) : Onward s (objectWritten a0 a1 a2 t) := by
  unfold objectWritten
  repeat' (first | (intro y; refine onward_cut (s := s) (y := y) ?_ ?_; rotate_left; (intro hy; clear_value y); rotate_right; subst y)
                 | (intro y; clear_value y) | lift_lets | with_reducible exact h | with_reducible assumption | with_reducible apply onward_ite
                 | with_reducible apply completeEntry_onward | with_reducible apply failSlot_onward | with_reducible apply noteInterval_onward
                 | with_reducible apply modSlot_onward | with_reducible apply slipstream_onward | with_reducible apply nextCut_onward
                 | with_reducible apply modEntry_onward | split)

theorem execKRound_onward {s t : State} (h : Onward s t) (a0 : Lane) (a1 : MType) (a2 : MType) (a3 : Regs) : Onto s (execKRound a0 a1 a2 a3 t) := by
  unfold execKRound
  repeat' (first | lift_lets | with_reducible exact h | with_reducible apply kpcData_onward)

theorem execKLn_onward {s t : State} (h : Onward s t) (a0 : Lane) (a1 : MType) (a2 : Regs) : Onto s (execKLn a0 a1 a2 t) := by
  unfold execKLn
  repeat' (first | lift_lets | with_reducible exact h | with_reducible apply kpcUnary_onward)

theorem execKFaults_onward {s t : State} (h : Onward s t) (a0 : Lane) (a1 : ℕ) (a2 : ℕ) : Onto s (execKFaults a0 a1 a2 t) := by
  unfold execKFaults
  repeat' (first | lift_lets | with_reducible exact h | with_reducible apply service_onward)

theorem execKShl_onward {s t : State} (h : Onward s t) (a0 : Lane) (a1 : MType) (a2 : MType) (a3 : Regs) : Onto s (execKShl a0 a1 a2 a3 t) := by
  unfold execKShl
  repeat' (first | lift_lets | with_reducible exact h | with_reducible apply kpcShift_onward)

theorem execCredentialLockExpiry_onward {s t : State} (h : Onward s t) (a0 : ℕ) : Onto s (execCredentialLockExpiry a0 t) := by
  unfold execCredentialLockExpiry
  repeat' (first | lift_lets | with_reducible exact h | with_reducible apply onto_next | with_reducible apply onto_ite
                 | with_reducible apply modCredential_onward | with_reducible apply reach_onward | split)

theorem execKAtan_onward {s t : State} (h : Onward s t) (a0 : Lane) (a1 : MType) (a2 : Regs) : Onto s (execKAtan a0 a1 a2 t) := by
  unfold execKAtan
  repeat' (first | lift_lets | with_reducible exact h | with_reducible apply kpcUnary_onward)

theorem execKNeg_onward {s t : State} (h : Onward s t) (a0 : Lane) (a1 : MType) (a2 : Regs) : Onto s (execKNeg a0 a1 a2 t) := by
  unfold execKNeg
  repeat' (first | lift_lets | with_reducible exact h | with_reducible apply kpcUnary_onward)

theorem execKTan_onward {s t : State} (h : Onward s t) (a0 : Lane) (a1 : MType) (a2 : Regs) : Onto s (execKTan a0 a1 a2 t) := by
  unfold execKTan
  repeat' (first | lift_lets | with_reducible exact h | with_reducible apply kpcUnary_onward)

theorem execKSel_onward {s t : State} (h : Onward s t) (a0 : Lane) (a1 : MType) (a2 : Regs) (a3 : ℕ) : Onto s (execKSel a0 a1 a2 a3 t) := by
  unfold execKSel
  repeat' (first | lift_lets | with_reducible exact h | with_reducible apply kpcData_onward)

theorem chunkWritten_onward {s t : State} (h : Onward s t) (a0 : Entry) : Onward s (chunkWritten a0 t) := by
  unfold chunkWritten
  repeat' (first | (intro y; refine onward_cut (s := s) (y := y) ?_ ?_; rotate_left; (intro hy; clear_value y); rotate_right; subst y)
                 | (intro y; clear_value y) | lift_lets | with_reducible exact h | with_reducible assumption | with_reducible apply onward_ite
                 | with_reducible apply completeEntry_onward | with_reducible apply settleAxis_onward | with_reducible apply modSlot_onward
                 | with_reducible apply commitEntry_onward | with_reducible apply objectWritten_onward | split)

theorem execKSt_onward {s t : State} (h : Onward s t) (a0 : Lane) (a1 : MType) (a2 : Regs) (a3 : LeafRef) : Onto s (execKSt a0 a1 a2 a3 t) := by
  unfold execKSt
  repeat' (first | lift_lets | with_reducible exact h | with_reducible apply kpc_onward)

theorem execKRor_onward {s t : State} (h : Onward s t) (a0 : Lane) (a1 : MType) (a2 : MType) (a3 : Regs) : Onto s (execKRor a0 a1 a2 a3 t) := by
  unfold execKRor
  repeat' (first | lift_lets | with_reducible exact h | with_reducible apply kpcShift_onward)

theorem execRetentiveCommitPeriodic_onward {s t : State} (h : Onward s t) : Onto s (execRetentiveCommitPeriodic t) := by
  unfold execRetentiveCommitPeriodic
  repeat' (first | lift_lets | with_reducible exact h | with_reducible apply onto_next | with_reducible apply onto_ite
                 | with_reducible apply beginCommit_onward | with_reducible apply reach_onward)

theorem execHardwareSessionOpen_onward {s t : State} (h : Onward s t) (a0 : Bytes) (a1 : Bool) (a2 : Bool) :
    Onto s (execHardwareSessionOpen a0 a1 a2 t) := by
  unfold execHardwareSessionOpen
  repeat' (first | (intro y; refine onward_cut (s := s) (y := y) ?_ ?_; rotate_left; (intro hy; clear_value y); rotate_right; subst y)
                 | (intro y; clear_value y) | lift_lets | with_reducible exact h | with_reducible assumption | with_reducible apply onward_ite
                 | with_reducible apply onto_next | with_reducible apply onto_ite | with_reducible apply noteUnchecked_onward
                 | with_reducible apply afterDraw_onward | with_reducible apply openSession_onward | with_reducible apply goLive_onward
                 | with_reducible apply keyContext_onward | with_reducible apply endSession_onward | split)

theorem execKEq_onward {s t : State} (h : Onward s t) (a0 : Lane) (a1 : MType) (a2 : Regs) : Onto s (execKEq a0 a1 a2 t) := by
  unfold execKEq
  repeat' (first | lift_lets | with_reducible exact h | with_reducible apply kpcBinary_onward)

theorem execKAnd_onward {s t : State} (h : Onward s t) (a0 : Lane) (a1 : MType) (a2 : Regs) : Onto s (execKAnd a0 a1 a2 t) := by
  unfold execKAnd
  repeat' (first | lift_lets | with_reducible exact h | with_reducible apply kpcBinary_onward)

theorem execKDiv_onward {s t : State} (h : Onward s t) (a0 : Lane) (a1 : MType) (a2 : Regs) : Onto s (execKDiv a0 a1 a2 t) := by
  unfold execKDiv
  repeat' (first | lift_lets | with_reducible exact h | with_reducible apply kpcBinary_onward)

theorem execKMov_onward {s t : State} (h : Onward s t) (a0 : Lane) (a1 : MType) (a2 : Regs) : Onto s (execKMov a0 a1 a2 t) := by
  unfold execKMov
  repeat' (first | lift_lets | with_reducible exact h | with_reducible apply kpcUnary_onward)

theorem execKCueState_onward {s t : State} (h : Onward s t) (a0 : Lane) (a1 : ℕ) (a2 : ℕ) : Onto s (execKCueState a0 a1 a2 t) := by
  unfold execKCueState
  repeat' (first | lift_lets | with_reducible exact h | with_reducible apply service_onward)

theorem execKAbs_onward {s t : State} (h : Onward s t) (a0 : Lane) (a1 : MType) (a2 : Regs) : Onto s (execKAbs a0 a1 a2 t) := by
  unfold execKAbs
  repeat' (first | lift_lets | with_reducible exact h | with_reducible apply kpcUnary_onward)

theorem execKMin_onward {s t : State} (h : Onward s t) (a0 : Lane) (a1 : MType) (a2 : Regs) : Onto s (execKMin a0 a1 a2 t) := by
  unfold execKMin
  repeat' (first | lift_lets | with_reducible exact h | with_reducible apply kpcBinary_onward)

theorem execKBlock_onward {s t : State} (h : Onward s t) (a0 : Lane) : Onto s (execKBlock a0 t) := by
  unfold execKBlock
  repeat' (first | lift_lets | with_reducible exact h | with_reducible apply kpc_onward)

theorem execKOr_onward {s t : State} (h : Onward s t) (a0 : Lane) (a1 : MType) (a2 : Regs) : Onto s (execKOr a0 a1 a2 t) := by
  unfold execKOr
  repeat' (first | lift_lets | with_reducible exact h | with_reducible apply kpcBinary_onward)

theorem execKLoop_onward {s t : State} (h : Onward s t) (a0 : Lane) (a1 : ℕ) : Onto s (execKLoop a0 a1 t) := by
  unfold execKLoop
  repeat' (first | lift_lets | with_reducible exact h | with_reducible apply kpc_onward)

theorem execKTakeInfo_onward {s t : State} (h : Onward s t) (a0 : Lane) (a1 : ℕ) (a2 : ℕ) : Onto s (execKTakeInfo a0 a1 a2 t) := by
  unfold execKTakeInfo
  repeat' (first | lift_lets | with_reducible exact h | with_reducible apply service_onward)

theorem execReshootExportDone_onward {s t : State} (h : Onward s t) (a0 : Lane) (a1 : ℕ) (a2 : Word64) :
    Onto s (execReshootExportDone a0 a1 a2 t) := by
  unfold execReshootExportDone
  repeat' (first | (intro y; refine onward_cut (s := s) (y := y) ?_ ?_; rotate_left; (intro hy; clear_value y); rotate_right; subst y)
                 | (intro y; clear_value y) | lift_lets | with_reducible exact h | with_reducible assumption | with_reducible apply onto_next
                 | with_reducible apply onto_ite | with_reducible apply modReshoot_onward | with_reducible apply lockOut_onward
                 | with_reducible apply modLane_onward | split)

theorem execTlsSessionOpen_onward {s t : State} (h : Onward s t) (a0 : ℕ) (a1 : ℕ) : Onto s (execTlsSessionOpen a0 a1 t) := by
  unfold execTlsSessionOpen
  repeat' (first | (intro y; clear_value y) | lift_lets | with_reducible exact h | with_reducible apply onto_next | with_reducible apply onto_ite
                 | with_reducible apply openSession_onward | with_reducible apply afterDraw_onward)

theorem execKModes_onward {s t : State} (h : Onward s t) (a0 : Lane) (a1 : ℕ) (a2 : ℕ) : Onto s (execKModes a0 a1 a2 t) := by
  unfold execKModes
  repeat' (first | lift_lets | with_reducible exact h | with_reducible apply service_onward)

theorem execCorrectedMemoryError_onward {s t : State} (h : Onward s t) (a0 : Lane) : Onto s (execCorrectedMemoryError a0 t) := by
  unfold execCorrectedMemoryError
  repeat' (first | lift_lets | with_reducible exact h | with_reducible apply onto_next | with_reducible apply onto_ite
                 | with_reducible apply modHealth_onward)

theorem execKCueRequest_onward {s t : State} (h : Onward s t) (a0 : Lane) (a1 : ℕ) (a2 : ℕ) : Onto s (execKCueRequest a0 a1 a2 t) := by
  unfold execKCueRequest
  repeat' (first | lift_lets | with_reducible exact h | with_reducible apply service_onward)

theorem execKLd_onward {s t : State} (h : Onward s t) (a0 : Lane) (a1 : MType) (a2 : Regs) (a3 : LeafRef) : Onto s (execKLd a0 a1 a2 a3 t) := by
  unfold execKLd
  repeat' (first | lift_lets | with_reducible exact h | with_reducible apply kpc_onward)

theorem execKCueCancel_onward {s t : State} (h : Onward s t) (a0 : Lane) (a1 : ℕ) (a2 : ℕ) : Onto s (execKCueCancel a0 a1 a2 t) := by
  unfold execKCueCancel
  repeat' (first | lift_lets | with_reducible exact h | with_reducible apply service_onward)

theorem execKMbxResult_onward {s t : State} (h : Onward s t) (a0 : Lane) (a1 : ℕ) (a2 : ℕ) : Onto s (execKMbxResult a0 a1 a2 t) := by
  unfold execKMbxResult
  repeat' (first | lift_lets | with_reducible exact h | with_reducible apply service_onward)

theorem execLullLatchRead_onward {s t : State} (h : Onward s t) : Onto s (execLullLatchRead t) := by
  unfold execLullLatchRead
  repeat' (first | lift_lets | with_reducible exact h | with_reducible apply onto_next | with_reducible apply onto_ite
                 | with_reducible apply modLull_onward | with_reducible apply custody_onward)

theorem execKFma_onward {s t : State} (h : Onward s t) (a0 : Lane) (a1 : MType) (a2 : Regs) (a3 : ℕ) : Onto s (execKFma a0 a1 a2 a3 t) := by
  unfold execKFma
  repeat' (first | lift_lets | with_reducible exact h | with_reducible apply kpcData_onward)

theorem execKMul_onward {s t : State} (h : Onward s t) (a0 : Lane) (a1 : MType) (a2 : Regs) : Onto s (execKMul a0 a1 a2 t) := by
  unfold execKMul
  repeat' (first | lift_lets | with_reducible exact h | with_reducible apply kpcBinary_onward)

theorem execKBits_onward {s t : State} (h : Onward s t) (a0 : Lane) (a1 : MType) (a2 : MType) (a3 : Regs) : Onto s (execKBits a0 a1 a2 a3 t) := by
  unfold execKBits
  repeat' (first | lift_lets | with_reducible exact h | with_reducible apply kpcData_onward)

theorem execKRint_onward {s t : State} (h : Onward s t) (a0 : Lane) (a1 : MType) (a2 : Regs) : Onto s (execKRint a0 a1 a2 t) := by
  unfold execKRint
  repeat' (first | lift_lets | with_reducible exact h | with_reducible apply kpcUnary_onward)

theorem execKSub_onward {s t : State} (h : Onward s t) (a0 : Lane) (a1 : MType) (a2 : Regs) : Onto s (execKSub a0 a1 a2 t) := by
  unfold execKSub
  repeat' (first | lift_lets | with_reducible exact h | with_reducible apply kpcBinary_onward)

theorem execPreLoginTimeout_onward {s t : State} (h : Onward s t) (a0 : ℕ) : Onto s (execPreLoginTimeout a0 t) := by
  unfold execPreLoginTimeout
  repeat' (first | lift_lets | with_reducible exact h | with_reducible apply onto_next | with_reducible apply onto_ite
                 | with_reducible apply endSession_onward | with_reducible apply reach_onward | split)

theorem execArgon2idDone_onward {s t : State} (h : Onward s t) : Onto s (execArgon2idDone t) := by
  unfold execArgon2idDone
  repeat' (first | (intro y; refine onward_cut (s := s) (y := y) ?_ ?_; rotate_left; (intro hy; clear_value y); rotate_right; subst y)
                 | (intro y; clear_value y) | lift_lets | with_reducible exact h | with_reducible assumption | with_reducible apply onward_ite
                 | with_reducible apply onto_next | with_reducible apply loginPassed_onward | with_reducible apply completeEntry_onward
                 | with_reducible apply loginFailed_onward | with_reducible apply grantArgon_onward | split)

theorem execKNext_onward {s t : State} (h : Onward s t) (a0 : Lane) (a1 : ℕ) : Onto s (execKNext a0 a1 t) := by
  unfold execKNext
  repeat' (first | lift_lets | with_reducible exact h | with_reducible apply kpc_onward)

theorem execKReturn_onward {s t : State} (h : Onward s t) (a0 : Lane) : Onto s (execKReturn a0 t) := by
  unfold execKReturn
  repeat' (first | lift_lets | with_reducible exact h | with_reducible apply kpc_onward)

theorem execKAcos_onward {s t : State} (h : Onward s t) (a0 : Lane) (a1 : MType) (a2 : Regs) : Onto s (execKAcos a0 a1 a2 t) := by
  unfold execKAcos
  repeat' (first | lift_lets | with_reducible exact h | with_reducible apply kpcUnary_onward)

theorem execKTimeNow_onward {s t : State} (h : Onward s t) (a0 : Lane) (a1 : ℕ) (a2 : ℕ) : Onto s (execKTimeNow a0 a1 a2 t) := by
  unfold execKTimeNow
  repeat' (first | lift_lets | with_reducible exact h | with_reducible apply service_onward)

end Sys2Proof.Machine
end

