-- ==== Sys2Proof/Laws/OnwardSafety.lean ====
section
/-! SUPPORT. What every operation of the model keeps (Sys2Proof/Laws/Onward.lean):
position, the safety functions, time, updates, self-tests and the module states. -/

namespace Sys2Proof.Machine

theorem comparatorResult_onward {s t : State} (h : Onward s t) (a0 : Bool) : Onward s (comparatorResult a0 t) := by
  unfold comparatorResult
  repeat' (first | (intro y; refine onward_cut (s := s) (y := y) ?_ ?_; rotate_left; (intro hy; clear_value y); rotate_right; subst y) | intro _
                 | lift_lets | with_reducible exact h | with_reducible assumption | with_reducible apply onward_foldl
                 | with_reducible apply modVoter_onward | with_reducible apply modHealth_onward)

theorem recordUpdate_onward {s t : State} (h : Onward s t) (a0 : ℕ) (a1 : Bytes) : Onward s (recordUpdate a0 a1 t) := by
  unfold recordUpdate
  repeat' (first | lift_lets | with_reducible exact h | with_reducible apply record_onward)

theorem resetGroup_onward {s t : State} (h : Onward s t) (a0 : ℕ) : Onward s (resetGroup a0 t) := by
  unfold resetGroup
  simp only
  split
  · exact modTrust_onward h _ (FloorsLe.refl _)
  · exact modMbx_onward h _ id
  · exact modVoter_onward h _
  · exact modModule_onward (modProg_onward h _) _ le_rfl
  · exact modPair_onward h _
  · exact modSignal_onward h _
  · exact modNet_onward h _
  · exact modMvb_onward h _
  · exact modClock_onward h _
  · exact modAct_onward h _
  · exact h

theorem signalPosition_onward {s t : State} (h : Onward s t) (a0 : PositionState) : Onward s (signalPosition a0 t) := by
  unfold signalPosition
  repeat' (first | lift_lets | with_reducible exact h | with_reducible apply onward_ite | with_reducible apply pulse_onward)

theorem resetParameters_onward {s t : State} (h : Onward s t) : Onward s (resetParameters t) := by
  unfold resetParameters
  repeat' (first | (intro y; refine onward_cut (s := s) (y := y) ?_ ?_; rotate_left; (intro hy; clear_value y); rotate_right; subst y)
                 | (intro y; clear_value y) | lift_lets | with_reducible exact h | with_reducible assumption
                 | with_reducible apply modSafety_onward | with_reducible apply lockOut_onward | with_reducible apply changeLog_onward
                 | with_reducible apply watchPairs_onward | exact le_rfl)

theorem applyResets_onward {s t : State} (h : Onward s t) : Onward s (applyResets t) := by
  unfold applyResets
  repeat' (first | (intro y; refine onward_cut (s := s) (y := y) ?_ ?_; rotate_left; (intro hy; clear_value y); rotate_right; subst y)
                 | (intro y; clear_value y) | intro _ | lift_lets | with_reducible exact h | with_reducible assumption
                 | with_reducible apply onward_ite | with_reducible apply onward_foldl | with_reducible apply recordUpdate_onward
                 | with_reducible apply resetGroup_onward | with_reducible apply signalPosition_onward | with_reducible apply modPos_onward
                 | with_reducible apply resetParameters_onward)

theorem setAxis_onward {s t : State} (h : Onward s t) (a0 : ℕ) : Onward s (setAxis a0 t) := by
  unfold setAxis
  repeat' (first | lift_lets | with_reducible exact h | with_reducible apply testGate_onward | with_reducible apply setReason_onward
                 | with_reducible apply modUpdate_onward)

theorem setSlotState_onward {s t : State} (h : Onward s t) (a0 : ℕ) (a1 : ℕ) : Onward s (setSlotState a0 a1 t) := by
  unfold setSlotState
  repeat' (first | lift_lets | with_reducible exact h | with_reducible apply modUpdate_onward)

theorem trialPass_onward {s t : State} (h : Onward s t) : Onward s (trialPass t) := by
  unfold trialPass
  repeat' (first | (intro y; refine onward_cut (s := s) (y := y) ?_ ?_; rotate_left; (intro hy; clear_value y); rotate_right; subst y)
                 | (intro (y : _ → _); subst y; try beta_reduce) | (intro y; clear_value y) | intro _ | lift_lets | with_reducible exact h
                 | with_reducible assumption | with_reducible apply onward_foldl | with_reducible apply raiseFloor_onward
                 | with_reducible apply applyResets_onward | with_reducible apply modUpdate_onward | with_reducible apply recordUpdate_onward
                 | with_reducible apply setAxis_onward | with_reducible apply setSlotState_onward)

theorem enterState_onward {s t : State} (h : Onward s t) (a0 : ModuleState) : Onward s (enterState a0 t) := by
  unfold enterState
  repeat' (first | (intro y; refine onward_cut (s := s) (y := y) ?_ ?_; rotate_left; (intro hy; clear_value y); rotate_right; subst y) | intro _
                 | lift_lets | with_reducible exact h | with_reducible assumption | with_reducible apply onward_ite
                 | with_reducible apply modModule_onward | with_reducible apply startHeartbeat_onward | with_reducible apply setReason_onward
                 | with_reducible apply testGate_onward | exact le_rfl)

theorem leaveProving_onward {s t : State} (h : Onward s t) : Onward s (leaveProving t) := by
  unfold leaveProving
  repeat' (first | (intro y; refine onward_cut (s := s) (y := y) ?_ ?_; rotate_left; (intro hy; clear_value y); rotate_right; subst y)
                 | (intro y; clear_value y) | lift_lets | with_reducible exact h | with_reducible assumption | with_reducible apply onward_ite
                 | with_reducible apply modModule_onward | with_reducible apply enterState_onward | with_reducible apply startAtBoot_onward
                 | exact le_rfl)

theorem provingPassed_onward {s t : State} (h : Onward s t) : Onward s (provingPassed t) := by
  unfold provingPassed
  repeat' (first | (intro y; refine onward_cut (s := s) (y := y) ?_ ?_; rotate_left; (intro hy; clear_value y); rotate_right; subst y)
                 | lift_lets | with_reducible exact h | with_reducible assumption | with_reducible apply onward_ite
                 | with_reducible apply comparatorResult_onward | with_reducible apply trialPass_onward | with_reducible apply enterState_onward
                 | with_reducible apply leaveProving_onward)

theorem cmdSafetyParamActivate_onward : OnwardC cmdSafetyParamActivate := by
  refine ⟨fun e s t h => ?_⟩
  unfold cmdSafetyParamActivate
  repeat' (first | (intro y; refine onward_cut (s := s) (y := y) ?_ ?_; rotate_left; (intro hy; clear_value y); rotate_right; subst y)
                 | (intro y; clear_value y) | intro _ | lift_lets | with_reducible exact h | with_reducible assumption
                 | with_reducible apply onward1_mk | with_reducible apply allOutputsOff_onward | with_reducible apply commitEntry_onward
                 | with_reducible apply faultsGone_onward | with_reducible apply modSafety_onward | with_reducible apply unproveAll_onward
                 | with_reducible apply raiseFloor_onward | with_reducible apply changeLog_onward | with_reducible apply watchPairs_onward
                 | with_reducible apply forwardSettings_onward | with_reducible apply evaluateGates_onward | with_reducible apply sized_state
                 | with_reducible apply fails_state | with_reducible apply answers_state | exact le_rfl | split)

theorem cmdUpdateStatus_onward : OnwardC cmdUpdateStatus := by
  refine ⟨fun e s t h => ?_⟩
  unfold cmdUpdateStatus
  repeat' (first | (intro (y : _ → _); subst y; try beta_reduce) | (intro y; clear_value y) | intro _ | lift_lets | with_reducible exact h
                 | with_reducible assumption | with_reducible apply onward1_mk | with_reducible apply sized_state
                 | with_reducible apply answers_state)

theorem unschedule_onward {s t : State} (h : Onward s t) : Onward s (unschedule t) := by
  unfold unschedule
  repeat' (first | lift_lets | with_reducible exact h | with_reducible apply modUpdate_onward)

theorem modSet_onward {s t : State} (h : Onward s t) (a0 : ℕ) (a1 : FirmwareSet → FirmwareSet) : Onward s (modSet a0 a1 t) := by
  unfold modSet
  repeat' (first | lift_lets | with_reducible exact h | with_reducible apply modUpdate_onward)

theorem forwardSchedule_onward {s t : State} (h : Onward s t) : Onward s (forwardSchedule t) := by
  unfold forwardSchedule
  repeat' (first | lift_lets | with_reducible exact h | with_reducible apply onward_ite | with_reducible apply slipstream_onward)

theorem cmdUpdateCancel_onward : OnwardC cmdUpdateCancel := by
  refine ⟨fun e s t h => ?_⟩
  unfold cmdUpdateCancel
  repeat' (first | (intro y; refine onward_cut (s := s) (y := y) ?_ ?_; rotate_left; (intro hy; clear_value y); rotate_right; subst y) | intro _
                 | lift_lets | with_reducible exact h | with_reducible assumption | with_reducible apply onward_ite
                 | with_reducible apply onward1_mk | with_reducible apply unschedule_onward | with_reducible apply setAxis_onward
                 | with_reducible apply setSlotState_onward | with_reducible apply modSet_onward | with_reducible apply forwardSchedule_onward
                 | with_reducible apply sized_state | with_reducible apply fails_state | with_reducible apply answers_state | split)

theorem cmdTestStatus_onward : OnwardC cmdTestStatus := by
  refine ⟨fun e s t h => ?_⟩
  unfold cmdTestStatus
  repeat' (first | (intro (y : _ → _); subst y; try beta_reduce) | (intro y; clear_value y) | intro _ | lift_lets | with_reducible exact h
                 | with_reducible assumption | with_reducible apply onward1_mk | with_reducible apply sized_state
                 | with_reducible apply answers_state)

theorem cmdLockoutEnter_onward : OnwardC cmdLockoutEnter := by
  refine ⟨fun e s t h => ?_⟩
  unfold cmdLockoutEnter
  repeat' (first | intro _ | lift_lets | with_reducible exact h | with_reducible assumption | with_reducible apply onward1_mk
                 | with_reducible apply lockOut_onward | with_reducible apply commitEntry_onward | with_reducible apply sized_state
                 | with_reducible apply answers_state)

theorem enterHoldover_onward {s t : State} (h : Onward s t) : Onward s (enterHoldover t) := by
  unfold enterHoldover
  repeat' (first | (intro y; clear_value y) | lift_lets | with_reducible exact h | with_reducible apply onward_ite
                 | with_reducible apply pulse_onward | with_reducible apply modClock_onward | with_reducible apply setAddend_onward)

theorem cmdTimeConfigure_onward : OnwardC cmdTimeConfigure := by
  refine ⟨fun e s t h => ?_⟩
  unfold cmdTimeConfigure
  repeat' (first | (intro y; refine onward_cut (s := s) (y := y) ?_ ?_; rotate_left; (intro hy; clear_value y); rotate_right; subst y)
                 | (intro y; clear_value y) | intro _ | lift_lets | with_reducible exact h | with_reducible assumption
                 | with_reducible apply onward_ite | with_reducible apply onward1_mk | with_reducible apply modClock_onward
                 | with_reducible apply enterHoldover_onward | with_reducible apply sized_state | with_reducible apply fails_state
                 | with_reducible apply answers_state | split)

theorem cmdMailboxCounters_onward : OnwardC cmdMailboxCounters := by
  refine ⟨fun e s t h => ?_⟩
  unfold cmdMailboxCounters
  repeat' (first | (intro y; clear_value y) | intro _ | lift_lets | with_reducible exact h | with_reducible assumption
                 | with_reducible apply onward1_mk | with_reducible apply sized_state | with_reducible apply answers_state)

theorem cmdModuleInfo_onward : OnwardC cmdModuleInfo := by
  refine ⟨fun e s t h => ?_⟩
  unfold cmdModuleInfo
  repeat' (first | (intro y; clear_value y) | intro _ | lift_lets | with_reducible exact h | with_reducible assumption
                 | with_reducible apply onward1_mk | with_reducible apply sized_state | with_reducible apply answers_state)

theorem cmdUpdateStage_onward : OnwardC cmdUpdateStage := by
  refine ⟨fun e s t h => ?_⟩
  unfold cmdUpdateStage
  repeat' (first | intro _ | lift_lets | with_reducible exact h | with_reducible assumption | with_reducible apply onward1_mk
                 | with_reducible apply needing_state | with_reducible apply fails_state | split)

theorem cmdWindowClose_onward : OnwardC cmdWindowClose := by
  refine ⟨fun e s t h => ?_⟩
  unfold cmdWindowClose
  repeat' (first | intro _ | lift_lets | with_reducible exact h | with_reducible assumption | with_reducible apply onward1_mk
                 | with_reducible apply modPos_onward | with_reducible apply sized_state)

theorem cmdChangeLogRead_onward : OnwardC cmdChangeLogRead := by
  refine ⟨fun e s t h => ?_⟩
  unfold cmdChangeLogRead
  repeat' (first | (intro y; clear_value y) | intro _ | lift_lets | with_reducible exact h | with_reducible assumption
                 | with_reducible apply onward1_mk | with_reducible apply sized_state | with_reducible apply fails_state
                 | with_reducible apply answers_state | split)

theorem cmdSafetyStatus_onward : OnwardC cmdSafetyStatus := by
  refine ⟨fun e s t h => ?_⟩
  unfold cmdSafetyStatus
  repeat' (first | (intro y; clear_value y) | intro _ | lift_lets | with_reducible exact h | with_reducible assumption
                 | with_reducible apply onward1_mk | with_reducible apply sized_state | with_reducible apply answers_state)

theorem cmdSafeIoTest_onward : OnwardC cmdSafeIoTest := by
  refine ⟨fun e s t h => ?_⟩
  unfold cmdSafeIoTest
  repeat' (first | (intro y; refine onward_cut (s := s) (y := y) ?_ ?_; rotate_left; (intro hy; clear_value y); rotate_right; subst y) | intro _
                 | lift_lets | with_reducible exact h | with_reducible assumption | with_reducible apply onward1_mk
                 | with_reducible apply modSafety_onward | with_reducible apply sized_state | with_reducible apply answers_state | exact le_rfl
                 | split)

theorem cmdTestExit_onward : OnwardC cmdTestExit := by
  refine ⟨fun e s t h => ?_⟩
  unfold cmdTestExit
  repeat' (first | intro _ | lift_lets | with_reducible exact h | with_reducible assumption | with_reducible apply onward1_mk
                 | with_reducible apply testOff_onward | with_reducible apply sized_state | with_reducible apply answers_state
                 | with_reducible apply fails_state | split)

theorem cmdClassControl_onward : OnwardC cmdClassControl := by
  refine ⟨fun e s t h => ?_⟩
  unfold cmdClassControl
  repeat' (first | (intro y; refine onward_cut (s := s) (y := y) ?_ ?_; rotate_left; (intro hy; clear_value y); rotate_right; subst y)
                 | (intro y; clear_value y) | exact id | intro _ | lift_lets | with_reducible exact h | with_reducible assumption
                 | with_reducible apply onward1_mk | with_reducible apply modMbx_onward | with_reducible apply cancelTargets_onward
                 | with_reducible apply sized_state | with_reducible apply fails_state | with_reducible apply answers_state | split)

theorem cmdSquallSet_onward : OnwardC cmdSquallSet := by
  refine ⟨fun e s t h => ?_⟩
  unfold cmdSquallSet
  repeat' (first | intro _ | lift_lets | with_reducible exact h | with_reducible assumption | with_reducible apply onward1_mk
                 | with_reducible apply modTest_onward | with_reducible apply sized_state | with_reducible apply fails_state
                 | with_reducible apply answers_state | split)

theorem cmdPositionStatus_onward : OnwardC cmdPositionStatus := by
  refine ⟨fun e s t h => ?_⟩
  unfold cmdPositionStatus
  repeat' (first | (intro y; clear_value y) | intro _ | lift_lets | with_reducible exact h | with_reducible assumption
                 | with_reducible apply onward1_mk | with_reducible apply sized_state | with_reducible apply answers_state)

theorem cmdTimePortStatus_onward : OnwardC cmdTimePortStatus := by
  refine ⟨fun e s t h => ?_⟩
  unfold cmdTimePortStatus
  repeat' (first | (intro y; clear_value y) | intro _ | lift_lets | with_reducible exact h | with_reducible assumption
                 | with_reducible apply onward1_mk | with_reducible apply sized_state | with_reducible apply fails_state
                 | with_reducible apply answers_state | split)

theorem cmdTestEnter_onward : OnwardC cmdTestEnter := by
  refine ⟨fun e s t h => ?_⟩
  unfold cmdTestEnter
  repeat' (first | (intro y; refine onward_cut (s := s) (y := y) ?_ ?_; rotate_left; (intro hy; clear_value y); rotate_right; subst y)
                 | (intro y; clear_value y) | intro _ | lift_lets | with_reducible exact h | with_reducible assumption
                 | with_reducible apply onward_ite | with_reducible apply onward1_mk | with_reducible apply afterDraw_onward
                 | with_reducible apply modTest_onward | with_reducible apply record_onward | with_reducible apply sized_state
                 | with_reducible apply fails_state | with_reducible apply answers_state | split)

theorem cmdModeRequest_onward : OnwardC cmdModeRequest := by
  refine ⟨fun e s t h => ?_⟩
  unfold cmdModeRequest
  repeat' (first | (intro y; refine onward_cut (s := s) (y := y) ?_ ?_; rotate_left; (intro hy; clear_value y); rotate_right; subst y)
                 | (intro y; clear_value y) | intro _ | lift_lets | with_reducible exact h | with_reducible assumption
                 | with_reducible apply onward_ite | with_reducible apply onward1_mk | with_reducible apply enterState_onward
                 | with_reducible apply startAtBoot_onward | with_reducible apply dropAndForward_onward | with_reducible apply sized_state
                 | with_reducible apply fails_state | with_reducible apply answers_state | split)

theorem stepClock_onward {s t : State} (h : Onward s t) (a0 : ℕ) (a1 : ℕ) (a2 : ℕ) (a3 : ℕ) : Onward s (stepClock a0 a1 a2 a3 t) := by
  unfold stepClock
  repeat' (first | (intro y; refine onward_cut (s := s) (y := y) ?_ ?_; rotate_left; (intro hy; clear_value y); rotate_right; subst y)
                 | (intro y; clear_value y) | lift_lets | with_reducible exact h | with_reducible assumption
                 | with_reducible apply setLocal_onward | with_reducible apply modClock_onward | with_reducible apply record_onward
                 | with_reducible apply cuesAtStep_onward | with_reducible apply skipLaunches_onward)

theorem cmdTimeSet_onward : OnwardC cmdTimeSet := by
  refine ⟨fun e s t h => ?_⟩
  unfold cmdTimeSet
  repeat' (first | (intro y; refine onward_cut (s := s) (y := y) ?_ ?_; rotate_left; (intro hy; clear_value y); rotate_right; subst y)
                 | (intro y; clear_value y) | intro _ | lift_lets | with_reducible exact h | with_reducible assumption
                 | with_reducible apply onward1_mk | with_reducible apply stepClock_onward | with_reducible apply setLull_onward
                 | with_reducible apply sized_state | with_reducible apply fails_state | with_reducible apply answers_state | split)

theorem cmdModuleStatus_onward : OnwardC cmdModuleStatus := by
  refine ⟨fun e s t h => ?_⟩
  unfold cmdModuleStatus
  repeat' (first | intro _ | lift_lets | with_reducible exact h | with_reducible assumption | with_reducible apply onward1_mk
                 | with_reducible apply sized_state | with_reducible apply answers_state)

theorem cmdUpdateSchedule_onward : OnwardC cmdUpdateSchedule := by
  refine ⟨fun e s t h => ?_⟩
  unfold cmdUpdateSchedule
  repeat' (first | (intro y; refine onward_cut (s := s) (y := y) ?_ ?_; rotate_left; (intro hy; clear_value y); rotate_right; subst y)
                 | (intro y; clear_value y) | intro _ | lift_lets | with_reducible exact h | with_reducible assumption
                 | with_reducible apply onward1_mk | with_reducible apply forwardSchedule_onward | with_reducible apply modUpdate_onward
                 | with_reducible apply unschedule_onward | with_reducible apply sized_state | with_reducible apply fails_state | split)

theorem cmdPositionConfigure_onward : OnwardC cmdPositionConfigure := by
  refine ⟨fun e s t h => ?_⟩
  unfold cmdPositionConfigure
  repeat' (first | (intro y; refine onward_cut (s := s) (y := y) ?_ ?_; rotate_left; (intro hy; clear_value y); rotate_right; subst y)
                 | (intro y; clear_value y) | intro _ | lift_lets | with_reducible exact h | with_reducible assumption
                 | with_reducible apply onward1_mk | with_reducible apply record_onward | with_reducible apply forwardSettings_onward
                 | with_reducible apply evaluateGates_onward | with_reducible apply closeWindows_onward
                 | with_reducible apply signalPosition_onward | with_reducible apply modPos_onward | with_reducible apply sized_state
                 | with_reducible apply fails_state | with_reducible apply answers_state | split)

theorem cmdTokenQuery_onward : OnwardC cmdTokenQuery := by
  refine ⟨fun e s t h => ?_⟩
  unfold cmdTokenQuery
  repeat' (first | intro _ | lift_lets | with_reducible exact h | with_reducible assumption | with_reducible apply onward1_mk
                 | with_reducible apply sized_state | with_reducible apply fails_state | with_reducible apply answers_state | split)

theorem cmdPositionMark_onward : OnwardC cmdPositionMark := by
  refine ⟨fun e s t h => ?_⟩
  unfold cmdPositionMark
  repeat' (first | intro _ | lift_lets | with_reducible exact h | with_reducible assumption | with_reducible apply onward1_mk
                 | with_reducible apply modPos_onward | with_reducible apply sized_state | with_reducible apply fails_state | split)

theorem cmdTimeStatus_onward : OnwardC cmdTimeStatus := by
  refine ⟨fun e s t h => ?_⟩
  unfold cmdTimeStatus
  repeat' (first | (intro y; clear_value y) | intro _ | lift_lets | with_reducible exact h | with_reducible assumption
                 | with_reducible apply onward1_mk | with_reducible apply sized_state | with_reducible apply answers_state)

theorem cmdPositionCounters_onward : OnwardC cmdPositionCounters := by
  refine ⟨fun e s t h => ?_⟩
  unfold cmdPositionCounters
  repeat' (first | (intro y; clear_value y) | intro _ | lift_lets | with_reducible exact h | with_reducible assumption
                 | with_reducible apply onward1_mk | with_reducible apply sized_state | with_reducible apply answers_state)

theorem cmdPositionAt_onward : OnwardC cmdPositionAt := by
  refine ⟨fun e s t h => ?_⟩
  unfold cmdPositionAt
  repeat' (first | intro _ | lift_lets | with_reducible exact h | with_reducible assumption | with_reducible apply onward1_mk
                 | with_reducible apply sized_state | with_reducible apply fails_state | with_reducible apply answers_state | split)

theorem cmdSelfTestRun_onward : OnwardC cmdSelfTestRun := by
  refine ⟨fun e s t h => ?_⟩
  unfold cmdSelfTestRun
  repeat' (first | (intro (y : _ → _); subst y; try beta_reduce) | intro _ | lift_lets | with_reducible exact h | with_reducible assumption
                 | with_reducible apply onward1_mk | with_reducible apply modTest_onward | with_reducible apply modVoter_onward
                 | with_reducible apply sized_state | with_reducible apply answers_state | split)

theorem cmdLockoutReset_onward : OnwardC cmdLockoutReset := by
  refine ⟨fun e s t h => ?_⟩
  unfold cmdLockoutReset
  repeat' (first | intro _ | lift_lets | with_reducible exact h | with_reducible assumption | with_reducible apply onward1_mk
                 | with_reducible apply modSafety_onward | with_reducible apply sized_state | with_reducible apply fails_state | exact le_rfl
                 | split)

theorem cmdModuleRestart_onward : OnwardC cmdModuleRestart := by
  refine ⟨fun e s t h => ?_⟩
  unfold cmdModuleRestart
  repeat' (first | intro _ | lift_lets | with_reducible exact h | with_reducible assumption | with_reducible apply onward1_mk
                 | with_reducible apply dueRestart_onward | with_reducible apply modModule_onward | with_reducible apply sized_state
                 | with_reducible apply fails_state | exact le_rfl | split)

theorem cmdSafetyParamLoad_onward : OnwardC cmdSafetyParamLoad := by
  refine ⟨fun e s t h => ?_⟩
  unfold cmdSafetyParamLoad
  repeat' (first | lift_lets | with_reducible exact h | with_reducible apply onward1_mk | with_reducible apply modSafety_onward
                 | with_reducible apply noteInterval_onward | with_reducible apply fails_state | with_reducible apply answers_state
                 | exact le_rfl | split)

theorem packageWritten_onward {s t : State} (h : Onward s t) (a0 : Entry) (a1 : Bytes) : Onward s (packageWritten a0 a1 t) := by
  unfold packageWritten
  repeat' (first | (intro y; refine onward_cut (s := s) (y := y) ?_ ?_; rotate_left; (intro hy; clear_value y); rotate_right; subst y)
                 | (intro y; clear_value y) | lift_lets | with_reducible exact h | with_reducible assumption | with_reducible apply onward_ite
                 | with_reducible apply completeEntry_onward | with_reducible apply unschedule_onward | with_reducible apply setAxis_onward
                 | with_reducible apply modModule_onward | with_reducible apply modSet_onward | with_reducible apply setSlotState_onward
                 | with_reducible apply forwardSchedule_onward | exact le_rfl | split)

theorem stageWritten_onward {s t : State} (h : Onward s t) (a0 : Entry) : Onward s (stageWritten a0 t) := by
  unfold stageWritten
  repeat' (first | (intro y; refine onward_cut (s := s) (y := y) ?_ ?_; rotate_left; (intro hy; clear_value y); rotate_right; subst y)
                 | (intro y; clear_value y) | lift_lets | with_reducible exact h | with_reducible assumption | with_reducible apply onward_ite
                 | with_reducible apply commitEntry_onward | with_reducible apply setSlotState_onward | with_reducible apply modSet_onward
                 | with_reducible apply packageWritten_onward | with_reducible apply modUpdate_onward | with_reducible apply completeEntry_onward)

theorem applyMark_onward {s t : State} (h : Onward s t) (a0 : Entry) : Onward s (applyMark a0 t) := by
  unfold applyMark
  repeat' (first | (intro y; refine onward_cut (s := s) (y := y) ?_ ?_; rotate_left; (intro hy; clear_value y); rotate_right; subst y)
                 | (intro y; clear_value y) | lift_lets | with_reducible exact h | with_reducible assumption | with_reducible apply onward_ite
                 | with_reducible apply completeEntry_onward | with_reducible apply modPos_onward | with_reducible apply commitEntry_onward
                 | with_reducible apply record_onward | split)

theorem applyWindowClose_onward {s t : State} (h : Onward s t) (a0 : Entry) : Onward s (applyWindowClose a0 t) := by
  unfold applyWindowClose
  repeat' (first | (intro y; refine onward_cut (s := s) (y := y) ?_ ?_; rotate_left; (intro hy; clear_value y); rotate_right; subst y)
                 | (intro y; clear_value y) | intro _ | lift_lets | with_reducible exact h | with_reducible assumption
                 | with_reducible apply onward_foldl | with_reducible apply closeWindow_onward | with_reducible apply commitEntry_onward
                 | with_reducible apply completeEntry_onward)

theorem waitingTick_onward {s t : State} (h : Onward s t) : Onward s (waitingTick t) := by
  unfold waitingTick
  repeat' (first | (intro y; clear_value y) | intro _ | lift_lets | with_reducible exact h | with_reducible assumption
                 | with_reducible apply onward_ite | with_reducible apply onward_foldl | with_reducible apply applyMark_onward
                 | with_reducible apply applyWindowClose_onward | with_reducible apply modPos_onward | split)

theorem endForwarded_onward {s t : State} (h : Onward s t) : Onward s (endForwarded t) := by
  unfold endForwarded
  repeat' (first | lift_lets | with_reducible exact h | with_reducible apply finishStop_onward | with_reducible apply beginCommit_onward
                 | with_reducible apply endCues_onward | with_reducible apply abandonAll_onward | with_reducible apply endActivations_onward)

theorem armUpdateReset_onward {s t : State} (h : Onward s t) : Onward s (armUpdateReset t) := by
  unfold armUpdateReset
  repeat' (first | (intro y; clear_value y) | lift_lets | with_reducible exact h | with_reducible apply modModule_onward
                 | with_reducible apply modUpdate_onward | exact le_rfl)

theorem updateStopped_onward {s t : State} (h : Onward s t) : Onward s (updateStopped t) := by
  unfold updateStopped
  repeat' (first | lift_lets | with_reducible exact h | with_reducible apply onward_ite | with_reducible apply armUpdateReset_onward)

theorem beginActivation_onward {s t : State} (h : Onward s t) : Onward s (beginActivation t) := by
  unfold beginActivation
  repeat' (first | (intro y; refine onward_cut (s := s) (y := y) ?_ ?_; rotate_left; (intro hy; clear_value y); rotate_right; subst y)
                 | lift_lets | with_reducible exact h | with_reducible assumption | with_reducible apply onward_ite
                 | with_reducible apply setAxis_onward | with_reducible apply modUpdate_onward | with_reducible apply unschedule_onward
                 | with_reducible apply endForwarded_onward | with_reducible apply beginStop_onward | with_reducible apply updateStopped_onward)

theorem refuseActivation_onward {s t : State} (h : Onward s t) (a0 : ℕ) : Onward s (refuseActivation a0 t) := by
  unfold refuseActivation
  repeat' (first | lift_lets | with_reducible exact h | with_reducible apply recordUpdate_onward | with_reducible apply modUpdate_onward
                 | with_reducible apply unschedule_onward)

theorem bothGates_onward {s t : State} (h : Onward s t) : Onward s (bothGates t) := by
  unfold bothGates
  repeat' (first | lift_lets | with_reducible exact h | with_reducible apply beginActivation_onward | with_reducible apply modPair_onward
                 | with_reducible apply refuseActivation_onward | split)

theorem recordFunction_onward {s t : State} (h : Onward s t) (a0 : ℕ) (a1 : Bytes) : Onward s (recordFunction a0 a1 t) := by
  unfold recordFunction
  repeat' (first | lift_lets | with_reducible exact h | with_reducible apply record_onward)

theorem recordKey_onward {s t : State} (h : Onward s t) (a0 : ℕ) : Onward s (recordKey a0 t) := by
  unfold recordKey
  repeat' (first | lift_lets | with_reducible exact h | with_reducible apply recordFunction_onward)

theorem seeField_onward {s t : State} (h : Onward s t) (a0 : ℕ) (a1 : Bool) : Onward s (seeField a0 a1 t) := by
  unfold seeField
  repeat' (first | (intro y; refine onward_cut (s := s) (y := y) ?_ ?_; rotate_left; (intro hy; clear_value y); rotate_right; subst y) | intro _
                 | lift_lets | with_reducible exact h | with_reducible assumption | with_reducible apply onward_foldl
                 | with_reducible apply modSafety_onward | with_reducible apply modOutput_onward | exact le_rfl)

theorem endArming_onward {s t : State} (h : Onward s t) (a0 : ℕ) : Onward s (endArming a0 t) := by
  unfold endArming
  repeat' (first | lift_lets | with_reducible exact h | with_reducible apply completeEntry_onward | with_reducible apply modSafety_onward
                 | exact le_rfl | split)

theorem execResetKeyHoldLimit_onward {s t : State} (h : Onward s t) : Onto s (execResetKeyHoldLimit t) := by
  unfold execResetKeyHoldLimit
  repeat' (first | lift_lets | with_reducible exact h | with_reducible apply onto_next | with_reducible apply onto_ite
                 | with_reducible apply endArming_onward | with_reducible apply reach_onward | split)

theorem lullLost_onward {s t : State} (h : Onward s t) : Onward s (lullLost t) := by
  unfold lullLost
  repeat' (first | (intro y; refine onward_cut (s := s) (y := y) ?_ ?_; rotate_left; (intro hy; clear_value y); rotate_right; subst y)
                 | (intro y; clear_value y) | lift_lets | with_reducible exact h | with_reducible assumption
                 | with_reducible apply afterDraw_onward | with_reducible apply modLull_onward | with_reducible apply setLull_onward)

theorem setSpeedViolated_onward {s t : State} (h : Onward s t) (a0 : Bool) : Onward s (setSpeedViolated a0 t) := by
  unfold setSpeedViolated
  repeat' (first | lift_lets | with_reducible exact h | with_reducible apply recordFunction_onward | with_reducible apply modSafety_onward
                 | exact le_rfl)

theorem execSpeedViolationClear_onward {s t : State} (h : Onward s t) : Onto s (execSpeedViolationClear t) := by
  unfold execSpeedViolationClear
  repeat' (first | lift_lets | with_reducible exact h | with_reducible apply onto_next | with_reducible apply onto_ite
                 | with_reducible apply evaluateGates_onward | with_reducible apply setSpeedViolated_onward | with_reducible apply reach_onward
                 | split)

theorem resetLockout_onward {s t : State} (h : Onward s t) (a0 : Arming) (a1 : ℕ) : Onward s (resetLockout a0 a1 t) := by
  unfold resetLockout
  repeat' (first | (intro y; refine onward_cut (s := s) (y := y) ?_ ?_; rotate_left; (intro hy; clear_value y); rotate_right; subst y)
                 | (intro y; clear_value y) | lift_lets | with_reducible exact h | with_reducible assumption
                 | with_reducible apply modSafety_onward | with_reducible apply unproveAll_onward | with_reducible apply changeLog_onward
                 | with_reducible apply modModule_onward | with_reducible apply completeEntry_onward | exact le_rfl)

theorem internalReset_onward {s t : State} (h : Onward s t) (a0 : ℕ) : Onward s (internalReset a0 t) := by
  unfold internalReset
  repeat' (first | lift_lets | with_reducible exact h | with_reducible apply modModule_onward | exact le_rfl)

theorem modSelfTest_onward {s t : State} (h : Onward s t) (a0 : ℕ) (a1 : SelfTest → SelfTest) : Onward s (modSelfTest a0 a1 t) := by
  unfold modSelfTest
  repeat' (first | lift_lets | with_reducible exact h | with_reducible apply modTest_onward)

theorem recordVoterFail_onward {s t : State} (h : Onward s t) (a0 : ℕ) : Onward s (recordVoterFail a0 t) := by
  unfold recordVoterFail
  repeat' (first | lift_lets | with_reducible exact h | with_reducible apply recordLane_onward | with_reducible apply comparatorResult_onward)

theorem comparatorLockout_onward {s t : State} (h : Onward s t) (a0 : ℕ) : Onward s (comparatorLockout a0 t) := by
  unfold comparatorLockout
  repeat' (first | lift_lets | with_reducible exact h | with_reducible apply lockOut_onward)

theorem answerRequests_onward {s t : State} (h : Onward s t) : Onward s (answerRequests t) := by
  unfold answerRequests
  repeat' (first | (intro y; clear_value y) | intro _ | lift_lets | with_reducible exact h | with_reducible assumption
                 | with_reducible apply onward_foldl | with_reducible apply completeEntry_onward | with_reducible apply modTest_onward)

theorem endRound_onward {s t : State} (h : Onward s t) (a0 : ℕ) : Onward s (endRound a0 t) := by
  unfold endRound
  repeat' (first | (intro y; refine onward_cut (s := s) (y := y) ?_ ?_; rotate_left; (intro hy; clear_value y); rotate_right; subst y)
                 | (intro (y : _ → _); subst y; try beta_reduce) | lift_lets | with_reducible exact h | with_reducible assumption
                 | with_reducible apply onward_ite | with_reducible apply modSelfTest_onward | with_reducible apply modTest_onward
                 | with_reducible apply answerRequests_onward)

theorem comparatorFails_onward {s t : State} (h : Onward s t) (a0 : ℕ) : Onward s (comparatorFails a0 t) := by
  unfold comparatorFails
  repeat' (first | (intro y; refine onward_cut (s := s) (y := y) ?_ ?_; rotate_left; (intro hy; clear_value y); rotate_right; subst y)
                 | (intro y; clear_value y) | lift_lets | with_reducible exact h | with_reducible assumption
                 | with_reducible apply modVoter_onward | with_reducible apply recordVoterFail_onward | with_reducible apply completeEntry_onward
                 | with_reducible apply comparatorLockout_onward | with_reducible apply endRound_onward | split)

theorem cryptoFails_onward {s t : State} (h : Onward s t) : Onward s (cryptoFails t) := by
  unfold cryptoFails
  repeat' (first | (intro y; refine onward_cut (s := s) (y := y) ?_ ?_; rotate_left; (intro hy; clear_value y); rotate_right; subst y)
                 | (intro (y : _ → _); subst y; try beta_reduce) | (intro y; clear_value y) | exact FloorsLe.refl _ | intro _ | lift_lets
                 | with_reducible exact h | with_reducible assumption | with_reducible apply onward_foldl
                 | with_reducible apply endSession_onward | with_reducible apply modNet_onward | with_reducible apply modTrust_onward)

theorem sliceFails_onward {s t : State} (h : Onward s t) (a0 : ℕ) (a1 : ℕ) : Onward s (sliceFails a0 a1 t) := by
  unfold sliceFails
  repeat' (first | (intro y; refine onward_cut (s := s) (y := y) ?_ ?_; rotate_left; (intro hy; clear_value y); rotate_right; subst y)
                 | lift_lets | with_reducible exact h | with_reducible assumption | with_reducible apply onward_ite
                 | with_reducible apply modSelfTest_onward | with_reducible apply modTest_onward | with_reducible apply record_onward
                 | with_reducible apply comparatorFails_onward | with_reducible apply internalReset_onward
                 | with_reducible apply cryptoFails_onward | with_reducible apply lockOut_onward | split)

theorem trialFail_onward {s t : State} (h : Onward s t) (a0 : ℕ) : Onward s (trialFail a0 t) := by
  unfold trialFail
  repeat' (first | (intro y; refine onward_cut (s := s) (y := y) ?_ ?_; rotate_left; (intro hy; clear_value y); rotate_right; subst y)
                 | (intro y; clear_value y) | lift_lets | with_reducible exact h | with_reducible assumption | with_reducible apply modSet_onward
                 | with_reducible apply setSlotState_onward | with_reducible apply modUpdate_onward | with_reducible apply modModule_onward
                 | exact le_rfl)

theorem countTrial_onward {s t : State} (h : Onward s t) : Onward s (countTrial t) := by
  unfold countTrial
  repeat' (first | lift_lets | with_reducible exact h | with_reducible apply onward_ite | with_reducible apply trialFail_onward
                 | with_reducible apply modUpdate_onward)

theorem recordSlotFailure_onward {s t : State} (h : Onward s t) (a0 : BootFacts) (a1 : ℕ) : Onward s (recordSlotFailure a0 a1 t) := by
  unfold recordSlotFailure
  repeat' (first | lift_lets | with_reducible exact h | with_reducible apply onward_ite | with_reducible apply recordUpdate_onward)

theorem bootOther_onward {s t : State} (h : Onward s t) : Onward s (bootOther t) := by
  unfold bootOther
  repeat' (first | (intro y; clear_value y) | lift_lets | with_reducible exact h | with_reducible apply onward_ite
                 | with_reducible apply trialFail_onward | with_reducible apply modModule_onward | with_reducible apply setSlotState_onward
                 | exact le_rfl)

theorem bootChecks_onward {s t : State} (h : Onward s t) (a0 : BootFacts) : Onward s (bootChecks a0 t) := by
  unfold bootChecks
  repeat' (first | (intro y; refine onward_cut (s := s) (y := y) ?_ ?_; rotate_left; (intro hy; clear_value y); rotate_right; subst y)
                 | (intro (y : _ → _); subst y; try beta_reduce) | (intro y; clear_value y) | lift_lets | with_reducible exact h
                 | with_reducible assumption | with_reducible apply onward_ite | with_reducible apply noteSigner_onward
                 | with_reducible apply modModule_onward | with_reducible apply modSlot_onward | with_reducible apply settleAxis_onward
                 | with_reducible apply modProg_onward | with_reducible apply lockOut_onward | with_reducible apply modSafety_onward
                 | exact le_rfl)

theorem reportTrial_onward {s t : State} (h : Onward s t) : Onward s (reportTrial t) := by
  unfold reportTrial
  repeat' (first | lift_lets | with_reducible exact h | with_reducible apply onward_ite | with_reducible apply recordUpdate_onward
                 | with_reducible apply modUpdate_onward)

theorem recordBoot_onward {s t : State} (h : Onward s t) : Onward s (recordBoot t) := by
  unfold recordBoot
  repeat' (first | (intro y; clear_value y) | lift_lets | with_reducible exact h | with_reducible apply record_onward)

theorem boot_onward {s t : State} (h : Onward s t) (a0 : BootFacts) : Onward s (boot a0 t) := by
  unfold boot
  repeat' (first | (intro y; refine onward_cut (s := s) (y := y) ?_ ?_; rotate_left; (intro hy; clear_value y); rotate_right; subst y)
                 | (intro y; clear_value y) | exact FloorsLe.refl _ | exact fun _ => rfl | lift_lets | with_reducible exact h
                 | with_reducible assumption | with_reducible apply onward_ite | with_reducible apply afterDraw_onward
                 | with_reducible apply modTrust_onward | with_reducible apply modNet_onward | with_reducible apply modModule_onward
                 | with_reducible apply lullLost_onward | with_reducible apply setLocal_onward | with_reducible apply countTrial_onward
                 | with_reducible apply recordSlotFailure_onward | with_reducible apply bootOther_onward | with_reducible apply trialFail_onward
                 | with_reducible apply modMbx_onward | with_reducible apply setRole_onward | with_reducible apply modPair_onward
                 | with_reducible apply bootChecks_onward | with_reducible apply reportTrial_onward | with_reducible apply recordBoot_onward
                 | exact le_rfl | exact Nat.le_succ _)

theorem execResetRelease_onward {s t : State} (h : Onward s t) (a0 : BootFacts) : Onto s (execResetRelease a0 t) := by
  unfold execResetRelease
  repeat' (first | (intro y; refine onward_cut (s := s) (y := y) ?_ ?_; rotate_left; (intro hy; clear_value y); rotate_right; subst y)
                 | lift_lets | with_reducible exact h | with_reducible assumption | with_reducible apply onward_ite
                 | with_reducible apply onto_next | with_reducible apply onto_ite | with_reducible apply modModule_onward
                 | with_reducible apply boot_onward | exact le_rfl)

theorem modInstance_onward {s t : State} (h : Onward s t) (a0 : PtpSource) (a1 : PtpInstance → PtpInstance) : Onward s (modInstance a0 a1 t) := by
  unfold modInstance
  repeat' (first | lift_lets | with_reducible exact h | with_reducible apply modClock_onward)

theorem execUpdateActivation_onward {s t : State} (h : Onward s t) : Onto s (execUpdateActivation t) := by
  unfold execUpdateActivation
  repeat' (first | (intro y; refine onward_cut (s := s) (y := y) ?_ ?_; rotate_left; (intro hy; clear_value y); rotate_right; subst y)
                 | (intro y; clear_value y) | lift_lets | with_reducible exact h | with_reducible assumption | with_reducible apply onward_ite
                 | with_reducible apply onto_next | with_reducible apply onto_ite | with_reducible apply reachLocal_onward
                 | with_reducible apply unschedule_onward | with_reducible apply refuseActivation_onward | with_reducible apply slipstream_onward
                 | with_reducible apply modPair_onward | with_reducible apply bothGates_onward | with_reducible apply modUpdate_onward
                 | with_reducible apply beginActivation_onward | split)

theorem roundStep_onward {s t : State} (h : Onward s t) : Onward s (roundStep t) := by
  unfold roundStep
  repeat' (first | (intro y; refine onward_cut (s := s) (y := y) ?_ ?_; rotate_left; (intro hy; clear_value y); rotate_right; subst y)
                 | (intro y; clear_value y) | intro _ | lift_lets | with_reducible exact h | with_reducible assumption
                 | with_reducible apply onward_ite | with_reducible apply onward_foldl | with_reducible apply modSafety_onward
                 | with_reducible apply completeEntry_onward | exact le_rfl)

theorem execResetKeyDiscrepancy_onward {s t : State} (h : Onward s t) : Onto s (execResetKeyDiscrepancy t) := by
  unfold execResetKeyDiscrepancy
  repeat' (first | lift_lets | with_reducible exact h | with_reducible apply onto_next | with_reducible apply endArming_onward
                 | with_reducible apply reach_onward | split)

theorem commitVoterTest_onward {s t : State} (h : Onward s t) : Onward s (commitVoterTest t) := by
  unfold commitVoterTest
  repeat' (first | lift_lets | with_reducible exact h | with_reducible apply commitEntry_onward | split)

theorem execFieldSupplyReturn_onward {s t : State} (h : Onward s t) (a0 : ℕ) : Onto s (execFieldSupplyReturn a0 t) := by
  unfold execFieldSupplyReturn
  repeat' (first | lift_lets | with_reducible exact h | with_reducible apply onto_next | with_reducible apply onto_ite
                 | with_reducible apply seeField_onward)

theorem pulseRead_onward {s t : State} (h : Onward s t) (a0 : ℕ) (a1 : PulseReading) : Onward s (pulseRead a0 a1 t) := by
  unfold pulseRead
  repeat' (first | (intro y; refine onward_cut (s := s) (y := y) ?_ ?_; rotate_left; (intro hy; clear_value y); rotate_right; subst y)
                 | (intro y; clear_value y) | lift_lets | with_reducible exact h | with_reducible assumption | with_reducible apply onward_ite
                 | with_reducible apply faultInput_onward | with_reducible apply modInput_onward | with_reducible apply clearFault_onward)

theorem execTestPulse_onward {s t : State} (h : Onward s t) (a0 : ℕ) (a1 : List PulseReading) (a2 : Bool) : Onto s (execTestPulse a0 a1 a2 t) := by
  unfold execTestPulse
  repeat' (first | (intro y; refine onward_cut (s := s) (y := y) ?_ ?_; rotate_left; (intro hy; clear_value y); rotate_right; subst y)
                 | (intro y; clear_value y) | intro _ | lift_lets | with_reducible exact h | with_reducible assumption
                 | with_reducible apply onto_next | with_reducible apply onto_ite | with_reducible apply onward_foldl
                 | with_reducible apply modSafety_onward | with_reducible apply emit_onward | with_reducible apply reachLocal_onward
                 | with_reducible apply pulseRead_onward | with_reducible apply faultsGone_onward | with_reducible apply internalFault_onward
                 | exact le_rfl)

theorem modPtpPort_onward {s t : State} (h : Onward s t) (a0 : ℕ) (a1 : PtpPort → PtpPort) : Onward s (modPtpPort a0 a1 t) := by
  unfold modPtpPort
  repeat' (first | lift_lets | with_reducible exact h | with_reducible apply modClock_onward)

theorem execPtpPdelay_onward {s t : State} (h : Onward s t) (a0 : ℕ) (a1 : ℕ) (a2 : Bool) : Onto s (execPtpPdelay a0 a1 a2 t) := by
  unfold execPtpPdelay
  repeat' (first | lift_lets | with_reducible exact h | with_reducible apply onto_next | with_reducible apply onto_ite
                 | with_reducible apply modPtpPort_onward | split)

theorem keyOpens_onward {s t : State} (h : Onward s t) (a0 : ℕ) : Onward s (keyOpens a0 t) := by
  unfold keyOpens
  repeat' (first | (intro y; clear_value y) | lift_lets | with_reducible exact h | with_reducible apply onward_ite
                 | with_reducible apply recordKey_onward | with_reducible apply modSafety_onward | with_reducible apply endArming_onward
                 | with_reducible apply resetLockout_onward | exact le_rfl | split)

theorem execResetKeyChange_onward {s t : State} (h : Onward s t) (a0 : Bool) (a1 : Bool) : Onto s (execResetKeyChange a0 a1 t) := by
  unfold execResetKeyChange
  repeat' (first | (intro y; refine onward_cut (s := s) (y := y) ?_ ?_; rotate_left; (intro hy; clear_value y); rotate_right; subst y)
                 | (intro y; clear_value y) | lift_lets | with_reducible exact h | with_reducible assumption | with_reducible apply onto_next
                 | with_reducible apply onto_ite | with_reducible apply modSafety_onward | with_reducible apply keyOpens_onward | exact le_rfl
                 | split)

theorem supplyEndsActivation_onward {s t : State} (h : Onward s t) : Onward s (supplyEndsActivation t) := by
  unfold supplyEndsActivation
  repeat' (first | lift_lets | with_reducible exact h | with_reducible apply onward_ite | with_reducible apply modModule_onward
                 | with_reducible apply setAxis_onward | with_reducible apply modUpdate_onward | with_reducible apply unschedule_onward
                 | exact le_rfl)

theorem recordDirection_onward {s t : State} (h : Onward s t) (a0 : Bool) : Onward s (recordDirection a0 t) := by
  unfold recordDirection
  repeat' (first | lift_lets | with_reducible exact h | with_reducible apply recordFunction_onward)

theorem halt_onward {s t : State} (h : Onward s t) (a0 : ℕ) : Onward s (halt a0 t) := by
  unfold halt
  repeat' (first | (intro y; refine onward_cut (s := s) (y := y) ?_ ?_; rotate_left; (intro hy; clear_value y); rotate_right; subst y)
                 | lift_lets | with_reducible exact h | with_reducible assumption | with_reducible apply onward_ite
                 | with_reducible apply modModule_onward | with_reducible apply modNet_onward | with_reducible apply modSafety_onward
                 | with_reducible apply allOutputsOff_onward | with_reducible apply trialFail_onward | exact le_rfl)

theorem readPaths_onward {s t : State} (h : Onward s t) (a0 : ℕ) (a1 : ℕ) (a2 : ℕ) : Onward s (readPaths a0 a1 a2 t) := by
  unfold readPaths
  repeat' (first | (intro y; clear_value y) | lift_lets | with_reducible exact h | with_reducible apply modInput_onward)

theorem starveTests_onward {s t : State} (h : Onward s t) : Onward s (starveTests t) := by
  unfold starveTests
  repeat' (first | (intro y; clear_value y) | intro _ | lift_lets | with_reducible exact h | with_reducible assumption
                 | with_reducible apply onward_ite | with_reducible apply onward_foldl | with_reducible apply record_onward
                 | with_reducible apply modSelfTest_onward)

theorem windowTick_onward {s t : State} (h : Onward s t) : Onward s (windowTick t) := by
  unfold windowTick
  repeat' (first | lift_lets | with_reducible exact h | with_reducible apply onward_ite | with_reducible apply closeWindows_onward)

theorem execPowerGood_onward {s t : State} (h : Onward s t) (a0 : BootFacts) : Onto s (execPowerGood a0 t) := by
  unfold execPowerGood
  repeat' (first | (intro y; refine onward_cut (s := s) (y := y) ?_ ?_; rotate_left; (intro hy; clear_value y); rotate_right; subst y)
                 | lift_lets | with_reducible exact h | with_reducible assumption | with_reducible apply onward_ite
                 | with_reducible apply onto_next | with_reducible apply onto_ite | with_reducible apply modModule_onward
                 | with_reducible apply boot_onward | exact le_rfl)

theorem directionTick_onward {s t : State} (h : Onward s t) : Onward s (directionTick t) := by
  unfold directionTick
  repeat' (first | (intro y; refine onward_cut (s := s) (y := y) ?_ ?_; rotate_left; (intro hy; clear_value y); rotate_right; subst y)
                 | (intro y; clear_value y) | lift_lets | with_reducible exact h | with_reducible assumption | with_reducible apply onward_ite
                 | with_reducible apply modSafety_onward | with_reducible apply recordDirection_onward | exact le_rfl)

theorem speedTick_onward {s t : State} (h : Onward s t) : Onward s (speedTick t) := by
  unfold speedTick
  repeat' (first | (intro y; refine onward_cut (s := s) (y := y) ?_ ?_; rotate_left; (intro hy; clear_value y); rotate_right; subst y)
                 | lift_lets | with_reducible exact h | with_reducible assumption | with_reducible apply onward_ite
                 | with_reducible apply modSafety_onward | with_reducible apply setSpeedViolated_onward | exact le_rfl)

theorem standstillTick_onward {s t : State} (h : Onward s t) : Onward s (standstillTick t) := by
  unfold standstillTick
  repeat' (first | (intro (y : _ → _); subst y; try beta_reduce) | (intro y; clear_value y) | lift_lets | with_reducible exact h
                 | with_reducible apply onward_ite | with_reducible apply modSafety_onward | exact le_rfl)

theorem functionsTick_onward {s t : State} (h : Onward s t) : Onward s (functionsTick t) := by
  unfold functionsTick
  repeat' (first | lift_lets | with_reducible exact h | with_reducible apply testGate_onward | with_reducible apply windowTick_onward
                 | with_reducible apply directionTick_onward | with_reducible apply speedTick_onward | with_reducible apply standstillTick_onward)

theorem startQueued_onward {s t : State} (h : Onward s t) : Onward s (startQueued t) := by
  unfold startQueued
  repeat' (first | lift_lets | with_reducible exact h | with_reducible apply onward_ite | with_reducible apply modVoter_onward)

theorem commitRequests_onward {s t : State} (h : Onward s t) (a0 : ℕ) : Onward s (commitRequests a0 t) := by
  unfold commitRequests
  repeat' (first | intro _ | lift_lets | with_reducible exact h | with_reducible assumption | with_reducible apply onward_foldl
                 | with_reducible apply commitEntry_onward | split)

theorem eraseOne_onward {s t : State} (h : Onward s t) : Onward s (eraseOne t) := by
  unfold eraseOne
  repeat' (first | (intro (y : _ → _); subst y; try beta_reduce) | lift_lets | with_reducible exact h | with_reducible apply modRecorder_onward)

theorem patternPassed_onward {s t : State} (h : Onward s t) (a0 : Option ℕ) (a1 : ℕ) : Onward s (patternPassed a0 a1 t) := by
  unfold patternPassed
  repeat' (first | (intro y; refine onward_cut (s := s) (y := y) ?_ ?_; rotate_left; (intro hy; clear_value y); rotate_right; subst y)
                 | lift_lets | with_reducible exact h | with_reducible assumption | with_reducible apply onward_ite
                 | with_reducible apply modVoter_onward | with_reducible apply comparatorResult_onward
                 | with_reducible apply completeEntry_onward | split)

theorem roundPasses_onward {s t : State} (h : Onward s t) (a0 : ℕ) : Onward s (roundPasses a0 t) := by
  unfold roundPasses
  repeat' (first | (intro y; clear_value y) | lift_lets | with_reducible exact h | with_reducible apply onward_ite
                 | with_reducible apply modSelfTest_onward | with_reducible apply endRound_onward | with_reducible apply comparatorResult_onward)

theorem slicePasses_onward {s t : State} (h : Onward s t) (a0 : ℕ) : Onward s (slicePasses a0 t) := by
  unfold slicePasses
  repeat' (first | lift_lets | with_reducible exact h | with_reducible apply patternPassed_onward | with_reducible apply roundPasses_onward | split)

theorem execBackgroundSlice_onward {s t : State} (h : Onward s t) (a0 : SliceFinding) : Onto s (execBackgroundSlice a0 t) := by
  unfold execBackgroundSlice
  repeat' (first | (intro y; refine onward_cut (s := s) (y := y) ?_ ?_; rotate_left; (intro hy; clear_value y); rotate_right; subst y)
                 | (intro y; clear_value y) | lift_lets | with_reducible exact h | with_reducible assumption | with_reducible apply onward_ite
                 | with_reducible apply onto_next | with_reducible apply onto_ite | with_reducible apply starveTests_onward
                 | with_reducible apply commitVoterTest_onward | with_reducible apply startQueued_onward
                 | with_reducible apply commitRequests_onward | with_reducible apply eraseOne_onward | with_reducible apply modTest_onward
                 | with_reducible apply slicePasses_onward | with_reducible apply sliceFails_onward)

theorem execBackFeedFault_onward {s t : State} (h : Onward s t) (a0 : ℕ) : Onto s (execBackFeedFault a0 t) := by
  unfold execBackFeedFault
  repeat' (first | (intro y; clear_value y) | lift_lets | with_reducible exact h | with_reducible apply onto_next | with_reducible apply onto_ite
                 | with_reducible apply modOutput_onward)

theorem endIoTests_onward {s t : State} (h : Onward s t) (a0 : ℕ) (a1 : ℕ) : Onward s (endIoTests a0 a1 t) := by
  unfold endIoTests
  repeat' (first | (intro y; clear_value y) | intro _ | lift_lets | with_reducible exact h | with_reducible assumption
                 | with_reducible apply onward_foldl | with_reducible apply completeEntry_onward | with_reducible apply modSafety_onward
                 | exact le_rfl)

theorem recordSupply_onward {s t : State} (h : Onward s t) (a0 : ℕ) (a1 : ℕ) : Onward s (recordSupply a0 a1 t) := by
  unfold recordSupply
  repeat' (first | lift_lets | with_reducible exact h | with_reducible apply record_onward)

theorem execReelRestartComplete_onward {s t : State} (h : Onward s t) : Onto s (execReelRestartComplete t) := by
  unfold execReelRestartComplete
  repeat' (first | lift_lets | with_reducible exact h | with_reducible apply onto_next | with_reducible apply modModule_onward | exact le_rfl)

theorem writeLull_onward {s t : State} (h : Onward s t) : Onward s (writeLull t) := by
  unfold writeLull
  repeat' (first | lift_lets | with_reducible exact h | with_reducible apply modClock_onward | with_reducible apply setLull_onward)

theorem execLullClockWrite_onward {s t : State} (h : Onward s t) : Onto s (execLullClockWrite t) := by
  unfold execLullClockWrite
  repeat' (first | lift_lets | with_reducible exact h | with_reducible apply onto_next | with_reducible apply onto_ite
                 | with_reducible apply writeLull_onward | with_reducible apply reach_onward)

theorem afterMaster_onward {s t : State} (h : Onward s t) (a0 : Option (PtpSource × ℕ)) : Onward s (afterMaster a0 t) := by
  unfold afterMaster
  repeat' (first | lift_lets | with_reducible exact h | with_reducible apply onward_ite | with_reducible apply enterHoldover_onward)

theorem loseMaster_onward {s t : State} (h : Onward s t) (a0 : PtpSource) (a1 : ℕ) (a2 : ℕ) : Onward s (loseMaster a0 a1 a2 t) := by
  unfold loseMaster
  repeat' (first | (intro y; refine onward_cut (s := s) (y := y) ?_ ?_; rotate_left; (intro hy; clear_value y); rotate_right; subst y)
                 | (intro y; clear_value y) | lift_lets | with_reducible exact h | with_reducible assumption | with_reducible apply onward_ite
                 | with_reducible apply modPtpPort_onward | with_reducible apply afterMaster_onward | with_reducible apply modInstance_onward)

theorem execPtpAnnounceTimeout_onward {s t : State} (h : Onward s t) (a0 : PtpSource) (a1 : ℕ) : Onto s (execPtpAnnounceTimeout a0 a1 t) := by
  unfold execPtpAnnounceTimeout
  repeat' (first | lift_lets | with_reducible exact h | with_reducible apply onto_next | with_reducible apply onto_ite
                 | with_reducible apply loseMaster_onward | with_reducible apply modPtpPort_onward)

theorem execOutputTimeout_onward {s t : State} (h : Onward s t) (a0 : ℕ) : Onto s (execOutputTimeout a0 t) := by
  unfold execOutputTimeout
  repeat' (first | lift_lets | with_reducible exact h | with_reducible apply onto_next | with_reducible apply onto_ite
                 | with_reducible apply modOutput_onward | with_reducible apply reach_onward | split)

theorem execOvercurrentTrip_onward {s t : State} (h : Onward s t) (a0 : ℕ) : Onto s (execOvercurrentTrip a0 t) := by
  unfold execOvercurrentTrip
  repeat' (first | lift_lets | with_reducible exact h | with_reducible apply onto_next | with_reducible apply onto_ite
                 | with_reducible apply modOutput_onward)

theorem freshTranslation_onward {s t : State} (h : Onward s t) (a0 : Option CutterReport) : Onward s (freshTranslation a0 t) := by
  unfold freshTranslation
  repeat' (first | (intro y; refine onward2_cut (s := s) (y := y) ?_ ?_; rotate_left; (intro hy; clear_value y); rotate_right; subst y)
                 | (intro y; clear_value y) | lift_lets | with_reducible exact h | with_reducible apply onward_ite
                 | with_reducible apply onward2_mk | with_reducible apply modModule_onward | with_reducible apply failSlot_onward
                 | with_reducible apply cut_state | exact le_rfl | exact Onward2.out (by assumption) | split)

theorem execBridgingLimit_onward {s t : State} (h : Onward s t) : Onto s (execBridgingLimit t) := by
  unfold execBridgingLimit
  repeat' (first | (intro y; refine onward_cut (s := s) (y := y) ?_ ?_; rotate_left; (intro hy; clear_value y); rotate_right; subst y)
                 | (intro (y : _ → _); subst y; try beta_reduce) | (intro y; clear_value y) | lift_lets | with_reducible exact h
                 | with_reducible assumption | with_reducible apply onto_next | with_reducible apply onto_ite
                 | with_reducible apply modPos_onward | with_reducible apply evaluateGates_onward | with_reducible apply functionsTick_onward
                 | with_reducible apply signalPosition_onward)

theorem execSwitchTestOverdue_onward {s t : State} (h : Onward s t) (a0 : ℕ) : Onto s (execSwitchTestOverdue a0 t) := by
  unfold execSwitchTestOverdue
  repeat' (first | (intro y; refine onward_cut (s := s) (y := y) ?_ ?_; rotate_left; (intro hy; clear_value y); rotate_right; subst y)
                 | lift_lets | with_reducible exact h | with_reducible assumption | with_reducible apply onto_next
                 | with_reducible apply onto_ite | with_reducible apply reach_onward | with_reducible apply recordFunction_onward
                 | with_reducible apply modOutput_onward)

theorem markTrial_onward {s t : State} (h : Onward s t) : Onward s (markTrial t) := by
  unfold markTrial
  repeat' (first | (intro y; refine onward_cut (s := s) (y := y) ?_ ?_; rotate_left; (intro hy; clear_value y); rotate_right; subst y)
                 | (intro y; clear_value y) | lift_lets | with_reducible exact h | with_reducible assumption
                 | with_reducible apply setSlotState_onward | with_reducible apply modModule_onward | with_reducible apply modUpdate_onward
                 | exact le_rfl)

theorem proveStandstill_onward {s t : State} (h : Onward s t) : Onward s (proveStandstill t) := by
  unfold proveStandstill
  repeat' (first | (intro y; refine onward_cut (s := s) (y := y) ?_ ?_; rotate_left; (intro hy; clear_value y); rotate_right; subst y)
                 | (intro y; clear_value y) | lift_lets | with_reducible exact h | with_reducible assumption | with_reducible apply onward_ite
                 | with_reducible apply modSafety_onward | with_reducible apply recordDirection_onward | exact le_rfl)

theorem execAxleClean_onward {s t : State} (h : Onward s t) (a0 : ℕ) : Onto s (execAxleClean a0 t) := by
  unfold execAxleClean
  repeat' (first | (intro (y : _ → _); subst y; try beta_reduce) | lift_lets | with_reducible exact h | with_reducible apply onto_next
                 | with_reducible apply modPos_onward)

theorem execSwitchTest_onward {s t : State} (h : Onward s t) (a0 : ℕ) (a1 : ℕ) (a2 : Bool) (a3 : Bool) : Onto s (execSwitchTest a0 a1 a2 a3 t) := by
  unfold execSwitchTest
  repeat' (first | (intro y; refine onward_cut (s := s) (y := y) ?_ ?_; rotate_left; (intro hy; clear_value y); rotate_right; subst y)
                 | lift_lets | with_reducible exact h | with_reducible assumption | with_reducible apply onto_next
                 | with_reducible apply onto_ite | with_reducible apply internalFault_onward | with_reducible apply endIoTests_onward
                 | with_reducible apply faultsGone_onward | with_reducible apply modOutput_onward | with_reducible apply roundStep_onward)

theorem execUpdateTrialTimeout_onward {s t : State} (h : Onward s t) : Onto s (execUpdateTrialTimeout t) := by
  unfold execUpdateTrialTimeout
  repeat' (first | (intro y; refine onward_cut (s := s) (y := y) ?_ ?_; rotate_left; (intro hy; clear_value y); rotate_right; subst y)
                 | lift_lets | with_reducible exact h | with_reducible assumption | with_reducible apply onto_next
                 | with_reducible apply onto_ite | with_reducible apply reach_onward | with_reducible apply modModule_onward
                 | with_reducible apply trialFail_onward | exact le_rfl)

theorem execPtpMessageSend_onward {s t : State} (h : Onward s t) (a0 : ℕ) (a1 : PtpKind) : Onto s (execPtpMessageSend a0 a1 t) := by
  unfold execPtpMessageSend
  repeat' (first | (intro (y : _ → _); subst y; try beta_reduce) | (intro y; clear_value y) | lift_lets | with_reducible exact h
                 | with_reducible apply onto_next | with_reducible apply onto_ite | with_reducible apply emit_onward
                 | with_reducible apply modPtpPort_onward)

theorem execWindowOpenTimeExpiry_onward {s t : State} (h : Onward s t) (a0 : ℕ) : Onto s (execWindowOpenTimeExpiry a0 t) := by
  unfold execWindowOpenTimeExpiry
  repeat' (first | (intro y; clear_value y) | lift_lets | with_reducible exact h | with_reducible apply onto_next | with_reducible apply onto_ite
                 | with_reducible apply evaluateGates_onward | with_reducible apply closeWindow_onward | with_reducible apply reach_onward
                 | split)

theorem goStowed_onward {s t : State} (h : Onward s t) : Onward s (goStowed t) := by
  have g : Onward s ((countTwoLane t).trust.sessions.foldl (fun t x => emit (.sessionClosed x.1) t) (countTwoLane t)) :=
    onward_foldl (fun u a hu => emit_onward hu _) (countTwoLane_onward h)
  exact ⟨g.1, g.2, g.3, g.4, fun _ => rfl, g.6, g.7, g.8⟩

theorem execHoldUpExpiry_onward {s t : State} (h : Onward s t) : Onto s (execHoldUpExpiry t) := by
  unfold execHoldUpExpiry
  repeat' (first | (intro y; refine onward_cut (s := s) (y := y) ?_ ?_; rotate_left; (intro hy; clear_value y); rotate_right; subst y)
                 | lift_lets | with_reducible exact h | with_reducible assumption | with_reducible apply onto_next
                 | with_reducible apply goStowed_onward | with_reducible apply supplyEndsActivation_onward | with_reducible apply reach_onward
                 | with_reducible apply modModule_onward | exact le_rfl | split)

theorem pairAtProvingEnd_onward {s t : State} (h : Onward s t) : Onward s (pairAtProvingEnd t) := by
  unfold pairAtProvingEnd
  repeat' (first | lift_lets | with_reducible exact h | with_reducible apply onward_ite | with_reducible apply setRole_onward
                 | with_reducible apply modPair_onward)

theorem execReelFault_onward {s t : State} (h : Onward s t) (a0 : Bool) : Onto s (execReelFault a0 t) := by
  unfold execReelFault
  repeat' (first | (intro y; refine onward_cut (s := s) (y := y) ?_ ?_; rotate_left; (intro hy; clear_value y); rotate_right; subst y) | intro _
                 | lift_lets | with_reducible exact h | with_reducible assumption | with_reducible apply onto_next
                 | with_reducible apply onto_ite | with_reducible apply onward_foldl | with_reducible apply modModule_onward
                 | with_reducible apply endSession_onward | with_reducible apply record_onward | with_reducible apply dropMasters_onward
                 | exact le_rfl)

theorem monitorTick_onward {s t : State} (h : Onward s t) (a0 : Option (ℕ × Lane)) : Onward s (monitorTick a0 t) := by
  unfold monitorTick
  repeat' (first | (intro y; refine onward_cut (s := s) (y := y) ?_ ?_; rotate_left; (intro hy; clear_value y); rotate_right; subst y)
                 | (intro y; clear_value y) | lift_lets | with_reducible exact h | with_reducible assumption | with_reducible apply onward_ite
                 | with_reducible apply modSafety_onward | with_reducible apply internalFault_onward | with_reducible apply faultsGone_onward
                 | exact le_rfl | split)

theorem execTestEnChange_onward {s t : State} (h : Onward s t) (a0 : Bool) : Onto s (execTestEnChange a0 t) := by
  unfold execTestEnChange
  repeat' (first | lift_lets | with_reducible exact h | with_reducible apply onto_next | with_reducible apply onto_ite
                 | with_reducible apply testGate_onward | with_reducible apply modModule_onward | exact le_rfl)

theorem ptpLink_onward {s t : State} (h : Onward s t) (a0 : ℕ) (a1 : Bool) : Onward s (ptpLink a0 a1 t) := by
  unfold ptpLink
  repeat' (first | lift_lets | with_reducible exact h | with_reducible apply onward_ite | with_reducible apply modPtpPort_onward
                 | with_reducible apply loseMaster_onward | split)

theorem startLane_onward {s t : State} (h : Onward s t) (a0 : Lane) (a1 : Bool) : Onward s (startLane a0 a1 t) := by
  unfold startLane
  repeat' (first | lift_lets | with_reducible exact h | with_reducible apply onward_ite | with_reducible apply modLane_onward
                 | with_reducible apply traceTrigger_onward | with_reducible apply recordLane_onward)

theorem execProvingEnd_onward {s t : State} (h : Onward s t) (a0 : ProvingFacts) : Onto s (execProvingEnd a0 t) := by
  unfold execProvingEnd
  repeat' (first | (intro y; refine onward_cut (s := s) (y := y) ?_ ?_; rotate_left; (intro hy; clear_value y); rotate_right; subst y)
                 | lift_lets | with_reducible exact h | with_reducible assumption | with_reducible apply onto_next
                 | with_reducible apply onto_ite | with_reducible apply startLane_onward | with_reducible apply settleLanes_onward
                 | with_reducible apply freshTranslation_onward | with_reducible apply halt_onward | with_reducible apply pairAtProvingEnd_onward
                 | with_reducible apply comparatorLockout_onward | with_reducible apply recordVoterFail_onward
                 | with_reducible apply lockOut_onward | with_reducible apply comparatorResult_onward | with_reducible apply provingPassed_onward
                 | split)

theorem execSupplyFailure_onward {s t : State} (h : Onward s t) (a0 : ℕ) : Onto s (execSupplyFailure a0 t) := by
  unfold execSupplyFailure
  repeat' (first | (intro y; refine onward_cut (s := s) (y := y) ?_ ?_; rotate_left; (intro hy; clear_value y); rotate_right; subst y)
                 | lift_lets | with_reducible exact h | with_reducible assumption | with_reducible apply onward_ite
                 | with_reducible apply onto_next | with_reducible apply onto_ite | with_reducible apply modModule_onward
                 | with_reducible apply modUpdate_onward | with_reducible apply beginCommit_onward | with_reducible apply endFreeze_onward
                 | with_reducible apply supplyEndsActivation_onward | with_reducible apply recordSupply_onward | exact le_rfl)

theorem lockStep_onward {s t : State} (h : Onward s t) : Onward s (lockStep t) := by
  unfold lockStep
  repeat' (first | lift_lets | with_reducible exact h | with_reducible apply onward_ite | with_reducible apply pulse_onward
                 | with_reducible apply writeLull_onward | with_reducible apply modClock_onward)

theorem execRecorderSupplyStop_onward {s t : State} (h : Onward s t) : Onto s (execRecorderSupplyStop t) := by
  unfold execRecorderSupplyStop
  repeat' (first | lift_lets | with_reducible exact h | with_reducible apply onto_next | with_reducible apply modRecorder_onward
                 | with_reducible apply reach_onward | split)

theorem selectPort_onward {s t : State} (h : Onward s t) (a0 : PtpSource) (a1 : ℕ) : Onward s (selectPort a0 a1 t) := by
  unfold selectPort
  repeat' (first | (intro y; refine onward_cut (s := s) (y := y) ?_ ?_; rotate_left; (intro hy; clear_value y); rotate_right; subst y) | intro _
                 | lift_lets | with_reducible exact h | with_reducible assumption | with_reducible apply onward_foldl
                 | with_reducible apply modPtpPort_onward)

theorem execParameterCrcCheck_onward {s t : State} (h : Onward s t) (a0 : Lane) (a1 : Word64) : Onto s (execParameterCrcCheck a0 a1 t) := by
  unfold execParameterCrcCheck
  repeat' (first | lift_lets | with_reducible exact h | with_reducible apply onto_next | with_reducible apply onto_ite
                 | with_reducible apply faultsGone_onward | with_reducible apply internalFault_onward)

theorem execSlateWatchdogExpiry_onward {s t : State} (h : Onward s t) : Onto s (execSlateWatchdogExpiry t) := by
  unfold execSlateWatchdogExpiry
  repeat' (first | lift_lets | with_reducible exact h | with_reducible apply onto_next | with_reducible apply onto_ite
                 | with_reducible apply modModule_onward | with_reducible apply goStowed_onward
                 | with_reducible apply supplyEndsActivation_onward | exact le_rfl)

theorem execPairDiscrepancyFault_onward {s t : State} (h : Onward s t) (a0 : ℕ) : Onto s (execPairDiscrepancyFault a0 t) := by
  unfold execPairDiscrepancyFault
  repeat' (first | (intro y; clear_value y) | lift_lets | with_reducible exact h | with_reducible apply onto_next
                 | with_reducible apply faultInput_onward | with_reducible apply reach_onward | split)

theorem execSafeInputChange_onward {s t : State} (h : Onward s t) (a0 : ℕ) (a1 : PathVolts) : Onto s (execSafeInputChange a0 a1 t) := by
  unfold execSafeInputChange
  repeat' (first | (intro y; refine onward_cut (s := s) (y := y) ?_ ?_; rotate_left; (intro hy; clear_value y); rotate_right; subst y)
                 | (intro y; clear_value y) | lift_lets | with_reducible exact h | with_reducible assumption | with_reducible apply onward_ite
                 | with_reducible apply onto_next | with_reducible apply onto_ite | with_reducible apply readPaths_onward
                 | with_reducible apply changeInput_onward)

theorem servo_onward {s t : State} (h : Onward s t) (a0 : PtpSource) (a1 : SyncMeasure) : Onward s (servo a0 a1 t) := by
  unfold servo
  repeat' (first | (intro y; refine onward_cut (s := s) (y := y) ?_ ?_; rotate_left; (intro hy; clear_value y); rotate_right; subst y)
                 | (intro y; clear_value y) | lift_lets | with_reducible exact h | with_reducible assumption | with_reducible apply onward_ite
                 | with_reducible apply modClock_onward | with_reducible apply stepClock_onward | with_reducible apply setAddend_onward
                 | with_reducible apply lockStep_onward)

theorem execPtpSync_onward {s t : State} (h : Onward s t) (a0 : PtpSource) (a1 : SyncMeasure) : Onto s (execPtpSync a0 a1 t) := by
  unfold execPtpSync
  repeat' (first | (intro y; refine onward_cut (s := s) (y := y) ?_ ?_; rotate_left; (intro hy; clear_value y); rotate_right; subst y) | intro _
                 | lift_lets | with_reducible exact h | with_reducible assumption | with_reducible apply onto_next
                 | with_reducible apply onto_ite | with_reducible apply onward_foldl | with_reducible apply modPtpPort_onward
                 | with_reducible apply modInstance_onward | with_reducible apply servo_onward)

theorem execTestLimitExpiry_onward {s t : State} (h : Onward s t) : Onto s (execTestLimitExpiry t) := by
  unfold execTestLimitExpiry
  repeat' (first | lift_lets | with_reducible exact h | with_reducible apply onto_next | with_reducible apply onto_ite
                 | with_reducible apply testOff_onward | with_reducible apply reach_onward)

theorem execFieldSupplyLow_onward {s t : State} (h : Onward s t) (a0 : ℕ) : Onto s (execFieldSupplyLow a0 t) := by
  unfold execFieldSupplyLow
  repeat' (first | lift_lets | with_reducible exact h | with_reducible apply onward_ite | with_reducible apply onto_next
                 | with_reducible apply onto_ite | with_reducible apply seeField_onward | with_reducible apply recordFunction_onward)

theorem execResetKeyArmingTimeout_onward {s t : State} (h : Onward s t) : Onto s (execResetKeyArmingTimeout t) := by
  unfold execResetKeyArmingTimeout
  repeat' (first | lift_lets | with_reducible exact h | with_reducible apply onto_next | with_reducible apply endArming_onward
                 | with_reducible apply reach_onward | split)

theorem execReset_onward {s t : State} (h : Onward s t) : Onto s (execReset t) := by
  unfold execReset
  repeat' (first | (intro y; refine onward_cut (s := s) (y := y) ?_ ?_; rotate_left; (intro hy; clear_value y); rotate_right; subst y)
                 | (intro (y : _ → _); subst y; try beta_reduce) | (intro y; clear_value y) | lift_lets | with_reducible exact h
                 | with_reducible assumption | with_reducible apply onward_ite | with_reducible apply onto_next | with_reducible apply onto_ite
                 | with_reducible apply modModule_onward | with_reducible apply reach_onward | with_reducible apply markTrial_onward
                 | with_reducible apply goStowed_onward | with_reducible apply supplyEndsActivation_onward | exact le_rfl | split)

theorem execPtpAnnounce_onward {s t : State} (h : Onward s t) (a0 : PtpSource) (a1 : ℕ) (a2 : AnnounceMsg) : Onto s (execPtpAnnounce a0 a1 a2 t) := by
  unfold execPtpAnnounce
  repeat' (first | (intro y; refine onward_cut (s := s) (y := y) ?_ ?_; rotate_left; (intro hy; clear_value y); rotate_right; subst y)
                 | (intro y; clear_value y) | lift_lets | with_reducible exact h | with_reducible assumption | with_reducible apply onto_next
                 | with_reducible apply onto_ite | with_reducible apply modPtpPort_onward | with_reducible apply modInstance_onward
                 | with_reducible apply selectPort_onward | with_reducible apply afterMaster_onward)

theorem execBootingEnd_onward {s t : State} (h : Onward s t) : Onto s (execBootingEnd t) := by
  unfold execBootingEnd
  repeat' (first | (intro y; refine onward_cut (s := s) (y := y) ?_ ?_; rotate_left; (intro hy; clear_value y); rotate_right; subst y)
                 | lift_lets | with_reducible exact h | with_reducible assumption | with_reducible apply onward_ite
                 | with_reducible apply onto_next | with_reducible apply onto_ite | with_reducible apply startInauguration_onward
                 | with_reducible apply modNet_onward | with_reducible apply watchPairs_onward | with_reducible apply modSafety_onward
                 | with_reducible apply enterState_onward | with_reducible apply traceTrigger_onward | with_reducible apply trialPass_onward
                 | exact le_rfl)

theorem execSupplyReturn_onward {s t : State} (h : Onward s t) (a0 : ℕ) : Onto s (execSupplyReturn a0 t) := by
  unfold execSupplyReturn
  repeat' (first | (intro y; refine onward_cut (s := s) (y := y) ?_ ?_; rotate_left; (intro hy; clear_value y); rotate_right; subst y)
                 | lift_lets | with_reducible exact h | with_reducible assumption | with_reducible apply onward_ite
                 | with_reducible apply onto_next | with_reducible apply modModule_onward | with_reducible apply modRecorder_onward
                 | with_reducible apply modUpdate_onward | with_reducible apply recordSupply_onward | exact le_rfl | split)

theorem outputsTick_onward {s t : State} (h : Onward s t) (a0 : ℕ) : Onward s (outputsTick a0 t) := by
  unfold outputsTick
  repeat' (first | (intro (y : _ → _); subst y; try beta_reduce) | lift_lets | with_reducible exact h | with_reducible apply modSafety_onward
                 | exact le_rfl)

theorem execPositionTick_onward {s t : State} (h : Onward s t) (a0 : TickSense) : Onto s (execPositionTick a0 t) := by
  unfold execPositionTick
  repeat' (first | (intro y; refine onward_cut (s := s) (y := y) ?_ ?_; rotate_left; (intro hy; clear_value y); rotate_right; subst y)
                 | (intro y; clear_value y) | lift_lets | with_reducible exact h | with_reducible assumption | with_reducible apply onward_ite
                 | with_reducible apply onto_next | with_reducible apply modPos_onward | with_reducible apply reachLocal_onward
                 | with_reducible apply signalPosition_onward | with_reducible apply record_onward | with_reducible apply cueTick_onward
                 | with_reducible apply waitingTick_onward | with_reducible apply functionsTick_onward | with_reducible apply outputsTick_onward
                 | with_reducible apply evaluateGates_onward | with_reducible apply monitorTick_onward | split)

theorem execInputPathFault_onward {s t : State} (h : Onward s t) (a0 : ℕ) : Onto s (execInputPathFault a0 t) := by
  unfold execInputPathFault
  repeat' (first | lift_lets | with_reducible exact h | with_reducible apply onto_next | with_reducible apply onto_ite
                 | with_reducible apply internalFault_onward)

theorem execStandstillProven_onward {s t : State} (h : Onward s t) : Onto s (execStandstillProven t) := by
  unfold execStandstillProven
  repeat' (first | lift_lets | with_reducible exact h | with_reducible apply onto_next | with_reducible apply onto_ite
                 | with_reducible apply evaluateGates_onward | with_reducible apply proveStandstill_onward | with_reducible apply reach_onward
                 | split)

theorem execHoldUpStoreCharged_onward {s t : State} (h : Onward s t) (a0 : ℕ) : Onto s (execHoldUpStoreCharged a0 t) := by
  unfold execHoldUpStoreCharged
  repeat' (first | (intro y; refine onward_cut (s := s) (y := y) ?_ ?_; rotate_left; (intro hy; clear_value y); rotate_right; subst y) | intro _
                 | lift_lets | with_reducible exact h | with_reducible assumption | with_reducible apply onward_ite
                 | with_reducible apply onto_next | with_reducible apply onto_ite | with_reducible apply modModule_onward
                 | with_reducible apply recordSupply_onward | exact le_rfl)

theorem execInputPathTest_onward {s t : State} (h : Onward s t) (a0 : ℕ) (a1 : ℕ) (a2 : Bool) : Onto s (execInputPathTest a0 a1 a2 t) := by
  unfold execInputPathTest
  repeat' (first | lift_lets | with_reducible exact h | with_reducible apply onto_next | with_reducible apply onto_ite
                 | with_reducible apply faultsGone_onward | with_reducible apply internalFault_onward)

end Sys2Proof.Machine
end

