-- ==== Sys2Proof/Laws/OnwardPair.lean ====
section
/-! SUPPORT. What every operation of the model keeps (Sys2Proof/Laws/Onward.lean):
freezes, pairs and the lane window. -/

namespace Sys2Proof.Machine

theorem execShadowEntryExpiry_onward {s t : State} (h : Onward s t) (a0 : Lane) (a1 : Fin 16) (a2 : Word32) :
    Onto s (execShadowEntryExpiry a0 a1 a2 t) := by
  unfold execShadowEntryExpiry
  repeat' (first | (intro (y : _ → _); subst y; try beta_reduce) | lift_lets | with_reducible exact h | with_reducible apply onto_next
                 | with_reducible apply modWindow_onward)

theorem cmdPairStatus_onward : OnwardC cmdPairStatus := by
  refine ⟨fun e s t h => ?_⟩
  unfold cmdPairStatus
  repeat' (first | (intro y; clear_value y) | intro _ | lift_lets | with_reducible exact h | with_reducible assumption
                 | with_reducible apply onward1_mk | with_reducible apply sized_state | with_reducible apply answers_state)

theorem armHandover_onward {s t : State} (h : Onward s t) : Onward s (armHandover t) := by
  unfold armHandover
  repeat' (first | (intro y; clear_value y) | lift_lets | with_reducible exact h | with_reducible apply slipstream_onward
                 | with_reducible apply modPair_onward)

theorem cmdPairSwitchover_onward : OnwardC cmdPairSwitchover := by
  refine ⟨fun e s t h => ?_⟩
  unfold cmdPairSwitchover
  repeat' (first | (intro y; refine onward_cut (s := s) (y := y) ?_ ?_; rotate_left; (intro hy; clear_value y); rotate_right; subst y) | intro _
                 | lift_lets | with_reducible exact h | with_reducible assumption | with_reducible apply onward1_mk
                 | with_reducible apply armHandover_onward | with_reducible apply sized_state | with_reducible apply fails_state | split)

theorem cmdPairCounters_onward : OnwardC cmdPairCounters := by
  refine ⟨fun e s t h => ?_⟩
  unfold cmdPairCounters
  repeat' (first | (intro y; clear_value y) | intro _ | lift_lets | with_reducible exact h | with_reducible assumption
                 | with_reducible apply onward1_mk | with_reducible apply sized_state | with_reducible apply answers_state)

theorem clearTakes_onward {s t : State} (h : Onward s t) : Onward s (clearTakes t) := by
  unfold clearTakes
  repeat' (first | (intro y; refine onward_cut (s := s) (y := y) ?_ ?_; rotate_left; (intro hy; clear_value y); rotate_right; subst y) | exact id
                 | lift_lets | with_reducible exact h | with_reducible assumption | with_reducible apply modVoter_onward
                 | with_reducible apply abandonAll_onward | with_reducible apply modMbx_onward | with_reducible apply modPair_onward)

theorem cmdPairConfigure_onward : OnwardC cmdPairConfigure := by
  refine ⟨fun e s t h => ?_⟩
  unfold cmdPairConfigure
  repeat' (first | (intro y; refine onward_cut (s := s) (y := y) ?_ ?_; rotate_left; (intro hy; clear_value y); rotate_right; subst y)
                 | (intro y; clear_value y) | intro _ | lift_lets | with_reducible exact h | with_reducible assumption
                 | with_reducible apply onward_ite | with_reducible apply onward1_mk | with_reducible apply modPair_onward
                 | with_reducible apply setRole_onward | with_reducible apply endResync_onward | with_reducible apply clearTakes_onward
                 | with_reducible apply sendStatus_onward | with_reducible apply sized_state | with_reducible apply fails_state
                 | with_reducible apply answers_state | split)

theorem armResync_onward {s t : State} (h : Onward s t) : Onward s (armResync t) := by
  unfold armResync
  repeat' (first | (intro y; refine onward_cut (s := s) (y := y) ?_ ?_; rotate_left; (intro hy; clear_value y); rotate_right; subst y)
                 | lift_lets | with_reducible exact h | with_reducible assumption | with_reducible apply slipstream_onward
                 | with_reducible apply answerResync_onward | with_reducible apply modPair_onward | split)

theorem cmdPairResync_onward : OnwardC cmdPairResync := by
  refine ⟨fun e s t h => ?_⟩
  unfold cmdPairResync
  repeat' (first | (intro y; refine onward_cut (s := s) (y := y) ?_ ?_; rotate_left; (intro hy; clear_value y); rotate_right; subst y) | intro _
                 | lift_lets | with_reducible exact h | with_reducible assumption | with_reducible apply onward_ite
                 | with_reducible apply onward1_mk | with_reducible apply modPair_onward | with_reducible apply setReason_onward
                 | with_reducible apply armResync_onward | with_reducible apply sized_state | with_reducible apply fails_state | split)

theorem cmdPairBudget_onward : OnwardC cmdPairBudget := by
  refine ⟨fun e s t h => ?_⟩
  unfold cmdPairBudget
  repeat' (first | (intro y; clear_value y) | intro _ | lift_lets | with_reducible exact h | with_reducible assumption
                 | with_reducible apply onward1_mk | with_reducible apply sized_state | with_reducible apply fails_state
                 | with_reducible apply answers_state | split)

theorem cmdPairHealth_onward : OnwardC cmdPairHealth := by
  refine ⟨fun e s t h => ?_⟩
  unfold cmdPairHealth
  repeat' (first | intro _ | lift_lets | with_reducible exact h | with_reducible assumption | with_reducible apply onward1_mk
                 | with_reducible apply sized_state | with_reducible apply answers_state | with_reducible apply fails_state | split)

theorem takeIdentity_onward {s t : State} (h : Onward s t) : Onward s (takeIdentity t) := by
  unfold takeIdentity
  repeat' (first | (intro y; refine onward_cut (s := s) (y := y) ?_ ?_; rotate_left; (intro hy; clear_value y); rotate_right; subst y)
                 | (intro (y : _ → _); subst y; try beta_reduce) | intro _ | lift_lets | with_reducible exact h | with_reducible assumption
                 | with_reducible apply onward_ite | with_reducible apply onward_foldl | with_reducible apply modNet_onward
                 | with_reducible apply emit_onward)

theorem becomeActive_onward {s t : State} (h : Onward s t) (a0 : ℕ) : Onward s (becomeActive a0 t) := by
  unfold becomeActive
  repeat' (first | (intro y; refine onward_cut (s := s) (y := y) ?_ ?_; rotate_left; (intro hy; clear_value y); rotate_right; subst y)
                 | lift_lets | with_reducible exact h | with_reducible assumption | with_reducible apply modPair_onward
                 | with_reducible apply endResync_onward | with_reducible apply takeIdentity_onward | with_reducible apply recordPair_onward
                 | with_reducible apply epochIncrement_onward | with_reducible apply setRole_onward)

theorem activate_onward {s t : State} (h : Onward s t) (a0 : ℕ) : Onward s (activate a0 t) := by
  unfold activate
  repeat' (first | (intro y; refine onward_cut (s := s) (y := y) ?_ ?_; rotate_left; (intro hy; clear_value y); rotate_right; subst y)
                 | lift_lets | with_reducible exact h | with_reducible assumption | with_reducible apply becomeActive_onward
                 | with_reducible apply clearTakes_onward | with_reducible apply testOff_onward | with_reducible apply modPair_onward)

theorem takeOver_onward {s t : State} (h : Onward s t) (a0 : ℕ) : Onward s (takeOver a0 t) := by
  unfold takeOver
  repeat' (first | lift_lets | with_reducible exact h | with_reducible apply onward_ite | with_reducible apply modPair_onward
                 | with_reducible apply activate_onward | with_reducible apply slipstream_onward)

theorem activeLockedOut_onward {s t : State} (h : Onward s t) : Onward s (activeLockedOut t) := by
  unfold activeLockedOut
  repeat' (first | lift_lets | with_reducible exact h | with_reducible apply onward_ite | with_reducible apply takeOver_onward
                 | with_reducible apply recordPair_onward | with_reducible apply allOutputsOff_onward)

theorem diverge_onward {s t : State} (h : Onward s t) : Onward s (diverge t) := by
  unfold diverge
  repeat' (first | (intro y; refine onward_cut (s := s) (y := y) ?_ ?_; rotate_left; (intro hy; clear_value y); rotate_right; subst y)
                 | (intro y; clear_value y) | lift_lets | with_reducible exact h | with_reducible assumption
                 | with_reducible apply modPair_onward | with_reducible apply setReason_onward)

theorem failMirror_onward {s t : State} (h : Onward s t) : Onward s (failMirror t) := by
  unfold failMirror
  repeat' (first | (intro y; refine onward_cut (s := s) (y := y) ?_ ?_; rotate_left; (intro hy; clear_value y); rotate_right; subst y)
                 | lift_lets | with_reducible exact h | with_reducible assumption | with_reducible apply onward_ite
                 | with_reducible apply modPair_onward | with_reducible apply resyncFails_onward | with_reducible apply setReason_onward)

theorem acceptCheckpoint_onward {s t : State} (h : Onward s t) (a0 : ℕ) (a1 : List (ℕ × Bytes)) : Onward s (acceptCheckpoint a0 a1 t) := by
  unfold acceptCheckpoint
  repeat' (first | (intro y; refine onward_cut (s := s) (y := y) ?_ ?_; rotate_left; (intro hy; clear_value y); rotate_right; subst y)
                 | (intro (y : _ → _); subst y; try beta_reduce) | intro _ | lift_lets | with_reducible exact h | with_reducible assumption
                 | with_reducible apply onward_ite | with_reducible apply onward_foldl | with_reducible apply modPair_onward
                 | with_reducible apply modProg_onward)

theorem trackOutputs_onward {s t : State} (h : Onward s t) (a0 : ℕ) (a1 : ℕ) : Onward s (trackOutputs a0 a1 t) := by
  unfold trackOutputs
  repeat' (first | (intro y; refine onward_cut (s := s) (y := y) ?_ ?_; rotate_left; (intro hy; clear_value y); rotate_right; subst y)
                 | (intro y; clear_value y) | intro _ | lift_lets | with_reducible exact h | with_reducible assumption
                 | with_reducible apply onward_ite | with_reducible apply onward_foldl | with_reducible apply modOutput_onward
                 | with_reducible apply evaluateGates_onward)

theorem resyncDone_onward {s t : State} (h : Onward s t) : Onward s (resyncDone t) := by
  unfold resyncDone
  repeat' (first | (intro y; refine onward_cut (s := s) (y := y) ?_ ?_; rotate_left; (intro hy; clear_value y); rotate_right; subst y)
                 | (intro y; clear_value y) | lift_lets | with_reducible exact h | with_reducible assumption | with_reducible apply onward_ite
                 | with_reducible apply modPair_onward | with_reducible apply endResync_onward | with_reducible apply setReason_onward | split)

theorem resyncPass_onward {s t : State} (h : Onward s t) (a0 : ℕ) : Onward s (resyncPass a0 t) := by
  unfold resyncPass
  repeat' (first | lift_lets | with_reducible exact h | with_reducible apply onward_ite | with_reducible apply resyncDone_onward
                 | with_reducible apply modPair_onward)

theorem trackTake_onward {s t : State} (h : Onward s t) (a0 : OwnDecision) (a1 : PairTakeEnd) : Onward s (trackTake a0 a1 t) := by
  unfold trackTake
  repeat' (first | (intro y; refine onward_cut (s := s) (y := y) ?_ ?_; rotate_left; (intro hy; clear_value y); rotate_right; subst y)
                 | lift_lets | with_reducible exact h | with_reducible assumption | with_reducible apply onward_ite
                 | with_reducible apply acceptCheckpoint_onward | with_reducible apply modPair_onward | with_reducible apply trackOutputs_onward
                 | with_reducible apply resyncPass_onward)

theorem compareTake_onward {s t : State} (h : Onward s t) (a0 : OwnDecision) (a1 : PairTakeEnd) : Onward s (compareTake a0 a1 t) := by
  unfold compareTake
  repeat' (first | lift_lets | with_reducible exact h | with_reducible apply onward_ite | with_reducible apply activeLockedOut_onward
                 | with_reducible apply resyncFails_onward | with_reducible apply takeOver_onward | with_reducible apply diverge_onward
                 | with_reducible apply failMirror_onward | with_reducible apply modPair_onward | with_reducible apply trackTake_onward)

theorem ownDecided_onward {s t : State} (h : Onward s t) (a0 : OwnDecision) : Onward s (ownDecided a0 t) := by
  unfold ownDecided
  repeat' (first | lift_lets | with_reducible exact h | with_reducible apply onward_ite | with_reducible apply compareTake_onward
                 | with_reducible apply modPair_onward | split)

theorem exportTask_onward {s t : State} (h : Onward s t) (a0 : Image) (a1 : TaskRec) : Onward s (exportTask a0 a1 t) := by
  unfold exportTask
  repeat' (first | (intro y; clear_value y) | lift_lets | with_reducible exact h | with_reducible apply onward_ite
                 | with_reducible apply modPair_onward | with_reducible apply slipstream_onward | split)

theorem resyncAtVote_onward {s t : State} (h : Onward s t) (a0 : ℕ) (a1 : ℕ) : Onward s (resyncAtVote a0 a1 t) := by
  unfold resyncAtVote
  repeat' (first | lift_lets | with_reducible exact h | with_reducible apply onward_ite | with_reducible apply exportTask_onward | split)

theorem releaseAwaiting_onward {s t : State} (h : Onward s t) (a0 : HeldCompletion → Bool) : Onward s (releaseAwaiting a0 t) := by
  unfold releaseAwaiting
  repeat' (first | (intro y; clear_value y) | intro _ | lift_lets | with_reducible exact h | with_reducible assumption
                 | with_reducible apply onward_foldl | with_reducible apply settleClosing_onward | with_reducible apply releaseCompletion_onward
                 | with_reducible apply modPair_onward)

theorem refuseCommands_onward {s t : State} (h : Onward s t) : Onward s (refuseCommands t) := by
  unfold refuseCommands
  repeat' (first | (intro y; refine onward_cut (s := s) (y := y) ?_ ?_; rotate_left; (intro hy; clear_value y); rotate_right; subst y)
                 | (intro (y : _ → _); subst y; try beta_reduce) | (intro y; clear_value y) | intro _ | lift_lets | with_reducible exact h
                 | with_reducible assumption | with_reducible apply onward_foldl | with_reducible apply completeEntry_onward
                 | with_reducible apply modMvb_onward)

theorem endDues_onward {s t : State} (h : Onward s t) : Onward s (endDues t) := by
  unfold endDues
  repeat' (first | lift_lets | with_reducible exact h | with_reducible apply modProg_onward)

theorem handOff_onward {s t : State} (h : Onward s t) : Onward s (handOff t) := by
  unfold handOff
  repeat' (first | (intro y; refine onward_cut (s := s) (y := y) ?_ ?_; rotate_left; (intro hy; clear_value y); rotate_right; subst y)
                 | (intro y; clear_value y) | lift_lets | with_reducible exact h | with_reducible assumption | with_reducible apply onward_ite
                 | with_reducible apply releaseAwaiting_onward | with_reducible apply refuseCommands_onward | with_reducible apply endDues_onward
                 | with_reducible apply silence_onward | with_reducible apply clearTakes_onward | with_reducible apply sendStatus_onward
                 | with_reducible apply setRole_onward | with_reducible apply modPair_onward | with_reducible apply beginActivation_onward)

theorem handoverStep_onward {s t : State} (h : Onward s t) : Onward s (handoverStep t) := by
  unfold handoverStep
  repeat' (first | lift_lets | with_reducible exact h | with_reducible apply onward_ite | with_reducible apply handOff_onward | split)

theorem stepDown_onward {s t : State} (h : Onward s t) : Onward s (stepDown t) := by
  unfold stepDown
  repeat' (first | (intro y; refine onward_cut (s := s) (y := y) ?_ ?_; rotate_left; (intro hy; clear_value y); rotate_right; subst y)
                 | lift_lets | with_reducible exact h | with_reducible assumption | with_reducible apply releaseAwaiting_onward
                 | with_reducible apply endResync_onward | with_reducible apply endDues_onward | with_reducible apply silence_onward
                 | with_reducible apply clearTakes_onward | with_reducible apply allOutputsOff_onward | with_reducible apply sendStatus_onward
                 | with_reducible apply setRole_onward | with_reducible apply modPair_onward)

theorem asStandby_onward {s t : State} (h : Onward s t) (a0 : State → State) (g0 : ∀ u, Onward s u → Onward s (a0 u)) :
    Onward s (asStandby a0 t) := by
  unfold asStandby
  repeat' (first | lift_lets | with_reducible exact h | with_reducible apply onward_ite | with_reducible apply g0)

theorem mirrorStart_onward {s t : State} (h : Onward s t) (a0 : ℕ) (a1 : ℕ) (a2 : Bytes) : Onward s (mirrorStart a0 a1 a2 t) := by
  unfold mirrorStart
  repeat' (first | (intro y; refine onward_cut (s := s) (y := y) ?_ ?_; rotate_left; (intro hy; clear_value y); rotate_right; subst y)
                 | lift_lets | with_reducible exact h | with_reducible assumption | with_reducible apply onward_ite
                 | with_reducible apply modPair_onward | with_reducible apply setReason_onward | with_reducible apply failMirror_onward
                 | with_reducible apply endDues_onward | with_reducible apply startProgram_onward | with_reducible apply clearTakes_onward
                 | split)

theorem mirrorRecut_onward {s t : State} (h : Onward s t) (a0 : ℕ) : Onward s (mirrorRecut a0 t) := by
  unfold mirrorRecut
  refine onward_ite (onward_ite (modProg_onward h _) h) ?_
  extract_lets slot
  split
  · refine onward_ite (failMirror_onward h) ?_
    exact (releaseEvents_onward (writeDirectory_onward (modProg_onward h _) _)).out
  · exact failMirror_onward h

theorem mirrorForces_onward {s t : State} (h : Onward s t) (a0 : List Bytes) : Onward s (mirrorForces a0 t) := by
  unfold mirrorForces
  repeat' (first | (intro y; refine onward_cut (s := s) (y := y) ?_ ?_; rotate_left; (intro hy; clear_value y); rotate_right; subst y)
                 | (intro (y : _ → _); subst y; try beta_reduce) | (intro y; clear_value y) | intro _ | lift_lets | with_reducible exact h
                 | with_reducible assumption | with_reducible apply onward_ite | with_reducible apply onward_foldl
                 | with_reducible apply failMirror_onward | with_reducible apply dropForces_onward | with_reducible apply modProg_onward
                 | with_reducible apply recordForce_onward)

theorem resyncArmed_onward {s t : State} (h : Onward s t) (a0 : ℕ) : Onward s (resyncArmed a0 t) := by
  unfold resyncArmed
  repeat' (first | (intro y; refine onward_cut (s := s) (y := y) ?_ ?_; rotate_left; (intro hy; clear_value y); rotate_right; subst y)
                 | lift_lets | with_reducible exact h | with_reducible assumption | with_reducible apply onward_ite
                 | with_reducible apply modPair_onward | with_reducible apply setReason_onward | with_reducible apply answerResync_onward)

theorem exportIdle_onward {s t : State} (h : Onward s t) : Onward s (exportIdle t) := by
  unfold exportIdle
  repeat' (first | intro _ | lift_lets | with_reducible exact h | with_reducible assumption | with_reducible apply onward_ite
                 | with_reducible apply onward_foldl | with_reducible apply exportTask_onward | split)

theorem applyControl_onward {s t : State} (h : Onward s t) (a0 : PairControl) : Onward s (applyControl a0 t) := by
  unfold applyControl
  repeat' (first | (intro y; refine onward_cut (s := s) (y := y) ?_ ?_; rotate_left; (intro hy; clear_value y); rotate_right; subst y) | intro _
                 | lift_lets | with_reducible exact h | with_reducible assumption | with_reducible apply onward_ite
                 | with_reducible apply activeLockedOut_onward | with_reducible apply modPair_onward | with_reducible apply stepDown_onward
                 | with_reducible apply asStandby_onward | with_reducible apply mirrorStart_onward | with_reducible apply beginStop_onward
                 | with_reducible apply endResync_onward | with_reducible apply mirrorRecut_onward | with_reducible apply mirrorForces_onward
                 | with_reducible apply resyncArmed_onward | with_reducible apply bothGates_onward | with_reducible apply exportIdle_onward
                 | split)

theorem enterForwarded_onward {s t : State} (h : Onward s t) (a0 : ℕ) (a1 : List (ℕ × Bytes)) : Onward s (enterForwarded a0 a1 t) := by
  unfold enterForwarded
  repeat' (first | (intro y; clear_value y) | exact id | lift_lets | with_reducible exact h | with_reducible apply modMbx_onward
                 | with_reducible apply enterCompletions_state)

theorem openTake_onward {s t : State} (h : Onward s t) (a0 : Frozen) : Onward s (openTake a0 t) := by
  unfold openTake
  repeat' (first | (intro y; refine onward_cut (s := s) (y := y) ?_ ?_; rotate_left; (intro hy; clear_value y); rotate_right; subst y) | intro _
                 | lift_lets | with_reducible exact h | with_reducible assumption | with_reducible apply onward_foldl
                 | with_reducible apply modLane_onward | with_reducible apply modVoter_onward)

theorem openForwarded_onward {s t : State} (h : Onward s t) (a0 : PairSnapshot) : Onward s (openForwarded a0 t) := by
  unfold openForwarded
  repeat' (first | (intro y; refine onward_cut (s := s) (y := y) ?_ ?_; rotate_left; (intro hy; clear_value y); rotate_right; subst y)
                 | (intro y; clear_value y) | lift_lets | with_reducible exact h | with_reducible assumption | with_reducible apply onward_ite
                 | with_reducible apply reshootAtActivation_onward | with_reducible apply rejoinAt_onward
                 | with_reducible apply enterForwarded_onward | with_reducible apply modTask_onward | with_reducible apply openTake_onward
                 | with_reducible apply modPair_onward | with_reducible apply deliverActivations_state | split)

theorem releaseWaiting_onward {s t : State} (h : Onward s t) (a0 : ℕ) : Onward s (releaseWaiting a0 t) := by
  unfold releaseWaiting
  repeat' (first | (intro y; clear_value y) | intro _ | lift_lets | with_reducible exact h | with_reducible assumption
                 | with_reducible apply onward_foldl | with_reducible apply openForwarded_onward | with_reducible apply modPair_onward)

theorem doorbell_onward {s t : State} (h : Onward s t) (a0 : Lane) (a1 : ℕ) (a2 : Word32) : Onward s (doorbell a0 a1 a2 t) := by
  unfold doorbell
  repeat' (first | (intro y; clear_value y) | lift_lets | with_reducible exact h | with_reducible apply onward_ite
                 | with_reducible apply modChannel_onward | with_reducible apply countHeaderError_onward)

theorem clearErrors_onward {s t : State} (h : Onward s t) (a0 : Lane) (a1 : ℕ) (a2 : Word32) : Onward s (clearErrors a0 a1 a2 t) := by
  unfold clearErrors
  repeat' (first | (intro (y : _ → _); subst y; try beta_reduce) | lift_lets | with_reducible exact h | with_reducible apply modChannel_onward)

theorem writeRequest_onward {s t : State} (h : Onward s t) (a0 : Lane) (a1 : ℕ) (a2 : ℕ) (a3 : Word32) : Onward s (writeRequest a0 a1 a2 a3 t) := by
  unfold writeRequest
  repeat' (first | lift_lets | with_reducible exact h | with_reducible apply modChannel_onward)

theorem writeMailbox_onward {s t : State} (h : Onward s t) (a0 : Lane) (a1 : ℕ) (a2 : Word32) : Onward s (writeMailbox a0 a1 a2 t) := by
  unfold writeMailbox
  repeat' (first | (intro y; clear_value y) | lift_lets | with_reducible exact h | with_reducible apply onward_ite
                 | with_reducible apply doorbell_onward | with_reducible apply clearErrors_onward | with_reducible apply modWindow_onward
                 | with_reducible apply writeRequest_onward)

theorem writeDefer_onward {s t : State} (h : Onward s t) (a0 : Lane) (a1 : Word32) : Onward s (writeDefer a0 a1 t) := by
  unfold writeDefer
  repeat' (first | (intro y; clear_value y) | lift_lets | with_reducible exact h | with_reducible apply modLane_onward)

theorem writeActivation_onward {s t : State} (h : Onward s t) (a0 : Lane) (a1 : ℕ) (a2 : Word32) : Onward s (writeActivation a0 a1 a2 t) := by
  unfold writeActivation
  repeat' (first | lift_lets | with_reducible exact h | with_reducible apply onward_ite | with_reducible apply writeDefer_onward
                 | with_reducible apply modLane_onward)

theorem execRegisterWrite_onward {s t : State} (h : Onward s t) (a0 : Lane) (a1 : ℕ) (a2 : Word32) : Onto s (execRegisterWrite a0 a1 a2 t) := by
  unfold execRegisterWrite
  repeat' (first | lift_lets | with_reducible exact h | with_reducible apply onto_next | with_reducible apply onto_ite
                 | with_reducible apply writeMailbox_onward | with_reducible apply writeActivation_onward | split)

theorem endDecided_onward {s t : State} (h : Onward s t) (a0 : PairTakeEnd) : Onward s (endDecided a0 t) := by
  unfold endDecided
  repeat' (first | lift_lets | with_reducible exact h | with_reducible apply onward_ite | with_reducible apply compareTake_onward
                 | with_reducible apply modPair_onward | with_reducible apply activeLockedOut_onward | with_reducible apply failMirror_onward
                 | split)

theorem abandonEarlier_onward {s t : State} (h : Onward s t) (a0 : Lane) (a1 : LaneTake) : Onward s (abandonEarlier a0 a1 t) := by
  unfold abandonEarlier
  repeat' (first | intro _ | lift_lets | with_reducible exact h | with_reducible assumption | with_reducible apply onward_foldl
                 | with_reducible apply abandonTake_onward)

theorem keySlip_onward {s t : State} (h : Onward s t) : Onward s (keySlip t) := by
  unfold keySlip
  repeat' (first | lift_lets | with_reducible exact h | with_reducible apply afterDraw_onward | with_reducible apply modPair_onward)

theorem takeRole_onward {s t : State} (h : Onward s t) (a0 : PairRole) : Onward s (takeRole a0 t) := by
  unfold takeRole
  repeat' (first | lift_lets | with_reducible exact h | with_reducible apply onward_ite | with_reducible apply stepDown_onward
                 | with_reducible apply activate_onward)

theorem sendWarmState_onward {s t : State} (h : Onward s t) : Onward s (sendWarmState t) := by
  unfold sendWarmState
  repeat' (first | (intro y; clear_value y) | intro _ | lift_lets | with_reducible exact h | with_reducible assumption
                 | with_reducible apply onward_ite | with_reducible apply onward_foldl | with_reducible apply slipstream_onward | split)

theorem formPair_onward {s t : State} (h : Onward s t) (a0 : PairHello) : Onward s (formPair a0 t) := by
  unfold formPair
  repeat' (first | (intro y; refine onward_cut (s := s) (y := y) ?_ ?_; rotate_left; (intro hy; clear_value y); rotate_right; subst y)
                 | (intro y; clear_value y) | lift_lets | with_reducible exact h | with_reducible assumption
                 | with_reducible apply keySlip_onward | with_reducible apply takeRole_onward | with_reducible apply modPair_onward
                 | with_reducible apply sendWarmState_onward | with_reducible apply sendStatus_onward | with_reducible apply testGate_onward
                 | with_reducible apply setRole_onward)

theorem partnerLost_onward {s t : State} (h : Onward s t) : Onward s (partnerLost t) := by
  unfold partnerLost
  repeat' (first | (intro y; refine onward_cut (s := s) (y := y) ?_ ?_; rotate_left; (intro hy; clear_value y); rotate_right; subst y)
                 | lift_lets | with_reducible exact h | with_reducible assumption | with_reducible apply onward_ite
                 | with_reducible apply modPair_onward | with_reducible apply answerResync_onward | with_reducible apply endResync_onward
                 | with_reducible apply releaseAwaiting_onward | with_reducible apply setRole_onward)

theorem execSlipstreamHello_onward {s t : State} (h : Onward s t) (a0 : PairHello) : Onto s (execSlipstreamHello a0 t) := by
  unfold execSlipstreamHello
  repeat' (first | (intro y; refine onward_cut (s := s) (y := y) ?_ ?_; rotate_left; (intro hy; clear_value y); rotate_right; subst y)
                 | lift_lets | with_reducible exact h | with_reducible assumption | with_reducible apply onward_ite
                 | with_reducible apply onto_next | with_reducible apply onto_ite | with_reducible apply modPair_onward
                 | with_reducible apply formPair_onward | with_reducible apply recordPair_onward | with_reducible apply partnerLost_onward
                 | split)

theorem joinProgram_onward {s t : State} (h : Onward s t) : Onward s (joinProgram t) := by
  unfold joinProgram
  repeat' (first | (intro y; clear_value y) | lift_lets | with_reducible exact h | with_reducible apply onward_ite
                 | with_reducible apply mirrorStart_onward)

theorem dropTakes_onward {s t : State} (h : Onward s t) (a0 : ℕ) : Onward s (dropTakes a0 t) := by
  unfold dropTakes
  repeat' (first | (intro y; refine onward_cut (s := s) (y := y) ?_ ?_; rotate_left; (intro hy; clear_value y); rotate_right; subst y) | intro _
                 | lift_lets | with_reducible exact h | with_reducible assumption | with_reducible apply onward_foldl
                 | with_reducible apply abandonTake_onward | with_reducible apply modVoter_onward)

theorem importState_onward {s t : State} (h : Onward s t) (a0 : ℕ) (a1 : Bytes) (a2 : Word64) : Onward s (importState a0 a1 a2 t) := by
  unfold importState
  repeat' (first | (intro y; refine onward_cut (s := s) (y := y) ?_ ?_; rotate_left; (intro hy; clear_value y); rotate_right; subst y)
                 | (intro y; clear_value y) | intro _ | lift_lets | with_reducible exact h | with_reducible assumption
                 | with_reducible apply onward_ite | with_reducible apply onward_foldl | with_reducible apply joinProgram_onward
                 | with_reducible apply resyncFails_onward | with_reducible apply dropTakes_onward | with_reducible apply modLane_onward
                 | with_reducible apply resyncDone_onward | with_reducible apply modPair_onward | split)

theorem stateReceived_onward {s t : State} (h : Onward s t) (a0 : ℕ) (a1 : Bytes) (a2 : Word64) : Onward s (stateReceived a0 a1 a2 t) := by
  unfold stateReceived
  repeat' (first | lift_lets | with_reducible exact h | with_reducible apply onward_ite | with_reducible apply importState_onward
                 | with_reducible apply modPair_onward)

theorem superviseNext_onward {s t : State} (h : Onward s t) (a0 : ℕ) : Onward s (superviseNext a0 t) := by
  unfold superviseNext
  repeat' (first | lift_lets | with_reducible exact h | with_reducible apply modPair_onward | split)

theorem execSlipstreamHelloSend_onward {s t : State} (h : Onward s t) : Onto s (execSlipstreamHelloSend t) := by
  unfold execSlipstreamHelloSend
  repeat' (first | lift_lets | with_reducible exact h | with_reducible apply onto_next | with_reducible apply onto_ite
                 | with_reducible apply sendSlip_onward)

theorem copyToken_onward {s t : State} (h : Onward s t) (a0 : ℕ) (a1 : ℕ) (a2 : Bytes) : Onward s (copyToken a0 a1 a2 t) := by
  unfold copyToken
  repeat' (first | (intro y; clear_value y) | lift_lets | with_reducible exact h | with_reducible apply setTable_onward)

theorem alignTime_onward {s t : State} (h : Onward s t) (a0 : Bytes) : Onward s (alignTime a0 t) := by
  unfold alignTime
  repeat' (first | (intro y; refine onward_cut (s := s) (y := y) ?_ ?_; rotate_left; (intro hy; clear_value y); rotate_right; subst y)
                 | (intro y; clear_value y) | lift_lets | with_reducible exact h | with_reducible assumption | with_reducible apply onward_ite
                 | with_reducible apply modPair_onward | with_reducible apply setReason_onward)

theorem alignPosition_onward {s t : State} (h : Onward s t) (a0 : Bytes) : Onward s (alignPosition a0 t) := by
  unfold alignPosition
  repeat' (first | (intro y; refine onward_cut (s := s) (y := y) ?_ ?_; rotate_left; (intro hy; clear_value y); rotate_right; subst y)
                 | (intro y; clear_value y) | lift_lets | with_reducible exact h | with_reducible assumption | with_reducible apply onward_ite
                 | with_reducible apply setReason_onward | with_reducible apply modPair_onward | split)

theorem noteSnapshot_onward {s t : State} (h : Onward s t) (a0 : PairSnapshot) : Onward s (noteSnapshot a0 t) := by
  unfold noteSnapshot
  exact modPair_onward (onward_ite (modTask_onward (modMbx_onward (alignTime_onward (alignPosition_onward h _) _) _
    (fun e => by unfold EpochStored at *; rw [e])) _ _) (modMbx_onward (alignTime_onward (alignPosition_onward h _) _) _
    (fun e => by unfold EpochStored at *; rw [e]))) _

theorem execMbxChDoorbell_onward {s t : State} (h : Onward s t) (a0 : Lane) (a1 : Fin 16) (a2 : Word32) : Onto s (execMbxChDoorbell a0 a1 a2 t) := by
  unfold execMbxChDoorbell
  repeat' (first | lift_lets | with_reducible exact h | with_reducible apply onward_ite | with_reducible apply onto_next
                 | with_reducible apply doorbell_onward)

theorem jitterStart_onward {s t : State} (h : Onward s t) (a0 : Lane) : Onward2 s (jitterStart a0 t) := by
  unfold jitterStart
  repeat' (first | (intro y; clear_value y) | lift_lets | with_reducible exact h | with_reducible apply onward2_mk
                 | with_reducible apply modTest_onward | with_reducible apply countApplied_onward | split)

theorem jitterStart_state {s t : State} (h : Onward s t) (a0 : Lane) : Onward s (jitterStart a0 t).2 :=
  (jitterStart_onward h a0).out

theorem setReady_onward {s t : State} (h : Onward s t) (a0 : Lane) (a1 : ℕ) : Onward s (setReady a0 a1 t) := by
  unfold setReady
  repeat' (first | (intro y; clear_value y) | lift_lets | with_reducible exact h | with_reducible apply modLane_onward)

theorem execTakeStart_onward {s t : State} (h : Onward s t) (a0 : Lane) (a1 : ℕ) : Onto s (execTakeStart a0 a1 t) := by
  unfold execTakeStart
  repeat' (first | with_reducible exact h | with_reducible apply onto_next | with_reducible apply onto_ite
                 | with_reducible apply abandonEarlier_onward | with_reducible apply reach_onward | with_reducible apply laneFault_onward
                 | with_reducible apply modLane_onward | with_reducible apply setReady_onward | with_reducible apply jitterStart_state | split)

theorem postponeHandover_onward {s t : State} (h : Onward s t) (a0 : ℕ) : Onward s (postponeHandover a0 t) := by
  unfold postponeHandover
  repeat' (first | (intro y; refine onward_cut (s := s) (y := y) ?_ ?_; rotate_left; (intro hy; clear_value y); rotate_right; subst y)
                 | (intro y; clear_value y) | lift_lets | with_reducible exact h | with_reducible assumption | with_reducible apply onward_ite
                 | with_reducible apply modPair_onward | with_reducible apply slipstream_onward)

theorem acknowledge_onward {s t : State} (h : Onward s t) (a0 : ℕ) (a1 : ℕ) : Onward s (acknowledge a0 a1 t) := by
  unfold acknowledge
  repeat' (first | lift_lets | with_reducible exact h | with_reducible apply slipstream_onward)

theorem mirrorCues_onward {s t : State} (h : Onward s t) (a0 : ℕ) (a1 : List (ℕ × ℕ × ℕ)) : Onward s (mirrorCues a0 a1 t) := by
  unfold mirrorCues
  repeat' (first | (intro y; refine onward_cut (s := s) (y := y) ?_ ?_; rotate_left; (intro hy; clear_value y); rotate_right; subst y)
                 | (intro (y : _ → _); subst y; try beta_reduce) | intro _ | lift_lets | with_reducible exact h | with_reducible assumption
                 | with_reducible apply onward_foldl | with_reducible apply modCue_onward | with_reducible apply modPos_onward)

theorem noteEnd_onward {s t : State} (h : Onward s t) (a0 : PairTakeEnd) : Onward s (noteEnd a0 t) := by
  unfold noteEnd
  repeat' (first | (intro y; refine onward_cut (s := s) (y := y) ?_ ?_; rotate_left; (intro hy; clear_value y); rotate_right; subst y)
                 | (intro y; clear_value y) | lift_lets | with_reducible exact h | with_reducible assumption | with_reducible apply onward_ite
                 | with_reducible apply modPair_onward | with_reducible apply mirrorCues_onward | with_reducible apply superviseNext_onward
                 | split)

theorem execSlipTakeEnd_onward {s t : State} (h : Onward s t) (a0 : Arrived PairTakeEnd) : Onto s (execSlipTakeEnd a0 t) := by
  unfold execSlipTakeEnd
  repeat' (first | (intro y; refine onward_cut (s := s) (y := y) ?_ ?_; rotate_left; (intro hy; clear_value y); rotate_right; subst y)
                 | lift_lets | with_reducible exact h | with_reducible assumption | with_reducible apply onward_ite
                 | with_reducible apply onto_next | with_reducible apply onto_ite | with_reducible apply countArrival_onward
                 | with_reducible apply acknowledge_onward | with_reducible apply releaseWaiting_onward | with_reducible apply endDecided_onward
                 | with_reducible apply noteEnd_onward | with_reducible apply failMirror_onward)

theorem freezeInputs_onward {s t : State} (h : Onward s t) (a0 : Image) (a1 : TaskRec) (a2 : ℕ) : Onward s (freezeInputs a0 a1 a2 t) := by
  unfold freezeInputs
  repeat' (first | (intro y; refine onward_cut (s := s) (y := y) ?_ ?_; rotate_left; (intro hy; clear_value y); rotate_right; subst y)
                 | (intro y; refine onward2_cut (s := s) (y := y) ?_ ?_; rotate_left; (intro hy; clear_value y); rotate_right; subst y)
                 | (intro y; clear_value y) | lift_lets | with_reducible exact h | with_reducible assumption | with_reducible apply onward_ite
                 | with_reducible apply onward2_mk | with_reducible apply modTask_onward | with_reducible apply openTake_onward
                 | with_reducible apply slipstream_onward | with_reducible apply enterCompletions_state
                 | with_reducible apply deliverActivations_state | exact Onward2.out (by assumption))

theorem freezeTask_onward {s t : State} (h : Onward s t) (a0 : Image) (a1 : TaskRec) (a2 : ℕ) : Onward s (freezeTask a0 a1 a2 t) := by
  unfold freezeTask
  repeat' (first | lift_lets | with_reducible exact h | with_reducible apply freezeInputs_onward
                 | with_reducible apply reshootAtActivation_onward | with_reducible apply rejoinAt_onward)

theorem execInputFreeze_onward {s t : State} (h : Onward s t) (a0 : ℕ) : Onto s (execInputFreeze a0 t) := by
  unfold execInputFreeze
  repeat' (first | lift_lets | with_reducible exact h | with_reducible apply onward_ite | with_reducible apply onto_next
                 | with_reducible apply onto_ite | with_reducible apply freezeTask_onward | with_reducible apply reach_onward | split)

theorem readBack_onward {s t : State} (h : Onward s t) (a0 : Lane) (a1 : ℕ) : Onward s (readBack a0 a1 t) := by
  unfold readBack
  repeat' (first | lift_lets | with_reducible exact h | with_reducible apply modLane_onward)

theorem execActTake_onward {s t : State} (h : Onward s t) (a0 : Lane) : Onto s (execActTake a0 t) := by
  unfold execActTake
  repeat' (first | (intro y; refine onward_cut (s := s) (y := y) ?_ ?_; rotate_left; (intro hy; clear_value y); rotate_right; subst y)
                 | lift_lets | with_reducible exact h | with_reducible assumption | with_reducible apply onto_next
                 | with_reducible apply readBack_onward | with_reducible apply modLane_onward | split)

theorem execResyncRetry_onward {s t : State} (h : Onward s t) : Onto s (execResyncRetry t) := by
  unfold execResyncRetry
  repeat' (first | (intro y; refine onward_cut (s := s) (y := y) ?_ ?_; rotate_left; (intro hy; clear_value y); rotate_right; subst y)
                 | lift_lets | with_reducible exact h | with_reducible assumption | with_reducible apply onward_ite
                 | with_reducible apply onto_next | with_reducible apply modPair_onward | with_reducible apply reach_onward
                 | with_reducible apply armResync_onward | split)

theorem execSlipstreamFragmentDone_onward {s t : State} (h : Onward s t) (a0 : ℕ) : Onto s (execSlipstreamFragmentDone a0 t) := by
  unfold execSlipstreamFragmentDone
  repeat' (first | lift_lets | with_reducible exact h | with_reducible apply onto_next | with_reducible apply onto_ite
                 | with_reducible apply startFragment_onward | with_reducible apply reach_onward | with_reducible apply serveSlip_onward
                 | with_reducible apply modSlip_onward | split)

theorem receiveImage_onward {s t : State} (h : Onward s t) (a0 : Bytes) : Onward s (receiveImage a0 t) := by
  unfold receiveImage
  repeat' (first | (intro y; refine onward_cut (s := s) (y := y) ?_ ?_; rotate_left; (intro hy; clear_value y); rotate_right; subst y)
                 | (intro y; clear_value y) | lift_lets | with_reducible exact h | with_reducible assumption | with_reducible apply onward_ite
                 | with_reducible apply failMirror_onward | with_reducible apply tellHeld_onward | with_reducible apply noteInterval_onward
                 | with_reducible apply modSlot_onward | with_reducible apply nextCut_onward | with_reducible apply modPair_onward | split)

theorem noteCompletion_onward {s t : State} (h : Onward s t) (a0 : Lane) (a1 : ℕ) (a2 : Bytes) : Onward s (noteCompletion a0 a1 a2 t) := by
  unfold noteCompletion
  repeat' (first | (intro (y : _ → _); subst y; try beta_reduce) | (intro y; clear_value y) | lift_lets | with_reducible exact h
                 | with_reducible apply modLane_onward)

theorem execMbxChPop_onward {s t : State} (h : Onward s t) (a0 : Lane) (a1 : Fin 16) : Onto s (execMbxChPop a0 a1 t) := by
  unfold execMbxChPop
  extract_lets c
  split
  · exact onto_next (readBack_onward h _ _)
  · exact onto_next (noteCompletion_onward (readBack_onward (modWindow_onward (modChannel_onward h _ _ _) _ _) _ _) _ _ _)

theorem resyncReported_onward {s t : State} (h : Onward s t) : Onward s (resyncReported t) := by
  unfold resyncReported
  repeat' (first | (intro y; clear_value y) | lift_lets | with_reducible exact h | with_reducible apply onward_ite
                 | with_reducible apply modPair_onward | split)

theorem partnerReports_onward {s t : State} (h : Onward s t) (a0 : ℕ) : Onward s (partnerReports a0 t) := by
  unfold partnerReports
  repeat' (first | (intro y; refine onward_cut (s := s) (y := y) ?_ ?_; rotate_left; (intro hy; clear_value y); rotate_right; subst y)
                 | (intro y; clear_value y) | lift_lets | with_reducible exact h | with_reducible assumption | with_reducible apply onward_ite
                 | with_reducible apply modPair_onward | with_reducible apply resyncReported_onward | with_reducible apply releaseAwaiting_onward
                 | with_reducible apply answerResync_onward | with_reducible apply armResync_onward)

theorem statusHeard_onward {s t : State} (h : Onward s t) (a0 : Bytes) : Onto s (statusHeard a0 t) := by
  unfold statusHeard
  repeat' (first | lift_lets | with_reducible exact h | with_reducible apply onto_next | with_reducible apply onto_ite
                 | with_reducible apply partnerLost_onward | with_reducible apply partnerReports_onward | with_reducible apply modPair_onward)

theorem execSlipSnapshot_onward {s t : State} (h : Onward s t) (a0 : Arrived PairSnapshot) : Onto s (execSlipSnapshot a0 t) := by
  unfold execSlipSnapshot
  repeat' (first | (intro y; refine onward_cut (s := s) (y := y) ?_ ?_; rotate_left; (intro hy; clear_value y); rotate_right; subst y)
                 | (intro y; clear_value y) | lift_lets | with_reducible exact h | with_reducible assumption | with_reducible apply onto_next
                 | with_reducible apply onto_ite | with_reducible apply countArrival_onward | with_reducible apply noteSnapshot_onward
                 | with_reducible apply modPair_onward | with_reducible apply openForwarded_onward)

theorem sendKeepalive_onward {s t : State} (h : Onward s t) (a0 : ℕ) : Onward s (sendKeepalive a0 t) := by
  unfold sendKeepalive
  repeat' (first | (intro y; clear_value y) | lift_lets | with_reducible exact h | with_reducible apply onward_ite
                 | with_reducible apply sendSlipOn_onward)

theorem keepaliveHeard_onward {s t : State} (h : Onward s t) (a0 : ℕ) (a1 : ℕ) : Onto s (keepaliveHeard a0 a1 t) := by
  unfold keepaliveHeard
  repeat' (first | (intro y; refine onward_cut (s := s) (y := y) ?_ ?_; rotate_left; (intro hy; clear_value y); rotate_right; subst y)
                 | lift_lets | with_reducible exact h | with_reducible assumption | with_reducible apply onto_next
                 | with_reducible apply onto_ite | with_reducible apply sendKeepalive_onward | with_reducible apply modPair_onward
                 | with_reducible apply setReason_onward | split)

theorem ackHeard_onward {s t : State} (h : Onward s t) (a0 : ℕ) (a1 : ℕ) (a2 : ℕ) : Onto s (ackHeard a0 a1 a2 t) := by
  unfold ackHeard
  repeat' (first | lift_lets | with_reducible exact h | with_reducible apply onto_next | with_reducible apply onto_ite
                 | with_reducible apply partnerReports_onward | with_reducible apply releaseAwaiting_onward)

theorem execSlipAck_onward {s t : State} (h : Onward s t) (a0 : ℕ) (a1 : ℕ) (a2 : Arrived ℕ) : Onto s (execSlipAck a0 a1 a2 t) := by
  unfold execSlipAck
  repeat' (first | intro _ | lift_lets | with_reducible exact h | with_reducible assumption | with_reducible apply heard_onward
                 | with_reducible apply ackHeard_onward)

theorem tokenHeard_onward {s t : State} (h : Onward s t) (a0 : ℕ) (a1 : ℕ) (a2 : Bytes) : Onto s (tokenHeard a0 a1 a2 t) := by
  unfold tokenHeard
  repeat' (first | lift_lets | with_reducible exact h | with_reducible apply onto_next | with_reducible apply onto_ite
                 | with_reducible apply acknowledge_onward | with_reducible apply copyToken_onward)

theorem rebase_onward {s t : State} (h : Onward s t) (a0 : ℕ) (a1 : TaskRec → ℕ) : Onward s (rebase a0 a1 t) := by
  unfold rebase
  repeat' (first | (intro y; refine onward_cut (s := s) (y := y) ?_ ?_; rotate_left; (intro hy; clear_value y); rotate_right; subst y)
                 | (intro y; clear_value y) | lift_lets | with_reducible exact h | with_reducible assumption
                 | with_reducible apply modProg_onward | split)

theorem takeHandover_onward {s t : State} (h : Onward s t) (a0 : ℕ) : Onward s (takeHandover a0 t) := by
  unfold takeHandover
  repeat' (first | (intro y; refine onward_cut (s := s) (y := y) ?_ ?_; rotate_left; (intro hy; clear_value y); rotate_right; subst y)
                 | lift_lets | with_reducible exact h | with_reducible assumption | with_reducible apply onward_ite
                 | with_reducible apply modPair_onward | with_reducible apply becomeActive_onward | with_reducible apply testOff_onward
                 | with_reducible apply rebase_onward | with_reducible apply releaseEvents_state)

theorem execHandoverInstant_onward {s t : State} (h : Onward s t) : Onto s (execHandoverInstant t) := by
  unfold execHandoverInstant
  repeat' (first | (intro y; refine onward_cut (s := s) (y := y) ?_ ?_; rotate_left; (intro hy; clear_value y); rotate_right; subst y)
                 | lift_lets | with_reducible exact h | with_reducible assumption | with_reducible apply onward_ite
                 | with_reducible apply onto_next | with_reducible apply onto_ite | with_reducible apply reachLocal_onward
                 | with_reducible apply postponeHandover_onward | with_reducible apply takeHandover_onward | with_reducible apply modPair_onward
                 | with_reducible apply handoverStep_onward | split)

theorem execUpdatePartnerWaitEnd_onward {s t : State} (h : Onward s t) : Onto s (execUpdatePartnerWaitEnd t) := by
  unfold execUpdatePartnerWaitEnd
  repeat' (first | lift_lets | with_reducible exact h | with_reducible apply onward_ite | with_reducible apply onto_next
                 | with_reducible apply onto_ite | with_reducible apply armHandover_onward | with_reducible apply refuseActivation_onward
                 | with_reducible apply reach_onward | split)

theorem execSlipKeepalive_onward {s t : State} (h : Onward s t) (a0 : ℕ) (a1 : Arrived ℕ) : Onto s (execSlipKeepalive a0 a1 t) := by
  unfold execSlipKeepalive
  repeat' (first | intro _ | lift_lets | with_reducible exact h | with_reducible assumption | with_reducible apply heard_onward
                 | with_reducible apply keepaliveHeard_onward)

theorem gapCues_onward {s t : State} (h : Onward s t) : Onward s (gapCues t) := by
  unfold gapCues
  repeat' (first | intro _ | lift_lets | with_reducible exact h | with_reducible assumption | with_reducible apply onward_ite
                 | with_reducible apply onward_foldl | with_reducible apply cueMissed_onward | with_reducible apply cueAction_onward | split)

theorem rebaseRecut_onward {s t : State} (h : Onward s t) (a0 : ℕ) : Onward s (rebaseRecut a0 t) := by
  unfold rebaseRecut
  repeat' (first | (intro y; clear_value y) | lift_lets | with_reducible exact h | with_reducible apply modProg_onward | split)

theorem execTakeoverInstant_onward {s t : State} (h : Onward s t) : Onto s (execTakeoverInstant t) := by
  unfold execTakeoverInstant
  repeat' (first | (intro y; refine onward_cut (s := s) (y := y) ?_ ?_; rotate_left; (intro hy; clear_value y); rotate_right; subst y)
                 | (intro y; clear_value y) | lift_lets | with_reducible exact h | with_reducible assumption | with_reducible apply onto_next
                 | with_reducible apply modPair_onward | with_reducible apply reachLocal_onward | with_reducible apply rebase_onward
                 | with_reducible apply modProg_onward | with_reducible apply gapCues_onward | with_reducible apply rebaseRecut_onward
                 | with_reducible apply releaseEvents_state | split)

theorem execTimStepSumLo_onward {s t : State} (h : Onward s t) (a0 : Lane) : Onto s (execTimStepSumLo a0 t) := by
  unfold execTimStepSumLo
  repeat' (first | lift_lets | with_reducible exact h | with_reducible apply onto_next | with_reducible apply modLane_onward)

theorem slipstreamLost_onward {s t : State} (h : Onward s t) : Onward s (slipstreamLost t) := by
  unfold slipstreamLost
  repeat' (first | lift_lets | with_reducible exact h | with_reducible apply setReason_onward | with_reducible apply modPair_onward)

theorem execPairTelegram_onward {s t : State} (h : Onward s t) (a0 : ℕ) (a1 : ℕ) : Onto s (execPairTelegram a0 a1 t) := by
  unfold execPairTelegram
  repeat' (first | (intro y; refine onward_cut (s := s) (y := y) ?_ ?_; rotate_left; (intro hy; clear_value y); rotate_right; subst y)
                 | (intro y; clear_value y) | lift_lets | with_reducible exact h | with_reducible assumption | with_reducible apply onward_ite
                 | with_reducible apply onto_next | with_reducible apply onto_ite | with_reducible apply modPair_onward
                 | with_reducible apply slipstreamLost_onward | with_reducible apply superviseNext_onward | split)

theorem releaseEvery_onward {s t : State} (h : Onward s t) : Onward s (releaseEvery t) := by
  unfold releaseEvery
  repeat' (first | intro _ | lift_lets | with_reducible exact h | with_reducible assumption | with_reducible apply onward_foldl
                 | with_reducible apply releaseWaiting_onward)

theorem execSlipToken_onward {s t : State} (h : Onward s t) (a0 : ℕ) (a1 : ℕ) (a2 : Arrived Bytes) :
    Onto s (execSlipToken a0 a1 a2 t) := by
  unfold execSlipToken
  repeat' (first | intro _ | lift_lets | with_reducible exact h | with_reducible assumption | with_reducible apply heard_onward
                 | with_reducible apply tokenHeard_onward)

theorem slipLink_onward {s t : State} (h : Onward s t) (a0 : ℕ) (a1 : Bool) : Onward s (slipLink a0 a1 t) := by
  unfold slipLink
  repeat' (first | (intro y; refine onward_cut (s := s) (y := y) ?_ ?_; rotate_left; (intro hy; clear_value y); rotate_right; subst y)
                 | (intro y; clear_value y) | lift_lets | with_reducible exact h | with_reducible assumption | with_reducible apply onward_ite
                 | with_reducible apply modPair_onward | with_reducible apply modSlip_onward | with_reducible apply partnerLost_onward)

theorem execHealthReportSend_onward {s t : State} (h : Onward s t) : Onto s (execHealthReportSend t) := by
  unfold execHealthReportSend
  repeat' (first | lift_lets | with_reducible exact h | with_reducible apply onward_ite | with_reducible apply onto_next
                 | with_reducible apply sendStatus_onward)

theorem execResyncStart_onward {s t : State} (h : Onward s t) : Onto s (execResyncStart t) := by
  unfold execResyncStart
  repeat' (first | (intro y; refine onward_cut (s := s) (y := y) ?_ ?_; rotate_left; (intro hy; clear_value y); rotate_right; subst y)
                 | lift_lets | with_reducible exact h | with_reducible assumption | with_reducible apply onward_ite
                 | with_reducible apply onto_next | with_reducible apply onto_ite | with_reducible apply modPair_onward
                 | with_reducible apply reachLocal_onward | with_reducible apply slipstream_onward | with_reducible apply exportIdle_onward
                 | split)

theorem execActDefer_onward {s t : State} (h : Onward s t) (a0 : Lane) (a1 : Word32) : Onto s (execActDefer a0 a1 t) := by
  unfold execActDefer
  repeat' (first | lift_lets | with_reducible exact h | with_reducible apply onward_ite | with_reducible apply onto_next
                 | with_reducible apply writeDefer_onward)

theorem execSupervisedTakeMissed_onward {s t : State} (h : Onward s t) : Onto s (execSupervisedTakeMissed t) := by
  unfold execSupervisedTakeMissed
  repeat' (first | (intro y; refine onward_cut (s := s) (y := y) ?_ ?_; rotate_left; (intro hy; clear_value y); rotate_right; subst y)
                 | (intro y; clear_value y) | lift_lets | with_reducible exact h | with_reducible assumption | with_reducible apply onward_ite
                 | with_reducible apply onto_next | with_reducible apply onto_ite | with_reducible apply superviseNext_onward
                 | with_reducible apply reach_onward | with_reducible apply releaseEvery_onward | with_reducible apply slipstreamLost_onward
                 | with_reducible apply modPair_onward | with_reducible apply takeOver_onward | split)

theorem execSlipStatus_onward {s t : State} (h : Onward s t) (a0 : Arrived Bytes) : Onto s (execSlipStatus a0 t) := by
  unfold execSlipStatus
  repeat' (first | intro _ | lift_lets | with_reducible exact h | with_reducible assumption | with_reducible apply heard_onward
                 | with_reducible apply statusHeard_onward)

theorem execMbxShadowFetch_onward {s t : State} (h : Onward s t) (a0 : Lane) : Onto s (execMbxShadowFetch a0 t) := by
  unfold execMbxShadowFetch
  repeat' (first | (intro y; refine onward_cut (s := s) (y := y) ?_ ?_; rotate_left; (intro hy; clear_value y); rotate_right; subst y)
                 | (intro (y : _ → _); subst y; try beta_reduce) | (intro y; clear_value y) | lift_lets | with_reducible exact h
                 | with_reducible assumption | with_reducible apply onto_next | with_reducible apply readBack_onward
                 | with_reducible apply modWindow_onward | with_reducible apply noteCompletion_onward | split)

theorem execMailboxResponseDelayEnd_onward {s t : State} (h : Onward s t) : Onto s (execMailboxResponseDelayEnd t) := by
  unfold execMailboxResponseDelayEnd
  repeat' (first | (intro y; refine onward_cut (s := s) (y := y) ?_ ?_; rotate_left; (intro hy; clear_value y); rotate_right; subst y) | exact id
                 | lift_lets | with_reducible exact h | with_reducible assumption | with_reducible apply onto_next
                 | with_reducible apply modMbx_onward | with_reducible apply reach_onward | with_reducible apply settleClosing_onward
                 | with_reducible apply sendNow_onward | split)

end Sys2Proof.Machine
end

