-- ==== Sys2Proof/Laws/OnwardCommands.lean ====
section
/-! SUPPORT. What every operation of the model keeps (Sys2Proof/Laws/Onward.lean):
the command table, the voter and the events that reach over several blocks. -/

namespace Sys2Proof.Machine

theorem takeVoted_onward {s t : State} (h : Onward s t) (a0 : Lane) (a1 : VoteTake) : Onward s (takeVoted a0 a1 t) := by
  unfold takeVoted
  repeat' (first | lift_lets | with_reducible exact h | with_reducible apply laneVoted_onward | with_reducible apply modLane_onward)

theorem compareProbation_onward {s t : State} (h : Onward s t) (a0 : Word64) (a1 : VoteTake) (a2 : Lane) :
    Onward s (compareProbation a0 a1 a2 t) := by
  unfold compareProbation
  repeat' (first | lift_lets | with_reducible exact h | with_reducible apply onward_ite | with_reducible apply passProbation_onward
                 | with_reducible apply takeVoted_onward | with_reducible apply failReshoot_onward | split)

theorem commandsModule_onward {n : ℕ} {c : Command} (h : commandsModule n = some c) : OnwardC c := by
  unfold commandsModule at h
  split at h <;> cases h
  · exact cmdModuleStatus_onward
  · exact cmdModuleInfo_onward
  · exact cmdModeRequest_onward
  · exact cmdModuleRestart_onward
  · exact cmdClassControl_onward
  · exact cmdTokenQuery_onward
  · exact cmdMailboxCounters_onward

theorem commandsTrust_onward {n : ℕ} {c : Command} (h : commandsTrust n = some c) : OnwardC c := by
  unfold commandsTrust at h
  split at h <;> cases h
  · exact cmdSessionLogin_onward
  · exact cmdSessionEnd_onward
  · exact cmdSessionList_onward
  · exact cmdIdentityRead_onward
  · exact cmdEnrolRequest_onward
  · exact cmdEnrolInstall_onward
  · exact cmdAnchorRotate_onward
  · exact cmdCredentialSet_onward
  · exact cmdCredentialRemove_onward
  · exact cmdSaInstall_onward
  · exact cmdSaRelease_onward
  · exact cmdOwnerLock_onward
  · exact cmdTamperAcknowledge_onward
  · exact cmdLullStatus_onward

theorem commandsProgram_onward {n : ℕ} {c : Command} (h : commandsProgram n = some c) : OnwardC c := by
  unfold commandsProgram at h
  split at h <;> cases h
  · exact cmdProgramStatus_onward
  · exact cmdImageLoad_onward
  · exact cmdProgramStart_onward
  · exact cmdProgramStop_onward
  · exact cmdRecutStart_onward
  · exact cmdRecutCancel_onward
  · exact cmdForceSet_onward
  · exact cmdForceClear_onward
  · exact cmdForceList_onward
  · exact cmdVariableRead_onward
  · exact cmdImageErase_onward

theorem commandsLane_onward {n : ℕ} {c : Command} (h : commandsLane n = some c) : OnwardC c := by
  unfold commandsLane at h
  split at h <;> cases h
  · exact cmdLaneStatus_onward
  · exact cmdLaneHealth_onward
  · exact cmdLaneTraceRead_onward
  · exact cmdLaneIsolate_onward
  · exact cmdLaneReshoot_onward
  · exact cmdStaggerSet_onward
  · exact cmdVoterTest_onward
  · exact cmdLaneDiagClear_onward

theorem commandsPair_onward {n : ℕ} {c : Command} (h : commandsPair n = some c) : OnwardC c := by
  unfold commandsPair at h
  split at h <;> cases h
  · exact cmdPairStatus_onward
  · exact cmdPairHealth_onward
  · exact cmdPairConfigure_onward
  · exact cmdPairSwitchover_onward
  · exact cmdPairResync_onward
  · exact cmdPairBudget_onward
  · exact cmdPairCounters_onward

theorem commandsSafety_onward {n : ℕ} {c : Command} (h : commandsSafety n = some c) : OnwardC c := by
  unfold commandsSafety at h
  split at h <;> cases h
  · exact cmdSafetyStatus_onward
  · exact cmdSafetyParamLoad_onward
  · exact cmdSafetyParamActivate_onward
  · exact cmdLockoutEnter_onward
  · exact cmdLockoutReset_onward
  · exact cmdChangeLogRead_onward
  · exact cmdWindowClose_onward
  · exact cmdSafeIoTest_onward

theorem commandsPosition_onward {n : ℕ} {c : Command} (h : commandsPosition n = some c) : OnwardC c := by
  unfold commandsPosition at h
  split at h <;> cases h
  · exact cmdPositionStatus_onward
  · exact cmdPositionConfigure_onward
  · exact cmdPositionMark_onward
  · exact cmdPositionAt_onward
  · exact cmdCueStatus_onward
  · exact cmdCueControl_onward
  · exact cmdPositionCounters_onward

theorem commandsSignal_onward {n : ℕ} {c : Command} (h : commandsSignal n = some c) : OnwardC c := by
  unfold commandsSignal at h
  split at h <;> cases h
  · exact cmdSignalStatus_onward
  · exact cmdChannelConfigure_onward
  · exact cmdCoeffLoad_onward
  · exact cmdSignalDissolve_onward
  · exact cmdChannelControl_onward
  · exact cmdInputSwitch_onward
  · exact cmdSignalCounters_onward

theorem commandsNet_onward {n : ℕ} {c : Command} (h : commandsNet n = some c) : OnwardC c := by
  unfold commandsNet at h
  split at h <;> cases h
  · exact cmdNetStatus_onward
  · exact cmdPortConfigure_onward
  · exact cmdPortCounters_onward
  · exact cmdFdbPin_onward
  · exact cmdFdbUnpin_onward
  · exact cmdFdbRead_onward
  · exact cmdFdbFlush_onward
  · exact cmdFlowConfigure_onward
  · exact cmdFlowControl_onward
  · exact cmdFlowStatus_onward
  · exact cmdFrerConfigure_onward
  · exact cmdGateConfigure_onward
  · exact cmdLaunchWrite_onward
  · exact cmdLaunchFlush_onward
  · exact cmdRnatConfigure_onward
  · exact cmdNetSettings_onward

theorem commandsMvb_onward {n : ℕ} {c : Command} (h : commandsMvb n = some c) : OnwardC c := by
  unfold commandsMvb at h
  split at h <;> cases h
  · exact cmdMvbStatus_onward
  · exact cmdMvbConfigure_onward
  · exact cmdMvbPortConfigure_onward
  · exact cmdMvbPortControl_onward
  · exact cmdMvbWrite_onward
  · exact cmdMvbRead_onward
  · exact cmdMvbLock_onward
  · exact cmdMvbUnlock_onward
  · exact cmdMvbMap_onward
  · exact cmdMvbDevices_onward
  · exact cmdMvbCounters_onward

theorem commandsTime_onward {n : ℕ} {c : Command} (h : commandsTime n = some c) : OnwardC c := by
  unfold commandsTime at h
  split at h <;> cases h
  · exact cmdTimeStatus_onward
  · exact cmdTimeConfigure_onward
  · exact cmdTimeSet_onward
  · exact cmdTimePortStatus_onward

theorem commandsActivation_onward {n : ℕ} {c : Command} (h : commandsActivation n = some c) : OnwardC c := by
  unfold commandsActivation at h
  split at h <;> cases h
  · exact cmdActivationStatus_onward
  · exact cmdSourceConfigure_onward
  · exact cmdSourceMask_onward
  · exact cmdActivationHold_onward
  · exact cmdActivationTrigger_onward
  · exact cmdActivationCounters_onward

theorem commandsRecorder_onward {n : ℕ} {c : Command} (h : commandsRecorder n = some c) : OnwardC c := by
  unfold commandsRecorder at h
  split at h <;> cases h
  · exact cmdRecorderStatus_onward
  · exact cmdRecorderRead_onward
  · exact cmdRecorderFreeze_onward
  · exact cmdRecorderRelease_onward
  · exact cmdRecorderClearRequest_onward
  · exact cmdRecorderClearConfirm_onward
  · exact cmdRecorderCounters_onward

theorem commandsUpdate_onward {n : ℕ} {c : Command} (h : commandsUpdate n = some c) : OnwardC c := by
  unfold commandsUpdate at h
  split at h <;> cases h
  · exact cmdUpdateStatus_onward
  · exact cmdUpdateStage_onward
  · exact cmdUpdateSchedule_onward
  · exact cmdUpdateCancel_onward

theorem commandsTest_onward {n : ℕ} {c : Command} (h : commandsTest n = some c) : OnwardC c := by
  unfold commandsTest at h
  split at h <;> cases h
  · exact cmdTestStatus_onward
  · exact cmdTestEnter_onward
  · exact cmdTestExit_onward
  · exact cmdSquallSet_onward
  · exact cmdSelfTestRun_onward

theorem commands_onward (n : ℕ) (c : Command) (h : commands n = some c) : OnwardC c := by
  unfold commands at h
  split at h
  · exact commandsModule_onward h
  · exact commandsTrust_onward h
  · exact commandsProgram_onward h
  · exact commandsLane_onward h
  · exact commandsPair_onward h
  · exact commandsSafety_onward h
  · exact commandsPosition_onward h
  · exact commandsSignal_onward h
  · exact commandsNet_onward h
  · exact commandsMvb_onward h
  · exact commandsTime_onward h
  · exact commandsActivation_onward h
  · exact commandsRecorder_onward h
  · exact commandsUpdate_onward h
  · exact commandsTest_onward h
  · cases h

theorem command_onward {s t : State} (h : Onward s t) (a0 : ℕ) (a1 : Msg) : Onto s (command a0 a1 t) := by
  unfold command
  repeat' (first | intro _ | lift_lets | with_reducible exact h | with_reducible apply onto_next | with_reducible apply receive_onward
                 | with_reducible exact commands_onward _ _ (by assumption))

theorem execCredentialRemove_onward {s t : State} (h : Onward s t) (a0 : Msg) : Onto s (execCredentialRemove a0 t) := by
  unfold execCredentialRemove
  repeat' (first | lift_lets | with_reducible exact h | with_reducible apply command_onward)

theorem execCredentialSet_onward {s t : State} (h : Onward s t) (a0 : Msg) : Onto s (execCredentialSet a0 t) := by
  unfold execCredentialSet
  repeat' (first | lift_lets | with_reducible exact h | with_reducible apply command_onward)

theorem cutDone_onward {s t : State} (h : Onward s t) (a0 : CutFor) (a1 : Image) (a2 : ImageSlot) (a3 : ℕ) : Onward s (cutDone a0 a1 a2 a3 t) := by
  unfold cutDone
  repeat' (first | intro _ | lift_lets | with_reducible exact h | with_reducible apply onward_ite | with_reducible apply serve_onward
                 | with_reducible apply completeEntry_onward | with_reducible apply tellHeld_onward
                 | with_reducible exact commands_onward _ _ (by assumption) | split)

theorem execUpdateCancel_onward {s t : State} (h : Onward s t) (a0 : Msg) : Onto s (execUpdateCancel a0 t) := by
  unfold execUpdateCancel
  repeat' (first | lift_lets | with_reducible exact h | with_reducible apply command_onward)

theorem voteLockout_onward {s t : State} (h : Onward s t) (a0 : Bool) (a1 : ℕ) (a2 : VoteTake) : Onward s (voteLockout a0 a1 a2 t) := by
  unfold voteLockout
  repeat' (first | lift_lets | with_reducible exact h | with_reducible apply onward_ite | with_reducible apply lockOut_onward)

theorem loseVoter_onward {s t : State} (h : Onward s t) (a0 : Bool) (a1 : Lane) (a2 : ℕ) (a3 : VoteTake) : Onward s (loseVoter a0 a1 a2 a3 t) := by
  unfold loseVoter
  repeat' (first | lift_lets | with_reducible exact h | with_reducible apply onward_ite | with_reducible apply isolateLane_onward
                 | with_reducible apply voteLockout_onward)

theorem corruptSignature_onward {s t : State} (h : Onward s t) (a0 : Lane) (a1 : Word64) : Onward3 s (corruptSignature a0 a1 t) := by
  unfold corruptSignature
  repeat' (first | (intro y; clear_value y) | lift_lets | with_reducible exact h | with_reducible apply onward3_mk
                 | with_reducible apply modTest_onward | with_reducible apply countApplied_onward | split)

theorem corruptSignature_state {s t : State} (h : Onward s t) (a0 : Lane) (a1 : Word64) : Onward s (corruptSignature a0 a1 t).2.2 :=
  (corruptSignature_onward h a0 a1).out

theorem modVote_onward {s t : State} (h : Onward s t) (a0 : ℕ) (a1 : ℕ) (a2 : VoteTake → VoteTake) : Onward s (modVote a0 a1 a2 t) := by
  unfold modVote
  repeat' (first | lift_lets | with_reducible exact h | with_reducible apply modVoter_onward)

theorem inMajority_onward {s t : State} (h : Onward s t) (a0 : VoteTake) (a1 : Lane) : Onward s (inMajority a0 a1 t) := by
  unfold inMajority
  repeat' (first | lift_lets | with_reducible exact h | with_reducible apply takeVoted_onward | with_reducible apply modHealth_onward)

theorem closeTake_onward {s t : State} (h : Onward s t) (a0 : ℕ) (a1 : ℕ) : Onward s (closeTake a0 a1 t) := by
  unfold closeTake
  repeat' (first | lift_lets | with_reducible exact h | with_reducible apply onward_ite | with_reducible apply modVoter_onward | split)

theorem joinMajority_onward {s t : State} (h : Onward s t) (a0 : Image) (a1 : TaskRec) (a2 : VoteTake) (a3 : Lane) :
    Onward s (joinMajority a0 a1 a2 a3 t) := by
  unfold joinMajority
  repeat' (first | (intro y; refine onward_cut (s := s) (y := y) ?_ ?_; rotate_left; (intro hy; clear_value y); rotate_right; subst y)
                 | (intro (y : _ → _); subst y; try beta_reduce) | intro _ | lift_lets | with_reducible exact h | with_reducible assumption
                 | with_reducible apply onward_ite | with_reducible apply onward_foldl | with_reducible apply modVote_onward
                 | with_reducible apply inMajority_onward | with_reducible apply modOutput_onward | with_reducible apply closeTake_onward)

theorem askComparison_onward {s t : State} (h : Onward s t) (a0 : Lane) (a1 : VoteTake) : Onward s (askComparison a0 a1 t) := by
  unfold askComparison
  repeat' (first | lift_lets | with_reducible exact h | with_reducible apply onward_ite | with_reducible apply modVoter_onward | split)

theorem dissents_onward {s t : State} (h : Onward s t) (a0 : Lane) (a1 : VoteTake) : Onward s (dissents a0 a1 t) := by
  unfold dissents
  repeat' (first | (intro y; refine onward_cut (s := s) (y := y) ?_ ?_; rotate_left; (intro hy; clear_value y); rotate_right; subst y)
                 | lift_lets | with_reducible exact h | with_reducible assumption | with_reducible apply askComparison_onward
                 | with_reducible apply modHealth_onward | with_reducible apply loseVoter_onward)

theorem traceDecision_onward {s t : State} (h : Onward s t) (a0 : VoteTake) (a1 : ℕ) (a2 : Option Lane) : Onward s (traceDecision a0 a1 a2 t) := by
  unfold traceDecision
  repeat' (first | lift_lets | with_reducible exact h | with_reducible apply traceAdd_onward)

theorem lateDissent_onward {s t : State} (h : Onward s t) (a0 : VoteTake) (a1 : Lane) : Onward s (lateDissent a0 a1 t) := by
  unfold lateDissent
  repeat' (first | (intro y; clear_value y) | lift_lets | with_reducible exact h | with_reducible apply closeTake_onward
                 | with_reducible apply dissents_onward | with_reducible apply traceDecision_onward)

theorem markReleased_onward {s t : State} (h : Onward s t) (a0 : VoteTake) (a1 : List Lane) : Onward s (markReleased a0 a1 t) := by
  unfold markReleased
  repeat' (first | lift_lets | with_reducible exact h | with_reducible apply modVote_onward)

theorem checkFails_onward {s t : State} (h : Onward s t) (a0 : VoteTake) (a1 : Word64) (a2 : List Lane) : Onward s (checkFails a0 a1 a2 t) := by
  unfold checkFails
  repeat' (first | intro _ | lift_lets | with_reducible exact h | with_reducible assumption | with_reducible apply onward_ite
                 | with_reducible apply onward_foldl | with_reducible apply loseVoter_onward)

theorem answerReads_onward {s t : State} (h : Onward s t) (a0 : Image) (a1 : VoteTake) (a2 : List Lane) : Onward s (answerReads a0 a1 a2 t) := by
  unfold answerReads
  repeat' (first | (intro y; refine onward_cut (s := s) (y := y) ?_ ?_; rotate_left; (intro hy; clear_value y); rotate_right; subst y)
                 | (intro (y : _ → _); subst y; try beta_reduce) | (intro y; clear_value y) | intro _ | lift_lets | with_reducible exact h
                 | with_reducible assumption | with_reducible apply onward_foldl | with_reducible apply modProg_onward
                 | with_reducible apply completeEntry_onward | with_reducible apply loseVoter_onward | split)

theorem recutVoted_onward {s t : State} (h : Onward s t) : Onward s (recutVoted t) := by
  unfold recutVoted
  repeat' (first | lift_lets | with_reducible exact h | with_reducible apply onward_ite | with_reducible apply beginCommit_onward
                 | with_reducible apply modProg_onward | split)

theorem compareOwn_onward {s t : State} (h : Onward s t) (a0 : Image) (a1 : TaskRec) (a2 : VoteTake) (a3 : ℕ) (a4 : Word64) (a5 : Lane)
    (a6 : List SerialRecord) :
    Onward s (compareOwn a0 a1 a2 a3 a4 a5 a6 t) := by
  unfold compareOwn
  repeat' (first | (intro y; refine onward_cut (s := s) (y := y) ?_ ?_; rotate_left; (intro hy; clear_value y); rotate_right; subst y)
                 | (intro y; clear_value y) | intro _ | lift_lets | with_reducible exact h | with_reducible assumption
                 | with_reducible apply onward_foldl | with_reducible apply applyCueRequest_onward | with_reducible apply recutVoted_onward
                 | with_reducible apply modTask_onward | with_reducible apply ownDecided_onward)

theorem acceptVoted_onward {s t : State} (h : Onward s t) (a0 : ℕ) (a1 : Bytes) (a2 : ℕ) : Onward s (acceptVoted a0 a1 a2 t) := by
  unfold acceptVoted
  repeat' (first | (intro y; refine onward_cut (s := s) (y := y) ?_ ?_; rotate_left; (intro hy; clear_value y); rotate_right; subst y)
                 | (intro (y : _ → _); subst y; try beta_reduce) | (intro y; clear_value y) | exact id | intro _ | lift_lets
                 | with_reducible exact h | with_reducible assumption | with_reducible apply modMbx_onward | with_reducible apply present_onward
                 | with_reducible exact commands_onward _ _ (by assumption))

theorem issueVoted_onward {s t : State} (h : Onward s t) (a0 : ℕ) (a1 : SerialRecord) : Onward s (issueVoted a0 a1 t) := by
  unfold issueVoted
  repeat' (first | (intro (y : _ → _); subst y; try beta_reduce) | (intro y; clear_value y) | exact id | lift_lets | with_reducible exact h
                 | with_reducible apply onward_ite | with_reducible apply acceptVoted_onward | with_reducible apply modMbx_onward)

theorem issueCommands_onward {s t : State} (h : Onward s t) (a0 : ℕ) (a1 : VoteTake) (a2 : List SerialRecord) :
    Onward s (issueCommands a0 a1 a2 t) := by
  unfold issueCommands
  repeat' (first | (intro y; refine onward_cut (s := s) (y := y) ?_ ?_; rotate_left; (intro hy; clear_value y); rotate_right; subst y) | exact id
                 | intro _ | lift_lets | with_reducible exact h | with_reducible assumption | with_reducible apply onward_foldl
                 | with_reducible apply issueVoted_onward | with_reducible apply modMbx_onward)

theorem releaseOutput_onward {s t : State} (h : Onward s t) (a0 : ℕ) (a1 : Bool) (a2 : ℕ) : Onward s (releaseOutput a0 a1 a2 t) := by
  unfold releaseOutput
  repeat' (first | lift_lets | with_reducible exact h | with_reducible apply modOutput_onward)

theorem releaseBinding_onward {s t : State} (h : Onward s t) (a0 : Image) (a1 : ℕ) (a2 : List SerialRecord) (a3 : OutputBinding) :
    Onward s (releaseBinding a0 a1 a2 a3 t) := by
  unfold releaseBinding
  repeat' (first | lift_lets | with_reducible exact h | with_reducible apply publishFlow_onward | with_reducible apply releaseOutput_onward
                 | with_reducible apply releaseMvb_onward | split)

theorem applicationRecord_onward {s t : State} (h : Onward s t) (a0 : VoteTake) (a1 : SerialRecord) : Onward s (applicationRecord a0 a1 t) := by
  unfold applicationRecord
  repeat' (first | lift_lets | with_reducible exact h | with_reducible apply makeRecord_onward)

theorem keepValue_onward {s t : State} (h : Onward s t) (a0 : Image) (a1 : SerialRecord) : Onward s (keepValue a0 a1 t) := by
  unfold keepValue
  repeat' (first | (intro y; refine onward_cut (s := s) (y := y) ?_ ?_; rotate_left; (intro hy; clear_value y); rotate_right; subst y)
                 | lift_lets | with_reducible exact h | with_reducible assumption | with_reducible apply onward_ite
                 | with_reducible apply modPair_onward | with_reducible apply modProg_onward)

theorem releaseImage_onward {s t : State} (h : Onward s t) (a0 : Image) (a1 : TaskRec) (a2 : VoteTake) (a3 : ℕ) (a4 : List SerialRecord) :
    Onward s (releaseImage a0 a1 a2 a3 a4 t) := by
  unfold releaseImage
  repeat' (first | (intro y; refine onward_cut (s := s) (y := y) ?_ ?_; rotate_left; (intro hy; clear_value y); rotate_right; subst y) | intro _
                 | lift_lets | with_reducible exact h | with_reducible assumption | with_reducible apply onward_ite
                 | with_reducible apply onward_foldl | with_reducible apply releaseBinding_onward | with_reducible apply evaluateGates_onward
                 | with_reducible apply releaseCues_onward | with_reducible apply applicationRecord_onward
                 | with_reducible apply keepValue_onward | with_reducible apply emit_onward)

theorem releaseTake_onward {s t : State} (h : Onward s t) (a0 : Image) (a1 : TaskRec) (a2 : VoteTake) (a3 : ℕ) (a4 : List SerialRecord) :
    Onward s (releaseTake a0 a1 a2 a3 a4 t) := by
  unfold releaseTake
  repeat' (first | (intro y; refine onward_cut (s := s) (y := y) ?_ ?_; rotate_left; (intro hy; clear_value y); rotate_right; subst y)
                 | lift_lets | with_reducible exact h | with_reducible assumption | with_reducible apply issueCommands_onward
                 | with_reducible apply releaseImage_onward | with_reducible apply recutVoted_onward | with_reducible apply modTask_onward)

theorem releaseSerial_onward {s t : State} (h : Onward s t) (a0 : Image) (a1 : TaskRec) (a2 : VoteTake) (a3 : Word64) (a4 : List Lane)
    (a5 : List Lane) :
    Onward s (releaseSerial a0 a1 a2 a3 a4 a5 t) := by
  unfold releaseSerial
  repeat' (first | (intro y; clear_value y) | lift_lets | with_reducible exact h | with_reducible apply onward_ite
                 | with_reducible apply answerReads_onward | with_reducible apply compareOwn_onward | with_reducible apply releaseTake_onward
                 | split)

theorem sendTakeEnd_onward {s t : State} (h : Onward s t) (a0 : Image) (a1 : TaskRec) (a2 : VoteTake) (a3 : ℕ) (a4 : ℕ) (a5 : Word64) :
    Onward s (sendTakeEnd a0 a1 a2 a3 a4 a5 t) := by
  unfold sendTakeEnd
  repeat' (first | lift_lets | with_reducible exact h | with_reducible apply onward_ite | with_reducible apply slipstream_onward)

theorem endRelease_onward {s t : State} (h : Onward s t) (a0 : Image) (a1 : TaskRec) (a2 : VoteTake) (a3 : Word64) (a4 : List Lane) (a5 : List Lane) :
    Onward s (endRelease a0 a1 a2 a3 a4 a5 t) := by
  unfold endRelease
  repeat' (first | lift_lets | with_reducible exact h | with_reducible apply onward_ite | with_reducible apply sendTakeEnd_onward | split)

theorem afterDecision_onward {s t : State} (h : Onward s t) : Onward s (afterDecision t) := by
  unfold afterDecision
  repeat' (first | (intro y; refine onward_cut (s := s) (y := y) ?_ ?_; rotate_left; (intro hy; clear_value y); rotate_right; subst y)
                 | lift_lets | with_reducible exact h | with_reducible assumption | with_reducible apply onward_ite
                 | with_reducible apply modProg_onward | with_reducible apply handoverStep_onward | with_reducible apply stopSteps_onward | split)

theorem decideRelease_onward {s t : State} (h : Onward s t) (a0 : Image) (a1 : TaskRec) (a2 : VoteTake) (a3 : Word64) (a4 : List Lane)
    (a5 : List Lane) :
    Onward s (decideRelease a0 a1 a2 a3 a4 a5 t) := by
  unfold decideRelease
  repeat' (first | (intro y; refine onward_cut (s := s) (y := y) ?_ ?_; rotate_left; (intro hy; clear_value y); rotate_right; subst y)
                 | (intro y; clear_value y) | intro _ | lift_lets | with_reducible exact h | with_reducible assumption
                 | with_reducible apply onward_ite | with_reducible apply onward_foldl | with_reducible apply traceDecision_onward
                 | with_reducible apply markReleased_onward | with_reducible apply countShadow_onward | with_reducible apply inMajority_onward
                 | with_reducible apply checkFails_onward | with_reducible apply releaseSerial_onward
                 | with_reducible apply compareProbation_onward | with_reducible apply reshootAtVote_onward
                 | with_reducible apply endRelease_onward | with_reducible apply dissents_onward | with_reducible apply closeTake_onward
                 | with_reducible apply resyncAtVote_onward | with_reducible apply afterDecision_onward)

theorem decideLockout_onward {s t : State} (h : Onward s t) (a0 : Bool) (a1 : Image) (a2 : TaskRec) (a3 : VoteTake) :
    Onward s (decideLockout a0 a1 a2 a3 t) := by
  unfold decideLockout
  repeat' (first | (intro y; refine onward_cut (s := s) (y := y) ?_ ?_; rotate_left; (intro hy; clear_value y); rotate_right; subst y)
                 | lift_lets | with_reducible exact h | with_reducible assumption | with_reducible apply sendTakeEnd_onward
                 | with_reducible apply traceDecision_onward | with_reducible apply voteLockout_onward)

theorem arrival_onward {s t : State} (h : Onward s t) (a0 : Image) (a1 : TaskRec) (a2 : VoteTake) (a3 : Lane) : Onward s (arrival a0 a1 a2 a3 t) := by
  unfold arrival
  repeat' (first | lift_lets | with_reducible exact h | with_reducible apply onward_ite | with_reducible apply joinMajority_onward
                 | with_reducible apply lateDissent_onward | with_reducible apply decideRelease_onward
                 | with_reducible apply decideLockout_onward | split)

theorem voterReceives_onward {s t : State} (h : Onward s t) (a0 : Image) (a1 : TaskRec) (a2 : VoteTake) (a3 : Lane) (a4 : Word64)
    (a5 : List SerialRecord) :
    Onward s (voterReceives a0 a1 a2 a3 a4 a5 t) := by
  unfold voterReceives
  repeat' (first | (intro y; refine onward_cut (s := s) (y := y) ?_ ?_; rotate_left; (intro hy; clear_value y); rotate_right; subst y)
                 | (intro y; refine onward3_cut (s := s) (y := y) ?_ ?_; rotate_left; (intro hy; clear_value y); rotate_right; subst y)
                 | (intro y; clear_value y) | lift_lets | with_reducible exact h | with_reducible assumption | with_reducible apply onward_ite
                 | with_reducible apply onward3_mk | with_reducible apply modVote_onward | with_reducible apply arrival_onward
                 | with_reducible apply closeTake_onward | with_reducible apply compareProbation_onward
                 | with_reducible apply corruptSignature_state | exact Onward3.out (by assumption) | split)

theorem execSafetyStatus_onward {s t : State} (h : Onward s t) (a0 : Msg) : Onto s (execSafetyStatus a0 t) := by
  unfold execSafetyStatus
  repeat' (first | lift_lets | with_reducible exact h | with_reducible apply command_onward)

theorem windowMismatch_onward {s t : State} (h : Onward s t) : Onward s (windowMismatch t) := by
  unfold windowMismatch
  repeat' (first | exact id | lift_lets | with_reducible exact h | with_reducible apply modMbx_onward)

theorem meetsVoted_onward {s t : State} (h : Onward s t) (a0 : Lane) (a1 : VotedIssue) (a2 : Bytes) : Onward s (meetsVoted a0 a1 a2 t) := by
  unfold meetsVoted
  repeat' (first | exact id | lift_lets | with_reducible exact h | with_reducible apply onward_ite | with_reducible apply acceptVoted_onward
                 | with_reducible apply modMbx_onward | with_reducible apply windowMismatch_onward)

theorem pairCopy_onward {s t : State} (h : Onward s t) (a0 : Lane) (a1 : ℕ) (a2 : Bytes) : Onward s (pairCopy a0 a1 a2 t) := by
  unfold pairCopy
  repeat' (first | (intro (y : _ → _); subst y; try beta_reduce) | (intro y; clear_value y) | exact id | lift_lets | with_reducible exact h
                 | with_reducible apply onward_ite | with_reducible apply acceptVoted_onward | with_reducible apply modMbx_onward)

theorem joinPaired_onward {s t : State} (h : Onward s t) (a0 : Lane) (a1 : VotedIssue) : Onward s (joinPaired a0 a1 t) := by
  unfold joinPaired
  repeat' (first | exact id | lift_lets | with_reducible exact h | with_reducible apply modWindow_onward | with_reducible apply modMbx_onward)

theorem takeCopy_onward {s t : State} (h : Onward s t) (a0 : Lane) (a1 : ℕ) (a2 : Bytes) : Onward s (takeCopy a0 a1 a2 t) := by
  unfold takeCopy
  repeat' (first | (intro (y : _ → _); subst y; try beta_reduce) | (intro y; clear_value y) | lift_lets | with_reducible exact h
                 | with_reducible apply onward_ite | with_reducible apply meetsVoted_onward | with_reducible apply windowMismatch_onward
                 | with_reducible apply pairCopy_onward | with_reducible apply joinPaired_onward | split)

theorem execLaunchFlush_onward {s t : State} (h : Onward s t) (a0 : Msg) : Onto s (execLaunchFlush a0 t) := by
  unfold execLaunchFlush
  repeat' (first | lift_lets | with_reducible exact h | with_reducible apply command_onward)

theorem execLaunchWrite_onward {s t : State} (h : Onward s t) (a0 : Msg) : Onto s (execLaunchWrite a0 t) := by
  unfold execLaunchWrite
  repeat' (first | lift_lets | with_reducible exact h | with_reducible apply command_onward)

theorem execTamperAcknowledge_onward {s t : State} (h : Onward s t) (a0 : Msg) : Onto s (execTamperAcknowledge a0 t) := by
  unfold execTamperAcknowledge
  repeat' (first | lift_lets | with_reducible exact h | with_reducible apply command_onward)

theorem execLockoutEnter_onward {s t : State} (h : Onward s t) (a0 : Msg) : Onto s (execLockoutEnter a0 t) := by
  unfold execLockoutEnter
  repeat' (first | lift_lets | with_reducible exact h | with_reducible apply command_onward)

theorem execLaneStatus_onward {s t : State} (h : Onward s t) (a0 : Msg) : Onto s (execLaneStatus a0 t) := by
  unfold execLaneStatus
  repeat' (first | lift_lets | with_reducible exact h | with_reducible apply command_onward)

theorem execHeartbeat_onward {s t : State} (h : Onward s t) : Onto s (execHeartbeat t) := by
  unfold execHeartbeat
  repeat' (first | (intro y; refine onward_cut (s := s) (y := y) ?_ ?_; rotate_left; (intro hy; clear_value y); rotate_right; subst y)
                 | lift_lets | with_reducible exact h | with_reducible assumption | with_reducible apply onto_next
                 | with_reducible apply onto_ite | with_reducible apply reach_onward | with_reducible apply modNet_onward
                 | with_reducible apply emit_onward)

theorem execLockoutReset_onward {s t : State} (h : Onward s t) (a0 : Msg) : Onto s (execLockoutReset a0 t) := by
  unfold execLockoutReset
  repeat' (first | lift_lets | with_reducible exact h | with_reducible apply command_onward)

theorem execPairBudget_onward {s t : State} (h : Onward s t) (a0 : Msg) : Onto s (execPairBudget a0 t) := by
  unfold execPairBudget
  repeat' (first | lift_lets | with_reducible exact h | with_reducible apply command_onward)

theorem execFlowStatus_onward {s t : State} (h : Onward s t) (a0 : Msg) : Onto s (execFlowStatus a0 t) := by
  unfold execFlowStatus
  repeat' (first | lift_lets | with_reducible exact h | with_reducible apply command_onward)

theorem execTestEnter_onward {s t : State} (h : Onward s t) (a0 : Msg) : Onto s (execTestEnter a0 t) := by
  unfold execTestEnter
  repeat' (first | lift_lets | with_reducible exact h | with_reducible apply command_onward)

theorem execTimeStatus_onward {s t : State} (h : Onward s t) (a0 : Msg) : Onto s (execTimeStatus a0 t) := by
  unfold execTimeStatus
  repeat' (first | lift_lets | with_reducible exact h | with_reducible apply command_onward)

theorem execClassControl_onward {s t : State} (h : Onward s t) (a0 : Msg) : Onto s (execClassControl a0 t) := by
  unfold execClassControl
  repeat' (first | lift_lets | with_reducible exact h | with_reducible apply command_onward)

theorem execVoterTest_onward {s t : State} (h : Onward s t) (a0 : Msg) : Onto s (execVoterTest a0 t) := by
  unfold execVoterTest
  repeat' (first | lift_lets | with_reducible exact h | with_reducible apply command_onward)

theorem execCoeffLoad_onward {s t : State} (h : Onward s t) (a0 : Msg) : Onto s (execCoeffLoad a0 t) := by
  unfold execCoeffLoad
  repeat' (first | lift_lets | with_reducible exact h | with_reducible apply command_onward)

theorem execForceList_onward {s t : State} (h : Onward s t) (a0 : Msg) : Onto s (execForceList a0 t) := by
  unfold execForceList
  repeat' (first | lift_lets | with_reducible exact h | with_reducible apply command_onward)

theorem missingLost_onward {s t : State} (h : Onward s t) (a0 : VoteTake) (a1 : Lane) : Onward s (missingLost a0 a1 t) := by
  unfold missingLost
  repeat' (first | (intro y; clear_value y) | lift_lets | with_reducible exact h | with_reducible apply loseVoter_onward
                 | with_reducible apply traceDecision_onward)

theorem execSignalCounters_onward {s t : State} (h : Onward s t) (a0 : Msg) : Onto s (execSignalCounters a0 t) := by
  unfold execSignalCounters
  repeat' (first | lift_lets | with_reducible exact h | with_reducible apply command_onward)

theorem execPositionStatus_onward {s t : State} (h : Onward s t) (a0 : Msg) : Onto s (execPositionStatus a0 t) := by
  unfold execPositionStatus
  repeat' (first | lift_lets | with_reducible exact h | with_reducible apply command_onward)

theorem execFdbRead_onward {s t : State} (h : Onward s t) (a0 : Msg) : Onto s (execFdbRead a0 t) := by
  unfold execFdbRead
  repeat' (first | lift_lets | with_reducible exact h | with_reducible apply command_onward)

theorem countResponse_onward {s t : State} (h : Onward s t) (a0 : Lane) (a1 : LaneTake) : Onward s (countResponse a0 a1 t) := by
  unfold countResponse
  repeat' (first | (intro y; clear_value y) | lift_lets | with_reducible exact h | with_reducible apply modHealth_onward)

theorem postInLane_onward {s t : State} (h : Onward s t) (a0 : Image) (a1 : Lane) (a2 : LaneTake) : Onward1 s (postInLane a0 a1 a2 t) := by
  unfold postInLane
  repeat' (first | (intro y; clear_value y) | lift_lets | with_reducible exact h | with_reducible apply onward1_mk
                 | with_reducible apply countResponse_onward | with_reducible apply modLane_onward)

theorem postInLane_state {s t : State} (h : Onward s t) (a0 : Image) (a1 : Lane) (a2 : LaneTake) : Onward s (postInLane a0 a1 a2 t).1 :=
  (postInLane_onward h a0 a1 a2).out

theorem postSignature_onward {s t : State} (h : Onward s t) (a0 : Image) (a1 : TaskRec) (a2 : VoteTake) (a3 : Lane) (a4 : LaneTake) (a5 : Word64) :
    Onward s (postSignature a0 a1 a2 a3 a4 a5 t) := by
  unfold postSignature
  repeat' (first | (intro y; refine onward1_cut (s := s) (y := y) ?_ ?_; rotate_left; (intro hy; clear_value y); rotate_right; subst y)
                 | lift_lets | with_reducible exact h | with_reducible apply onward1_mk | with_reducible apply voterReceives_onward
                 | with_reducible apply postInLane_state | exact Onward1.out (by assumption))

theorem postUnfinished_onward {s t : State} (h : Onward s t) (a0 : Image) (a1 : TaskRec) (a2 : VoteTake) (a3 : Lane) (a4 : Word64) :
    Onward s (postUnfinished a0 a1 a2 a3 a4 t) := by
  unfold postUnfinished
  repeat' (first | lift_lets | with_reducible exact h | with_reducible apply voterReceives_onward)

theorem execSignaturePost_onward {s t : State} (h : Onward s t) (a0 : Lane) (a1 : ℕ) (a2 : ℕ) (a3 : ℕ) (a4 : Word64) :
    Onto s (execSignaturePost a0 a1 a2 a3 a4 t) := by
  unfold execSignaturePost
  repeat' (first | (intro y; clear_value y) | lift_lets | with_reducible exact h | with_reducible apply onward_ite
                 | with_reducible apply onto_next | with_reducible apply onto_ite | with_reducible apply postSignature_onward
                 | with_reducible apply postUnfinished_onward | with_reducible apply laneFault_onward | split)

theorem execLaneDiagClear_onward {s t : State} (h : Onward s t) (a0 : Msg) : Onto s (execLaneDiagClear a0 t) := by
  unfold execLaneDiagClear
  repeat' (first | lift_lets | with_reducible exact h | with_reducible apply command_onward)

theorem execSourceConfigure_onward {s t : State} (h : Onward s t) (a0 : Msg) : Onto s (execSourceConfigure a0 t) := by
  unfold execSourceConfigure
  repeat' (first | lift_lets | with_reducible exact h | with_reducible apply command_onward)

theorem execSessionLogin_onward {s t : State} (h : Onward s t) (a0 : Msg) : Onto s (execSessionLogin a0 t) := by
  unfold execSessionLogin
  repeat' (first | lift_lets | with_reducible exact h | with_reducible apply command_onward | with_reducible apply countAttempt_onward)

theorem execSignalDissolve_onward {s t : State} (h : Onward s t) (a0 : Msg) : Onto s (execSignalDissolve a0 t) := by
  unfold execSignalDissolve
  repeat' (first | lift_lets | with_reducible exact h | with_reducible apply command_onward)

theorem execModeRequest_onward {s t : State} (h : Onward s t) (a0 : Msg) : Onto s (execModeRequest a0 t) := by
  unfold execModeRequest
  repeat' (first | lift_lets | with_reducible exact h | with_reducible apply command_onward)

theorem execNetSettings_onward {s t : State} (h : Onward s t) (a0 : Msg) : Onto s (execNetSettings a0 t) := by
  unfold execNetSettings
  repeat' (first | lift_lets | with_reducible exact h | with_reducible apply command_onward)

theorem noteGrant_onward {s t : State} (h : Onward s t) (a0 : Resource) (a1 : Entry) : Onward s (noteGrant a0 a1 t) := by
  unfold noteGrant
  repeat' (first | exact id | lift_lets | with_reducible exact h | with_reducible apply modMbx_onward)

theorem execEnrolRequest_onward {s t : State} (h : Onward s t) (a0 : Msg) : Onto s (execEnrolRequest a0 t) := by
  unfold execEnrolRequest
  repeat' (first | lift_lets | with_reducible exact h | with_reducible apply command_onward)

theorem execPairSwitchover_onward {s t : State} (h : Onward s t) (a0 : Msg) : Onto s (execPairSwitchover a0 t) := by
  unfold execPairSwitchover
  repeat' (first | lift_lets | with_reducible exact h | with_reducible apply command_onward)

theorem execRecutStart_onward {s t : State} (h : Onward s t) (a0 : Msg) : Onto s (execRecutStart a0 t) := by
  unfold execRecutStart
  repeat' (first | lift_lets | with_reducible exact h | with_reducible apply command_onward)

theorem execLaneTraceRead_onward {s t : State} (h : Onward s t) (a0 : Msg) : Onto s (execLaneTraceRead a0 t) := by
  unfold execLaneTraceRead
  repeat' (first | lift_lets | with_reducible exact h | with_reducible apply command_onward)

theorem execMvbMap_onward {s t : State} (h : Onward s t) (a0 : Msg) : Onto s (execMvbMap a0 t) := by
  unfold execMvbMap
  repeat' (first | lift_lets | with_reducible exact h | with_reducible apply command_onward)

theorem execChannelControl_onward {s t : State} (h : Onward s t) (a0 : Msg) : Onto s (execChannelControl a0 t) := by
  unfold execChannelControl
  repeat' (first | lift_lets | with_reducible exact h | with_reducible apply command_onward)

theorem execRecorderStatus_onward {s t : State} (h : Onward s t) (a0 : Msg) : Onto s (execRecorderStatus a0 t) := by
  unfold execRecorderStatus
  repeat' (first | lift_lets | with_reducible exact h | with_reducible apply command_onward)

theorem missed_onward {s t : State} (h : Onward s t) (a0 : VoteTake) (a1 : Lane) : Onward s (missed a0 a1 t) := by
  unfold missed
  repeat' (first | (intro y; refine onward_cut (s := s) (y := y) ?_ ?_; rotate_left; (intro hy; clear_value y); rotate_right; subst y) | intro _
                 | lift_lets | with_reducible exact h | with_reducible assumption | with_reducible apply onward_foldl
                 | with_reducible apply modHealth_onward | with_reducible apply abandonTake_onward)

theorem missedProbation_onward {s t : State} (h : Onward s t) (a0 : VoteTake) (a1 : Lane) : Onward s (missedProbation a0 a1 t) := by
  unfold missedProbation
  repeat' (first | lift_lets | with_reducible exact h | with_reducible apply onward_ite | with_reducible apply failReshoot_onward)

theorem atDeadline_onward {s t : State} (h : Onward s t) (a0 : Image) (a1 : TaskRec) (a2 : VoteTake) : Onward s (atDeadline a0 a1 a2 t) := by
  unfold atDeadline
  repeat' (first | (intro y; refine onward_cut (s := s) (y := y) ?_ ?_; rotate_left; (intro hy; clear_value y); rotate_right; subst y)
                 | (intro y; clear_value y) | intro _ | lift_lets | with_reducible exact h | with_reducible assumption
                 | with_reducible apply onward_foldl | with_reducible apply missed_onward | with_reducible apply missedProbation_onward
                 | with_reducible apply modVoter_onward | with_reducible apply missingLost_onward | with_reducible apply decideLockout_onward
                 | split)

theorem decideDue_onward {s t : State} (h : Onward s t) (a0 : Image) (a1 : VoteTake) (a2 : ℕ) : Onward s (decideDue a0 a1 a2 t) := by
  induction a2 generalizing t with
  | zero => exact h
  | succ k ih =>
    unfold decideDue
    split
    · exact h
    · split
      · exact h
      · exact onward_ite (atDeadline_onward (reach_onward h _) _ _ _) (ih (atDeadline_onward (reach_onward h _) _ _ _))

theorem execVoteDeadline_onward {s t : State} (h : Onward s t) (a0 : ℕ) : Onto s (execVoteDeadline a0 t) := by
  unfold execVoteDeadline
  repeat' (first | lift_lets | with_reducible exact h | with_reducible apply onto_next | with_reducible apply decideDue_onward | split)

theorem execMailboxCounters_onward {s t : State} (h : Onward s t) (a0 : Msg) : Onto s (execMailboxCounters a0 t) := by
  unfold execMailboxCounters
  repeat' (first | lift_lets | with_reducible exact h | with_reducible apply command_onward)

theorem execChangeLogRead_onward {s t : State} (h : Onward s t) (a0 : Msg) : Onto s (execChangeLogRead a0 t) := by
  unfold execChangeLogRead
  repeat' (first | lift_lets | with_reducible exact h | with_reducible apply command_onward)

theorem execInputSwitch_onward {s t : State} (h : Onward s t) (a0 : Msg) : Onto s (execInputSwitch a0 t) := by
  unfold execInputSwitch
  repeat' (first | lift_lets | with_reducible exact h | with_reducible apply command_onward)

theorem execImageErase_onward {s t : State} (h : Onward s t) (a0 : Msg) : Onto s (execImageErase a0 t) := by
  unfold execImageErase
  repeat' (first | lift_lets | with_reducible exact h | with_reducible apply command_onward)

theorem execEnrolInstall_onward {s t : State} (h : Onward s t) (a0 : Msg) : Onto s (execEnrolInstall a0 t) := by
  unfold execEnrolInstall
  repeat' (first | lift_lets | with_reducible exact h | with_reducible apply command_onward)

theorem execIdentityRead_onward {s t : State} (h : Onward s t) (a0 : Msg) : Onto s (execIdentityRead a0 t) := by
  unfold execIdentityRead
  repeat' (first | lift_lets | with_reducible exact h | with_reducible apply command_onward)

theorem execMvbPortConfigure_onward {s t : State} (h : Onward s t) (a0 : Msg) : Onto s (execMvbPortConfigure a0 t) := by
  unfold execMvbPortConfigure
  repeat' (first | lift_lets | with_reducible exact h | with_reducible apply command_onward)

theorem execGateConfigure_onward {s t : State} (h : Onward s t) (a0 : Msg) : Onto s (execGateConfigure a0 t) := by
  unfold execGateConfigure
  repeat' (first | lift_lets | with_reducible exact h | with_reducible apply command_onward)

theorem execPairCounters_onward {s t : State} (h : Onward s t) (a0 : Msg) : Onto s (execPairCounters a0 t) := by
  unfold execPairCounters
  repeat' (first | lift_lets | with_reducible exact h | with_reducible apply command_onward)

theorem execNetStatus_onward {s t : State} (h : Onward s t) (a0 : Msg) : Onto s (execNetStatus a0 t) := by
  unfold execNetStatus
  repeat' (first | lift_lets | with_reducible exact h | with_reducible apply command_onward)

theorem execUpdateStatus_onward {s t : State} (h : Onward s t) (a0 : Msg) : Onto s (execUpdateStatus a0 t) := by
  unfold execUpdateStatus
  repeat' (first | lift_lets | with_reducible exact h | with_reducible apply command_onward)

theorem execSessionEnd_onward {s t : State} (h : Onward s t) (a0 : Msg) : Onto s (execSessionEnd a0 t) := by
  unfold execSessionEnd
  repeat' (first | lift_lets | with_reducible exact h | with_reducible apply command_onward)

theorem execRecorderFreeze_onward {s t : State} (h : Onward s t) (a0 : Msg) : Onto s (execRecorderFreeze a0 t) := by
  unfold execRecorderFreeze
  repeat' (first | lift_lets | with_reducible exact h | with_reducible apply command_onward)

theorem execAnchorRotate_onward {s t : State} (h : Onward s t) (a0 : Msg) : Onto s (execAnchorRotate a0 t) := by
  unfold execAnchorRotate
  repeat' (first | lift_lets | with_reducible exact h | with_reducible apply command_onward)

theorem execPairResync_onward {s t : State} (h : Onward s t) (a0 : Msg) : Onto s (execPairResync a0 t) := by
  unfold execPairResync
  repeat' (first | lift_lets | with_reducible exact h | with_reducible apply command_onward)

theorem execMvbCounters_onward {s t : State} (h : Onward s t) (a0 : Msg) : Onto s (execMvbCounters a0 t) := by
  unfold execMvbCounters
  repeat' (first | lift_lets | with_reducible exact h | with_reducible apply command_onward)

theorem execMvbRead_onward {s t : State} (h : Onward s t) (a0 : Msg) : Onto s (execMvbRead a0 t) := by
  unfold execMvbRead
  repeat' (first | lift_lets | with_reducible exact h | with_reducible apply command_onward)

theorem execVariableRead_onward {s t : State} (h : Onward s t) (a0 : Msg) : Onto s (execVariableRead a0 t) := by
  unfold execVariableRead
  repeat' (first | lift_lets | with_reducible exact h | with_reducible apply command_onward)

theorem withRole_onward {s t : State} (h : Onward s t) (a0 : PairRole) : Onward s (withRole a0 t) := by
  unfold withRole
  repeat' (first | lift_lets | with_reducible exact h | with_reducible apply modPair_onward)

theorem applySettings_onward {s t : State} (h : Onward s t) (a0 : ℕ × Bytes) : Onward s (applySettings a0 t) := by
  unfold applySettings
  repeat' (first | (intro y; clear_value y) | lift_lets | with_reducible exact h | with_reducible apply onward_ite
                 | with_reducible apply onward1_mk | with_reducible apply takeBank_onward | with_reducible apply setReason_onward
                 | with_reducible apply failMirror_onward | with_reducible apply withRole_onward | with_reducible apply Command.body_state
                 | refine onward1_of_eq (by assumption) ?_ | with_reducible exact commands_onward _ _ (by assumption) | split)

theorem applyConfiguration_onward {s t : State} (h : Onward s t) (a0 : ℕ) (a1 : List (ℕ × Bytes)) (a2 : List Bytes) (a3 : List (ℕ × ℕ × Bytes)) :
    Onward s (applyConfiguration a0 a1 a2 a3 t) := by
  unfold applyConfiguration
  repeat' (first | (intro y; refine onward_cut (s := s) (y := y) ?_ ?_; rotate_left; (intro hy; clear_value y); rotate_right; subst y) | intro _
                 | lift_lets | with_reducible exact h | with_reducible assumption | with_reducible apply onward_foldl
                 | with_reducible apply applySettings_onward | with_reducible apply copyToken_onward | with_reducible apply mirrorForces_onward
                 | with_reducible apply joinProgram_onward | with_reducible apply modPair_onward)

theorem resyncHeard_onward {s t : State} (h : Onward s t) (a0 : PairResync) : Onto s (resyncHeard a0 t) := by
  unfold resyncHeard
  repeat' (first | intro _ | lift_lets | with_reducible exact h | with_reducible assumption | with_reducible apply onward_ite
                 | with_reducible apply onto_next | with_reducible apply onto_ite | with_reducible apply asStandby_onward
                 | with_reducible apply applyConfiguration_onward | with_reducible apply receiveImage_onward
                 | with_reducible apply stateReceived_onward | split)

theorem execPositionMark_onward {s t : State} (h : Onward s t) (a0 : Msg) : Onto s (execPositionMark a0 t) := by
  unfold execPositionMark
  repeat' (first | lift_lets | with_reducible exact h | with_reducible apply command_onward)

theorem execMvbUnlock_onward {s t : State} (h : Onward s t) (a0 : Msg) : Onto s (execMvbUnlock a0 t) := by
  unfold execMvbUnlock
  repeat' (first | lift_lets | with_reducible exact h | with_reducible apply command_onward)

theorem execProgramStart_onward {s t : State} (h : Onward s t) (a0 : Msg) : Onto s (execProgramStart a0 t) := by
  unfold execProgramStart
  repeat' (first | lift_lets | with_reducible exact h | with_reducible apply command_onward)

theorem execSlipResync_onward {s t : State} (h : Onward s t) (a0 : Arrived PairResync) : Onto s (execSlipResync a0 t) := by
  unfold execSlipResync
  repeat' (first | intro _ | lift_lets | with_reducible exact h | with_reducible assumption | with_reducible apply heard_onward
                 | with_reducible apply resyncHeard_onward)

theorem execTimeConfigure_onward {s t : State} (h : Onward s t) (a0 : Msg) : Onto s (execTimeConfigure a0 t) := by
  unfold execTimeConfigure
  repeat' (first | lift_lets | with_reducible exact h | with_reducible apply command_onward)

theorem execActivationTrigger_onward {s t : State} (h : Onward s t) (a0 : Msg) : Onto s (execActivationTrigger a0 t) := by
  unfold execActivationTrigger
  repeat' (first | lift_lets | with_reducible exact h | with_reducible apply command_onward)

theorem portLink_onward {s t : State} (h : Onward s t) (a0 : ℕ) (a1 : Bool) (a2 : ℕ) : Onward s (portLink a0 a1 a2 t) := by
  unfold portLink
  repeat' (first | lift_lets | with_reducible exact h | with_reducible apply modPort_onward)

theorem cutRefused_onward {s t : State} (h : Onward s t) (a0 : CutFor) (a1 : ℕ) (a2 : ℕ) (a3 : Bytes) : Onward s (cutRefused a0 a1 a2 a3 t) := by
  unfold cutRefused
  repeat' (first | lift_lets | with_reducible exact h | with_reducible apply completeEntry_onward | with_reducible apply failSlot_onward
                 | with_reducible apply setReason_onward | with_reducible apply failReshoot_onward | split)

theorem execCutterTranslationDone_onward {s t : State} (h : Onward s t) (a0 : CutterReport) : Onto s (execCutterTranslationDone a0 t) := by
  unfold execCutterTranslationDone
  have g := nextCut_onward h
  generalize nextCut t = u at g
  simp only
  split
  · exact onto_next g
  · rename_i slot why _
    have r := (cut_onward (modProg_onward g fun p => { p with cutting := none }) slot a0).out
    generalize cut slot a0 (modProg (fun p => { p with cutting := none }) u) = x at r
    refine onto_next (nextCut_onward ?_)
    split
    · exact r
    · exact cutRefused_onward r _ _ _ _
    · exact cutDone_onward r _ _ _ _

theorem execLaneCopyTakeover_onward {s t : State} (h : Onward s t) (a0 : Lane) (a1 : Fin 16) : Onto s (execLaneCopyTakeover a0 a1 t) := by
  unfold execLaneCopyTakeover
  repeat' (first | (intro y; refine onward_cut (s := s) (y := y) ?_ ?_; rotate_left; (intro hy; clear_value y); rotate_right; subst y)
                 | (intro y; clear_value y) | lift_lets | with_reducible exact h | with_reducible assumption | with_reducible apply onto_next
                 | with_reducible apply onto_ite | with_reducible apply modChannel_onward | with_reducible apply countHeaderError_onward
                 | with_reducible apply takeCopy_onward | split)

theorem execSelfTestRun_onward {s t : State} (h : Onward s t) (a0 : Msg) : Onto s (execSelfTestRun a0 t) := by
  unfold execSelfTestRun
  repeat' (first | lift_lets | with_reducible exact h | with_reducible apply command_onward)

theorem execMessageDataReceive_onward {s t : State} (h : Onward s t) (a0 : ℕ) (a1 : ℕ) (a2 : Bytes) : Onto s (execMessageDataReceive a0 a1 a2 t) := by
  unfold execMessageDataReceive
  repeat' (first | (intro y; refine onward_cut (s := s) (y := y) ?_ ?_; rotate_left; (intro hy; clear_value y); rotate_right; subst y) | intro _
                 | lift_lets | with_reducible exact h | with_reducible assumption | with_reducible apply onto_next
                 | with_reducible apply onto_ite | with_reducible apply toReel_onward | with_reducible apply countMessage_onward
                 | with_reducible apply receive_onward | with_reducible exact commands_onward _ _ (by assumption) | split)

theorem execActivationStatus_onward {s t : State} (h : Onward s t) (a0 : Msg) : Onto s (execActivationStatus a0 t) := by
  unfold execActivationStatus
  repeat' (first | lift_lets | with_reducible exact h | with_reducible apply command_onward)

theorem execMvbDevices_onward {s t : State} (h : Onward s t) (a0 : Msg) : Onto s (execMvbDevices a0 t) := by
  unfold execMvbDevices
  repeat' (first | lift_lets | with_reducible exact h | with_reducible apply command_onward)

theorem execForceClear_onward {s t : State} (h : Onward s t) (a0 : Msg) : Onto s (execForceClear a0 t) := by
  unfold execForceClear
  repeat' (first | lift_lets | with_reducible exact h | with_reducible apply command_onward)

theorem execCueStatus_onward {s t : State} (h : Onward s t) (a0 : Msg) : Onto s (execCueStatus a0 t) := by
  unfold execCueStatus
  repeat' (first | lift_lets | with_reducible exact h | with_reducible apply command_onward)

theorem execUpdateStage_onward {s t : State} (h : Onward s t) (a0 : Msg) : Onto s (execUpdateStage a0 t) := by
  unfold execUpdateStage
  repeat' (first | lift_lets | with_reducible exact h | with_reducible apply command_onward)

theorem execLaneIsolate_onward {s t : State} (h : Onward s t) (a0 : Msg) : Onto s (execLaneIsolate a0 t) := by
  unfold execLaneIsolate
  repeat' (first | lift_lets | with_reducible exact h | with_reducible apply command_onward)

theorem execFlowConfigure_onward {s t : State} (h : Onward s t) (a0 : Msg) : Onto s (execFlowConfigure a0 t) := by
  unfold execFlowConfigure
  repeat' (first | lift_lets | with_reducible exact h | with_reducible apply command_onward)

theorem execMvbPortControl_onward {s t : State} (h : Onward s t) (a0 : Msg) : Onto s (execMvbPortControl a0 t) := by
  unfold execMvbPortControl
  repeat' (first | lift_lets | with_reducible exact h | with_reducible apply command_onward)

theorem execMvbWrite_onward {s t : State} (h : Onward s t) (a0 : Msg) : Onto s (execMvbWrite a0 t) := by
  unfold execMvbWrite
  repeat' (first | lift_lets | with_reducible exact h | with_reducible apply command_onward)

theorem execForceSet_onward {s t : State} (h : Onward s t) (a0 : Msg) : Onto s (execForceSet a0 t) := by
  unfold execForceSet
  repeat' (first | lift_lets | with_reducible exact h | with_reducible apply command_onward)

theorem controlHeard_onward {s t : State} (h : Onward s t) (a0 : PairControl) : Onto s (controlHeard a0 t) := by
  unfold controlHeard
  repeat' (first | intro _ | lift_lets | with_reducible exact h | with_reducible assumption | with_reducible apply onto_next
                 | with_reducible apply onto_ite | with_reducible apply asStandby_onward | with_reducible apply applySettings_onward
                 | with_reducible apply applyControl_onward | split)

theorem execSafeIoTest_onward {s t : State} (h : Onward s t) (a0 : Msg) : Onto s (execSafeIoTest a0 t) := by
  unfold execSafeIoTest
  repeat' (first | lift_lets | with_reducible exact h | with_reducible apply command_onward)

theorem execTokenQuery_onward {s t : State} (h : Onward s t) (a0 : Msg) : Onto s (execTokenQuery a0 t) := by
  unfold execTokenQuery
  repeat' (first | lift_lets | with_reducible exact h | with_reducible apply command_onward)

theorem execChannelConfigure_onward {s t : State} (h : Onward s t) (a0 : Msg) : Onto s (execChannelConfigure a0 t) := by
  unfold execChannelConfigure
  repeat' (first | lift_lets | with_reducible exact h | with_reducible apply command_onward)

theorem execRetentiveCommitComplete_onward {s t : State} (h : Onward s t) (a0 : Bool) : Onto s (execRetentiveCommitComplete a0 t) := by
  unfold execRetentiveCommitComplete
  repeat' (first | (intro y; refine onward_cut (s := s) (y := y) ?_ ?_; rotate_left; (intro hy; clear_value y); rotate_right; subst y)
                 | lift_lets | with_reducible exact h | with_reducible assumption | with_reducible apply onward_ite
                 | with_reducible apply onto_next | with_reducible apply onto_ite | with_reducible apply endCommitStep_onward
                 | with_reducible apply updateStopped_onward | with_reducible apply failMirror_onward)

theorem execFlowControl_onward {s t : State} (h : Onward s t) (a0 : Msg) : Onto s (execFlowControl a0 t) := by
  unfold execFlowControl
  repeat' (first | lift_lets | with_reducible exact h | with_reducible apply command_onward)

theorem execRecorderClearRequest_onward {s t : State} (h : Onward s t) (a0 : Msg) : Onto s (execRecorderClearRequest a0 t) := by
  unfold execRecorderClearRequest
  repeat' (first | lift_lets | with_reducible exact h | with_reducible apply command_onward)

theorem execModuleStatus_onward {s t : State} (h : Onward s t) (a0 : Msg) : Onto s (execModuleStatus a0 t) := by
  unfold execModuleStatus
  repeat' (first | lift_lets | with_reducible exact h | with_reducible apply command_onward)

theorem execOwnerLock_onward {s t : State} (h : Onward s t) (a0 : Msg) : Onto s (execOwnerLock a0 t) := by
  unfold execOwnerLock
  repeat' (first | lift_lets | with_reducible exact h | with_reducible apply command_onward)

theorem execPositionCounters_onward {s t : State} (h : Onward s t) (a0 : Msg) : Onto s (execPositionCounters a0 t) := by
  unfold execPositionCounters
  repeat' (first | lift_lets | with_reducible exact h | with_reducible apply command_onward)

theorem execPairHealth_onward {s t : State} (h : Onward s t) (a0 : Msg) : Onto s (execPairHealth a0 t) := by
  unfold execPairHealth
  repeat' (first | lift_lets | with_reducible exact h | with_reducible apply command_onward)

theorem execPairConfigure_onward {s t : State} (h : Onward s t) (a0 : Msg) : Onto s (execPairConfigure a0 t) := by
  unfold execPairConfigure
  repeat' (first | lift_lets | with_reducible exact h | with_reducible apply command_onward)

theorem execPositionAt_onward {s t : State} (h : Onward s t) (a0 : Msg) : Onto s (execPositionAt a0 t) := by
  unfold execPositionAt
  repeat' (first | lift_lets | with_reducible exact h | with_reducible apply command_onward)

theorem execPositionConfigure_onward {s t : State} (h : Onward s t) (a0 : Msg) : Onto s (execPositionConfigure a0 t) := by
  unfold execPositionConfigure
  repeat' (first | lift_lets | with_reducible exact h | with_reducible apply command_onward)

theorem execSquallSet_onward {s t : State} (h : Onward s t) (a0 : Msg) : Onto s (execSquallSet a0 t) := by
  unfold execSquallSet
  repeat' (first | lift_lets | with_reducible exact h | with_reducible apply command_onward)

theorem execTestExit_onward {s t : State} (h : Onward s t) (a0 : Msg) : Onto s (execTestExit a0 t) := by
  unfold execTestExit
  repeat' (first | lift_lets | with_reducible exact h | with_reducible apply command_onward)

theorem execSessionList_onward {s t : State} (h : Onward s t) (a0 : Msg) : Onto s (execSessionList a0 t) := by
  unfold execSessionList
  repeat' (first | lift_lets | with_reducible exact h | with_reducible apply command_onward)

theorem execProgramStop_onward {s t : State} (h : Onward s t) (a0 : Msg) : Onto s (execProgramStop a0 t) := by
  unfold execProgramStop
  repeat' (first | lift_lets | with_reducible exact h | with_reducible apply command_onward)

theorem execActivationCounters_onward {s t : State} (h : Onward s t) (a0 : Msg) : Onto s (execActivationCounters a0 t) := by
  unfold execActivationCounters
  repeat' (first | lift_lets | with_reducible exact h | with_reducible apply command_onward)

theorem resourceDone_onward {s t : State} (h : Onward s t) (a0 : Entry) : Onward s (resourceDone a0 t) := by
  unfold resourceDone
  repeat' (first | lift_lets | with_reducible exact h | with_reducible apply chunkWritten_onward | with_reducible apply stageWritten_onward | split)

theorem execResourceGrant_onward {s t : State} (h : Onward s t) (a0 : Resource) : Onto s (execResourceGrant a0 t) := by
  unfold execResourceGrant
  repeat' (first | (intro y; refine onward_cut (s := s) (y := y) ?_ ?_; rotate_left; (intro hy; clear_value y); rotate_right; subst y) | intro _
                 | lift_lets | with_reducible exact h | with_reducible assumption | with_reducible apply onto_next
                 | with_reducible apply onto_ite | with_reducible apply resourceDone_onward | with_reducible apply serve_onward
                 | with_reducible apply noteGrant_onward | with_reducible exact commands_onward _ _ (by assumption) | split)

theorem execPortCounters_onward {s t : State} (h : Onward s t) (a0 : Msg) : Onto s (execPortCounters a0 t) := by
  unfold execPortCounters
  repeat' (first | lift_lets | with_reducible exact h | with_reducible apply command_onward)

theorem execActivationHold_onward {s t : State} (h : Onward s t) (a0 : Msg) : Onto s (execActivationHold a0 t) := by
  unfold execActivationHold
  repeat' (first | lift_lets | with_reducible exact h | with_reducible apply command_onward)

theorem execCueControl_onward {s t : State} (h : Onward s t) (a0 : Msg) : Onto s (execCueControl a0 t) := by
  unfold execCueControl
  repeat' (first | lift_lets | with_reducible exact h | with_reducible apply command_onward)

theorem execSourceMask_onward {s t : State} (h : Onward s t) (a0 : Msg) : Onto s (execSourceMask a0 t) := by
  unfold execSourceMask
  repeat' (first | lift_lets | with_reducible exact h | with_reducible apply command_onward)

theorem execFrerConfigure_onward {s t : State} (h : Onward s t) (a0 : Msg) : Onto s (execFrerConfigure a0 t) := by
  unfold execFrerConfigure
  repeat' (first | lift_lets | with_reducible exact h | with_reducible apply command_onward)

theorem execFdbUnpin_onward {s t : State} (h : Onward s t) (a0 : Msg) : Onto s (execFdbUnpin a0 t) := by
  unfold execFdbUnpin
  repeat' (first | lift_lets | with_reducible exact h | with_reducible apply command_onward)

theorem execMvbLock_onward {s t : State} (h : Onward s t) (a0 : Msg) : Onto s (execMvbLock a0 t) := by
  unfold execMvbLock
  repeat' (first | lift_lets | with_reducible exact h | with_reducible apply command_onward)

theorem execTimePortStatus_onward {s t : State} (h : Onward s t) (a0 : Msg) : Onto s (execTimePortStatus a0 t) := by
  unfold execTimePortStatus
  repeat' (first | lift_lets | with_reducible exact h | with_reducible apply command_onward)

theorem execLaneReshoot_onward {s t : State} (h : Onward s t) (a0 : Msg) : Onto s (execLaneReshoot a0 t) := by
  unfold execLaneReshoot
  repeat' (first | lift_lets | with_reducible exact h | with_reducible apply command_onward)

theorem execSafetyParamActivate_onward {s t : State} (h : Onward s t) (a0 : Msg) : Onto s (execSafetyParamActivate a0 t) := by
  unfold execSafetyParamActivate
  repeat' (first | lift_lets | with_reducible exact h | with_reducible apply command_onward)

theorem execRecorderRelease_onward {s t : State} (h : Onward s t) (a0 : Msg) : Onto s (execRecorderRelease a0 t) := by
  unfold execRecorderRelease
  repeat' (first | lift_lets | with_reducible exact h | with_reducible apply command_onward)

theorem execMvbStatus_onward {s t : State} (h : Onward s t) (a0 : Msg) : Onto s (execMvbStatus a0 t) := by
  unfold execMvbStatus
  repeat' (first | lift_lets | with_reducible exact h | with_reducible apply command_onward)

theorem execModuleInfo_onward {s t : State} (h : Onward s t) (a0 : Msg) : Onto s (execModuleInfo a0 t) := by
  unfold execModuleInfo
  repeat' (first | lift_lets | with_reducible exact h | with_reducible apply command_onward)

theorem execWindowClose_onward {s t : State} (h : Onward s t) (a0 : Msg) : Onto s (execWindowClose a0 t) := by
  unfold execWindowClose
  repeat' (first | lift_lets | with_reducible exact h | with_reducible apply command_onward)

theorem execSaInstall_onward {s t : State} (h : Onward s t) (a0 : Msg) : Onto s (execSaInstall a0 t) := by
  unfold execSaInstall
  repeat' (first | lift_lets | with_reducible exact h | with_reducible apply command_onward)

theorem execPairStatus_onward {s t : State} (h : Onward s t) (a0 : Msg) : Onto s (execPairStatus a0 t) := by
  unfold execPairStatus
  repeat' (first | lift_lets | with_reducible exact h | with_reducible apply command_onward)

theorem execLullStatus_onward {s t : State} (h : Onward s t) (a0 : Msg) : Onto s (execLullStatus a0 t) := by
  unfold execLullStatus
  repeat' (first | lift_lets | with_reducible exact h | with_reducible apply command_onward)

theorem execStaggerSet_onward {s t : State} (h : Onward s t) (a0 : Msg) : Onto s (execStaggerSet a0 t) := by
  unfold execStaggerSet
  repeat' (first | lift_lets | with_reducible exact h | with_reducible apply command_onward)

theorem execUpdateSchedule_onward {s t : State} (h : Onward s t) (a0 : Msg) : Onto s (execUpdateSchedule a0 t) := by
  unfold execUpdateSchedule
  repeat' (first | lift_lets | with_reducible exact h | with_reducible apply command_onward)

theorem execTestStatus_onward {s t : State} (h : Onward s t) (a0 : Msg) : Onto s (execTestStatus a0 t) := by
  unfold execTestStatus
  repeat' (first | lift_lets | with_reducible exact h | with_reducible apply command_onward)

theorem execSafetyParamLoad_onward {s t : State} (h : Onward s t) (a0 : Msg) : Onto s (execSafetyParamLoad a0 t) := by
  unfold execSafetyParamLoad
  repeat' (first | lift_lets | with_reducible exact h | with_reducible apply command_onward)

theorem execModuleRestart_onward {s t : State} (h : Onward s t) (a0 : Msg) : Onto s (execModuleRestart a0 t) := by
  unfold execModuleRestart
  repeat' (first | lift_lets | with_reducible exact h | with_reducible apply command_onward)

theorem execImageLoad_onward {s t : State} (h : Onward s t) (a0 : Msg) : Onto s (execImageLoad a0 t) := by
  unfold execImageLoad
  repeat' (first | lift_lets | with_reducible exact h | with_reducible apply command_onward)

theorem execTimeSet_onward {s t : State} (h : Onward s t) (a0 : Msg) : Onto s (execTimeSet a0 t) := by
  unfold execTimeSet
  repeat' (first | lift_lets | with_reducible exact h | with_reducible apply command_onward)

theorem execSaRelease_onward {s t : State} (h : Onward s t) (a0 : Msg) : Onto s (execSaRelease a0 t) := by
  unfold execSaRelease
  repeat' (first | lift_lets | with_reducible exact h | with_reducible apply command_onward)

theorem execMvbConfigure_onward {s t : State} (h : Onward s t) (a0 : Msg) : Onto s (execMvbConfigure a0 t) := by
  unfold execMvbConfigure
  repeat' (first | lift_lets | with_reducible exact h | with_reducible apply command_onward)

theorem execLaneHealth_onward {s t : State} (h : Onward s t) (a0 : Msg) : Onto s (execLaneHealth a0 t) := by
  unfold execLaneHealth
  repeat' (first | lift_lets | with_reducible exact h | with_reducible apply command_onward)

theorem execRecorderCounters_onward {s t : State} (h : Onward s t) (a0 : Msg) : Onto s (execRecorderCounters a0 t) := by
  unfold execRecorderCounters
  repeat' (first | lift_lets | with_reducible exact h | with_reducible apply command_onward)

theorem execFdbFlush_onward {s t : State} (h : Onward s t) (a0 : Msg) : Onto s (execFdbFlush a0 t) := by
  unfold execFdbFlush
  repeat' (first | lift_lets | with_reducible exact h | with_reducible apply command_onward)

theorem execRecorderRead_onward {s t : State} (h : Onward s t) (a0 : Msg) : Onto s (execRecorderRead a0 t) := by
  unfold execRecorderRead
  repeat' (first | lift_lets | with_reducible exact h | with_reducible apply command_onward)

theorem execRnatConfigure_onward {s t : State} (h : Onward s t) (a0 : Msg) : Onto s (execRnatConfigure a0 t) := by
  unfold execRnatConfigure
  repeat' (first | lift_lets | with_reducible exact h | with_reducible apply command_onward)

theorem execSignalStatus_onward {s t : State} (h : Onward s t) (a0 : Msg) : Onto s (execSignalStatus a0 t) := by
  unfold execSignalStatus
  repeat' (first | lift_lets | with_reducible exact h | with_reducible apply command_onward)

theorem execSlipControl_onward {s t : State} (h : Onward s t) (a0 : Arrived PairControl) : Onto s (execSlipControl a0 t) := by
  unfold execSlipControl
  repeat' (first | intro _ | lift_lets | with_reducible exact h | with_reducible assumption | with_reducible apply heard_onward
                 | with_reducible apply controlHeard_onward)

theorem execRecorderClearConfirm_onward {s t : State} (h : Onward s t) (a0 : Msg) : Onto s (execRecorderClearConfirm a0 t) := by
  unfold execRecorderClearConfirm
  repeat' (first | lift_lets | with_reducible exact h | with_reducible apply command_onward)

theorem execPortConfigure_onward {s t : State} (h : Onward s t) (a0 : Msg) : Onto s (execPortConfigure a0 t) := by
  unfold execPortConfigure
  repeat' (first | lift_lets | with_reducible exact h | with_reducible apply command_onward)

theorem execProgramStatus_onward {s t : State} (h : Onward s t) (a0 : Msg) : Onto s (execProgramStatus a0 t) := by
  unfold execProgramStatus
  repeat' (first | lift_lets | with_reducible exact h | with_reducible apply command_onward)

theorem execFdbPin_onward {s t : State} (h : Onward s t) (a0 : Msg) : Onto s (execFdbPin a0 t) := by
  unfold execFdbPin
  repeat' (first | lift_lets | with_reducible exact h | with_reducible apply command_onward)

theorem execRecutCancel_onward {s t : State} (h : Onward s t) (a0 : Msg) : Onto s (execRecutCancel a0 t) := by
  unfold execRecutCancel
  repeat' (first | lift_lets | with_reducible exact h | with_reducible apply command_onward)

theorem execLinkChange_onward {s t : State} (h : Onward s t) (a0 : ℕ) (a1 : Bool) (a2 : ℕ) : Onto s (execLinkChange a0 a1 a2 t) := by
  unfold execLinkChange
  repeat' (first | (intro y; refine onward_cut (s := s) (y := y) ?_ ?_; rotate_left; (intro hy; clear_value y); rotate_right; subst y)
                 | (intro y; clear_value y) | lift_lets | with_reducible exact h | with_reducible assumption | with_reducible apply onward_ite
                 | with_reducible apply onto_next | with_reducible apply onto_ite | with_reducible apply slipLink_onward
                 | with_reducible apply ptpLink_onward | with_reducible apply portLink_onward | with_reducible apply startInauguration_onward)

end Sys2Proof.Machine
end

