-- ==== Sys2Proof/Laws/State.lean ====
section
/-! SUPPORT. What changing one block of the state leaves of every field: one lemma per field per update, so that no proof unfolds a
record update. -/

namespace Sys2Proof.Machine

/-! ### modModule -/

@[simp] theorem modModule_pending (f : ModuleSt → ModuleSt) (s : State) : (modModule f s).pending = s.pending := rfl
@[simp] theorem modModule_time (f : ModuleSt → ModuleSt) (s : State) : (modModule f s).time = s.time := rfl
@[simp] theorem modModule_draws (f : ModuleSt → ModuleSt) (s : State) : (modModule f s).draws = s.draws := rfl
@[simp] theorem modModule_out (f : ModuleSt → ModuleSt) (s : State) : (modModule f s).out = s.out := rfl
@[simp] theorem modModule_module (f : ModuleSt → ModuleSt) (s : State) : (modModule f s).module = f s.module := rfl
@[simp] theorem modModule_clock (f : ModuleSt → ModuleSt) (s : State) : (modModule f s).clock = s.clock := rfl
@[simp] theorem modModule_recorder (f : ModuleSt → ModuleSt) (s : State) : (modModule f s).recorder = s.recorder := rfl
@[simp] theorem modModule_trust (f : ModuleSt → ModuleSt) (s : State) : (modModule f s).trust = s.trust := rfl
@[simp] theorem modModule_mbx (f : ModuleSt → ModuleSt) (s : State) : (modModule f s).mbx = s.mbx := rfl
@[simp] theorem modModule_test (f : ModuleSt → ModuleSt) (s : State) : (modModule f s).test = s.test := rfl
@[simp] theorem modModule_voter (f : ModuleSt → ModuleSt) (s : State) : (modModule f s).voter = s.voter := rfl
@[simp] theorem modModule_prog (f : ModuleSt → ModuleSt) (s : State) : (modModule f s).prog = s.prog := rfl
@[simp] theorem modModule_act (f : ModuleSt → ModuleSt) (s : State) : (modModule f s).act = s.act := rfl
@[simp] theorem modModule_pos (f : ModuleSt → ModuleSt) (s : State) : (modModule f s).pos = s.pos := rfl
@[simp] theorem modModule_safety (f : ModuleSt → ModuleSt) (s : State) : (modModule f s).safety = s.safety := rfl
@[simp] theorem modModule_signal (f : ModuleSt → ModuleSt) (s : State) : (modModule f s).signal = s.signal := rfl
@[simp] theorem modModule_pair (f : ModuleSt → ModuleSt) (s : State) : (modModule f s).pair = s.pair := rfl
@[simp] theorem modModule_net (f : ModuleSt → ModuleSt) (s : State) : (modModule f s).net = s.net := rfl
@[simp] theorem modModule_mvb (f : ModuleSt → ModuleSt) (s : State) : (modModule f s).mvb = s.mvb := rfl
@[simp] theorem modModule_update (f : ModuleSt → ModuleSt) (s : State) : (modModule f s).update = s.update := rfl

/-! ### modClock -/

@[simp] theorem modClock_pending (f : ClockSt → ClockSt) (s : State) : (modClock f s).pending = s.pending := rfl
@[simp] theorem modClock_time (f : ClockSt → ClockSt) (s : State) : (modClock f s).time = s.time := rfl
@[simp] theorem modClock_draws (f : ClockSt → ClockSt) (s : State) : (modClock f s).draws = s.draws := rfl
@[simp] theorem modClock_out (f : ClockSt → ClockSt) (s : State) : (modClock f s).out = s.out := rfl
@[simp] theorem modClock_module (f : ClockSt → ClockSt) (s : State) : (modClock f s).module = s.module := rfl
@[simp] theorem modClock_clock (f : ClockSt → ClockSt) (s : State) : (modClock f s).clock = f s.clock := rfl
@[simp] theorem modClock_recorder (f : ClockSt → ClockSt) (s : State) : (modClock f s).recorder = s.recorder := rfl
@[simp] theorem modClock_trust (f : ClockSt → ClockSt) (s : State) : (modClock f s).trust = s.trust := rfl
@[simp] theorem modClock_mbx (f : ClockSt → ClockSt) (s : State) : (modClock f s).mbx = s.mbx := rfl
@[simp] theorem modClock_test (f : ClockSt → ClockSt) (s : State) : (modClock f s).test = s.test := rfl
@[simp] theorem modClock_voter (f : ClockSt → ClockSt) (s : State) : (modClock f s).voter = s.voter := rfl
@[simp] theorem modClock_prog (f : ClockSt → ClockSt) (s : State) : (modClock f s).prog = s.prog := rfl
@[simp] theorem modClock_act (f : ClockSt → ClockSt) (s : State) : (modClock f s).act = s.act := rfl
@[simp] theorem modClock_pos (f : ClockSt → ClockSt) (s : State) : (modClock f s).pos = s.pos := rfl
@[simp] theorem modClock_safety (f : ClockSt → ClockSt) (s : State) : (modClock f s).safety = s.safety := rfl
@[simp] theorem modClock_signal (f : ClockSt → ClockSt) (s : State) : (modClock f s).signal = s.signal := rfl
@[simp] theorem modClock_pair (f : ClockSt → ClockSt) (s : State) : (modClock f s).pair = s.pair := rfl
@[simp] theorem modClock_net (f : ClockSt → ClockSt) (s : State) : (modClock f s).net = s.net := rfl
@[simp] theorem modClock_mvb (f : ClockSt → ClockSt) (s : State) : (modClock f s).mvb = s.mvb := rfl
@[simp] theorem modClock_update (f : ClockSt → ClockSt) (s : State) : (modClock f s).update = s.update := rfl

/-! ### modRecorder -/

@[simp] theorem modRecorder_pending (f : RecorderSt → RecorderSt) (s : State) : (modRecorder f s).pending = s.pending := rfl
@[simp] theorem modRecorder_time (f : RecorderSt → RecorderSt) (s : State) : (modRecorder f s).time = s.time := rfl
@[simp] theorem modRecorder_draws (f : RecorderSt → RecorderSt) (s : State) : (modRecorder f s).draws = s.draws := rfl
@[simp] theorem modRecorder_out (f : RecorderSt → RecorderSt) (s : State) : (modRecorder f s).out = s.out := rfl
@[simp] theorem modRecorder_module (f : RecorderSt → RecorderSt) (s : State) : (modRecorder f s).module = s.module := rfl
@[simp] theorem modRecorder_clock (f : RecorderSt → RecorderSt) (s : State) : (modRecorder f s).clock = s.clock := rfl
@[simp] theorem modRecorder_recorder (f : RecorderSt → RecorderSt) (s : State) : (modRecorder f s).recorder = f s.recorder := rfl
@[simp] theorem modRecorder_trust (f : RecorderSt → RecorderSt) (s : State) : (modRecorder f s).trust = s.trust := rfl
@[simp] theorem modRecorder_mbx (f : RecorderSt → RecorderSt) (s : State) : (modRecorder f s).mbx = s.mbx := rfl
@[simp] theorem modRecorder_test (f : RecorderSt → RecorderSt) (s : State) : (modRecorder f s).test = s.test := rfl
@[simp] theorem modRecorder_voter (f : RecorderSt → RecorderSt) (s : State) : (modRecorder f s).voter = s.voter := rfl
@[simp] theorem modRecorder_prog (f : RecorderSt → RecorderSt) (s : State) : (modRecorder f s).prog = s.prog := rfl
@[simp] theorem modRecorder_act (f : RecorderSt → RecorderSt) (s : State) : (modRecorder f s).act = s.act := rfl
@[simp] theorem modRecorder_pos (f : RecorderSt → RecorderSt) (s : State) : (modRecorder f s).pos = s.pos := rfl
@[simp] theorem modRecorder_safety (f : RecorderSt → RecorderSt) (s : State) : (modRecorder f s).safety = s.safety := rfl
@[simp] theorem modRecorder_signal (f : RecorderSt → RecorderSt) (s : State) : (modRecorder f s).signal = s.signal := rfl
@[simp] theorem modRecorder_pair (f : RecorderSt → RecorderSt) (s : State) : (modRecorder f s).pair = s.pair := rfl
@[simp] theorem modRecorder_net (f : RecorderSt → RecorderSt) (s : State) : (modRecorder f s).net = s.net := rfl
@[simp] theorem modRecorder_mvb (f : RecorderSt → RecorderSt) (s : State) : (modRecorder f s).mvb = s.mvb := rfl
@[simp] theorem modRecorder_update (f : RecorderSt → RecorderSt) (s : State) : (modRecorder f s).update = s.update := rfl

/-! ### modTrust -/

@[simp] theorem modTrust_pending (f : TrustSt → TrustSt) (s : State) : (modTrust f s).pending = s.pending := rfl
@[simp] theorem modTrust_time (f : TrustSt → TrustSt) (s : State) : (modTrust f s).time = s.time := rfl
@[simp] theorem modTrust_draws (f : TrustSt → TrustSt) (s : State) : (modTrust f s).draws = s.draws := rfl
@[simp] theorem modTrust_out (f : TrustSt → TrustSt) (s : State) : (modTrust f s).out = s.out := rfl
@[simp] theorem modTrust_module (f : TrustSt → TrustSt) (s : State) : (modTrust f s).module = s.module := rfl
@[simp] theorem modTrust_clock (f : TrustSt → TrustSt) (s : State) : (modTrust f s).clock = s.clock := rfl
@[simp] theorem modTrust_recorder (f : TrustSt → TrustSt) (s : State) : (modTrust f s).recorder = s.recorder := rfl
@[simp] theorem modTrust_trust (f : TrustSt → TrustSt) (s : State) : (modTrust f s).trust = f s.trust := rfl
@[simp] theorem modTrust_mbx (f : TrustSt → TrustSt) (s : State) : (modTrust f s).mbx = s.mbx := rfl
@[simp] theorem modTrust_test (f : TrustSt → TrustSt) (s : State) : (modTrust f s).test = s.test := rfl
@[simp] theorem modTrust_voter (f : TrustSt → TrustSt) (s : State) : (modTrust f s).voter = s.voter := rfl
@[simp] theorem modTrust_prog (f : TrustSt → TrustSt) (s : State) : (modTrust f s).prog = s.prog := rfl
@[simp] theorem modTrust_act (f : TrustSt → TrustSt) (s : State) : (modTrust f s).act = s.act := rfl
@[simp] theorem modTrust_pos (f : TrustSt → TrustSt) (s : State) : (modTrust f s).pos = s.pos := rfl
@[simp] theorem modTrust_safety (f : TrustSt → TrustSt) (s : State) : (modTrust f s).safety = s.safety := rfl
@[simp] theorem modTrust_signal (f : TrustSt → TrustSt) (s : State) : (modTrust f s).signal = s.signal := rfl
@[simp] theorem modTrust_pair (f : TrustSt → TrustSt) (s : State) : (modTrust f s).pair = s.pair := rfl
@[simp] theorem modTrust_net (f : TrustSt → TrustSt) (s : State) : (modTrust f s).net = s.net := rfl
@[simp] theorem modTrust_mvb (f : TrustSt → TrustSt) (s : State) : (modTrust f s).mvb = s.mvb := rfl
@[simp] theorem modTrust_update (f : TrustSt → TrustSt) (s : State) : (modTrust f s).update = s.update := rfl

/-! ### modMbx -/

@[simp] theorem modMbx_pending (f : MbxSt → MbxSt) (s : State) : (modMbx f s).pending = s.pending := rfl
@[simp] theorem modMbx_time (f : MbxSt → MbxSt) (s : State) : (modMbx f s).time = s.time := rfl
@[simp] theorem modMbx_draws (f : MbxSt → MbxSt) (s : State) : (modMbx f s).draws = s.draws := rfl
@[simp] theorem modMbx_out (f : MbxSt → MbxSt) (s : State) : (modMbx f s).out = s.out := rfl
@[simp] theorem modMbx_module (f : MbxSt → MbxSt) (s : State) : (modMbx f s).module = s.module := rfl
@[simp] theorem modMbx_clock (f : MbxSt → MbxSt) (s : State) : (modMbx f s).clock = s.clock := rfl
@[simp] theorem modMbx_recorder (f : MbxSt → MbxSt) (s : State) : (modMbx f s).recorder = s.recorder := rfl
@[simp] theorem modMbx_trust (f : MbxSt → MbxSt) (s : State) : (modMbx f s).trust = s.trust := rfl
@[simp] theorem modMbx_mbx (f : MbxSt → MbxSt) (s : State) : (modMbx f s).mbx = f s.mbx := rfl
@[simp] theorem modMbx_test (f : MbxSt → MbxSt) (s : State) : (modMbx f s).test = s.test := rfl
@[simp] theorem modMbx_voter (f : MbxSt → MbxSt) (s : State) : (modMbx f s).voter = s.voter := rfl
@[simp] theorem modMbx_prog (f : MbxSt → MbxSt) (s : State) : (modMbx f s).prog = s.prog := rfl
@[simp] theorem modMbx_act (f : MbxSt → MbxSt) (s : State) : (modMbx f s).act = s.act := rfl
@[simp] theorem modMbx_pos (f : MbxSt → MbxSt) (s : State) : (modMbx f s).pos = s.pos := rfl
@[simp] theorem modMbx_safety (f : MbxSt → MbxSt) (s : State) : (modMbx f s).safety = s.safety := rfl
@[simp] theorem modMbx_signal (f : MbxSt → MbxSt) (s : State) : (modMbx f s).signal = s.signal := rfl
@[simp] theorem modMbx_pair (f : MbxSt → MbxSt) (s : State) : (modMbx f s).pair = s.pair := rfl
@[simp] theorem modMbx_net (f : MbxSt → MbxSt) (s : State) : (modMbx f s).net = s.net := rfl
@[simp] theorem modMbx_mvb (f : MbxSt → MbxSt) (s : State) : (modMbx f s).mvb = s.mvb := rfl
@[simp] theorem modMbx_update (f : MbxSt → MbxSt) (s : State) : (modMbx f s).update = s.update := rfl

/-! ### modTest -/

@[simp] theorem modTest_pending (f : TestSt → TestSt) (s : State) : (modTest f s).pending = s.pending := rfl
@[simp] theorem modTest_time (f : TestSt → TestSt) (s : State) : (modTest f s).time = s.time := rfl
@[simp] theorem modTest_draws (f : TestSt → TestSt) (s : State) : (modTest f s).draws = s.draws := rfl
@[simp] theorem modTest_out (f : TestSt → TestSt) (s : State) : (modTest f s).out = s.out := rfl
@[simp] theorem modTest_module (f : TestSt → TestSt) (s : State) : (modTest f s).module = s.module := rfl
@[simp] theorem modTest_clock (f : TestSt → TestSt) (s : State) : (modTest f s).clock = s.clock := rfl
@[simp] theorem modTest_recorder (f : TestSt → TestSt) (s : State) : (modTest f s).recorder = s.recorder := rfl
@[simp] theorem modTest_trust (f : TestSt → TestSt) (s : State) : (modTest f s).trust = s.trust := rfl
@[simp] theorem modTest_mbx (f : TestSt → TestSt) (s : State) : (modTest f s).mbx = s.mbx := rfl
@[simp] theorem modTest_test (f : TestSt → TestSt) (s : State) : (modTest f s).test = f s.test := rfl
@[simp] theorem modTest_voter (f : TestSt → TestSt) (s : State) : (modTest f s).voter = s.voter := rfl
@[simp] theorem modTest_prog (f : TestSt → TestSt) (s : State) : (modTest f s).prog = s.prog := rfl
@[simp] theorem modTest_act (f : TestSt → TestSt) (s : State) : (modTest f s).act = s.act := rfl
@[simp] theorem modTest_pos (f : TestSt → TestSt) (s : State) : (modTest f s).pos = s.pos := rfl
@[simp] theorem modTest_safety (f : TestSt → TestSt) (s : State) : (modTest f s).safety = s.safety := rfl
@[simp] theorem modTest_signal (f : TestSt → TestSt) (s : State) : (modTest f s).signal = s.signal := rfl
@[simp] theorem modTest_pair (f : TestSt → TestSt) (s : State) : (modTest f s).pair = s.pair := rfl
@[simp] theorem modTest_net (f : TestSt → TestSt) (s : State) : (modTest f s).net = s.net := rfl
@[simp] theorem modTest_mvb (f : TestSt → TestSt) (s : State) : (modTest f s).mvb = s.mvb := rfl
@[simp] theorem modTest_update (f : TestSt → TestSt) (s : State) : (modTest f s).update = s.update := rfl

/-! ### modVoter -/

@[simp] theorem modVoter_pending (f : VoterSt → VoterSt) (s : State) : (modVoter f s).pending = s.pending := rfl
@[simp] theorem modVoter_time (f : VoterSt → VoterSt) (s : State) : (modVoter f s).time = s.time := rfl
@[simp] theorem modVoter_draws (f : VoterSt → VoterSt) (s : State) : (modVoter f s).draws = s.draws := rfl
@[simp] theorem modVoter_out (f : VoterSt → VoterSt) (s : State) : (modVoter f s).out = s.out := rfl
@[simp] theorem modVoter_module (f : VoterSt → VoterSt) (s : State) : (modVoter f s).module = s.module := rfl
@[simp] theorem modVoter_clock (f : VoterSt → VoterSt) (s : State) : (modVoter f s).clock = s.clock := rfl
@[simp] theorem modVoter_recorder (f : VoterSt → VoterSt) (s : State) : (modVoter f s).recorder = s.recorder := rfl
@[simp] theorem modVoter_trust (f : VoterSt → VoterSt) (s : State) : (modVoter f s).trust = s.trust := rfl
@[simp] theorem modVoter_mbx (f : VoterSt → VoterSt) (s : State) : (modVoter f s).mbx = s.mbx := rfl
@[simp] theorem modVoter_test (f : VoterSt → VoterSt) (s : State) : (modVoter f s).test = s.test := rfl
@[simp] theorem modVoter_voter (f : VoterSt → VoterSt) (s : State) : (modVoter f s).voter = f s.voter := rfl
@[simp] theorem modVoter_prog (f : VoterSt → VoterSt) (s : State) : (modVoter f s).prog = s.prog := rfl
@[simp] theorem modVoter_act (f : VoterSt → VoterSt) (s : State) : (modVoter f s).act = s.act := rfl
@[simp] theorem modVoter_pos (f : VoterSt → VoterSt) (s : State) : (modVoter f s).pos = s.pos := rfl
@[simp] theorem modVoter_safety (f : VoterSt → VoterSt) (s : State) : (modVoter f s).safety = s.safety := rfl
@[simp] theorem modVoter_signal (f : VoterSt → VoterSt) (s : State) : (modVoter f s).signal = s.signal := rfl
@[simp] theorem modVoter_pair (f : VoterSt → VoterSt) (s : State) : (modVoter f s).pair = s.pair := rfl
@[simp] theorem modVoter_net (f : VoterSt → VoterSt) (s : State) : (modVoter f s).net = s.net := rfl
@[simp] theorem modVoter_mvb (f : VoterSt → VoterSt) (s : State) : (modVoter f s).mvb = s.mvb := rfl
@[simp] theorem modVoter_update (f : VoterSt → VoterSt) (s : State) : (modVoter f s).update = s.update := rfl

/-! ### modProg -/

@[simp] theorem modProg_pending (f : ProgSt → ProgSt) (s : State) : (modProg f s).pending = s.pending := rfl
@[simp] theorem modProg_time (f : ProgSt → ProgSt) (s : State) : (modProg f s).time = s.time := rfl
@[simp] theorem modProg_draws (f : ProgSt → ProgSt) (s : State) : (modProg f s).draws = s.draws := rfl
@[simp] theorem modProg_out (f : ProgSt → ProgSt) (s : State) : (modProg f s).out = s.out := rfl
@[simp] theorem modProg_module (f : ProgSt → ProgSt) (s : State) : (modProg f s).module = s.module := rfl
@[simp] theorem modProg_clock (f : ProgSt → ProgSt) (s : State) : (modProg f s).clock = s.clock := rfl
@[simp] theorem modProg_recorder (f : ProgSt → ProgSt) (s : State) : (modProg f s).recorder = s.recorder := rfl
@[simp] theorem modProg_trust (f : ProgSt → ProgSt) (s : State) : (modProg f s).trust = s.trust := rfl
@[simp] theorem modProg_mbx (f : ProgSt → ProgSt) (s : State) : (modProg f s).mbx = s.mbx := rfl
@[simp] theorem modProg_test (f : ProgSt → ProgSt) (s : State) : (modProg f s).test = s.test := rfl
@[simp] theorem modProg_voter (f : ProgSt → ProgSt) (s : State) : (modProg f s).voter = s.voter := rfl
@[simp] theorem modProg_prog (f : ProgSt → ProgSt) (s : State) : (modProg f s).prog = f s.prog := rfl
@[simp] theorem modProg_act (f : ProgSt → ProgSt) (s : State) : (modProg f s).act = s.act := rfl
@[simp] theorem modProg_pos (f : ProgSt → ProgSt) (s : State) : (modProg f s).pos = s.pos := rfl
@[simp] theorem modProg_safety (f : ProgSt → ProgSt) (s : State) : (modProg f s).safety = s.safety := rfl
@[simp] theorem modProg_signal (f : ProgSt → ProgSt) (s : State) : (modProg f s).signal = s.signal := rfl
@[simp] theorem modProg_pair (f : ProgSt → ProgSt) (s : State) : (modProg f s).pair = s.pair := rfl
@[simp] theorem modProg_net (f : ProgSt → ProgSt) (s : State) : (modProg f s).net = s.net := rfl
@[simp] theorem modProg_mvb (f : ProgSt → ProgSt) (s : State) : (modProg f s).mvb = s.mvb := rfl
@[simp] theorem modProg_update (f : ProgSt → ProgSt) (s : State) : (modProg f s).update = s.update := rfl

/-! ### modAct -/

@[simp] theorem modAct_pending (f : ActSt → ActSt) (s : State) : (modAct f s).pending = s.pending := rfl
@[simp] theorem modAct_time (f : ActSt → ActSt) (s : State) : (modAct f s).time = s.time := rfl
@[simp] theorem modAct_draws (f : ActSt → ActSt) (s : State) : (modAct f s).draws = s.draws := rfl
@[simp] theorem modAct_out (f : ActSt → ActSt) (s : State) : (modAct f s).out = s.out := rfl
@[simp] theorem modAct_module (f : ActSt → ActSt) (s : State) : (modAct f s).module = s.module := rfl
@[simp] theorem modAct_clock (f : ActSt → ActSt) (s : State) : (modAct f s).clock = s.clock := rfl
@[simp] theorem modAct_recorder (f : ActSt → ActSt) (s : State) : (modAct f s).recorder = s.recorder := rfl
@[simp] theorem modAct_trust (f : ActSt → ActSt) (s : State) : (modAct f s).trust = s.trust := rfl
@[simp] theorem modAct_mbx (f : ActSt → ActSt) (s : State) : (modAct f s).mbx = s.mbx := rfl
@[simp] theorem modAct_test (f : ActSt → ActSt) (s : State) : (modAct f s).test = s.test := rfl
@[simp] theorem modAct_voter (f : ActSt → ActSt) (s : State) : (modAct f s).voter = s.voter := rfl
@[simp] theorem modAct_prog (f : ActSt → ActSt) (s : State) : (modAct f s).prog = s.prog := rfl
@[simp] theorem modAct_act (f : ActSt → ActSt) (s : State) : (modAct f s).act = f s.act := rfl
@[simp] theorem modAct_pos (f : ActSt → ActSt) (s : State) : (modAct f s).pos = s.pos := rfl
@[simp] theorem modAct_safety (f : ActSt → ActSt) (s : State) : (modAct f s).safety = s.safety := rfl
@[simp] theorem modAct_signal (f : ActSt → ActSt) (s : State) : (modAct f s).signal = s.signal := rfl
@[simp] theorem modAct_pair (f : ActSt → ActSt) (s : State) : (modAct f s).pair = s.pair := rfl
@[simp] theorem modAct_net (f : ActSt → ActSt) (s : State) : (modAct f s).net = s.net := rfl
@[simp] theorem modAct_mvb (f : ActSt → ActSt) (s : State) : (modAct f s).mvb = s.mvb := rfl
@[simp] theorem modAct_update (f : ActSt → ActSt) (s : State) : (modAct f s).update = s.update := rfl

/-! ### modPos -/

@[simp] theorem modPos_pending (f : PosSt → PosSt) (s : State) : (modPos f s).pending = s.pending := rfl
@[simp] theorem modPos_time (f : PosSt → PosSt) (s : State) : (modPos f s).time = s.time := rfl
@[simp] theorem modPos_draws (f : PosSt → PosSt) (s : State) : (modPos f s).draws = s.draws := rfl
@[simp] theorem modPos_out (f : PosSt → PosSt) (s : State) : (modPos f s).out = s.out := rfl
@[simp] theorem modPos_module (f : PosSt → PosSt) (s : State) : (modPos f s).module = s.module := rfl
@[simp] theorem modPos_clock (f : PosSt → PosSt) (s : State) : (modPos f s).clock = s.clock := rfl
@[simp] theorem modPos_recorder (f : PosSt → PosSt) (s : State) : (modPos f s).recorder = s.recorder := rfl
@[simp] theorem modPos_trust (f : PosSt → PosSt) (s : State) : (modPos f s).trust = s.trust := rfl
@[simp] theorem modPos_mbx (f : PosSt → PosSt) (s : State) : (modPos f s).mbx = s.mbx := rfl
@[simp] theorem modPos_test (f : PosSt → PosSt) (s : State) : (modPos f s).test = s.test := rfl
@[simp] theorem modPos_voter (f : PosSt → PosSt) (s : State) : (modPos f s).voter = s.voter := rfl
@[simp] theorem modPos_prog (f : PosSt → PosSt) (s : State) : (modPos f s).prog = s.prog := rfl
@[simp] theorem modPos_act (f : PosSt → PosSt) (s : State) : (modPos f s).act = s.act := rfl
@[simp] theorem modPos_pos (f : PosSt → PosSt) (s : State) : (modPos f s).pos = f s.pos := rfl
@[simp] theorem modPos_safety (f : PosSt → PosSt) (s : State) : (modPos f s).safety = s.safety := rfl
@[simp] theorem modPos_signal (f : PosSt → PosSt) (s : State) : (modPos f s).signal = s.signal := rfl
@[simp] theorem modPos_pair (f : PosSt → PosSt) (s : State) : (modPos f s).pair = s.pair := rfl
@[simp] theorem modPos_net (f : PosSt → PosSt) (s : State) : (modPos f s).net = s.net := rfl
@[simp] theorem modPos_mvb (f : PosSt → PosSt) (s : State) : (modPos f s).mvb = s.mvb := rfl
@[simp] theorem modPos_update (f : PosSt → PosSt) (s : State) : (modPos f s).update = s.update := rfl

/-! ### modSafety -/

@[simp] theorem modSafety_pending (f : SafetySt → SafetySt) (s : State) : (modSafety f s).pending = s.pending := rfl
@[simp] theorem modSafety_time (f : SafetySt → SafetySt) (s : State) : (modSafety f s).time = s.time := rfl
@[simp] theorem modSafety_draws (f : SafetySt → SafetySt) (s : State) : (modSafety f s).draws = s.draws := rfl
@[simp] theorem modSafety_out (f : SafetySt → SafetySt) (s : State) : (modSafety f s).out = s.out := rfl
@[simp] theorem modSafety_module (f : SafetySt → SafetySt) (s : State) : (modSafety f s).module = s.module := rfl
@[simp] theorem modSafety_clock (f : SafetySt → SafetySt) (s : State) : (modSafety f s).clock = s.clock := rfl
@[simp] theorem modSafety_recorder (f : SafetySt → SafetySt) (s : State) : (modSafety f s).recorder = s.recorder := rfl
@[simp] theorem modSafety_trust (f : SafetySt → SafetySt) (s : State) : (modSafety f s).trust = s.trust := rfl
@[simp] theorem modSafety_mbx (f : SafetySt → SafetySt) (s : State) : (modSafety f s).mbx = s.mbx := rfl
@[simp] theorem modSafety_test (f : SafetySt → SafetySt) (s : State) : (modSafety f s).test = s.test := rfl
@[simp] theorem modSafety_voter (f : SafetySt → SafetySt) (s : State) : (modSafety f s).voter = s.voter := rfl
@[simp] theorem modSafety_prog (f : SafetySt → SafetySt) (s : State) : (modSafety f s).prog = s.prog := rfl
@[simp] theorem modSafety_act (f : SafetySt → SafetySt) (s : State) : (modSafety f s).act = s.act := rfl
@[simp] theorem modSafety_pos (f : SafetySt → SafetySt) (s : State) : (modSafety f s).pos = s.pos := rfl
@[simp] theorem modSafety_safety (f : SafetySt → SafetySt) (s : State) : (modSafety f s).safety = f s.safety := rfl
@[simp] theorem modSafety_signal (f : SafetySt → SafetySt) (s : State) : (modSafety f s).signal = s.signal := rfl
@[simp] theorem modSafety_pair (f : SafetySt → SafetySt) (s : State) : (modSafety f s).pair = s.pair := rfl
@[simp] theorem modSafety_net (f : SafetySt → SafetySt) (s : State) : (modSafety f s).net = s.net := rfl
@[simp] theorem modSafety_mvb (f : SafetySt → SafetySt) (s : State) : (modSafety f s).mvb = s.mvb := rfl
@[simp] theorem modSafety_update (f : SafetySt → SafetySt) (s : State) : (modSafety f s).update = s.update := rfl

/-! ### modSignal -/

@[simp] theorem modSignal_pending (f : SignalSt → SignalSt) (s : State) : (modSignal f s).pending = s.pending := rfl
@[simp] theorem modSignal_time (f : SignalSt → SignalSt) (s : State) : (modSignal f s).time = s.time := rfl
@[simp] theorem modSignal_draws (f : SignalSt → SignalSt) (s : State) : (modSignal f s).draws = s.draws := rfl
@[simp] theorem modSignal_out (f : SignalSt → SignalSt) (s : State) : (modSignal f s).out = s.out := rfl
@[simp] theorem modSignal_module (f : SignalSt → SignalSt) (s : State) : (modSignal f s).module = s.module := rfl
@[simp] theorem modSignal_clock (f : SignalSt → SignalSt) (s : State) : (modSignal f s).clock = s.clock := rfl
@[simp] theorem modSignal_recorder (f : SignalSt → SignalSt) (s : State) : (modSignal f s).recorder = s.recorder := rfl
@[simp] theorem modSignal_trust (f : SignalSt → SignalSt) (s : State) : (modSignal f s).trust = s.trust := rfl
@[simp] theorem modSignal_mbx (f : SignalSt → SignalSt) (s : State) : (modSignal f s).mbx = s.mbx := rfl
@[simp] theorem modSignal_test (f : SignalSt → SignalSt) (s : State) : (modSignal f s).test = s.test := rfl
@[simp] theorem modSignal_voter (f : SignalSt → SignalSt) (s : State) : (modSignal f s).voter = s.voter := rfl
@[simp] theorem modSignal_prog (f : SignalSt → SignalSt) (s : State) : (modSignal f s).prog = s.prog := rfl
@[simp] theorem modSignal_act (f : SignalSt → SignalSt) (s : State) : (modSignal f s).act = s.act := rfl
@[simp] theorem modSignal_pos (f : SignalSt → SignalSt) (s : State) : (modSignal f s).pos = s.pos := rfl
@[simp] theorem modSignal_safety (f : SignalSt → SignalSt) (s : State) : (modSignal f s).safety = s.safety := rfl
@[simp] theorem modSignal_signal (f : SignalSt → SignalSt) (s : State) : (modSignal f s).signal = f s.signal := rfl
@[simp] theorem modSignal_pair (f : SignalSt → SignalSt) (s : State) : (modSignal f s).pair = s.pair := rfl
@[simp] theorem modSignal_net (f : SignalSt → SignalSt) (s : State) : (modSignal f s).net = s.net := rfl
@[simp] theorem modSignal_mvb (f : SignalSt → SignalSt) (s : State) : (modSignal f s).mvb = s.mvb := rfl
@[simp] theorem modSignal_update (f : SignalSt → SignalSt) (s : State) : (modSignal f s).update = s.update := rfl

/-! ### modPair -/

@[simp] theorem modPair_pending (f : PairSt → PairSt) (s : State) : (modPair f s).pending = s.pending := rfl
@[simp] theorem modPair_time (f : PairSt → PairSt) (s : State) : (modPair f s).time = s.time := rfl
@[simp] theorem modPair_draws (f : PairSt → PairSt) (s : State) : (modPair f s).draws = s.draws := rfl
@[simp] theorem modPair_out (f : PairSt → PairSt) (s : State) : (modPair f s).out = s.out := rfl
@[simp] theorem modPair_module (f : PairSt → PairSt) (s : State) : (modPair f s).module = s.module := rfl
@[simp] theorem modPair_clock (f : PairSt → PairSt) (s : State) : (modPair f s).clock = s.clock := rfl
@[simp] theorem modPair_recorder (f : PairSt → PairSt) (s : State) : (modPair f s).recorder = s.recorder := rfl
@[simp] theorem modPair_trust (f : PairSt → PairSt) (s : State) : (modPair f s).trust = s.trust := rfl
@[simp] theorem modPair_mbx (f : PairSt → PairSt) (s : State) : (modPair f s).mbx = s.mbx := rfl
@[simp] theorem modPair_test (f : PairSt → PairSt) (s : State) : (modPair f s).test = s.test := rfl
@[simp] theorem modPair_voter (f : PairSt → PairSt) (s : State) : (modPair f s).voter = s.voter := rfl
@[simp] theorem modPair_prog (f : PairSt → PairSt) (s : State) : (modPair f s).prog = s.prog := rfl
@[simp] theorem modPair_act (f : PairSt → PairSt) (s : State) : (modPair f s).act = s.act := rfl
@[simp] theorem modPair_pos (f : PairSt → PairSt) (s : State) : (modPair f s).pos = s.pos := rfl
@[simp] theorem modPair_safety (f : PairSt → PairSt) (s : State) : (modPair f s).safety = s.safety := rfl
@[simp] theorem modPair_signal (f : PairSt → PairSt) (s : State) : (modPair f s).signal = s.signal := rfl
@[simp] theorem modPair_pair (f : PairSt → PairSt) (s : State) : (modPair f s).pair = f s.pair := rfl
@[simp] theorem modPair_net (f : PairSt → PairSt) (s : State) : (modPair f s).net = s.net := rfl
@[simp] theorem modPair_mvb (f : PairSt → PairSt) (s : State) : (modPair f s).mvb = s.mvb := rfl
@[simp] theorem modPair_update (f : PairSt → PairSt) (s : State) : (modPair f s).update = s.update := rfl

/-! ### modNet -/

@[simp] theorem modNet_pending (f : NetSt → NetSt) (s : State) : (modNet f s).pending = s.pending := rfl
@[simp] theorem modNet_time (f : NetSt → NetSt) (s : State) : (modNet f s).time = s.time := rfl
@[simp] theorem modNet_draws (f : NetSt → NetSt) (s : State) : (modNet f s).draws = s.draws := rfl
@[simp] theorem modNet_out (f : NetSt → NetSt) (s : State) : (modNet f s).out = s.out := rfl
@[simp] theorem modNet_module (f : NetSt → NetSt) (s : State) : (modNet f s).module = s.module := rfl
@[simp] theorem modNet_clock (f : NetSt → NetSt) (s : State) : (modNet f s).clock = s.clock := rfl
@[simp] theorem modNet_recorder (f : NetSt → NetSt) (s : State) : (modNet f s).recorder = s.recorder := rfl
@[simp] theorem modNet_trust (f : NetSt → NetSt) (s : State) : (modNet f s).trust = s.trust := rfl
@[simp] theorem modNet_mbx (f : NetSt → NetSt) (s : State) : (modNet f s).mbx = s.mbx := rfl
@[simp] theorem modNet_test (f : NetSt → NetSt) (s : State) : (modNet f s).test = s.test := rfl
@[simp] theorem modNet_voter (f : NetSt → NetSt) (s : State) : (modNet f s).voter = s.voter := rfl
@[simp] theorem modNet_prog (f : NetSt → NetSt) (s : State) : (modNet f s).prog = s.prog := rfl
@[simp] theorem modNet_act (f : NetSt → NetSt) (s : State) : (modNet f s).act = s.act := rfl
@[simp] theorem modNet_pos (f : NetSt → NetSt) (s : State) : (modNet f s).pos = s.pos := rfl
@[simp] theorem modNet_safety (f : NetSt → NetSt) (s : State) : (modNet f s).safety = s.safety := rfl
@[simp] theorem modNet_signal (f : NetSt → NetSt) (s : State) : (modNet f s).signal = s.signal := rfl
@[simp] theorem modNet_pair (f : NetSt → NetSt) (s : State) : (modNet f s).pair = s.pair := rfl
@[simp] theorem modNet_net (f : NetSt → NetSt) (s : State) : (modNet f s).net = f s.net := rfl
@[simp] theorem modNet_mvb (f : NetSt → NetSt) (s : State) : (modNet f s).mvb = s.mvb := rfl
@[simp] theorem modNet_update (f : NetSt → NetSt) (s : State) : (modNet f s).update = s.update := rfl

/-! ### modMvb -/

@[simp] theorem modMvb_pending (f : MvbSt → MvbSt) (s : State) : (modMvb f s).pending = s.pending := rfl
@[simp] theorem modMvb_time (f : MvbSt → MvbSt) (s : State) : (modMvb f s).time = s.time := rfl
@[simp] theorem modMvb_draws (f : MvbSt → MvbSt) (s : State) : (modMvb f s).draws = s.draws := rfl
@[simp] theorem modMvb_out (f : MvbSt → MvbSt) (s : State) : (modMvb f s).out = s.out := rfl
@[simp] theorem modMvb_module (f : MvbSt → MvbSt) (s : State) : (modMvb f s).module = s.module := rfl
@[simp] theorem modMvb_clock (f : MvbSt → MvbSt) (s : State) : (modMvb f s).clock = s.clock := rfl
@[simp] theorem modMvb_recorder (f : MvbSt → MvbSt) (s : State) : (modMvb f s).recorder = s.recorder := rfl
@[simp] theorem modMvb_trust (f : MvbSt → MvbSt) (s : State) : (modMvb f s).trust = s.trust := rfl
@[simp] theorem modMvb_mbx (f : MvbSt → MvbSt) (s : State) : (modMvb f s).mbx = s.mbx := rfl
@[simp] theorem modMvb_test (f : MvbSt → MvbSt) (s : State) : (modMvb f s).test = s.test := rfl
@[simp] theorem modMvb_voter (f : MvbSt → MvbSt) (s : State) : (modMvb f s).voter = s.voter := rfl
@[simp] theorem modMvb_prog (f : MvbSt → MvbSt) (s : State) : (modMvb f s).prog = s.prog := rfl
@[simp] theorem modMvb_act (f : MvbSt → MvbSt) (s : State) : (modMvb f s).act = s.act := rfl
@[simp] theorem modMvb_pos (f : MvbSt → MvbSt) (s : State) : (modMvb f s).pos = s.pos := rfl
@[simp] theorem modMvb_safety (f : MvbSt → MvbSt) (s : State) : (modMvb f s).safety = s.safety := rfl
@[simp] theorem modMvb_signal (f : MvbSt → MvbSt) (s : State) : (modMvb f s).signal = s.signal := rfl
@[simp] theorem modMvb_pair (f : MvbSt → MvbSt) (s : State) : (modMvb f s).pair = s.pair := rfl
@[simp] theorem modMvb_net (f : MvbSt → MvbSt) (s : State) : (modMvb f s).net = s.net := rfl
@[simp] theorem modMvb_mvb (f : MvbSt → MvbSt) (s : State) : (modMvb f s).mvb = f s.mvb := rfl
@[simp] theorem modMvb_update (f : MvbSt → MvbSt) (s : State) : (modMvb f s).update = s.update := rfl

/-! ### modUpdate -/

@[simp] theorem modUpdate_pending (f : UpdSt → UpdSt) (s : State) : (modUpdate f s).pending = s.pending := rfl
@[simp] theorem modUpdate_time (f : UpdSt → UpdSt) (s : State) : (modUpdate f s).time = s.time := rfl
@[simp] theorem modUpdate_draws (f : UpdSt → UpdSt) (s : State) : (modUpdate f s).draws = s.draws := rfl
@[simp] theorem modUpdate_out (f : UpdSt → UpdSt) (s : State) : (modUpdate f s).out = s.out := rfl
@[simp] theorem modUpdate_module (f : UpdSt → UpdSt) (s : State) : (modUpdate f s).module = s.module := rfl
@[simp] theorem modUpdate_clock (f : UpdSt → UpdSt) (s : State) : (modUpdate f s).clock = s.clock := rfl
@[simp] theorem modUpdate_recorder (f : UpdSt → UpdSt) (s : State) : (modUpdate f s).recorder = s.recorder := rfl
@[simp] theorem modUpdate_trust (f : UpdSt → UpdSt) (s : State) : (modUpdate f s).trust = s.trust := rfl
@[simp] theorem modUpdate_mbx (f : UpdSt → UpdSt) (s : State) : (modUpdate f s).mbx = s.mbx := rfl
@[simp] theorem modUpdate_test (f : UpdSt → UpdSt) (s : State) : (modUpdate f s).test = s.test := rfl
@[simp] theorem modUpdate_voter (f : UpdSt → UpdSt) (s : State) : (modUpdate f s).voter = s.voter := rfl
@[simp] theorem modUpdate_prog (f : UpdSt → UpdSt) (s : State) : (modUpdate f s).prog = s.prog := rfl
@[simp] theorem modUpdate_act (f : UpdSt → UpdSt) (s : State) : (modUpdate f s).act = s.act := rfl
@[simp] theorem modUpdate_pos (f : UpdSt → UpdSt) (s : State) : (modUpdate f s).pos = s.pos := rfl
@[simp] theorem modUpdate_safety (f : UpdSt → UpdSt) (s : State) : (modUpdate f s).safety = s.safety := rfl
@[simp] theorem modUpdate_signal (f : UpdSt → UpdSt) (s : State) : (modUpdate f s).signal = s.signal := rfl
@[simp] theorem modUpdate_pair (f : UpdSt → UpdSt) (s : State) : (modUpdate f s).pair = s.pair := rfl
@[simp] theorem modUpdate_net (f : UpdSt → UpdSt) (s : State) : (modUpdate f s).net = s.net := rfl
@[simp] theorem modUpdate_mvb (f : UpdSt → UpdSt) (s : State) : (modUpdate f s).mvb = s.mvb := rfl
@[simp] theorem modUpdate_update (f : UpdSt → UpdSt) (s : State) : (modUpdate f s).update = f s.update := rfl

end Sys2Proof.Machine
end

