-- ==== Sys2Proof/Laws/Within.lean ====
section
/-! SUPPORT. Which parts of the state an operation can change, said once for each operation of the machine: the operations on one block
are here, the others in the files named after their modules. A mask names parts by their numbers. -/

namespace Sys2Proof.Machine

open Sys2Proof.Claims

/-- `t` differs from `s` only in the parts that a mask names. -/
structure Within (m : Nat) (s t : State) : Prop where
  out : ∀ p : Part, m.testBit p.number = false → p.same s t

/-- A mask names every part that another one names. -/
abbrev Covers (m f : Nat) : Prop := f &&& m = f

theorem Covers.sub {m f g : Nat} (h : Covers m f) (k : Covers f g) : Covers m g := by
  have : (g &&& f) &&& m = g &&& f := by rw [Nat.land_assoc, h]
  rwa [k] at this

theorem Covers.bit {m f k : Nat} (h : Covers m f) (hf : f.testBit k = true) : m.testBit k = true := by
  have := congrArg (fun x => x.testBit k) h
  simp only [Nat.testBit_land, hf, Bool.true_and] at this
  exact this

/-- The same of a step's outcome, of the pairs that operations give, and of a command's body. -/
structure WithinOut (m : Nat) (s : State) (o : Out) : Prop where
  out : ∀ t, o = .next t → Within m s t
structure Within1 {α : Type} (m : Nat) (s : State) (p : State × α) : Prop where
  out : Within m s p.1
structure Within2 {α : Type} (m : Nat) (s : State) (p : α × State) : Prop where
  out : Within m s p.2
structure Within3 {α β : Type} (m : Nat) (s : State) (p : α × β × State) : Prop where
  out : Within m s p.2.2
structure WithinO (m : Nat) (s : State) (o : Option State) : Prop where
  out : ∀ t, o = some t → Within m s t
structure WithinC (m : Nat) (c : Command) : Prop where
  body : ∀ e s t, Within m s t → Within1 m s (c.body e t)

theorem Within.refl (m : Nat) (s : State) : Within m s s := ⟨fun p _ => by
  cases p <;> first | rfl | exact ⟨rfl, rfl⟩⟩

/-- A part outside the mask is the same after a next state. -/
theorem WithinOut.kept {m : Nat} {s t : State} {o : Out} {p : Part} (h : WithinOut m s o) (ho : o = .next t)
    (hp : m.testBit p.number = false) : p.same s t := (h.out t ho).out p hp

theorem part_number_inj {p q : Part} (h : p.number = q.number) : p = q := by
  cases p <;> cases q <;> first | rfl | exact absurd h (by decide)

theorem part_number_lt (p : Part) : p.number < 37 := by cases p <;> decide

/-- Every part that the mask names stands in a list. -/
def Lists (l : List Part) (m : Nat) : Bool := (List.range 37).all fun k => !m.testBit k || (l.map Part.number).contains k

/-- A part that a list naming the mask's parts does not name is the same after a next state. -/
theorem WithinOut.keeps {m : Nat} {s t : State} {o : Out} {p : Part} {l : List Part} (h : WithinOut m s o) (ho : o = .next t)
    (hl : Lists l m = true) (hp : p ∉ l) : p.same s t := by
  refine h.kept ho ?_
  have k := List.all_eq_true.1 hl p.number (List.mem_range.2 (part_number_lt p))
  simp only [Bool.or_eq_true, Bool.not_eq_true', List.contains_eq_mem, decide_eq_true_eq, List.mem_map] at k
  rcases k with k | ⟨q, hq, e⟩
  · exact k
  · exact absurd (part_number_inj e ▸ hq) hp

section
variable {m : Nat}

theorem withinOut_next {s t : State} (h : Within m s t) : WithinOut m s (.next t) := ⟨fun _ e => by cases e; exact h⟩
theorem withinOut_refused {s : State} {r : Refusal} : WithinOut m s (.refused r) := ⟨fun _ e => by cases e⟩
theorem withinOut_fault {s : State} {r : Fault} : WithinOut m s (.fault r) := ⟨fun _ e => by cases e⟩
theorem within1_mk {α : Type} {s t : State} {a : α} (h : Within m s t) : Within1 m s (t, a) := ⟨h⟩
theorem within2_mk {α : Type} {s t : State} {a : α} (h : Within m s t) : Within2 m s (a, t) := ⟨h⟩
theorem within3_mk {α β : Type} {s t : State} {a : α} {b : β} (h : Within m s t) : Within3 m s (a, b, t) := ⟨h⟩
theorem withinO_some {s t : State} (h : Within m s t) : WithinO m s (some t) := ⟨fun _ e => by cases e; exact h⟩
theorem withinO_none {s : State} : WithinO m s none := ⟨fun _ e => by cases e⟩

theorem within_ite {s : State} {t u : State} {c : Prop} [Decidable c] (h : Within m s t) (g : Within m s u) : Within m s (if c then t else u) := by
  split <;> assumption
theorem withinOut_ite {s : State} {t u : Out} {c : Prop} [Decidable c] (h : WithinOut m s t) (g : WithinOut m s u) : WithinOut m s (if c then t else u) := by
  split <;> assumption
theorem withinO_ite {s : State} {t u : Option State} {c : Prop} [Decidable c] (h : WithinO m s t) (g : WithinO m s u) : WithinO m s (if c then t else u) := by
  split <;> assumption
theorem within1_ite {α : Type} {s : State} {t u : State × α} {c : Prop} [Decidable c] (h : Within1 m s t) (g : Within1 m s u) :
    Within1 m s (if c then t else u) := by
  split <;> assumption
theorem within2_ite {α : Type} {s : State} {t u : α × State} {c : Prop} [Decidable c] (h : Within2 m s t) (g : Within2 m s u) :
    Within2 m s (if c then t else u) := by
  split <;> assumption
theorem within3_ite {α β : Type} {s : State} {t u : α × β × State} {c : Prop} [Decidable c] (h : Within3 m s t) (g : Within3 m s u) :
    Within3 m s (if c then t else u) := by
  split <;> assumption

/-- A fold over a list keeps it when each step does. -/
theorem within_foldl {α : Type} {s t : State} {f : State → α → State} {l : List α} (hf : ∀ u a, Within m s u → Within m s (f u a))
    (h : Within m s t) : Within m s (l.foldl f t) := by
  induction l generalizing t with
  | nil => exact h
  | cons a l ih => exact ih (hf t a h)

theorem within1_foldl {α β : Type} {s : State} {t : State × β} {f : State × β → α → State × β} {l : List α}
    (hf : ∀ u a, Within1 m s u → Within1 m s (f u a)) (h : Within1 m s t) : Within1 m s (l.foldl f t) := by
  induction l generalizing t with
  | nil => exact h
  | cons a l ih => exact ih (hf t a h)

theorem within1_foldl_out {α β : Type} {s : State} {t : State × β} {f : State × β → α → State × β} {l : List α}
    (hf : ∀ u a, Within1 m s u → Within1 m s (f u a)) (h : Within1 m s t) : Within m s (l.foldl f t).1 := (within1_foldl hf h).out

theorem within2_foldl {α β : Type} {s : State} {t : β × State} {f : β × State → α → β × State} {l : List α}
    (hf : ∀ u a, Within2 m s u → Within2 m s (f u a)) (h : Within2 m s t) : Within2 m s (l.foldl f t) := by
  induction l generalizing t with
  | nil => exact h
  | cons a l ih => exact ih (hf t a h)

theorem within2_foldl_out {α β : Type} {s : State} {t : β × State} {f : β × State → α → β × State} {l : List α}
    (hf : ∀ u a, Within2 m s u → Within2 m s (f u a)) (h : Within2 m s t) : Within m s (l.foldl f t).2 := (within2_foldl hf h).out

/-- A fact about an intermediate state, and what follows from it. -/
theorem within_cut {s y : State} {p : Prop} (hy : Within m s y) (hb : Within m s y → p) : p := hb hy
theorem within1_cut {α : Type} {s : State} {y : State × α} {p : Prop} (hy : Within1 m s y) (hb : Within1 m s y → p) : p := hb hy
theorem within2_cut {α : Type} {s : State} {y : α × State} {p : Prop} (hy : Within2 m s y) (hb : Within2 m s y → p) : p := hb hy
theorem within3_cut {α β : Type} {s : State} {y : α × β × State} {p : Prop} (hy : Within3 m s y) (hb : Within3 m s y → p) : p := hb hy

/-- The state of a pair that an operation is known to give. -/
theorem within1_of_eq {α : Type} {s t : State} {a : α} {x : State × α} (he : x = (t, a)) (hx : Within1 m s x) : Within m s t := by
  subst he; exact hx.out
theorem within2_of_eq {α : Type} {s t : State} {a : α} {x : α × State} (he : x = (a, t)) (hx : Within2 m s x) : Within m s t := by
  subst he; exact hx.out
theorem withinO_of_eq {s t : State} {x : Option State} (he : x = some t) (hx : WithinO m s x) : Within m s t := hx.out t he

/-! ### The operations that change one block -/

variable {s t : State} (h : Within m s t)
include h

theorem reach_within (hm : Covers m 0x2) (u : Nat) : Within m s (reach u t) := by
  refine ⟨fun p hp => ?_⟩
  cases p <;> first | exact h.out _ hp | exact absurd hp (by rw [hm.bit (by decide)]; decide)
theorem afterDraw_within (hm : Covers m 0x4)  : Within m s (afterDraw t) := by
  refine ⟨fun p hp => ?_⟩
  cases p <;> first | exact h.out _ hp | exact absurd hp (by rw [hm.bit (by decide)]; decide)
theorem emit_within (hm : Covers m 0x8) (o : Output) : Within m s (emit o t) := by
  refine ⟨fun p hp => ?_⟩
  cases p <;> first | exact h.out _ hp | exact absurd hp (by rw [hm.bit (by decide)]; decide)
theorem setLocal_within (hm : Covers m 0x40) (v : Nat) : Within m s (setLocal v t) := by
  refine ⟨fun p hp => ?_⟩
  cases p <;> first | exact h.out _ hp | exact absurd hp (by rw [hm.bit (by decide)]; decide)
theorem setAddend_within (hm : Covers m 0x40) (a : Nat) : Within m s (setAddend a t) := by
  refine ⟨fun p hp => ?_⟩
  cases p <;> first | exact h.out _ hp | exact absurd hp (by rw [hm.bit (by decide)]; decide)
theorem modLane_within (hm : Covers m 0x200000) (l : Lane) (f : LaneSt → LaneSt) : Within m s (modLane l f t) := by
  refine ⟨fun p hp => ?_⟩
  cases p <;> first | exact h.out _ hp | exact absurd hp (by rw [hm.bit (by decide)]; decide)
theorem modClock_within (hm : Covers m 0x40) (f : ClockSt → ClockSt) : Within m s (modClock f t) := by
  refine ⟨fun p hp => ?_⟩
  cases p <;> first | exact h.out _ hp | exact absurd hp (by rw [hm.bit (by decide)]; decide)
theorem modRecorder_within (hm : Covers m 0x80) (f : RecorderSt → RecorderSt) : Within m s (modRecorder f t) := by
  refine ⟨fun p hp => ?_⟩
  cases p <;> first | exact h.out _ hp | exact absurd hp (by rw [hm.bit (by decide)]; decide)
theorem modTest_within (hm : Covers m 0x100000) (f : TestSt → TestSt) : Within m s (modTest f t) := by
  refine ⟨fun p hp => ?_⟩
  cases p <;> first | exact h.out _ hp | exact absurd hp (by rw [hm.bit (by decide)]; decide)
theorem modVoter_within (hm : Covers m 0x200000) (f : VoterSt → VoterSt) : Within m s (modVoter f t) := by
  refine ⟨fun p hp => ?_⟩
  cases p <;> first | exact h.out _ hp | exact absurd hp (by rw [hm.bit (by decide)]; decide)
theorem modAct_within (hm : Covers m 0x2000000) (f : ActSt → ActSt) : Within m s (modAct f t) := by
  refine ⟨fun p hp => ?_⟩
  cases p <;> first | exact h.out _ hp | exact absurd hp (by rw [hm.bit (by decide)]; decide)
theorem modPos_within (hm : Covers m 0x4000000) (f : PosSt → PosSt) : Within m s (modPos f t) := by
  refine ⟨fun p hp => ?_⟩
  cases p <;> first | exact h.out _ hp | exact absurd hp (by rw [hm.bit (by decide)]; decide)
theorem modSignal_within (hm : Covers m 0x80000000) (f : SignalSt → SignalSt) : Within m s (modSignal f t) := by
  refine ⟨fun p hp => ?_⟩
  cases p <;> first | exact h.out _ hp | exact absurd hp (by rw [hm.bit (by decide)]; decide)
theorem modNet_within (hm : Covers m 0x400000000) (f : NetSt → NetSt) : Within m s (modNet f t) := by
  refine ⟨fun p hp => ?_⟩
  cases p <;> first | exact h.out _ hp | exact absurd hp (by rw [hm.bit (by decide)]; decide)
theorem modMvb_within (hm : Covers m 0x800000000) (f : MvbSt → MvbSt) : Within m s (modMvb f t) := by
  refine ⟨fun p hp => ?_⟩
  cases p <;> first | exact h.out _ hp | exact absurd hp (by rw [hm.bit (by decide)]; decide)
theorem modUpdate_within (hm : Covers m 0x1000000000) (f : UpdSt → UpdSt) : Within m s (modUpdate f t) := by
  refine ⟨fun p hp => ?_⟩
  cases p <;> first | exact h.out _ hp | exact absurd hp (by rw [hm.bit (by decide)]; decide)
theorem modModule_within (hm : Covers m 0x10) (f : ModuleSt → ModuleSt)
    (h0 : Covers m 0x20 ∨ (f t.module).state = t.module.state) :
    Within m s (modModule f t) := by
  refine ⟨fun p hp => ?_⟩
  cases p
  case moduleState =>
    rcases h0 with k | k
    · exact absurd hp (by rw [k.bit (by decide)]; decide)
    · exact k.trans (h.out .moduleState hp)
  all_goals first | exact h.out _ hp | exact absurd hp (by rw [hm.bit (by decide)]; decide)
theorem modTrust_within (hm : Covers m 0x100) (f : TrustSt → TrustSt)
    (h0 : Covers m 0x200 ∨ (f t.trust).sessions = t.trust.sessions)
    (h1 : Covers m 0x400 ∨ (f t.trust).contexts = t.trust.contexts)
    (h2 : Covers m 0x800 ∨ (f t.trust).anchor = t.trust.anchor)
    (h3 : Covers m 0x1000 ∨ (f t.trust).ownerLock = t.trust.ownerLock)
    (h4 : Covers m 0x2000 ∨ (f t.trust).credentials = t.trust.credentials)
    (h5 : Covers m 0x4000 ∨ (f t.trust).floors = t.trust.floors)
    (h6 : Covers m 0x8000 ∨ (f t.trust).lull = t.trust.lull) :
    Within m s (modTrust f t) := by
  refine ⟨fun p hp => ?_⟩
  cases p
  case sessions =>
    rcases h0 with k | k
    · exact absurd hp (by rw [k.bit (by decide)]; decide)
    · exact k.trans (h.out .sessions hp)
  case contexts =>
    rcases h1 with k | k
    · exact absurd hp (by rw [k.bit (by decide)]; decide)
    · exact k.trans (h.out .contexts hp)
  case anchor =>
    rcases h2 with k | k
    · exact absurd hp (by rw [k.bit (by decide)]; decide)
    · exact k.trans (h.out .anchor hp)
  case ownerLock =>
    rcases h3 with k | k
    · exact absurd hp (by rw [k.bit (by decide)]; decide)
    · exact k.trans (h.out .ownerLock hp)
  case credentials =>
    rcases h4 with k | k
    · exact absurd hp (by rw [k.bit (by decide)]; decide)
    · exact k.trans (h.out .credentials hp)
  case floors =>
    rcases h5 with k | k
    · exact absurd hp (by rw [k.bit (by decide)]; decide)
    · exact k.trans (h.out .floors hp)
  case lull =>
    rcases h6 with k | k
    · exact absurd hp (by rw [k.bit (by decide)]; decide)
    · exact k.trans (h.out .lull hp)
  all_goals first | exact h.out _ hp | exact absurd hp (by rw [hm.bit (by decide)]; decide)
theorem modMbx_within (hm : Covers m 0x10000) (f : MbxSt → MbxSt)
    (h0 : Covers m 0x20000 ∨ (f t.mbx).epoch = t.mbx.epoch ∧ (f t.mbx).storedEpoch = t.mbx.storedEpoch)
    (h1 : Covers m 0x40000 ∨ (f t.mbx).lanes = t.mbx.lanes)
    (h2 : Covers m 0x80000 ∨ (f t.mbx).disabled = t.mbx.disabled) :
    Within m s (modMbx f t) := by
  refine ⟨fun p hp => ?_⟩
  cases p
  case epoch =>
    rcases h0 with k | k
    · exact absurd hp (by rw [k.bit (by decide)]; decide)
    · exact ⟨k.1.trans (h.out .epoch hp).1, k.2.trans (h.out .epoch hp).2⟩
  case windows =>
    rcases h1 with k | k
    · exact absurd hp (by rw [k.bit (by decide)]; decide)
    · exact k.trans (h.out .windows hp)
  case disabled =>
    rcases h2 with k | k
    · exact absurd hp (by rw [k.bit (by decide)]; decide)
    · exact k.trans (h.out .disabled hp)
  all_goals first | exact h.out _ hp | exact absurd hp (by rw [hm.bit (by decide)]; decide)
theorem modProg_within (hm : Covers m 0x400000) (f : ProgSt → ProgSt)
    (h0 : Covers m 0x800000 ∨ (f t.prog).forces = t.prog.forces)
    (h1 : Covers m 0x1000000 ∨ (f t.prog).slot0 = t.prog.slot0 ∧ (f t.prog).slot1 = t.prog.slot1) :
    Within m s (modProg f t) := by
  refine ⟨fun p hp => ?_⟩
  cases p
  case forces =>
    rcases h0 with k | k
    · exact absurd hp (by rw [k.bit (by decide)]; decide)
    · exact k.trans (h.out .forces hp)
  case images =>
    rcases h1 with k | k
    · exact absurd hp (by rw [k.bit (by decide)]; decide)
    · exact ⟨k.1.trans (h.out .images hp).1, k.2.trans (h.out .images hp).2⟩
  all_goals first | exact h.out _ hp | exact absurd hp (by rw [hm.bit (by decide)]; decide)
theorem modSafety_within (hm : Covers m 0x8000000) (f : SafetySt → SafetySt)
    (h0 : Covers m 0x10000000 ∨ (f t.safety).active = t.safety.active)
    (h1 : Covers m 0x20000000 ∨ (f t.safety).flag0 = t.safety.flag0 ∧ (f t.safety).flag1 = t.safety.flag1)
    (h2 : Covers m 0x40000000 ∨ (f t.safety).changeLog = t.safety.changeLog ∧ (f t.safety).changeSequence = t.safety.changeSequence) :
    Within m s (modSafety f t) := by
  refine ⟨fun p hp => ?_⟩
  cases p
  case parameters =>
    rcases h0 with k | k
    · exact absurd hp (by rw [k.bit (by decide)]; decide)
    · exact k.trans (h.out .parameters hp)
  case flag =>
    rcases h1 with k | k
    · exact absurd hp (by rw [k.bit (by decide)]; decide)
    · exact ⟨k.1.trans (h.out .flag hp).1, k.2.trans (h.out .flag hp).2⟩
  case changeLog =>
    rcases h2 with k | k
    · exact absurd hp (by rw [k.bit (by decide)]; decide)
    · exact ⟨k.1.trans (h.out .changeLog hp).1, k.2.trans (h.out .changeLog hp).2⟩
  all_goals first | exact h.out _ hp | exact absurd hp (by rw [hm.bit (by decide)]; decide)
theorem modPair_within (hm : Covers m 0x100000000) (f : PairSt → PairSt)
    (h0 : Covers m 0x200000000 ∨ (f t.pair).role = t.pair.role) :
    Within m s (modPair f t) := by
  refine ⟨fun p hp => ?_⟩
  cases p
  case role =>
    rcases h0 with k | k
    · exact absurd hp (by rw [k.bit (by decide)]; decide)
    · exact k.trans (h.out .role hp)
  all_goals first | exact h.out _ hp | exact absurd hp (by rw [hm.bit (by decide)]; decide)

end

end Sys2Proof.Machine
end

