-- ==== Sys2Proof/Laws/WithinBlocks.lean ====
section
/-! SUPPORT. Which parts of the state an operation can change (Sys2Proof/Laws/Within.lean):
the shared operations, the mailbox, the recorder, safe I/O and the activation controller. -/

namespace Sys2Proof.Machine

theorem openWindow_within {m : Nat} {s t : State} (h : Within m s t) (hm : Covers m 0x8000000) (a0 : ℕ) : Within m s (openWindow a0 t) := by
  unfold openWindow
  repeat' (first | exact hm.sub (by decide) | with_reducible exact Or.inr rfl | with_reducible exact Or.inr ⟨rfl, rfl⟩ | (intro y; clear_value y)
                 | lift_lets | with_reducible exact h | with_reducible apply within_ite | with_reducible apply modSafety_within)

theorem setTable_within {m : Nat} {s t : State} (h : Within m s t) (hm : Covers m 0x10000) (a0 : ℕ) (a1 : TokenTable) :
    Within m s (setTable a0 a1 t) := by
  unfold setTable
  repeat' (first | exact hm.sub (by decide) | with_reducible exact Or.inr rfl | with_reducible exact Or.inr ⟨rfl, rfl⟩ | lift_lets
                 | with_reducible exact h | with_reducible apply modMbx_within)

theorem useKey_within {m : Nat} {s t : State} (h : Within m s t) (hm : Covers m 0x100000000) (a0 : ℕ) : Within m s (useKey a0 t) := by
  unfold useKey
  repeat' (first | exact hm.sub (by decide) | with_reducible exact Or.inr rfl | lift_lets | with_reducible exact h
                 | with_reducible apply modPair_within | split)

theorem modSlip_within {m : Nat} {s t : State} (h : Within m s t) (hm : Covers m 0x100000000) (a0 : ℕ) (a1 : SlipPort → SlipPort) :
    Within m s (modSlip a0 a1 t) := by
  unfold modSlip
  repeat' (first | exact hm.sub (by decide) | with_reducible exact Or.inr rfl | lift_lets | with_reducible exact h
                 | with_reducible apply modPair_within | split)

theorem startFragment_within {m : Nat} {s t : State} (h : Within m s t) (hm : Covers m 0x100000008) (a0 : ℕ) : Within m s (startFragment a0 t) := by
  unfold startFragment
  repeat' (first | exact hm.sub (by decide) | (intro y; clear_value y) | lift_lets | with_reducible exact h | with_reducible apply emit_within
                 | with_reducible apply modSlip_within | split)

theorem countApplied_within {m : Nat} {s t : State} (h : Within m s t) (hm : Covers m 0x100000) : Within m s (countApplied t) := by
  unfold countApplied
  repeat' (first | exact hm.sub (by decide) | lift_lets | with_reducible exact h | with_reducible apply modTest_within)

theorem serveSlip_within {m : Nat} {s t : State} (h : Within m s t) (hm : Covers m 0x100100008) (a0 : ℕ) : Within m s (serveSlip a0 t) := by
  unfold serveSlip
  repeat' (first | exact hm.sub (by decide) | (intro y; clear_value y) | lift_lets | with_reducible exact h | with_reducible apply within_ite
                 | with_reducible apply startFragment_within | with_reducible apply modSlip_within | with_reducible apply countApplied_within)

theorem sendSlipOn_within {m : Nat} {s t : State} (h : Within m s t) (hm : Covers m 0x100100008) (a0 : ℕ) (a1 : ℕ) (a2 : Bytes) :
    Within m s (sendSlipOn a0 a1 a2 t) := by
  unfold sendSlipOn
  repeat' (first | exact hm.sub (by decide) | with_reducible exact Or.inr rfl
                 | (intro y; refine within_cut (m := m) (s := s) (y := y) ?_ ?_; rotate_left; (intro hy; clear_value y); rotate_right; subst y)
                 | (intro (y : _ → _); subst y; try beta_reduce) | (intro y; clear_value y) | lift_lets | with_reducible exact h
                 | with_reducible assumption | with_reducible apply useKey_within | with_reducible apply modPair_within
                 | with_reducible apply serveSlip_within | with_reducible apply emit_within)

theorem sendSlip_within {m : Nat} {s t : State} (h : Within m s t) (hm : Covers m 0x100100008) (a0 : ℕ) (a1 : Bytes) :
    Within m s (sendSlip a0 a1 t) := by
  unfold sendSlip
  repeat' (first | exact hm.sub (by decide) | lift_lets | with_reducible exact h | with_reducible apply sendSlipOn_within)

theorem slipstream_within {m : Nat} {s t : State} (h : Within m s t) (hm : Covers m 0x100100008) (a0 : ℕ) (a1 : Bytes) :
    Within m s (slipstream a0 a1 t) := by
  unfold slipstream
  repeat' (first | exact hm.sub (by decide) | lift_lets | with_reducible exact h | with_reducible apply within_ite
                 | with_reducible apply sendSlip_within)

theorem sendChannel_within {m : Nat} {s t : State} (h : Within m s t) (hm : Covers m 0x110000) (a0 : ℕ) (a1 : ℕ) (a2 : Bytes) :
    Within m s (sendChannel a0 a1 a2 t) := by
  unfold sendChannel
  repeat' (first | exact hm.sub (by decide) | with_reducible exact Or.inr rfl | with_reducible exact Or.inr ⟨rfl, rfl⟩
                 | (intro y; refine within_cut (m := m) (s := s) (y := y) ?_ ?_; rotate_left; (intro hy; clear_value y); rotate_right; subst y)
                 | lift_lets | with_reducible exact h | with_reducible assumption | with_reducible apply within_ite
                 | with_reducible apply countApplied_within | with_reducible apply modMbx_within)

theorem countMessage_within {m : Nat} {s t : State} (h : Within m s t) (hm : Covers m 0x500) (a0 : ℕ) : Within m s (countMessage a0 t) := by
  unfold countMessage
  repeat' (first | exact hm.sub (by decide) | exact Or.inl (hm.sub (by decide)) | with_reducible exact Or.inr rfl | lift_lets
                 | with_reducible exact h | with_reducible apply modTrust_within)

theorem sendNow_within {m : Nat} {s t : State} (h : Within m s t) (hm : Covers m 0x508) (a0 : ℕ) (a1 : Bytes) : Within m s (sendNow a0 a1 t) := by
  unfold sendNow
  repeat' (first | exact hm.sub (by decide) | lift_lets | with_reducible exact h | with_reducible apply emit_within
                 | with_reducible apply countMessage_within | split)

theorem sendSession_within {m : Nat} {s t : State} (h : Within m s t) (hm : Covers m 0x110508) (a0 : ℕ) (a1 : Bool) (a2 : Bytes) :
    Within m s (sendSession a0 a1 a2 t) := by
  unfold sendSession
  repeat' (first | exact hm.sub (by decide) | with_reducible exact Or.inr rfl | with_reducible exact Or.inr ⟨rfl, rfl⟩ | lift_lets
                 | with_reducible exact h | with_reducible apply within_ite | with_reducible apply sendNow_within
                 | with_reducible apply modMbx_within | with_reducible apply countApplied_within)

theorem releaseCompletion_within {m : Nat} {s t : State} (h : Within m s t) (hm : Covers m 0x110508) (a0 : HeldCompletion) :
    Within m s (releaseCompletion a0 t) := by
  unfold releaseCompletion
  repeat' (first | exact hm.sub (by decide) | intro _ | lift_lets | with_reducible exact h | with_reducible assumption
                 | with_reducible apply within_foldl | with_reducible apply sendChannel_within | with_reducible apply sendSession_within | split)

theorem deliverCompletion_within {m : Nat} {s t : State} (h : Within m s t) (hm : Covers m 0x100110508) (a0 : HeldCompletion) :
    Within m s (deliverCompletion a0 t) := by
  unfold deliverCompletion
  repeat' (first | exact hm.sub (by decide) | with_reducible exact Or.inr rfl | lift_lets | with_reducible exact h
                 | with_reducible apply within_ite | with_reducible apply modPair_within | with_reducible apply releaseCompletion_within)

theorem finish_within {m : Nat} {s t : State} (h : Within m s t) (hm : Covers m 0x100110508) (a0 : ℕ) (a1 : Entry) (a2 : ℕ) (a3 : Bytes) :
    Within m s (finish a0 a1 a2 a3 t) := by
  unfold finish
  repeat' (first | exact hm.sub (by decide) | with_reducible exact Or.inr rfl | with_reducible exact Or.inr ⟨rfl, rfl⟩
                 | (intro y; refine within_cut (m := m) (s := s) (y := y) ?_ ?_; rotate_left; (intro hy; clear_value y); rotate_right; subst y)
                 | (intro y; clear_value y) | lift_lets | with_reducible exact h | with_reducible assumption | with_reducible apply within_ite
                 | with_reducible apply modMbx_within | with_reducible apply setTable_within | with_reducible apply slipstream_within
                 | with_reducible apply deliverCompletion_within)

theorem completeEntry_within {m : Nat} {s t : State} (h : Within m s t) (hm : Covers m 0x100110508) (a0 : ℕ) (a1 : ℕ) (a2 : Bytes) :
    Within m s (completeEntry a0 a1 a2 t) := by
  unfold completeEntry
  repeat' (first | exact hm.sub (by decide) | lift_lets | with_reducible exact h | with_reducible apply finish_within | split)

theorem modWindow_within {m : Nat} {s t : State} (h : Within m s t) (hm : Covers m 0x50000) (a0 : Lane) (a1 : LaneMbx → LaneMbx) :
    Within m s (modWindow a0 a1 t) := by
  unfold modWindow
  repeat' (first | exact hm.sub (by decide) | exact Or.inl (hm.sub (by decide)) | with_reducible exact Or.inr rfl
                 | with_reducible exact Or.inr ⟨rfl, rfl⟩ | lift_lets | with_reducible exact h | with_reducible apply modMbx_within)

theorem laneVoted_within {m : Nat} {s t : State} (h : Within m s t) (hm : Covers m 0x50000) (a0 : Lane) (a1 : ℕ) (a2 : ℕ) :
    Within m s (laneVoted a0 a1 a2 t) := by
  unfold laneVoted
  repeat' (first | exact hm.sub (by decide) | lift_lets | with_reducible exact h | with_reducible apply modWindow_within)

theorem makeRecord_within {m : Nat} {s t : State} (h : Within m s t) (hm : Covers m 0x80) (a0 : Ring) (a1 : RecordFields) :
    Within m s (makeRecord a0 a1 t) := by
  unfold makeRecord
  repeat' (first | exact hm.sub (by decide) | lift_lets | with_reducible exact h | with_reducible apply within_ite
                 | with_reducible apply modRecorder_within)

theorem record_within {m : Nat} {s t : State} (h : Within m s t) (hm : Covers m 0x80) (a0 : Ring) (a1 : ℕ) (a2 : ℕ) (a3 : Bytes) :
    Within m s (record a0 a1 a2 a3 t) := by
  unfold record
  repeat' (first | exact hm.sub (by decide) | lift_lets | with_reducible exact h | with_reducible apply makeRecord_within)

theorem reachLocal_within {m : Nat} {s t : State} (h : Within m s t) (hm : Covers m 0x2) (a0 : ℕ) : Within m s (reachLocal a0 t) := by
  unfold reachLocal
  repeat' (first | exact hm.sub (by decide) | lift_lets | with_reducible exact h | with_reducible apply reach_within)

theorem pulse_within {m : Nat} {s t : State} (h : Within m s t) (hm : Covers m 0x2000000) (a0 : ℕ) (a1 : ℕ) : Within m s (pulse a0 a1 t) := by
  unfold pulse
  repeat' (first | exact hm.sub (by decide) | lift_lets | with_reducible exact h | with_reducible apply modAct_within)

theorem changeLog_within {m : Nat} {s t : State} (h : Within m s t) (hm : Covers m 0x48000080) (a0 : ℕ) (a1 : ℕ) (a2 : ℕ) (a3 : Bytes) (a4 : ℕ)
    (a5 : ℕ) :
    Within m s (changeLog a0 a1 a2 a3 a4 a5 t) := by
  unfold changeLog
  repeat' (first | exact hm.sub (by decide) | exact Or.inl (hm.sub (by decide)) | with_reducible exact Or.inr rfl
                 | with_reducible exact Or.inr ⟨rfl, rfl⟩
                 | (intro y; refine within_cut (m := m) (s := s) (y := y) ?_ ?_; rotate_left; (intro hy; clear_value y); rotate_right; subst y)
                 | (intro y; clear_value y) | lift_lets | with_reducible exact h | with_reducible assumption
                 | with_reducible apply modSafety_within | with_reducible apply record_within)

theorem writeFlag_within {m : Nat} {s t : State} (h : Within m s t) (hm : Covers m 0x28000000) (a0 : Bytes) : Within m s (writeFlag a0 t) := by
  unfold writeFlag
  repeat' (first | exact hm.sub (by decide) | exact Or.inl (hm.sub (by decide)) | with_reducible exact Or.inr rfl
                 | with_reducible exact Or.inr ⟨rfl, rfl⟩ | lift_lets | with_reducible exact h | with_reducible apply modSafety_within)

theorem flushSlip_within {m : Nat} {s t : State} (h : Within m s t) (hm : Covers m 0x100000008) : Within m s (flushSlip t) := by
  unfold flushSlip
  repeat' (first | exact hm.sub (by decide) | (intro (y : _ → _); subst y; try beta_reduce) | lift_lets | with_reducible exact h
                 | with_reducible apply within_ite | with_reducible apply startFragment_within)

theorem dropSession_within {m : Nat} {s t : State} (h : Within m s t) (hm : Covers m 0x100010708) (a0 : ℕ) : Within m s (dropSession a0 t) := by
  unfold dropSession
  repeat' (first | exact hm.sub (by decide) | exact Or.inl (hm.sub (by decide)) | with_reducible exact Or.inr rfl
                 | with_reducible exact Or.inr ⟨rfl, rfl⟩
                 | (intro y; refine within_cut (m := m) (s := s) (y := y) ?_ ?_; rotate_left; (intro hy; clear_value y); rotate_right; subst y)
                 | lift_lets | with_reducible exact h | with_reducible assumption | with_reducible apply modTrust_within
                 | with_reducible apply modMbx_within | with_reducible apply modPair_within | with_reducible apply emit_within | split)

theorem settleDropped_within {m : Nat} {s t : State} (h : Within m s t) (hm : Covers m 0x100010708) : Within m s (settleDropped t) := by
  unfold settleDropped
  repeat' (first | exact hm.sub (by decide) | intro _ | lift_lets | with_reducible exact h | with_reducible assumption
                 | with_reducible apply within_foldl | with_reducible apply dropSession_within)

theorem flushDelayed_within {m : Nat} {s t : State} (h : Within m s t) (hm : Covers m 0x100010708) : Within m s (flushDelayed t) := by
  unfold flushDelayed
  repeat' (first | exact hm.sub (by decide) | with_reducible exact Or.inr rfl | with_reducible exact Or.inr ⟨rfl, rfl⟩
                 | (intro y; refine within_cut (m := m) (s := s) (y := y) ?_ ?_; rotate_left; (intro hy; clear_value y); rotate_right; subst y)
                 | (intro y; clear_value y) | intro _ | lift_lets | with_reducible exact h | with_reducible assumption
                 | with_reducible apply within_foldl | with_reducible apply modMbx_within | with_reducible apply settleDropped_within
                 | with_reducible apply sendNow_within)

theorem testOff_within {m : Nat} {s t : State} (h : Within m s t) (hm : Covers m 0x500110788) (a0 : ℕ) : Within m s (testOff a0 t) := by
  unfold testOff
  repeat' (first | exact hm.sub (by decide)
                 | (intro y; refine within_cut (m := m) (s := s) (y := y) ?_ ?_; rotate_left; (intro hy; clear_value y); rotate_right; subst y)
                 | (intro y; clear_value y) | lift_lets | with_reducible exact h | with_reducible assumption | with_reducible apply within_ite
                 | with_reducible apply modTest_within | with_reducible apply modNet_within | with_reducible apply record_within
                 | with_reducible apply flushSlip_within | with_reducible apply flushDelayed_within)

theorem allOutputsOff_within {m : Nat} {s t : State} (h : Within m s t) (hm : Covers m 0x8000000) : Within m s (allOutputsOff t) := by
  unfold allOutputsOff
  repeat' (first | exact hm.sub (by decide) | with_reducible exact Or.inr rfl | with_reducible exact Or.inr ⟨rfl, rfl⟩ | lift_lets
                 | with_reducible exact h | with_reducible apply modSafety_within)

theorem discardOne_within {m : Nat} {s t : State} (h : Within m s t) (hm : Covers m 0x110508) (a0 : ℕ) (a1 : ℕ) (a2 : ℕ) (a3 : Option ℕ)
    (a4 : List ℕ) :
    Within m s (discardOne a0 a1 a2 a3 a4 t) := by
  unfold discardOne
  repeat' (first | exact hm.sub (by decide) | with_reducible exact Or.inr rfl | with_reducible exact Or.inr ⟨rfl, rfl⟩
                 | (intro y; refine within_cut (m := m) (s := s) (y := y) ?_ ?_; rotate_left; (intro hy; clear_value y); rotate_right; subst y)
                 | (intro y; clear_value y) | intro _ | lift_lets | with_reducible exact h | with_reducible assumption
                 | with_reducible apply within_foldl | with_reducible apply setTable_within | with_reducible apply modMbx_within
                 | with_reducible apply sendChannel_within | with_reducible apply sendSession_within | split)

theorem freeUnvoted_within {m : Nat} {s t : State} (h : Within m s t) (hm : Covers m 0x50000) : Within m s (freeUnvoted t) := by
  unfold freeUnvoted
  repeat' (first | exact hm.sub (by decide) | exact Or.inl (hm.sub (by decide)) | with_reducible exact Or.inr rfl
                 | with_reducible exact Or.inr ⟨rfl, rfl⟩ | lift_lets | with_reducible exact h | with_reducible apply modMbx_within)

theorem dropDead_within {m : Nat} {s t : State} (h : Within m s t) (hm : Covers m 0x884300080) : Within m s (dropDead t) := by
  unfold dropDead
  repeat' (first | exact hm.sub (by decide)
                 | (intro y; refine within_cut (m := m) (s := s) (y := y) ?_ ?_; rotate_left; (intro hy; clear_value y); rotate_right; subst y)
                 | (intro (y : _ → _); subst y; try beta_reduce) | lift_lets | with_reducible exact h | with_reducible assumption
                 | with_reducible apply modSignal_within | with_reducible apply modRecorder_within | with_reducible apply modPos_within
                 | with_reducible apply modTest_within | with_reducible apply modVoter_within | with_reducible apply modMvb_within)

theorem dropOrphans_within {m : Nat} {s t : State} (h : Within m s t) (hm : Covers m 0x884300080) : Within m s (dropOrphans t) := by
  unfold dropOrphans
  repeat' (first | exact hm.sub (by decide)
                 | (intro y; refine within_cut (m := m) (s := s) (y := y) ?_ ?_; rotate_left; (intro hy; clear_value y); rotate_right; subst y)
                 | (intro (y : _ → _); subst y; try beta_reduce) | lift_lets | with_reducible exact h | with_reducible assumption
                 | with_reducible apply dropDead_within | with_reducible apply modMvb_within)

theorem epochIncrement_within {m : Nat} {s t : State} (h : Within m s t) (hm : Covers m 0x886370588) : Within m s (epochIncrement t) := by
  unfold epochIncrement
  repeat' (first | exact hm.sub (by decide) | exact Or.inl (hm.sub (by decide)) | with_reducible exact Or.inr rfl
                 | (intro y; refine within_cut (m := m) (s := s) (y := y) ?_ ?_; rotate_left; (intro hy; clear_value y); rotate_right; subst y)
                 | (intro y; clear_value y) | intro _ | lift_lets | with_reducible exact h | with_reducible assumption
                 | with_reducible apply within_foldl | with_reducible apply modMbx_within | with_reducible apply discardOne_within
                 | with_reducible apply pulse_within | with_reducible apply freeUnvoted_within | with_reducible apply dropOrphans_within)

theorem epochAtBoundary_within {m : Nat} {s t : State} (h : Within m s t) (hm : Covers m 0x886370588) : Within m s (epochAtBoundary t) := by
  unfold epochAtBoundary
  repeat' (first | exact hm.sub (by decide) | lift_lets | with_reducible exact h | with_reducible apply within_ite
                 | with_reducible apply modVoter_within | with_reducible apply epochIncrement_within)

theorem modOutput_within {m : Nat} {s t : State} (h : Within m s t) (hm : Covers m 0x8000000) (a0 : ℕ) (a1 : SafeOutput → SafeOutput) :
    Within m s (modOutput a0 a1 t) := by
  unfold modOutput
  repeat' (first | exact hm.sub (by decide) | with_reducible exact Or.inr rfl | with_reducible exact Or.inr ⟨rfl, rfl⟩ | lift_lets
                 | with_reducible exact h | with_reducible apply modSafety_within)

theorem closeWindows_within {m : Nat} {s t : State} (h : Within m s t) (hm : Covers m 0x8000000) : Within m s (closeWindows t) := by
  unfold closeWindows
  repeat' (first | exact hm.sub (by decide) | with_reducible exact Or.inr rfl | with_reducible exact Or.inr ⟨rfl, rfl⟩ | lift_lets
                 | with_reducible exact h | with_reducible apply modSafety_within)

theorem modInput_within {m : Nat} {s t : State} (h : Within m s t) (hm : Covers m 0x8000000) (a0 : ℕ) (a1 : SafeInput → SafeInput) :
    Within m s (modInput a0 a1 t) := by
  unfold modInput
  repeat' (first | exact hm.sub (by decide) | with_reducible exact Or.inr rfl | with_reducible exact Or.inr ⟨rfl, rfl⟩ | lift_lets
                 | with_reducible exact h | with_reducible apply modSafety_within)

theorem watchPair_within {m : Nat} {s t : State} (h : Within m s t) (hm : Covers m 0x8000000) (a0 : ℕ) : Within m s (watchPair a0 t) := by
  unfold watchPair
  repeat' (first | exact hm.sub (by decide) | (intro y; clear_value y) | lift_lets | with_reducible exact h | with_reducible apply modInput_within)

theorem watchPairs_within {m : Nat} {s t : State} (h : Within m s t) (hm : Covers m 0x8000000) : Within m s (watchPairs t) := by
  unfold watchPairs
  repeat' (first | exact hm.sub (by decide) | intro _ | lift_lets | with_reducible exact h | with_reducible assumption
                 | with_reducible apply within_ite | with_reducible apply within_foldl | with_reducible apply watchPair_within
                 | with_reducible apply modInput_within)

theorem testGate_within {m : Nat} {s t : State} (h : Within m s t) (hm : Covers m 0x500110788) : Within m s (testGate t) := by
  unfold testGate
  repeat' (first | exact hm.sub (by decide) | lift_lets | with_reducible exact h | with_reducible apply within_ite
                 | with_reducible apply testOff_within)

theorem sourcesAtStart_within {m : Nat} {s t : State} (h : Within m s t) (hm : Covers m 0x2000000) : Within m s (sourcesAtStart t) := by
  unfold sourcesAtStart
  repeat' (first | exact hm.sub (by decide) | lift_lets | with_reducible exact h | with_reducible apply modAct_within)

theorem cancelTargets_within {m : Nat} {s t : State} (h : Within m s t) (hm : Covers m 0x984310588) (a0 : Entry → Bool) :
    Within m s (cancelTargets a0 t) := by
  unfold cancelTargets
  repeat' (first | exact hm.sub (by decide) | with_reducible exact Or.inr rfl | with_reducible exact Or.inr ⟨rfl, rfl⟩ | (intro y; clear_value y)
                 | intro _ | lift_lets | with_reducible exact h | with_reducible assumption | with_reducible apply within_foldl
                 | with_reducible apply dropDead_within | with_reducible apply completeEntry_within | with_reducible apply modMbx_within)

theorem cancelTriggers_within {m : Nat} {s t : State} (h : Within m s t) (hm : Covers m 0x984310588) (a0 : ℕ) (a1 : ℕ) :
    Within m s (cancelTriggers a0 a1 t) := by
  unfold cancelTriggers
  repeat' (first | exact hm.sub (by decide) | lift_lets | with_reducible exact h | with_reducible apply cancelTargets_within)

theorem fails_within {m : Nat} {s t : State} (h : Within m s t) (a0 : ℕ) : Within1 m s (fails a0 t) := by
  unfold fails
  repeat' (first | lift_lets | with_reducible exact h | with_reducible apply within1_mk)

theorem fails_wstate {m : Nat} {s t : State} (h : Within m s t) (a0 : ℕ) : Within m s (fails a0 t).1 :=
  (fails_within h a0).out

theorem sized_within {m : Nat} {s t : State} (h : Within m s t) (a0 : ℕ) (a1 : Entry → State → State × Reply) (a2 : Entry)
    (g1 : ∀ e u, Within m s u → Within1 m s (a1 e u)) :
    Within1 m s (sized a0 a1 a2 t) := by
  unfold sized
  repeat' (first | lift_lets | with_reducible exact h | with_reducible apply within1_mk | with_reducible apply fails_wstate
                 | (with_reducible apply Within1.out; with_reducible apply g1) | split)

theorem sized_wstate {m : Nat} {s t : State} (h : Within m s t) (a0 : ℕ) (a1 : Entry → State → State × Reply) (a2 : Entry)
    (g1 : ∀ e u, Within m s u → Within1 m s (a1 e u)) :
    Within m s (sized a0 a1 a2 t).1 :=
  (sized_within h a0 a1 a2 g1).out

theorem modEntry_within {m : Nat} {s t : State} (h : Within m s t) (hm : Covers m 0x10000) (a0 : ℕ) (a1 : Entry → Entry) :
    Within m s (modEntry a0 a1 t) := by
  unfold modEntry
  repeat' (first | exact hm.sub (by decide) | with_reducible exact Or.inr rfl | with_reducible exact Or.inr ⟨rfl, rfl⟩ | lift_lets
                 | with_reducible exact h | with_reducible apply modMbx_within)

theorem commitEntry_within {m : Nat} {s t : State} (h : Within m s t) (hm : Covers m 0x10000) (a0 : ℕ) : Within m s (commitEntry a0 t) := by
  unfold commitEntry
  repeat' (first | exact hm.sub (by decide) | lift_lets | with_reducible exact h | with_reducible apply modEntry_within)

theorem unproveAll_within {m : Nat} {s t : State} (h : Within m s t) (hm : Covers m 0x8000000) : Within m s (unproveAll t) := by
  unfold unproveAll
  repeat' (first | exact hm.sub (by decide) | with_reducible exact Or.inr rfl | with_reducible exact Or.inr ⟨rfl, rfl⟩ | lift_lets
                 | with_reducible exact h | with_reducible apply modSafety_within)

theorem answers_within {m : Nat} {s t : State} (h : Within m s t) (a0 : Bytes) : Within1 m s (answers a0 t) := by
  unfold answers
  repeat' (first | lift_lets | with_reducible exact h | with_reducible apply within1_mk)

theorem answers_wstate {m : Nat} {s t : State} (h : Within m s t) (a0 : Bytes) : Within m s (answers a0 t).1 :=
  (answers_within h a0).out

theorem forwardChange_within {m : Nat} {s t : State} (h : Within m s t) (hm : Covers m 0x100100008) (a0 : ℕ) (a1 : Bytes) :
    Within m s (forwardChange a0 a1 t) := by
  unfold forwardChange
  repeat' (first | exact hm.sub (by decide) | lift_lets | with_reducible exact h | with_reducible apply within_ite
                 | with_reducible apply slipstream_within)

theorem forwardSettings_within {m : Nat} {s t : State} (h : Within m s t) (hm : Covers m 0x100100008) (a0 : Entry) :
    Within m s (forwardSettings a0 t) := by
  unfold forwardSettings
  repeat' (first | exact hm.sub (by decide) | lift_lets | with_reducible exact h | with_reducible apply forwardChange_within)

theorem evaluateGates_within {m : Nat} {s t : State} (h : Within m s t) (hm : Covers m 0x8000000) : Within m s (evaluateGates t) := by
  unfold evaluateGates
  repeat' (first | exact hm.sub (by decide) | intro _ | lift_lets | with_reducible exact h | with_reducible assumption
                 | with_reducible apply within_ite | with_reducible apply within_foldl | with_reducible apply modOutput_within)

theorem modTask_within {m : Nat} {s t : State} (h : Within m s t) (hm : Covers m 0x400000) (a0 : ℕ) (a1 : TaskRun → TaskRun) :
    Within m s (modTask a0 a1 t) := by
  unfold modTask
  repeat' (first | exact hm.sub (by decide) | with_reducible exact Or.inr rfl | with_reducible exact Or.inr ⟨rfl, rfl⟩ | lift_lets
                 | with_reducible exact h | with_reducible apply modProg_within)

theorem activateEvent_within {m : Nat} {s t : State} (h : Within m s t) (hm : Covers m 0x400000) (a0 : ℕ) : Within m s (activateEvent a0 t) := by
  unfold activateEvent
  repeat' (first | exact hm.sub (by decide) | (intro y; clear_value y) | lift_lets | with_reducible exact h | with_reducible apply within_ite
                 | with_reducible apply modTask_within | split)

theorem releaseEvents_within {m : Nat} {s t : State} (h : Within m s t) (hm : Covers m 0x400000) : Within2 m s (releaseEvents t) := by
  unfold releaseEvents
  repeat' (first | exact hm.sub (by decide) | (intro y; clear_value y) | intro _ | lift_lets | with_reducible exact h | with_reducible assumption
                 | with_reducible apply within2_mk | with_reducible apply within_foldl | with_reducible apply activateEvent_within | split)

theorem releaseEvents_wstate {m : Nat} {s t : State} (h : Within m s t) (hm : Covers m 0x400000) : Within m s (releaseEvents t).2 :=
  (releaseEvents_within h hm).out

theorem endSession_within {m : Nat} {s t : State} (h : Within m s t) (hm : Covers m 0x500110788) (a0 : ℕ) : Within m s (endSession a0 t) := by
  unfold endSession
  repeat' (first | exact hm.sub (by decide) | lift_lets | with_reducible exact h | with_reducible apply within_ite
                 | with_reducible apply dropSession_within | with_reducible apply testOff_within)

theorem countHeaderError_within {m : Nat} {s t : State} (h : Within m s t) (hm : Covers m 0x10000) : Within m s (countHeaderError t) := by
  unfold countHeaderError
  repeat' (first | exact hm.sub (by decide) | with_reducible exact Or.inr rfl | with_reducible exact Or.inr ⟨rfl, rfl⟩ | lift_lets
                 | with_reducible exact h | with_reducible apply modMbx_within)

theorem answerArrival_within {m : Nat} {s t : State} (h : Within m s t) (hm : Covers m 0x110508) (a0 : Arrival) (a1 : ℕ) (a2 : ℕ) (a3 : ℕ)
    (a4 : Bytes) :
    Within m s (answerArrival a0 a1 a2 a3 a4 t) := by
  unfold answerArrival
  repeat' (first | exact hm.sub (by decide) | (intro y; clear_value y) | lift_lets | with_reducible exact h
                 | with_reducible apply sendChannel_within | with_reducible apply sendSession_within | split)

theorem returnCredit_within {m : Nat} {s t : State} (h : Within m s t) (hm : Covers m 0x50000) (a0 : ℕ) (a1 : ℕ) :
    Within m s (returnCredit a0 a1 t) := by
  unfold returnCredit
  repeat' (first | exact hm.sub (by decide) | exact Or.inl (hm.sub (by decide)) | with_reducible exact Or.inr rfl
                 | with_reducible exact Or.inr ⟨rfl, rfl⟩ | lift_lets | with_reducible exact h | with_reducible apply modMbx_within)

theorem refuseArrival_within {m : Nat} {s t : State} (h : Within m s t) (hm : Covers m 0x110508) (a0 : Arrival) (a1 : ℕ) :
    Within m s (refuseArrival a0 a1 t) := by
  unfold refuseArrival
  repeat' (first | exact hm.sub (by decide) | with_reducible exact Or.inr rfl | with_reducible exact Or.inr ⟨rfl, rfl⟩
                 | (intro y; refine within_cut (m := m) (s := s) (y := y) ?_ ?_; rotate_left; (intro hy; clear_value y); rotate_right; subst y)
                 | lift_lets | with_reducible exact h | with_reducible assumption | with_reducible apply modMbx_within
                 | with_reducible apply answerArrival_within)

theorem Command.body_within {m : Nat} {s t : State} (h : Within m s t) (a0 : Command) (a1 : Entry) (g0 : WithinC m a0) :
    Within1 m s (a0.body a1 t) :=
  g0.body _ _ _ h

theorem Command.body_wstate {m : Nat} {s t : State} (h : Within m s t) (a0 : Command) (a1 : Entry) (g0 : WithinC m a0) :
    Within m s (a0.body a1 t).1 :=
  (g0.body _ _ _ h).out

theorem run_within {m : Nat} {s t : State} (h : Within m s t) (hm : Covers m 0x100110508) (a0 : Command) (a1 : Entry) (g0 : WithinC m a0) :
    Within m s (run a0 a1 t) := by
  unfold run
  have g := (g0.body a1 s t h).out
  split
  · next e => rw [e] at g; exact finish_within g (hm.sub (by decide)) _ _ _ _
  · next e => rw [e] at g; exact modEntry_within g (hm.sub (by decide)) _ _

theorem serve_within {m : Nat} {s t : State} (h : Within m s t) (hm : Covers m 0x100110508) (a0 : ℕ → Option Command) (a1 : Entry)
    (g0 : ∀ c, a0 a1.code = some c → WithinC m c) : Within m s (serve a0 a1 t) := by
  unfold serve
  split
  · exact finish_within h (hm.sub (by decide)) _ _ _ _
  · next c e => exact within_ite (run_within h (hm.sub (by decide)) _ _ (g0 c e)) (finish_within h (hm.sub (by decide)) _ _ _ _)

theorem accept_within {m : Nat} {s t : State} (h : Within m s t) (hm : Covers m 0x10000) (a0 : Arrival) : Within m s (accept a0 t) := by
  unfold accept
  repeat' (first | exact hm.sub (by decide) | with_reducible exact Or.inr rfl | with_reducible exact Or.inr ⟨rfl, rfl⟩
                 | (intro y; refine within_cut (m := m) (s := s) (y := y) ?_ ?_; rotate_left; (intro hy; clear_value y); rotate_right; subst y)
                 | (intro y; clear_value y) | lift_lets | with_reducible exact h | with_reducible assumption
                 | with_reducible apply setTable_within | with_reducible apply modMbx_within)

theorem present_within {m : Nat} {s t : State} (h : Within m s t) (hm : Covers m 0x100150508) (a0 : ℕ → Option Command) (a1 : Arrival)
    (g0 : ∀ c, a0 a1.code = some c → WithinC m c) : Within m s (present a0 a1 t) := by
  have hs : Within m s (serve a0 (newEntry t a1) (accept a1 t)) :=
    serve_within (accept_within h (hm.sub (by decide)) _) (hm.sub (by decide)) _ _ g0
  unfold present
  repeat' (first | exact hs | exact hm.sub (by decide) | with_reducible exact Or.inr rfl | with_reducible exact Or.inr ⟨rfl, rfl⟩ | exact Or.inl (hm.sub (by decide)) |
    (intro y; refine within_cut (m := m) (s := s) (y := y) ?_ ?_; rotate_left; (intro hy; clear_value y); rotate_right; subst y) | lift_lets |
    with_reducible exact h | with_reducible assumption | with_reducible apply within_ite | with_reducible apply answerArrival_within |
    with_reducible apply modMbx_within | with_reducible apply modEntry_within | with_reducible apply returnCredit_within |
    with_reducible apply modPair_within | with_reducible apply refuseArrival_within | split)

theorem receive_within {m : Nat} {s t : State} (h : Within m s t) (hm : Covers m 0x500150788) (a0 : ℕ → Option Command) (a1 : ℕ) (a2 : Msg)
    (g0 : ∀ c, a0 a1 = some c → WithinC m c) : Within m s (receive a0 a1 a2 t) := by
  unfold receive
  repeat' (first | exact hm.sub (by decide) | with_reducible exact Or.inr rfl | with_reducible exact Or.inr ⟨rfl, rfl⟩ | exact Or.inl (hm.sub (by decide)) |
    (intro y; refine within_cut (m := m) (s := s) (y := y) ?_ ?_; rotate_left; (intro hy; clear_value y); rotate_right; subst y) |
    (intro (y : Arrival)) | lift_lets |
    with_reducible exact h | with_reducible assumption | with_reducible apply within_ite | with_reducible apply endSession_within |
    with_reducible apply modMbx_within | with_reducible apply modTrust_within | with_reducible apply sendSession_within |
    with_reducible apply countHeaderError_within | (with_reducible apply present_within) | exact g0 | split)

theorem modSource_within {m : Nat} {s t : State} (h : Within m s t) (hm : Covers m 0x2000000) (a0 : ℕ) (a1 : ActSource → ActSource) :
    Within m s (modSource a0 a1 t) := by
  unfold modSource
  repeat' (first | exact hm.sub (by decide) | lift_lets | with_reducible exact h | with_reducible apply modAct_within)

theorem cmdSourceConfigure_within {m : Nat} (hm : Covers m 0x986310588) : WithinC m cmdSourceConfigure := by
  refine ⟨fun e s t h => ?_⟩
  unfold cmdSourceConfigure
  repeat' (first | exact hm.sub (by decide)
                 | (intro y; refine within_cut (m := m) (s := s) (y := y) ?_ ?_; rotate_left; (intro hy; clear_value y); rotate_right; subst y)
                 | (intro y; clear_value y) | intro _ | lift_lets | with_reducible exact h | with_reducible assumption
                 | with_reducible apply within1_mk | with_reducible apply cancelTriggers_within | with_reducible apply modSource_within
                 | with_reducible apply forwardSettings_within | with_reducible apply sized_wstate | with_reducible apply fails_wstate
                 | with_reducible apply answers_wstate | split)

theorem cmdActivationStatus_within {m : Nat} : WithinC m cmdActivationStatus := by
  refine ⟨fun e s t h => ?_⟩
  unfold cmdActivationStatus
  repeat' (first | (intro (y : _ → _); subst y; try beta_reduce) | (intro y; clear_value y) | intro _ | lift_lets | with_reducible exact h
                 | with_reducible assumption | with_reducible apply within1_mk | with_reducible apply sized_wstate
                 | with_reducible apply fails_wstate | with_reducible apply answers_wstate | split)

theorem endAfter_within {m : Nat} {s t : State} (h : Within m s t) (hm : Covers m 0x500110788) (a0 : ℕ) (a1 : ℕ) (a2 : ℕ) :
    Within m s (endAfter a0 a1 a2 t) := by
  unfold endAfter
  repeat' (first | exact hm.sub (by decide) | with_reducible exact Or.inr rfl | with_reducible exact Or.inr ⟨rfl, rfl⟩ | lift_lets
                 | with_reducible exact h | with_reducible apply within_ite | with_reducible apply modMbx_within
                 | with_reducible apply endSession_within)

theorem maskSource_within {m : Nat} {s t : State} (h : Within m s t) (hm : Covers m 0x2000000) (a0 : ℕ) : Within m s (maskSource a0 t) := by
  unfold maskSource
  repeat' (first | exact hm.sub (by decide) | lift_lets | with_reducible exact h | with_reducible apply modSource_within)

theorem unmaskSource_within {m : Nat} {s t : State} (h : Within m s t) (hm : Covers m 0x2000000) (a0 : ℕ) : Within m s (unmaskSource a0 t) := by
  unfold unmaskSource
  repeat' (first | exact hm.sub (by decide) | lift_lets | with_reducible exact h | with_reducible apply modSource_within)

theorem cmdSourceMask_within {m : Nat} (hm : Covers m 0x102100008) : WithinC m cmdSourceMask := by
  refine ⟨fun e s t h => ?_⟩
  unfold cmdSourceMask
  repeat' (first | exact hm.sub (by decide)
                 | (intro y; refine within_cut (m := m) (s := s) (y := y) ?_ ?_; rotate_left; (intro hy; clear_value y); rotate_right; subst y)
                 | (intro y; clear_value y) | intro _ | lift_lets | with_reducible exact h | with_reducible assumption
                 | with_reducible apply within1_mk | with_reducible apply within_foldl | with_reducible apply maskSource_within
                 | with_reducible apply unmaskSource_within | with_reducible apply forwardSettings_within | with_reducible apply sized_wstate
                 | with_reducible apply fails_wstate | with_reducible apply answers_wstate | split)

theorem cmdRecorderClearRequest_within {m : Nat} (hm : Covers m 0x84) : WithinC m cmdRecorderClearRequest := by
  refine ⟨fun e s t h => ?_⟩
  unfold cmdRecorderClearRequest
  repeat' (first | exact hm.sub (by decide)
                 | (intro y; refine within_cut (m := m) (s := s) (y := y) ?_ ?_; rotate_left; (intro hy; clear_value y); rotate_right; subst y)
                 | (intro y; clear_value y) | intro _ | lift_lets | with_reducible exact h | with_reducible assumption
                 | with_reducible apply within1_mk | with_reducible apply modRecorder_within | with_reducible apply afterDraw_within
                 | with_reducible apply sized_wstate | with_reducible apply fails_wstate | with_reducible apply answers_wstate | split)

theorem laneOutputsOff_within {m : Nat} {s t : State} (h : Within m s t) (hm : Covers m 0x8000000) (a0 : Lane) :
    Within m s (laneOutputsOff a0 t) := by
  unfold laneOutputsOff
  repeat' (first | exact hm.sub (by decide) | with_reducible exact Or.inr rfl | with_reducible exact Or.inr ⟨rfl, rfl⟩ | lift_lets
                 | with_reducible exact h | with_reducible apply modSafety_within)

theorem cmdRecorderRead_within {m : Nat} : WithinC m cmdRecorderRead := by
  refine ⟨fun e s t h => ?_⟩
  unfold cmdRecorderRead
  repeat' (first | (intro y; clear_value y) | intro _ | lift_lets | with_reducible exact h | with_reducible assumption
                 | with_reducible apply within1_mk | with_reducible apply sized_wstate | with_reducible apply fails_wstate
                 | with_reducible apply answers_wstate | split)

theorem cmdRecorderStatus_within {m : Nat} : WithinC m cmdRecorderStatus := by
  refine ⟨fun e s t h => ?_⟩
  unfold cmdRecorderStatus
  repeat' (first | (intro y; clear_value y) | intro _ | lift_lets | with_reducible exact h | with_reducible assumption
                 | with_reducible apply within1_mk | with_reducible apply sized_wstate | with_reducible apply answers_wstate)

theorem activateCue_within {m : Nat} {s t : State} (h : Within m s t) (hm : Covers m 0x400000) (a0 : ℕ) : Within m s (activateCue a0 t) := by
  unfold activateCue
  repeat' (first | exact hm.sub (by decide) | lift_lets | with_reducible exact h | with_reducible apply within_ite
                 | with_reducible apply modTask_within | with_reducible apply activateEvent_within)

theorem closeWindow_within {m : Nat} {s t : State} (h : Within m s t) (hm : Covers m 0x8000000) (a0 : ℕ) : Within m s (closeWindow a0 t) := by
  unfold closeWindow
  repeat' (first | exact hm.sub (by decide) | with_reducible exact Or.inr rfl | with_reducible exact Or.inr ⟨rfl, rfl⟩ | lift_lets
                 | with_reducible exact h | with_reducible apply modSafety_within)

theorem recorderEvent_within {m : Nat} {s t : State} (h : Within m s t) (hm : Covers m 0x80) (a0 : ℕ) (a1 : Bytes) (a2 : Bytes) :
    Within m s (recorderEvent a0 a1 a2 t) := by
  unfold recorderEvent
  repeat' (first | exact hm.sub (by decide) | lift_lets | with_reducible exact h | with_reducible apply record_within)

theorem makeRelease_within {m : Nat} {s t : State} (h : Within m s t) (hm : Covers m 0x80) (a0 : ReleaseSt) : Within m s (makeRelease a0 t) := by
  unfold makeRelease
  repeat' (first | exact hm.sub (by decide)
                 | (intro y; refine within_cut (m := m) (s := s) (y := y) ?_ ?_; rotate_left; (intro hy; clear_value y); rotate_right; subst y)
                 | (intro y; clear_value y) | lift_lets | with_reducible exact h | with_reducible assumption
                 | with_reducible apply recorderEvent_within | with_reducible apply modRecorder_within)

theorem releaseSteps_within {m : Nat} {s t : State} (h : Within m s t) (hm : Covers m 0x100110588) : Within m s (releaseSteps t) := by
  unfold releaseSteps
  repeat' (first | exact hm.sub (by decide)
                 | (intro y; refine within_cut (m := m) (s := s) (y := y) ?_ ?_; rotate_left; (intro hy; clear_value y); rotate_right; subst y)
                 | (intro (y : _ → _); subst y; try beta_reduce) | lift_lets | with_reducible exact h | with_reducible assumption
                 | with_reducible apply within_ite | with_reducible apply makeRelease_within | with_reducible apply modRecorder_within
                 | with_reducible apply completeEntry_within | split)

theorem endFreeze_within {m : Nat} {s t : State} (h : Within m s t) (hm : Covers m 0x100110588) (a0 : ℕ) (a1 : Option ℕ) :
    Within m s (endFreeze a0 a1 t) := by
  unfold endFreeze
  repeat' (first | exact hm.sub (by decide)
                 | (intro y; refine within_cut (m := m) (s := s) (y := y) ?_ ?_; rotate_left; (intro hy; clear_value y); rotate_right; subst y)
                 | lift_lets | with_reducible exact h | with_reducible assumption | with_reducible apply modRecorder_within
                 | with_reducible apply releaseSteps_within)

theorem cmdRecorderRelease_within {m : Nat} (hm : Covers m 0x100110588) : WithinC m cmdRecorderRelease := by
  refine ⟨fun e s t h => ?_⟩
  unfold cmdRecorderRelease
  repeat' (first | exact hm.sub (by decide) | intro _ | lift_lets | with_reducible exact h | with_reducible assumption
                 | with_reducible apply within1_mk | with_reducible apply endFreeze_within | with_reducible apply sized_wstate
                 | with_reducible apply fails_wstate | split)

theorem cmdRecorderFreeze_within {m : Nat} (hm : Covers m 0x80) : WithinC m cmdRecorderFreeze := by
  refine ⟨fun e s t h => ?_⟩
  unfold cmdRecorderFreeze
  repeat' (first | exact hm.sub (by decide)
                 | (intro y; refine within_cut (m := m) (s := s) (y := y) ?_ ?_; rotate_left; (intro hy; clear_value y); rotate_right; subst y)
                 | intro _ | lift_lets | with_reducible exact h | with_reducible assumption | with_reducible apply within1_mk
                 | with_reducible apply recorderEvent_within | with_reducible apply modRecorder_within | with_reducible apply sized_wstate
                 | with_reducible apply fails_wstate | split)

theorem cmdActivationTrigger_within {m : Nat} (hm : Covers m 0x2000000) : WithinC m cmdActivationTrigger := by
  refine ⟨fun e s t h => ?_⟩
  unfold cmdActivationTrigger
  repeat' (first | exact hm.sub (by decide)
                 | (intro y; refine within_cut (m := m) (s := s) (y := y) ?_ ?_; rotate_left; (intro hy; clear_value y); rotate_right; subst y)
                 | intro _ | lift_lets | with_reducible exact h | with_reducible assumption | with_reducible apply within1_mk
                 | with_reducible apply modSource_within | with_reducible apply sized_wstate | with_reducible apply fails_wstate
                 | with_reducible apply answers_wstate | split)

theorem modSlot_within {m : Nat} {s t : State} (h : Within m s t) (hm : Covers m 0x1400000) (a0 : ℕ) (a1 : ImageSlot → ImageSlot) :
    Within m s (modSlot a0 a1 t) := by
  unfold modSlot
  repeat' (first | exact hm.sub (by decide) | exact Or.inl (hm.sub (by decide)) | with_reducible exact Or.inr rfl | lift_lets
                 | with_reducible exact h | with_reducible apply modProg_within | split)

theorem cmdActivationCounters_within {m : Nat} : WithinC m cmdActivationCounters := by
  refine ⟨fun e s t h => ?_⟩
  unfold cmdActivationCounters
  repeat' (first | (intro y; clear_value y) | intro _ | lift_lets | with_reducible exact h | with_reducible assumption
                 | with_reducible apply within1_mk | with_reducible apply sized_wstate | with_reducible apply fails_wstate
                 | with_reducible apply answers_wstate | split)

theorem clearRing_within {m : Nat} {s t : State} (h : Within m s t) (hm : Covers m 0x80) (a0 : ClearTicket) (a1 : Bytes) (a2 : ℕ) :
    Within m s (clearRing a0 a1 a2 t) := by
  unfold clearRing
  repeat' (first | exact hm.sub (by decide)
                 | (intro y; refine within_cut (m := m) (s := s) (y := y) ?_ ?_; rotate_left; (intro hy; clear_value y); rotate_right; subst y)
                 | (intro y; clear_value y) | lift_lets | with_reducible exact h | with_reducible assumption | with_reducible apply within_ite
                 | with_reducible apply modRecorder_within | with_reducible apply record_within)

theorem cmdRecorderClearConfirm_within {m : Nat} (hm : Covers m 0x80) : WithinC m cmdRecorderClearConfirm := by
  refine ⟨fun e s t h => ?_⟩
  unfold cmdRecorderClearConfirm
  repeat' (first | exact hm.sub (by decide) | (intro y; clear_value y) | intro _ | lift_lets | with_reducible exact h | with_reducible assumption
                 | with_reducible apply within1_mk | with_reducible apply clearRing_within | with_reducible apply sized_wstate
                 | with_reducible apply fails_wstate | split)

theorem cmdRecorderCounters_within {m : Nat} : WithinC m cmdRecorderCounters := by
  refine ⟨fun e s t h => ?_⟩
  unfold cmdRecorderCounters
  repeat' (first | (intro y; clear_value y) | intro _ | lift_lets | with_reducible exact h | with_reducible assumption
                 | with_reducible apply within1_mk | with_reducible apply sized_wstate | with_reducible apply answers_wstate)

theorem withholdEvents_within {m : Nat} {s t : State} (h : Within m s t) (hm : Covers m 0x400000) : Within m s (withholdEvents t) := by
  unfold withholdEvents
  repeat' (first | exact hm.sub (by decide) | intro _ | lift_lets | with_reducible exact h | with_reducible assumption
                 | with_reducible apply within_foldl | with_reducible apply modTask_within)

theorem endHold_within {m : Nat} {s t : State} (h : Within m s t) (hm : Covers m 0x2400000) : Within2 m s (endHold t) := by
  unfold endHold
  repeat' (first | exact hm.sub (by decide) | lift_lets | with_reducible exact h | with_reducible apply within2_mk
                 | with_reducible apply modAct_within | with_reducible apply releaseEvents_wstate)

theorem endHold_wstate {m : Nat} {s t : State} (h : Within m s t) (hm : Covers m 0x2400000) : Within m s (endHold t).2 :=
  (endHold_within h hm).out

theorem cmdActivationHold_within {m : Nat} (hm : Covers m 0x102500008) : WithinC m cmdActivationHold := by
  refine ⟨fun e s t h => ?_⟩
  unfold cmdActivationHold
  repeat' (first | exact hm.sub (by decide)
                 | (intro y; refine within_cut (m := m) (s := s) (y := y) ?_ ?_; rotate_left; (intro hy; clear_value y); rotate_right; subst y)
                 | (intro y; refine within2_cut (m := m) (s := s) (y := y) ?_ ?_; rotate_left; (intro hy; clear_value y); rotate_right; subst y)
                 | intro _ | lift_lets | with_reducible exact h | with_reducible assumption | with_reducible apply within1_mk
                 | with_reducible apply within2_mk | with_reducible apply modAct_within | with_reducible apply forwardSettings_within
                 | with_reducible apply withholdEvents_within | with_reducible apply sized_wstate | with_reducible apply fails_wstate
                 | with_reducible apply answers_wstate | with_reducible apply endHold_wstate | exact Within2.out (by assumption) | split)

theorem countShadow_within {m : Nat} {s t : State} (h : Within m s t) (hm : Covers m 0x50000) (a0 : ℕ) : Within m s (countShadow a0 t) := by
  unfold countShadow
  repeat' (first | exact hm.sub (by decide) | exact Or.inl (hm.sub (by decide)) | with_reducible exact Or.inr rfl
                 | with_reducible exact Or.inr ⟨rfl, rfl⟩ | (intro (y : _ → _); subst y; try beta_reduce) | lift_lets | with_reducible exact h
                 | with_reducible apply modMbx_within)

theorem settleClosing_within {m : Nat} {s t : State} (h : Within m s t) (hm : Covers m 0x500110788) : Within m s (settleClosing t) := by
  unfold settleClosing
  repeat' (first | exact hm.sub (by decide) | intro _ | lift_lets | with_reducible exact h | with_reducible assumption
                 | with_reducible apply within_foldl | with_reducible apply endSession_within)

theorem deliverActivations_within {m : Nat} {s t : State} (h : Within m s t) (hm : Covers m 0x2000000) (a0 : TaskRec) (a1 : ℕ) :
    Within2 m s (deliverActivations a0 a1 t) := by
  unfold deliverActivations
  repeat' (first | exact hm.sub (by decide) | (intro (y : _ → _); subst y; try beta_reduce) | (intro y; clear_value y) | intro _ | lift_lets
                 | with_reducible exact h | with_reducible assumption | with_reducible apply within2_mk | with_reducible apply within_foldl
                 | with_reducible apply modSource_within | split)

theorem deliverActivations_wstate {m : Nat} {s t : State} (h : Within m s t) (hm : Covers m 0x2000000) (a0 : TaskRec) (a1 : ℕ) :
    Within m s (deliverActivations a0 a1 t).2 :=
  (deliverActivations_within h hm a0 a1).out

theorem modChannel_within {m : Nat} {s t : State} (h : Within m s t) (hm : Covers m 0x50000) (a0 : Lane) (a1 : ℕ) (a2 : LaneChannel → LaneChannel) :
    Within m s (modChannel a0 a1 a2 t) := by
  unfold modChannel
  repeat' (first | exact hm.sub (by decide) | lift_lets | with_reducible exact h | with_reducible apply modWindow_within)

theorem enterCompletions_within {m : Nat} {s t : State} (h : Within m s t) (hm : Covers m 0x50000) (a0 : List Lane) (a1 : ℕ) :
    Within2 m s (enterCompletions a0 a1 t) := by
  unfold enterCompletions
  repeat' (first | exact hm.sub (by decide) | exact Or.inl (hm.sub (by decide)) | with_reducible exact Or.inr rfl
                 | with_reducible exact Or.inr ⟨rfl, rfl⟩
                 | (intro y; refine within_cut (m := m) (s := s) (y := y) ?_ ?_; rotate_left; (intro hy; clear_value y); rotate_right; subst y)
                 | (intro (y : _ → _); subst y; try beta_reduce) | intro _ | lift_lets | with_reducible exact h | with_reducible assumption
                 | with_reducible apply within2_mk | with_reducible apply within_foldl | with_reducible apply within2_foldl_out
                 | with_reducible apply modChannel_within | with_reducible apply modMbx_within | exact Within2.out (by assumption) | split)

theorem enterCompletions_wstate {m : Nat} {s t : State} (h : Within m s t) (hm : Covers m 0x50000) (a0 : List Lane) (a1 : ℕ) :
    Within m s (enterCompletions a0 a1 t).2 :=
  (enterCompletions_within h hm a0 a1).out

theorem clearFault_within {m : Nat} {s t : State} (h : Within m s t) (hm : Covers m 0x8000000) (a0 : ℕ) : Within m s (clearFault a0 t) := by
  unfold clearFault
  repeat' (first | exact hm.sub (by decide) | (intro (y : _ → _); subst y; try beta_reduce) | lift_lets | with_reducible exact h
                 | with_reducible apply within_ite | with_reducible apply modInput_within | split)

theorem startOne_within {m : Nat} {s t : State} (h : Within m s t) (hm : Covers m 0x2000000) (a0 : Option ℕ) : Within m s (startOne a0 t) := by
  unfold startOne
  repeat' (first | exact hm.sub (by decide) | (intro y; clear_value y) | lift_lets | with_reducible exact h | with_reducible apply within_ite
                 | with_reducible apply modAct_within | with_reducible apply modSource_within | split)

theorem startCommits_within {m : Nat} {s t : State} (h : Within m s t) (hm : Covers m 0x2000000) (a0 : Option ℕ) (a1 : ℕ) :
    Within m s (startCommits a0 a1 t) := by
  induction a1 generalizing t with
  | zero => exact h
  | succ k ih => exact ih (startOne_within h (hm.sub (by decide)) a0)

theorem commitSource_within {m : Nat} {s t : State} (h : Within m s t) (hm : Covers m 0x2400000) (a0 : ℕ) : Within m s (commitSource a0 t) := by
  unfold commitSource
  repeat' (first | exact hm.sub (by decide)
                 | (intro y; refine within_cut (m := m) (s := s) (y := y) ?_ ?_; rotate_left; (intro hy; clear_value y); rotate_right; subst y)
                 | lift_lets | with_reducible exact h | with_reducible assumption | with_reducible apply modSource_within
                 | with_reducible apply activateEvent_within | split)

theorem execActivationCommit_within {m : Nat} {s t : State} (h : Within m s t) (hm : Covers m 0x2400002) (a0 : ℕ) :
    WithinOut m s (execActivationCommit a0 t) := by
  unfold execActivationCommit
  repeat' (first | exact hm.sub (by decide)
                 | (intro y; refine within_cut (m := m) (s := s) (y := y) ?_ ?_; rotate_left; (intro hy; clear_value y); rotate_right; subst y)
                 | lift_lets | with_reducible exact h | with_reducible assumption | with_reducible apply within_ite
                 | with_reducible apply withinOut_next | with_reducible apply startCommits_within | with_reducible apply commitSource_within
                 | with_reducible apply reach_within | split)

theorem faultInput_within {m : Nat} {s t : State} (h : Within m s t) (hm : Covers m 0x8000000) (a0 : ℕ) : Within m s (faultInput a0 t) := by
  unfold faultInput
  repeat' (first | exact hm.sub (by decide) | lift_lets | with_reducible exact h | with_reducible apply within_ite
                 | with_reducible apply modInput_within | split)

theorem countArrival_within {m : Nat} {s t : State} (h : Within m s t) (hm : Covers m 0x100000000) (a0 : SlipArrival) :
    Within m s (countArrival a0 t) := by
  unfold countArrival
  repeat' (first | exact hm.sub (by decide) | with_reducible exact Or.inr rfl | (intro y; clear_value y) | lift_lets | with_reducible exact h
                 | with_reducible apply modPair_within)

theorem clearSteps_within {m : Nat} {s t : State} (h : Within m s t) (hm : Covers m 0x100110588) : Within m s (clearSteps t) := by
  unfold clearSteps
  repeat' (first | exact hm.sub (by decide) | lift_lets | with_reducible exact h | with_reducible apply within_ite
                 | with_reducible apply completeEntry_within | with_reducible apply modRecorder_within | split)

theorem freezeSteps_within {m : Nat} {s t : State} (h : Within m s t) (hm : Covers m 0x100110588) : Within m s (freezeSteps t) := by
  unfold freezeSteps
  repeat' (first | exact hm.sub (by decide)
                 | (intro y; refine within_cut (m := m) (s := s) (y := y) ?_ ?_; rotate_left; (intro hy; clear_value y); rotate_right; subst y)
                 | lift_lets | with_reducible exact h | with_reducible assumption | with_reducible apply within_ite
                 | with_reducible apply modRecorder_within | with_reducible apply completeEntry_within | split)

theorem execRecordWrite_within {m : Nat} {s t : State} (h : Within m s t) (hm : Covers m 0x100110588) (a0 : Ring) (a1 : Bool) :
    WithinOut m s (execRecordWrite a0 a1 t) := by
  unfold execRecordWrite
  repeat' (first | exact hm.sub (by decide)
                 | (intro y; refine within_cut (m := m) (s := s) (y := y) ?_ ?_; rotate_left; (intro hy; clear_value y); rotate_right; subst y)
                 | lift_lets | with_reducible exact h | with_reducible assumption | with_reducible apply withinOut_next
                 | with_reducible apply withinOut_ite | with_reducible apply modRecorder_within | with_reducible apply clearSteps_within
                 | with_reducible apply releaseSteps_within | with_reducible apply freezeSteps_within | split)

theorem proveInput_within {m : Nat} {s t : State} (h : Within m s t) (hm : Covers m 0x8000000) (a0 : ℕ) : Within m s (proveInput a0 t) := by
  unfold proveInput
  repeat' (first | exact hm.sub (by decide) | (intro (y : _ → _); subst y; try beta_reduce) | lift_lets | with_reducible exact h
                 | with_reducible apply within_ite | with_reducible apply modInput_within | split)

theorem changeInput_within {m : Nat} {s t : State} (h : Within m s t) (hm : Covers m 0x8000000) (a0 : ℕ) (a1 : Bool) :
    Within m s (changeInput a0 a1 t) := by
  unfold changeInput
  repeat' (first | exact hm.sub (by decide)
                 | (intro y; refine within_cut (m := m) (s := s) (y := y) ?_ ?_; rotate_left; (intro hy; clear_value y); rotate_right; subst y)
                 | (intro y; clear_value y) | lift_lets | with_reducible exact h | with_reducible assumption | with_reducible apply within_ite
                 | with_reducible apply modInput_within | with_reducible apply watchPair_within | with_reducible apply clearFault_within
                 | with_reducible apply proveInput_within | split)

theorem heard_within {m : Nat} {s t : State} (h : Within m s t) (hm : Covers m 0x100000000) (a0 : SlipArrival) (a1 : State → Out)
    (g1 : ∀ u, Within m s u → WithinOut m s (a1 u)) :
    WithinOut m s (heard a0 a1 t) := by
  unfold heard
  repeat' (first | exact hm.sub (by decide) | lift_lets | with_reducible exact h | with_reducible apply withinOut_next
                 | with_reducible apply withinOut_ite | with_reducible apply g1 | with_reducible apply countArrival_within)

theorem recordReel_within {m : Nat} {s t : State} (h : Within m s t) (hm : Covers m 0x80) (a0 : ℕ) (a1 : ℕ) (a2 : Bytes) :
    Within m s (recordReel a0 a1 a2 t) := by
  unfold recordReel
  repeat' (first | exact hm.sub (by decide) | lift_lets | with_reducible exact h | with_reducible apply makeRecord_within)

theorem execFreezeTimeout_within {m : Nat} {s t : State} (h : Within m s t) (hm : Covers m 0x10011058A) : WithinOut m s (execFreezeTimeout t) := by
  unfold execFreezeTimeout
  repeat' (first | exact hm.sub (by decide) | lift_lets | with_reducible exact h | with_reducible apply withinOut_next
                 | with_reducible apply endFreeze_within | with_reducible apply reach_within | split)

theorem execClearTicketExpiry_within {m : Nat} {s t : State} (h : Within m s t) (hm : Covers m 0x82) : WithinOut m s (execClearTicketExpiry t) := by
  unfold execClearTicketExpiry
  repeat' (first | exact hm.sub (by decide) | lift_lets | with_reducible exact h | with_reducible apply withinOut_next
                 | with_reducible apply modRecorder_within | with_reducible apply reach_within | split)

theorem execActivationHoldLimit_within {m : Nat} {s t : State} (h : Within m s t) (hm : Covers m 0x2400002) :
    WithinOut m s (execActivationHoldLimit t) := by
  unfold execActivationHoldLimit
  repeat' (first | exact hm.sub (by decide) | lift_lets | with_reducible exact h | with_reducible apply withinOut_next
                 | with_reducible apply reach_within | with_reducible apply endHold_wstate | split)

theorem execSuppressedRecord_within {m : Nat} {s t : State} (h : Within m s t) (hm : Covers m 0x82) (a0 : Ring) :
    WithinOut m s (execSuppressedRecord a0 t) := by
  unfold execSuppressedRecord
  repeat' (first | exact hm.sub (by decide)
                 | (intro y; refine within_cut (m := m) (s := s) (y := y) ?_ ?_; rotate_left; (intro hy; clear_value y); rotate_right; subst y)
                 | (intro y; clear_value y) | lift_lets | with_reducible exact h | with_reducible assumption
                 | with_reducible apply withinOut_next | with_reducible apply withinOut_ite | with_reducible apply reach_within
                 | with_reducible apply record_within | with_reducible apply modRecorder_within)

theorem execSourceDetection_within {m : Nat} {s t : State} (h : Within m s t) (hm : Covers m 0x2000002) (a0 : ℕ) (a1 : ℕ) :
    WithinOut m s (execSourceDetection a0 a1 t) := by
  unfold execSourceDetection
  repeat' (first | exact hm.sub (by decide)
                 | (intro y; refine within_cut (m := m) (s := s) (y := y) ?_ ?_; rotate_left; (intro hy; clear_value y); rotate_right; subst y)
                 | (intro y; clear_value y) | lift_lets | with_reducible exact h | with_reducible assumption
                 | with_reducible apply withinOut_next | with_reducible apply withinOut_ite | with_reducible apply reach_within
                 | with_reducible apply startCommits_within | with_reducible apply modSource_within)

end Sys2Proof.Machine
end

