-- ==== Sys2Proof/Laws/WithinNetworks.lean ====
section
/-! SUPPORT. Which parts of the state an operation can change (Sys2Proof/Laws/Within.lean):
the signal chain, the networks, the MVB bridge and cues. -/

namespace Sys2Proof.Machine

theorem endCues_within {m : Nat} {s t : State} (h : Within m s t) (hm : Covers m 0x4000000) : Within m s (endCues t) := by
  unfold endCues
  repeat' (first | exact hm.sub (by decide) | lift_lets | with_reducible exact h | with_reducible apply modPos_within)

theorem modFlow_within {m : Nat} {s t : State} (h : Within m s t) (hm : Covers m 0x400000000) (a0 : ℕ) (a1 : Flow → Flow) :
    Within m s (modFlow a0 a1 t) := by
  unfold modFlow
  repeat' (first | exact hm.sub (by decide) | lift_lets | with_reducible exact h | with_reducible apply modNet_within)

theorem modMvbPort_within {m : Nat} {s t : State} (h : Within m s t) (hm : Covers m 0x800000000) (a0 : ℕ) (a1 : MvbPort → MvbPort) :
    Within m s (modMvbPort a0 a1 t) := by
  unfold modMvbPort
  repeat' (first | exact hm.sub (by decide) | lift_lets | with_reducible exact h | with_reducible apply modMvb_within)

theorem cuesAtStart_within {m : Nat} {s t : State} (h : Within m s t) (hm : Covers m 0x4000000) : Within m s (cuesAtStart t) := by
  unfold cuesAtStart
  repeat' (first | exact hm.sub (by decide) | lift_lets | with_reducible exact h | with_reducible apply modPos_within)

theorem notStandby_within {m : Nat} {s t : State} (h : Within m s t) (a0 : State → State × Reply) (g0 : ∀ u, Within m s u → Within1 m s (a0 u)) :
    Within1 m s (notStandby a0 t) := by
  unfold notStandby
  repeat' (first | lift_lets | with_reducible exact h | with_reducible apply within1_mk | with_reducible apply fails_wstate
                 | (with_reducible apply Within1.out; with_reducible apply g0) | split)

theorem notStandby_wstate {m : Nat} {s t : State} (h : Within m s t) (a0 : State → State × Reply) (g0 : ∀ u, Within m s u → Within1 m s (a0 u)) :
    Within m s (notStandby a0 t).1 :=
  (notStandby_within h a0 g0).out

theorem modPort_within {m : Nat} {s t : State} (h : Within m s t) (hm : Covers m 0x400000000) (a0 : ℕ) (a1 : PortSt → PortSt) :
    Within m s (modPort a0 a1 t) := by
  unfold modPort
  repeat' (first | exact hm.sub (by decide) | lift_lets | with_reducible exact h | with_reducible apply modNet_within)

theorem cmdGateConfigure_within {m : Nat} (hm : Covers m 0x500100008) : WithinC m cmdGateConfigure := by
  refine ⟨fun e s t h => ?_⟩
  unfold cmdGateConfigure
  repeat' (first | exact hm.sub (by decide)
                 | (intro y; refine within_cut (m := m) (s := s) (y := y) ?_ ?_; rotate_left; (intro hy; clear_value y); rotate_right; subst y)
                 | (intro y; clear_value y) | intro _ | lift_lets | with_reducible exact h | with_reducible assumption
                 | with_reducible apply within1_mk | with_reducible apply modPort_within | with_reducible apply forwardSettings_within
                 | with_reducible apply fails_wstate | with_reducible apply notStandby_wstate | split)

theorem cmdMvbDevices_within {m : Nat} : WithinC m cmdMvbDevices := by
  refine ⟨fun e s t h => ?_⟩
  unfold cmdMvbDevices
  repeat' (first | (intro y; clear_value y) | intro _ | lift_lets | with_reducible exact h | with_reducible assumption
                 | with_reducible apply within1_mk | with_reducible apply sized_wstate | with_reducible apply fails_wstate
                 | with_reducible apply answers_wstate | split)

theorem modChan_within {m : Nat} {s t : State} (h : Within m s t) (hm : Covers m 0x80000000) (a0 : ℕ) (a1 : FilterChannel → FilterChannel) :
    Within m s (modChan a0 a1 t) := by
  unfold modChan
  repeat' (first | exact hm.sub (by decide) | lift_lets | with_reducible exact h | with_reducible apply modSignal_within)

theorem cmdChannelConfigure_within {m : Nat} (hm : Covers m 0x180100008) : WithinC m cmdChannelConfigure := by
  refine ⟨fun e s t h => ?_⟩
  unfold cmdChannelConfigure
  repeat' (first | exact hm.sub (by decide) | lift_lets | with_reducible exact h | with_reducible apply within1_mk
                 | with_reducible apply modChan_within | with_reducible apply forwardSettings_within | with_reducible apply fails_wstate
                 | with_reducible apply answers_wstate | split)

theorem cmdFdbFlush_within {m : Nat} (hm : Covers m 0x400000000) : WithinC m cmdFdbFlush := by
  refine ⟨fun e s t h => ?_⟩
  unfold cmdFdbFlush
  repeat' (first | exact hm.sub (by decide) | (intro y; clear_value y) | intro _ | lift_lets | with_reducible exact h | with_reducible assumption
                 | with_reducible apply within1_mk | with_reducible apply modNet_within | with_reducible apply sized_wstate
                 | with_reducible apply fails_wstate | with_reducible apply answers_wstate | split)

theorem cmdSignalStatus_within {m : Nat} : WithinC m cmdSignalStatus := by
  refine ⟨fun e s t h => ?_⟩
  unfold cmdSignalStatus
  repeat' (first | intro _ | lift_lets | with_reducible exact h | with_reducible assumption | with_reducible apply within1_mk
                 | with_reducible apply sized_wstate | with_reducible apply fails_wstate | with_reducible apply answers_wstate | split)

theorem onEnabled_within {m : Nat} {s t : State} (h : Within m s t) (a0 : ℕ) (a1 : State → State × Reply) (g1 : ∀ u, Within m s u → Within1 m s
    (a1 u)) :
    Within1 m s (onEnabled a0 a1 t) := by
  unfold onEnabled
  repeat' (first | lift_lets | with_reducible exact h | with_reducible apply within1_mk | with_reducible apply fails_wstate
                 | (with_reducible apply Within1.out; with_reducible apply g1) | split)

theorem onEnabled_wstate {m : Nat} {s t : State} (h : Within m s t) (a0 : ℕ) (a1 : State → State × Reply) (g1 : ∀ u, Within m s u → Within1 m s
    (a1 u)) :
    Within m s (onEnabled a0 a1 t).1 :=
  (onEnabled_within h a0 a1 g1).out

theorem cmdSignalDissolve_within {m : Nat} (hm : Covers m 0x80000000) : WithinC m cmdSignalDissolve := by
  refine ⟨fun e s t h => ?_⟩
  unfold cmdSignalDissolve
  repeat' (first | exact hm.sub (by decide) | (intro y; clear_value y) | intro _ | lift_lets | with_reducible exact h | with_reducible assumption
                 | with_reducible apply within1_mk | with_reducible apply modChan_within | with_reducible apply sized_wstate
                 | with_reducible apply fails_wstate | with_reducible apply onEnabled_wstate | split)

theorem endDissolve_within {m : Nat} {s t : State} (h : Within m s t) (hm : Covers m 0x180100008) (a0 : ℕ) (a1 : FilterChannel → FilterChannel) :
    Within m s (endDissolve a0 a1 t) := by
  unfold endDissolve
  repeat' (first | exact hm.sub (by decide)
                 | (intro y; refine within_cut (m := m) (s := s) (y := y) ?_ ?_; rotate_left; (intro hy; clear_value y); rotate_right; subst y)
                 | lift_lets | with_reducible exact h | with_reducible assumption | with_reducible apply within_ite
                 | with_reducible apply modChan_within | with_reducible apply forwardChange_within)

theorem cmdInputSwitch_within {m : Nat} (hm : Covers m 0x180100008) : WithinC m cmdInputSwitch := by
  refine ⟨fun e s t h => ?_⟩
  unfold cmdInputSwitch
  repeat' (first | exact hm.sub (by decide) | (intro y; clear_value y) | intro _ | lift_lets | with_reducible exact h | with_reducible assumption
                 | with_reducible apply within1_mk | with_reducible apply endDissolve_within | with_reducible apply sized_wstate
                 | with_reducible apply fails_wstate | with_reducible apply onEnabled_wstate | with_reducible apply answers_wstate | split)

theorem modCue_within {m : Nat} {s t : State} (h : Within m s t) (hm : Covers m 0x4000000) (a0 : ℕ) (a1 : Cue → Cue) :
    Within m s (modCue a0 a1 t) := by
  unfold modCue
  repeat' (first | exact hm.sub (by decide) | lift_lets | with_reducible exact h | with_reducible apply modPos_within)

theorem cmdCueControl_within {m : Nat} (hm : Covers m 0x984310588) : WithinC m cmdCueControl := by
  refine ⟨fun e s t h => ?_⟩
  unfold cmdCueControl
  repeat' (first | exact hm.sub (by decide)
                 | (intro y; refine within_cut (m := m) (s := s) (y := y) ?_ ?_; rotate_left; (intro hy; clear_value y); rotate_right; subst y)
                 | (intro y; clear_value y) | intro _ | lift_lets | with_reducible exact h | with_reducible assumption
                 | with_reducible apply within_ite | with_reducible apply within1_mk | with_reducible apply cancelTargets_within
                 | with_reducible apply modCue_within | with_reducible apply sized_wstate | with_reducible apply fails_wstate
                 | with_reducible apply answers_wstate | split)

theorem modBus_within {m : Nat} {s t : State} (h : Within m s t) (hm : Covers m 0x800000000) (a0 : ℕ) (a1 : MvbBus → MvbBus) :
    Within m s (modBus a0 a1 t) := by
  unfold modBus
  repeat' (first | exact hm.sub (by decide) | lift_lets | with_reducible exact h | with_reducible apply modMvb_within)

theorem endWrite_within {m : Nat} {s t : State} (h : Within m s t) (hm : Covers m 0x900110508) (a0 : ℕ) (a1 : ℕ) (a2 : MvbWriteSt) :
    Within m s (endWrite a0 a1 a2 t) := by
  unfold endWrite
  repeat' (first | exact hm.sub (by decide)
                 | (intro y; refine within_cut (m := m) (s := s) (y := y) ?_ ?_; rotate_left; (intro hy; clear_value y); rotate_right; subst y)
                 | (intro y; clear_value y) | lift_lets | with_reducible exact h | with_reducible assumption | with_reducible apply within_ite
                 | with_reducible apply modMvbPort_within | with_reducible apply modBus_within | with_reducible apply completeEntry_within
                 | with_reducible apply modMvb_within | split)

theorem loseSemaphore_within {m : Nat} {s t : State} (h : Within m s t) (hm : Covers m 0x900110508) (a0 : ℕ) (a1 : ℕ) :
    Within m s (loseSemaphore a0 a1 t) := by
  unfold loseSemaphore
  repeat' (first | exact hm.sub (by decide)
                 | (intro y; refine within_cut (m := m) (s := s) (y := y) ?_ ?_; rotate_left; (intro hy; clear_value y); rotate_right; subst y)
                 | (intro y; clear_value y) | lift_lets | with_reducible exact h | with_reducible assumption | with_reducible apply modMvb_within
                 | with_reducible apply modBus_within | with_reducible apply completeEntry_within | split)

theorem endPort_within {m : Nat} {s t : State} (h : Within m s t) (hm : Covers m 0x984310588) (a0 : ℕ) : Within m s (endPort a0 t) := by
  unfold endPort
  repeat' (first | exact hm.sub (by decide)
                 | (intro y; refine within_cut (m := m) (s := s) (y := y) ?_ ?_; rotate_left; (intro hy; clear_value y); rotate_right; subst y)
                 | intro _ | lift_lets | with_reducible exact h | with_reducible assumption | with_reducible apply within_ite
                 | with_reducible apply within_foldl | with_reducible apply cancelTargets_within | with_reducible apply endWrite_within
                 | with_reducible apply completeEntry_within | with_reducible apply loseSemaphore_within | split)

theorem cmdMvbPortConfigure_within {m : Nat} (hm : Covers m 0x984310588) : WithinC m cmdMvbPortConfigure := by
  refine ⟨fun e s t h => ?_⟩
  unfold cmdMvbPortConfigure
  repeat' (first | exact hm.sub (by decide)
                 | (intro y; refine within_cut (m := m) (s := s) (y := y) ?_ ?_; rotate_left; (intro hy; clear_value y); rotate_right; subst y)
                 | (intro y; clear_value y) | intro _ | lift_lets | with_reducible exact h | with_reducible assumption
                 | with_reducible apply within1_mk | with_reducible apply modMvb_within | with_reducible apply endPort_within
                 | with_reducible apply forwardSettings_within | with_reducible apply sized_wstate | with_reducible apply fails_wstate
                 | with_reducible apply notStandby_wstate | with_reducible apply answers_wstate | split)

theorem cmdMvbLock_within {m : Nat} (hm : Covers m 0x800000000) : WithinC m cmdMvbLock := by
  refine ⟨fun e s t h => ?_⟩
  unfold cmdMvbLock
  repeat' (first | exact hm.sub (by decide) | (intro (y : _ → _); subst y; try beta_reduce) | (intro y; clear_value y) | intro _ | lift_lets
                 | with_reducible exact h | with_reducible assumption | with_reducible apply within1_mk | with_reducible apply modMvb_within
                 | with_reducible apply fails_wstate | with_reducible apply notStandby_wstate | with_reducible apply answers_wstate | split)

theorem cmdFlowControl_within {m : Nat} (hm : Covers m 0xD84310588) : WithinC m cmdFlowControl := by
  refine ⟨fun e s t h => ?_⟩
  unfold cmdFlowControl
  repeat' (first | exact hm.sub (by decide)
                 | (intro y; refine within_cut (m := m) (s := s) (y := y) ?_ ?_; rotate_left; (intro hy; clear_value y); rotate_right; subst y)
                 | (intro y; clear_value y) | intro _ | lift_lets | with_reducible exact h | with_reducible assumption
                 | with_reducible apply within1_mk | with_reducible apply modFlow_within | with_reducible apply forwardSettings_within
                 | with_reducible apply cancelTargets_within | with_reducible apply sized_wstate | with_reducible apply notStandby_wstate
                 | with_reducible apply answers_wstate | with_reducible apply fails_wstate | split)

theorem cmdCoeffLoad_within {m : Nat} (hm : Covers m 0x80000000) : WithinC m cmdCoeffLoad := by
  refine ⟨fun e s t h => ?_⟩
  unfold cmdCoeffLoad
  repeat' (first | exact hm.sub (by decide) | intro _ | lift_lets | with_reducible exact h | with_reducible assumption
                 | with_reducible apply within1_mk | with_reducible apply modChan_within | with_reducible apply fails_wstate
                 | with_reducible apply onEnabled_wstate | with_reducible apply answers_wstate | split)

theorem unpin_within {m : Nat} {s t : State} (h : Within m s t) (hm : Covers m 0x400000000) (a0 : ℕ) (a1 : ℕ) : Within m s (unpin a0 a1 t) := by
  unfold unpin
  repeat' (first | exact hm.sub (by decide) | (intro (y : _ → _); subst y; try beta_reduce) | lift_lets | with_reducible exact h
                 | with_reducible apply modNet_within)

theorem pin_within {m : Nat} {s t : State} (h : Within m s t) (hm : Covers m 0x400000000) (a0 : ℕ) (a1 : ℕ) (a2 : ℕ) (a3 : Bool) :
    Within m s (pin a0 a1 a2 a3 t) := by
  unfold pin
  repeat' (first | exact hm.sub (by decide) | lift_lets | with_reducible exact h | with_reducible apply modNet_within | split)

theorem cmdFlowConfigure_within {m : Nat} (hm : Covers m 0x500100008) : WithinC m cmdFlowConfigure := by
  refine ⟨fun e s t h => ?_⟩
  unfold cmdFlowConfigure
  repeat' (first | exact hm.sub (by decide)
                 | (intro y; refine within_cut (m := m) (s := s) (y := y) ?_ ?_; rotate_left; (intro hy; clear_value y); rotate_right; subst y)
                 | (intro y; clear_value y) | intro _ | lift_lets | with_reducible exact h | with_reducible assumption
                 | with_reducible apply within1_mk | with_reducible apply unpin_within | with_reducible apply pin_within
                 | with_reducible apply modNet_within | with_reducible apply forwardSettings_within | with_reducible apply sized_wstate
                 | with_reducible apply fails_wstate | with_reducible apply notStandby_wstate | with_reducible apply answers_wstate | split)

theorem cmdPortCounters_within {m : Nat} : WithinC m cmdPortCounters := by
  refine ⟨fun e s t h => ?_⟩
  unfold cmdPortCounters
  repeat' (first | (intro y; clear_value y) | intro _ | lift_lets | with_reducible exact h | with_reducible assumption
                 | with_reducible apply within1_mk | with_reducible apply sized_wstate | with_reducible apply fails_wstate
                 | with_reducible apply answers_wstate | split)

theorem cmdChannelControl_within {m : Nat} (hm : Covers m 0x984310588) : WithinC m cmdChannelControl := by
  refine ⟨fun e s t h => ?_⟩
  unfold cmdChannelControl
  repeat' (first | exact hm.sub (by decide)
                 | (intro y; refine within_cut (m := m) (s := s) (y := y) ?_ ?_; rotate_left; (intro hy; clear_value y); rotate_right; subst y)
                 | (intro y; clear_value y) | intro _ | lift_lets | with_reducible exact h | with_reducible assumption
                 | with_reducible apply within1_mk | with_reducible apply forwardSettings_within | with_reducible apply modChan_within
                 | with_reducible apply cancelTargets_within | with_reducible apply sized_wstate | with_reducible apply fails_wstate
                 | with_reducible apply answers_wstate | split)

theorem grantWrite_within {m : Nat} {s t : State} (h : Within m s t) (hm : Covers m 0x800000000) (a0 : ℕ) (a1 : ℕ) (a2 : Bytes) :
    Within m s (grantWrite a0 a1 a2 t) := by
  unfold grantWrite
  repeat' (first | exact hm.sub (by decide) | lift_lets | with_reducible exact h | with_reducible apply modMvbPort_within)

theorem cmdMvbWrite_within {m : Nat} (hm : Covers m 0x800000000) : WithinC m cmdMvbWrite := by
  refine ⟨fun e s t h => ?_⟩
  unfold cmdMvbWrite
  repeat' (first | exact hm.sub (by decide) | intro _ | lift_lets | with_reducible exact h | with_reducible assumption
                 | with_reducible apply within1_mk | with_reducible apply modMvb_within | with_reducible apply grantWrite_within
                 | with_reducible apply fails_wstate | with_reducible apply notStandby_wstate | split)

theorem cmdFdbUnpin_within {m : Nat} (hm : Covers m 0x500100008) : WithinC m cmdFdbUnpin := by
  refine ⟨fun e s t h => ?_⟩
  unfold cmdFdbUnpin
  repeat' (first | exact hm.sub (by decide) | (intro (y : _ → _); subst y; try beta_reduce) | (intro y; clear_value y) | intro _ | lift_lets
                 | with_reducible exact h | with_reducible assumption | with_reducible apply within1_mk
                 | with_reducible apply forwardSettings_within | with_reducible apply modNet_within | with_reducible apply sized_wstate
                 | with_reducible apply notStandby_wstate | with_reducible apply fails_wstate | with_reducible apply answers_wstate | split)

theorem cmdMvbMap_within {m : Nat} (hm : Covers m 0x900100008) : WithinC m cmdMvbMap := by
  refine ⟨fun e s t h => ?_⟩
  unfold cmdMvbMap
  repeat' (first | exact hm.sub (by decide)
                 | (intro y; refine within_cut (m := m) (s := s) (y := y) ?_ ?_; rotate_left; (intro hy; clear_value y); rotate_right; subst y)
                 | (intro (y : _ → _); subst y; try beta_reduce) | (intro y; clear_value y) | intro _ | lift_lets | with_reducible exact h
                 | with_reducible assumption | with_reducible apply within1_mk | with_reducible apply modMvb_within
                 | with_reducible apply forwardSettings_within | with_reducible apply fails_wstate | with_reducible apply notStandby_wstate
                 | with_reducible apply answers_wstate | split)

theorem cmdLaunchWrite_within {m : Nat} (hm : Covers m 0x400000000) : WithinC m cmdLaunchWrite := by
  refine ⟨fun e s t h => ?_⟩
  unfold cmdLaunchWrite
  repeat' (first | exact hm.sub (by decide) | lift_lets | with_reducible exact h | with_reducible apply within1_mk
                 | with_reducible apply modPort_within | with_reducible apply fails_wstate | with_reducible apply answers_wstate | split)

theorem cmdMvbPortControl_within {m : Nat} (hm : Covers m 0x984310588) : WithinC m cmdMvbPortControl := by
  refine ⟨fun e s t h => ?_⟩
  unfold cmdMvbPortControl
  repeat' (first | exact hm.sub (by decide)
                 | (intro y; refine within_cut (m := m) (s := s) (y := y) ?_ ?_; rotate_left; (intro hy; clear_value y); rotate_right; subst y)
                 | (intro (y : _ → _); subst y; try beta_reduce) | (intro y; clear_value y) | intro _ | lift_lets | with_reducible exact h
                 | with_reducible assumption | with_reducible apply within_ite | with_reducible apply within1_mk
                 | with_reducible apply within_foldl | with_reducible apply modMvbPort_within | with_reducible apply forwardSettings_within
                 | with_reducible apply cancelTargets_within | with_reducible apply loseSemaphore_within | with_reducible apply sized_wstate
                 | with_reducible apply fails_wstate | with_reducible apply notStandby_wstate | with_reducible apply answers_wstate | split)

theorem cmdRnatConfigure_within {m : Nat} (hm : Covers m 0x500100008) : WithinC m cmdRnatConfigure := by
  refine ⟨fun e s t h => ?_⟩
  unfold cmdRnatConfigure
  repeat' (first | exact hm.sub (by decide) | intro _ | lift_lets | with_reducible exact h | with_reducible assumption
                 | with_reducible apply within1_mk | with_reducible apply forwardSettings_within | with_reducible apply modNet_within
                 | with_reducible apply fails_wstate | with_reducible apply notStandby_wstate | with_reducible apply answers_wstate | split)

theorem cmdMvbRead_within {m : Nat} (hm : Covers m 0x800000000) : WithinC m cmdMvbRead := by
  refine ⟨fun e s t h => ?_⟩
  unfold cmdMvbRead
  repeat' (first | exact hm.sub (by decide) | intro _ | lift_lets | with_reducible exact h | with_reducible assumption
                 | with_reducible apply within1_mk | with_reducible apply modMvbPort_within | with_reducible apply sized_wstate
                 | with_reducible apply fails_wstate | split)

theorem cmdPortConfigure_within {m : Nat} (hm : Covers m 0x500100008) : WithinC m cmdPortConfigure := by
  refine ⟨fun e s t h => ?_⟩
  unfold cmdPortConfigure
  repeat' (first | exact hm.sub (by decide)
                 | (intro y; refine within_cut (m := m) (s := s) (y := y) ?_ ?_; rotate_left; (intro hy; clear_value y); rotate_right; subst y)
                 | (intro y; clear_value y) | intro _ | lift_lets | with_reducible exact h | with_reducible assumption
                 | with_reducible apply within1_mk | with_reducible apply modPort_within | with_reducible apply forwardSettings_within
                 | with_reducible apply fails_wstate | with_reducible apply notStandby_wstate | with_reducible apply answers_wstate | split)

theorem cmdMvbCounters_within {m : Nat} : WithinC m cmdMvbCounters := by
  refine ⟨fun e s t h => ?_⟩
  unfold cmdMvbCounters
  repeat' (first | (intro y; clear_value y) | intro _ | lift_lets | with_reducible exact h | with_reducible assumption
                 | with_reducible apply within1_mk | with_reducible apply sized_wstate | with_reducible apply fails_wstate
                 | with_reducible apply answers_wstate | split)

theorem cueMissed_within {m : Nat} {s t : State} (h : Within m s t) (hm : Covers m 0x4000000) (a0 : ℕ) : Within m s (cueMissed a0 t) := by
  unfold cueMissed
  repeat' (first | exact hm.sub (by decide) | lift_lets | with_reducible exact h | with_reducible apply modPos_within
                 | with_reducible apply modCue_within)

theorem countDrop_within {m : Nat} {s t : State} (h : Within m s t) (hm : Covers m 0x400000000) (a0 : ℕ) (a1 : ℕ) :
    Within m s (countDrop a0 a1 t) := by
  unfold countDrop
  repeat' (first | exact hm.sub (by decide) | lift_lets | with_reducible exact h | with_reducible apply modPort_within)

theorem startFrame_within {m : Nat} {s t : State} (h : Within m s t) (hm : Covers m 0x400000008) (a0 : ℕ) (a1 : Bytes) (a2 : ℕ) :
    Within m s (startFrame a0 a1 a2 t) := by
  unfold startFrame
  repeat' (first | exact hm.sub (by decide) | (intro y; clear_value y) | lift_lets | with_reducible exact h | with_reducible apply emit_within
                 | with_reducible apply modPort_within)

theorem launchHead_within {m : Nat} {s t : State} (h : Within m s t) (hm : Covers m 0x400000008) (a0 : ℕ) (a1 : ℕ) :
    WithinO m s (launchHead a0 a1 t) := by
  unfold launchHead
  repeat' (first | exact hm.sub (by decide)
                 | (intro y; refine within_cut (m := m) (s := s) (y := y) ?_ ?_; rotate_left; (intro hy; clear_value y); rotate_right; subst y)
                 | (intro y; clear_value y) | lift_lets | with_reducible exact h | with_reducible assumption | with_reducible apply within_ite
                 | with_reducible apply withinO_some | exact withinO_none | with_reducible apply withinO_ite
                 | with_reducible apply modPort_within | with_reducible apply countDrop_within | with_reducible apply startFrame_within
                 | with_reducible apply modNet_within | split)

theorem cueFired_within {m : Nat} {s t : State} (h : Within m s t) (hm : Covers m 0x4000000) (a0 : ℕ) : Within m s (cueFired a0 t) := by
  unfold cueFired
  repeat' (first | exact hm.sub (by decide) | lift_lets | with_reducible exact h | with_reducible apply modPos_within
                 | with_reducible apply modCue_within)

theorem cueAction_within {m : Nat} {s t : State} (h : Within m s t) (hm : Covers m 0x40C400008) (a0 : ℕ) (a1 : CueBinding) :
    Within m s (cueAction a0 a1 t) := by
  unfold cueAction
  repeat' (first | exact hm.sub (by decide) | lift_lets | with_reducible exact h | with_reducible apply within_ite
                 | with_reducible apply launchHead_within | with_reducible apply cueFired_within | with_reducible apply cueMissed_within
                 | with_reducible apply activateCue_within | with_reducible apply openWindow_within | with_reducible apply closeWindow_within
                 | refine withinO_of_eq (by assumption) ?_ | split)

theorem cuePasses_within {m : Nat} {s t : State} (h : Within m s t) (hm : Covers m 0x40C400008) (a0 : ℕ) : Within m s (cuePasses a0 t) := by
  unfold cuePasses
  repeat' (first | exact hm.sub (by decide) | lift_lets | with_reducible exact h | with_reducible apply within_ite
                 | with_reducible apply modCue_within | with_reducible apply cueAction_within | split)

theorem cuesAtStep_within {m : Nat} {s t : State} (h : Within m s t) (hm : Covers m 0x40C400008) : Within m s (cuesAtStep t) := by
  unfold cuesAtStep
  repeat' (first | exact hm.sub (by decide) | (intro y; clear_value y) | intro _ | lift_lets | with_reducible exact h | with_reducible assumption
                 | with_reducible apply within_ite | with_reducible apply within_foldl | with_reducible apply cueMissed_within
                 | with_reducible apply cuePasses_within | split)

theorem skipLaunches_within {m : Nat} {s t : State} (h : Within m s t) (hm : Covers m 0x400000000) : Within m s (skipLaunches t) := by
  unfold skipLaunches
  repeat' (first | exact hm.sub (by decide) | (intro (y : _ → _); subst y; try beta_reduce) | (intro y; clear_value y) | lift_lets
                 | with_reducible exact h | with_reducible apply modNet_within)

theorem cmdFdbRead_within {m : Nat} : WithinC m cmdFdbRead := by
  refine ⟨fun e s t h => ?_⟩
  unfold cmdFdbRead
  repeat' (first | (intro y; clear_value y) | intro _ | lift_lets | with_reducible exact h | with_reducible assumption
                 | with_reducible apply within1_mk | with_reducible apply sized_wstate | with_reducible apply fails_wstate
                 | with_reducible apply answers_wstate | split)

theorem cmdSignalCounters_within {m : Nat} : WithinC m cmdSignalCounters := by
  refine ⟨fun e s t h => ?_⟩
  unfold cmdSignalCounters
  repeat' (first | (intro y; clear_value y) | intro _ | lift_lets | with_reducible exact h | with_reducible assumption
                 | with_reducible apply within1_mk | with_reducible apply sized_wstate | with_reducible apply fails_wstate
                 | with_reducible apply answers_wstate | split)

theorem cmdMvbStatus_within {m : Nat} : WithinC m cmdMvbStatus := by
  refine ⟨fun e s t h => ?_⟩
  unfold cmdMvbStatus
  repeat' (first | (intro (y : _ → _); subst y; try beta_reduce) | (intro y; clear_value y) | intro _ | lift_lets | with_reducible exact h
                 | with_reducible assumption | with_reducible apply within1_mk | with_reducible apply sized_wstate
                 | with_reducible apply answers_wstate)

theorem cmdLaunchFlush_within {m : Nat} (hm : Covers m 0x400000000) : WithinC m cmdLaunchFlush := by
  refine ⟨fun e s t h => ?_⟩
  unfold cmdLaunchFlush
  repeat' (first | exact hm.sub (by decide) | intro _ | lift_lets | with_reducible exact h | with_reducible assumption
                 | with_reducible apply within1_mk | with_reducible apply modPort_within | with_reducible apply sized_wstate
                 | with_reducible apply fails_wstate | with_reducible apply answers_wstate | split)

theorem cmdNetSettings_within {m : Nat} (hm : Covers m 0x500110008) : WithinC m cmdNetSettings := by
  refine ⟨fun e s t h => ?_⟩
  unfold cmdNetSettings
  repeat' (first | exact hm.sub (by decide) | with_reducible exact Or.inr rfl | with_reducible exact Or.inr ⟨rfl, rfl⟩
                 | (intro y; refine within_cut (m := m) (s := s) (y := y) ?_ ?_; rotate_left; (intro hy; clear_value y); rotate_right; subst y)
                 | intro _ | lift_lets | with_reducible exact h | with_reducible assumption | with_reducible apply within1_mk
                 | with_reducible apply modNet_within | with_reducible apply modPair_within | with_reducible apply modMbx_within
                 | with_reducible apply forwardSettings_within | with_reducible apply sized_wstate | with_reducible apply fails_wstate
                 | with_reducible apply notStandby_wstate | with_reducible apply answers_wstate | split)

theorem cmdCueStatus_within {m : Nat} : WithinC m cmdCueStatus := by
  refine ⟨fun e s t h => ?_⟩
  unfold cmdCueStatus
  repeat' (first | (intro (y : _ → _); subst y; try beta_reduce) | intro _ | lift_lets | with_reducible exact h | with_reducible assumption
                 | with_reducible apply within1_mk | with_reducible apply sized_wstate | with_reducible apply fails_wstate
                 | with_reducible apply answers_wstate | split)

theorem cmdFrerConfigure_within {m : Nat} (hm : Covers m 0x500100008) : WithinC m cmdFrerConfigure := by
  refine ⟨fun e s t h => ?_⟩
  unfold cmdFrerConfigure
  repeat' (first | exact hm.sub (by decide) | (intro y; clear_value y) | intro _ | lift_lets | with_reducible exact h | with_reducible assumption
                 | with_reducible apply within1_mk | with_reducible apply forwardSettings_within | with_reducible apply modNet_within
                 | with_reducible apply sized_wstate | with_reducible apply answers_wstate | with_reducible apply fails_wstate
                 | with_reducible apply notStandby_wstate | split)

theorem cmdFlowStatus_within {m : Nat} : WithinC m cmdFlowStatus := by
  refine ⟨fun e s t h => ?_⟩
  unfold cmdFlowStatus
  repeat' (first | intro _ | lift_lets | with_reducible exact h | with_reducible assumption | with_reducible apply within1_mk
                 | with_reducible apply sized_wstate | with_reducible apply fails_wstate | with_reducible apply answers_wstate | split)

theorem cmdFdbPin_within {m : Nat} (hm : Covers m 0x500100008) : WithinC m cmdFdbPin := by
  refine ⟨fun e s t h => ?_⟩
  unfold cmdFdbPin
  repeat' (first | exact hm.sub (by decide)
                 | (intro y; refine within_cut (m := m) (s := s) (y := y) ?_ ?_; rotate_left; (intro hy; clear_value y); rotate_right; subst y)
                 | intro _ | lift_lets | with_reducible exact h | with_reducible assumption | with_reducible apply within1_mk
                 | with_reducible apply pin_within | with_reducible apply modNet_within | with_reducible apply forwardSettings_within
                 | with_reducible apply sized_wstate | with_reducible apply fails_wstate | with_reducible apply notStandby_wstate
                 | with_reducible apply answers_wstate | split)

theorem cmdMvbConfigure_within {m : Nat} (hm : Covers m 0x900100008) : WithinC m cmdMvbConfigure := by
  refine ⟨fun e s t h => ?_⟩
  unfold cmdMvbConfigure
  repeat' (first | exact hm.sub (by decide)
                 | (intro y; refine within_cut (m := m) (s := s) (y := y) ?_ ?_; rotate_left; (intro hy; clear_value y); rotate_right; subst y)
                 | (intro y; clear_value y) | intro _ | lift_lets | with_reducible exact h | with_reducible assumption
                 | with_reducible apply within1_mk | with_reducible apply modBus_within | with_reducible apply forwardSettings_within
                 | with_reducible apply fails_wstate | with_reducible apply notStandby_wstate | with_reducible apply answers_wstate | split)

theorem cmdNetStatus_within {m : Nat} : WithinC m cmdNetStatus := by
  refine ⟨fun e s t h => ?_⟩
  unfold cmdNetStatus
  repeat' (first | (intro y; clear_value y) | intro _ | lift_lets | with_reducible exact h | with_reducible assumption
                 | with_reducible apply within1_mk | with_reducible apply sized_wstate | with_reducible apply answers_wstate)

theorem tryUnlock_within {m : Nat} {s t : State} (h : Within m s t) (hm : Covers m 0x900110508) (a0 : ℕ) : Within m s (tryUnlock a0 t) := by
  unfold tryUnlock
  repeat' (first | exact hm.sub (by decide)
                 | (intro y; refine within_cut (m := m) (s := s) (y := y) ?_ ?_; rotate_left; (intro hy; clear_value y); rotate_right; subst y)
                 | (intro y; clear_value y) | intro _ | lift_lets | with_reducible exact h | with_reducible assumption
                 | with_reducible apply within_ite | with_reducible apply within_foldl | with_reducible apply modMvb_within
                 | with_reducible apply completeEntry_within | with_reducible apply commitEntry_within | with_reducible apply grantWrite_within
                 | split)

theorem cmdMvbUnlock_within {m : Nat} (hm : Covers m 0x900110508) : WithinC m cmdMvbUnlock := by
  refine ⟨fun e s t h => ?_⟩
  unfold cmdMvbUnlock
  repeat' (first | exact hm.sub (by decide)
                 | (intro y; refine within_cut (m := m) (s := s) (y := y) ?_ ?_; rotate_left; (intro hy; clear_value y); rotate_right; subst y)
                 | (intro y; clear_value y) | intro _ | lift_lets | with_reducible exact h | with_reducible assumption
                 | with_reducible apply within_ite | with_reducible apply within1_mk | with_reducible apply modMvb_within
                 | with_reducible apply tryUnlock_within | with_reducible apply sized_wstate | with_reducible apply fails_wstate
                 | with_reducible apply notStandby_wstate | with_reducible apply answers_wstate | split)

theorem generate_within {m : Nat} {s t : State} (h : Within m s t) (hm : Covers m 0x400000000) (a0 : ℕ) : Within2 m s (generate a0 t) := by
  unfold generate
  repeat' (first | exact hm.sub (by decide) | lift_lets | with_reducible exact h | with_reducible apply within2_mk
                 | with_reducible apply modNet_within | split)

theorem generate_wstate {m : Nat} {s t : State} (h : Within m s t) (hm : Covers m 0x400000000) (a0 : ℕ) : Within m s (generate a0 t).2 :=
  (generate_within h hm a0).out

theorem sendTelegram_within {m : Nat} {s t : State} (h : Within m s t) (hm : Covers m 0x400000508) (a0 : ℕ) (a1 : ℕ) (a2 : ℕ) (a3 : Flow)
    (a4 : Bytes) :
    Within m s (sendTelegram a0 a1 a2 a3 a4 t) := by
  unfold sendTelegram
  repeat' (first | exact hm.sub (by decide)
                 | (intro y; refine within_cut (m := m) (s := s) (y := y) ?_ ?_; rotate_left; (intro hy; clear_value y); rotate_right; subst y)
                 | (intro y; refine within2_cut (m := m) (s := s) (y := y) ?_ ?_; rotate_left; (intro hy; clear_value y); rotate_right; subst y)
                 | (intro y; clear_value y) | lift_lets | with_reducible exact h | with_reducible assumption | with_reducible apply within_ite
                 | with_reducible apply within2_mk | with_reducible apply modFlow_within | with_reducible apply countMessage_within
                 | with_reducible apply emit_within | with_reducible apply generate_wstate | exact Within2.out (by assumption) | split)

theorem publishOne_within {m : Nat} {s t : State} (h : Within m s t) (hm : Covers m 0x400000508) (a0 : ℕ) (a1 : Flow) (a2 : Bytes) :
    Within m s (publishOne a0 a1 a2 t) := by
  unfold publishOne
  repeat' (first | exact hm.sub (by decide) | lift_lets | with_reducible exact h | with_reducible apply within_ite
                 | with_reducible apply modFlow_within | with_reducible apply sendTelegram_within)

theorem launchEmpty_within {m : Nat} {s t : State} (h : Within m s t) (hm : Covers m 0x400000000) (a0 : ℕ) : Within m s (launchEmpty a0 t) := by
  unfold launchEmpty
  repeat' (first | exact hm.sub (by decide) | lift_lets | with_reducible exact h | with_reducible apply modFlow_within)

theorem launchFlow_within {m : Nat} {s t : State} (h : Within m s t) (hm : Covers m 0x400000508) (a0 : ℕ) (a1 : ℕ) (a2 : Option Bytes) :
    Within m s (launchFlow a0 a1 a2 t) := by
  unfold launchFlow
  repeat' (first | exact hm.sub (by decide)
                 | (intro y; refine within_cut (m := m) (s := s) (y := y) ?_ ?_; rotate_left; (intro hy; clear_value y); rotate_right; subst y)
                 | lift_lets | with_reducible exact h | with_reducible assumption | with_reducible apply modFlow_within
                 | with_reducible apply publishOne_within | with_reducible apply launchEmpty_within | split)

theorem countMapEmpty_within {m : Nat} {s t : State} (h : Within m s t) (hm : Covers m 0x800000000) (a0 : ℕ) : Within m s (countMapEmpty a0 t) := by
  unfold countMapEmpty
  repeat' (first | exact hm.sub (by decide) | (intro (y : _ → _); subst y; try beta_reduce) | (intro y; clear_value y) | lift_lets
                 | with_reducible exact h | with_reducible apply modBus_within | with_reducible apply modMvb_within)

theorem execScheduledLaunch_within {m : Nat} {s t : State} (h : Within m s t) (hm : Covers m 0xC0000050A) (a0 : ℕ) :
    WithinOut m s (execScheduledLaunch a0 t) := by
  unfold execScheduledLaunch
  repeat' (first | exact hm.sub (by decide)
                 | (intro y; refine within_cut (m := m) (s := s) (y := y) ?_ ?_; rotate_left; (intro hy; clear_value y); rotate_right; subst y)
                 | (intro y; clear_value y) | lift_lets | with_reducible exact h | with_reducible assumption | with_reducible apply within_ite
                 | with_reducible apply withinOut_next | with_reducible apply withinOut_ite | with_reducible apply reachLocal_within
                 | with_reducible apply launchFlow_within | with_reducible apply countMapEmpty_within | split)

theorem dropStreamFrame_within {m : Nat} {s t : State} (h : Within m s t) (hm : Covers m 0x80000000) (a0 : ℕ) (a1 : Bytes) :
    Within m s (dropStreamFrame a0 a1 t) := by
  unfold dropStreamFrame
  repeat' (first | exact hm.sub (by decide) | (intro y; clear_value y) | lift_lets | with_reducible exact h | with_reducible apply within_ite
                 | with_reducible apply modSignal_within)

theorem startNext_within {m : Nat} {s t : State} (h : Within m s t) (hm : Covers m 0x400000008) (a0 : ℕ) : Within m s (startNext a0 t) := by
  unfold startNext
  repeat' (first | exact hm.sub (by decide) | (intro y; clear_value y) | lift_lets | with_reducible exact h | with_reducible apply within_ite
                 | with_reducible apply startFrame_within | with_reducible apply modPort_within | split)

theorem enqueue_within {m : Nat} {s t : State} (h : Within m s t) (hm : Covers m 0x400000008) (a0 : ℕ) (a1 : ℕ) (a2 : ℕ) (a3 : Bytes) :
    Within m s (enqueue a0 a1 a2 a3 t) := by
  unfold enqueue
  repeat' (first | exact hm.sub (by decide) | (intro y; clear_value y) | lift_lets | with_reducible exact h | with_reducible apply within_ite
                 | with_reducible apply countDrop_within | with_reducible apply startNext_within | with_reducible apply modPort_within)

theorem learnNew_within {m : Nat} {s t : State} (h : Within m s t) (hm : Covers m 0x400000000) (a0 : ℕ) (a1 : ℕ) (a2 : ℕ) :
    Within m s (learnNew a0 a1 a2 t) := by
  unfold learnNew
  repeat' (first | exact hm.sub (by decide) | (intro (y : _ → _); subst y; try beta_reduce) | (intro y; clear_value y) | lift_lets
                 | with_reducible exact h | with_reducible apply within_ite | with_reducible apply modNet_within
                 | with_reducible apply modPort_within)

theorem learn_within {m : Nat} {s t : State} (h : Within m s t) (hm : Covers m 0x400000000) (a0 : ℕ) (a1 : ℕ) (a2 : ℕ) :
    Within m s (learn a0 a1 a2 t) := by
  unfold learn
  repeat' (first | exact hm.sub (by decide) | lift_lets | with_reducible exact h | with_reducible apply within_ite
                 | with_reducible apply modNet_within | with_reducible apply learnNew_within | split)

theorem floodTo_within {m : Nat} {s t : State} (h : Within m s t) (hm : Covers m 0x400000008) (a0 : ℕ) (a1 : ℕ) (a2 : ℕ) (a3 : Bytes) :
    Within m s (floodTo a0 a1 a2 a3 t) := by
  unfold floodTo
  repeat' (first | exact hm.sub (by decide) | (intro y; clear_value y) | lift_lets | with_reducible exact h | with_reducible apply within_ite
                 | with_reducible apply countDrop_within | with_reducible apply enqueue_within | with_reducible apply modPort_within)

theorem sendTo_within {m : Nat} {s t : State} (h : Within m s t) (hm : Covers m 0x400000008) (a0 : Bool) (a1 : List ℕ) (a2 : ℕ) (a3 : ℕ) (a4 : ℕ)
    (a5 : Bytes) :
    Within m s (sendTo a0 a1 a2 a3 a4 a5 t) := by
  unfold sendTo
  repeat' (first | exact hm.sub (by decide) | (intro y; clear_value y) | intro _ | lift_lets | with_reducible exact h | with_reducible assumption
                 | with_reducible apply within_ite | with_reducible apply within_foldl | with_reducible apply countDrop_within
                 | with_reducible apply floodTo_within | with_reducible apply enqueue_within | split)

theorem forward_within {m : Nat} {s t : State} (h : Within m s t) (hm : Covers m 0x400000008) (a0 : ℕ) (a1 : ℕ) (a2 : ℕ) (a3 : Bytes) :
    Within m s (forward a0 a1 a2 a3 t) := by
  unfold forward
  repeat' (first | exact hm.sub (by decide) | (intro y; clear_value y) | lift_lets | with_reducible exact h | with_reducible apply sendTo_within
                 | with_reducible apply modPort_within | split)

theorem admitFrame_within {m : Nat} {s t : State} (h : Within m s t) (hm : Covers m 0x400000008) (a0 : ℕ) (a1 : Bytes) :
    Within m s (admitFrame a0 a1 t) := by
  unfold admitFrame
  repeat' (first | exact hm.sub (by decide)
                 | (intro y; refine within_cut (m := m) (s := s) (y := y) ?_ ?_; rotate_left; (intro hy; clear_value y); rotate_right; subst y)
                 | (intro y; clear_value y) | lift_lets | with_reducible exact h | with_reducible assumption | with_reducible apply within_ite
                 | with_reducible apply within2_mk | with_reducible apply learn_within | with_reducible apply sendTo_within
                 | with_reducible apply modNet_within | with_reducible apply forward_within | with_reducible apply generate_wstate
                 | refine within2_of_eq (by assumption) ?_ | split)

theorem execFrameReceive_within {m : Nat} {s t : State} (h : Within m s t) (hm : Covers m 0x480000008) (a0 : ℕ) (a1 : RxFrame) :
    WithinOut m s (execFrameReceive a0 a1 t) := by
  unfold execFrameReceive
  repeat' (first | exact hm.sub (by decide)
                 | (intro y; refine within_cut (m := m) (s := s) (y := y) ?_ ?_; rotate_left; (intro hy; clear_value y); rotate_right; subst y)
                 | lift_lets | with_reducible exact h | with_reducible assumption | with_reducible apply within_ite
                 | with_reducible apply withinOut_next | with_reducible apply withinOut_ite | with_reducible apply modPort_within
                 | with_reducible apply countDrop_within | with_reducible apply dropStreamFrame_within | with_reducible apply enqueue_within
                 | with_reducible apply admitFrame_within | split)

theorem timeCuePasses_within {m : Nat} {s t : State} (h : Within m s t) (hm : Covers m 0x40C400008) (a0 : ℕ) : Within m s (timeCuePasses a0 t) := by
  unfold timeCuePasses
  repeat' (first | exact hm.sub (by decide) | lift_lets | with_reducible exact h | with_reducible apply within_ite
                 | with_reducible apply modCue_within | with_reducible apply cuePasses_within | split)

theorem applyCueRequest_within {m : Nat} {s t : State} (h : Within m s t) (hm : Covers m 0x40C400008) (a0 : ℕ) (a1 : Bytes) :
    Within m s (applyCueRequest a0 a1 t) := by
  unfold applyCueRequest
  repeat' (first | exact hm.sub (by decide)
                 | (intro y; refine within_cut (m := m) (s := s) (y := y) ?_ ?_; rotate_left; (intro hy; clear_value y); rotate_right; subst y)
                 | (intro y; clear_value y) | lift_lets | with_reducible exact h | with_reducible assumption | with_reducible apply within_ite
                 | with_reducible apply modPos_within | with_reducible apply modCue_within | with_reducible apply cueMissed_within
                 | with_reducible apply cuePasses_within | with_reducible apply timeCuePasses_within | split)

theorem publishFlow_within {m : Nat} {s t : State} (h : Within m s t) (hm : Covers m 0x400000508) (a0 : ℕ) (a1 : Bytes) :
    Within m s (publishFlow a0 a1 t) := by
  unfold publishFlow
  repeat' (first | exact hm.sub (by decide)
                 | (intro y; refine within_cut (m := m) (s := s) (y := y) ?_ ?_; rotate_left; (intro hy; clear_value y); rotate_right; subst y)
                 | lift_lets | with_reducible exact h | with_reducible assumption | with_reducible apply within_ite
                 | with_reducible apply modFlow_within | with_reducible apply publishOne_within | split)

theorem releaseMvb_within {m : Nat} {s t : State} (h : Within m s t) (hm : Covers m 0x800000000) (a0 : ℕ) (a1 : Bytes) :
    Within m s (releaseMvb a0 a1 t) := by
  unfold releaseMvb
  repeat' (first | exact hm.sub (by decide) | lift_lets | with_reducible exact h | with_reducible apply modMvbPort_within)

theorem releaseCues_within {m : Nat} {s t : State} (h : Within m s t) (hm : Covers m 0x40C400008) (a0 : ℕ) (a1 : List (ℕ × Bytes)) :
    Within m s (releaseCues a0 a1 t) := by
  unfold releaseCues
  repeat' (first | exact hm.sub (by decide)
                 | (intro y; refine within_cut (m := m) (s := s) (y := y) ?_ ?_; rotate_left; (intro hy; clear_value y); rotate_right; subst y)
                 | intro _ | lift_lets | with_reducible exact h | with_reducible assumption | with_reducible apply within_foldl
                 | with_reducible apply applyCueRequest_within | with_reducible apply modPos_within)

theorem execMvbMastershipOffer_within {m : Nat} {s t : State} (h : Within m s t) (hm : Covers m 0x800000000) (a0 : ℕ) :
    WithinOut m s (execMvbMastershipOffer a0 t) := by
  unfold execMvbMastershipOffer
  repeat' (first | exact hm.sub (by decide) | lift_lets | with_reducible exact h | with_reducible apply withinOut_next
                 | with_reducible apply withinOut_ite | with_reducible apply modBus_within)

theorem execGateListTakeover_within {m : Nat} {s t : State} (h : Within m s t) (hm : Covers m 0x40000000A) (a0 : ℕ) :
    WithinOut m s (execGateListTakeover a0 t) := by
  unfold execGateListTakeover
  repeat' (first | exact hm.sub (by decide)
                 | (intro y; refine within_cut (m := m) (s := s) (y := y) ?_ ?_; rotate_left; (intro hy; clear_value y); rotate_right; subst y)
                 | lift_lets | with_reducible exact h | with_reducible assumption | with_reducible apply withinOut_next
                 | with_reducible apply reachLocal_within | with_reducible apply startNext_within | with_reducible apply modPort_within | split)

theorem modLine_within {m : Nat} {s t : State} (h : Within m s t) (hm : Covers m 0x400000000) (a0 : ℕ) (a1 : TtdpLine → TtdpLine) :
    Within m s (modLine a0 a1 t) := by
  unfold modLine
  repeat' (first | exact hm.sub (by decide) | lift_lets | with_reducible exact h | with_reducible apply modNet_within)

theorem deliverHeld_within {m : Nat} {s t : State} (h : Within m s t) (hm : Covers m 0x80000000) (a0 : ℕ) : Within m s (deliverHeld a0 t) := by
  unfold deliverHeld
  repeat' (first | exact hm.sub (by decide) | lift_lets | with_reducible exact h | with_reducible apply modChan_within)

theorem startDissolve_within {m : Nat} {s t : State} (h : Within m s t) (hm : Covers m 0x180110508) (a0 : ℕ) (a1 : ℕ) :
    Within m s (startDissolve a0 a1 t) := by
  unfold startDissolve
  repeat' (first | exact hm.sub (by decide) | lift_lets | with_reducible exact h | with_reducible apply completeEntry_within
                 | with_reducible apply commitEntry_within | with_reducible apply modChan_within | split)

theorem deliverOutput_within {m : Nat} {s t : State} (h : Within m s t) (hm : Covers m 0x82000000) (a0 : ℕ) (a1 : ℤ) (a2 : ℕ) :
    Within m s (deliverOutput a0 a1 a2 t) := by
  unfold deliverOutput
  repeat' (first | exact hm.sub (by decide) | lift_lets | with_reducible exact h | with_reducible apply pulse_within
                 | with_reducible apply modChan_within)

theorem produceOutput_within {m : Nat} {s t : State} (h : Within m s t) (hm : Covers m 0x182110508) (a0 : ℕ) : Within m s (produceOutput a0 t) := by
  unfold produceOutput
  repeat' (first | exact hm.sub (by decide) | with_reducible exact h | with_reducible apply within_ite | with_reducible apply endDissolve_within
                 | with_reducible apply startDissolve_within | with_reducible apply deliverOutput_within | with_reducible apply modChan_within
                 | split)

theorem takeSample_within {m : Nat} {s t : State} (h : Within m s t) (hm : Covers m 0x182110508) (a0 : ℕ) (a1 : ℤ) :
    Within m s (takeSample a0 a1 t) := by
  unfold takeSample
  repeat' (first | exact hm.sub (by decide)
                 | (intro y; refine within_cut (m := m) (s := s) (y := y) ?_ ?_; rotate_left; (intro hy; clear_value y); rotate_right; subst y)
                 | (intro y; clear_value y) | lift_lets | with_reducible exact h | with_reducible assumption | with_reducible apply within_ite
                 | with_reducible apply modChan_within | with_reducible apply deliverHeld_within | with_reducible apply endDissolve_within
                 | with_reducible apply produceOutput_within)

theorem toReel_within {m : Nat} {s t : State} (h : Within m s t) (hm : Covers m 0x400000000) : Within m s (toReel t) := by
  unfold toReel
  repeat' (first | exact hm.sub (by decide) | lift_lets | with_reducible exact h | with_reducible apply within_ite
                 | with_reducible apply modNet_within)

theorem execTrdpPrReceive_within {m : Nat} {s t : State} (h : Within m s t) (hm : Covers m 0x400000508) (a0 : Telegram) :
    WithinOut m s (execTrdpPrReceive a0 t) := by
  unfold execTrdpPrReceive
  repeat' (first | exact hm.sub (by decide) | lift_lets | with_reducible exact h | with_reducible apply withinOut_next
                 | with_reducible apply withinOut_ite | with_reducible apply toReel_within | with_reducible apply modFlow_within
                 | with_reducible apply sendTelegram_within | split)

theorem execBackpressureWindow_within {m : Nat} {s t : State} (h : Within m s t) (hm : Covers m 0x400100002) :
    WithinOut m s (execBackpressureWindow t) := by
  unfold execBackpressureWindow
  repeat' (first | exact hm.sub (by decide)
                 | (intro y; refine within_cut (m := m) (s := s) (y := y) ?_ ?_; rotate_left; (intro hy; clear_value y); rotate_right; subst y)
                 | (intro y; clear_value y) | intro _ | lift_lets | with_reducible exact h | with_reducible assumption
                 | with_reducible apply withinOut_next | with_reducible apply withinOut_ite | with_reducible apply within_foldl
                 | with_reducible apply reachLocal_within | with_reducible apply modPort_within | with_reducible apply countApplied_within)

theorem dropFlow_within {m : Nat} {s t : State} (h : Within m s t) (hm : Covers m 0x400000000) (a0 : ℕ) (a1 : ℕ) : Within m s (dropFlow a0 a1 t) := by
  unfold dropFlow
  repeat' (first | exact hm.sub (by decide) | lift_lets | with_reducible exact h | with_reducible apply modFlow_within)

theorem rejectTelegram_within {m : Nat} {s t : State} (h : Within m s t) (hm : Covers m 0x400000000) (a0 : ℕ) (a1 : ℕ) :
    Within m s (rejectTelegram a0 a1 t) := by
  unfold rejectTelegram
  repeat' (first | exact hm.sub (by decide)
                 | (intro y; refine within_cut (m := m) (s := s) (y := y) ?_ ?_; rotate_left; (intro hy; clear_value y); rotate_right; subst y)
                 | (intro y; clear_value y) | lift_lets | with_reducible exact h | with_reducible assumption
                 | with_reducible apply modFlow_within | with_reducible apply dropFlow_within)

theorem acceptTelegram_within {m : Nat} {s t : State} (h : Within m s t) (hm : Covers m 0x402000500) (a0 : ℕ) (a1 : Telegram) :
    Within m s (acceptTelegram a0 a1 t) := by
  unfold acceptTelegram
  repeat' (first | exact hm.sub (by decide)
                 | (intro y; refine within_cut (m := m) (s := s) (y := y) ?_ ?_; rotate_left; (intro hy; clear_value y); rotate_right; subst y)
                 | (intro y; clear_value y) | lift_lets | with_reducible exact h | with_reducible assumption
                 | with_reducible apply modFlow_within | with_reducible apply countMessage_within | with_reducible apply pulse_within | split)

theorem receiveTelegram_within {m : Nat} {s t : State} (h : Within m s t) (hm : Covers m 0x402000500) (a0 : Telegram) :
    Within1 m s (receiveTelegram a0 t) := by
  unfold receiveTelegram
  repeat' (first | exact hm.sub (by decide) | (intro y; clear_value y) | intro _ | lift_lets | with_reducible exact h | with_reducible assumption
                 | with_reducible apply within1_mk | with_reducible apply within_foldl | with_reducible apply dropFlow_within
                 | with_reducible apply toReel_within | with_reducible apply rejectTelegram_within | with_reducible apply acceptTelegram_within
                 | split)

theorem receiveTelegram_wstate {m : Nat} {s t : State} (h : Within m s t) (hm : Covers m 0x402000500) (a0 : Telegram) :
    Within m s (receiveTelegram a0 t).1 :=
  (receiveTelegram_within h hm a0).out

theorem execMvbSinkStale_within {m : Nat} {s t : State} (h : Within m s t) (hm : Covers m 0x800000002) (a0 : ℕ) :
    WithinOut m s (execMvbSinkStale a0 t) := by
  unfold execMvbSinkStale
  repeat' (first | exact hm.sub (by decide) | lift_lets | with_reducible exact h | with_reducible apply withinOut_next
                 | with_reducible apply withinOut_ite | with_reducible apply modMvbPort_within | with_reducible apply reach_within | split)

theorem grantNext_within {m : Nat} {s t : State} (h : Within m s t) (hm : Covers m 0x800010000) (a0 : ℕ) : Within m s (grantNext a0 t) := by
  unfold grantNext
  repeat' (first | exact hm.sub (by decide) | lift_lets | with_reducible exact h | with_reducible apply within_ite
                 | with_reducible apply modEntry_within | with_reducible apply grantWrite_within | split)

theorem cueTick_within {m : Nat} {s t : State} (h : Within m s t) (hm : Covers m 0x40C400008) (a0 : ℕ) (a1 : ℤ) (a2 : ℤ) :
    Within m s (cueTick a0 a1 a2 t) := by
  unfold cueTick
  repeat' (first | exact hm.sub (by decide) | (intro y; clear_value y) | intro _ | lift_lets | with_reducible exact h | with_reducible assumption
                 | with_reducible apply within_ite | with_reducible apply within_foldl | with_reducible apply cuePasses_within)

theorem execMvbReadTimeout_within {m : Nat} {s t : State} (h : Within m s t) (hm : Covers m 0x90011050A) (a0 : ℕ) :
    WithinOut m s (execMvbReadTimeout a0 t) := by
  unfold execMvbReadTimeout
  repeat' (first | exact hm.sub (by decide)
                 | (intro y; refine within_cut (m := m) (s := s) (y := y) ?_ ?_; rotate_left; (intro hy; clear_value y); rotate_right; subst y)
                 | lift_lets | with_reducible exact h | with_reducible assumption | with_reducible apply withinOut_next
                 | with_reducible apply modMvbPort_within | with_reducible apply reach_within | with_reducible apply modBus_within
                 | with_reducible apply completeEntry_within | split)

theorem tryUnlocks_within {m : Nat} {s t : State} (h : Within m s t) (hm : Covers m 0x900110508) : Within m s (tryUnlocks t) := by
  unfold tryUnlocks
  repeat' (first | exact hm.sub (by decide) | intro _ | lift_lets | with_reducible exact h | with_reducible assumption
                 | with_reducible apply within_foldl | with_reducible apply tryUnlock_within)

theorem finishWrite_within {m : Nat} {s t : State} (h : Within m s t) (hm : Covers m 0x900110508) (a0 : ℕ) (a1 : ℕ) (a2 : MvbWriteSt) :
    Within m s (finishWrite a0 a1 a2 t) := by
  unfold finishWrite
  repeat' (first | exact hm.sub (by decide) | lift_lets | with_reducible exact h | with_reducible apply tryUnlocks_within
                 | with_reducible apply grantNext_within | with_reducible apply endWrite_within)

theorem execMvbWriteDeadline_within {m : Nat} {s t : State} (h : Within m s t) (hm : Covers m 0x90011050A) (a0 : ℕ) :
    WithinOut m s (execMvbWriteDeadline a0 t) := by
  unfold execMvbWriteDeadline
  repeat' (first | exact hm.sub (by decide) | (intro y; clear_value y) | lift_lets | with_reducible exact h | with_reducible apply withinOut_next
                 | with_reducible apply finishWrite_within | with_reducible apply reach_within | split)

theorem takeSets_within {m : Nat} {s t : State} (h : Within m s t) (hm : Covers m 0x182110508) (a0 : ℕ) (a1 : List (List ℤ)) :
    Within m s (takeSets a0 a1 t) := by
  unfold takeSets
  repeat' (first | exact hm.sub (by decide) | intro _ | lift_lets | with_reducible exact h | with_reducible assumption
                 | with_reducible apply within_foldl | with_reducible apply takeSample_within | split)

theorem feedMaps_within {m : Nat} {s t : State} (h : Within m s t) (hm : Covers m 0x800000000) (a0 : ℕ) : Within m s (feedMaps a0 t) := by
  unfold feedMaps
  repeat' (first | exact hm.sub (by decide) | intro _ | lift_lets | with_reducible exact h | with_reducible assumption
                 | with_reducible apply within_ite | with_reducible apply within_foldl | with_reducible apply modMvbPort_within | split)

theorem execTrdpPdReceive_within {m : Nat} {s t : State} (h : Within m s t) (hm : Covers m 0xC02000500) (a0 : Telegram) :
    WithinOut m s (execTrdpPdReceive a0 t) := by
  unfold execTrdpPdReceive
  repeat' (first | exact hm.sub (by decide) | lift_lets | with_reducible exact h | with_reducible apply withinOut_next
                 | with_reducible apply within1_mk | with_reducible apply withinOut_ite | with_reducible apply feedMaps_within
                 | with_reducible apply receiveTelegram_wstate | refine within1_of_eq (by assumption) ?_ | split)

theorem statusSeen_within {m : Nat} {s t : State} (h : Within m s t) (hm : Covers m 0x900110508) (a0 : ℕ) (a1 : ℕ) (a2 : ℕ) :
    Within m s (statusSeen a0 a1 a2 t) := by
  unfold statusSeen
  repeat' (first | exact hm.sub (by decide)
                 | (intro y; refine within_cut (m := m) (s := s) (y := y) ?_ ?_; rotate_left; (intro hy; clear_value y); rotate_right; subst y)
                 | (intro y; clear_value y) | intro _ | lift_lets | with_reducible exact h | with_reducible assumption
                 | with_reducible apply within_ite | with_reducible apply within_foldl | with_reducible apply modMvbPort_within
                 | with_reducible apply finishWrite_within | split)

theorem execRelayReadback_within {m : Nat} {s t : State} (h : Within m s t) (hm : Covers m 0x400000080) (a0 : ℕ) (a1 : Bool) :
    WithinOut m s (execRelayReadback a0 a1 t) := by
  unfold execRelayReadback
  repeat' (first | exact hm.sub (by decide)
                 | (intro y; refine within_cut (m := m) (s := s) (y := y) ?_ ?_; rotate_left; (intro hy; clear_value y); rotate_right; subst y)
                 | (intro y; clear_value y) | intro _ | lift_lets | with_reducible exact h | with_reducible assumption
                 | with_reducible apply within_ite | with_reducible apply withinOut_next | with_reducible apply withinOut_ite
                 | with_reducible apply modNet_within | with_reducible apply record_within)

theorem markPolled_within {m : Nat} {s t : State} (h : Within m s t) (hm : Covers m 0x800000000) (a0 : ℕ) (a1 : ℕ) :
    Within m s (markPolled a0 a1 t) := by
  unfold markPolled
  repeat' (first | exact hm.sub (by decide) | lift_lets | with_reducible exact h | with_reducible apply modBus_within)

theorem startInauguration_within {m : Nat} {s t : State} (h : Within m s t) (hm : Covers m 0x400000000) : Within m s (startInauguration t) := by
  unfold startInauguration
  repeat' (first | exact hm.sub (by decide) | lift_lets | with_reducible exact h | with_reducible apply within_ite
                 | with_reducible apply modNet_within)

theorem execTtdpHelloTimeout_within {m : Nat} {s t : State} (h : Within m s t) (hm : Covers m 0x400000002) (a0 : ℕ) :
    WithinOut m s (execTtdpHelloTimeout a0 t) := by
  unfold execTtdpHelloTimeout
  repeat' (first | exact hm.sub (by decide)
                 | (intro y; refine within_cut (m := m) (s := s) (y := y) ?_ ?_; rotate_left; (intro hy; clear_value y); rotate_right; subst y)
                 | (intro y; clear_value y) | lift_lets | with_reducible exact h | with_reducible assumption
                 | with_reducible apply withinOut_next | with_reducible apply withinOut_ite | with_reducible apply reach_within
                 | with_reducible apply modLine_within | with_reducible apply startInauguration_within)

theorem execDissolveStart_within {m : Nat} {s t : State} (h : Within m s t) (hm : Covers m 0x180110508) (a0 : ℕ) :
    WithinOut m s (execDissolveStart a0 t) := by
  unfold execDissolveStart
  repeat' (first | exact hm.sub (by decide) | (intro y; clear_value y) | lift_lets | with_reducible exact h | with_reducible apply within_ite
                 | with_reducible apply withinOut_next | with_reducible apply startDissolve_within)

theorem execLaunchGuardBand_within {m : Nat} {s t : State} (h : Within m s t) (hm : Covers m 0x400000002) (a0 : ℕ) (a1 : ℕ) :
    WithinOut m s (execLaunchGuardBand a0 a1 t) := by
  unfold execLaunchGuardBand
  repeat' (first | exact hm.sub (by decide) | lift_lets | with_reducible exact h | with_reducible apply withinOut_next
                 | with_reducible apply modPort_within | with_reducible apply reach_within)

theorem countMissed_within {m : Nat} {s t : State} (h : Within m s t) (hm : Covers m 0x800000000) (a0 : ℕ) : Within m s (countMissed a0 t) := by
  unfold countMissed
  repeat' (first | exact hm.sub (by decide) | (intro (y : _ → _); subst y; try beta_reduce) | lift_lets | with_reducible exact h
                 | with_reducible apply modBus_within)

theorem execDissolveComplete_within {m : Nat} {s t : State} (h : Within m s t) (hm : Covers m 0x180100008) (a0 : ℕ) :
    WithinOut m s (execDissolveComplete a0 t) := by
  unfold execDissolveComplete
  repeat' (first | exact hm.sub (by decide) | lift_lets | with_reducible exact h | with_reducible apply within_ite
                 | with_reducible apply withinOut_next | with_reducible apply endDissolve_within | split)

theorem takeBank_within {m : Nat} {s t : State} (h : Within m s t) (hm : Covers m 0x80000000) (a0 : Bytes) : Within m s (takeBank a0 t) := by
  unfold takeBank
  repeat' (first | exact hm.sub (by decide) | lift_lets | with_reducible exact h | with_reducible apply modChan_within)

theorem execFlowFreshnessTimeout_within {m : Nat} {s t : State} (h : Within m s t) (hm : Covers m 0x400000002) (a0 : ℕ) :
    WithinOut m s (execFlowFreshnessTimeout a0 t) := by
  unfold execFlowFreshnessTimeout
  repeat' (first | exact hm.sub (by decide) | lift_lets | with_reducible exact h | with_reducible apply withinOut_next
                 | with_reducible apply withinOut_ite | with_reducible apply modFlow_within | with_reducible apply reach_within | split)

theorem execEgressFrameDone_within {m : Nat} {s t : State} (h : Within m s t) (hm : Covers m 0x40000000A) (a0 : ℕ) :
    WithinOut m s (execEgressFrameDone a0 t) := by
  unfold execEgressFrameDone
  repeat' (first | exact hm.sub (by decide) | lift_lets | with_reducible exact h | with_reducible apply withinOut_next
                 | with_reducible apply startNext_within | with_reducible apply modPort_within | with_reducible apply reach_within | split)

theorem eventPhase_within {m : Nat} {s t : State} (h : Within m s t) (hm : Covers m 0x800000008) (a0 : ℕ) : Within m s (eventPhase a0 t) := by
  unfold eventPhase
  repeat' (first | exact hm.sub (by decide) | lift_lets | with_reducible exact h | with_reducible apply emit_within
                 | with_reducible apply modBus_within)

theorem echoSeen_within {m : Nat} {s t : State} (h : Within m s t) (hm : Covers m 0x900110508) (a0 : ℕ) (a1 : Bytes) :
    Within m s (echoSeen a0 a1 t) := by
  unfold echoSeen
  repeat' (first | exact hm.sub (by decide)
                 | (intro y; refine within_cut (m := m) (s := s) (y := y) ?_ ?_; rotate_left; (intro hy; clear_value y); rotate_right; subst y)
                 | intro _ | lift_lets | with_reducible exact h | with_reducible assumption | with_reducible apply within_ite
                 | with_reducible apply within_foldl | with_reducible apply modMvbPort_within | with_reducible apply finishWrite_within | split)

theorem serveReads_within {m : Nat} {s t : State} (h : Within m s t) (hm : Covers m 0x900110508) (a0 : ℕ) (a1 : Bytes) (a2 : ℕ) :
    Within m s (serveReads a0 a1 a2 t) := by
  unfold serveReads
  repeat' (first | exact hm.sub (by decide)
                 | (intro y; refine within_cut (m := m) (s := s) (y := y) ?_ ?_; rotate_left; (intro hy; clear_value y); rotate_right; subst y)
                 | intro _ | lift_lets | with_reducible exact h | with_reducible assumption | with_reducible apply within_foldl
                 | with_reducible apply modMvbPort_within | with_reducible apply completeEntry_within | split)

theorem execMvbSlaveFrame_within {m : Nat} {s t : State} (h : Within m s t) (hm : Covers m 0x902110508) (a0 : ℕ) (a1 : ℕ) (a2 : ℕ) (a3 : Bytes)
    (a4 : Bool) (a5 : Bool) :
    WithinOut m s (execMvbSlaveFrame a0 a1 a2 a3 a4 a5 t) := by
  unfold execMvbSlaveFrame
  repeat' (first | exact hm.sub (by decide)
                 | (intro y; refine within_cut (m := m) (s := s) (y := y) ?_ ?_; rotate_left; (intro hy; clear_value y); rotate_right; subst y)
                 | (intro y; clear_value y) | lift_lets | with_reducible exact h | with_reducible assumption | with_reducible apply within_ite
                 | with_reducible apply withinOut_next | with_reducible apply withinOut_ite | with_reducible apply modBus_within
                 | with_reducible apply statusSeen_within | with_reducible apply pulse_within | with_reducible apply modMvbPort_within
                 | with_reducible apply echoSeen_within | with_reducible apply serveReads_within | split)

theorem execTtdpHelloReceive_within {m : Nat} {s t : State} (h : Within m s t) (hm : Covers m 0x400000000) (a0 : ℕ) (a1 : ℕ) :
    WithinOut m s (execTtdpHelloReceive a0 a1 t) := by
  unfold execTtdpHelloReceive
  repeat' (first | exact hm.sub (by decide)
                 | (intro y; refine within_cut (m := m) (s := s) (y := y) ?_ ?_; rotate_left; (intro hy; clear_value y); rotate_right; subst y)
                 | intro _ | lift_lets | with_reducible exact h | with_reducible assumption | with_reducible apply within_ite
                 | with_reducible apply withinOut_next | with_reducible apply withinOut_ite | with_reducible apply modLine_within
                 | with_reducible apply startInauguration_within)

theorem execFdbAging_within {m : Nat} {s t : State} (h : Within m s t) (hm : Covers m 0x400000002) (a0 : ℕ) (a1 : ℕ) :
    WithinOut m s (execFdbAging a0 a1 t) := by
  unfold execFdbAging
  repeat' (first | exact hm.sub (by decide) | lift_lets | with_reducible exact h | with_reducible apply withinOut_next
                 | with_reducible apply modNet_within | with_reducible apply reach_within | split)

theorem execFrerLatentError_within {m : Nat} {s t : State} (h : Within m s t) (hm : Covers m 0x400000082) (a0 : ℕ) (a1 : ℕ) :
    WithinOut m s (execFrerLatentError a0 a1 t) := by
  unfold execFrerLatentError
  repeat' (first | exact hm.sub (by decide)
                 | (intro y; refine within_cut (m := m) (s := s) (y := y) ?_ ?_; rotate_left; (intro hy; clear_value y); rotate_right; subst y)
                 | lift_lets | with_reducible exact h | with_reducible assumption | with_reducible apply withinOut_next
                 | with_reducible apply withinOut_ite | with_reducible apply reach_within | with_reducible apply modNet_within
                 | with_reducible apply recordReel_within | split)

theorem execSfpInsertion_within {m : Nat} {s t : State} (h : Within m s t) (hm : Covers m 0x500000080) (a0 : ℕ) (a1 : Bool) (a2 : ℕ) :
    WithinOut m s (execSfpInsertion a0 a1 a2 t) := by
  unfold execSfpInsertion
  repeat' (first | exact hm.sub (by decide) | with_reducible exact Or.inr rfl
                 | (intro y; refine within_cut (m := m) (s := s) (y := y) ?_ ?_; rotate_left; (intro hy; clear_value y); rotate_right; subst y)
                 | (intro y; clear_value y) | lift_lets | with_reducible exact h | with_reducible assumption | with_reducible apply within_ite
                 | with_reducible apply withinOut_next | with_reducible apply withinOut_ite | with_reducible apply modNet_within
                 | with_reducible apply modPort_within | with_reducible apply modPair_within | with_reducible apply record_within)

theorem transmit_within {m : Nat} {s t : State} (h : Within m s t) (hm : Covers m 0x900110508) (a0 : ℕ) : Within m s (transmit a0 t) := by
  unfold transmit
  repeat' (first | exact hm.sub (by decide)
                 | (intro y; refine within_cut (m := m) (s := s) (y := y) ?_ ?_; rotate_left; (intro hy; clear_value y); rotate_right; subst y)
                 | (intro y; clear_value y) | lift_lets | with_reducible exact h | with_reducible assumption | with_reducible apply within_ite
                 | with_reducible apply modMvbPort_within | with_reducible apply commitEntry_within | with_reducible apply modBus_within
                 | with_reducible apply serveReads_within | with_reducible apply emit_within | split)

theorem sendPoll_within {m : Nat} {s t : State} (h : Within m s t) (hm : Covers m 0x900110508) (a0 : ℕ) (a1 : ℕ) (a2 : ℕ) :
    Within m s (sendPoll a0 a1 a2 t) := by
  unfold sendPoll
  repeat' (first | exact hm.sub (by decide)
                 | (intro y; refine within_cut (m := m) (s := s) (y := y) ?_ ?_; rotate_left; (intro hy; clear_value y); rotate_right; subst y)
                 | lift_lets | with_reducible exact h | with_reducible assumption | with_reducible apply within_ite
                 | with_reducible apply emit_within | with_reducible apply modBus_within | with_reducible apply transmit_within)

theorem execTopologyFrame_within {m : Nat} {s t : State} (h : Within m s t) (hm : Covers m 0x400000000) (a0 : ℕ) (a1 : Bool) :
    WithinOut m s (execTopologyFrame a0 a1 t) := by
  unfold execTopologyFrame
  repeat' (first | exact hm.sub (by decide) | lift_lets | with_reducible exact h | with_reducible apply within_ite
                 | with_reducible apply withinOut_next | with_reducible apply startInauguration_within)

theorem execTimeCue_within {m : Nat} {s t : State} (h : Within m s t) (hm : Covers m 0x40C40000A) (a0 : ℕ) : WithinOut m s (execTimeCue a0 t) := by
  unfold execTimeCue
  repeat' (first | exact hm.sub (by decide) | (intro y; clear_value y) | lift_lets | with_reducible exact h | with_reducible apply withinOut_next
                 | with_reducible apply withinOut_ite | with_reducible apply timeCuePasses_within | with_reducible apply reachLocal_within)

theorem modTakers_within {m : Nat} {s t : State} (h : Within m s t) (hm : Covers m 0x80000000) (a0 : ℕ) (a1 : FilterChannel → FilterChannel) :
    Within m s (modTakers a0 a1 t) := by
  unfold modTakers
  repeat' (first | exact hm.sub (by decide) | intro _ | lift_lets | with_reducible exact h | with_reducible assumption
                 | with_reducible apply within_foldl | with_reducible apply modChan_within)

theorem takeFrame_within {m : Nat} {s t : State} (h : Within m s t) (hm : Covers m 0x182110508) (a0 : ℕ) (a1 : ℕ) (a2 : List (List ℤ)) :
    Within m s (takeFrame a0 a1 a2 t) := by
  unfold takeFrame
  repeat' (first | exact hm.sub (by decide)
                 | (intro y; refine within_cut (m := m) (s := s) (y := y) ?_ ?_; rotate_left; (intro hy; clear_value y); rotate_right; subst y)
                 | (intro y; clear_value y) | lift_lets | with_reducible exact h | with_reducible assumption | with_reducible apply within_ite
                 | with_reducible apply modTakers_within | with_reducible apply takeSets_within | with_reducible apply modSignal_within)

theorem execMvbBindingWriteFailure_within {m : Nat} {s t : State} (h : Within m s t) (hm : Covers m 0x800000082) (a0 : ℕ) :
    WithinOut m s (execMvbBindingWriteFailure a0 t) := by
  unfold execMvbBindingWriteFailure
  repeat' (first | exact hm.sub (by decide)
                 | (intro y; refine within_cut (m := m) (s := s) (y := y) ?_ ?_; rotate_left; (intro hy; clear_value y); rotate_right; subst y)
                 | lift_lets | with_reducible exact h | with_reducible assumption | with_reducible apply withinOut_next
                 | with_reducible apply withinOut_ite | with_reducible apply modMvbPort_within | with_reducible apply reach_within
                 | with_reducible apply modBus_within | with_reducible apply recordReel_within | split)

theorem execMvbMasterFrame_within {m : Nat} {s t : State} (h : Within m s t) (hm : Covers m 0x90011050C) (a0 : ℕ) (a1 : ℕ) (a2 : ℕ) :
    WithinOut m s (execMvbMasterFrame a0 a1 a2 t) := by
  unfold execMvbMasterFrame
  repeat' (first | exact hm.sub (by decide)
                 | (intro y; refine within_cut (m := m) (s := s) (y := y) ?_ ?_; rotate_left; (intro hy; clear_value y); rotate_right; subst y)
                 | (intro y; clear_value y) | lift_lets | with_reducible exact h | with_reducible assumption | with_reducible apply within_ite
                 | with_reducible apply withinOut_next | with_reducible apply withinOut_ite | with_reducible apply countMissed_within
                 | with_reducible apply modBus_within | with_reducible apply emit_within | with_reducible apply afterDraw_within
                 | with_reducible apply markPolled_within | with_reducible apply transmit_within | split)

theorem execStreamFrame_within {m : Nat} {s t : State} (h : Within m s t) (hm : Covers m 0x182110508) (a0 : ℕ) (a1 : Bytes) :
    WithinOut m s (execStreamFrame a0 a1 t) := by
  unfold execStreamFrame
  repeat' (first | exact hm.sub (by decide) | (intro y; clear_value y) | lift_lets | with_reducible exact h | with_reducible apply withinOut_next
                 | with_reducible apply withinOut_ite | with_reducible apply dropStreamFrame_within | with_reducible apply takeFrame_within)

theorem execTtdpHelloSend_within {m : Nat} {s t : State} (h : Within m s t) (hm : Covers m 0x40000000A) (a0 : ℕ) :
    WithinOut m s (execTtdpHelloSend a0 t) := by
  unfold execTtdpHelloSend
  repeat' (first | exact hm.sub (by decide)
                 | (intro y; refine within_cut (m := m) (s := s) (y := y) ?_ ?_; rotate_left; (intro hy; clear_value y); rotate_right; subst y)
                 | (intro y; clear_value y) | lift_lets | with_reducible exact h | with_reducible assumption
                 | with_reducible apply withinOut_next | with_reducible apply withinOut_ite | with_reducible apply reach_within
                 | with_reducible apply emit_within | with_reducible apply modLine_within)

theorem execMvbLockExpiry_within {m : Nat} {s t : State} (h : Within m s t) (hm : Covers m 0x90011050A) (a0 : ℕ) :
    WithinOut m s (execMvbLockExpiry a0 t) := by
  unfold execMvbLockExpiry
  repeat' (first | exact hm.sub (by decide) | lift_lets | with_reducible exact h | with_reducible apply withinOut_next
                 | with_reducible apply loseSemaphore_within | with_reducible apply reach_within | split)

theorem execGateEvent_within {m : Nat} {s t : State} (h : Within m s t) (hm : Covers m 0x40000000A) (a0 : ℕ) :
    WithinOut m s (execGateEvent a0 t) := by
  unfold execGateEvent
  repeat' (first | exact hm.sub (by decide)
                 | (intro y; refine within_cut (m := m) (s := s) (y := y) ?_ ?_; rotate_left; (intro hy; clear_value y); rotate_right; subst y)
                 | (intro y; clear_value y) | lift_lets | with_reducible exact h | with_reducible assumption
                 | with_reducible apply withinOut_next | with_reducible apply reachLocal_within | with_reducible apply startNext_within
                 | with_reducible apply modPort_within | split)

theorem execMvbBasicPeriod_within {m : Nat} {s t : State} (h : Within m s t) (hm : Covers m 0x90011050A) (a0 : ℕ) :
    WithinOut m s (execMvbBasicPeriod a0 t) := by
  unfold execMvbBasicPeriod
  repeat' (first | exact hm.sub (by decide)
                 | (intro y; refine within_cut (m := m) (s := s) (y := y) ?_ ?_; rotate_left; (intro hy; clear_value y); rotate_right; subst y)
                 | (intro y; clear_value y) | intro _ | lift_lets | with_reducible exact h | with_reducible assumption
                 | with_reducible apply within_ite | with_reducible apply withinOut_next | with_reducible apply withinOut_ite
                 | with_reducible apply within_foldl | with_reducible apply countMissed_within | with_reducible apply reach_within
                 | with_reducible apply modBus_within | with_reducible apply sendPoll_within | with_reducible apply markPolled_within
                 | with_reducible apply eventPhase_within)

theorem execInaugurationComplete_within {m : Nat} {s t : State} (h : Within m s t) (hm : Covers m 0x400000080) (a0 : Directory) :
    WithinOut m s (execInaugurationComplete a0 t) := by
  unfold execInaugurationComplete
  repeat' (first | exact hm.sub (by decide)
                 | (intro y; refine within_cut (m := m) (s := s) (y := y) ?_ ?_; rotate_left; (intro hy; clear_value y); rotate_right; subst y)
                 | lift_lets | with_reducible exact h | with_reducible assumption | with_reducible apply withinOut_next
                 | with_reducible apply withinOut_ite | with_reducible apply modNet_within | with_reducible apply recordReel_within)

theorem execFrerResetTimeout_within {m : Nat} {s t : State} (h : Within m s t) (hm : Covers m 0x400000002) (a0 : ℕ) :
    WithinOut m s (execFrerResetTimeout a0 t) := by
  unfold execFrerResetTimeout
  repeat' (first | exact hm.sub (by decide) | lift_lets | with_reducible exact h | with_reducible apply withinOut_next
                 | with_reducible apply withinOut_ite | with_reducible apply modNet_within | with_reducible apply reach_within | split)

theorem execChannelStale_within {m : Nat} {s t : State} (h : Within m s t) (hm : Covers m 0x18010000A) (a0 : ℕ) :
    WithinOut m s (execChannelStale a0 t) := by
  unfold execChannelStale
  repeat' (first | exact hm.sub (by decide)
                 | (intro y; refine within_cut (m := m) (s := s) (y := y) ?_ ?_; rotate_left; (intro hy; clear_value y); rotate_right; subst y)
                 | (intro y; clear_value y) | lift_lets | with_reducible exact h | with_reducible assumption
                 | with_reducible apply withinOut_next | with_reducible apply withinOut_ite | with_reducible apply reach_within
                 | with_reducible apply modChan_within | with_reducible apply endDissolve_within | with_reducible apply deliverHeld_within)

end Sys2Proof.Machine
end

