-- ==== Sys2Proof/Laws/WithinProgram.lean ====
section
/-! SUPPORT. Which parts of the state an operation can change (Sys2Proof/Laws/Within.lean):
KPC instructions, takes, retentive memory, Lock-out, trust, the program and the lanes. -/

namespace Sys2Proof.Machine

theorem answerReshoot_within {m : Nat} {s t : State} (h : Within m s t) (hm : Covers m 0x100310508) (a0 : Lane) (a1 : ℕ) :
    Within m s (answerReshoot a0 a1 t) := by
  unfold answerReshoot
  repeat' (first | exact hm.sub (by decide)
                 | (intro y; refine within_cut (m := m) (s := s) (y := y) ?_ ?_; rotate_left; (intro hy; clear_value y); rotate_right; subst y)
                 | (intro y; clear_value y) | intro _ | lift_lets | with_reducible exact h | with_reducible assumption
                 | with_reducible apply within_foldl | with_reducible apply modVoter_within | with_reducible apply completeEntry_within)

theorem endReshoots_within {m : Nat} {s t : State} (h : Within m s t) (hm : Covers m 0x100310508) : Within m s (endReshoots t) := by
  unfold endReshoots
  repeat' (first | exact hm.sub (by decide) | intro _ | lift_lets | with_reducible exact h | with_reducible assumption
                 | with_reducible apply within_ite | with_reducible apply within_foldl | with_reducible apply answerReshoot_within
                 | with_reducible apply modLane_within)

theorem stopLanes_within {m : Nat} {s t : State} (h : Within m s t) (hm : Covers m 0x100310508) : Within m s (stopLanes t) := by
  unfold stopLanes
  repeat' (first | exact hm.sub (by decide) | lift_lets | with_reducible exact h | with_reducible apply modVoter_within
                 | with_reducible apply endReshoots_within)

theorem endVarReads_within {m : Nat} {s t : State} (h : Within m s t) (hm : Covers m 0x100510508) : Within m s (endVarReads t) := by
  unfold endVarReads
  repeat' (first | exact hm.sub (by decide) | with_reducible exact Or.inr rfl | with_reducible exact Or.inr ⟨rfl, rfl⟩ | intro _ | lift_lets
                 | with_reducible exact h | with_reducible assumption | with_reducible apply within_foldl
                 | with_reducible apply completeEntry_within | with_reducible apply modProg_within)

theorem finishStop_within {m : Nat} {s t : State} (h : Within m s t) (hm : Covers m 0x100710508) : Within m s (finishStop t) := by
  unfold finishStop
  repeat' (first | exact hm.sub (by decide) | with_reducible exact Or.inr rfl | with_reducible exact Or.inr ⟨rfl, rfl⟩
                 | (intro y; refine within_cut (m := m) (s := s) (y := y) ?_ ?_; rotate_left; (intro hy; clear_value y); rotate_right; subst y)
                 | (intro y; clear_value y) | lift_lets | with_reducible exact h | with_reducible assumption
                 | with_reducible apply stopLanes_within | with_reducible apply endVarReads_within | with_reducible apply modProg_within
                 | with_reducible apply completeEntry_within | split)

theorem modReshoot_within {m : Nat} {s t : State} (h : Within m s t) (hm : Covers m 0x200000) (a0 : Lane) (a1 : ℕ) (a2 : ReshootTask → ReshootTask) :
    Within m s (modReshoot a0 a1 a2 t) := by
  unfold modReshoot
  repeat' (first | exact hm.sub (by decide) | lift_lets | with_reducible exact h | with_reducible apply modLane_within)

theorem passProbation_within {m : Nat} {s t : State} (h : Within m s t) (hm : Covers m 0x200000) (a0 : Lane) (a1 : ℕ) :
    Within m s (passProbation a0 a1 t) := by
  unfold passProbation
  repeat' (first | exact hm.sub (by decide) | lift_lets | with_reducible exact h | with_reducible apply modReshoot_within)

theorem recordLane_within {m : Nat} {s t : State} (h : Within m s t) (hm : Covers m 0x80) (a0 : ℕ) (a1 : Bytes) :
    Within m s (recordLane a0 a1 t) := by
  unfold recordLane
  repeat' (first | exact hm.sub (by decide) | lift_lets | with_reducible exact h | with_reducible apply record_within)

theorem failReshoot_within {m : Nat} {s t : State} (h : Within m s t) (hm : Covers m 0x100310588) (a0 : Lane) : Within m s (failReshoot a0 t) := by
  unfold failReshoot
  repeat' (first | exact hm.sub (by decide)
                 | (intro y; refine within_cut (m := m) (s := s) (y := y) ?_ ?_; rotate_left; (intro hy; clear_value y); rotate_right; subst y)
                 | (intro y; clear_value y) | lift_lets | with_reducible exact h | with_reducible assumption
                 | with_reducible apply modLane_within | with_reducible apply answerReshoot_within | with_reducible apply recordLane_within)

theorem modHealth_within {m : Nat} {s t : State} (h : Within m s t) (hm : Covers m 0x200000) (a0 : Lane) (a1 : LaneHealth → LaneHealth) :
    Within m s (modHealth a0 a1 t) := by
  unfold modHealth
  repeat' (first | exact hm.sub (by decide) | lift_lets | with_reducible exact h | with_reducible apply modLane_within)

theorem raiseFloor_within {m : Nat} {s t : State} (h : Within m s t) (hm : Covers m 0x4100) (a0 : ℕ) (a1 : Bytes) (a2 : ℕ) :
    Within m s (raiseFloor a0 a1 a2 t) := by
  unfold raiseFloor
  repeat' (first | exact hm.sub (by decide) | exact Or.inl (hm.sub (by decide)) | with_reducible exact Or.inr rfl | lift_lets
                 | with_reducible exact h | with_reducible apply modTrust_within)

theorem logEntry_within {m : Nat} {s t : State} (h : Within m s t) (hm : Covers m 0x48000080) (a0 : ℕ) (a1 : ℕ) : Within m s (logEntry a0 a1 t) := by
  unfold logEntry
  repeat' (first | exact hm.sub (by decide) | (intro y; clear_value y) | lift_lets | with_reducible exact h | with_reducible apply changeLog_within)

theorem furtherCause_within {m : Nat} {s t : State} (h : Within m s t) (hm : Covers m 0x128110588) (a0 : ℕ) (a1 : ℕ) :
    Within m s (furtherCause a0 a1 t) := by
  unfold furtherCause
  repeat' (first | exact hm.sub (by decide) | exact Or.inl (hm.sub (by decide)) | with_reducible exact Or.inr rfl
                 | with_reducible exact Or.inr ⟨rfl, rfl⟩
                 | (intro y; refine within_cut (m := m) (s := s) (y := y) ?_ ?_; rotate_left; (intro hy; clear_value y); rotate_right; subst y)
                 | lift_lets | with_reducible exact h | with_reducible assumption | with_reducible apply writeFlag_within
                 | with_reducible apply record_within | with_reducible apply completeEntry_within | with_reducible apply modSafety_within | split)

theorem logLockout_within {m : Nat} {s t : State} (h : Within m s t) (hm : Covers m 0x68000080) (a0 : ℕ) (a1 : ℕ) (a2 : ℕ) (a3 : ℕ) (a4 : ℕ)
    (a5 : ℕ) :
    Within m s (logLockout a0 a1 a2 a3 a4 a5 t) := by
  unfold logLockout
  repeat' (first | exact hm.sub (by decide) | lift_lets | with_reducible exact h | with_reducible apply logEntry_within
                 | with_reducible apply writeFlag_within)

theorem epochStep_within {m : Nat} {s t : State} (h : Within m s t) (hm : Covers m 0x886370588) (a0 : Bool) : Within m s (epochStep a0 t) := by
  unfold epochStep
  repeat' (first | exact hm.sub (by decide) | lift_lets | with_reducible exact h | with_reducible apply within_ite
                 | with_reducible apply epochAtBoundary_within | with_reducible apply epochIncrement_within)

theorem abandonTake_within {m : Nat} {s t : State} (h : Within m s t) (hm : Covers m 0x200000) (a0 : Lane) (a1 : LaneTake) :
    Within m s (abandonTake a0 a1 t) := by
  unfold abandonTake
  repeat' (first | exact hm.sub (by decide) | lift_lets | with_reducible exact h | with_reducible apply modLane_within | split)

theorem abandonAll_within {m : Nat} {s t : State} (h : Within m s t) (hm : Covers m 0x200000) : Within m s (abandonAll t) := by
  unfold abandonAll
  repeat' (first | exact hm.sub (by decide) | intro _ | lift_lets | with_reducible exact h | with_reducible assumption
                 | with_reducible apply within_foldl | with_reducible apply abandonTake_within)

theorem openCommit_within {m : Nat} {s t : State} (h : Within m s t) (hm : Covers m 0x400000) (a0 : ℕ) : Within m s (openCommit a0 t) := by
  unfold openCommit
  repeat' (first | exact hm.sub (by decide) | exact Or.inr (by show (setBank _ _ _).forces = _; unfold setBank; split <;> rfl)
                 | exact Or.inr (by show (setBank _ _ _).slot0 = _ ∧ (setBank _ _ _).slot1 = _; unfold setBank; split <;> exact ⟨rfl, rfl⟩)
                 | (intro y; clear_value y) | lift_lets | with_reducible exact h | with_reducible apply modProg_within | split)

theorem beginCommit_within {m : Nat} {s t : State} (h : Within m s t) (hm : Covers m 0x400000) (a0 : ℕ) : Within m s (beginCommit a0 t) := by
  unfold beginCommit
  repeat' (first | exact hm.sub (by decide) | with_reducible exact Or.inr rfl | with_reducible exact Or.inr ⟨rfl, rfl⟩ | lift_lets
                 | with_reducible exact h | with_reducible apply within_ite | with_reducible apply openCommit_within
                 | with_reducible apply modProg_within | split)

theorem stopPublication_within {m : Nat} {s t : State} (h : Within m s t) (hm : Covers m 0x400000000) (a0 : ℕ) :
    Within m s (stopPublication a0 t) := by
  unfold stopPublication
  repeat' (first | exact hm.sub (by decide) | lift_lets | with_reducible exact h | with_reducible apply modFlow_within)

theorem commandOff_within {m : Nat} {s t : State} (h : Within m s t) (hm : Covers m 0x8000000) (a0 : ℕ) : Within m s (commandOff a0 t) := by
  unfold commandOff
  repeat' (first | exact hm.sub (by decide) | lift_lets | with_reducible exact h | with_reducible apply modOutput_within)

theorem stopSource_within {m : Nat} {s t : State} (h : Within m s t) (hm : Covers m 0x800000000) (a0 : ℕ) : Within m s (stopSource a0 t) := by
  unfold stopSource
  repeat' (first | exact hm.sub (by decide) | lift_lets | with_reducible exact h | with_reducible apply modMvbPort_within)

theorem endBinding_within {m : Nat} {s t : State} (h : Within m s t) (hm : Covers m 0xC08000000) (a0 : OutputBinding) :
    Within m s (endBinding a0 t) := by
  unfold endBinding
  repeat' (first | exact hm.sub (by decide) | lift_lets | with_reducible exact h | with_reducible apply stopPublication_within
                 | with_reducible apply commandOff_within | with_reducible apply stopSource_within | split)

theorem endBindings_within {m : Nat} {s t : State} (h : Within m s t) (hm : Covers m 0xC08000000) (a0 : ℕ) : Within m s (endBindings a0 t) := by
  unfold endBindings
  repeat' (first | exact hm.sub (by decide) | intro _ | lift_lets | with_reducible exact h | with_reducible assumption
                 | with_reducible apply within_foldl | with_reducible apply endBinding_within | split)

theorem stopSteps_within {m : Nat} {s t : State} (h : Within m s t) (hm : Covers m 0xC0C400000) : Within m s (stopSteps t) := by
  unfold stopSteps
  repeat' (first | exact hm.sub (by decide) | lift_lets | with_reducible exact h | with_reducible apply beginCommit_within
                 | with_reducible apply endCues_within | with_reducible apply endBindings_within)

theorem endActivations_within {m : Nat} {s t : State} (h : Within m s t) (hm : Covers m 0x2400000) : Within m s (endActivations t) := by
  unfold endActivations
  repeat' (first | exact hm.sub (by decide) | with_reducible exact Or.inr rfl | with_reducible exact Or.inr ⟨rfl, rfl⟩ | lift_lets
                 | with_reducible exact h | with_reducible apply modAct_within | with_reducible apply modProg_within)

theorem stopAtOnce_within {m : Nat} {s t : State} (h : Within m s t) (hm : Covers m 0xD0E710508) : Within m s (stopAtOnce t) := by
  unfold stopAtOnce
  repeat' (first | exact hm.sub (by decide) | with_reducible exact Or.inr rfl | with_reducible exact Or.inr ⟨rfl, rfl⟩
                 | (intro y; refine within_cut (m := m) (s := s) (y := y) ?_ ?_; rotate_left; (intro hy; clear_value y); rotate_right; subst y)
                 | (intro y; clear_value y) | lift_lets | with_reducible exact h | with_reducible assumption | with_reducible apply within_ite
                 | with_reducible apply abandonAll_within | with_reducible apply stopSteps_within | with_reducible apply endActivations_within
                 | with_reducible apply stopLanes_within | with_reducible apply endVarReads_within | with_reducible apply modProg_within
                 | with_reducible apply completeEntry_within | split)

theorem traceTrigger_within {m : Nat} {s t : State} (h : Within m s t) (hm : Covers m 0x200000) : Within m s (traceTrigger t) := by
  unfold traceTrigger
  repeat' (first | exact hm.sub (by decide) | lift_lets | with_reducible exact h | with_reducible apply modVoter_within)

theorem forwardForces_within {m : Nat} {s t : State} (h : Within m s t) (hm : Covers m 0x100100008) : Within m s (forwardForces t) := by
  unfold forwardForces
  repeat' (first | exact hm.sub (by decide) | lift_lets | with_reducible exact h | with_reducible apply within_ite
                 | with_reducible apply slipstream_within)

theorem recordForce_within {m : Nat} {s t : State} (h : Within m s t) (hm : Covers m 0x80) (a0 : ℕ) (a1 : Force) (a2 : Bytes) (a3 : Bytes) :
    Within m s (recordForce a0 a1 a2 a3 t) := by
  unfold recordForce
  repeat' (first | exact hm.sub (by decide)
                 | (intro y; refine within_cut (m := m) (s := s) (y := y) ?_ ?_; rotate_left; (intro hy; clear_value y); rotate_right; subst y)
                 | (intro y; clear_value y) | lift_lets | with_reducible exact h | with_reducible assumption | with_reducible apply within_ite
                 | with_reducible apply record_within)

theorem dropForces_within {m : Nat} {s t : State} (h : Within m s t) (hm : Covers m 0xC00080) (a0 : Force → Bool) : Within m s (dropForces a0 t) := by
  unfold dropForces
  repeat' (first | exact hm.sub (by decide) | exact Or.inl (hm.sub (by decide)) | with_reducible exact Or.inr ⟨rfl, rfl⟩ | intro _ | lift_lets
                 | with_reducible exact h | with_reducible assumption | with_reducible apply within_foldl
                 | with_reducible apply recordForce_within | with_reducible apply modProg_within)

theorem dropAndForward_within {m : Nat} {s t : State} (h : Within m s t) (hm : Covers m 0x100D00088) (a0 : Force → Bool) :
    Within m s (dropAndForward a0 t) := by
  unfold dropAndForward
  repeat' (first | exact hm.sub (by decide) | lift_lets | with_reducible exact h | with_reducible apply within_ite
                 | with_reducible apply forwardForces_within | with_reducible apply dropForces_within)

theorem sendStatus_within {m : Nat} {s t : State} (h : Within m s t) (hm : Covers m 0x100100008) : Within m s (sendStatus t) := by
  unfold sendStatus
  repeat' (first | exact hm.sub (by decide) | lift_lets | with_reducible exact h | with_reducible apply slipstream_within)

theorem setReason_within {m : Nat} {s t : State} (h : Within m s t) (hm : Covers m 0x108100008) (a0 : ℕ) (a1 : Bool) :
    Within m s (setReason a0 a1 t) := by
  unfold setReason
  repeat' (first | exact hm.sub (by decide) | with_reducible exact Or.inr rfl
                 | (intro y; refine within_cut (m := m) (s := s) (y := y) ?_ ?_; rotate_left; (intro hy; clear_value y); rotate_right; subst y)
                 | (intro y; clear_value y) | lift_lets | with_reducible exact h | with_reducible assumption | with_reducible apply within_ite
                 | with_reducible apply modPair_within | with_reducible apply allOutputsOff_within | with_reducible apply sendStatus_within)

theorem pairAtLockout_within {m : Nat} {s t : State} (h : Within m s t) (hm : Covers m 0x108100008) : Within m s (pairAtLockout t) := by
  unfold pairAtLockout
  repeat' (first | exact hm.sub (by decide) | with_reducible exact Or.inr rfl
                 | (intro y; refine within_cut (m := m) (s := s) (y := y) ?_ ?_; rotate_left; (intro hy; clear_value y); rotate_right; subst y)
                 | lift_lets | with_reducible exact h | with_reducible assumption | with_reducible apply within_ite
                 | with_reducible apply slipstream_within | with_reducible apply setReason_within | with_reducible apply modPair_within)

theorem startHeartbeat_within {m : Nat} {s t : State} (h : Within m s t) (hm : Covers m 0x400000000) : Within m s (startHeartbeat t) := by
  unfold startHeartbeat
  repeat' (first | exact hm.sub (by decide) | lift_lets | with_reducible exact h | with_reducible apply within_ite
                 | with_reducible apply modNet_within)

theorem lockOut_within {m : Nat} {s t : State} (h : Within m s t) (hm : Covers m 0xDEEF707B8) (a0 : Bool) (a1 : ℕ) (a2 : ℕ) (a3 : ℕ) (a4 : ℕ)
    (a5 : ℕ) :
    Within m s (lockOut a0 a1 a2 a3 a4 a5 t) := by
  unfold lockOut
  repeat' (first | exact hm.sub (by decide) | exact Or.inl (hm.sub (by decide)) | with_reducible exact Or.inr rfl
                 | (intro y; refine within_cut (m := m) (s := s) (y := y) ?_ ?_; rotate_left; (intro hy; clear_value y); rotate_right; subst y)
                 | (intro y; clear_value y) | lift_lets | with_reducible exact h | with_reducible assumption | with_reducible apply within_ite
                 | with_reducible apply logEntry_within | with_reducible apply furtherCause_within | with_reducible apply logLockout_within
                 | with_reducible apply testOff_within | with_reducible apply allOutputsOff_within | with_reducible apply epochStep_within
                 | with_reducible apply freeUnvoted_within | with_reducible apply stopAtOnce_within | with_reducible apply traceTrigger_within
                 | with_reducible apply closeWindows_within | with_reducible apply dropAndForward_within | with_reducible apply modSafety_within
                 | with_reducible apply pairAtLockout_within | with_reducible apply startHeartbeat_within | with_reducible apply modModule_within
                 | split)

theorem countTwoLane_within {m : Nat} {s t : State} (h : Within m s t) (hm : Covers m 0x200000) : Within m s (countTwoLane t) := by
  unfold countTwoLane
  repeat' (first | exact hm.sub (by decide) | (intro (y : _ → _); subst y; try beta_reduce) | (intro y; clear_value y) | lift_lets
                 | with_reducible exact h | with_reducible apply modVoter_within)

theorem closeTwoLane_within {m : Nat} {s t : State} (h : Within m s t) (hm : Covers m 0x200000) : Within m s (closeTwoLane t) := by
  unfold closeTwoLane
  repeat' (first | exact hm.sub (by decide) | lift_lets | with_reducible exact h | with_reducible apply within_ite
                 | with_reducible apply countTwoLane_within)

theorem useEntries_within {m : Nat} {s t : State} (h : Within m s t) (hm : Covers m 0x400000) (a0 : Bytes) : Within m s (useEntries a0 t) := by
  unfold useEntries
  repeat' (first | exact hm.sub (by decide) | with_reducible exact Or.inr rfl | with_reducible exact Or.inr ⟨rfl, rfl⟩ | lift_lets
                 | with_reducible exact h | with_reducible apply modProg_within)

theorem warmShadow_within {m : Nat} {s t : State} (h : Within m s t) (hm : Covers m 0x50000) : Within m s (warmShadow t) := by
  unfold warmShadow
  repeat' (first | exact hm.sub (by decide) | exact Or.inl (hm.sub (by decide)) | with_reducible exact Or.inr rfl
                 | with_reducible exact Or.inr ⟨rfl, rfl⟩ | lift_lets | with_reducible exact h | with_reducible apply modMbx_within)

theorem modStarting_within {m : Nat} {s t : State} (h : Within m s t) (hm : Covers m 0x200000) (a0 : Lane → LaneSt → LaneSt) :
    Within m s (modStarting a0 t) := by
  unfold modStarting
  repeat' (first | exact hm.sub (by decide) | lift_lets | with_reducible exact h | with_reducible apply modVoter_within)

theorem coldMailbox_within {m : Nat} {s t : State} (h : Within m s t) (hm : Covers m 0x50000) : Within m s (coldMailbox t) := by
  unfold coldMailbox
  repeat' (first | exact hm.sub (by decide) | exact Or.inl (hm.sub (by decide)) | with_reducible exact Or.inr rfl
                 | with_reducible exact Or.inr ⟨rfl, rfl⟩ | lift_lets | with_reducible exact h | with_reducible apply modMbx_within)

theorem reportBanks_within {m : Nat} {s t : State} (h : Within m s t) (hm : Covers m 0x400080) : Within m s (reportBanks t) := by
  unfold reportBanks
  repeat' (first | exact hm.sub (by decide) | with_reducible exact Or.inr rfl | with_reducible exact Or.inr ⟨rfl, rfl⟩
                 | (intro y; refine within_cut (m := m) (s := s) (y := y) ?_ ?_; rotate_left; (intro hy; clear_value y); rotate_right; subst y)
                 | (intro y; clear_value y) | lift_lets | with_reducible exact h | with_reducible assumption | with_reducible apply within_ite
                 | with_reducible apply modProg_within | with_reducible apply record_within)

theorem restartLanes_within {m : Nat} {s t : State} (h : Within m s t) (hm : Covers m 0x650080) (a0 : Bool) (a1 : ℕ) (a2 : Image) :
    Within2 m s (restartLanes a0 a1 a2 t) := by
  unfold restartLanes
  repeat' (first | exact hm.sub (by decide) | (intro y; clear_value y) | lift_lets | with_reducible exact h | with_reducible apply within2_mk
                 | with_reducible apply warmShadow_within | with_reducible apply modStarting_within | with_reducible apply coldMailbox_within
                 | with_reducible apply reportBanks_within | split)

theorem restartLanes_wstate {m : Nat} {s t : State} (h : Within m s t) (hm : Covers m 0x650080) (a0 : Bool) (a1 : ℕ) (a2 : Image) :
    Within m s (restartLanes a0 a1 a2 t).2 :=
  (restartLanes_within h hm a0 a1 a2).out

theorem takeImages_within {m : Nat} {s t : State} (h : Within m s t) (hm : Covers m 0x100400000) (a0 : Image) : Within m s (takeImages a0 t) := by
  unfold takeImages
  repeat' (first | exact hm.sub (by decide) | with_reducible exact Or.inr rfl | with_reducible exact Or.inr ⟨rfl, rfl⟩ | (intro y; clear_value y)
                 | lift_lets | with_reducible exact h | with_reducible apply modPair_within | with_reducible apply modProg_within | split)

theorem settleLanes_within {m : Nat} {s t : State} (h : Within m s t) (hm : Covers m 0x200000) : Within m s (settleLanes t) := by
  unfold settleLanes
  repeat' (first | exact hm.sub (by decide) | lift_lets | with_reducible exact h | with_reducible apply modVoter_within)

theorem writeDirectory_within {m : Nat} {s t : State} (h : Within m s t) (hm : Covers m 0x400000) (a0 : ℕ) : Within m s (writeDirectory a0 t) := by
  unfold writeDirectory
  repeat' (first | exact hm.sub (by decide) | with_reducible exact Or.inr rfl | with_reducible exact Or.inr ⟨rfl, rfl⟩ | (intro y; clear_value y)
                 | lift_lets | with_reducible exact h | with_reducible apply modProg_within | split)

theorem recordProgram_within {m : Nat} {s t : State} (h : Within m s t) (hm : Covers m 0x80) (a0 : ℕ) (a1 : Bytes) :
    Within m s (recordProgram a0 a1 t) := by
  unfold recordProgram
  repeat' (first | exact hm.sub (by decide) | lift_lets | with_reducible exact h | with_reducible apply record_within)

theorem startProgram_within {m : Nat} {s t : State} (h : Within m s t) (hm : Covers m 0x986774588) (a0 : ℕ) (a1 : ℕ) (a2 : ℕ) :
    Within m s (startProgram a0 a1 a2 t) := by
  unfold startProgram
  repeat' (first | exact hm.sub (by decide) | with_reducible exact Or.inr rfl | with_reducible exact Or.inr ⟨rfl, rfl⟩
                 | (intro y; refine within_cut (m := m) (s := s) (y := y) ?_ ?_; rotate_left; (intro hy; clear_value y); rotate_right; subst y)
                 | (intro y; refine within2_cut (m := m) (s := s) (y := y) ?_ ?_; rotate_left; (intro hy; clear_value y); rotate_right; subst y)
                 | (intro y; clear_value y) | lift_lets | with_reducible exact h | with_reducible assumption | with_reducible apply within_ite
                 | with_reducible apply within2_mk | with_reducible apply modProg_within | with_reducible apply raiseFloor_within
                 | with_reducible apply epochIncrement_within | with_reducible apply closeTwoLane_within | with_reducible apply useEntries_within
                 | with_reducible apply modPair_within | with_reducible apply takeImages_within | with_reducible apply settleLanes_within
                 | with_reducible apply writeDirectory_within | with_reducible apply sourcesAtStart_within
                 | with_reducible apply cuesAtStart_within | with_reducible apply recordProgram_within | with_reducible apply slipstream_within
                 | with_reducible apply restartLanes_wstate | exact Within2.out (by assumption) | split)

theorem startAtBoot_within {m : Nat} {s t : State} (h : Within m s t) (hm : Covers m 0x986774588) : Within m s (startAtBoot t) := by
  unfold startAtBoot
  repeat' (first | exact hm.sub (by decide) | with_reducible exact Or.inr rfl | with_reducible exact Or.inr ⟨rfl, rfl⟩
                 | (intro y; refine within_cut (m := m) (s := s) (y := y) ?_ ?_; rotate_left; (intro hy; clear_value y); rotate_right; subst y)
                 | lift_lets | with_reducible exact h | with_reducible assumption | with_reducible apply within_ite
                 | with_reducible apply modProg_within | with_reducible apply startProgram_within)

theorem faultsGone_within {m : Nat} {s t : State} (h : Within m s t) (hm : Covers m 0x8000000) (a0 : ℕ × ℕ → Bool) :
    Within m s (faultsGone a0 t) := by
  unfold faultsGone
  repeat' (first | exact hm.sub (by decide) | with_reducible exact Or.inr rfl | with_reducible exact Or.inr ⟨rfl, rfl⟩ | lift_lets
                 | with_reducible exact h | with_reducible apply modSafety_within)

theorem forwardRecut_within {m : Nat} {s t : State} (h : Within m s t) (hm : Covers m 0x100100008) : Within m s (forwardRecut t) := by
  unfold forwardRecut
  repeat' (first | exact hm.sub (by decide) | (intro y; clear_value y) | lift_lets | with_reducible exact h | with_reducible apply within_ite
                 | with_reducible apply slipstream_within)

theorem postponeRecut_within {m : Nat} {s t : State} (h : Within m s t) (hm : Covers m 0x100500008) (a0 : Recut) (a1 : Image) :
    Within m s (postponeRecut a0 a1 t) := by
  unfold postponeRecut
  repeat' (first | exact hm.sub (by decide) | with_reducible exact Or.inr rfl | with_reducible exact Or.inr ⟨rfl, rfl⟩ | (intro y; clear_value y)
                 | lift_lets | with_reducible exact h | with_reducible apply forwardRecut_within | with_reducible apply modProg_within
                 | with_reducible apply releaseEvents_wstate)

theorem reportInitialised_within {m : Nat} {s t : State} (h : Within m s t) (hm : Covers m 0x80) (a0 : Image) (a1 : Image) :
    Within m s (reportInitialised a0 a1 t) := by
  unfold reportInitialised
  repeat' (first | exact hm.sub (by decide) | intro _ | lift_lets | with_reducible exact h | with_reducible assumption
                 | with_reducible apply within_ite | with_reducible apply within_foldl | with_reducible apply record_within
                 | with_reducible apply recordProgram_within)

theorem recutForces_within {m : Nat} {s t : State} (h : Within m s t) (hm : Covers m 0xC00080) (a0 : Image) (a1 : Image) :
    Within m s (recutForces a0 a1 t) := by
  unfold recutForces
  repeat' (first | exact hm.sub (by decide) | lift_lets | with_reducible exact h | with_reducible apply dropForces_within)

theorem reportForces_within {m : Nat} {s t : State} (h : Within m s t) (hm : Covers m 0x80) (a0 : Image) (a1 : Image) :
    Within m s (reportForces a0 a1 t) := by
  unfold reportForces
  repeat' (first | exact hm.sub (by decide) | intro _ | lift_lets | with_reducible exact h | with_reducible assumption
                 | with_reducible apply within_foldl | with_reducible apply record_within)

theorem recutReads_within {m : Nat} {s t : State} (h : Within m s t) (hm : Covers m 0x100510508) (a0 : Image) : Within m s (recutReads a0 t) := by
  unfold recutReads
  repeat' (first | exact hm.sub (by decide) | with_reducible exact Or.inr rfl | with_reducible exact Or.inr ⟨rfl, rfl⟩ | (intro y; clear_value y)
                 | intro _ | lift_lets | with_reducible exact h | with_reducible assumption | with_reducible apply within_foldl
                 | with_reducible apply completeEntry_within | with_reducible apply modProg_within)

theorem recutChannels_within {m : Nat} {s t : State} (h : Within m s t) (hm : Covers m 0x10080) (a0 : Image) (a1 : Image) :
    Within m s (recutChannels a0 a1 t) := by
  unfold recutChannels
  repeat' (first | exact hm.sub (by decide) | with_reducible exact Or.inr rfl | with_reducible exact Or.inr ⟨rfl, rfl⟩
                 | (intro (y : _ → _); subst y; try beta_reduce) | (intro y; clear_value y) | intro _ | lift_lets | with_reducible exact h
                 | with_reducible assumption | with_reducible apply within_foldl | with_reducible apply recordProgram_within
                 | with_reducible apply modMbx_within)

theorem recutSources_within {m : Nat} {s t : State} (h : Within m s t) (hm : Covers m 0x2000000) (a0 : Image) (a1 : Image) :
    Within m s (recutSources a0 a1 t) := by
  unfold recutSources
  repeat' (first | exact hm.sub (by decide) | (intro (y : _ → _); subst y; try beta_reduce) | lift_lets | with_reducible exact h
                 | with_reducible apply modAct_within)

theorem recutCues_within {m : Nat} {s t : State} (h : Within m s t) (hm : Covers m 0x4000000) (a0 : Image) (a1 : Image) :
    Within m s (recutCues a0 a1 t) := by
  unfold recutCues
  repeat' (first | exact hm.sub (by decide) | (intro (y : _ → _); subst y; try beta_reduce) | (intro y; clear_value y) | lift_lets
                 | with_reducible exact h | with_reducible apply modPos_within)

theorem endUnbound_within {m : Nat} {s t : State} (h : Within m s t) (hm : Covers m 0xC08000000) (a0 : Image) (a1 : Image) :
    Within m s (endUnbound a0 a1 t) := by
  unfold endUnbound
  repeat' (first | exact hm.sub (by decide) | intro _ | lift_lets | with_reducible exact h | with_reducible assumption
                 | with_reducible apply within_foldl | with_reducible apply endBinding_within)

theorem switchImages_within {m : Nat} {s t : State} (h : Within m s t) (hm : Covers m 0xD0EF14588) (a0 : Recut) (a1 : Image) (a2 : Image) :
    Within m s (switchImages a0 a1 a2 t) := by
  unfold switchImages
  repeat' (first | exact hm.sub (by decide) | exact Or.inl (hm.sub (by decide)) | with_reducible exact Or.inr rfl
                 | with_reducible exact Or.inr ⟨rfl, rfl⟩
                 | (intro y; refine within_cut (m := m) (s := s) (y := y) ?_ ?_; rotate_left; (intro hy; clear_value y); rotate_right; subst y)
                 | (intro (y : _ → _); subst y; try beta_reduce) | (intro y; clear_value y) | lift_lets | with_reducible exact h
                 | with_reducible assumption | with_reducible apply reportInitialised_within | with_reducible apply recutForces_within
                 | with_reducible apply reportForces_within | with_reducible apply recutReads_within | with_reducible apply recutChannels_within
                 | with_reducible apply recutSources_within | with_reducible apply recutCues_within | with_reducible apply endUnbound_within
                 | with_reducible apply modVoter_within | with_reducible apply modProg_within | with_reducible apply modPair_within
                 | with_reducible apply takeImages_within | with_reducible apply raiseFloor_within | with_reducible apply useEntries_within
                 | with_reducible apply recordProgram_within | with_reducible apply releaseEvents_wstate)

theorem endStandbyReshoots_within {m : Nat} {s t : State} (h : Within m s t) (hm : Covers m 0x100310588) : Within m s (endStandbyReshoots t) := by
  unfold endStandbyReshoots
  repeat' (first | exact hm.sub (by decide) | intro _ | lift_lets | with_reducible exact h | with_reducible assumption
                 | with_reducible apply within_ite | with_reducible apply within_foldl | with_reducible apply failReshoot_within)

theorem execRecutSwitch_within {m : Nat} {s t : State} (h : Within m s t) (hm : Covers m 0xD0EF1458A) : WithinOut m s (execRecutSwitch t) := by
  unfold execRecutSwitch
  repeat' (first | exact hm.sub (by decide) | with_reducible exact h | with_reducible apply withinOut_next | with_reducible apply withinOut_ite
                 | with_reducible apply reach_within | with_reducible apply postponeRecut_within | with_reducible apply switchImages_within
                 | with_reducible apply endStandbyReshoots_within | split)

theorem cmdForceList_within {m : Nat} : WithinC m cmdForceList := by
  refine ⟨fun e s t h => ?_⟩
  unfold cmdForceList
  repeat' (first | (intro y; clear_value y) | intro _ | lift_lets | with_reducible exact h | with_reducible assumption
                 | with_reducible apply within1_mk | with_reducible apply sized_wstate | with_reducible apply answers_wstate)

theorem cmdLaneHealth_within {m : Nat} : WithinC m cmdLaneHealth := by
  refine ⟨fun e s t h => ?_⟩
  unfold cmdLaneHealth
  repeat' (first | intro _ | lift_lets | with_reducible exact h | with_reducible assumption | with_reducible apply within1_mk
                 | with_reducible apply sized_wstate | with_reducible apply answers_wstate | with_reducible apply fails_wstate | split)

theorem cmdProgramStatus_within {m : Nat} : WithinC m cmdProgramStatus := by
  refine ⟨fun e s t h => ?_⟩
  unfold cmdProgramStatus
  repeat' (first | (intro (y : _ → _); subst y; try beta_reduce) | (intro y; clear_value y) | intro _ | lift_lets | with_reducible exact h
                 | with_reducible assumption | with_reducible apply within1_mk | with_reducible apply sized_wstate
                 | with_reducible apply answers_wstate)

theorem cmdRecutCancel_within {m : Nat} (hm : Covers m 0x100500008) : WithinC m cmdRecutCancel := by
  refine ⟨fun e s t h => ?_⟩
  unfold cmdRecutCancel
  repeat' (first | exact hm.sub (by decide) | with_reducible exact Or.inr rfl | with_reducible exact Or.inr ⟨rfl, rfl⟩ | intro _ | lift_lets
                 | with_reducible exact h | with_reducible assumption | with_reducible apply within1_mk
                 | with_reducible apply forwardRecut_within | with_reducible apply modProg_within | with_reducible apply sized_wstate
                 | with_reducible apply fails_wstate | with_reducible apply answers_wstate | split)

theorem cmdStaggerSet_within {m : Nat} (hm : Covers m 0x100300008) : WithinC m cmdStaggerSet := by
  refine ⟨fun e s t h => ?_⟩
  unfold cmdStaggerSet
  repeat' (first | exact hm.sub (by decide) | intro _ | lift_lets | with_reducible exact h | with_reducible assumption
                 | with_reducible apply within1_mk | with_reducible apply forwardSettings_within | with_reducible apply modVoter_within
                 | with_reducible apply sized_wstate | with_reducible apply fails_wstate | with_reducible apply answers_wstate | split)

theorem installAnchor_within {m : Nat} {s t : State} (h : Within m s t) (hm : Covers m 0x4900) (a0 : Bytes) (a1 : List Bytes) :
    Within m s (installAnchor a0 a1 t) := by
  unfold installAnchor
  repeat' (first | exact hm.sub (by decide) | exact Or.inl (hm.sub (by decide)) | with_reducible exact Or.inr rfl
                 | (intro y; refine within_cut (m := m) (s := s) (y := y) ?_ ?_; rotate_left; (intro hy; clear_value y); rotate_right; subst y)
                 | intro _ | lift_lets | with_reducible exact h | with_reducible assumption | with_reducible apply within_foldl
                 | with_reducible apply modTrust_within | with_reducible apply raiseFloor_within)

theorem thenAfter_within {m : Nat} {s t : State} (h : Within m s t) (hm : Covers m 0x100110508) (a0 : Entry) (a1 : Bytes) (a2 : State → State)
    (g2 : ∀ u, Within m s u → Within m s (a2 u)) :
    Within1 m s (thenAfter a0 a1 a2 t) := by
  unfold thenAfter
  repeat' (first | exact hm.sub (by decide) | lift_lets | with_reducible exact h | with_reducible apply within1_mk | with_reducible apply g2
                 | with_reducible apply finish_within)

theorem thenAfter_wstate {m : Nat} {s t : State} (h : Within m s t) (hm : Covers m 0x100110508) (a0 : Entry) (a1 : Bytes) (a2 : State → State)
    (g2 : ∀ u, Within m s u → Within m s (a2 u)) :
    Within m s (thenAfter a0 a1 a2 t).1 :=
  (thenAfter_within h hm a0 a1 a2 g2).out

theorem dueRestart_within {m : Nat} {s t : State} (h : Within m s t) (hm : Covers m 0x10) : Within m s (dueRestart t) := by
  unfold dueRestart
  repeat' (first | exact hm.sub (by decide) | with_reducible exact Or.inr rfl | lift_lets | with_reducible exact h
                 | with_reducible apply modModule_within)

theorem endOwn_within {m : Nat} {s t : State} (h : Within m s t) (hm : Covers m 0x500110788) (a0 : Entry) : Within m s (endOwn a0 t) := by
  unfold endOwn
  repeat' (first | exact hm.sub (by decide) | lift_lets | with_reducible exact h | with_reducible apply endAfter_within)

theorem recordCredential_within {m : Nat} {s t : State} (h : Within m s t) (hm : Covers m 0x80) (a0 : ℕ) (a1 : ℕ) (a2 : ℕ) (a3 : Bytes) (a4 : Entry) :
    Within m s (recordCredential a0 a1 a2 a3 a4 t) := by
  unfold recordCredential
  repeat' (first | exact hm.sub (by decide) | lift_lets | with_reducible exact h | with_reducible apply record_within)

theorem cmdEnrolInstall_within {m : Nat} (hm : Covers m 0x500116F9C) : WithinC m cmdEnrolInstall := by
  refine ⟨fun e s t h => ?_⟩
  unfold cmdEnrolInstall
  repeat' (first | exact hm.sub (by decide) | exact Or.inl (hm.sub (by decide)) | with_reducible exact Or.inr rfl
                 | (intro y; refine within_cut (m := m) (s := s) (y := y) ?_ ?_; rotate_left; (intro hy; clear_value y); rotate_right; subst y)
                 | (intro y; clear_value y) | intro _ | with_reducible exact h | with_reducible assumption | with_reducible apply within1_ite
                 | with_reducible apply fails_within | with_reducible apply modTrust_within | with_reducible apply afterDraw_within
                 | with_reducible apply installAnchor_within | with_reducible apply dueRestart_within | with_reducible apply endOwn_within
                 | with_reducible apply recordCredential_within | with_reducible apply fails_wstate | with_reducible apply thenAfter_wstate
                 | with_reducible apply within1_mk | split | lift_lets)

theorem endCredentialSessions_within {m : Nat} {s t : State} (h : Within m s t) (hm : Covers m 0x500110788) (a0 : ℕ) (a1 : Option ℕ) :
    Within m s (endCredentialSessions a0 a1 t) := by
  unfold endCredentialSessions
  repeat' (first | exact hm.sub (by decide) | intro _ | lift_lets | with_reducible exact h | with_reducible assumption
                 | with_reducible apply within_foldl | with_reducible apply endSession_within)

theorem cmdCredentialRemove_within {m : Nat} (hm : Covers m 0x500112788) : WithinC m cmdCredentialRemove := by
  refine ⟨fun e s t h => ?_⟩
  unfold cmdCredentialRemove
  repeat' (first | exact hm.sub (by decide) | exact Or.inl (hm.sub (by decide)) | with_reducible exact Or.inr rfl | intro _
                 | with_reducible exact h | with_reducible assumption | with_reducible apply within_ite | with_reducible apply sized_within
                 | with_reducible apply modTrust_within | with_reducible apply endCredentialSessions_within | with_reducible apply endOwn_within
                 | with_reducible apply recordCredential_within | with_reducible apply fails_wstate | with_reducible apply thenAfter_wstate
                 | with_reducible apply within1_mk | split)

theorem cmdIdentityRead_within {m : Nat} : WithinC m cmdIdentityRead := by
  refine ⟨fun e s t h => ?_⟩
  unfold cmdIdentityRead
  repeat' (first | (intro y; clear_value y) | intro _ | lift_lets | with_reducible exact h | with_reducible assumption
                 | with_reducible apply within1_mk | with_reducible apply sized_wstate | with_reducible apply answers_wstate)

theorem cmdLaneStatus_within {m : Nat} : WithinC m cmdLaneStatus := by
  refine ⟨fun e s t h => ?_⟩
  unfold cmdLaneStatus
  repeat' (first | (intro (y : _ → _); subst y; try beta_reduce) | (intro y; clear_value y) | intro _ | lift_lets | with_reducible exact h
                 | with_reducible assumption | with_reducible apply within1_mk | with_reducible apply sized_wstate
                 | with_reducible apply answers_wstate)

theorem needing_within {m : Nat} {s t : State} (h : Within m s t) (a0 : Resource) (a1 : Entry → State → State × Reply) (a2 : Entry)
    (g1 : ∀ e u, Within m s u → Within1 m s (a1 e u)) :
    Within1 m s (needing a0 a1 a2 t) := by
  unfold needing
  repeat' (first | lift_lets | with_reducible exact h | with_reducible apply within1_mk
                 | (with_reducible apply Within1.out; with_reducible apply g1) | split)

theorem needing_wstate {m : Nat} {s t : State} (h : Within m s t) (a0 : Resource) (a1 : Entry → State → State × Reply) (a2 : Entry)
    (g1 : ∀ e u, Within m s u → Within1 m s (a1 e u)) :
    Within m s (needing a0 a1 a2 t).1 :=
  (needing_within h a0 a1 a2 g1).out

theorem beginStop_within {m : Nat} {s t : State} (h : Within m s t) (hm : Covers m 0xD0E500008) (a0 : Option ℕ) : Within m s (beginStop a0 t) := by
  unfold beginStop
  repeat' (first | exact hm.sub (by decide) | with_reducible exact Or.inr rfl | with_reducible exact Or.inr ⟨rfl, rfl⟩
                 | (intro y; refine within_cut (m := m) (s := s) (y := y) ?_ ?_; rotate_left; (intro hy; clear_value y); rotate_right; subst y)
                 | lift_lets | with_reducible exact h | with_reducible assumption | with_reducible apply within_ite
                 | with_reducible apply modProg_within | with_reducible apply endActivations_within | with_reducible apply slipstream_within
                 | with_reducible apply stopSteps_within)

theorem cmdProgramStop_within {m : Nat} (hm : Covers m 0xD0E510008) : WithinC m cmdProgramStop := by
  refine ⟨fun e s t h => ?_⟩
  unfold cmdProgramStop
  repeat' (first | exact hm.sub (by decide) | intro _ | lift_lets | with_reducible exact h | with_reducible assumption
                 | with_reducible apply within1_mk | with_reducible apply beginStop_within | with_reducible apply commitEntry_within
                 | with_reducible apply sized_wstate | with_reducible apply fails_wstate | split)

theorem cmdRecutStart_within {m : Nat} (hm : Covers m 0x100500008) : WithinC m cmdRecutStart := by
  refine ⟨fun e s t h => ?_⟩
  unfold cmdRecutStart
  repeat' (first | exact hm.sub (by decide) | with_reducible exact Or.inr rfl | with_reducible exact Or.inr ⟨rfl, rfl⟩ | intro _
                 | with_reducible exact h | with_reducible assumption | with_reducible apply within1_ite | with_reducible apply sized_within
                 | with_reducible apply fails_within | with_reducible apply writeDirectory_within | with_reducible apply modProg_within
                 | with_reducible apply forwardRecut_within | with_reducible apply fails_wstate | with_reducible apply answers_wstate
                 | with_reducible apply within1_mk | split)

theorem custody_within {m : Nat} {s t : State} (h : Within m s t) (hm : Covers m 0x80) (a0 : ℕ) (a1 : Bytes) : Within m s (custody a0 a1 t) := by
  unfold custody
  repeat' (first | exact hm.sub (by decide) | lift_lets | with_reducible exact h | with_reducible apply record_within)

theorem modLull_within {m : Nat} {s t : State} (h : Within m s t) (hm : Covers m 0x8100) (a0 : LullSt → LullSt) : Within m s (modLull a0 t) := by
  unfold modLull
  repeat' (first | exact hm.sub (by decide) | exact Or.inl (hm.sub (by decide)) | with_reducible exact Or.inr rfl | lift_lets
                 | with_reducible exact h | with_reducible apply modTrust_within)

theorem cmdTamperAcknowledge_within {m : Nat} (hm : Covers m 0x8180) : WithinC m cmdTamperAcknowledge := by
  refine ⟨fun e s t h => ?_⟩
  unfold cmdTamperAcknowledge
  repeat' (first | exact hm.sub (by decide)
                 | (intro y; refine within_cut (m := m) (s := s) (y := y) ?_ ?_; rotate_left; (intro hy; clear_value y); rotate_right; subst y)
                 | (intro y; clear_value y) | intro _ | lift_lets | with_reducible exact h | with_reducible assumption
                 | with_reducible apply within1_mk | with_reducible apply custody_within | with_reducible apply modLull_within
                 | with_reducible apply sized_wstate | with_reducible apply fails_wstate | with_reducible apply answers_wstate | split)

theorem cmdVariableRead_within {m : Nat} (hm : Covers m 0x400000) : WithinC m cmdVariableRead := by
  refine ⟨fun e s t h => ?_⟩
  unfold cmdVariableRead
  repeat' (first | exact hm.sub (by decide) | with_reducible exact Or.inr rfl | with_reducible exact Or.inr ⟨rfl, rfl⟩ | intro _ | lift_lets
                 | with_reducible exact h | with_reducible assumption | with_reducible apply within1_mk | with_reducible apply modProg_within
                 | with_reducible apply sized_wstate | with_reducible apply fails_wstate | split)

theorem cmdSessionLogin_within {m : Nat} : WithinC m cmdSessionLogin := by
  refine ⟨fun e s t h => ?_⟩
  unfold cmdSessionLogin
  repeat' (first | lift_lets | with_reducible exact h | with_reducible apply within1_mk | with_reducible apply fails_wstate | split)

theorem cmdVoterTest_within {m : Nat} (hm : Covers m 0x200000) : WithinC m cmdVoterTest := by
  refine ⟨fun e s t h => ?_⟩
  unfold cmdVoterTest
  repeat' (first | exact hm.sub (by decide) | (intro y; clear_value y) | intro _ | lift_lets | with_reducible exact h | with_reducible assumption
                 | with_reducible apply within1_mk | with_reducible apply modVoter_within | with_reducible apply sized_wstate | split)

theorem dropMasters_within {m : Nat} {s t : State} (h : Within m s t) (hm : Covers m 0x800000000) : Within m s (dropMasters t) := by
  unfold dropMasters
  repeat' (first | exact hm.sub (by decide) | lift_lets | with_reducible exact h | with_reducible apply modMvb_within)

theorem setRole_within {m : Nat} {s t : State} (h : Within m s t) (hm : Covers m 0xB02000000) (a0 : PairRole) : Within m s (setRole a0 t) := by
  unfold setRole
  repeat' (first | exact hm.sub (by decide) | exact Or.inl (hm.sub (by decide))
                 | (intro y; refine within_cut (m := m) (s := s) (y := y) ?_ ?_; rotate_left; (intro hy; clear_value y); rotate_right; subst y)
                 | lift_lets | with_reducible exact h | with_reducible assumption | with_reducible apply within_ite
                 | with_reducible apply pulse_within | with_reducible apply modPair_within | with_reducible apply dropMasters_within)

theorem endResync_within {m : Nat} {s t : State} (h : Within m s t) (hm : Covers m 0x108100008) : Within m s (endResync t) := by
  unfold endResync
  repeat' (first | exact hm.sub (by decide) | with_reducible exact Or.inr rfl | lift_lets | with_reducible exact h
                 | with_reducible apply setReason_within | with_reducible apply modPair_within)

theorem cmdImageLoad_within {m : Nat} : WithinC m cmdImageLoad := by
  refine ⟨fun e s t h => ?_⟩
  unfold cmdImageLoad
  repeat' (first | intro _ | lift_lets | with_reducible exact h | with_reducible assumption | with_reducible apply within1_mk
                 | with_reducible apply needing_wstate | with_reducible apply fails_wstate | split)

theorem recordPair_within {m : Nat} {s t : State} (h : Within m s t) (hm : Covers m 0x80) (a0 : ℕ) (a1 : Bytes) :
    Within m s (recordPair a0 a1 t) := by
  unfold recordPair
  repeat' (first | exact hm.sub (by decide) | lift_lets | with_reducible exact h | with_reducible apply record_within)

theorem answerResync_within {m : Nat} {s t : State} (h : Within m s t) (hm : Covers m 0x100110508) (a0 : ℕ) : Within m s (answerResync a0 t) := by
  unfold answerResync
  repeat' (first | exact hm.sub (by decide) | with_reducible exact Or.inr rfl | intro _ | lift_lets | with_reducible exact h
                 | with_reducible assumption | with_reducible apply within_foldl | with_reducible apply completeEntry_within
                 | with_reducible apply modPair_within)

theorem resyncFails_within {m : Nat} {s t : State} (h : Within m s t) (hm : Covers m 0x108110588) : Within m s (resyncFails t) := by
  unfold resyncFails
  repeat' (first | exact hm.sub (by decide) | with_reducible exact Or.inr rfl
                 | (intro y; refine within_cut (m := m) (s := s) (y := y) ?_ ?_; rotate_left; (intro hy; clear_value y); rotate_right; subst y)
                 | (intro y; clear_value y) | lift_lets | with_reducible exact h | with_reducible assumption | with_reducible apply within_ite
                 | with_reducible apply setReason_within | with_reducible apply recordPair_within | with_reducible apply endResync_within
                 | with_reducible apply modPair_within | with_reducible apply answerResync_within)

theorem laneFailsResync_within {m : Nat} {s t : State} (h : Within m s t) (hm : Covers m 0x108110588) : Within m s (laneFailsResync t) := by
  unfold laneFailsResync
  repeat' (first | exact hm.sub (by decide) | lift_lets | with_reducible exact h | with_reducible apply within_ite
                 | with_reducible apply resyncFails_within)

theorem startReshoot_within {m : Nat} {s t : State} (h : Within m s t) (hm : Covers m 0x200000) (a0 : Lane) : Within m s (startReshoot a0 t) := by
  unfold startReshoot
  repeat' (first | exact hm.sub (by decide) | lift_lets | with_reducible exact h | with_reducible apply modLane_within)

theorem isolateLane_within {m : Nat} {s t : State} (h : Within m s t) (hm : Covers m 0x98E370588) (a0 : Bool) (a1 : Lane) (a2 : ℕ) (a3 : ℕ)
    (a4 : ℕ) (a5 : Bool) :
    Within m s (isolateLane a0 a1 a2 a3 a4 a5 t) := by
  unfold isolateLane
  repeat' (first | exact hm.sub (by decide) | exact Or.inl (hm.sub (by decide)) | with_reducible exact Or.inr rfl
                 | (intro y; refine within_cut (m := m) (s := s) (y := y) ?_ ?_; rotate_left; (intro hy; clear_value y); rotate_right; subst y)
                 | (intro y; clear_value y) | lift_lets | with_reducible exact h | with_reducible assumption | with_reducible apply within_ite
                 | with_reducible apply modLane_within | with_reducible apply modMbx_within | with_reducible apply traceTrigger_within
                 | with_reducible apply epochStep_within | with_reducible apply laneOutputsOff_within | with_reducible apply modVoter_within
                 | with_reducible apply recordLane_within | with_reducible apply laneFailsResync_within
                 | with_reducible apply startReshoot_within)

theorem cmdLaneIsolate_within {m : Nat} (hm : Covers m 0x98E370588) : WithinC m cmdLaneIsolate := by
  refine ⟨fun e s t h => ?_⟩
  unfold cmdLaneIsolate
  repeat' (first | exact hm.sub (by decide) | intro _ | lift_lets | with_reducible exact h | with_reducible assumption
                 | with_reducible apply within1_mk | with_reducible apply isolateLane_within | with_reducible apply commitEntry_within
                 | with_reducible apply sized_wstate | with_reducible apply fails_wstate | with_reducible apply answers_wstate | split)

theorem cmdAnchorRotate_within {m : Nat} (hm : Covers m 0x4900) : WithinC m cmdAnchorRotate := by
  refine ⟨fun e s t h => ?_⟩
  unfold cmdAnchorRotate
  repeat' (first | exact hm.sub (by decide) | lift_lets | with_reducible exact h | with_reducible apply within1_mk
                 | with_reducible apply installAnchor_within | with_reducible apply fails_wstate | with_reducible apply answers_wstate | split)

theorem cmdForceClear_within {m : Nat} (hm : Covers m 0x100D00088) : WithinC m cmdForceClear := by
  refine ⟨fun e s t h => ?_⟩
  unfold cmdForceClear
  repeat' (first | exact hm.sub (by decide)
                 | (intro y; refine within_cut (m := m) (s := s) (y := y) ?_ ?_; rotate_left; (intro hy; clear_value y); rotate_right; subst y)
                 | (intro (y : _ → _); subst y; try beta_reduce) | (intro y; clear_value y) | intro _ | lift_lets | with_reducible exact h
                 | with_reducible assumption | with_reducible apply within_ite | with_reducible apply within1_mk
                 | with_reducible apply dropForces_within | with_reducible apply forwardForces_within | with_reducible apply sized_wstate
                 | with_reducible apply fails_wstate | with_reducible apply answers_wstate | split)

theorem cmdForceSet_within {m : Nat} (hm : Covers m 0x100D00088) : WithinC m cmdForceSet := by
  refine ⟨fun e s t h => ?_⟩
  unfold cmdForceSet
  repeat' (first | exact hm.sub (by decide) | exact Or.inl (hm.sub (by decide)) | with_reducible exact Or.inr ⟨rfl, rfl⟩
                 | (intro y; refine within_cut (m := m) (s := s) (y := y) ?_ ?_; rotate_left; (intro hy; clear_value y); rotate_right; subst y)
                 | (intro y; clear_value y) | lift_lets | with_reducible exact h | with_reducible assumption | with_reducible apply within1_mk
                 | with_reducible apply recordForce_within | with_reducible apply modProg_within | with_reducible apply forwardForces_within
                 | with_reducible apply fails_wstate | with_reducible apply answers_wstate | split)

theorem cmdSessionList_within {m : Nat} : WithinC m cmdSessionList := by
  refine ⟨fun e s t h => ?_⟩
  unfold cmdSessionList
  repeat' (first | (intro y; clear_value y) | intro _ | lift_lets | with_reducible exact h | with_reducible assumption
                 | with_reducible apply within1_mk | with_reducible apply sized_wstate | with_reducible apply answers_wstate)

theorem setLull_within {m : Nat} {s t : State} (h : Within m s t) (hm : Covers m 0x8104) (a0 : ℕ) : Within m s (setLull a0 t) := by
  unfold setLull
  repeat' (first | exact hm.sub (by decide) | exact Or.inl (hm.sub (by decide)) | with_reducible exact Or.inr rfl | lift_lets
                 | with_reducible exact h | with_reducible apply afterDraw_within | with_reducible apply modTrust_within)

theorem cmdProgramStart_within {m : Nat} (hm : Covers m 0x986774588) : WithinC m cmdProgramStart := by
  refine ⟨fun e s t h => ?_⟩
  unfold cmdProgramStart
  repeat' (first | exact hm.sub (by decide)
                 | (intro y; refine within_cut (m := m) (s := s) (y := y) ?_ ?_; rotate_left; (intro hy; clear_value y); rotate_right; subst y)
                 | (intro y; clear_value y) | intro _ | lift_lets | with_reducible exact h | with_reducible assumption
                 | with_reducible apply within1_mk | with_reducible apply startProgram_within | with_reducible apply commitEntry_within
                 | with_reducible apply sized_wstate | with_reducible apply fails_wstate | with_reducible apply answers_wstate | split)

theorem cmdEnrolRequest_within {m : Nat} : WithinC m cmdEnrolRequest := by
  refine ⟨fun e s t h => ?_⟩
  unfold cmdEnrolRequest
  repeat' (first | intro _ | lift_lets | with_reducible exact h | with_reducible assumption | with_reducible apply within1_mk
                 | with_reducible apply sized_wstate | with_reducible apply answers_wstate | with_reducible apply fails_wstate | split)

theorem remapPeer_within {m : Nat} {s t : State} (h : Within m s t) (hm : Covers m 0x300) (a0 : ℕ) : Within m s (remapPeer a0 t) := by
  unfold remapPeer
  repeat' (first | exact hm.sub (by decide) | exact Or.inl (hm.sub (by decide)) | with_reducible exact Or.inr rfl | (intro y; clear_value y)
                 | lift_lets | with_reducible exact h | with_reducible apply modTrust_within | split)

theorem remapPeers_within {m : Nat} {s t : State} (h : Within m s t) (hm : Covers m 0x300) : Within m s (remapPeers t) := by
  unfold remapPeers
  repeat' (first | exact hm.sub (by decide) | intro _ | lift_lets | with_reducible exact h | with_reducible assumption
                 | with_reducible apply within_foldl | with_reducible apply remapPeer_within)

theorem modContext_within {m : Nat} {s t : State} (h : Within m s t) (hm : Covers m 0x500) (a0 : ℕ) (a1 : SaContext → SaContext) :
    Within m s (modContext a0 a1 t) := by
  unfold modContext
  repeat' (first | exact hm.sub (by decide) | exact Or.inl (hm.sub (by decide)) | with_reducible exact Or.inr rfl | lift_lets
                 | with_reducible exact h | with_reducible apply modTrust_within)

theorem drain_within {m : Nat} {s t : State} (h : Within m s t) (hm : Covers m 0x500) (a0 : ℕ) : Within m s (drain a0 t) := by
  unfold drain
  repeat' (first | exact hm.sub (by decide) | lift_lets | with_reducible exact h | with_reducible apply modContext_within)

theorem cmdSaRelease_within {m : Nat} (hm : Covers m 0x700) : WithinC m cmdSaRelease := by
  refine ⟨fun e s t h => ?_⟩
  unfold cmdSaRelease
  repeat' (first | exact hm.sub (by decide) | exact Or.inl (hm.sub (by decide)) | with_reducible exact Or.inr rfl | intro _ | lift_lets
                 | with_reducible exact h | with_reducible assumption | with_reducible apply within1_mk | with_reducible apply modTrust_within
                 | with_reducible apply remapPeers_within | with_reducible apply drain_within | with_reducible apply sized_wstate
                 | with_reducible apply fails_wstate | with_reducible apply answers_wstate | split)

theorem cmdLaneDiagClear_within {m : Nat} (hm : Covers m 0x200000) : WithinC m cmdLaneDiagClear := by
  refine ⟨fun e s t h => ?_⟩
  unfold cmdLaneDiagClear
  repeat' (first | exact hm.sub (by decide)
                 | (intro y; refine within_cut (m := m) (s := s) (y := y) ?_ ?_; rotate_left; (intro hy; clear_value y); rotate_right; subst y)
                 | intro _ | lift_lets | with_reducible exact h | with_reducible assumption | with_reducible apply within_ite
                 | with_reducible apply within1_mk | with_reducible apply within_foldl | with_reducible apply modHealth_within
                 | with_reducible apply modVoter_within | with_reducible apply sized_wstate | with_reducible apply fails_wstate
                 | with_reducible apply answers_wstate | split)

theorem cmdSessionEnd_within {m : Nat} (hm : Covers m 0x500110788) : WithinC m cmdSessionEnd := by
  refine ⟨fun e s t h => ?_⟩
  unfold cmdSessionEnd
  repeat' (first | exact hm.sub (by decide) | intro _ | lift_lets | with_reducible exact h | with_reducible assumption
                 | with_reducible apply within1_mk | with_reducible apply endOwn_within | with_reducible apply endSession_within
                 | with_reducible apply sized_wstate | with_reducible apply thenAfter_wstate | with_reducible apply fails_wstate
                 | with_reducible apply answers_wstate | split)

theorem cmdLullStatus_within {m : Nat} : WithinC m cmdLullStatus := by
  refine ⟨fun e s t h => ?_⟩
  unfold cmdLullStatus
  repeat' (first | intro _ | lift_lets | with_reducible exact h | with_reducible assumption | with_reducible apply within1_mk
                 | with_reducible apply sized_wstate | with_reducible apply answers_wstate)

theorem cmdOwnerLock_within {m : Nat} (hm : Covers m 0x500111788) : WithinC m cmdOwnerLock := by
  refine ⟨fun e s t h => ?_⟩
  unfold cmdOwnerLock
  repeat' (first | exact hm.sub (by decide) | exact Or.inl (hm.sub (by decide)) | with_reducible exact Or.inr rfl
                 | (intro y; refine within_cut (m := m) (s := s) (y := y) ?_ ?_; rotate_left; (intro hy; clear_value y); rotate_right; subst y)
                 | (intro y; clear_value y) | intro _ | lift_lets | with_reducible exact h | with_reducible assumption
                 | with_reducible apply within_ite | with_reducible apply within1_mk | with_reducible apply modTrust_within
                 | with_reducible apply custody_within | with_reducible apply testGate_within | with_reducible apply sized_wstate
                 | with_reducible apply fails_wstate | with_reducible apply answers_wstate | split)

theorem settleAxis_within {m : Nat} {s t : State} (h : Within m s t) (hm : Covers m 0x400000) : Within m s (settleAxis t) := by
  unfold settleAxis
  repeat' (first | exact hm.sub (by decide) | with_reducible exact Or.inr rfl | with_reducible exact Or.inr ⟨rfl, rfl⟩ | lift_lets
                 | with_reducible exact h | with_reducible apply within_ite | with_reducible apply modProg_within)

theorem cmdImageErase_within {m : Nat} (hm : Covers m 0x1400000) : WithinC m cmdImageErase := by
  refine ⟨fun e s t h => ?_⟩
  unfold cmdImageErase
  repeat' (first | exact hm.sub (by decide) | intro _ | lift_lets | with_reducible exact h | with_reducible assumption
                 | with_reducible apply within1_mk | with_reducible apply settleAxis_within | with_reducible apply modSlot_within
                 | with_reducible apply needing_wstate | with_reducible apply sized_wstate | with_reducible apply fails_wstate
                 | with_reducible apply answers_wstate | split)

theorem cmdLaneReshoot_within {m : Nat} (hm : Covers m 0x200000) : WithinC m cmdLaneReshoot := by
  refine ⟨fun e s t h => ?_⟩
  unfold cmdLaneReshoot
  repeat' (first | exact hm.sub (by decide)
                 | (intro y; refine within_cut (m := m) (s := s) (y := y) ?_ ?_; rotate_left; (intro hy; clear_value y); rotate_right; subst y)
                 | (intro y; clear_value y) | intro _ | lift_lets | with_reducible exact h | with_reducible assumption
                 | with_reducible apply within1_mk | with_reducible apply modLane_within | with_reducible apply modVoter_within
                 | with_reducible apply startReshoot_within | with_reducible apply sized_wstate | with_reducible apply fails_wstate | split)

theorem cmdLaneTraceRead_within {m : Nat} : WithinC m cmdLaneTraceRead := by
  refine ⟨fun e s t h => ?_⟩
  unfold cmdLaneTraceRead
  repeat' (first | (intro y; clear_value y) | intro _ | lift_lets | with_reducible exact h | with_reducible assumption
                 | with_reducible apply within1_mk | with_reducible apply sized_wstate | with_reducible apply fails_wstate
                 | with_reducible apply answers_wstate | split)

theorem noteUnchecked_within {m : Nat} {s t : State} (h : Within m s t) (hm : Covers m 0x80) (a0 : ℕ) (a1 : Bytes) :
    Within m s (noteUnchecked a0 a1 t) := by
  unfold noteUnchecked
  repeat' (first | exact hm.sub (by decide) | lift_lets | with_reducible exact h | with_reducible apply within_ite
                 | with_reducible apply custody_within)

theorem noteInterval_within {m : Nat} {s t : State} (h : Within m s t) (hm : Covers m 0x80) (a0 : Bytes) : Within m s (noteInterval a0 t) := by
  unfold noteInterval
  repeat' (first | exact hm.sub (by decide) | lift_lets | with_reducible exact h | with_reducible apply within_ite
                 | with_reducible apply noteUnchecked_within | split)

theorem keyContext_within {m : Nat} {s t : State} (h : Within m s t) (hm : Covers m 0x500) (a0 : ℕ) (a1 : SaContext) :
    Within m s (keyContext a0 a1 t) := by
  unfold keyContext
  repeat' (first | exact hm.sub (by decide) | exact Or.inl (hm.sub (by decide)) | with_reducible exact Or.inr rfl | lift_lets
                 | with_reducible exact h | with_reducible apply modTrust_within)

theorem moveContext_within {m : Nat} {s t : State} (h : Within m s t) (hm : Covers m 0x400000300) (a0 : ℕ) (a1 : ℕ) :
    Within m s (moveContext a0 a1 t) := by
  unfold moveContext
  repeat' (first | exact hm.sub (by decide) | exact Or.inl (hm.sub (by decide)) | with_reducible exact Or.inr rfl
                 | (intro (y : _ → _); subst y; try beta_reduce) | lift_lets | with_reducible exact h | with_reducible apply modTrust_within
                 | with_reducible apply modNet_within)

theorem goLive_within {m : Nat} {s t : State} (h : Within m s t) (hm : Covers m 0x400000700) (a0 : ℕ) : Within m s (goLive a0 t) := by
  unfold goLive
  repeat' (first | exact hm.sub (by decide)
                 | (intro y; refine within_cut (m := m) (s := s) (y := y) ?_ ?_; rotate_left; (intro hy; clear_value y); rotate_right; subst y)
                 | lift_lets | with_reducible exact h | with_reducible assumption | with_reducible apply modContext_within
                 | with_reducible apply moveContext_within | with_reducible apply drain_within | split)

theorem cmdSaInstall_within {m : Nat} (hm : Covers m 0x400000700) : WithinC m cmdSaInstall := by
  refine ⟨fun e s t h => ?_⟩
  unfold cmdSaInstall
  repeat' (first | exact hm.sub (by decide) | exact Or.inl (hm.sub (by decide)) | with_reducible exact Or.inr rfl
                 | (intro y; refine within_cut (m := m) (s := s) (y := y) ?_ ?_; rotate_left; (intro hy; clear_value y); rotate_right; subst y)
                 | (intro y; clear_value y) | lift_lets | with_reducible exact h | with_reducible assumption | with_reducible apply within1_mk
                 | with_reducible apply keyContext_within | with_reducible apply modTrust_within | with_reducible apply remapPeers_within
                 | with_reducible apply goLive_within | with_reducible apply fails_wstate | with_reducible apply answers_wstate | split)

theorem setCredential_within {m : Nat} {s t : State} (h : Within m s t) (hm : Covers m 0x500112788) (a0 : Entry) (a1 : ℕ) (a2 : ℕ)
    (a3 : Credential) (a4 : Bool) :
    Within1 m s (setCredential a0 a1 a2 a3 a4 t) := by
  unfold setCredential
  repeat' (first | exact hm.sub (by decide) | exact Or.inl (hm.sub (by decide)) | with_reducible exact Or.inr rfl
                 | (intro y; refine within_cut (m := m) (s := s) (y := y) ?_ ?_; rotate_left; (intro hy; clear_value y); rotate_right; subst y)
                 | intro _ | lift_lets | with_reducible exact h | with_reducible assumption | with_reducible apply within_ite
                 | with_reducible apply within1_mk | with_reducible apply modTrust_within | with_reducible apply recordCredential_within
                 | with_reducible apply endCredentialSessions_within | with_reducible apply fails_wstate | with_reducible apply answers_wstate
                 | split)

theorem setCredential_wstate {m : Nat} {s t : State} (h : Within m s t) (hm : Covers m 0x500112788) (a0 : Entry) (a1 : ℕ) (a2 : ℕ)
    (a3 : Credential) (a4 : Bool) :
    Within m s (setCredential a0 a1 a2 a3 a4 t).1 :=
  (setCredential_within h hm a0 a1 a2 a3 a4).out

theorem cmdCredentialSet_within {m : Nat} (hm : Covers m 0x50011278C) : WithinC m cmdCredentialSet := by
  refine ⟨fun e s t h => ?_⟩
  have f (n : ℕ) : Within1 m s (fails n t) := fails_within h _
  unfold cmdCredentialSet
  simp only
  split
  · exact f _
  · refine within1_ite (f _) ?_
    split
    · refine within1_ite (f _) (within1_ite (f _) (setCredential_within ?_ (hm.sub (by decide)) _ _ _ _ _))
      exact within_ite h (afterDraw_within h (hm.sub (by decide)))
    · refine within1_ite (f _) ?_
      split
      · exact f _
      · exact setCredential_within (afterDraw_within h (hm.sub (by decide))) (hm.sub (by decide)) _ _ _ _ _

theorem tellHeld_within {m : Nat} {s t : State} (h : Within m s t) (hm : Covers m 0x100100008) (a0 : Bytes) : Within m s (tellHeld a0 t) := by
  unfold tellHeld
  repeat' (first | exact hm.sub (by decide) | lift_lets | with_reducible exact h | with_reducible apply within_ite
                 | with_reducible apply slipstream_within)

theorem kpc_within {m : Nat} {s t : State} (h : Within m s t) (hm : Covers m 0x200000) (a0 : Lane) (a1 : ℕ) (a2 : Kpc → KpcOut) :
    WithinOut m s (kpc a0 a1 a2 t) := by
  unfold kpc
  repeat' (first | exact hm.sub (by decide) | lift_lets | with_reducible exact h | with_reducible apply withinOut_next
                 | with_reducible exact withinOut_refused | with_reducible exact withinOut_fault | with_reducible apply modLane_within | split)

theorem service_within {m : Nat} {s t : State} (h : Within m s t) (hm : Covers m 0x200000) (a0 : Lane) (a1 : ℕ) (a2 : ℕ) (a3 : ℕ)
    (a4 : Kpc → List Val → Option (Kpc × List Val)) :
    WithinOut m s (service a0 a1 a2 a3 a4 t) := by
  unfold service
  repeat' (first | exact hm.sub (by decide) | (intro y; clear_value y) | lift_lets | with_reducible exact h | with_reducible apply kpc_within)

theorem execKMbxIssue_within {m : Nat} {s t : State} (h : Within m s t) (hm : Covers m 0x200000) (a0 : Lane) (a1 : ℕ) (a2 : ℕ) :
    WithinOut m s (execKMbxIssue a0 a1 a2 t) := by
  unfold execKMbxIssue
  repeat' (first | exact hm.sub (by decide) | lift_lets | with_reducible exact h | with_reducible apply service_within)

theorem traceAdd_within {m : Nat} {s t : State} (h : Within m s t) (hm : Covers m 0x200000) (a0 : Bytes) : Within m s (traceAdd a0 t) := by
  unfold traceAdd
  repeat' (first | exact hm.sub (by decide) | lift_lets | with_reducible exact h | with_reducible apply modVoter_within)

theorem reshootAtVote_within {m : Nat} {s t : State} (h : Within m s t) (hm : Covers m 0x200000) (a0 : ℕ) (a1 : ℕ) :
    Within m s (reshootAtVote a0 a1 t) := by
  unfold reshootAtVote
  repeat' (first | exact hm.sub (by decide) | lift_lets | with_reducible exact h | with_reducible apply within_ite
                 | with_reducible apply modReshoot_within | split)

theorem silence_within {m : Nat} {s t : State} (h : Within m s t) (hm : Covers m 0x400000000) : Within m s (silence t) := by
  unfold silence
  repeat' (first | exact hm.sub (by decide) | lift_lets | with_reducible exact h | with_reducible apply modNet_within)

theorem kpcData_within {m : Nat} {s t : State} (h : Within m s t) (hm : Covers m 0x200000) (a0 : Lane) (a1 : ℕ) (a2 : Bool) (a3 : ℕ)
    (a4 : Kpc → Result) :
    WithinOut m s (kpcData a0 a1 a2 a3 a4 t) := by
  unfold kpcData
  repeat' (first | exact hm.sub (by decide) | lift_lets | with_reducible exact h | with_reducible apply withinOut_ite
                 | with_reducible exact withinOut_refused | with_reducible apply kpc_within)

theorem execKTrunc_within {m : Nat} {s t : State} (h : Within m s t) (hm : Covers m 0x200000) (a0 : Lane) (a1 : MType) (a2 : MType) (a3 : Regs) :
    WithinOut m s (execKTrunc a0 a1 a2 a3 t) := by
  unfold execKTrunc
  repeat' (first | exact hm.sub (by decide) | lift_lets | with_reducible exact h | with_reducible apply kpcData_within)

theorem countFault_within {m : Nat} {s t : State} (h : Within m s t) (hm : Covers m 0x200000) (a0 : Lane) (a1 : LaneFaultCause) :
    Within m s (countFault a0 a1 t) := by
  unfold countFault
  repeat' (first | exact hm.sub (by decide) | lift_lets | with_reducible exact h | with_reducible apply modHealth_within)

theorem execKCopy_within {m : Nat} {s t : State} (h : Within m s t) (hm : Covers m 0x200000) (a0 : Lane) (a1 : ℕ) (a2 : ℕ) (a3 : ℕ) (a4 : ℕ)
    (a5 : ℕ) :
    WithinOut m s (execKCopy a0 a1 a2 a3 a4 a5 t) := by
  unfold execKCopy
  repeat' (first | exact hm.sub (by decide) | lift_lets | with_reducible exact h | with_reducible apply kpc_within)

theorem modCredential_within {m : Nat} {s t : State} (h : Within m s t) (hm : Covers m 0x2100) (a0 : ℕ) (a1 : Credential → Credential) :
    Within m s (modCredential a0 a1 t) := by
  unfold modCredential
  repeat' (first | exact hm.sub (by decide) | exact Or.inl (hm.sub (by decide)) | with_reducible exact Or.inr rfl | lift_lets
                 | with_reducible exact h | with_reducible apply modTrust_within)

theorem loginPassed_within {m : Nat} {s t : State} (h : Within m s t) (hm : Covers m 0x100112708) (a0 : Entry) (a1 : ℕ) (a2 : Credential) :
    Within m s (loginPassed a0 a1 a2 t) := by
  unfold loginPassed
  repeat' (first | exact hm.sub (by decide) | exact Or.inl (hm.sub (by decide)) | with_reducible exact Or.inr rfl
                 | (intro y; refine within_cut (m := m) (s := s) (y := y) ?_ ?_; rotate_left; (intro hy; clear_value y); rotate_right; subst y)
                 | (intro (y : _ → _); subst y; try beta_reduce) | (intro y; clear_value y) | lift_lets | with_reducible exact h
                 | with_reducible assumption | with_reducible apply within_ite | with_reducible apply modCredential_within
                 | with_reducible apply completeEntry_within | with_reducible apply modTrust_within)

theorem reshootAtActivation_within {m : Nat} {s t : State} (h : Within m s t) (hm : Covers m 0x100310588) (a0 : ℕ) :
    Within m s (reshootAtActivation a0 t) := by
  unfold reshootAtActivation
  repeat' (first | exact hm.sub (by decide) | lift_lets | with_reducible exact h | with_reducible apply within_ite
                 | with_reducible apply failReshoot_within | with_reducible apply modReshoot_within | split)

theorem rejoinLane_within {m : Nat} {s t : State} (h : Within m s t) (hm : Covers m 0x986370588) (a0 : Lane) : Within m s (rejoinLane a0 t) := by
  unfold rejoinLane
  repeat' (first | exact hm.sub (by decide)
                 | (intro y; refine within_cut (m := m) (s := s) (y := y) ?_ ?_; rotate_left; (intro hy; clear_value y); rotate_right; subst y)
                 | (intro y; clear_value y) | lift_lets | with_reducible exact h | with_reducible assumption
                 | with_reducible apply modLane_within | with_reducible apply modVoter_within | with_reducible apply answerReshoot_within
                 | with_reducible apply recordLane_within | with_reducible apply epochAtBoundary_within)

theorem rejoinAt_within {m : Nat} {s t : State} (h : Within m s t) (hm : Covers m 0x986370588) : Within m s (rejoinAt t) := by
  unfold rejoinAt
  repeat' (first | exact hm.sub (by decide) | lift_lets | with_reducible exact h | with_reducible apply within_ite
                 | with_reducible apply rejoinLane_within | split)

theorem execDivergenceComparisonDone_within {m : Nat} {s t : State} (h : Within m s t) (hm : Covers m 0x200080) (a0 : Lane) (a1 : ℕ) :
    WithinOut m s (execDivergenceComparisonDone a0 a1 t) := by
  unfold execDivergenceComparisonDone
  repeat' (first | exact hm.sub (by decide)
                 | (intro y; refine within_cut (m := m) (s := s) (y := y) ?_ ?_; rotate_left; (intro hy; clear_value y); rotate_right; subst y)
                 | lift_lets | with_reducible exact h | with_reducible assumption | with_reducible apply withinOut_next
                 | with_reducible apply modVoter_within | with_reducible apply recordLane_within | split)

theorem kpcShift_within {m : Nat} {s t : State} (h : Within m s t) (hm : Covers m 0x200000) (a0 : Lane) (a1 : ℕ) (a2 : MType) (a3 : MType)
    (a4 : Regs) (a5 : MType → Val → Val → Result) :
    WithinOut m s (kpcShift a0 a1 a2 a3 a4 a5 t) := by
  unfold kpcShift
  repeat' (first | exact hm.sub (by decide) | lift_lets | with_reducible exact h | with_reducible apply kpcData_within)

theorem execKShr_within {m : Nat} {s t : State} (h : Within m s t) (hm : Covers m 0x200000) (a0 : Lane) (a1 : MType) (a2 : MType) (a3 : Regs) :
    WithinOut m s (execKShr a0 a1 a2 a3 t) := by
  unfold execKShr
  repeat' (first | exact hm.sub (by decide) | lift_lets | with_reducible exact h | with_reducible apply kpcShift_within)

theorem endCommit_within {m : Nat} {s t : State} (h : Within m s t) (hm : Covers m 0x400000) (a0 : Bool) : Within m s (endCommit a0 t) := by
  unfold endCommit
  repeat' (first | exact hm.sub (by decide) | with_reducible exact Or.inr rfl | with_reducible exact Or.inr ⟨rfl, rfl⟩
                 | exact Or.inr (by show (setBank _ _ _).forces = _; unfold setBank; split <;> rfl)
                 | exact Or.inr (by show (setBank _ _ _).slot0 = _ ∧ (setBank _ _ _).slot1 = _; unfold setBank; split <;> exact ⟨rfl, rfl⟩)
                 | (intro y; refine within_cut (m := m) (s := s) (y := y) ?_ ?_; rotate_left; (intro hy; clear_value y); rotate_right; subst y)
                 | (intro y; clear_value y) | lift_lets | with_reducible exact h | with_reducible assumption | with_reducible apply within_ite
                 | with_reducible apply modProg_within | with_reducible apply openCommit_within | split)

theorem endCommitStep_within {m : Nat} {s t : State} (h : Within m s t) (hm : Covers m 0x100710508) (a0 : Bool) :
    Within m s (endCommitStep a0 t) := by
  unfold endCommitStep
  repeat' (first | exact hm.sub (by decide)
                 | (intro y; refine within_cut (m := m) (s := s) (y := y) ?_ ?_; rotate_left; (intro hy; clear_value y); rotate_right; subst y)
                 | lift_lets | with_reducible exact h | with_reducible assumption | with_reducible apply within_ite
                 | with_reducible apply endCommit_within | with_reducible apply finishStop_within | split)

theorem loseLane_within {m : Nat} {s t : State} (h : Within m s t) (hm : Covers m 0xDEEF707B8) (a0 : Bool) (a1 : Lane) (a2 : ℕ) (a3 : ℕ) (a4 : ℕ) :
    Within m s (loseLane a0 a1 a2 a3 a4 t) := by
  unfold loseLane
  repeat' (first | exact hm.sub (by decide) | lift_lets | with_reducible exact h | with_reducible apply within_ite
                 | with_reducible apply isolateLane_within | with_reducible apply lockOut_within)

theorem countMissing_within {m : Nat} {s t : State} (h : Within m s t) (hm : Covers m 0x200000) (a0 : Lane) : Within m s (countMissing a0 t) := by
  unfold countMissing
  repeat' (first | exact hm.sub (by decide) | (intro (y : _ → _); subst y; try beta_reduce) | (intro y; clear_value y) | lift_lets
                 | with_reducible exact h | with_reducible apply modHealth_within)

theorem laneFault_within {m : Nat} {s t : State} (h : Within m s t) (hm : Covers m 0xDEEF707B8) (a0 : Lane) (a1 : LaneFaultCause) :
    Within m s (laneFault a0 a1 t) := by
  unfold laneFault
  repeat' (first | exact hm.sub (by decide)
                 | (intro y; refine within_cut (m := m) (s := s) (y := y) ?_ ?_; rotate_left; (intro hy; clear_value y); rotate_right; subst y)
                 | (intro y; clear_value y) | lift_lets | with_reducible exact h | with_reducible assumption | with_reducible apply within_ite
                 | with_reducible apply countFault_within | with_reducible apply modLane_within | with_reducible apply laneFailsResync_within
                 | with_reducible apply failReshoot_within | with_reducible apply loseLane_within | with_reducible apply countMissing_within)

theorem execLaneWatchdogExpiry_within {m : Nat} {s t : State} (h : Within m s t) (hm : Covers m 0xDEEF707BA) (a0 : Lane) :
    WithinOut m s (execLaneWatchdogExpiry a0 t) := by
  unfold execLaneWatchdogExpiry
  repeat' (first | exact hm.sub (by decide) | (intro y; clear_value y) | lift_lets | with_reducible exact h | with_reducible apply withinOut_next
                 | with_reducible apply withinOut_ite | with_reducible apply laneFault_within | with_reducible apply reach_within)

theorem kpcUnary_within {m : Nat} {s t : State} (h : Within m s t) (hm : Covers m 0x200000) (a0 : Lane) (a1 : ℕ) (a2 : MType) (a3 : Regs)
    (a4 : MType → Val → Result) :
    WithinOut m s (kpcUnary a0 a1 a2 a3 a4 t) := by
  unfold kpcUnary
  repeat' (first | exact hm.sub (by decide) | lift_lets | with_reducible exact h | with_reducible apply kpcData_within)

theorem execKExp_within {m : Nat} {s t : State} (h : Within m s t) (hm : Covers m 0x200000) (a0 : Lane) (a1 : MType) (a2 : Regs) :
    WithinOut m s (execKExp a0 a1 a2 t) := by
  unfold execKExp
  repeat' (first | exact hm.sub (by decide) | lift_lets | with_reducible exact h | with_reducible apply kpcUnary_within)

theorem execKAsin_within {m : Nat} {s t : State} (h : Within m s t) (hm : Covers m 0x200000) (a0 : Lane) (a1 : MType) (a2 : Regs) :
    WithinOut m s (execKAsin a0 a1 a2 t) := by
  unfold execKAsin
  repeat' (first | exact hm.sub (by decide) | lift_lets | with_reducible exact h | with_reducible apply kpcUnary_within)

theorem execSessionLifetimeExpiry_within {m : Nat} {s t : State} (h : Within m s t) (hm : Covers m 0x50011078A) (a0 : ℕ) :
    WithinOut m s (execSessionLifetimeExpiry a0 t) := by
  unfold execSessionLifetimeExpiry
  repeat' (first | exact hm.sub (by decide) | lift_lets | with_reducible exact h | with_reducible apply withinOut_next
                 | with_reducible apply withinOut_ite | with_reducible apply endSession_within | with_reducible apply reach_within | split)

theorem execKNop_within {m : Nat} {s t : State} (h : Within m s t) (hm : Covers m 0x200000) (a0 : Lane) : WithinOut m s (execKNop a0 t) := by
  unfold execKNop
  repeat' (first | exact hm.sub (by decide) | lift_lets | with_reducible exact h | with_reducible apply kpc_within)

theorem execKCos_within {m : Nat} {s t : State} (h : Within m s t) (hm : Covers m 0x200000) (a0 : Lane) (a1 : MType) (a2 : Regs) :
    WithinOut m s (execKCos a0 a1 a2 t) := by
  unfold execKCos
  repeat' (first | exact hm.sub (by decide) | lift_lets | with_reducible exact h | with_reducible apply kpcUnary_within)

theorem execKCeil_within {m : Nat} {s t : State} (h : Within m s t) (hm : Covers m 0x200000) (a0 : Lane) (a1 : MType) (a2 : Regs) :
    WithinOut m s (execKCeil a0 a1 a2 t) := by
  unfold execKCeil
  repeat' (first | exact hm.sub (by decide) | lift_lets | with_reducible exact h | with_reducible apply kpcUnary_within)

theorem execKRecord_within {m : Nat} {s t : State} (h : Within m s t) (hm : Covers m 0x200000) (a0 : Lane) (a1 : ℕ) (a2 : ℕ) :
    WithinOut m s (execKRecord a0 a1 a2 t) := by
  unfold execKRecord
  repeat' (first | exact hm.sub (by decide) | lift_lets | with_reducible exact h | with_reducible apply service_within)

theorem openSession_within {m : Nat} {s t : State} (h : Within m s t) (hm : Covers m 0x30C) (a0 : Session) : Within m s (openSession a0 t) := by
  unfold openSession
  repeat' (first | exact hm.sub (by decide) | exact Or.inl (hm.sub (by decide)) | with_reducible exact Or.inr rfl
                 | (intro y; refine within_cut (m := m) (s := s) (y := y) ?_ ?_; rotate_left; (intro hy; clear_value y); rotate_right; subst y)
                 | (intro y; clear_value y) | lift_lets | with_reducible exact h | with_reducible assumption
                 | with_reducible apply modTrust_within | with_reducible apply afterDraw_within | with_reducible apply emit_within)

theorem execCellMeasurement_within {m : Nat} {s t : State} (h : Within m s t) (hm : Covers m 0x8180) (a0 : ℕ) :
    WithinOut m s (execCellMeasurement a0 t) := by
  unfold execCellMeasurement
  repeat' (first | exact hm.sub (by decide)
                 | (intro y; refine within_cut (m := m) (s := s) (y := y) ?_ ?_; rotate_left; (intro hy; clear_value y); rotate_right; subst y)
                 | (intro y; clear_value y) | lift_lets | with_reducible exact h | with_reducible assumption | with_reducible apply within_ite
                 | with_reducible apply withinOut_next | with_reducible apply withinOut_ite | with_reducible apply modLull_within
                 | with_reducible apply custody_within)

theorem kpcBinary_within {m : Nat} {s t : State} (h : Within m s t) (hm : Covers m 0x200000) (a0 : Lane) (a1 : ℕ) (a2 : MType) (a3 : Regs)
    (a4 : MType → Val → Val → Result) :
    WithinOut m s (kpcBinary a0 a1 a2 a3 a4 t) := by
  unfold kpcBinary
  repeat' (first | exact hm.sub (by decide) | lift_lets | with_reducible exact h | with_reducible apply kpcData_within)

theorem execKGe_within {m : Nat} {s t : State} (h : Within m s t) (hm : Covers m 0x200000) (a0 : Lane) (a1 : MType) (a2 : Regs) :
    WithinOut m s (execKGe a0 a1 a2 t) := by
  unfold execKGe
  repeat' (first | exact hm.sub (by decide) | lift_lets | with_reducible exact h | with_reducible apply kpcBinary_within)

theorem execKCall_within {m : Nat} {s t : State} (h : Within m s t) (hm : Covers m 0x200000) (a0 : Lane) (a1 : ℕ) (a2 : ℕ) (a3 : ℕ) :
    WithinOut m s (execKCall a0 a1 a2 a3 t) := by
  unfold execKCall
  repeat' (first | exact hm.sub (by decide) | lift_lets | with_reducible exact h | with_reducible apply kpc_within)

theorem execKExpt_within {m : Nat} {s t : State} (h : Within m s t) (hm : Covers m 0x200000) (a0 : Lane) (a1 : MType) (a2 : Regs) :
    WithinOut m s (execKExpt a0 a1 a2 t) := by
  unfold execKExpt
  repeat' (first | exact hm.sub (by decide) | lift_lets | with_reducible exact h | with_reducible apply kpcBinary_within)

theorem noteSigner_within {m : Nat} {s t : State} (h : Within m s t) (hm : Covers m 0x80) (a0 : ℕ) (a1 : Bytes) :
    Within m s (noteSigner a0 a1 t) := by
  unfold noteSigner
  repeat' (first | exact hm.sub (by decide) | lift_lets | with_reducible exact h | with_reducible apply within_ite
                 | with_reducible apply noteUnchecked_within)

theorem execKMod_within {m : Nat} {s t : State} (h : Within m s t) (hm : Covers m 0x200000) (a0 : Lane) (a1 : MType) (a2 : Regs) :
    WithinOut m s (execKMod a0 a1 a2 t) := by
  unfold execKMod
  repeat' (first | exact hm.sub (by decide) | lift_lets | with_reducible exact h | with_reducible apply kpcBinary_within)

theorem execKLog10_within {m : Nat} {s t : State} (h : Within m s t) (hm : Covers m 0x200000) (a0 : Lane) (a1 : MType) (a2 : Regs) :
    WithinOut m s (execKLog10 a0 a1 a2 t) := by
  unfold execKLog10
  repeat' (first | exact hm.sub (by decide) | lift_lets | with_reducible exact h | with_reducible apply kpcUnary_within)

theorem execRecutGuard_within {m : Nat} {s t : State} (h : Within m s t) (hm : Covers m 0x400002) : WithinOut m s (execRecutGuard t) := by
  unfold execRecutGuard
  repeat' (first | exact hm.sub (by decide) | with_reducible exact Or.inr rfl | with_reducible exact Or.inr ⟨rfl, rfl⟩
                 | (intro y; refine within_cut (m := m) (s := s) (y := y) ?_ ?_; rotate_left; (intro hy; clear_value y); rotate_right; subst y)
                 | lift_lets | with_reducible exact h | with_reducible assumption | with_reducible apply withinOut_next
                 | with_reducible apply withinOut_ite | with_reducible apply reach_within | with_reducible apply withholdEvents_within
                 | with_reducible apply modProg_within | split)

theorem execKCvt_within {m : Nat} {s t : State} (h : Within m s t) (hm : Covers m 0x200000) (a0 : Lane) (a1 : MType) (a2 : MType) (a3 : Regs) :
    WithinOut m s (execKCvt a0 a1 a2 a3 t) := by
  unfold execKCvt
  repeat' (first | exact hm.sub (by decide) | lift_lets | with_reducible exact h | with_reducible apply kpcData_within)

theorem countAttempt_within {m : Nat} {s t : State} (h : Within m s t) (hm : Covers m 0x100) (a0 : ℕ) : Within m s (countAttempt a0 t) := by
  unfold countAttempt
  repeat' (first | exact hm.sub (by decide) | with_reducible exact Or.inr rfl | (intro y; clear_value y) | lift_lets | with_reducible exact h
                 | with_reducible apply modTrust_within | split)

theorem internalFault_within {m : Nat} {s t : State} (h : Within m s t) (hm : Covers m 0xDEEF707B8) (a0 : ℕ) (a1 : ℕ) :
    Within m s (internalFault a0 a1 t) := by
  unfold internalFault
  repeat' (first | exact hm.sub (by decide) | exact Or.inl (hm.sub (by decide)) | with_reducible exact Or.inr rfl
                 | (intro y; refine within_cut (m := m) (s := s) (y := y) ?_ ?_; rotate_left; (intro hy; clear_value y); rotate_right; subst y)
                 | lift_lets | with_reducible exact h | with_reducible assumption | with_reducible apply within_ite
                 | with_reducible apply modTest_within | with_reducible apply lockOut_within | with_reducible apply modSafety_within)

theorem execKMax_within {m : Nat} {s t : State} (h : Within m s t) (hm : Covers m 0x200000) (a0 : Lane) (a1 : MType) (a2 : Regs) :
    WithinOut m s (execKMax a0 a1 a2 t) := by
  unfold execKMax
  repeat' (first | exact hm.sub (by decide) | lift_lets | with_reducible exact h | with_reducible apply kpcBinary_within)

theorem execLaneFault_within {m : Nat} {s t : State} (h : Within m s t) (hm : Covers m 0xDEEF707B8) (a0 : Lane) (a1 : LaneFaultCause) :
    WithinOut m s (execLaneFault a0 a1 t) := by
  unfold execLaneFault
  repeat' (first | exact hm.sub (by decide) | lift_lets | with_reducible exact h | with_reducible apply withinOut_next
                 | with_reducible apply withinOut_ite | with_reducible apply laneFault_within)

theorem execKFloor_within {m : Nat} {s t : State} (h : Within m s t) (hm : Covers m 0x200000) (a0 : Lane) (a1 : MType) (a2 : Regs) :
    WithinOut m s (execKFloor a0 a1 a2 t) := by
  unfold execKFloor
  repeat' (first | exact hm.sub (by decide) | lift_lets | with_reducible exact h | with_reducible apply kpcUnary_within)

theorem grantArgon_within {m : Nat} {s t : State} (h : Within m s t) (hm : Covers m 0x100110508) (a0 : List Entry) :
    Within m s (grantArgon a0 t) := by
  induction a0 generalizing t with
  | nil => exact h
  | cons e l ih =>
    unfold grantArgon
    split
    · exact ih (completeEntry_within h (hm.sub (by decide)) _ _ _)
    · exact modEntry_within h (hm.sub (by decide)) _ _

theorem execKNot_within {m : Nat} {s t : State} (h : Within m s t) (hm : Covers m 0x200000) (a0 : Lane) (a1 : MType) (a2 : Regs) :
    WithinOut m s (execKNot a0 a1 a2 t) := by
  unfold execKNot
  repeat' (first | exact hm.sub (by decide) | lift_lets | with_reducible exact h | with_reducible apply kpcUnary_within)

theorem execSessionIdleTimeout_within {m : Nat} {s t : State} (h : Within m s t) (hm : Covers m 0x50011078A) (a0 : ℕ) :
    WithinOut m s (execSessionIdleTimeout a0 t) := by
  unfold execSessionIdleTimeout
  repeat' (first | exact hm.sub (by decide) | lift_lets | with_reducible exact h | with_reducible apply withinOut_next
                 | with_reducible apply withinOut_ite | with_reducible apply endSession_within | with_reducible apply reach_within | split)

theorem execKGt_within {m : Nat} {s t : State} (h : Within m s t) (hm : Covers m 0x200000) (a0 : Lane) (a1 : MType) (a2 : Regs) :
    WithinOut m s (execKGt a0 a1 a2 t) := by
  unfold execKGt
  repeat' (first | exact hm.sub (by decide) | lift_lets | with_reducible exact h | with_reducible apply kpcBinary_within)

theorem execLaneRestartDone_within {m : Nat} {s t : State} (h : Within m s t) (hm : Covers m 0x100750588) (a0 : Lane) (a1 : Bool) :
    WithinOut m s (execLaneRestartDone a0 a1 t) := by
  unfold execLaneRestartDone
  repeat' (first | exact hm.sub (by decide) | lift_lets | with_reducible exact h | with_reducible apply withinOut_next
                 | with_reducible apply withinOut_ite | with_reducible apply useEntries_within | with_reducible apply modWindow_within
                 | with_reducible apply modLane_within | with_reducible apply failReshoot_within | split)

theorem execKPosition_within {m : Nat} {s t : State} (h : Within m s t) (hm : Covers m 0x200000) (a0 : Lane) (a1 : ℕ) (a2 : ℕ) :
    WithinOut m s (execKPosition a0 a1 a2 t) := by
  unfold execKPosition
  repeat' (first | exact hm.sub (by decide) | lift_lets | with_reducible exact h | with_reducible apply service_within)

theorem failSlot_within {m : Nat} {s t : State} (h : Within m s t) (hm : Covers m 0x1400000) (a0 : ℕ) : Within m s (failSlot a0 t) := by
  unfold failSlot
  repeat' (first | exact hm.sub (by decide) | lift_lets | with_reducible exact h | with_reducible apply settleAxis_within
                 | with_reducible apply modSlot_within)

theorem execKXor_within {m : Nat} {s t : State} (h : Within m s t) (hm : Covers m 0x200000) (a0 : Lane) (a1 : MType) (a2 : Regs) :
    WithinOut m s (execKXor a0 a1 a2 t) := by
  unfold execKXor
  repeat' (first | exact hm.sub (by decide) | lift_lets | with_reducible exact h | with_reducible apply kpcBinary_within)

theorem execKSqrt_within {m : Nat} {s t : State} (h : Within m s t) (hm : Covers m 0x200000) (a0 : Lane) (a1 : MType) (a2 : Regs) :
    WithinOut m s (execKSqrt a0 a1 a2 t) := by
  unfold execKSqrt
  repeat' (first | exact hm.sub (by decide) | lift_lets | with_reducible exact h | with_reducible apply kpcUnary_within)

theorem execKIf_within {m : Nat} {s t : State} (h : Within m s t) (hm : Covers m 0x200000) (a0 : Lane) (a1 : ℕ) :
    WithinOut m s (execKIf a0 a1 t) := by
  unfold execKIf
  repeat' (first | exact hm.sub (by decide) | lift_lets | with_reducible exact h | with_reducible apply kpc_within)

theorem execKAdd_within {m : Nat} {s t : State} (h : Within m s t) (hm : Covers m 0x200000) (a0 : Lane) (a1 : MType) (a2 : Regs) :
    WithinOut m s (execKAdd a0 a1 a2 t) := by
  unfold execKAdd
  repeat' (first | exact hm.sub (by decide) | lift_lets | with_reducible exact h | with_reducible apply kpcBinary_within)

theorem nextCut_within {m : Nat} {s t : State} (h : Within m s t) (hm : Covers m 0x100410000) : Within m s (nextCut t) := by
  unfold nextCut
  repeat' (first | exact hm.sub (by decide) | with_reducible exact Or.inr rfl | with_reducible exact Or.inr ⟨rfl, rfl⟩
                 | (intro (y : _ → _); subst y; try beta_reduce) | lift_lets | with_reducible exact h | with_reducible apply within_ite
                 | with_reducible apply modProg_within | with_reducible apply modPair_within | with_reducible apply modEntry_within | split)

theorem execTwoLaneLockout_within {m : Nat} {s t : State} (h : Within m s t) (hm : Covers m 0xDEEF707B8) : WithinOut m s (execTwoLaneLockout t) := by
  unfold execTwoLaneLockout
  repeat' (first | exact hm.sub (by decide) | lift_lets | with_reducible exact h | with_reducible apply withinOut_next
                 | with_reducible apply withinOut_ite | with_reducible apply lockOut_within)

theorem execSessionStreamError_within {m : Nat} {s t : State} (h : Within m s t) (hm : Covers m 0x500110788) (a0 : ℕ) :
    WithinOut m s (execSessionStreamError a0 t) := by
  unfold execSessionStreamError
  repeat' (first | exact hm.sub (by decide) | lift_lets | with_reducible exact h | with_reducible apply withinOut_next
                 | with_reducible apply endSession_within)

theorem loginFailed_within {m : Nat} {s t : State} (h : Within m s t) (hm : Covers m 0x2180) (a0 : Entry) : Within m s (loginFailed a0 t) := by
  unfold loginFailed
  repeat' (first | exact hm.sub (by decide)
                 | (intro y; refine within_cut (m := m) (s := s) (y := y) ?_ ?_; rotate_left; (intro hy; clear_value y); rotate_right; subst y)
                 | (intro y; clear_value y) | lift_lets | with_reducible exact h | with_reducible assumption | with_reducible apply within_ite
                 | with_reducible apply recordCredential_within | with_reducible apply modCredential_within | split)

theorem cut_within {m : Nat} {s t : State} (h : Within m s t) (hm : Covers m 0x1400080) (a0 : ℕ) (a1 : CutterReport) : Within2 m s (cut a0 a1 t) := by
  unfold cut
  repeat' (first | exact hm.sub (by decide) | exact Or.inl (hm.sub (by decide)) | with_reducible exact Or.inr rfl
                 | (intro y; refine within_cut (m := m) (s := s) (y := y) ?_ ?_; rotate_left; (intro hy; clear_value y); rotate_right; subst y)
                 | (intro y; clear_value y) | lift_lets | with_reducible exact h | with_reducible assumption | with_reducible apply within2_mk
                 | with_reducible apply recordProgram_within | with_reducible apply modSlot_within | with_reducible apply settleAxis_within
                 | with_reducible apply modProg_within | split)

theorem cut_wstate {m : Nat} {s t : State} (h : Within m s t) (hm : Covers m 0x1400080) (a0 : ℕ) (a1 : CutterReport) : Within m s (cut a0 a1 t).2 :=
  (cut_within h hm a0 a1).out

theorem execKNe_within {m : Nat} {s t : State} (h : Within m s t) (hm : Covers m 0x200000) (a0 : Lane) (a1 : MType) (a2 : Regs) :
    WithinOut m s (execKNe a0 a1 a2 t) := by
  unfold execKNe
  repeat' (first | exact hm.sub (by decide) | lift_lets | with_reducible exact h | with_reducible apply kpcBinary_within)

theorem execCaseOpenSample_within {m : Nat} {s t : State} (h : Within m s t) (hm : Covers m 0x8100) (a0 : Bool) :
    WithinOut m s (execCaseOpenSample a0 t) := by
  unfold execCaseOpenSample
  repeat' (first | exact hm.sub (by decide) | (intro y; clear_value y) | lift_lets | with_reducible exact h | with_reducible apply withinOut_next
                 | with_reducible apply modLull_within)

theorem execKConst_within {m : Nat} {s t : State} (h : Within m s t) (hm : Covers m 0x200000) (a0 : Lane) (a1 : MType) (a2 : ℕ) (a3 : Word64) :
    WithinOut m s (execKConst a0 a1 a2 a3 t) := by
  unfold execKConst
  repeat' (first | exact hm.sub (by decide) | lift_lets | with_reducible exact h | with_reducible apply kpcData_within)

theorem execKBreak_within {m : Nat} {s t : State} (h : Within m s t) (hm : Covers m 0x200000) (a0 : Lane) (a1 : ℕ) :
    WithinOut m s (execKBreak a0 a1 t) := by
  unfold execKBreak
  repeat' (first | exact hm.sub (by decide) | lift_lets | with_reducible exact h | with_reducible apply kpc_within)

theorem execKRol_within {m : Nat} {s t : State} (h : Within m s t) (hm : Covers m 0x200000) (a0 : Lane) (a1 : MType) (a2 : MType) (a3 : Regs) :
    WithinOut m s (execKRol a0 a1 a2 a3 t) := by
  unfold execKRol
  repeat' (first | exact hm.sub (by decide) | lift_lets | with_reducible exact h | with_reducible apply kpcShift_within)

theorem execReshootRetry_within {m : Nat} {s t : State} (h : Within m s t) (hm : Covers m 0x200002) (a0 : Lane) :
    WithinOut m s (execReshootRetry a0 t) := by
  unfold execReshootRetry
  repeat' (first | exact hm.sub (by decide) | (intro y; clear_value y) | lift_lets | with_reducible exact h | with_reducible apply withinOut_next
                 | with_reducible apply withinOut_ite | with_reducible apply startReshoot_within | with_reducible apply reach_within)

theorem execKElse_within {m : Nat} {s t : State} (h : Within m s t) (hm : Covers m 0x200000) (a0 : Lane) : WithinOut m s (execKElse a0 t) := by
  unfold execKElse
  repeat' (first | exact hm.sub (by decide) | lift_lets | with_reducible exact h | with_reducible apply kpc_within)

theorem execKLe_within {m : Nat} {s t : State} (h : Within m s t) (hm : Covers m 0x200000) (a0 : Lane) (a1 : MType) (a2 : Regs) :
    WithinOut m s (execKLe a0 a1 a2 t) := by
  unfold execKLe
  repeat' (first | exact hm.sub (by decide) | lift_lets | with_reducible exact h | with_reducible apply kpcBinary_within)

theorem execKAtan2_within {m : Nat} {s t : State} (h : Within m s t) (hm : Covers m 0x200000) (a0 : Lane) (a1 : MType) (a2 : Regs) :
    WithinOut m s (execKAtan2 a0 a1 a2 t) := by
  unfold execKAtan2
  repeat' (first | exact hm.sub (by decide) | lift_lets | with_reducible exact h | with_reducible apply kpcBinary_within)

theorem execKLt_within {m : Nat} {s t : State} (h : Within m s t) (hm : Covers m 0x200000) (a0 : Lane) (a1 : MType) (a2 : Regs) :
    WithinOut m s (execKLt a0 a1 a2 t) := by
  unfold execKLt
  repeat' (first | exact hm.sub (by decide) | lift_lets | with_reducible exact h | with_reducible apply kpcBinary_within)

theorem execSaRekeyLimit_within {m : Nat} {s t : State} (h : Within m s t) (hm : Covers m 0x400000706) (a0 : ℕ) :
    WithinOut m s (execSaRekeyLimit a0 t) := by
  unfold execSaRekeyLimit
  repeat' (first | exact hm.sub (by decide)
                 | (intro y; refine within_cut (m := m) (s := s) (y := y) ?_ ?_; rotate_left; (intro hy; clear_value y); rotate_right; subst y)
                 | lift_lets | with_reducible exact h | with_reducible assumption | with_reducible apply within_ite
                 | with_reducible apply withinOut_next | with_reducible apply withinOut_ite | with_reducible apply reach_within
                 | with_reducible apply goLive_within | with_reducible apply afterDraw_within | with_reducible apply keyContext_within
                 | with_reducible apply drain_within | split)

theorem execTwoLaneLimitExpiry_within {m : Nat} {s t : State} (h : Within m s t) (hm : Covers m 0x200082) :
    WithinOut m s (execTwoLaneLimitExpiry t) := by
  unfold execTwoLaneLimitExpiry
  repeat' (first | exact hm.sub (by decide)
                 | (intro y; refine within_cut (m := m) (s := s) (y := y) ?_ ?_; rotate_left; (intro hy; clear_value y); rotate_right; subst y)
                 | lift_lets | with_reducible exact h | with_reducible assumption | with_reducible apply withinOut_next
                 | with_reducible apply withinOut_ite | with_reducible apply reach_within | with_reducible apply recordLane_within
                 | with_reducible apply modVoter_within | split)

theorem execKSin_within {m : Nat} {s t : State} (h : Within m s t) (hm : Covers m 0x200000) (a0 : Lane) (a1 : MType) (a2 : Regs) :
    WithinOut m s (execKSin a0 a1 a2 t) := by
  unfold execKSin
  repeat' (first | exact hm.sub (by decide) | lift_lets | with_reducible exact h | with_reducible apply kpcUnary_within)

theorem execKInputStatus_within {m : Nat} {s t : State} (h : Within m s t) (hm : Covers m 0x200000) (a0 : Lane) (a1 : ℕ) (a2 : ℕ) :
    WithinOut m s (execKInputStatus a0 a1 a2 t) := by
  unfold execKInputStatus
  repeat' (first | exact hm.sub (by decide) | lift_lets | with_reducible exact h | with_reducible apply service_within)

theorem execReshootImportDone_within {m : Nat} {s t : State} (h : Within m s t) (hm : Covers m 0x100310588) (a0 : ℕ) (a1 : Word64) :
    WithinOut m s (execReshootImportDone a0 a1 t) := by
  unfold execReshootImportDone
  repeat' (first | exact hm.sub (by decide) | with_reducible exact h | with_reducible apply withinOut_next | with_reducible apply withinOut_ite
                 | with_reducible apply modLane_within | with_reducible apply failReshoot_within | with_reducible apply modReshoot_within | split)

theorem execSaDrainEnd_within {m : Nat} {s t : State} (h : Within m s t) (hm : Covers m 0x502) (a0 : ℕ) : WithinOut m s (execSaDrainEnd a0 t) := by
  unfold execSaDrainEnd
  repeat' (first | exact hm.sub (by decide) | exact Or.inl (hm.sub (by decide)) | with_reducible exact Or.inr rfl | lift_lets
                 | with_reducible exact h | with_reducible apply withinOut_next | with_reducible apply withinOut_ite
                 | with_reducible apply modTrust_within | with_reducible apply reach_within | split)

theorem execMkpduReceive_within {m : Nat} {s t : State} (h : Within m s t) (hm : Covers m 0x400000700) (a0 : ℕ) (a1 : ℕ) (a2 : Bool) :
    WithinOut m s (execMkpduReceive a0 a1 a2 t) := by
  unfold execMkpduReceive
  repeat' (first | exact hm.sub (by decide) | (intro y; clear_value y) | lift_lets | with_reducible exact h | with_reducible apply withinOut_next
                 | with_reducible apply withinOut_ite | with_reducible apply goLive_within | with_reducible apply keyContext_within | split)

theorem execKEnd_within {m : Nat} {s t : State} (h : Within m s t) (hm : Covers m 0x200000) (a0 : Lane) : WithinOut m s (execKEnd a0 t) := by
  unfold execKEnd
  repeat' (first | exact hm.sub (by decide) | lift_lets | with_reducible exact h | with_reducible apply kpc_within)

theorem objectWritten_within {m : Nat} {s t : State} (h : Within m s t) (hm : Covers m 0x101510588) (a0 : Entry) (a1 : ℕ) (a2 : Bytes) :
    Within m s (objectWritten a0 a1 a2 t) := by
  unfold objectWritten
  repeat' (first | exact hm.sub (by decide)
                 | (intro y; refine within_cut (m := m) (s := s) (y := y) ?_ ?_; rotate_left; (intro hy; clear_value y); rotate_right; subst y)
                 | (intro y; clear_value y) | lift_lets | with_reducible exact h | with_reducible assumption | with_reducible apply within_ite
                 | with_reducible apply completeEntry_within | with_reducible apply failSlot_within | with_reducible apply noteInterval_within
                 | with_reducible apply modSlot_within | with_reducible apply slipstream_within | with_reducible apply nextCut_within
                 | with_reducible apply modEntry_within | split)

theorem execKRound_within {m : Nat} {s t : State} (h : Within m s t) (hm : Covers m 0x200000) (a0 : Lane) (a1 : MType) (a2 : MType) (a3 : Regs) :
    WithinOut m s (execKRound a0 a1 a2 a3 t) := by
  unfold execKRound
  repeat' (first | exact hm.sub (by decide) | lift_lets | with_reducible exact h | with_reducible apply kpcData_within)

theorem execKLn_within {m : Nat} {s t : State} (h : Within m s t) (hm : Covers m 0x200000) (a0 : Lane) (a1 : MType) (a2 : Regs) :
    WithinOut m s (execKLn a0 a1 a2 t) := by
  unfold execKLn
  repeat' (first | exact hm.sub (by decide) | lift_lets | with_reducible exact h | with_reducible apply kpcUnary_within)

theorem execKFaults_within {m : Nat} {s t : State} (h : Within m s t) (hm : Covers m 0x200000) (a0 : Lane) (a1 : ℕ) (a2 : ℕ) :
    WithinOut m s (execKFaults a0 a1 a2 t) := by
  unfold execKFaults
  repeat' (first | exact hm.sub (by decide) | lift_lets | with_reducible exact h | with_reducible apply service_within)

theorem execKShl_within {m : Nat} {s t : State} (h : Within m s t) (hm : Covers m 0x200000) (a0 : Lane) (a1 : MType) (a2 : MType) (a3 : Regs) :
    WithinOut m s (execKShl a0 a1 a2 a3 t) := by
  unfold execKShl
  repeat' (first | exact hm.sub (by decide) | lift_lets | with_reducible exact h | with_reducible apply kpcShift_within)

theorem execCredentialLockExpiry_within {m : Nat} {s t : State} (h : Within m s t) (hm : Covers m 0x2102) (a0 : ℕ) :
    WithinOut m s (execCredentialLockExpiry a0 t) := by
  unfold execCredentialLockExpiry
  repeat' (first | exact hm.sub (by decide) | lift_lets | with_reducible exact h | with_reducible apply withinOut_next
                 | with_reducible apply withinOut_ite | with_reducible apply modCredential_within | with_reducible apply reach_within | split)

theorem execKAtan_within {m : Nat} {s t : State} (h : Within m s t) (hm : Covers m 0x200000) (a0 : Lane) (a1 : MType) (a2 : Regs) :
    WithinOut m s (execKAtan a0 a1 a2 t) := by
  unfold execKAtan
  repeat' (first | exact hm.sub (by decide) | lift_lets | with_reducible exact h | with_reducible apply kpcUnary_within)

theorem execKNeg_within {m : Nat} {s t : State} (h : Within m s t) (hm : Covers m 0x200000) (a0 : Lane) (a1 : MType) (a2 : Regs) :
    WithinOut m s (execKNeg a0 a1 a2 t) := by
  unfold execKNeg
  repeat' (first | exact hm.sub (by decide) | lift_lets | with_reducible exact h | with_reducible apply kpcUnary_within)

theorem execKTan_within {m : Nat} {s t : State} (h : Within m s t) (hm : Covers m 0x200000) (a0 : Lane) (a1 : MType) (a2 : Regs) :
    WithinOut m s (execKTan a0 a1 a2 t) := by
  unfold execKTan
  repeat' (first | exact hm.sub (by decide) | lift_lets | with_reducible exact h | with_reducible apply kpcUnary_within)

theorem execKSel_within {m : Nat} {s t : State} (h : Within m s t) (hm : Covers m 0x200000) (a0 : Lane) (a1 : MType) (a2 : Regs) (a3 : ℕ) :
    WithinOut m s (execKSel a0 a1 a2 a3 t) := by
  unfold execKSel
  repeat' (first | exact hm.sub (by decide) | lift_lets | with_reducible exact h | with_reducible apply kpcData_within)

theorem chunkWritten_within {m : Nat} {s t : State} (h : Within m s t) (hm : Covers m 0x101510588) (a0 : Entry) : Within m s (chunkWritten a0 t) := by
  unfold chunkWritten
  repeat' (first | exact hm.sub (by decide)
                 | (intro y; refine within_cut (m := m) (s := s) (y := y) ?_ ?_; rotate_left; (intro hy; clear_value y); rotate_right; subst y)
                 | (intro y; clear_value y) | lift_lets | with_reducible exact h | with_reducible assumption | with_reducible apply within_ite
                 | with_reducible apply completeEntry_within | with_reducible apply settleAxis_within | with_reducible apply modSlot_within
                 | with_reducible apply commitEntry_within | with_reducible apply objectWritten_within | split)

theorem execKSt_within {m : Nat} {s t : State} (h : Within m s t) (hm : Covers m 0x200000) (a0 : Lane) (a1 : MType) (a2 : Regs) (a3 : LeafRef) :
    WithinOut m s (execKSt a0 a1 a2 a3 t) := by
  unfold execKSt
  repeat' (first | exact hm.sub (by decide) | lift_lets | with_reducible exact h | with_reducible apply kpc_within)

theorem execKRor_within {m : Nat} {s t : State} (h : Within m s t) (hm : Covers m 0x200000) (a0 : Lane) (a1 : MType) (a2 : MType) (a3 : Regs) :
    WithinOut m s (execKRor a0 a1 a2 a3 t) := by
  unfold execKRor
  repeat' (first | exact hm.sub (by decide) | lift_lets | with_reducible exact h | with_reducible apply kpcShift_within)

theorem execRetentiveCommitPeriodic_within {m : Nat} {s t : State} (h : Within m s t) (hm : Covers m 0x400002) :
    WithinOut m s (execRetentiveCommitPeriodic t) := by
  unfold execRetentiveCommitPeriodic
  repeat' (first | exact hm.sub (by decide) | lift_lets | with_reducible exact h | with_reducible apply withinOut_next
                 | with_reducible apply withinOut_ite | with_reducible apply beginCommit_within | with_reducible apply reach_within)

theorem execHardwareSessionOpen_within {m : Nat} {s t : State} (h : Within m s t) (hm : Covers m 0x50011078C) (a0 : Bytes) (a1 : Bool) (a2 : Bool) :
    WithinOut m s (execHardwareSessionOpen a0 a1 a2 t) := by
  unfold execHardwareSessionOpen
  repeat' (first | exact hm.sub (by decide)
                 | (intro y; refine within_cut (m := m) (s := s) (y := y) ?_ ?_; rotate_left; (intro hy; clear_value y); rotate_right; subst y)
                 | (intro y; clear_value y) | lift_lets | with_reducible exact h | with_reducible assumption | with_reducible apply within_ite
                 | with_reducible apply withinOut_next | with_reducible apply withinOut_ite | with_reducible apply noteUnchecked_within
                 | with_reducible apply afterDraw_within | with_reducible apply openSession_within | with_reducible apply goLive_within
                 | with_reducible apply keyContext_within | with_reducible apply endSession_within | split)

theorem execKEq_within {m : Nat} {s t : State} (h : Within m s t) (hm : Covers m 0x200000) (a0 : Lane) (a1 : MType) (a2 : Regs) :
    WithinOut m s (execKEq a0 a1 a2 t) := by
  unfold execKEq
  repeat' (first | exact hm.sub (by decide) | lift_lets | with_reducible exact h | with_reducible apply kpcBinary_within)

theorem execKAnd_within {m : Nat} {s t : State} (h : Within m s t) (hm : Covers m 0x200000) (a0 : Lane) (a1 : MType) (a2 : Regs) :
    WithinOut m s (execKAnd a0 a1 a2 t) := by
  unfold execKAnd
  repeat' (first | exact hm.sub (by decide) | lift_lets | with_reducible exact h | with_reducible apply kpcBinary_within)

theorem execKDiv_within {m : Nat} {s t : State} (h : Within m s t) (hm : Covers m 0x200000) (a0 : Lane) (a1 : MType) (a2 : Regs) :
    WithinOut m s (execKDiv a0 a1 a2 t) := by
  unfold execKDiv
  repeat' (first | exact hm.sub (by decide) | lift_lets | with_reducible exact h | with_reducible apply kpcBinary_within)

theorem execKMov_within {m : Nat} {s t : State} (h : Within m s t) (hm : Covers m 0x200000) (a0 : Lane) (a1 : MType) (a2 : Regs) :
    WithinOut m s (execKMov a0 a1 a2 t) := by
  unfold execKMov
  repeat' (first | exact hm.sub (by decide) | lift_lets | with_reducible exact h | with_reducible apply kpcUnary_within)

theorem execKCueState_within {m : Nat} {s t : State} (h : Within m s t) (hm : Covers m 0x200000) (a0 : Lane) (a1 : ℕ) (a2 : ℕ) :
    WithinOut m s (execKCueState a0 a1 a2 t) := by
  unfold execKCueState
  repeat' (first | exact hm.sub (by decide) | lift_lets | with_reducible exact h | with_reducible apply service_within)

theorem execKAbs_within {m : Nat} {s t : State} (h : Within m s t) (hm : Covers m 0x200000) (a0 : Lane) (a1 : MType) (a2 : Regs) :
    WithinOut m s (execKAbs a0 a1 a2 t) := by
  unfold execKAbs
  repeat' (first | exact hm.sub (by decide) | lift_lets | with_reducible exact h | with_reducible apply kpcUnary_within)

theorem execKMin_within {m : Nat} {s t : State} (h : Within m s t) (hm : Covers m 0x200000) (a0 : Lane) (a1 : MType) (a2 : Regs) :
    WithinOut m s (execKMin a0 a1 a2 t) := by
  unfold execKMin
  repeat' (first | exact hm.sub (by decide) | lift_lets | with_reducible exact h | with_reducible apply kpcBinary_within)

theorem execKBlock_within {m : Nat} {s t : State} (h : Within m s t) (hm : Covers m 0x200000) (a0 : Lane) : WithinOut m s (execKBlock a0 t) := by
  unfold execKBlock
  repeat' (first | exact hm.sub (by decide) | lift_lets | with_reducible exact h | with_reducible apply kpc_within)

theorem execKOr_within {m : Nat} {s t : State} (h : Within m s t) (hm : Covers m 0x200000) (a0 : Lane) (a1 : MType) (a2 : Regs) :
    WithinOut m s (execKOr a0 a1 a2 t) := by
  unfold execKOr
  repeat' (first | exact hm.sub (by decide) | lift_lets | with_reducible exact h | with_reducible apply kpcBinary_within)

theorem execKLoop_within {m : Nat} {s t : State} (h : Within m s t) (hm : Covers m 0x200000) (a0 : Lane) (a1 : ℕ) :
    WithinOut m s (execKLoop a0 a1 t) := by
  unfold execKLoop
  repeat' (first | exact hm.sub (by decide) | lift_lets | with_reducible exact h | with_reducible apply kpc_within)

theorem execKTakeInfo_within {m : Nat} {s t : State} (h : Within m s t) (hm : Covers m 0x200000) (a0 : Lane) (a1 : ℕ) (a2 : ℕ) :
    WithinOut m s (execKTakeInfo a0 a1 a2 t) := by
  unfold execKTakeInfo
  repeat' (first | exact hm.sub (by decide) | lift_lets | with_reducible exact h | with_reducible apply service_within)

theorem execReshootExportDone_within {m : Nat} {s t : State} (h : Within m s t) (hm : Covers m 0xDEEF707B8) (a0 : Lane) (a1 : ℕ) (a2 : Word64) :
    WithinOut m s (execReshootExportDone a0 a1 a2 t) := by
  unfold execReshootExportDone
  repeat' (first | exact hm.sub (by decide)
                 | (intro y; refine within_cut (m := m) (s := s) (y := y) ?_ ?_; rotate_left; (intro hy; clear_value y); rotate_right; subst y)
                 | (intro y; clear_value y) | lift_lets | with_reducible exact h | with_reducible assumption
                 | with_reducible apply withinOut_next | with_reducible apply withinOut_ite | with_reducible apply modReshoot_within
                 | with_reducible apply lockOut_within | with_reducible apply modLane_within | split)

theorem execTlsSessionOpen_within {m : Nat} {s t : State} (h : Within m s t) (hm : Covers m 0x30C) (a0 : ℕ) (a1 : ℕ) :
    WithinOut m s (execTlsSessionOpen a0 a1 t) := by
  unfold execTlsSessionOpen
  repeat' (first | exact hm.sub (by decide) | (intro y; clear_value y) | lift_lets | with_reducible exact h | with_reducible apply withinOut_next
                 | with_reducible apply withinOut_ite | with_reducible apply openSession_within | with_reducible apply afterDraw_within)

theorem execKModes_within {m : Nat} {s t : State} (h : Within m s t) (hm : Covers m 0x200000) (a0 : Lane) (a1 : ℕ) (a2 : ℕ) :
    WithinOut m s (execKModes a0 a1 a2 t) := by
  unfold execKModes
  repeat' (first | exact hm.sub (by decide) | lift_lets | with_reducible exact h | with_reducible apply service_within)

theorem execCorrectedMemoryError_within {m : Nat} {s t : State} (h : Within m s t) (hm : Covers m 0x200000) (a0 : Lane) :
    WithinOut m s (execCorrectedMemoryError a0 t) := by
  unfold execCorrectedMemoryError
  repeat' (first | exact hm.sub (by decide) | lift_lets | with_reducible exact h | with_reducible apply withinOut_next
                 | with_reducible apply withinOut_ite | with_reducible apply modHealth_within)

theorem execKCueRequest_within {m : Nat} {s t : State} (h : Within m s t) (hm : Covers m 0x200000) (a0 : Lane) (a1 : ℕ) (a2 : ℕ) :
    WithinOut m s (execKCueRequest a0 a1 a2 t) := by
  unfold execKCueRequest
  repeat' (first | exact hm.sub (by decide) | lift_lets | with_reducible exact h | with_reducible apply service_within)

theorem execKLd_within {m : Nat} {s t : State} (h : Within m s t) (hm : Covers m 0x200000) (a0 : Lane) (a1 : MType) (a2 : Regs) (a3 : LeafRef) :
    WithinOut m s (execKLd a0 a1 a2 a3 t) := by
  unfold execKLd
  repeat' (first | exact hm.sub (by decide) | lift_lets | with_reducible exact h | with_reducible apply kpc_within)

theorem execKCueCancel_within {m : Nat} {s t : State} (h : Within m s t) (hm : Covers m 0x200000) (a0 : Lane) (a1 : ℕ) (a2 : ℕ) :
    WithinOut m s (execKCueCancel a0 a1 a2 t) := by
  unfold execKCueCancel
  repeat' (first | exact hm.sub (by decide) | lift_lets | with_reducible exact h | with_reducible apply service_within)

theorem execKMbxResult_within {m : Nat} {s t : State} (h : Within m s t) (hm : Covers m 0x200000) (a0 : Lane) (a1 : ℕ) (a2 : ℕ) :
    WithinOut m s (execKMbxResult a0 a1 a2 t) := by
  unfold execKMbxResult
  repeat' (first | exact hm.sub (by decide) | lift_lets | with_reducible exact h | with_reducible apply service_within)

theorem execLullLatchRead_within {m : Nat} {s t : State} (h : Within m s t) (hm : Covers m 0x8180) : WithinOut m s (execLullLatchRead t) := by
  unfold execLullLatchRead
  repeat' (first | exact hm.sub (by decide) | lift_lets | with_reducible exact h | with_reducible apply withinOut_next
                 | with_reducible apply withinOut_ite | with_reducible apply modLull_within | with_reducible apply custody_within)

theorem execKFma_within {m : Nat} {s t : State} (h : Within m s t) (hm : Covers m 0x200000) (a0 : Lane) (a1 : MType) (a2 : Regs) (a3 : ℕ) :
    WithinOut m s (execKFma a0 a1 a2 a3 t) := by
  unfold execKFma
  repeat' (first | exact hm.sub (by decide) | lift_lets | with_reducible exact h | with_reducible apply kpcData_within)

theorem execKMul_within {m : Nat} {s t : State} (h : Within m s t) (hm : Covers m 0x200000) (a0 : Lane) (a1 : MType) (a2 : Regs) :
    WithinOut m s (execKMul a0 a1 a2 t) := by
  unfold execKMul
  repeat' (first | exact hm.sub (by decide) | lift_lets | with_reducible exact h | with_reducible apply kpcBinary_within)

theorem execKBits_within {m : Nat} {s t : State} (h : Within m s t) (hm : Covers m 0x200000) (a0 : Lane) (a1 : MType) (a2 : MType) (a3 : Regs) :
    WithinOut m s (execKBits a0 a1 a2 a3 t) := by
  unfold execKBits
  repeat' (first | exact hm.sub (by decide) | lift_lets | with_reducible exact h | with_reducible apply kpcData_within)

theorem execKRint_within {m : Nat} {s t : State} (h : Within m s t) (hm : Covers m 0x200000) (a0 : Lane) (a1 : MType) (a2 : Regs) :
    WithinOut m s (execKRint a0 a1 a2 t) := by
  unfold execKRint
  repeat' (first | exact hm.sub (by decide) | lift_lets | with_reducible exact h | with_reducible apply kpcUnary_within)

theorem execKSub_within {m : Nat} {s t : State} (h : Within m s t) (hm : Covers m 0x200000) (a0 : Lane) (a1 : MType) (a2 : Regs) :
    WithinOut m s (execKSub a0 a1 a2 t) := by
  unfold execKSub
  repeat' (first | exact hm.sub (by decide) | lift_lets | with_reducible exact h | with_reducible apply kpcBinary_within)

theorem execPreLoginTimeout_within {m : Nat} {s t : State} (h : Within m s t) (hm : Covers m 0x50011078A) (a0 : ℕ) :
    WithinOut m s (execPreLoginTimeout a0 t) := by
  unfold execPreLoginTimeout
  repeat' (first | exact hm.sub (by decide) | lift_lets | with_reducible exact h | with_reducible apply withinOut_next
                 | with_reducible apply withinOut_ite | with_reducible apply endSession_within | with_reducible apply reach_within | split)

theorem execArgon2idDone_within {m : Nat} {s t : State} (h : Within m s t) (hm : Covers m 0x100112788) : WithinOut m s (execArgon2idDone t) := by
  unfold execArgon2idDone
  repeat' (first | exact hm.sub (by decide)
                 | (intro y; refine within_cut (m := m) (s := s) (y := y) ?_ ?_; rotate_left; (intro hy; clear_value y); rotate_right; subst y)
                 | (intro y; clear_value y) | lift_lets | with_reducible exact h | with_reducible assumption | with_reducible apply within_ite
                 | with_reducible apply withinOut_next | with_reducible apply loginPassed_within | with_reducible apply completeEntry_within
                 | with_reducible apply loginFailed_within | with_reducible apply grantArgon_within | split)

theorem execKNext_within {m : Nat} {s t : State} (h : Within m s t) (hm : Covers m 0x200000) (a0 : Lane) (a1 : ℕ) :
    WithinOut m s (execKNext a0 a1 t) := by
  unfold execKNext
  repeat' (first | exact hm.sub (by decide) | lift_lets | with_reducible exact h | with_reducible apply kpc_within)

theorem execKReturn_within {m : Nat} {s t : State} (h : Within m s t) (hm : Covers m 0x200000) (a0 : Lane) : WithinOut m s (execKReturn a0 t) := by
  unfold execKReturn
  repeat' (first | exact hm.sub (by decide) | lift_lets | with_reducible exact h | with_reducible apply kpc_within)

theorem execKAcos_within {m : Nat} {s t : State} (h : Within m s t) (hm : Covers m 0x200000) (a0 : Lane) (a1 : MType) (a2 : Regs) :
    WithinOut m s (execKAcos a0 a1 a2 t) := by
  unfold execKAcos
  repeat' (first | exact hm.sub (by decide) | lift_lets | with_reducible exact h | with_reducible apply kpcUnary_within)

theorem execKTimeNow_within {m : Nat} {s t : State} (h : Within m s t) (hm : Covers m 0x200000) (a0 : Lane) (a1 : ℕ) (a2 : ℕ) :
    WithinOut m s (execKTimeNow a0 a1 a2 t) := by
  unfold execKTimeNow
  repeat' (first | exact hm.sub (by decide) | lift_lets | with_reducible exact h | with_reducible apply service_within)

end Sys2Proof.Machine
end

