-- ==== Sys2Proof/Laws/WithinSafety.lean ====
section
/-! SUPPORT. Which parts of the state an operation can change (Sys2Proof/Laws/Within.lean):
position, the safety functions, time, updates, self-tests and the module states. -/

namespace Sys2Proof.Machine

theorem comparatorResult_within {m : Nat} {s t : State} (h : Within m s t) (hm : Covers m 0x200000) (a0 : Bool) :
    Within m s (comparatorResult a0 t) := by
  unfold comparatorResult
  repeat' (first | exact hm.sub (by decide)
                 | (intro y; refine within_cut (m := m) (s := s) (y := y) ?_ ?_; rotate_left; (intro hy; clear_value y); rotate_right; subst y)
                 | intro _ | lift_lets | with_reducible exact h | with_reducible assumption | with_reducible apply within_foldl
                 | with_reducible apply modVoter_within | with_reducible apply modHealth_within)

theorem recordUpdate_within {m : Nat} {s t : State} (h : Within m s t) (hm : Covers m 0x80) (a0 : ℕ) (a1 : Bytes) :
    Within m s (recordUpdate a0 a1 t) := by
  unfold recordUpdate
  repeat' (first | exact hm.sub (by decide) | lift_lets | with_reducible exact h | with_reducible apply record_within)

theorem resetGroup_within {m : Nat} {s t : State} (h : Within m s t) (hm : Covers m 0xD82690150) (a0 : ℕ) : Within m s (resetGroup a0 t) := by
  unfold resetGroup
  simp only
  split <;> repeat' (first | with_reducible exact h | exact hm.sub (by decide) | with_reducible exact Or.inr rfl | with_reducible exact Or.inr ⟨rfl, rfl⟩ | exact Or.inl (hm.sub (by decide)) |
    with_reducible apply modTrust_within | with_reducible apply modMbx_within | with_reducible apply modVoter_within |
    with_reducible apply modModule_within | with_reducible apply modProg_within | with_reducible apply modPair_within |
    with_reducible apply modSignal_within | with_reducible apply modNet_within | with_reducible apply modMvb_within |
    with_reducible apply modClock_within | with_reducible apply modAct_within)

theorem signalPosition_within {m : Nat} {s t : State} (h : Within m s t) (hm : Covers m 0x2000000) (a0 : PositionState) :
    Within m s (signalPosition a0 t) := by
  unfold signalPosition
  repeat' (first | exact hm.sub (by decide) | lift_lets | with_reducible exact h | with_reducible apply within_ite
                 | with_reducible apply pulse_within)

theorem resetParameters_within {m : Nat} {s t : State} (h : Within m s t) (hm : Covers m 0xDFEF707B8) : Within m s (resetParameters t) := by
  unfold resetParameters
  repeat' (first | exact hm.sub (by decide) | exact Or.inl (hm.sub (by decide))
                 | (intro y; refine within_cut (m := m) (s := s) (y := y) ?_ ?_; rotate_left; (intro hy; clear_value y); rotate_right; subst y)
                 | (intro y; clear_value y) | lift_lets | with_reducible exact h | with_reducible assumption
                 | with_reducible apply modSafety_within | with_reducible apply lockOut_within | with_reducible apply changeLog_within
                 | with_reducible apply watchPairs_within)

theorem applyResets_within {m : Nat} {s t : State} (h : Within m s t) (hm : Covers m 0xDFEFF07F8) : Within m s (applyResets t) := by
  unfold applyResets
  repeat' (first | exact hm.sub (by decide)
                 | (intro y; refine within_cut (m := m) (s := s) (y := y) ?_ ?_; rotate_left; (intro hy; clear_value y); rotate_right; subst y)
                 | (intro y; clear_value y) | intro _ | lift_lets | with_reducible exact h | with_reducible assumption
                 | with_reducible apply within_ite | with_reducible apply within_foldl | with_reducible apply recordUpdate_within
                 | with_reducible apply resetGroup_within | with_reducible apply signalPosition_within | with_reducible apply modPos_within
                 | with_reducible apply resetParameters_within)

theorem setAxis_within {m : Nat} {s t : State} (h : Within m s t) (hm : Covers m 0x1508110788) (a0 : ℕ) : Within m s (setAxis a0 t) := by
  unfold setAxis
  repeat' (first | exact hm.sub (by decide) | lift_lets | with_reducible exact h | with_reducible apply testGate_within
                 | with_reducible apply setReason_within | with_reducible apply modUpdate_within)

theorem setSlotState_within {m : Nat} {s t : State} (h : Within m s t) (hm : Covers m 0x1000000000) (a0 : ℕ) (a1 : ℕ) :
    Within m s (setSlotState a0 a1 t) := by
  unfold setSlotState
  repeat' (first | exact hm.sub (by decide) | lift_lets | with_reducible exact h | with_reducible apply modUpdate_within)

theorem trialPass_within {m : Nat} {s t : State} (h : Within m s t) (hm : Covers m 0x1DFEFF47F8) : Within m s (trialPass t) := by
  unfold trialPass
  repeat' (first | exact hm.sub (by decide)
                 | (intro y; refine within_cut (m := m) (s := s) (y := y) ?_ ?_; rotate_left; (intro hy; clear_value y); rotate_right; subst y)
                 | (intro (y : _ → _); subst y; try beta_reduce) | (intro y; clear_value y) | intro _ | lift_lets | with_reducible exact h
                 | with_reducible assumption | with_reducible apply within_foldl | with_reducible apply raiseFloor_within
                 | with_reducible apply applyResets_within | with_reducible apply modUpdate_within | with_reducible apply recordUpdate_within
                 | with_reducible apply setAxis_within | with_reducible apply setSlotState_within)

theorem enterState_within {m : Nat} {s t : State} (h : Within m s t) (hm : Covers m 0x5081107B8) (a0 : ModuleState) :
    Within m s (enterState a0 t) := by
  unfold enterState
  repeat' (first | exact hm.sub (by decide) | exact Or.inl (hm.sub (by decide))
                 | (intro y; refine within_cut (m := m) (s := s) (y := y) ?_ ?_; rotate_left; (intro hy; clear_value y); rotate_right; subst y)
                 | intro _ | lift_lets | with_reducible exact h | with_reducible assumption | with_reducible apply within_ite
                 | with_reducible apply modModule_within | with_reducible apply startHeartbeat_within | with_reducible apply setReason_within
                 | with_reducible apply testGate_within)

theorem leaveProving_within {m : Nat} {s t : State} (h : Within m s t) (hm : Covers m 0xD8E7747B8) : Within m s (leaveProving t) := by
  unfold leaveProving
  repeat' (first | exact hm.sub (by decide) | exact Or.inl (hm.sub (by decide))
                 | (intro y; refine within_cut (m := m) (s := s) (y := y) ?_ ?_; rotate_left; (intro hy; clear_value y); rotate_right; subst y)
                 | (intro y; clear_value y) | lift_lets | with_reducible exact h | with_reducible assumption | with_reducible apply within_ite
                 | with_reducible apply modModule_within | with_reducible apply enterState_within | with_reducible apply startAtBoot_within)

theorem provingPassed_within {m : Nat} {s t : State} (h : Within m s t) (hm : Covers m 0x1DFEFF47F8) : Within m s (provingPassed t) := by
  unfold provingPassed
  repeat' (first | exact hm.sub (by decide)
                 | (intro y; refine within_cut (m := m) (s := s) (y := y) ?_ ?_; rotate_left; (intro hy; clear_value y); rotate_right; subst y)
                 | lift_lets | with_reducible exact h | with_reducible assumption | with_reducible apply within_ite
                 | with_reducible apply comparatorResult_within | with_reducible apply trialPass_within | with_reducible apply enterState_within
                 | with_reducible apply leaveProving_within)

theorem cmdSafetyParamActivate_within {m : Nat} (hm : Covers m 0x158114188) : WithinC m cmdSafetyParamActivate := by
  refine ⟨fun e s t h => ?_⟩
  unfold cmdSafetyParamActivate
  repeat' (first | exact hm.sub (by decide) | exact Or.inl (hm.sub (by decide)) | with_reducible exact Or.inr ⟨rfl, rfl⟩
                 | (intro y; refine within_cut (m := m) (s := s) (y := y) ?_ ?_; rotate_left; (intro hy; clear_value y); rotate_right; subst y)
                 | (intro y; clear_value y) | intro _ | lift_lets | with_reducible exact h | with_reducible assumption
                 | with_reducible apply within1_mk | with_reducible apply allOutputsOff_within | with_reducible apply commitEntry_within
                 | with_reducible apply faultsGone_within | with_reducible apply modSafety_within | with_reducible apply unproveAll_within
                 | with_reducible apply raiseFloor_within | with_reducible apply changeLog_within | with_reducible apply watchPairs_within
                 | with_reducible apply forwardSettings_within | with_reducible apply evaluateGates_within | with_reducible apply sized_wstate
                 | with_reducible apply fails_wstate | with_reducible apply answers_wstate | split)

theorem cmdUpdateStatus_within {m : Nat} : WithinC m cmdUpdateStatus := by
  refine ⟨fun e s t h => ?_⟩
  unfold cmdUpdateStatus
  repeat' (first | (intro (y : _ → _); subst y; try beta_reduce) | (intro y; clear_value y) | intro _ | lift_lets | with_reducible exact h
                 | with_reducible assumption | with_reducible apply within1_mk | with_reducible apply sized_wstate
                 | with_reducible apply answers_wstate)

theorem unschedule_within {m : Nat} {s t : State} (h : Within m s t) (hm : Covers m 0x1000000000) : Within m s (unschedule t) := by
  unfold unschedule
  repeat' (first | exact hm.sub (by decide) | lift_lets | with_reducible exact h | with_reducible apply modUpdate_within)

theorem modSet_within {m : Nat} {s t : State} (h : Within m s t) (hm : Covers m 0x1000000000) (a0 : ℕ) (a1 : FirmwareSet → FirmwareSet) :
    Within m s (modSet a0 a1 t) := by
  unfold modSet
  repeat' (first | exact hm.sub (by decide) | lift_lets | with_reducible exact h | with_reducible apply modUpdate_within)

theorem forwardSchedule_within {m : Nat} {s t : State} (h : Within m s t) (hm : Covers m 0x100100008) : Within m s (forwardSchedule t) := by
  unfold forwardSchedule
  repeat' (first | exact hm.sub (by decide) | lift_lets | with_reducible exact h | with_reducible apply within_ite
                 | with_reducible apply slipstream_within)

theorem cmdUpdateCancel_within {m : Nat} (hm : Covers m 0x1508110788) : WithinC m cmdUpdateCancel := by
  refine ⟨fun e s t h => ?_⟩
  unfold cmdUpdateCancel
  repeat' (first | exact hm.sub (by decide)
                 | (intro y; refine within_cut (m := m) (s := s) (y := y) ?_ ?_; rotate_left; (intro hy; clear_value y); rotate_right; subst y)
                 | intro _ | lift_lets | with_reducible exact h | with_reducible assumption | with_reducible apply within_ite
                 | with_reducible apply within1_mk | with_reducible apply unschedule_within | with_reducible apply setAxis_within
                 | with_reducible apply setSlotState_within | with_reducible apply modSet_within | with_reducible apply forwardSchedule_within
                 | with_reducible apply sized_wstate | with_reducible apply fails_wstate | with_reducible apply answers_wstate | split)

theorem cmdTestStatus_within {m : Nat} : WithinC m cmdTestStatus := by
  refine ⟨fun e s t h => ?_⟩
  unfold cmdTestStatus
  repeat' (first | (intro (y : _ → _); subst y; try beta_reduce) | (intro y; clear_value y) | intro _ | lift_lets | with_reducible exact h
                 | with_reducible assumption | with_reducible apply within1_mk | with_reducible apply sized_wstate
                 | with_reducible apply answers_wstate)

theorem cmdLockoutEnter_within {m : Nat} (hm : Covers m 0xDEEF707B8) : WithinC m cmdLockoutEnter := by
  refine ⟨fun e s t h => ?_⟩
  unfold cmdLockoutEnter
  repeat' (first | exact hm.sub (by decide) | intro _ | lift_lets | with_reducible exact h | with_reducible assumption
                 | with_reducible apply within1_mk | with_reducible apply lockOut_within | with_reducible apply commitEntry_within
                 | with_reducible apply sized_wstate | with_reducible apply answers_wstate)

theorem enterHoldover_within {m : Nat} {s t : State} (h : Within m s t) (hm : Covers m 0x2000040) : Within m s (enterHoldover t) := by
  unfold enterHoldover
  repeat' (first | exact hm.sub (by decide) | (intro y; clear_value y) | lift_lets | with_reducible exact h | with_reducible apply within_ite
                 | with_reducible apply pulse_within | with_reducible apply modClock_within | with_reducible apply setAddend_within)

theorem cmdTimeConfigure_within {m : Nat} (hm : Covers m 0x2000040) : WithinC m cmdTimeConfigure := by
  refine ⟨fun e s t h => ?_⟩
  unfold cmdTimeConfigure
  repeat' (first | exact hm.sub (by decide)
                 | (intro y; refine within_cut (m := m) (s := s) (y := y) ?_ ?_; rotate_left; (intro hy; clear_value y); rotate_right; subst y)
                 | (intro y; clear_value y) | intro _ | lift_lets | with_reducible exact h | with_reducible assumption
                 | with_reducible apply within_ite | with_reducible apply within1_mk | with_reducible apply modClock_within
                 | with_reducible apply enterHoldover_within | with_reducible apply sized_wstate | with_reducible apply fails_wstate
                 | with_reducible apply answers_wstate | split)

theorem cmdMailboxCounters_within {m : Nat} : WithinC m cmdMailboxCounters := by
  refine ⟨fun e s t h => ?_⟩
  unfold cmdMailboxCounters
  repeat' (first | (intro y; clear_value y) | intro _ | lift_lets | with_reducible exact h | with_reducible assumption
                 | with_reducible apply within1_mk | with_reducible apply sized_wstate | with_reducible apply answers_wstate)

theorem cmdModuleInfo_within {m : Nat} : WithinC m cmdModuleInfo := by
  refine ⟨fun e s t h => ?_⟩
  unfold cmdModuleInfo
  repeat' (first | (intro y; clear_value y) | intro _ | lift_lets | with_reducible exact h | with_reducible assumption
                 | with_reducible apply within1_mk | with_reducible apply sized_wstate | with_reducible apply answers_wstate)

theorem cmdUpdateStage_within {m : Nat} : WithinC m cmdUpdateStage := by
  refine ⟨fun e s t h => ?_⟩
  unfold cmdUpdateStage
  repeat' (first | intro _ | lift_lets | with_reducible exact h | with_reducible assumption | with_reducible apply within1_mk
                 | with_reducible apply needing_wstate | with_reducible apply fails_wstate | split)

theorem cmdWindowClose_within {m : Nat} (hm : Covers m 0x4000000) : WithinC m cmdWindowClose := by
  refine ⟨fun e s t h => ?_⟩
  unfold cmdWindowClose
  repeat' (first | exact hm.sub (by decide) | intro _ | lift_lets | with_reducible exact h | with_reducible assumption
                 | with_reducible apply within1_mk | with_reducible apply modPos_within | with_reducible apply sized_wstate)

theorem cmdChangeLogRead_within {m : Nat} : WithinC m cmdChangeLogRead := by
  refine ⟨fun e s t h => ?_⟩
  unfold cmdChangeLogRead
  repeat' (first | (intro y; clear_value y) | intro _ | lift_lets | with_reducible exact h | with_reducible assumption
                 | with_reducible apply within1_mk | with_reducible apply sized_wstate | with_reducible apply fails_wstate
                 | with_reducible apply answers_wstate | split)

theorem cmdSafetyStatus_within {m : Nat} : WithinC m cmdSafetyStatus := by
  refine ⟨fun e s t h => ?_⟩
  unfold cmdSafetyStatus
  repeat' (first | (intro y; clear_value y) | intro _ | lift_lets | with_reducible exact h | with_reducible assumption
                 | with_reducible apply within1_mk | with_reducible apply sized_wstate | with_reducible apply answers_wstate)

theorem cmdSafeIoTest_within {m : Nat} (hm : Covers m 0x8000000) : WithinC m cmdSafeIoTest := by
  refine ⟨fun e s t h => ?_⟩
  unfold cmdSafeIoTest
  repeat' (first | exact hm.sub (by decide) | with_reducible exact Or.inr rfl | with_reducible exact Or.inr ⟨rfl, rfl⟩
                 | (intro y; refine within_cut (m := m) (s := s) (y := y) ?_ ?_; rotate_left; (intro hy; clear_value y); rotate_right; subst y)
                 | intro _ | lift_lets | with_reducible exact h | with_reducible assumption | with_reducible apply within1_mk
                 | with_reducible apply modSafety_within | with_reducible apply sized_wstate | with_reducible apply answers_wstate | split)

theorem cmdTestExit_within {m : Nat} (hm : Covers m 0x500110788) : WithinC m cmdTestExit := by
  refine ⟨fun e s t h => ?_⟩
  unfold cmdTestExit
  repeat' (first | exact hm.sub (by decide) | intro _ | lift_lets | with_reducible exact h | with_reducible assumption
                 | with_reducible apply within1_mk | with_reducible apply testOff_within | with_reducible apply sized_wstate
                 | with_reducible apply answers_wstate | with_reducible apply fails_wstate | split)

theorem cmdClassControl_within {m : Nat} (hm : Covers m 0x984390588) : WithinC m cmdClassControl := by
  refine ⟨fun e s t h => ?_⟩
  unfold cmdClassControl
  repeat' (first | exact hm.sub (by decide) | exact Or.inl (hm.sub (by decide)) | with_reducible exact Or.inr rfl
                 | with_reducible exact Or.inr ⟨rfl, rfl⟩
                 | (intro y; refine within_cut (m := m) (s := s) (y := y) ?_ ?_; rotate_left; (intro hy; clear_value y); rotate_right; subst y)
                 | (intro y; clear_value y) | intro _ | lift_lets | with_reducible exact h | with_reducible assumption
                 | with_reducible apply within1_mk | with_reducible apply modMbx_within | with_reducible apply cancelTargets_within
                 | with_reducible apply sized_wstate | with_reducible apply fails_wstate | with_reducible apply answers_wstate | split)

theorem cmdSquallSet_within {m : Nat} (hm : Covers m 0x100000) : WithinC m cmdSquallSet := by
  refine ⟨fun e s t h => ?_⟩
  unfold cmdSquallSet
  repeat' (first | exact hm.sub (by decide) | intro _ | lift_lets | with_reducible exact h | with_reducible assumption
                 | with_reducible apply within1_mk | with_reducible apply modTest_within | with_reducible apply sized_wstate
                 | with_reducible apply fails_wstate | with_reducible apply answers_wstate | split)

theorem cmdPositionStatus_within {m : Nat} : WithinC m cmdPositionStatus := by
  refine ⟨fun e s t h => ?_⟩
  unfold cmdPositionStatus
  repeat' (first | (intro y; clear_value y) | intro _ | lift_lets | with_reducible exact h | with_reducible assumption
                 | with_reducible apply within1_mk | with_reducible apply sized_wstate | with_reducible apply answers_wstate)

theorem cmdTimePortStatus_within {m : Nat} : WithinC m cmdTimePortStatus := by
  refine ⟨fun e s t h => ?_⟩
  unfold cmdTimePortStatus
  repeat' (first | (intro y; clear_value y) | intro _ | lift_lets | with_reducible exact h | with_reducible assumption
                 | with_reducible apply within1_mk | with_reducible apply sized_wstate | with_reducible apply fails_wstate
                 | with_reducible apply answers_wstate | split)

theorem cmdTestEnter_within {m : Nat} (hm : Covers m 0x100084) : WithinC m cmdTestEnter := by
  refine ⟨fun e s t h => ?_⟩
  unfold cmdTestEnter
  repeat' (first | exact hm.sub (by decide)
                 | (intro y; refine within_cut (m := m) (s := s) (y := y) ?_ ?_; rotate_left; (intro hy; clear_value y); rotate_right; subst y)
                 | (intro y; clear_value y) | intro _ | lift_lets | with_reducible exact h | with_reducible assumption
                 | with_reducible apply within_ite | with_reducible apply within1_mk | with_reducible apply afterDraw_within
                 | with_reducible apply modTest_within | with_reducible apply record_within | with_reducible apply sized_wstate
                 | with_reducible apply fails_wstate | with_reducible apply answers_wstate | split)

theorem cmdModeRequest_within {m : Nat} (hm : Covers m 0xD8EF747B8) : WithinC m cmdModeRequest := by
  refine ⟨fun e s t h => ?_⟩
  unfold cmdModeRequest
  repeat' (first | exact hm.sub (by decide)
                 | (intro y; refine within_cut (m := m) (s := s) (y := y) ?_ ?_; rotate_left; (intro hy; clear_value y); rotate_right; subst y)
                 | (intro y; clear_value y) | intro _ | lift_lets | with_reducible exact h | with_reducible assumption
                 | with_reducible apply within_ite | with_reducible apply within1_mk | with_reducible apply enterState_within
                 | with_reducible apply startAtBoot_within | with_reducible apply dropAndForward_within | with_reducible apply sized_wstate
                 | with_reducible apply fails_wstate | with_reducible apply answers_wstate | split)

theorem stepClock_within {m : Nat} {s t : State} (h : Within m s t) (hm : Covers m 0x40C4000C8) (a0 : ℕ) (a1 : ℕ) (a2 : ℕ) (a3 : ℕ) :
    Within m s (stepClock a0 a1 a2 a3 t) := by
  unfold stepClock
  repeat' (first | exact hm.sub (by decide)
                 | (intro y; refine within_cut (m := m) (s := s) (y := y) ?_ ?_; rotate_left; (intro hy; clear_value y); rotate_right; subst y)
                 | (intro y; clear_value y) | lift_lets | with_reducible exact h | with_reducible assumption
                 | with_reducible apply setLocal_within | with_reducible apply modClock_within | with_reducible apply record_within
                 | with_reducible apply cuesAtStep_within | with_reducible apply skipLaunches_within)

theorem cmdTimeSet_within {m : Nat} (hm : Covers m 0x40C4081CC) : WithinC m cmdTimeSet := by
  refine ⟨fun e s t h => ?_⟩
  unfold cmdTimeSet
  repeat' (first | exact hm.sub (by decide)
                 | (intro y; refine within_cut (m := m) (s := s) (y := y) ?_ ?_; rotate_left; (intro hy; clear_value y); rotate_right; subst y)
                 | (intro y; clear_value y) | intro _ | lift_lets | with_reducible exact h | with_reducible assumption
                 | with_reducible apply within1_mk | with_reducible apply stepClock_within | with_reducible apply setLull_within
                 | with_reducible apply sized_wstate | with_reducible apply fails_wstate | with_reducible apply answers_wstate | split)

theorem cmdModuleStatus_within {m : Nat} : WithinC m cmdModuleStatus := by
  refine ⟨fun e s t h => ?_⟩
  unfold cmdModuleStatus
  repeat' (first | intro _ | lift_lets | with_reducible exact h | with_reducible assumption | with_reducible apply within1_mk
                 | with_reducible apply sized_wstate | with_reducible apply answers_wstate)

theorem cmdUpdateSchedule_within {m : Nat} (hm : Covers m 0x1100100008) : WithinC m cmdUpdateSchedule := by
  refine ⟨fun e s t h => ?_⟩
  unfold cmdUpdateSchedule
  repeat' (first | exact hm.sub (by decide)
                 | (intro y; refine within_cut (m := m) (s := s) (y := y) ?_ ?_; rotate_left; (intro hy; clear_value y); rotate_right; subst y)
                 | (intro y; clear_value y) | intro _ | lift_lets | with_reducible exact h | with_reducible assumption
                 | with_reducible apply within1_mk | with_reducible apply forwardSchedule_within | with_reducible apply modUpdate_within
                 | with_reducible apply unschedule_within | with_reducible apply sized_wstate | with_reducible apply fails_wstate | split)

theorem cmdPositionConfigure_within {m : Nat} (hm : Covers m 0x10E100088) : WithinC m cmdPositionConfigure := by
  refine ⟨fun e s t h => ?_⟩
  unfold cmdPositionConfigure
  repeat' (first | exact hm.sub (by decide)
                 | (intro y; refine within_cut (m := m) (s := s) (y := y) ?_ ?_; rotate_left; (intro hy; clear_value y); rotate_right; subst y)
                 | (intro y; clear_value y) | intro _ | lift_lets | with_reducible exact h | with_reducible assumption
                 | with_reducible apply within1_mk | with_reducible apply record_within | with_reducible apply forwardSettings_within
                 | with_reducible apply evaluateGates_within | with_reducible apply closeWindows_within
                 | with_reducible apply signalPosition_within | with_reducible apply modPos_within | with_reducible apply sized_wstate
                 | with_reducible apply fails_wstate | with_reducible apply answers_wstate | split)

theorem cmdTokenQuery_within {m : Nat} : WithinC m cmdTokenQuery := by
  refine ⟨fun e s t h => ?_⟩
  unfold cmdTokenQuery
  repeat' (first | intro _ | lift_lets | with_reducible exact h | with_reducible assumption | with_reducible apply within1_mk
                 | with_reducible apply sized_wstate | with_reducible apply fails_wstate | with_reducible apply answers_wstate | split)

theorem cmdPositionMark_within {m : Nat} (hm : Covers m 0x4000000) : WithinC m cmdPositionMark := by
  refine ⟨fun e s t h => ?_⟩
  unfold cmdPositionMark
  repeat' (first | exact hm.sub (by decide) | intro _ | lift_lets | with_reducible exact h | with_reducible assumption
                 | with_reducible apply within1_mk | with_reducible apply modPos_within | with_reducible apply sized_wstate
                 | with_reducible apply fails_wstate | split)

theorem cmdTimeStatus_within {m : Nat} : WithinC m cmdTimeStatus := by
  refine ⟨fun e s t h => ?_⟩
  unfold cmdTimeStatus
  repeat' (first | (intro y; clear_value y) | intro _ | lift_lets | with_reducible exact h | with_reducible assumption
                 | with_reducible apply within1_mk | with_reducible apply sized_wstate | with_reducible apply answers_wstate)

theorem cmdPositionCounters_within {m : Nat} : WithinC m cmdPositionCounters := by
  refine ⟨fun e s t h => ?_⟩
  unfold cmdPositionCounters
  repeat' (first | (intro y; clear_value y) | intro _ | lift_lets | with_reducible exact h | with_reducible assumption
                 | with_reducible apply within1_mk | with_reducible apply sized_wstate | with_reducible apply answers_wstate)

theorem cmdPositionAt_within {m : Nat} : WithinC m cmdPositionAt := by
  refine ⟨fun e s t h => ?_⟩
  unfold cmdPositionAt
  repeat' (first | intro _ | lift_lets | with_reducible exact h | with_reducible assumption | with_reducible apply within1_mk
                 | with_reducible apply sized_wstate | with_reducible apply fails_wstate | with_reducible apply answers_wstate | split)

theorem cmdSelfTestRun_within {m : Nat} (hm : Covers m 0x300000) : WithinC m cmdSelfTestRun := by
  refine ⟨fun e s t h => ?_⟩
  unfold cmdSelfTestRun
  repeat' (first | exact hm.sub (by decide) | (intro (y : _ → _); subst y; try beta_reduce) | intro _ | lift_lets | with_reducible exact h
                 | with_reducible assumption | with_reducible apply within1_mk | with_reducible apply modTest_within
                 | with_reducible apply modVoter_within | with_reducible apply sized_wstate | with_reducible apply answers_wstate | split)

theorem cmdLockoutReset_within {m : Nat} (hm : Covers m 0x8000000) : WithinC m cmdLockoutReset := by
  refine ⟨fun e s t h => ?_⟩
  unfold cmdLockoutReset
  repeat' (first | exact hm.sub (by decide) | with_reducible exact Or.inr rfl | with_reducible exact Or.inr ⟨rfl, rfl⟩ | intro _ | lift_lets
                 | with_reducible exact h | with_reducible assumption | with_reducible apply within1_mk | with_reducible apply modSafety_within
                 | with_reducible apply sized_wstate | with_reducible apply fails_wstate | split)

theorem cmdModuleRestart_within {m : Nat} (hm : Covers m 0x10) : WithinC m cmdModuleRestart := by
  refine ⟨fun e s t h => ?_⟩
  unfold cmdModuleRestart
  repeat' (first | exact hm.sub (by decide) | with_reducible exact Or.inr rfl | intro _ | lift_lets | with_reducible exact h
                 | with_reducible assumption | with_reducible apply within1_mk | with_reducible apply dueRestart_within
                 | with_reducible apply modModule_within | with_reducible apply sized_wstate | with_reducible apply fails_wstate | split)

theorem cmdSafetyParamLoad_within {m : Nat} (hm : Covers m 0x8000080) : WithinC m cmdSafetyParamLoad := by
  refine ⟨fun e s t h => ?_⟩
  unfold cmdSafetyParamLoad
  repeat' (first | exact hm.sub (by decide) | with_reducible exact Or.inr rfl | with_reducible exact Or.inr ⟨rfl, rfl⟩ | lift_lets
                 | with_reducible exact h | with_reducible apply within1_mk | with_reducible apply modSafety_within
                 | with_reducible apply noteInterval_within | with_reducible apply fails_wstate | with_reducible apply answers_wstate | split)

theorem packageWritten_within {m : Nat} {s t : State} (h : Within m s t) (hm : Covers m 0x1508110798) (a0 : Entry) (a1 : Bytes) :
    Within m s (packageWritten a0 a1 t) := by
  unfold packageWritten
  repeat' (first | exact hm.sub (by decide) | with_reducible exact Or.inr rfl
                 | (intro y; refine within_cut (m := m) (s := s) (y := y) ?_ ?_; rotate_left; (intro hy; clear_value y); rotate_right; subst y)
                 | (intro y; clear_value y) | lift_lets | with_reducible exact h | with_reducible assumption | with_reducible apply within_ite
                 | with_reducible apply completeEntry_within | with_reducible apply unschedule_within | with_reducible apply setAxis_within
                 | with_reducible apply modModule_within | with_reducible apply modSet_within | with_reducible apply setSlotState_within
                 | with_reducible apply forwardSchedule_within | split)

theorem stageWritten_within {m : Nat} {s t : State} (h : Within m s t) (hm : Covers m 0x1508110798) (a0 : Entry) :
    Within m s (stageWritten a0 t) := by
  unfold stageWritten
  repeat' (first | exact hm.sub (by decide)
                 | (intro y; refine within_cut (m := m) (s := s) (y := y) ?_ ?_; rotate_left; (intro hy; clear_value y); rotate_right; subst y)
                 | (intro y; clear_value y) | lift_lets | with_reducible exact h | with_reducible assumption | with_reducible apply within_ite
                 | with_reducible apply commitEntry_within | with_reducible apply setSlotState_within | with_reducible apply modSet_within
                 | with_reducible apply packageWritten_within | with_reducible apply modUpdate_within | with_reducible apply completeEntry_within)

theorem applyMark_within {m : Nat} {s t : State} (h : Within m s t) (hm : Covers m 0x104110588) (a0 : Entry) : Within m s (applyMark a0 t) := by
  unfold applyMark
  repeat' (first | exact hm.sub (by decide)
                 | (intro y; refine within_cut (m := m) (s := s) (y := y) ?_ ?_; rotate_left; (intro hy; clear_value y); rotate_right; subst y)
                 | (intro y; clear_value y) | lift_lets | with_reducible exact h | with_reducible assumption | with_reducible apply within_ite
                 | with_reducible apply completeEntry_within | with_reducible apply modPos_within | with_reducible apply commitEntry_within
                 | with_reducible apply record_within | split)

theorem applyWindowClose_within {m : Nat} {s t : State} (h : Within m s t) (hm : Covers m 0x108110508) (a0 : Entry) :
    Within m s (applyWindowClose a0 t) := by
  unfold applyWindowClose
  repeat' (first | exact hm.sub (by decide)
                 | (intro y; refine within_cut (m := m) (s := s) (y := y) ?_ ?_; rotate_left; (intro hy; clear_value y); rotate_right; subst y)
                 | (intro y; clear_value y) | intro _ | lift_lets | with_reducible exact h | with_reducible assumption
                 | with_reducible apply within_foldl | with_reducible apply closeWindow_within | with_reducible apply commitEntry_within
                 | with_reducible apply completeEntry_within)

theorem waitingTick_within {m : Nat} {s t : State} (h : Within m s t) (hm : Covers m 0x10C110588) : Within m s (waitingTick t) := by
  unfold waitingTick
  repeat' (first | exact hm.sub (by decide) | (intro y; clear_value y) | intro _ | lift_lets | with_reducible exact h | with_reducible assumption
                 | with_reducible apply within_ite | with_reducible apply within_foldl | with_reducible apply applyMark_within
                 | with_reducible apply applyWindowClose_within | with_reducible apply modPos_within | split)

theorem endForwarded_within {m : Nat} {s t : State} (h : Within m s t) (hm : Covers m 0x106710508) : Within m s (endForwarded t) := by
  unfold endForwarded
  repeat' (first | exact hm.sub (by decide) | lift_lets | with_reducible exact h | with_reducible apply finishStop_within
                 | with_reducible apply beginCommit_within | with_reducible apply endCues_within | with_reducible apply abandonAll_within
                 | with_reducible apply endActivations_within)

theorem armUpdateReset_within {m : Nat} {s t : State} (h : Within m s t) (hm : Covers m 0x1000000010) : Within m s (armUpdateReset t) := by
  unfold armUpdateReset
  repeat' (first | exact hm.sub (by decide) | with_reducible exact Or.inr rfl | (intro y; clear_value y) | lift_lets | with_reducible exact h
                 | with_reducible apply modModule_within | with_reducible apply modUpdate_within)

theorem updateStopped_within {m : Nat} {s t : State} (h : Within m s t) (hm : Covers m 0x1000000010) : Within m s (updateStopped t) := by
  unfold updateStopped
  repeat' (first | exact hm.sub (by decide) | lift_lets | with_reducible exact h | with_reducible apply within_ite
                 | with_reducible apply armUpdateReset_within)

theorem beginActivation_within {m : Nat} {s t : State} (h : Within m s t) (hm : Covers m 0x1D0E710798) : Within m s (beginActivation t) := by
  unfold beginActivation
  repeat' (first | exact hm.sub (by decide)
                 | (intro y; refine within_cut (m := m) (s := s) (y := y) ?_ ?_; rotate_left; (intro hy; clear_value y); rotate_right; subst y)
                 | lift_lets | with_reducible exact h | with_reducible assumption | with_reducible apply within_ite
                 | with_reducible apply setAxis_within | with_reducible apply modUpdate_within | with_reducible apply unschedule_within
                 | with_reducible apply endForwarded_within | with_reducible apply beginStop_within | with_reducible apply updateStopped_within)

theorem refuseActivation_within {m : Nat} {s t : State} (h : Within m s t) (hm : Covers m 0x1000000080) (a0 : ℕ) :
    Within m s (refuseActivation a0 t) := by
  unfold refuseActivation
  repeat' (first | exact hm.sub (by decide) | lift_lets | with_reducible exact h | with_reducible apply recordUpdate_within
                 | with_reducible apply modUpdate_within | with_reducible apply unschedule_within)

theorem bothGates_within {m : Nat} {s t : State} (h : Within m s t) (hm : Covers m 0x1D0E710798) : Within m s (bothGates t) := by
  unfold bothGates
  repeat' (first | exact hm.sub (by decide) | with_reducible exact Or.inr rfl | lift_lets | with_reducible exact h
                 | with_reducible apply beginActivation_within | with_reducible apply modPair_within
                 | with_reducible apply refuseActivation_within | split)

theorem recordFunction_within {m : Nat} {s t : State} (h : Within m s t) (hm : Covers m 0x80) (a0 : ℕ) (a1 : Bytes) :
    Within m s (recordFunction a0 a1 t) := by
  unfold recordFunction
  repeat' (first | exact hm.sub (by decide) | lift_lets | with_reducible exact h | with_reducible apply record_within)

theorem recordKey_within {m : Nat} {s t : State} (h : Within m s t) (hm : Covers m 0x80) (a0 : ℕ) : Within m s (recordKey a0 t) := by
  unfold recordKey
  repeat' (first | exact hm.sub (by decide) | lift_lets | with_reducible exact h | with_reducible apply recordFunction_within)

theorem seeField_within {m : Nat} {s t : State} (h : Within m s t) (hm : Covers m 0x8000000) (a0 : ℕ) (a1 : Bool) :
    Within m s (seeField a0 a1 t) := by
  unfold seeField
  repeat' (first | exact hm.sub (by decide) | with_reducible exact Or.inr rfl | with_reducible exact Or.inr ⟨rfl, rfl⟩
                 | (intro y; refine within_cut (m := m) (s := s) (y := y) ?_ ?_; rotate_left; (intro hy; clear_value y); rotate_right; subst y)
                 | intro _ | lift_lets | with_reducible exact h | with_reducible assumption | with_reducible apply within_foldl
                 | with_reducible apply modSafety_within | with_reducible apply modOutput_within)

theorem endArming_within {m : Nat} {s t : State} (h : Within m s t) (hm : Covers m 0x108110508) (a0 : ℕ) : Within m s (endArming a0 t) := by
  unfold endArming
  repeat' (first | exact hm.sub (by decide) | with_reducible exact Or.inr rfl | with_reducible exact Or.inr ⟨rfl, rfl⟩ | lift_lets
                 | with_reducible exact h | with_reducible apply completeEntry_within | with_reducible apply modSafety_within | split)

theorem execResetKeyHoldLimit_within {m : Nat} {s t : State} (h : Within m s t) (hm : Covers m 0x10811050A) :
    WithinOut m s (execResetKeyHoldLimit t) := by
  unfold execResetKeyHoldLimit
  repeat' (first | exact hm.sub (by decide) | lift_lets | with_reducible exact h | with_reducible apply withinOut_next
                 | with_reducible apply withinOut_ite | with_reducible apply endArming_within | with_reducible apply reach_within | split)

theorem lullLost_within {m : Nat} {s t : State} (h : Within m s t) (hm : Covers m 0x8104) : Within m s (lullLost t) := by
  unfold lullLost
  repeat' (first | exact hm.sub (by decide)
                 | (intro y; refine within_cut (m := m) (s := s) (y := y) ?_ ?_; rotate_left; (intro hy; clear_value y); rotate_right; subst y)
                 | (intro y; clear_value y) | lift_lets | with_reducible exact h | with_reducible assumption
                 | with_reducible apply afterDraw_within | with_reducible apply modLull_within | with_reducible apply setLull_within)

theorem setSpeedViolated_within {m : Nat} {s t : State} (h : Within m s t) (hm : Covers m 0x8000080) (a0 : Bool) :
    Within m s (setSpeedViolated a0 t) := by
  unfold setSpeedViolated
  repeat' (first | exact hm.sub (by decide) | with_reducible exact Or.inr rfl | with_reducible exact Or.inr ⟨rfl, rfl⟩ | lift_lets
                 | with_reducible exact h | with_reducible apply recordFunction_within | with_reducible apply modSafety_within)

theorem execSpeedViolationClear_within {m : Nat} {s t : State} (h : Within m s t) (hm : Covers m 0x8000082) :
    WithinOut m s (execSpeedViolationClear t) := by
  unfold execSpeedViolationClear
  repeat' (first | exact hm.sub (by decide) | lift_lets | with_reducible exact h | with_reducible apply withinOut_next
                 | with_reducible apply withinOut_ite | with_reducible apply evaluateGates_within | with_reducible apply setSpeedViolated_within
                 | with_reducible apply reach_within | split)

theorem resetLockout_within {m : Nat} {s t : State} (h : Within m s t) (hm : Covers m 0x1681105B8) (a0 : Arming) (a1 : ℕ) :
    Within m s (resetLockout a0 a1 t) := by
  unfold resetLockout
  repeat' (first | exact hm.sub (by decide) | exact Or.inl (hm.sub (by decide)) | with_reducible exact Or.inr rfl
                 | (intro y; refine within_cut (m := m) (s := s) (y := y) ?_ ?_; rotate_left; (intro hy; clear_value y); rotate_right; subst y)
                 | (intro y; clear_value y) | lift_lets | with_reducible exact h | with_reducible assumption
                 | with_reducible apply modSafety_within | with_reducible apply unproveAll_within | with_reducible apply changeLog_within
                 | with_reducible apply modModule_within | with_reducible apply completeEntry_within)

theorem internalReset_within {m : Nat} {s t : State} (h : Within m s t) (hm : Covers m 0x10) (a0 : ℕ) : Within m s (internalReset a0 t) := by
  unfold internalReset
  repeat' (first | exact hm.sub (by decide) | with_reducible exact Or.inr rfl | lift_lets | with_reducible exact h
                 | with_reducible apply modModule_within)

theorem modSelfTest_within {m : Nat} {s t : State} (h : Within m s t) (hm : Covers m 0x100000) (a0 : ℕ) (a1 : SelfTest → SelfTest) :
    Within m s (modSelfTest a0 a1 t) := by
  unfold modSelfTest
  repeat' (first | exact hm.sub (by decide) | lift_lets | with_reducible exact h | with_reducible apply modTest_within)

theorem recordVoterFail_within {m : Nat} {s t : State} (h : Within m s t) (hm : Covers m 0x200080) (a0 : ℕ) : Within m s (recordVoterFail a0 t) := by
  unfold recordVoterFail
  repeat' (first | exact hm.sub (by decide) | lift_lets | with_reducible exact h | with_reducible apply recordLane_within
                 | with_reducible apply comparatorResult_within)

theorem comparatorLockout_within {m : Nat} {s t : State} (h : Within m s t) (hm : Covers m 0xDEEF707B8) (a0 : ℕ) :
    Within m s (comparatorLockout a0 t) := by
  unfold comparatorLockout
  repeat' (first | exact hm.sub (by decide) | lift_lets | with_reducible exact h | with_reducible apply lockOut_within)

theorem answerRequests_within {m : Nat} {s t : State} (h : Within m s t) (hm : Covers m 0x100110508) : Within m s (answerRequests t) := by
  unfold answerRequests
  repeat' (first | exact hm.sub (by decide) | (intro y; clear_value y) | intro _ | lift_lets | with_reducible exact h | with_reducible assumption
                 | with_reducible apply within_foldl | with_reducible apply completeEntry_within | with_reducible apply modTest_within)

theorem endRound_within {m : Nat} {s t : State} (h : Within m s t) (hm : Covers m 0x100110508) (a0 : ℕ) : Within m s (endRound a0 t) := by
  unfold endRound
  repeat' (first | exact hm.sub (by decide)
                 | (intro y; refine within_cut (m := m) (s := s) (y := y) ?_ ?_; rotate_left; (intro hy; clear_value y); rotate_right; subst y)
                 | (intro (y : _ → _); subst y; try beta_reduce) | lift_lets | with_reducible exact h | with_reducible assumption
                 | with_reducible apply within_ite | with_reducible apply modSelfTest_within | with_reducible apply modTest_within
                 | with_reducible apply answerRequests_within)

theorem comparatorFails_within {m : Nat} {s t : State} (h : Within m s t) (hm : Covers m 0xDEEF707B8) (a0 : ℕ) :
    Within m s (comparatorFails a0 t) := by
  unfold comparatorFails
  repeat' (first | exact hm.sub (by decide)
                 | (intro y; refine within_cut (m := m) (s := s) (y := y) ?_ ?_; rotate_left; (intro hy; clear_value y); rotate_right; subst y)
                 | (intro y; clear_value y) | lift_lets | with_reducible exact h | with_reducible assumption
                 | with_reducible apply modVoter_within | with_reducible apply recordVoterFail_within | with_reducible apply completeEntry_within
                 | with_reducible apply comparatorLockout_within | with_reducible apply endRound_within | split)

theorem cryptoFails_within {m : Nat} {s t : State} (h : Within m s t) (hm : Covers m 0x500110788) : Within m s (cryptoFails t) := by
  unfold cryptoFails
  repeat' (first | exact hm.sub (by decide) | exact Or.inl (hm.sub (by decide)) | with_reducible exact Or.inr rfl
                 | (intro y; refine within_cut (m := m) (s := s) (y := y) ?_ ?_; rotate_left; (intro hy; clear_value y); rotate_right; subst y)
                 | (intro (y : _ → _); subst y; try beta_reduce) | (intro y; clear_value y) | intro _ | lift_lets | with_reducible exact h
                 | with_reducible assumption | with_reducible apply within_foldl | with_reducible apply endSession_within
                 | with_reducible apply modNet_within | with_reducible apply modTrust_within)

theorem sliceFails_within {m : Nat} {s t : State} (h : Within m s t) (hm : Covers m 0xDEEF707B8) (a0 : ℕ) (a1 : ℕ) :
    Within m s (sliceFails a0 a1 t) := by
  unfold sliceFails
  repeat' (first | exact hm.sub (by decide)
                 | (intro y; refine within_cut (m := m) (s := s) (y := y) ?_ ?_; rotate_left; (intro hy; clear_value y); rotate_right; subst y)
                 | lift_lets | with_reducible exact h | with_reducible assumption | with_reducible apply within_ite
                 | with_reducible apply modSelfTest_within | with_reducible apply modTest_within | with_reducible apply record_within
                 | with_reducible apply comparatorFails_within | with_reducible apply internalReset_within
                 | with_reducible apply cryptoFails_within | with_reducible apply lockOut_within | split)

theorem trialFail_within {m : Nat} {s t : State} (h : Within m s t) (hm : Covers m 0x1000000010) (a0 : ℕ) : Within m s (trialFail a0 t) := by
  unfold trialFail
  repeat' (first | exact hm.sub (by decide) | with_reducible exact Or.inr rfl
                 | (intro y; refine within_cut (m := m) (s := s) (y := y) ?_ ?_; rotate_left; (intro hy; clear_value y); rotate_right; subst y)
                 | (intro y; clear_value y) | lift_lets | with_reducible exact h | with_reducible assumption | with_reducible apply modSet_within
                 | with_reducible apply setSlotState_within | with_reducible apply modUpdate_within | with_reducible apply modModule_within)

theorem countTrial_within {m : Nat} {s t : State} (h : Within m s t) (hm : Covers m 0x1000000010) : Within m s (countTrial t) := by
  unfold countTrial
  repeat' (first | exact hm.sub (by decide) | lift_lets | with_reducible exact h | with_reducible apply within_ite
                 | with_reducible apply trialFail_within | with_reducible apply modUpdate_within)

theorem recordSlotFailure_within {m : Nat} {s t : State} (h : Within m s t) (hm : Covers m 0x80) (a0 : BootFacts) (a1 : ℕ) :
    Within m s (recordSlotFailure a0 a1 t) := by
  unfold recordSlotFailure
  repeat' (first | exact hm.sub (by decide) | lift_lets | with_reducible exact h | with_reducible apply within_ite
                 | with_reducible apply recordUpdate_within)

theorem bootOther_within {m : Nat} {s t : State} (h : Within m s t) (hm : Covers m 0x1000000010) : Within m s (bootOther t) := by
  unfold bootOther
  repeat' (first | exact hm.sub (by decide) | with_reducible exact Or.inr rfl | (intro y; clear_value y) | lift_lets | with_reducible exact h
                 | with_reducible apply within_ite | with_reducible apply trialFail_within | with_reducible apply modModule_within
                 | with_reducible apply setSlotState_within)

theorem bootChecks_within {m : Nat} {s t : State} (h : Within m s t) (hm : Covers m 0xDEFF707B8) (a0 : BootFacts) : Within m s (bootChecks a0 t) := by
  unfold bootChecks
  repeat' (first | exact hm.sub (by decide) | exact Or.inl (hm.sub (by decide)) | with_reducible exact Or.inr rfl
                 | (intro y; refine within_cut (m := m) (s := s) (y := y) ?_ ?_; rotate_left; (intro hy; clear_value y); rotate_right; subst y)
                 | (intro (y : _ → _); subst y; try beta_reduce) | (intro y; clear_value y) | lift_lets | with_reducible exact h
                 | with_reducible assumption | with_reducible apply within_ite | with_reducible apply noteSigner_within
                 | with_reducible apply modModule_within | with_reducible apply modSlot_within | with_reducible apply settleAxis_within
                 | with_reducible apply modProg_within | with_reducible apply lockOut_within | with_reducible apply modSafety_within)

theorem reportTrial_within {m : Nat} {s t : State} (h : Within m s t) (hm : Covers m 0x1000000080) : Within m s (reportTrial t) := by
  unfold reportTrial
  repeat' (first | exact hm.sub (by decide) | lift_lets | with_reducible exact h | with_reducible apply within_ite
                 | with_reducible apply recordUpdate_within | with_reducible apply modUpdate_within)

theorem recordBoot_within {m : Nat} {s t : State} (h : Within m s t) (hm : Covers m 0x80) : Within m s (recordBoot t) := by
  unfold recordBoot
  repeat' (first | exact hm.sub (by decide) | (intro y; clear_value y) | lift_lets | with_reducible exact h | with_reducible apply record_within)

theorem boot_within {m : Nat} {s t : State} (h : Within m s t) (hm : Covers m 0x1FEFF787FC) (a0 : BootFacts) : Within m s (boot a0 t) := by
  unfold boot
  repeat' (first | exact hm.sub (by decide) | exact Or.inl (hm.sub (by decide)) | with_reducible exact Or.inr rfl
                 | (intro y; refine within_cut (m := m) (s := s) (y := y) ?_ ?_; rotate_left; (intro hy; clear_value y); rotate_right; subst y)
                 | (intro y; clear_value y) | lift_lets | with_reducible exact h | with_reducible assumption | with_reducible apply within_ite
                 | with_reducible apply afterDraw_within | with_reducible apply modTrust_within | with_reducible apply modNet_within
                 | with_reducible apply modModule_within | with_reducible apply lullLost_within | with_reducible apply setLocal_within
                 | with_reducible apply countTrial_within | with_reducible apply recordSlotFailure_within | with_reducible apply bootOther_within
                 | with_reducible apply trialFail_within | with_reducible apply modMbx_within | with_reducible apply setRole_within
                 | with_reducible apply modPair_within | with_reducible apply bootChecks_within | with_reducible apply reportTrial_within
                 | with_reducible apply recordBoot_within)

theorem execResetRelease_within {m : Nat} {s t : State} (h : Within m s t) (hm : Covers m 0x1FEFF787FC) (a0 : BootFacts) :
    WithinOut m s (execResetRelease a0 t) := by
  unfold execResetRelease
  repeat' (first | exact hm.sub (by decide) | exact Or.inl (hm.sub (by decide))
                 | (intro y; refine within_cut (m := m) (s := s) (y := y) ?_ ?_; rotate_left; (intro hy; clear_value y); rotate_right; subst y)
                 | lift_lets | with_reducible exact h | with_reducible assumption | with_reducible apply within_ite
                 | with_reducible apply withinOut_next | with_reducible apply withinOut_ite | with_reducible apply modModule_within
                 | with_reducible apply boot_within)

theorem modInstance_within {m : Nat} {s t : State} (h : Within m s t) (hm : Covers m 0x40) (a0 : PtpSource) (a1 : PtpInstance → PtpInstance) :
    Within m s (modInstance a0 a1 t) := by
  unfold modInstance
  repeat' (first | exact hm.sub (by decide) | lift_lets | with_reducible exact h | with_reducible apply modClock_within)

theorem execUpdateActivation_within {m : Nat} {s t : State} (h : Within m s t) (hm : Covers m 0x1D0E71079A) :
    WithinOut m s (execUpdateActivation t) := by
  unfold execUpdateActivation
  repeat' (first | exact hm.sub (by decide) | with_reducible exact Or.inr rfl
                 | (intro y; refine within_cut (m := m) (s := s) (y := y) ?_ ?_; rotate_left; (intro hy; clear_value y); rotate_right; subst y)
                 | (intro y; clear_value y) | lift_lets | with_reducible exact h | with_reducible assumption | with_reducible apply within_ite
                 | with_reducible apply withinOut_next | with_reducible apply withinOut_ite | with_reducible apply reachLocal_within
                 | with_reducible apply unschedule_within | with_reducible apply refuseActivation_within | with_reducible apply slipstream_within
                 | with_reducible apply modPair_within | with_reducible apply bothGates_within | with_reducible apply modUpdate_within
                 | with_reducible apply beginActivation_within | split)

theorem roundStep_within {m : Nat} {s t : State} (h : Within m s t) (hm : Covers m 0x108110508) : Within m s (roundStep t) := by
  unfold roundStep
  repeat' (first | exact hm.sub (by decide) | with_reducible exact Or.inr rfl | with_reducible exact Or.inr ⟨rfl, rfl⟩
                 | (intro y; refine within_cut (m := m) (s := s) (y := y) ?_ ?_; rotate_left; (intro hy; clear_value y); rotate_right; subst y)
                 | (intro y; clear_value y) | intro _ | lift_lets | with_reducible exact h | with_reducible assumption
                 | with_reducible apply within_ite | with_reducible apply within_foldl | with_reducible apply modSafety_within
                 | with_reducible apply completeEntry_within)

theorem execResetKeyDiscrepancy_within {m : Nat} {s t : State} (h : Within m s t) (hm : Covers m 0x10811050A) :
    WithinOut m s (execResetKeyDiscrepancy t) := by
  unfold execResetKeyDiscrepancy
  repeat' (first | exact hm.sub (by decide) | lift_lets | with_reducible exact h | with_reducible apply withinOut_next
                 | with_reducible apply endArming_within | with_reducible apply reach_within | split)

theorem commitVoterTest_within {m : Nat} {s t : State} (h : Within m s t) (hm : Covers m 0x10000) : Within m s (commitVoterTest t) := by
  unfold commitVoterTest
  repeat' (first | exact hm.sub (by decide) | lift_lets | with_reducible exact h | with_reducible apply commitEntry_within | split)

theorem execFieldSupplyReturn_within {m : Nat} {s t : State} (h : Within m s t) (hm : Covers m 0x8000000) (a0 : ℕ) :
    WithinOut m s (execFieldSupplyReturn a0 t) := by
  unfold execFieldSupplyReturn
  repeat' (first | exact hm.sub (by decide) | lift_lets | with_reducible exact h | with_reducible apply withinOut_next
                 | with_reducible apply withinOut_ite | with_reducible apply seeField_within)

theorem pulseRead_within {m : Nat} {s t : State} (h : Within m s t) (hm : Covers m 0x8000000) (a0 : ℕ) (a1 : PulseReading) :
    Within m s (pulseRead a0 a1 t) := by
  unfold pulseRead
  repeat' (first | exact hm.sub (by decide)
                 | (intro y; refine within_cut (m := m) (s := s) (y := y) ?_ ?_; rotate_left; (intro hy; clear_value y); rotate_right; subst y)
                 | (intro y; clear_value y) | lift_lets | with_reducible exact h | with_reducible assumption | with_reducible apply within_ite
                 | with_reducible apply faultInput_within | with_reducible apply modInput_within | with_reducible apply clearFault_within)

theorem execTestPulse_within {m : Nat} {s t : State} (h : Within m s t) (hm : Covers m 0xDEEF707BA) (a0 : ℕ) (a1 : List PulseReading) (a2 : Bool) :
    WithinOut m s (execTestPulse a0 a1 a2 t) := by
  unfold execTestPulse
  repeat' (first | exact hm.sub (by decide) | exact Or.inl (hm.sub (by decide)) | with_reducible exact Or.inr rfl
                 | (intro y; refine within_cut (m := m) (s := s) (y := y) ?_ ?_; rotate_left; (intro hy; clear_value y); rotate_right; subst y)
                 | (intro y; clear_value y) | intro _ | lift_lets | with_reducible exact h | with_reducible assumption
                 | with_reducible apply withinOut_next | with_reducible apply withinOut_ite | with_reducible apply within_foldl
                 | with_reducible apply modSafety_within | with_reducible apply emit_within | with_reducible apply reachLocal_within
                 | with_reducible apply pulseRead_within | with_reducible apply faultsGone_within | with_reducible apply internalFault_within)

theorem modPtpPort_within {m : Nat} {s t : State} (h : Within m s t) (hm : Covers m 0x40) (a0 : ℕ) (a1 : PtpPort → PtpPort) :
    Within m s (modPtpPort a0 a1 t) := by
  unfold modPtpPort
  repeat' (first | exact hm.sub (by decide) | lift_lets | with_reducible exact h | with_reducible apply modClock_within)

theorem execPtpPdelay_within {m : Nat} {s t : State} (h : Within m s t) (hm : Covers m 0x40) (a0 : ℕ) (a1 : ℕ) (a2 : Bool) :
    WithinOut m s (execPtpPdelay a0 a1 a2 t) := by
  unfold execPtpPdelay
  repeat' (first | exact hm.sub (by decide) | lift_lets | with_reducible exact h | with_reducible apply withinOut_next
                 | with_reducible apply withinOut_ite | with_reducible apply modPtpPort_within | split)

theorem keyOpens_within {m : Nat} {s t : State} (h : Within m s t) (hm : Covers m 0x1681105B8) (a0 : ℕ) : Within m s (keyOpens a0 t) := by
  unfold keyOpens
  repeat' (first | exact hm.sub (by decide) | exact Or.inl (hm.sub (by decide)) | with_reducible exact Or.inr rfl | (intro y; clear_value y)
                 | lift_lets | with_reducible exact h | with_reducible apply within_ite | with_reducible apply recordKey_within
                 | with_reducible apply modSafety_within | with_reducible apply endArming_within | with_reducible apply resetLockout_within
                 | split)

theorem execResetKeyChange_within {m : Nat} {s t : State} (h : Within m s t) (hm : Covers m 0x1681105B8) (a0 : Bool) (a1 : Bool) :
    WithinOut m s (execResetKeyChange a0 a1 t) := by
  unfold execResetKeyChange
  repeat' (first | exact hm.sub (by decide) | exact Or.inl (hm.sub (by decide)) | with_reducible exact Or.inr rfl
                 | (intro y; refine within_cut (m := m) (s := s) (y := y) ?_ ?_; rotate_left; (intro hy; clear_value y); rotate_right; subst y)
                 | (intro y; clear_value y) | lift_lets | with_reducible exact h | with_reducible assumption
                 | with_reducible apply withinOut_next | with_reducible apply withinOut_ite | with_reducible apply modSafety_within
                 | with_reducible apply keyOpens_within | split)

theorem supplyEndsActivation_within {m : Nat} {s t : State} (h : Within m s t) (hm : Covers m 0x1508110798) :
    Within m s (supplyEndsActivation t) := by
  unfold supplyEndsActivation
  repeat' (first | exact hm.sub (by decide) | with_reducible exact Or.inr rfl | lift_lets | with_reducible exact h
                 | with_reducible apply within_ite | with_reducible apply modModule_within | with_reducible apply setAxis_within
                 | with_reducible apply modUpdate_within | with_reducible apply unschedule_within)

theorem recordDirection_within {m : Nat} {s t : State} (h : Within m s t) (hm : Covers m 0x80) (a0 : Bool) : Within m s (recordDirection a0 t) := by
  unfold recordDirection
  repeat' (first | exact hm.sub (by decide) | lift_lets | with_reducible exact h | with_reducible apply recordFunction_within)

theorem halt_within {m : Nat} {s t : State} (h : Within m s t) (hm : Covers m 0x1408000030) (a0 : ℕ) : Within m s (halt a0 t) := by
  unfold halt
  repeat' (first | exact hm.sub (by decide) | exact Or.inl (hm.sub (by decide)) | with_reducible exact Or.inr rfl
                 | with_reducible exact Or.inr ⟨rfl, rfl⟩
                 | (intro y; refine within_cut (m := m) (s := s) (y := y) ?_ ?_; rotate_left; (intro hy; clear_value y); rotate_right; subst y)
                 | lift_lets | with_reducible exact h | with_reducible assumption | with_reducible apply within_ite
                 | with_reducible apply modModule_within | with_reducible apply modNet_within | with_reducible apply modSafety_within
                 | with_reducible apply allOutputsOff_within | with_reducible apply trialFail_within)

theorem readPaths_within {m : Nat} {s t : State} (h : Within m s t) (hm : Covers m 0x8000000) (a0 : ℕ) (a1 : ℕ) (a2 : ℕ) :
    Within m s (readPaths a0 a1 a2 t) := by
  unfold readPaths
  repeat' (first | exact hm.sub (by decide) | (intro y; clear_value y) | lift_lets | with_reducible exact h | with_reducible apply modInput_within)

theorem starveTests_within {m : Nat} {s t : State} (h : Within m s t) (hm : Covers m 0x100080) : Within m s (starveTests t) := by
  unfold starveTests
  repeat' (first | exact hm.sub (by decide) | (intro y; clear_value y) | intro _ | lift_lets | with_reducible exact h | with_reducible assumption
                 | with_reducible apply within_ite | with_reducible apply within_foldl | with_reducible apply record_within
                 | with_reducible apply modSelfTest_within)

theorem windowTick_within {m : Nat} {s t : State} (h : Within m s t) (hm : Covers m 0x8000000) : Within m s (windowTick t) := by
  unfold windowTick
  repeat' (first | exact hm.sub (by decide) | lift_lets | with_reducible exact h | with_reducible apply within_ite
                 | with_reducible apply closeWindows_within)

theorem execPowerGood_within {m : Nat} {s t : State} (h : Within m s t) (hm : Covers m 0x1FEFF787FC) (a0 : BootFacts) :
    WithinOut m s (execPowerGood a0 t) := by
  unfold execPowerGood
  repeat' (first | exact hm.sub (by decide) | exact Or.inl (hm.sub (by decide))
                 | (intro y; refine within_cut (m := m) (s := s) (y := y) ?_ ?_; rotate_left; (intro hy; clear_value y); rotate_right; subst y)
                 | lift_lets | with_reducible exact h | with_reducible assumption | with_reducible apply within_ite
                 | with_reducible apply withinOut_next | with_reducible apply withinOut_ite | with_reducible apply modModule_within
                 | with_reducible apply boot_within)

theorem directionTick_within {m : Nat} {s t : State} (h : Within m s t) (hm : Covers m 0x8000080) : Within m s (directionTick t) := by
  unfold directionTick
  repeat' (first | exact hm.sub (by decide) | with_reducible exact Or.inr rfl | with_reducible exact Or.inr ⟨rfl, rfl⟩
                 | (intro y; refine within_cut (m := m) (s := s) (y := y) ?_ ?_; rotate_left; (intro hy; clear_value y); rotate_right; subst y)
                 | (intro y; clear_value y) | lift_lets | with_reducible exact h | with_reducible assumption | with_reducible apply within_ite
                 | with_reducible apply modSafety_within | with_reducible apply recordDirection_within)

theorem speedTick_within {m : Nat} {s t : State} (h : Within m s t) (hm : Covers m 0x8000080) : Within m s (speedTick t) := by
  unfold speedTick
  repeat' (first | exact hm.sub (by decide) | with_reducible exact Or.inr rfl | with_reducible exact Or.inr ⟨rfl, rfl⟩
                 | (intro y; refine within_cut (m := m) (s := s) (y := y) ?_ ?_; rotate_left; (intro hy; clear_value y); rotate_right; subst y)
                 | lift_lets | with_reducible exact h | with_reducible assumption | with_reducible apply within_ite
                 | with_reducible apply modSafety_within | with_reducible apply setSpeedViolated_within)

theorem standstillTick_within {m : Nat} {s t : State} (h : Within m s t) (hm : Covers m 0x8000000) : Within m s (standstillTick t) := by
  unfold standstillTick
  repeat' (first | exact hm.sub (by decide) | with_reducible exact Or.inr rfl | with_reducible exact Or.inr ⟨rfl, rfl⟩
                 | (intro (y : _ → _); subst y; try beta_reduce) | (intro y; clear_value y) | lift_lets | with_reducible exact h
                 | with_reducible apply within_ite | with_reducible apply modSafety_within)

theorem functionsTick_within {m : Nat} {s t : State} (h : Within m s t) (hm : Covers m 0x508110788) : Within m s (functionsTick t) := by
  unfold functionsTick
  repeat' (first | exact hm.sub (by decide) | lift_lets | with_reducible exact h | with_reducible apply testGate_within
                 | with_reducible apply windowTick_within | with_reducible apply directionTick_within | with_reducible apply speedTick_within
                 | with_reducible apply standstillTick_within)

theorem startQueued_within {m : Nat} {s t : State} (h : Within m s t) (hm : Covers m 0x200000) : Within m s (startQueued t) := by
  unfold startQueued
  repeat' (first | exact hm.sub (by decide) | lift_lets | with_reducible exact h | with_reducible apply within_ite
                 | with_reducible apply modVoter_within)

theorem commitRequests_within {m : Nat} {s t : State} (h : Within m s t) (hm : Covers m 0x10000) (a0 : ℕ) : Within m s (commitRequests a0 t) := by
  unfold commitRequests
  repeat' (first | exact hm.sub (by decide) | intro _ | lift_lets | with_reducible exact h | with_reducible assumption
                 | with_reducible apply within_foldl | with_reducible apply commitEntry_within | split)

theorem eraseOne_within {m : Nat} {s t : State} (h : Within m s t) (hm : Covers m 0x80) : Within m s (eraseOne t) := by
  unfold eraseOne
  repeat' (first | exact hm.sub (by decide) | (intro (y : _ → _); subst y; try beta_reduce) | lift_lets | with_reducible exact h
                 | with_reducible apply modRecorder_within)

theorem patternPassed_within {m : Nat} {s t : State} (h : Within m s t) (hm : Covers m 0x100310508) (a0 : Option ℕ) (a1 : ℕ) :
    Within m s (patternPassed a0 a1 t) := by
  unfold patternPassed
  repeat' (first | exact hm.sub (by decide)
                 | (intro y; refine within_cut (m := m) (s := s) (y := y) ?_ ?_; rotate_left; (intro hy; clear_value y); rotate_right; subst y)
                 | lift_lets | with_reducible exact h | with_reducible assumption | with_reducible apply within_ite
                 | with_reducible apply modVoter_within | with_reducible apply comparatorResult_within
                 | with_reducible apply completeEntry_within | split)

theorem roundPasses_within {m : Nat} {s t : State} (h : Within m s t) (hm : Covers m 0x100310508) (a0 : ℕ) : Within m s (roundPasses a0 t) := by
  unfold roundPasses
  repeat' (first | exact hm.sub (by decide) | (intro y; clear_value y) | lift_lets | with_reducible exact h | with_reducible apply within_ite
                 | with_reducible apply modSelfTest_within | with_reducible apply endRound_within | with_reducible apply comparatorResult_within)

theorem slicePasses_within {m : Nat} {s t : State} (h : Within m s t) (hm : Covers m 0x100310508) (a0 : ℕ) : Within m s (slicePasses a0 t) := by
  unfold slicePasses
  repeat' (first | exact hm.sub (by decide) | lift_lets | with_reducible exact h | with_reducible apply patternPassed_within
                 | with_reducible apply roundPasses_within | split)

theorem execBackgroundSlice_within {m : Nat} {s t : State} (h : Within m s t) (hm : Covers m 0xDEEF707B8) (a0 : SliceFinding) :
    WithinOut m s (execBackgroundSlice a0 t) := by
  unfold execBackgroundSlice
  repeat' (first | exact hm.sub (by decide)
                 | (intro y; refine within_cut (m := m) (s := s) (y := y) ?_ ?_; rotate_left; (intro hy; clear_value y); rotate_right; subst y)
                 | (intro y; clear_value y) | lift_lets | with_reducible exact h | with_reducible assumption | with_reducible apply within_ite
                 | with_reducible apply withinOut_next | with_reducible apply withinOut_ite | with_reducible apply starveTests_within
                 | with_reducible apply commitVoterTest_within | with_reducible apply startQueued_within
                 | with_reducible apply commitRequests_within | with_reducible apply eraseOne_within | with_reducible apply modTest_within
                 | with_reducible apply slicePasses_within | with_reducible apply sliceFails_within)

theorem execBackFeedFault_within {m : Nat} {s t : State} (h : Within m s t) (hm : Covers m 0x8000000) (a0 : ℕ) :
    WithinOut m s (execBackFeedFault a0 t) := by
  unfold execBackFeedFault
  repeat' (first | exact hm.sub (by decide) | (intro y; clear_value y) | lift_lets | with_reducible exact h | with_reducible apply withinOut_next
                 | with_reducible apply withinOut_ite | with_reducible apply modOutput_within)

theorem endIoTests_within {m : Nat} {s t : State} (h : Within m s t) (hm : Covers m 0x108110508) (a0 : ℕ) (a1 : ℕ) :
    Within m s (endIoTests a0 a1 t) := by
  unfold endIoTests
  repeat' (first | exact hm.sub (by decide) | with_reducible exact Or.inr rfl | with_reducible exact Or.inr ⟨rfl, rfl⟩ | (intro y; clear_value y)
                 | intro _ | lift_lets | with_reducible exact h | with_reducible assumption | with_reducible apply within_foldl
                 | with_reducible apply completeEntry_within | with_reducible apply modSafety_within)

theorem recordSupply_within {m : Nat} {s t : State} (h : Within m s t) (hm : Covers m 0x80) (a0 : ℕ) (a1 : ℕ) :
    Within m s (recordSupply a0 a1 t) := by
  unfold recordSupply
  repeat' (first | exact hm.sub (by decide) | lift_lets | with_reducible exact h | with_reducible apply record_within)

theorem execReelRestartComplete_within {m : Nat} {s t : State} (h : Within m s t) (hm : Covers m 0x10) :
    WithinOut m s (execReelRestartComplete t) := by
  unfold execReelRestartComplete
  repeat' (first | exact hm.sub (by decide) | with_reducible exact Or.inr rfl | lift_lets | with_reducible exact h
                 | with_reducible apply withinOut_next | with_reducible apply modModule_within)

theorem writeLull_within {m : Nat} {s t : State} (h : Within m s t) (hm : Covers m 0x8144) : Within m s (writeLull t) := by
  unfold writeLull
  repeat' (first | exact hm.sub (by decide) | lift_lets | with_reducible exact h | with_reducible apply modClock_within
                 | with_reducible apply setLull_within)

theorem execLullClockWrite_within {m : Nat} {s t : State} (h : Within m s t) (hm : Covers m 0x8146) : WithinOut m s (execLullClockWrite t) := by
  unfold execLullClockWrite
  repeat' (first | exact hm.sub (by decide) | lift_lets | with_reducible exact h | with_reducible apply withinOut_next
                 | with_reducible apply withinOut_ite | with_reducible apply writeLull_within | with_reducible apply reach_within)

theorem afterMaster_within {m : Nat} {s t : State} (h : Within m s t) (hm : Covers m 0x2000040) (a0 : Option (PtpSource × ℕ)) :
    Within m s (afterMaster a0 t) := by
  unfold afterMaster
  repeat' (first | exact hm.sub (by decide) | lift_lets | with_reducible exact h | with_reducible apply within_ite
                 | with_reducible apply enterHoldover_within)

theorem loseMaster_within {m : Nat} {s t : State} (h : Within m s t) (hm : Covers m 0x2000040) (a0 : PtpSource) (a1 : ℕ) (a2 : ℕ) :
    Within m s (loseMaster a0 a1 a2 t) := by
  unfold loseMaster
  repeat' (first | exact hm.sub (by decide)
                 | (intro y; refine within_cut (m := m) (s := s) (y := y) ?_ ?_; rotate_left; (intro hy; clear_value y); rotate_right; subst y)
                 | (intro y; clear_value y) | lift_lets | with_reducible exact h | with_reducible assumption | with_reducible apply within_ite
                 | with_reducible apply modPtpPort_within | with_reducible apply afterMaster_within | with_reducible apply modInstance_within)

theorem execPtpAnnounceTimeout_within {m : Nat} {s t : State} (h : Within m s t) (hm : Covers m 0x2000040) (a0 : PtpSource) (a1 : ℕ) :
    WithinOut m s (execPtpAnnounceTimeout a0 a1 t) := by
  unfold execPtpAnnounceTimeout
  repeat' (first | exact hm.sub (by decide) | lift_lets | with_reducible exact h | with_reducible apply withinOut_next
                 | with_reducible apply withinOut_ite | with_reducible apply loseMaster_within | with_reducible apply modPtpPort_within)

theorem execOutputTimeout_within {m : Nat} {s t : State} (h : Within m s t) (hm : Covers m 0x8000002) (a0 : ℕ) :
    WithinOut m s (execOutputTimeout a0 t) := by
  unfold execOutputTimeout
  repeat' (first | exact hm.sub (by decide) | lift_lets | with_reducible exact h | with_reducible apply withinOut_next
                 | with_reducible apply withinOut_ite | with_reducible apply modOutput_within | with_reducible apply reach_within | split)

theorem execOvercurrentTrip_within {m : Nat} {s t : State} (h : Within m s t) (hm : Covers m 0x8000000) (a0 : ℕ) :
    WithinOut m s (execOvercurrentTrip a0 t) := by
  unfold execOvercurrentTrip
  repeat' (first | exact hm.sub (by decide) | lift_lets | with_reducible exact h | with_reducible apply withinOut_next
                 | with_reducible apply withinOut_ite | with_reducible apply modOutput_within)

theorem freshTranslation_within {m : Nat} {s t : State} (h : Within m s t) (hm : Covers m 0x1400090) (a0 : Option CutterReport) :
    Within m s (freshTranslation a0 t) := by
  unfold freshTranslation
  repeat' (first | exact hm.sub (by decide) | with_reducible exact Or.inr rfl
                 | (intro y; refine within2_cut (m := m) (s := s) (y := y) ?_ ?_; rotate_left; (intro hy; clear_value y); rotate_right; subst y)
                 | (intro y; clear_value y) | lift_lets | with_reducible exact h | with_reducible apply within_ite
                 | with_reducible apply within2_mk | with_reducible apply modModule_within | with_reducible apply failSlot_within
                 | with_reducible apply cut_wstate | exact Within2.out (by assumption) | split)

theorem execBridgingLimit_within {m : Nat} {s t : State} (h : Within m s t) (hm : Covers m 0x50E110788) : WithinOut m s (execBridgingLimit t) := by
  unfold execBridgingLimit
  repeat' (first | exact hm.sub (by decide)
                 | (intro y; refine within_cut (m := m) (s := s) (y := y) ?_ ?_; rotate_left; (intro hy; clear_value y); rotate_right; subst y)
                 | (intro (y : _ → _); subst y; try beta_reduce) | (intro y; clear_value y) | lift_lets | with_reducible exact h
                 | with_reducible assumption | with_reducible apply withinOut_next | with_reducible apply withinOut_ite
                 | with_reducible apply modPos_within | with_reducible apply evaluateGates_within | with_reducible apply functionsTick_within
                 | with_reducible apply signalPosition_within)

theorem execSwitchTestOverdue_within {m : Nat} {s t : State} (h : Within m s t) (hm : Covers m 0x8000082) (a0 : ℕ) :
    WithinOut m s (execSwitchTestOverdue a0 t) := by
  unfold execSwitchTestOverdue
  repeat' (first | exact hm.sub (by decide)
                 | (intro y; refine within_cut (m := m) (s := s) (y := y) ?_ ?_; rotate_left; (intro hy; clear_value y); rotate_right; subst y)
                 | lift_lets | with_reducible exact h | with_reducible assumption | with_reducible apply withinOut_next
                 | with_reducible apply withinOut_ite | with_reducible apply reach_within | with_reducible apply recordFunction_within
                 | with_reducible apply modOutput_within)

theorem markTrial_within {m : Nat} {s t : State} (h : Within m s t) (hm : Covers m 0x1000000010) : Within m s (markTrial t) := by
  unfold markTrial
  repeat' (first | exact hm.sub (by decide) | with_reducible exact Or.inr rfl
                 | (intro y; refine within_cut (m := m) (s := s) (y := y) ?_ ?_; rotate_left; (intro hy; clear_value y); rotate_right; subst y)
                 | (intro y; clear_value y) | lift_lets | with_reducible exact h | with_reducible assumption
                 | with_reducible apply setSlotState_within | with_reducible apply modModule_within | with_reducible apply modUpdate_within)

theorem proveStandstill_within {m : Nat} {s t : State} (h : Within m s t) (hm : Covers m 0x8000080) : Within m s (proveStandstill t) := by
  unfold proveStandstill
  repeat' (first | exact hm.sub (by decide) | with_reducible exact Or.inr rfl | with_reducible exact Or.inr ⟨rfl, rfl⟩
                 | (intro y; refine within_cut (m := m) (s := s) (y := y) ?_ ?_; rotate_left; (intro hy; clear_value y); rotate_right; subst y)
                 | (intro y; clear_value y) | lift_lets | with_reducible exact h | with_reducible assumption | with_reducible apply within_ite
                 | with_reducible apply modSafety_within | with_reducible apply recordDirection_within)

theorem execAxleClean_within {m : Nat} {s t : State} (h : Within m s t) (hm : Covers m 0x4000000) (a0 : ℕ) : WithinOut m s (execAxleClean a0 t) := by
  unfold execAxleClean
  repeat' (first | exact hm.sub (by decide) | (intro (y : _ → _); subst y; try beta_reduce) | lift_lets | with_reducible exact h
                 | with_reducible apply withinOut_next | with_reducible apply modPos_within)

theorem execSwitchTest_within {m : Nat} {s t : State} (h : Within m s t) (hm : Covers m 0xDEEF707B8) (a0 : ℕ) (a1 : ℕ) (a2 : Bool) (a3 : Bool) :
    WithinOut m s (execSwitchTest a0 a1 a2 a3 t) := by
  unfold execSwitchTest
  repeat' (first | exact hm.sub (by decide)
                 | (intro y; refine within_cut (m := m) (s := s) (y := y) ?_ ?_; rotate_left; (intro hy; clear_value y); rotate_right; subst y)
                 | lift_lets | with_reducible exact h | with_reducible assumption | with_reducible apply withinOut_next
                 | with_reducible apply withinOut_ite | with_reducible apply internalFault_within | with_reducible apply endIoTests_within
                 | with_reducible apply faultsGone_within | with_reducible apply modOutput_within | with_reducible apply roundStep_within)

theorem execUpdateTrialTimeout_within {m : Nat} {s t : State} (h : Within m s t) (hm : Covers m 0x1000000012) :
    WithinOut m s (execUpdateTrialTimeout t) := by
  unfold execUpdateTrialTimeout
  repeat' (first | exact hm.sub (by decide) | with_reducible exact Or.inr rfl
                 | (intro y; refine within_cut (m := m) (s := s) (y := y) ?_ ?_; rotate_left; (intro hy; clear_value y); rotate_right; subst y)
                 | lift_lets | with_reducible exact h | with_reducible assumption | with_reducible apply withinOut_next
                 | with_reducible apply withinOut_ite | with_reducible apply reach_within | with_reducible apply modModule_within
                 | with_reducible apply trialFail_within)

theorem execPtpMessageSend_within {m : Nat} {s t : State} (h : Within m s t) (hm : Covers m 0x48) (a0 : ℕ) (a1 : PtpKind) :
    WithinOut m s (execPtpMessageSend a0 a1 t) := by
  unfold execPtpMessageSend
  repeat' (first | exact hm.sub (by decide) | (intro (y : _ → _); subst y; try beta_reduce) | (intro y; clear_value y) | lift_lets
                 | with_reducible exact h | with_reducible apply withinOut_next | with_reducible apply withinOut_ite
                 | with_reducible apply emit_within | with_reducible apply modPtpPort_within)

theorem execWindowOpenTimeExpiry_within {m : Nat} {s t : State} (h : Within m s t) (hm : Covers m 0x8000002) (a0 : ℕ) :
    WithinOut m s (execWindowOpenTimeExpiry a0 t) := by
  unfold execWindowOpenTimeExpiry
  repeat' (first | exact hm.sub (by decide) | (intro y; clear_value y) | lift_lets | with_reducible exact h | with_reducible apply withinOut_next
                 | with_reducible apply withinOut_ite | with_reducible apply evaluateGates_within | with_reducible apply closeWindow_within
                 | with_reducible apply reach_within | split)

theorem goStowed_within {m : Nat} {s t : State} (h : Within m s t) (hm : Covers m 0x1F8FFF87F8) : Within m s (goStowed t) := by
  have g : Within m s ((countTwoLane t).trust.sessions.foldl (fun t x => emit (.sessionClosed x.1) t) (countTwoLane t)) :=
    within_foldl (fun u a hu => emit_within hu (hm.sub (by decide)) _) (countTwoLane_within h (hm.sub (by decide)))
  refine ⟨fun p hp => ?_⟩
  have := g.out p hp
  cases p <;> first
    | exact this
    | exact absurd hp (by rw [hm.bit (by decide)]; decide)

theorem execHoldUpExpiry_within {m : Nat} {s t : State} (h : Within m s t) (hm : Covers m 0x1F8FFF87FA) : WithinOut m s (execHoldUpExpiry t) := by
  unfold execHoldUpExpiry
  repeat' (first | exact hm.sub (by decide) | exact Or.inl (hm.sub (by decide))
                 | (intro y; refine within_cut (m := m) (s := s) (y := y) ?_ ?_; rotate_left; (intro hy; clear_value y); rotate_right; subst y)
                 | lift_lets | with_reducible exact h | with_reducible assumption | with_reducible apply withinOut_next
                 | with_reducible apply goStowed_within | with_reducible apply supplyEndsActivation_within | with_reducible apply reach_within
                 | with_reducible apply modModule_within | split)

theorem pairAtProvingEnd_within {m : Nat} {s t : State} (h : Within m s t) (hm : Covers m 0xB02000000) : Within m s (pairAtProvingEnd t) := by
  unfold pairAtProvingEnd
  repeat' (first | exact hm.sub (by decide) | exact Or.inl (hm.sub (by decide)) | lift_lets | with_reducible exact h
                 | with_reducible apply within_ite | with_reducible apply setRole_within | with_reducible apply modPair_within)

theorem execReelFault_within {m : Nat} {s t : State} (h : Within m s t) (hm : Covers m 0xD00110798) (a0 : Bool) :
    WithinOut m s (execReelFault a0 t) := by
  unfold execReelFault
  repeat' (first | exact hm.sub (by decide) | with_reducible exact Or.inr rfl
                 | (intro y; refine within_cut (m := m) (s := s) (y := y) ?_ ?_; rotate_left; (intro hy; clear_value y); rotate_right; subst y)
                 | intro _ | lift_lets | with_reducible exact h | with_reducible assumption | with_reducible apply withinOut_next
                 | with_reducible apply withinOut_ite | with_reducible apply within_foldl | with_reducible apply modModule_within
                 | with_reducible apply endSession_within | with_reducible apply record_within | with_reducible apply dropMasters_within)

theorem monitorTick_within {m : Nat} {s t : State} (h : Within m s t) (hm : Covers m 0xDEEF707B8) (a0 : Option (ℕ × Lane)) :
    Within m s (monitorTick a0 t) := by
  unfold monitorTick
  repeat' (first | exact hm.sub (by decide) | exact Or.inl (hm.sub (by decide)) | with_reducible exact Or.inr rfl
                 | (intro y; refine within_cut (m := m) (s := s) (y := y) ?_ ?_; rotate_left; (intro hy; clear_value y); rotate_right; subst y)
                 | (intro y; clear_value y) | lift_lets | with_reducible exact h | with_reducible assumption | with_reducible apply within_ite
                 | with_reducible apply modSafety_within | with_reducible apply internalFault_within | with_reducible apply faultsGone_within
                 | split)

theorem execTestEnChange_within {m : Nat} {s t : State} (h : Within m s t) (hm : Covers m 0x500110798) (a0 : Bool) :
    WithinOut m s (execTestEnChange a0 t) := by
  unfold execTestEnChange
  repeat' (first | exact hm.sub (by decide) | with_reducible exact Or.inr rfl | lift_lets | with_reducible exact h
                 | with_reducible apply withinOut_next | with_reducible apply withinOut_ite | with_reducible apply testGate_within
                 | with_reducible apply modModule_within)

theorem ptpLink_within {m : Nat} {s t : State} (h : Within m s t) (hm : Covers m 0x2000040) (a0 : ℕ) (a1 : Bool) : Within m s (ptpLink a0 a1 t) := by
  unfold ptpLink
  repeat' (first | exact hm.sub (by decide) | lift_lets | with_reducible exact h | with_reducible apply within_ite
                 | with_reducible apply modPtpPort_within | with_reducible apply loseMaster_within | split)

theorem startLane_within {m : Nat} {s t : State} (h : Within m s t) (hm : Covers m 0x200080) (a0 : Lane) (a1 : Bool) :
    Within m s (startLane a0 a1 t) := by
  unfold startLane
  repeat' (first | exact hm.sub (by decide) | lift_lets | with_reducible exact h | with_reducible apply within_ite
                 | with_reducible apply modLane_within | with_reducible apply traceTrigger_within | with_reducible apply recordLane_within)

theorem execProvingEnd_within {m : Nat} {s t : State} (h : Within m s t) (hm : Covers m 0x1FFFFF47F8) (a0 : ProvingFacts) :
    WithinOut m s (execProvingEnd a0 t) := by
  unfold execProvingEnd
  repeat' (first | exact hm.sub (by decide)
                 | (intro y; refine within_cut (m := m) (s := s) (y := y) ?_ ?_; rotate_left; (intro hy; clear_value y); rotate_right; subst y)
                 | lift_lets | with_reducible exact h | with_reducible assumption | with_reducible apply withinOut_next
                 | with_reducible apply withinOut_ite | with_reducible apply startLane_within | with_reducible apply settleLanes_within
                 | with_reducible apply freshTranslation_within | with_reducible apply halt_within | with_reducible apply pairAtProvingEnd_within
                 | with_reducible apply comparatorLockout_within | with_reducible apply recordVoterFail_within
                 | with_reducible apply lockOut_within | with_reducible apply comparatorResult_within | with_reducible apply provingPassed_within
                 | split)

theorem execSupplyFailure_within {m : Nat} {s t : State} (h : Within m s t) (hm : Covers m 0x1508510798) (a0 : ℕ) :
    WithinOut m s (execSupplyFailure a0 t) := by
  unfold execSupplyFailure
  repeat' (first | exact hm.sub (by decide) | with_reducible exact Or.inr rfl
                 | (intro y; refine within_cut (m := m) (s := s) (y := y) ?_ ?_; rotate_left; (intro hy; clear_value y); rotate_right; subst y)
                 | lift_lets | with_reducible exact h | with_reducible assumption | with_reducible apply within_ite
                 | with_reducible apply withinOut_next | with_reducible apply withinOut_ite | with_reducible apply modModule_within
                 | with_reducible apply modUpdate_within | with_reducible apply beginCommit_within | with_reducible apply endFreeze_within
                 | with_reducible apply supplyEndsActivation_within | with_reducible apply recordSupply_within)

theorem lockStep_within {m : Nat} {s t : State} (h : Within m s t) (hm : Covers m 0x2008144) : Within m s (lockStep t) := by
  unfold lockStep
  repeat' (first | exact hm.sub (by decide) | lift_lets | with_reducible exact h | with_reducible apply within_ite
                 | with_reducible apply pulse_within | with_reducible apply writeLull_within | with_reducible apply modClock_within)

theorem execRecorderSupplyStop_within {m : Nat} {s t : State} (h : Within m s t) (hm : Covers m 0x82) : WithinOut m s (execRecorderSupplyStop t) := by
  unfold execRecorderSupplyStop
  repeat' (first | exact hm.sub (by decide) | lift_lets | with_reducible exact h | with_reducible apply withinOut_next
                 | with_reducible apply modRecorder_within | with_reducible apply reach_within | split)

theorem selectPort_within {m : Nat} {s t : State} (h : Within m s t) (hm : Covers m 0x40) (a0 : PtpSource) (a1 : ℕ) :
    Within m s (selectPort a0 a1 t) := by
  unfold selectPort
  repeat' (first | exact hm.sub (by decide)
                 | (intro y; refine within_cut (m := m) (s := s) (y := y) ?_ ?_; rotate_left; (intro hy; clear_value y); rotate_right; subst y)
                 | intro _ | lift_lets | with_reducible exact h | with_reducible assumption | with_reducible apply within_foldl
                 | with_reducible apply modPtpPort_within)

theorem execParameterCrcCheck_within {m : Nat} {s t : State} (h : Within m s t) (hm : Covers m 0xDEEF707B8) (a0 : Lane) (a1 : Word64) :
    WithinOut m s (execParameterCrcCheck a0 a1 t) := by
  unfold execParameterCrcCheck
  repeat' (first | exact hm.sub (by decide) | lift_lets | with_reducible exact h | with_reducible apply withinOut_next
                 | with_reducible apply withinOut_ite | with_reducible apply faultsGone_within | with_reducible apply internalFault_within)

theorem execSlateWatchdogExpiry_within {m : Nat} {s t : State} (h : Within m s t) (hm : Covers m 0x1F8FFF87F8) :
    WithinOut m s (execSlateWatchdogExpiry t) := by
  unfold execSlateWatchdogExpiry
  repeat' (first | exact hm.sub (by decide) | exact Or.inl (hm.sub (by decide)) | lift_lets | with_reducible exact h
                 | with_reducible apply withinOut_next | with_reducible apply withinOut_ite | with_reducible apply modModule_within
                 | with_reducible apply goStowed_within | with_reducible apply supplyEndsActivation_within)

theorem execPairDiscrepancyFault_within {m : Nat} {s t : State} (h : Within m s t) (hm : Covers m 0x8000002) (a0 : ℕ) :
    WithinOut m s (execPairDiscrepancyFault a0 t) := by
  unfold execPairDiscrepancyFault
  repeat' (first | exact hm.sub (by decide) | (intro y; clear_value y) | lift_lets | with_reducible exact h | with_reducible apply withinOut_next
                 | with_reducible apply faultInput_within | with_reducible apply reach_within | split)

theorem execSafeInputChange_within {m : Nat} {s t : State} (h : Within m s t) (hm : Covers m 0x8000000) (a0 : ℕ) (a1 : PathVolts) :
    WithinOut m s (execSafeInputChange a0 a1 t) := by
  unfold execSafeInputChange
  repeat' (first | exact hm.sub (by decide)
                 | (intro y; refine within_cut (m := m) (s := s) (y := y) ?_ ?_; rotate_left; (intro hy; clear_value y); rotate_right; subst y)
                 | (intro y; clear_value y) | lift_lets | with_reducible exact h | with_reducible assumption | with_reducible apply within_ite
                 | with_reducible apply withinOut_next | with_reducible apply withinOut_ite | with_reducible apply readPaths_within
                 | with_reducible apply changeInput_within)

theorem servo_within {m : Nat} {s t : State} (h : Within m s t) (hm : Covers m 0x40E4081CC) (a0 : PtpSource) (a1 : SyncMeasure) :
    Within m s (servo a0 a1 t) := by
  unfold servo
  repeat' (first | exact hm.sub (by decide)
                 | (intro y; refine within_cut (m := m) (s := s) (y := y) ?_ ?_; rotate_left; (intro hy; clear_value y); rotate_right; subst y)
                 | (intro y; clear_value y) | lift_lets | with_reducible exact h | with_reducible assumption | with_reducible apply within_ite
                 | with_reducible apply modClock_within | with_reducible apply stepClock_within | with_reducible apply setAddend_within
                 | with_reducible apply lockStep_within)

theorem execPtpSync_within {m : Nat} {s t : State} (h : Within m s t) (hm : Covers m 0x40E4081CC) (a0 : PtpSource) (a1 : SyncMeasure) :
    WithinOut m s (execPtpSync a0 a1 t) := by
  unfold execPtpSync
  repeat' (first | exact hm.sub (by decide)
                 | (intro y; refine within_cut (m := m) (s := s) (y := y) ?_ ?_; rotate_left; (intro hy; clear_value y); rotate_right; subst y)
                 | intro _ | lift_lets | with_reducible exact h | with_reducible assumption | with_reducible apply withinOut_next
                 | with_reducible apply withinOut_ite | with_reducible apply within_foldl | with_reducible apply modPtpPort_within
                 | with_reducible apply modInstance_within | with_reducible apply servo_within)

theorem execTestLimitExpiry_within {m : Nat} {s t : State} (h : Within m s t) (hm : Covers m 0x50011078A) :
    WithinOut m s (execTestLimitExpiry t) := by
  unfold execTestLimitExpiry
  repeat' (first | exact hm.sub (by decide) | lift_lets | with_reducible exact h | with_reducible apply withinOut_next
                 | with_reducible apply withinOut_ite | with_reducible apply testOff_within | with_reducible apply reach_within)

theorem execFieldSupplyLow_within {m : Nat} {s t : State} (h : Within m s t) (hm : Covers m 0x8000080) (a0 : ℕ) :
    WithinOut m s (execFieldSupplyLow a0 t) := by
  unfold execFieldSupplyLow
  repeat' (first | exact hm.sub (by decide) | lift_lets | with_reducible exact h | with_reducible apply within_ite
                 | with_reducible apply withinOut_next | with_reducible apply withinOut_ite | with_reducible apply seeField_within
                 | with_reducible apply recordFunction_within)

theorem execResetKeyArmingTimeout_within {m : Nat} {s t : State} (h : Within m s t) (hm : Covers m 0x10811050A) :
    WithinOut m s (execResetKeyArmingTimeout t) := by
  unfold execResetKeyArmingTimeout
  repeat' (first | exact hm.sub (by decide) | lift_lets | with_reducible exact h | with_reducible apply withinOut_next
                 | with_reducible apply endArming_within | with_reducible apply reach_within | split)

theorem execReset_within {m : Nat} {s t : State} (h : Within m s t) (hm : Covers m 0x1F8FFF87FA) : WithinOut m s (execReset t) := by
  unfold execReset
  repeat' (first | exact hm.sub (by decide) | exact Or.inl (hm.sub (by decide))
                 | (intro y; refine within_cut (m := m) (s := s) (y := y) ?_ ?_; rotate_left; (intro hy; clear_value y); rotate_right; subst y)
                 | (intro (y : _ → _); subst y; try beta_reduce) | (intro y; clear_value y) | lift_lets | with_reducible exact h
                 | with_reducible assumption | with_reducible apply within_ite | with_reducible apply withinOut_next
                 | with_reducible apply withinOut_ite | with_reducible apply modModule_within | with_reducible apply reach_within
                 | with_reducible apply markTrial_within | with_reducible apply goStowed_within
                 | with_reducible apply supplyEndsActivation_within | split)

theorem execPtpAnnounce_within {m : Nat} {s t : State} (h : Within m s t) (hm : Covers m 0x2000040) (a0 : PtpSource) (a1 : ℕ) (a2 : AnnounceMsg) :
    WithinOut m s (execPtpAnnounce a0 a1 a2 t) := by
  unfold execPtpAnnounce
  repeat' (first | exact hm.sub (by decide)
                 | (intro y; refine within_cut (m := m) (s := s) (y := y) ?_ ?_; rotate_left; (intro hy; clear_value y); rotate_right; subst y)
                 | (intro y; clear_value y) | lift_lets | with_reducible exact h | with_reducible assumption
                 | with_reducible apply withinOut_next | with_reducible apply withinOut_ite | with_reducible apply modPtpPort_within
                 | with_reducible apply modInstance_within | with_reducible apply selectPort_within | with_reducible apply afterMaster_within)

theorem execBootingEnd_within {m : Nat} {s t : State} (h : Within m s t) (hm : Covers m 0x1DFEFF47F8) : WithinOut m s (execBootingEnd t) := by
  unfold execBootingEnd
  repeat' (first | exact hm.sub (by decide) | exact Or.inl (hm.sub (by decide))
                 | (intro y; refine within_cut (m := m) (s := s) (y := y) ?_ ?_; rotate_left; (intro hy; clear_value y); rotate_right; subst y)
                 | lift_lets | with_reducible exact h | with_reducible assumption | with_reducible apply within_ite
                 | with_reducible apply withinOut_next | with_reducible apply withinOut_ite | with_reducible apply startInauguration_within
                 | with_reducible apply modNet_within | with_reducible apply watchPairs_within | with_reducible apply modSafety_within
                 | with_reducible apply enterState_within | with_reducible apply traceTrigger_within | with_reducible apply trialPass_within)

theorem execSupplyReturn_within {m : Nat} {s t : State} (h : Within m s t) (hm : Covers m 0x1000000090) (a0 : ℕ) :
    WithinOut m s (execSupplyReturn a0 t) := by
  unfold execSupplyReturn
  repeat' (first | exact hm.sub (by decide) | with_reducible exact Or.inr rfl
                 | (intro y; refine within_cut (m := m) (s := s) (y := y) ?_ ?_; rotate_left; (intro hy; clear_value y); rotate_right; subst y)
                 | lift_lets | with_reducible exact h | with_reducible assumption | with_reducible apply within_ite
                 | with_reducible apply withinOut_next | with_reducible apply modModule_within | with_reducible apply modRecorder_within
                 | with_reducible apply modUpdate_within | with_reducible apply recordSupply_within | split)

theorem outputsTick_within {m : Nat} {s t : State} (h : Within m s t) (hm : Covers m 0x8000000) (a0 : ℕ) : Within m s (outputsTick a0 t) := by
  unfold outputsTick
  repeat' (first | exact hm.sub (by decide) | with_reducible exact Or.inr rfl | with_reducible exact Or.inr ⟨rfl, rfl⟩
                 | (intro (y : _ → _); subst y; try beta_reduce) | lift_lets | with_reducible exact h | with_reducible apply modSafety_within)

theorem execPositionTick_within {m : Nat} {s t : State} (h : Within m s t) (hm : Covers m 0xDEEF707BA) (a0 : TickSense) :
    WithinOut m s (execPositionTick a0 t) := by
  unfold execPositionTick
  repeat' (first | exact hm.sub (by decide)
                 | (intro y; refine within_cut (m := m) (s := s) (y := y) ?_ ?_; rotate_left; (intro hy; clear_value y); rotate_right; subst y)
                 | (intro y; clear_value y) | lift_lets | with_reducible exact h | with_reducible assumption | with_reducible apply within_ite
                 | with_reducible apply withinOut_next | with_reducible apply modPos_within | with_reducible apply reachLocal_within
                 | with_reducible apply signalPosition_within | with_reducible apply record_within | with_reducible apply cueTick_within
                 | with_reducible apply waitingTick_within | with_reducible apply functionsTick_within | with_reducible apply outputsTick_within
                 | with_reducible apply evaluateGates_within | with_reducible apply monitorTick_within | split)

theorem execInputPathFault_within {m : Nat} {s t : State} (h : Within m s t) (hm : Covers m 0xDEEF707B8) (a0 : ℕ) :
    WithinOut m s (execInputPathFault a0 t) := by
  unfold execInputPathFault
  repeat' (first | exact hm.sub (by decide) | lift_lets | with_reducible exact h | with_reducible apply withinOut_next
                 | with_reducible apply withinOut_ite | with_reducible apply internalFault_within)

theorem execStandstillProven_within {m : Nat} {s t : State} (h : Within m s t) (hm : Covers m 0x8000082) :
    WithinOut m s (execStandstillProven t) := by
  unfold execStandstillProven
  repeat' (first | exact hm.sub (by decide) | lift_lets | with_reducible exact h | with_reducible apply withinOut_next
                 | with_reducible apply withinOut_ite | with_reducible apply evaluateGates_within | with_reducible apply proveStandstill_within
                 | with_reducible apply reach_within | split)

theorem execHoldUpStoreCharged_within {m : Nat} {s t : State} (h : Within m s t) (hm : Covers m 0x90) (a0 : ℕ) :
    WithinOut m s (execHoldUpStoreCharged a0 t) := by
  unfold execHoldUpStoreCharged
  repeat' (first | exact hm.sub (by decide) | with_reducible exact Or.inr rfl
                 | (intro y; refine within_cut (m := m) (s := s) (y := y) ?_ ?_; rotate_left; (intro hy; clear_value y); rotate_right; subst y)
                 | intro _ | lift_lets | with_reducible exact h | with_reducible assumption | with_reducible apply within_ite
                 | with_reducible apply withinOut_next | with_reducible apply withinOut_ite | with_reducible apply modModule_within
                 | with_reducible apply recordSupply_within)

theorem execInputPathTest_within {m : Nat} {s t : State} (h : Within m s t) (hm : Covers m 0xDEEF707B8) (a0 : ℕ) (a1 : ℕ) (a2 : Bool) :
    WithinOut m s (execInputPathTest a0 a1 a2 t) := by
  unfold execInputPathTest
  repeat' (first | exact hm.sub (by decide) | lift_lets | with_reducible exact h | with_reducible apply withinOut_next
                 | with_reducible apply withinOut_ite | with_reducible apply faultsGone_within | with_reducible apply internalFault_within)

end Sys2Proof.Machine
end

