-- ==== Sys2Proof/Laws/WithinPair.lean ====
section
/-! SUPPORT. Which parts of the state an operation can change (Sys2Proof/Laws/Within.lean):
freezes, pairs and the lane window. -/

namespace Sys2Proof.Machine

theorem execShadowEntryExpiry_within {m : Nat} {s t : State} (h : Within m s t) (hm : Covers m 0x50000) (a0 : Lane) (a1 : Fin 16) (a2 : Word32) :
    WithinOut m s (execShadowEntryExpiry a0 a1 a2 t) := by
  unfold execShadowEntryExpiry
  repeat' (first | exact hm.sub (by decide) | (intro (y : _ → _); subst y; try beta_reduce) | lift_lets | with_reducible exact h
                 | with_reducible apply withinOut_next | with_reducible apply modWindow_within)

theorem cmdPairStatus_within {m : Nat} : WithinC m cmdPairStatus := by
  refine ⟨fun e s t h => ?_⟩
  unfold cmdPairStatus
  repeat' (first | (intro y; clear_value y) | intro _ | lift_lets | with_reducible exact h | with_reducible assumption
                 | with_reducible apply within1_mk | with_reducible apply sized_wstate | with_reducible apply answers_wstate)

theorem armHandover_within {m : Nat} {s t : State} (h : Within m s t) (hm : Covers m 0x100100008) : Within m s (armHandover t) := by
  unfold armHandover
  repeat' (first | exact hm.sub (by decide) | with_reducible exact Or.inr rfl | (intro y; clear_value y) | lift_lets | with_reducible exact h
                 | with_reducible apply slipstream_within | with_reducible apply modPair_within)

theorem cmdPairSwitchover_within {m : Nat} (hm : Covers m 0x100100008) : WithinC m cmdPairSwitchover := by
  refine ⟨fun e s t h => ?_⟩
  unfold cmdPairSwitchover
  repeat' (first | exact hm.sub (by decide)
                 | (intro y; refine within_cut (m := m) (s := s) (y := y) ?_ ?_; rotate_left; (intro hy; clear_value y); rotate_right; subst y)
                 | intro _ | lift_lets | with_reducible exact h | with_reducible assumption | with_reducible apply within1_mk
                 | with_reducible apply armHandover_within | with_reducible apply sized_wstate | with_reducible apply fails_wstate | split)

theorem cmdPairCounters_within {m : Nat} : WithinC m cmdPairCounters := by
  refine ⟨fun e s t h => ?_⟩
  unfold cmdPairCounters
  repeat' (first | (intro y; clear_value y) | intro _ | lift_lets | with_reducible exact h | with_reducible assumption
                 | with_reducible apply within1_mk | with_reducible apply sized_wstate | with_reducible apply answers_wstate)

theorem clearTakes_within {m : Nat} {s t : State} (h : Within m s t) (hm : Covers m 0x100210000) : Within m s (clearTakes t) := by
  unfold clearTakes
  repeat' (first | exact hm.sub (by decide) | with_reducible exact Or.inr rfl | with_reducible exact Or.inr ⟨rfl, rfl⟩
                 | (intro y; refine within_cut (m := m) (s := s) (y := y) ?_ ?_; rotate_left; (intro hy; clear_value y); rotate_right; subst y)
                 | lift_lets | with_reducible exact h | with_reducible assumption | with_reducible apply modVoter_within
                 | with_reducible apply abandonAll_within | with_reducible apply modMbx_within | with_reducible apply modPair_within)

theorem cmdPairConfigure_within {m : Nat} (hm : Covers m 0xB0A310008) : WithinC m cmdPairConfigure := by
  refine ⟨fun e s t h => ?_⟩
  unfold cmdPairConfigure
  repeat' (first | exact hm.sub (by decide) | exact Or.inl (hm.sub (by decide))
                 | (intro y; refine within_cut (m := m) (s := s) (y := y) ?_ ?_; rotate_left; (intro hy; clear_value y); rotate_right; subst y)
                 | (intro y; clear_value y) | intro _ | lift_lets | with_reducible exact h | with_reducible assumption
                 | with_reducible apply within_ite | with_reducible apply within1_mk | with_reducible apply modPair_within
                 | with_reducible apply setRole_within | with_reducible apply endResync_within | with_reducible apply clearTakes_within
                 | with_reducible apply sendStatus_within | with_reducible apply sized_wstate | with_reducible apply fails_wstate
                 | with_reducible apply answers_wstate | split)

theorem armResync_within {m : Nat} {s t : State} (h : Within m s t) (hm : Covers m 0x100110508) : Within m s (armResync t) := by
  unfold armResync
  repeat' (first | exact hm.sub (by decide) | with_reducible exact Or.inr rfl
                 | (intro y; refine within_cut (m := m) (s := s) (y := y) ?_ ?_; rotate_left; (intro hy; clear_value y); rotate_right; subst y)
                 | lift_lets | with_reducible exact h | with_reducible assumption | with_reducible apply slipstream_within
                 | with_reducible apply answerResync_within | with_reducible apply modPair_within | split)

theorem cmdPairResync_within {m : Nat} (hm : Covers m 0x108110508) : WithinC m cmdPairResync := by
  refine ⟨fun e s t h => ?_⟩
  unfold cmdPairResync
  repeat' (first | exact hm.sub (by decide) | with_reducible exact Or.inr rfl
                 | (intro y; refine within_cut (m := m) (s := s) (y := y) ?_ ?_; rotate_left; (intro hy; clear_value y); rotate_right; subst y)
                 | intro _ | lift_lets | with_reducible exact h | with_reducible assumption | with_reducible apply within_ite
                 | with_reducible apply within1_mk | with_reducible apply modPair_within | with_reducible apply setReason_within
                 | with_reducible apply armResync_within | with_reducible apply sized_wstate | with_reducible apply fails_wstate | split)

theorem cmdPairBudget_within {m : Nat} : WithinC m cmdPairBudget := by
  refine ⟨fun e s t h => ?_⟩
  unfold cmdPairBudget
  repeat' (first | (intro y; clear_value y) | intro _ | lift_lets | with_reducible exact h | with_reducible assumption
                 | with_reducible apply within1_mk | with_reducible apply sized_wstate | with_reducible apply fails_wstate
                 | with_reducible apply answers_wstate | split)

theorem cmdPairHealth_within {m : Nat} : WithinC m cmdPairHealth := by
  refine ⟨fun e s t h => ?_⟩
  unfold cmdPairHealth
  repeat' (first | intro _ | lift_lets | with_reducible exact h | with_reducible assumption | with_reducible apply within1_mk
                 | with_reducible apply sized_wstate | with_reducible apply answers_wstate | with_reducible apply fails_wstate | split)

theorem takeIdentity_within {m : Nat} {s t : State} (h : Within m s t) (hm : Covers m 0x400000008) : Within m s (takeIdentity t) := by
  unfold takeIdentity
  repeat' (first | exact hm.sub (by decide)
                 | (intro y; refine within_cut (m := m) (s := s) (y := y) ?_ ?_; rotate_left; (intro hy; clear_value y); rotate_right; subst y)
                 | (intro (y : _ → _); subst y; try beta_reduce) | intro _ | lift_lets | with_reducible exact h | with_reducible assumption
                 | with_reducible apply within_ite | with_reducible apply within_foldl | with_reducible apply modNet_within
                 | with_reducible apply emit_within)

theorem becomeActive_within {m : Nat} {s t : State} (h : Within m s t) (hm : Covers m 0xF8E370588) (a0 : ℕ) : Within m s (becomeActive a0 t) := by
  unfold becomeActive
  repeat' (first | exact hm.sub (by decide) | exact Or.inl (hm.sub (by decide))
                 | (intro y; refine within_cut (m := m) (s := s) (y := y) ?_ ?_; rotate_left; (intro hy; clear_value y); rotate_right; subst y)
                 | lift_lets | with_reducible exact h | with_reducible assumption | with_reducible apply modPair_within
                 | with_reducible apply endResync_within | with_reducible apply takeIdentity_within | with_reducible apply recordPair_within
                 | with_reducible apply epochIncrement_within | with_reducible apply setRole_within)

theorem activate_within {m : Nat} {s t : State} (h : Within m s t) (hm : Covers m 0xF8E370788) (a0 : ℕ) : Within m s (activate a0 t) := by
  unfold activate
  repeat' (first | exact hm.sub (by decide) | exact Or.inl (hm.sub (by decide))
                 | (intro y; refine within_cut (m := m) (s := s) (y := y) ?_ ?_; rotate_left; (intro hy; clear_value y); rotate_right; subst y)
                 | lift_lets | with_reducible exact h | with_reducible assumption | with_reducible apply becomeActive_within
                 | with_reducible apply clearTakes_within | with_reducible apply testOff_within | with_reducible apply modPair_within)

theorem takeOver_within {m : Nat} {s t : State} (h : Within m s t) (hm : Covers m 0xF8E370788) (a0 : ℕ) : Within m s (takeOver a0 t) := by
  unfold takeOver
  repeat' (first | exact hm.sub (by decide) | exact Or.inl (hm.sub (by decide)) | lift_lets | with_reducible exact h
                 | with_reducible apply within_ite | with_reducible apply modPair_within | with_reducible apply activate_within
                 | with_reducible apply slipstream_within)

theorem activeLockedOut_within {m : Nat} {s t : State} (h : Within m s t) (hm : Covers m 0xF8E370788) : Within m s (activeLockedOut t) := by
  unfold activeLockedOut
  repeat' (first | exact hm.sub (by decide) | lift_lets | with_reducible exact h | with_reducible apply within_ite
                 | with_reducible apply takeOver_within | with_reducible apply recordPair_within | with_reducible apply allOutputsOff_within)

theorem diverge_within {m : Nat} {s t : State} (h : Within m s t) (hm : Covers m 0x108100008) : Within m s (diverge t) := by
  unfold diverge
  repeat' (first | exact hm.sub (by decide) | with_reducible exact Or.inr rfl
                 | (intro y; refine within_cut (m := m) (s := s) (y := y) ?_ ?_; rotate_left; (intro hy; clear_value y); rotate_right; subst y)
                 | (intro y; clear_value y) | lift_lets | with_reducible exact h | with_reducible assumption
                 | with_reducible apply modPair_within | with_reducible apply setReason_within)

theorem failMirror_within {m : Nat} {s t : State} (h : Within m s t) (hm : Covers m 0x108110588) : Within m s (failMirror t) := by
  unfold failMirror
  repeat' (first | exact hm.sub (by decide) | with_reducible exact Or.inr rfl
                 | (intro y; refine within_cut (m := m) (s := s) (y := y) ?_ ?_; rotate_left; (intro hy; clear_value y); rotate_right; subst y)
                 | lift_lets | with_reducible exact h | with_reducible assumption | with_reducible apply within_ite
                 | with_reducible apply modPair_within | with_reducible apply resyncFails_within | with_reducible apply setReason_within)

theorem acceptCheckpoint_within {m : Nat} {s t : State} (h : Within m s t) (hm : Covers m 0x100400000) (a0 : ℕ) (a1 : List (ℕ × Bytes)) :
    Within m s (acceptCheckpoint a0 a1 t) := by
  unfold acceptCheckpoint
  repeat' (first | exact hm.sub (by decide) | with_reducible exact Or.inr rfl | with_reducible exact Or.inr ⟨rfl, rfl⟩
                 | (intro y; refine within_cut (m := m) (s := s) (y := y) ?_ ?_; rotate_left; (intro hy; clear_value y); rotate_right; subst y)
                 | (intro (y : _ → _); subst y; try beta_reduce) | intro _ | lift_lets | with_reducible exact h | with_reducible assumption
                 | with_reducible apply within_ite | with_reducible apply within_foldl | with_reducible apply modPair_within
                 | with_reducible apply modProg_within)

theorem trackOutputs_within {m : Nat} {s t : State} (h : Within m s t) (hm : Covers m 0x8000000) (a0 : ℕ) (a1 : ℕ) :
    Within m s (trackOutputs a0 a1 t) := by
  unfold trackOutputs
  repeat' (first | exact hm.sub (by decide)
                 | (intro y; refine within_cut (m := m) (s := s) (y := y) ?_ ?_; rotate_left; (intro hy; clear_value y); rotate_right; subst y)
                 | (intro y; clear_value y) | intro _ | lift_lets | with_reducible exact h | with_reducible assumption
                 | with_reducible apply within_ite | with_reducible apply within_foldl | with_reducible apply modOutput_within
                 | with_reducible apply evaluateGates_within)

theorem resyncDone_within {m : Nat} {s t : State} (h : Within m s t) (hm : Covers m 0x108100008) : Within m s (resyncDone t) := by
  unfold resyncDone
  repeat' (first | exact hm.sub (by decide) | with_reducible exact Or.inr rfl
                 | (intro y; refine within_cut (m := m) (s := s) (y := y) ?_ ?_; rotate_left; (intro hy; clear_value y); rotate_right; subst y)
                 | (intro y; clear_value y) | lift_lets | with_reducible exact h | with_reducible assumption | with_reducible apply within_ite
                 | with_reducible apply modPair_within | with_reducible apply endResync_within | with_reducible apply setReason_within | split)

theorem resyncPass_within {m : Nat} {s t : State} (h : Within m s t) (hm : Covers m 0x108100008) (a0 : ℕ) : Within m s (resyncPass a0 t) := by
  unfold resyncPass
  repeat' (first | exact hm.sub (by decide) | with_reducible exact Or.inr rfl | lift_lets | with_reducible exact h
                 | with_reducible apply within_ite | with_reducible apply resyncDone_within | with_reducible apply modPair_within)

theorem trackTake_within {m : Nat} {s t : State} (h : Within m s t) (hm : Covers m 0x108500008) (a0 : OwnDecision) (a1 : PairTakeEnd) :
    Within m s (trackTake a0 a1 t) := by
  unfold trackTake
  repeat' (first | exact hm.sub (by decide) | with_reducible exact Or.inr rfl
                 | (intro y; refine within_cut (m := m) (s := s) (y := y) ?_ ?_; rotate_left; (intro hy; clear_value y); rotate_right; subst y)
                 | lift_lets | with_reducible exact h | with_reducible assumption | with_reducible apply within_ite
                 | with_reducible apply acceptCheckpoint_within | with_reducible apply modPair_within | with_reducible apply trackOutputs_within
                 | with_reducible apply resyncPass_within)

theorem compareTake_within {m : Nat} {s t : State} (h : Within m s t) (hm : Covers m 0xF8E770788) (a0 : OwnDecision) (a1 : PairTakeEnd) :
    Within m s (compareTake a0 a1 t) := by
  unfold compareTake
  repeat' (first | exact hm.sub (by decide) | exact Or.inl (hm.sub (by decide)) | lift_lets | with_reducible exact h
                 | with_reducible apply within_ite | with_reducible apply activeLockedOut_within | with_reducible apply resyncFails_within
                 | with_reducible apply takeOver_within | with_reducible apply diverge_within | with_reducible apply failMirror_within
                 | with_reducible apply modPair_within | with_reducible apply trackTake_within)

theorem ownDecided_within {m : Nat} {s t : State} (h : Within m s t) (hm : Covers m 0xF8E770788) (a0 : OwnDecision) :
    Within m s (ownDecided a0 t) := by
  unfold ownDecided
  repeat' (first | exact hm.sub (by decide) | exact Or.inl (hm.sub (by decide)) | lift_lets | with_reducible exact h
                 | with_reducible apply within_ite | with_reducible apply compareTake_within | with_reducible apply modPair_within | split)

theorem exportTask_within {m : Nat} {s t : State} (h : Within m s t) (hm : Covers m 0x100100008) (a0 : Image) (a1 : TaskRec) :
    Within m s (exportTask a0 a1 t) := by
  unfold exportTask
  repeat' (first | exact hm.sub (by decide) | with_reducible exact Or.inr rfl | (intro y; clear_value y) | lift_lets | with_reducible exact h
                 | with_reducible apply within_ite | with_reducible apply modPair_within | with_reducible apply slipstream_within | split)

theorem resyncAtVote_within {m : Nat} {s t : State} (h : Within m s t) (hm : Covers m 0x100100008) (a0 : ℕ) (a1 : ℕ) :
    Within m s (resyncAtVote a0 a1 t) := by
  unfold resyncAtVote
  repeat' (first | exact hm.sub (by decide) | lift_lets | with_reducible exact h | with_reducible apply within_ite
                 | with_reducible apply exportTask_within | split)

theorem releaseAwaiting_within {m : Nat} {s t : State} (h : Within m s t) (hm : Covers m 0x500110788) (a0 : HeldCompletion → Bool) :
    Within m s (releaseAwaiting a0 t) := by
  unfold releaseAwaiting
  repeat' (first | exact hm.sub (by decide) | with_reducible exact Or.inr rfl | (intro y; clear_value y) | intro _ | lift_lets
                 | with_reducible exact h | with_reducible assumption | with_reducible apply within_foldl
                 | with_reducible apply settleClosing_within | with_reducible apply releaseCompletion_within
                 | with_reducible apply modPair_within)

theorem refuseCommands_within {m : Nat} {s t : State} (h : Within m s t) (hm : Covers m 0x900110508) : Within m s (refuseCommands t) := by
  unfold refuseCommands
  repeat' (first | exact hm.sub (by decide)
                 | (intro y; refine within_cut (m := m) (s := s) (y := y) ?_ ?_; rotate_left; (intro hy; clear_value y); rotate_right; subst y)
                 | (intro (y : _ → _); subst y; try beta_reduce) | (intro y; clear_value y) | intro _ | lift_lets | with_reducible exact h
                 | with_reducible assumption | with_reducible apply within_foldl | with_reducible apply completeEntry_within
                 | with_reducible apply modMvb_within)

theorem endDues_within {m : Nat} {s t : State} (h : Within m s t) (hm : Covers m 0x400000) : Within m s (endDues t) := by
  unfold endDues
  repeat' (first | exact hm.sub (by decide) | with_reducible exact Or.inr rfl | with_reducible exact Or.inr ⟨rfl, rfl⟩ | lift_lets
                 | with_reducible exact h | with_reducible apply modProg_within)

theorem handOff_within {m : Nat} {s t : State} (h : Within m s t) (hm : Covers m 0x1F0E710798) : Within m s (handOff t) := by
  unfold handOff
  repeat' (first | exact hm.sub (by decide) | exact Or.inl (hm.sub (by decide))
                 | (intro y; refine within_cut (m := m) (s := s) (y := y) ?_ ?_; rotate_left; (intro hy; clear_value y); rotate_right; subst y)
                 | (intro y; clear_value y) | lift_lets | with_reducible exact h | with_reducible assumption | with_reducible apply within_ite
                 | with_reducible apply releaseAwaiting_within | with_reducible apply refuseCommands_within | with_reducible apply endDues_within
                 | with_reducible apply silence_within | with_reducible apply clearTakes_within | with_reducible apply sendStatus_within
                 | with_reducible apply setRole_within | with_reducible apply modPair_within | with_reducible apply beginActivation_within)

theorem handoverStep_within {m : Nat} {s t : State} (h : Within m s t) (hm : Covers m 0x1F0E710798) : Within m s (handoverStep t) := by
  unfold handoverStep
  repeat' (first | exact hm.sub (by decide) | lift_lets | with_reducible exact h | with_reducible apply within_ite
                 | with_reducible apply handOff_within | split)

theorem stepDown_within {m : Nat} {s t : State} (h : Within m s t) (hm : Covers m 0xF0A710788) : Within m s (stepDown t) := by
  unfold stepDown
  repeat' (first | exact hm.sub (by decide) | exact Or.inl (hm.sub (by decide))
                 | (intro y; refine within_cut (m := m) (s := s) (y := y) ?_ ?_; rotate_left; (intro hy; clear_value y); rotate_right; subst y)
                 | lift_lets | with_reducible exact h | with_reducible assumption | with_reducible apply releaseAwaiting_within
                 | with_reducible apply endResync_within | with_reducible apply endDues_within | with_reducible apply silence_within
                 | with_reducible apply clearTakes_within | with_reducible apply allOutputsOff_within | with_reducible apply sendStatus_within
                 | with_reducible apply setRole_within | with_reducible apply modPair_within)

theorem asStandby_within {m : Nat} {s t : State} (h : Within m s t) (a0 : State → State) (g0 : ∀ u, Within m s u → Within m s (a0 u)) :
    Within m s (asStandby a0 t) := by
  unfold asStandby
  repeat' (first | lift_lets | with_reducible exact h | with_reducible apply within_ite | with_reducible apply g0)

theorem mirrorStart_within {m : Nat} {s t : State} (h : Within m s t) (hm : Covers m 0x98E774588) (a0 : ℕ) (a1 : ℕ) (a2 : Bytes) :
    Within m s (mirrorStart a0 a1 a2 t) := by
  unfold mirrorStart
  repeat' (first | exact hm.sub (by decide) | with_reducible exact Or.inr rfl
                 | (intro y; refine within_cut (m := m) (s := s) (y := y) ?_ ?_; rotate_left; (intro hy; clear_value y); rotate_right; subst y)
                 | lift_lets | with_reducible exact h | with_reducible assumption | with_reducible apply within_ite
                 | with_reducible apply modPair_within | with_reducible apply setReason_within | with_reducible apply failMirror_within
                 | with_reducible apply endDues_within | with_reducible apply startProgram_within | with_reducible apply clearTakes_within
                 | split)

theorem mirrorRecut_within {m : Nat} {s t : State} (h : Within m s t) (hm : Covers m 0x108510588) (a0 : ℕ) : Within m s (mirrorRecut a0 t) := by
  unfold mirrorRecut
  refine within_ite (within_ite (modProg_within h (hm.sub (by decide)) _ (Or.inr rfl) (Or.inr ⟨rfl, rfl⟩)) h) ?_
  extract_lets slot
  split
  · refine within_ite (failMirror_within h (hm.sub (by decide))) ?_
    exact (releaseEvents_within (writeDirectory_within (modProg_within h (hm.sub (by decide)) _ (Or.inr rfl) (Or.inr ⟨rfl, rfl⟩))
      (hm.sub (by decide)) _) (hm.sub (by decide))).out
  · exact failMirror_within h (hm.sub (by decide))

theorem mirrorForces_within {m : Nat} {s t : State} (h : Within m s t) (hm : Covers m 0x108D10588) (a0 : List Bytes) :
    Within m s (mirrorForces a0 t) := by
  unfold mirrorForces
  repeat' (first | exact hm.sub (by decide) | exact Or.inl (hm.sub (by decide)) | with_reducible exact Or.inr ⟨rfl, rfl⟩
                 | (intro y; refine within_cut (m := m) (s := s) (y := y) ?_ ?_; rotate_left; (intro hy; clear_value y); rotate_right; subst y)
                 | (intro (y : _ → _); subst y; try beta_reduce) | (intro y; clear_value y) | intro _ | lift_lets | with_reducible exact h
                 | with_reducible assumption | with_reducible apply within_ite | with_reducible apply within_foldl
                 | with_reducible apply failMirror_within | with_reducible apply dropForces_within | with_reducible apply modProg_within
                 | with_reducible apply recordForce_within)

theorem resyncArmed_within {m : Nat} {s t : State} (h : Within m s t) (hm : Covers m 0x108110508) (a0 : ℕ) : Within m s (resyncArmed a0 t) := by
  unfold resyncArmed
  repeat' (first | exact hm.sub (by decide) | with_reducible exact Or.inr rfl
                 | (intro y; refine within_cut (m := m) (s := s) (y := y) ?_ ?_; rotate_left; (intro hy; clear_value y); rotate_right; subst y)
                 | lift_lets | with_reducible exact h | with_reducible assumption | with_reducible apply within_ite
                 | with_reducible apply modPair_within | with_reducible apply setReason_within | with_reducible apply answerResync_within)

theorem exportIdle_within {m : Nat} {s t : State} (h : Within m s t) (hm : Covers m 0x100100008) : Within m s (exportIdle t) := by
  unfold exportIdle
  repeat' (first | exact hm.sub (by decide) | intro _ | lift_lets | with_reducible exact h | with_reducible assumption
                 | with_reducible apply within_ite | with_reducible apply within_foldl | with_reducible apply exportTask_within | split)

theorem applyControl_within {m : Nat} {s t : State} (h : Within m s t) (hm : Covers m 0x1F8EF74798) (a0 : PairControl) :
    Within m s (applyControl a0 t) := by
  unfold applyControl
  repeat' (first | exact hm.sub (by decide) | exact Or.inl (hm.sub (by decide))
                 | (intro y; refine within_cut (m := m) (s := s) (y := y) ?_ ?_; rotate_left; (intro hy; clear_value y); rotate_right; subst y)
                 | intro _ | lift_lets | with_reducible exact h | with_reducible assumption | with_reducible apply within_ite
                 | with_reducible apply activeLockedOut_within | with_reducible apply modPair_within | with_reducible apply stepDown_within
                 | with_reducible apply asStandby_within | with_reducible apply mirrorStart_within | with_reducible apply beginStop_within
                 | with_reducible apply endResync_within | with_reducible apply mirrorRecut_within | with_reducible apply mirrorForces_within
                 | with_reducible apply resyncArmed_within | with_reducible apply bothGates_within | with_reducible apply exportIdle_within
                 | split)

theorem enterForwarded_within {m : Nat} {s t : State} (h : Within m s t) (hm : Covers m 0x50000) (a0 : ℕ) (a1 : List (ℕ × Bytes)) :
    Within m s (enterForwarded a0 a1 t) := by
  unfold enterForwarded
  repeat' (first | exact hm.sub (by decide) | exact Or.inl (hm.sub (by decide)) | with_reducible exact Or.inr rfl
                 | with_reducible exact Or.inr ⟨rfl, rfl⟩ | (intro y; clear_value y) | lift_lets | with_reducible exact h
                 | with_reducible apply modMbx_within | with_reducible apply enterCompletions_wstate)

theorem openTake_within {m : Nat} {s t : State} (h : Within m s t) (hm : Covers m 0x200000) (a0 : Frozen) : Within m s (openTake a0 t) := by
  unfold openTake
  repeat' (first | exact hm.sub (by decide)
                 | (intro y; refine within_cut (m := m) (s := s) (y := y) ?_ ?_; rotate_left; (intro hy; clear_value y); rotate_right; subst y)
                 | intro _ | lift_lets | with_reducible exact h | with_reducible assumption | with_reducible apply within_foldl
                 | with_reducible apply modLane_within | with_reducible apply modVoter_within)

theorem openForwarded_within {m : Nat} {s t : State} (h : Within m s t) (hm : Covers m 0x986770588) (a0 : PairSnapshot) :
    Within m s (openForwarded a0 t) := by
  unfold openForwarded
  repeat' (first | exact hm.sub (by decide) | with_reducible exact Or.inr rfl
                 | (intro y; refine within_cut (m := m) (s := s) (y := y) ?_ ?_; rotate_left; (intro hy; clear_value y); rotate_right; subst y)
                 | (intro y; clear_value y) | lift_lets | with_reducible exact h | with_reducible assumption | with_reducible apply within_ite
                 | with_reducible apply reshootAtActivation_within | with_reducible apply rejoinAt_within
                 | with_reducible apply enterForwarded_within | with_reducible apply modTask_within | with_reducible apply openTake_within
                 | with_reducible apply modPair_within | with_reducible apply deliverActivations_wstate | split)

theorem releaseWaiting_within {m : Nat} {s t : State} (h : Within m s t) (hm : Covers m 0x986770588) (a0 : ℕ) : Within m s (releaseWaiting a0 t) := by
  unfold releaseWaiting
  repeat' (first | exact hm.sub (by decide) | with_reducible exact Or.inr rfl | (intro y; clear_value y) | intro _ | lift_lets
                 | with_reducible exact h | with_reducible assumption | with_reducible apply within_foldl
                 | with_reducible apply openForwarded_within | with_reducible apply modPair_within)

theorem doorbell_within {m : Nat} {s t : State} (h : Within m s t) (hm : Covers m 0x50000) (a0 : Lane) (a1 : ℕ) (a2 : Word32) :
    Within m s (doorbell a0 a1 a2 t) := by
  unfold doorbell
  repeat' (first | exact hm.sub (by decide) | (intro y; clear_value y) | lift_lets | with_reducible exact h | with_reducible apply within_ite
                 | with_reducible apply modChannel_within | with_reducible apply countHeaderError_within)

theorem clearErrors_within {m : Nat} {s t : State} (h : Within m s t) (hm : Covers m 0x50000) (a0 : Lane) (a1 : ℕ) (a2 : Word32) :
    Within m s (clearErrors a0 a1 a2 t) := by
  unfold clearErrors
  repeat' (first | exact hm.sub (by decide) | (intro (y : _ → _); subst y; try beta_reduce) | lift_lets | with_reducible exact h
                 | with_reducible apply modChannel_within)

theorem writeRequest_within {m : Nat} {s t : State} (h : Within m s t) (hm : Covers m 0x50000) (a0 : Lane) (a1 : ℕ) (a2 : ℕ) (a3 : Word32) :
    Within m s (writeRequest a0 a1 a2 a3 t) := by
  unfold writeRequest
  repeat' (first | exact hm.sub (by decide) | lift_lets | with_reducible exact h | with_reducible apply modChannel_within)

theorem writeMailbox_within {m : Nat} {s t : State} (h : Within m s t) (hm : Covers m 0x50000) (a0 : Lane) (a1 : ℕ) (a2 : Word32) :
    Within m s (writeMailbox a0 a1 a2 t) := by
  unfold writeMailbox
  repeat' (first | exact hm.sub (by decide) | (intro y; clear_value y) | lift_lets | with_reducible exact h | with_reducible apply within_ite
                 | with_reducible apply doorbell_within | with_reducible apply clearErrors_within | with_reducible apply modWindow_within
                 | with_reducible apply writeRequest_within)

theorem writeDefer_within {m : Nat} {s t : State} (h : Within m s t) (hm : Covers m 0x200000) (a0 : Lane) (a1 : Word32) :
    Within m s (writeDefer a0 a1 t) := by
  unfold writeDefer
  repeat' (first | exact hm.sub (by decide) | (intro y; clear_value y) | lift_lets | with_reducible exact h | with_reducible apply modLane_within)

theorem writeActivation_within {m : Nat} {s t : State} (h : Within m s t) (hm : Covers m 0x200000) (a0 : Lane) (a1 : ℕ) (a2 : Word32) :
    Within m s (writeActivation a0 a1 a2 t) := by
  unfold writeActivation
  repeat' (first | exact hm.sub (by decide) | lift_lets | with_reducible exact h | with_reducible apply within_ite
                 | with_reducible apply writeDefer_within | with_reducible apply modLane_within)

theorem execRegisterWrite_within {m : Nat} {s t : State} (h : Within m s t) (hm : Covers m 0x250000) (a0 : Lane) (a1 : ℕ) (a2 : Word32) :
    WithinOut m s (execRegisterWrite a0 a1 a2 t) := by
  unfold execRegisterWrite
  repeat' (first | exact hm.sub (by decide) | lift_lets | with_reducible exact h | with_reducible apply withinOut_next
                 | with_reducible apply withinOut_ite | with_reducible apply writeMailbox_within | with_reducible apply writeActivation_within
                 | split)

theorem endDecided_within {m : Nat} {s t : State} (h : Within m s t) (hm : Covers m 0xF8E770788) (a0 : PairTakeEnd) :
    Within m s (endDecided a0 t) := by
  unfold endDecided
  repeat' (first | exact hm.sub (by decide) | exact Or.inl (hm.sub (by decide)) | lift_lets | with_reducible exact h
                 | with_reducible apply within_ite | with_reducible apply compareTake_within | with_reducible apply modPair_within
                 | with_reducible apply activeLockedOut_within | with_reducible apply failMirror_within | split)

theorem abandonEarlier_within {m : Nat} {s t : State} (h : Within m s t) (hm : Covers m 0x200000) (a0 : Lane) (a1 : LaneTake) :
    Within m s (abandonEarlier a0 a1 t) := by
  unfold abandonEarlier
  repeat' (first | exact hm.sub (by decide) | intro _ | lift_lets | with_reducible exact h | with_reducible assumption
                 | with_reducible apply within_foldl | with_reducible apply abandonTake_within)

theorem keySlip_within {m : Nat} {s t : State} (h : Within m s t) (hm : Covers m 0x100000004) : Within m s (keySlip t) := by
  unfold keySlip
  repeat' (first | exact hm.sub (by decide) | with_reducible exact Or.inr rfl | lift_lets | with_reducible exact h
                 | with_reducible apply afterDraw_within | with_reducible apply modPair_within)

theorem takeRole_within {m : Nat} {s t : State} (h : Within m s t) (hm : Covers m 0xF8E770788) (a0 : PairRole) : Within m s (takeRole a0 t) := by
  unfold takeRole
  repeat' (first | exact hm.sub (by decide) | lift_lets | with_reducible exact h | with_reducible apply within_ite
                 | with_reducible apply stepDown_within | with_reducible apply activate_within)

theorem sendWarmState_within {m : Nat} {s t : State} (h : Within m s t) (hm : Covers m 0x100100008) : Within m s (sendWarmState t) := by
  unfold sendWarmState
  repeat' (first | exact hm.sub (by decide) | (intro y; clear_value y) | intro _ | lift_lets | with_reducible exact h | with_reducible assumption
                 | with_reducible apply within_ite | with_reducible apply within_foldl | with_reducible apply slipstream_within | split)

theorem formPair_within {m : Nat} {s t : State} (h : Within m s t) (hm : Covers m 0xF8E77078C) (a0 : PairHello) : Within m s (formPair a0 t) := by
  unfold formPair
  repeat' (first | exact hm.sub (by decide) | exact Or.inl (hm.sub (by decide))
                 | (intro y; refine within_cut (m := m) (s := s) (y := y) ?_ ?_; rotate_left; (intro hy; clear_value y); rotate_right; subst y)
                 | (intro y; clear_value y) | lift_lets | with_reducible exact h | with_reducible assumption
                 | with_reducible apply keySlip_within | with_reducible apply takeRole_within | with_reducible apply modPair_within
                 | with_reducible apply sendWarmState_within | with_reducible apply sendStatus_within | with_reducible apply testGate_within
                 | with_reducible apply setRole_within)

theorem partnerLost_within {m : Nat} {s t : State} (h : Within m s t) (hm : Covers m 0xF0A110788) : Within m s (partnerLost t) := by
  unfold partnerLost
  repeat' (first | exact hm.sub (by decide) | exact Or.inl (hm.sub (by decide))
                 | (intro y; refine within_cut (m := m) (s := s) (y := y) ?_ ?_; rotate_left; (intro hy; clear_value y); rotate_right; subst y)
                 | lift_lets | with_reducible exact h | with_reducible assumption | with_reducible apply within_ite
                 | with_reducible apply modPair_within | with_reducible apply answerResync_within | with_reducible apply endResync_within
                 | with_reducible apply releaseAwaiting_within | with_reducible apply setRole_within)

theorem execSlipstreamHello_within {m : Nat} {s t : State} (h : Within m s t) (hm : Covers m 0xF8E77078C) (a0 : PairHello) :
    WithinOut m s (execSlipstreamHello a0 t) := by
  unfold execSlipstreamHello
  repeat' (first | exact hm.sub (by decide) | exact Or.inl (hm.sub (by decide))
                 | (intro y; refine within_cut (m := m) (s := s) (y := y) ?_ ?_; rotate_left; (intro hy; clear_value y); rotate_right; subst y)
                 | lift_lets | with_reducible exact h | with_reducible assumption | with_reducible apply within_ite
                 | with_reducible apply withinOut_next | with_reducible apply withinOut_ite | with_reducible apply modPair_within
                 | with_reducible apply formPair_within | with_reducible apply recordPair_within | with_reducible apply partnerLost_within
                 | split)

theorem joinProgram_within {m : Nat} {s t : State} (h : Within m s t) (hm : Covers m 0x98E774588) : Within m s (joinProgram t) := by
  unfold joinProgram
  repeat' (first | exact hm.sub (by decide) | (intro y; clear_value y) | lift_lets | with_reducible exact h | with_reducible apply within_ite
                 | with_reducible apply mirrorStart_within)

theorem dropTakes_within {m : Nat} {s t : State} (h : Within m s t) (hm : Covers m 0x200000) (a0 : ℕ) : Within m s (dropTakes a0 t) := by
  unfold dropTakes
  repeat' (first | exact hm.sub (by decide)
                 | (intro y; refine within_cut (m := m) (s := s) (y := y) ?_ ?_; rotate_left; (intro hy; clear_value y); rotate_right; subst y)
                 | intro _ | lift_lets | with_reducible exact h | with_reducible assumption | with_reducible apply within_foldl
                 | with_reducible apply abandonTake_within | with_reducible apply modVoter_within)

theorem importState_within {m : Nat} {s t : State} (h : Within m s t) (hm : Covers m 0x98E774588) (a0 : ℕ) (a1 : Bytes) (a2 : Word64) :
    Within m s (importState a0 a1 a2 t) := by
  unfold importState
  repeat' (first | exact hm.sub (by decide) | with_reducible exact Or.inr rfl
                 | (intro y; refine within_cut (m := m) (s := s) (y := y) ?_ ?_; rotate_left; (intro hy; clear_value y); rotate_right; subst y)
                 | (intro y; clear_value y) | intro _ | lift_lets | with_reducible exact h | with_reducible assumption
                 | with_reducible apply within_ite | with_reducible apply within_foldl | with_reducible apply joinProgram_within
                 | with_reducible apply resyncFails_within | with_reducible apply dropTakes_within | with_reducible apply modLane_within
                 | with_reducible apply resyncDone_within | with_reducible apply modPair_within | split)

theorem stateReceived_within {m : Nat} {s t : State} (h : Within m s t) (hm : Covers m 0x98E774588) (a0 : ℕ) (a1 : Bytes) (a2 : Word64) :
    Within m s (stateReceived a0 a1 a2 t) := by
  unfold stateReceived
  repeat' (first | exact hm.sub (by decide) | with_reducible exact Or.inr rfl | lift_lets | with_reducible exact h
                 | with_reducible apply within_ite | with_reducible apply importState_within | with_reducible apply modPair_within)

theorem superviseNext_within {m : Nat} {s t : State} (h : Within m s t) (hm : Covers m 0x100000000) (a0 : ℕ) : Within m s (superviseNext a0 t) := by
  unfold superviseNext
  repeat' (first | exact hm.sub (by decide) | with_reducible exact Or.inr rfl | lift_lets | with_reducible exact h
                 | with_reducible apply modPair_within | split)

theorem execSlipstreamHelloSend_within {m : Nat} {s t : State} (h : Within m s t) (hm : Covers m 0x100100008) :
    WithinOut m s (execSlipstreamHelloSend t) := by
  unfold execSlipstreamHelloSend
  repeat' (first | exact hm.sub (by decide) | lift_lets | with_reducible exact h | with_reducible apply withinOut_next
                 | with_reducible apply withinOut_ite | with_reducible apply sendSlip_within)

theorem copyToken_within {m : Nat} {s t : State} (h : Within m s t) (hm : Covers m 0x10000) (a0 : ℕ) (a1 : ℕ) (a2 : Bytes) :
    Within m s (copyToken a0 a1 a2 t) := by
  unfold copyToken
  repeat' (first | exact hm.sub (by decide) | (intro y; clear_value y) | lift_lets | with_reducible exact h | with_reducible apply setTable_within)

theorem alignTime_within {m : Nat} {s t : State} (h : Within m s t) (hm : Covers m 0x108100008) (a0 : Bytes) : Within m s (alignTime a0 t) := by
  unfold alignTime
  repeat' (first | exact hm.sub (by decide) | with_reducible exact Or.inr rfl
                 | (intro y; refine within_cut (m := m) (s := s) (y := y) ?_ ?_; rotate_left; (intro hy; clear_value y); rotate_right; subst y)
                 | (intro y; clear_value y) | lift_lets | with_reducible exact h | with_reducible assumption | with_reducible apply within_ite
                 | with_reducible apply modPair_within | with_reducible apply setReason_within)

theorem alignPosition_within {m : Nat} {s t : State} (h : Within m s t) (hm : Covers m 0x108100008) (a0 : Bytes) :
    Within m s (alignPosition a0 t) := by
  unfold alignPosition
  repeat' (first | exact hm.sub (by decide) | with_reducible exact Or.inr rfl
                 | (intro y; refine within_cut (m := m) (s := s) (y := y) ?_ ?_; rotate_left; (intro hy; clear_value y); rotate_right; subst y)
                 | (intro y; clear_value y) | lift_lets | with_reducible exact h | with_reducible assumption | with_reducible apply within_ite
                 | with_reducible apply setReason_within | with_reducible apply modPair_within | split)

theorem noteSnapshot_within {m : Nat} {s t : State} (h : Within m s t) (hm : Covers m 0x108530008) (a0 : PairSnapshot) :
    Within m s (noteSnapshot a0 t) := by
  have b (u : State) (hu : Within m s u) (n k : Nat) :
      Within m s (modMbx (fun b => { b with epoch := max b.epoch n, storedEpoch := max b.storedEpoch k }) u) :=
    modMbx_within hu (hm.sub (by decide)) _ (Or.inl (hm.sub (by decide))) (Or.inr rfl) (Or.inr rfl)
  have p (u : State) (hu : Within m s u) (f : PairSt → PairSt) (hf : ∀ p, (f p).role = p.role) : Within m s (modPair f u) :=
    modPair_within hu (hm.sub (by decide)) _ (Or.inr (hf _))
  have g := b _ (alignTime_within (alignPosition_within h (hm.sub (by decide)) a0.snapshot) (hm.sub (by decide)) a0.snapshot) (snapshotEpoch a0) (snapshotEpoch a0)
  unfold noteSnapshot
  refine p _ ?_ _ fun _ => rfl
  exact within_ite (modTask_within g (hm.sub (by decide)) _ _) g

theorem execMbxChDoorbell_within {m : Nat} {s t : State} (h : Within m s t) (hm : Covers m 0x50000) (a0 : Lane) (a1 : Fin 16) (a2 : Word32) :
    WithinOut m s (execMbxChDoorbell a0 a1 a2 t) := by
  unfold execMbxChDoorbell
  repeat' (first | exact hm.sub (by decide) | lift_lets | with_reducible exact h | with_reducible apply within_ite
                 | with_reducible apply withinOut_next | with_reducible apply doorbell_within)

theorem jitterStart_within {m : Nat} {s t : State} (h : Within m s t) (hm : Covers m 0x100000) (a0 : Lane) : Within2 m s (jitterStart a0 t) := by
  unfold jitterStart
  repeat' (first | exact hm.sub (by decide) | (intro y; clear_value y) | lift_lets | with_reducible exact h | with_reducible apply within2_mk
                 | with_reducible apply modTest_within | with_reducible apply countApplied_within | split)

theorem jitterStart_wstate {m : Nat} {s t : State} (h : Within m s t) (hm : Covers m 0x100000) (a0 : Lane) : Within m s (jitterStart a0 t).2 :=
  (jitterStart_within h hm a0).out

theorem setReady_within {m : Nat} {s t : State} (h : Within m s t) (hm : Covers m 0x200000) (a0 : Lane) (a1 : ℕ) : Within m s (setReady a0 a1 t) := by
  unfold setReady
  repeat' (first | exact hm.sub (by decide) | (intro y; clear_value y) | lift_lets | with_reducible exact h | with_reducible apply modLane_within)

theorem execTakeStart_within {m : Nat} {s t : State} (h : Within m s t) (hm : Covers m 0xDEEF707BA) (a0 : Lane) (a1 : ℕ) :
    WithinOut m s (execTakeStart a0 a1 t) := by
  unfold execTakeStart
  repeat' (first | exact hm.sub (by decide) | with_reducible exact h | with_reducible apply withinOut_next | with_reducible apply withinOut_ite
                 | with_reducible apply abandonEarlier_within | with_reducible apply reach_within | with_reducible apply laneFault_within
                 | with_reducible apply modLane_within | with_reducible apply setReady_within | with_reducible apply jitterStart_wstate | split)

theorem postponeHandover_within {m : Nat} {s t : State} (h : Within m s t) (hm : Covers m 0x100100008) (a0 : ℕ) :
    Within m s (postponeHandover a0 t) := by
  unfold postponeHandover
  repeat' (first | exact hm.sub (by decide) | with_reducible exact Or.inr rfl
                 | (intro y; refine within_cut (m := m) (s := s) (y := y) ?_ ?_; rotate_left; (intro hy; clear_value y); rotate_right; subst y)
                 | (intro y; clear_value y) | lift_lets | with_reducible exact h | with_reducible assumption | with_reducible apply within_ite
                 | with_reducible apply modPair_within | with_reducible apply slipstream_within)

theorem acknowledge_within {m : Nat} {s t : State} (h : Within m s t) (hm : Covers m 0x100100008) (a0 : ℕ) (a1 : ℕ) :
    Within m s (acknowledge a0 a1 t) := by
  unfold acknowledge
  repeat' (first | exact hm.sub (by decide) | lift_lets | with_reducible exact h | with_reducible apply slipstream_within)

theorem mirrorCues_within {m : Nat} {s t : State} (h : Within m s t) (hm : Covers m 0x4000000) (a0 : ℕ) (a1 : List (ℕ × ℕ × ℕ)) :
    Within m s (mirrorCues a0 a1 t) := by
  unfold mirrorCues
  repeat' (first | exact hm.sub (by decide)
                 | (intro y; refine within_cut (m := m) (s := s) (y := y) ?_ ?_; rotate_left; (intro hy; clear_value y); rotate_right; subst y)
                 | (intro (y : _ → _); subst y; try beta_reduce) | intro _ | lift_lets | with_reducible exact h | with_reducible assumption
                 | with_reducible apply within_foldl | with_reducible apply modCue_within | with_reducible apply modPos_within)

theorem noteEnd_within {m : Nat} {s t : State} (h : Within m s t) (hm : Covers m 0x104000000) (a0 : PairTakeEnd) : Within m s (noteEnd a0 t) := by
  unfold noteEnd
  repeat' (first | exact hm.sub (by decide) | with_reducible exact Or.inr rfl
                 | (intro y; refine within_cut (m := m) (s := s) (y := y) ?_ ?_; rotate_left; (intro hy; clear_value y); rotate_right; subst y)
                 | (intro y; clear_value y) | lift_lets | with_reducible exact h | with_reducible assumption | with_reducible apply within_ite
                 | with_reducible apply modPair_within | with_reducible apply mirrorCues_within | with_reducible apply superviseNext_within
                 | split)

theorem execSlipTakeEnd_within {m : Nat} {s t : State} (h : Within m s t) (hm : Covers m 0xF8E770788) (a0 : Arrived PairTakeEnd) :
    WithinOut m s (execSlipTakeEnd a0 t) := by
  unfold execSlipTakeEnd
  repeat' (first | exact hm.sub (by decide)
                 | (intro y; refine within_cut (m := m) (s := s) (y := y) ?_ ?_; rotate_left; (intro hy; clear_value y); rotate_right; subst y)
                 | lift_lets | with_reducible exact h | with_reducible assumption | with_reducible apply within_ite
                 | with_reducible apply withinOut_next | with_reducible apply withinOut_ite | with_reducible apply countArrival_within
                 | with_reducible apply acknowledge_within | with_reducible apply releaseWaiting_within | with_reducible apply endDecided_within
                 | with_reducible apply noteEnd_within | with_reducible apply failMirror_within)

theorem freezeInputs_within {m : Nat} {s t : State} (h : Within m s t) (hm : Covers m 0x102750008) (a0 : Image) (a1 : TaskRec) (a2 : ℕ) :
    Within m s (freezeInputs a0 a1 a2 t) := by
  unfold freezeInputs
  repeat' (first | exact hm.sub (by decide)
                 | (intro y; refine within_cut (m := m) (s := s) (y := y) ?_ ?_; rotate_left; (intro hy; clear_value y); rotate_right; subst y)
                 | (intro y; refine within2_cut (m := m) (s := s) (y := y) ?_ ?_; rotate_left; (intro hy; clear_value y); rotate_right; subst y)
                 | (intro y; clear_value y) | lift_lets | with_reducible exact h | with_reducible assumption | with_reducible apply within_ite
                 | with_reducible apply within2_mk | with_reducible apply modTask_within | with_reducible apply openTake_within
                 | with_reducible apply slipstream_within | with_reducible apply enterCompletions_wstate
                 | with_reducible apply deliverActivations_wstate | exact Within2.out (by assumption))

theorem freezeTask_within {m : Nat} {s t : State} (h : Within m s t) (hm : Covers m 0x986770588) (a0 : Image) (a1 : TaskRec) (a2 : ℕ) :
    Within m s (freezeTask a0 a1 a2 t) := by
  unfold freezeTask
  repeat' (first | exact hm.sub (by decide) | lift_lets | with_reducible exact h | with_reducible apply freezeInputs_within
                 | with_reducible apply reshootAtActivation_within | with_reducible apply rejoinAt_within)

theorem execInputFreeze_within {m : Nat} {s t : State} (h : Within m s t) (hm : Covers m 0x98677058A) (a0 : ℕ) :
    WithinOut m s (execInputFreeze a0 t) := by
  unfold execInputFreeze
  repeat' (first | exact hm.sub (by decide) | lift_lets | with_reducible exact h | with_reducible apply within_ite
                 | with_reducible apply withinOut_next | with_reducible apply withinOut_ite | with_reducible apply freezeTask_within
                 | with_reducible apply reach_within | split)

theorem readBack_within {m : Nat} {s t : State} (h : Within m s t) (hm : Covers m 0x200000) (a0 : Lane) (a1 : ℕ) : Within m s (readBack a0 a1 t) := by
  unfold readBack
  repeat' (first | exact hm.sub (by decide) | lift_lets | with_reducible exact h | with_reducible apply modLane_within)

theorem execActTake_within {m : Nat} {s t : State} (h : Within m s t) (hm : Covers m 0x200000) (a0 : Lane) : WithinOut m s (execActTake a0 t) := by
  unfold execActTake
  repeat' (first | exact hm.sub (by decide)
                 | (intro y; refine within_cut (m := m) (s := s) (y := y) ?_ ?_; rotate_left; (intro hy; clear_value y); rotate_right; subst y)
                 | lift_lets | with_reducible exact h | with_reducible assumption | with_reducible apply withinOut_next
                 | with_reducible apply readBack_within | with_reducible apply modLane_within | split)

theorem execResyncRetry_within {m : Nat} {s t : State} (h : Within m s t) (hm : Covers m 0x10011050A) : WithinOut m s (execResyncRetry t) := by
  unfold execResyncRetry
  repeat' (first | exact hm.sub (by decide) | with_reducible exact Or.inr rfl
                 | (intro y; refine within_cut (m := m) (s := s) (y := y) ?_ ?_; rotate_left; (intro hy; clear_value y); rotate_right; subst y)
                 | lift_lets | with_reducible exact h | with_reducible assumption | with_reducible apply within_ite
                 | with_reducible apply withinOut_next | with_reducible apply modPair_within | with_reducible apply reach_within
                 | with_reducible apply armResync_within | split)

theorem execSlipstreamFragmentDone_within {m : Nat} {s t : State} (h : Within m s t) (hm : Covers m 0x10010000A) (a0 : ℕ) :
    WithinOut m s (execSlipstreamFragmentDone a0 t) := by
  unfold execSlipstreamFragmentDone
  repeat' (first | exact hm.sub (by decide) | lift_lets | with_reducible exact h | with_reducible apply withinOut_next
                 | with_reducible apply withinOut_ite | with_reducible apply startFragment_within | with_reducible apply reach_within
                 | with_reducible apply serveSlip_within | with_reducible apply modSlip_within | split)

theorem receiveImage_within {m : Nat} {s t : State} (h : Within m s t) (hm : Covers m 0x109510588) (a0 : Bytes) : Within m s (receiveImage a0 t) := by
  unfold receiveImage
  repeat' (first | exact hm.sub (by decide) | with_reducible exact Or.inr rfl
                 | (intro y; refine within_cut (m := m) (s := s) (y := y) ?_ ?_; rotate_left; (intro hy; clear_value y); rotate_right; subst y)
                 | (intro y; clear_value y) | lift_lets | with_reducible exact h | with_reducible assumption | with_reducible apply within_ite
                 | with_reducible apply failMirror_within | with_reducible apply tellHeld_within | with_reducible apply noteInterval_within
                 | with_reducible apply modSlot_within | with_reducible apply nextCut_within | with_reducible apply modPair_within | split)

theorem noteCompletion_within {m : Nat} {s t : State} (h : Within m s t) (hm : Covers m 0x200000) (a0 : Lane) (a1 : ℕ) (a2 : Bytes) :
    Within m s (noteCompletion a0 a1 a2 t) := by
  unfold noteCompletion
  repeat' (first | exact hm.sub (by decide) | (intro (y : _ → _); subst y; try beta_reduce) | (intro y; clear_value y) | lift_lets
                 | with_reducible exact h | with_reducible apply modLane_within)

theorem execMbxChPop_within {m : Nat} {s t : State} (h : Within m s t) (hm : Covers m 0x250000) (a0 : Lane) (a1 : Fin 16) :
    WithinOut m s (execMbxChPop a0 a1 t) := by
  have c (m' : Nat) (k : Covers 0x250000 m') : Covers m m' := hm.sub k
  unfold execMbxChPop
  extract_lets x
  split
  · exact withinOut_next (readBack_within h (c _ (by decide)) _ _)
  · exact withinOut_next (noteCompletion_within (readBack_within (modWindow_within (modChannel_within h (c _ (by decide)) _ _ _) (c _ (by decide)) _ _)
      (c _ (by decide)) _ _) (c _ (by decide)) _ _ _)

theorem resyncReported_within {m : Nat} {s t : State} (h : Within m s t) (hm : Covers m 0x100000000) : Within m s (resyncReported t) := by
  unfold resyncReported
  repeat' (first | exact hm.sub (by decide) | with_reducible exact Or.inr rfl | (intro y; clear_value y) | lift_lets | with_reducible exact h
                 | with_reducible apply within_ite | with_reducible apply modPair_within | split)

theorem partnerReports_within {m : Nat} {s t : State} (h : Within m s t) (hm : Covers m 0x500110788) (a0 : ℕ) : Within m s (partnerReports a0 t) := by
  unfold partnerReports
  repeat' (first | exact hm.sub (by decide) | with_reducible exact Or.inr rfl
                 | (intro y; refine within_cut (m := m) (s := s) (y := y) ?_ ?_; rotate_left; (intro hy; clear_value y); rotate_right; subst y)
                 | (intro y; clear_value y) | lift_lets | with_reducible exact h | with_reducible assumption | with_reducible apply within_ite
                 | with_reducible apply modPair_within | with_reducible apply resyncReported_within | with_reducible apply releaseAwaiting_within
                 | with_reducible apply answerResync_within | with_reducible apply armResync_within)

theorem statusHeard_within {m : Nat} {s t : State} (h : Within m s t) (hm : Covers m 0xF0A110788) (a0 : Bytes) :
    WithinOut m s (statusHeard a0 t) := by
  unfold statusHeard
  repeat' (first | exact hm.sub (by decide) | exact Or.inl (hm.sub (by decide)) | lift_lets | with_reducible exact h
                 | with_reducible apply withinOut_next | with_reducible apply withinOut_ite | with_reducible apply partnerLost_within
                 | with_reducible apply partnerReports_within | with_reducible apply modPair_within)

theorem execSlipSnapshot_within {m : Nat} {s t : State} (h : Within m s t) (hm : Covers m 0x98E770588) (a0 : Arrived PairSnapshot) :
    WithinOut m s (execSlipSnapshot a0 t) := by
  have p (u : State) (hu : Within m s u) (f : PairSt → PairSt) (hf : ∀ p, (f p).role = p.role) : Within m s (modPair f u) :=
    modPair_within hu (hm.sub (by decide)) _ (Or.inr (hf _))
  unfold execSlipSnapshot
  have g := countArrival_within h (hm.sub (by decide)) a0.got
  generalize countArrival a0.got t = u at g
  have n := noteSnapshot_within g (hm.sub (by decide)) a0.body
  refine withinOut_ite (withinOut_next g) ?_
  generalize noteSnapshot a0.body u = v at n
  exact withinOut_ite (withinOut_next (p _ n _ fun _ => rfl)) (withinOut_next (openForwarded_within n (hm.sub (by decide)) _))

theorem sendKeepalive_within {m : Nat} {s t : State} (h : Within m s t) (hm : Covers m 0x100100008) (a0 : ℕ) : Within m s (sendKeepalive a0 t) := by
  unfold sendKeepalive
  repeat' (first | exact hm.sub (by decide) | (intro y; clear_value y) | lift_lets | with_reducible exact h | with_reducible apply within_ite
                 | with_reducible apply sendSlipOn_within)

theorem keepaliveHeard_within {m : Nat} {s t : State} (h : Within m s t) (hm : Covers m 0x108100008) (a0 : ℕ) (a1 : ℕ) :
    WithinOut m s (keepaliveHeard a0 a1 t) := by
  unfold keepaliveHeard
  repeat' (first | exact hm.sub (by decide) | with_reducible exact Or.inr rfl
                 | (intro y; refine within_cut (m := m) (s := s) (y := y) ?_ ?_; rotate_left; (intro hy; clear_value y); rotate_right; subst y)
                 | lift_lets | with_reducible exact h | with_reducible assumption | with_reducible apply withinOut_next
                 | with_reducible apply withinOut_ite | with_reducible apply sendKeepalive_within | with_reducible apply modPair_within
                 | with_reducible apply setReason_within | split)

theorem ackHeard_within {m : Nat} {s t : State} (h : Within m s t) (hm : Covers m 0x500110788) (a0 : ℕ) (a1 : ℕ) (a2 : ℕ) :
    WithinOut m s (ackHeard a0 a1 a2 t) := by
  unfold ackHeard
  repeat' (first | exact hm.sub (by decide) | lift_lets | with_reducible exact h | with_reducible apply withinOut_next
                 | with_reducible apply withinOut_ite | with_reducible apply partnerReports_within | with_reducible apply releaseAwaiting_within)

theorem execSlipAck_within {m : Nat} {s t : State} (h : Within m s t) (hm : Covers m 0x500110788) (a0 : ℕ) (a1 : ℕ) (a2 : Arrived ℕ) :
    WithinOut m s (execSlipAck a0 a1 a2 t) := by
  unfold execSlipAck
  repeat' (first | exact hm.sub (by decide) | intro _ | lift_lets | with_reducible exact h | with_reducible assumption
                 | with_reducible apply heard_within | with_reducible apply ackHeard_within)

theorem tokenHeard_within {m : Nat} {s t : State} (h : Within m s t) (hm : Covers m 0x100110008) (a0 : ℕ) (a1 : ℕ) (a2 : Bytes) :
    WithinOut m s (tokenHeard a0 a1 a2 t) := by
  unfold tokenHeard
  repeat' (first | exact hm.sub (by decide) | lift_lets | with_reducible exact h | with_reducible apply withinOut_next
                 | with_reducible apply withinOut_ite | with_reducible apply acknowledge_within | with_reducible apply copyToken_within)

theorem rebase_within {m : Nat} {s t : State} (h : Within m s t) (hm : Covers m 0x400000) (a0 : ℕ) (a1 : TaskRec → ℕ) :
    Within m s (rebase a0 a1 t) := by
  unfold rebase
  repeat' (first | exact hm.sub (by decide) | with_reducible exact Or.inr rfl | with_reducible exact Or.inr ⟨rfl, rfl⟩
                 | (intro y; refine within_cut (m := m) (s := s) (y := y) ?_ ?_; rotate_left; (intro hy; clear_value y); rotate_right; subst y)
                 | (intro y; clear_value y) | lift_lets | with_reducible exact h | with_reducible assumption
                 | with_reducible apply modProg_within | split)

theorem takeHandover_within {m : Nat} {s t : State} (h : Within m s t) (hm : Covers m 0xF8E770788) (a0 : ℕ) : Within m s (takeHandover a0 t) := by
  unfold takeHandover
  repeat' (first | exact hm.sub (by decide) | exact Or.inl (hm.sub (by decide))
                 | (intro y; refine within_cut (m := m) (s := s) (y := y) ?_ ?_; rotate_left; (intro hy; clear_value y); rotate_right; subst y)
                 | lift_lets | with_reducible exact h | with_reducible assumption | with_reducible apply within_ite
                 | with_reducible apply modPair_within | with_reducible apply becomeActive_within | with_reducible apply testOff_within
                 | with_reducible apply rebase_within | with_reducible apply releaseEvents_wstate)

theorem execHandoverInstant_within {m : Nat} {s t : State} (h : Within m s t) (hm : Covers m 0x1F8E77079A) :
    WithinOut m s (execHandoverInstant t) := by
  unfold execHandoverInstant
  repeat' (first | exact hm.sub (by decide) | exact Or.inl (hm.sub (by decide))
                 | (intro y; refine within_cut (m := m) (s := s) (y := y) ?_ ?_; rotate_left; (intro hy; clear_value y); rotate_right; subst y)
                 | lift_lets | with_reducible exact h | with_reducible assumption | with_reducible apply within_ite
                 | with_reducible apply withinOut_next | with_reducible apply withinOut_ite | with_reducible apply reachLocal_within
                 | with_reducible apply postponeHandover_within | with_reducible apply takeHandover_within | with_reducible apply modPair_within
                 | with_reducible apply handoverStep_within | split)

theorem execUpdatePartnerWaitEnd_within {m : Nat} {s t : State} (h : Within m s t) (hm : Covers m 0x110010008A) :
    WithinOut m s (execUpdatePartnerWaitEnd t) := by
  unfold execUpdatePartnerWaitEnd
  repeat' (first | exact hm.sub (by decide) | lift_lets | with_reducible exact h | with_reducible apply within_ite
                 | with_reducible apply withinOut_next | with_reducible apply withinOut_ite | with_reducible apply armHandover_within
                 | with_reducible apply refuseActivation_within | with_reducible apply reach_within | split)

theorem execSlipKeepalive_within {m : Nat} {s t : State} (h : Within m s t) (hm : Covers m 0x108100008) (a0 : ℕ) (a1 : Arrived ℕ) :
    WithinOut m s (execSlipKeepalive a0 a1 t) := by
  unfold execSlipKeepalive
  repeat' (first | exact hm.sub (by decide) | intro _ | lift_lets | with_reducible exact h | with_reducible assumption
                 | with_reducible apply heard_within | with_reducible apply keepaliveHeard_within)

theorem gapCues_within {m : Nat} {s t : State} (h : Within m s t) (hm : Covers m 0x40C400008) : Within m s (gapCues t) := by
  unfold gapCues
  repeat' (first | exact hm.sub (by decide) | intro _ | lift_lets | with_reducible exact h | with_reducible assumption
                 | with_reducible apply within_ite | with_reducible apply within_foldl | with_reducible apply cueMissed_within
                 | with_reducible apply cueAction_within | split)

theorem rebaseRecut_within {m : Nat} {s t : State} (h : Within m s t) (hm : Covers m 0x400000) (a0 : ℕ) : Within m s (rebaseRecut a0 t) := by
  unfold rebaseRecut
  repeat' (first | exact hm.sub (by decide) | with_reducible exact Or.inr rfl | with_reducible exact Or.inr ⟨rfl, rfl⟩ | (intro y; clear_value y)
                 | lift_lets | with_reducible exact h | with_reducible apply modProg_within | split)

theorem execTakeoverInstant_within {m : Nat} {s t : State} (h : Within m s t) (hm : Covers m 0x50C40000A) :
    WithinOut m s (execTakeoverInstant t) := by
  unfold execTakeoverInstant
  repeat' (first | exact hm.sub (by decide) | with_reducible exact Or.inr rfl | with_reducible exact Or.inr ⟨rfl, rfl⟩
                 | (intro y; refine within_cut (m := m) (s := s) (y := y) ?_ ?_; rotate_left; (intro hy; clear_value y); rotate_right; subst y)
                 | (intro y; clear_value y) | lift_lets | with_reducible exact h | with_reducible assumption
                 | with_reducible apply withinOut_next | with_reducible apply modPair_within | with_reducible apply reachLocal_within
                 | with_reducible apply rebase_within | with_reducible apply modProg_within | with_reducible apply gapCues_within
                 | with_reducible apply rebaseRecut_within | with_reducible apply releaseEvents_wstate | split)

theorem execTimStepSumLo_within {m : Nat} {s t : State} (h : Within m s t) (hm : Covers m 0x200000) (a0 : Lane) :
    WithinOut m s (execTimStepSumLo a0 t) := by
  unfold execTimStepSumLo
  repeat' (first | exact hm.sub (by decide) | lift_lets | with_reducible exact h | with_reducible apply withinOut_next
                 | with_reducible apply modLane_within)

theorem slipstreamLost_within {m : Nat} {s t : State} (h : Within m s t) (hm : Covers m 0x108100008) : Within m s (slipstreamLost t) := by
  unfold slipstreamLost
  repeat' (first | exact hm.sub (by decide) | with_reducible exact Or.inr rfl | lift_lets | with_reducible exact h
                 | with_reducible apply setReason_within | with_reducible apply modPair_within)

theorem execPairTelegram_within {m : Nat} {s t : State} (h : Within m s t) (hm : Covers m 0x108100008) (a0 : ℕ) (a1 : ℕ) :
    WithinOut m s (execPairTelegram a0 a1 t) := by
  unfold execPairTelegram
  repeat' (first | exact hm.sub (by decide) | with_reducible exact Or.inr rfl
                 | (intro y; refine within_cut (m := m) (s := s) (y := y) ?_ ?_; rotate_left; (intro hy; clear_value y); rotate_right; subst y)
                 | (intro y; clear_value y) | lift_lets | with_reducible exact h | with_reducible assumption | with_reducible apply within_ite
                 | with_reducible apply withinOut_next | with_reducible apply withinOut_ite | with_reducible apply modPair_within
                 | with_reducible apply slipstreamLost_within | with_reducible apply superviseNext_within | split)

theorem releaseEvery_within {m : Nat} {s t : State} (h : Within m s t) (hm : Covers m 0x986770588) : Within m s (releaseEvery t) := by
  unfold releaseEvery
  repeat' (first | exact hm.sub (by decide) | intro _ | lift_lets | with_reducible exact h | with_reducible assumption
                 | with_reducible apply within_foldl | with_reducible apply releaseWaiting_within)

theorem execSlipToken_within {m : Nat} {s t : State} (h : Within m s t) (hm : Covers m 0x100110008) (a0 : ℕ) (a1 : ℕ) (a2 : Arrived Bytes) :
    WithinOut m s (execSlipToken a0 a1 a2 t) := by
  unfold execSlipToken
  repeat' (first | exact hm.sub (by decide) | intro _ | lift_lets | with_reducible exact h | with_reducible assumption
                 | with_reducible apply heard_within | with_reducible apply tokenHeard_within)

theorem slipLink_within {m : Nat} {s t : State} (h : Within m s t) (hm : Covers m 0xF0A110788) (a0 : ℕ) (a1 : Bool) :
    Within m s (slipLink a0 a1 t) := by
  unfold slipLink
  repeat' (first | exact hm.sub (by decide) | exact Or.inl (hm.sub (by decide))
                 | (intro y; refine within_cut (m := m) (s := s) (y := y) ?_ ?_; rotate_left; (intro hy; clear_value y); rotate_right; subst y)
                 | (intro y; clear_value y) | lift_lets | with_reducible exact h | with_reducible assumption | with_reducible apply within_ite
                 | with_reducible apply modPair_within | with_reducible apply modSlip_within | with_reducible apply partnerLost_within)

theorem execHealthReportSend_within {m : Nat} {s t : State} (h : Within m s t) (hm : Covers m 0x100100008) :
    WithinOut m s (execHealthReportSend t) := by
  unfold execHealthReportSend
  repeat' (first | exact hm.sub (by decide) | lift_lets | with_reducible exact h | with_reducible apply within_ite
                 | with_reducible apply withinOut_next | with_reducible apply sendStatus_within)

theorem execResyncStart_within {m : Nat} {s t : State} (h : Within m s t) (hm : Covers m 0x10010000A) : WithinOut m s (execResyncStart t) := by
  unfold execResyncStart
  repeat' (first | exact hm.sub (by decide) | with_reducible exact Or.inr rfl
                 | (intro y; refine within_cut (m := m) (s := s) (y := y) ?_ ?_; rotate_left; (intro hy; clear_value y); rotate_right; subst y)
                 | lift_lets | with_reducible exact h | with_reducible assumption | with_reducible apply within_ite
                 | with_reducible apply withinOut_next | with_reducible apply withinOut_ite | with_reducible apply modPair_within
                 | with_reducible apply reachLocal_within | with_reducible apply slipstream_within | with_reducible apply exportIdle_within
                 | split)

theorem execActDefer_within {m : Nat} {s t : State} (h : Within m s t) (hm : Covers m 0x200000) (a0 : Lane) (a1 : Word32) :
    WithinOut m s (execActDefer a0 a1 t) := by
  unfold execActDefer
  repeat' (first | exact hm.sub (by decide) | lift_lets | with_reducible exact h | with_reducible apply within_ite
                 | with_reducible apply withinOut_next | with_reducible apply writeDefer_within)

theorem execSupervisedTakeMissed_within {m : Nat} {s t : State} (h : Within m s t) (hm : Covers m 0xF8E77078A) :
    WithinOut m s (execSupervisedTakeMissed t) := by
  unfold execSupervisedTakeMissed
  repeat' (first | exact hm.sub (by decide) | exact Or.inl (hm.sub (by decide))
                 | (intro y; refine within_cut (m := m) (s := s) (y := y) ?_ ?_; rotate_left; (intro hy; clear_value y); rotate_right; subst y)
                 | (intro y; clear_value y) | lift_lets | with_reducible exact h | with_reducible assumption | with_reducible apply within_ite
                 | with_reducible apply withinOut_next | with_reducible apply withinOut_ite | with_reducible apply superviseNext_within
                 | with_reducible apply reach_within | with_reducible apply releaseEvery_within | with_reducible apply slipstreamLost_within
                 | with_reducible apply modPair_within | with_reducible apply takeOver_within | split)

theorem execSlipStatus_within {m : Nat} {s t : State} (h : Within m s t) (hm : Covers m 0xF0A110788) (a0 : Arrived Bytes) :
    WithinOut m s (execSlipStatus a0 t) := by
  unfold execSlipStatus
  repeat' (first | exact hm.sub (by decide) | intro _ | lift_lets | with_reducible exact h | with_reducible assumption
                 | with_reducible apply heard_within | with_reducible apply statusHeard_within)

theorem execMbxShadowFetch_within {m : Nat} {s t : State} (h : Within m s t) (hm : Covers m 0x250000) (a0 : Lane) :
    WithinOut m s (execMbxShadowFetch a0 t) := by
  unfold execMbxShadowFetch
  repeat' (first | exact hm.sub (by decide)
                 | (intro y; refine within_cut (m := m) (s := s) (y := y) ?_ ?_; rotate_left; (intro hy; clear_value y); rotate_right; subst y)
                 | (intro (y : _ → _); subst y; try beta_reduce) | (intro y; clear_value y) | lift_lets | with_reducible exact h
                 | with_reducible assumption | with_reducible apply withinOut_next | with_reducible apply readBack_within
                 | with_reducible apply modWindow_within | with_reducible apply noteCompletion_within | split)

theorem execMailboxResponseDelayEnd_within {m : Nat} {s t : State} (h : Within m s t) (hm : Covers m 0x50011078A) :
    WithinOut m s (execMailboxResponseDelayEnd t) := by
  unfold execMailboxResponseDelayEnd
  repeat' (first | exact hm.sub (by decide) | with_reducible exact Or.inr rfl | with_reducible exact Or.inr ⟨rfl, rfl⟩
                 | (intro y; refine within_cut (m := m) (s := s) (y := y) ?_ ?_; rotate_left; (intro hy; clear_value y); rotate_right; subst y)
                 | lift_lets | with_reducible exact h | with_reducible assumption | with_reducible apply withinOut_next
                 | with_reducible apply modMbx_within | with_reducible apply reach_within | with_reducible apply settleClosing_within
                 | with_reducible apply sendNow_within | split)

end Sys2Proof.Machine
end

