-- ==== Sys2Proof/Laws/WithinCommands.lean ====
section
/-! SUPPORT. Which parts of the state an operation can change (Sys2Proof/Laws/Within.lean):
the command table, the voter and the events that reach over several blocks. -/

namespace Sys2Proof.Machine

theorem takeVoted_within {m : Nat} {s t : State} (h : Within m s t) (hm : Covers m 0x250000) (a0 : Lane) (a1 : VoteTake) :
    Within m s (takeVoted a0 a1 t) := by
  unfold takeVoted
  repeat' (first | exact hm.sub (by decide) | lift_lets | with_reducible exact h | with_reducible apply laneVoted_within
                 | with_reducible apply modLane_within)

theorem compareProbation_within {m : Nat} {s t : State} (h : Within m s t) (hm : Covers m 0x100350588) (a0 : Word64) (a1 : VoteTake) (a2 : Lane) :
    Within m s (compareProbation a0 a1 a2 t) := by
  unfold compareProbation
  repeat' (first | exact hm.sub (by decide) | lift_lets | with_reducible exact h | with_reducible apply within_ite
                 | with_reducible apply passProbation_within | with_reducible apply takeVoted_within | with_reducible apply failReshoot_within
                 | split)

theorem commandsModule_within {m : Nat} (hm : Covers m 0x1FFFFFFFFC) {n : ℕ} {c : Command} (h : commandsModule n = some c) : WithinC m c := by
  unfold commandsModule at h
  split at h <;> cases h
  · exact cmdModuleStatus_within
  · exact cmdModuleInfo_within
  · exact cmdModeRequest_within (hm.sub (by decide))
  · exact cmdModuleRestart_within (hm.sub (by decide))
  · exact cmdClassControl_within (hm.sub (by decide))
  · exact cmdTokenQuery_within
  · exact cmdMailboxCounters_within

theorem commandsTrust_within {m : Nat} (hm : Covers m 0x1FFFFFFFFC) {n : ℕ} {c : Command} (h : commandsTrust n = some c) : WithinC m c := by
  unfold commandsTrust at h
  split at h <;> cases h
  · exact cmdSessionLogin_within
  · exact cmdSessionEnd_within (hm.sub (by decide))
  · exact cmdSessionList_within
  · exact cmdIdentityRead_within
  · exact cmdEnrolRequest_within
  · exact cmdEnrolInstall_within (hm.sub (by decide))
  · exact cmdAnchorRotate_within (hm.sub (by decide))
  · exact cmdCredentialSet_within (hm.sub (by decide))
  · exact cmdCredentialRemove_within (hm.sub (by decide))
  · exact cmdSaInstall_within (hm.sub (by decide))
  · exact cmdSaRelease_within (hm.sub (by decide))
  · exact cmdOwnerLock_within (hm.sub (by decide))
  · exact cmdTamperAcknowledge_within (hm.sub (by decide))
  · exact cmdLullStatus_within

theorem commandsProgram_within {m : Nat} (hm : Covers m 0x1FFFFFFFFC) {n : ℕ} {c : Command} (h : commandsProgram n = some c) : WithinC m c := by
  unfold commandsProgram at h
  split at h <;> cases h
  · exact cmdProgramStatus_within
  · exact cmdImageLoad_within
  · exact cmdProgramStart_within (hm.sub (by decide))
  · exact cmdProgramStop_within (hm.sub (by decide))
  · exact cmdRecutStart_within (hm.sub (by decide))
  · exact cmdRecutCancel_within (hm.sub (by decide))
  · exact cmdForceSet_within (hm.sub (by decide))
  · exact cmdForceClear_within (hm.sub (by decide))
  · exact cmdForceList_within
  · exact cmdVariableRead_within (hm.sub (by decide))
  · exact cmdImageErase_within (hm.sub (by decide))

theorem commandsLane_within {m : Nat} (hm : Covers m 0x1FFFFFFFFC) {n : ℕ} {c : Command} (h : commandsLane n = some c) : WithinC m c := by
  unfold commandsLane at h
  split at h <;> cases h
  · exact cmdLaneStatus_within
  · exact cmdLaneHealth_within
  · exact cmdLaneTraceRead_within
  · exact cmdLaneIsolate_within (hm.sub (by decide))
  · exact cmdLaneReshoot_within (hm.sub (by decide))
  · exact cmdStaggerSet_within (hm.sub (by decide))
  · exact cmdVoterTest_within (hm.sub (by decide))
  · exact cmdLaneDiagClear_within (hm.sub (by decide))

theorem commandsPair_within {m : Nat} (hm : Covers m 0x1FFFFFFFFC) {n : ℕ} {c : Command} (h : commandsPair n = some c) : WithinC m c := by
  unfold commandsPair at h
  split at h <;> cases h
  · exact cmdPairStatus_within
  · exact cmdPairHealth_within
  · exact cmdPairConfigure_within (hm.sub (by decide))
  · exact cmdPairSwitchover_within (hm.sub (by decide))
  · exact cmdPairResync_within (hm.sub (by decide))
  · exact cmdPairBudget_within
  · exact cmdPairCounters_within

theorem commandsSafety_within {m : Nat} (hm : Covers m 0x1FFFFFFFFC) {n : ℕ} {c : Command} (h : commandsSafety n = some c) : WithinC m c := by
  unfold commandsSafety at h
  split at h <;> cases h
  · exact cmdSafetyStatus_within
  · exact cmdSafetyParamLoad_within (hm.sub (by decide))
  · exact cmdSafetyParamActivate_within (hm.sub (by decide))
  · exact cmdLockoutEnter_within (hm.sub (by decide))
  · exact cmdLockoutReset_within (hm.sub (by decide))
  · exact cmdChangeLogRead_within
  · exact cmdWindowClose_within (hm.sub (by decide))
  · exact cmdSafeIoTest_within (hm.sub (by decide))

theorem commandsPosition_within {m : Nat} (hm : Covers m 0x1FFFFFFFFC) {n : ℕ} {c : Command} (h : commandsPosition n = some c) : WithinC m c := by
  unfold commandsPosition at h
  split at h <;> cases h
  · exact cmdPositionStatus_within
  · exact cmdPositionConfigure_within (hm.sub (by decide))
  · exact cmdPositionMark_within (hm.sub (by decide))
  · exact cmdPositionAt_within
  · exact cmdCueStatus_within
  · exact cmdCueControl_within (hm.sub (by decide))
  · exact cmdPositionCounters_within

theorem commandsSignal_within {m : Nat} (hm : Covers m 0x1FFFFFFFFC) {n : ℕ} {c : Command} (h : commandsSignal n = some c) : WithinC m c := by
  unfold commandsSignal at h
  split at h <;> cases h
  · exact cmdSignalStatus_within
  · exact cmdChannelConfigure_within (hm.sub (by decide))
  · exact cmdCoeffLoad_within (hm.sub (by decide))
  · exact cmdSignalDissolve_within (hm.sub (by decide))
  · exact cmdChannelControl_within (hm.sub (by decide))
  · exact cmdInputSwitch_within (hm.sub (by decide))
  · exact cmdSignalCounters_within

theorem commandsNet_within {m : Nat} (hm : Covers m 0x1FFFFFFFFC) {n : ℕ} {c : Command} (h : commandsNet n = some c) : WithinC m c := by
  unfold commandsNet at h
  split at h <;> cases h
  · exact cmdNetStatus_within
  · exact cmdPortConfigure_within (hm.sub (by decide))
  · exact cmdPortCounters_within
  · exact cmdFdbPin_within (hm.sub (by decide))
  · exact cmdFdbUnpin_within (hm.sub (by decide))
  · exact cmdFdbRead_within
  · exact cmdFdbFlush_within (hm.sub (by decide))
  · exact cmdFlowConfigure_within (hm.sub (by decide))
  · exact cmdFlowControl_within (hm.sub (by decide))
  · exact cmdFlowStatus_within
  · exact cmdFrerConfigure_within (hm.sub (by decide))
  · exact cmdGateConfigure_within (hm.sub (by decide))
  · exact cmdLaunchWrite_within (hm.sub (by decide))
  · exact cmdLaunchFlush_within (hm.sub (by decide))
  · exact cmdRnatConfigure_within (hm.sub (by decide))
  · exact cmdNetSettings_within (hm.sub (by decide))

theorem commandsMvb_within {m : Nat} (hm : Covers m 0x1FFFFFFFFC) {n : ℕ} {c : Command} (h : commandsMvb n = some c) : WithinC m c := by
  unfold commandsMvb at h
  split at h <;> cases h
  · exact cmdMvbStatus_within
  · exact cmdMvbConfigure_within (hm.sub (by decide))
  · exact cmdMvbPortConfigure_within (hm.sub (by decide))
  · exact cmdMvbPortControl_within (hm.sub (by decide))
  · exact cmdMvbWrite_within (hm.sub (by decide))
  · exact cmdMvbRead_within (hm.sub (by decide))
  · exact cmdMvbLock_within (hm.sub (by decide))
  · exact cmdMvbUnlock_within (hm.sub (by decide))
  · exact cmdMvbMap_within (hm.sub (by decide))
  · exact cmdMvbDevices_within
  · exact cmdMvbCounters_within

theorem commandsTime_within {m : Nat} (hm : Covers m 0x1FFFFFFFFC) {n : ℕ} {c : Command} (h : commandsTime n = some c) : WithinC m c := by
  unfold commandsTime at h
  split at h <;> cases h
  · exact cmdTimeStatus_within
  · exact cmdTimeConfigure_within (hm.sub (by decide))
  · exact cmdTimeSet_within (hm.sub (by decide))
  · exact cmdTimePortStatus_within

theorem commandsActivation_within {m : Nat} (hm : Covers m 0x1FFFFFFFFC) {n : ℕ} {c : Command} (h : commandsActivation n = some c) : WithinC m c := by
  unfold commandsActivation at h
  split at h <;> cases h
  · exact cmdActivationStatus_within
  · exact cmdSourceConfigure_within (hm.sub (by decide))
  · exact cmdSourceMask_within (hm.sub (by decide))
  · exact cmdActivationHold_within (hm.sub (by decide))
  · exact cmdActivationTrigger_within (hm.sub (by decide))
  · exact cmdActivationCounters_within

theorem commandsRecorder_within {m : Nat} (hm : Covers m 0x1FFFFFFFFC) {n : ℕ} {c : Command} (h : commandsRecorder n = some c) : WithinC m c := by
  unfold commandsRecorder at h
  split at h <;> cases h
  · exact cmdRecorderStatus_within
  · exact cmdRecorderRead_within
  · exact cmdRecorderFreeze_within (hm.sub (by decide))
  · exact cmdRecorderRelease_within (hm.sub (by decide))
  · exact cmdRecorderClearRequest_within (hm.sub (by decide))
  · exact cmdRecorderClearConfirm_within (hm.sub (by decide))
  · exact cmdRecorderCounters_within

theorem commandsUpdate_within {m : Nat} (hm : Covers m 0x1FFFFFFFFC) {n : ℕ} {c : Command} (h : commandsUpdate n = some c) : WithinC m c := by
  unfold commandsUpdate at h
  split at h <;> cases h
  · exact cmdUpdateStatus_within
  · exact cmdUpdateStage_within
  · exact cmdUpdateSchedule_within (hm.sub (by decide))
  · exact cmdUpdateCancel_within (hm.sub (by decide))

theorem commandsTest_within {m : Nat} (hm : Covers m 0x1FFFFFFFFC) {n : ℕ} {c : Command} (h : commandsTest n = some c) : WithinC m c := by
  unfold commandsTest at h
  split at h <;> cases h
  · exact cmdTestStatus_within
  · exact cmdTestEnter_within (hm.sub (by decide))
  · exact cmdTestExit_within (hm.sub (by decide))
  · exact cmdSquallSet_within (hm.sub (by decide))
  · exact cmdSelfTestRun_within (hm.sub (by decide))

theorem commands_within {m : Nat} (hm : Covers m 0x1FFFFFFFFC) (n : ℕ) (c : Command) (h : commands n = some c) : WithinC m c := by
  unfold commands at h
  split at h
  · exact commandsModule_within hm h
  · exact commandsTrust_within hm h
  · exact commandsProgram_within hm h
  · exact commandsLane_within hm h
  · exact commandsPair_within hm h
  · exact commandsSafety_within hm h
  · exact commandsPosition_within hm h
  · exact commandsSignal_within hm h
  · exact commandsNet_within hm h
  · exact commandsMvb_within hm h
  · exact commandsTime_within hm h
  · exact commandsActivation_within hm h
  · exact commandsRecorder_within hm h
  · exact commandsUpdate_within hm h
  · exact commandsTest_within hm h
  · cases h

theorem command_within {m : Nat} {s t : State} (h :
    Within m s t) (hm : Covers m 0x500150788) (a0 : ℕ) (a1 : Msg) {c : Command} (hc : commands a0 = some c)
    (g0 : WithinC m c) : WithinOut m s (command a0 a1 t) :=
  withinOut_next (receive_within h (hm.sub (by decide)) _ _ _ (fun d hd => by rw [hc] at hd; cases hd; exact g0))

theorem execCredentialRemove_within {m : Nat} {s t : State} (h : Within m s t) (hm : Covers m 0x500152788) (a0 : Msg) :
    WithinOut m s (execCredentialRemove a0 t) :=
  command_within h (hm.sub (by decide)) 0x0209 a0 rfl (cmdCredentialRemove_within (hm.sub (by decide)))

theorem execCredentialSet_within {m : Nat} {s t : State} (h : Within m s t) (hm : Covers m 0x50015278C) (a0 : Msg) :
    WithinOut m s (execCredentialSet a0 t) :=
  command_within h (hm.sub (by decide)) 0x0208 a0 rfl (cmdCredentialSet_within (hm.sub (by decide)))

theorem cutDone_within {m : Nat} {s t : State} (h : Within m s t) (hm : Covers m 0x1FFFFFFFFC) (a0 : CutFor) (a1 : Image) (a2 : ImageSlot) (a3 : ℕ) :
    Within m s (cutDone a0 a1 a2 a3 t) := by
  unfold cutDone
  repeat' (first | exact hm.sub (by decide) | intro _ | lift_lets | with_reducible exact h | with_reducible apply within_ite
                 | with_reducible apply serve_within | with_reducible apply completeEntry_within | with_reducible apply tellHeld_within
                 | exact commands_within (hm.sub (by decide)) _ _ (by assumption) | split)

theorem execUpdateCancel_within {m : Nat} {s t : State} (h : Within m s t) (hm : Covers m 0x1508150788) (a0 : Msg) :
    WithinOut m s (execUpdateCancel a0 t) :=
  command_within h (hm.sub (by decide)) 0x0E04 a0 rfl (cmdUpdateCancel_within (hm.sub (by decide)))

theorem voteLockout_within {m : Nat} {s t : State} (h : Within m s t) (hm : Covers m 0xDEEF707B8) (a0 : Bool) (a1 : ℕ) (a2 : VoteTake) :
    Within m s (voteLockout a0 a1 a2 t) := by
  unfold voteLockout
  repeat' (first | exact hm.sub (by decide) | lift_lets | with_reducible exact h | with_reducible apply within_ite
                 | with_reducible apply lockOut_within)

theorem loseVoter_within {m : Nat} {s t : State} (h : Within m s t) (hm : Covers m 0xDEEF707B8) (a0 : Bool) (a1 : Lane) (a2 : ℕ) (a3 : VoteTake) :
    Within m s (loseVoter a0 a1 a2 a3 t) := by
  unfold loseVoter
  repeat' (first | exact hm.sub (by decide) | lift_lets | with_reducible exact h | with_reducible apply within_ite
                 | with_reducible apply isolateLane_within | with_reducible apply voteLockout_within)

theorem corruptSignature_within {m : Nat} {s t : State} (h : Within m s t) (hm : Covers m 0x100000) (a0 : Lane) (a1 : Word64) :
    Within3 m s (corruptSignature a0 a1 t) := by
  unfold corruptSignature
  repeat' (first | exact hm.sub (by decide) | (intro y; clear_value y) | lift_lets | with_reducible exact h | with_reducible apply within3_mk
                 | with_reducible apply modTest_within | with_reducible apply countApplied_within | split)

theorem corruptSignature_wstate {m : Nat} {s t : State} (h : Within m s t) (hm : Covers m 0x100000) (a0 : Lane) (a1 : Word64) :
    Within m s (corruptSignature a0 a1 t).2.2 :=
  (corruptSignature_within h hm a0 a1).out

theorem modVote_within {m : Nat} {s t : State} (h : Within m s t) (hm : Covers m 0x200000) (a0 : ℕ) (a1 : ℕ) (a2 : VoteTake → VoteTake) :
    Within m s (modVote a0 a1 a2 t) := by
  unfold modVote
  repeat' (first | exact hm.sub (by decide) | lift_lets | with_reducible exact h | with_reducible apply modVoter_within)

theorem inMajority_within {m : Nat} {s t : State} (h : Within m s t) (hm : Covers m 0x250000) (a0 : VoteTake) (a1 : Lane) :
    Within m s (inMajority a0 a1 t) := by
  unfold inMajority
  repeat' (first | exact hm.sub (by decide) | lift_lets | with_reducible exact h | with_reducible apply takeVoted_within
                 | with_reducible apply modHealth_within)

theorem closeTake_within {m : Nat} {s t : State} (h : Within m s t) (hm : Covers m 0x200000) (a0 : ℕ) (a1 : ℕ) : Within m s (closeTake a0 a1 t) := by
  unfold closeTake
  repeat' (first | exact hm.sub (by decide) | lift_lets | with_reducible exact h | with_reducible apply within_ite
                 | with_reducible apply modVoter_within | split)

theorem joinMajority_within {m : Nat} {s t : State} (h : Within m s t) (hm : Covers m 0x8250000) (a0 : Image) (a1 : TaskRec) (a2 : VoteTake)
    (a3 : Lane) :
    Within m s (joinMajority a0 a1 a2 a3 t) := by
  unfold joinMajority
  repeat' (first | exact hm.sub (by decide)
                 | (intro y; refine within_cut (m := m) (s := s) (y := y) ?_ ?_; rotate_left; (intro hy; clear_value y); rotate_right; subst y)
                 | (intro (y : _ → _); subst y; try beta_reduce) | intro _ | lift_lets | with_reducible exact h | with_reducible assumption
                 | with_reducible apply within_ite | with_reducible apply within_foldl | with_reducible apply modVote_within
                 | with_reducible apply inMajority_within | with_reducible apply modOutput_within | with_reducible apply closeTake_within)

theorem askComparison_within {m : Nat} {s t : State} (h : Within m s t) (hm : Covers m 0x200000) (a0 : Lane) (a1 : VoteTake) :
    Within m s (askComparison a0 a1 t) := by
  unfold askComparison
  repeat' (first | exact hm.sub (by decide) | lift_lets | with_reducible exact h | with_reducible apply within_ite
                 | with_reducible apply modVoter_within | split)

theorem dissents_within {m : Nat} {s t : State} (h : Within m s t) (hm : Covers m 0xDEEF707B8) (a0 : Lane) (a1 : VoteTake) :
    Within m s (dissents a0 a1 t) := by
  unfold dissents
  repeat' (first | exact hm.sub (by decide)
                 | (intro y; refine within_cut (m := m) (s := s) (y := y) ?_ ?_; rotate_left; (intro hy; clear_value y); rotate_right; subst y)
                 | lift_lets | with_reducible exact h | with_reducible assumption | with_reducible apply askComparison_within
                 | with_reducible apply modHealth_within | with_reducible apply loseVoter_within)

theorem traceDecision_within {m : Nat} {s t : State} (h : Within m s t) (hm : Covers m 0x200000) (a0 : VoteTake) (a1 : ℕ) (a2 : Option Lane) :
    Within m s (traceDecision a0 a1 a2 t) := by
  unfold traceDecision
  repeat' (first | exact hm.sub (by decide) | lift_lets | with_reducible exact h | with_reducible apply traceAdd_within)

theorem lateDissent_within {m : Nat} {s t : State} (h : Within m s t) (hm : Covers m 0xDEEF707B8) (a0 : VoteTake) (a1 : Lane) :
    Within m s (lateDissent a0 a1 t) := by
  unfold lateDissent
  repeat' (first | exact hm.sub (by decide) | (intro y; clear_value y) | lift_lets | with_reducible exact h
                 | with_reducible apply closeTake_within | with_reducible apply dissents_within | with_reducible apply traceDecision_within)

theorem markReleased_within {m : Nat} {s t : State} (h : Within m s t) (hm : Covers m 0x200000) (a0 : VoteTake) (a1 : List Lane) :
    Within m s (markReleased a0 a1 t) := by
  unfold markReleased
  repeat' (first | exact hm.sub (by decide) | lift_lets | with_reducible exact h | with_reducible apply modVote_within)

theorem checkFails_within {m : Nat} {s t : State} (h : Within m s t) (hm : Covers m 0xDEEF707B8) (a0 : VoteTake) (a1 : Word64) (a2 : List Lane) :
    Within m s (checkFails a0 a1 a2 t) := by
  unfold checkFails
  repeat' (first | exact hm.sub (by decide) | intro _ | lift_lets | with_reducible exact h | with_reducible assumption
                 | with_reducible apply within_ite | with_reducible apply within_foldl | with_reducible apply loseVoter_within)

theorem answerReads_within {m : Nat} {s t : State} (h : Within m s t) (hm : Covers m 0xDEEF707B8) (a0 : Image) (a1 : VoteTake) (a2 : List Lane) :
    Within m s (answerReads a0 a1 a2 t) := by
  unfold answerReads
  repeat' (first | exact hm.sub (by decide) | exact Or.inl (hm.sub (by decide)) | with_reducible exact Or.inr ⟨rfl, rfl⟩
                 | (intro y; refine within_cut (m := m) (s := s) (y := y) ?_ ?_; rotate_left; (intro hy; clear_value y); rotate_right; subst y)
                 | (intro (y : _ → _); subst y; try beta_reduce) | (intro y; clear_value y) | intro _ | lift_lets | with_reducible exact h
                 | with_reducible assumption | with_reducible apply within_foldl | with_reducible apply modProg_within
                 | with_reducible apply completeEntry_within | with_reducible apply loseVoter_within | split)

theorem recutVoted_within {m : Nat} {s t : State} (h : Within m s t) (hm : Covers m 0x400000) : Within m s (recutVoted t) := by
  unfold recutVoted
  repeat' (first | exact hm.sub (by decide) | with_reducible exact Or.inr rfl | with_reducible exact Or.inr ⟨rfl, rfl⟩ | lift_lets
                 | with_reducible exact h | with_reducible apply within_ite | with_reducible apply beginCommit_within
                 | with_reducible apply modProg_within | split)

theorem compareOwn_within {m : Nat} {s t : State} (h : Within m s t) (hm : Covers m 0xF8E770788) (a0 : Image) (a1 : TaskRec) (a2 : VoteTake)
    (a3 : ℕ) (a4 : Word64) (a5 : Lane) (a6 : List SerialRecord) :
    Within m s (compareOwn a0 a1 a2 a3 a4 a5 a6 t) := by
  unfold compareOwn
  repeat' (first | exact hm.sub (by decide)
                 | (intro y; refine within_cut (m := m) (s := s) (y := y) ?_ ?_; rotate_left; (intro hy; clear_value y); rotate_right; subst y)
                 | (intro y; clear_value y) | intro _ | lift_lets | with_reducible exact h | with_reducible assumption
                 | with_reducible apply within_foldl | with_reducible apply applyCueRequest_within | with_reducible apply recutVoted_within
                 | with_reducible apply modTask_within | with_reducible apply ownDecided_within)

theorem acceptVoted_within {m : Nat} {s t : State} (h : Within m s t) (hm : Covers m 0x1FFFFFFFFC) (a0 : ℕ) (a1 : Bytes) (a2 : ℕ) :
    Within m s (acceptVoted a0 a1 a2 t) := by
  unfold acceptVoted
  repeat' (first | exact hm.sub (by decide) | exact Or.inl (hm.sub (by decide))
                 | (intro y; refine within_cut (m := m) (s := s) (y := y) ?_ ?_; rotate_left; (intro hy; clear_value y); rotate_right; subst y)
                 | (intro (y : _ → _); subst y; try beta_reduce) | (intro y; clear_value y) | intro _ | lift_lets | with_reducible exact h
                 | with_reducible assumption | with_reducible apply modMbx_within | with_reducible apply present_within
                 | exact commands_within (hm.sub (by decide)) _ _ (by assumption))

theorem issueVoted_within {m : Nat} {s t : State} (h : Within m s t) (hm : Covers m 0x1FFFFFFFFC) (a0 : ℕ) (a1 : SerialRecord) :
    Within m s (issueVoted a0 a1 t) := by
  unfold issueVoted
  repeat' (first | exact hm.sub (by decide) | exact Or.inl (hm.sub (by decide)) | (intro (y : _ → _); subst y; try beta_reduce)
                 | (intro y; clear_value y) | lift_lets | with_reducible exact h | with_reducible apply within_ite
                 | with_reducible apply acceptVoted_within | with_reducible apply modMbx_within)

theorem issueCommands_within {m : Nat} {s t : State} (h : Within m s t) (hm : Covers m 0x1FFFFFFFFC) (a0 : ℕ) (a1 : VoteTake)
    (a2 : List SerialRecord) :
    Within m s (issueCommands a0 a1 a2 t) := by
  unfold issueCommands
  repeat' (first | exact hm.sub (by decide) | exact Or.inl (hm.sub (by decide))
                 | (intro y; refine within_cut (m := m) (s := s) (y := y) ?_ ?_; rotate_left; (intro hy; clear_value y); rotate_right; subst y)
                 | intro _ | lift_lets | with_reducible exact h | with_reducible assumption | with_reducible apply within_foldl
                 | with_reducible apply issueVoted_within | with_reducible apply modMbx_within)

theorem releaseOutput_within {m : Nat} {s t : State} (h : Within m s t) (hm : Covers m 0x8000000) (a0 : ℕ) (a1 : Bool) (a2 : ℕ) :
    Within m s (releaseOutput a0 a1 a2 t) := by
  unfold releaseOutput
  repeat' (first | exact hm.sub (by decide) | lift_lets | with_reducible exact h | with_reducible apply modOutput_within)

theorem releaseBinding_within {m : Nat} {s t : State} (h : Within m s t) (hm : Covers m 0xC08000508) (a0 : Image) (a1 : ℕ)
    (a2 : List SerialRecord) (a3 : OutputBinding) :
    Within m s (releaseBinding a0 a1 a2 a3 t) := by
  unfold releaseBinding
  repeat' (first | exact hm.sub (by decide) | lift_lets | with_reducible exact h | with_reducible apply publishFlow_within
                 | with_reducible apply releaseOutput_within | with_reducible apply releaseMvb_within | split)

theorem applicationRecord_within {m : Nat} {s t : State} (h : Within m s t) (hm : Covers m 0x80) (a0 : VoteTake) (a1 : SerialRecord) :
    Within m s (applicationRecord a0 a1 t) := by
  unfold applicationRecord
  repeat' (first | exact hm.sub (by decide) | lift_lets | with_reducible exact h | with_reducible apply makeRecord_within)

theorem keepValue_within {m : Nat} {s t : State} (h : Within m s t) (hm : Covers m 0x100400000) (a0 : Image) (a1 : SerialRecord) :
    Within m s (keepValue a0 a1 t) := by
  unfold keepValue
  repeat' (first | exact hm.sub (by decide) | with_reducible exact Or.inr rfl | with_reducible exact Or.inr ⟨rfl, rfl⟩
                 | (intro y; refine within_cut (m := m) (s := s) (y := y) ?_ ?_; rotate_left; (intro hy; clear_value y); rotate_right; subst y)
                 | lift_lets | with_reducible exact h | with_reducible assumption | with_reducible apply within_ite
                 | with_reducible apply modPair_within | with_reducible apply modProg_within)

theorem releaseImage_within {m : Nat} {s t : State} (h : Within m s t) (hm : Covers m 0xD0C400588) (a0 : Image) (a1 : TaskRec) (a2 : VoteTake)
    (a3 : ℕ) (a4 : List SerialRecord) :
    Within m s (releaseImage a0 a1 a2 a3 a4 t) := by
  unfold releaseImage
  repeat' (first | exact hm.sub (by decide)
                 | (intro y; refine within_cut (m := m) (s := s) (y := y) ?_ ?_; rotate_left; (intro hy; clear_value y); rotate_right; subst y)
                 | intro _ | lift_lets | with_reducible exact h | with_reducible assumption | with_reducible apply within_ite
                 | with_reducible apply within_foldl | with_reducible apply releaseBinding_within | with_reducible apply evaluateGates_within
                 | with_reducible apply releaseCues_within | with_reducible apply applicationRecord_within
                 | with_reducible apply keepValue_within | with_reducible apply emit_within)

theorem releaseTake_within {m : Nat} {s t : State} (h : Within m s t) (hm : Covers m 0x1FFFFFFFFC) (a0 : Image) (a1 : TaskRec) (a2 : VoteTake)
    (a3 : ℕ) (a4 : List SerialRecord) :
    Within m s (releaseTake a0 a1 a2 a3 a4 t) := by
  unfold releaseTake
  repeat' (first | exact hm.sub (by decide)
                 | (intro y; refine within_cut (m := m) (s := s) (y := y) ?_ ?_; rotate_left; (intro hy; clear_value y); rotate_right; subst y)
                 | lift_lets | with_reducible exact h | with_reducible assumption | with_reducible apply issueCommands_within
                 | with_reducible apply releaseImage_within | with_reducible apply recutVoted_within | with_reducible apply modTask_within)

theorem releaseSerial_within {m : Nat} {s t : State} (h : Within m s t) (hm : Covers m 0x1FFFFFFFFC) (a0 : Image) (a1 : TaskRec) (a2 : VoteTake)
    (a3 : Word64) (a4 : List Lane) (a5 : List Lane) :
    Within m s (releaseSerial a0 a1 a2 a3 a4 a5 t) := by
  unfold releaseSerial
  repeat' (first | exact hm.sub (by decide) | (intro y; clear_value y) | lift_lets | with_reducible exact h | with_reducible apply within_ite
                 | with_reducible apply answerReads_within | with_reducible apply compareOwn_within | with_reducible apply releaseTake_within
                 | split)

theorem sendTakeEnd_within {m : Nat} {s t : State} (h : Within m s t) (hm : Covers m 0x100100008) (a0 : Image) (a1 : TaskRec) (a2 : VoteTake)
    (a3 : ℕ) (a4 : ℕ) (a5 : Word64) :
    Within m s (sendTakeEnd a0 a1 a2 a3 a4 a5 t) := by
  unfold sendTakeEnd
  repeat' (first | exact hm.sub (by decide) | lift_lets | with_reducible exact h | with_reducible apply within_ite
                 | with_reducible apply slipstream_within)

theorem endRelease_within {m : Nat} {s t : State} (h : Within m s t) (hm : Covers m 0x100100008) (a0 : Image) (a1 : TaskRec) (a2 : VoteTake)
    (a3 : Word64) (a4 : List Lane) (a5 : List Lane) :
    Within m s (endRelease a0 a1 a2 a3 a4 a5 t) := by
  unfold endRelease
  repeat' (first | exact hm.sub (by decide) | lift_lets | with_reducible exact h | with_reducible apply within_ite
                 | with_reducible apply sendTakeEnd_within | split)

theorem afterDecision_within {m : Nat} {s t : State} (h : Within m s t) (hm : Covers m 0x1F0E710798) : Within m s (afterDecision t) := by
  unfold afterDecision
  repeat' (first | exact hm.sub (by decide) | with_reducible exact Or.inr rfl | with_reducible exact Or.inr ⟨rfl, rfl⟩
                 | (intro y; refine within_cut (m := m) (s := s) (y := y) ?_ ?_; rotate_left; (intro hy; clear_value y); rotate_right; subst y)
                 | lift_lets | with_reducible exact h | with_reducible assumption | with_reducible apply within_ite
                 | with_reducible apply modProg_within | with_reducible apply handoverStep_within | with_reducible apply stopSteps_within | split)

theorem decideRelease_within {m : Nat} {s t : State} (h : Within m s t) (hm : Covers m 0x1FFFFFFFFC) (a0 : Image) (a1 : TaskRec) (a2 : VoteTake)
    (a3 : Word64) (a4 : List Lane) (a5 : List Lane) :
    Within m s (decideRelease a0 a1 a2 a3 a4 a5 t) := by
  unfold decideRelease
  repeat' (first | exact hm.sub (by decide)
                 | (intro y; refine within_cut (m := m) (s := s) (y := y) ?_ ?_; rotate_left; (intro hy; clear_value y); rotate_right; subst y)
                 | (intro y; clear_value y) | intro _ | lift_lets | with_reducible exact h | with_reducible assumption
                 | with_reducible apply within_ite | with_reducible apply within_foldl | with_reducible apply traceDecision_within
                 | with_reducible apply markReleased_within | with_reducible apply countShadow_within | with_reducible apply inMajority_within
                 | with_reducible apply checkFails_within | with_reducible apply releaseSerial_within
                 | with_reducible apply compareProbation_within | with_reducible apply reshootAtVote_within
                 | with_reducible apply endRelease_within | with_reducible apply dissents_within | with_reducible apply closeTake_within
                 | with_reducible apply resyncAtVote_within | with_reducible apply afterDecision_within)

theorem decideLockout_within {m : Nat} {s t : State} (h : Within m s t) (hm : Covers m 0xDEEF707B8) (a0 : Bool) (a1 : Image) (a2 : TaskRec)
    (a3 : VoteTake) :
    Within m s (decideLockout a0 a1 a2 a3 t) := by
  unfold decideLockout
  repeat' (first | exact hm.sub (by decide)
                 | (intro y; refine within_cut (m := m) (s := s) (y := y) ?_ ?_; rotate_left; (intro hy; clear_value y); rotate_right; subst y)
                 | lift_lets | with_reducible exact h | with_reducible assumption | with_reducible apply sendTakeEnd_within
                 | with_reducible apply traceDecision_within | with_reducible apply voteLockout_within)

theorem arrival_within {m : Nat} {s t : State} (h : Within m s t) (hm : Covers m 0x1FFFFFFFFC) (a0 : Image) (a1 : TaskRec) (a2 : VoteTake)
    (a3 : Lane) :
    Within m s (arrival a0 a1 a2 a3 t) := by
  unfold arrival
  repeat' (first | exact hm.sub (by decide) | lift_lets | with_reducible exact h | with_reducible apply within_ite
                 | with_reducible apply joinMajority_within | with_reducible apply lateDissent_within | with_reducible apply decideRelease_within
                 | with_reducible apply decideLockout_within | split)

theorem voterReceives_within {m : Nat} {s t : State} (h : Within m s t) (hm : Covers m 0x1FFFFFFFFC) (a0 : Image) (a1 : TaskRec) (a2 : VoteTake)
    (a3 : Lane) (a4 : Word64) (a5 : List SerialRecord) :
    Within m s (voterReceives a0 a1 a2 a3 a4 a5 t) := by
  unfold voterReceives
  repeat' (first | exact hm.sub (by decide)
                 | (intro y; refine within_cut (m := m) (s := s) (y := y) ?_ ?_; rotate_left; (intro hy; clear_value y); rotate_right; subst y)
                 | (intro y; refine within3_cut (m := m) (s := s) (y := y) ?_ ?_; rotate_left; (intro hy; clear_value y); rotate_right; subst y)
                 | (intro y; clear_value y) | lift_lets | with_reducible exact h | with_reducible assumption | with_reducible apply within_ite
                 | with_reducible apply within3_mk | with_reducible apply modVote_within | with_reducible apply arrival_within
                 | with_reducible apply closeTake_within | with_reducible apply compareProbation_within
                 | with_reducible apply corruptSignature_wstate | exact Within3.out (by assumption) | split)

theorem execSafetyStatus_within {m : Nat} {s t : State} (h : Within m s t) (hm : Covers m 0x500150788) (a0 : Msg) :
    WithinOut m s (execSafetyStatus a0 t) :=
  command_within h (hm.sub (by decide)) 0x0601 a0 rfl (cmdSafetyStatus_within)

theorem windowMismatch_within {m : Nat} {s t : State} (h : Within m s t) (hm : Covers m 0x10000) : Within m s (windowMismatch t) := by
  unfold windowMismatch
  repeat' (first | exact hm.sub (by decide) | with_reducible exact Or.inr rfl | with_reducible exact Or.inr ⟨rfl, rfl⟩ | lift_lets
                 | with_reducible exact h | with_reducible apply modMbx_within)

theorem meetsVoted_within {m : Nat} {s t : State} (h : Within m s t) (hm : Covers m 0x1FFFFFFFFC) (a0 : Lane) (a1 : VotedIssue) (a2 : Bytes) :
    Within m s (meetsVoted a0 a1 a2 t) := by
  unfold meetsVoted
  repeat' (first | exact hm.sub (by decide) | exact Or.inl (hm.sub (by decide)) | lift_lets | with_reducible exact h
                 | with_reducible apply within_ite | with_reducible apply acceptVoted_within | with_reducible apply modMbx_within
                 | with_reducible apply windowMismatch_within)

theorem pairCopy_within {m : Nat} {s t : State} (h : Within m s t) (hm : Covers m 0x1FFFFFFFFC) (a0 : Lane) (a1 : ℕ) (a2 : Bytes) :
    Within m s (pairCopy a0 a1 a2 t) := by
  unfold pairCopy
  repeat' (first | exact hm.sub (by decide) | exact Or.inl (hm.sub (by decide)) | (intro (y : _ → _); subst y; try beta_reduce)
                 | (intro y; clear_value y) | lift_lets | with_reducible exact h | with_reducible apply within_ite
                 | with_reducible apply acceptVoted_within | with_reducible apply modMbx_within)

theorem joinPaired_within {m : Nat} {s t : State} (h : Within m s t) (hm : Covers m 0x50000) (a0 : Lane) (a1 : VotedIssue) :
    Within m s (joinPaired a0 a1 t) := by
  unfold joinPaired
  repeat' (first | exact hm.sub (by decide) | exact Or.inl (hm.sub (by decide)) | with_reducible exact Or.inr rfl
                 | with_reducible exact Or.inr ⟨rfl, rfl⟩ | lift_lets | with_reducible exact h | with_reducible apply modWindow_within
                 | with_reducible apply modMbx_within)

theorem takeCopy_within {m : Nat} {s t : State} (h : Within m s t) (hm : Covers m 0x1FFFFFFFFC) (a0 : Lane) (a1 : ℕ) (a2 : Bytes) :
    Within m s (takeCopy a0 a1 a2 t) := by
  unfold takeCopy
  repeat' (first | exact hm.sub (by decide) | (intro (y : _ → _); subst y; try beta_reduce) | (intro y; clear_value y) | lift_lets
                 | with_reducible exact h | with_reducible apply within_ite | with_reducible apply meetsVoted_within
                 | with_reducible apply windowMismatch_within | with_reducible apply pairCopy_within | with_reducible apply joinPaired_within
                 | split)

theorem execLaunchFlush_within {m : Nat} {s t : State} (h : Within m s t) (hm : Covers m 0x500150788) (a0 : Msg) :
    WithinOut m s (execLaunchFlush a0 t) :=
  command_within h (hm.sub (by decide)) 0x090E a0 rfl (cmdLaunchFlush_within (hm.sub (by decide)))

theorem execLaunchWrite_within {m : Nat} {s t : State} (h : Within m s t) (hm : Covers m 0x500150788) (a0 : Msg) :
    WithinOut m s (execLaunchWrite a0 t) :=
  command_within h (hm.sub (by decide)) 0x090D a0 rfl (cmdLaunchWrite_within (hm.sub (by decide)))

theorem execTamperAcknowledge_within {m : Nat} {s t : State} (h : Within m s t) (hm : Covers m 0x500158788) (a0 : Msg) :
    WithinOut m s (execTamperAcknowledge a0 t) :=
  command_within h (hm.sub (by decide)) 0x020D a0 rfl (cmdTamperAcknowledge_within (hm.sub (by decide)))

theorem execLockoutEnter_within {m : Nat} {s t : State} (h : Within m s t) (hm : Covers m 0xDEEF707B8) (a0 : Msg) :
    WithinOut m s (execLockoutEnter a0 t) :=
  command_within h (hm.sub (by decide)) 0x0604 a0 rfl (cmdLockoutEnter_within (hm.sub (by decide)))

theorem execLaneStatus_within {m : Nat} {s t : State} (h : Within m s t) (hm : Covers m 0x500150788) (a0 : Msg) :
    WithinOut m s (execLaneStatus a0 t) :=
  command_within h (hm.sub (by decide)) 0x0401 a0 rfl (cmdLaneStatus_within)

theorem execHeartbeat_within {m : Nat} {s t : State} (h : Within m s t) (hm : Covers m 0x40000000A) : WithinOut m s (execHeartbeat t) := by
  unfold execHeartbeat
  repeat' (first | exact hm.sub (by decide)
                 | (intro y; refine within_cut (m := m) (s := s) (y := y) ?_ ?_; rotate_left; (intro hy; clear_value y); rotate_right; subst y)
                 | lift_lets | with_reducible exact h | with_reducible assumption | with_reducible apply withinOut_next
                 | with_reducible apply withinOut_ite | with_reducible apply reach_within | with_reducible apply modNet_within
                 | with_reducible apply emit_within)

theorem execLockoutReset_within {m : Nat} {s t : State} (h : Within m s t) (hm : Covers m 0x508150788) (a0 : Msg) :
    WithinOut m s (execLockoutReset a0 t) :=
  command_within h (hm.sub (by decide)) 0x0605 a0 rfl (cmdLockoutReset_within (hm.sub (by decide)))

theorem execPairBudget_within {m : Nat} {s t : State} (h : Within m s t) (hm : Covers m 0x500150788) (a0 : Msg) :
    WithinOut m s (execPairBudget a0 t) :=
  command_within h (hm.sub (by decide)) 0x0506 a0 rfl (cmdPairBudget_within)

theorem execFlowStatus_within {m : Nat} {s t : State} (h : Within m s t) (hm : Covers m 0x500150788) (a0 : Msg) :
    WithinOut m s (execFlowStatus a0 t) :=
  command_within h (hm.sub (by decide)) 0x090A a0 rfl (cmdFlowStatus_within)

theorem execTestEnter_within {m : Nat} {s t : State} (h : Within m s t) (hm : Covers m 0x50015078C) (a0 : Msg) : WithinOut m s (execTestEnter a0 t) :=
  command_within h (hm.sub (by decide)) 0x0F02 a0 rfl (cmdTestEnter_within (hm.sub (by decide)))

theorem execTimeStatus_within {m : Nat} {s t : State} (h : Within m s t) (hm : Covers m 0x500150788) (a0 : Msg) :
    WithinOut m s (execTimeStatus a0 t) :=
  command_within h (hm.sub (by decide)) 0x0B01 a0 rfl (cmdTimeStatus_within)

theorem execClassControl_within {m : Nat} {s t : State} (h : Within m s t) (hm : Covers m 0xD843D0788) (a0 : Msg) :
    WithinOut m s (execClassControl a0 t) :=
  command_within h (hm.sub (by decide)) 0x0105 a0 rfl (cmdClassControl_within (hm.sub (by decide)))

theorem execVoterTest_within {m : Nat} {s t : State} (h : Within m s t) (hm : Covers m 0x500350788) (a0 : Msg) : WithinOut m s (execVoterTest a0 t) :=
  command_within h (hm.sub (by decide)) 0x0407 a0 rfl (cmdVoterTest_within (hm.sub (by decide)))

theorem execCoeffLoad_within {m : Nat} {s t : State} (h : Within m s t) (hm : Covers m 0x580150788) (a0 : Msg) : WithinOut m s (execCoeffLoad a0 t) :=
  command_within h (hm.sub (by decide)) 0x0803 a0 rfl (cmdCoeffLoad_within (hm.sub (by decide)))

theorem execForceList_within {m : Nat} {s t : State} (h : Within m s t) (hm : Covers m 0x500150788) (a0 : Msg) : WithinOut m s (execForceList a0 t) :=
  command_within h (hm.sub (by decide)) 0x0309 a0 rfl (cmdForceList_within)

theorem missingLost_within {m : Nat} {s t : State} (h : Within m s t) (hm : Covers m 0xDEEF707B8) (a0 : VoteTake) (a1 : Lane) :
    Within m s (missingLost a0 a1 t) := by
  unfold missingLost
  repeat' (first | exact hm.sub (by decide) | (intro y; clear_value y) | lift_lets | with_reducible exact h
                 | with_reducible apply loseVoter_within | with_reducible apply traceDecision_within)

theorem execSignalCounters_within {m : Nat} {s t : State} (h : Within m s t) (hm : Covers m 0x500150788) (a0 : Msg) :
    WithinOut m s (execSignalCounters a0 t) :=
  command_within h (hm.sub (by decide)) 0x0807 a0 rfl (cmdSignalCounters_within)

theorem execPositionStatus_within {m : Nat} {s t : State} (h : Within m s t) (hm : Covers m 0x500150788) (a0 : Msg) :
    WithinOut m s (execPositionStatus a0 t) :=
  command_within h (hm.sub (by decide)) 0x0701 a0 rfl (cmdPositionStatus_within)

theorem execFdbRead_within {m : Nat} {s t : State} (h : Within m s t) (hm : Covers m 0x500150788) (a0 : Msg) : WithinOut m s (execFdbRead a0 t) :=
  command_within h (hm.sub (by decide)) 0x0906 a0 rfl (cmdFdbRead_within)

theorem countResponse_within {m : Nat} {s t : State} (h : Within m s t) (hm : Covers m 0x200000) (a0 : Lane) (a1 : LaneTake) :
    Within m s (countResponse a0 a1 t) := by
  unfold countResponse
  repeat' (first | exact hm.sub (by decide) | (intro y; clear_value y) | lift_lets | with_reducible exact h | with_reducible apply modHealth_within)

theorem postInLane_within {m : Nat} {s t : State} (h : Within m s t) (hm : Covers m 0x200000) (a0 : Image) (a1 : Lane) (a2 : LaneTake) :
    Within1 m s (postInLane a0 a1 a2 t) := by
  unfold postInLane
  repeat' (first | exact hm.sub (by decide) | (intro y; clear_value y) | lift_lets | with_reducible exact h | with_reducible apply within1_mk
                 | with_reducible apply countResponse_within | with_reducible apply modLane_within)

theorem postInLane_wstate {m : Nat} {s t : State} (h : Within m s t) (hm : Covers m 0x200000) (a0 : Image) (a1 : Lane) (a2 : LaneTake) :
    Within m s (postInLane a0 a1 a2 t).1 :=
  (postInLane_within h hm a0 a1 a2).out

theorem postSignature_within {m : Nat} {s t : State} (h : Within m s t) (hm : Covers m 0x1FFFFFFFFC) (a0 : Image) (a1 : TaskRec) (a2 : VoteTake)
    (a3 : Lane) (a4 : LaneTake) (a5 : Word64) :
    Within m s (postSignature a0 a1 a2 a3 a4 a5 t) := by
  unfold postSignature
  repeat' (first | exact hm.sub (by decide)
                 | (intro y; refine within1_cut (m := m) (s := s) (y := y) ?_ ?_; rotate_left; (intro hy; clear_value y); rotate_right; subst y)
                 | lift_lets | with_reducible exact h | with_reducible apply within1_mk | with_reducible apply voterReceives_within
                 | with_reducible apply postInLane_wstate | exact Within1.out (by assumption))

theorem postUnfinished_within {m : Nat} {s t : State} (h : Within m s t) (hm : Covers m 0x1FFFFFFFFC) (a0 : Image) (a1 : TaskRec) (a2 : VoteTake)
    (a3 : Lane) (a4 : Word64) :
    Within m s (postUnfinished a0 a1 a2 a3 a4 t) := by
  unfold postUnfinished
  repeat' (first | exact hm.sub (by decide) | lift_lets | with_reducible exact h | with_reducible apply voterReceives_within)

theorem execSignaturePost_within {m : Nat} {s t : State} (h : Within m s t) (hm : Covers m 0x1FFFFFFFFC) (a0 : Lane) (a1 : ℕ) (a2 : ℕ) (a3 : ℕ)
    (a4 : Word64) :
    WithinOut m s (execSignaturePost a0 a1 a2 a3 a4 t) := by
  unfold execSignaturePost
  repeat' (first | exact hm.sub (by decide) | (intro y; clear_value y) | lift_lets | with_reducible exact h | with_reducible apply within_ite
                 | with_reducible apply withinOut_next | with_reducible apply withinOut_ite | with_reducible apply postSignature_within
                 | with_reducible apply postUnfinished_within | with_reducible apply laneFault_within | split)

theorem execLaneDiagClear_within {m : Nat} {s t : State} (h : Within m s t) (hm : Covers m 0x500350788) (a0 : Msg) :
    WithinOut m s (execLaneDiagClear a0 t) :=
  command_within h (hm.sub (by decide)) 0x0408 a0 rfl (cmdLaneDiagClear_within (hm.sub (by decide)))

theorem execSourceConfigure_within {m : Nat} {s t : State} (h : Within m s t) (hm : Covers m 0xD86350788) (a0 : Msg) :
    WithinOut m s (execSourceConfigure a0 t) :=
  command_within h (hm.sub (by decide)) 0x0C02 a0 rfl (cmdSourceConfigure_within (hm.sub (by decide)))

theorem execSessionLogin_within {m : Nat} {s t : State} (h : Within m s t) (hm : Covers m 0x500150788) (a0 : Msg) :
    WithinOut m s (execSessionLogin a0 t) :=
  command_within (countAttempt_within h (hm.sub (by decide)) _) (hm.sub (by decide)) 0x0201 a0 rfl cmdSessionLogin_within

theorem execSignalDissolve_within {m : Nat} {s t : State} (h : Within m s t) (hm : Covers m 0x580150788) (a0 : Msg) :
    WithinOut m s (execSignalDissolve a0 t) :=
  command_within h (hm.sub (by decide)) 0x0804 a0 rfl (cmdSignalDissolve_within (hm.sub (by decide)))

theorem execModeRequest_within {m : Nat} {s t : State} (h : Within m s t) (hm : Covers m 0xD8EF747B8) (a0 : Msg) :
    WithinOut m s (execModeRequest a0 t) :=
  command_within h (hm.sub (by decide)) 0x0103 a0 rfl (cmdModeRequest_within (hm.sub (by decide)))

theorem execNetSettings_within {m : Nat} {s t : State} (h : Within m s t) (hm : Covers m 0x500150788) (a0 : Msg) :
    WithinOut m s (execNetSettings a0 t) :=
  command_within h (hm.sub (by decide)) 0x0910 a0 rfl (cmdNetSettings_within (hm.sub (by decide)))

theorem noteGrant_within {m : Nat} {s t : State} (h : Within m s t) (hm : Covers m 0x10000) (a0 : Resource) (a1 : Entry) :
    Within m s (noteGrant a0 a1 t) := by
  unfold noteGrant
  repeat' (first | exact hm.sub (by decide) | with_reducible exact Or.inr rfl | with_reducible exact Or.inr ⟨rfl, rfl⟩ | lift_lets
                 | with_reducible exact h | with_reducible apply modMbx_within)

theorem execEnrolRequest_within {m : Nat} {s t : State} (h : Within m s t) (hm : Covers m 0x500150788) (a0 : Msg) :
    WithinOut m s (execEnrolRequest a0 t) :=
  command_within h (hm.sub (by decide)) 0x0205 a0 rfl (cmdEnrolRequest_within)

theorem execPairSwitchover_within {m : Nat} {s t : State} (h : Within m s t) (hm : Covers m 0x500150788) (a0 : Msg) :
    WithinOut m s (execPairSwitchover a0 t) :=
  command_within h (hm.sub (by decide)) 0x0504 a0 rfl (cmdPairSwitchover_within (hm.sub (by decide)))

theorem execRecutStart_within {m : Nat} {s t : State} (h : Within m s t) (hm : Covers m 0x500550788) (a0 : Msg) :
    WithinOut m s (execRecutStart a0 t) :=
  command_within h (hm.sub (by decide)) 0x0305 a0 rfl (cmdRecutStart_within (hm.sub (by decide)))

theorem execLaneTraceRead_within {m : Nat} {s t : State} (h : Within m s t) (hm : Covers m 0x500150788) (a0 : Msg) :
    WithinOut m s (execLaneTraceRead a0 t) :=
  command_within h (hm.sub (by decide)) 0x0403 a0 rfl (cmdLaneTraceRead_within)

theorem execMvbMap_within {m : Nat} {s t : State} (h : Within m s t) (hm : Covers m 0xD00150788) (a0 : Msg) : WithinOut m s (execMvbMap a0 t) :=
  command_within h (hm.sub (by decide)) 0x0A09 a0 rfl (cmdMvbMap_within (hm.sub (by decide)))

theorem execChannelControl_within {m : Nat} {s t : State} (h : Within m s t) (hm : Covers m 0xD84350788) (a0 : Msg) :
    WithinOut m s (execChannelControl a0 t) :=
  command_within h (hm.sub (by decide)) 0x0805 a0 rfl (cmdChannelControl_within (hm.sub (by decide)))

theorem execRecorderStatus_within {m : Nat} {s t : State} (h : Within m s t) (hm : Covers m 0x500150788) (a0 : Msg) :
    WithinOut m s (execRecorderStatus a0 t) :=
  command_within h (hm.sub (by decide)) 0x0D01 a0 rfl (cmdRecorderStatus_within)

theorem missed_within {m : Nat} {s t : State} (h : Within m s t) (hm : Covers m 0x200000) (a0 : VoteTake) (a1 : Lane) :
    Within m s (missed a0 a1 t) := by
  unfold missed
  repeat' (first | exact hm.sub (by decide)
                 | (intro y; refine within_cut (m := m) (s := s) (y := y) ?_ ?_; rotate_left; (intro hy; clear_value y); rotate_right; subst y)
                 | intro _ | lift_lets | with_reducible exact h | with_reducible assumption | with_reducible apply within_foldl
                 | with_reducible apply modHealth_within | with_reducible apply abandonTake_within)

theorem missedProbation_within {m : Nat} {s t : State} (h : Within m s t) (hm : Covers m 0x100310588) (a0 : VoteTake) (a1 : Lane) :
    Within m s (missedProbation a0 a1 t) := by
  unfold missedProbation
  repeat' (first | exact hm.sub (by decide) | lift_lets | with_reducible exact h | with_reducible apply within_ite
                 | with_reducible apply failReshoot_within)

theorem atDeadline_within {m : Nat} {s t : State} (h : Within m s t) (hm : Covers m 0xDEEF707B8) (a0 : Image) (a1 : TaskRec) (a2 : VoteTake) :
    Within m s (atDeadline a0 a1 a2 t) := by
  unfold atDeadline
  repeat' (first | exact hm.sub (by decide)
                 | (intro y; refine within_cut (m := m) (s := s) (y := y) ?_ ?_; rotate_left; (intro hy; clear_value y); rotate_right; subst y)
                 | (intro y; clear_value y) | intro _ | lift_lets | with_reducible exact h | with_reducible assumption
                 | with_reducible apply within_foldl | with_reducible apply missed_within | with_reducible apply missedProbation_within
                 | with_reducible apply modVoter_within | with_reducible apply missingLost_within | with_reducible apply decideLockout_within
                 | split)

theorem decideDue_within {m : Nat} {s t : State} (h : Within m s t) (hm : Covers m 0xDEEF707BA) (a0 : Image) (a1 : VoteTake) (a2 : ℕ) :
    Within m s (decideDue a0 a1 a2 t) := by
  induction a2 generalizing t with
  | zero => exact h
  | succ k ih =>
    unfold decideDue
    split
    · exact h
    · next w _ =>
      split
      · exact h
      · next r _ =>
        have g := atDeadline_within (reach_within h (hm.sub (by decide)) w.deadline) (hm.sub (by decide)) a0 r w
        exact within_ite g (ih g)

theorem execVoteDeadline_within {m : Nat} {s t : State} (h : Within m s t) (hm : Covers m 0xDEEF707BA) (a0 : ℕ) :
    WithinOut m s (execVoteDeadline a0 t) := by
  unfold execVoteDeadline
  repeat' (first | exact hm.sub (by decide) | lift_lets | with_reducible exact h | with_reducible apply withinOut_next
                 | with_reducible apply decideDue_within | split)

theorem execMailboxCounters_within {m : Nat} {s t : State} (h : Within m s t) (hm : Covers m 0x500150788) (a0 : Msg) :
    WithinOut m s (execMailboxCounters a0 t) :=
  command_within h (hm.sub (by decide)) 0x0107 a0 rfl (cmdMailboxCounters_within)

theorem execChangeLogRead_within {m : Nat} {s t : State} (h : Within m s t) (hm : Covers m 0x500150788) (a0 : Msg) :
    WithinOut m s (execChangeLogRead a0 t) :=
  command_within h (hm.sub (by decide)) 0x0606 a0 rfl (cmdChangeLogRead_within)

theorem execInputSwitch_within {m : Nat} {s t : State} (h : Within m s t) (hm : Covers m 0x580150788) (a0 : Msg) :
    WithinOut m s (execInputSwitch a0 t) :=
  command_within h (hm.sub (by decide)) 0x0806 a0 rfl (cmdInputSwitch_within (hm.sub (by decide)))

theorem execImageErase_within {m : Nat} {s t : State} (h : Within m s t) (hm : Covers m 0x501550788) (a0 : Msg) :
    WithinOut m s (execImageErase a0 t) :=
  command_within h (hm.sub (by decide)) 0x030B a0 rfl (cmdImageErase_within (hm.sub (by decide)))

theorem execEnrolInstall_within {m : Nat} {s t : State} (h : Within m s t) (hm : Covers m 0x500156F9C) (a0 : Msg) :
    WithinOut m s (execEnrolInstall a0 t) :=
  command_within h (hm.sub (by decide)) 0x0206 a0 rfl (cmdEnrolInstall_within (hm.sub (by decide)))

theorem execIdentityRead_within {m : Nat} {s t : State} (h : Within m s t) (hm : Covers m 0x500150788) (a0 : Msg) :
    WithinOut m s (execIdentityRead a0 t) :=
  command_within h (hm.sub (by decide)) 0x0204 a0 rfl (cmdIdentityRead_within)

theorem execMvbPortConfigure_within {m : Nat} {s t : State} (h : Within m s t) (hm : Covers m 0xD84350788) (a0 : Msg) :
    WithinOut m s (execMvbPortConfigure a0 t) :=
  command_within h (hm.sub (by decide)) 0x0A03 a0 rfl (cmdMvbPortConfigure_within (hm.sub (by decide)))

theorem execGateConfigure_within {m : Nat} {s t : State} (h : Within m s t) (hm : Covers m 0x500150788) (a0 : Msg) :
    WithinOut m s (execGateConfigure a0 t) :=
  command_within h (hm.sub (by decide)) 0x090C a0 rfl (cmdGateConfigure_within (hm.sub (by decide)))

theorem execPairCounters_within {m : Nat} {s t : State} (h : Within m s t) (hm : Covers m 0x500150788) (a0 : Msg) :
    WithinOut m s (execPairCounters a0 t) :=
  command_within h (hm.sub (by decide)) 0x0507 a0 rfl (cmdPairCounters_within)

theorem execNetStatus_within {m : Nat} {s t : State} (h : Within m s t) (hm : Covers m 0x500150788) (a0 : Msg) : WithinOut m s (execNetStatus a0 t) :=
  command_within h (hm.sub (by decide)) 0x0901 a0 rfl (cmdNetStatus_within)

theorem execUpdateStatus_within {m : Nat} {s t : State} (h : Within m s t) (hm : Covers m 0x500150788) (a0 : Msg) :
    WithinOut m s (execUpdateStatus a0 t) :=
  command_within h (hm.sub (by decide)) 0x0E01 a0 rfl (cmdUpdateStatus_within)

theorem execSessionEnd_within {m : Nat} {s t : State} (h : Within m s t) (hm : Covers m 0x500150788) (a0 : Msg) :
    WithinOut m s (execSessionEnd a0 t) :=
  command_within h (hm.sub (by decide)) 0x0202 a0 rfl (cmdSessionEnd_within (hm.sub (by decide)))

theorem execRecorderFreeze_within {m : Nat} {s t : State} (h : Within m s t) (hm : Covers m 0x500150788) (a0 : Msg) :
    WithinOut m s (execRecorderFreeze a0 t) :=
  command_within h (hm.sub (by decide)) 0x0D03 a0 rfl (cmdRecorderFreeze_within (hm.sub (by decide)))

theorem execAnchorRotate_within {m : Nat} {s t : State} (h : Within m s t) (hm : Covers m 0x500154F88) (a0 : Msg) :
    WithinOut m s (execAnchorRotate a0 t) :=
  command_within h (hm.sub (by decide)) 0x0207 a0 rfl (cmdAnchorRotate_within (hm.sub (by decide)))

theorem execPairResync_within {m : Nat} {s t : State} (h : Within m s t) (hm : Covers m 0x508150788) (a0 : Msg) :
    WithinOut m s (execPairResync a0 t) :=
  command_within h (hm.sub (by decide)) 0x0505 a0 rfl (cmdPairResync_within (hm.sub (by decide)))

theorem execMvbCounters_within {m : Nat} {s t : State} (h : Within m s t) (hm : Covers m 0x500150788) (a0 : Msg) :
    WithinOut m s (execMvbCounters a0 t) :=
  command_within h (hm.sub (by decide)) 0x0A0B a0 rfl (cmdMvbCounters_within)

theorem execMvbRead_within {m : Nat} {s t : State} (h : Within m s t) (hm : Covers m 0xD00150788) (a0 : Msg) : WithinOut m s (execMvbRead a0 t) :=
  command_within h (hm.sub (by decide)) 0x0A06 a0 rfl (cmdMvbRead_within (hm.sub (by decide)))

theorem execVariableRead_within {m : Nat} {s t : State} (h : Within m s t) (hm : Covers m 0x500550788) (a0 : Msg) :
    WithinOut m s (execVariableRead a0 t) :=
  command_within h (hm.sub (by decide)) 0x030A a0 rfl (cmdVariableRead_within (hm.sub (by decide)))

theorem withRole_within {m : Nat} {s t : State} (h : Within m s t) (hm : Covers m 0x300000000) (a0 : PairRole) : Within m s (withRole a0 t) := by
  unfold withRole
  repeat' (first | exact hm.sub (by decide) | exact Or.inl (hm.sub (by decide)) | lift_lets | with_reducible exact h
                 | with_reducible apply modPair_within)

theorem applySettings_within {m : Nat} {s t : State} (h : Within m s t) (hm : Covers m 0x1FFFFFFFFC) (a0 : ℕ × Bytes) :
    Within m s (applySettings a0 t) := by
  unfold applySettings
  repeat' (first | exact hm.sub (by decide) | (intro y; clear_value y) | lift_lets | with_reducible exact h | with_reducible apply within_ite
                 | with_reducible apply within1_mk | with_reducible apply takeBank_within | with_reducible apply setReason_within
                 | with_reducible apply failMirror_within | with_reducible apply withRole_within | with_reducible apply Command.body_wstate
                 | refine within1_of_eq (by assumption) ?_ | exact commands_within (hm.sub (by decide)) _ _ (by assumption) | split)

theorem applyConfiguration_within {m : Nat} {s t : State} (h : Within m s t) (hm : Covers m 0x1FFFFFFFFC) (a0 : ℕ) (a1 : List (ℕ × Bytes))
    (a2 : List Bytes) (a3 : List (ℕ × ℕ × Bytes)) :
    Within m s (applyConfiguration a0 a1 a2 a3 t) := by
  unfold applyConfiguration
  repeat' (first | exact hm.sub (by decide) | exact Or.inl (hm.sub (by decide))
                 | (intro y; refine within_cut (m := m) (s := s) (y := y) ?_ ?_; rotate_left; (intro hy; clear_value y); rotate_right; subst y)
                 | intro _ | lift_lets | with_reducible exact h | with_reducible assumption | with_reducible apply within_foldl
                 | with_reducible apply applySettings_within | with_reducible apply copyToken_within | with_reducible apply mirrorForces_within
                 | with_reducible apply joinProgram_within | with_reducible apply modPair_within)

theorem resyncHeard_within {m : Nat} {s t : State} (h : Within m s t) (hm : Covers m 0x1FFFFFFFFC) (a0 : PairResync) :
    WithinOut m s (resyncHeard a0 t) := by
  unfold resyncHeard
  repeat' (first | exact hm.sub (by decide) | intro _ | lift_lets | with_reducible exact h | with_reducible assumption
                 | with_reducible apply within_ite | with_reducible apply withinOut_next | with_reducible apply withinOut_ite
                 | with_reducible apply asStandby_within | with_reducible apply applyConfiguration_within
                 | with_reducible apply receiveImage_within | with_reducible apply stateReceived_within | split)

theorem execPositionMark_within {m : Nat} {s t : State} (h : Within m s t) (hm : Covers m 0x504150788) (a0 : Msg) :
    WithinOut m s (execPositionMark a0 t) :=
  command_within h (hm.sub (by decide)) 0x0703 a0 rfl (cmdPositionMark_within (hm.sub (by decide)))

theorem execMvbUnlock_within {m : Nat} {s t : State} (h : Within m s t) (hm : Covers m 0xD00150788) (a0 : Msg) : WithinOut m s (execMvbUnlock a0 t) :=
  command_within h (hm.sub (by decide)) 0x0A08 a0 rfl (cmdMvbUnlock_within (hm.sub (by decide)))

theorem execProgramStart_within {m : Nat} {s t : State} (h : Within m s t) (hm : Covers m 0xD86774788) (a0 : Msg) :
    WithinOut m s (execProgramStart a0 t) :=
  command_within h (hm.sub (by decide)) 0x0303 a0 rfl (cmdProgramStart_within (hm.sub (by decide)))

theorem execSlipResync_within {m : Nat} {s t : State} (h : Within m s t) (hm : Covers m 0x1FFFFFFFFC) (a0 : Arrived PairResync) :
    WithinOut m s (execSlipResync a0 t) := by
  unfold execSlipResync
  repeat' (first | exact hm.sub (by decide) | intro _ | lift_lets | with_reducible exact h | with_reducible assumption
                 | with_reducible apply heard_within | with_reducible apply resyncHeard_within)

theorem execTimeConfigure_within {m : Nat} {s t : State} (h : Within m s t) (hm : Covers m 0x5021507C8) (a0 : Msg) :
    WithinOut m s (execTimeConfigure a0 t) :=
  command_within h (hm.sub (by decide)) 0x0B02 a0 rfl (cmdTimeConfigure_within (hm.sub (by decide)))

theorem execActivationTrigger_within {m : Nat} {s t : State} (h : Within m s t) (hm : Covers m 0x502150788) (a0 : Msg) :
    WithinOut m s (execActivationTrigger a0 t) :=
  command_within h (hm.sub (by decide)) 0x0C05 a0 rfl (cmdActivationTrigger_within (hm.sub (by decide)))

theorem portLink_within {m : Nat} {s t : State} (h : Within m s t) (hm : Covers m 0x400000000) (a0 : ℕ) (a1 : Bool) (a2 : ℕ) :
    Within m s (portLink a0 a1 a2 t) := by
  unfold portLink
  repeat' (first | exact hm.sub (by decide) | lift_lets | with_reducible exact h | with_reducible apply modPort_within)

theorem cutRefused_within {m : Nat} {s t : State} (h : Within m s t) (hm : Covers m 0x109710588) (a0 : CutFor) (a1 : ℕ) (a2 : ℕ) (a3 : Bytes) :
    Within m s (cutRefused a0 a1 a2 a3 t) := by
  unfold cutRefused
  repeat' (first | exact hm.sub (by decide) | lift_lets | with_reducible exact h | with_reducible apply completeEntry_within
                 | with_reducible apply failSlot_within | with_reducible apply setReason_within | with_reducible apply failReshoot_within | split)

theorem execCutterTranslationDone_within {m : Nat} {s t : State} (h : Within m s t) (hm : Covers m 0x1FFFFFFFFC) (a0 : CutterReport) :
    WithinOut m s (execCutterTranslationDone a0 t) := by
  unfold execCutterTranslationDone
  have g := nextCut_within h (hm.sub (by decide))
  generalize nextCut t = u at g
  simp only
  split
  · exact withinOut_next g
  · rename_i slot why _
    have r := (cut_within (modProg_within g (hm.sub (by decide)) (fun p => { p with cutting := none }) (Or.inr rfl) (Or.inr ⟨rfl, rfl⟩))
      (hm.sub (by decide)) slot a0).out
    generalize cut slot a0 (modProg (fun p => { p with cutting := none }) u) = x at r
    refine withinOut_next (nextCut_within ?_ (hm.sub (by decide)))
    split
    · exact r
    · exact cutRefused_within r (hm.sub (by decide)) _ _ _ _
    · exact cutDone_within r (hm.sub (by decide)) _ _ _ _

theorem execLaneCopyTakeover_within {m : Nat} {s t : State} (h : Within m s t) (hm : Covers m 0x1FFFFFFFFC) (a0 : Lane) (a1 : Fin 16) :
    WithinOut m s (execLaneCopyTakeover a0 a1 t) := by
  unfold execLaneCopyTakeover
  repeat' (first | exact hm.sub (by decide)
                 | (intro y; refine within_cut (m := m) (s := s) (y := y) ?_ ?_; rotate_left; (intro hy; clear_value y); rotate_right; subst y)
                 | (intro y; clear_value y) | lift_lets | with_reducible exact h | with_reducible assumption
                 | with_reducible apply withinOut_next | with_reducible apply withinOut_ite | with_reducible apply modChannel_within
                 | with_reducible apply countHeaderError_within | with_reducible apply takeCopy_within | split)

theorem execSelfTestRun_within {m : Nat} {s t : State} (h : Within m s t) (hm : Covers m 0x500350788) (a0 : Msg) :
    WithinOut m s (execSelfTestRun a0 t) :=
  command_within h (hm.sub (by decide)) 0x0F05 a0 rfl (cmdSelfTestRun_within (hm.sub (by decide)))

theorem execMessageDataReceive_within {m : Nat} {s t : State} (h : Within m s t) (hm : Covers m 0x1FFFFFFFFC) (a0 : ℕ) (a1 : ℕ) (a2 : Bytes) :
    WithinOut m s (execMessageDataReceive a0 a1 a2 t) := by
  unfold execMessageDataReceive
  refine withinOut_ite (withinOut_next h) (withinOut_ite (withinOut_next (toReel_within h (hm.sub (by decide)))) (withinOut_ite (withinOut_next
    (receive_within ?_ (hm.sub (by decide)) _ _ _ (fun c hc => commands_within (hm.sub (by decide)) _ _ hc))) (withinOut_next h)))
  split
  · exact countMessage_within h (hm.sub (by decide)) _
  · exact h

theorem execActivationStatus_within {m : Nat} {s t : State} (h : Within m s t) (hm : Covers m 0x500150788) (a0 : Msg) :
    WithinOut m s (execActivationStatus a0 t) :=
  command_within h (hm.sub (by decide)) 0x0C01 a0 rfl (cmdActivationStatus_within)

theorem execMvbDevices_within {m : Nat} {s t : State} (h : Within m s t) (hm : Covers m 0x500150788) (a0 : Msg) :
    WithinOut m s (execMvbDevices a0 t) :=
  command_within h (hm.sub (by decide)) 0x0A0A a0 rfl (cmdMvbDevices_within)

theorem execForceClear_within {m : Nat} {s t : State} (h : Within m s t) (hm : Covers m 0x500D50788) (a0 : Msg) :
    WithinOut m s (execForceClear a0 t) :=
  command_within h (hm.sub (by decide)) 0x0308 a0 rfl (cmdForceClear_within (hm.sub (by decide)))

theorem execCueStatus_within {m : Nat} {s t : State} (h : Within m s t) (hm : Covers m 0x500150788) (a0 : Msg) : WithinOut m s (execCueStatus a0 t) :=
  command_within h (hm.sub (by decide)) 0x0705 a0 rfl (cmdCueStatus_within)

theorem execUpdateStage_within {m : Nat} {s t : State} (h : Within m s t) (hm : Covers m 0x500150788) (a0 : Msg) :
    WithinOut m s (execUpdateStage a0 t) :=
  command_within h (hm.sub (by decide)) 0x0E02 a0 rfl (cmdUpdateStage_within)

theorem execLaneIsolate_within {m : Nat} {s t : State} (h : Within m s t) (hm : Covers m 0xD8E370788) (a0 : Msg) :
    WithinOut m s (execLaneIsolate a0 t) :=
  command_within h (hm.sub (by decide)) 0x0404 a0 rfl (cmdLaneIsolate_within (hm.sub (by decide)))

theorem execFlowConfigure_within {m : Nat} {s t : State} (h : Within m s t) (hm : Covers m 0x500150788) (a0 : Msg) :
    WithinOut m s (execFlowConfigure a0 t) :=
  command_within h (hm.sub (by decide)) 0x0908 a0 rfl (cmdFlowConfigure_within (hm.sub (by decide)))

theorem execMvbPortControl_within {m : Nat} {s t : State} (h : Within m s t) (hm : Covers m 0xD84350788) (a0 : Msg) :
    WithinOut m s (execMvbPortControl a0 t) :=
  command_within h (hm.sub (by decide)) 0x0A04 a0 rfl (cmdMvbPortControl_within (hm.sub (by decide)))

theorem execMvbWrite_within {m : Nat} {s t : State} (h : Within m s t) (hm : Covers m 0xD00150788) (a0 : Msg) : WithinOut m s (execMvbWrite a0 t) :=
  command_within h (hm.sub (by decide)) 0x0A05 a0 rfl (cmdMvbWrite_within (hm.sub (by decide)))

theorem execForceSet_within {m : Nat} {s t : State} (h : Within m s t) (hm : Covers m 0x500D50788) (a0 : Msg) : WithinOut m s (execForceSet a0 t) :=
  command_within h (hm.sub (by decide)) 0x0307 a0 rfl (cmdForceSet_within (hm.sub (by decide)))

theorem controlHeard_within {m : Nat} {s t : State} (h : Within m s t) (hm : Covers m 0x1FFFFFFFFC) (a0 : PairControl) :
    WithinOut m s (controlHeard a0 t) := by
  unfold controlHeard
  repeat' (first | exact hm.sub (by decide) | intro _ | lift_lets | with_reducible exact h | with_reducible assumption
                 | with_reducible apply withinOut_next | with_reducible apply withinOut_ite | with_reducible apply asStandby_within
                 | with_reducible apply applySettings_within | with_reducible apply applyControl_within | split)

theorem execSafeIoTest_within {m : Nat} {s t : State} (h : Within m s t) (hm : Covers m 0x508150788) (a0 : Msg) :
    WithinOut m s (execSafeIoTest a0 t) :=
  command_within h (hm.sub (by decide)) 0x0608 a0 rfl (cmdSafeIoTest_within (hm.sub (by decide)))

theorem execTokenQuery_within {m : Nat} {s t : State} (h : Within m s t) (hm : Covers m 0x500150788) (a0 : Msg) :
    WithinOut m s (execTokenQuery a0 t) :=
  command_within h (hm.sub (by decide)) 0x0106 a0 rfl (cmdTokenQuery_within)

theorem execChannelConfigure_within {m : Nat} {s t : State} (h : Within m s t) (hm : Covers m 0x580150788) (a0 : Msg) :
    WithinOut m s (execChannelConfigure a0 t) :=
  command_within h (hm.sub (by decide)) 0x0802 a0 rfl (cmdChannelConfigure_within (hm.sub (by decide)))

theorem execRetentiveCommitComplete_within {m : Nat} {s t : State} (h : Within m s t) (hm : Covers m 0x1108710598) (a0 : Bool) :
    WithinOut m s (execRetentiveCommitComplete a0 t) := by
  unfold execRetentiveCommitComplete
  repeat' (first | exact hm.sub (by decide)
                 | (intro y; refine within_cut (m := m) (s := s) (y := y) ?_ ?_; rotate_left; (intro hy; clear_value y); rotate_right; subst y)
                 | lift_lets | with_reducible exact h | with_reducible assumption | with_reducible apply within_ite
                 | with_reducible apply withinOut_next | with_reducible apply withinOut_ite | with_reducible apply endCommitStep_within
                 | with_reducible apply updateStopped_within | with_reducible apply failMirror_within)

theorem execFlowControl_within {m : Nat} {s t : State} (h : Within m s t) (hm : Covers m 0xD84350788) (a0 : Msg) :
    WithinOut m s (execFlowControl a0 t) :=
  command_within h (hm.sub (by decide)) 0x0909 a0 rfl (cmdFlowControl_within (hm.sub (by decide)))

theorem execRecorderClearRequest_within {m : Nat} {s t : State} (h : Within m s t) (hm : Covers m 0x50015078C) (a0 : Msg) :
    WithinOut m s (execRecorderClearRequest a0 t) :=
  command_within h (hm.sub (by decide)) 0x0D05 a0 rfl (cmdRecorderClearRequest_within (hm.sub (by decide)))

theorem execModuleStatus_within {m : Nat} {s t : State} (h : Within m s t) (hm : Covers m 0x500150788) (a0 : Msg) :
    WithinOut m s (execModuleStatus a0 t) :=
  command_within h (hm.sub (by decide)) 0x0101 a0 rfl (cmdModuleStatus_within)

theorem execOwnerLock_within {m : Nat} {s t : State} (h : Within m s t) (hm : Covers m 0x500151788) (a0 : Msg) : WithinOut m s (execOwnerLock a0 t) :=
  command_within h (hm.sub (by decide)) 0x020C a0 rfl (cmdOwnerLock_within (hm.sub (by decide)))

theorem execPositionCounters_within {m : Nat} {s t : State} (h : Within m s t) (hm : Covers m 0x500150788) (a0 : Msg) :
    WithinOut m s (execPositionCounters a0 t) :=
  command_within h (hm.sub (by decide)) 0x0707 a0 rfl (cmdPositionCounters_within)

theorem execPairHealth_within {m : Nat} {s t : State} (h : Within m s t) (hm : Covers m 0x500150788) (a0 : Msg) :
    WithinOut m s (execPairHealth a0 t) :=
  command_within h (hm.sub (by decide)) 0x0502 a0 rfl (cmdPairHealth_within)

theorem execPairConfigure_within {m : Nat} {s t : State} (h : Within m s t) (hm : Covers m 0xF0A350788) (a0 : Msg) :
    WithinOut m s (execPairConfigure a0 t) :=
  command_within h (hm.sub (by decide)) 0x0503 a0 rfl (cmdPairConfigure_within (hm.sub (by decide)))

theorem execPositionAt_within {m : Nat} {s t : State} (h : Within m s t) (hm : Covers m 0x500150788) (a0 : Msg) :
    WithinOut m s (execPositionAt a0 t) :=
  command_within h (hm.sub (by decide)) 0x0704 a0 rfl (cmdPositionAt_within)

theorem execPositionConfigure_within {m : Nat} {s t : State} (h : Within m s t) (hm : Covers m 0x50E150788) (a0 : Msg) :
    WithinOut m s (execPositionConfigure a0 t) :=
  command_within h (hm.sub (by decide)) 0x0702 a0 rfl (cmdPositionConfigure_within (hm.sub (by decide)))

theorem execSquallSet_within {m : Nat} {s t : State} (h : Within m s t) (hm : Covers m 0x500150788) (a0 : Msg) : WithinOut m s (execSquallSet a0 t) :=
  command_within h (hm.sub (by decide)) 0x0F04 a0 rfl (cmdSquallSet_within (hm.sub (by decide)))

theorem execTestExit_within {m : Nat} {s t : State} (h : Within m s t) (hm : Covers m 0x500150788) (a0 : Msg) : WithinOut m s (execTestExit a0 t) :=
  command_within h (hm.sub (by decide)) 0x0F03 a0 rfl (cmdTestExit_within (hm.sub (by decide)))

theorem execSessionList_within {m : Nat} {s t : State} (h : Within m s t) (hm : Covers m 0x500150788) (a0 : Msg) :
    WithinOut m s (execSessionList a0 t) :=
  command_within h (hm.sub (by decide)) 0x0203 a0 rfl (cmdSessionList_within)

theorem execProgramStop_within {m : Nat} {s t : State} (h : Within m s t) (hm : Covers m 0xD0E550788) (a0 : Msg) :
    WithinOut m s (execProgramStop a0 t) :=
  command_within h (hm.sub (by decide)) 0x0304 a0 rfl (cmdProgramStop_within (hm.sub (by decide)))

theorem execActivationCounters_within {m : Nat} {s t : State} (h : Within m s t) (hm : Covers m 0x500150788) (a0 : Msg) :
    WithinOut m s (execActivationCounters a0 t) :=
  command_within h (hm.sub (by decide)) 0x0C06 a0 rfl (cmdActivationCounters_within)

theorem resourceDone_within {m : Nat} {s t : State} (h : Within m s t) (hm : Covers m 0x1509510798) (a0 : Entry) :
    Within m s (resourceDone a0 t) := by
  unfold resourceDone
  repeat' (first | exact hm.sub (by decide) | lift_lets | with_reducible exact h | with_reducible apply chunkWritten_within
                 | with_reducible apply stageWritten_within | split)

theorem execResourceGrant_within {m : Nat} {s t : State} (h : Within m s t) (hm : Covers m 0x1FFFFFFFFC) (a0 : Resource) :
    WithinOut m s (execResourceGrant a0 t) := by
  unfold execResourceGrant
  repeat' (first | exact hm.sub (by decide)
                 | (intro y; refine within_cut (m := m) (s := s) (y := y) ?_ ?_; rotate_left; (intro hy; clear_value y); rotate_right; subst y)
                 | intro _ | lift_lets | with_reducible exact h | with_reducible assumption | with_reducible apply withinOut_next
                 | with_reducible apply withinOut_ite | with_reducible apply resourceDone_within | with_reducible apply serve_within
                 | with_reducible apply noteGrant_within | exact commands_within (hm.sub (by decide)) _ _ (by assumption) | split)

theorem execPortCounters_within {m : Nat} {s t : State} (h : Within m s t) (hm : Covers m 0x500150788) (a0 : Msg) :
    WithinOut m s (execPortCounters a0 t) :=
  command_within h (hm.sub (by decide)) 0x0903 a0 rfl (cmdPortCounters_within)

theorem execActivationHold_within {m : Nat} {s t : State} (h : Within m s t) (hm : Covers m 0x502550788) (a0 : Msg) :
    WithinOut m s (execActivationHold a0 t) :=
  command_within h (hm.sub (by decide)) 0x0C04 a0 rfl (cmdActivationHold_within (hm.sub (by decide)))

theorem execCueControl_within {m : Nat} {s t : State} (h : Within m s t) (hm : Covers m 0xD84350788) (a0 : Msg) :
    WithinOut m s (execCueControl a0 t) :=
  command_within h (hm.sub (by decide)) 0x0706 a0 rfl (cmdCueControl_within (hm.sub (by decide)))

theorem execSourceMask_within {m : Nat} {s t : State} (h : Within m s t) (hm : Covers m 0x502150788) (a0 : Msg) :
    WithinOut m s (execSourceMask a0 t) :=
  command_within h (hm.sub (by decide)) 0x0C03 a0 rfl (cmdSourceMask_within (hm.sub (by decide)))

theorem execFrerConfigure_within {m : Nat} {s t : State} (h : Within m s t) (hm : Covers m 0x500150788) (a0 : Msg) :
    WithinOut m s (execFrerConfigure a0 t) :=
  command_within h (hm.sub (by decide)) 0x090B a0 rfl (cmdFrerConfigure_within (hm.sub (by decide)))

theorem execFdbUnpin_within {m : Nat} {s t : State} (h : Within m s t) (hm : Covers m 0x500150788) (a0 : Msg) : WithinOut m s (execFdbUnpin a0 t) :=
  command_within h (hm.sub (by decide)) 0x0905 a0 rfl (cmdFdbUnpin_within (hm.sub (by decide)))

theorem execMvbLock_within {m : Nat} {s t : State} (h : Within m s t) (hm : Covers m 0xD00150788) (a0 : Msg) : WithinOut m s (execMvbLock a0 t) :=
  command_within h (hm.sub (by decide)) 0x0A07 a0 rfl (cmdMvbLock_within (hm.sub (by decide)))

theorem execTimePortStatus_within {m : Nat} {s t : State} (h : Within m s t) (hm : Covers m 0x500150788) (a0 : Msg) :
    WithinOut m s (execTimePortStatus a0 t) :=
  command_within h (hm.sub (by decide)) 0x0B04 a0 rfl (cmdTimePortStatus_within)

theorem execLaneReshoot_within {m : Nat} {s t : State} (h : Within m s t) (hm : Covers m 0x500350788) (a0 : Msg) :
    WithinOut m s (execLaneReshoot a0 t) :=
  command_within h (hm.sub (by decide)) 0x0405 a0 rfl (cmdLaneReshoot_within (hm.sub (by decide)))

theorem execSafetyParamActivate_within {m : Nat} {s t : State} (h : Within m s t) (hm : Covers m 0x558154788) (a0 : Msg) :
    WithinOut m s (execSafetyParamActivate a0 t) :=
  command_within h (hm.sub (by decide)) 0x0603 a0 rfl (cmdSafetyParamActivate_within (hm.sub (by decide)))

theorem execRecorderRelease_within {m : Nat} {s t : State} (h : Within m s t) (hm : Covers m 0x500150788) (a0 : Msg) :
    WithinOut m s (execRecorderRelease a0 t) :=
  command_within h (hm.sub (by decide)) 0x0D04 a0 rfl (cmdRecorderRelease_within (hm.sub (by decide)))

theorem execMvbStatus_within {m : Nat} {s t : State} (h : Within m s t) (hm : Covers m 0x500150788) (a0 : Msg) : WithinOut m s (execMvbStatus a0 t) :=
  command_within h (hm.sub (by decide)) 0x0A01 a0 rfl (cmdMvbStatus_within)

theorem execModuleInfo_within {m : Nat} {s t : State} (h : Within m s t) (hm : Covers m 0x500150788) (a0 : Msg) :
    WithinOut m s (execModuleInfo a0 t) :=
  command_within h (hm.sub (by decide)) 0x0102 a0 rfl (cmdModuleInfo_within)

theorem execWindowClose_within {m : Nat} {s t : State} (h : Within m s t) (hm : Covers m 0x504150788) (a0 : Msg) :
    WithinOut m s (execWindowClose a0 t) :=
  command_within h (hm.sub (by decide)) 0x0607 a0 rfl (cmdWindowClose_within (hm.sub (by decide)))

theorem execSaInstall_within {m : Nat} {s t : State} (h : Within m s t) (hm : Covers m 0x500150788) (a0 : Msg) : WithinOut m s (execSaInstall a0 t) :=
  command_within h (hm.sub (by decide)) 0x020A a0 rfl (cmdSaInstall_within (hm.sub (by decide)))

theorem execPairStatus_within {m : Nat} {s t : State} (h : Within m s t) (hm : Covers m 0x500150788) (a0 : Msg) :
    WithinOut m s (execPairStatus a0 t) :=
  command_within h (hm.sub (by decide)) 0x0501 a0 rfl (cmdPairStatus_within)

theorem execLullStatus_within {m : Nat} {s t : State} (h : Within m s t) (hm : Covers m 0x500150788) (a0 : Msg) :
    WithinOut m s (execLullStatus a0 t) :=
  command_within h (hm.sub (by decide)) 0x020E a0 rfl (cmdLullStatus_within)

theorem execStaggerSet_within {m : Nat} {s t : State} (h : Within m s t) (hm : Covers m 0x500350788) (a0 : Msg) :
    WithinOut m s (execStaggerSet a0 t) :=
  command_within h (hm.sub (by decide)) 0x0406 a0 rfl (cmdStaggerSet_within (hm.sub (by decide)))

theorem execUpdateSchedule_within {m : Nat} {s t : State} (h : Within m s t) (hm : Covers m 0x1500150788) (a0 : Msg) :
    WithinOut m s (execUpdateSchedule a0 t) :=
  command_within h (hm.sub (by decide)) 0x0E03 a0 rfl (cmdUpdateSchedule_within (hm.sub (by decide)))

theorem execTestStatus_within {m : Nat} {s t : State} (h : Within m s t) (hm : Covers m 0x500150788) (a0 : Msg) :
    WithinOut m s (execTestStatus a0 t) :=
  command_within h (hm.sub (by decide)) 0x0F01 a0 rfl (cmdTestStatus_within)

theorem execSafetyParamLoad_within {m : Nat} {s t : State} (h : Within m s t) (hm : Covers m 0x508150788) (a0 : Msg) :
    WithinOut m s (execSafetyParamLoad a0 t) :=
  command_within h (hm.sub (by decide)) 0x0602 a0 rfl (cmdSafetyParamLoad_within (hm.sub (by decide)))

theorem execModuleRestart_within {m : Nat} {s t : State} (h : Within m s t) (hm : Covers m 0x500150798) (a0 : Msg) :
    WithinOut m s (execModuleRestart a0 t) :=
  command_within h (hm.sub (by decide)) 0x0104 a0 rfl (cmdModuleRestart_within (hm.sub (by decide)))

theorem execImageLoad_within {m : Nat} {s t : State} (h : Within m s t) (hm : Covers m 0x500150788) (a0 : Msg) : WithinOut m s (execImageLoad a0 t) :=
  command_within h (hm.sub (by decide)) 0x0302 a0 rfl (cmdImageLoad_within)

theorem execTimeSet_within {m : Nat} {s t : State} (h : Within m s t) (hm : Covers m 0x50C5587CC) (a0 : Msg) : WithinOut m s (execTimeSet a0 t) :=
  command_within h (hm.sub (by decide)) 0x0B03 a0 rfl (cmdTimeSet_within (hm.sub (by decide)))

theorem execSaRelease_within {m : Nat} {s t : State} (h : Within m s t) (hm : Covers m 0x500150788) (a0 : Msg) : WithinOut m s (execSaRelease a0 t) :=
  command_within h (hm.sub (by decide)) 0x020B a0 rfl (cmdSaRelease_within (hm.sub (by decide)))

theorem execMvbConfigure_within {m : Nat} {s t : State} (h : Within m s t) (hm : Covers m 0xD00150788) (a0 : Msg) :
    WithinOut m s (execMvbConfigure a0 t) :=
  command_within h (hm.sub (by decide)) 0x0A02 a0 rfl (cmdMvbConfigure_within (hm.sub (by decide)))

theorem execLaneHealth_within {m : Nat} {s t : State} (h : Within m s t) (hm : Covers m 0x500150788) (a0 : Msg) :
    WithinOut m s (execLaneHealth a0 t) :=
  command_within h (hm.sub (by decide)) 0x0402 a0 rfl (cmdLaneHealth_within)

theorem execRecorderCounters_within {m : Nat} {s t : State} (h : Within m s t) (hm : Covers m 0x500150788) (a0 : Msg) :
    WithinOut m s (execRecorderCounters a0 t) :=
  command_within h (hm.sub (by decide)) 0x0D07 a0 rfl (cmdRecorderCounters_within)

theorem execFdbFlush_within {m : Nat} {s t : State} (h : Within m s t) (hm : Covers m 0x500150788) (a0 : Msg) : WithinOut m s (execFdbFlush a0 t) :=
  command_within h (hm.sub (by decide)) 0x0907 a0 rfl (cmdFdbFlush_within (hm.sub (by decide)))

theorem execRecorderRead_within {m : Nat} {s t : State} (h : Within m s t) (hm : Covers m 0x500150788) (a0 : Msg) :
    WithinOut m s (execRecorderRead a0 t) :=
  command_within h (hm.sub (by decide)) 0x0D02 a0 rfl (cmdRecorderRead_within)

theorem execRnatConfigure_within {m : Nat} {s t : State} (h : Within m s t) (hm : Covers m 0x500150788) (a0 : Msg) :
    WithinOut m s (execRnatConfigure a0 t) :=
  command_within h (hm.sub (by decide)) 0x090F a0 rfl (cmdRnatConfigure_within (hm.sub (by decide)))

theorem execSignalStatus_within {m : Nat} {s t : State} (h : Within m s t) (hm : Covers m 0x500150788) (a0 : Msg) :
    WithinOut m s (execSignalStatus a0 t) :=
  command_within h (hm.sub (by decide)) 0x0801 a0 rfl (cmdSignalStatus_within)

theorem execSlipControl_within {m : Nat} {s t : State} (h : Within m s t) (hm : Covers m 0x1FFFFFFFFC) (a0 : Arrived PairControl) :
    WithinOut m s (execSlipControl a0 t) := by
  unfold execSlipControl
  repeat' (first | exact hm.sub (by decide) | intro _ | lift_lets | with_reducible exact h | with_reducible assumption
                 | with_reducible apply heard_within | with_reducible apply controlHeard_within)

theorem execRecorderClearConfirm_within {m : Nat} {s t : State} (h : Within m s t) (hm : Covers m 0x500150788) (a0 : Msg) :
    WithinOut m s (execRecorderClearConfirm a0 t) :=
  command_within h (hm.sub (by decide)) 0x0D06 a0 rfl (cmdRecorderClearConfirm_within (hm.sub (by decide)))

theorem execPortConfigure_within {m : Nat} {s t : State} (h : Within m s t) (hm : Covers m 0x500150788) (a0 : Msg) :
    WithinOut m s (execPortConfigure a0 t) :=
  command_within h (hm.sub (by decide)) 0x0902 a0 rfl (cmdPortConfigure_within (hm.sub (by decide)))

theorem execProgramStatus_within {m : Nat} {s t : State} (h : Within m s t) (hm : Covers m 0x500150788) (a0 : Msg) :
    WithinOut m s (execProgramStatus a0 t) :=
  command_within h (hm.sub (by decide)) 0x0301 a0 rfl (cmdProgramStatus_within)

theorem execFdbPin_within {m : Nat} {s t : State} (h : Within m s t) (hm : Covers m 0x500150788) (a0 : Msg) : WithinOut m s (execFdbPin a0 t) :=
  command_within h (hm.sub (by decide)) 0x0904 a0 rfl (cmdFdbPin_within (hm.sub (by decide)))

theorem execRecutCancel_within {m : Nat} {s t : State} (h : Within m s t) (hm : Covers m 0x500550788) (a0 : Msg) :
    WithinOut m s (execRecutCancel a0 t) :=
  command_within h (hm.sub (by decide)) 0x0306 a0 rfl (cmdRecutCancel_within (hm.sub (by decide)))

theorem execLinkChange_within {m : Nat} {s t : State} (h : Within m s t) (hm : Covers m 0xF0A1107C8) (a0 : ℕ) (a1 : Bool) (a2 : ℕ) :
    WithinOut m s (execLinkChange a0 a1 a2 t) := by
  unfold execLinkChange
  repeat' (first | exact hm.sub (by decide)
                 | (intro y; refine within_cut (m := m) (s := s) (y := y) ?_ ?_; rotate_left; (intro hy; clear_value y); rotate_right; subst y)
                 | (intro y; clear_value y) | lift_lets | with_reducible exact h | with_reducible assumption | with_reducible apply within_ite
                 | with_reducible apply withinOut_next | with_reducible apply withinOut_ite | with_reducible apply slipLink_within
                 | with_reducible apply ptpLink_within | with_reducible apply portLink_within | with_reducible apply startInauguration_within)

end Sys2Proof.Machine
end

