-- ==== Sys2Proof/Machine/KpcWords.lean ====
section
/-! DEFINITION. The commands that the words of a function spell (Tables 5.9 to 5.12). -/

namespace Sys2Proof.Machine

/-- The command of a data opcode with a result type T: those that name T and the three locals alone. -/
def plainCommand (l : Lane) (t : MType) (r : Regs) : Nat → Option Instr
  | 0x02 => some (.kMov l t r) | 0x10 => some (.kAdd l t r) | 0x11 => some (.kSub l t r) | 0x12 => some (.kMul l t r)
  | 0x13 => some (.kDiv l t r) | 0x14 => some (.kMod l t r) | 0x15 => some (.kNeg l t r) | 0x16 => some (.kAbs l t r)
  | 0x17 => some (.kMin l t r) | 0x18 => some (.kMax l t r) | 0x1A => some (.kSqrt l t r) | 0x20 => some (.kAnd l t r)
  | 0x21 => some (.kOr l t r) | 0x22 => some (.kXor l t r) | 0x23 => some (.kNot l t r) | 0x30 => some (.kEq l t r)
  | 0x31 => some (.kNe l t r) | 0x32 => some (.kLt l t r) | 0x33 => some (.kLe l t r) | 0x34 => some (.kGt l t r)
  | 0x35 => some (.kGe l t r) | 0x50 => some (.kSin l t r) | 0x51 => some (.kCos l t r) | 0x52 => some (.kTan l t r)
  | 0x53 => some (.kAsin l t r) | 0x54 => some (.kAcos l t r) | 0x55 => some (.kAtan l t r) | 0x56 => some (.kAtan2 l t r)
  | 0x57 => some (.kExp l t r) | 0x58 => some (.kLn l t r) | 0x59 => some (.kLog10 l t r) | 0x5A => some (.kExpt l t r)
  | 0x5B => some (.kFloor l t r) | 0x5C => some (.kCeil l t r) | 0x5D => some (.kRint l t r) | _ => none

/-- The shifts, whose count has a type of its own. -/
def shiftCommand (l : Lane) (t tb : MType) (r : Regs) : Nat → Option Instr
  | 0x24 => some (.kShl l t tb r) | 0x25 => some (.kShr l t tb r) | 0x26 => some (.kRol l t tb r) | 0x27 => some (.kRor l t tb r) | _ => none

/-- The conversions, from T2. -/
def convertCommand (l : Lane) (t t2 : MType) (r : Regs) : Nat → Option Instr
  | 0x40 => some (.kCvt l t t2 r) | 0x41 => some (.kTrunc l t t2 r) | 0x42 => some (.kRound l t t2 r) | 0x43 => some (.kBits l t t2 r)
  | _ => none

/-- The services (Table 5.12). -/
def serviceCommand (l : Lane) (d a : Nat) : Nat → Option Instr
  | 0x0001 => some (.kTimeNow l d a) | 0x0002 => some (.kTakeInfo l d a) | 0x0003 => some (.kModes l d a) | 0x0004 => some (.kFaults l d a)
  | 0x0010 => some (.kInputStatus l d a) | 0x0011 => some (.kPosition l d a) | 0x0020 => some (.kMbxIssue l d a)
  | 0x0021 => some (.kMbxResult l d a) | 0x0030 => some (.kCueRequest l d a) | 0x0031 => some (.kCueCancel l d a)
  | 0x0032 => some (.kCueState l d a) | 0x0040 => some (.kRecord l d a) | _ => none

/-- Symbol index and leaf of an extension word (R173). -/
def extSymbol (w : Nat) : Nat := w / 2 ^ 32
def extLeaf (w : Nat) : Nat := w % 2 ^ 32

/-- Memory access, control and calls (Table 5.11). -/
def flowCommand (l : Lane) (t : Option MType) (r : Regs) (e : Nat → Nat) : Nat → Option Instr
  | 0x60 => t.map fun t => .kLd l t r ⟨extSymbol (e 0), extLeaf (e 0), extSymbol (e 1)⟩
  | 0x61 => t.map fun t => .kSt l t r ⟨extSymbol (e 0), extLeaf (e 0), extSymbol (e 1)⟩
  | 0x62 => some (.kCopy l (extSymbol (e 0)) (extLeaf (e 0)) (extSymbol (e 1)) (extLeaf (e 1)) (extSymbol (e 2)))
  | 0x70 => some (.kBlock l) | 0x71 => some (.kLoop l (e 0)) | 0x72 => some (.kIf l r.a) | 0x73 => some (.kElse l) | 0x74 => some (.kEnd l)
  | 0x75 => some (.kBreak l r.d) | 0x76 => some (.kNext l r.d) | 0x77 => some (.kReturn l) | 0x78 => some (.kCall l r.d r.a (extLeaf (e 0)))
  | 0x79 => serviceCommand l r.d r.a (e 0 % 2 ^ 16) | _ => none

/-- The command that an instruction of a function spells on a lane (R167): its opcode, types, locals and extension words. -/
def KWord.command (l : Lane) (f : FunctionRec) (x : KWord) : Option Instr :=
  let t := MType.ofCode x.t
  let r : Regs := ⟨x.d, x.a, x.b⟩
  let e (n : Nat) : Nat := x.ext.getD n 0
  match x.op, t with
  | 0x00, _ => some (.kNop l)
  | 0x01, some t => some (.kConst l t x.d (BitVec.ofNat 64 (e 0)))
  | 0x03, some t => some (.kSel l t r (e 0 % 2 ^ 16))
  | 0x19, some t => some (.kFma l t r (e 0 % 2 ^ 16))
  | op, some t =>
    (plainCommand l t r op).or <| ((((f.locals[x.b]?).bind MType.ofCode).bind fun tb => shiftCommand l t tb r op).or <|
      ((MType.ofCode x.t2).bind fun t2 => convertCommand l t t2 r op).or (flowCommand l (some t) r e op))
  | op, none => flowCommand l none r e op

/-- The command that the take which a lane runs comes to next. -/
def nextCommand (s : State) (l : Lane) : Option Instr :=
  match runningImage s, runningTake s l with
  | some i, some t => t.frames.head?.bind fun fr => (i.functions[fr.function]?).bind fun f =>
      (nextWord fr.position (f.code.drop fr.position)).bind fun w => w.1.command l f
  | _, _ => none

end Sys2Proof.Machine
end

