-- ==== Sys2Proof/WellFormed.lean ====
section
/-! DEFINITION. When the operands of a command can arise at all: fields of an envelope within their widths come with their types;
what remains are the numbers that the tables bound. -/

namespace Sys2Proof

/-- A local number of an instruction word is 16 bits wide (Table 5.9). -/
def wfLocal (n : Nat) : Bool := n < 65536

/-- The three local numbers of an instruction word. -/
def Regs.wf (r : Regs) : Bool := wfLocal r.d && wfLocal r.a && wfLocal r.b

/-- The extension words of an LD or ST (R173). -/
def LeafRef.wf (l : LeafRef) : Bool :=
  l.symbol < 2 ^ 32 && l.leaf < 2 ^ 32 && l.stride < 2 ^ 32

/-- Source local C in an extension word (Table 5.10). -/
def wfExt (r : Regs) (c : Nat) : Bool := r.wf && wfLocal c

/-- Copies of fragments of a message, on the two Slipstream ports. -/
def SlipArrival.ok (got : SlipArrival) : Bool := got.copies.all fun c => c.port < 2 && c.fragment < got.count

/-- Whether the operands of a command lie in the ranges that the manual's tables give them. -/
def Instr.wf : Instr → Bool
  | .kConst _ _ d _ => wfLocal d
  | .kMov _ _ r | .kAdd _ _ r | .kSub _ _ r | .kMul _ _ r | .kDiv _ _ r | .kMod _ _ r | .kNeg _ _ r | .kAbs _ _ r
  | .kMin _ _ r | .kMax _ _ r | .kSqrt _ _ r | .kAnd _ _ r | .kOr _ _ r | .kXor _ _ r | .kNot _ _ r | .kEq _ _ r
  | .kNe _ _ r | .kLt _ _ r | .kLe _ _ r | .kGt _ _ r | .kGe _ _ r | .kSin _ _ r | .kCos _ _ r | .kTan _ _ r
  | .kAsin _ _ r | .kAcos _ _ r | .kAtan _ _ r | .kAtan2 _ _ r | .kExp _ _ r | .kLn _ _ r | .kLog10 _ _ r
  | .kExpt _ _ r | .kFloor _ _ r | .kCeil _ _ r | .kRint _ _ r => r.wf
  | .kSel _ _ r c | .kFma _ _ r c => wfExt r c
  | .kShl _ _ _ r | .kShr _ _ _ r | .kRol _ _ _ r | .kRor _ _ _ r => r.wf
  | .kCvt _ _ _ r | .kTrunc _ _ _ r | .kRound _ _ _ r | .kBits _ _ _ r => r.wf
  | .kLd _ _ r l | .kSt _ _ r l => r.wf && l.wf
  | .kCopy _ s sl t tl n => s < 2 ^ 32 && sl < 2 ^ 32 && t < 2 ^ 32 && tl < 2 ^ 32 && n < 2 ^ 32
  | .kLoop _ bound => 0 < bound && bound < 2 ^ 32
  | .kIf _ a => wfLocal a
  | .kBreak _ d | .kNext _ d => wfLocal d
  | .kCall _ d a f => wfLocal d && wfLocal a && f < 2 ^ 32
  | .kTimeNow _ d a | .kTakeInfo _ d a | .kModes _ d a | .kFaults _ d a | .kInputStatus _ d a | .kPosition _ d a
  | .kMbxIssue _ d a | .kMbxResult _ d a | .kCueRequest _ d a | .kCueCancel _ d a | .kCueState _ d a
  | .kRecord _ d a => wfLocal d && wfLocal a
  | .registerWrite _ offset _ => offset < 2 ^ 28 && offset % 4 = 0
  | .inputFreeze t | .voteDeadline t => t < 16
  | .takeStart _ t | .divergenceComparisonDone _ t | .reshootExportDone _ t _ => t < 16
  | .signaturePost _ t k e _ => t < 65536 && k < 2 ^ 64 && e < 2 ^ 32
  | .reshootImportDone t _ => t < 16
  | .sourceDetection s _ | .activationCommit s => s < 128
  | .windowOpenTimeExpiry w => w < 8
  | .axleClean a => a = 1 || a = 2
  | .timeCue c => c < 256
  | .safeInputChange i _ | .inputPathFault i => i < 16
  | .inputPathTest i p _ => i < 16 && p < 2
  | .testPulse s _ _ => s < 4
  | .pairDiscrepancyFault p => p < 8
  | .outputTimeout o | .overcurrentTrip o | .backFeedFault o | .switchTestOverdue o => o < 8
  | .switchTest o w _ _ => o < 8 && w < 6
  | .channelStale c | .dissolveStart c | .dissolveComplete c => c < 128
  | .streamFrame p _ => 4 ≤ p && p < 20
  | .frameReceive p _ | .egressFrameDone p | .gateEvent p | .gateListTakeover p => p < 32
  | .launchGuardBand p _ => p < 28
  | .linkChange p _ _ => p < 28 || p = 32 || p = 33
  | .sfpInsertion c _ _ => c < 4
  | .ttdpHelloSend l | .ttdpHelloReceive l _ | .ttdpHelloTimeout l | .topologyFrame l _ => l < 4
  | .relayReadback r _ => r < 8
  | .flowFreshnessTimeout s | .scheduledLaunch s => s < 2048
  | .mvbBasicPeriod b | .mvbMastershipOffer b => b < 2
  | .mvbMasterFrame b f a | .mvbSlaveFrame b f a _ _ _ => b < 2 && f < 16 && a < 4096
  | .mvbSinkStale h | .mvbWriteDeadline h | .mvbReadTimeout h | .mvbBindingWriteFailure h => h < 8192
  | .mvbLockExpiry s => s < 32
  | .saDrainEnd c | .saRekeyLimit c => c < 256
  | .credentialLockExpiry c => c < 64
  | .slipKeepalive p m => p < 2 && m.got.ok
  | .slipControl m => m.got.ok
  | .slipSnapshot m => m.got.ok
  | .slipToken _ _ m => m.got.ok
  | .slipAck _ _ m => m.got.ok
  | .slipTakeEnd m => m.got.ok
  | .slipStatus m => m.got.ok
  | .slipResync m => m.got.ok
  | .slipstreamFragmentDone p => p < 2
  | .pairTelegram t _ => t < 16
  | _ => true

end Sys2Proof
end

