-- ==== Sys2Proof/Tests/Slice0.lean ====
section
/-! SUPPORT. Tests: terms that WellFormed refuses, small states and messages, states and commands that meet the hypotheses of each
statement, and a few single steps. -/

namespace Sys2Proof.Tests

open Sys2Proof.Machine Sys2Proof.Claims

set_option Elab.async false

/-! ### Small states and messages -/

/-- A session after login with every role. -/
def user : Session := ⟨.login, 20, 7, some 0, 31, none, 0, 0, 0, 0, 0⟩

/-- An enrolled module in Maintenance and in Service with two sessions of Owners and one anchor. -/
def upkeep : State :=
  modTrust (fun t => { t with
    anchor := some ⟨0, le 16 1, le 16 2, [], [], 1, 0, 0⟩
    credentials := [(0, { name := ascii "A", roles := 31, salt := [], tag := [] }), (1, { name := ascii "B", roles := 16, salt := [], tag := [] })]
    sessions := [(1, user), (2, { user with credential := some 1, roles := 16 })] })
    (modModule (fun m => { m with state := .maintenance, supplied := true }) State.reset)
def service : State := modModule (fun m => { m with state := .service }) upkeep

/-- An un-enrolled module with its one enrolment session. -/
def newcomer : Session := ⟨.enrolment, 20, 7, none, 0, none, 0, 0, 0, 0, 0⟩
def factory : State := modTrust (fun t => { t with anchor := none, sessions := [(1, newcomer)] }) upkeep

/-- A command of session 1 as it arrives, its header check computed. -/
def ask (code : Nat) (payload : Bytes) : Msg :=
  let m : Msg := ⟨1, 0x4D43584B, 1, 0, 1, 0, BitVec.ofNat 32 payload.length, 0, 0, 0, payload⟩
  { m with hcrc := BitVec.ofNat 32 (crc32 (envelopeHeader m code)) }

/-- An outstanding command of session 1 under a token. -/
def waiting (token : Nat) : Entry :=
  ⟨token, 0x0101, 33554432, token, 0, [], 0, some 1, [1], none, 31, false, .under, false, 7, []⟩

/-- A small image of one task and one variable, its translations, and a module that has it loaded in both slots and running. -/
def task0 : TaskRec := ⟨0, false, 1, false, 10000, 0, 5000, 0, 64, 0, 0, 0, 0, 0, 0⟩
def small : Image := ⟨[1], 1, 0, [⟨9, 3, 4, 0, 0, 4, 1, noValue, 0, 0, noValue⟩], [], [⟨0, 0, [3, 3, 3, 3], [], 0⟩], [task0], [], [], [], [], [], []⟩
def smallSlot : ImageSlot := { state := 2, image := some small, digest := [1], version := 1 }
def translations : List CacheEntry := [0, 1, 2].map fun l => ⟨[1], l, Config.deliveredVersion 0 3, Config.hardwareRevision, 0, [], ⟨[], [], [(0, 1000)]⟩, 0⟩
def loaded : State := modProg (fun p => { p with slot0 := smallSlot, slot1 := smallSlot, cache := translations, state := .stopped }) upkeep
def running : State := modProg (fun p => { p with state := .running, tasks := startTasks small 4 }) loaded

/-- A lane that runs a take of the small image's task, in given frames. -/
def frame0 : Frame := ⟨0, 0, [], [], 0⟩
def take0 (frames : List Frame) : LaneTake :=
  { task := 0, take := 1, epoch := 0, t0 := 0, deadline := 10, readyAt := 0, phase := .running, snapshot := [], forceArea := [], frames := frames }
def holding (i : Image) (frames : List Frame) : State :=
  modLane .b (fun x => { x with takes := [take0 frames] }) (modProg (fun p => { p with slot0 := { smallSlot with image := some i } }) running)
def calling (frames : List Frame) : State := holding small frames

def taking (i : Image) (t : LaneTake) : State :=
  modLane .b (fun x => { x with takes := [t] }) (modProg (fun p => { p with slot0 := { smallSlot with image := some i } }) running)

/-- Images with an array of BYTE that the task owns, with a channel, and with a cue. -/
def bytesImage : Image :=
  { small with types := [.array 9 80 80], symbols := [⟨9, 32, 4, 0, 0, 80, 80, noValue, 0, 0, noValue⟩], tasks := [{ task0 with channels := 1 }] }
def tracking (done : Option (Nat × Bytes)) : State := modLane .b (fun x => { x with tracked := [⟨0, 0, [], done, false⟩] }) (holding bytesImage [frame0])
def spent : State := modLane .b (fun x => { x with tracked := List.replicate 4 ⟨0, 0, [], none, false⟩ }) (holding bytesImage [frame0])
def cueImage : Image :=
  { small with types := [.array 9 32 32], symbols := [⟨9, 32, 4, 0, 0, 32, 32, 0, 0, 0, noValue⟩], values := [1, 1] ++ List.replicate 30 0, cues := [⟨0, 0, 3, 1, 0⟩] }

/-- An image container of one symbol, two empty functions and one cyclic task, written out from Tables 5.3 to 5.6. -/
def sectionRow (kind start length : Nat) : Bytes := le 4 kind ++ le 4 0 ++ le 8 start ++ le 8 length
def tinyBody : Bytes :=
  le 4 0x4D49584B ++ le 2 1 ++ le 2 1 ++ le 16 1 ++ le 4 1 ++ le 4 0 ++ le 4 8 ++ le 4 0 ++ List.replicate 24 0 ++
  sectionRow 1 256 48 ++ sectionRow 2 304 8 ++ sectionRow 3 312 0 ++ sectionRow 4 320 32 ++ sectionRow 5 352 64 ++ sectionRow 6 416 0 ++
  sectionRow 7 424 0 ++ sectionRow 8 432 0 ++
  (le 8 9 ++ le 4 3 ++ le 2 0 ++ le 1 0 ++ le 1 0 ++ le 4 4 ++ le 4 1 ++ le 8 noValue ++ le 4 0 ++ le 2 1 ++ le 2 0 ++ le 8 noValue) ++
  le 8 0x41 ++ List.replicate 8 0 ++ List.replicate 32 0 ++
  (le 1 0 ++ le 1 0 ++ le 1 1 ++ le 1 0 ++ le 4 500 ++ le 4 0 ++ le 4 500 ++ le 4 0 ++ le 4 64 ++ List.replicate 40 0) ++ List.replicate 16 0
theorem test_tiny_verifies : verifyImage tinyBody 1 1 = none := by decide +kernel

/-- The small image with other attributes of its variable, which another task owns; and with code. -/
def foreign (attributes : Nat) : Image := { small with symbols := [⟨9, 3, attributes, 1, 0, 4, 1, noValue, 0, 0, noValue⟩] }
/-- An instruction word (Table 5.9). -/
def kWord (op d a b : Nat) : Word64 := BitVec.ofNat 64 (op * 2 ^ 56 + d * 2 ^ 32 + a * 2 ^ 16 + b)
def coded (code : List Word64) : Image := { small with functions := [⟨0, 0, [0, 3, 3, 3], code, 0⟩, ⟨1, 0, [3], [0], 0⟩] }

/-- A set with SO0 enabled, on the left and mapped to the window function, and window 0 on the left, open around the position. -/
def windowSet : Bytes :=
  let b := Bytes.overwrite (List.replicate 688 0) 0x120 [1, 1, 8, 0, 0, 0, 0, 0]
  Bytes.overwrite b 0x230 [1, 1, 0, 0, 100, 0, 0, 0]
def besideWindow : State :=
  modPos (fun p => { p with state := .valid, counter := 50, confidence := 10 })
    (modSafety (fun x => { x with active := some windowSet, windows := [(0, { opening := 0, forward := true, since := 0 })] }) upkeep)

/-- A login under evaluation with the right password. -/
def hashed : Credential := { name := ascii "A", roles := 31, salt := [], tag := Config.argon2id [] [] }
def evaluated : Entry := { waiting 5 with phase := .holds .argon, payload := padTo 32 (ascii "A") }
def evaluating : State := modMbx (fun b => { b with queue := [evaluated] }) (modTrust (fun t => { t with credentials := [(0, hashed)] }) upkeep)

theorem loaded_entries {t : State} (hp : t.prog.cache = translations) (hm : t.module.firmwareSlot = 0 ∧ t.module.versions = []) :
    cacheEntries t [1] = translations := by
  simp [cacheEntries, hp, translations, cutterVersion, componentVersion, hm, Tbl.get, Tbl.find]

theorem loaded_translated {t : State} (hp : t.prog.cache = translations) (hm : t.module.firmwareSlot = 0 ∧ t.module.versions = []) (n : Nat)
    (hs : slotOf t n = smallSlot) : translatedImage t n = some small := by
  have h := loaded_entries hp hm
  simp only [translatedImage, hs, smallSlot, translated, h]
  rfl

theorem loaded_fits {t : State} (hp : t.prog.cache = translations) (hm : t.module.firmwareSlot = 0 ∧ t.module.versions = []) :
    misfit t small [1] 40 = none := by
  have h := loaded_entries hp hm
  simp only [misfit, taskFits, responseBound, h]
  decide +kernel

/-! ### WellFormed: for each check a term that breaks it -/

def big : Nat := 2 ^ 32
def wide : Regs := ⟨65536, 0, 0⟩
def wideA : Regs := ⟨0, 65536, 0⟩
def wideB : Regs := ⟨0, 0, 65536⟩
def narrow : Regs := ⟨65535, 65535, 65535⟩

theorem test_ill_formed_registers :
    [Instr.kConst .a .u8 65536 0, .kMov .a .u8 wide, .kAdd .a .u8 wideA, .kSub .a .u8 wideB, .kMul .a .u8 wide, .kDiv .a .u8 wide, .kMod .a .u8 wide, .kNeg .a .i8 wide,
      .kAbs .a .i8 wide, .kMin .a .u8 wide, .kMax .a .u8 wide, .kSqrt .a .f32 wide, .kAnd .a .u8 wide, .kOr .a .u8 wide, .kXor .a .u8 wide, .kNot .a .u8 wide, .kEq .a .u8 wide,
      .kNe .a .u8 wide, .kLt .a .u8 wide, .kLe .a .u8 wide, .kGt .a .u8 wide, .kGe .a .u8 wide, .kSin .a .f32 wide, .kCos .a .f32 wide, .kTan .a .f32 wide, .kAsin .a .f32 wide,
      .kAcos .a .f32 wide, .kAtan .a .f32 wide, .kAtan2 .a .f32 wide, .kExp .a .f32 wide, .kLn .a .f32 wide, .kLog10 .a .f32 wide, .kExpt .a .f32 wide, .kFloor .a .f32 wide,
      .kCeil .a .f32 wide, .kRint .a .f32 wide].all (fun i => !i.wf) = true := by decide

theorem test_ill_formed_extensions :
    [Instr.kSel .a .u8 narrow 65536, .kSel .a .u8 wide 0, .kFma .a .f32 narrow 65536, .kFma .a .f32 wideB 0, .kShl .a .u8 .u8 wide, .kShr .a .u8 .u8 wideA, .kRol .a .u8 .u8 wideB,
      .kRor .a .u8 .u8 wide, .kCvt .a .u8 .i8 wide, .kTrunc .a .u8 .f32 wide, .kRound .a .u8 .f32 wide, .kBits .a .u32 .f32 wide, .kLd .a .u8 wide ⟨0, 0, 0⟩,
      .kLd .a .u8 narrow ⟨big, 0, 0⟩, .kLd .a .u8 narrow ⟨0, big, 0⟩, .kSt .a .u8 narrow ⟨0, 0, big⟩, .kSt .a .u8 wideA ⟨0, 0, 0⟩, .kCopy .a big 0 0 0 0, .kCopy .a 0 big 0 0 0,
      .kCopy .a 0 0 big 0 0, .kCopy .a 0 0 0 big 0, .kCopy .a 0 0 0 0 big, .kLoop .a 0, .kLoop .a big, .kIf .a 65536, .kBreak .a 65536, .kNext .a 65536, .kCall .a 65536 0 0,
      .kCall .a 0 65536 0, .kCall .a 0 0 big].all (fun i => !i.wf) = true := by decide

theorem test_ill_formed_calls :
    [Instr.kTimeNow .a 65536 0, .kTakeInfo .a 0 65536, .kModes .a 65536 0, .kFaults .a 0 65536, .kInputStatus .a 65536 0, .kPosition .a 0 65536, .kMbxIssue .a 65536 0,
      .kMbxResult .a 0 65536, .kCueRequest .a 65536 0, .kCueCancel .a 0 65536, .kCueState .a 65536 0, .kRecord .a 0 65536].all (fun i => !i.wf) = true := by decide

theorem test_ill_formed_events :
    [Instr.registerWrite .a (2 ^ 28) 0, .registerWrite .a 2 0, .inputFreeze 16, .voteDeadline 16, .takeStart .a 16, .divergenceComparisonDone .a 16, .reshootExportDone .a 16 0,
      .signaturePost .a 65536 0 0 0, .signaturePost .a 0 (2 ^ 64) 0 0, .signaturePost .a 0 0 big 0, .reshootImportDone 16 0, .sourceDetection 128 0, .activationCommit 128,
      .windowOpenTimeExpiry 8, .axleClean 0, .axleClean 3, .timeCue 256, .safeInputChange 16 default, .inputPathFault 16, .inputPathTest 16 0 true, .inputPathTest 0 2 true,
      .testPulse 4 [] true, .pairDiscrepancyFault 8, .outputTimeout 8, .overcurrentTrip 8, .backFeedFault 8, .switchTestOverdue 8, .switchTest 8 0 true true,
      .switchTest 0 6 true true].all (fun i => !i.wf) = true := by decide

theorem test_ill_formed_networks :
    [Instr.channelStale 128, .dissolveStart 128, .dissolveComplete 128, .streamFrame 3 [], .streamFrame 20 [], .frameReceive 32 default, .egressFrameDone 32, .gateEvent 32,
      .gateListTakeover 32, .launchGuardBand 28 0, .linkChange 31 true 0, .linkChange 34 true 0, .sfpInsertion 4 true 0, .ttdpHelloSend 4, .ttdpHelloReceive 4 0, .ttdpHelloTimeout 4,
      .topologyFrame 4 true, .relayReadback 8 true, .flowFreshnessTimeout 2048, .scheduledLaunch 2048, .mvbBasicPeriod 2, .mvbMastershipOffer 2, .mvbMasterFrame 2 0 0,
      .mvbMasterFrame 0 16 0, .mvbMasterFrame 0 0 4096, .mvbSlaveFrame 2 0 0 [] true true, .mvbSlaveFrame 0 16 0 [] true true, .mvbSlaveFrame 0 0 4096 [] true true, .mvbSinkStale 8192,
      .mvbWriteDeadline 8192, .mvbReadTimeout 8192, .mvbBindingWriteFailure 8192, .mvbLockExpiry 32, .saDrainEnd 256, .saRekeyLimit 256, .credentialLockExpiry 64, .slipKeepalive 2 default, .slipKeepalive 0 ⟨0, 1, [⟨2, 0, true⟩]⟩, .slipStatus ⟨[], 1, [⟨0, 1, true⟩]⟩,
            .slipstreamFragmentDone 2, .pairTelegram 16 0].all (fun i => !i.wf) = true := by decide

/-- At the last value of each range the same commands are well formed. -/
theorem test_well_formed_boundaries :
    [Instr.kMov .a .u8 narrow, .kSel .a .u8 narrow 65535, .kLd .a .u8 narrow ⟨big - 1, big - 1, big - 1⟩, .kCopy .a 0 0 0 0 (big - 1), .kLoop .a 1, .kCall .a 65535 65535 (big - 1),
      .registerWrite .a (2 ^ 28 - 4) 0, .inputFreeze 15, .axleClean 1, .axleClean 2, .switchTest 7 5 true true, .linkChange 27 true 0, .linkChange 32 true 0, .linkChange 33 true 0,
      .mvbSlaveFrame 1 15 4095 [] true true, .saDrainEnd 255].all Instr.wf = true := by decide

/-! ### Commands and steps -/

/-- No word spells a command. -/
theorem test_no_word_spells : decodeTableWord 16 0x0101 = none ∧ (State.reset.withFetchWord 16 0x0101) = State.reset := ⟨rfl, rfl⟩

/-- A command of a session of the wrong role is answered with DENIED (0x0103 MODE_REQUEST for an Owner alone). -/
theorem test_denied :
    (match exec (.modeRequest { ask 0x0103 [3] with session := 2, hcrc := BitVec.ofNat 32 (crc32 (envelopeHeader { ask 0x0103 [3] with session := 2 } 0x0103)) }) upkeep with
      | .next t => t.module.state
      | _ => .stowed) = .maintenance := by decide +kernel

/-- The check value of CRC-32 (R88): "123456789" gives 0xCBF43926. -/
theorem test_crc32 : crc32 (ascii "123456789") = 0xCBF43926 := by decide +kernel

/-- The function of Table 5.14: its words, and the commands that they spell. -/
def tableFunction : FunctionRec :=
  ⟨0, 0, [9, 3, 3, 0, 3, 9], ([0x0190000000000000, 0, 0x0130000100000000, 0, 0x0130000200000000, 8, 0x0130000400000000, 1, 0x7100000000000000, 8,
    0x6090000500010000, 0x0000000C00000000, 0x0000000100000000, 0x1090000000000005, 0x1030000100010004, 0x3530000300010002, 0x7200000000030000,
    0x7500000000000000, 0x7400000000000000, 0x7400000000000000, 0x619000000000FFFF, 0x0000000D00000000, 0, 0x7700000000000000] : List Nat).map (BitVec.ofNat 64), 0⟩

theorem test_table_5_14_commands :
    tableFunction.instrs.map (KWord.command .b tableFunction) = [
      some (.kConst .b .f32 0 0), some (.kConst .b .i32 1 0), some (.kConst .b .i32 2 8), some (.kConst .b .i32 4 1), some (.kLoop .b 8),
      some (.kLd .b .f32 ⟨5, 1, 0⟩ ⟨12, 0, 1⟩), some (.kAdd .b .f32 ⟨0, 0, 5⟩), some (.kAdd .b .i32 ⟨1, 1, 4⟩), some (.kGe .b .i32 ⟨3, 1, 2⟩),
      some (.kIf .b 3), some (.kBreak .b 0), some (.kEnd .b), some (.kEnd .b), some (.kSt .b .f32 ⟨0, 0, 65535⟩ ⟨13, 0, 0⟩), some (.kReturn .b)] := by decide +kernel

/-- A stowed module shows nothing; one in Maintenance shows STATE blinking green (Table 18.11). -/
theorem test_lamps : lamps State.reset = {} ∧ (lamps upkeep).state = .blinking .green ∧ (lamps upkeep).pwr = .steady .green := by decide +kernel

/-! ### The hypotheses of the statements can be met -/

theorem met_step_runs_the_front_command :
    (∃ (s : State) (c : Instr) (rest : List Instr), s.pending = c :: rest) :=
  ⟨{ State.reset with pending := [.reset] }, .reset, [], rfl⟩

theorem met_idle_module_keeps_its_state :
    (∃ s : State, s.pending = []) :=
  ⟨State.reset, rfl⟩

theorem met_epoch_stored_kept :
    (∃ s t : State, step s = .next t ∧ s.mbx.epoch = s.mbx.storedEpoch) :=
  ⟨State.reset, _, rfl, rfl⟩

theorem met_time_and_outputs_only_go_on :
    (∃ s t : State, step s = .next t) :=
  ⟨State.reset, _, rfl⟩

theorem met_counters_of_record_never_fall :
    (∃ s t : State, step s = .next t) :=
  ⟨State.reset, _, rfl⟩

theorem met_nothing_else_changes :
    (∃ (i : Instr) (s t : State) (p : Part), exec i s = .next t ∧ p ∉ touches i) :=
  ⟨.reset, State.reset, _, .anchor, rfl, by decide⟩

theorem met_only_instructions_stop :
    (∃ (i : Instr) (s : State), kpcLane i = none) :=
  ⟨.reset, State.reset, rfl⟩

theorem met_envelopes_are_checked_first :
    (∃ r ∈ rows, ∃ (m : Msg) (s : State), hasMailbox s = false ∨ Tbl.find (offered r.code m s).trust.sessions m.session = none) ∧
    (∃ r ∈ rows, ∃ (m : Msg) (x : Session) (s : State), hasMailbox s = true ∧ Tbl.find (offered r.code m s).trust.sessions m.session = some x ∧ streamBroken m x = true) ∧
    (∃ r ∈ rows, ∃ (m : Msg) (x : Session) (s : State), hasMailbox s = true ∧ Tbl.find (offered r.code m s).trust.sessions m.session = some x ∧
    streamBroken m x = false ∧ (m.version == 1 && headerOk m r.code x) = false ∧ m.version = 1) ∧
    (∃ r ∈ rows, ∃ (m : Msg) (x : Session) (s : State), hasMailbox s = true ∧ Tbl.find (offered r.code m s).trust.sessions m.session = some x ∧
    streamBroken m x = false ∧ (m.version == 1 && headerOk m r.code x) = false ∧ m.version ≠ 1) :=
  ⟨⟨⟨0x0101, anyOrLanes, .moduleStatus⟩, by simp [rows, moduleRows], ask 0x0101 [], State.reset, .inl rfl⟩,
   ⟨⟨0x0101, anyOrLanes, .moduleStatus⟩, by simp [rows, moduleRows], { ask 0x0101 [] with magic := 0 }, user, upkeep, by decide +kernel⟩,
   ⟨⟨0x0101, anyOrLanes, .moduleStatus⟩, by simp [rows, moduleRows], { ask 0x0101 [] with hcrc := 0 }, user, upkeep, by decide +kernel⟩,
   ⟨⟨0x0101, anyOrLanes, .moduleStatus⟩, by simp [rows, moduleRows], { ask 0x0101 [] with version := 2 }, user, upkeep, by decide +kernel⟩⟩

theorem met_fresh_commands_are_refused_in_order :
    (∃ r ∈ rows, ∃ (m : Msg) (x : Session) (s : State), framed r.code m x (offered r.code m s) = true ∧
    tokenClass (received m x (offered r.code m s)) (sessionIssuer m.session x) m.token.toNat = .fresh ∧ m.epoch.toNat ≠ s.mbx.epoch) ∧
    (∃ r ∈ rows, ∃ (m : Msg) (x : Session) (s : State), framed r.code m x (offered r.code m s) = true ∧
    tokenClass (received m x (offered r.code m s)) (sessionIssuer m.session x) m.token.toNat = .fresh ∧ m.epoch.toNat = s.mbx.epoch ∧
    classDisabled s (sessionIssuer m.session x) r.code = true) ∧
    (∃ r ∈ rows, ∃ (m : Msg) (x : Session) (s : State), framed r.code m x (offered r.code m s) = true ∧
    tokenClass (received m x (offered r.code m s)) (sessionIssuer m.session x) m.token.toNat = .fresh ∧ m.epoch.toNat = s.mbx.epoch ∧
    classDisabled s (sessionIssuer m.session x) r.code = false ∧ creditFree s (arrived r.code m x (offered r.code m s)) = false) :=
  ⟨⟨⟨0x0101, anyOrLanes, .moduleStatus⟩, by simp [rows, moduleRows], ask 0x0101 [], user, modMbx (fun b => { b with epoch := 1 }) upkeep, by decide +kernel⟩,
   ⟨⟨0x0301, anyOrLanes, .programStatus⟩, by simp [rows, programRows], ask 0x0301 [], user, modMbx (fun b => { b with disabled := [(3, 2)] }) upkeep, by decide +kernel⟩,
   ⟨⟨0x0101, anyOrLanes, .moduleStatus⟩, by simp [rows, moduleRows], ask 0x0101 [], user,
    modMbx (fun b => { b with queue := [waiting 2, waiting 3, waiting 4, waiting 5] }) upkeep, by decide +kernel⟩⟩

theorem met_tokens_are_reissued :
    (∃ r ∈ rows, ∃ (m : Msg) (x : Session) (s : State) (c : Stored), framed r.code m x (offered r.code m s) = true ∧
    tokenClass (received m x (offered r.code m s)) (sessionIssuer m.session x) m.token.toNat = .replay c) ∧
    (∃ r ∈ rows, ∃ (m : Msg) (x : Session) (s : State) (id : Nat), framed r.code m x (offered r.code m s) = true ∧
    tokenClass (received m x (offered r.code m s)) (sessionIssuer m.session x) m.token.toNat = .attach id) ∧
    (∃ r ∈ rows, ∃ (m : Msg) (x : Session) (s : State), framed r.code m x (offered r.code m s) = true ∧
    tokenClass (received m x (offered r.code m s)) (sessionIssuer m.session x) m.token.toNat = .awaiting) ∧
    (∃ r ∈ rows, ∃ (m : Msg) (x : Session) (s : State), framed r.code m x (offered r.code m s) = true ∧
    tokenClass (received m x (offered r.code m s)) (sessionIssuer m.session x) m.token.toNat = .old) :=
  ⟨⟨⟨0x0101, anyOrLanes, .moduleStatus⟩, by simp [rows, moduleRows], ask 0x0101 [], user,
    modMbx (fun b => { b with tables := [(33554432, { newest := some 1, stored := [⟨1, 0x0101, 0, 0, [], true⟩] })] }) upkeep, ⟨1, 0x0101, 0, 0, [], true⟩, by decide +kernel⟩,
   ⟨⟨0x0101, anyOrLanes, .moduleStatus⟩, by simp [rows, moduleRows], ask 0x0101 [], user, modMbx (fun b => { b with queue := [waiting 1] }) upkeep, 1, by decide +kernel⟩,
   ⟨⟨0x0101, anyOrLanes, .moduleStatus⟩, by simp [rows, moduleRows], ask 0x0101 [], user,
    modPair (fun p => { p with awaitingAck := [⟨33554432, 1, none, [], none, []⟩] }) upkeep, by decide +kernel⟩,
   ⟨⟨0x0101, anyOrLanes, .moduleStatus⟩, by simp [rows, moduleRows], ask 0x0101 [], user,
    modMbx (fun b => { b with tables := [(33554432, { newest := some 1 })] }) upkeep, by decide +kernel⟩⟩

theorem met_only_issuers_of_the_column_are_served :
    (∃ r ∈ rows, ∃ (m : Msg) (x : Session) (s : State), r.code ≠ 0x0201 ∧ framed r.code m x s = true ∧
    tokenClass (received m x s) (sessionIssuer m.session x) m.token.toNat = .fresh ∧ m.epoch.toNat = s.mbx.epoch ∧
    classDisabled s (sessionIssuer m.session x) r.code = false ∧ creditFree s (arrived r.code m x s) = true ∧
    r.issuers.allow s (sessionIssuer m.session x) x.roles = false) :=
  ⟨⟨0x0207, roleOnly owner, .anchorRotate⟩, by simp [rows, trustRows], ask 0x0207 [], { user with roles := 1 },
    modTrust (fun t => { t with sessions := [(1, { user with roles := 1 })] }) upkeep, by decide +kernel⟩

theorem met_trust_reports_give_what_the_table_lists :
    (Met { lanes := true, session := true, preLogin := true, enrolment := true } 0x0204 (fun e _ => e.payload.length = 0)) ∧
    (Met { enrolment := true, preLogin := true } 0x0205 (fun e t => e.payload.length = 16 && t.trust.anchor.isNone)) ∧
    (Met (roleOnly (maintainer + owner)) 0x0203 (fun e _ => e.payload.length = 0)) ∧
    (Met anyOrLanes 0x020E (fun e _ => e.payload.length = 0)) :=
  ⟨⟨ask 0x0204 ([]), user, upkeep, by decide +kernel⟩,
   ⟨ask 0x0205 (le 16 7), newcomer, factory, by decide +kernel⟩,
   ⟨ask 0x0203 ([]), user, upkeep, by decide +kernel⟩,
   ⟨ask 0x020E ([]), user, upkeep, by decide +kernel⟩⟩

theorem met_credentials_and_anchor_are_kept :
    (Met { enrolment := true, preLogin := true } 0x0206 (fun _ t => t.trust.anchor.isNone)) ∧
    (Met (roleOnly owner) 0x0207 (fun _ t => t.module.state = .maintenance && !t.trust.ownerLock)) ∧
    (Met { session := true } 0x0208 (fun e _ => hasBit e.roles 4 && nameOk (e.slice 0 32) && 1 ≤ e.field 32 1 && e.field 32 1 < 32 && (sealedAt e.payload 33).isSome)) ∧
    (Met (roleOnly owner) 0x0209 (fun e t => e.payload.length = 32 && (credentialByName t e.payload).any fun c => (Tbl.erase t.trust.credentials c.1).any fun k => hasBit k.2.roles 4)) :=
  ⟨⟨ask 0x0206 ([]), newcomer, factory, by decide +kernel⟩,
   ⟨ask 0x0207 ([]), user, upkeep, by decide +kernel⟩,
   ⟨ask 0x0208 (ascii "K" ++ le 31 0 ++ le 1 16 ++ le 2 28 ++ le 28 0 ++ le 1 0), user, upkeep, by decide +kernel⟩,
   ⟨ask 0x0209 (ascii "B" ++ le 31 0), user, upkeep, by decide +kernel⟩⟩

theorem met_sessions_and_contexts_are_managed :
    (Met { session := true } 0x0202 (fun e _ => e.payload.length = 2 && (e.field 0 2 = 0xFFFF || e.origin = some (e.field 0 2)))) ∧
    (Met { session := true } 0x0202 (fun e _ => e.payload.length = 2 && (e.field 0 2 = 0xFFFF || e.origin = some (e.field 0 2)))) ∧
    (Met { session := true } 0x0202 (fun e t => e.payload.length = 2 && e.field 0 2 != 0xFFFF && e.origin != some (e.field 0 2) && hasBit e.roles 4 && Tbl.has t.trust.sessions (e.field 0 2))) ∧
    (∃ (m : Msg) (x : Session) (s : State), framed 0x0201 m x (countAttempt m.session s) = true ∧
    (let r := received m x (countAttempt m.session s)
     tokenClass r (sessionIssuer m.session x) m.token.toNat = .fresh ∧ m.epoch.toNat = s.mbx.epoch ∧
       classDisabled r (sessionIssuer m.session x) 0x0201 = false ∧ r.trust.anchor.isSome = true ∧
       (64 ≤ sessionCount r + (argonEntries r).length ∨ 5 ≤ (argonEntries r).length ∧ loginBarred r (issuerIndex (sessionIssuer m.session x)) ((m.payload.take m.length.toNat).take 32) = false))) ∧
    (∃ (m : Msg) (x : Session) (s : State), arrives { preLogin := true, enrolment := true } 0x0201 m x (countAttempt m.session s) = true ∧
    (let r := received m x (countAttempt m.session s)
     r.trust.anchor.isSome = true ∧ sessionCount r + (argonEntries r).length < 64 ∧ (argonEntries r).length < 5)) ∧
    (Met (roleOnly owner) 0x020A (fun e t => (sealedAt e.payload 5).any (fun f => e.payload.length = f.next + 17 && e.field (f.next + 16) 1 < 32) && 1 ≤ e.field 0 1 && e.field 0 1 ≤ 3 &&
      (e.field 0 1 != 1 || e.field 1 4 < 28) && (freeContext t (e.field 0 1)).isSome)) ∧
    (Met (roleOnly owner) 0x020A (fun e t => (sealedAt e.payload 5).any (fun f => e.payload.length = f.next + 17 && e.field (f.next + 16) 1 < 32) && 1 ≤ e.field 0 1 && e.field 0 1 ≤ 3 &&
      (e.field 0 1 != 1 || e.field 1 4 < 28) && (freeContext t (e.field 0 1)).isSome)) ∧
    (Met (roleOnly owner) 0x020B (fun e t => e.payload.length = 2 && (Tbl.find t.trust.contexts (e.field 0 2)).any fun x => !(t.trust.ownerLock && x.purpose = 1 && x.binding < 4))) ∧
    (Met (roleOnly owner) 0x020B (fun e t => e.payload.length = 2 && (Tbl.find t.trust.contexts (e.field 0 2)).any fun x => !(t.trust.ownerLock && x.purpose = 1 && x.binding < 4))) ∧
    (Met (roleOnly owner) 0x020C (fun e _ => e.payload.length = 1 && e.field 0 1 ≤ 1)) ∧
    (Met (roleOnly owner) 0x020C (fun e _ => e.payload.length = 1 && e.field 0 1 ≤ 1)) ∧
    (Met (roleOnly owner) 0x020D (fun e t => e.payload.length = 0 && t.module.state = .maintenance && (t.trust.lull.tamper || t.trust.lull.powerLoss))) :=
  ⟨⟨ask 0x0202 (le 2 0xFFFF), user, upkeep, by decide +kernel⟩,
   ⟨ask 0x0202 (le 2 1), user, upkeep, by decide +kernel⟩,
   ⟨ask 0x0202 (le 2 2), user, upkeep, by decide +kernel⟩,
   ⟨ask 0x0201 [], { user with kind := .preLogin, credential := none, roles := 0 },
    modMbx (fun b => { b with queue := [2, 3, 4, 5, 6].map fun n => { waiting n with phase := .waits .argon, origin := some n, issuer := 67108864 + n } }) (modTrust (fun t => { t with sessions := [(1, { user with kind := .preLogin, credential := none, roles := 0 })] }) upkeep), by decide +kernel⟩,
   ⟨ask 0x0201 [], { user with kind := .preLogin, credential := none, roles := 0 },
    modTrust (fun t => { t with sessions := [(1, { user with kind := .preLogin, credential := none, roles := 0 })] }) upkeep, by decide +kernel⟩,
   ⟨ask 0x020A (le 1 2 ++ le 4 5 ++ le 2 28 ++ le 28 0 ++ le 16 0 ++ le 1 0), user, upkeep, by decide +kernel⟩,
   ⟨ask 0x020A (le 1 1 ++ le 4 27 ++ le 2 28 ++ le 28 0 ++ le 16 0 ++ le 1 31), user, upkeep, by decide +kernel⟩,
   ⟨ask 0x020B (le 2 0), user, modTrust (fun t => { t with contexts := [(0, ⟨.keyed, 1, 4, [], [], 0, 0, 0, 0⟩)] }) upkeep, by decide +kernel⟩,
   ⟨ask 0x020B (le 2 0), user, modTrust (fun t => { t with contexts := [(0, ⟨.live, 2, 4, [], [], 0, 0, 0, 0⟩)] }) upkeep, by decide +kernel⟩,
   ⟨ask 0x020C (le 1 0), user, upkeep, by decide +kernel⟩,
   ⟨ask 0x020C (le 1 1), user, upkeep, by decide +kernel⟩,
   ⟨ask 0x020D ([]), user, modTrust (fun t => { t with lull := { t.lull with tamper := true } }) upkeep, by decide +kernel⟩⟩

theorem met_module_reports_give_what_the_table_lists :
    (Met anyOrLanes 0x0101 (fun e _ => e.payload.length = 0)) ∧
    (Met anyOrLanes 0x0102 (fun e _ => e.payload.length = 0)) ∧
    (Met anyOrLanes 0x0107 (fun e _ => e.payload.length = 0)) ∧
    (∃ (s : State), (s.module.state = .proving ∨ s.module.state = .service ∨ s.module.state = .maintenance ∨ s.module.state = .lockout)) ∧
    (∃ (s : State), s.module.state = .halted) ∧
    (∃ (s : State), s.module.state = .stowed) ∧
    (∃ (t : Nat) (s : State), s.module.state = .booting ∧ s.module.lampTest = some t ∧ t + milli 400 ≤ s.time ∧ s.time < t + milli 600) ∧
    (∃ (n ms k : Nat), 1 ≤ n) :=
  ⟨⟨ask 0x0101 ([]), user, upkeep, by decide +kernel⟩,
   ⟨ask 0x0102 ([]), user, upkeep, by decide +kernel⟩,
   ⟨ask 0x0107 ([]), user, upkeep, by decide +kernel⟩,
   ⟨upkeep, Or.inr (Or.inr (Or.inl rfl))⟩,
   ⟨modModule (fun m => { m with state := .halted }) upkeep, rfl⟩,
   ⟨State.reset, rfl⟩,
   ⟨0, reach (milli 500) (modModule (fun m => { m with state := .booting, lampTest := some 0 }) State.reset), rfl, rfl, by decide +kernel, by decide +kernel⟩,
   ⟨3, 0, 2, by decide⟩⟩

theorem met_module_state_and_mailbox_are_commanded :
    (Met (roleOnly (operator + maintainer)) 0x0103 (fun e t => e.payload.length = 1 && e.field 0 1 = 3 && t.module.state = .maintenance && t.trust.anchor.isSome && !latchSet t && !t.module.bootLatch)) ∧
    (Met (roleOnly (operator + maintainer)) 0x0103 (fun e t => e.payload.length = 1 && e.field 0 1 = 4 && t.module.state = .service && standstill t && !activeAlone t)) ∧
    (Met (roleOnly (operator + maintainer)) 0x0103 (fun e t => e.payload.length = 1 && (e.field 0 1 = 3 || e.field 0 1 = 4) && (t.module.state != .service && t.module.state != .maintenance ||
      e.field 0 1 = 3 && (t.trust.anchor.isNone || latchSet t) || e.field 0 1 = 4 && (!standstill t || activeAlone t)))) ∧
    (Met (roleOnly (operator + maintainer)) 0x0104 (fun e t => e.payload.length = 1 && (e.field 0 1 = 0 || e.field 0 1 = 4) && (t.module.state != .service || standstill t) && !activeAlone t)) ∧
    (Met (roleOnly maintainer) 0x0105 (fun e _ => e.payload.length = 3 && (3 ≤ e.field 0 1 && e.field 0 1 ≤ 5 || 7 ≤ e.field 0 1 && e.field 0 1 ≤ 15) && e.field 1 1 ≤ 3 && e.field 2 1 ≤ 1)) ∧
    (Met (roleOnly maintainer) 0x0105 (fun e _ => e.payload.length = 3 && (3 ≤ e.field 0 1 && e.field 0 1 ≤ 5 || 7 ≤ e.field 0 1 && e.field 0 1 ≤ 15) && e.field 1 1 ≤ 3 && e.field 2 1 ≤ 1)) ∧
    (Met anyOrLanes 0x0106 (fun e _ => e.payload.length = 8 && (e.field 0 4 = 0 || e.field 0 4 = e.issuer || anyRole e.roles (maintainer + owner)))) :=
  ⟨⟨ask 0x0103 (le 1 3), user, upkeep, by decide +kernel⟩,
   ⟨ask 0x0103 (le 1 4), user, modSafety (fun x => { x with standstill := true }) service, by decide +kernel⟩,
   ⟨ask 0x0103 (le 1 3), user, State.reset |> modModule (fun m => { m with state := .service, supplied := true }) |> modTrust (fun t => { t with anchor := upkeep.trust.anchor, credentials := upkeep.trust.credentials, sessions := upkeep.trust.sessions, lull := { t.lull with tamper := true } }), by decide +kernel⟩,
   ⟨ask 0x0104 (le 1 4), user, upkeep, by decide +kernel⟩,
   ⟨ask 0x0105 (le 1 7 ++ le 1 3 ++ le 1 0), user, upkeep, by decide +kernel⟩,
   ⟨ask 0x0105 (le 1 15 ++ le 1 1 ++ le 1 1), user, upkeep, by decide +kernel⟩,
   ⟨ask 0x0106 (le 4 0 ++ le 4 9), user, upkeep, by decide +kernel⟩⟩

theorem met_lane_reports_give_what_the_table_lists :
    (Met anyOrLanes 0x0401 (fun e _ => e.payload.length = 0)) ∧
    (Met anyOrLanes 0x0402 (fun e _ => e.payload.length = 1 && e.field 0 1 < 3)) ∧
    (Met { session := true } 0x0403 (fun e _ => e.payload.length = 4 && 1 ≤ e.field 2 2 && e.field 2 2 ≤ 1024)) ∧
    (Met { session := true } 0x0403 (fun e _ => e.payload.length = 4 && 1 ≤ e.field 2 2 && e.field 2 2 ≤ 1024)) :=
  ⟨⟨ask 0x0401 ([]), user, upkeep, by decide +kernel⟩,
   ⟨ask 0x0402 (le 1 2), user, upkeep, by decide +kernel⟩,
   ⟨ask 0x0403 (le 2 0 ++ le 2 1024), user, upkeep, by decide +kernel⟩,
   ⟨ask 0x0403 (le 2 1023 ++ le 2 1), user, upkeep, by decide +kernel⟩⟩

theorem met_lanes_are_commanded :
    (Met (roleOnly maintainer) 0x0404 (fun e t => e.payload.length = 2 && e.field 0 1 < 3 && e.field 1 1 < 2 && t.module.state = .maintenance && t.pair.role != .active && maskCount (votingMask t) = 3 &&
      (laneOf t (Lane.at (e.field 0 1))).state = .voting)) ∧
    (Met (roleOnly maintainer) 0x0404 (fun e t => e.payload.length = 2 && e.field 0 1 < 3 && e.field 1 1 < 2 && t.module.state = .maintenance && t.pair.role != .active && maskCount (votingMask t) = 3 &&
      (laneOf t (Lane.at (e.field 0 1))).state = .voting)) ∧
    (Met (roleOnly maintainer) 0x0404 (fun e t => e.payload.length = 2 && e.field 0 1 < 3 && e.field 1 1 < 2 && t.module.state = .maintenance && t.pair.role != .active && maskCount (votingMask t) < 3)) ∧
    (Met (roleOnly maintainer) 0x0405 (fun e t => e.payload.length = 1 && e.field 0 1 < 3 && ((laneOf t (Lane.at (e.field 0 1))).state = .isolated || (laneOf t (Lane.at (e.field 0 1))).state = .retired) &&
      t.module.state != .lockout && t.prog.state = .running && t.prog.stopping.isNone)) ∧
    (Met (roleOnly maintainer) 0x0405 (fun e t => e.payload.length = 1 && e.field 0 1 < 3 && ((laneOf t (Lane.at (e.field 0 1))).state = .isolated || (laneOf t (Lane.at (e.field 0 1))).state = .retired) &&
      t.module.state != .lockout && t.prog.state = .running && t.prog.stopping.isNone)) ∧
    (Met (roleOnly maintainer) 0x0405 (fun e t => e.payload.length = 1 && e.field 0 1 < 3 && (laneOf t (Lane.at (e.field 0 1))).state != .isolated && (laneOf t (Lane.at (e.field 0 1))).state != .retired)) ∧
    (Met (roleOnly maintainer) 0x0406 (fun e t => e.payload.length = 2 && 20 ≤ e.field 0 2 && e.field 0 2 ≤ 200 && !programRuns t && (translatedImage t t.prog.slot).all fun i => (misfit t i (slotOf t t.prog.slot).digest (e.field 0 2)).isNone)) ∧
    (Met (roleOnly maintainer) 0x0406 (fun e t => e.payload.length = 2 && 20 ≤ e.field 0 2 && e.field 0 2 ≤ 200 && !programRuns t && (translatedImage t t.prog.slot).all fun i => (misfit t i (slotOf t t.prog.slot).digest (e.field 0 2)).isNone)) ∧
    (Met (roleOnly maintainer) 0x0407 (fun e _ => e.payload.length = 0)) ∧
    (Met (roleOnly maintainer) 0x0408 (fun e _ => e.payload.length = 1 && e.field 0 1 ≤ 3)) :=
  ⟨⟨ask 0x0404 (le 1 2 ++ le 1 1), user, modVoter (fun v => { v with lanes := v.lanes.map fun _ x => { x with state := .voting } }) upkeep, by decide +kernel⟩,
   ⟨ask 0x0404 (le 1 0 ++ le 1 0), user, modVoter (fun v => { v with lanes := v.lanes.map fun _ x => { x with state := .voting } }) upkeep, by decide +kernel⟩,
   ⟨ask 0x0404 (le 1 2 ++ le 1 1), user, modLane .a (fun x => { x with state := .isolated }) upkeep, by decide +kernel⟩,
   ⟨ask 0x0405 (le 1 1), user, modProg (fun p => { p with state := .running }) (modLane .b (fun x => { x with state := .isolated }) upkeep), by decide +kernel⟩,
   ⟨ask 0x0405 (le 1 2), user, modProg (fun p => { p with state := .running }) (modLane .c (fun x => { x with state := .retired }) upkeep), by decide +kernel⟩,
   ⟨ask 0x0405 (le 1 1), user, upkeep, by decide +kernel⟩,
   ⟨ask 0x0406 (le 2 20), user, upkeep, by decide +kernel⟩,
   ⟨ask 0x0406 (le 2 200), user, upkeep, by decide +kernel⟩,
   ⟨ask 0x0407 ([]), user, upkeep, by decide +kernel⟩,
   ⟨ask 0x0408 (le 1 3), user, upkeep, by decide +kernel⟩⟩

theorem met_program_reports_give_what_the_table_lists :
    (Met anyOrLanes 0x0301 (fun e _ => e.payload.length = 0)) ∧
    (Met { session := true } 0x0309 (fun e _ => e.payload.length = 4)) ∧
    (Met { session := true } 0x030A (fun e t => e.payload.length = 16 && programRuns t && t.prog.stopping.isNone && (runningImage t).any fun i => (i.byIdentity (e.field 0 8)).any fun y =>
        1 ≤ e.field 12 4 && e.field 8 4 + e.field 12 4 ≤ y.2.leaves && (taskRec i y.2.owner).isSome && !y.2.constant)) :=
  ⟨⟨ask 0x0301 ([]), user, running, by decide +kernel⟩,
   ⟨ask 0x0309 (le 2 0 ++ le 2 512), user, running, by decide +kernel⟩,
   ⟨ask 0x030A (le 8 9 ++ le 4 0 ++ le 4 1), user, running, by decide +kernel⟩⟩

theorem met_program_is_started_and_stopped :
    (Met (roleOnly (operator + maintainer)) 0x0303 (fun e t => e.payload.length = 2 && e.field 0 1 ≤ 1 && (t.module.state = .service || t.module.state = .maintenance) && !latchSet t && !programRuns t && t.prog.stopping.isNone &&
      !(t.pair.enabled && t.pair.role = .standby) && (slotNamed (e.field 1 1) t.prog.slot).any fun n => (translatedImage t n).any fun i =>
        !belowFloor t (slotOf t n) && bindingsResolve t i && (misfit t i (slotOf t n).digest t.voter.staggerSet).isNone &&
        (!t.pair.enabled || budgetFits i t.prog.forces && supervisionFits t i))) ∧
    (Met (roleOnly (operator + maintainer)) 0x0304 (fun e t => e.payload.length = 0 && programRuns t && t.prog.stopping.isNone && t.pair.role != .standby && (t.module.state != .service || standstill t))) ∧
    (Met (roleOnly maintainer) 0x0305 (fun e t => e.payload.length = 1 && e.field 0 1 ≤ 1 && t.prog.state = .running && t.prog.stopping.isNone && t.pair.role != .standby && (runningImage t).any fun a =>
        (translatedImage t (1 - t.prog.slot)).any fun b => !(safetyChanged a b && !(t.module.state = .maintenance && standstill t)) &&
          !belowFloor t (slotOf t (1 - t.prog.slot)) && bindingsResolve t b)) ∧
    (Met (roleOnly maintainer) 0x0306 (fun e t => e.payload.length = 0 && (pendingRecut t).any fun r => !r.guarding && t.time < programInstant t r.guardUs)) :=
  ⟨⟨ask 0x0303 (le 1 0 ++ le 1 0xFF), user, loaded, by
    rw [Bool.and_eq_true]
    refine ⟨by decide +kernel, ?_⟩
    generalize ht : taken 0x0303 _ _ _ = t
    have hp : t.prog = loaded.prog := by rw [← ht, taken_prog]
    have hm : t.module = loaded.module := by rw [← ht, taken_module]
    have hv : t.voter = loaded.voter := by rw [← ht, taken_voter]
    have hs : slotOf t 0 = smallSlot := by unfold slotOf; rw [hp]; rfl
    have hd : t.prog.cache = translations := by rw [hp]; rfl
    have hw : t.module.firmwareSlot = 0 ∧ t.module.versions = [] := by rw [hm]; exact ⟨rfl, rfl⟩
    generalize hen : entered 0x0303 _ _ _ = e
    have e1 : e.payload.length = 2 := by rw [← hen]; decide +kernel
    have e2 : e.field 0 1 = 0 := by rw [← hen]; decide +kernel
    have e3 : e.field 1 1 = 0xFF := by rw [← hen]; decide +kernel
    have hn : slotNamed 0xFF t.prog.slot = some 0 := by
      rw [hp]; decide +kernel
    clear hen
    beta_reduce
    have hst : t.voter.staggerSet = 40 := by rw [hv]; rfl
    rw [e1, e2, e3, hn, Option.any_some, loaded_translated hd hw 0 hs, Option.any_some, hst, hs, show smallSlot.digest = [1] from rfl, loaded_fits hd hw, ← ht]
    decide +kernel⟩,
   ⟨ask 0x0304 ([]), user, running, by decide +kernel⟩,
   ⟨ask 0x0305 (le 1 0), user, running, by
    rw [Bool.and_eq_true]
    refine ⟨by decide +kernel, ?_⟩
    generalize ht : taken 0x0305 _ _ _ = t
    have hp : t.prog = running.prog := by rw [← ht, taken_prog]
    have hm : t.module = loaded.module := by rw [← ht, taken_module]; rfl
    have hs : slotOf t 1 = smallSlot := by unfold slotOf; rw [hp]; rfl
    have hd : t.prog.cache = translations := by rw [hp]; rfl
    have hw : t.module.firmwareSlot = 0 ∧ t.module.versions = [] := by rw [hm]; exact ⟨rfl, rfl⟩
    generalize hen : entered 0x0305 _ _ _ = e
    have e1 : e.payload.length = 1 := by rw [← hen]; decide +kernel
    have e2 : e.field 0 1 = 0 := by rw [← hen]; decide +kernel
    clear hen
    beta_reduce
    have h1 : 1 - t.prog.slot = 1 := by rw [hp]; rfl
    have hr : runningImage t = some small := by unfold runningImage slotOf; rw [hp]; rfl
    rw [e1, e2, h1, hr, Option.any_some, loaded_translated hd hw 1 hs, Option.any_some, ← ht]
    decide +kernel⟩,
   ⟨ask 0x0306 ([]), user, modProg (fun p => { p with state := .recutPending, recut := some { slot := 1, switchUs := 100000, guardUs := 100000 } }) running, by decide +kernel⟩⟩

theorem met_images_and_forces_are_managed :
    (Met (roleOnly (maintainer + safety)) 0x0307 (fun e t => 18 ≤ e.payload.length && 1 ≤ e.field 16 2 && e.field 16 2 ≤ 64 && e.payload.length = 18 + e.field 16 2 && 1 ≤ e.field 12 4 && t.prog.state != .empty && t.pair.role != .standby &&
      (runningImage t).any fun i => (i.byIdentity (e.field 0 8)).any fun p => p.2.forcible && e.field 8 4 + e.field 12 4 ≤ p.2.leaves &&
        forceRole p.2.safe e.roles && forceState t p.2.safe && forceValueOk (runLeaves i p.2 (e.field 8 4) (e.field 12 4)) (e.payload.drop 18))) ∧
    (Met (roleOnly (maintainer + safety)) 0x0308 (fun e t => e.payload.length = 12 && t.pair.role != .standby && (t.module.state = .service || t.module.state = .maintenance) && (t.prog.forces.filter fun f => f.2.identity = e.field 0 8 &&
        (e.field 8 4 = 0xFFFFFFFF || f.2.first = e.field 8 4)).all fun f => forceRole f.2.safety e.roles && forceState t f.2.safety)) ∧
    (Met (roleOnly (maintainer + safety)) 0x0308 (fun e t => e.payload.length = 12 && t.pair.role != .standby && (t.module.state = .service || t.module.state = .maintenance) && (t.prog.forces.filter fun f => f.2.identity = e.field 0 8 &&
        (e.field 8 4 = 0xFFFFFFFF || f.2.first = e.field 8 4)).all fun f => forceRole f.2.safety e.roles && forceState t f.2.safety)) ∧
    (Met (roleOnly maintainer) 0x0302 (fun e t => 20 ≤ e.payload.length && e.field 1 3 = 0 && (slotNamed (e.field 0 1) (1 - t.prog.slot)).any fun n => chunkOk t n (e.field 4 8) (e.field 12 8) (e.payload.length - 20) && !slotBusy t n)) ∧
    (Met (roleOnly maintainer) 0x0302 (fun e t => 20 ≤ e.payload.length && e.field 1 3 = 0 && (slotNamed (e.field 0 1) (1 - t.prog.slot)).any fun n => chunkOk t n (e.field 4 8) (e.field 12 8) (e.payload.length - 20) && !slotBusy t n)) ∧
    (Met (roleOnly maintainer) 0x030B (fun e t => e.payload.length = 1 && e.field 0 1 ≤ 1 && !slotBusy t (e.field 0 1) && !(t.prog.cutting.any fun c => c.1 = e.field 0 1))) ∧
    (Met (roleOnly maintainer) 0x030B (fun e t => e.payload.length = 1 && e.field 0 1 ≤ 1 && !slotBusy t (e.field 0 1) && !(t.prog.cutting.any fun c => c.1 = e.field 0 1))) :=
  ⟨⟨ask 0x0307 (le 8 9 ++ le 4 0 ++ le 4 1 ++ le 2 4 ++ le 4 77), user, running, by decide +kernel⟩,
   ⟨ask 0x0308 (le 8 9 ++ le 4 0xFFFFFFFF), user, modProg (fun p => { p with forces := [(0, ⟨9, 0, 1, false, 0, 0, le 4 1⟩)] }) running, by decide +kernel⟩,
   ⟨ask 0x0308 (le 8 0 ++ le 4 0), user, modProg (fun p => { p with forces := [(0, ⟨9, 0, 1, false, 0, 0, le 4 1⟩)] }) running, by decide +kernel⟩,
   ⟨ask 0x0302 (le 1 1 ++ le 3 0 ++ le 8 9 ++ le 8 0 ++ le 9 0), user, running, by decide +kernel⟩,
   ⟨ask 0x0302 (le 1 0xFF ++ le 3 0 ++ le 8 9 ++ le 8 0 ++ le 1 0), user, modMbx (fun b => { b with queue := [{ waiting 5 with phase := .holds .flash }], nextId := 6 }) running, by decide +kernel⟩,
   ⟨ask 0x030B (le 1 1), user, running, by decide +kernel⟩,
   ⟨ask 0x030B (le 1 1), user, modMbx (fun b => { b with queue := [{ waiting 5 with phase := .holds .flash }], nextId := 6 }) running, by decide +kernel⟩⟩

theorem met_pair_reports_give_what_the_table_lists :
    (Met anyOrLanes 0x0501 (fun e _ => e.payload.length = 0)) ∧
    (Met anyOrLanes 0x0502 (fun e _ => e.payload.length = 1 && (e.field 0 1 = 0 || e.field 0 1 = 1))) ∧
    (Met anyOrLanes 0x0502 (fun e _ => e.payload.length = 1 && (e.field 0 1 = 0 || e.field 0 1 = 1))) ∧
    (Met { session := true } 0x0506 (fun e _ => e.payload.length = 1 && e.field 0 1 ≤ 1)) ∧
    (Met { session := true } 0x0506 (fun e _ => e.payload.length = 1 && e.field 0 1 ≤ 1)) ∧
    (Met anyOrLanes 0x0507 (fun e _ => e.payload.length = 0)) :=
  ⟨⟨ask 0x0501 ([]), user, upkeep, by decide +kernel⟩,
   ⟨ask 0x0502 (le 1 0), user, upkeep, by decide +kernel⟩,
   ⟨ask 0x0502 (le 1 1), user, upkeep, by decide +kernel⟩,
   ⟨ask 0x0506 (le 1 0), user, running, by decide +kernel⟩,
   ⟨ask 0x0506 (le 1 1), user, upkeep, by decide +kernel⟩,
   ⟨ask 0x0507 ([]), user, upkeep, by decide +kernel⟩⟩

theorem met_pair_is_commanded :
    (Met (roleOnly maintainer) 0x0503 (fun e t => e.payload.length = 32 && e.field 0 1 ≤ 1 && (e.field 17 1 < 16 || e.field 17 1 = 0xFF) && 10 ≤ e.field 18 1 && e.field 18 1 ≤ 60 && e.field 29 3 = 0 && !programRuns t)) ∧
    (Met (roleOnly maintainer) 0x0503 (fun e t => e.payload.length = 32 && e.field 0 1 ≤ 1 && (e.field 17 1 < 16 || e.field 17 1 = 0xFF) && 10 ≤ e.field 18 1 && e.field 18 1 ≤ 60 && e.field 29 3 = 0 && !programRuns t)) ∧
    (Met (roleOnly (operator + maintainer)) 0x0504 (fun e t => e.payload.length = 0 && t.pair.enabled && t.pair.role = .active && (pendingRecut t).isNone && t.prog.stopping.isNone)) ∧
    (Met (roleOnly maintainer) 0x0505 (fun e t => e.payload.length = 0 && t.pair.enabled && t.pair.present && !lockoutInPair t)) ∧
    (Met (roleOnly maintainer) 0x0505 (fun e t => e.payload.length = 0 && t.pair.enabled && t.pair.present && !lockoutInPair t)) :=
  ⟨⟨ask 0x0503 (le 1 1 ++ le 16 0 ++ le 1 0xFF ++ le 1 10 ++ le 13 0), user, upkeep, by decide +kernel⟩,
   ⟨ask 0x0503 (le 1 0 ++ le 16 0 ++ le 1 15 ++ le 1 60 ++ le 13 0), user, upkeep, by decide +kernel⟩,
   ⟨ask 0x0504 ([]), user, modPair (fun p => { p with enabled := true, role := .active, present := true }) upkeep, by decide +kernel⟩,
   ⟨ask 0x0505 ([]), user, modPair (fun p => { p with enabled := true, role := .active, present := true }) upkeep, by decide +kernel⟩,
   ⟨ask 0x0505 ([]), user, modPair (fun p => { p with enabled := true, role := .standby, present := true }) upkeep, by decide +kernel⟩⟩

theorem met_safety_reports_give_what_the_table_lists :
    (Met anyOrLanes 0x0601 (fun e _ => e.payload.length = 0)) ∧
    (Met (roleOnly (maintainer + safety + owner)) 0x0606 (fun e _ => e.payload.length = 10 && 1 ≤ e.field 8 2 && e.field 8 2 ≤ 5)) ∧
    (Met (roleOnly (maintainer + safety + owner)) 0x0606 (fun e _ => e.payload.length = 10 && 1 ≤ e.field 8 2 && e.field 8 2 ≤ 5)) :=
  ⟨⟨ask 0x0601 ([]), user, upkeep, by decide +kernel⟩,
   ⟨ask 0x0606 (le 8 0 ++ le 2 5), user, upkeep, by decide +kernel⟩,
   ⟨ask 0x0606 (le 8 1 ++ le 2 1), user, upkeep, by decide +kernel⟩⟩

theorem met_safety_is_commanded :
    (Met (roleOnly safety) 0x0602 (fun _ t => (t.module.state = .maintenance || t.module.state = .lockout && (lockoutCause t = 0x15 || lockoutCause t = 0x21)) && standstill t)) ∧
    (Met (roleOnly safety) 0x0603 (fun e t => e.payload.length = 8 && (t.module.state = .maintenance || t.module.state = .lockout && (lockoutCause t = 0x15 || lockoutCause t = 0x21)) && standstill t &&
      t.safety.staged.any fun b => e.field 0 8 = paramCrc b)) ∧
    (Met (roleOrLanes safety) 0x0604 (fun e _ => e.payload.length = 8)) ∧
    (Met (roleOnly safety) 0x0605 (fun e t => e.payload.length = 0 && issuerKind e.issuer = 2 && t.module.state = .lockout && standstill t && !causePresent t && t.safety.arming.isNone)) ∧
    (Met (roleOrLanes safety) 0x0607 (fun e _ => e.payload.length = 1)) ∧
    (Met (roleOnly maintainer) 0x0608 (fun e _ => e.payload.length = 0)) :=
  ⟨⟨ask 0x0602 ([]), user, modSafety (fun x => { x with standstill := true }) upkeep, by decide +kernel⟩,
   ⟨ask 0x0603 (le 8 (paramCrc [1])), user, modSafety (fun x => { x with standstill := true, staged := some [1] }) upkeep, by decide +kernel⟩,
   ⟨ask 0x0604 (le 8 7), user, service, by decide +kernel⟩,
   ⟨ask 0x0605 ([]), user, modSafety (fun x => { x with standstill := true }) (modModule (fun m => { m with state := .lockout }) upkeep), by decide +kernel⟩,
   ⟨ask 0x0607 (le 1 255), user, upkeep, by decide +kernel⟩,
   ⟨ask 0x0608 ([]), user, upkeep, by decide +kernel⟩⟩

theorem met_window_function_permits_only_beside_an_open_window :
    (∃ (s : State) (i : Nat), hasBit (outputField (params s) i 2 1) 3 = true ∧ gateOf s i = true) ∧
    (∃ (s : State) (i : Nat) (l : Lane), pairOn s i l = true) :=
  ⟨⟨besideWindow, 0, by decide +kernel, by decide +kernel⟩,
   ⟨modOutput 0 (fun o => { o with commanded := 1, gates := 1 }) besideWindow, 0, .a, by decide +kernel⟩⟩

theorem met_position_reports_give_what_the_table_lists :
    (Met anyOrLanes 0x0701 (fun e _ => e.payload.length = 0)) ∧
    (Met anyOrLanes 0x0704 (fun e t => e.payload.length = 12 && e.field 8 4 < 1000000000 && markRecent t (markInstant e.payload) && (tickAt t (markInstant e.payload)).isSome)) ∧
    (Met anyOrLanes 0x0705 (fun e _ => e.payload.length = 3 && 1 ≤ e.field 1 2 && e.field 0 1 + e.field 1 2 ≤ 256)) ∧
    (Met anyOrLanes 0x0705 (fun e _ => e.payload.length = 3 && 1 ≤ e.field 1 2 && e.field 0 1 + e.field 1 2 ≤ 256)) ∧
    (Met anyOrLanes 0x0707 (fun e _ => e.payload.length = 0)) :=
  ⟨⟨ask 0x0701 ([]), user, upkeep, by decide +kernel⟩,
   ⟨ask 0x0704 (le 8 0 ++ le 4 0), user, modPos (fun p => { p with history := [⟨0, 5, 0, 1, .invalid, true⟩] }) upkeep, by decide +kernel⟩,
   ⟨ask 0x0705 (le 1 0 ++ le 2 256), user, upkeep, by decide +kernel⟩,
   ⟨ask 0x0705 (le 1 255 ++ le 2 1), user, upkeep, by decide +kernel⟩,
   ⟨ask 0x0707 ([]), user, upkeep, by decide +kernel⟩⟩

theorem met_position_and_cues_are_commanded :
    (Met (roleOnly safety) 0x0702 (fun e t => e.payload.length = 32 && e.field 0xE 2 = 0 && (positionConfig e.payload).sense < 4 && (positionConfig e.payload).axis < 8 && t.module.state = .maintenance && standstill t)) ∧
    (Met (roleOrLanes maintainer) 0x0703 (fun e _ => e.payload.length = 32 && e.field 8 4 < 1000000000 && e.field 12 1 ≤ 3 && e.field 13 3 = 0 && e.field 16 4 ≤ 100000)) ∧
    (Met (roleOnly maintainer) 0x0706 (fun e _ => e.payload.length = 2 && e.field 1 1 ≤ 1)) ∧
    (Met (roleOnly maintainer) 0x0706 (fun e _ => e.payload.length = 2 && e.field 1 1 ≤ 1)) :=
  ⟨⟨ask 0x0702 (le 2 100 ++ le 2 100 ++ le 4 90000 ++ le 4 90000 ++ le 1 0 ++ le 1 0 ++ le 18 0), user, modSafety (fun x => { x with standstill := true }) upkeep, by decide +kernel⟩,
   ⟨ask 0x0703 (le 8 0 ++ le 4 0 ++ le 1 3 ++ le 3 0 ++ le 4 100000 ++ le 8 0 ++ le 4 0), user, modPos (fun p => { p with history := [⟨0, 5, 0, 1, .invalid, true⟩] }) upkeep, by decide +kernel⟩,
   ⟨ask 0x0706 (le 1 255 ++ le 1 0), user, upkeep, by decide +kernel⟩,
   ⟨ask 0x0706 (le 1 0 ++ le 1 1), user, upkeep, by decide +kernel⟩⟩

theorem met_signal_reports_give_what_the_table_lists :
    (Met anyOrLanes 0x0801 (fun e _ => e.payload.length = 3 && 1 ≤ e.field 1 2 && e.field 0 1 + e.field 1 2 ≤ 128)) ∧
    (Met anyOrLanes 0x0801 (fun e _ => e.payload.length = 3 && 1 ≤ e.field 1 2 && e.field 0 1 + e.field 1 2 ≤ 128)) ∧
    (Met anyOrLanes 0x0807 (fun e _ => e.payload.length = 1 && e.field 0 1 < 128)) :=
  ⟨⟨ask 0x0801 (le 1 0 ++ le 2 128), user, upkeep, by decide +kernel⟩,
   ⟨ask 0x0801 (le 1 127 ++ le 2 1), user, upkeep, by decide +kernel⟩,
   ⟨ask 0x0807 (le 1 127), user, upkeep, by decide +kernel⟩⟩

theorem met_filter_channels_are_commanded :
    (Met (roleOnly maintainer) 0x0802 (fun e _ => channelConfigOk e.payload)) ∧
    (Met (roleOrLanes maintainer) 0x0803 (fun e t => 1 ≤ e.field 2 2 && e.field 2 2 ≤ 256 && e.field 1 1 ≤ 2 && e.payload.length = 4 + 3 * e.field 2 2 && e.field 0 1 < 128 && (chanOf t (e.field 0 1)).enabled)) ∧
    (Met (roleOrLanes maintainer) 0x0804 (fun e t => e.payload.length = 4 && 1 ≤ e.field 2 2 && e.field 2 2 ≤ 4096 && e.field 0 1 < 128 && (chanOf t (e.field 0 1)).enabled && e.clear [(1, 1)])) ∧
    (Met (roleOrLanes maintainer) 0x0806 (fun e t => e.payload.length = 2 && e.field 1 1 ≤ 1 && e.field 0 1 < 128 && (chanOf t (e.field 0 1)).enabled)) ∧
    (Met (roleOnly maintainer) 0x0805 (fun e t => e.payload.length = 2 && e.field 0 1 < 128 && e.field 1 1 = 1 && (chanOf t (e.field 0 1)).configured && !(chanOf t (e.field 0 1)).enabled)) ∧
    (Met (roleOnly maintainer) 0x0805 (fun e t => e.payload.length = 2 && e.field 0 1 < 128 && e.field 1 1 = 0 && (chanOf t (e.field 0 1)).enabled)) :=
  ⟨⟨ask 0x0802 (le 1 127 ++ le 1 9 ++ le 1 64 ++ le 1 0 ++ le 2 20000 ++ le 2 3 ++ le 2 0 ++ le 1 0 ++ le 1 0 ++ le 2 0xFFFF ++ le 2 1 ++ le 1 0 ++ le 3 0 ++ le 3 5), user, upkeep, by decide +kernel⟩,
   ⟨ask 0x0803 (le 1 0 ++ le 1 0 ++ le 2 1 ++ le 3 5), user, modChan 0 (fun x => { x with enabled := true }) upkeep, by decide +kernel⟩,
   ⟨ask 0x0804 (le 1 127 ++ le 1 0 ++ le 2 4096), user, modChan 127 (fun x => { x with enabled := true, staged := some ⟨0, [1]⟩ }) upkeep, by decide +kernel⟩,
   ⟨ask 0x0806 (le 1 0 ++ le 1 1), user, modChan 0 (fun x => { x with enabled := true, config := { x.config with alternate := 4 } }) upkeep, by decide +kernel⟩,
   ⟨ask 0x0805 (le 1 0 ++ le 1 1), user, modChan 0 (fun x => { x with configured := true }) upkeep, by decide +kernel⟩,
   ⟨ask 0x0805 (le 1 0 ++ le 1 0), user, modChan 0 (fun x => { x with configured := true, enabled := true }) upkeep, by decide +kernel⟩⟩

theorem met_network_reports_give_what_the_table_lists :
    (Met anyOrLanes 0x0901 (fun e _ => e.payload.length = 0)) ∧
    (Met anyOrLanes 0x0903 (fun e _ => e.payload.length = 1 && e.field 0 1 < 32)) ∧
    (Met { session := true } 0x0906 (fun e _ => e.payload.length = 5 && e.field 0 1 ≤ 1 && 1 ≤ e.field 3 2 && e.field 3 2 ≤ 256)) ∧
    (Met { session := true } 0x0906 (fun e _ => e.payload.length = 5 && e.field 0 1 ≤ 1 && 1 ≤ e.field 3 2 && e.field 3 2 ≤ 256)) ∧
    (Met anyOrLanes 0x090A (fun e _ => e.payload.length = 4 && 1 ≤ e.field 2 2 && e.field 2 2 ≤ 64 && e.field 0 2 + e.field 2 2 ≤ 2048)) ∧
    (Met anyOrLanes 0x090A (fun e _ => e.payload.length = 4 && 1 ≤ e.field 2 2 && e.field 2 2 ≤ 64 && e.field 0 2 + e.field 2 2 ≤ 2048)) :=
  ⟨⟨ask 0x0901 ([]), user, upkeep, by decide +kernel⟩,
   ⟨ask 0x0903 (le 1 31), user, upkeep, by decide +kernel⟩,
   ⟨ask 0x0906 (le 1 0 ++ le 2 0 ++ le 2 256), user, upkeep, by decide +kernel⟩,
   ⟨ask 0x0906 (le 1 1 ++ le 2 0 ++ le 2 1), user, upkeep, by decide +kernel⟩,
   ⟨ask 0x090A (le 2 0 ++ le 2 64), user, upkeep, by decide +kernel⟩,
   ⟨ask 0x090A (le 2 2047 ++ le 2 1), user, upkeep, by decide +kernel⟩⟩

theorem met_fabric_is_commanded :
    (Met (roleOnly maintainer) 0x0902 (fun e t => let b := e.payload
    let n := (b.length - 26) / 4
    let vlans := (List.range n).map fun k => (e.field (26 + 4 * k) 2, e.field (28 + 4 * k) 1)
    30 ≤ b.length && b.length = 26 + 4 * n && n ≤ 256 && e.field 0 1 < 28 && e.field 1 1 ≤ 1 && rateOk (e.field 0 1) (e.field 2 1) && e.field 3 1 ≤ 1 && 1 ≤ e.field 4 2 && e.field 4 2 ≤ 4094 &&
      e.field 6 1 ≤ 7 && ((List.range 8).map fun c => e.field (10 + 2 * c) 2).all (fun l => 4 ≤ l && l ≤ 256) && vlans.all (fun v => 1 ≤ v.1 && v.1 ≤ 4094 && v.2 ≤ 1) &&
      (vlansInUse t (e.field 0 1) (vlans.map Prod.fst)).length ≤ 256 && t.pair.role != .standby && e.clear ((7, 1) :: (List.range n).map fun k => (29 + 4 * k, 1)))) ∧
    (Met (roleOnly maintainer) 0x0904 (fun e t => e.payload.length = 12 && 1 ≤ e.field 6 2 && e.field 6 2 ≤ 4094 && t.pair.role != .standby)) ∧
    (Met (roleOnly maintainer) 0x0904 (fun e t => e.payload.length = 12 && 1 ≤ e.field 6 2 && e.field 6 2 ≤ 4094 && t.pair.role != .standby)) ∧
    (Met (roleOnly maintainer) 0x0905 (fun e t => e.payload.length = 8 && t.pair.role != .standby && (pinnedEntry t (macField e 0) (e.field 6 2)).any Pinned.manual)) ∧
    (Met (roleOnly maintainer) 0x0907 (fun e _ => e.payload.length = 1 && (e.field 0 1 < 32 || e.field 0 1 = 0xFF))) ∧
    (Met (roleOnly maintainer) 0x0907 (fun e _ => e.payload.length = 1 && (e.field 0 1 < 32 || e.field 0 1 = 0xFF))) ∧
    (Met (roleOnly maintainer) 0x090B (fun e t => let ports := ((List.range 32).filter (hasBit (e.field 19 4))).length
    e.payload.length = 26 && t.pair.role != .standby && (e.field 1 1 = 1 && (e.field 2 1 = 1 || e.field 2 1 = 2) || e.field 1 1 = 2 && 1 ≤ ports && ports ≤ 4 ||
      e.field 1 1 = 3 && 1 ≤ ports && 2 ≤ e.field 23 1 && e.field 23 1 ≤ 32 && 1 ≤ e.field 24 2 && e.field 24 2 ≤ 10000))) ∧
    (Met (roleOnly maintainer) 0x090B (fun e t => let ports := ((List.range 32).filter (hasBit (e.field 19 4))).length
    e.payload.length = 26 && t.pair.role != .standby && (e.field 1 1 = 1 && (e.field 2 1 = 1 || e.field 2 1 = 2) || e.field 1 1 = 2 && 1 ≤ ports && ports ≤ 4 ||
      e.field 1 1 = 3 && 1 ≤ ports && 2 ≤ e.field 23 1 && e.field 23 1 ≤ 32 && 1 ≤ e.field 24 2 && e.field 24 2 ≤ 10000))) ∧
    (Met (roleOnly maintainer) 0x090B (fun e t => let ports := ((List.range 32).filter (hasBit (e.field 19 4))).length
    e.payload.length = 26 && t.pair.role != .standby && (e.field 1 1 = 1 && (e.field 2 1 = 1 || e.field 2 1 = 2) || e.field 1 1 = 2 && 1 ≤ ports && ports ≤ 4 ||
      e.field 1 1 = 3 && 1 ≤ ports && 2 ≤ e.field 23 1 && e.field 23 1 ≤ 32 && 1 ≤ e.field 24 2 && e.field 24 2 ≤ 10000))) ∧
    (Met (roleOnly maintainer) 0x090C (fun e t => e.payload.length = 19 + 8 * e.field 1 2 && e.field 0 1 < 32 && e.field 15 4 < 1000000000 && t.pair.role != .standby && e.clear ((List.range (e.field 1 2)).map fun k => (20 + 8 * k, 3)))) ∧
    (Met (roleOrLanes maintainer) 0x090D (fun e _ => e.payload.length = 4 + e.field 2 2 && e.field 0 1 < 28 && e.field 1 1 < 4 && 60 ≤ e.field 2 2 && e.field 2 2 ≤ if e.channel.isSome then 956 else 1518)) ∧
    (Met (roleOrLanes maintainer) 0x090E (fun e _ => e.payload.length = 2 && e.field 0 1 < 28 && e.field 1 1 < 4)) :=
  ⟨⟨ask 0x0902 (le 1 0 ++ le 1 1 ++ le 1 0 ++ le 1 0 ++ le 2 1 ++ le 1 7 ++ le 1 0 ++ le 2 64 ++ (List.range 8).flatMap (fun _ => le 2 4) ++ le 2 1 ++ le 1 1 ++ le 1 0), user, upkeep, by decide +kernel⟩,
   ⟨ask 0x0904 (le 6 5 ++ le 2 4094 ++ le 4 8), user, upkeep, by decide +kernel⟩,
   ⟨ask 0x0904 (le 6 5 ++ le 2 1 ++ le 4 8), user, upkeep, by decide +kernel⟩,
   ⟨ask 0x0905 (le 6 0 ++ le 2 3), user, pin 0 3 8 false upkeep, by decide +kernel⟩,
   ⟨ask 0x0907 (le 1 31), user, upkeep, by decide +kernel⟩,
   ⟨ask 0x0907 (le 1 255), user, upkeep, by decide +kernel⟩,
   ⟨ask 0x090B (le 1 255 ++ le 1 1 ++ le 1 2 ++ le 16 0 ++ le 4 0 ++ le 1 0 ++ le 2 0), user, upkeep, by decide +kernel⟩,
   ⟨ask 0x090B (le 1 0 ++ le 1 2 ++ le 1 0 ++ le 16 0 ++ le 4 15 ++ le 1 0 ++ le 2 0), user, upkeep, by decide +kernel⟩,
   ⟨ask 0x090B (le 1 0 ++ le 1 3 ++ le 1 0 ++ le 16 0 ++ le 4 1 ++ le 1 32 ++ le 2 10000), user, upkeep, by decide +kernel⟩,
   ⟨ask 0x090C (le 1 31 ++ le 2 1 ++ le 4 10000 ++ le 8 0 ++ le 4 0 ++ le 1 255 ++ le 3 0 ++ le 4 10000), user, upkeep, by decide +kernel⟩,
   ⟨ask 0x090D (le 1 27 ++ le 1 3 ++ le 2 60 ++ le 60 0), user, upkeep, by decide +kernel⟩,
   ⟨ask 0x090E (le 1 27 ++ le 1 3), user, upkeep, by decide +kernel⟩⟩

theorem met_flows_and_settings_are_commanded :
    (Met (roleOrLanes maintainer) 0x0909 (fun e t => e.payload.length = 3 && e.field 2 1 ≤ 1 && t.pair.role != .standby && (flowOf t (e.field 0 2)).isSome)) ∧
    (Met (roleOrLanes maintainer) 0x0909 (fun e t => e.payload.length = 3 && e.field 2 1 ≤ 1 && t.pair.role != .standby && (flowOf t (e.field 0 2)).isSome)) ∧
    (Met (roleOnly maintainer) 0x090F (fun e t => 8 ≤ e.payload.length && e.payload.length = 8 + 8 * ((e.payload.length - 8) / 8) && (e.payload.length - 8) / 8 ≤ 1024 && e.field 4 1 ≤ 32 && t.pair.role != .standby && e.clear [(5, 3)])) ∧
    (Met (roleOnly maintainer) 0x0910 (fun e t => e.payload.length = 42 && 10 ≤ e.field 0 4 && e.field 0 4 ≤ 1000000 && 10 ≤ e.field 4 2 && e.field 4 2 ≤ 1000 && t.pair.role != .standby)) ∧
    (Met (roleOnly maintainer) 0x0910 (fun e t => e.payload.length = 42 && 10 ≤ e.field 0 4 && e.field 0 4 ≤ 1000000 && 10 ≤ e.field 4 2 && e.field 4 2 ≤ 1000 && t.pair.role != .standby)) :=
  ⟨⟨ask 0x0909 (le 2 2047 ++ le 1 1), user, modNet (fun n => { n with flows := [(2047, { record := flowRecord (le 64 0) })] }) upkeep, by decide +kernel⟩,
   ⟨ask 0x0909 (le 2 0 ++ le 1 0), user, modNet (fun n => { n with flows := [(0, { record := flowRecord (le 64 0), enabled := true })] }) upkeep, by decide +kernel⟩,
   ⟨ask 0x090F (le 4 10 ++ le 1 32 ++ le 3 0 ++ le 4 1 ++ le 4 2), user, upkeep, by decide +kernel⟩,
   ⟨ask 0x0910 (le 4 10 ++ le 2 1000 ++ le 36 0), user, upkeep, by decide +kernel⟩,
   ⟨ask 0x0910 (le 4 1000000 ++ le 2 10 ++ le 36 0), user, upkeep, by decide +kernel⟩⟩

theorem met_mvb_reports_give_what_the_table_lists :
    (Met anyOrLanes 0x0A01 (fun e _ => e.payload.length = 0)) ∧
    (Met anyOrLanes 0x0A0A (fun e _ => e.payload.length = 5 && e.field 0 1 ≤ 1 && 1 ≤ e.field 3 2 && e.field 3 2 ≤ 256)) ∧
    (Met anyOrLanes 0x0A0B (fun e _ => e.payload.length = 1 && e.field 0 1 ≤ 1)) :=
  ⟨⟨ask 0x0A01 ([]), user, upkeep, by decide +kernel⟩,
   ⟨ask 0x0A0A (le 1 1 ++ le 2 0 ++ le 2 256), user, upkeep, by decide +kernel⟩,
   ⟨ask 0x0A0B (le 1 1), user, upkeep, by decide +kernel⟩⟩

theorem met_mvb_buses_and_ports_are_configured :
    (Met (roleOnly maintainer) 0x0A02 (fun e t => let n := (e.payload.length - 10) / 2
    e.payload.length = 10 + 2 * n && 1 ≤ n && n ≤ 264 && e.field 0 1 ≤ 1 && e.field 1 1 ≤ 1 && e.field 2 1 ≤ 1 && 16 ≤ e.field 8 2 && e.field 8 2 ≤ 1024 && e.field 4 2 ≤ 4095 &&
      e.field 6 2 ≤ 4095 && t.pair.role != .standby && !(programRuns t && bindsBus t (e.field 0 1)) && e.clear [(3, 1)])) ∧
    (Met (roleOnly maintainer) 0x0A03 (fun e t => e.payload.length = 25 && e.field 0 2 < 8192 && (e.field 24 1 = 0 && mvbRecordOk t (mvbRecord e.payload) || e.field 24 1 = 1 && (mvbPort t (e.field 0 2)).isSome) &&
      t.pair.role != .standby && !boundByImage t (e.field 0 2) && e.clear [(0x0B, 1), (0x12, 6)])) ∧
    (Met (roleOrLanes maintainer) 0x0A04 (fun e t => e.payload.length = 3 && (mvbPort t (e.field 0 2)).isSome && e.field 2 1 ≤ 1 && t.pair.role != .standby)) ∧
    (Met (roleOrLanes maintainer) 0x0A04 (fun e t => e.payload.length = 3 && (mvbPort t (e.field 0 2)).isSome && e.field 2 1 ≤ 1 && t.pair.role != .standby)) ∧
    (Met (roleOnly maintainer) 0x0A09 (fun e t => let n := (e.payload.length - 6) / 4
    let ports := (List.range n).map fun j => (e.field (6 + 4 * j) 2, e.field (8 + 4 * j) 2)
    e.payload.length = 6 + 4 * n && 1 ≤ n && n ≤ 16 && e.field 4 1 ≤ 1 && e.field 2 2 < 2048 && ports.all (fun p => handleBus p.1 = handleBus ((ports.map Prod.fst).headD 0)) &&
      t.pair.role != .standby && (if e.field 4 1 = 1 then Tbl.has t.mvb.maps (e.field 0 2) else (flowOf t (e.field 2 2)).isSome) && e.clear [(5, 1)])) ∧
    (Met (roleOnly maintainer) 0x0A09 (fun e t => let n := (e.payload.length - 6) / 4
    let ports := (List.range n).map fun j => (e.field (6 + 4 * j) 2, e.field (8 + 4 * j) 2)
    e.payload.length = 6 + 4 * n && 1 ≤ n && n ≤ 16 && e.field 4 1 ≤ 1 && e.field 2 2 < 2048 && ports.all (fun p => handleBus p.1 = handleBus ((ports.map Prod.fst).headD 0)) &&
      t.pair.role != .standby && (if e.field 4 1 = 1 then Tbl.has t.mvb.maps (e.field 0 2) else (flowOf t (e.field 2 2)).isSome) && e.clear [(5, 1)])) :=
  ⟨⟨ask 0x0A02 (le 1 1 ++ le 1 1 ++ le 1 1 ++ le 1 0 ++ le 2 4095 ++ le 2 1 ++ le 2 1024 ++ le 2 7 ++ le 2 8), user, upkeep, by decide +kernel⟩,
   ⟨ask 0x0A03 (le 2 4095 ++ le 22 0 ++ le 1 1), user, modMvb (fun m => { m with ports := [(4095, { record := mvbRecord [], data := [] })] }) upkeep, by decide +kernel⟩,
   ⟨ask 0x0A04 (le 2 4095 ++ le 1 1), user, modMvb (fun m => { m with ports := [(4095, { record := mvbRecord [], data := [] })] }) upkeep, by decide +kernel⟩,
   ⟨ask 0x0A04 (le 2 4095 ++ le 1 0), user, modMvb (fun m => { m with ports := [(4095, { record := mvbRecord [], data := [], enabled := true })] }) upkeep, by decide +kernel⟩,
   ⟨ask 0x0A09 (le 2 0 ++ le 2 5 ++ le 1 1 ++ le 1 0 ++ le 2 3 ++ le 2 0), user, modMvb (fun m => { m with maps := [(0, { slot := 5, ports := [(3, 0)] })] }) upkeep, by decide +kernel⟩,
   ⟨ask 0x0A09 (le 2 511 ++ le 2 2047 ++ le 1 0 ++ le 1 0 ++ le 2 3 ++ le 2 0), user, modNet (fun n => { n with flows := [(2047, { record := flowRecord (le 64 0) })] }) upkeep, by decide +kernel⟩⟩

theorem met_mvb_data_is_written_and_read :
    (Met (roleOrLanes maintainer) 0x0A05 (fun e t => 4 ≤ e.payload.length && (mvbPort t (e.field 0 2)).any (fun p => e.payload.length = 4 + p.record.bytes) && t.pair.role != .standby && e.clear [(3, 1)])) ∧
    (Met anyOrLanes 0x0A06 (fun e t => e.payload.length = 2 && (mvbPort t (e.field 0 2)).any MvbPort.enabled && (busOf t (handleBus (e.field 0 2))).enabled)) ∧
    (Met (roleOrLanes maintainer) 0x0A07 (fun e t => let n := (e.payload.length - 2) / 2
    let handles := (List.range n).map fun k => e.field (2 * k) 2
    e.payload.length = 2 * n + 2 && 1 ≤ n && n ≤ 8 && e.field (2 * n) 2 ≤ 10000 && handles.all (fun h => h < 8192 && handleBus h = handleBus (handles.headD 0)) &&
      handles.all (fun h => (mvbPort t h).isSome) && t.pair.role != .standby)) ∧
    (Met (roleOrLanes maintainer) 0x0A08 (fun e t => e.payload.length = 2 && e.field 1 1 ≤ 1 && t.pair.role != .standby && (Tbl.find t.mvb.semaphores (e.field 0 1)).any fun x => x.holder = e.issuer && x.unlock.isNone)) :=
  ⟨⟨ask 0x0A05 (le 2 7 ++ le 1 0xFF ++ le 1 0 ++ le 2 0), user, modMvb (fun m => { m with bus0 := { m.bus0 with enabled := true }, ports := [(7, { record := { mvbRecord [] with direction := 1 }, data := [0, 0], enabled := true })] }) upkeep, by decide +kernel⟩,
   ⟨ask 0x0A06 (le 2 7), user, modMvb (fun m => { m with bus0 := { m.bus0 with enabled := true }, ports := [(7, { record := mvbRecord [], data := [], enabled := true })] }) upkeep, by decide +kernel⟩,
   ⟨ask 0x0A07 (le 2 7 ++ le 2 10000), user, modMvb (fun m => { m with ports := [(7, { record := { mvbRecord [] with direction := 2 }, data := [], enabled := true })] }) upkeep, by decide +kernel⟩,
   ⟨ask 0x0A08 (le 1 31 ++ le 1 1), user, modMvb (fun m => { m with semaphores := [(31, { holder := 33554432, ports := [7], expires := 9 })] }) upkeep, by decide +kernel⟩⟩

theorem met_time_and_activation_reports_give_what_the_table_lists :
    (Met anyOrLanes 0x0B01 (fun e _ => e.payload.length = 0)) ∧
    (Met anyOrLanes 0x0B04 (fun e _ => e.payload.length = 1 && (portInstance (e.field 0 1)).isSome)) ∧
    (Met anyOrLanes 0x0C01 (fun e _ => e.payload.length = 3 && 1 ≤ e.field 1 2 && e.field 0 1 + e.field 1 2 ≤ 128)) ∧
    (Met anyOrLanes 0x0C01 (fun e _ => e.payload.length = 3 && 1 ≤ e.field 1 2 && e.field 0 1 + e.field 1 2 ≤ 128)) ∧
    (Met anyOrLanes 0x0C06 (fun e _ => e.payload.length = 1 && e.field 0 1 < 128)) :=
  ⟨⟨ask 0x0B01 ([]), user, upkeep, by decide +kernel⟩,
   ⟨ask 0x0B04 (le 1 0), user, upkeep, by decide +kernel⟩,
   ⟨ask 0x0C01 (le 1 0 ++ le 2 128), user, upkeep, by decide +kernel⟩,
   ⟨ask 0x0C01 (le 1 127 ++ le 2 1), user, upkeep, by decide +kernel⟩,
   ⟨ask 0x0C06 (le 1 127), user, upkeep, by decide +kernel⟩⟩

theorem met_time_and_activation_are_commanded :
    (Met (roleOnly maintainer) 0x0B02 (fun e _ => e.payload.length = 16 && e.field 0 1 ≤ 3 && e.field 1 1 ≤ 127 && decide (-4 ≤ e.fieldInt 5 1) && decide (e.fieldInt 5 1 ≤ 0) && 100 ≤ e.field 8 4 && e.field 8 4 ≤ 100000 &&
      10000 ≤ e.field 12 4 && e.field 12 4 ≤ 1000000000 && e.clear [(6, 2)])) ∧
    (Met (roleOnly maintainer) 0x0B02 (fun e _ => e.payload.length = 16 && e.field 0 1 ≤ 3 && e.field 1 1 ≤ 127 && decide (-4 ≤ e.fieldInt 5 1) && decide (e.fieldInt 5 1 ≤ 0) && 100 ≤ e.field 8 4 && e.field 8 4 ≤ 100000 &&
      10000 ≤ e.field 12 4 && e.field 12 4 ≤ 1000000000 && e.clear [(6, 2)])) ∧
    (Met (roleOnly maintainer) 0x0B03 (fun e t => e.payload.length = 12 && e.field 8 4 < 1000000000 && decide (-2 ^ 63 ≤ (toNs (ofTai (e.field 0 8) (e.field 8 4)) : Int) - toNs (localNow t)) &&
      decide ((toNs (ofTai (e.field 0 8) (e.field 8 4)) : Int) - toNs (localNow t) < 2 ^ 63))) ∧
    (Met (roleOnly maintainer) 0x0B03 (fun e t => e.payload.length = 12 && e.field 8 4 < 1000000000 && decide (-2 ^ 63 ≤ (toNs (ofTai (e.field 0 8) (e.field 8 4)) : Int) - toNs (localNow t)) &&
      decide ((toNs (ofTai (e.field 0 8) (e.field 8 4)) : Int) - toNs (localNow t) < 2 ^ 63))) ∧
    (Met (roleOnly maintainer) 0x0C02 (fun e t => e.payload.length = 8 && e.field 0 1 < 128 && originIndexOk (e.field 1 1) (e.field 2 2) && e.field 4 1 ≤ 4 && 1 ≤ e.field 5 1 && e.field 5 1 ≤ 16 && e.field 6 1 ≤ 1 && e.field 7 1 = 0 &&
      t.pair.role != .standby)) ∧
    (Met (roleOrLanes maintainer) 0x0C03 (fun e t => e.payload.length = 32 && e.field 0 16 &&& e.field 16 16 = 0 && t.pair.role != .standby)) ∧
    (Met (roleOrLanes maintainer) 0x0C04 (fun e t => e.payload.length = 8 && (e.field 0 1 = 1 && e.field 4 4 ≤ 60000 || e.field 0 1 = 2) && t.pair.role != .standby && e.clear [(1, 3)])) ∧
    (Met (roleOrLanes maintainer) 0x0C04 (fun e t => e.payload.length = 8 && (e.field 0 1 = 1 && e.field 4 4 ≤ 60000 || e.field 0 1 = 2) && t.pair.role != .standby && e.clear [(1, 3)])) ∧
    (Met (roleOrLanes maintainer) 0x0C05 (fun e _ => e.payload.length = 1 && e.field 0 1 < 128)) :=
  ⟨⟨ask 0x0B02 (le 1 3 ++ le 1 127 ++ le 3 0 ++ le 1 0xFC ++ le 2 0 ++ le 4 100 ++ le 4 1000000000), user, upkeep, by decide +kernel⟩,
   ⟨ask 0x0B02 (le 1 0 ++ le 1 0 ++ le 3 0 ++ le 1 0 ++ le 2 0 ++ le 4 100000 ++ le 4 10000), user, upkeep, by decide +kernel⟩,
   ⟨ask 0x0B03 (le 8 5 ++ le 4 999999999), user, upkeep, by decide +kernel⟩,
   ⟨ask 0x0B03 (le 8 5 ++ le 4 0), user, modClock (fun c => { c with state := .locked }) upkeep, by decide +kernel⟩,
   ⟨ask 0x0C02 (le 1 127 ++ le 1 7 ++ le 2 0 ++ le 1 2 ++ le 1 16 ++ le 1 1 ++ le 1 0), user, upkeep, by decide +kernel⟩,
   ⟨ask 0x0C03 (le 16 5 ++ le 16 8), user, upkeep, by decide +kernel⟩,
   ⟨ask 0x0C04 (le 1 1 ++ le 3 0 ++ le 4 60000), user, upkeep, by decide +kernel⟩,
   ⟨ask 0x0C04 (le 1 2 ++ le 3 0 ++ le 4 0), user, modAct (fun a => { a with hold := some none }) upkeep, by decide +kernel⟩,
   ⟨ask 0x0C05 (le 1 127), user, modSource 127 (fun x => { x with origin := 7 }) upkeep, by decide +kernel⟩⟩

theorem met_recorder_update_and_test_reports_give_what_the_tables_list :
    (Met anyOrLanes 0x0D01 (fun e _ => e.payload.length = 0)) ∧
    (Met { session := true } 0x0D02 (fun e _ => e.payload.length = 14 && e.field 0 1 ≤ 1 && e.clear [(1, 1)])) ∧
    (Met { session := true } 0x0D02 (fun e _ => e.payload.length = 14 && e.field 0 1 ≤ 1 && e.clear [(1, 1)])) ∧
    (Met anyOrLanes 0x0D07 (fun e _ => e.payload.length = 0)) ∧
    (Met anyOrLanes 0x0D07 (fun e _ => e.payload.length = 0)) ∧
    (Met anyOrLanes 0x0E01 (fun e _ => e.payload.length = 0)) ∧
    (Met anyOrLanes 0x0E01 (fun e _ => e.payload.length = 0)) ∧
    (Met anyOrLanes 0x0F01 (fun e _ => e.payload.length = 0)) :=
  ⟨⟨ask 0x0D01 ([]), user, upkeep, by decide +kernel⟩,
   ⟨ask 0x0D02 (le 14 0), user, upkeep, by decide +kernel⟩,
   ⟨ask 0x0D02 (le 1 1 ++ le 11 0 ++ le 2 256), user, upkeep, by decide +kernel⟩,
   ⟨ask 0x0D07 ([]), user, upkeep, by decide +kernel⟩,
   ⟨ask 0x0D07 ([]), user, modRecorder (fun r => { r with general := { r.general with suppressions := List.replicate 65 ⟨1, 2, 3⟩, further := 1 } }) upkeep, by decide +kernel⟩,
   ⟨ask 0x0E01 ([]), user, upkeep, by decide +kernel⟩,
   ⟨ask 0x0E01 ([]), user, modUpdate (fun u => { u with slotB := 2, axis := 1 }) upkeep, by decide +kernel⟩,
   ⟨ask 0x0F01 ([]), user, upkeep, by decide +kernel⟩⟩

theorem met_recorder_is_frozen_released_and_cleared_as_its_table_says :
    (Met (roleOnly (maintainer + owner)) 0x0D03 (fun e _ => e.payload.length = 0)) ∧
    (Met (roleOnly (maintainer + owner)) 0x0D03 (fun e _ => e.payload.length = 0)) ∧
    (Met (roleOnly (maintainer + owner)) 0x0D04 (fun e _ => e.payload.length = 0)) ∧
    (Met (roleOnly (maintainer + owner)) 0x0D05 (fun e _ => e.payload.length = 16 && e.field 0 1 ≤ 1 && e.clear [(1, 7)])) ∧
    (Met (roleOnly (maintainer + owner)) 0x0D05 (fun e _ => e.payload.length = 16 && e.field 0 1 ≤ 1 && e.clear [(1, 7)])) ∧
    (Met (roleOnly (maintainer + owner)) 0x0D06 (fun e t => e.payload.length = 4 && t.module.state = .maintenance && !t.trust.ownerLock && !freezeHeld t)) ∧
    (Met (roleOnly (maintainer + owner)) 0x0D06 (fun e t => e.payload.length = 4 && t.module.state = .maintenance && !t.trust.ownerLock && !freezeHeld t)) :=
  ⟨⟨ask 0x0D03 ([]), user, upkeep, by decide +kernel⟩,
   ⟨ask 0x0D03 ([]), user, modRecorder (fun r => { r with freeze := some ⟨1, 1, some 0, 7, 1⟩ }) upkeep, by decide +kernel⟩,
   ⟨ask 0x0D04 ([]), user, modRecorder (fun r => { r with freeze := some ⟨1, 1, some 0, 7, 1⟩ }) upkeep, by decide +kernel⟩,
   ⟨ask 0x0D05 (le 16 0), user, upkeep, by decide +kernel⟩,
   ⟨ask 0x0D05 (le 16 1), user, upkeep, by decide +kernel⟩,
   ⟨ask 0x0D06 (le 4 5), user, modRecorder (fun r => { r with ticket := some ⟨5, .general, 0, 33554434, 31, [], 100⟩ }) upkeep, by decide +kernel⟩,
   ⟨ask 0x0D06 (le 4 6), user, modRecorder (fun r => { r with ticket := some ⟨5, .general, 0, 33554434, 31, [], 100⟩ }) upkeep, by decide +kernel⟩⟩

theorem met_update_test_and_self_test_commands_act_as_their_tables_say :
    (Met (roleOnly maintainer) 0x0E02 (fun e t => 17 ≤ e.payload.length && e.field 0 8 ≤ 0x1000 + 2 ^ 27 && e.payload.length - 16 ≤ 1048000 && e.field 8 8 + (e.payload.length - 16) ≤ e.field 0 8 &&
      (e.field 8 8 = 0 || t.update.load.any fun l => l.1 = e.field 0 8 && l.2.length = e.field 8 8))) ∧
    (Met (roleOnly maintainer) 0x0E02 (fun e t => 17 ≤ e.payload.length && e.field 0 8 ≤ 0x1000 + 2 ^ 27 && e.payload.length - 16 ≤ 1048000 && e.field 8 8 + (e.payload.length - 16) ≤ e.field 0 8 &&
      (e.field 8 8 = 0 || t.update.load.any fun l => l.1 = e.field 0 8 && l.2.length = e.field 8 8))) ∧
    (Met (roleOnly maintainer) 0x0E03 (fun e _ => e.payload.length = 12 && e.field 8 4 < 1000000000)) ∧
    (Met (roleOnly maintainer) 0x0E03 (fun e _ => e.payload.length = 12 && e.field 8 4 < 1000000000)) ∧
    (Met (roleOnly maintainer) 0x0E04 (fun e _ => e.payload.length = 1 && e.field 0 1 ≤ 1)) ∧
    (Met (roleOnly maintainer) 0x0E04 (fun e _ => e.payload.length = 1 && e.field 0 1 ≤ 1)) ∧
    (Met (roleOnly maintainer) 0x0F02 (fun e _ => e.payload.length = 8 && (e.field 0 4 = 0 || 60 ≤ e.field 0 4 && e.field 0 4 ≤ 28800))) ∧
    (Met (roleOnly maintainer) 0x0F02 (fun e _ => e.payload.length = 8 && (e.field 0 4 = 0 || 60 ≤ e.field 0 4 && e.field 0 4 ≤ 28800))) ∧
    (Met (roleOnly maintainer) 0x0F03 (fun e _ => e.payload.length = 0)) ∧
    (Met (roleOnly maintainer) 0x0F04 (fun e _ => e.payload.length = 24 && e.field 0 4 < 2 ^ 18 && e.field 4 4 < 2 ^ 28 && e.field 12 4 < 2 ^ 16 && e.field 16 4 < 2 ^ 18 && e.field 20 4 &&& 0x7CC0FF00 = 0 && e.field 0 2 ≤ 50000 && (e.field 8 4 = 0 || 10 ≤ e.field 10 2 && e.field 8 2 ≤ e.field 10 2) && e.field 12 4 / 4 % 2 ^ 14 ≤ 1000 && e.field 16 2 ≤ 20000 &&
      e.field 23 1 % 4 < 3)) ∧
    (Met (roleOnly maintainer) 0x0F04 (fun e _ => e.payload.length = 24 && e.field 0 4 < 2 ^ 18 && e.field 4 4 < 2 ^ 28 && e.field 12 4 < 2 ^ 16 && e.field 16 4 < 2 ^ 18 && e.field 20 4 &&& 0x7CC0FF00 = 0 && e.field 0 2 ≤ 50000 && (e.field 8 4 = 0 || 10 ≤ e.field 10 2 && e.field 8 2 ≤ e.field 10 2) && e.field 12 4 / 4 % 2 ^ 14 ≤ 1000 && e.field 16 2 ≤ 20000 &&
      e.field 23 1 % 4 < 3)) ∧
    (Met (roleOnly maintainer) 0x0F05 (fun e _ => e.payload.length = 1)) ∧
    (Met (roleOnly maintainer) 0x0F05 (fun e _ => e.payload.length = 1)) ∧
    (Met (roleOnly maintainer) 0x0F05 (fun e _ => e.payload.length = 1)) :=
  ⟨⟨ask 0x0E02 (le 8 100 ++ le 8 0 ++ [1]), user, upkeep, by decide +kernel⟩,
   ⟨ask 0x0E02 (le 8 100 ++ le 8 2 ++ [1]), user, modUpdate (fun u => { u with load := some (100, [1, 2]) }) upkeep, by decide +kernel⟩,
   ⟨ask 0x0E03 (le 8 0 ++ le 4 999999999), user, upkeep, by decide +kernel⟩,
   ⟨ask 0x0E03 (le 8 100 ++ le 4 0), user, modUpdate (fun u => { u with slotB := 1 }) (modClock (fun c => { c with state := .locked }) upkeep), by decide +kernel⟩,
   ⟨ask 0x0E04 ([1]), user, modUpdate (fun u => { u with slotB := 1 }) upkeep, by decide +kernel⟩,
   ⟨ask 0x0E04 ([0]), user, modUpdate (fun u => { u with slotB := 1 }) upkeep, by decide +kernel⟩,
   ⟨ask 0x0F02 (le 4 0 ++ le 4 9), user, modSafety (fun x => { x with standstill := true }) (modModule (fun m => { m with testEn := true }) upkeep), by decide +kernel⟩,
   ⟨ask 0x0F02 (le 4 28800 ++ le 4 0), user, upkeep, by decide +kernel⟩,
   ⟨ask 0x0F03 ([]), user, modTest (fun x => { x with squall := true }) upkeep, by decide +kernel⟩,
   ⟨ask 0x0F04 (le 24 0), user, modTest (fun x => { x with squall := true, session := 1 }) upkeep, by decide +kernel⟩,
   ⟨ask 0x0F04 (le 4 50000 ++ le 4 0 ++ le 2 10 ++ le 2 10 ++ le 4 4003 ++ le 4 20000 ++ le 4 0x02000000), user, modTest (fun x => { x with squall := true, session := 1 }) upkeep, by decide +kernel⟩,
   ⟨ask 0x0F05 ([2]), user, upkeep, by decide +kernel⟩,
   ⟨ask 0x0F05 ([1]), user, upkeep, by decide +kernel⟩,
   ⟨ask 0x0F05 ([0]), user, upkeep, by decide +kernel⟩⟩

theorem met_integer_arithmetic_wraps_and_divides_as_r169_says :
    (∃ (t : MType) (l : Lane) (s : State) (i : Image) (k : LaneTake) (f : Frame) (rest : List Frame), t.isInt = true ∧ Runs l s i k f rest) ∧
    (∃ (t : MType) (l : Lane) (s : State) (i : Image) (k : LaneTake) (f : Frame) (rest : List Frame), t.isSigned = true ∧ Runs l s i k f rest) ∧
    (∃ (t : MType) (f : Frame) (n : Nat), t.isSigned = true ∧ integer f t n = -2 ^ (t.bits - 1)) ∧
    (∃ (t c : MType) (l : Lane) (s : State) (i : Image) (k : LaneTake) (f : Frame) (rest : List Frame), t.isInt = true ∧ c.isInt = true ∧ Runs l s i k f rest) :=
  ⟨⟨.i32, .b, calling [frame0], small, take0 [frame0], frame0, [], by decide, rfl, rfl, rfl⟩,
   ⟨.i8, .b, calling [frame0], small, take0 [frame0], frame0, [], by decide, rfl, rfl, rfl⟩,
   ⟨.i8, { frame0 with locals := [(0, 0x80)] }, 0, by decide⟩,
   ⟨.i32, .u8, .b, calling [frame0], small, take0 [frame0], frame0, [], by decide, by decide, rfl, rfl, rfl⟩⟩

theorem met_bits_comparisons_and_moves_give_table510 :
    (∃ (t : MType) (l : Lane) (s : State) (i : Image) (k : LaneTake) (f : Frame) (rest : List Frame), t = t ∧ Runs l s i k f rest) ∧
    (∃ (t : MType) (v : Word64) (l : Lane) (s : State) (i : Image) (k : LaneTake) (f : Frame) (rest : List Frame), v.toNat < 2 ^ t.width ∧ Runs l s i k f rest) ∧
    (∃ (t : MType) (v : Word64), 2 ^ t.width ≤ v.toNat) ∧
    (∃ (t : MType) (l : Lane) (s : State) (i : Image) (k : LaneTake) (f : Frame) (rest : List Frame), (t.isInt || t == .bool) = true ∧ Runs l s i k f rest) ∧
    (∃ (t c : MType) (l : Lane) (s : State) (i : Image) (k : LaneTake) (f : Frame) (rest : List Frame), t.isInt = true ∧ c.isInt = true ∧ Runs l s i k f rest) ∧
    (∃ (t : MType) (l : Lane) (s : State) (i : Image) (k : LaneTake) (f : Frame) (rest : List Frame), t.isInt = true ∧ Runs l s i k f rest) ∧
    (∃ (t : MType) (l : Lane) (s : State) (i : Image) (k : LaneTake) (f : Frame) (rest : List Frame), t.isFloat = false ∧ Runs l s i k f rest) ∧
    (∃ (t c : MType) (l : Lane) (s : State) (i : Image) (k : LaneTake) (f : Frame) (rest : List Frame), (c.isFloat = false ∧ t.isFloat = false) ∧ Runs l s i k f rest) ∧
    (∃ (t c : MType) (l : Lane) (s : State) (i : Image) (k : LaneTake) (f : Frame) (rest : List Frame), bitsPair t c = true ∧ Runs l s i k f rest) :=
  ⟨⟨.bool, .b, calling [frame0], small, take0 [frame0], frame0, [], by decide, rfl, rfl, rfl⟩,
   ⟨.bool, 1, .b, calling [frame0], small, take0 [frame0], frame0, [], by decide, rfl, rfl, rfl⟩,
   ⟨.bool, 2, by decide⟩,
   ⟨.bool, .b, calling [frame0], small, take0 [frame0], frame0, [], by decide, rfl, rfl, rfl⟩,
   ⟨.u16, .i64, .b, calling [frame0], small, take0 [frame0], frame0, [], by decide, by decide, rfl, rfl, rfl⟩,
   ⟨.u64, .b, calling [frame0], small, take0 [frame0], frame0, [], by decide, rfl, rfl, rfl⟩,
   ⟨.bool, .b, calling [frame0], small, take0 [frame0], frame0, [], by decide, rfl, rfl, rfl⟩,
   ⟨.bool, .i64, .b, calling [frame0], small, take0 [frame0], frame0, [], by decide, rfl, rfl, rfl⟩,
   ⟨.f32, .u32, .b, calling [frame0], small, take0 [frame0], frame0, [], by decide, rfl, rfl, rfl⟩⟩

theorem met_float_instructions_give_their_formats_result :
    (∃ (t : MType) (l : Lane) (s : State) (i : Image) (k : LaneTake) (f : Frame) (rest : List Frame), t.isFloat = true ∧ Runs l s i k f rest) ∧
    (∃ (t c : MType) (l : Lane) (s : State) (i : Image) (k : LaneTake) (f : Frame) (rest : List Frame), (t.isFloat = true ∧ c.isFloat = false) ∧ Runs l s i k f rest) ∧
    (∃ (t c : MType) (l : Lane) (s : State) (i : Image) (k : LaneTake) (f : Frame) (rest : List Frame), (t.isFloat = true ∧ c.isFloat = true) ∧ Runs l s i k f rest) ∧
    (∃ (t c : MType) (l : Lane) (s : State) (i : Image) (k : LaneTake) (f : Frame) (rest : List Frame), (t = .bool ∧ c.isFloat = true) ∧ Runs l s i k f rest) ∧
    (∃ (t c : MType) (l : Lane) (s : State) (i : Image) (k : LaneTake) (f : Frame) (rest : List Frame), (t.isInt = true ∧ c.isFloat = true) ∧ Runs l s i k f rest) ∧
    (∃ t c : MType, (t.isInt && c.isFloat) = false) ∧
    (∃ least greatest : Int, least ≤ 0 ∧ 0 ≤ greatest) ∧
    (∃ (g : Fmt) (a : Nat) (s : Bool), g.read a = .nan s) :=
  ⟨⟨.f32, .b, calling [frame0], small, take0 [frame0], frame0, [], by decide, rfl, rfl, rfl⟩,
   ⟨.f64, .i64, .b, calling [frame0], small, take0 [frame0], frame0, [], by decide, rfl, rfl, rfl⟩,
   ⟨.f64, .f32, .b, calling [frame0], small, take0 [frame0], frame0, [], by decide, rfl, rfl, rfl⟩,
   ⟨.bool, .f32, .b, calling [frame0], small, take0 [frame0], frame0, [], by decide, rfl, rfl, rfl⟩,
   ⟨.i32, .f32, .b, calling [frame0], small, take0 [frame0], frame0, [], by decide, rfl, rfl, rfl⟩,
   ⟨.f32, .i32, by decide⟩,
   ⟨0, 0, by decide⟩,
   ⟨f32, 0x7FC00000, false, by decide +kernel⟩⟩

theorem met_memory_instructions_reach_only_their_variables :
    (∃ (ref : LeafRef) (y : Symbol) (q : TaskRec) (x : Int) (a : Nat) (l : Lane) (s : State) (i : Image) (t : LaneTake) (f : Frame) (rest : List Frame), Runs l s i t f rest ∧ i.symbols[ref.symbol]? = some y ∧ taskRec i t.task = some q ∧
      (y.constant || y.owner == q.task) = true ∧ Indexed i f a x ∧ ((ref.leaf : Int) + x * ref.stride < 0 ∨ (y.leaves : Int) ≤ (ref.leaf : Int) + x * ref.stride)) ∧
    (∃ (ref : LeafRef) (y : Symbol) (q : TaskRec) (x : Int) (a : Nat) (ty : MType) (o : Nat) (l : Lane) (s : State) (i : Image) (t : LaneTake) (f : Frame) (rest : List Frame), Runs l s i t f rest ∧ i.symbols[ref.symbol]? = some y ∧ taskRec i t.task = some q ∧
      (y.constant || y.owner == q.task) = true ∧ Indexed i f a x ∧ 0 ≤ (ref.leaf : Int) + x * ref.stride ∧ (ref.leaf : Int) + x * ref.stride < y.leaves ∧ i.leaf y ((ref.leaf : Int) + x * ref.stride).toNat = some (ty, o)) ∧
    (∃ (ref : LeafRef) (y : Symbol) (q : TaskRec) (x : Int) (a : Nat) (l : Lane) (s : State) (i : Image) (t : LaneTake) (f : Frame) (rest : List Frame), Runs l s i t f rest ∧ i.symbols[ref.symbol]? = some y ∧ taskRec i t.task = some q ∧
      (y.owner = q.task ∧ y.input = false ∧ y.constant = false) ∧ Indexed i f a x ∧ ((ref.leaf : Int) + x * ref.stride < 0 ∨ (y.leaves : Int) ≤ (ref.leaf : Int) + x * ref.stride)) ∧
    (∃ (ref : LeafRef) (y : Symbol) (q : TaskRec) (x : Int) (a : Nat) (ty : MType) (o : Nat) (l : Lane) (s : State) (i : Image) (t : LaneTake) (f : Frame) (rest : List Frame), Runs l s i t f rest ∧ i.symbols[ref.symbol]? = some y ∧ taskRec i t.task = some q ∧
      (y.owner = q.task ∧ y.input = false ∧ y.constant = false) ∧ Indexed i f a x ∧ 0 ≤ (ref.leaf : Int) + x * ref.stride ∧ (ref.leaf : Int) + x * ref.stride < y.leaves ∧ i.leaf y ((ref.leaf : Int) + x * ref.stride).toNat = some (ty, o)) ∧
    (∃ (ref : LeafRef) (y : Symbol) (q : TaskRec) (l : Lane) (s : State) (i : Image) (t : LaneTake) (f : Frame) (rest : List Frame), Runs l s i t f rest ∧ i.symbols[ref.symbol]? = some y ∧ taskRec i t.task = some q ∧ (y.constant || y.owner == q.task) = false) ∧
    (∃ (sy sl ty tl n : Nat) (y z : Symbol) (q : TaskRec) (l : Lane) (s : State) (i : Image) (t : LaneTake) (f : Frame) (rest : List Frame), Runs l s i t f rest ∧ i.symbols[sy]? = some y ∧ i.symbols[ty]? = some z ∧ taskRec i t.task = some q ∧
      (y.constant || y.owner == q.task) = true ∧ (z.owner = q.task ∧ z.input = false ∧ z.constant = false) ∧ n = 0) ∧
    (∃ (sy sl ty tl n : Nat) (y z : Symbol) (q : TaskRec) (l : Lane) (s : State) (i : Image) (t : LaneTake) (f : Frame) (rest : List Frame), Runs l s i t f rest ∧ i.symbols[sy]? = some y ∧ i.symbols[ty]? = some z ∧ taskRec i t.task = some q ∧
      (y.constant || y.owner == q.task) = true ∧ (z.owner = q.task ∧ z.input = false ∧ z.constant = false) ∧ n ≠ 0 ∧ (y.leaves < sl + n ∨ z.leaves < tl + n)) ∧
    (∃ (sy sl ty tl n : Nat) (y z : Symbol) (q : TaskRec) (l : Lane) (s : State) (i : Image) (t : LaneTake) (f : Frame) (rest : List Frame), Runs l s i t f rest ∧ i.symbols[sy]? = some y ∧ i.symbols[ty]? = some z ∧ taskRec i t.task = some q ∧
      (y.constant || y.owner == q.task) = true ∧ (z.owner = q.task ∧ z.input = false ∧ z.constant = false) ∧ n ≠ 0 ∧ sl + n ≤ y.leaves ∧ tl + n ≤ z.leaves ∧ (∀ k < n, (i.leaf y (sl + k)).map Prod.fst = (i.leaf z (tl + k)).map Prod.fst)) :=
  ⟨⟨⟨0, 1, 0⟩, ⟨9, 3, 4, 0, 0, 4, 1, noValue, 0, 0, noValue⟩, task0, 0, 0xFFFF, .b, calling [frame0], small, take0 [frame0], frame0, [], ⟨rfl, rfl, rfl⟩, rfl, rfl, by decide +kernel, Or.inl ⟨rfl, rfl⟩, by decide +kernel⟩,
   ⟨⟨0, 0, 0⟩, ⟨9, 3, 4, 0, 0, 4, 1, noValue, 0, 0, noValue⟩, task0, 0, 0xFFFF, .i32, 0, .b, calling [frame0], small, take0 [frame0], frame0, [], ⟨rfl, rfl, rfl⟩, rfl, rfl, by decide +kernel, Or.inl ⟨rfl, rfl⟩, by decide +kernel, by decide +kernel, by decide +kernel⟩,
   ⟨⟨0, 1, 0⟩, ⟨9, 3, 4, 0, 0, 4, 1, noValue, 0, 0, noValue⟩, task0, 0, 0xFFFF, .b, calling [frame0], small, take0 [frame0], frame0, [], ⟨rfl, rfl, rfl⟩, rfl, rfl, by decide +kernel, Or.inl ⟨rfl, rfl⟩, by decide +kernel⟩,
   ⟨⟨0, 0, 0⟩, ⟨9, 3, 4, 0, 0, 4, 1, noValue, 0, 0, noValue⟩, task0, 0, 0xFFFF, .i32, 0, .b, calling [frame0], small, take0 [frame0], frame0, [], ⟨rfl, rfl, rfl⟩, rfl, rfl, by decide +kernel, Or.inl ⟨rfl, rfl⟩, by decide +kernel, by decide +kernel, by decide +kernel⟩,
   ⟨⟨0, 0, 0⟩, ⟨9, 3, 4, 1, 0, 4, 1, noValue, 0, 0, noValue⟩, task0, .b, holding (foreign 4) [frame0], foreign 4, take0 [frame0], frame0, [], ⟨rfl, rfl, rfl⟩, rfl, rfl, by decide +kernel⟩,
   ⟨0, 0, 0, 0, 0, ⟨9, 3, 4, 0, 0, 4, 1, noValue, 0, 0, noValue⟩, ⟨9, 3, 4, 0, 0, 4, 1, noValue, 0, 0, noValue⟩, task0, .b, calling [frame0], small, take0 [frame0], frame0, [], ⟨rfl, rfl, rfl⟩, rfl, rfl, rfl, by decide +kernel, by decide +kernel, rfl⟩,
   ⟨0, 0, 0, 0, 2, ⟨9, 3, 4, 0, 0, 4, 1, noValue, 0, 0, noValue⟩, ⟨9, 3, 4, 0, 0, 4, 1, noValue, 0, 0, noValue⟩, task0, .b, calling [frame0], small, take0 [frame0], frame0, [], ⟨rfl, rfl, rfl⟩, rfl, rfl, rfl, by decide +kernel, by decide +kernel, by decide +kernel⟩,
   ⟨0, 0, 0, 0, 1, ⟨9, 3, 4, 0, 0, 4, 1, noValue, 0, 0, noValue⟩, ⟨9, 3, 4, 0, 0, 4, 1, noValue, 0, 0, noValue⟩, task0, .b, calling [frame0], small, take0 [frame0], frame0, [], ⟨rfl, rfl, rfl⟩, rfl, rfl, rfl, by decide +kernel, by decide +kernel, by decide +kernel⟩⟩

theorem met_control_constructs_go_where_r176_says :
    (∃ (l : Lane) (s : State) (i : Image) (t : LaneTake) (f : Frame) (rest : List Frame), Runs l s i t f rest) ∧
    (∃ (bound : Nat) (l : Lane) (s : State) (i : Image) (t : LaneTake) (f : Frame) (rest : List Frame), Runs l s i t f rest ∧ 0 < bound) ∧
    (∃ (a : Nat) (l : Lane) (s : State) (i : Image) (t : LaneTake) (f : Frame) (rest : List Frame), Runs l s i t f rest ∧ operand f .bool a = 1) ∧
    (∃ (a p : Nat) (l : Lane) (s : State) (i : Image) (t : LaneTake) (f : Frame) (rest : List Frame), Runs l s i t f rest ∧ operand f .bool a ≠ 1 ∧ afterElse (ahead i f (f.position + 1)) 1 = some (p, true)) ∧
    (∃ (a p : Nat) (l : Lane) (s : State) (i : Image) (t : LaneTake) (f : Frame) (rest : List Frame), Runs l s i t f rest ∧ operand f .bool a ≠ 1 ∧ afterElse (ahead i f (f.position + 1)) 1 = some (p, false)) ∧
    (∃ (p : Nat) (outer : List Construct) (l : Lane) (s : State) (i : Image) (t : LaneTake) (f : Frame) (rest : List Frame), Runs l s i t f rest ∧ f.constructs = .cond true :: outer ∧ afterEnd (ahead i f (f.position + 1)) 1 = some p) ∧
    (∃ (bound n body : Nat) (outer : List Construct) (l : Lane) (s : State) (i : Image) (t : LaneTake) (f : Frame) (rest : List Frame), Runs l s i t f rest ∧ f.constructs = .loop bound n body :: outer ∧ n < bound) ∧
    (∃ (bound n body : Nat) (outer : List Construct) (l : Lane) (s : State) (i : Image) (t : LaneTake) (f : Frame) (rest : List Frame), Runs l s i t f rest ∧ f.constructs = .loop bound n body :: outer ∧ bound ≤ n) ∧
    (∃ (c : Construct) (outer : List Construct) (l : Lane) (s : State) (i : Image) (t : LaneTake) (f : Frame) (rest : List Frame), Runs l s i t f rest ∧ f.constructs = c :: outer ∧ c.isLoop = false) ∧
    (∃ (d n p : Nat) (l : Lane) (s : State) (i : Image) (t : LaneTake) (f : Frame) (rest : List Frame), Runs l s i t f rest ∧ enclosing (fun c => c.isLoop || c.isBlock) f.constructs d = some n ∧ afterEnd (ahead i f (f.position + 1)) (n + 1) = some p) ∧
    (∃ (d n bound e body : Nat) (outer : List Construct) (l : Lane) (s : State) (i : Image) (t : LaneTake) (f : Frame) (rest : List Frame), Runs l s i t f rest ∧ enclosing Construct.isLoop f.constructs d = some n ∧ f.constructs.drop n = .loop bound e body :: outer ∧ e < bound) ∧
    (∃ (d n bound e body p : Nat) (outer : List Construct) (l : Lane) (s : State) (i : Image) (t : LaneTake) (f : Frame) (rest : List Frame), Runs l s i t f rest ∧ enclosing Construct.isLoop f.constructs d = some n ∧ f.constructs.drop n = .loop bound e body :: outer ∧ bound ≤ e ∧ afterEnd (ahead i f (f.position + 1)) (n + 1) = some p) ∧
    (∃ (l : Lane) (s : State) (i : Image) (t : LaneTake) (f : Frame) (rest : List Frame), Runs l s i t f rest) ∧
    (∃ (n : Nat) (g : FunctionRec) (l : Lane) (s : State) (i : Image) (t : LaneTake) (f : Frame) (rest : List Frame), Runs l s i t f rest ∧ i.functions[n]? = some g) ∧
    (∃ (i : Image) (f : Frame) (x : FunctionRec), i.functions[f.function]? = some x ∧ x.code.length ≤ f.position) ∧
    (∃ (l : Lane) (s : State) (i : Image) (t : LaneTake) (f : Frame) (rest : List Frame), Runs l s i t f rest ∧ f.constructs = []) :=
  ⟨⟨.b, holding (small) [frame0], small, take0 [frame0], frame0, [], ⟨rfl, rfl, rfl⟩⟩,
   ⟨1, .b, holding (small) [frame0], small, take0 [frame0], frame0, [], ⟨rfl, rfl, rfl⟩, by decide⟩,
   ⟨0, .b, holding (small) [{ frame0 with locals := [(0, 1)] }], small, take0 [{ frame0 with locals := [(0, 1)] }], { frame0 with locals := [(0, 1)] }, [], ⟨rfl, rfl, rfl⟩, by decide +kernel⟩,
   ⟨0, 2, .b, holding (coded [kWord 0x72 0 0 0, kWord 0x73 0 0 0, kWord 0x74 0 0 0, 0, 0]) [frame0], coded [kWord 0x72 0 0 0, kWord 0x73 0 0 0, kWord 0x74 0 0 0, 0, 0], take0 [frame0], frame0, [], ⟨rfl, rfl, rfl⟩, by decide +kernel, by decide +kernel⟩,
   ⟨0, 2, .b, holding (coded [kWord 0x72 0 0 0, kWord 0x74 0 0 0, 0, 0]) [frame0], coded [kWord 0x72 0 0 0, kWord 0x74 0 0 0, 0, 0], take0 [frame0], frame0, [], ⟨rfl, rfl, rfl⟩, by decide +kernel, by decide +kernel⟩,
   ⟨3, [], .b, holding (coded [kWord 0x72 0 0 0, kWord 0x73 0 0 0, kWord 0x74 0 0 0, 0, 0]) [{ frame0 with position := 1, constructs := [.cond true] }], coded [kWord 0x72 0 0 0, kWord 0x73 0 0 0, kWord 0x74 0 0 0, 0, 0], take0 [{ frame0 with position := 1, constructs := [.cond true] }], { frame0 with position := 1, constructs := [.cond true] }, [], ⟨rfl, rfl, rfl⟩, rfl, by decide +kernel⟩,
   ⟨2, 1, 2, [], .b, holding (small) [{ frame0 with constructs := [.loop 2 1 2] }], small, take0 [{ frame0 with constructs := [.loop 2 1 2] }], { frame0 with constructs := [.loop 2 1 2] }, [], ⟨rfl, rfl, rfl⟩, rfl, by decide⟩,
   ⟨2, 2, 2, [], .b, holding (small) [{ frame0 with constructs := [.loop 2 2 2] }], small, take0 [{ frame0 with constructs := [.loop 2 2 2] }], { frame0 with constructs := [.loop 2 2 2] }, [], ⟨rfl, rfl, rfl⟩, rfl, by decide⟩,
   ⟨.block, [], .b, holding (small) [{ frame0 with constructs := [.block] }], small, take0 [{ frame0 with constructs := [.block] }], { frame0 with constructs := [.block] }, [], ⟨rfl, rfl, rfl⟩, rfl, rfl⟩,
   ⟨0, 0, 3, .b, holding (coded [kWord 0x72 0 0 0, kWord 0x73 0 0 0, kWord 0x74 0 0 0, 0, 0]) [{ frame0 with constructs := [.block] }], coded [kWord 0x72 0 0 0, kWord 0x73 0 0 0, kWord 0x74 0 0 0, 0, 0], take0 [{ frame0 with constructs := [.block] }], { frame0 with constructs := [.block] }, [], ⟨rfl, rfl, rfl⟩, by decide +kernel, by decide +kernel⟩,
   ⟨0, 1, 2, 1, 2, [], .b, holding (small) [{ frame0 with constructs := [.block, .loop 2 1 2] }], small, take0 [{ frame0 with constructs := [.block, .loop 2 1 2] }], { frame0 with constructs := [.block, .loop 2 1 2] }, [], ⟨rfl, rfl, rfl⟩, by decide +kernel, rfl, by decide⟩,
   ⟨0, 0, 2, 2, 2, 3, [], .b, holding (coded [kWord 0x72 0 0 0, kWord 0x73 0 0 0, kWord 0x74 0 0 0, 0, 0]) [{ frame0 with constructs := [.loop 2 2 2] }], coded [kWord 0x72 0 0 0, kWord 0x73 0 0 0, kWord 0x74 0 0 0, 0, 0], take0 [{ frame0 with constructs := [.loop 2 2 2] }], { frame0 with constructs := [.loop 2 2 2] }, [], ⟨rfl, rfl, rfl⟩, by decide +kernel, rfl, by decide, by decide +kernel⟩,
   ⟨.b, holding (small) [frame0], small, take0 [frame0], frame0, [], ⟨rfl, rfl, rfl⟩⟩,
   ⟨1, ⟨1, 0, [3], [0], 0⟩, .b, holding (coded [0]) [frame0], coded [0], take0 [frame0], frame0, [], ⟨rfl, rfl, rfl⟩, rfl⟩,
   ⟨coded [0], { frame0 with position := 1 }, ⟨0, 0, [0, 3, 3, 3], [0], 0⟩, rfl, by decide⟩,
   ⟨.b, holding (small) [frame0], small, take0 [frame0], frame0, [], ⟨rfl, rfl, rfl⟩, rfl⟩⟩

theorem met_service_calls_give_table512 :
    (∃ (l : Lane) (s : State) (i : Image) (t : LaneTake) (f : Frame) (rest : List Frame), Runs l s i t f rest) ∧
    (∃ (a : Nat) (x : InputState) (l : Lane) (s : State) (i : Image) (t : LaneTake) (f : Frame) (rest : List Frame), Runs l s i t f rest ∧ Tbl.find t.inputs (operand f .u32 a) = some x) ∧
    (∃ (a : Nat) (l : Lane) (s : State) (i : Image) (t : LaneTake) (f : Frame) (rest : List Frame), Runs l s i t f rest ∧ Tbl.find t.inputs (operand f .u32 a) = none) ∧
    (∃ (a : Nat) (y : Symbol) (l : Lane) (s : State) (i : Image) (t : LaneTake) (f : Frame) (rest : List Frame), Runs l s i t f rest ∧ (seen 2 l s i t f rest).byteArray (operand f .u32 (a + 2)) none false = some y ∧ (seen 2 l s i t f rest).ownsChannel (operand f .u8 a) = true ∧ (operand f .u32 (a + 3)) ≤ 992 ∧
      (operand f .u32 (a + 3)) ≤ y.size ∧ 4 ≤ (seen 2 l s i t f rest).creditUsed (operand f .u8 a)) ∧
    (∃ (a : Nat) (y : Symbol) (l : Lane) (s : State) (i : Image) (t : LaneTake) (f : Frame) (rest : List Frame), Runs l s i t f rest ∧ (seen 2 l s i t f rest).byteArray (operand f .u32 (a + 2)) none false = some y ∧ (seen 2 l s i t f rest).ownsChannel (operand f .u8 a) = true ∧ (operand f .u32 (a + 3)) ≤ 992 ∧
      (operand f .u32 (a + 3)) ≤ y.size ∧ (seen 2 l s i t f rest).creditUsed (operand f .u8 a) < 4) ∧
    (∃ (a : Nat) (l : Lane) (s : State) (i : Image) (t : LaneTake) (f : Frame) (rest : List Frame), Runs l s i t f rest ∧ ((seen 2 l s i t f rest).byteArray (operand f .u32 (a + 2)) none false = none ∨ (seen 2 l s i t f rest).ownsChannel (operand f .u8 a) = false ∨ 992 < (operand f .u32 (a + 3)))) ∧
    (∃ (a : Nat) (y : Symbol) (l : Lane) (s : State) (i : Image) (t : LaneTake) (f : Frame) (rest : List Frame), Runs l s i t f rest ∧ (seen 2 l s i t f rest).byteArray (operand f .u32 (a + 2)) none false = some y ∧ (seen 2 l s i t f rest).ownsChannel (operand f .u8 a) = true ∧ y.input = false ∧
      ((laneOf s l).tracked.find? fun x => x.channel = (operand f .u8 a) && x.token = (operand f .u32 (a + 1))) = none) ∧
    (∃ (a : Nat) (y : Symbol) (k : Tracked) (l : Lane) (s : State) (i : Image) (t : LaneTake) (f : Frame) (rest : List Frame), Runs l s i t f rest ∧ (seen 2 l s i t f rest).byteArray (operand f .u32 (a + 2)) none false = some y ∧ (seen 2 l s i t f rest).ownsChannel (operand f .u8 a) = true ∧ y.input = false ∧
      ((laneOf s l).tracked.find? fun x => x.channel = (operand f .u8 a) && x.token = (operand f .u32 (a + 1))) = some k ∧ k.done = none) ∧
    (∃ (a : Nat) (y : Symbol) (k : Tracked) (status : Nat) (result : Bytes) (l : Lane) (s : State) (i : Image) (t : LaneTake) (f : Frame) (rest : List Frame), Runs l s i t f rest ∧ (seen 2 l s i t f rest).byteArray (operand f .u32 (a + 2)) none false = some y ∧ (seen 2 l s i t f rest).ownsChannel (operand f .u8 a) = true ∧ y.input = false ∧
      ((laneOf s l).tracked.find? fun x => x.channel = (operand f .u8 a) && x.token = (operand f .u32 (a + 1))) = some k ∧ k.done = some (status, result)) ∧
    (∃ (a : Nat) (l : Lane) (s : State) (i : Image) (t : LaneTake) (f : Frame) (rest : List Frame), Runs l s i t f rest ∧ ((seen 2 l s i t f rest).byteArray (operand f .u32 (a + 2)) none false = none ∨ (seen 2 l s i t f rest).ownsChannel (operand f .u8 a) = false)) ∧
    (∃ (a : Nat) (y : Symbol) (b : CueBinding) (l : Lane) (s : State) (i : Image) (t : LaneTake) (f : Frame) (rest : List Frame), Runs l s i t f rest ∧ (seen 2 l s i t f rest).byteArray (operand f .u32 (a + 1)) (some 32) false = some y ∧ (seen 2 l s i t f rest).cue (operand f .u8 a) = some b ∧ cueRequestOk b (((laneOf s l).value i (operand f .u32 (a + 1)) y).take 32) = true ∧ ((seen 2 l s i t f rest).cueArea (operand f .u8 a)).1 = 4) ∧
    (∃ (a : Nat) (y : Symbol) (b : CueBinding) (l : Lane) (s : State) (i : Image) (t : LaneTake) (f : Frame) (rest : List Frame), Runs l s i t f rest ∧ (seen 2 l s i t f rest).byteArray (operand f .u32 (a + 1)) (some 32) false = some y ∧ (seen 2 l s i t f rest).cue (operand f .u8 a) = some b ∧ cueRequestOk b (((laneOf s l).value i (operand f .u32 (a + 1)) y).take 32) = true ∧ ((seen 2 l s i t f rest).cueArea (operand f .u8 a)).1 ≠ 4 ∧ 64 ≤ t.cues.length) ∧
    (∃ (a : Nat) (y : Symbol) (b : CueBinding) (l : Lane) (s : State) (i : Image) (t : LaneTake) (f : Frame) (rest : List Frame), Runs l s i t f rest ∧ (seen 2 l s i t f rest).byteArray (operand f .u32 (a + 1)) (some 32) false = some y ∧ (seen 2 l s i t f rest).cue (operand f .u8 a) = some b ∧ cueRequestOk b (((laneOf s l).value i (operand f .u32 (a + 1)) y).take 32) = true ∧ ((seen 2 l s i t f rest).cueArea (operand f .u8 a)).1 ≠ 4 ∧ t.cues.length < 64) ∧
    (∃ (a : Nat) (l : Lane) (s : State) (i : Image) (t : LaneTake) (f : Frame) (rest : List Frame), Runs l s i t f rest ∧ ((seen 2 l s i t f rest).byteArray (operand f .u32 (a + 1)) (some 32) false = none ∨ (seen 2 l s i t f rest).cue (operand f .u8 a) = none)) ∧
    (∃ (a : Nat) (b : CueBinding) (l : Lane) (s : State) (i : Image) (t : LaneTake) (f : Frame) (rest : List Frame), Runs l s i t f rest ∧ (seen 2 l s i t f rest).cue (operand f .u8 a) = some b ∧ cueRequestOk b (padTo 32 [2]) = true ∧ ((seen 2 l s i t f rest).cueArea (operand f .u8 a)).1 = 4) ∧
    (∃ (a : Nat) (b : CueBinding) (l : Lane) (s : State) (i : Image) (t : LaneTake) (f : Frame) (rest : List Frame), Runs l s i t f rest ∧ (seen 2 l s i t f rest).cue (operand f .u8 a) = some b ∧ cueRequestOk b (padTo 32 [2]) = true ∧ ((seen 2 l s i t f rest).cueArea (operand f .u8 a)).1 ≠ 4 ∧ 64 ≤ t.cues.length) ∧
    (∃ (a : Nat) (b : CueBinding) (l : Lane) (s : State) (i : Image) (t : LaneTake) (f : Frame) (rest : List Frame), Runs l s i t f rest ∧ (seen 2 l s i t f rest).cue (operand f .u8 a) = some b ∧ cueRequestOk b (padTo 32 [2]) = true ∧ ((seen 2 l s i t f rest).cueArea (operand f .u8 a)).1 ≠ 4 ∧ t.cues.length < 64) ∧
    (∃ (a : Nat) (l : Lane) (s : State) (i : Image) (t : LaneTake) (f : Frame) (rest : List Frame), Runs l s i t f rest ∧ (seen 2 l s i t f rest).cue (operand f .u8 a) = none) ∧
    (∃ (a : Nat) (b : CueBinding) (l : Lane) (s : State) (i : Image) (t : LaneTake) (f : Frame) (rest : List Frame), Runs l s i t f rest ∧ (seen 2 l s i t f rest).cue (operand f .u8 a) = some b) ∧
    (∃ (a : Nat) (y : Symbol) (l : Lane) (s : State) (i : Image) (t : LaneTake) (f : Frame) (rest : List Frame), Runs l s i t f rest ∧ (seen 2 l s i t f rest).byteArray (operand f .u32 (a + 2)) (some 80) true = some y ∧ 0x8000 ≤ (operand f .u16 a) ∧ 16 ≤ t.records.length) ∧
    (∃ (a : Nat) (y : Symbol) (l : Lane) (s : State) (i : Image) (t : LaneTake) (f : Frame) (rest : List Frame), Runs l s i t f rest ∧ (seen 2 l s i t f rest).byteArray (operand f .u32 (a + 2)) (some 80) true = some y ∧ 0x8000 ≤ (operand f .u16 a) ∧ t.records.length < 16) ∧
    (∃ (a : Nat) (l : Lane) (s : State) (i : Image) (t : LaneTake) (f : Frame) (rest : List Frame), Runs l s i t f rest ∧ ((seen 2 l s i t f rest).byteArray (operand f .u32 (a + 2)) (some 80) true = none ∨ (operand f .u16 a) < 0x8000)) :=
  ⟨⟨.b, holding (small) [frame0], small, take0 [frame0], frame0, [], ⟨rfl, rfl, rfl⟩⟩,
   ⟨0, ⟨1, 2, true⟩, .b, taking (small) ({ { take0 [frame0] with inputs := [(0, ⟨1, 2, true⟩)] } with inputs := [(0, ⟨1, 2, true⟩)] }), small, { take0 [frame0] with inputs := [(0, ⟨1, 2, true⟩)] }, frame0, [], ⟨rfl, rfl, rfl⟩, by decide +kernel⟩,
   ⟨0, .b, holding (small) [frame0], small, take0 [frame0], frame0, [], ⟨rfl, rfl, rfl⟩, by decide +kernel⟩,
   ⟨0, ⟨9, 32, 4, 0, 0, 80, 80, noValue, 0, 0, noValue⟩, .b, spent, bytesImage, take0 [frame0], frame0, [], ⟨rfl, rfl, rfl⟩, by decide +kernel, by decide +kernel, by decide +kernel, by decide +kernel, by decide +kernel⟩,
   ⟨0, ⟨9, 32, 4, 0, 0, 80, 80, noValue, 0, 0, noValue⟩, .b, holding bytesImage [frame0], bytesImage, take0 [frame0], frame0, [], ⟨rfl, rfl, rfl⟩, by decide +kernel, by decide +kernel, by decide +kernel, by decide +kernel, by decide +kernel⟩,
   ⟨0, .b, holding (small) [frame0], small, take0 [frame0], frame0, [], ⟨rfl, rfl, rfl⟩, by decide +kernel⟩,
   ⟨0, ⟨9, 32, 4, 0, 0, 80, 80, noValue, 0, 0, noValue⟩, .b, holding bytesImage [frame0], bytesImage, take0 [frame0], frame0, [], ⟨rfl, rfl, rfl⟩, by decide +kernel, by decide +kernel, rfl, by decide +kernel⟩,
   ⟨0, ⟨9, 32, 4, 0, 0, 80, 80, noValue, 0, 0, noValue⟩, ⟨0, 0, [], none, false⟩, .b, tracking none, bytesImage, take0 [frame0], frame0, [], ⟨rfl, rfl, rfl⟩, by decide +kernel, by decide +kernel, rfl, by decide +kernel, rfl⟩,
   ⟨0, ⟨9, 32, 4, 0, 0, 80, 80, noValue, 0, 0, noValue⟩, ⟨0, 0, [], some (1, [2]), false⟩, 1, [2], .b, tracking (some (1, [2])), bytesImage, take0 [frame0], frame0, [], ⟨rfl, rfl, rfl⟩, by decide +kernel, by decide +kernel, rfl, by decide +kernel, rfl⟩,
   ⟨0, .b, holding (small) [frame0], small, take0 [frame0], frame0, [], ⟨rfl, rfl, rfl⟩, by decide +kernel⟩,
   ⟨0, ⟨9, 32, 4, 0, 0, 32, 32, 0, 0, 0, noValue⟩, ⟨0, 0, 3, 1, 0⟩, .b, taking cueImage ({ take0 [frame0] with cueArea := [(0, 4, 0)] }), cueImage, { take0 [frame0] with cueArea := [(0, 4, 0)] }, frame0, [], ⟨rfl, rfl, rfl⟩, by decide +kernel, by decide +kernel, by decide +kernel, by decide +kernel⟩,
   ⟨0, ⟨9, 32, 4, 0, 0, 32, 32, 0, 0, 0, noValue⟩, ⟨0, 0, 3, 1, 0⟩, .b, taking cueImage ({ take0 [frame0] with cues := List.replicate 64 (0, []) }), cueImage, { take0 [frame0] with cues := List.replicate 64 (0, []) }, frame0, [], ⟨rfl, rfl, rfl⟩, by decide +kernel, by decide +kernel, by decide +kernel, by decide +kernel, by decide +kernel⟩,
   ⟨0, ⟨9, 32, 4, 0, 0, 32, 32, 0, 0, 0, noValue⟩, ⟨0, 0, 3, 1, 0⟩, .b, taking cueImage (take0 [frame0]), cueImage, take0 [frame0], frame0, [], ⟨rfl, rfl, rfl⟩, by decide +kernel, by decide +kernel, by decide +kernel, by decide +kernel, by decide +kernel⟩,
   ⟨0, .b, holding (small) [frame0], small, take0 [frame0], frame0, [], ⟨rfl, rfl, rfl⟩, by decide +kernel⟩,
   ⟨0, ⟨0, 0, 3, 1, 0⟩, .b, taking cueImage ({ take0 [frame0] with cueArea := [(0, 4, 0)] }), cueImage, { take0 [frame0] with cueArea := [(0, 4, 0)] }, frame0, [], ⟨rfl, rfl, rfl⟩, by decide +kernel, by decide +kernel, by decide +kernel⟩,
   ⟨0, ⟨0, 0, 3, 1, 0⟩, .b, taking cueImage ({ take0 [frame0] with cues := List.replicate 64 (0, []) }), cueImage, { take0 [frame0] with cues := List.replicate 64 (0, []) }, frame0, [], ⟨rfl, rfl, rfl⟩, by decide +kernel, by decide +kernel, by decide +kernel, by decide +kernel⟩,
   ⟨0, ⟨0, 0, 3, 1, 0⟩, .b, taking cueImage (take0 [frame0]), cueImage, take0 [frame0], frame0, [], ⟨rfl, rfl, rfl⟩, by decide +kernel, by decide +kernel, by decide +kernel, by decide +kernel⟩,
   ⟨0, .b, holding (small) [frame0], small, take0 [frame0], frame0, [], ⟨rfl, rfl, rfl⟩, by decide +kernel⟩,
   ⟨0, ⟨0, 0, 3, 1, 0⟩, .b, holding cueImage [frame0], cueImage, take0 [frame0], frame0, [], ⟨rfl, rfl, rfl⟩, by decide +kernel⟩,
   ⟨0, ⟨9, 32, 4, 0, 0, 80, 80, noValue, 0, 0, noValue⟩, .b, taking bytesImage ({ take0 [{ frame0 with locals := [(0, 0x8000)] }] with records := List.replicate 16 (0, 0, []) }), bytesImage, { take0 [{ frame0 with locals := [(0, 0x8000)] }] with records := List.replicate 16 (0, 0, []) }, { frame0 with locals := [(0, 0x8000)] }, [], ⟨rfl, rfl, rfl⟩, by decide +kernel, by decide +kernel, by decide +kernel⟩,
   ⟨0, ⟨9, 32, 4, 0, 0, 80, 80, noValue, 0, 0, noValue⟩, .b, taking bytesImage (take0 [{ frame0 with locals := [(0, 0x8000)] }]), bytesImage, take0 [{ frame0 with locals := [(0, 0x8000)] }], { frame0 with locals := [(0, 0x8000)] }, [], ⟨rfl, rfl, rfl⟩, by decide +kernel, by decide +kernel, by decide +kernel⟩,
   ⟨0, .b, holding (small) [frame0], small, take0 [frame0], frame0, [], ⟨rfl, rfl, rfl⟩, by decide +kernel⟩⟩

theorem met_lane_windows_act_as_their_blocks_say :
    (∃ (l : Lane) (k : Fin 16) (value : Word32) (s : State), hasMailbox s = true ∧ ((s.mbx.lanes.get l).channel k).doorbell.isSome = true) ∧
    (∃ (l : Lane) (k : Fin 16) (value : Word32) (s : State), hasMailbox s = true ∧ ((s.mbx.lanes.get l).channel k).doorbell = none ∧ channelOwner s k = none) ∧
    (∃ (l : Lane) (k : Fin 16) (value : Word32) (s : State), hasMailbox s = true ∧ ((s.mbx.lanes.get l).channel k).doorbell = none ∧ (channelOwner s k).isSome = true ∧ 4 ≤ ((s.mbx.lanes.get l).channel k).credits.length) ∧
    (∃ (l : Lane) (k : Fin 16) (value : Word32) (s : State), hasMailbox s = true ∧ ((s.mbx.lanes.get l).channel k).doorbell = none ∧ (channelOwner s k).isSome = true ∧ ((s.mbx.lanes.get l).channel k).credits.length < 4) ∧
    (∃ (l : Lane) (k : Fin 16) (s : State), ((s.mbx.lanes.get l).channel k).doorbell = none) ∧
    (∃ (l : Lane) (k : Fin 16) (n : Nat) (s : State), ((s.mbx.lanes.get l).channel k).doorbell = some n ∧ inVotingSet (laneOf s l) = true ∧ (laneCopyOk k n (padTo n ((s.mbx.lanes.get l).channel k).request) && (channelOwner s k).isSome) = false) ∧
    (∃ (l : Lane) (k : Fin 16) (n : Nat) (s : State), ((s.mbx.lanes.get l).channel k).doorbell = some n ∧ inVotingSet (laneOf s l) = true ∧ (laneCopyOk k n (padTo n ((s.mbx.lanes.get l).channel k).request) && (channelOwner s k).isSome) = true ∧ ((s.mbx.lanes.get l).channel k).credits.length < 4) ∧
    (∃ (l : Lane) (k : Fin 16) (s : State), ((s.mbx.lanes.get l).channel k).ready = []) ∧
    (∃ (l : Lane) (k : Fin 16) (n : Nat) (rest : List Nat) (s : State), ((s.mbx.lanes.get l).channel k).ready = n :: rest) ∧
    (∃ (l : Lane) (s : State), (((s.mbx.lanes.get l).shadow.find? fun e => (e.channel = (s.mbx.lanes.get l).shadowCh && e.token = (s.mbx.lanes.get l).shadowToken) && e.fetched != some (channelTake s l (s.mbx.lanes.get l).shadowCh)) = none)) ∧
    (∃ (l : Lane) (e : ShadowEntry) (s : State), (((s.mbx.lanes.get l).shadow.find? fun e => (e.channel = (s.mbx.lanes.get l).shadowCh && e.token = (s.mbx.lanes.get l).shadowToken) && e.fetched != some (channelTake s l (s.mbx.lanes.get l).shadowCh)) = some e)) ∧
    (∃ (l : Lane) (s : State), readyTask s l = none) ∧
    (∃ (l : Lane) (k : Nat) (s : State), readyTask s l = some k) ∧
    (∃ (l : Lane) (value : Word32) (s : State), hasMailbox s = true ∧ value.getLsbD 0 = false) ∧
    (∃ (l : Lane) (value : Word32) (s : State), hasMailbox s = true ∧ value.getLsbD 0 = true) ∧
    (∃ (sum advance : Int) (f : FullTime), 0 ≤ advance ∧ advance < 2 ^ 31) ∧
    (∃ (l : Lane) (value : Word32) (s : State), hasMailbox s = true) ∧
    (∃ (l : Lane) (value : Word32) (off : Nat) (s : State), hasMailbox s = true ∧ (off % 4 != 0 || off < 0x100 || 0x30000 ≤ off) = true) ∧
    (∃ (d : DelayedCompletion) (rest : List DelayedCompletion) (s : State), s.mbx.delayed = d :: rest) ∧
    (∃ (n : Nat) (bytes : Bytes) (x : Session) (s : State), Tbl.find s.trust.sessions n = some x ∧ x.kind ≠ .peer) ∧
    (∃ (n c : Nat) (bytes : Bytes) (x : Session) (s : State), Tbl.find s.trust.sessions n = some x ∧ x.kind = .peer ∧ x.context = some c) ∧
    (∃ (s : State), s.mbx.delayed = []) :=
  ⟨⟨.a, 0, 64, modChannel .a 0 (fun c => { c with doorbell := some 40 }) running, by decide +kernel, by decide +kernel⟩,
   ⟨.a, 0, 64, running, by decide +kernel, by decide +kernel, by decide +kernel⟩,
   ⟨.b, 0, 64, modChannel .b 0 (fun c => { c with credits := [1, 2, 3, 4] }) (holding bytesImage []), by decide +kernel, by decide +kernel, by decide +kernel, by decide +kernel⟩,
   ⟨.b, 0, 64, holding bytesImage [], by decide +kernel, by decide +kernel, by decide +kernel, by decide +kernel⟩,
   ⟨.a, 0, running, by decide +kernel⟩,
   ⟨.a, 0, 32, modChannel .a 0 (fun c => { c with doorbell := some 32 }) running, by decide +kernel, by decide +kernel, by decide +kernel⟩,
   ⟨.b, 0, 32, modChannel .b 0 (fun c => { c with doorbell := some 32, request := laneEnvelope false 0 0x0101 1 0 [] }) (holding bytesImage []), by decide +kernel, by decide +kernel, by decide +kernel, by decide +kernel⟩,
   ⟨.a, 0, running, rfl⟩,
   ⟨.a, 0, 1, [], modChannel .a 0 (fun c => { c with ready := [1] }) running, rfl⟩,
   ⟨.a, running, rfl⟩,
   ⟨.a, ⟨0, 0, [1], (0, 1), none, none⟩, modWindow .a (fun w => { w with shadow := [⟨0, 0, [1], (0, 1), none, none⟩] }) running, by decide +kernel⟩,
   ⟨.a, running, by decide +kernel⟩,
   ⟨.a, 0, modLane .a (fun x => { x with actReady := 1 }) running, by decide +kernel⟩,
   ⟨.a, 0, running, by decide +kernel, by decide +kernel⟩,
   ⟨.a, 1, running, by decide +kernel, by decide +kernel⟩,
   ⟨0, 5, ⟨0, 0⟩, by decide, by decide⟩,
   ⟨.a, 5, running, by decide +kernel⟩,
   ⟨.a, 5, 0, running, by decide +kernel, by decide +kernel⟩,
   ⟨⟨1, [], 9, false⟩, [], modMbx (fun m => { m with delayed := [⟨1, [], 9, false⟩] }) upkeep, rfl⟩,
   ⟨1, [], user, upkeep, rfl, by decide⟩,
   ⟨3, 2, [], { user with kind := .peer, context := some 2 }, modTrust (fun t => { t with sessions := [(3, { user with kind := .peer, context := some 2 })] }) upkeep, rfl, rfl, rfl⟩,
   ⟨running, rfl⟩⟩

theorem met_module_states_follow_supply_and_tests :
    (∃ (f : BootFacts) (s : State), s.module.state = .stowed ∧ s.module.resetHeld = false) ∧
    (∃ (f : BootFacts) (s : State), s.module.state = .stowed ∧ s.module.resetHeld = true) ∧
    (∃ (f : BootFacts) (s : State), s.module.state ≠ .stowed) ∧
    (∃ (f : BootFacts) (s : State), s.module.state = .stowed ∧ s.module.resetHeld = true ∧ s.module.supplied = true) ∧
    (∃ (f : BootFacts) (s : State), s.module.state = .stowed ∧ s.module.resetHeld = true ∧ s.module.supplied = false) ∧
    (∃ (s : State), s.module.state = .booting ∧ lockoutFlag s = false) ∧
    (∃ (s : State), s.module.state = .booting ∧ lockoutFlag s = true ∧ s.update.onTrial = false) ∧
    (∃ (f : ProvingFacts) (n : Nat) (s : State), s.module.state = .proving ∧ 2 ≤ bit f.laneA + bit f.laneB + bit f.laneC ∧ comparatorFinding f.readings f.drives = some n) ∧
    (∃ (s : State), s.module.state ≠ .booting) ∧
    (∃ (f : ProvingFacts) (s : State), s.module.state = .proving ∧ bit f.laneA + bit f.laneB + bit f.laneC < 2) ∧
    (∃ (f : ProvingFacts) (s : State), s.module.state = .proving ∧ 2 ≤ bit f.laneA + bit f.laneB + bit f.laneC ∧ comparatorFinding f.readings f.drives = none ∧ f.failure = none) ∧
    (∃ (f : ProvingFacts) (cause detail : Nat) (s : State), s.module.state = .proving ∧ 2 ≤ bit f.laneA + bit f.laneB + bit f.laneC ∧ comparatorFinding f.readings f.drives = none ∧ f.failure = some (cause, detail)) ∧
    (∃ (s : State), s.module.state = .stowed) ∧
    (∃ (s : State), s.module.state ≠ .stowed ∧ s.module.restartDue = none) ∧
    (∃ (u : Nat) (s : State), s.module.state ≠ .stowed ∧ s.module.restartDue = some u ∧ s.update.activating = false) ∧
    (∃ (s : State), s.module.state ≠ .stowed ∧ s.module.state ≠ .halted) ∧
    (∃ (mv : Nat) (s : State), s.module.supplied = true ∧ s.module.state ≠ .stowed ∧ s.module.supplyLostAt = none) ∧
    (∃ (mv : Nat) (s : State), s.module.supplied = true ∧ s.module.state = .stowed ∧ s.module.supplyLostAt = none) ∧
    (∃ (mv : Nat) (s : State), s.module.supplyLostAt.isSome = true) ∧
    (∃ (mv : Nat) (s : State), s.module.supplyLostAt.isSome = true ∧ s.module.state ≠ .stowed) ∧
    (∃ (u : Nat) (s : State), s.module.supplyLostAt = some u) ∧
    (∃ (u : Nat) (s : State), s.module.supplyLostAt = some u) ∧
    (∃ (mv : Nat) (s : State), s.module.supplyLostAt = none) ∧
    (∃ (s : State), s.module.supplyLostAt = none) ∧
    (∃ (s : State), s.module.supplyLostAt = none) ∧
    (∃ (n : Nat) (s : State), s.module.supplied = true ∧ 2040000000 ≤ n * 702) ∧
    (∃ (n : Nat) (s : State), s.module.supplied = true ∧ n * 702 < 2040000000) ∧
    (∃ (p : Bool) (s : State), hasMailbox s = true ∧ s.module.reelDownSince = none) ∧
    (∃ (b : Bool) (s : State), s.module.state ≠ .stowed) ∧
    (∃ (s : State), s.test.squall = true) ∧
    (∃ (s : State), s.test.squall = false) ∧
    (∃ (passed : Bool) (reading : VoterReading) (s : State), hasMailbox s = true ∧ slackOpen s = true ∧ sliceTest s ≠ 0 ∧ passed = true) ∧
    (∃ (passed : Bool) (reading : VoterReading) (s : State), hasMailbox s = true ∧ slackOpen s = true ∧ sliceTest s ≠ 0 ∧ passed = false) ∧
    (∃ (passed : Bool) (reading : VoterReading) (s : State), hasMailbox s = true ∧ slackOpen s = true ∧ sliceTest s = 0 ∧ patternPasses (nextPattern (commitVoterTest (startQueued s))) reading = true) ∧
    (∃ (passed : Bool) (reading : VoterReading) (s : State), hasMailbox s = true ∧ slackOpen s = true ∧ sliceTest s = 0 ∧ patternPasses (nextPattern (commitVoterTest (startQueued s))) reading = false) ∧
    (∃ (passed : Bool) (reading : VoterReading) (s : State), hasMailbox s = true ∧ slackOpen s = false) ∧
    (∃ (passed : Bool) (reading : VoterReading) (s : State), hasMailbox s = false) :=
  ⟨⟨default, State.reset, rfl, by decide +kernel⟩,
   ⟨default, (modModule (fun m => { m with state := .stowed, resetHeld := true }) upkeep), rfl, rfl⟩,
   ⟨default, upkeep, by decide +kernel⟩,
   ⟨default, (modModule (fun m => { m with state := .stowed, resetHeld := true }) upkeep), rfl, rfl, rfl⟩,
   ⟨default, (modModule (fun m => { m with state := .stowed, resetHeld := true, supplied := false }) upkeep), rfl, rfl, rfl⟩,
   ⟨(modModule (fun m => { m with state := .booting }) upkeep), rfl, by decide +kernel⟩,
   ⟨writeFlag (flagWith upkeep 0x20 0xFF 0 0 0) (modModule (fun m => { m with state := .booting }) upkeep), rfl, by decide +kernel, rfl⟩,
   ⟨⟨true, true, false, [⟨2, 0xFF, 0⟩], [], none, none⟩, 0, (modModule (fun m => { m with state := .proving }) upkeep), rfl, by decide, by decide +kernel⟩,
   ⟨upkeep, by decide +kernel⟩,
   ⟨⟨true, false, false, [], [], none, none⟩, (modModule (fun m => { m with state := .proving }) upkeep), rfl, by decide⟩,
   ⟨⟨true, true, false, (List.range 206).map (fun n => ⟨(pattern n).decision, (pattern n).isolated, 40⟩), [true, true, true, true, true], none, none⟩, (modModule (fun m => { m with state := .proving }) upkeep), rfl, by decide, by decide +kernel, rfl⟩,
   ⟨⟨true, true, false, (List.range 206).map (fun n => ⟨(pattern n).decision, (pattern n).isolated, 40⟩), [true, true, true, true, true], some (0x12, 1), none⟩, 0x12, 1, (modModule (fun m => { m with state := .proving }) upkeep), rfl, by decide, by decide +kernel, rfl⟩,
   ⟨State.reset, rfl⟩,
   ⟨upkeep, by decide +kernel, rfl⟩,
   ⟨7, modModule (fun m => { m with restartDue := some 7 }) upkeep, by decide +kernel, rfl, rfl⟩,
   ⟨upkeep, by decide +kernel, by decide +kernel⟩,
   ⟨18000, upkeep, rfl, by decide +kernel, rfl⟩,
   ⟨18000, modModule (fun m => { m with state := .stowed, resetHeld := true }) upkeep, rfl, rfl, rfl⟩,
   ⟨18000, modModule (fun m => { m with supplyLostAt := some 1 }) upkeep, rfl⟩,
   ⟨24000, modModule (fun m => { m with supplyLostAt := some 1 }) upkeep, rfl, by decide +kernel⟩,
   ⟨1, modModule (fun m => { m with supplyLostAt := some 1 }) upkeep, rfl⟩,
   ⟨1, modModule (fun m => { m with supplyLostAt := some 1 }) upkeep, rfl⟩,
   ⟨24000, upkeep, rfl⟩,
   ⟨upkeep, rfl⟩,
   ⟨upkeep, rfl⟩,
   ⟨3000000, upkeep, rfl, by decide⟩,
   ⟨2000000, upkeep, rfl, by decide⟩,
   ⟨true, upkeep, by decide +kernel, rfl⟩,
   ⟨true, upkeep, by decide +kernel⟩,
   ⟨modTest (fun x => { x with squall := true }) upkeep, rfl⟩,
   ⟨upkeep, rfl⟩,
   ⟨true, default, modTest (fun t => { t with requested := [(2, some 5)] }) upkeep, by decide +kernel, by decide +kernel, by decide +kernel, rfl⟩,
   ⟨false, default, modTest (fun t => { t with requested := [(2, some 5)] }) upkeep, by decide +kernel, by decide +kernel, by decide +kernel, rfl⟩,
   ⟨false, ⟨0, 0xFF, 40⟩, modPair (fun p => { p with role := .standby }) (modVoter (fun v => { v with testQueued := true }) upkeep), by decide +kernel, by decide +kernel, by decide +kernel, by decide +kernel⟩,
   ⟨true, ⟨1, 0, 40⟩, modPair (fun p => { p with role := .standby }) (modVoter (fun v => { v with testQueued := true }) upkeep), by decide +kernel, by decide +kernel, by decide +kernel, by decide +kernel⟩,
   ⟨true, default, modVoter (fun v => { v with takes := [default] }) upkeep, by decide +kernel, by decide +kernel⟩,
   ⟨true, default, State.reset, rfl⟩⟩

theorem met_sessions_contexts_and_lull_follow_their_events :
    (∃ (port source : Nat) (s : State), servesSessions s = true ∧ unenrolled s = true ∧ port = 20 ∧ s.trust.sessions = []) ∧
    (∃ (port source : Nat) (s : State), servesSessions s = true ∧ unenrolled s = false ∧ ((s.trust.sessions.filter fun x => x.2.awaits).length < 8)) ∧
    (∃ (port source : Nat) (s : State), unenrolled s = true ∧ (port ≠ 20 ∨ s.trust.sessions ≠ [])) ∧
    (∃ (port source : Nat) (s : State), unenrolled s = false ∧ (8 ≤ (s.trust.sessions.filter fun x => x.2.awaits).length)) ∧
    (∃ (peer : Bytes) (c : Nat) (s : State), freeContext s 4 = some c ∧ servesSessions s = true ∧ unenrolled s = false ∧ sessionsFull s = false) ∧
    (∃ (peer : Bytes) (c : Nat) (s : State), freeContext s 4 = some c ∧ servesSessions s = true ∧ unenrolled s = false ∧ sessionsFull s = false) ∧
    (∃ (peer : Bytes) (certified bound : Bool) (s : State), (certified = false ∨ unenrolled s = true ∨ freeContext s 4 = none)) ∧
    (∃ (n : Nat) (x : Session) (s : State), Tbl.find s.trust.sessions n = some x ∧ x.awaits = true) ∧
    (∃ (n : Nat) (x : Session) (s : State), Tbl.find s.trust.sessions n = some x ∧ x.awaits = false) ∧
    (∃ (n : Nat) (x : Session) (s : State), Tbl.find s.trust.sessions n = some x ∧ x.kind = .login) ∧
    (∃ (n : Nat) (x : Session) (s : State), Tbl.find s.trust.sessions n = some x ∧ x.kind ≠ .login) ∧
    (∃ (n : Nat) (s : State), Tbl.find s.trust.sessions n = none) ∧
    (∃ (e : Entry) (n : Nat) (c : Credential) (s : State), ((s.mbx.queue.find? fun q => q.phase = .holds .argon) = some e) ∧ credentialByName s (e.slice 0 32) = some (n, c) ∧ c.tag = Config.argon2id c.salt (((sealedAt e.payload 32).bind fun f => f.open e).getD [])) ∧
    (∃ (e : Entry) (s : State), ((s.mbx.queue.find? fun q => q.phase = .holds .argon) = some e) ∧ ((∀ n c, credentialByName s (e.slice 0 32) = some (n, c) → c.tag ≠ Config.argon2id c.salt (((sealedAt e.payload 32).bind fun f => f.open e).getD [])))) ∧
    (∃ (s : State), ((s.mbx.queue.find? fun q => q.phase = .holds .argon) = none)) ∧
    (∃ (n : Nat) (c : Credential) (s : State), Tbl.find s.trust.credentials n = some c ∧ c.lockedUntil ≠ 0) ∧
    (∃ (n : Nat) (s : State), Tbl.find s.trust.credentials n = none) ∧
    (∃ (n : Nat) (x : SaContext) (s : State), Tbl.find s.trust.contexts n = some x ∧ x.state = .draining) ∧
    (∃ (n : Nat) (x : SaContext) (s : State), Tbl.find s.trust.contexts n = some x ∧ x.state ≠ .draining) ∧
    (∃ (n m : Nat) (x : SaContext) (s : State), Tbl.find s.trust.contexts n = some x ∧ x.state = .live ∧ ((x.purpose = 2 ∨ x.purpose = 4)) ∧ x.messages < 2 ^ 32 ∧ freeContext s x.purpose = some m) ∧
    (∃ (n : Nat) (x : SaContext) (s : State), Tbl.find s.trust.contexts n = some x ∧ x.state = .live ∧ ((x.purpose = 2 ∨ x.purpose = 4)) ∧ x.messages < 2 ^ 32 ∧ freeContext s x.purpose = none) ∧
    (∃ (n : Nat) (x : SaContext) (s : State), Tbl.find s.trust.contexts n = some x ∧ (x.state ≠ .live ∨ x.purpose ≠ 2 ∧ x.purpose ≠ 4)) ∧
    (∃ (port key n : Nat) (y : SaContext) (s : State), servesSessions s = true ∧ Tbl.has s.trust.cak port = true ∧ ((s.trust.contexts.find? fun c => c.2.purpose = 1 && c.2.binding = port && c.2.state = .keyed) = some (n, y))) ∧
    (∃ (port key n : Nat) (s : State), servesSessions s = true ∧ Tbl.has s.trust.cak port = true ∧ ((s.trust.contexts.find? fun c => c.2.purpose = 1 && c.2.binding = port && c.2.state = .keyed) = none) ∧ freeContext s 1 = some n) ∧
    (∃ (port key : Nat) (agreed : Bool) (s : State), (servesSessions s && agreed && Tbl.has s.trust.cak port) = false) ∧
    (∃ (s : State), s.module.state ≠ .stowed ∧ latchNew s = true) ∧
    (∃ (s : State), (s.module.state = .stowed ∨ latchNew s = false)) ∧
    (∃ (mv : Nat) (s : State), s.module.state ≠ .stowed ∧ mv < 2500 ∧ s.trust.lull.cellLow = false) ∧
    (∃ (mv : Nat) (s : State), s.module.state ≠ .stowed ∧ 2600 ≤ mv) ∧
    (∃ (mv : Nat) (s : State), s.module.state ≠ .stowed ∧ 2500 ≤ mv ∧ mv < 2600) ∧
    (∃ (s : State), s.clock.state = .locked) ∧
    (∃ (s : State), s.clock.state ≠ .locked) ∧
    (∃ (mv : Nat) (s : State), s.module.state ≠ .stowed ∧ mv < 2500 ∧ s.trust.lull.cellLow = true) ∧
    (∃ (mv : Nat) (s : State), s.module.state = .stowed) :=
  ⟨⟨20, 7, modTrust (fun t => { t with sessions := [] }) factory, by decide +kernel, by decide +kernel, rfl, rfl⟩,
   ⟨20, 7, upkeep, by decide +kernel, by decide +kernel, by decide +kernel⟩,
   ⟨19, 7, factory, by decide +kernel, by decide +kernel⟩,
   ⟨19, 7, modTrust (fun t => { t with sessions := (List.range 8).map fun n => (n, { user with kind := .preLogin }) }) upkeep, by decide +kernel, by decide +kernel⟩,
   ⟨[], 0, upkeep, by decide +kernel, by decide +kernel, by decide +kernel, by decide +kernel⟩,
   ⟨[], 0, upkeep, by decide +kernel, by decide +kernel, by decide +kernel, by decide +kernel⟩,
   ⟨[], false, true, upkeep, Or.inl rfl⟩,
   ⟨1, { user with kind := .preLogin }, modTrust (fun t => { t with sessions := [(1, { user with kind := .preLogin })] }) upkeep, by decide +kernel, by decide +kernel⟩,
   ⟨1, user, upkeep, by decide +kernel, by decide +kernel⟩,
   ⟨1, user, upkeep, by decide +kernel, by decide +kernel⟩,
   ⟨1, { user with kind := .preLogin }, modTrust (fun t => { t with sessions := [(1, { user with kind := .preLogin })] }) upkeep, by decide +kernel, by decide +kernel⟩,
   ⟨9, upkeep, by decide +kernel⟩,
   ⟨evaluated, 0, hashed, evaluating, by decide +kernel, rfl, rfl⟩,
   ⟨{ waiting 5 with phase := .holds .argon, payload := [9] }, modMbx (fun b => { b with queue := [{ waiting 5 with phase := .holds .argon, payload := [9] }] }) upkeep, by decide +kernel, by
    intro n c h
    rw [show credentialByName (modMbx (fun b => { b with queue := [{ waiting 5 with phase := .holds .argon, payload := [9] }] }) upkeep) (Entry.slice { waiting 5 with phase := .holds .argon, payload := [9] } 0 32) = none by decide +kernel] at h
    cases h⟩,
   ⟨upkeep, by decide +kernel⟩,
   ⟨0, { name := ascii "A", roles := 31, salt := [], tag := [], lockedUntil := 9 }, modTrust (fun t => { t with credentials := [(0, { name := ascii "A", roles := 31, salt := [], tag := [], lockedUntil := 9 })] }) upkeep, by decide +kernel, by decide⟩,
   ⟨9, upkeep, by decide +kernel⟩,
   ⟨3, ⟨.draining, 2, 0, [], [], 0, 0, 0, 0⟩, modTrust (fun t => { t with contexts := [(3, ⟨.draining, 2, 0, [], [], 0, 0, 0, 0⟩)] }) upkeep, by decide +kernel, rfl⟩,
   ⟨3, ⟨.live, 2, 0, [], [], 0, 0, 0, 0⟩, modTrust (fun t => { t with contexts := [(3, ⟨.live, 2, 0, [], [], 0, 0, 0, 0⟩)] }) upkeep, by decide +kernel, by decide⟩,
   ⟨3, 0, ⟨.live, 2, 0, [], [], 0, 0, 0, 0⟩, modTrust (fun t => { t with contexts := [(3, ⟨.live, 2, 0, [], [], 0, 0, 0, 0⟩)] }) upkeep, by decide +kernel, rfl, Or.inl rfl, by decide, by decide +kernel⟩,
   ⟨3, ⟨.live, 2, 0, [], [], 0, 0, 0, 0⟩, modTrust (fun t => { t with contexts := (List.range 256).map fun k => (k, ⟨.live, 2, 0, [], [], 0, 0, 0, 0⟩) }) upkeep, by decide +kernel, rfl, Or.inl rfl, by decide, by decide +kernel⟩,
   ⟨3, ⟨.live, 1, 0, [], [], 0, 0, 0, 0⟩, modTrust (fun t => { t with contexts := [(3, ⟨.live, 1, 0, [], [], 0, 0, 0, 0⟩)] }) upkeep, by decide +kernel, by decide⟩,
   ⟨0, 5, 3, ⟨.keyed, 1, 0, [], [], 0, 0, 0, 0⟩, modTrust (fun t => { t with cak := [(0, [])], contexts := [(3, ⟨.keyed, 1, 0, [], [], 0, 0, 0, 0⟩)] }) upkeep, by decide +kernel, by decide +kernel, by decide +kernel⟩,
   ⟨0, 5, 0, modTrust (fun t => { t with cak := [(0, [])] }) upkeep, by decide +kernel, by decide +kernel, by decide +kernel, by decide +kernel⟩,
   ⟨0, 5, true, upkeep, by decide +kernel⟩,
   ⟨modLull (fun l => { l with powerLoss := true, tamper := true, reported := true }) upkeep, by decide +kernel, by decide +kernel⟩,
   ⟨modLull (fun l => { l with tamper := true, reported := true }) upkeep, Or.inr rfl⟩,
   ⟨2400, upkeep, by decide +kernel, by decide, by decide +kernel⟩,
   ⟨2600, upkeep, by decide +kernel, by decide⟩,
   ⟨2500, upkeep, by decide +kernel, by decide, by decide⟩,
   ⟨modClock (fun c => { c with state := .locked }) upkeep, rfl⟩,
   ⟨upkeep, by decide +kernel⟩,
   ⟨2400, modLull (fun l => { l with cellLow := true }) upkeep, by decide +kernel, by decide, rfl⟩,
   ⟨2400, State.reset, rfl⟩⟩

theorem met_lanes_vote_and_reshoot_follow_their_events :
    (∃ (task : Nat) (i : Image) (r : TaskRec) (t0 : Nat) (s : State), programRuns s = true ∧ s.prog.stopping = none ∧ s.pair.role ≠ .standby ∧ runningImage s = some i ∧ taskRec i task = some r ∧ activationInstant s r = some t0 ∧ activationBarred s t0 = false) ∧
    (∃ (task : Nat) (i : Image) (r : TaskRec) (t0 : Nat) (s : State), programRuns s = true ∧ s.prog.stopping = none ∧ s.pair.role ≠ .standby ∧ runningImage s = some i ∧ taskRec i task = some r ∧ activationInstant s r = some t0 ∧ activationBarred s t0 = true) ∧
    (∃ (task : Nat) (s : State), (programRuns s = false ∨ s.prog.stopping.isSome = true ∨ s.pair.role = .standby)) ∧
    (∃ (l : Lane) (task : Nat) (t : LaneTake) (i : Image) (r : TaskRec) (s : State), (((laneOf s l).takes.find? fun t => t.task = task && t.phase = .delivered) = some t) ∧ runningImage s = some i ∧ taskRec i task = some r ∧ (snapshotOk t.snapshot && forceAreaOk t.forceArea) = true) ∧
    (∃ (l : Lane) (task : Nat) (t : LaneTake) (i : Image) (r : TaskRec) (s : State), (((laneOf s l).takes.find? fun t => t.task = task && t.phase = .delivered) = some t) ∧ runningImage s = some i ∧ taskRec i task = some r ∧ snapshotOk t.snapshot = false) ∧
    (∃ (l : Lane) (task take epoch : Nat) (upset : Word64) (v : VoteTake) (i : Image) (r : TaskRec) (t : LaneTake) (s : State), lanesRun s = true ∧ (inVotingSet (laneOf s l) || (laneOf s l).reshooting && (laneOf s l).state != .restarting) = true ∧ awaitedFrom s l task take = some v ∧ runningImage s = some i ∧ taskRec i task = some r ∧ (((laneOf s l).takes.find? fun t => t.task = task && t.take = take && t.phase = .running && t.frames.isEmpty) = some t) ∧ s.time ≤ v.deadline) ∧
    (∃ (l : Lane) (task take epoch : Nat) (upset : Word64) (v : VoteTake) (i : Image) (r : TaskRec) (t : LaneTake) (s : State), lanesRun s = true ∧ (inVotingSet (laneOf s l) || (laneOf s l).reshooting && (laneOf s l).state != .restarting) = true ∧ awaitedFrom s l task take = some v ∧ runningImage s = some i ∧ taskRec i task = some r ∧ (((laneOf s l).takes.find? fun t => t.task = task && t.take = take && t.phase = .running && t.frames.isEmpty) = some t) ∧ v.deadline < s.time) ∧
    (∃ (l : Lane) (task take epoch : Nat) (upset : Word64) (s : State), lanesRun s = true ∧ (inVotingSet (laneOf s l) || (laneOf s l).reshooting && (laneOf s l).state != .restarting) = true ∧ awaitedFrom s l task take = none ∧ postedLate s task take = false) ∧
    (∃ (l : Lane) (task take epoch : Nat) (upset : Word64) (s : State), (inVotingSet (laneOf s l) || (laneOf s l).reshooting && (laneOf s l).state != .restarting) = false) ∧
    (∃ (l : Lane) (task take epoch : Nat) (upset : Word64) (v : VoteTake) (i : Image) (r : TaskRec) (s : State), lanesRun s = true ∧ (inVotingSet (laneOf s l) || (laneOf s l).reshooting && (laneOf s l).state != .restarting) = true ∧ awaitedFrom s l task take = some v ∧ runningImage s = some i ∧ taskRec i task = some r ∧ (((laneOf s l).takes.find? fun t => t.task = task && t.take = take && t.phase = .running && t.frames.isEmpty) = none) ∧ s.time ≤ v.deadline) ∧
    (∃ (task : Nat) (v : VoteTake) (i : Image) (s : State), ((s.voter.takes.find? fun v => v.task = task) = some v) ∧ runningImage s = some i) ∧
    (∃ (task : Nat) (v : VoteTake) (i : Image) (r : TaskRec) (s : State), ((s.voter.takes.find? fun v => v.task = task) = some v) ∧ firstDue s (v.deadline / 5) = some v ∧ runningImage s = some i ∧ taskRec i task = some r) ∧
    (∃ (period : Nat) (w : VoteTake) (s : State), firstDue s period = some w) ∧
    (∃ (l : Lane) (c : LaneFaultCause) (s : State), lanesRun s = true) ∧
    (∃ (l : Lane) (s : State), lanesRun s = true ∧ (laneOf s l).runs = true) ∧
    (∃ (l : Lane) (s : State), lanesRun s = true) ∧
    (∃ (l : Lane) (c : LaneFaultCause) (s : State), lanesRun s = false) ∧
    (∃ (l : Lane) (s : State), lanesRun s = false) ∧
    (∃ (l : Lane) (s : State), lanesRun s = false) ∧
    (∃ (l : Lane) (i : Image) (s : State), (laneOf s l).state = .restarting ∧ runningImage s = some i ∧ (reshootCut s).any (fun p => p.2 = l) = false) ∧
    (∃ (l : Lane) (i : Image) (s : State), (laneOf s l).state = .restarting ∧ runningImage s = some i ∧ (reshootCut s).any (fun p => p.2 = l) = false) ∧
    (∃ (l : Lane) (passed : Bool) (i : Image) (s : State), (laneOf s l).state = .restarting ∧ runningImage s = some i ∧ (reshootCut s).any (fun p => p.2 = l) = true) ∧
    (∃ (l : Lane) (passed : Bool) (s : State), (laneOf s l).state ≠ .restarting) ∧
    (∃ (l v : Lane) (task : Nat) (upset : Word64) (i : Image) (r : TaskRec) (t : ReshootTask) (s : State), rejoining s = some l ∧ runningImage s = some i ∧ taskRec i task = some r ∧ Tbl.find (laneOf s l).reshoot task = some t ∧ t.exportable = true ∧ t.imported = false ∧ t.exported = false ∧ Tbl.has t.exports v.num = false ∧ inVotingSet (laneOf s v) = true ∧ t.exports = []) ∧
    (∃ (l v : Lane) (task : Nat) (upset : Word64) (i : Image) (r : TaskRec) (t : ReshootTask) (n : Nat) (b : Bytes) (s : State), rejoining s = some l ∧ runningImage s = some i ∧ taskRec i task = some r ∧ Tbl.find (laneOf s l).reshoot task = some t ∧ t.exportable = true ∧ t.imported = false ∧ t.exported = false ∧ Tbl.has t.exports v.num = false ∧ inVotingSet (laneOf s v) = true ∧ t.exports = [(n, b)] ∧ crc64 b = crc64 (xorBytes upset (exportBytes i r (laneOf s v)))) ∧
    (∃ (l v : Lane) (task : Nat) (upset : Word64) (i : Image) (r : TaskRec) (t : ReshootTask) (n : Nat) (b : Bytes) (s : State), rejoining s = some l ∧ runningImage s = some i ∧ taskRec i task = some r ∧ Tbl.find (laneOf s l).reshoot task = some t ∧ t.exportable = true ∧ t.imported = false ∧ t.exported = false ∧ Tbl.has t.exports v.num = false ∧ inVotingSet (laneOf s v) = true ∧ t.exports = [(n, b)] ∧ crc64 b ≠ crc64 (xorBytes upset (exportBytes i r (laneOf s v)))) ∧
    (∃ (l : Lane) (task : Nat) (upset : Word64) (i : Image) (r : TaskRec) (t : ReshootTask) (n : Nat) (b : Bytes) (rest : Tbl Bytes) (s : State), rejoining s = some l ∧ runningImage s = some i ∧ taskRec i task = some r ∧ Tbl.find (laneOf s l).reshoot task = some t ∧ t.exported = true ∧ t.imported = false ∧ t.exports = (n, b) :: rest ∧ crc64 (exportBytes i r (laneOf (modLane l (importFrom i r s.time b (laneOf s (Lane.at n))) s) l)) ^^^ upset.toNat = crc64 b) ∧
    (∃ (l : Lane) (task : Nat) (upset : Word64) (i : Image) (r : TaskRec) (t : ReshootTask) (n : Nat) (b : Bytes) (rest : Tbl Bytes) (s : State), rejoining s = some l ∧ runningImage s = some i ∧ taskRec i task = some r ∧ Tbl.find (laneOf s l).reshoot task = some t ∧ t.exported = true ∧ t.imported = false ∧ t.exports = (n, b) :: rest ∧ crc64 (exportBytes i r (laneOf (modLane l (importFrom i r s.time b (laneOf s (Lane.at n))) s) l)) ^^^ upset.toNat ≠ crc64 b) ∧
    (∃ (v : Lane) (task : Nat) (upset : Word64) (s : State), rejoining s = none) ∧
    (∃ (task : Nat) (upset : Word64) (s : State), rejoining s = none) ∧
    (∃ (l : Lane) (s : State), (laneOf s l).state = .isolated ∧ (laneOf s l).hold = false ∧ 1 ≤ (laneOf s l).failedReshoots ∧ programRuns s = true ∧ s.prog.stopping = none ∧ s.module.state ≠ .lockout) ∧
    (∃ (l : Lane) (s : State), ((laneOf s l).state ≠ .isolated ∨ (laneOf s l).hold = true ∨ (laneOf s l).failedReshoots = 0)) ∧
    (∃ (t : Nat) (s : State), s.voter.twoLaneSince = some t ∧ s.voter.twoLaneExpired = false ∧ hasMailbox s = true) ∧
    (∃ (s : State), (s.voter.twoLaneSince = none ∨ s.voter.twoLaneExpired = true)) ∧
    (∃ (s : State), s.voter.twoLaneExpired = true ∧ standstill s = true ∧ s.module.state ≠ .lockout ∧ hasMailbox s = true) ∧
    (∃ (s : State), (s.voter.twoLaneExpired = false ∨ standstill s = false)) ∧
    (∃ (l : Lane) (task : Nat) (d : Nat × Nat × List SerialRecord × List SerialRecord) (r : SerialRecord) (s : State), ((s.voter.divergence.find? fun d => d.1 = l.num && d.2.1 = task) = some d) ∧ firstDifference 65536 d.2.2.1 d.2.2.2 = some r) ∧
    (∃ (l : Lane) (task : Nat) (d : Nat × Nat × List SerialRecord × List SerialRecord) (s : State), ((s.voter.divergence.find? fun d => d.1 = l.num && d.2.1 = task) = some d) ∧ firstDifference 65536 d.2.2.1 d.2.2.2 = none) ∧
    (∃ (l : Lane) (task : Nat) (s : State), ((s.voter.divergence.find? fun d => d.1 = l.num && d.2.1 = task) = none)) :=
  ⟨⟨0, small, task0, (programInstant (modProg (fun p => { p with tasks := [(0, { due := some 0 })] }) running) 0), (modProg (fun p => { p with tasks := [(0, { due := some 0 })] }) running), by decide +kernel, rfl, by decide +kernel, by decide +kernel, by decide +kernel, rfl, by decide +kernel⟩,
   ⟨0, small, task0, (programInstant (modProg (fun p => { p with tasks := [(0, { due := some 0 })] }) running) 0), (modPair (fun p => { p with takeoverAt := some 0 }) (modProg (fun p => { p with tasks := [(0, { due := some 0 })] }) running)), by decide +kernel, rfl, by decide +kernel, by decide +kernel, by decide +kernel, rfl, by decide +kernel⟩,
   ⟨0, upkeep, Or.inl (by decide +kernel)⟩,
   ⟨.b, 0, { take0 [] with phase := .delivered, snapshot := (List.replicate 64 0 ++ le 8 (crc64 (List.replicate 64 0))), forceArea := le 8 (crc64 []) }, small, task0, taking small ({ take0 [] with phase := .delivered, snapshot := (List.replicate 64 0 ++ le 8 (crc64 (List.replicate 64 0))), forceArea := le 8 (crc64 []) }), by decide +kernel, by decide +kernel, by decide +kernel, by decide +kernel⟩,
   ⟨.b, 0, { take0 [] with phase := .delivered, snapshot := [] }, small, task0, taking small ({ take0 [] with phase := .delivered, snapshot := [] }), by decide +kernel, by decide +kernel, by decide +kernel, by decide +kernel⟩,
   ⟨.b, 0, 1, 0, 0, ⟨0, 1, 0, 0, 10, 7, 0, none, none, none, ⟨[], [], []⟩, none, false, false, 0⟩, small, task0, take0 [], (modVoter (fun v => { v with takes := [⟨0, 1, 0, 0, 10, 7, 0, none, none, none, ⟨[], [], []⟩, none, false, false, 0⟩] }) (modLane .b (fun x => { x with state := .voting }) (calling []))), by decide +kernel, by decide +kernel, by decide +kernel, by decide +kernel, by decide +kernel, by decide +kernel, by decide +kernel⟩,
   ⟨.b, 0, 1, 0, 0, ⟨0, 1, 0, 0, 10, 7, 0, none, none, none, ⟨[], [], []⟩, none, false, false, 0⟩, small, task0, take0 [], reach 11 (modVoter (fun v => { v with takes := [⟨0, 1, 0, 0, 10, 7, 0, none, none, none, ⟨[], [], []⟩, none, false, false, 0⟩] }) (modLane .b (fun x => { x with state := .voting }) (calling []))), by decide +kernel, by decide +kernel, by decide +kernel, by decide +kernel, by decide +kernel, by decide +kernel, by decide +kernel⟩,
   ⟨.b, 0, 9, 0, 0, (modVoter (fun v => { v with takes := [] }) (modLane .b (fun x => { x with state := .voting }) (calling []))), by decide +kernel, by decide +kernel, by decide +kernel, by decide +kernel⟩,
   ⟨.b, 0, 1, 0, 0, modLane .b (fun x => { x with state := .isolated }) upkeep, by decide +kernel⟩,
   ⟨.b, 0, 1, 0, 0, ⟨0, 1, 0, 0, 10, 7, 0, none, none, none, ⟨[], [], []⟩, none, false, false, 0⟩, small, task0, (modVoter (fun v => { v with takes := [⟨0, 1, 0, 0, 10, 7, 0, none, none, none, ⟨[], [], []⟩, none, false, false, 0⟩] }) (modLane .b (fun x => { x with state := .voting, takes := [] }) (calling []))), by decide +kernel, by decide +kernel, by decide +kernel, by decide +kernel, by decide +kernel, by decide +kernel, by decide +kernel⟩,
   ⟨0, ⟨0, 1, 0, 0, 10, 7, 0, none, none, none, ⟨[], [], []⟩, none, false, false, 0⟩, small, (modVoter (fun v => { v with takes := [⟨0, 1, 0, 0, 10, 7, 0, none, none, none, ⟨[], [], []⟩, none, false, false, 0⟩] }) (modLane .b (fun x => { x with state := .voting }) (calling []))), by decide +kernel, by decide +kernel⟩,
   ⟨0, ⟨0, 1, 0, 0, 10, 7, 0, none, none, none, ⟨[], [], []⟩, none, false, false, 0⟩, small, task0, (modVoter (fun v => { v with takes := [⟨0, 1, 0, 0, 10, 7, 0, none, none, none, ⟨[], [], []⟩, none, false, false, 0⟩] }) (modLane .b (fun x => { x with state := .voting }) (calling []))), by decide +kernel, by decide +kernel, by decide +kernel, by decide +kernel⟩,
   ⟨2, ⟨0, 1, 0, 0, 10, 7, 0, none, none, none, ⟨[], [], []⟩, none, false, false, 0⟩, (modVoter (fun v => { v with takes := [⟨0, 1, 0, 0, 10, 7, 0, none, none, none, ⟨[], [], []⟩, none, false, false, 0⟩] }) (calling [])), by decide +kernel⟩,
   ⟨.b, .trap, upkeep, by decide +kernel⟩,
   ⟨.b, modLane .b (fun x => { x with state := .voting }) running, by decide +kernel, by decide +kernel⟩,
   ⟨.b, upkeep, by decide +kernel⟩,
   ⟨.b, .trap, State.reset, by decide +kernel⟩,
   ⟨.b, State.reset, by decide +kernel⟩,
   ⟨.b, State.reset, by decide +kernel⟩,
   ⟨.b, small, modProg (fun p => { p with slot0 := { smallSlot with state := 1 }, slot1 := {} }) (modLane .b (fun x => { x with state := .restarting }) running), by decide +kernel, by decide +kernel, by decide +kernel⟩,
   ⟨.b, small, modProg (fun p => { p with slot0 := { smallSlot with state := 1 }, slot1 := {} }) (modLane .b (fun x => { x with state := .restarting }) running), by decide +kernel, by decide +kernel, by decide +kernel⟩,
   ⟨.b, true, small, modProg (fun p => { p with cache := [] }) (modLane .b (fun x => { x with state := .restarting }) running), by decide +kernel, by decide +kernel, by decide +kernel⟩,
   ⟨.b, true, upkeep, by decide +kernel⟩,
   ⟨.b, .a, 0, 0, small, task0, { exportable := true }, modLane .b (fun x => { x with state := .ready, reshoot := [(0, { exportable := true })] }) running, by decide +kernel, by decide +kernel, by decide +kernel, by decide +kernel, rfl, rfl, rfl, by decide +kernel, by decide +kernel, rfl⟩,
   ⟨.b, .a, 0, 0, small, task0, ({ exportable := true, exports := [(2, (exportBytes small task0 (laneOf running .a)))] } : ReshootTask), 2, (exportBytes small task0 (laneOf running .a)), modLane .b (fun x => { x with state := .ready, reshoot := [(0, ({ exportable := true, exports := [(2, (exportBytes small task0 (laneOf running .a)))] } : ReshootTask))] }) running, by decide +kernel, by decide +kernel, by decide +kernel, by decide +kernel, rfl, rfl, rfl, by decide +kernel, by decide +kernel, rfl, by decide +kernel⟩,
   ⟨.b, .a, 0, 0, small, task0, ({ exportable := true, exports := [(2, [1])] } : ReshootTask), 2, [1], modLane .b (fun x => { x with state := .ready, reshoot := [(0, ({ exportable := true, exports := [(2, [1])] } : ReshootTask))] }) running, by decide +kernel, by decide +kernel, by decide +kernel, by decide +kernel, rfl, rfl, rfl, by decide +kernel, by decide +kernel, rfl, by decide +kernel⟩,
   ⟨.b, 0, 0, small, task0, ({ exportable := true, exports := [(0, (exportBytes small task0 (laneOf running .a))), (2, (exportBytes small task0 (laneOf running .a)))] } : ReshootTask), 0, (exportBytes small task0 (laneOf running .a)), [(2, (exportBytes small task0 (laneOf running .a)))], modLane .b (fun x => { x with state := .transferring, reshoot := [(0, ({ exportable := true, exports := [(0, (exportBytes small task0 (laneOf running .a))), (2, (exportBytes small task0 (laneOf running .a)))] } : ReshootTask))] }) running, by decide +kernel, by decide +kernel, by decide +kernel, by decide +kernel, by decide +kernel, rfl, rfl, by decide +kernel⟩,
   ⟨.b, 0, 1, small, task0, ({ exportable := true, exports := [(0, (exportBytes small task0 (laneOf running .a))), (2, (exportBytes small task0 (laneOf running .a)))] } : ReshootTask), 0, (exportBytes small task0 (laneOf running .a)), [(2, (exportBytes small task0 (laneOf running .a)))], modLane .b (fun x => { x with state := .transferring, reshoot := [(0, ({ exportable := true, exports := [(0, (exportBytes small task0 (laneOf running .a))), (2, (exportBytes small task0 (laneOf running .a)))] } : ReshootTask))] }) running, by decide +kernel, by decide +kernel, by decide +kernel, by decide +kernel, by decide +kernel, rfl, rfl, by decide +kernel⟩,
   ⟨.a, 0, 0, upkeep, by decide +kernel⟩,
   ⟨0, 0, upkeep, by decide +kernel⟩,
   ⟨.b, modLane .b (fun x => { x with state := .isolated, failedReshoots := 1 }) running, by decide +kernel, rfl, by decide +kernel, by decide +kernel, rfl, by decide +kernel⟩,
   ⟨.b, upkeep, Or.inl (by decide +kernel)⟩,
   ⟨7, modVoter (fun v => { v with twoLaneSince := some 7 }) upkeep, rfl, rfl, by decide +kernel⟩,
   ⟨upkeep, Or.inl rfl⟩,
   ⟨modSafety (fun x => { x with standstill := true }) (modVoter (fun v => { v with twoLaneExpired := true }) upkeep), rfl, rfl, by decide +kernel, by decide +kernel⟩,
   ⟨upkeep, Or.inl rfl⟩,
   ⟨.b, 0, (1, 0, [⟨9, 1, [0]⟩], [⟨9, 1, [1]⟩]), ⟨9, 1, [0]⟩, modVoter (fun v => { v with divergence := [(1, 0, [⟨9, 1, [0]⟩], [⟨9, 1, [1]⟩])] }) upkeep, by decide +kernel, by decide +kernel⟩,
   ⟨.b, 0, (1, 0, [], []), modVoter (fun v => { v with divergence := [(1, 0, [], [])] }) upkeep, by decide +kernel, by decide +kernel⟩,
   ⟨.b, 0, upkeep, by decide +kernel⟩⟩

theorem met_program_recorder_and_update_follow_their_events :
    (∃ (report : CutterReport) (slot : Nat) (why : CutFor) (s : State), (nextCut s).prog.cutting = some (slot, why) ∧ cutImage (slotOf (nextCut s) slot) = .ok none) ∧
    (∃ (report : CutterReport) (slot : Nat) (why : CutFor) (check offset : Nat) (s : State), (nextCut s).prog.cutting = some (slot, why) ∧ cutImage (slotOf (nextCut s) slot) = .error (check, offset)) ∧
    (∃ (report : CutterReport) (slot : Nat) (why : CutFor) (i : Image) (d : DiversityFault) (s : State), (nextCut s).prog.cutting = some (slot, why) ∧ cutImage (slotOf (nextCut s) slot) = .ok (some i) ∧ cutOutcome i report = .error d) ∧
    (∃ (report : CutterReport) (slot : Nat) (why : CutFor) (i : Image) (n : Nat) (a : Attempt) (s : State), (nextCut s).prog.cutting = some (slot, why) ∧ cutImage (slotOf (nextCut s) slot) = .ok (some i) ∧ cutOutcome i report = .ok (n, a)) ∧
    (∃ (report : CutterReport) (s : State), (nextCut s).prog.cutting = none) ∧
    (∃ (i : Image) (report : CutterReport) (n : Nat) (a : Attempt), cutOutcome i report = .ok (n, a)) ∧
    (∃ (digest : Bytes) (n : Nat) (a : Attempt) (c : CacheEntry) (s : State), c ∈ s.prog.cache ∧ c.digest ≠ digest ∧ (c.digest = s.prog.slot0.digest ∨ c.digest = s.prog.slot1.digest)) ∧
    (∃ (s : State), s.prog.retentiveLoaded = true ∧ s.prog.commit = none) ∧
    (∃ (s : State), (s.prog.retentiveLoaded = false ∨ s.prog.commit.isSome = true)) ∧
    (∃ (s : State), s.prog.commit.isSome = true) ∧
    (∃ (s : State), s.prog.commit.isSome = true) ∧
    (∃ (written : Bool) (s : State), s.prog.commit = none) ∧
    (∃ (r : Recut) (s : State), pendingRecut s = some r ∧ r.guarding = false) ∧
    (∃ (r : Recut) (s : State), pendingRecut s = some r ∧ r.guarding = true) ∧
    (∃ (s : State), pendingRecut s = none) ∧
    (∃ (r : Recut) (a b : Image) (s : State), pendingRecut s = some r ∧ runningImage s = some a ∧ translatedImage s r.slot = some b ∧ ((s.pair.role = .standby ∨ ∀ t ∈ s.prog.tasks, ∀ d, t.2.due = some d → r.switchUs ≤ d)) ∧ inFlight s = false ∧ s.prog.stopping = none ∧ (s.pair.role = .standby ∨ ∀ l, (laneOf s l).reshooting = false)) ∧
    (∃ (r : Recut) (a b : Image) (l : Lane) (s : State), pendingRecut s = some r ∧ runningImage s = some a ∧ translatedImage s r.slot = some b ∧ s.pair.role ≠ .standby ∧ (∀ t ∈ s.prog.tasks, ∀ d, t.2.due = some d → r.switchUs ≤ d) ∧ inFlight s = false ∧ s.prog.stopping = none ∧ (laneOf s l).reshooting = true) ∧
    (∃ (s : State), pendingRecut s = none) ∧
    (∃ (n clock : Nat) (s : State), (sourceOf (reach (5 * clock) s) n).origin = 0) ∧
    (∃ (n clock : Nat) (s : State), (sourceOf (reach (5 * clock) s) n).origin ≠ 0) ∧
    (∃ (n d : Nat) (s : State), (sourceOf s n).waiting = none ∧ (sourceOf s n).started = some d) ∧
    (∃ (n d : Nat) (s : State), (sourceOf s n).waiting.isSome = true ∧ (sourceOf (startCommits none sourceCount s) n).started = some d) ∧
    (∃ (n : Nat) (s : State), (sourceOf s n).waiting = none ∧ (sourceOf s n).started = none) ∧
    (∃ (limit : Nat) (s : State), s.act.hold = some (some limit)) ∧
    (∃ (s : State), (s.act.hold = none ∨ s.act.hold = some none)) ∧
    (∃ (resource : Resource) (e : Entry) (s : State), resource ≠ .argon ∧ resource ≠ .cutter ∧ ((s.mbx.queue.find? fun e => e.phase = .holds resource) = none) ∧ nextWaiting s resource = some e) ∧
    (∃ (resource : Resource) (e f : Entry) (s : State), resource ≠ .argon ∧ resource ≠ .cutter ∧ ((s.mbx.queue.find? fun e => e.phase = .holds resource) = some f) ∧ nextWaiting (resourceDone f s) resource = some e) ∧
    (∃ (resource : Resource) (f : Entry) (s : State), resource ≠ .argon ∧ resource ≠ .cutter ∧ ((s.mbx.queue.find? fun e => e.phase = .holds resource) = some f) ∧ nextWaiting (resourceDone f s) resource = none) ∧
    (∃ (resource : Resource) (s : State), (resource = .argon ∨ resource = .cutter)) ∧
    (∃ (g : Ring) (readBack : Bool) (b : Bytes) (s : State), firstOf s.recorder g = some b ∧ writesNow s g (seqOf b) = true) ∧
    (∃ (g : Ring) (readBack : Bool) (b : Bytes) (s : State), firstOf s.recorder g = some b ∧ writesNow s g (seqOf b) = false) ∧
    (∃ (g : Ring) (readBack : Bool) (s : State), firstOf s.recorder g = none) ∧
    (∃ (g : Ring) (s : State), ((ringOf s.recorder g).pendingSuppressed ≠ [] ∨ (ringOf s.recorder g).pendingFurther ≠ 0) ∧ ringToken (reach ((ringOf s.recorder g).lastSuppressed + second 1) s) g = true) ∧
    (∃ (g : Ring) (s : State), ((ringOf s.recorder g).pendingSuppressed ≠ [] ∨ (ringOf s.recorder g).pendingFurther ≠ 0) ∧ ringToken (reach ((ringOf s.recorder g).lastSuppressed + second 1) s) g = false) ∧
    (∃ (g : Ring) (s : State), (ringOf s.recorder g).pendingSuppressed = [] ∧ (ringOf s.recorder g).pendingFurther = 0) ∧
    (∃ (f : FreezeSt) (t : Nat) (s : State), s.recorder.freeze = some f ∧ f.since = some t) ∧
    (∃ (s : State), s.recorder.freeze = none) ∧
    (∃ (t : ClearTicket) (s : State), s.recorder.ticket = some t) ∧
    (∃ (s : State), s.recorder.ticket = none) ∧
    (∃ (s : State), s.update.schedule ≠ 0 ∧ s.update.axis = 1 ∧ s.update.waitingSince = none ∧ s.update.ownGates = none ∧ hasMailbox s = true ∧ isStaged (reachLocal s.update.schedule s) = false) ∧
    (∃ (s : State), s.update.schedule ≠ 0 ∧ s.update.axis = 1 ∧ s.update.waitingSince = none ∧ s.update.ownGates = none ∧ hasMailbox s = true ∧ isStaged (reachLocal s.update.schedule s) = true ∧ (reachLocal s.update.schedule s).clock.state = .unset) ∧
    (∃ (status : Nat) (s : State), s.update.schedule ≠ 0 ∧ s.update.axis = 1 ∧ s.update.waitingSince = none ∧ s.update.ownGates = none ∧ hasMailbox s = true ∧ isStaged (reachLocal s.update.schedule s) = true ∧ (reachLocal s.update.schedule s).clock.state ≠ .unset ∧ ownGate (reachLocal s.update.schedule s) = some status) ∧
    (∃ (s : State), s.update.schedule ≠ 0 ∧ s.update.axis = 1 ∧ s.update.waitingSince = none ∧ s.update.ownGates = none ∧ hasMailbox s = true ∧ isStaged (reachLocal s.update.schedule s) = true ∧ (reachLocal s.update.schedule s).clock.state ≠ .unset ∧ ownGate (reachLocal s.update.schedule s) = none ∧ ((reachLocal s.update.schedule s).pair.enabled && changesSlipstream (reachLocal s.update.schedule s)) = true ∧ pairPackageGate (reachLocal s.update.schedule s) = true) ∧
    (∃ (s : State), s.update.schedule ≠ 0 ∧ s.update.axis = 1 ∧ s.update.waitingSince = none ∧ s.update.ownGates = none ∧ hasMailbox s = true ∧ isStaged (reachLocal s.update.schedule s) = true ∧ (reachLocal s.update.schedule s).clock.state ≠ .unset ∧ ownGate (reachLocal s.update.schedule s) = none ∧ ((reachLocal s.update.schedule s).pair.enabled && changesSlipstream (reachLocal s.update.schedule s)) = true ∧ pairPackageGate (reachLocal s.update.schedule s) = false) ∧
    (∃ (s : State), s.update.schedule ≠ 0 ∧ s.update.axis = 1 ∧ s.update.waitingSince = none ∧ s.update.ownGates = none ∧ hasMailbox s = true ∧ isStaged (reachLocal s.update.schedule s) = true ∧ (reachLocal s.update.schedule s).clock.state ≠ .unset ∧ ownGate (reachLocal s.update.schedule s) = none ∧ ((reachLocal s.update.schedule s).pair.enabled && changesSlipstream (reachLocal s.update.schedule s)) = false ∧ (reachLocal s.update.schedule s).pair.role = .active ∧ (reachLocal s.update.schedule s).pair.present = true) ∧
    (∃ (s : State), s.update.schedule ≠ 0 ∧ s.update.axis = 1 ∧ s.update.waitingSince = none ∧ s.update.ownGates = none ∧ hasMailbox s = true ∧ isStaged (reachLocal s.update.schedule s) = true ∧ (reachLocal s.update.schedule s).clock.state ≠ .unset ∧ ownGate (reachLocal s.update.schedule s) = none ∧ ((reachLocal s.update.schedule s).pair.enabled && changesSlipstream (reachLocal s.update.schedule s)) = false ∧ (reachLocal s.update.schedule s).pair.role = .active ∧ (reachLocal s.update.schedule s).pair.present = false) ∧
    (∃ (s : State), s.update.schedule ≠ 0 ∧ s.update.axis = 1 ∧ s.update.waitingSince = none ∧ s.update.ownGates = none ∧ hasMailbox s = true ∧ isStaged (reachLocal s.update.schedule s) = true ∧ (reachLocal s.update.schedule s).clock.state ≠ .unset ∧ ownGate (reachLocal s.update.schedule s) = none ∧ ((reachLocal s.update.schedule s).pair.enabled && changesSlipstream (reachLocal s.update.schedule s)) = false ∧ (reachLocal s.update.schedule s).pair.role ≠ .active) ∧
    (∃ (s : State), s.update.schedule = 0) ∧
    (∃ (t : Nat) (s : State), s.update.waitingSince = some t ∧ partnerReady s = true ∧ s.pair.handoverAt = none) ∧
    (∃ (t : Nat) (s : State), s.update.waitingSince = some t ∧ partnerReady s = true ∧ s.pair.handoverAt.isSome = true) ∧
    (∃ (t : Nat) (s : State), s.update.waitingSince = some t ∧ partnerReady s = false) ∧
    (∃ (s : State), s.update.waitingSince = none) ∧
    (∃ (s : State), s.update.onTrial = true ∧ s.module.state ≠ .stowed) ∧
    (∃ (s : State), s.update.onTrial = false) :=
  ⟨⟨default, 0, .partner, modProg (fun p => { p with cutting := some (0, .partner), slot0 := { smallSlot with image := none, load := none } }) loaded, rfl, rfl⟩,
   ⟨default, 0, .partner, 1, 0, modProg (fun p => { p with cutting := some (0, .partner), slot0 := { smallSlot with state := 1, image := none, load := some (1, []) } }) loaded, rfl, by decide +kernel⟩,
   ⟨⟨[], 0⟩, 0, .partner, small, ⟨0, 1, false, 0⟩, modProg (fun p => { p with cutting := some (0, .partner), slot0 := { smallSlot with load := none } }) loaded, rfl, rfl, rfl⟩,
   ⟨⟨[⟨⟨[[1]], [], []⟩, ⟨[[2]], [], []⟩, ⟨[[3]], [], []⟩⟩], 3⟩, 0, .partner, { small with functions := [], symbols := [] }, 0, ⟨⟨[[1]], [], []⟩, ⟨[[2]], [], []⟩, ⟨[[3]], [], []⟩⟩, modProg (fun p => { p with cutting := some (0, .partner), slot0 := { smallSlot with image := some { small with functions := [], symbols := [] }, load := none } }) loaded, rfl, rfl, by decide +kernel⟩,
   ⟨default, upkeep, by decide +kernel⟩,
   ⟨{ small with functions := [], symbols := [] }, ⟨[⟨⟨[[1]], [], []⟩, ⟨[[2]], [], []⟩, ⟨[[3]], [], []⟩⟩], 3⟩, 0, ⟨⟨[[1]], [], []⟩, ⟨[[2]], [], []⟩, ⟨[[3]], [], []⟩⟩, by decide +kernel⟩,
   ⟨[2], 0, default, ⟨[1], 0, 1, 1, 0, [], ⟨[], [], []⟩, 0⟩, modProg (fun p => { p with cache := [⟨[1], 0, 1, 1, 0, [], ⟨[], [], []⟩, 0⟩] }) loaded, by decide +kernel, by decide +kernel, by decide +kernel⟩,
   ⟨modProg (fun p => { p with retentiveLoaded := true }) running, rfl, rfl⟩,
   ⟨upkeep, Or.inl rfl⟩,
   ⟨modProg (fun p => { p with commit := some default }) running, rfl⟩,
   ⟨modProg (fun p => { p with commit := some default }) running, rfl⟩,
   ⟨true, upkeep, rfl⟩,
   ⟨⟨1, 0, 0, false, false⟩, modProg (fun p => { p with recut := some ⟨1, 0, 0, false, false⟩ }) running, by decide +kernel, rfl⟩,
   ⟨⟨1, 0, 0, true, false⟩, modProg (fun p => { p with recut := some ⟨1, 0, 0, true, false⟩ }) running, by decide +kernel, rfl⟩,
   ⟨upkeep, by decide +kernel⟩,
   ⟨⟨1, 0, 0, true, false⟩, small, small, (modProg (fun p => { p with recut := some ⟨1, 0, 0, true, false⟩, state := .running }) loaded), by decide +kernel, by decide +kernel, loaded_translated rfl ⟨rfl, rfl⟩ 1 rfl, Or.inr (by decide +kernel), by decide +kernel, rfl, Or.inr (fun l => by cases l <;> rfl)⟩,
   ⟨⟨1, 0, 0, true, false⟩, small, small, .b, modLane .b (fun x => { x with state := .transferring }) (modProg (fun p => { p with recut := some ⟨1, 0, 0, true, false⟩, state := .running }) loaded), by decide +kernel, by decide +kernel, loaded_translated rfl ⟨rfl, rfl⟩ 1 rfl, by decide +kernel, by decide +kernel, by decide +kernel, rfl, by decide +kernel⟩,
   ⟨upkeep, by decide +kernel⟩,
   ⟨0, 9, upkeep, by decide +kernel⟩,
   ⟨0, 9, modAct (fun a => { a with sources := [(0, { origin := 1 })] }) upkeep, by decide +kernel⟩,
   ⟨0, 7, modAct (fun a => { a with sources := [(0, { origin := 1, started := some 7 })] }) upkeep, by decide +kernel, by decide +kernel⟩,
   ⟨0, 7, modAct (fun a => { a with sources := [(0, { origin := 1, waiting := some 7 })] }) upkeep, by decide +kernel, by decide +kernel⟩,
   ⟨0, upkeep, by decide +kernel, by decide +kernel⟩,
   ⟨9, modAct (fun a => { a with hold := some (some 9) }) upkeep, rfl⟩,
   ⟨upkeep, Or.inl rfl⟩,
   ⟨.flash, { waiting 5 with phase := .waits .flash }, modMbx (fun b => { b with queue := [{ waiting 5 with phase := .waits .flash }] }) upkeep, by decide +kernel, by decide +kernel, by decide +kernel, by decide +kernel⟩,
   ⟨.flash, { waiting 5 with phase := .waits .flash }, { waiting 6 with phase := .holds .flash }, modMbx (fun b => { b with queue := [{ waiting 6 with phase := .holds .flash }, { waiting 5 with phase := .waits .flash }] }) upkeep, by decide +kernel, by decide +kernel, by decide +kernel, by decide +kernel⟩,
   ⟨.flash, { waiting 6 with phase := .holds .flash }, modMbx (fun b => { b with queue := [{ waiting 6 with phase := .holds .flash }] }) upkeep, by decide +kernel, by decide +kernel, by decide +kernel, by decide +kernel⟩,
   ⟨.argon, upkeep, Or.inl rfl⟩,
   ⟨.general, true, (le 8 0 ++ List.replicate 120 (0 : Byte)), modRecorder (fun r => { r with buffer := [(.general, (le 8 0 ++ List.replicate 120 (0 : Byte)))] }) upkeep, by decide +kernel, by decide +kernel⟩,
   ⟨.general, true, (le 8 0 ++ List.replicate 120 (0 : Byte)), modRecorder (fun r => { r with buffer := [(.general, (le 8 0 ++ List.replicate 120 (0 : Byte)))], stopped := true }) upkeep, by decide +kernel, by decide +kernel⟩,
   ⟨.general, true, upkeep, by decide +kernel⟩,
   ⟨.general, modRecorder (fun r => { r with general := { r.general with pendingSuppressed := [⟨3, 1, 2⟩] } }) upkeep, Or.inl (by decide +kernel), by decide +kernel⟩,
   ⟨.general, modRecorder (fun r => { r with bucketGeneral := ⟨10 ^ 30, 0⟩, general := { r.general with pendingSuppressed := [⟨3, 1, 2⟩] } }) upkeep, Or.inl (by decide +kernel), by decide +kernel⟩,
   ⟨.general, upkeep, by decide +kernel, by decide +kernel⟩,
   ⟨⟨0, 0, some 7, 1, 5⟩, 7, modRecorder (fun r => { r with freeze := some ⟨0, 0, some 7, 1, 5⟩ }) upkeep, rfl, rfl⟩,
   ⟨upkeep, rfl⟩,
   ⟨default, modRecorder (fun r => { r with ticket := some default }) upkeep, rfl⟩,
   ⟨upkeep, rfl⟩,
   ⟨modUpdate (fun u => { u with schedule := 9, axis := 1, slotB := 0 }) (upkeep), by decide +kernel, rfl, rfl, rfl, by decide +kernel, by decide +kernel⟩,
   ⟨modUpdate (fun u => { u with schedule := 9, axis := 1, slotB := 1 }) (upkeep), by decide +kernel, rfl, rfl, rfl, by decide +kernel, by decide +kernel, by decide +kernel⟩,
   ⟨0x0E13, modUpdate (fun u => { u with schedule := 9, axis := 1, slotB := 1 }) (modClock (fun c => { c with state := .locked }) upkeep), by decide +kernel, rfl, rfl, rfl, by decide +kernel, by decide +kernel, by decide +kernel, by decide +kernel⟩,
   ⟨modUpdate (fun u => { u with schedule := 9, axis := 1, slotB := 1, setB := { slipstream := 2 } }) (modPair (fun p => { p with enabled := true, present := true, partnerSchedule := toNs 9 }) (modSafety (fun x => { x with standstill := true }) (modModule (fun m => { m with supplyMv := 24000, holdUpCharged := true }) (modClock (fun c => { c with state := .locked }) upkeep)))), by decide +kernel, rfl, rfl, rfl, by decide +kernel, by decide +kernel, by decide +kernel, by decide +kernel, by decide +kernel, by decide +kernel⟩,
   ⟨modUpdate (fun u => { u with schedule := 9, axis := 1, slotB := 1, setB := { slipstream := 2 } }) (modPair (fun p => { p with enabled := true }) (modSafety (fun x => { x with standstill := true }) (modModule (fun m => { m with supplyMv := 24000, holdUpCharged := true }) (modClock (fun c => { c with state := .locked }) upkeep)))), by decide +kernel, rfl, rfl, rfl, by decide +kernel, by decide +kernel, by decide +kernel, by decide +kernel, by decide +kernel, by decide +kernel⟩,
   ⟨modUpdate (fun u => { u with schedule := 9, axis := 1, slotB := 1 }) (modPair (fun p => { p with role := .active, present := true }) (modSafety (fun x => { x with standstill := true }) (modModule (fun m => { m with supplyMv := 24000, holdUpCharged := true }) (modClock (fun c => { c with state := .locked }) upkeep)))), by decide +kernel, rfl, rfl, rfl, by decide +kernel, by decide +kernel, by decide +kernel, by decide +kernel, by decide +kernel, by decide +kernel, by decide +kernel⟩,
   ⟨modUpdate (fun u => { u with schedule := 9, axis := 1, slotB := 1 }) (modPair (fun p => { p with role := .active }) (modSafety (fun x => { x with standstill := true }) (modModule (fun m => { m with supplyMv := 24000, holdUpCharged := true }) (modClock (fun c => { c with state := .locked }) upkeep)))), by decide +kernel, rfl, rfl, rfl, by decide +kernel, by decide +kernel, by decide +kernel, by decide +kernel, by decide +kernel, by decide +kernel, by decide +kernel⟩,
   ⟨modUpdate (fun u => { u with schedule := 9, axis := 1, slotB := 1 }) (modSafety (fun x => { x with standstill := true }) (modModule (fun m => { m with supplyMv := 24000, holdUpCharged := true }) (modClock (fun c => { c with state := .locked }) upkeep))), by decide +kernel, rfl, rfl, rfl, by decide +kernel, by decide +kernel, by decide +kernel, by decide +kernel, by decide +kernel, by decide +kernel⟩,
   ⟨upkeep, rfl⟩,
   ⟨7, modUpdate (fun u => { u with waitingSince := some 7 }) (modPair (fun p => { p with present := true, handoverAt := none }) upkeep), rfl, by decide +kernel, rfl⟩,
   ⟨7, modUpdate (fun u => { u with waitingSince := some 7 }) (modPair (fun p => { p with present := true, handoverAt := some 9 }) upkeep), rfl, by decide +kernel, rfl⟩,
   ⟨7, modUpdate (fun u => { u with waitingSince := some 7 }) (upkeep), rfl, by decide +kernel⟩,
   ⟨upkeep, rfl⟩,
   ⟨modUpdate (fun u => { u with onTrial := true }) upkeep, rfl, by decide +kernel⟩,
   ⟨upkeep, rfl⟩⟩

theorem met_position_and_safe_io_follow_their_events :
    (∃ (t : TickSense) (s : State), s.module.state ≠ .stowed ∧ s.module.state ≠ .halted) ∧
    (∃ (t : TickSense) (s : State), (s.module.state = .stowed ∨ s.module.state = .halted)) ∧
    (∃ (t : Nat) (s : State), s.safety.speedClearFrom = some t ∧ s.safety.speedViolated = true ∧ positionInvalid s = false) ∧
    (∃ (s : State), (s.safety.speedClearFrom = none ∨ s.safety.speedViolated = false ∨ positionInvalid s = true)) ∧
    (∃ (t : Nat) (s : State), s.safety.stillFrom = some t ∧ s.safety.standstill = false ∧ positionInvalid s = false) ∧
    (∃ (s : State), (s.safety.stillFrom = none ∨ s.safety.standstill = true ∨ positionInvalid s = true)) ∧
    (∃ (w : Nat) (x : Window) (s : State), Tbl.find s.safety.windows w = some x ∧ windowField (params s) w 8 2 ≠ 0) ∧
    (∃ (w : Nat) (x : Window) (s : State), Tbl.find s.safety.windows w = some x ∧ windowField (params s) w 8 2 = 0) ∧
    (∃ (w : Nat) (s : State), Tbl.find s.safety.windows w = none) ∧
    (∃ (s : State), ((s.pos.channel1.bridging.any fun g => 50000 ≤ g.total) = true)) ∧
    (∃ (s : State), ((s.pos.channel1.bridging.any fun g => 50000 ≤ g.total) = false)) ∧
    (∃ (axle : Nat) (s : State), axle = 1 ∧ 10000 ≤ s.pos.fault1.clean) ∧
    (∃ (axle : Nat) (s : State), axle = 1 ∧ s.pos.fault1.clean < 10000) ∧
    (∃ (axle : Nat) (s : State), axle ≠ 1 ∧ 10000 ≤ s.pos.fault2.clean) ∧
    (∃ (axle : Nat) (s : State), axle ≠ 1 ∧ s.pos.fault2.clean < 10000) ∧
    (∃ (n : Nat) (s : State), (cueOf s n).awaits 1 = true ∧ (cueOf s n).windowDue = false) ∧
    (∃ (n : Nat) (s : State), ((cueOf s n).awaits 1 = false ∨ (cueOf s n).windowDue = true)) ∧
    (∃ (i mv0 mv1 : Nat) (s : State), inputsSampled s = true) ∧
    (∃ (un mv : Nat) (previous : Bool), 0 < un) ∧
    (∃ (i : Nat) (s : State), inputsSampled s = true) ∧
    (∃ (i path : Nat) (s : State), inputsSampled s = true) ∧
    (∃ (i path : Nat) (s : State), inputsSampled s = true) ∧
    (∃ (source : Nat) (readings : List PulseReading) (s : State), s.safety.testPulses = true) ∧
    (∃ (source : Nat) (readings : List PulseReading) (s : State), s.safety.testPulses = true) ∧
    (∃ (source : Nat) (readings : List PulseReading) (ok : Bool) (s : State), s.safety.testPulses = false) ∧
    (∃ (k t first : Nat) (s : State), pairFirst s (2 * k) = some first ∧ (inputOf s (2 * k)).discrepantSince = some t) ∧
    (∃ (k : Nat) (s : State), (inputOf s (2 * k)).discrepantSince = none) ∧
    (∃ (i t : Nat) (s : State), (outputOf s i).releasedAt = some t ∧ (outputOf s i).timedOut = false) ∧
    (∃ (i : Nat) (s : State), ((outputOf s i).releasedAt = none ∨ (outputOf s i).timedOut = true)) ∧
    (∃ (i : Nat) (s : State), terminalOn s i = true) ∧
    (∃ (i : Nat) (s : State), terminalOn s i = false) ∧
    (∃ (i : Nat) (s : State), inputsSampled s = true ∧ Lane.all.any (pairOn s i) = false) ∧
    (∃ (i : Nat) (s : State), Lane.all.any (pairOn s i) = true) ∧
    (∃ (i w : Nat) (passed : Bool) (s : State), inputsSampled s = true ∧ outputEnabled s i = true ∧ s.safety.fieldLow = false) ∧
    (∃ (i w : Nat) (passed : Bool) (s : State), inputsSampled s = true ∧ outputEnabled s i = true ∧ s.safety.fieldLow = false ∧ switchTestable s i w = false) ∧
    (∃ (i w : Nat) (s : State), inputsSampled s = true ∧ outputEnabled s i = true ∧ s.safety.fieldLow = false ∧ switchTestable s i w = true) ∧
    (∃ (i w : Nat) (s : State), inputsSampled s = true ∧ outputEnabled s i = true ∧ s.safety.fieldLow = false ∧ switchTestable s i w = true) ∧
    (∃ (i w : Nat) (passed sense : Bool) (s : State), (inputsSampled s = false ∨ outputEnabled s i = false ∨ s.safety.fieldLow = true)) ∧
    (∃ (i : Nat) (s : State), inputsSampled s = true ∧ outputEnabled s i = true ∧ (outputOf s i).overdue = false) ∧
    (∃ (i : Nat) (s : State), (inputsSampled s = false ∨ outputEnabled s i = false ∨ (outputOf s i).overdue = true)) ∧
    (∃ (channel : Lane) (crc : Word64) (s : State), inputsSampled s = true ∧ crc.toNat = paramCrc (params s)) ∧
    (∃ (channel : Lane) (crc : Word64) (s : State), inputsSampled s = true ∧ crc.toNat ≠ paramCrc (params s)) ∧
    (∃ (i mv0 mv1 : Nat) (s : State), inputsSampled s = false) ∧
    (∃ (i : Nat) (s : State), inputsSampled s = false) ∧
    (∃ (i path : Nat) (shown : Bool) (s : State), inputsSampled s = false) ∧
    (∃ (channel : Lane) (crc : Word64) (s : State), inputsSampled s = false) ∧
    (∃ (volts : Nat) (s : State), inputsSampled s = true ∧ fieldBelow s volts = true ∧ s.safety.fieldLow = false) ∧
    (∃ (volts : Nat) (s : State), inputsSampled s = true ∧ fieldBelow s volts = true ∧ s.safety.fieldLow = true) ∧
    (∃ (volts : Nat) (s : State), (inputsSampled s = false ∨ fieldBelow s volts = false)) ∧
    (∃ (volts : Nat) (s : State), inputsSampled s = true ∧ fieldBelow s volts = false) ∧
    (∃ (volts : Nat) (s : State), (inputsSampled s = false ∨ fieldBelow s volts = true)) ∧
    (∃ (a b : Bool) (t : Nat) (s : State), inputsSampled s = true ∧ keyClosed s = true ∧ (a && b) = false ∧ s.safety.keyClosedAt = some t) ∧
    (∃ (a b : Bool) (s : State), inputsSampled s = true ∧ (keyClosed s = false ∨ (a && b) = true ∨ s.safety.keyClosedAt = none)) ∧
    (∃ (a b : Bool) (s : State), inputsSampled s = false) ∧
    (∃ (g : Arming) (t : Nat) (s : State), s.safety.arming = some g ∧ s.safety.keyClosedAt = some t ∧ g.mustOpen = false) ∧
    (∃ (g : Arming) (t : Nat) (s : State), s.safety.arming = some g ∧ s.safety.keyClosedAt = some t ∧ g.mustOpen = true) ∧
    (∃ (g : Arming) (t : Nat) (s : State), s.safety.arming = some g ∧ s.safety.keyDiscrepantSince = some t) ∧
    (∃ (g : Arming) (s : State), s.safety.arming = some g) ∧
    (∃ (s : State), s.safety.arming = none) ∧
    (∃ (s : State), s.safety.arming = none) ∧
    (∃ (s : State), s.safety.arming = none) :=
  ⟨⟨default, upkeep, by decide +kernel, by decide +kernel⟩,
   ⟨default, State.reset, Or.inl rfl⟩,
   ⟨7, modSafety (fun x => { x with speedClearFrom := some 7, speedViolated := true }) (modPos (fun p => { p with state := .valid }) upkeep), rfl, rfl, by decide +kernel⟩,
   ⟨upkeep, Or.inl rfl⟩,
   ⟨7, modSafety (fun x => { x with stillFrom := some 7 }) (modPos (fun p => { p with state := .valid }) upkeep), rfl, rfl, by decide +kernel⟩,
   ⟨upkeep, Or.inl rfl⟩,
   ⟨0, { opening := 0, forward := true, since := 7 }, modSafety (fun x => { x with active := some (Bytes.overwrite windowSet 0x238 [1]), windows := [(0, { opening := 0, forward := true, since := 7 })] }) (upkeep), by decide +kernel, by decide +kernel⟩,
   ⟨0, { opening := 0, forward := true, since := 7 }, modSafety (fun x => { x with windows := [(0, { opening := 0, forward := true, since := 7 })] }) (upkeep), by decide +kernel, by decide +kernel⟩,
   ⟨0, upkeep, by decide +kernel⟩,
   ⟨modPos (fun p => { p with channel1 := { p.channel1 with bridging := some ⟨50000, 50000, 0, 0, false⟩ } }) upkeep, by decide +kernel⟩,
   ⟨upkeep, by decide +kernel⟩,
   ⟨1, modPos (fun p => { p with fault1 := { faulted := true, clean := 10000 } }) upkeep, by decide +kernel, by decide +kernel⟩,
   ⟨1, modPos (fun p => { p with fault1 := { faulted := true, clean := 9999 } }) upkeep, by decide +kernel, by decide +kernel⟩,
   ⟨2, modPos (fun p => { p with fault2 := { faulted := true, clean := 10000 } }) upkeep, by decide +kernel, by decide +kernel⟩,
   ⟨2, modPos (fun p => { p with fault2 := { faulted := true, clean := 9999 } }) upkeep, by decide +kernel, by decide +kernel⟩,
   ⟨3, modPos (fun p => { p with cues := [(3, { state := .armed, request := [0, 1] })] }) upkeep, by decide +kernel, by decide +kernel⟩,
   ⟨3, upkeep, Or.inl (by decide +kernel)⟩,
   ⟨0, 24000, 24000, upkeep, by decide +kernel⟩,
   ⟨24, 7200, true, by decide⟩,
   ⟨0, upkeep, by decide +kernel⟩,
   ⟨0, 1, upkeep, by decide +kernel⟩,
   ⟨0, 1, upkeep, by decide +kernel⟩,
   ⟨1, [⟨3, true, false⟩], modSafety (fun x => { x with testPulses := true }) (upkeep), rfl⟩,
   ⟨1, [], modSafety (fun x => { x with testPulses := true }) (upkeep), rfl⟩,
   ⟨1, [], true, upkeep, rfl⟩,
   ⟨0, 7, 0, modSafety (fun x => { x with active := some (Bytes.overwrite (List.replicate 688 0) 0x20 [2]), inputs := [(0, { discrepantSince := some 7 })] }) (upkeep), by decide +kernel, by decide +kernel⟩,
   ⟨0, upkeep, by decide +kernel⟩,
   ⟨0, 7, modSafety (fun x => { x with outputs := [(0, { releasedAt := some 7 })] }) (upkeep), by decide +kernel, by decide +kernel⟩,
   ⟨0, upkeep, Or.inl (by decide +kernel)⟩,
   ⟨0, modSafety (fun x => { x with active := some windowSet, outputs := [(0, { commanded := 7, gates := 7 })] }) (Sys2Proof.Tests.service), by decide +kernel⟩,
   ⟨0, upkeep, by decide +kernel⟩,
   ⟨0, upkeep, by decide +kernel, by decide +kernel⟩,
   ⟨0, modSafety (fun x => { x with active := some windowSet, outputs := [(0, { commanded := 7, gates := 7 })] }) (Sys2Proof.Tests.service), by decide +kernel⟩,
   ⟨0, 1, true, modSafety (fun x => { x with active := some windowSet }) (upkeep), by decide +kernel, by decide +kernel, rfl⟩,
   ⟨0, 0, true, modSafety (fun x => { x with active := some windowSet, outputs := [(0, { commanded := 3, gates := 7 })] }) (Sys2Proof.Tests.service), by decide +kernel, by decide +kernel, rfl, by decide +kernel⟩,
   ⟨0, 1, modSafety (fun x => { x with active := some windowSet }) (upkeep), by decide +kernel, by decide +kernel, rfl, by decide +kernel⟩,
   ⟨0, 1, modSafety (fun x => { x with active := some windowSet }) (upkeep), by decide +kernel, by decide +kernel, rfl, by decide +kernel⟩,
   ⟨0, 1, true, true, State.reset, Or.inl (by decide +kernel)⟩,
   ⟨0, modSafety (fun x => { x with active := some windowSet }) (upkeep), by decide +kernel, by decide +kernel, by decide +kernel⟩,
   ⟨0, State.reset, Or.inl (by decide +kernel)⟩,
   ⟨.b, 0, modSafety (fun x => { x with active := some [] }) upkeep, by decide +kernel, by decide +kernel⟩,
   ⟨.b, 1, modSafety (fun x => { x with active := some [] }) (upkeep), by decide +kernel, by decide +kernel⟩,
   ⟨0, 24000, 24000, State.reset, by decide +kernel⟩,
   ⟨0, State.reset, by decide +kernel⟩,
   ⟨0, 1, true, State.reset, by decide +kernel⟩,
   ⟨.b, 0, State.reset, by decide +kernel⟩,
   ⟨5, upkeep, by decide +kernel, by decide +kernel, rfl⟩,
   ⟨5, modSafety (fun x => { x with fieldLow := true }) (upkeep), by decide +kernel, by decide +kernel, rfl⟩,
   ⟨5, State.reset, Or.inl (by decide +kernel)⟩,
   ⟨200, upkeep, by decide +kernel, by decide +kernel⟩,
   ⟨5, State.reset, Or.inl (by decide +kernel)⟩,
   ⟨true, false, 7, modSafety (fun x => { x with keyA := true, keyB := true, keyClosedAt := some 7 }) (upkeep), by decide +kernel, by decide +kernel, by decide +kernel, rfl⟩,
   ⟨true, true, upkeep, by decide +kernel, Or.inl (by decide +kernel)⟩,
   ⟨true, true, State.reset, by decide +kernel⟩,
   ⟨{ entry := 5, issuer := 1, name := [], since := 3, mustOpen := false }, 7, modSafety (fun x => { x with arming := some { entry := 5, issuer := 1, name := [], since := 3, mustOpen := false }, keyClosedAt := some 7 }) (upkeep), rfl, rfl, rfl⟩,
   ⟨{ entry := 5, issuer := 1, name := [], since := 3, mustOpen := true }, 7, modSafety (fun x => { x with arming := some { entry := 5, issuer := 1, name := [], since := 3, mustOpen := true }, keyClosedAt := some 7 }) (upkeep), rfl, rfl, rfl⟩,
   ⟨{ entry := 5, issuer := 1, name := [], since := 3, mustOpen := false }, 7, modSafety (fun x => { x with arming := some { entry := 5, issuer := 1, name := [], since := 3, mustOpen := false }, keyDiscrepantSince := some 7 }) (upkeep), rfl, rfl⟩,
   ⟨{ entry := 5, issuer := 1, name := [], since := 3, mustOpen := false }, modSafety (fun x => { x with arming := some { entry := 5, issuer := 1, name := [], since := 3, mustOpen := false } }) (upkeep), rfl⟩,
   ⟨upkeep, rfl⟩,
   ⟨upkeep, rfl⟩,
   ⟨upkeep, rfl⟩⟩

theorem met_streams_telegrams_and_the_backbone_follow_their_events :
    (∃ (port : Nat) (b : Bytes) (s : State), signalRuns s = true ∧ streamOk b = true ∧ knownStream s (Bytes.beField b 4 2 % 4096) = true) ∧
    (∃ (port : Nat) (b : Bytes) (s : State), signalRuns s = true ∧ knownStream s (Bytes.beField b 4 2 % 4096) = false) ∧
    (∃ (port : Nat) (b : Bytes) (s : State), signalRuns s = true ∧ 4 ≤ port ∧ port < 20 ∧ streamOk b = false ∧ knownStream s (Bytes.beField b 4 2 % 4096) = true) ∧
    (∃ (port : Nat) (b : Bytes) (s : State), signalRuns s = false) ∧
    (∃ (c : Nat) (s : State), (chanOf s c).enabled = true ∧ (chanOf s c).stale = false ∧ signalRuns s = true ∧ (((chanOf s c).config.autoSwitch && otherLive (modChan c (fun x => { x with staleEvents := x.staleEvents + 1 }) (reach (staleAt (chanOf s c) (chanOf s c).lastSample) s)) (chanOf s c)) = true)) ∧
    (∃ (c : Nat) (s : State), (chanOf s c).enabled = true ∧ (chanOf s c).stale = false ∧ signalRuns s = true ∧ (((chanOf s c).config.autoSwitch && otherLive (modChan c (fun x => { x with staleEvents := x.staleEvents + 1 }) (reach (staleAt (chanOf s c) (chanOf s c).lastSample) s)) (chanOf s c)) = false)) ∧
    (∃ (c : Nat) (s : State), ((chanOf s c).enabled = false ∨ (chanOf s c).stale = true ∨ signalRuns s = false)) ∧
    (∃ (c : Nat) (s : State), dissolveAdmitted s c = true) ∧
    (∃ (c : Nat) (s : State), dissolveAdmitted s c = false) ∧
    (∃ (c : Nat) (d : Dissolve) (s : State), (chanOf s c).dissolve = some d ∧ d.started = true ∧ d.k = d.length) ∧
    (∃ (c : Nat) (d : Dissolve) (s : State), (chanOf s c).dissolve = some d ∧ (d.started = false ∨ d.k ≠ d.length)) ∧
    (∃ (c : Nat) (s : State), (chanOf s c).dissolve = none) ∧
    (∃ (t : Telegram) (n : Nat) (s : State), fabricRuns s = true ∧ (receiveTelegram t s).2 = some n) ∧
    (∃ (t : Telegram) (s : State), fabricRuns s = true ∧ (receiveTelegram t s).2 = none) ∧
    (∃ (t : Telegram) (s : State), fabricRuns s = true ∧ s.pair.role ≠ .standby ∧ t.udpPort = 17224 ∧ t.fcsOk = true ∧ t.protocolOk = true ∧ t.kind = 2 ∧ ((s.net.flows.find? fun p => p.2.enabled && p.2.record.publishes && p.2.record.pull && p.2.record.comId = t.comId) = none)) ∧
    (∃ (t : Telegram) (n : Nat) (f : Flow) (s : State), fabricRuns s = true ∧ s.pair.role ≠ .standby ∧ t.udpPort = 17224 ∧ t.fcsOk = true ∧ t.protocolOk = true ∧ t.kind = 2 ∧ ((s.net.flows.find? fun p => p.2.enabled && p.2.record.publishes && p.2.record.pull && p.2.record.comId = t.comId) = some (n, f)) ∧ f.everReleased = true ∧ suspendedNow s f = false) ∧
    (∃ (t : Telegram) (n : Nat) (f : Flow) (s : State), fabricRuns s = true ∧ s.pair.role ≠ .standby ∧ t.udpPort = 17224 ∧ t.fcsOk = true ∧ t.protocolOk = true ∧ t.kind = 2 ∧ ((s.net.flows.find? fun p => p.2.enabled && p.2.record.publishes && p.2.record.pull && p.2.record.comId = t.comId) = some (n, f)) ∧ f.everReleased = true ∧ suspendedNow s f = true) ∧
    (∃ (t : Telegram) (n : Nat) (f : Flow) (s : State), fabricRuns s = true ∧ s.pair.role ≠ .standby ∧ t.udpPort = 17224 ∧ t.fcsOk = true ∧ t.protocolOk = true ∧ t.kind = 2 ∧ ((s.net.flows.find? fun p => p.2.enabled && p.2.record.publishes && p.2.record.pull && p.2.record.comId = t.comId) = some (n, f)) ∧ f.everReleased = false) ∧
    (∃ (t : Telegram) (s : State), s.pair.role = .standby) ∧
    (∃ (session comId : Nat) (envelope : Bytes) (s : State), hasMailbox s = true ∧ reelRuns s = true ∧ comId = s.mbx.commandComId ∧ isPeer s session = true ∧ 32 ≤ envelope.length) ∧
    (∃ (session comId : Nat) (envelope : Bytes) (s : State), hasMailbox s = true ∧ reelRuns s = false) ∧
    (∃ (session comId : Nat) (envelope : Bytes) (s : State), hasMailbox s = true ∧ reelRuns s = true ∧ (comId ≠ s.mbx.commandComId ∨ isPeer s session = false ∨ envelope.length < 32)) ∧
    (∃ (n : Nat) (f : Flow) (s : State), flowOf s n = some f ∧ f.fresh = true) ∧
    (∃ (n : Nat) (f : Flow) (s : State), flowOf s n = some f ∧ f.fresh = false) ∧
    (∃ (n : Nat) (s : State), flowOf s n = none) ∧
    (∃ (n : Nat) (f : Flow) (s : State), flowOf s n = some f ∧ f.enabled = true ∧ f.record.publishes = true ∧ f.record.scheduled = true ∧ s.pair.role ≠ .standby ∧ slotMaps (reachLocal (nextLaunch f * 1000 * nsUnit) s) n = []) ∧
    (∃ (n : Nat) (f : Flow) (s : State), flowOf s n = some f ∧ f.enabled = true ∧ f.record.publishes = true ∧ f.record.scheduled = true ∧ s.pair.role ≠ .standby ∧ slotMaps (reachLocal (nextLaunch f * 1000 * nsUnit) s) n ≠ []) ∧
    (∃ (n : Nat) (f : Flow) (s : State), flowOf s n = some f ∧ (f.enabled = false ∨ f.record.publishes = false ∨ f.record.scheduled = false)) ∧
    (∃ (n : Nat) (s : State), flowOf s n = none) ∧
    (∃ (s : State), s.net.heartbeatOn = true ∧ hasMailbox s = true) ∧
    (∃ (s : State), (s.net.heartbeatOn = false ∨ hasMailbox s = false)) ∧
    (∃ (l : Nat) (s : State), lineRuns s l = true) ∧
    (∃ (l neighbour : Nat) (s : State), lineRuns s l = true ∧ (lineOf s l).neighbour = some neighbour) ∧
    (∃ (l neighbour : Nat) (s : State), lineRuns s l = true ∧ (lineOf s l).neighbour ≠ some neighbour) ∧
    (∃ (l : Nat) (s : State), (lineOf s l).neighbour.isSome = true ∧ lineRuns s l = true ∧ (lineOf s l).fast = false) ∧
    (∃ (l : Nat) (s : State), (lineOf s l).neighbour.isSome = true ∧ lineRuns s l = true ∧ (lineOf s l).fast = true ∧ (lineOf s l).missed < 2) ∧
    (∃ (l : Nat) (s : State), (lineOf s l).neighbour.isSome = true ∧ lineRuns s l = true ∧ (lineOf s l).fast = true ∧ 2 ≤ (lineOf s l).missed) ∧
    (∃ (l : Nat) (s : State), ((lineOf s l).neighbour = none ∨ lineRuns s l = false)) ∧
    (∃ (l : Nat) (s : State), lineRuns s l = false) ∧
    (∃ (l neighbour : Nat) (s : State), lineRuns s l = false) ∧
    (∃ (l : Nat) (s : State), lineRuns s l = true ∧ reelRuns s = true) ∧
    (∃ (l : Nat) (changed : Bool) (s : State), (lineRuns s l = false ∨ reelRuns s = false ∨ changed = false)) ∧
    (∃ (d : Directory) (s : State), s.net.inaugurating.isSome = true ∧ reelRuns s = true) ∧
    (∃ (d : Directory) (s : State), (s.net.inaugurating = none ∨ reelRuns s = false)) :=
  ⟨⟨4, ([0x4B, 0x53, 1, 1, 0, 5, 0, 1] ++ List.replicate 19 (0 : Byte)), modSignal (fun x => { x with channels := [(0, { configured := true, config := { primary := 5 } })] }) upkeep, by decide +kernel, by decide +kernel, by decide +kernel⟩,
   ⟨4, ([0x4B, 0x53, 1, 1, 0, 5, 0, 1] ++ List.replicate 19 (0 : Byte)), upkeep, by decide +kernel, by decide +kernel⟩,
   ⟨4, ([0x4B, 0x53, 2, 1, 0, 5, 0, 1] ++ List.replicate 19 (0 : Byte)), modSignal (fun x => { x with channels := [(0, { configured := true, config := { primary := 5 } })] }) upkeep, by decide +kernel, by decide, by decide, by decide +kernel, by decide +kernel⟩,
   ⟨0, [], State.reset, by decide +kernel⟩,
   ⟨0, modSignal (fun x => { x with channels := [(0, { enabled := true, config := { autoSwitch := true, primary := 5, alternate := 6, alternateSignal := 3 } })], streams := [(6, { expected := 0, last := [0, 0, 0, 0], arrivedAt := 10 ^ 12 })] }) upkeep, by decide +kernel, by decide +kernel, by decide +kernel, by decide +kernel⟩,
   ⟨0, modSignal (fun x => { x with channels := [(0, { enabled := true, config := { autoSwitch := true, primary := 5, alternate := 6, alternateSignal := 3 } })], streams := [] }) upkeep, by decide +kernel, by decide +kernel, by decide +kernel, by decide +kernel⟩,
   ⟨0, upkeep, Or.inl (by decide +kernel)⟩,
   ⟨0, modSignal (fun x => { x with channels := [(0, { enabled := true, configured := true, bank := [1], n := 600, staged := some ⟨0, [1]⟩, dissolve := some ⟨4, false, 0, 1, 5⟩ })] }) upkeep, by decide +kernel⟩,
   ⟨0, upkeep, by decide +kernel⟩,
   ⟨0, ⟨4, true, 4, 0, 5⟩, modSignal (fun x => { x with channels := [(0, { staged := some ⟨0, [1]⟩, dissolve := some ⟨4, true, 4, 0, 5⟩ })] }) upkeep, by decide +kernel, rfl, rfl⟩,
   ⟨0, ⟨4, true, 3, 0, 5⟩, modSignal (fun x => { x with channels := [(0, { staged := some ⟨0, [1]⟩, dissolve := some ⟨4, true, 3, 0, 5⟩ })] }) upkeep, by decide +kernel, Or.inr (by decide)⟩,
   ⟨0, upkeep, by decide +kernel⟩,
   ⟨({ udpPort := 17224, fcsOk := true, protocolOk := true, kind := 0, comId := 9, source := 1, destination := 0, etbTopo := 0, opTrnTopo := 0, onEtb := false, sequence := 0, header := [], data := [] }), 3, modNet (fun n => { n with flows := [(3, { record := { direction := 2, flags := 0, comId := 9, destination := 0, source := 0, vlan := 0, pcp := 0, dscp := 0, length := 0, context := 0, period := 1000, timeout := 0, offset := 0, stream := 0, relative := 0, smi := 0, udv := 0, ncm := 0, latency := 0 }, enabled := true })] }) (upkeep), by decide +kernel, by decide +kernel⟩,
   ⟨({ udpPort := 17224, fcsOk := true, protocolOk := true, kind := 0, comId := 9, source := 1, destination := 0, etbTopo := 0, opTrnTopo := 0, onEtb := false, sequence := 0, header := [], data := [] }), upkeep, by decide +kernel, by decide +kernel⟩,
   ⟨({ udpPort := 17224, fcsOk := true, protocolOk := true, kind := 2, comId := 9, source := 1, destination := 0, etbTopo := 0, opTrnTopo := 0, onEtb := false, sequence := 0, header := [], data := [] }), upkeep, by decide +kernel, by decide +kernel, rfl, rfl, rfl, rfl, by decide +kernel⟩,
   ⟨({ udpPort := 17224, fcsOk := true, protocolOk := true, kind := 2, comId := 9, source := 1, destination := 0, etbTopo := 0, opTrnTopo := 0, onEtb := false, sequence := 0, header := [], data := [] }), 3, { record := { direction := 1, flags := 32, comId := 9, destination := 0, source := 0, vlan := 0, pcp := 0, dscp := 0, length := 0, context := 0, period := 1000, timeout := 0, offset := 0, stream := 0, relative := 0, smi := 0, udv := 0, ncm := 0, latency := 0 }, enabled := true, everReleased := true }, modNet (fun n => { n with flows := [(3, { record := { direction := 1, flags := 32, comId := 9, destination := 0, source := 0, vlan := 0, pcp := 0, dscp := 0, length := 0, context := 0, period := 1000, timeout := 0, offset := 0, stream := 0, relative := 0, smi := 0, udv := 0, ncm := 0, latency := 0 }, enabled := true, everReleased := true })] }) (upkeep), by decide +kernel, by decide +kernel, rfl, rfl, rfl, rfl, by decide +kernel, by decide +kernel, by decide +kernel⟩,
   ⟨({ udpPort := 17224, fcsOk := true, protocolOk := true, kind := 2, comId := 9, source := 1, destination := 0, etbTopo := 0, opTrnTopo := 0, onEtb := false, sequence := 0, header := [], data := [] }), 3, { record := { direction := 1, flags := 40, comId := 9, destination := 0, source := 0, vlan := 0, pcp := 0, dscp := 0, length := 0, context := 0, period := 1000, timeout := 0, offset := 0, stream := 0, relative := 0, smi := 0, udv := 0, ncm := 0, latency := 0 }, enabled := true, everReleased := true }, modNet (fun n => { n with flows := [(3, { record := { direction := 1, flags := 40, comId := 9, destination := 0, source := 0, vlan := 0, pcp := 0, dscp := 0, length := 0, context := 0, period := 1000, timeout := 0, offset := 0, stream := 0, relative := 0, smi := 0, udv := 0, ncm := 0, latency := 0 }, enabled := true, everReleased := true })], inaugurating := some 1 }) (upkeep), by decide +kernel, by decide +kernel, rfl, rfl, rfl, rfl, by decide +kernel, by decide +kernel, by decide +kernel⟩,
   ⟨({ udpPort := 17224, fcsOk := true, protocolOk := true, kind := 2, comId := 9, source := 1, destination := 0, etbTopo := 0, opTrnTopo := 0, onEtb := false, sequence := 0, header := [], data := [] }), 3, { record := { direction := 1, flags := 32, comId := 9, destination := 0, source := 0, vlan := 0, pcp := 0, dscp := 0, length := 0, context := 0, period := 1000, timeout := 0, offset := 0, stream := 0, relative := 0, smi := 0, udv := 0, ncm := 0, latency := 0 }, enabled := true }, modNet (fun n => { n with flows := [(3, { record := { direction := 1, flags := 32, comId := 9, destination := 0, source := 0, vlan := 0, pcp := 0, dscp := 0, length := 0, context := 0, period := 1000, timeout := 0, offset := 0, stream := 0, relative := 0, smi := 0, udv := 0, ncm := 0, latency := 0 }, enabled := true })] }) (upkeep), by decide +kernel, by decide +kernel, rfl, rfl, rfl, rfl, by decide +kernel, by decide +kernel⟩,
   ⟨default, modPair (fun p => { p with role := .standby }) upkeep, rfl⟩,
   ⟨1, 41601, List.replicate 32 0, modMbx (fun b => { b with commandComId := 41601 }) (modTrust (fun t => { t with sessions := [(1, { user with kind := .peer })] }) upkeep), by decide +kernel, by decide +kernel, rfl, by decide +kernel, by decide +kernel⟩,
   ⟨1, 41601, [], modModule (fun m => { m with reelDownSince := some 1 }) upkeep, by decide +kernel, by decide +kernel⟩,
   ⟨1, 0, [], upkeep, by decide +kernel, by decide +kernel, Or.inr (Or.inr (by decide))⟩,
   ⟨3, { record := { direction := 2, flags := 0, comId := 9, destination := 0, source := 0, vlan := 0, pcp := 0, dscp := 0, length := 0, context := 0, period := 1000, timeout := 0, offset := 0, stream := 0, relative := 0, smi := 0, udv := 0, ncm := 0, latency := 0 }, enabled := true, fresh := true }, modNet (fun n => { n with flows := [(3, { record := { direction := 2, flags := 0, comId := 9, destination := 0, source := 0, vlan := 0, pcp := 0, dscp := 0, length := 0, context := 0, period := 1000, timeout := 0, offset := 0, stream := 0, relative := 0, smi := 0, udv := 0, ncm := 0, latency := 0 }, enabled := true, fresh := true })] }) (upkeep), by decide +kernel, rfl⟩,
   ⟨3, { record := { direction := 2, flags := 0, comId := 9, destination := 0, source := 0, vlan := 0, pcp := 0, dscp := 0, length := 0, context := 0, period := 1000, timeout := 0, offset := 0, stream := 0, relative := 0, smi := 0, udv := 0, ncm := 0, latency := 0 }, enabled := true }, modNet (fun n => { n with flows := [(3, { record := { direction := 2, flags := 0, comId := 9, destination := 0, source := 0, vlan := 0, pcp := 0, dscp := 0, length := 0, context := 0, period := 1000, timeout := 0, offset := 0, stream := 0, relative := 0, smi := 0, udv := 0, ncm := 0, latency := 0 }, enabled := true })] }) (upkeep), by decide +kernel, rfl⟩,
   ⟨3, upkeep, by decide +kernel⟩,
   ⟨3, { record := { direction := 1, flags := 4, comId := 9, destination := 0, source := 0, vlan := 0, pcp := 0, dscp := 0, length := 0, context := 0, period := 1000, timeout := 0, offset := 0, stream := 0, relative := 0, smi := 0, udv := 0, ncm := 0, latency := 0 }, enabled := true }, modNet (fun n => { n with flows := [(3, { record := { direction := 1, flags := 4, comId := 9, destination := 0, source := 0, vlan := 0, pcp := 0, dscp := 0, length := 0, context := 0, period := 1000, timeout := 0, offset := 0, stream := 0, relative := 0, smi := 0, udv := 0, ncm := 0, latency := 0 }, enabled := true })] }) (upkeep), by decide +kernel, rfl, by decide +kernel, by decide +kernel, by decide +kernel, by decide +kernel⟩,
   ⟨3, { record := { direction := 1, flags := 4, comId := 9, destination := 0, source := 0, vlan := 0, pcp := 0, dscp := 0, length := 0, context := 0, period := 1000, timeout := 0, offset := 0, stream := 0, relative := 0, smi := 0, udv := 0, ncm := 0, latency := 0 }, enabled := true }, modMvb (fun m => { m with maps := [(0, { slot := 3, ports := [] })] }) (modNet (fun n => { n with flows := [(3, { record := { direction := 1, flags := 4, comId := 9, destination := 0, source := 0, vlan := 0, pcp := 0, dscp := 0, length := 0, context := 0, period := 1000, timeout := 0, offset := 0, stream := 0, relative := 0, smi := 0, udv := 0, ncm := 0, latency := 0 }, enabled := true })] }) (upkeep)), by decide +kernel, rfl, by decide +kernel, by decide +kernel, by decide +kernel, by decide +kernel⟩,
   ⟨3, { record := { direction := 1, flags := 0, comId := 9, destination := 0, source := 0, vlan := 0, pcp := 0, dscp := 0, length := 0, context := 0, period := 1000, timeout := 0, offset := 0, stream := 0, relative := 0, smi := 0, udv := 0, ncm := 0, latency := 0 }, enabled := true }, modNet (fun n => { n with flows := [(3, { record := { direction := 1, flags := 0, comId := 9, destination := 0, source := 0, vlan := 0, pcp := 0, dscp := 0, length := 0, context := 0, period := 1000, timeout := 0, offset := 0, stream := 0, relative := 0, smi := 0, udv := 0, ncm := 0, latency := 0 }, enabled := true })] }) (upkeep), by decide +kernel, Or.inr (Or.inr (by decide +kernel))⟩,
   ⟨3, upkeep, by decide +kernel⟩,
   ⟨modNet (fun n => { n with heartbeatOn := true }) upkeep, rfl, by decide +kernel⟩,
   ⟨upkeep, Or.inl rfl⟩,
   ⟨1, modNet (fun n => { n with ports := [(1, { up := true, config := { enabled := true } })], ttdp := [(1, { fast := true })] }) upkeep, by decide +kernel⟩,
   ⟨1, 7, modNet (fun n => { n with ports := [(1, { up := true, config := { enabled := true } })], ttdp := [(1, { neighbour := some 7 })] }) upkeep, by decide +kernel, by decide +kernel⟩,
   ⟨1, 7, modNet (fun n => { n with ports := [(1, { up := true, config := { enabled := true } })], ttdp := [(1, { neighbour := some 6 })] }) upkeep, by decide +kernel, by decide +kernel⟩,
   ⟨1, modNet (fun n => { n with ports := [(1, { up := true, config := { enabled := true } })], ttdp := [(1, { neighbour := some 6 })] }) upkeep, by decide +kernel, by decide +kernel, by decide +kernel⟩,
   ⟨1, modNet (fun n => { n with ports := [(1, { up := true, config := { enabled := true } })], ttdp := [(1, { neighbour := some 6, fast := true, missed := 1 })] }) upkeep, by decide +kernel, by decide +kernel, by decide +kernel, by decide +kernel⟩,
   ⟨1, modNet (fun n => { n with ports := [(1, { up := true, config := { enabled := true } })], ttdp := [(1, { neighbour := some 6, fast := true, missed := 2 })] }) upkeep, by decide +kernel, by decide +kernel, by decide +kernel, by decide +kernel⟩,
   ⟨1, upkeep, Or.inl (by decide +kernel)⟩,
   ⟨1, State.reset, by decide +kernel⟩,
   ⟨1, 7, State.reset, by decide +kernel⟩,
   ⟨1, modNet (fun n => { n with ports := [(1, { up := true, config := { enabled := true } })], ttdp := [(1, {  })] }) upkeep, by decide +kernel, by decide +kernel⟩,
   ⟨1, true, State.reset, Or.inl (by decide +kernel)⟩,
   ⟨default, modNet (fun n => { n with inaugurating := some 1 }) upkeep, by decide +kernel, by decide +kernel⟩,
   ⟨default, upkeep, Or.inl rfl⟩⟩

theorem met_the_fabric_follows_its_events :
    (∃ (p : Nat) (f : RxFrame) (cause : Nat) (s : State), fabricRuns s = true ∧ (ingressDrop (modPort p (fun x => { x with framesIn := x.framesIn + 1, octetsIn := x.octetsIn + f.bytes.length }) s) p f = some cause) ∧ cause = dropStream) ∧
    (∃ (p : Nat) (f : RxFrame) (cause : Nat) (s : State), fabricRuns s = true ∧ (ingressDrop (modPort p (fun x => { x with framesIn := x.framesIn + 1, octetsIn := x.octetsIn + f.bytes.length }) s) p f = some cause) ∧ cause ≠ dropStream) ∧
    (∃ (p : Nat) (f : RxFrame) (s : State), fabricRuns s = true ∧ (ingressDrop (modPort p (fun x => { x with framesIn := x.framesIn + 1, octetsIn := x.octetsIn + f.bytes.length }) s) p f = none) ∧ frameType f.bytes = 0x88B6) ∧
    (∃ (p : Nat) (f : RxFrame) (s : State), fabricRuns s = true ∧ (ingressDrop (modPort p (fun x => { x with framesIn := x.framesIn + 1, octetsIn := x.octetsIn + f.bytes.length }) s) p f = none) ∧ frameType f.bytes ≠ 0x88B6) ∧
    (∃ (p : Nat) (f : RxFrame) (s : State), fabricRuns s = false) ∧
    (∃ (p t : Nat) (s : State), (portOf s p).sending = some t) ∧
    (∃ (p : Nat) (s : State), (portOf s p).sending = none) ∧
    (∃ (mac vlan : Nat) (e : Learned) (s : State), learnedEntry s mac vlan = some e) ∧
    (∃ (mac vlan : Nat) (s : State), learnedEntry s mac vlan = none) ∧
    (∃ (p : Nat) (g : GateList) (s : State), (portOf s p).gates = some g) ∧
    (∃ (p : Nat) (s : State), (portOf s p).gates = none) ∧
    (∃ (p : Nat) (g : GateList) (s : State), (portOf s p).gatesNext = some g) ∧
    (∃ (p : Nat) (s : State), (portOf s p).gatesNext = none) ∧
    (∃ (n : Nat) (f : Frer) (s : State), Tbl.find s.net.frer n = some f ∧ f.recovery.isSome = true ∧ f.highest.isSome = true) ∧
    (∃ (n : Nat) (f : Frer) (s : State), Tbl.find s.net.frer n = some f ∧ (f.recovery = none ∨ f.highest = none)) ∧
    (∃ (n path t : Nat) (f : Frer) (s : State), Tbl.find s.net.frer n = some f ∧ Tbl.find f.paths path = some t ∧ f.recovery.isSome = true ∧ f.latent.contains path = false) ∧
    (∃ (n path t : Nat) (f : Frer) (s : State), Tbl.find s.net.frer n = some f ∧ Tbl.find f.paths path = some t ∧ f.recovery.isSome = true ∧ f.latent.contains path = true) ∧
    (∃ (n : Nat) (s : State), Tbl.find s.net.frer n = none) ∧
    (∃ (n path : Nat) (s : State), Tbl.find s.net.frer n = none) ∧
    (∃ (port : Nat) (up : Bool) (rate : Nat) (s : State), s.module.state ≠ .stowed ∧ s.module.state ≠ .halted ∧ (port = 32 ∨ port = 33)) ∧
    (∃ (port : Nat) (up : Bool) (rate : Nat) (s : State), s.module.state ≠ .stowed ∧ s.module.state ≠ .halted ∧ port ≠ 32 ∧ port ≠ 33 ∧ internalPort port = false ∧ ((portOf s port).up && !up && directionLost port (ptpLink port up (portLink port up rate s))) = true) ∧
    (∃ (port : Nat) (up : Bool) (rate : Nat) (s : State), s.module.state ≠ .stowed ∧ s.module.state ≠ .halted ∧ port ≠ 32 ∧ port ≠ 33 ∧ internalPort port = false ∧ ((portOf s port).up && !up && directionLost port (ptpLink port up (portLink port up rate s))) = false) ∧
    (∃ (port : Nat) (up : Bool) (rate : Nat) (s : State), s.module.state ≠ .stowed ∧ s.module.state ≠ .halted ∧ port ≠ 32 ∧ port ≠ 33 ∧ internalPort port = true) ∧
    (∃ (port : Nat) (up : Bool) (rate : Nat) (s : State), (s.module.state = .stowed ∨ s.module.state = .halted)) ∧
    (∃ (r : Nat) (closed : Bool) (s : State), closed = s.net.relaysOpen ∧ hasBit s.net.relayFaults r = false) ∧
    (∃ (r : Nat) (closed : Bool) (s : State), closed ≠ s.net.relaysOpen ∧ hasBit s.net.relayFaults r = true) ∧
    (∃ (r : Nat) (closed : Bool) (s : State), (closed = s.net.relaysOpen ↔ hasBit s.net.relayFaults r = true)) ∧
    (∃ (cage level : Nat) (s : State), level ≤ 2) ∧
    (∃ (cage level : Nat) (readable : Bool) (s : State), (readable = false ∨ 2 < level) ∧ cagePort cage < 28) ∧
    (∃ (cage level : Nat) (readable : Bool) (s : State), (readable = false ∨ 2 < level) ∧ 28 ≤ cagePort cage) ∧
    (∃ (s : State), s.test.squall = true ∧ (s.test.backpressure.toNat / 2 ^ 16) ≠ 0 ∧ (s.test.backpressure.toNat % 2 ^ 16) ≠ 0) ∧
    (∃ (s : State), (s.test.squall = false ∨ (s.test.backpressure.toNat / 2 ^ 16) = 0 ∨ (s.test.backpressure.toNat % 2 ^ 16) = 0)) ∧
    (∃ (port t : Nat) (s : State), port < 2 ∧ (slipPort s port).startAt = some t) ∧
    (∃ (port : Nat) (s : State), port < 2 ∧ (slipPort s port).startAt = none) ∧
    (∃ (port : Nat) (s : State), 2 ≤ port) ∧
    (∃ (s : State), slipLit s = true) ∧
    (∃ (s : State), slipLit s = false) :=
  ⟨⟨5, ⟨List.replicate 12 (0 : Byte) ++ [0x88, 0xB6] ++ List.replicate 50 0, true, .clear⟩, dropStream, modNet (fun n => { n with ports := [(5, { up := true, rate := 1000, config := { enabled := true } })] }) upkeep, by decide +kernel, by decide +kernel, rfl⟩,
   ⟨5, ⟨List.replicate 12 (0 : Byte) ++ [8, 0] ++ List.replicate 50 0, false, .clear⟩, dropFcs, modNet (fun n => { n with ports := [(5, { up := true, rate := 1000, config := { enabled := true } })] }) upkeep, by decide +kernel, by decide +kernel, by decide⟩,
   ⟨5, ⟨List.replicate 12 (0 : Byte) ++ [0x88, 0xB6, 0x4B, 0x53, 1, 1, 0, 5, 0, 1] ++ List.replicate 19 (0 : Byte), true, .clear⟩, modSignal (fun x => { x with channels := [(0, { configured := true, config := { primary := 5 } })] }) (modNet (fun n => { n with ports := [(5, { up := true, rate := 1000, config := { enabled := true } })] }) upkeep), by decide +kernel, by decide +kernel, by decide +kernel⟩,
   ⟨5, ⟨List.replicate 12 (0 : Byte) ++ [8, 0] ++ List.replicate 50 0, true, .clear⟩, modNet (fun n => { n with ports := [(5, { up := true, rate := 1000, config := { enabled := true } })] }) upkeep, by decide +kernel, by decide +kernel, by decide +kernel⟩,
   ⟨5, ⟨List.replicate 12 (0 : Byte) ++ [8, 0] ++ List.replicate 50 0, true, .clear⟩, State.reset, by decide +kernel⟩,
   ⟨5, 9, modNet (fun n => { n with ports := [(5, { sending := some 9 })] }) upkeep, by decide +kernel⟩,
   ⟨5, upkeep, by decide +kernel⟩,
   ⟨7, 1, ⟨7, 1, 5, none, 3⟩, modNet (fun n => { n with learned := [⟨7, 1, 5, none, 3⟩] }) upkeep, by decide +kernel⟩,
   ⟨7, 1, upkeep, by decide +kernel⟩,
   ⟨5, ⟨1000, 0, [(255, 1000)]⟩, modNet (fun n => { n with ports := [(5, { gates := some ⟨1000, 0, [(255, 1000)]⟩ })] }) upkeep, by decide +kernel⟩,
   ⟨5, upkeep, by decide +kernel⟩,
   ⟨5, ⟨1000, 0, [(255, 1000)]⟩, modNet (fun n => { n with ports := [(5, { gatesNext := some ⟨1000, 0, [(255, 1000)]⟩ })] }) upkeep, by decide +kernel⟩,
   ⟨5, upkeep, by decide +kernel⟩,
   ⟨2, { recovery := some 3, highest := some 4 }, modNet (fun n => { n with frer := [(2, { recovery := some 3, highest := some 4 })] }) upkeep, by decide +kernel, rfl, rfl⟩,
   ⟨2, {}, modNet (fun n => { n with frer := [(2, { nextSequence := 0 })] }) upkeep, by decide +kernel, Or.inl rfl⟩,
   ⟨2, 1, 6, { recovery := some 3, paths := [(1, 6)] }, modNet (fun n => { n with frer := [(2, { recovery := some 3, paths := [(1, 6)] })] }) upkeep, by decide +kernel, by decide +kernel, rfl, by decide +kernel⟩,
   ⟨2, 1, 6, { recovery := some 3, paths := [(1, 6)], latent := [1] }, modNet (fun n => { n with frer := [(2, { recovery := some 3, paths := [(1, 6)], latent := [1] })] }) upkeep, by decide +kernel, by decide +kernel, rfl, by decide +kernel⟩,
   ⟨2, upkeep, by decide +kernel⟩,
   ⟨2, 1, upkeep, by decide +kernel⟩,
   ⟨32, true, 0, upkeep, by decide +kernel, by decide +kernel, Or.inl rfl⟩,
   ⟨1, false, 100, modNet (fun n => { n with ports := [(1, { up := true })] }) upkeep, by decide +kernel, by decide +kernel, by decide, by decide, by decide +kernel, by decide +kernel⟩,
   ⟨5, true, 1000, upkeep, by decide +kernel, by decide +kernel, by decide, by decide, by decide +kernel, by decide +kernel⟩,
   ⟨28, true, 0, upkeep, by decide +kernel, by decide +kernel, by decide, by decide, by decide +kernel⟩,
   ⟨5, true, 100, State.reset, Or.inl rfl⟩,
   ⟨2, false, upkeep, rfl, by decide +kernel⟩,
   ⟨2, true, modNet (fun n => { n with relayFaults := 4 }) upkeep, by decide +kernel, by decide +kernel⟩,
   ⟨2, true, upkeep, by decide +kernel⟩,
   ⟨1, 2, upkeep, by decide⟩,
   ⟨0, 3, true, upkeep, Or.inr (by decide), by decide⟩,
   ⟨2, 3, true, upkeep, Or.inr (by decide), by decide⟩,
   ⟨modTest (fun t => { t with squall := true, backpressure := 0x00640001 }) upkeep, rfl, by decide +kernel, by decide +kernel⟩,
   ⟨upkeep, Or.inl rfl⟩,
   ⟨1, 9, modPair (fun p => { p with link1 := { startAt := some 9 } }) upkeep, by decide, by decide +kernel⟩,
   ⟨1, upkeep, by decide, by decide +kernel⟩,
   ⟨2, upkeep, by decide⟩,
   ⟨upkeep, by decide +kernel⟩,
   ⟨State.reset, by decide +kernel⟩⟩

theorem met_the_mvb_and_the_clock_follow_their_events :
    (∃ (b : Nat) (s : State), busRuns s b = true ∧ (busOf s b).master = true ∧ s.pair.role ≠ .standby) ∧
    (∃ (b : Nat) (s : State), (busRuns s b = false ∨ (busOf s b).master = false ∨ s.pair.role = .standby)) ∧
    (∃ (b address : Nat) (s : State), busRuns s b = true ∧ (address = ownDevice (countMissed b (modBus b (fun x => { x with framesReceived := x.framesReceived + 1 }) s)) b)) ∧
    (∃ (b address : Nat) (s : State), busRuns s b = true ∧ (address ≠ ownDevice (countMissed b (modBus b (fun x => { x with framesReceived := x.framesReceived + 1 }) s)) b) ∧ ((statusList (countMissed b (modBus b (fun x => { x with framesReceived := x.framesReceived + 1 }) s)) b).contains address = true)) ∧
    (∃ (b address : Nat) (s : State), busRuns s b = true ∧ (address ≠ ownDevice (countMissed b (modBus b (fun x => { x with framesReceived := x.framesReceived + 1 }) s)) b) ∧ ((statusList (countMissed b (modBus b (fun x => { x with framesReceived := x.framesReceived + 1 }) s)) b).contains address = false)) ∧
    (∃ (b fcode address : Nat) (p : MvbPort) (s : State), busRuns s b = true ∧ fcode ≠ 15 ∧ (mvbPort (countMissed b (modBus b (fun x => { x with framesReceived := x.framesReceived + 1 }) s)) (b * 4096 + address) = some p) ∧ p.record.size = fcode) ∧
    (∃ (b fcode address : Nat) (p : MvbPort) (s : State), busRuns s b = true ∧ fcode ≠ 15 ∧ (mvbPort (countMissed b (modBus b (fun x => { x with framesReceived := x.framesReceived + 1 }) s)) (b * 4096 + address) = some p) ∧ p.record.size ≠ fcode) ∧
    (∃ (b fcode address : Nat) (s : State), busRuns s b = true ∧ fcode ≠ 15 ∧ (mvbPort (countMissed b (modBus b (fun x => { x with framesReceived := x.framesReceived + 1 }) s)) (b * 4096 + address) = none)) ∧
    (∃ (b fcode address : Nat) (s : State), busRuns s b = false) ∧
    (∃ (b fcode address : Nat) (data : Bytes) (s : State), busRuns s b = true) ∧
    (∃ (b address : Nat) (data : Bytes) (lineA lineB : Bool) (s : State), busRuns s b = true ∧ (lineA = true ∨ lineB = true)) ∧
    (∃ (b fcode address : Nat) (data : Bytes) (lineA lineB : Bool) (p : MvbPort) (s : State), busRuns s b = true ∧ (lineA = true ∨ lineB = true) ∧ fcode ≠ 15 ∧ (mvbPort (modBus b (fun x => { x with framesReceived := x.framesReceived + 1 }) (modBus b (fun x => { x with lines := bit lineA + 2 * bit lineB, oneLine := x.oneLine + bit (lineA != lineB), errorsA := x.errorsA + bit (!lineA), errorsB := x.errorsB + bit (!lineB) }) s)) (b * 4096 + address) = some p) ∧ p.record.size = fcode ∧ data.length = p.record.bytes ∧ p.enabled = true ∧ p.record.direction = 2) ∧
    (∃ (b fcode address : Nat) (data : Bytes) (lineA lineB : Bool) (p : MvbPort) (s : State), busRuns s b = true ∧ (lineA = true ∨ lineB = true) ∧ fcode ≠ 15 ∧ (mvbPort (modBus b (fun x => { x with framesReceived := x.framesReceived + 1 }) (modBus b (fun x => { x with lines := bit lineA + 2 * bit lineB, oneLine := x.oneLine + bit (lineA != lineB), errorsA := x.errorsA + bit (!lineA), errorsB := x.errorsB + bit (!lineB) }) s)) (b * 4096 + address) = some p) ∧ p.record.size = fcode ∧ data.length = p.record.bytes ∧ p.enabled = true ∧ p.record.direction ≠ 2) ∧
    (∃ (b fcode address : Nat) (data : Bytes) (lineA lineB : Bool) (p : MvbPort) (s : State), busRuns s b = true ∧ (lineA = true ∨ lineB = true) ∧ fcode ≠ 15 ∧ (mvbPort (modBus b (fun x => { x with framesReceived := x.framesReceived + 1 }) (modBus b (fun x => { x with lines := bit lineA + 2 * bit lineB, oneLine := x.oneLine + bit (lineA != lineB), errorsA := x.errorsA + bit (!lineA), errorsB := x.errorsB + bit (!lineB) }) s)) (b * 4096 + address) = some p) ∧ (p.record.size ≠ fcode ∨ data.length ≠ p.record.bytes ∨ p.enabled = false)) ∧
    (∃ (b fcode address : Nat) (data : Bytes) (lineA lineB : Bool) (s : State), busRuns s b = true ∧ (lineA = true ∨ lineB = true) ∧ fcode ≠ 15 ∧ (mvbPort (modBus b (fun x => { x with framesReceived := x.framesReceived + 1 }) (modBus b (fun x => { x with lines := bit lineA + 2 * bit lineB, oneLine := x.oneLine + bit (lineA != lineB), errorsA := x.errorsA + bit (!lineA), errorsB := x.errorsB + bit (!lineB) }) s)) (b * 4096 + address) = none)) ∧
    (∃ (b fcode address : Nat) (data : Bytes) (lineA lineB : Bool) (s : State), busRuns s b = false) ∧
    (∃ (h : Nat) (p : MvbPort) (s : State), mvbPort s h = some p ∧ p.fresh = true ∧ p.record.direction = 2) ∧
    (∃ (h : Nat) (p : MvbPort) (s : State), mvbPort s h = some p ∧ (p.fresh = false ∨ p.record.direction ≠ 2)) ∧
    (∃ (h t : Nat) (p : MvbPort) (w : MvbWriteSt) (s : State), mvbPort s h = some p ∧ p.write = some w ∧ w.sent = some t) ∧
    (∃ (h : Nat) (p : MvbPort) (w : MvbWriteSt) (s : State), mvbPort s h = some p ∧ p.write = some w ∧ w.sent = none) ∧
    (∃ (h : Nat) (p : MvbPort) (s : State), mvbPort s h = some p ∧ p.write = none) ∧
    (∃ (h : Nat) (p : MvbPort) (r : Nat × Nat) (rest : Tbl Nat) (s : State), mvbPort s h = some p ∧ p.reads = r :: rest) ∧
    (∃ (h : Nat) (p : MvbPort) (s : State), mvbPort s h = some p ∧ p.reads = []) ∧
    (∃ (h t : Nat) (p : MvbPort) (s : State), mvbPort s h = some p ∧ p.unconfirmedSince = some t ∧ p.failed = false) ∧
    (∃ (h : Nat) (p : MvbPort) (s : State), mvbPort s h = some p ∧ (p.unconfirmedSince = none ∨ p.failed = true)) ∧
    (∃ (h : Nat) (s : State), mvbPort s h = none) ∧
    (∃ (h : Nat) (s : State), mvbPort s h = none) ∧
    (∃ (h : Nat) (s : State), mvbPort s h = none) ∧
    (∃ (h : Nat) (s : State), mvbPort s h = none) ∧
    (∃ (n : Nat) (x : Semaphore) (s : State), Tbl.find s.mvb.semaphores n = some x) ∧
    (∃ (n : Nat) (s : State), Tbl.find s.mvb.semaphores n = none) ∧
    (∃ (b : Nat) (s : State), busRuns s b = true ∧ (busOf s b).candidate = true ∧ s.pair.role ≠ .standby ∧ (busOf s b).master = false) ∧
    (∃ (b : Nat) (s : State), busRuns s b = true ∧ ((busOf s b).candidate = false ∨ s.pair.role = .standby ∨ (busOf s b).master = true)) ∧
    (∃ (b : Nat) (s : State), busRuns s b = false) ∧
    (∃ (k : PtpSource) (m : SyncMeasure) (s : State), fabricRuns s = true ∧ (instanceOf s k).grandmaster = some m.grandmaster ∧ (sourceInstance (modInstance k (fun x => { x with arb := m.arb }) ((slavePorts s k).foldl (fun t p => modPtpPort p (fun x => { x with syncReceived := x.syncReceived + 1, followUpReceived := x.followUpReceived + 1 }) t) s)) = some k)) ∧
    (∃ (k : PtpSource) (m : SyncMeasure) (s : State), fabricRuns s = true ∧ (instanceOf s k).grandmaster = some m.grandmaster ∧ (sourceInstance (modInstance k (fun x => { x with arb := m.arb }) ((slavePorts s k).foldl (fun t p => modPtpPort p (fun x => { x with syncReceived := x.syncReceived + 1, followUpReceived := x.followUpReceived + 1 }) t) s)) ≠ some k)) ∧
    (∃ (k : PtpSource) (m : SyncMeasure) (s : State), (fabricRuns s = false ∨ (instanceOf s k).grandmaster ≠ some m.grandmaster)) ∧
    (∃ (k : PtpSource) (p : Nat) (a : AnnounceMsg) (s : State), fabricRuns s = true ∧ portInstance p = some k ∧ a.selected = true) ∧
    (∃ (k : PtpSource) (p : Nat) (a : AnnounceMsg) (s : State), fabricRuns s = true ∧ portInstance p = some k ∧ a.selected = false) ∧
    (∃ (k : PtpSource) (p : Nat) (s : State), fabricRuns s = true ∧ portInstance p = some k) ∧
    (∃ (k : PtpSource) (p : Nat) (a : AnnounceMsg) (s : State), (fabricRuns s = false ∨ portInstance p ≠ some k)) ∧
    (∃ (k : PtpSource) (p : Nat) (s : State), (fabricRuns s = false ∨ portInstance p ≠ some k)) ∧
    (∃ (p delay : Nat) (capable : Bool) (k : PtpSource) (s : State), fabricRuns s = true ∧ portInstance p = some k) ∧
    (∃ (p delay : Nat) (capable : Bool) (s : State), (fabricRuns s = false ∨ portInstance p = none)) ∧
    (∃ (p : Nat) (kind : PtpKind) (s : State), fabricRuns s = true ∧ (portInstance p).isSome = true ∧ portUp s p = true ∧ (kind = .pdelay ∨ (ptpPort s p).portState = ptpMaster)) ∧
    (∃ (p : Nat) (kind : PtpKind) (s : State), (fabricRuns s = false ∨ portInstance p = none ∨ portUp s p = false ∨ kind ≠ .pdelay ∧ (ptpPort s p).portState ≠ ptpMaster)) :=
  ⟨⟨0, modMvb (fun m => { m with bus0 := { enabled := true, master := true }, ports := [] }) (upkeep), by decide +kernel, by decide +kernel, by decide +kernel⟩,
   ⟨0, upkeep, Or.inl (by decide +kernel)⟩,
   ⟨0, 5, modMvb (fun m => { m with bus0 := { enabled := true, device1 := 5 }, ports := [] }) (upkeep), by decide +kernel, by decide +kernel⟩,
   ⟨0, 6, modMvb (fun m => { m with bus0 := { enabled := true, device1 := 5, extra := [6] }, ports := [] }) (upkeep), by decide +kernel, by decide +kernel, by decide +kernel⟩,
   ⟨0, 6, modMvb (fun m => { m with bus0 := { enabled := true, device1 := 5 }, ports := [] }) (upkeep), by decide +kernel, by decide +kernel, by decide +kernel⟩,
   ⟨0, 1, 7, { record := ⟨1, 1, 1, 0, 4, 0, 0xFFFF, 0xFFFF, 0⟩ }, modMvb (fun m => { m with bus0 := { enabled := true }, ports := [(7, { record := ⟨1, 1, 1, 0, 4, 0, 0xFFFF, 0xFFFF, 0⟩ })] }) (upkeep), by decide +kernel, by decide, by decide +kernel, rfl⟩,
   ⟨0, 2, 7, { record := ⟨1, 1, 1, 0, 4, 0, 0xFFFF, 0xFFFF, 0⟩ }, modMvb (fun m => { m with bus0 := { enabled := true }, ports := [(7, { record := ⟨1, 1, 1, 0, 4, 0, 0xFFFF, 0xFFFF, 0⟩ })] }) (upkeep), by decide +kernel, by decide, by decide +kernel, by decide⟩,
   ⟨0, 2, 7, modMvb (fun m => { m with bus0 := { enabled := true }, ports := [] }) (upkeep), by decide +kernel, by decide, by decide +kernel⟩,
   ⟨0, 2, 7, upkeep, by decide +kernel⟩,
   ⟨0, 1, 7, [], modMvb (fun m => { m with bus0 := { enabled := true }, ports := [] }) (upkeep), by decide +kernel⟩,
   ⟨0, 7, [], true, false, modMvb (fun m => { m with bus0 := { enabled := true }, ports := [] }) (upkeep), by decide +kernel, Or.inl rfl⟩,
   ⟨0, 1, 7, [0, 0, 0, 0], true, true, { record := ⟨1, 2, 1, 0, 4, 0, 0xFFFF, 0xFFFF, 0⟩ }, modMvb (fun m => { m with bus0 := { enabled := true }, ports := [(7, { record := ⟨1, 2, 1, 0, 4, 0, 0xFFFF, 0xFFFF, 0⟩ })] }) (upkeep), by decide +kernel, Or.inl rfl, by decide, by decide +kernel, rfl, by decide +kernel, rfl, rfl⟩,
   ⟨0, 1, 7, [0, 0, 0, 0], true, true, { record := ⟨1, 1, 1, 0, 4, 0, 0xFFFF, 0xFFFF, 0⟩ }, modMvb (fun m => { m with bus0 := { enabled := true }, ports := [(7, { record := ⟨1, 1, 1, 0, 4, 0, 0xFFFF, 0xFFFF, 0⟩ })] }) (upkeep), by decide +kernel, Or.inl rfl, by decide, by decide +kernel, rfl, by decide +kernel, rfl, by decide⟩,
   ⟨0, 2, 7, [0, 0, 0, 0], true, true, { record := ⟨1, 2, 1, 0, 4, 0, 0xFFFF, 0xFFFF, 0⟩ }, modMvb (fun m => { m with bus0 := { enabled := true }, ports := [(7, { record := ⟨1, 2, 1, 0, 4, 0, 0xFFFF, 0xFFFF, 0⟩ })] }) (upkeep), by decide +kernel, Or.inl rfl, by decide, by decide +kernel, Or.inl (by decide)⟩,
   ⟨0, 2, 7, [], true, true, modMvb (fun m => { m with bus0 := { enabled := true }, ports := [] }) (upkeep), by decide +kernel, Or.inl rfl, by decide, by decide +kernel⟩,
   ⟨0, 2, 7, [], true, true, upkeep, by decide +kernel⟩,
   ⟨7, { record := ⟨1, 2, 1, 0, 4, 0, 0xFFFF, 0xFFFF, 0⟩, fresh := true }, modMvb (fun m => { m with bus0 := { enabled := true }, ports := [(7, { record := ⟨1, 2, 1, 0, 4, 0, 0xFFFF, 0xFFFF, 0⟩, fresh := true })] }) (upkeep), by decide +kernel, rfl, rfl⟩,
   ⟨7, { record := ⟨1, 2, 1, 0, 4, 0, 0xFFFF, 0xFFFF, 0⟩ }, modMvb (fun m => { m with bus0 := { enabled := true }, ports := [(7, { record := ⟨1, 2, 1, 0, 4, 0, 0xFFFF, 0xFFFF, 0⟩ })] }) (upkeep), by decide +kernel, Or.inl rfl⟩,
   ⟨7, 9, { record := ⟨1, 1, 1, 0, 4, 0, 0xFFFF, 0xFFFF, 0⟩, write := some { (default : MvbWriteSt) with sent := some 9 } }, { (default : MvbWriteSt) with sent := some 9 }, modMvb (fun m => { m with bus0 := { enabled := true }, ports := [(7, { record := ⟨1, 1, 1, 0, 4, 0, 0xFFFF, 0xFFFF, 0⟩, write := some { (default : MvbWriteSt) with sent := some 9 } })] }) (upkeep), by decide +kernel, rfl, rfl⟩,
   ⟨7, { record := ⟨1, 1, 1, 0, 4, 0, 0xFFFF, 0xFFFF, 0⟩, write := some { (default : MvbWriteSt) with sent := none } }, { (default : MvbWriteSt) with sent := none }, modMvb (fun m => { m with bus0 := { enabled := true }, ports := [(7, { record := ⟨1, 1, 1, 0, 4, 0, 0xFFFF, 0xFFFF, 0⟩, write := some { (default : MvbWriteSt) with sent := none } })] }) (upkeep), by decide +kernel, rfl, rfl⟩,
   ⟨7, { record := ⟨1, 1, 1, 0, 4, 0, 0xFFFF, 0xFFFF, 0⟩ }, modMvb (fun m => { m with bus0 := { enabled := true }, ports := [(7, { record := ⟨1, 1, 1, 0, 4, 0, 0xFFFF, 0xFFFF, 0⟩ })] }) (upkeep), by decide +kernel, rfl⟩,
   ⟨7, { record := ⟨1, 2, 1, 0, 4, 0, 0xFFFF, 0xFFFF, 0⟩, reads := [(5, 9)] }, (5, 9), [], modMvb (fun m => { m with bus0 := { enabled := true }, ports := [(7, { record := ⟨1, 2, 1, 0, 4, 0, 0xFFFF, 0xFFFF, 0⟩, reads := [(5, 9)] })] }) (upkeep), by decide +kernel, rfl⟩,
   ⟨7, { record := ⟨1, 2, 1, 0, 4, 0, 0xFFFF, 0xFFFF, 0⟩ }, modMvb (fun m => { m with bus0 := { enabled := true }, ports := [(7, { record := ⟨1, 2, 1, 0, 4, 0, 0xFFFF, 0xFFFF, 0⟩ })] }) (upkeep), by decide +kernel, rfl⟩,
   ⟨7, 9, { record := ⟨1, 1, 1, 0, 4, 0, 0xFFFF, 0xFFFF, 0⟩, unconfirmedSince := some 9 }, modMvb (fun m => { m with bus0 := { enabled := true }, ports := [(7, { record := ⟨1, 1, 1, 0, 4, 0, 0xFFFF, 0xFFFF, 0⟩, unconfirmedSince := some 9 })] }) (upkeep), by decide +kernel, rfl, rfl⟩,
   ⟨7, { record := ⟨1, 2, 1, 0, 4, 0, 0xFFFF, 0xFFFF, 0⟩ }, modMvb (fun m => { m with bus0 := { enabled := true }, ports := [(7, { record := ⟨1, 2, 1, 0, 4, 0, 0xFFFF, 0xFFFF, 0⟩ })] }) (upkeep), by decide +kernel, Or.inl rfl⟩,
   ⟨7, upkeep, by decide +kernel⟩,
   ⟨7, upkeep, by decide +kernel⟩,
   ⟨7, upkeep, by decide +kernel⟩,
   ⟨7, upkeep, by decide +kernel⟩,
   ⟨3, { holder := 1, ports := [], expires := 9 }, modMvb (fun m => { m with semaphores := [(3, { holder := 1, ports := [], expires := 9 })] }) upkeep, by decide +kernel⟩,
   ⟨3, upkeep, by decide +kernel⟩,
   ⟨0, modMvb (fun m => { m with bus0 := { enabled := true, candidate := true }, ports := [] }) (upkeep), by decide +kernel, by decide +kernel, by decide +kernel, by decide +kernel⟩,
   ⟨0, modMvb (fun m => { m with bus0 := { enabled := true }, ports := [] }) (upkeep), by decide +kernel, Or.inl (by decide +kernel)⟩,
   ⟨0, upkeep, by decide +kernel⟩,
   ⟨.etb, { theta := 5, pathDelay := 1, grandmaster := 9, arb := false, rate := 8, correctionPpm := 0 }, modClock (fun c => { c with etb := { grandmaster := some 9 }, ecn := { grandmaster := some 9 } }) upkeep, by decide +kernel, by decide +kernel, by decide +kernel⟩,
   ⟨.ecn, { theta := 5, pathDelay := 1, grandmaster := 9, arb := false, rate := 8, correctionPpm := 0 }, modClock (fun c => { c with etb := { grandmaster := some 9 }, ecn := { grandmaster := some 9 } }) upkeep, by decide +kernel, by decide +kernel, by decide +kernel⟩,
   ⟨.etb, { theta := 5, pathDelay := 1, grandmaster := 9, arb := false, rate := 8, correctionPpm := 0 }, upkeep, Or.inr (by decide +kernel)⟩,
   ⟨.etb, 1, ⟨9, 1, false, true⟩, upkeep, by decide +kernel, by decide +kernel, rfl⟩,
   ⟨.etb, 1, ⟨9, 1, false, false⟩, upkeep, by decide +kernel, by decide +kernel, rfl⟩,
   ⟨.ecn, 4, upkeep, by decide +kernel, by decide +kernel⟩,
   ⟨.etb, 1, ⟨9, 1, false, true⟩, State.reset, Or.inl (by decide +kernel)⟩,
   ⟨.etb, 1, State.reset, Or.inl (by decide +kernel)⟩,
   ⟨4, 800, true, .ecn, upkeep, by decide +kernel, by decide +kernel⟩,
   ⟨4, 800, true, State.reset, Or.inl (by decide +kernel)⟩,
   ⟨5, .sync, modClock (fun c => { c with ports := [(5, { portState := ptpMaster })] }) (modNet (fun n => { n with ports := [(5, { up := true })] }) upkeep), by decide +kernel, by decide +kernel, by decide +kernel, Or.inr (by decide +kernel)⟩,
   ⟨5, .sync, State.reset, Or.inl (by decide +kernel)⟩⟩

theorem met_the_pair_follows_its_events :
    (∃ (h : PairHello) (s : State), s.pair.enabled = true ∧ slipLit s = true ∧ (formationCause h (modPair (fun p => { p with partnerGeneration := h.generation }) s) = 0)) ∧
    (∃ (h : PairHello) (s : State), s.pair.enabled = true ∧ slipLit s = true ∧ (formationCause h (modPair (fun p => { p with partnerGeneration := h.generation }) s) ≠ 0)) ∧
    (∃ (h : PairHello) (s : State), (s.pair.enabled = false ∨ slipLit s = false)) ∧
    (∃ (s : State), s.pair.enabled = true ∧ s.pair.present = false ∧ s.pair.portsUp ≠ 0 ∧ slipLit s = true) ∧
    (∃ (s : State), (s.pair.enabled = false ∨ s.pair.present = true ∨ s.pair.portsUp = 0 ∨ slipLit s = false)) ∧
    (∃ (code : Nat) (payload : Bytes) (got : SlipArrival) (s u : State), wholeArrival got = true ∧ u = countArrival got s ∧ u.pair.present = true) ∧
    (∃ (message : PairControl) (got : SlipArrival) (s u : State), wholeArrival got = true ∧ u = countArrival got s ∧ u.pair.present = true ∧ ((∀ code payload, message ≠ .settings code payload))) ∧
    (∃ (t : Nat) (settings : Tbl Bytes) (forces : List Bytes) (tokens : List (Nat × Nat × Bytes)) (got : SlipArrival) (s u : State), wholeArrival got = true ∧ u = countArrival got s ∧ u.pair.present = true) ∧
    (∃ (object : Bytes) (got : SlipArrival) (s u : State), wholeArrival got = true ∧ u = countArrival got s ∧ u.pair.present = true) ∧
    (∃ (task : Nat) (records : Bytes) (crc : Word64) (got : SlipArrival) (s u : State), wholeArrival got = true ∧ u = countArrival got s ∧ u.pair.present = true) ∧
    (∃ (message : PairControl) (got : SlipArrival) (s u : State), wholeArrival got = true ∧ u = countArrival got s ∧ u.pair.present = false) ∧
    (∃ (message : PairResync) (got : SlipArrival) (s u : State), wholeArrival got = true ∧ u = countArrival got s ∧ u.pair.present = false) ∧
    (∃ (issuer token reasons : Nat) (got : SlipArrival) (s u : State), wholeArrival got = true ∧ u = countArrival got s ∧ u.pair.present = false) ∧
    (∃ (report : Bytes) (got : SlipArrival) (s u : State), wholeArrival got = true ∧ u = countArrival got s ∧ u.pair.present = false) ∧
    (∃ (issuer token reasons : Nat) (got : SlipArrival) (s u : State), wholeArrival got = true ∧ u = countArrival got s ∧ u.pair.present = true) ∧
    (∃ (report : Bytes) (got : SlipArrival) (s u : State), wholeArrival got = true ∧ u = countArrival got s ∧ u.pair.present = true ∧ Bytes.field report 6 1 = 0) ∧
    (∃ (report : Bytes) (got : SlipArrival) (s u : State), wholeArrival got = true ∧ u = countArrival got s ∧ u.pair.present = true ∧ Bytes.field report 6 1 ≠ 0) ∧
    (∃ (issuer token : Nat) (completion : Bytes) (got : SlipArrival) (s u : State), wholeArrival got = true ∧ u = countArrival got s ∧ u.pair.role = .standby) ∧
    (∃ (issuer token : Nat) (completion : Bytes) (got : SlipArrival) (s u : State), wholeArrival got = true ∧ u = countArrival got s ∧ u.pair.role ≠ .standby) ∧
    (∃ (task take : Nat) (s : State), s.pair.role ≠ .standby) ∧
    (∃ (port delay t : Nat) (got : SlipArrival) (s u v : State), wholeArrival got = true ∧ u = countArrival got s ∧ v = sendKeepalive port u ∧ hasBit u.pair.portsUp port = true ∧ v.pair.lightAt = some t ∧ t + second 1 ≤ v.time) ∧
    (∃ (port delay t : Nat) (got : SlipArrival) (s u v : State), wholeArrival got = true ∧ u = countArrival got s ∧ v = sendKeepalive port u ∧ hasBit u.pair.portsUp port = true ∧ v.pair.lightAt = some t ∧ v.time < t + second 1) ∧
    (∃ (port delay : Nat) (got : SlipArrival) (s u v : State), wholeArrival got = true ∧ u = countArrival got s ∧ v = sendKeepalive port u ∧ hasBit u.pair.portsUp port = true ∧ v.pair.lightAt = none) ∧
    (∃ (port delay : Nat) (got : SlipArrival) (s u : State), wholeArrival got = true ∧ u = countArrival got s ∧ hasBit u.pair.portsUp port = false) ∧
    (∃ (task take : Nat) (s : State), s.pair.role = .standby ∧ supervisedNow s = task ∧ Tbl.find s.pair.takeEnded task ≠ some take ∧ s.pair.portsUp ≠ 0 ∧ s.pair.telegramSeen = false) ∧
    (∃ (task take : Nat) (s : State), s.pair.role = .standby ∧ supervisedNow s = task ∧ Tbl.find s.pair.takeEnded task ≠ some take ∧ s.pair.portsUp = 0) ∧
    (∃ (task take : Nat) (s : State), s.pair.role = .standby ∧ supervisedNow s = task ∧ Tbl.find s.pair.takeEnded task ≠ some take ∧ s.pair.portsUp ≠ 0 ∧ s.pair.telegramSeen = true) ∧
    (∃ (t0 : Nat) (r : TaskRec) (s : State), s.pair.role = .standby ∧ s.pair.superviseT0 = some t0 ∧ supervisedRec s = some r ∧ s.pair.telegramSeen = true) ∧
    (∃ (t0 : Nat) (r : TaskRec) (s : State), s.pair.role = .standby ∧ s.pair.superviseT0 = some t0 ∧ supervisedRec s = some r ∧ s.pair.telegramSeen = false ∧ (2 ≤ (releaseEvery (modPair (fun p => { p with misses := p.misses + 1 }) (superviseNext t0 (reach (t0 + micro (r.deadline + 200)) s)))).pair.misses)) ∧
    (∃ (t0 : Nat) (r : TaskRec) (s : State), s.pair.role = .standby ∧ s.pair.superviseT0 = some t0 ∧ supervisedRec s = some r ∧ s.pair.telegramSeen = false ∧ ((releaseEvery (modPair (fun p => { p with misses := p.misses + 1 }) (superviseNext t0 (reach (t0 + micro (r.deadline + 200)) s)))).pair.misses < 2)) ∧
    (∃ (s : State), (s.pair.role ≠ .standby ∨ s.pair.superviseT0 = none)) ∧
    (∃ (t : Nat) (s : State), s.pair.takeoverAt = some t) ∧
    (∃ (s : State), s.pair.takeoverAt = none) ∧
    (∃ (h : Nat) (s : State), s.pair.handoverAt = some h ∧ (reachLocal (h * nsUnit) s).pair.role = .standby ∧ (decide ((reachLocal (h * nsUnit) s).pair.reasons = 0) && handoverBarred (reachLocal (h * nsUnit) s)) = false) ∧
    (∃ (h : Nat) (s : State), s.pair.handoverAt = some h ∧ (reachLocal (h * nsUnit) s).pair.role = .standby ∧ (decide ((reachLocal (h * nsUnit) s).pair.reasons = 0) && handoverBarred (reachLocal (h * nsUnit) s)) = true) ∧
    (∃ (h : Nat) (s : State), s.pair.handoverAt = some h ∧ (reachLocal (h * nsUnit) s).pair.role ≠ .standby ∧ partnerReady (reachLocal (h * nsUnit) s) = false) ∧
    (∃ (h : Nat) (s : State), s.pair.handoverAt = some h ∧ (reachLocal (h * nsUnit) s).pair.role ≠ .standby ∧ partnerReady (reachLocal (h * nsUnit) s) = true ∧ handoverBarred (reachLocal (h * nsUnit) s) = true) ∧
    (∃ (h : Nat) (s : State), s.pair.handoverAt = some h ∧ (reachLocal (h * nsUnit) s).pair.role ≠ .standby ∧ partnerReady (reachLocal (h * nsUnit) s) = true ∧ handoverBarred (reachLocal (h * nsUnit) s) = false) ∧
    (∃ (s : State), s.pair.handoverAt = none) ∧
    (∃ (rs : Nat) (s : State), s.pair.role = .active ∧ s.pair.resyncAt = some rs ∧ s.pair.resyncSent = false) ∧
    (∃ (s : State), (s.pair.role ≠ .active ∨ s.pair.resyncAt = none ∨ s.pair.resyncSent = true)) ∧
    (∃ (t : Nat) (s : State), s.pair.resyncRetry = some t ∧ (mayArm (modPair (fun p => { p with resyncRetry := none }) (reach t s)) resyncBars = true)) ∧
    (∃ (t : Nat) (s : State), s.pair.resyncRetry = some t ∧ (mayArm (modPair (fun p => { p with resyncRetry := none }) (reach t s)) resyncBars = false)) ∧
    (∃ (s : State), s.pair.resyncRetry = none) ∧
    (∃ (issuer token : Nat) (completion : Bytes) (got : SlipArrival) (s : State), wholeArrival got = false) ∧
    (∃ (message : PairControl) (got : SlipArrival) (s : State), wholeArrival got = false) ∧
    (∃ (message : PairResync) (got : SlipArrival) (s : State), wholeArrival got = false) ∧
    (∃ (issuer token reasons : Nat) (got : SlipArrival) (s : State), wholeArrival got = false) ∧
    (∃ (report : Bytes) (got : SlipArrival) (s : State), wholeArrival got = false) ∧
    (∃ (port delay : Nat) (got : SlipArrival) (s : State), wholeArrival got = false) ∧
    (∃ (m : PairSnapshot) (got : SlipArrival) (s u : State), wholeArrival got = true ∧ u = countArrival got s ∧ u.pair.role = .standby ∧ waitsForEnd m (Tbl.find u.pair.forwarded m.task) (noteSnapshot m u) = false) ∧
    (∃ (m : PairSnapshot) (got : SlipArrival) (s u : State), wholeArrival got = true ∧ u = countArrival got s ∧ u.pair.role = .standby ∧ waitsForEnd m (Tbl.find u.pair.forwarded m.task) (noteSnapshot m u) = true) ∧
    (∃ (m : PairSnapshot) (got : SlipArrival) (s : State), (s.pair.role ≠ .standby ∨ wholeArrival got = false)) ∧
    (∃ (e : PairTakeEnd) (got : SlipArrival) (s u : State), wholeArrival got = true ∧ u = countArrival got s ∧ u.pair.role = .standby) ∧
    (∃ (e : PairTakeEnd) (got : SlipArrival) (s u : State), wholeArrival got = false ∧ u = countArrival got s ∧ u.pair.role = .standby) ∧
    (∃ (e : PairTakeEnd) (got : SlipArrival) (s : State), s.pair.role ≠ .standby) :=
  ⟨⟨⟨2, ownGeneration upkeep, [], true, true, true, false, 0, 0, []⟩, modPair (fun p => { p with enabled := true, peer := [] }) (modModule (fun m => { m with side := 1 }) upkeep), rfl, by decide +kernel, by decide +kernel⟩,
   ⟨⟨2, 0, [], false, true, true, false, 0, 0, []⟩, modPair (fun p => { p with enabled := true }) (modModule (fun m => { m with side := 1 }) upkeep), rfl, by decide +kernel, by decide +kernel⟩,
   ⟨⟨2, 0, [], false, true, true, false, 0, 0, []⟩, upkeep, Or.inl rfl⟩,
   ⟨modPair (fun p => { p with enabled := true, portsUp := 1 }) (upkeep), rfl, rfl, by decide +kernel, by decide +kernel⟩,
   ⟨upkeep, Or.inl rfl⟩,
   ⟨0x0405, [], ⟨1, [⟨0, 0, true⟩]⟩, modPair (fun p => { p with present := true }) (upkeep), countArrival ⟨1, [⟨0, 0, true⟩]⟩ (modPair (fun p => { p with present := true }) (upkeep)), by decide, rfl, by decide +kernel⟩,
   ⟨.stop, ⟨1, [⟨0, 0, true⟩]⟩, modPair (fun p => { p with present := true }) (upkeep), countArrival ⟨1, [⟨0, 0, true⟩]⟩ (modPair (fun p => { p with present := true }) (upkeep)), by decide, rfl, by decide +kernel, fun _ _ => by simp⟩,
   ⟨9, [], [], [], ⟨1, [⟨0, 0, true⟩]⟩, modPair (fun p => { p with present := true }) (upkeep), countArrival ⟨1, [⟨0, 0, true⟩]⟩ (modPair (fun p => { p with present := true }) (upkeep)), by decide, rfl, by decide +kernel⟩,
   ⟨[], ⟨1, [⟨0, 0, true⟩]⟩, modPair (fun p => { p with present := true }) (upkeep), countArrival ⟨1, [⟨0, 0, true⟩]⟩ (modPair (fun p => { p with present := true }) (upkeep)), by decide, rfl, by decide +kernel⟩,
   ⟨0, [], 0, ⟨1, [⟨0, 0, true⟩]⟩, modPair (fun p => { p with present := true }) (upkeep), countArrival ⟨1, [⟨0, 0, true⟩]⟩ (modPair (fun p => { p with present := true }) (upkeep)), by decide, rfl, by decide +kernel⟩,
   ⟨.stop, ⟨1, [⟨0, 0, true⟩]⟩, upkeep, countArrival ⟨1, [⟨0, 0, true⟩]⟩ (upkeep), by decide, rfl, by decide +kernel⟩,
   ⟨.image [], ⟨1, [⟨0, 0, true⟩]⟩, upkeep, countArrival ⟨1, [⟨0, 0, true⟩]⟩ (upkeep), by decide, rfl, by decide +kernel⟩,
   ⟨1, 5, 0, ⟨1, [⟨0, 0, true⟩]⟩, upkeep, countArrival ⟨1, [⟨0, 0, true⟩]⟩ (upkeep), by decide, rfl, by decide +kernel⟩,
   ⟨[], ⟨1, [⟨0, 0, true⟩]⟩, upkeep, countArrival ⟨1, [⟨0, 0, true⟩]⟩ (upkeep), by decide, rfl, by decide +kernel⟩,
   ⟨1, 5, 0, ⟨1, [⟨0, 0, true⟩]⟩, modPair (fun p => { p with present := true }) (upkeep), countArrival ⟨1, [⟨0, 0, true⟩]⟩ (modPair (fun p => { p with present := true }) (upkeep)), by decide, rfl, by decide +kernel⟩,
   ⟨[], ⟨1, [⟨0, 0, true⟩]⟩, modPair (fun p => { p with present := true }) (upkeep), countArrival ⟨1, [⟨0, 0, true⟩]⟩ (modPair (fun p => { p with present := true }) (upkeep)), by decide, rfl, by decide +kernel, by decide +kernel⟩,
   ⟨[0, 0, 0, 0, 0, 0, 1], ⟨1, [⟨0, 0, true⟩]⟩, modPair (fun p => { p with present := true }) (upkeep), countArrival ⟨1, [⟨0, 0, true⟩]⟩ (modPair (fun p => { p with present := true }) (upkeep)), by decide, rfl, by decide +kernel, by decide +kernel⟩,
   ⟨1, 5, [], ⟨1, [⟨0, 0, true⟩]⟩, modPair (fun p => { p with role := .standby, present := true }) (running), countArrival ⟨1, [⟨0, 0, true⟩]⟩ (modPair (fun p => { p with role := .standby, present := true }) (running)), by decide, rfl, by decide +kernel⟩,
   ⟨1, 5, [], ⟨1, [⟨0, 0, true⟩]⟩, upkeep, countArrival ⟨1, [⟨0, 0, true⟩]⟩ (upkeep), by decide, rfl, by decide +kernel⟩,
   ⟨0, 5, upkeep, by decide +kernel⟩,
   ⟨0, 7, 0, ⟨1, [⟨0, 0, true⟩]⟩, reach (second 2) (modPair (fun p => { p with portsUp := 1, lightAt := some 0 }) (upkeep)), countArrival ⟨1, [⟨0, 0, true⟩]⟩ (reach (second 2) (modPair (fun p => { p with portsUp := 1, lightAt := some 0 }) (upkeep))), sendKeepalive 0 (countArrival ⟨1, [⟨0, 0, true⟩]⟩ (reach (second 2) (modPair (fun p => { p with portsUp := 1, lightAt := some 0 }) (upkeep)))), by decide, rfl, rfl, by decide +kernel, by decide +kernel, by decide +kernel⟩,
   ⟨0, 7, 0, ⟨1, [⟨0, 0, true⟩]⟩, modPair (fun p => { p with portsUp := 1, lightAt := some 0 }) (upkeep), countArrival ⟨1, [⟨0, 0, true⟩]⟩ (modPair (fun p => { p with portsUp := 1, lightAt := some 0 }) (upkeep)), sendKeepalive 0 (countArrival ⟨1, [⟨0, 0, true⟩]⟩ (modPair (fun p => { p with portsUp := 1, lightAt := some 0 }) (upkeep))), by decide, rfl, rfl, by decide +kernel, by decide +kernel, by decide +kernel⟩,
   ⟨0, 7, ⟨1, [⟨0, 0, true⟩]⟩, modPair (fun p => { p with portsUp := 1 }) (upkeep), countArrival ⟨1, [⟨0, 0, true⟩]⟩ (modPair (fun p => { p with portsUp := 1 }) (upkeep)), sendKeepalive 0 (countArrival ⟨1, [⟨0, 0, true⟩]⟩ (modPair (fun p => { p with portsUp := 1 }) (upkeep))), by decide, rfl, rfl, by decide +kernel, by decide +kernel⟩,
   ⟨0, 7, ⟨1, [⟨0, 0, true⟩]⟩, upkeep, countArrival ⟨1, [⟨0, 0, true⟩]⟩ (upkeep), by decide, rfl, by decide +kernel⟩,
   ⟨0, 5, modPair (fun p => { p with role := .standby, present := true, supervised := 0, portsUp := 1 }) (running), rfl, by decide +kernel, by decide +kernel, by decide +kernel, rfl⟩,
   ⟨0, 5, modPair (fun p => { p with role := .standby, present := true, supervised := 0, portsUp := 0 }) (running), rfl, by decide +kernel, by decide +kernel, rfl⟩,
   ⟨0, 5, modPair (fun p => { p with role := .standby, present := true, supervised := 0, portsUp := 1, telegramSeen := true }) (running), rfl, by decide +kernel, by decide +kernel, by decide +kernel, rfl⟩,
   ⟨7, task0, modPair (fun p => { p with role := .standby, present := true, supervised := 0, superviseT0 := some 7, telegramSeen := true }) running, rfl, rfl, by decide +kernel, rfl⟩,
   ⟨7, task0, modPair (fun p => { p with role := .standby, present := true, supervised := 0, superviseT0 := some 7, misses := 1 }) running, rfl, rfl, by decide +kernel, rfl, by decide +kernel⟩,
   ⟨7, task0, modPair (fun p => { p with role := .standby, present := true, supervised := 0, superviseT0 := some 7, misses := 0 }) running, rfl, rfl, by decide +kernel, rfl, by decide +kernel⟩,
   ⟨upkeep, Or.inr rfl⟩,
   ⟨9, modPair (fun p => { p with takeoverAt := some 9 }) (running), rfl⟩,
   ⟨upkeep, rfl⟩,
   ⟨9, modPair (fun p => { p with handoverAt := some 9, role := .standby }) (running), rfl, by decide +kernel, by decide +kernel⟩,
   ⟨9, modPair (fun p => { p with handoverAt := some 9, role := .standby, resyncAt := some 3 }) (running), rfl, by decide +kernel, by decide +kernel⟩,
   ⟨9, modPair (fun p => { p with handoverAt := some 9, role := .active }) (running), rfl, by decide +kernel, by decide +kernel⟩,
   ⟨9, modPair (fun p => { p with handoverAt := some 9, role := .active, present := true, resyncAt := some 3 }) (running), rfl, by decide +kernel, by decide +kernel, by decide +kernel⟩,
   ⟨9, modPair (fun p => { p with handoverAt := some 9, role := .active, present := true }) (running), rfl, by decide +kernel, by decide +kernel, by decide +kernel⟩,
   ⟨upkeep, rfl⟩,
   ⟨9, modPair (fun p => { p with role := .active, present := true, resyncAt := some 9 }) (running), rfl, rfl, rfl⟩,
   ⟨upkeep, Or.inr (Or.inl rfl)⟩,
   ⟨9, modPair (fun p => { p with role := .active, present := true, resyncRetry := some 9 }) (running), rfl, by decide +kernel⟩,
   ⟨9, modPair (fun p => { p with resyncRetry := some 9 }) (upkeep), rfl, by decide +kernel⟩,
   ⟨upkeep, rfl⟩,
   ⟨1, 5, [], ⟨1, [⟨0, 0, false⟩]⟩, upkeep, by decide⟩,
   ⟨.stop, ⟨1, [⟨0, 0, false⟩]⟩, upkeep, by decide⟩,
   ⟨.image [], ⟨1, [⟨0, 0, false⟩]⟩, upkeep, by decide⟩,
   ⟨1, 5, 0, ⟨1, [⟨0, 0, false⟩]⟩, upkeep, by decide⟩,
   ⟨[], ⟨1, [⟨0, 0, false⟩]⟩, upkeep, by decide⟩,
   ⟨0, 7, ⟨1, [⟨0, 0, false⟩]⟩, upkeep, by decide⟩,
   ⟨⟨0, [], [], []⟩, ⟨1, [⟨0, 0, true⟩]⟩, modPair (fun p => { p with role := .standby, present := true, reasons := 128 }) (running), countArrival ⟨1, [⟨0, 0, true⟩]⟩ (modPair (fun p => { p with role := .standby, present := true, reasons := 128 }) (running)), by decide, rfl, rfl, by decide +kernel⟩,
   ⟨⟨0, (List.replicate 8 (0 : Byte) ++ le 8 5), [], []⟩, ⟨1, [⟨0, 0, true⟩]⟩, modProg (fun p => { p with slot0 := { smallSlot with image := some cueImage } }) (modPair (fun p => { p with role := .standby, present := true, reasons := 128, forwarded := [(0, 4)] }) (running)), countArrival ⟨1, [⟨0, 0, true⟩]⟩ (modProg (fun p => { p with slot0 := { smallSlot with image := some cueImage } }) (modPair (fun p => { p with role := .standby, present := true, reasons := 128, forwarded := [(0, 4)] }) (running))), by decide, rfl, rfl, by decide +kernel⟩,
   ⟨default, ⟨1, [⟨0, 0, false⟩]⟩, running, Or.inr (by decide)⟩,
   ⟨default, ⟨1, [⟨0, 0, true⟩]⟩, modPair (fun p => { p with role := .standby, present := true }) (running), countArrival ⟨1, [⟨0, 0, true⟩]⟩ (modPair (fun p => { p with role := .standby, present := true }) (running)), by decide, rfl, rfl⟩,
   ⟨default, ⟨1, []⟩, modPair (fun p => { p with role := .standby, present := true }) (running), countArrival ⟨1, []⟩ (modPair (fun p => { p with role := .standby, present := true }) (running)), by decide, rfl, rfl⟩,
   ⟨default, ⟨1, [⟨0, 0, true⟩]⟩, upkeep, by decide +kernel⟩⟩

end Sys2Proof.Tests
end

section
/-! SUPPORT. Every command and event, and every step, goes onward from the state that it finds: the laws of the single operations put together. -/

namespace Sys2Proof.Machine

/-- The arms of the dispatch, each by the law of its own operation. -/
theorem exec_onward {s t : State} (h : Onward s t) (i : Instr) : Onto s (exec i t) :=
  match i with
  | .sessionLogin m => execSessionLogin_onward h m
  | .sessionEnd m => execSessionEnd_onward h m
  | .sessionList m => execSessionList_onward h m
  | .identityRead m => execIdentityRead_onward h m
  | .enrolRequest m => execEnrolRequest_onward h m
  | .enrolInstall m => execEnrolInstall_onward h m
  | .anchorRotate m => execAnchorRotate_onward h m
  | .credentialSet m => execCredentialSet_onward h m
  | .credentialRemove m => execCredentialRemove_onward h m
  | .saInstall m => execSaInstall_onward h m
  | .saRelease m => execSaRelease_onward h m
  | .ownerLock m => execOwnerLock_onward h m
  | .tamperAcknowledge m => execTamperAcknowledge_onward h m
  | .lullStatus m => execLullStatus_onward h m
  | .moduleStatus m => execModuleStatus_onward h m
  | .moduleInfo m => execModuleInfo_onward h m
  | .modeRequest m => execModeRequest_onward h m
  | .moduleRestart m => execModuleRestart_onward h m
  | .classControl m => execClassControl_onward h m
  | .tokenQuery m => execTokenQuery_onward h m
  | .mailboxCounters m => execMailboxCounters_onward h m
  | .laneStatus m => execLaneStatus_onward h m
  | .laneHealth m => execLaneHealth_onward h m
  | .laneTraceRead m => execLaneTraceRead_onward h m
  | .laneIsolate m => execLaneIsolate_onward h m
  | .laneReshoot m => execLaneReshoot_onward h m
  | .staggerSet m => execStaggerSet_onward h m
  | .voterTest m => execVoterTest_onward h m
  | .laneDiagClear m => execLaneDiagClear_onward h m
  | .programStatus m => execProgramStatus_onward h m
  | .imageLoad m => execImageLoad_onward h m
  | .programStart m => execProgramStart_onward h m
  | .programStop m => execProgramStop_onward h m
  | .recutStart m => execRecutStart_onward h m
  | .recutCancel m => execRecutCancel_onward h m
  | .forceSet m => execForceSet_onward h m
  | .forceClear m => execForceClear_onward h m
  | .forceList m => execForceList_onward h m
  | .variableRead m => execVariableRead_onward h m
  | .imageErase m => execImageErase_onward h m
  | .pairStatus m => execPairStatus_onward h m
  | .pairHealth m => execPairHealth_onward h m
  | .pairConfigure m => execPairConfigure_onward h m
  | .pairSwitchover m => execPairSwitchover_onward h m
  | .pairResync m => execPairResync_onward h m
  | .pairBudget m => execPairBudget_onward h m
  | .pairCounters m => execPairCounters_onward h m
  | .safetyStatus m => execSafetyStatus_onward h m
  | .safetyParamLoad m => execSafetyParamLoad_onward h m
  | .safetyParamActivate m => execSafetyParamActivate_onward h m
  | .lockoutEnter m => execLockoutEnter_onward h m
  | .lockoutReset m => execLockoutReset_onward h m
  | .changeLogRead m => execChangeLogRead_onward h m
  | .windowClose m => execWindowClose_onward h m
  | .safeIoTest m => execSafeIoTest_onward h m
  | .positionStatus m => execPositionStatus_onward h m
  | .positionConfigure m => execPositionConfigure_onward h m
  | .positionMark m => execPositionMark_onward h m
  | .positionAt m => execPositionAt_onward h m
  | .cueStatus m => execCueStatus_onward h m
  | .cueControl m => execCueControl_onward h m
  | .positionCounters m => execPositionCounters_onward h m
  | .signalStatus m => execSignalStatus_onward h m
  | .channelConfigure m => execChannelConfigure_onward h m
  | .coeffLoad m => execCoeffLoad_onward h m
  | .signalDissolve m => execSignalDissolve_onward h m
  | .channelControl m => execChannelControl_onward h m
  | .inputSwitch m => execInputSwitch_onward h m
  | .signalCounters m => execSignalCounters_onward h m
  | .netStatus m => execNetStatus_onward h m
  | .portConfigure m => execPortConfigure_onward h m
  | .portCounters m => execPortCounters_onward h m
  | .fdbPin m => execFdbPin_onward h m
  | .fdbUnpin m => execFdbUnpin_onward h m
  | .fdbRead m => execFdbRead_onward h m
  | .fdbFlush m => execFdbFlush_onward h m
  | .flowConfigure m => execFlowConfigure_onward h m
  | .flowControl m => execFlowControl_onward h m
  | .flowStatus m => execFlowStatus_onward h m
  | .frerConfigure m => execFrerConfigure_onward h m
  | .gateConfigure m => execGateConfigure_onward h m
  | .launchWrite m => execLaunchWrite_onward h m
  | .launchFlush m => execLaunchFlush_onward h m
  | .rnatConfigure m => execRnatConfigure_onward h m
  | .netSettings m => execNetSettings_onward h m
  | .mvbStatus m => execMvbStatus_onward h m
  | .mvbConfigure m => execMvbConfigure_onward h m
  | .mvbPortConfigure m => execMvbPortConfigure_onward h m
  | .mvbPortControl m => execMvbPortControl_onward h m
  | .mvbWrite m => execMvbWrite_onward h m
  | .mvbRead m => execMvbRead_onward h m
  | .mvbLock m => execMvbLock_onward h m
  | .mvbUnlock m => execMvbUnlock_onward h m
  | .mvbMap m => execMvbMap_onward h m
  | .mvbDevices m => execMvbDevices_onward h m
  | .mvbCounters m => execMvbCounters_onward h m
  | .timeStatus m => execTimeStatus_onward h m
  | .timeConfigure m => execTimeConfigure_onward h m
  | .timeSet m => execTimeSet_onward h m
  | .timePortStatus m => execTimePortStatus_onward h m
  | .activationStatus m => execActivationStatus_onward h m
  | .sourceConfigure m => execSourceConfigure_onward h m
  | .sourceMask m => execSourceMask_onward h m
  | .activationHold m => execActivationHold_onward h m
  | .activationTrigger m => execActivationTrigger_onward h m
  | .activationCounters m => execActivationCounters_onward h m
  | .recorderStatus m => execRecorderStatus_onward h m
  | .recorderRead m => execRecorderRead_onward h m
  | .recorderFreeze m => execRecorderFreeze_onward h m
  | .recorderRelease m => execRecorderRelease_onward h m
  | .recorderClearRequest m => execRecorderClearRequest_onward h m
  | .recorderClearConfirm m => execRecorderClearConfirm_onward h m
  | .recorderCounters m => execRecorderCounters_onward h m
  | .updateStatus m => execUpdateStatus_onward h m
  | .updateStage m => execUpdateStage_onward h m
  | .updateSchedule m => execUpdateSchedule_onward h m
  | .updateCancel m => execUpdateCancel_onward h m
  | .testStatus m => execTestStatus_onward h m
  | .testEnter m => execTestEnter_onward h m
  | .testExit m => execTestExit_onward h m
  | .squallSet m => execSquallSet_onward h m
  | .selfTestRun m => execSelfTestRun_onward h m
  | .kNop lane => execKNop_onward h lane
  | .kConst lane t d value => execKConst_onward h lane t d value
  | .kMov lane t r => execKMov_onward h lane t r
  | .kSel lane t r c => execKSel_onward h lane t r c
  | .kAdd lane t r => execKAdd_onward h lane t r
  | .kSub lane t r => execKSub_onward h lane t r
  | .kMul lane t r => execKMul_onward h lane t r
  | .kDiv lane t r => execKDiv_onward h lane t r
  | .kMod lane t r => execKMod_onward h lane t r
  | .kNeg lane t r => execKNeg_onward h lane t r
  | .kAbs lane t r => execKAbs_onward h lane t r
  | .kMin lane t r => execKMin_onward h lane t r
  | .kMax lane t r => execKMax_onward h lane t r
  | .kFma lane t r c => execKFma_onward h lane t r c
  | .kSqrt lane t r => execKSqrt_onward h lane t r
  | .kAnd lane t r => execKAnd_onward h lane t r
  | .kOr lane t r => execKOr_onward h lane t r
  | .kXor lane t r => execKXor_onward h lane t r
  | .kNot lane t r => execKNot_onward h lane t r
  | .kShl lane t tb r => execKShl_onward h lane t tb r
  | .kShr lane t tb r => execKShr_onward h lane t tb r
  | .kRol lane t tb r => execKRol_onward h lane t tb r
  | .kRor lane t tb r => execKRor_onward h lane t tb r
  | .kEq lane t r => execKEq_onward h lane t r
  | .kNe lane t r => execKNe_onward h lane t r
  | .kLt lane t r => execKLt_onward h lane t r
  | .kLe lane t r => execKLe_onward h lane t r
  | .kGt lane t r => execKGt_onward h lane t r
  | .kGe lane t r => execKGe_onward h lane t r
  | .kCvt lane t t2 r => execKCvt_onward h lane t t2 r
  | .kTrunc lane t t2 r => execKTrunc_onward h lane t t2 r
  | .kRound lane t t2 r => execKRound_onward h lane t t2 r
  | .kBits lane t t2 r => execKBits_onward h lane t t2 r
  | .kSin lane t r => execKSin_onward h lane t r
  | .kCos lane t r => execKCos_onward h lane t r
  | .kTan lane t r => execKTan_onward h lane t r
  | .kAsin lane t r => execKAsin_onward h lane t r
  | .kAcos lane t r => execKAcos_onward h lane t r
  | .kAtan lane t r => execKAtan_onward h lane t r
  | .kAtan2 lane t r => execKAtan2_onward h lane t r
  | .kExp lane t r => execKExp_onward h lane t r
  | .kLn lane t r => execKLn_onward h lane t r
  | .kLog10 lane t r => execKLog10_onward h lane t r
  | .kExpt lane t r => execKExpt_onward h lane t r
  | .kFloor lane t r => execKFloor_onward h lane t r
  | .kCeil lane t r => execKCeil_onward h lane t r
  | .kRint lane t r => execKRint_onward h lane t r
  | .kLd lane t r ref => execKLd_onward h lane t r ref
  | .kSt lane t r ref => execKSt_onward h lane t r ref
  | .kCopy lane source sourceLeaf target targetLeaf count => execKCopy_onward h lane source sourceLeaf target targetLeaf count
  | .kBlock lane => execKBlock_onward h lane
  | .kLoop lane bound => execKLoop_onward h lane bound
  | .kIf lane a => execKIf_onward h lane a
  | .kElse lane => execKElse_onward h lane
  | .kEnd lane => execKEnd_onward h lane
  | .kBreak lane depth => execKBreak_onward h lane depth
  | .kNext lane depth => execKNext_onward h lane depth
  | .kReturn lane => execKReturn_onward h lane
  | .kCall lane d a function => execKCall_onward h lane d a function
  | .kTimeNow lane d a => execKTimeNow_onward h lane d a
  | .kTakeInfo lane d a => execKTakeInfo_onward h lane d a
  | .kModes lane d a => execKModes_onward h lane d a
  | .kFaults lane d a => execKFaults_onward h lane d a
  | .kInputStatus lane d a => execKInputStatus_onward h lane d a
  | .kPosition lane d a => execKPosition_onward h lane d a
  | .kMbxIssue lane d a => execKMbxIssue_onward h lane d a
  | .kMbxResult lane d a => execKMbxResult_onward h lane d a
  | .kCueRequest lane d a => execKCueRequest_onward h lane d a
  | .kCueCancel lane d a => execKCueCancel_onward h lane d a
  | .kCueState lane d a => execKCueState_onward h lane d a
  | .kRecord lane d a => execKRecord_onward h lane d a
  | .mbxChDoorbell lane k value => execMbxChDoorbell_onward h lane k value
  | .laneCopyTakeover lane k => execLaneCopyTakeover_onward h lane k
  | .mbxChPop lane k => execMbxChPop_onward h lane k
  | .mbxShadowFetch lane => execMbxShadowFetch_onward h lane
  | .actTake lane => execActTake_onward h lane
  | .actDefer lane value => execActDefer_onward h lane value
  | .timStepSumLo lane => execTimStepSumLo_onward h lane
  | .registerWrite lane offset value => execRegisterWrite_onward h lane offset value
  | .powerGood facts => execPowerGood_onward h facts
  | .bootingEnd => execBootingEnd_onward h
  | .provingEnd facts => execProvingEnd_onward h facts
  | .reset => execReset_onward h
  | .supplyFailure mv => execSupplyFailure_onward h mv
  | .supplyReturn mv => execSupplyReturn_onward h mv
  | .recorderSupplyStop => execRecorderSupplyStop_onward h
  | .holdUpExpiry => execHoldUpExpiry_onward h
  | .slateWatchdogExpiry => execSlateWatchdogExpiry_onward h
  | .reelFault protection => execReelFault_onward h protection
  | .reelRestartComplete => execReelRestartComplete_onward h
  | .caseOpenSample isOpen => execCaseOpenSample_onward h isOpen
  | .lullLatchRead => execLullLatchRead_onward h
  | .cellMeasurement mv => execCellMeasurement_onward h mv
  | .lullClockWrite => execLullClockWrite_onward h
  | .tlsSessionOpen port source => execTlsSessionOpen_onward h port source
  | .hardwareSessionOpen peer certified bound => execHardwareSessionOpen_onward h peer certified bound
  | .sessionStreamError session => execSessionStreamError_onward h session
  | .preLoginTimeout session => execPreLoginTimeout_onward h session
  | .sessionIdleTimeout session => execSessionIdleTimeout_onward h session
  | .sessionLifetimeExpiry session => execSessionLifetimeExpiry_onward h session
  | .argon2idDone => execArgon2idDone_onward h
  | .credentialLockExpiry credential => execCredentialLockExpiry_onward h credential
  | .saDrainEnd context => execSaDrainEnd_onward h context
  | .saRekeyLimit context => execSaRekeyLimit_onward h context
  | .mkpduReceive port key agreed => execMkpduReceive_onward h port key agreed
  | .inputFreeze task => execInputFreeze_onward h task
  | .takeStart lane task => execTakeStart_onward h lane task
  | .signaturePost lane task take epoch upset => execSignaturePost_onward h lane task take epoch upset
  | .voteDeadline task => execVoteDeadline_onward h task
  | .laneFault lane cause => execLaneFault_onward h lane cause
  | .laneWatchdogExpiry lane => execLaneWatchdogExpiry_onward h lane
  | .divergenceComparisonDone lane task => execDivergenceComparisonDone_onward h lane task
  | .laneRestartDone lane passed => execLaneRestartDone_onward h lane passed
  | .reshootExportDone lane task upset => execReshootExportDone_onward h lane task upset
  | .reshootImportDone task upset => execReshootImportDone_onward h task upset
  | .reshootRetry lane => execReshootRetry_onward h lane
  | .twoLaneLimitExpiry => execTwoLaneLimitExpiry_onward h
  | .twoLaneLockout => execTwoLaneLockout_onward h
  | .backgroundSlice finding => execBackgroundSlice_onward h finding
  | .cutterTranslationDone report => execCutterTranslationDone_onward h report
  | .retentiveCommitPeriodic => execRetentiveCommitPeriodic_onward h
  | .retentiveCommitComplete written => execRetentiveCommitComplete_onward h written
  | .recutGuard => execRecutGuard_onward h
  | .recutSwitch => execRecutSwitch_onward h
  | .sourceDetection source clock => execSourceDetection_onward h source clock
  | .activationCommit source => execActivationCommit_onward h source
  | .activationHoldLimit => execActivationHoldLimit_onward h
  | .positionTick sense => execPositionTick_onward h sense
  | .standstillProven => execStandstillProven_onward h
  | .speedViolationClear => execSpeedViolationClear_onward h
  | .windowOpenTimeExpiry window => execWindowOpenTimeExpiry_onward h window
  | .bridgingLimit => execBridgingLimit_onward h
  | .axleClean axle => execAxleClean_onward h axle
  | .timeCue cue => execTimeCue_onward h cue
  | .safeInputChange input volts => execSafeInputChange_onward h input volts
  | .inputPathFault input => execInputPathFault_onward h input
  | .inputPathTest input path shown => execInputPathTest_onward h input path shown
  | .testPulse source readings sourceOk => execTestPulse_onward h source readings sourceOk
  | .pairDiscrepancyFault pair => execPairDiscrepancyFault_onward h pair
  | .outputTimeout output => execOutputTimeout_onward h output
  | .overcurrentTrip output => execOvercurrentTrip_onward h output
  | .backFeedFault output => execBackFeedFault_onward h output
  | .switchTest output switch passed senseOk => execSwitchTest_onward h output switch passed senseOk
  | .switchTestOverdue output => execSwitchTestOverdue_onward h output
  | .parameterCrcCheck channel crc => execParameterCrcCheck_onward h channel crc
  | .fieldSupplyLow volts => execFieldSupplyLow_onward h volts
  | .resetKeyChange contactA contactB => execResetKeyChange_onward h contactA contactB
  | .resetKeyHoldLimit => execResetKeyHoldLimit_onward h
  | .resetKeyArmingTimeout => execResetKeyArmingTimeout_onward h
  | .streamFrame port payload => execStreamFrame_onward h port payload
  | .channelStale channel => execChannelStale_onward h channel
  | .dissolveStart channel => execDissolveStart_onward h channel
  | .dissolveComplete channel => execDissolveComplete_onward h channel
  | .frameReceive port frame => execFrameReceive_onward h port frame
  | .egressFrameDone port => execEgressFrameDone_onward h port
  | .fdbAging mac vlan => execFdbAging_onward h mac vlan
  | .gateEvent port => execGateEvent_onward h port
  | .gateListTakeover port => execGateListTakeover_onward h port
  | .launchGuardBand port instant => execLaunchGuardBand_onward h port instant
  | .frerResetTimeout stream => execFrerResetTimeout_onward h stream
  | .frerLatentError stream path => execFrerLatentError_onward h stream path
  | .ttdpHelloSend line => execTtdpHelloSend_onward h line
  | .ttdpHelloReceive line neighbour => execTtdpHelloReceive_onward h line neighbour
  | .ttdpHelloTimeout line => execTtdpHelloTimeout_onward h line
  | .topologyFrame line changed => execTopologyFrame_onward h line changed
  | .inaugurationComplete directory => execInaugurationComplete_onward h directory
  | .linkChange port up rate => execLinkChange_onward h port up rate
  | .relayReadback relay closed => execRelayReadback_onward h relay closed
  | .sfpInsertion cage readable level => execSfpInsertion_onward h cage readable level
  | .trdpPdReceive telegram => execTrdpPdReceive_onward h telegram
  | .trdpPrReceive telegram => execTrdpPrReceive_onward h telegram
  | .messageDataReceive session comId envelope => execMessageDataReceive_onward h session comId envelope
  | .flowFreshnessTimeout slot => execFlowFreshnessTimeout_onward h slot
  | .scheduledLaunch slot => execScheduledLaunch_onward h slot
  | .heartbeat => execHeartbeat_onward h
  | .mvbBasicPeriod bus => execMvbBasicPeriod_onward h bus
  | .mvbMasterFrame bus fcode address => execMvbMasterFrame_onward h bus fcode address
  | .mvbSlaveFrame bus fcode address data lineA lineB => execMvbSlaveFrame_onward h bus fcode address data lineA lineB
  | .mvbSinkStale handle => execMvbSinkStale_onward h handle
  | .mvbWriteDeadline handle => execMvbWriteDeadline_onward h handle
  | .mvbReadTimeout handle => execMvbReadTimeout_onward h handle
  | .mvbLockExpiry semaphore => execMvbLockExpiry_onward h semaphore
  | .mvbMastershipOffer bus => execMvbMastershipOffer_onward h bus
  | .mvbBindingWriteFailure handle => execMvbBindingWriteFailure_onward h handle
  | .ptpSync source measure => execPtpSync_onward h source measure
  | .ptpAnnounce source port announce => execPtpAnnounce_onward h source port announce
  | .ptpAnnounceTimeout source port => execPtpAnnounceTimeout_onward h source port
  | .ptpPdelay port delay capable => execPtpPdelay_onward h port delay capable
  | .slipstreamHello hello => execSlipstreamHello_onward h hello
  | .slipstreamHelloSend => execSlipstreamHelloSend_onward h
  | .slipControl message => execSlipControl_onward h message
  | .slipSnapshot message => execSlipSnapshot_onward h message
  | .slipToken issuer token completion => execSlipToken_onward h issuer token completion
  | .slipAck issuer token reasons => execSlipAck_onward h issuer token reasons
  | .slipTakeEnd message => execSlipTakeEnd_onward h message
  | .slipStatus report => execSlipStatus_onward h report
  | .slipKeepalive port delay => execSlipKeepalive_onward h port delay
  | .slipResync message => execSlipResync_onward h message
  | .pairTelegram task take => execPairTelegram_onward h task take
  | .supervisedTakeMissed => execSupervisedTakeMissed_onward h
  | .takeoverInstant => execTakeoverInstant_onward h
  | .handoverInstant => execHandoverInstant_onward h
  | .resyncStart => execResyncStart_onward h
  | .resyncRetry => execResyncRetry_onward h
  | .updateActivation => execUpdateActivation_onward h
  | .updatePartnerWaitEnd => execUpdatePartnerWaitEnd_onward h
  | .updateTrialTimeout => execUpdateTrialTimeout_onward h
  | .recordWrite ring readBack => execRecordWrite_onward h ring readBack
  | .suppressedRecord ring => execSuppressedRecord_onward h ring
  | .freezeTimeout => execFreezeTimeout_onward h
  | .clearTicketExpiry => execClearTicketExpiry_onward h
  | .shadowEntryExpiry lane k token => execShadowEntryExpiry_onward h lane k token
  | .testEnChange strapped => execTestEnChange_onward h strapped
  | .testLimitExpiry => execTestLimitExpiry_onward h
  | .backpressureWindow => execBackpressureWindow_onward h
  | .resetRelease facts => execResetRelease_onward h facts
  | .resourceGrant resource => execResourceGrant_onward h resource
  | .fieldSupplyReturn volts => execFieldSupplyReturn_onward h volts
  | .resetKeyDiscrepancy => execResetKeyDiscrepancy_onward h
  | .holdUpStoreCharged nanofarad => execHoldUpStoreCharged_onward h nanofarad
  | .slipstreamFragmentDone port => execSlipstreamFragmentDone_onward h port
  | .healthReportSend => execHealthReportSend_onward h
  | .ptpMessageSend port kind => execPtpMessageSend_onward h port kind
  | .mailboxResponseDelayEnd => execMailboxResponseDelayEnd_onward h
  | .correctedMemoryError lane => execCorrectedMemoryError_onward h lane

/-- A step goes onward from the state whose queue has lost its front. -/
theorem step_onward {s t : State} (e : step s = .next t) : Onward { s with pending := s.pending.tail } t := by
  unfold step at e
  split at e
  next hp =>
    cases e
    exact ⟨by simp [hp], Nat.le_add_right _ _, le_rfl, List.prefix_rfl, id, le_rfl, FloorsLe.refl _, le_rfl⟩
  next c rest hp =>
    rw [hp]
    exact (exec_onward (Onward.refl _) c).out t e

/-- Settles O7: floors, boot count and change sequence are among what goes onward. -/
theorem countersOfRecordNeverFall : Obligations.CountersOfRecordNeverFall := fun _ _ e =>
  have h := step_onward e
  ⟨fun type signer => h.floors (type, signer), h.boots, h.changes⟩

end Sys2Proof.Machine
end

section
/-! SUPPORT. What steps 2 to 8 of Table 3.6A do with a fresh token of the current epoch whose class is enabled. -/

namespace Sys2Proof.Machine

open Sys2Proof.Claims

section
variable {a : Arrival} {s : State} {c : Command} (ht : tokenClass s a.issuer a.token = .fresh) (he : a.epoch = s.mbx.epoch)
  (hd : classDisabled s a.issuer a.code = false)
include ht he hd

theorem present_of_busy (hc : commands a.code = some c) (hb : c.busy s a.issuer a.payload = true) :
    present commands a s = refuseArrival a stBusyRetry s := by
  simp [present, ht, he, hd, hc, hb]

theorem present_of_idle (hf : creditFree s a = true) (hc : commands a.code = some c) (hb : c.busy s a.issuer a.payload = false) :
    present commands a s = serve commands (newEntry s a) (accept a s) := by
  simp [present, ht, he, hd, hf, hc, hb]

end

/-- Slate's authorisation refuses an issuer that the command's column does not name. -/
theorem serve_denied {c : Command} {e : Entry} {s : State} (hc : commands e.code = some c) (hi : c.issuers.allow s e.issuer e.roles = false) :
    serve commands e s = finish s.mbx.epoch e stDenied [] s := by
  simp [serve, hc, hi]

/-- Settles O14: the command passes steps 2 to 6 and step 7 denies it. -/
theorem onlyIssuersOfTheColumnAreServed : Obligations.OnlyIssuersOfTheColumnAreServed := by
  intro r hr hl m x s hf ht he hd hc hi
  obtain ⟨c, hcmd, hci⟩ := rows_served hr
  have ho : offered r.code m s = s := if_neg hl
  have hserved := present_of_idle (a := arrived r.code m x s) (s := received m x s) ht he hd hc hcmd (rows_idle hr hl hcmd _ _ _)
  rw [rows_presented hr (by rwa [ho]), ho, hserved, serve_denied hcmd (by rw [hci]; exact hi)]
  rfl

end Sys2Proof.Machine
end

section
/-! SUPPORT. Requests of a fixed length, and reports put together from little-endian pieces. -/

namespace Sys2Proof.Machine

open Sys2Proof.Claims

theorem le_zero_eq_replicate (n : Nat) : le n 0 = List.replicate n 0 := by
  induction n with
  | zero => rfl
  | succ n ih => simp [le, ih, List.replicate_succ]

/-- A command whose request has a fixed length, on a request of that length. -/
theorem body_of_sized {c : Command} {n : Nat} {f : Entry → State → State × Reply} {e : Entry} (hs : c.body = sized n f)
    (hl : e.payload.length = n) (s : State) : c.body e s = f e s := by
  rw [hs]; exact if_pos hl

/-- The fields of a report that lists pieces, each with its width and value, one behind the other from an offset on. -/
def fieldsFrom : Nat → List (Nat × Nat) → List Field
  | _, [] => []
  | o, p :: l => (o, p.1, p.2) :: fieldsFrom (o + p.1) l

theorem field_of_fieldsFrom (l : List (Nat × Nat)) (b : Bytes) :
    ∀ f ∈ fieldsFrom b.length l, Bytes.field (b ++ l.flatMap fun p => le p.1 p.2) f.1 f.2.1 = f.2.2 % 256 ^ f.2.1 := by
  induction l generalizing b with
  | nil => simp [fieldsFrom]
  | cons p l ih =>
    intro f hf
    rcases List.mem_cons.mp hf with rfl | hf
    · simp [field_right, field_left]
    · have h := ih (b ++ le p.1 p.2) f (by simpa using hf)
      simpa using h

/-- Pieces one behind the other are the report of their fields. -/
theorem isReport_flatMap_le (l : List (Nat × Nat)) :
    IsReport (l.map Prod.fst).sum (fieldsFrom 0 l) (l.flatMap fun p => le p.1 p.2) :=
  ⟨by simp [List.length_flatMap], field_of_fieldsFrom l []⟩

/-- Settles O15: each report is the body of its command, and LULL_STATUS is made of three pieces. -/
theorem trustReportsGiveWhatTheTableLists : Obligations.TrustReportsGiveWhatTheTableLists := by
  refine ⟨answers_of_body cmdIdentityRead (fun _ _ => rfl) rfl rfl (fun _ _ _ => rfl) fun e t h => ?_,
    answers_of_body cmdEnrolRequest (fun _ _ => rfl) rfl rfl (fun _ _ _ => rfl) fun e t h => ?_,
    answers_of_body cmdSessionList (fun _ _ => rfl) rfl rfl (fun _ _ _ => rfl) fun e t h => ?_,
    reports_of_body cmdLullStatus (fun _ _ => rfl) rfl rfl (fun _ _ _ => rfl) fun e t h => ?_⟩
  · refine (body_of_sized rfl (of_decide_eq_true h) t).trans ?_
    cases ha : t.trust.anchor with
    | none => simp [ha, unenrolled, le_zero_eq_replicate]
    | some a => simp [ha, unenrolled]
  · simp only [Bool.and_eq_true, decide_eq_true_eq] at h
    obtain ⟨hl, hu⟩ := h
    exact (body_of_sized rfl hl t).trans (if_pos hu)
  · exact body_of_sized (c := cmdSessionList) rfl (of_decide_eq_true h) t
  · refine ⟨_, body_of_sized (c := cmdLullStatus) rfl (of_decide_eq_true h) t, ?_⟩
    have h := isReport_flatMap_le [(8, lullNow t), (2, t.trust.lull.cellMv), (1, latchBits t + 4 * bit t.trust.lull.cellLow)]
    simpa [fieldsFrom, latchBits] using h

end Sys2Proof.Machine
end

section
/-! SUPPORT. Enrolment, the anchor and credentials (R41, R42, R45, R52). -/

namespace Sys2Proof.Machine

open Sys2Proof.Claims

/-- Settles O16: each answer is the body of its command under its premise. -/
theorem credentialsAndAnchorAreKept : Obligations.CredentialsAndAnchorAreKept := by
  refine ⟨answers_of_body cmdEnrolInstall (fun _ _ => rfl) rfl rfl (fun _ _ _ => rfl) fun e t h => ?_,
    answers_of_body cmdAnchorRotate (fun _ _ => rfl) rfl rfl (fun _ _ _ => rfl) fun e t h => ?_,
    answers_of_body cmdCredentialSet (fun _ _ => rfl) rfl rfl (fun _ _ _ => rfl) fun e t h => ?_,
    answers_of_body cmdCredentialRemove (fun _ _ => rfl) rfl rfl (fun _ _ _ => rfl) fun e t h => ?_⟩
  · simp only [cmdEnrolInstall, unenrolled, h]
    rfl
  · simp only [Bool.and_eq_true, decide_eq_true_eq, Bool.not_eq_true'] at h
    obtain ⟨hm, hl⟩ := h
    simp only [cmdAnchorRotate, hm, hl]
    rfl
  · simp only [Bool.and_eq_true, decide_eq_true_eq, Option.isSome_iff_exists] at h
    obtain ⟨⟨⟨⟨ho, hn⟩, h1⟩, h32⟩, f, hf⟩ := h
    have h0 : e.field 32 1 ≠ 0 := by omega
    have h32' : ¬32 ≤ e.field 32 1 := by omega
    simp only [cmdCredentialSet, hf]
    cases hp : f.open e with
    | none => simp
    | some password =>
      simp only [hn, h0, h32', ho, Bool.not_true, Bool.or_false, Bool.false_and, decide_false, Option.isNone_some, Option.getD_some,
        Bool.false_eq_true, if_false]
      rfl
  · simp only [Bool.and_eq_true, decide_eq_true_eq, Option.any_eq_true] at h
    obtain ⟨hl, c, hc, ho⟩ := h
    refine (body_of_sized (c := cmdCredentialRemove) rfl hl t).trans ?_
    simp only [hc, ownerLeft, ho]
    rfl

end Sys2Proof.Machine
end

section
/-! SUPPORT. Sessions, login, security-association contexts, the Owner lock and the latches (R46, R47, R53 to R59, R63). -/

namespace Sys2Proof.Machine

open Sys2Proof.Claims

theorem countAttempt_epoch (n : Nat) (s : State) : (countAttempt n s).mbx.epoch = s.mbx.epoch := by
  unfold countAttempt
  split <;> rfl

/-- Reception of a SESSION_LOGIN follows the count of the attempt (R47). -/
theorem exec_sessionLogin (m : Msg) (s : State) : exec (.sessionLogin m) s = command 0x0201 m (countAttempt m.session s) := rfl

theorem commands_sessionLogin : commands 0x0201 = some cmdSessionLogin := rfl

theorem sessionLogin_row : (⟨0x0201, { preLogin := true, enrolment := true }, .sessionLogin⟩ : Row) ∈ rows := by simp [rows, trustRows]

/-- Of an enrolled module, SESSION_LOGIN finds no place when the sessions are full or, unless it is barred, when five logins stand before the
evaluator. -/
theorem sessionLogin_busy_iff {s : State} (ha : s.trust.anchor.isSome = true) (issuer : Nat) (p : Bytes) :
    cmdSessionLogin.busy s issuer p = true ↔ 64 ≤ sessionCount s + (argonEntries s).length ∨
      5 ≤ (argonEntries s).length ∧ loginBarred s (issuerIndex issuer) (p.take 32) = false := by
  simp [cmdSessionLogin, sessionsFull, unenrolled, ha, and_comm]

/-- Of an enrolled module, a SESSION_LOGIN is malformed, barred, or stands before the evaluator. -/
theorem sessionLogin_body {e : Entry} {s : State} (ha : s.trust.anchor.isSome = true) :
    cmdSessionLogin.body e s = match sealedAt e.payload 32 with
      | none => fails stBadArgument s
      | some f =>
        if e.payload.length != f.next || (f.open e).isNone then fails stBadArgument s
        else if loginBarred s e.session (e.slice 0 32) then fails 0x0210 s
        else (s, .goesOn (if (argonEntries s).isEmpty then .holds .argon else .waits .argon) false) := by
  have hu : unenrolled s = false := by simp [unenrolled, ha]
  simp only [cmdSessionLogin, hu]
  cases sealedAt e.payload 32 with
  | none => rfl
  | some f => cases he : (argonEntries s).isEmpty <;> rfl

/-- Settles O17: SESSION_LOGIN by its place before the evaluator and its body, the others each by the body of its command. -/
theorem sessionsAndContextsAreManaged : Obligations.SessionsAndContextsAreManaged := by
  refine ⟨answers_of_body cmdSessionEnd (fun _ _ => rfl) rfl rfl (fun _ _ _ => rfl) fun e t h => ?_,
    answers_of_body cmdSessionEnd (fun _ _ => rfl) rfl rfl (fun _ _ _ => rfl) fun e t h => ?_,
    fun m x s hf h => ?_, fun m x s ha h => ?_,
    answers_of_body cmdSaInstall (fun _ _ => rfl) rfl rfl (fun _ _ _ => rfl) fun e t h => ?_,
    answers_of_body cmdSaRelease (fun _ _ => rfl) rfl rfl (fun _ _ _ => rfl) fun e t h => ?_,
    answers_of_body cmdOwnerLock (fun _ _ => rfl) rfl rfl (fun _ _ _ => rfl) fun e t h => ?_,
    answers_of_body cmdTamperAcknowledge (fun _ _ => rfl) rfl rfl (fun _ _ _ => rfl) fun e t h => ?_⟩
  · simp only [Bool.and_eq_true, decide_eq_true_eq] at h
    obtain ⟨hl, hn⟩ := h
    exact (body_of_sized (c := cmdSessionEnd) rfl hl t).trans (if_pos hn)
  · simp only [Bool.and_eq_true, decide_eq_true_eq, bne_iff_ne] at h
    obtain ⟨⟨⟨⟨hl, hn⟩, ho⟩, hr⟩, hs⟩ := h
    refine (body_of_sized (c := cmdSessionEnd) rfl hl t).trans ?_
    simp [hn, ho, hr, hs]
  · obtain ⟨ht, he, hd, ha, hb⟩ := h
    have he' : m.epoch.toNat = (received m x (countAttempt m.session s)).mbx.epoch := he.trans (countAttempt_epoch m.session s).symm
    have hbusy := (sessionLogin_busy_iff ha (sessionIssuer m.session x) (m.payload.take m.length.toNat)).mpr hb
    exact (rows_presented sessionLogin_row hf).trans (congrArg _ (present_of_busy ht he' hd commands_sessionLogin hbusy))
  · obtain ⟨ha', hn, hq⟩ := h
    have hb : cmdSessionLogin.busy _ (sessionIssuer m.session x) (m.payload.take m.length.toNat) = false :=
      Bool.eq_false_iff.mpr (mt (sessionLogin_busy_iff ha' _ _).mp (by omega))
    have ht : (taken 0x0201 m x (countAttempt m.session s)).trust.anchor.isSome = true := ha'
    rw [exec_sessionLogin, command_arrives ha commands_sessionLogin rfl hb, countAttempt_epoch]
    exact congrArg (fun p => Host.Outcome.next (conclude s.mbx.epoch (entered 0x0201 m x (countAttempt m.session s)) p)) (sessionLogin_body ht)
  · simp only [Bool.and_eq_true, decide_eq_true_eq, Option.any_eq_true, Option.isSome_iff_exists] at h
    obtain ⟨⟨⟨⟨⟨f, hf, hl, hr⟩, h1⟩, h3⟩, hb⟩, n, hn⟩ := h
    simp only [cmdSaInstall, hf, hn]
    cases hk : f.open e with
    | none => rfl
    | some key =>
      simp only [Bool.or_eq_true, bne_iff_ne, decide_eq_true_eq] at hb
      simp only [hl, bne_self_eq_false]
      refine (if_neg (by simp only [Bool.or_eq_true, Bool.and_eq_true, decide_eq_true_eq, Bool.false_eq_true, false_or]; omega)).trans ?_
      by_cases hp : e.field 0 1 = 1
      · simp only [hp, if_true]; rfl
      · simp only [hp, if_false]; rfl
  · simp only [Bool.and_eq_true, decide_eq_true_eq, Option.any_eq_true, Bool.not_eq_true'] at h
    obtain ⟨hl, x, hx, hw⟩ := h
    refine (body_of_sized (c := cmdSaRelease) rfl hl t).trans ?_
    simp only [hx, hw]
    cases hs : x.state with
    | keyed => simp [hs]
    | live => simp [hs, drain]
    | draining => simp [hs]
  · simp only [Bool.and_eq_true, decide_eq_true_eq] at h
    obtain ⟨hl, hv⟩ := h
    exact (body_of_sized (c := cmdOwnerLock) rfl hl t).trans (if_neg (by omega))
  · simp only [Bool.and_eq_true, decide_eq_true_eq] at h
    obtain ⟨⟨hl, hm⟩, hs⟩ := h
    refine (body_of_sized (c := cmdTamperAcknowledge) rfl hl t).trans (if_neg ?_)
    simp [latchSet, hs, hm]

end Sys2Proof.Machine
end

section
/-! SUPPORT. Sessions, login, security-association contexts and the Lull domain at their events (R41, R46, R47, R50 to R62, R444). -/

namespace Sys2Proof.Machine

/-! ### The arms of the dispatch for these events -/

theorem exec_tlsSessionOpen (port source : Nat) (s : State) : exec (.tlsSessionOpen port source) s = execTlsSessionOpen port source s := rfl
theorem exec_hardwareSessionOpen (peer : Bytes) (certified bound : Bool) (s : State) :
    exec (.hardwareSessionOpen peer certified bound) s = execHardwareSessionOpen peer certified bound s := rfl
theorem exec_preLoginTimeout (n : Nat) (s : State) : exec (.preLoginTimeout n) s = execPreLoginTimeout n s := rfl
theorem exec_sessionIdleTimeout (n : Nat) (s : State) : exec (.sessionIdleTimeout n) s = execSessionIdleTimeout n s := rfl
theorem exec_sessionLifetimeExpiry (n : Nat) (s : State) : exec (.sessionLifetimeExpiry n) s = execSessionLifetimeExpiry n s := rfl
theorem exec_argon2idDone (s : State) : exec .argon2idDone s = execArgon2idDone s := rfl
theorem exec_credentialLockExpiry (n : Nat) (s : State) : exec (.credentialLockExpiry n) s = execCredentialLockExpiry n s := rfl
theorem exec_saDrainEnd (n : Nat) (s : State) : exec (.saDrainEnd n) s = execSaDrainEnd n s := rfl
theorem exec_saRekeyLimit (n : Nat) (s : State) : exec (.saRekeyLimit n) s = execSaRekeyLimit n s := rfl
theorem exec_mkpduReceive (port key : Nat) (agreed : Bool) (s : State) : exec (.mkpduReceive port key agreed) s = execMkpduReceive port key agreed s := rfl
theorem exec_lullLatchRead (s : State) : exec .lullLatchRead s = execLullLatchRead s := rfl
theorem exec_cellMeasurement (mv : Nat) (s : State) : exec (.cellMeasurement mv) s = execCellMeasurement mv s := rfl
theorem exec_lullClockWrite (s : State) : exec .lullClockWrite s = execLullClockWrite s := rfl

/-! ### The cases of the events -/

/-- Without a certified peer, an anchor or a Free context no hardware session opens. -/
theorem hardwareSessionOpen_refused {peer : Bytes} {certified bound : Bool} {s : State}
    (h : certified = false ∨ unenrolled s = true ∨ freeContext s 4 = none) : exec (.hardwareSessionOpen peer certified bound) s = .next s := by
  simp only [exec_hardwareSessionOpen, execHardwareSessionOpen]
  cases hc : freeContext s 4 with
  | none => rfl
  | some c =>
    refine if_neg ?_
    rcases h with h | h | h
    · simp [h]
    · simp [h]
    · exact absurd (hc.symm.trans h) (by simp)

/-- Settles O53: each event by the cases of its meaning. -/
theorem sessionsContextsAndLullFollowTheirEvents : Obligations.SessionsContextsAndLullFollowTheirEvents := by
  refine ⟨fun port source s hs hu hp he => ?_, fun port source s hs hu hl => ?_, fun port source s hu hn => ?_, fun port source s hu hl => ?_,
    fun peer c s hc hs hu hf => ?_, fun peer c s hc hs hu hf => ?_, fun peer certified bound s hn => ?_,
    fun n s => rfl,
    fun n x s hx ha => ?_, fun n x s hx ha => ?_, fun n x s hx ha => ?_,
    fun n x s hx ha => ?_, fun n x s hx ha => ?_, fun n x s hx ha => ?_,
    fun n s hx => ?_, fun n s hx => ?_, fun n s hx => ?_,
    fun e n c s he hc ht => ?_, fun e s he hn => ?_, fun s he => ?_,
    fun n c s hc hl => ?_, fun n s hc => ?_,
    fun n x s hx hd => ?_, fun n x s hx hd => ?_,
    fun n m x s hx hl hp hm hf => ?_, fun n x s hx hl hp hm hf => ?_, fun n x s hx hn => ?_,
    fun port key n y s hs hc hk => ?_, fun port key n s hs hc hk hf => ?_, fun port key agreed s hn => ?_,
    fun s => rfl, fun s => rfl,
    fun s hp hl => ?_, fun s hn => ?_,
    fun mv s hp hv hl => ?_, fun mv s hp hv => ?_, fun mv s hp hv hv' => ?_,
    fun s hl => ?_, fun s hl => ?_,
    fun mv s hp hv hl => ?_, fun mv s hp => ?_⟩
  -- TLS_SESSION_OPEN
  · simp [exec_tlsSessionOpen, execTlsSessionOpen, hs, hu, hp, he, drawn]
  · simp [exec_tlsSessionOpen, execTlsSessionOpen, hs, hu, hl, drawn]
  · refine if_neg ?_
    rcases hn with hn | hn <;> simp [hu, hn]
  · refine if_neg ?_
    simp [hu, hl.not_gt]
  -- HARDWARE_SESSION_OPEN
  · simp [exec_hardwareSessionOpen, execHardwareSessionOpen, hc, hs, hu, hf]
  · simp [exec_hardwareSessionOpen, execHardwareSessionOpen, hc, hs, hu, hf]
  · exact hardwareSessionOpen_refused hn
  -- PRE_LOGIN_TIMEOUT, SESSION_IDLE_TIMEOUT and SESSION_LIFETIME_EXPIRY
  · simp [exec_preLoginTimeout, execPreLoginTimeout, hx, ha]
  · simp [exec_sessionIdleTimeout, execSessionIdleTimeout, hx, ha]
  · simp [exec_sessionLifetimeExpiry, execSessionLifetimeExpiry, hx, ha]
  · simp [exec_preLoginTimeout, execPreLoginTimeout, hx, ha]
  · simp [exec_sessionIdleTimeout, execSessionIdleTimeout, hx, ha]
  · simp [exec_sessionLifetimeExpiry, execSessionLifetimeExpiry, hx, ha]
  · simp [exec_preLoginTimeout, execPreLoginTimeout, hx]
  · simp [exec_sessionIdleTimeout, execSessionIdleTimeout, hx]
  · simp [exec_sessionLifetimeExpiry, execSessionLifetimeExpiry, hx]
  -- ARGON2ID_DONE
  · simp [exec_argon2idDone, execArgon2idDone, he, hc, ht]
  · cases hc : credentialByName s (e.slice 0 32) with
    | none => simp [exec_argon2idDone, execArgon2idDone, he, hc]
    | some c => simp [exec_argon2idDone, execArgon2idDone, he, hc, hn c.1 c.2 hc]
  · simp [exec_argon2idDone, execArgon2idDone, he]
  -- CREDENTIAL_LOCK_EXPIRY
  · simp [exec_credentialLockExpiry, execCredentialLockExpiry, hc, hl]
  · simp [exec_credentialLockExpiry, execCredentialLockExpiry, hc]
  -- SA_DRAIN_END
  · simp [exec_saDrainEnd, execSaDrainEnd, hx, hd]
  · simp [exec_saDrainEnd, execSaDrainEnd, hx, hd]
  -- SA_REKEY_LIMIT
  · have hf' : freeContext (reach (x.since + second 86400) s) x.purpose = some m := hf
    simp only [exec_saRekeyLimit, execSaRekeyLimit, hx, if_pos hm, hf']
    exact if_pos (by simpa [hl] using hp)
  · have hf' : freeContext (reach (x.since + second 86400) s) x.purpose = none := hf
    simp only [exec_saRekeyLimit, execSaRekeyLimit, hx, if_pos hm, hf']
    exact if_pos (by simpa [hl] using hp)
  · simp only [exec_saRekeyLimit, execSaRekeyLimit, hx]
    refine if_neg ?_
    rcases hn with hn | ⟨h2, h4⟩
    · simp [hn]
    · simp [h2, h4]
  -- MKPDU_RECEIVE
  · simp [exec_mkpduReceive, execMkpduReceive, hs, hc, hk]
  · simp only [exec_mkpduReceive, execMkpduReceive, hs, hc, hk, hf]
    cases s.trust.contexts.find? fun c => c.2.purpose = 1 && c.2.binding = port && c.2.state = .live <;> rfl
  · simp [exec_mkpduReceive, execMkpduReceive, hn]
  -- LULL_LATCH_READ
  · simp [exec_lullLatchRead, execLullLatchRead, hp, hl]
  · refine if_neg ?_
    rcases hn with hn | hn <;> simp [hn]
  -- CELL_MEASUREMENT and LULL_CLOCK_WRITE
  · simp [exec_cellMeasurement, execCellMeasurement, hp, hv, hl]
  · have hv' : ¬mv < 2500 := by omega
    simp [exec_cellMeasurement, execCellMeasurement, hp, hv, hv']
  · have hlow : ¬mv < 2500 := by omega
    have hhigh : ¬2600 ≤ mv := by omega
    simp [exec_cellMeasurement, execCellMeasurement, hp, hlow, hhigh, modLull, modTrust]
  · simp [exec_lullClockWrite, execLullClockWrite, hl]
  · simp [exec_lullClockWrite, execLullClockWrite, hl]
  · simp [exec_cellMeasurement, execCellMeasurement, hp, hv, hl]
  · simp [exec_cellMeasurement, execCellMeasurement, hp]

end Sys2Proof.Machine
end

section
/-! SUPPORT. What a step does at the front of the queue and on an empty queue, and what every step keeps (log entries 7 and 10; R93). -/

namespace Sys2Proof.Machine

/-- Settles O1: the queue decides which arm of the step is taken. -/
theorem stepRunsTheFrontCommand : Obligations.StepRunsTheFrontCommand := by
  intro s c rest h
  simp only [step, h]

/-- Settles O2: the arm of the empty queue. -/
theorem idleModuleKeepsItsState : Obligations.IdleModuleKeepsItsState := by
  intro s h
  simp only [step, h]

/-- Settles O4: both are 0 in the state after reset. -/
theorem epochStoredAtReset : Obligations.EpochStoredAtReset := rfl

/-- Settles O5: an epoch that is stored stays stored among what goes onward. -/
theorem epochStoredKept : Obligations.EpochStoredKept := fun _ _ e h => (step_onward e).epoch h

/-- Settles O6: time, draws and outputs go onward from the state whose queue has lost its front. -/
theorem timeAndOutputsOnlyGoOn : Obligations.TimeAndOutputsOnlyGoOn := fun _ _ e =>
  have h := step_onward e
  ⟨h.time, h.draws, h.out, h.pending⟩

end Sys2Proof.Machine
end

section
/-! SUPPORT. A row of the command or event table always ends in a next state: refusals and faults stand in KPC instructions alone. -/

namespace Sys2Proof.Machine

open Sys2Proof.Claims

/-- An outcome is a next state. -/
def Continues (o : Out) : Prop := ∃ t, o = .next t

theorem continues_next (t : State) : Continues (.next t) := ⟨t, rfl⟩

theorem continues_ite {c : Prop} [Decidable c] {o p : Out} (h : Continues o) (g : Continues p) : Continues (if c then o else p) := by
  split <;> assumption

/-- Commands and some events are a next state as they stand; of the other events each branch is one. -/
theorem exec_continues (i : Instr) (s : State) (h : kpcLane i = none) : Continues (exec i s) := by
  cases i
  -- KPC instructions, which run on a lane
  case kNop | kConst | kMov | kSel | kAdd | kSub | kMul | kDiv | kMod | kNeg | kAbs | kMin | kMax | kFma | kSqrt | kAnd | kOr | kXor |
      kNot | kShl | kShr | kRol | kRor | kEq | kNe | kLt | kLe | kGt | kGe | kCvt | kTrunc | kRound | kBits | kSin | kCos | kTan |
      kAsin | kAcos | kAtan | kAtan2 | kExp | kLn | kLog10 | kExpt | kFloor | kCeil | kRint | kLd | kSt | kCopy | kBlock | kLoop | kIf |
      kElse | kEnd | kBreak | kNext | kReturn | kCall | kTimeNow | kTakeInfo | kModes | kFaults | kInputStatus | kPosition | kMbxIssue |
      kMbxResult | kCueRequest | kCueCancel | kCueState | kRecord =>
    cases h
  -- commands of sessions, and the events without a branch
  case sessionLogin | sessionEnd | sessionList | identityRead | enrolRequest | enrolInstall | anchorRotate | credentialSet |
      credentialRemove | saInstall | saRelease | ownerLock | tamperAcknowledge | lullStatus | moduleStatus | moduleInfo | modeRequest |
      moduleRestart | classControl | tokenQuery | mailboxCounters | laneStatus | laneHealth | laneTraceRead | laneIsolate | laneReshoot |
      staggerSet | voterTest | laneDiagClear | programStatus | imageLoad | programStart | programStop | recutStart | recutCancel |
      forceSet | forceClear | forceList | variableRead | imageErase | pairStatus | pairHealth | pairConfigure | pairSwitchover |
      pairResync | pairBudget | pairCounters | safetyStatus | safetyParamLoad | safetyParamActivate | lockoutEnter | lockoutReset |
      changeLogRead | windowClose | safeIoTest | positionStatus | positionConfigure | positionMark | positionAt | cueStatus |
      cueControl | positionCounters | signalStatus | channelConfigure | coeffLoad | signalDissolve | channelControl | inputSwitch |
      signalCounters | netStatus | portConfigure | portCounters | fdbPin | fdbUnpin | fdbRead | fdbFlush | flowConfigure | flowControl |
      flowStatus | frerConfigure | gateConfigure | launchWrite | launchFlush | rnatConfigure | netSettings | mvbStatus | mvbConfigure |
      mvbPortConfigure | mvbPortControl | mvbWrite | mvbRead | mvbLock | mvbUnlock | mvbMap | mvbDevices | mvbCounters | timeStatus |
      timeConfigure | timeSet | timePortStatus | activationStatus | sourceConfigure | sourceMask | activationHold | activationTrigger |
      activationCounters | recorderStatus | recorderRead | recorderFreeze | recorderRelease | recorderClearRequest |
      recorderClearConfirm | recorderCounters | updateStatus | updateStage | updateSchedule | updateCancel | testStatus | testEnter |
      testExit | squallSet | selfTestRun | mbxChDoorbell | actDefer | timStepSumLo | reelRestartComplete | sessionStreamError |
      launchGuardBand | topologyFrame | healthReportSend =>
    exact continues_next _
  -- the other events
  all_goals
    simp only [exec, execLaneCopyTakeover, execMbxChPop, execMbxShadowFetch, execActTake, execRegisterWrite, execPowerGood,
      execBootingEnd, execProvingEnd, execReset, execSupplyFailure, execSupplyReturn, execRecorderSupplyStop, execHoldUpExpiry,
      execSlateWatchdogExpiry, execReelFault, execCaseOpenSample, execLullLatchRead, execCellMeasurement, execLullClockWrite,
      execTlsSessionOpen, execHardwareSessionOpen, execPreLoginTimeout, execSessionIdleTimeout, execSessionLifetimeExpiry,
      execArgon2idDone, execCredentialLockExpiry, execSaDrainEnd, execSaRekeyLimit, execMkpduReceive, execInputFreeze, execTakeStart,
      execSignaturePost, execVoteDeadline, execLaneFault, execLaneWatchdogExpiry, execDivergenceComparisonDone, execLaneRestartDone,
      execReshootExportDone, execReshootImportDone, execReshootRetry, execTwoLaneLimitExpiry, execTwoLaneLockout, execBackgroundSlice,
      execCutterTranslationDone, execRetentiveCommitPeriodic, execRetentiveCommitComplete, execRecutGuard, execRecutSwitch,
      execSourceDetection, execActivationCommit, execActivationHoldLimit, execPositionTick, execStandstillProven,
      execSpeedViolationClear, execWindowOpenTimeExpiry, execBridgingLimit, execAxleClean, execTimeCue, execSafeInputChange,
      execInputPathFault, execInputPathTest, execTestPulse, execPairDiscrepancyFault, execOutputTimeout, execOvercurrentTrip,
      execBackFeedFault, execSwitchTest, execSwitchTestOverdue, execParameterCrcCheck, execFieldSupplyLow, execResetKeyChange,
      execResetKeyHoldLimit, execResetKeyArmingTimeout, execStreamFrame, execChannelStale, execDissolveStart, execDissolveComplete,
      execFrameReceive, execEgressFrameDone, execFdbAging, execGateEvent, execGateListTakeover, execFrerResetTimeout,
      execFrerLatentError, execTtdpHelloSend, execTtdpHelloReceive, execTtdpHelloTimeout, execInaugurationComplete, execLinkChange,
      execRelayReadback, execSfpInsertion, execTrdpPdReceive, execTrdpPrReceive, execMessageDataReceive, execFlowFreshnessTimeout,
      execScheduledLaunch, execHeartbeat, execMvbBasicPeriod, execMvbMasterFrame, execMvbSlaveFrame, execMvbSinkStale,
      execMvbWriteDeadline, execMvbReadTimeout, execMvbLockExpiry, execMvbMastershipOffer, execMvbBindingWriteFailure, execPtpSync,
      execPtpAnnounce, execPtpAnnounceTimeout, execPtpPdelay, execSlipstreamHello, execSlipstreamHelloSend, execSlipControl,
      execSlipSnapshot, execSlipToken, execSlipAck, execSlipTakeEnd, execSlipStatus, execSlipKeepalive, execSlipResync, execPairTelegram,
      execSupervisedTakeMissed, execTakeoverInstant, execHandoverInstant, execResyncStart, execResyncRetry, execUpdateActivation,
      execUpdatePartnerWaitEnd, execUpdateTrialTimeout, execRecordWrite, execSuppressedRecord, execFreezeTimeout, execClearTicketExpiry,
      execShadowEntryExpiry, execTestEnChange, execTestLimitExpiry, execBackpressureWindow, execResetRelease, execResourceGrant,
      execFieldSupplyReturn, execResetKeyDiscrepancy, execHoldUpStoreCharged, execSlipstreamFragmentDone, execPtpMessageSend,
      execMailboxResponseDelayEnd, execCorrectedMemoryError, heard, statusHeard, ackHeard, tokenHeard, keepaliveHeard, controlHeard,
      resyncHeard]
    repeat' (first | with_reducible exact continues_next _ | refine continues_ite ?_ ?_ | split)

/-- Settles O9: what is no KPC instruction continues. -/
theorem onlyInstructionsStop : Obligations.OnlyInstructionsStop := exec_continues

end Sys2Proof.Machine
end

section
/-! SUPPORT. Steps 1 to 5 of Table 3.6A: envelopes that step 1 stops, tokens that come again, and fresh tokens that are refused (R85, R88,
R97). -/

namespace Sys2Proof.Machine

open Sys2Proof.Claims

/-! ### The attempt that a SESSION_LOGIN counts leaves what steps 1 to 5 read -/

theorem hasMailbox_offered (code : Nat) (m : Msg) (s : State) : hasMailbox (offered code m s) = hasMailbox s := by
  unfold offered countAttempt
  split
  · split <;> rfl
  · rfl

theorem pair_offered (code : Nat) (m : Msg) (s : State) : (offered code m s).pair = s.pair := by
  unfold offered countAttempt
  split
  · split <;> rfl
  · rfl

/-! ### Step 1 -/

section
variable {commands : Nat → Option Command} {code : Nat} {m : Msg} {x : Session} {s : State}

theorem receive_of_unheard (h : hasMailbox s = false ∨ Tbl.find s.trust.sessions m.session = none) : receive commands code m s = s := by
  unfold receive
  rcases h with h | h
  · rw [h]
  · rw [h]
    cases hasMailbox s <;> rfl

variable (hm : hasMailbox s = true) (hx : Tbl.find s.trust.sessions m.session = some x)
include hm hx

theorem receive_of_broken (hb : streamBroken m x = true) : receive commands code m s = endSession m.session s := by
  simp only [receive, hm, hx, hb, if_true]

/-- A bad version is answered before any other fault of the header (log entry 130). -/
theorem receive_of_badHeader (hb : streamBroken m x = false) (hh : (m.version == 1 && headerOk m code x) = false) :
    receive commands code m s =
      sendSession m.session false
        (completionBytes 1 0 code m.token.toNat s.mbx.epoch (if m.version = 1 then stBadHeader else stBadVersion) (sessionIssuer m.session x) [])
        (countHeaderError (listened m x s)) := by
  simp only [receive, hm, hx, hb, Bool.false_eq_true, if_false]
  by_cases hv : m.version = 1
  · have hk : headerOk m code x = false := by simpa [hv] using hh
    simp only [hv, bne_self_eq_false, Bool.false_eq_true, if_false, hk, Bool.not_false, if_true]
    rfl
  · simp only [bne_iff_ne.mpr hv, if_true, hv, if_false]
    rfl

end

/-- Settles O11: a row's message is received under its code, and step 1 stops it in three ways. -/
theorem envelopesAreCheckedFirst : Obligations.EnvelopesAreCheckedFirst := by
  refine ⟨fun r hr m s h => ?_, fun r hr m x s hm hx hb => ?_, fun r hr m x s hm hx hb hh => ?_⟩
  all_goals rw [rows_run hr, command]
  · rw [receive_of_unheard (by rwa [hasMailbox_offered])]
  · rw [receive_of_broken (by rwa [hasMailbox_offered]) hx hb]
  · rw [receive_of_badHeader (by rwa [hasMailbox_offered]) hx hb hh, offered_epoch]
    rfl

/-! ### Steps 3 to 5: what a fresh token is refused for -/

section
variable {commands : Nat → Option Command} {a : Arrival} {s : State} (ht : tokenClass s a.issuer a.token = .fresh)
include ht

theorem present_of_staleEpoch (he : a.epoch ≠ s.mbx.epoch) : present commands a s = refuseArrival a stStaleEpoch s := by
  simp [present, ht, he]

theorem present_of_classDisabled (he : a.epoch = s.mbx.epoch) (hd : classDisabled s a.issuer a.code = true) :
    present commands a s = refuseArrival a stClassDisabled s := by
  simp [present, ht, he, hd]

theorem present_of_noCredit (he : a.epoch = s.mbx.epoch) (hd : classDisabled s a.issuer a.code = false) (hf : creditFree s a = false) :
    present commands a s = refuseArrival a stBusyRetry s := by
  simp [present, ht, he, hd, hf]

end

theorem received_offered_epoch (code : Nat) (m : Msg) (x : Session) (s : State) : (received m x (offered code m s)).mbx.epoch = s.mbx.epoch := by
  rw [received_epoch, offered_epoch]

theorem received_offered_classDisabled (code : Nat) (m : Msg) (x : Session) (s : State) (issuer c : Nat) :
    classDisabled (received m x (offered code m s)) issuer c = classDisabled s issuer c := by
  change classDisabled (offered code m s) issuer c = _
  simp only [classDisabled, offered_epoch]

theorem received_offered_sessionCredits (code : Nat) (m : Msg) (x : Session) (s : State) (n : Nat) :
    sessionCredits (received m x (offered code m s)) n = sessionCredits s n := by
  change sessionCredits (offered code m s) n = _
  simp only [sessionCredits, offered_epoch, pair_offered]

theorem received_offered_creditFree (code : Nat) (m : Msg) (x : Session) (s : State) (a : Arrival) :
    creditFree (received m x (offered code m s)) a = creditFree s a := by
  unfold creditFree
  cases a.session with
  | none => rfl
  | some n => simp only [received_offered_sessionCredits]

/-- Settles O12: the message passes step 1, and the first of steps 3 to 5 that fails refuses it. -/
theorem freshCommandsAreRefusedInOrder : Obligations.FreshCommandsAreRefusedInOrder := by
  refine ⟨fun r hr m x s hf ht he => ?_, fun r hr m x s hf ht he hd => ?_, fun r hr m x s hf ht he hd hc => ?_⟩
  all_goals
    rw [rows_presented hr hf]
    rw [← received_offered_epoch r.code m x s] at he
  · exact congrArg _ (present_of_staleEpoch ht he)
  · exact congrArg _ (present_of_classDisabled ht he (by rwa [received_offered_classDisabled]))
  · exact congrArg _ (present_of_noCredit ht he (by rwa [received_offered_classDisabled]) (by rwa [received_offered_creditFree]))

/-! ### Step 2: tokens that come again (R97) -/

/-- Settles O13: the message passes step 1, and its token's class decides in step 2. -/
theorem tokensAreReissued : Obligations.TokensAreReissued := by
  refine ⟨fun r hr m x s c hf ht => ?_, fun r hr m x s id hf ht => ?_, fun r hr m x s hf ht => ?_, fun r hr m x s hf ht => ?_⟩
  all_goals
    have hp : tokenClass (received m x (offered r.code m s)) (arrived r.code m x (offered r.code m s)).issuer
      (arrived r.code m x (offered r.code m s)).token = _ := ht
    rw [rows_presented hr hf, present, hp]
    rfl

end Sys2Proof.Machine
end

section
/-! SUPPORT. The reports of the MODULE commands and the lamps (R100, R556 to R558). -/

namespace Sys2Proof

/-- A byte string is the little-endian piece of its own value. -/
theorem le_leNat (b : Bytes) : le b.length (leNat b) = b := by
  induction b with
  | nil => rfl
  | cons x b ih =>
    have hx : x.toNat < 256 := x.isLt
    have hlow : (x.toNat + 256 * leNat b) % 256 = x.toNat := by omega
    have hhigh : (x.toNat + 256 * leNat b) / 256 = leNat b := by omega
    simp only [List.length_cons, le, leNat, hlow, hhigh, ih, BitVec.ofNat_toNat, BitVec.setWidth_eq]

theorem le_field_padTo (n : Nat) (b : Bytes) : le n (Bytes.field (padTo n b) 0 n) = padTo n b := by
  have h := le_leNat (padTo n b)
  rw [padTo_length] at h
  rw [Bytes.field, List.drop_zero, List.take_of_length_le (padTo_length n b).le, h]

end Sys2Proof

namespace Sys2Proof.Machine

open Sys2Proof.Claims

/-! ### Codes of flashes (R557) -/

/-- A code of n flashes lasts 500 ms for each flash and 1.2 s more. -/
theorem lit_code {n : Nat} (hn : 1 ≤ n) (ms : Nat) : (LampShow.code n).lit ms =
    if ms % (500 * n + 1200) < 500 * n - 300 ∧ ms % (500 * n + 1200) % 500 < 200 then some .red else none := by
  have hp : 500 * n - 300 + 1500 = 500 * n + 1200 := by omega
  simp [LampShow.lit, hp]

/-- The flashes of a code, one in each of its first half-seconds. -/
theorem flashes_iff {n m : Nat} : m < 500 * n - 300 ∧ m % 500 < 200 ↔ ∃ j < n, 500 * j ≤ m ∧ m < 500 * j + 200 := by
  constructor
  · rintro ⟨h, g⟩
    exact ⟨m / 500, by omega, by omega, by omega⟩
  · rintro ⟨j, hj, h, g⟩
    omega

/-! ### The lamps (Table 18.11) -/

theorem testColour_of_not_booting {s : State} (h : s.module.state ≠ .booting) : testColour s = none := by
  unfold testColour
  split
  · contradiction
  · rfl

/-! In the states between Booting and Halted every lamp shows its axis. -/

section
variable {s : State} (h : s.module.state = .proving ∨ s.module.state = .service ∨ s.module.state = .maintenance ∨ s.module.state = .lockout)
include h

theorem lamps_of_hasMailbox : lamps s = axisLamps s := by
  have ht : testColour s = none := testColour_of_not_booting (by rcases h with h | h | h | h <;> simp [h])
  unfold lamps
  rw [ht]
  rcases h with h | h | h | h <;> rw [h]

theorem stateLamp_of_hasMailbox : stateLamp s =
    if s.module.state = .proving then .steady .amber else if s.module.state = .service then .steady .green
    else if s.module.state = .maintenance then .blinking .green else .steady .red := by
  unfold stateLamp
  rcases h with h | h | h | h <;> rw [h] <;> rfl

end

theorem progLamp_eq (s : State) : progLamp s =
    if s.prog.state = .empty then .off else if s.prog.state = .stopped then .steady .amber
    else if s.prog.state = .running then .steady .green else .blinking .green := by
  unfold progLamp
  cases s.prog.state <;> rfl

theorem pairLamp_eq (s : State) : pairLamp s =
    if s.pair.role = .solo then .off else if hasBit (moduleFlags s) 2 then .steady .amber
    else if s.pair.role = .active then .steady .green else .blinking .green := by
  unfold pairLamp
  cases s.pair.role <;> rfl

theorem timeLamp_eq (s : State) : timeLamp s =
    if s.clock.state = .unset then .off else if s.clock.state = .locked then .steady .green else .steady .amber := by
  unfold timeLamp
  cases s.clock.state <;> rfl

/-- Settles O18: each report is made of its pieces, and the lamps follow the module state. -/
theorem moduleReportsGiveWhatTheTableLists : Obligations.ModuleReportsGiveWhatTheTableLists := by
  refine ⟨reports_of_body cmdModuleStatus (fun _ _ => rfl) rfl rfl (fun _ _ _ => rfl) fun e t h => ?_,
    reports_of_body cmdModuleInfo (fun _ _ => rfl) rfl rfl (fun _ _ _ => rfl) fun e t h => ?_,
    reports_of_body cmdMailboxCounters (fun _ _ => rfl) rfl rfl (fun _ _ _ => rfl) fun e t h => ?_,
    fun s h => ?_, fun s h => ?_, fun s h => ?_, fun t s hb ht => ?_, fun n ms k hn => ?_⟩
  · refine ⟨_, body_of_sized (c := cmdModuleStatus) rfl (of_decide_eq_true h) t, ?_⟩
    have h := isReport_flatMap_le [(1, t.module.state.code), (1, t.pair.role.code), (1, votingMask t), (1, t.prog.state.code),
      (1, bit (forced t)), (1, t.clock.state.code), (1, t.pos.state.code), (1, bit (frozen t)), (1, t.update.axis), (1, bit t.test.squall),
      (4, t.mbx.epoch), (8, localSeconds t), (4, localNanos t), (4, moduleFlags t)]
    simpa [fieldsFrom, axesBytes, taiBytes, localSeconds, localNanos, moduleFlags, unenrolled] using h
  · refine ⟨_, body_of_sized (c := cmdModuleInfo) rfl (of_decide_eq_true h) t, ?_⟩
    have h := isReport_flatMap_le [(16, Bytes.field (identifier t) 0 16), (16, Bytes.field (padTo 16 (ascii "KXE-3000")) 0 16),
      (2, Config.hardwareRevision), (4, componentVersion t t.module.firmwareSlot 0), (4, componentVersion t t.module.firmwareSlot 1),
      (4, componentVersion t t.module.firmwareSlot 2), (4, componentVersion t t.module.firmwareSlot 3),
      (1, (setOf t t.module.firmwareSlot).slipstream), (1, Nat.log2 (setOf t t.module.firmwareSlot).kpc + 1),
      (1, (setOf t t.module.firmwareSlot).mailbox), (1, (setOf t t.module.firmwareSlot).settings), (1, t.module.firmwareSlot),
      (1, t.prog.slot), (4, t.module.bootCount)]
    have hid : le 16 (Bytes.field (identifier t) 0 16) = identifier t := le_field_padTo 16 _
    have hrange : List.range 4 = [0, 1, 2, 3] := rfl
    simpa [fieldsFrom, hid, le_field_padTo, hrange] using h
  · refine ⟨_, body_of_sized (c := cmdMailboxCounters) rfl (of_decide_eq_true h) t, ?_⟩
    have h := isReport_flatMap_le [(8, t.mbx.accepted), (4, t.mbx.replays), (4, t.mbx.attachments), (4, t.mbx.discarded),
      (4, t.mbx.cancelled), (4, t.mbx.staleEpoch), (4, t.mbx.busyRetry), (4, t.mbx.headerErrors), (4, t.mbx.windowMismatches),
      (4, t.mbx.voteAcceptances), (2, t.mbx.maxDepth), (4, t.mbx.maxWait)]
    simpa [fieldsFrom] using h
  · rw [lamps_of_hasMailbox h, axisLamps, stateLamp_of_hasMailbox h, lanesLamp, progLamp_eq, pairLamp_eq, timeLamp_eq]
  · simp only [lamps, testColour_of_not_booting (s := s) (by simp [h]), h, stateLamp]
  · simp only [lamps, testColour_of_not_booting (s := s) (by simp [h]), h]
  · refine ⟨fun h => ?_, fun h h' => ?_, fun h h' => ?_⟩
    · simp only [lamps, testColour, hb, ht, h, if_true]
    · simp only [lamps, testColour, hb, ht, h.not_gt, h', if_true, if_false]
    · have hgreen : ¬s.time < t + milli 200 := by simp only [milli] at h ⊢; omega
      simp only [lamps, testColour, hb, ht, hgreen, h.not_gt, h', if_true, if_false]
  · constructor
    · rw [lit_code hn, lit_code hn, Nat.add_mul_mod_self_right]
    · intro m hm
      rw [lit_code hn, Nat.mod_eq_of_lt hm, ← flashes_iff]
      simp

end Sys2Proof.Machine
end

section
/-! SUPPORT. The lane window: doorbells, takeovers, pops, shadow fetches, takes, full time and register writes (R74 to R76, R82, R83, R446,
R447, R463, R464, R524). -/

namespace Sys2Proof.Machine

open Sys2Proof.Claims

/-! ### The arms of the dispatch for the window's accesses -/

theorem exec_laneCopyTakeover (l : Lane) (k : Fin 16) (s : State) : exec (.laneCopyTakeover l k) s = execLaneCopyTakeover l k s := rfl
theorem exec_mbxChPop (l : Lane) (k : Fin 16) (s : State) : exec (.mbxChPop l k) s = execMbxChPop l k s := rfl
theorem exec_mbxShadowFetch (l : Lane) (s : State) : exec (.mbxShadowFetch l) s = execMbxShadowFetch l s := rfl
theorem exec_actTake (l : Lane) (s : State) : exec (.actTake l) s = execActTake l s := rfl
theorem exec_registerWrite (l : Lane) (offset : Nat) (value : Word32) (s : State) :
    exec (.registerWrite l offset value) s = execRegisterWrite l offset value s := rfl
theorem exec_mailboxResponseDelayEnd (s : State) : exec .mailboxResponseDelayEnd s = execMailboxResponseDelayEnd s := rfl

/-! ### Doorbells and takeovers (R76) -/

section
variable {l : Lane} {k : Nat} {value : Word32} {s : State}

theorem doorbell_of_outstanding (h : ((s.mbx.lanes.get l).channel k).doorbell.isSome = true) :
    doorbell l k value s = modChannel l k (fun _ => { ((s.mbx.lanes.get l).channel k) with overrun := true }) s := by
  simp only [doorbell, h, Bool.or_true, if_true]
  exact modChannel_congr (if_pos h)

variable (hd : ((s.mbx.lanes.get l).channel k).doorbell = none)
include hd

theorem doorbell_of_unbound (ho : channelOwner s k = none) : doorbell l k value s =
    modChannel l k (fun _ => { ((s.mbx.lanes.get l).channel k) with hdrErr := true }) (countHeaderError s) := by
  have hk : ((countHeaderError s).mbx.lanes.get l).channel k = (s.mbx.lanes.get l).channel k := rfl
  simp only [doorbell, hd, ho, Option.isSome_none, Bool.or_false, Bool.false_eq_true, if_false, Bool.not_false, if_true]
  exact modChannel_congr (by simp only [hk, hd, Option.isSome_none, Bool.false_eq_true, if_false])

variable (ho : (channelOwner s k).isSome = true)
include ho

theorem doorbell_of_noCredit (hc : 4 ≤ ((s.mbx.lanes.get l).channel k).credits.length) : doorbell l k value s =
    modChannel l k (fun _ => { ((s.mbx.lanes.get l).channel k) with noCredit := true }) s := by
  simp only [doorbell, ho, Bool.true_or, if_true]
  exact modChannel_congr (by simp [hd, hc])

theorem doorbell_of_credit (hc : ((s.mbx.lanes.get l).channel k).credits.length < 4) : doorbell l k value s =
    modChannel l k (fun _ => { ((s.mbx.lanes.get l).channel k) with doorbell := some (value.toNat % 2048) }) s := by
  simp only [doorbell, ho, Bool.true_or, if_true]
  exact modChannel_congr (by simp [hd, hc.not_ge])

end

theorem exec_mbxChDoorbell {l : Lane} {k : Fin 16} {value : Word32} {s : State} (h : hasMailbox s = true) :
    exec (.mbxChDoorbell l k value) s = .next (doorbell l k value s) := congrArg _ (if_pos h)

/-! Taking a copy over leaves the lane itself and the owners of the channels alone. -/

theorem laneOf_modChannel (l j : Lane) (k : Nat) (f : LaneChannel → LaneChannel) (s : State) : laneOf (modChannel l k f s) j = laneOf s j := rfl
theorem channelOwner_modChannel (l : Lane) (k j : Nat) (f : LaneChannel → LaneChannel) (s : State) :
    channelOwner (modChannel l k f s) j = channelOwner s j := rfl

section
variable {l : Lane} {k : Fin 16} {n : Nat} {s : State} (hd : ((s.mbx.lanes.get l).channel k).doorbell = some n)
  (hv : inVotingSet (laneOf s l) = true)
include hd hv

theorem laneCopyTakeover_refused (hc : (laneCopyOk k n (padTo n ((s.mbx.lanes.get l).channel k).request) && (channelOwner s k).isSome) = false) :
    exec (.laneCopyTakeover l k) s = .next (modChannel l k (fun c => { c with hdrErr := true })
      (countHeaderError (modChannel l k (fun c => { c with doorbell := none }) s))) := by
  simp only [exec_laneCopyTakeover, execLaneCopyTakeover, hd, laneOf_modChannel, channelOwner_modChannel, hv, hc, Bool.not_true,
    Bool.not_false, Bool.false_eq_true, if_false, if_true]

theorem laneCopyTakeover_taken (hc : (laneCopyOk k n (padTo n ((s.mbx.lanes.get l).channel k).request) && (channelOwner s k).isSome) = true)
    (hf : ((s.mbx.lanes.get l).channel k).credits.length < 4) :
    exec (.laneCopyTakeover l k) s = .next (takeCopy l k (padTo n ((s.mbx.lanes.get l).channel k).request)
      (modChannel l k (fun c => { c with credits := c.credits ++ [Bytes.field (padTo n ((s.mbx.lanes.get l).channel k).request) 8 4] })
        (modChannel l k (fun c => { c with doorbell := none }) s))) := by
  simp only [exec_laneCopyTakeover, execLaneCopyTakeover, hd, laneOf_modChannel, channelOwner_modChannel, hv, hc, hf.not_ge, Bool.not_true,
    Bool.false_eq_true, if_false]

end

/-! ### The full time (R447) -/

/-- What the short time has advanced by is told apart from a step back while it is less than 2³¹ ns. -/
theorem extend_exact {sum advance : Int} (f : FullTime) (h0 : 0 ≤ advance) (h1 : advance < 2 ^ 31) :
    f.extend sum ((f.last + (sum - f.lastSum) + advance) % 2 ^ 32).toNat = { last := f.last + (sum - f.lastSum) + advance, lastSum := sum } := by
  generalize hl : f.last + (sum - f.lastSum) = last
  have hd : ((((last + advance) % 2 ^ 32).toNat : Int) - last) % 2 ^ 32 = advance := by omega
  simp only [FullTime.extend, hl, hd, if_neg h1.not_ge]

/-! ### Register writes (R9) -/

section
variable {l : Lane} {value : Word32} {off : Nat} {s : State} (hm : hasMailbox s = true)
include hm

theorem registerWrite_mailbox (ha : off % 4 = 0) (hb : off / 0x10000 = 0) :
    exec (.registerWrite l off value) s = .next (writeMailbox l off value s) := by
  simp [exec_registerWrite, execRegisterWrite, lanesRun, hm, ha, hb]

theorem registerWrite_activation (ha : off % 4 = 0) (hb : off / 0x10000 = 1) :
    exec (.registerWrite l off value) s = .next (writeActivation l (off % 0x10000) value s) := by
  simp [exec_registerWrite, execRegisterWrite, lanesRun, hm, ha, hb]

end

theorem registerWrite_elsewhere {l : Lane} {value : Word32} {off : Nat} {s : State} (hb : 2 ≤ off / 0x10000) :
    exec (.registerWrite l off value) s = .next s := by
  simp only [exec_registerWrite, execRegisterWrite]
  split
  · rfl
  · split
    · omega
    · omega
    · rfl

/-- Below the channels' registers a mailbox block has nothing to write. -/
theorem writeMailbox_of_low {l : Lane} {value : Word32} {off : Nat} {s : State} (h : off < 0x100) : writeMailbox l off value s = s := by
  have h1 : ¬0x100 ≤ off := by omega
  have h2 : off ≠ 0x200 := by omega
  have h3 : off ≠ 0x204 := by omega
  have h4 : ¬0x4000 ≤ off := by omega
  simp [writeMailbox, h1, h2, h3, h4]

theorem registerWrite_ignored {l : Lane} {value : Word32} {off : Nat} {s : State} (hm : hasMailbox s = true)
    (h : (off % 4 != 0 || off < 0x100 || 0x30000 ≤ off) = true) : exec (.registerWrite l off value) s = .next s := by
  by_cases ha : off % 4 = 0
  · have hr : off < 0x100 ∨ 0x30000 ≤ off := by simpa [ha] using h
    rcases hr with hr | hr
    · rw [registerWrite_mailbox hm ha (by omega), writeMailbox_of_low hr]
    · exact registerWrite_elsewhere (by omega)
  · exact if_pos (by simp [ha])

/-- Settles O51: each access to a lane's window by the cases of its block. -/
theorem laneWindowsActAsTheirBlocksSay : Obligations.LaneWindowsActAsTheirBlocksSay := by
  refine ⟨fun l k value s hm hd => ?_, fun l k value s hm hd ho => ?_, fun l k value s hm hd ho hc => ?_, fun l k value s hm hd ho hc => ?_,
    fun l k s hd => ?_, fun l k n s hd hv hc => laneCopyTakeover_refused hd hv hc, fun l k n s hd hv hc hf => laneCopyTakeover_taken hd hv hc hf,
    fun l k s hr => ?_, fun l k n rest s hr => ?_,
    fun l s hf => ?_, fun l e s hf => ?_,
    fun l s hr => ?_, fun l k s hr => ?_,
    fun l value s hm hv => ?_, fun l value s hm hv => ?_,
    fun l s => ?_, fun sum advance f => extend_exact f,
    fun l value s hm => ?_, fun l value s hm => ?_, fun l value s hm => ?_, fun l value off s hm h => registerWrite_ignored hm h,
    fun l k token s => rfl,
    fun d rest s hd => ?_, fun n bytes x s hx hk => ?_, fun n c bytes x s hx hk hc => ?_, fun s hd => ?_⟩
  -- MBX_CH_DOORBELL
  · rw [exec_mbxChDoorbell hm, doorbell_of_outstanding hd]
  · rw [exec_mbxChDoorbell hm, doorbell_of_unbound hd ho]
  · rw [exec_mbxChDoorbell hm, doorbell_of_noCredit hd ho hc]
  · rw [exec_mbxChDoorbell hm, doorbell_of_credit hd ho hc]
  -- LANE_COPY_TAKEOVER of no copy
  · simp only [exec_laneCopyTakeover, execLaneCopyTakeover, hd]
  -- MBX_CH_POP
  · simp only [exec_mbxChPop, execMbxChPop, hr]
  · simp only [exec_mbxChPop, execMbxChPop, hr]
  -- MBX_SHADOW_FETCH
  · simp only [exec_mbxShadowFetch, execMbxShadowFetch, hf]
  · simp only [exec_mbxShadowFetch, execMbxShadowFetch, hf]
    rfl
  -- ACT_TAKE
  · simp only [exec_actTake, execActTake, hr]
  · simp only [exec_actTake, execActTake, hr, modLane_modLane]
  -- ACT_DEFER
  · refine congrArg _ ((if_pos hm).trans ?_)
    simp only [writeDefer, hv, Bool.false_eq_true, if_false]
  · refine congrArg _ ((if_pos hm).trans ?_)
    simp only [writeDefer, hv, if_true]
  -- TIM_STEP_SUM_LO
  · rfl
  -- REGISTER_WRITE
  · exact registerWrite_mailbox hm rfl rfl
  · exact registerWrite_mailbox hm rfl rfl
  · exact registerWrite_activation hm rfl rfl
  -- MAILBOX_RESPONSE_DELAY_END
  · simp only [exec_mailboxResponseDelayEnd, execMailboxResponseDelayEnd, hd]
  · simp only [sendNow, hx]
    split
    next hp _ => exact absurd hp hk
    next => rfl
  · simp only [sendNow, hx, hk, hc]
  · simp only [exec_mailboxResponseDelayEnd, execMailboxResponseDelayEnd, hd]

end Sys2Proof.Machine
end

section
/-! SUPPORT. The reports of the LANE commands (R143 to R145). -/

namespace Sys2Proof.Machine

open Sys2Proof.Claims

/-! ### Pieces of one width, and fields in another order -/

theorem fieldsFrom_append (o : Nat) (l m : List (Nat × Nat)) :
    fieldsFrom o (l ++ m) = fieldsFrom o l ++ fieldsFrom (o + (l.map Prod.fst).sum) m := by
  induction l generalizing o with
  | nil => rfl
  | cons p l ih => simp [fieldsFrom, ih, Nat.add_assoc]

/-- Pieces of one width stand at its multiples. -/
theorem fieldsFrom_range (o w n : Nat) (f : Nat → Nat) :
    fieldsFrom o ((List.range n).map fun k => (w, f k)) = (List.range n).map fun k => (o + w * k, w, f k) := by
  induction n with
  | zero => rfl
  | succ n ih => simp [List.range_succ, fieldsFrom_append, ih, fieldsFrom, Function.comp_def, Nat.mul_comm]

/-- A report's fields may be listed in any order. -/
theorem isReport_of_subset {n : Nat} {l m : List Field} {r : Bytes} (h : IsReport n l r) (hs : m ⊆ l) : IsReport n m r :=
  And.imp_right (fun hf f hm => hf f (hs hm)) h

/-! ### The counters of Table 4.12 -/

/-- The counters of Table 4.12 before the response times, the response times, and those after them: width and capped value of each. -/
def countersBefore (h : LaneHealth) : List (Nat × Nat) :=
  (8, min h.majority 0xFFFFFFFFFFFFFFFF) :: [h.dissents, h.missing, h.faultMemory, h.faultSnapshot, h.faultTrap, h.faultWatchdog,
    h.faultClock, h.corrected, h.isolations, h.reshootsStarted, h.reshootsCompleted, h.reshootsFailed].map fun v => (4, min v 0xFFFFFFFF)
def responseTimes (h : LaneHealth) : List (Nat × Nat) := (List.range 16).map fun k => (4, min (Tbl.get h.response k 0) 0xFFFFFFFF)
def countersAfter (h : LaneHealth) (now : Nat) : List (Nat × Nat) :=
  [h.twoLane + now, h.testsRun, h.testsFailed].map fun v => (4, min v 0xFFFFFFFF)

theorem healthBytes_eq_flatMap_le (h : LaneHealth) (now : Nat) :
    healthBytes h now = (countersBefore h ++ responseTimes h ++ countersAfter h now).flatMap fun p => le p.1 p.2 := by
  simp [healthBytes, capped, countersBefore, responseTimes, countersAfter, List.flatMap_map]

theorem countersBefore_width (h : LaneHealth) : ((countersBefore h).map Prod.fst).sum = 56 := by simp [countersBefore]
theorem responseTimes_width (h : LaneHealth) : ((responseTimes h).map Prod.fst).sum = 64 := by
  simp [responseTimes, Function.comp_def]
theorem countersAfter_width (h : LaneHealth) (now : Nat) : ((countersAfter h now).map Prod.fst).sum = 12 := by simp [countersAfter]

theorem fieldsFrom_counters (h : LaneHealth) (now : Nat) : fieldsFrom 0 (countersBefore h ++ responseTimes h ++ countersAfter h now) =
    fieldsFrom 0 (countersBefore h) ++ (List.range 16).map (fun k => (56 + 4 * k, 4, min (Tbl.get h.response k 0) 0xFFFFFFFF)) ++
      fieldsFrom 120 (countersAfter h now) := by
  rw [fieldsFrom_append, fieldsFrom_append, List.map_append, List.sum_append, countersBefore_width, responseTimes_width, responseTimes,
    fieldsFrom_range]

/-- LANE_HEALTH's result, its fields with the response times last. -/
theorem isReport_healthBytes (h : LaneHealth) (now : Nat) : IsReport 132
    (fieldsFrom 0 (countersBefore h) ++ fieldsFrom 120 (countersAfter h now) ++
      (List.range 16).map fun k => (56 + 4 * k, 4, min (Tbl.get h.response k 0) 0xFFFFFFFF)) (healthBytes h now) := by
  have hr := isReport_flatMap_le (countersBefore h ++ responseTimes h ++ countersAfter h now)
  rw [← healthBytes_eq_flatMap_le, fieldsFrom_counters] at hr
  simp only [List.map_append, List.sum_append, countersBefore_width, responseTimes_width, countersAfter_width] at hr
  refine isReport_of_subset hr fun f hf => ?_
  simp only [List.mem_append] at hf ⊢
  rcases hf with (hf | hf) | hf
  · exact .inl (.inl hf)
  · exact .inr hf
  · exact .inl (.inr hf)

/-! ### The commands -/

theorem laneField_of_lt {e : Entry} (h : e.field 0 1 < 3) : laneField e = some (Lane.at (e.field 0 1)) := if_pos h

/-- Settles O20: each report is made of its pieces, and the trace is read as it stands. -/
theorem laneReportsGiveWhatTheTableLists : Obligations.LaneReportsGiveWhatTheTableLists := by
  refine ⟨reports_of_body cmdLaneStatus (fun _ _ => rfl) rfl rfl (fun _ _ _ => rfl) fun e t h => ?_,
    reports_of_body cmdLaneHealth (fun _ _ => rfl) rfl rfl (fun _ _ _ => rfl) fun e t h => ?_,
    answers_of_body cmdLaneTraceRead (fun _ _ => rfl) rfl rfl (fun _ _ _ => rfl) fun e t h => ?_⟩
  · refine ⟨_, body_of_sized (c := cmdLaneStatus) rfl (of_decide_eq_true h) t, ?_⟩
    have hr := isReport_flatMap_le [(1, (laneOf t .a).state.code), (1, (recentIsolations (laneOf t .a) t.time).length),
      (1, (laneOf t .b).state.code), (1, (recentIsolations (laneOf t .b) t.time).length),
      (1, (laneOf t .c).state.code), (1, (recentIsolations (laneOf t .c) t.time).length),
      (2, t.voter.stagger), (2, acceptanceWindow t), (4, twoLaneSeconds t), (4, 3600 * t.voter.twoLaneLimit), (8, t.voter.testTime),
      (1, t.voter.testResult), (1, bit t.voter.testQueued)]
    simpa [fieldsFrom, Lane.all, acceptanceWindow] using hr
  · simp only [Bool.and_eq_true, decide_eq_true_eq] at h
    obtain ⟨hl, hn⟩ := h
    refine ⟨_, (body_of_sized (c := cmdLaneHealth) rfl hl t).trans (by rw [laneField_of_lt hn]), ?_⟩
    exact isReport_healthBytes _ _
  · simp only [Bool.and_eq_true, decide_eq_true_eq] at h
    obtain ⟨⟨hl, h1⟩, h2⟩ := h
    refine (body_of_sized (c := cmdLaneTraceRead) rfl hl t).trans (if_neg ?_)
    simp only [Bool.or_eq_true, decide_eq_true_eq]
    omega

end Sys2Proof.Machine
end

section
/-! SUPPORT. The LANE commands that change something, and the whole comparator test (R126, R136 to R143, R147). -/

namespace Sys2Proof.Machine

open Sys2Proof.Claims

/-! ### The comparator test (R138 to R140) -/

theorem patternPasses_iff {n : Nat} {r : VoterReading} :
    patternPasses n r = true ↔ r.decision = (pattern n).decision ∧ r.lane = (pattern n).isolated ∧ r.us ≤ 40 := by
  simp [patternPasses, and_assoc]

/-- The first pattern without a reading that passes, or else the first line drive that does not read back. -/
theorem comparatorFinding_eq_or (readings : List VoterReading) (drives : List Bool) : comparatorFinding readings drives =
    ((List.range 206).find? fun n => !readings[n]?.any (patternPasses n)).or
      (((List.range 5).find? fun k => drives[k]? != some true).map (206 + ·)) := by
  unfold comparatorFinding
  extract_lets wrong
  have hw : wrong = fun n => !readings[n]?.any (patternPasses n) := funext fun n => by
    simp only [wrong]
    cases readings[n]? <;> rfl
  rw [hw, show roundSlices 0 = 206 from rfl]
  cases (List.range 206).find? fun n => !readings[n]?.any (patternPasses n) <;> rfl

/-- The test finds nothing where every pattern has a reading that passes and every line drive reads back. -/
theorem comparatorFinding_eq_none_iff {readings : List VoterReading} {drives : List Bool} :
    comparatorFinding readings drives = none ↔
      (∀ n < 206, ∃ r, readings[n]? = some r ∧ patternPasses n r = true) ∧ ∀ k < 5, drives[k]? = some true := by
  simp only [comparatorFinding_eq_or, Option.or_eq_none_iff, Option.map_eq_none_iff, List.find?_eq_none, List.mem_range, Bool.not_eq_true',
    Bool.not_eq_false, Option.any_eq_true, bne_iff_ne, ne_eq, not_not]

/-! ### The commands -/

/-- Where the image loaded, if one is, fits a stagger, there is no misfit. -/
theorem staggerMisfit_of_fits {t : State} {stagger : Nat}
    (h : (translatedImage t t.prog.slot).all (fun i => (misfit t i (slotOf t t.prog.slot).digest stagger).isNone) = true) :
    staggerMisfit t stagger = false := by
  unfold staggerMisfit
  cases hi : translatedImage t t.prog.slot with
  | none => rfl
  | some i => simpa [hi] using h

/-- Settles O21: each answer is the body of its command under its premise, and the whole test finds nothing where all of it passes. -/
theorem lanesAreCommanded : Obligations.LanesAreCommanded := by
  refine ⟨answers_of_body cmdLaneIsolate (fun _ _ => rfl) rfl rfl (fun _ _ _ => rfl) fun e t h => ?_,
    answers_of_body cmdLaneIsolate (fun _ _ => rfl) rfl rfl (fun _ _ _ => rfl) fun e t h => ?_,
    answers_of_body cmdLaneReshoot (fun _ _ => rfl) rfl rfl (fun _ _ _ => rfl) fun e t h => ?_,
    answers_of_body cmdLaneReshoot (fun _ _ => rfl) rfl rfl (fun _ _ _ => rfl) fun e t h => ?_,
    answers_of_body cmdStaggerSet (fun _ _ => rfl) rfl rfl (fun _ _ _ => rfl) fun e t h => ?_,
    answers_of_body cmdVoterTest (fun _ _ => rfl) rfl rfl (fun _ _ _ => rfl) fun e t h => ?_,
    answers_of_body cmdLaneDiagClear (fun _ _ => rfl) rfl rfl (fun _ _ _ => rfl) fun e t h => ?_,
    fun readings drives => ?_⟩
  -- LANE_ISOLATE
  · simp only [Bool.and_eq_true, decide_eq_true_eq, bne_iff_ne] at h
    obtain ⟨⟨⟨⟨⟨⟨hl, hn⟩, hh⟩, hm⟩, hp⟩, h3⟩, hv⟩ := h
    refine (body_of_sized (c := cmdLaneIsolate) rfl hl t).trans ?_
    have hh' : ¬1 < e.field 1 1 := by omega
    simp [laneField_of_lt hn, hh', hm, hp, h3, hv]
  · simp only [Bool.and_eq_true, decide_eq_true_eq, bne_iff_ne] at h
    obtain ⟨⟨⟨⟨⟨hl, hn⟩, hh⟩, hm⟩, hp⟩, h3⟩ := h
    refine (body_of_sized (c := cmdLaneIsolate) rfl hl t).trans ?_
    have hh' : ¬1 < e.field 1 1 := by omega
    simp [laneField_of_lt hn, hh', hm, hp, h3]
  -- LANE_RESHOOT
  · simp only [Bool.and_eq_true, Bool.or_eq_true, decide_eq_true_eq, bne_iff_ne] at h
    obtain ⟨⟨⟨⟨⟨hl, hn⟩, hs⟩, hm⟩, hr⟩, -⟩ := h
    refine (body_of_sized (c := cmdLaneReshoot) rfl hl t).trans ?_
    rcases hs with hs | hs <;> simp [laneField_of_lt hn, hs, hm, hr]
  · simp only [Bool.and_eq_true, decide_eq_true_eq, bne_iff_ne] at h
    obtain ⟨⟨⟨hl, hn⟩, hi⟩, hr⟩ := h
    refine (body_of_sized (c := cmdLaneReshoot) rfl hl t).trans ?_
    simp [laneField_of_lt hn, hi, hr]
  -- STAGGER_SET
  · simp only [Bool.and_eq_true, decide_eq_true_eq, Bool.not_eq_true'] at h
    obtain ⟨⟨⟨⟨hl, h20⟩, h200⟩, hr⟩, hf⟩ := h
    refine (body_of_sized (c := cmdStaggerSet) rfl hl t).trans ?_
    have hrange : ¬(e.field 0 2 < 20 ∨ 200 < e.field 0 2) := by omega
    simp [hrange, hr, staggerMisfit_of_fits hf]
  -- VOTER_TEST
  · exact body_of_sized (c := cmdVoterTest) rfl (of_decide_eq_true h) t
  -- LANE_DIAG_CLEAR
  · simp only [Bool.and_eq_true, decide_eq_true_eq] at h
    obtain ⟨hl, h3⟩ := h
    exact (body_of_sized (c := cmdLaneDiagClear) rfl hl t).trans (if_neg (by omega))
  -- The whole comparator test
  · simp only [comparatorFinding_eq_none_iff, patternPasses_iff]

end Sys2Proof.Machine
end

section
/-! SUPPORT. Freezes, take starts, postings, deadlines, lane faults, reshoot steps, the two-lane limit and divergence (R104, R105, R109, R112,
R122, R125, R127, R130, R132, R136, R191 to R193). -/

namespace Sys2Proof.Machine

/-! ### The arms of the dispatch for these events -/

theorem exec_inputFreeze (task : Nat) (s : State) : exec (.inputFreeze task) s = execInputFreeze task s := rfl
theorem exec_takeStart (l : Lane) (task : Nat) (s : State) : exec (.takeStart l task) s = execTakeStart l task s := rfl
theorem exec_signaturePost (l : Lane) (task take epoch : Nat) (upset : Word64) (s : State) :
    exec (.signaturePost l task take epoch upset) s = execSignaturePost l task take epoch upset s := rfl
theorem exec_voteDeadline (task : Nat) (s : State) : exec (.voteDeadline task) s = execVoteDeadline task s := rfl
theorem exec_laneRestartDone (l : Lane) (passed : Bool) (s : State) : exec (.laneRestartDone l passed) s = execLaneRestartDone l passed s := rfl
theorem exec_reshootExportDone (v : Lane) (task : Nat) (upset : Word64) (s : State) :
    exec (.reshootExportDone v task upset) s = execReshootExportDone v task upset s := rfl
theorem exec_reshootImportDone (task : Nat) (upset : Word64) (s : State) :
    exec (.reshootImportDone task upset) s = execReshootImportDone task upset s := rfl
theorem exec_twoLaneLimitExpiry (s : State) : exec .twoLaneLimitExpiry s = execTwoLaneLimitExpiry s := rfl
theorem exec_divergenceComparisonDone (l : Lane) (task : Nat) (s : State) :
    exec (.divergenceComparisonDone l task) s = execDivergenceComparisonDone l task s := rfl

/-! ### The freeze (R191 to R193) -/

theorem inputFreeze_activated {task t0 : Nat} {i : Image} {r : TaskRec} {s : State} (hp : programRuns s = true) (hs : s.prog.stopping = none)
    (hr : s.pair.role ≠ .standby) (hi : runningImage s = some i) (ht : taskRec i task = some r) (ha : activationInstant s r = some t0) :
    exec (.inputFreeze task) s = .next (if activationBarred s t0 then s else freezeTask i r t0 (reach t0 s)) := by
  simp [exec_inputFreeze, execInputFreeze, hp, hs, hr, hi, ht, ha]

theorem inputFreeze_idle {task : Nat} {s : State} (h : programRuns s = false ∨ s.prog.stopping.isSome = true ∨ s.pair.role = .standby) :
    exec (.inputFreeze task) s = .next s := by
  refine if_pos ?_
  rcases h with h | h | h <;> simp [h]

/-! ### The start of a take (R109) -/

/-- The state in which a delivered take meets its start offset in a lane. -/
def atStart (l : Lane) (t : LaneTake) (s : State) : State :=
  abandonEarlier l t (reach (t.readyAt + (jitterStart l s).1) (jitterStart l s).2)

section
variable {l : Lane} {task : Nat} {t : LaneTake} {i : Image} {r : TaskRec} {s : State}
  (ht : ((laneOf s l).takes.find? fun t => t.task = task && t.phase = .delivered) = some t) (hi : runningImage s = some i)
  (hr : taskRec i task = some r)
include ht hi hr

theorem takeStart_ok (hk : (snapshotOk t.snapshot && forceAreaOk t.forceArea) = true) : exec (.takeStart l task) s = .next
    (modLane l (fun x => startTake i r ((atStart l t s).mbx.lanes.get l) { x with watchdogServed := watchdogLast x (atStart l t s).time }
      { t with fullTime := FullTime.start (atStart l t s).clock.stepSum t.snapshot }) (setReady l task (atStart l t s))) := by
  simp only [exec_takeStart, execTakeStart, ht, hi, hr, hk, Bool.not_true, Bool.false_eq_true, if_false]
  rfl

theorem takeStart_badSnapshot (hk : snapshotOk t.snapshot = false) :
    exec (.takeStart l task) s = .next (laneFault l .snapshot (atStart l t s)) := by
  simp only [exec_takeStart, execTakeStart, ht, hi, hr, hk, Bool.false_and, Bool.not_false, if_true]
  rfl

end

/-! ### Postings (R112, R122) -/

theorem signaturePost_ignored {l : Lane} {task take epoch : Nat} {upset : Word64} {s : State}
    (hv : (inVotingSet (laneOf s l) || (laneOf s l).reshooting && (laneOf s l).state != .restarting) = false) :
    exec (.signaturePost l task take epoch upset) s = .next s := if_pos (by simp [hv])

section
variable {l : Lane} {task take epoch : Nat} {upset : Word64} {s : State} (hm : lanesRun s = true)
  (hv : (inVotingSet (laneOf s l) || (laneOf s l).reshooting && (laneOf s l).state != .restarting) = true)
include hm hv

theorem signaturePost_unawaited (hw : awaitedFrom s l task take = none) (hl : postedLate s task take = false) :
    exec (.signaturePost l task take epoch upset) s = .next (laneFault l .trap s) := by
  simp only [exec_signaturePost, execSignaturePost, hm, hv, hw, hl, Bool.not_true, Bool.or_false, Bool.false_eq_true, if_false]

variable {v : VoteTake} {i : Image} {r : TaskRec} (hw : awaitedFrom s l task take = some v) (hi : runningImage s = some i)
  (hr : taskRec i task = some r)
include hw hi hr

theorem signaturePost_finished {t : LaneTake}
    (ht : ((laneOf s l).takes.find? fun t => t.task = task && t.take = take && t.phase = .running && t.frames.isEmpty) = some t) :
    exec (.signaturePost l task take epoch upset) s = .next (if v.deadline < s.time then s else postSignature i r v l t upset s) := by
  simp only [exec_signaturePost, execSignaturePost, hm, hv, hw, hi, hr, ht, Bool.not_true, Bool.or_false, Bool.false_eq_true, if_false]

theorem signaturePost_unfinished
    (ht : ((laneOf s l).takes.find? fun t => t.task = task && t.take = take && t.phase = .running && t.frames.isEmpty) = none) :
    exec (.signaturePost l task take epoch upset) s = .next (if v.deadline < s.time then s else postUnfinished i r v l upset s) := by
  simp only [exec_signaturePost, execSignaturePost, hm, hv, hw, hi, hr, ht, Bool.not_true, Bool.or_false, Bool.false_eq_true, if_false]

end

/-! ### Deadlines (R122, R125) -/

/-- What orders the awaited takes that are due: the clock period of the deadline, then the task's priority. -/
def dueKey (s : State) (v : VoteTake) : ℕ ×ₗ ℕ := toLex (v.deadline / 5, taskPriority s v.task)

/-- The first due take is the one of least key. -/
theorem firstDue_eq_argmin (s : State) (period : Nat) :
    firstDue s period = (s.voter.takes.filter fun v => v.deadline / 5 ≤ period).argmin (dueKey s) := by
  unfold firstDue List.argmin
  extract_lets before
  congr 1
  funext best v
  cases best with
  | none => rfl
  | some b => simp [before, List.argAux, dueKey, Prod.Lex.toLex_lt_toLex]

theorem firstDue_spec {s : State} {period : Nat} {w : VoteTake} (h : firstDue s period = some w) :
    w ∈ s.voter.takes ∧ w.deadline / 5 ≤ period ∧ ∀ u ∈ s.voter.takes, u.deadline / 5 ≤ period →
      w.deadline / 5 < u.deadline / 5 ∨ w.deadline / 5 = u.deadline / 5 ∧ taskPriority s w.task ≤ taskPriority s u.task := by
  rw [firstDue_eq_argmin] at h
  have hw := List.argmin_mem h
  simp only [List.mem_filter, decide_eq_true_eq] at hw
  obtain ⟨hmem, hdue⟩ := hw
  refine ⟨hmem, hdue, fun u hu hdu => ?_⟩
  have hle := List.le_of_mem_argmin (f := dueKey s) (List.mem_filter.mpr ⟨hu, decide_eq_true hdu⟩) h
  exact Prod.Lex.toLex_le_toLex.mp hle

/-- A take that is itself the first due is the only one decided. -/
theorem decideDue_of_first {i : Image} {r : TaskRec} {v : VoteTake} {n : Nat} {s : State} (hd : firstDue s (v.deadline / 5) = some v)
    (hr : taskRec i v.task = some r) : decideDue i v (n + 1) s = atDeadline i r v (reach v.deadline s) := by
  simp only [decideDue, hd, hr]
  exact if_pos (by simp [VoteTake.same])

section
variable {task : Nat} {v : VoteTake} {i : Image} {s : State} (hv : (s.voter.takes.find? fun v => v.task = task) = some v)
  (hi : runningImage s = some i)
include hv hi

theorem voteDeadline_awaited : exec (.voteDeadline task) s = .next (decideDue i v s.voter.takes.length s) := by
  simp only [exec_voteDeadline, execVoteDeadline, hv, hi]

theorem voteDeadline_first {r : TaskRec} (hd : firstDue s (v.deadline / 5) = some v) (hr : taskRec i task = some r) :
    exec (.voteDeadline task) s = .next (atDeadline i r v (reach v.deadline s)) := by
  have htask : v.task = task := by simpa using List.find?_some hv
  have hlen : s.voter.takes.length = (s.voter.takes.length - 1) + 1 :=
    (Nat.sub_add_cancel (List.length_pos_of_mem (List.mem_of_find?_eq_some hv))).symm
  rw [voteDeadline_awaited hv hi, hlen, decideDue_of_first hd (by rw [htask, hr])]

end

/-! ### Steps of a reshoot (R132, R136) -/

theorem laneRestartDone_elsewhere {l : Lane} {passed : Bool} {s : State} (h : (laneOf s l).state ≠ .restarting) :
    exec (.laneRestartDone l passed) s = .next s := by
  simp only [exec_laneRestartDone, execLaneRestartDone]
  split
  next hs _ => exact absurd hs h
  next => rfl

/-- The image that runs and its record of a task. -/
theorem runningImage_bind_taskRec {task : Nat} {i : Image} {r : TaskRec} {s : State} (hi : runningImage s = some i)
    (hr : taskRec i task = some r) : ((runningImage s).bind fun i => (taskRec i task).map fun r => (i, r)) = some (i, r) := by
  simp [hi, hr]

/-- Of the check codes of the exports that are there and a new one, some code differs from the new one where one that is there does. -/
theorem checkCodes_any_ne (l : Tbl Bytes) (c : Nat) :
    ((l.map fun e => crc64 e.2) ++ [c]).any (fun x => x != c) = l.any fun e => crc64 e.2 != c := by
  rw [List.any_append, List.any_map]
  simp [Function.comp_def]

/-- What a voting lane exports of a task, as it arrives. -/
def sentExport (i : Image) (r : TaskRec) (v : Lane) (upset : Word64) (s : State) : Bytes := xorBytes upset (exportBytes i r (laneOf s v))

/-- The state once what a voting lane exports of a task is kept for the lane that rejoins. -/
def exportKept (l v : Lane) (task : Nat) (b : Bytes) (s : State) : State :=
  modReshoot l task (fun t => { t with exports := Tbl.put t.exports v.num b }) s

/-- The state once the lane that rejoins has imported a task from the lane of a number. -/
def taskImported (l : Lane) (i : Image) (r : TaskRec) (n : Nat) (b : Bytes) (s : State) : State :=
  modLane l (importFrom i r s.time b (laneOf s (Lane.at n))) s

section
variable {l v : Lane} {task : Nat} {upset : Word64} {i : Image} {r : TaskRec} {t : ReshootTask} {s : State}
  (hl : rejoining s = some l) (hi : runningImage s = some i) (hr : taskRec i task = some r)
  (ht : Tbl.find (laneOf s l).reshoot task = some t) (him : t.imported = false)
include hl hi hr ht him

/-- What a voting lane may export is kept and compared with the exports that are there. -/
theorem reshootExportDone_kept (hx : t.exportable = true) (he : t.exported = false) (hh : Tbl.has t.exports v.num = false)
    (hv : inVotingSet (laneOf s v) = true) : exec (.reshootExportDone v task upset) s = .next
      (if t.exports.any fun e => crc64 e.2 != crc64 (sentExport i r v upset s) then
        lockOut false 2 0 task 0 task (exportKept l v task (sentExport i r v upset s) s)
      else if 2 ≤ t.exports.length + 1 then
        modLane l (fun x => { x with state := if x.state = .ready then .transferring else x.state })
          (exportKept l v task (sentExport i r v upset s) s)
      else exportKept l v task (sentExport i r v upset s) s) := by
  simp only [exec_reshootExportDone, execReshootExportDone, hl, runningImage_bind_taskRec hi hr, ht, hx, him, he, hh, hv, Bool.not_true,
    Bool.or_false, Bool.false_eq_true, if_false, ← apply_ite Host.Outcome.next]
  rw [checkCodes_any_ne, List.length_append, List.length_map, List.length_singleton]
  rfl

/-- An import whose bytes, exported again, have the same check code is accepted; another one fails the reshoot. -/
theorem reshootImportDone_checked {n : Nat} {b : Bytes} {rest : Tbl Bytes} (he : t.exported = true) (hx : t.exports = (n, b) :: rest) :
    exec (.reshootImportDone task upset) s = .next
      (if crc64 (exportBytes i r (laneOf (taskImported l i r n b s) l)) ^^^ upset.toNat != crc64 b then
        failReshoot l (taskImported l i r n b s)
      else modLane l (fun x => { x with state := if allImported x then .probation else .transferring })
        (modReshoot l task (fun t => { t with imported := true, exports := [] }) (taskImported l i r n b s))) := by
  simp only [exec_reshootImportDone, execReshootImportDone, hl, runningImage_bind_taskRec hi hr, ht, hx, he, him, Bool.not_true,
    Bool.or_false, Bool.false_eq_true, if_false, ← apply_ite Host.Outcome.next]
  rfl

end

theorem reshootRetry_started {l : Lane} {s : State} (hs : (laneOf s l).state = .isolated) (hh : (laneOf s l).hold = false)
    (hf : 1 ≤ (laneOf s l).failedReshoots) (hp : programRuns s = true) (hn : s.prog.stopping = none) (hm : s.module.state ≠ .lockout) :
    exec (.reshootRetry l) s = .next (startReshoot l (reach ((laneOf s l).reshootStart + second 1) s)) :=
  if_pos (by simp [hs, hh, hf, hp, hn, hm])

theorem reshootRetry_idle {l : Lane} {s : State}
    (h : (laneOf s l).state ≠ .isolated ∨ (laneOf s l).hold = true ∨ (laneOf s l).failedReshoots = 0) : exec (.reshootRetry l) s = .next s :=
  if_neg (by rcases h with h | h | h <;> simp [h])

/-! ### The two-lane limit (R130) -/

theorem twoLaneLimitExpiry_reached {t : Nat} {s : State} (ht : s.voter.twoLaneSince = some t) (he : s.voter.twoLaneExpired = false)
    (hm : hasMailbox s = true) : exec .twoLaneLimitExpiry s = .next (recordLane 0xFFFF (le 1 4 ++ le 2 s.voter.twoLaneLimit)
      (modVoter (fun v => { v with twoLaneExpired := true }) (reach (t + second (3600 * s.voter.twoLaneLimit)) s))) := by
  simp only [exec_twoLaneLimitExpiry, execTwoLaneLimitExpiry, ht, he, hm, Bool.not_true, Bool.or_false, Bool.false_eq_true, if_false]
  rfl

theorem twoLaneLimitExpiry_idle {s : State} (h : s.voter.twoLaneSince = none ∨ s.voter.twoLaneExpired = true) :
    exec .twoLaneLimitExpiry s = .next s := by
  simp only [exec_twoLaneLimitExpiry, execTwoLaneLimitExpiry]
  rcases h with h | h
  · rw [h]
  · cases s.voter.twoLaneSince <;> simp [h]

theorem twoLaneLockout_entered {s : State} (he : s.voter.twoLaneExpired = true) (hs : standstill s = true) (hn : s.module.state ≠ .lockout)
    (hm : hasMailbox s = true) : exec .twoLaneLockout s = .next (lockOut false 4 0 0xFF 0 s.voter.twoLaneLimit s) :=
  if_pos (by simp [he, hs, hn, hm])

theorem twoLaneLockout_idle {s : State} (h : s.voter.twoLaneExpired = false ∨ standstill s = false) : exec .twoLaneLockout s = .next s :=
  if_neg (by rcases h with h | h <;> simp [h])

/-! ### Divergence (R127) -/

section
variable {l : Lane} {task : Nat} {d : Nat × Nat × List SerialRecord × List SerialRecord} {s : State}
  (hd : (s.voter.divergence.find? fun d => d.1 = l.num && d.2.1 = task) = some d)
include hd

theorem divergenceComparisonDone_differs {r : SerialRecord} (hr : firstDifference 65536 d.2.2.1 d.2.2.2 = some r) :
    exec (.divergenceComparisonDone l task) s = .next (recordLane l.num (le 1 2 ++ le 1 task ++ le 1 0 ++ le 8 r.identity ++ le 1 r.tag)
      (modVoter (fun v => { v with divergence := v.divergence.erase d }) s)) := by
  simp only [exec_divergenceComparisonDone, execDivergenceComparisonDone, hd, keptBytes, hr]

theorem divergenceComparisonDone_equal (hr : firstDifference 65536 d.2.2.1 d.2.2.2 = none) :
    exec (.divergenceComparisonDone l task) s = .next (recordLane l.num (le 1 2 ++ le 1 task ++ le 1 1 ++ le 8 0 ++ le 1 0)
      (modVoter (fun v => { v with divergence := v.divergence.erase d }) s)) := by
  simp only [exec_divergenceComparisonDone, execDivergenceComparisonDone, hd, keptBytes, hr]

end

/-- Settles O54: each event by the cases of its meaning. -/
theorem lanesVoteAndReshootFollowTheirEvents : Obligations.LanesVoteAndReshootFollowTheirEvents := by
  refine ⟨fun task i r t0 s hp hs hr hi ht ha hb => ?_, fun task i r t0 s hp hs hr hi ht ha hb => ?_, fun task s => inputFreeze_idle,
    fun l task t i r s => takeStart_ok, fun l task t i r s => takeStart_badSnapshot,
    fun l task take epoch upset v i r t s hm hv hw hi hr ht hd => ?_, fun l task take epoch upset v i r t s hm hv hw hi hr ht hd => ?_,
    fun l task take epoch upset s => signaturePost_unawaited, fun l task take epoch upset s => signaturePost_ignored,
    fun l task take epoch upset v i r s hm hv hw hi hr ht hd => ?_,
    fun task v i s => voteDeadline_awaited, fun task v i r s hv hd hi => voteDeadline_first hv hi hd, fun period w s => firstDue_spec,
    fun l c s hm => if_pos hm, fun l s hm hr => if_pos (by simp [hm, hr]), fun l s hm => if_pos hm,
    fun l c s hm => if_neg (by simp [hm]), fun l s hm => if_neg (by simp [hm]), fun l s hm => if_neg (by simp [hm]),
    fun l i s hs hi hc => ?_, fun l i s hs hi hc => ?_, fun l passed i s hs hi hc => ?_, fun l passed s => laneRestartDone_elsewhere,
    fun l v task upset i r t s hl hi hr ht hx him he hh hv hn => ?_,
    fun l v task upset i r t n b s hl hi hr ht hx him he hh hv hn hc => ?_,
    fun l v task upset i r t n b s hl hi hr ht hx him he hh hv hn hc => ?_,
    fun l task upset i r t n b rest s hl hi hr ht he him hx hc => ?_, fun l task upset i r t n b rest s hl hi hr ht he him hx hc => ?_,
    fun v task upset s hl => ?_, fun task upset s hl => ?_,
    fun l s => reshootRetry_started, fun l s => reshootRetry_idle,
    fun t s => twoLaneLimitExpiry_reached, fun s => twoLaneLimitExpiry_idle, fun s => twoLaneLockout_entered, fun s => twoLaneLockout_idle,
    fun l task d r s hd => divergenceComparisonDone_differs hd, fun l task d s => divergenceComparisonDone_equal, fun l task s hd => ?_⟩
  -- INPUT_FREEZE
  · rw [inputFreeze_activated hp hs hr hi ht ha, if_neg (by simp [hb])]
  · rw [inputFreeze_activated hp hs hr hi ht ha, if_pos hb]
  -- SIGNATURE_POST of an awaited take
  · rw [signaturePost_finished hm hv hw hi hr ht, if_neg hd.not_gt]
  · rw [signaturePost_finished hm hv hw hi hr ht, if_pos hd]
  · rw [signaturePost_unfinished hm hv hw hi hr ht, if_neg hd.not_gt]
  -- LANE_RESTART_DONE
  · simp [exec_laneRestartDone, execLaneRestartDone, hs, hi, hc]
  · simp [exec_laneRestartDone, execLaneRestartDone, hs, hi, hc]
  · simp [exec_laneRestartDone, execLaneRestartDone, hs, hi, hc]
  -- RESHOOT_EXPORT_DONE
  · rw [reshootExportDone_kept hl hi hr ht him hx he hh hv, hn]
    rfl
  · rw [reshootExportDone_kept hl hi hr ht him hx he hh hv, hn]
    simp [sentExport, exportKept, hc]
  · rw [reshootExportDone_kept hl hi hr ht him hx he hh hv, hn]
    simp [sentExport, exportKept, hc]
  -- RESHOOT_IMPORT_DONE
  · rw [reshootImportDone_checked hl hi hr ht him he hx, if_neg (by simpa [taskImported] using hc)]
    rfl
  · rw [reshootImportDone_checked hl hi hr ht him he hx, if_pos (by simpa [taskImported] using hc)]
    rfl
  -- no lane rejoins
  · simp only [exec_reshootExportDone, execReshootExportDone, hl]
  · simp only [exec_reshootImportDone, execReshootImportDone, hl]
  -- DIVERGENCE_COMPARISON_DONE of no comparison
  · simp only [exec_divergenceComparisonDone, execDivergenceComparisonDone, hd]

end Sys2Proof.Machine
end

section
/-! SUPPORT. Data instructions of a lane: how they write their results (Table 5.10). -/

namespace Sys2Proof

theorem MType.isFloat_of_isInt {t : MType} (h : t.isInt = true) : t.isFloat = false := by revert h; cases t <;> decide

theorem MType.isInt_of_isSigned {t : MType} (h : t.isSigned = true) : t.isInt = true := by revert h; cases t <;> decide

theorem MType.bits_ne_zero (t : MType) : t.bits ≠ 0 := by cases t <;> decide

theorem MType.least_of_signed {t : MType} (h : t.isSigned = true) : t.least = -2 ^ (t.bits - 1) := by simp [MType.least, h]

end Sys2Proof

namespace Sys2Proof.Machine

open Sys2Proof.Claims

/-! ### Types and integers of a local -/

theorem wrap_eq (t : MType) (v : Int) : t.wrap v = (v % 2 ^ t.bits).toNat := rfl

/-! ### Data instructions of one and two operands, and shifts -/

section
variable {l : Lane} {j : Instr} {op : Nat} {t c : MType} {r : Regs} {result : Frame → Nat × Nat}

theorem kpcUnary_writes {f : MType → Val → Result} (hj : ∀ s, exec j s = kpcUnary l op t r f s) (ha : opAllows op t = true)
    (hr : ∀ g, f t (operand g t r.a) = result g) : Writes l j 1 r.d result :=
  kpcData_writes _ _ hj ha fun k g h => by rw [get_operand h, hr]

theorem kpcBinary_writes {f : MType → Val → Val → Result} (hj : ∀ s, exec j s = kpcBinary l op t r f s) (ha : opAllows op t = true)
    (hr : ∀ g, f t (operand g t r.a) (operand g t r.b) = result g) : Writes l j 1 r.d result :=
  kpcData_writes _ _ hj ha fun k g h => by rw [get_operand h, get_operand h, hr]

theorem kpcShift_writes {f : MType → Val → Val → Result} (hj : ∀ s, exec j s = kpcShift l op t c r f s)
    (ha : (opAllows op t && c.isInt) = true) (hr : ∀ g, f t (operand g t r.a) (operand g c r.b) = result g) : Writes l j 1 r.d result :=
  kpcData_writes _ _ hj ha fun k g h => by rw [get_operand h, get_operand h, hr]

end

/-! ### Integer results (R169) -/

theorem arith_int {t : MType} (ht : t.isInt = true) (ints : Int → Int → Int) (floats : Fmt → Nat → Nat → Nat) (f : Frame) (a b : Nat) :
    arith ints floats t (operand f t a) (operand f t b) = ((ints (integer f t a) (integer f t b) % 2 ^ t.bits).toNat, 0) := by
  simp only [arith, MType.isFloat_of_isInt ht, Bool.false_eq_true, if_false]
  rfl

theorem opNeg_int {t : MType} (ht : t.isInt = true) (f : Frame) (a : Nat) :
    opNeg t (operand f t a) = ((-integer f t a % 2 ^ t.bits).toNat, 0) := by
  simp only [opNeg, MType.isFloat_of_isInt ht, Bool.false_eq_true, if_false]
  rfl

theorem opAbs_int {t : MType} (ht : t.isInt = true) (f : Frame) (a : Nat) :
    opAbs t (operand f t a) = ((((integer f t a).natAbs : Int) % 2 ^ t.bits).toNat, 0) := by
  simp only [opAbs, MType.isFloat_of_isInt ht, Bool.false_eq_true, if_false]
  rfl

/-- Division by other than 0 is exact but for the one overflow. -/
theorem divides_iff {t : MType} {f : Frame} {a b : Nat} : divides t (operand f t a) (operand f t b) = true ↔
    integer f t b ≠ 0 ∧ ¬(t.isSigned = true ∧ integer f t a = -2 ^ (t.bits - 1) ∧ integer f t b = -1) := by
  by_cases h : t.isSigned = true
  · simp [divides, integer, h, MType.least_of_signed, imp_iff_not_or]
  · simp [divides, integer, h]

theorem opDiv_int {t : MType} (ht : t.isInt = true) (f : Frame) (a b : Nat) :
    opDiv t (operand f t a) (operand f t b) =
      if integer f t b = 0 then (0, 1)
      else if t.isSigned ∧ integer f t a = -2 ^ (t.bits - 1) ∧ integer f t b = -1 then ((-2 ^ (t.bits - 1) % 2 ^ t.bits : Int).toNat, 1)
      else (((integer f t a).tdiv (integer f t b) % 2 ^ t.bits).toNat, 0) := by
  simp only [opDiv, MType.isFloat_of_isInt ht, intOf_operand, divides_iff, Bool.false_eq_true, if_false]
  by_cases h0 : integer f t b = 0
  · simp only [h0, if_true, faultArith]
  by_cases ho : t.isSigned = true ∧ integer f t a = -2 ^ (t.bits - 1) ∧ integer f t b = -1
  · simp [ho, MType.least_of_signed, wrap_eq, faultArith]
  · simp only [h0, ho, if_false, ne_eq, not_false_eq_true, and_self, if_true]
    rfl

theorem opMod_int (t : MType) (f : Frame) (a b : Nat) :
    opMod t (operand f t a) (operand f t b) =
      if integer f t b = 0 then (0, 1)
      else if t.isSigned ∧ integer f t a = -2 ^ (t.bits - 1) ∧ integer f t b = -1 then (0, 1)
      else (((integer f t a).tmod (integer f t b) % 2 ^ t.bits).toNat, 0) := by
  simp only [opMod, intOf_operand, divides_iff]
  by_cases h0 : integer f t b = 0
  · simp [h0, faultArith]
  by_cases ho : t.isSigned = true ∧ integer f t a = -2 ^ (t.bits - 1) ∧ integer f t b = -1
  · simp [ho, faultArith]
  · simp only [h0, ho, if_false, ne_eq, not_false_eq_true, and_self, if_true]
    rfl

/-- A pattern of a signed type stands for the most negative integer only when it is the sign bit alone. -/
theorem operand_of_most_negative {t : MType} (ht : t.isSigned = true) {f : Frame} {n : Nat} (h : integer f t n = -2 ^ (t.bits - 1)) :
    operand f t n = 2 ^ (t.bits - 1) := by
  simp only [integer, MType.intOf, ht, if_true, toSigned] at h
  have hp : (2 : Int) ^ t.bits = 2 * 2 ^ (t.bits - 1) := (mul_pow_sub_one t.bits_ne_zero 2).symm
  have hq : (0 : Int) < 2 ^ (t.bits - 1) := by positivity
  split at h
  · omega
  · have : ((operand f t n : Nat) : Int) = ((2 ^ (t.bits - 1) : Nat) : Int) := by push_cast; omega
    exact_mod_cast this

/-- NEG and ABS of the most negative value return it. -/
theorem most_negative_kept {t : MType} (ht : t.isSigned = true) {f : Frame} {n : Nat} (h : integer f t n = -2 ^ (t.bits - 1)) :
    (-integer f t n % 2 ^ t.bits).toNat = operand f t n ∧ (((integer f t n).natAbs : Int) % 2 ^ t.bits).toNat = operand f t n := by
  rw [h, operand_of_most_negative ht h]
  revert ht; cases t <;> decide

theorem opShr_int (t : MType) (f : Frame) (a n : Nat) :
    opShr t (operand f t a) n =
      if t.bits ≤ n then (if t.isSigned ∧ integer f t a < 0 then 2 ^ t.bits - 1 else 0, 0)
      else ((integer f t a / 2 ^ n % 2 ^ t.bits).toNat, 0) := by
  have h : (t.isSigned && decide (t.intOf (operand f t a) < 0)) = true ↔ t.isSigned = true ∧ integer f t a < 0 := by simp [integer]
  simp only [opShr, h]
  rfl

/-- Settles O45: each instruction is the operation of its type on its operands, and the operations are those of R169. -/
theorem integerArithmeticWrapsAndDividesAsR169Says : Obligations.IntegerArithmeticWrapsAndDividesAsR169Says := by
  refine ⟨?add, ?sub, ?mul, ?neg, ?abs, ?mostNegative, ?div, ?mod, ?divMod, ?shl, ?shr⟩
  case add | sub | mul => exact fun l t r ht => kpcBinary_writes (fun _ => rfl) (by simp [opAllows, ht]) fun g => arith_int ht _ _ g _ _
  case neg => exact fun l t r ht => kpcUnary_writes (fun _ => rfl) (by simp [opAllows, ht]) fun g => opNeg_int (MType.isInt_of_isSigned ht) g _
  case abs => exact fun l t r ht => kpcUnary_writes (fun _ => rfl) (by simp [opAllows, ht]) fun g => opAbs_int (MType.isInt_of_isSigned ht) g _
  case mostNegative => exact fun t f n ht h => most_negative_kept ht h
  case div => exact fun l t r ht => kpcBinary_writes (fun _ => rfl) (by simp [opAllows, ht]) fun g => opDiv_int ht g _ _
  case mod => exact fun l t r ht => kpcBinary_writes (fun _ => rfl) (by simp [opAllows, ht]) fun g => opMod_int t g _ _
  case divMod => exact fun f t a b => (Int.tdiv_mul_add_tmod _ _).symm
  case shl => exact fun l t c r ht hc => kpcShift_writes (fun _ => rfl) (by simp [opAllows, ht, hc]) fun g => rfl
  case shr => exact fun l t c r ht hc => kpcShift_writes (fun _ => rfl) (by simp [opAllows, ht, hc]) fun g => opShr_int t g _ _

end Sys2Proof.Machine
end

section
/-! SUPPORT. Moves, bits, comparisons and conversions of a lane (Table 5.10, R168, R171). -/

namespace Sys2Proof.Machine

open Sys2Proof.Claims

/-! ### Comparisons of integers and of B: they are ordered as their integers -/

theorem order_int {t : MType} (ht : t.isFloat = false) (f : Frame) (a b : Nat) :
    t.order (operand f t a) (operand f t b) = some (compare (integer f t a) (integer f t b)) := by
  simp only [MType.order, ht, Bool.false_eq_true, if_false]
  rfl

section
variable {t : MType} (ht : t.isFloat = false) (f : Frame) (a b : Nat)
include ht

theorem opEq_int : opEq t (operand f t a) (operand f t b) = (bit (integer f t a = integer f t b), 0) := by
  simp [opEq, plain, order_int ht, Bool.beq_eq_decide_eq]

theorem opNe_int : opNe t (operand f t a) (operand f t b) = (bit (integer f t a ≠ integer f t b), 0) := by
  simp [opNe, plain, order_int ht, bne, Bool.beq_eq_decide_eq]

theorem opLt_int : opLt t (operand f t a) (operand f t b) = (bit (integer f t a < integer f t b), 0) := by
  simp [opLt, plain, order_int ht, Bool.beq_eq_decide_eq, compare_lt_iff_lt]

theorem opLe_int : opLe t (operand f t a) (operand f t b) = (bit (integer f t a ≤ integer f t b), 0) := by
  simp [opLe, plain, order_int ht, Bool.beq_eq_decide_eq, compare_lt_iff_lt, le_iff_lt_or_eq]

theorem opGt_int : opGt t (operand f t a) (operand f t b) = (bit (integer f t a > integer f t b), 0) := by
  simp [opGt, plain, order_int ht, Bool.beq_eq_decide_eq, compare_gt_iff_gt]

theorem opGe_int : opGe t (operand f t a) (operand f t b) = (bit (integer f t a ≥ integer f t b), 0) := by
  simp [opGe, plain, order_int ht, Bool.beq_eq_decide_eq, compare_gt_iff_gt, le_iff_lt_or_eq, @eq_comm _ (integer f t a)]

end

/-! ### Conversions without a float -/

theorem opNot_eq (t : MType) (a : Val) : opNot t a = ((if t = .bool then 1 else 2 ^ t.bits - 1) - a, 0) := by
  unfold opNot MType.width
  split <;> rfl

theorem opCvt_int {t c : MType} (ht : t.isFloat = false) (hc : c.isFloat = false) (f : Frame) (a : Nat) :
    opCvt t c (operand f c a) = (if t = .bool then bit (operand f c a ≠ 0) else (integer f c a % 2 ^ t.bits).toNat, 0) := by
  simp only [opCvt, ht, hc, Bool.false_eq_true, if_false]
  split
  · simp [plain, bne, Bool.beq_eq_decide_eq]
  · rfl

/-! ### Instructions that are refused for their types -/

theorem kpcData_refused {l : Lane} {words d : Nat} {allowed : Bool} {g : Kpc → Result} {s : State} (h : allowed = false) :
    kpcData l words allowed d g s = .refused .kpcIllTyped := by
  rw [kpcData, h]
  rfl

/-- A conversion by CVT is the one of its two types. -/
theorem kCvt_writes {l : Lane} {t c : MType} {r : Regs} {result : Frame → Nat × Nat}
    (h : ∀ f, opCvt t c (operand f c r.a) = result f) : Writes l (.kCvt l t c r) 1 r.d result :=
  kpcData_writes true (fun k => opCvt t c (k.get c r.a)) (fun _ => rfl) rfl fun k f hk => by rw [get_operand hk, h]

/-- Settles O46: each instruction is the operation of its type on its operands. -/
theorem bitsComparisonsAndMovesGiveTable510 : Obligations.BitsComparisonsAndMovesGiveTable510 := by
  refine ⟨?nop, ?const, ?constRefused, ?mov, ?sel, ?and, ?or, ?xor, ?not, ?rol, ?ror, ?min, ?max, ?eq, ?ne, ?lt, ?le, ?gt, ?ge,
    ?cvt, ?bits⟩
  case nop => exact fun l => kpc_steps _ (fun _ => rfl) fun x m i t f rest _ => ⟨_, rfl, rfl⟩
  case const => exact fun l t d v hv => kpcData_writes _ _ (fun _ => rfl) (by simpa using hv) fun k f h => rfl
  case constRefused => exact fun l t d v s hv => kpcData_refused (by simpa using hv)
  case mov => exact fun l t r => kpcUnary_writes (op := 0x02) (f := fun _ a => plain a) (fun _ => rfl) rfl fun g => rfl
  case sel =>
    intro l t r c
    exact kpcData_writes true (fun k => plain (if k.get .bool c = 1 then k.get t r.a else k.get t r.b)) (fun _ => rfl) rfl
      fun k f h => by simp only [get_operand h, plain]
  case and => exact fun l t r ht => kpcBinary_writes (op := 0x20) (f := opAnd) (fun _ => rfl) (by simpa [opAllows] using ht) fun g => rfl
  case or => exact fun l t r ht => kpcBinary_writes (op := 0x21) (f := opOr) (fun _ => rfl) (by simpa [opAllows] using ht) fun g => rfl
  case xor => exact fun l t r ht => kpcBinary_writes (op := 0x22) (f := opXor) (fun _ => rfl) (by simpa [opAllows] using ht) fun g => rfl
  case not => exact fun l t r ht => kpcUnary_writes (fun _ => rfl) (by simpa [opAllows] using ht) fun g => opNot_eq t _
  case rol => exact fun l t c r ht hc => kpcShift_writes (op := 0x26) (f := opRol) (fun _ => rfl) (by simp [opAllows, ht, hc]) fun g => rfl
  case ror => exact fun l t c r ht hc => kpcShift_writes (op := 0x27) (f := opRor) (fun _ => rfl) (by simp [opAllows, ht, hc]) fun g => rfl
  case min | max =>
    intro l t r ht
    exact kpcBinary_writes (fun _ => rfl) (by simp [opAllows, ht]) fun g => arith_int ht _ _ g _ _
  case eq => exact fun l t r ht => kpcBinary_writes (op := 0x30) (fun _ => rfl) rfl fun g => opEq_int ht g _ _
  case ne => exact fun l t r ht => kpcBinary_writes (op := 0x31) (fun _ => rfl) rfl fun g => opNe_int ht g _ _
  case lt => exact fun l t r ht => kpcBinary_writes (fun _ => rfl) (by simp [opAllows, ht]) fun g => opLt_int (MType.isFloat_of_isInt ht) g _ _
  case le => exact fun l t r ht => kpcBinary_writes (fun _ => rfl) (by simp [opAllows, ht]) fun g => opLe_int (MType.isFloat_of_isInt ht) g _ _
  case gt => exact fun l t r ht => kpcBinary_writes (fun _ => rfl) (by simp [opAllows, ht]) fun g => opGt_int (MType.isFloat_of_isInt ht) g _ _
  case ge => exact fun l t r ht => kpcBinary_writes (fun _ => rfl) (by simp [opAllows, ht]) fun g => opGe_int (MType.isFloat_of_isInt ht) g _ _
  case cvt => exact fun l t c r h => kCvt_writes fun f => opCvt_int h.2 h.1 f _
  case bits => exact fun l t c r h => kpcData_writes _ (fun k => opBits t c (k.get c r.a)) (fun _ => rfl) h fun k f h => by rw [get_operand h]; rfl

end Sys2Proof.Machine
end

section
/-! SUPPORT. Float instructions of a lane (Table 5.10, R170, R171). -/

namespace Sys2Proof

theorem MType.ne_bool_of_isInt {t : MType} (h : t.isInt = true) : t ≠ .bool := by rintro rfl; cases h

theorem MType.ne_bool_of_isFloat {t : MType} (h : t.isFloat = true) : t ≠ .bool := by rintro rfl; cases h

end Sys2Proof

namespace Sys2Proof.Machine

open Sys2Proof.Claims

/-! ### Results of a float type -/

section
variable {t : MType} (ht : t.isFloat = true) (a b : Val)
include ht

theorem arith_float (ints : Int → Int → Int) (floats : Fmt → Nat → Nat → Nat) : arith ints floats t a b = (floats (fmt t) a b, 0) := if_pos ht

theorem opDiv_float : opDiv t a b = ((fmt t).div a b, 0) := if_pos ht

theorem opNeg_float : opNeg t a = ((fmt t).neg a, 0) := if_pos ht

theorem opAbs_float : opAbs t a = ((fmt t).abs a, 0) := if_pos ht

theorem order_float : t.order a b = (fmt t).compare a b := if_pos ht

end

/-! ### Conversions with a float -/

theorem opCvt_float_of_int {t c : MType} (ht : t.isFloat = true) (hc : c.isFloat = false) (f : Frame) (a : Nat) :
    opCvt t c (operand f c a) = ((fmt t).ofInt (integer f c a) 0 false, 0) := by
  simp only [opCvt, MType.ne_bool_of_isFloat ht, ht, hc, if_false, if_true, Bool.false_eq_true]
  rfl

theorem opCvt_float_of_float {t c : MType} (ht : t.isFloat = true) (hc : c.isFloat = true) (a : Val) :
    opCvt t c a = ((fmt c).convert (fmt t) a, 0) := by
  simp only [opCvt, MType.ne_bool_of_isFloat ht, ht, hc, if_false, if_true]
  rfl

theorem opCvt_bool_of_float {c : MType} (hc : c.isFloat = true) (a : Val) : opCvt .bool c a = (bit (!(fmt c).isZero a), 0) := by
  simp only [opCvt, hc, if_true]
  rfl

theorem opCvt_int_of_float {t c : MType} (ht : t.isInt = true) (hc : c.isFloat = true) (a : Val) : opCvt t c a = opToInt .nearest t c a := by
  simp only [opCvt, MType.ne_bool_of_isInt ht, MType.isFloat_of_isInt ht, hc, if_false, if_true, Bool.false_eq_true]

/-- A float turned into an integer saturates. -/
theorem toInt_bounds (g : Fmt) (r : IntRound) {least greatest : Int} (a : Nat) (hl : least ≤ 0) (hg : 0 ≤ greatest) :
    least ≤ (g.toInt r least greatest a).1 ∧ (g.toInt r least greatest a).1 ≤ greatest := by
  unfold Fmt.toInt
  cases g.read a with
  | nan s => exact ⟨hl, hg⟩
  | inf s => cases s <;> simp <;> omega
  | fin s m e =>
    dsimp only
    split_ifs <;> dsimp only <;> omega

/-! ### A NaN operand (R170) -/

section
variable {g : Fmt} {a : Nat} {s : Bool} (h : g.read a = .nan s)
include h

theorem neg_nan : g.neg a = g.nan := by simp only [Fmt.neg, h]

theorem abs_nan : g.abs a = g.nan := by simp only [Fmt.abs, h]

theorem sqrt_nan : g.sqrt a = g.nan := by simp only [Fmt.sqrt, h]

theorem key_nan : g.key a = none := by simp only [Fmt.key, h]

variable (b : Nat)

theorem add_nan : g.add a b = g.nan ∧ g.add b a = g.nan := by
  unfold Fmt.add
  rw [h]
  cases g.read b <;> exact ⟨rfl, rfl⟩

theorem sub_nan : g.sub a b = g.nan ∧ g.sub b a = g.nan := by
  constructor
  · unfold Fmt.sub
    rw [(add_nan h _).1]
    cases g.read b <;> rfl
  · simp only [Fmt.sub, h]

theorem mul_nan : g.mul a b = g.nan ∧ g.mul b a = g.nan := by
  unfold Fmt.mul
  rw [h]
  cases g.read b <;> exact ⟨rfl, rfl⟩

theorem div_nan : g.div a b = g.nan ∧ g.div b a = g.nan := by
  unfold Fmt.div
  rw [h]
  cases g.read b <;> exact ⟨rfl, rfl⟩

theorem min_nan : g.min a b = g.nan ∧ g.min b a = g.nan := by
  unfold Fmt.min
  rw [key_nan h]
  cases g.key b <;> exact ⟨rfl, rfl⟩

theorem max_nan : g.max a b = g.nan ∧ g.max b a = g.nan := by
  unfold Fmt.max
  rw [key_nan h]
  cases g.key b <;> exact ⟨rfl, rfl⟩

theorem compare_nan : g.compare a b = none ∧ g.compare b a = none := by
  unfold Fmt.compare
  rw [key_nan h]
  cases g.key b <;> exact ⟨rfl, rfl⟩

end

/-! ### The instructions -/

/-- A data instruction of one operand whose result is a float function of it. -/
theorem kpcFloatUnary_writes {l : Lane} {j : Instr} {t : MType} {r : Regs} (op : Nat) (f : Fmt → Nat → Nat)
    (hj : ∀ s, exec j s = kpcUnary l op t r (fun t a => plain (f (fmt t) a)) s) (ha : opAllows op t = true) :
    Writes l j 1 r.d fun g => (f (fmt t) (operand g t r.a), 0) :=
  kpcUnary_writes hj ha fun _ => rfl

/-- Settles O47: each instruction is the operation of its format on its operands. -/
theorem floatInstructionsGiveTheirFormatsResult : Obligations.FloatInstructionsGiveTheirFormatsResult := by
  refine ⟨?add, ?sub, ?mul, ?div, ?min, ?max, ?neg, ?abs, ?sqrt, ?sin, ?cos, ?tan, ?asin, ?acos, ?atan,
    ?exp, ?ln, ?log10, ?floor, ?ceil, ?rint, ?atan2, ?expt, ?fma, ?eq, ?ne,
    ?lt, ?le, ?gt, ?ge, ?cvtInt, ?cvtFloat, ?cvtBool, ?cvtToInt, ?trunc, ?round, ?refused, ?saturates, ?nan⟩
  case add | sub | mul | min | max => exact fun l t r ht => kpcBinary_writes (fun _ => rfl) (by simp [opAllows, ht]) fun g => arith_float ht _ _ _ _
  case div => exact fun l t r ht => kpcBinary_writes (fun _ => rfl) (by simp [opAllows, ht]) fun g => opDiv_float ht _ _
  case neg => exact fun l t r ht => kpcUnary_writes (fun _ => rfl) (by simp [opAllows, ht]) fun g => opNeg_float ht _
  case abs => exact fun l t r ht => kpcUnary_writes (fun _ => rfl) (by simp [opAllows, ht]) fun g => opAbs_float ht _
  case sqrt => exact fun l t r ht => kpcFloatUnary_writes 0x1A Fmt.sqrt (fun _ => rfl) (by simp [opAllows, ht])
  case sin => exact fun l t r ht => kpcFloatUnary_writes 0x50 Fmt.sin (fun _ => rfl) (by simp [opAllows, ht])
  case cos => exact fun l t r ht => kpcFloatUnary_writes 0x51 Fmt.cos (fun _ => rfl) (by simp [opAllows, ht])
  case tan => exact fun l t r ht => kpcFloatUnary_writes 0x52 Fmt.tan (fun _ => rfl) (by simp [opAllows, ht])
  case asin => exact fun l t r ht => kpcFloatUnary_writes 0x53 Fmt.asin (fun _ => rfl) (by simp [opAllows, ht])
  case acos => exact fun l t r ht => kpcFloatUnary_writes 0x54 Fmt.acos (fun _ => rfl) (by simp [opAllows, ht])
  case atan => exact fun l t r ht => kpcFloatUnary_writes 0x55 Fmt.atan (fun _ => rfl) (by simp [opAllows, ht])
  case exp => exact fun l t r ht => kpcFloatUnary_writes 0x57 Fmt.exp (fun _ => rfl) (by simp [opAllows, ht])
  case ln => exact fun l t r ht => kpcFloatUnary_writes 0x58 Fmt.ln (fun _ => rfl) (by simp [opAllows, ht])
  case log10 => exact fun l t r ht => kpcFloatUnary_writes 0x59 Fmt.log10 (fun _ => rfl) (by simp [opAllows, ht])
  case floor => exact fun l t r ht => kpcFloatUnary_writes 0x5B (Fmt.integral · .down) (fun _ => rfl) (by simp [opAllows, ht])
  case ceil => exact fun l t r ht => kpcFloatUnary_writes 0x5C (Fmt.integral · .up) (fun _ => rfl) (by simp [opAllows, ht])
  case rint => exact fun l t r ht => kpcFloatUnary_writes 0x5D (Fmt.integral · .nearest) (fun _ => rfl) (by simp [opAllows, ht])
  case atan2 => exact fun l t r ht =>
    kpcBinary_writes (op := 0x56) (f := fun t a b => plain ((fmt t).atan2 a b)) (fun _ => rfl) (by simp [opAllows, ht]) fun g => rfl
  case expt => exact fun l t r ht =>
    kpcBinary_writes (op := 0x5A) (f := fun t a b => plain ((fmt t).expt a b)) (fun _ => rfl) (by simp [opAllows, ht]) fun g => rfl
  case fma =>
    intro l t r c ht
    exact kpcData_writes (opAllows 0x19 t) (fun k => plain ((fmt t).fma (k.get t r.a) (k.get t r.b) (k.get t c))) (fun _ => rfl)
      (by simp [opAllows, ht]) fun k f h => by simp only [get_operand h, plain]
  case eq => exact fun l t r ht => kpcBinary_writes (op := 0x30) (fun _ => rfl) rfl fun g => by simp only [opEq, plain, order_float ht]
  case ne => exact fun l t r ht => kpcBinary_writes (op := 0x31) (fun _ => rfl) rfl fun g => by simp only [opNe, plain, order_float ht]
  case lt => exact fun l t r ht =>
    kpcBinary_writes (op := 0x32) (fun _ => rfl) (by simp [opAllows, ht]) fun g => by simp only [opLt, plain, order_float ht]
  case le => exact fun l t r ht =>
    kpcBinary_writes (op := 0x33) (fun _ => rfl) (by simp [opAllows, ht]) fun g => by simp only [opLe, plain, order_float ht]
  case gt => exact fun l t r ht =>
    kpcBinary_writes (op := 0x34) (fun _ => rfl) (by simp [opAllows, ht]) fun g => by simp only [opGt, plain, order_float ht]
  case ge => exact fun l t r ht =>
    kpcBinary_writes (op := 0x35) (fun _ => rfl) (by simp [opAllows, ht]) fun g => by simp only [opGe, plain, order_float ht]
  case cvtInt => exact fun l t c r h => kCvt_writes fun f => opCvt_float_of_int h.1 h.2 f _
  case cvtFloat => exact fun l t c r h => kCvt_writes fun f => opCvt_float_of_float h.1 h.2 _
  case cvtBool =>
    rintro l t c r ⟨rfl, hc⟩
    exact kCvt_writes fun f => opCvt_bool_of_float hc _
  case cvtToInt => exact fun l t c r h => kCvt_writes fun f => opCvt_int_of_float h.1 h.2 _
  case trunc =>
    rintro l t c r ⟨ht, hc⟩
    exact kpcData_writes (t.isInt && c.isFloat) (fun k => opToInt .zero t c (k.get c r.a)) (fun _ => rfl) (by simp [ht, hc])
      fun k f h => by rw [get_operand h]; rfl
  case round =>
    rintro l t c r ⟨ht, hc⟩
    exact kpcData_writes (t.isInt && c.isFloat) (fun k => opToInt .nearest t c (k.get c r.a)) (fun _ => rfl) (by simp [ht, hc])
      fun k f h => by rw [get_operand h]; rfl
  case refused => exact fun l t c r s h => ⟨kpcData_refused h, kpcData_refused h⟩
  case saturates => exact fun g r least greatest a hl hg => toInt_bounds g r a hl hg
  case nan =>
    intro g a b s h
    obtain ⟨ha, ha'⟩ := add_nan h b
    obtain ⟨hs, hs'⟩ := sub_nan h b
    obtain ⟨hm, hm'⟩ := mul_nan h b
    obtain ⟨hd, hd'⟩ := div_nan h b
    obtain ⟨hl, hl'⟩ := min_nan h b
    obtain ⟨hg, hg'⟩ := max_nan h b
    exact ⟨ha, ha', hs, hs', hm, hm', hd, hd', hl, hl', hg, hg', neg_nan h, abs_nan h, sqrt_nan h, compare_nan h b⟩

end Sys2Proof.Machine
end

section
/-! SUPPORT. LD, ST and COPY of a lane (R173, R174): which variables they reach, and which leaf. -/

namespace Sys2Proof.Machine

open Sys2Proof.Claims

/-! ### The variables that a task may load and store -/

section
variable {k : Kpc} {n : Nat} {y : Symbol} {q : TaskRec} (hy : k.image.symbols[n]? = some y) (hq : k.task = some q)
include hy hq

theorem loadable_eq : k.loadable n = if mayLoad y q then some y else none := by simp only [Kpc.loadable, hy, hq]

theorem storable_eq : k.storable n = if mayStore y q then some y else none := by simp only [Kpc.storable, hy, hq]

theorem loadable_of (h : (y.constant || y.owner == q.task) = true) : k.loadable n = some y := by
  rw [loadable_eq hy hq, if_pos (by simpa [mayLoad] using h)]

theorem not_loadable_of (h : (y.constant || y.owner == q.task) = false) : k.loadable n = none := by
  rw [loadable_eq hy hq, if_neg (by simpa [mayLoad] using h)]

theorem storable_of (h : y.owner = q.task ∧ y.input = false ∧ y.constant = false) : k.storable n = some y := by
  rw [storable_eq hy hq, if_pos (by simpa [mayStore, and_assoc] using h)]

theorem not_storable_of (h : y.owner ≠ q.task ∨ y.input = true ∨ y.constant = true) : k.storable n = none := by
  rw [storable_eq hy hq, if_neg]
  simp only [mayStore, Bool.and_eq_true, decide_eq_true_eq, Bool.not_eq_true']
  rintro ⟨⟨ho, hi⟩, hc⟩
  simp [ho, hi, hc] at h

end

/-! ### The leaf that an access names -/

theorem index_of_indexed {k : Kpc} {f : Frame} {a : Nat} {x : Int} (hf : k.frame.function = f.function) (hl : k.frame.locals = f.locals)
    (h : Indexed k.image f a x) : k.index a = some x := by
  unfold Kpc.index
  rcases h with ⟨ha, hx⟩ | ⟨ha, g, c, m, hg, hc, hm, hi, hx⟩
  · rw [if_pos ha, hx]
  · rw [if_neg ha, hf, hl, hg, hx]
    simp only [Option.bind_some, hc, hm, hi, if_true]
    rfl

section
variable {k : Kpc} {y : Symbol} {ty : MType} {ref : LeafRef} {a : Nat} {x : Int} (hi : k.index a = some x)
include hi

theorem access_outside (h : (ref.leaf : Int) + x * ref.stride < 0 ∨ (y.leaves : Int) ≤ (ref.leaf : Int) + x * ref.stride) :
    k.access y ty ref a = .outside := by
  simp only [Kpc.access, hi]
  rw [if_pos (by simpa using h)]

theorem access_leaf {o : Nat} (h0 : 0 ≤ (ref.leaf : Int) + x * ref.stride) (h1 : (ref.leaf : Int) + x * ref.stride < y.leaves)
    (h : k.image.leaf y ((ref.leaf : Int) + x * ref.stride).toNat = some (ty, o)) : k.access y ty ref a = .leaf o := by
  simp only [Kpc.access, hi]
  rw [if_neg (by simp [h0, h1])]
  simp only [h, if_true]

end

/-! ### The runs of leaves of a COPY -/

theorem leafRun_types {i : Image} {y z : Symbol} {a b n : Nat} (h : ∀ k < n, (i.leaf y (a + k)).map Prod.fst = (i.leaf z (b + k)).map Prod.fst) :
    (leafRun i y a n).map (Option.map Prod.fst) = (leafRun i z b n).map (Option.map Prod.fst) := by
  simp only [leafRun, List.map_map]
  exact List.map_congr_left fun k hk => h k (List.mem_range.mp hk)

theorem leafRun_zip_foldl {i : Image} {y z : Symbol} {a b n : Nat} {β : Type} (g : β → Option (MType × Nat) × Option (MType × Nat) → β) (v : β) :
    ((leafRun i y a n).zip (leafRun i z b n)).foldl g v = (List.range n).foldl (fun v k => g v (i.leaf y (a + k), i.leaf z (b + k))) v := by
  rw [leafRun, leafRun, List.zip_map', List.foldl_map]

/-! ### The instructions -/

/-! The arms of the dispatch for them. -/

theorem exec_kLd (l : Lane) (t : MType) (r : Regs) (ref : LeafRef) (s : State) : exec (.kLd l t r ref) s = execKLd l t r ref s := rfl
theorem exec_kSt (l : Lane) (t : MType) (r : Regs) (ref : LeafRef) (s : State) : exec (.kSt l t r ref) s = execKSt l t r ref s := rfl
theorem exec_kCopy (l : Lane) (source sourceLeaf target targetLeaf count : Nat) (s : State) :
    exec (.kCopy l source sourceLeaf target targetLeaf count) s = execKCopy l source sourceLeaf target targetLeaf count s := rfl

section
variable {l : Lane} {s : State} {i : Image} {t : LaneTake} {f : Frame} {rest : List Frame} (hr : Runs l s i t f rest) {q : TaskRec}
  (hq : taskRec i t.task = some q)
include hr hq

theorem kLd_outside {ty : MType} {r : Regs} {ref : LeafRef} {y : Symbol} {x : Int} (hy : i.symbols[ref.symbol]? = some y)
    (hm : (y.constant || y.owner == q.task) = true) (hx : Indexed i f r.a x)
    (ho : (ref.leaf : Int) + x * ref.stride < 0 ∨ (y.leaves : Int) ≤ (ref.leaf : Int) + x * ref.stride) :
    exec (.kLd l ty r ref) s = .next (goesOn l i (faulted 2 f t) (written (past f 3) r.d 0 :: rest) s) := by
  rw [exec_kLd, execKLd]
  have h1 : (seen 3 l s i t f rest).loadable ref.symbol = some y := loadable_of hy hq hm
  have h2 : (seen 3 l s i t f rest).access y ty ref r.a = .outside := access_outside (index_of_indexed rfl rfl hx) ho
  exact kpc_moves hr (by simp only [h1, h2]; rfl) rfl

theorem kLd_leaf {ty : MType} {r : Regs} {ref : LeafRef} {y : Symbol} {x : Int} {o : Nat} (hy : i.symbols[ref.symbol]? = some y)
    (hm : (y.constant || y.owner == q.task) = true) (hx : Indexed i f r.a x) (h0 : 0 ≤ (ref.leaf : Int) + x * ref.stride)
    (hn : (ref.leaf : Int) + x * ref.stride < y.leaves) (hl : i.leaf y ((ref.leaf : Int) + x * ref.stride).toNat = some (ty, o)) :
    exec (.kLd l ty r ref) s =
      .next (goesOn l i t (written (past f 3) r.d (Bytes.field ((laneOf s l).value i ref.symbol y) o ty.bytes) :: rest) s) := by
  rw [exec_kLd, execKLd]
  have h1 : (seen 3 l s i t f rest).loadable ref.symbol = some y := loadable_of hy hq hm
  have h2 : (seen 3 l s i t f rest).access y ty ref r.a = .leaf o := access_leaf (index_of_indexed rfl rfl hx) h0 hn hl
  exact kpc_moves hr (by simp only [h1, h2]; rfl) rfl

theorem kLd_refused {ty : MType} {r : Regs} {ref : LeafRef} {y : Symbol} (hy : i.symbols[ref.symbol]? = some y)
    (hm : (y.constant || y.owner == q.task) = false) : exec (.kLd l ty r ref) s = .refused .kpcIllTyped := by
  rw [exec_kLd, execKLd]
  have h1 : (seen 3 l s i t f rest).loadable ref.symbol = none := not_loadable_of hy hq hm
  exact (kpc_runs hr _ _).trans (by simp only [h1])

theorem kSt_outside {ty : MType} {r : Regs} {ref : LeafRef} {y : Symbol} {x : Int} (hy : i.symbols[ref.symbol]? = some y)
    (hm : y.owner = q.task ∧ y.input = false ∧ y.constant = false) (hx : Indexed i f r.b x)
    (ho : (ref.leaf : Int) + x * ref.stride < 0 ∨ (y.leaves : Int) ≤ (ref.leaf : Int) + x * ref.stride) :
    exec (.kSt l ty r ref) s = .next (goesOn l i (faulted 2 f t) (past f 3 :: rest) s) := by
  rw [exec_kSt, execKSt]
  have h1 : (seen 3 l s i t f rest).storable ref.symbol = some y := storable_of hy hq hm
  have h2 : (seen 3 l s i t f rest).access y ty ref r.b = .outside := access_outside (index_of_indexed rfl rfl hx) ho
  exact kpc_moves hr (by simp only [h1, h2]; rfl) rfl

theorem kSt_leaf {ty : MType} {r : Regs} {ref : LeafRef} {y : Symbol} {x : Int} {o : Nat} (hy : i.symbols[ref.symbol]? = some y)
    (hm : y.owner = q.task ∧ y.input = false ∧ y.constant = false) (hx : Indexed i f r.b x) (h0 : 0 ≤ (ref.leaf : Int) + x * ref.stride)
    (hn : (ref.leaf : Int) + x * ref.stride < y.leaves) (hl : i.leaf y ((ref.leaf : Int) + x * ref.stride).toNat = some (ty, o)) :
    exec (.kSt l ty r ref) s = .next (goesOn l i t (past f 3 :: rest)
      (modLane l (fun z => { z with vars := Tbl.put z.vars ref.symbol (Bytes.overwrite (z.value i ref.symbol y) o (le ty.bytes (operand f ty r.a))) }) s)) := by
  rw [exec_kSt, execKSt]
  have h1 : (seen 3 l s i t f rest).storable ref.symbol = some y := storable_of hy hq hm
  have h2 : (seen 3 l s i t f rest).access y ty ref r.b = .leaf o := access_leaf (index_of_indexed rfl rfl hx) h0 hn hl
  exact kpc_changes _ hr (by simp only [h1, h2]; rfl) rfl

theorem kSt_refused {ty : MType} {r : Regs} {ref : LeafRef} {y : Symbol} (hy : i.symbols[ref.symbol]? = some y)
    (hm : y.owner ≠ q.task ∨ y.input = true ∨ y.constant = true) : exec (.kSt l ty r ref) s = .refused .kpcIllTyped := by
  rw [exec_kSt, execKSt]
  have h1 : (seen 3 l s i t f rest).storable ref.symbol = none := not_storable_of hy hq hm
  exact (kpc_runs hr _ _).trans (by simp only [h1])

variable {sy sl ty tl n : Nat} {y z : Symbol} (hy : i.symbols[sy]? = some y) (hz : i.symbols[ty]? = some z)
  (hl : (y.constant || y.owner == q.task) = true) (hs : z.owner = q.task ∧ z.input = false ∧ z.constant = false)
include hy hz hl hs

theorem kCopy_none : exec (.kCopy l sy sl ty tl 0) s = .next (goesOn l i t (past f 4 :: rest) s) := by
  rw [exec_kCopy, execKCopy]
  have h1 : (seen 4 l s i t f rest).loadable sy = some y := loadable_of hy hq hl
  have h2 : (seen 4 l s i t f rest).storable ty = some z := storable_of hz hq hs
  exact kpc_moves hr (by simp only [h1, h2]; rfl) rfl

theorem kCopy_outside (hn : n ≠ 0) (ho : y.leaves < sl + n ∨ z.leaves < tl + n) :
    exec (.kCopy l sy sl ty tl n) s = .next (goesOn l i (faulted 2 f t) (past f 4 :: rest) s) := by
  rw [exec_kCopy, execKCopy]
  have h1 : (seen 4 l s i t f rest).loadable sy = some y := loadable_of hy hq hl
  have h2 : (seen 4 l s i t f rest).storable ty = some z := storable_of hz hq hs
  refine kpc_moves hr (by simp only [h1, h2]; rw [if_neg hn, if_pos (by simpa using ho)]) rfl

theorem kCopy_run (hn : n ≠ 0) (ha : sl + n ≤ y.leaves) (hb : tl + n ≤ z.leaves)
    (ht : ∀ k < n, (i.leaf y (sl + k)).map Prod.fst = (i.leaf z (tl + k)).map Prod.fst) :
    exec (.kCopy l sy sl ty tl n) s = .next (goesOn l i t (past f 4 :: rest) (modLane l (fun x => { x with
      vars := Tbl.put x.vars ty ((List.range n).foldl (fun v k => match i.leaf y (sl + k), i.leaf z (tl + k) with
        | some (m, o), some (_, q) => Bytes.overwrite v q (Bytes.slice (x.value i sy y) o m.bytes)
        | _, _ => v) (x.value i ty z)) }) s)) := by
  rw [exec_kCopy, execKCopy]
  have h1 : (seen 4 l s i t f rest).loadable sy = some y := loadable_of hy hq hl
  have h2 : (seen 4 l s i t f rest).storable ty = some z := storable_of hz hq hs
  refine kpc_changes _ hr (by
    simp only [h1, h2]
    rw [if_neg hn, if_neg (by simp [ha, hb])]
    exact if_pos (leafRun_types ht)) ?_
  refine congrArg (fun v => ((seen 4 l s i t f rest).setVar ty v).finish) ((leafRun_zip_foldl _ _).trans ?_)
  congr 1
  funext v k
  dsimp only [seen]
  rcases i.leaf y (sl + k) with _ | ⟨m, o⟩
  · rfl
  · rcases i.leaf z (tl + k) with _ | ⟨m', p⟩ <;> rfl

end

/-- Settles O48: the variable's right of access decides, then the leaf. -/
theorem memoryInstructionsReachOnlyTheirVariables : Obligations.MemoryInstructionsReachOnlyTheirVariables := by
  refine ⟨?ldOutside, ?ldLeaf, ?stOutside, ?stLeaf, ?ldRefused, ?stRefused, ?copyNone, ?copyOutside, ?copyRun⟩
  case ldOutside => exact fun l ty r ref y q x s i t f rest hr hy hq hm hx ho => kLd_outside hr hq hy hm hx ho
  case ldLeaf => exact fun l ty r ref y q x o s i t f rest hr hy hq hm hx h0 hn hl => kLd_leaf hr hq hy hm hx h0 hn hl
  case stOutside => exact fun l ty r ref y q x s i t f rest hr hy hq hm hx ho => kSt_outside hr hq hy hm hx ho
  case stLeaf => exact fun l ty r ref y q x o s i t f rest hr hy hq hm hx h0 hn hl => kSt_leaf hr hq hy hm hx h0 hn hl
  case ldRefused => exact fun l ty r ref y q s i t f rest hr hy hq hm => kLd_refused hr hq hy hm
  case stRefused => exact fun l ty r ref y q s i t f rest hr hy hq hm => kSt_refused hr hq hy hm
  case copyNone =>
    rintro l sy sl ty tl _ y z q s i t f rest hr hy hz hq hl hs rfl
    exact kCopy_none hr hq hy hz hl hs
  case copyOutside => exact fun l sy sl ty tl n y z q s i t f rest hr hy hz hq hl hs hn ho => kCopy_outside hr hq hy hz hl hs hn ho
  case copyRun => exact fun l sy sl ty tl n y z q s i t f rest hr hy hz hq hl hs hn ha hb ht => kCopy_run hr hq hy hz hl hs hn ha hb ht

end Sys2Proof.Machine
end

section
/-! SUPPORT. Control constructs, calls and returns of a lane (R176). -/

namespace Sys2Proof.Machine

open Sys2Proof.Claims

/-! ### The arms of the dispatch for them -/

theorem exec_kBlock (l : Lane) (s : State) : exec (.kBlock l) s = execKBlock l s := rfl
theorem exec_kLoop (l : Lane) (bound : Nat) (s : State) : exec (.kLoop l bound) s = execKLoop l bound s := rfl
theorem exec_kIf (l : Lane) (a : Nat) (s : State) : exec (.kIf l a) s = execKIf l a s := rfl
theorem exec_kElse (l : Lane) (s : State) : exec (.kElse l) s = execKElse l s := rfl
theorem exec_kEnd (l : Lane) (s : State) : exec (.kEnd l) s = execKEnd l s := rfl
theorem exec_kBreak (l : Lane) (depth : Nat) (s : State) : exec (.kBreak l depth) s = execKBreak l depth s := rfl
theorem exec_kNext (l : Lane) (depth : Nat) (s : State) : exec (.kNext l depth) s = execKNext l depth s := rfl
theorem exec_kReturn (l : Lane) (s : State) : exec (.kReturn l) s = execKReturn l s := rfl
theorem exec_kCall (l : Lane) (d a function : Nat) (s : State) : exec (.kCall l d a function) s = execKCall l d a function s := rfl

/-! ### Leaving a construct, and another entry of a loop -/

theorem leave_of {k : Kpc} {n p : Nat} (h : afterEnd k.ahead (n + 1) = some p) :
    k.leave n = .next ((k.goTo p).constructs (k.frame.constructs.drop (n + 1))) := by
  simp only [Kpc.leave, h]

theorem again_of_lt {k : Kpc} {bound e body : Nat} {outer : List Construct} {done : Kpc → KpcOut} (h : e < bound) :
    k.again bound e body outer done = .next ((k.goTo body).constructs (.loop bound (e + 1) body :: outer)) := if_pos h

theorem again_of_le {k : Kpc} {bound e body : Nat} {outer : List Construct} {done : Kpc → KpcOut} (h : bound ≤ e) :
    k.again bound e body outer done = done (k.raise faultLoop) := if_neg h.not_gt

/-! ### The instructions -/

section
variable {l : Lane} {s : State} {i : Image} {t : LaneTake} {f : Frame} {rest : List Frame} (hr : Runs l s i t f rest)
include hr

theorem kBlock_opens : exec (.kBlock l) s = .next (goesOn l i t ({ past f 1 with constructs := .block :: f.constructs } :: rest) s) := by
  rw [exec_kBlock, execKBlock]
  exact kpc_moves hr rfl rfl

theorem kLoop_opens {bound : Nat} (hb : 0 < bound) :
    exec (.kLoop l bound) s = .next (goesOn l i t ({ past f 2 with constructs := .loop bound 1 (f.position + 2) :: f.constructs } :: rest) s) := by
  rw [exec_kLoop, execKLoop]
  exact kpc_moves hr (if_pos hb) rfl

theorem kLoop_zero : exec (.kLoop l 0) s = .refused .kpcIllTyped := by
  rw [exec_kLoop, execKLoop, kpc_runs hr]
  rfl

theorem kIf_true {a : Nat} (ha : operand f .bool a = 1) :
    exec (.kIf l a) s = .next (goesOn l i t ({ past f 1 with constructs := .cond true :: f.constructs } :: rest) s) := by
  rw [exec_kIf, execKIf]
  exact kpc_moves hr (if_pos ha) rfl

theorem kIf_else {a p : Nat} (ha : operand f .bool a ≠ 1) (hp : afterElse (ahead i f (f.position + 1)) 1 = some (p, true)) :
    exec (.kIf l a) s = .next (goesOn l i t ({ f with position := p, constructs := .cond false :: f.constructs } :: rest) s) := by
  rw [exec_kIf, execKIf]
  have hp' : afterElse (seen 1 l s i t f rest).ahead 1 = some (p, true) := hp
  exact kpc_moves hr ((if_neg ha).trans (by simp only [hp']; rfl)) rfl

theorem kIf_end {a p : Nat} (ha : operand f .bool a ≠ 1) (hp : afterElse (ahead i f (f.position + 1)) 1 = some (p, false)) :
    exec (.kIf l a) s = .next (goesOn l i t ({ f with position := p } :: rest) s) := by
  rw [exec_kIf, execKIf]
  have hp' : afterElse (seen 1 l s i t f rest).ahead 1 = some (p, false) := hp
  exact kpc_moves hr ((if_neg ha).trans (by simp only [hp']; rfl)) rfl

theorem kElse_leaves {p : Nat} {outer : List Construct} (hc : f.constructs = .cond true :: outer)
    (hp : afterEnd (ahead i f (f.position + 1)) 1 = some p) :
    exec (.kElse l) s = .next (goesOn l i t ({ f with position := p, constructs := outer } :: rest) s) := by
  rw [exec_kElse, execKElse]
  have hc' : (seen 1 l s i t f rest).frame.constructs = .cond true :: outer := hc
  refine kpc_moves hr (by simp only [hc']; exact leave_of hp) ?_
  rw [hc']
  rfl

theorem kEnd_again {bound n body : Nat} {outer : List Construct} (hc : f.constructs = .loop bound n body :: outer) (hn : n < bound) :
    exec (.kEnd l) s = .next (goesOn l i t ({ f with position := body, constructs := .loop bound (n + 1) body :: outer } :: rest) s) := by
  rw [exec_kEnd, execKEnd]
  have hc' : (seen 1 l s i t f rest).frame.constructs = .loop bound n body :: outer := hc
  exact kpc_moves hr (by simp only [hc']; exact again_of_lt hn) rfl

theorem kEnd_past {bound n body : Nat} {outer : List Construct} (hc : f.constructs = .loop bound n body :: outer) (hn : bound ≤ n) :
    exec (.kEnd l) s = .next (goesOn l i (faulted 4 f t) ({ past f 1 with constructs := outer } :: rest) s) := by
  rw [exec_kEnd, execKEnd]
  have hc' : (seen 1 l s i t f rest).frame.constructs = .loop bound n body :: outer := hc
  exact kpc_moves hr (by simp only [hc']; exact again_of_le hn) rfl

theorem kEnd_closes {c : Construct} {outer : List Construct} (hc : f.constructs = c :: outer) (hl : c.isLoop = false) :
    exec (.kEnd l) s = .next (goesOn l i t ({ past f 1 with constructs := outer } :: rest) s) := by
  rw [exec_kEnd, execKEnd]
  have hc' : (seen 1 l s i t f rest).frame.constructs = c :: outer := hc
  cases c with
  | loop => cases hl
  | block | cond => exact kpc_moves hr (by simp only [hc']; rfl) rfl

theorem kBreak_leaves {d n p : Nat} (he : enclosing (fun c => c.isLoop || c.isBlock) f.constructs d = some n)
    (hp : afterEnd (ahead i f (f.position + 1)) (n + 1) = some p) :
    exec (.kBreak l d) s = .next (goesOn l i t ({ f with position := p, constructs := f.constructs.drop (n + 1) } :: rest) s) := by
  rw [exec_kBreak, execKBreak]
  have he' : enclosing (fun c => c.isLoop || c.isBlock) (seen 1 l s i t f rest).frame.constructs d = some n := he
  exact kpc_moves hr (by simp only [he']; exact leave_of hp) rfl

section
variable {d n bound e body : Nat} {outer : List Construct} (he : enclosing Construct.isLoop f.constructs d = some n)
  (hd : f.constructs.drop n = .loop bound e body :: outer)
include he hd

theorem kNext_again (hb : e < bound) :
    exec (.kNext l d) s = .next (goesOn l i t ({ f with position := body, constructs := .loop bound (e + 1) body :: outer } :: rest) s) := by
  rw [exec_kNext, execKNext]
  have he' : enclosing Construct.isLoop (seen 1 l s i t f rest).frame.constructs d = some n := he
  have hd' : (seen 1 l s i t f rest).frame.constructs.drop n = .loop bound e body :: outer := hd
  exact kpc_moves hr (by simp only [he', hd']; exact again_of_lt hb) rfl

theorem kNext_past {p : Nat} (hb : bound ≤ e) (hp : afterEnd (ahead i f (f.position + 1)) (n + 1) = some p) :
    exec (.kNext l d) s = .next (goesOn l i (faulted 4 f t) ({ f with position := p, constructs := outer } :: rest) s) := by
  rw [exec_kNext, execKNext]
  have he' : enclosing Construct.isLoop (seen 1 l s i t f rest).frame.constructs d = some n := he
  have hd' : (seen 1 l s i t f rest).frame.constructs.drop n = .loop bound e body :: outer := hd
  have ho : f.constructs.drop (n + 1) = outer := by rw [← List.drop_drop, hd]; rfl
  refine kpc_moves hr (by simp only [he', hd']; exact (again_of_le hb).trans (leave_of hp)) ?_
  rw [← ho]
  rfl

end

theorem kReturn_ends : exec (.kReturn l) s = .next (goesOn l i t ({ f with position := codeLength i f } :: rest) s) := by
  rw [exec_kReturn, execKReturn]
  exact kpc_moves hr rfl rfl

theorem kCall_opens {d a n : Nat} {g : FunctionRec} (hg : i.functions[n]? = some g) :
    exec (.kCall l d a n) s = .next (goesOn l i t
      (⟨n, 0, (List.range g.params).foldl (fun x k => Tbl.put x k (Tbl.get f.locals (a + k) 0)) [], [], d⟩ :: past f 2 :: rest) s) := by
  rw [exec_kCall, execKCall]
  have hg' : (seen 2 l s i t f rest).image.functions[n]? = some g := hg
  exact kpc_moves hr (by simp only [hg']; rfl) rfl

/-! Nothing to leave. -/

variable (hc : f.constructs = [])
include hc

theorem kElse_faults : exec (.kElse l) s = .fault .kpcStructure := by
  have hc' : (seen 1 l s i t f rest).frame.constructs = [] := hc
  rw [exec_kElse, execKElse, kpc_runs hr]
  simp only [hc']

theorem kEnd_faults : exec (.kEnd l) s = .fault .kpcStructure := by
  have hc' : (seen 1 l s i t f rest).frame.constructs = [] := hc
  rw [exec_kEnd, execKEnd, kpc_runs hr]
  simp only [hc']

theorem kBreak_faults (d : Nat) : exec (.kBreak l d) s = .fault .kpcStructure := by
  have hc' : (seen 1 l s i t f rest).frame.constructs = [] := hc
  rw [exec_kBreak, execKBreak, kpc_runs hr]
  simp only [hc', enclosing]

theorem kNext_faults (d : Nat) : exec (.kNext l d) s = .fault .kpcStructure := by
  have hc' : (seen 1 l s i t f rest).frame.constructs = [] := hc
  rw [exec_kNext, execKNext, kpc_runs hr]
  simp only [hc', enclosing]

end

/-- A call at the end of its code gives its results to its caller. -/
theorem settle_returns {i : Image} {n : Nat} {f g : Frame} {rest : List Frame} {x : FunctionRec} (hx : i.functions[f.function]? = some x)
    (hp : x.code.length ≤ f.position) :
    settle i (n + 1) (f :: g :: rest) = settle i n ({ g with
      locals := (List.range x.results).foldl (fun l k => Tbl.put l (f.resultsTo + k) (Tbl.get f.locals (x.params + k) 0)) g.locals } :: rest) := by
  have hl : codeLength i f ≤ f.position := by simpa only [codeLength, hx] using hp
  rw [settle]
  simp only [if_pos hl, returned, copyResults, hx]

/-- Settles O49: each construct in its case. -/
theorem controlConstructsGoWhereR176Says : Obligations.ControlConstructsGoWhereR176Says := by
  refine ⟨?block, ?loop, ?loopZero, ?ifTrue, ?ifElse, ?ifEnd, ?elseLeaves, ?endAgain, ?endPast, ?endCloses, ?breakLeaves, ?nextAgain, ?nextPast, ?returnEnds,
    ?call, ?returned, ?elseFaults, ?endFaults, ?breakFaults, ?nextFaults⟩
  case block => exact fun l s i t f rest hr => kBlock_opens hr
  case loop => exact fun l bound s i t f rest hr hb => kLoop_opens hr hb
  case loopZero => exact fun l s i t f rest hr => kLoop_zero hr
  case ifTrue => exact fun l a s i t f rest hr ha => kIf_true hr ha
  case ifElse => exact fun l a p s i t f rest hr ha hp => kIf_else hr ha hp
  case ifEnd => exact fun l a p s i t f rest hr ha hp => kIf_end hr ha hp
  case elseLeaves => exact fun l p outer s i t f rest hr hc hp => kElse_leaves hr hc hp
  case endAgain => exact fun l bound n body outer s i t f rest hr hc hn => kEnd_again hr hc hn
  case endPast => exact fun l bound n body outer s i t f rest hr hc hn => kEnd_past hr hc hn
  case endCloses => exact fun l c outer s i t f rest hr hc hl => kEnd_closes hr hc hl
  case breakLeaves => exact fun l d n p s i t f rest hr he hp => kBreak_leaves hr he hp
  case nextAgain => exact fun l d n bound e body outer s i t f rest hr he hd hb => kNext_again hr he hd hb
  case nextPast => exact fun l d n bound e body p outer s i t f rest hr he hd hb hp => kNext_past hr he hd hb hp
  case returnEnds => exact fun l s i t f rest hr => kReturn_ends hr
  case call => exact fun l d a n g s i t f rest hr hg => kCall_opens hr hg
  case returned => exact fun i n f g rest x hx hp => settle_returns hx hp
  case elseFaults => exact fun l s i t f rest hr hc => kElse_faults hr hc
  case endFaults => exact fun l s i t f rest hr hc => kEnd_faults hr hc
  case breakFaults => exact fun l s i t f rest hr hc => kBreak_faults hr hc 0
  case nextFaults => exact fun l s i t f rest hr hc => kNext_faults hr hc 0

end Sys2Proof.Machine
end

section
/-! SUPPORT. The service calls of a lane (Table 5.12, R178 to R180). -/

namespace Sys2Proof.Machine

open Sys2Proof.Claims

/-! ### The arms of the dispatch for them -/

theorem exec_kTimeNow (l : Lane) (d a : Nat) (s : State) : exec (.kTimeNow l d a) s = execKTimeNow l d a s := rfl
theorem exec_kTakeInfo (l : Lane) (d a : Nat) (s : State) : exec (.kTakeInfo l d a) s = execKTakeInfo l d a s := rfl
theorem exec_kModes (l : Lane) (d a : Nat) (s : State) : exec (.kModes l d a) s = execKModes l d a s := rfl
theorem exec_kPosition (l : Lane) (d a : Nat) (s : State) : exec (.kPosition l d a) s = execKPosition l d a s := rfl
theorem exec_kFaults (l : Lane) (d a : Nat) (s : State) : exec (.kFaults l d a) s = execKFaults l d a s := rfl
theorem exec_kInputStatus (l : Lane) (d a : Nat) (s : State) : exec (.kInputStatus l d a) s = execKInputStatus l d a s := rfl
theorem exec_kMbxIssue (l : Lane) (d a : Nat) (s : State) : exec (.kMbxIssue l d a) s = execKMbxIssue l d a s := rfl
theorem exec_kMbxResult (l : Lane) (d a : Nat) (s : State) : exec (.kMbxResult l d a) s = execKMbxResult l d a s := rfl
theorem exec_kCueRequest (l : Lane) (d a : Nat) (s : State) : exec (.kCueRequest l d a) s = execKCueRequest l d a s := rfl
theorem exec_kCueCancel (l : Lane) (d a : Nat) (s : State) : exec (.kCueCancel l d a) s = execKCueCancel l d a s := rfl
theorem exec_kCueState (l : Lane) (d a : Nat) (s : State) : exec (.kCueState l d a) s = execKCueState l d a s := rfl
theorem exec_kRecord (l : Lane) (d a : Nat) (s : State) : exec (.kRecord l d a) s = execKRecord l d a s := rfl

/-! ### A cue request -/

section
variable {k : Kpc} {n : Nat} {r : Bytes}

theorem request_unbound (h : k.cue n = none) : k.request n r = none := by simp only [Kpc.request, h]

variable {b : CueBinding} (hb : k.cue n = some b) (ho : cueRequestOk b r = true)
include hb ho

theorem request_latched (ha : (k.cueArea n).1 = 4) : k.request n r = some (k, [0x0710]) := by
  simp [Kpc.request, hb, ho, ha]

theorem request_busy (ha : (k.cueArea n).1 ≠ 4) (hn : 64 ≤ k.take.cues.length) : k.request n r = some (k, [stBusyRetry]) := by
  simp [Kpc.request, hb, ho, ha, hn]

theorem request_made (ha : (k.cueArea n).1 ≠ 4) (hn : k.take.cues.length < 64) :
    k.request n r = some ({ k with take := { k.take with cues := k.take.cues ++ [(n, r)] } }, [stAccepted]) := by
  simp [Kpc.request, hb, ho, ha, hn.not_ge]

end

section
variable {l : Lane} {s : State} {i : Image} {t : LaneTake} {f : Frame} {rest : List Frame} {d a : Nat}

/-! ### The arguments of a call -/

theorem args_kMbxIssue : (seen 2 l s i t f rest).args a ((serviceTypes 0x0020).getD ([], [])).1 =
    [operand f .u8 a, operand f .u16 (a + 1), operand f .u32 (a + 2), operand f .u32 (a + 3)] := rfl

theorem args_kMbxResult : (seen 2 l s i t f rest).args a ((serviceTypes 0x0021).getD ([], [])).1 =
    [operand f .u8 a, operand f .u32 (a + 1), operand f .u32 (a + 2)] := rfl

theorem args_kCueRequest : (seen 2 l s i t f rest).args a ((serviceTypes 0x0030).getD ([], [])).1 = [operand f .u8 a, operand f .u32 (a + 1)] := rfl

theorem args_kCueCancel : (seen 2 l s i t f rest).args a ((serviceTypes 0x0031).getD ([], [])).1 = [operand f .u8 a] := rfl

theorem args_kCueState : (seen 2 l s i t f rest).args a ((serviceTypes 0x0032).getD ([], [])).1 = [operand f .u8 a] := rfl

theorem args_kRecord : (seen 2 l s i t f rest).args a ((serviceTypes 0x0040).getD ([], [])).1 =
    [operand f .u16 a, operand f .u16 (a + 1), operand f .u32 (a + 2)] := rfl

variable (hr : Runs l s i t f rest)
include hr

/-! ### A service call with valid and with invalid arguments -/

section
variable {code : Nat} {g : Kpc → List Val → Option (Kpc × List Val)} {j : Kpc} {v vs : List Val} {t' : LaneTake} {frames : List Frame}
  (hv : (seen 2 l s i t f rest).args a ((serviceTypes code).getD ([], [])).1 = v)
include hv

theorem service_changes (u : LaneSt → LaneSt)
    (h : g (seen 2 l s i t f rest) v = some (j, vs))
    (hf : (j.results d vs).finish = (u (laneOf s l)).setTake { t' with frames := settle i frames.length frames }) :
    service l code d a g s = .next (goesOn l i t' frames (modLane l u s)) := by
  subst hv
  unfold service
  exact kpc_changes u hr (service_some h) hf

theorem service_moves
    (h : g (seen 2 l s i t f rest) v = some (j, vs))
    (hf : (j.results d vs).finish = (laneOf s l).setTake { t' with frames := settle i frames.length frames }) :
    service l code d a g s = .next (goesOn l i t' frames s) := by
  subst hv
  unfold service
  exact kpc_moves hr (service_some h) hf

theorem service_invalid
    (h : g (seen 2 l s i t f rest) v = none)
    (hf : (((seen 2 l s i t f rest).results d (((serviceTypes code).getD ([], [])).2.map fun _ => 0)).raise faultSvc).finish =
      (laneOf s l).setTake { faulted 8 f t with frames := settle i frames.length frames }) :
    service l code d a g s = .next (goesOn l i (faulted 8 f t) frames s) := by
  subst hv
  unfold service
  exact kpc_moves hr (service_none h) hf

end

/-! ### The snapshot's fields, the fault word and the inputs -/

theorem kTimeNow_writes : exec (.kTimeNow l d a) s =
      .next (goesOn l i t (written (written (past f 2) d (Bytes.field t.snapshot 0x18 8)) (d + 1) (Bytes.field t.snapshot 0x20 4) :: rest) s) := by
  rw [exec_kTimeNow, execKTimeNow]
  exact service_moves hr rfl rfl rfl

theorem kTakeInfo_writes : exec (.kTakeInfo l d a) s =
      .next (goesOn l i t
        (written (written (written (past f 2) d (Bytes.field t.snapshot 0x08 8)) (d + 1) (Bytes.field t.snapshot 0x10 4))
          (d + 2) (Bytes.field t.snapshot 0x06 2) :: rest) s) := by
  rw [exec_kTakeInfo, execKTakeInfo]
  exact service_moves hr rfl rfl rfl

theorem kModes_writes : exec (.kModes l d a) s =
      .next (goesOn l i t
        (written (written (written (written (past f 2) d (Bytes.field t.snapshot 0x3A 1)) (d + 1)
          (Bytes.field t.snapshot 0x3B 1)) (d + 2) (Bytes.field t.snapshot 0x38 1)) (d + 3) (Bytes.field t.snapshot 0x39 1) :: rest) s) := by
  rw [exec_kModes, execKModes]
  exact service_moves hr rfl rfl rfl

theorem kPosition_writes : exec (.kPosition l d a) s =
      .next (goesOn l i t
        (written (written (written (past f 2) d (Bytes.field t.snapshot 0x28 8)) (d + 1) (Bytes.field t.snapshot 0x30 4))
          (d + 2) (Bytes.field t.snapshot 0x34 4) :: rest) s) := by
  rw [exec_kPosition, execKPosition]
  exact service_moves hr rfl rfl rfl

theorem kFaults_writes : exec (.kFaults l d a) s = .next (goesOn l i t (written (past f 2) d t.faultWord :: rest) s) := by
  rw [exec_kFaults, execKFaults]
  exact service_moves hr rfl rfl rfl

theorem kInputStatus_writes {x : InputState} (h : Tbl.find t.inputs (operand f .u32 a) = some x) :
    exec (.kInputStatus l d a) s =
      .next (goesOn l i t (written (written (written (past f 2) d x.status) (d + 1) x.age) (d + 2) (bit x.valid) :: rest) s) := by
  rw [exec_kInputStatus, execKInputStatus]
  exact service_moves hr rfl (congrArg (Option.map _) h) rfl

theorem kInputStatus_invalid (h : Tbl.find t.inputs (operand f .u32 a) = none) :
    exec (.kInputStatus l d a) s =
      .next (goesOn l i (faulted 8 f t) (written (written (written (past f 2) d 0) (d + 1) 0) (d + 2) 0 :: rest) s) := by
  rw [exec_kInputStatus, execKInputStatus]
  exact service_invalid hr rfl (congrArg (Option.map _) h) rfl

/-! ### Commands of a channel (R179) -/

section
variable {y : Symbol} (hb : (seen 2 l s i t f rest).byteArray (operand f .u32 (a + 2)) none false = some y)
  (hc : (seen 2 l s i t f rest).ownsChannel (operand f .u8 a) = true)
include hb hc

theorem kMbxIssue_noCredit (hn : operand f .u32 (a + 3) ≤ 992) (hy : operand f .u32 (a + 3) ≤ y.size)
    (hu : 4 ≤ (seen 2 l s i t f rest).creditUsed (operand f .u8 a)) :
    exec (.kMbxIssue l d a) s = .next (goesOn l i t (written (written (past f 2) d 0) (d + 1) 0x0501 :: rest) s) := by
  rw [exec_kMbxIssue, execKMbxIssue]
  exact service_moves hr args_kMbxIssue (by
    simp only [List.getD_cons_zero, List.getD_cons_succ, hb]
    rw [if_neg (by simp [hc, hn, hy])]
    exact if_pos hu) rfl

theorem kMbxIssue_issues (hn : operand f .u32 (a + 3) ≤ 992) (hy : operand f .u32 (a + 3) ≤ y.size)
    (hu : (seen 2 l s i t f rest).creditUsed (operand f .u8 a) < 4) :
    exec (.kMbxIssue l d a) s =
      .next (goesOn l i { t with commands := t.commands ++ [(operand f .u8 a,
          laneEnvelope false (operand f .u8 a) (operand f .u16 (a + 1)) (Tbl.get (laneOf s l).nextToken (operand f .u8 a) 1)
            (Bytes.field t.snapshot 0x10 4) (((laneOf s l).value i (operand f .u32 (a + 2)) y).take (operand f .u32 (a + 3))))] }
        (written (written (past f 2) d (Tbl.get (laneOf s l).nextToken (operand f .u8 a) 1)) (d + 1) 0 :: rest)
      (modLane l (fun x => { x with
        nextToken := Tbl.put x.nextToken (operand f .u8 a) ((Tbl.get x.nextToken (operand f .u8 a) 1 + 1) % 2 ^ 32)
        tracked := x.tracked ++ [{
          channel := (operand f .u8 a), token := Tbl.get x.nextToken (operand f .u8 a) 1,
          envelope := laneEnvelope false (operand f .u8 a) (operand f .u16 (a + 1)) (Tbl.get x.nextToken (operand f .u8 a) 1)
            (Bytes.field t.snapshot 0x10 4) ((x.value i (operand f .u32 (a + 2)) y).take (operand f .u32 (a + 3))) }] }) s)) := by
  rw [exec_kMbxIssue, execKMbxIssue]
  exact service_changes hr args_kMbxIssue _ (by
    simp only [List.getD_cons_zero, List.getD_cons_succ, hb]
    rw [if_neg (by simp [hc, hn, hy])]
    exact if_neg hu.not_ge) rfl

end

theorem kMbxIssue_invalid (h : (seen 2 l s i t f rest).byteArray (operand f .u32 (a + 2)) none false = none ∨
      (seen 2 l s i t f rest).ownsChannel (operand f .u8 a) = false ∨
      992 < operand f .u32 (a + 3)) :
    exec (.kMbxIssue l d a) s = .next (goesOn l i (faulted 8 f t) (written (written (past f 2) d 0) (d + 1) 0 :: rest) s) := by
  rw [exec_kMbxIssue, execKMbxIssue]
  exact service_invalid hr args_kMbxIssue (by
    simp only [List.getD_cons_zero, List.getD_cons_succ]
    split
    · rfl
    · next y hy =>
      rw [if_pos]
      rcases h with h | h | h
      · simp [h] at hy
      · simp [h]
      · simp [h]) rfl

section
variable {y : Symbol} (hb : (seen 2 l s i t f rest).byteArray (operand f .u32 (a + 2)) none false = some y)
  (hc : (seen 2 l s i t f rest).ownsChannel (operand f .u8 a) = true) (hi : y.input = false)
include hb hc hi

theorem kMbxResult_unknown
    (ht : ((seen 2 l s i t f rest).lane.tracked.find? fun x => x.channel = operand f .u8 a && x.token = operand f .u32 (a + 1)) = none) :
    exec (.kMbxResult l d a) s = .next (goesOn l i t (written (written (written (past f 2) d 2) (d + 1) 0) (d + 2) 0 :: rest) s) := by
  rw [exec_kMbxResult, execKMbxResult]
  exact service_moves hr args_kMbxResult (by
    simp only [List.getD_cons_zero, List.getD_cons_succ, hb]
    rw [if_neg (by simp [hc, hi])]
    simp only [ht]
    rfl) rfl

theorem kMbxResult_pending {k : Tracked}
    (ht : ((seen 2 l s i t f rest).lane.tracked.find? fun x => x.channel = operand f .u8 a && x.token = operand f .u32 (a + 1)) = some k)
    (hd : k.done = none) :
    exec (.kMbxResult l d a) s = .next (goesOn l i t (written (written (written (past f 2) d 0) (d + 1) 0) (d + 2) 0 :: rest) s) := by
  rw [exec_kMbxResult, execKMbxResult]
  exact service_moves hr args_kMbxResult (by
    simp only [List.getD_cons_zero, List.getD_cons_succ, hb]
    rw [if_neg (by simp [hc, hi])]
    simp only [ht, hd]
    rfl) rfl

theorem kMbxResult_complete {k : Tracked} {status : Nat} {result : Bytes}
    (ht : ((seen 2 l s i t f rest).lane.tracked.find? fun x => x.channel = operand f .u8 a && x.token = operand f .u32 (a + 1)) = some k)
    (hd : k.done = some (status, result)) :
    exec (.kMbxResult l d a) s = .next (goesOn l i t (written (written (written (past f 2) d 1) (d + 1) status) (d + 2) result.length :: rest)
      (modLane l (fun x => { x with
        vars := Tbl.put x.vars (operand f .u32 (a + 2)) (Bytes.overwrite (x.value i (operand f .u32 (a + 2)) y) 0 (result.take y.size)) }) s)) := by
  rw [exec_kMbxResult, execKMbxResult]
  exact service_changes hr args_kMbxResult _ (by
    simp only [List.getD_cons_zero, List.getD_cons_succ, hb]
    rw [if_neg (by simp [hc, hi])]
    simp only [ht, hd]
    rfl) rfl

end

theorem kMbxResult_invalid (h : (seen 2 l s i t f rest).byteArray (operand f .u32 (a + 2)) none false = none ∨
      (seen 2 l s i t f rest).ownsChannel (operand f .u8 a) = false) :
    exec (.kMbxResult l d a) s =
      .next (goesOn l i (faulted 8 f t) (written (written (written (past f 2) d 0) (d + 1) 0) (d + 2) 0 :: rest) s) := by
  rw [exec_kMbxResult, execKMbxResult]
  exact service_invalid hr args_kMbxResult (by
    simp only [List.getD_cons_zero, List.getD_cons_succ]
    split
    · rfl
    · next y hy =>
      rw [if_pos]
      rcases h with h | h
      · simp [h] at hy
      · simp [h]) rfl

/-! ### Cues (R332, R338) -/

section
variable {j : Kpc} {vs : List Val} {t' : LaneTake} {frames : List Frame}
  (hf : (j.results d vs).finish = (laneOf s l).setTake { t' with frames := settle i frames.length frames })
include hf

theorem kCueRequest_requests {y : Symbol} (hy : (seen 2 l s i t f rest).byteArray (operand f .u32 (a + 1)) (some 32) false = some y)
    (h : (seen 2 l s i t f rest).request (operand f .u8 a) (((laneOf s l).value i (operand f .u32 (a + 1)) y).take 32) = some (j, vs)) :
    exec (.kCueRequest l d a) s = .next (goesOn l i t' frames s) := by
  rw [exec_kCueRequest, execKCueRequest]
  exact service_moves hr args_kCueRequest (by
    simp only [List.getD_cons_zero, List.getD_cons_succ, hy]
    exact h) hf

theorem kCueCancel_requests (h : (seen 2 l s i t f rest).request (operand f .u8 a) (padTo 32 [2]) = some (j, vs)) :
    exec (.kCueCancel l d a) s = .next (goesOn l i t' frames s) := by
  rw [exec_kCueCancel, execKCueCancel]
  exact service_moves hr args_kCueCancel h hf

end

theorem kCueState_writes {b : CueBinding} (hb : (seen 2 l s i t f rest).cue (operand f .u8 a) = some b) :
    exec (.kCueState l d a) s =
      .next (goesOn l i t
        (written (written (past f 2) d ((seen 2 l s i t f rest).cueArea (operand f .u8 a)).1)
          (d + 1) ((seen 2 l s i t f rest).cueArea (operand f .u8 a)).2 :: rest) s) := by
  rw [exec_kCueState, execKCueState]
  exact service_moves hr args_kCueState (congrArg (Option.map _) hb) rfl

theorem kCueRequest_invalid (h : (seen 2 l s i t f rest).byteArray (operand f .u32 (a + 1)) (some 32) false = none ∨
      (seen 2 l s i t f rest).cue (operand f .u8 a) = none) :
    exec (.kCueRequest l d a) s = .next (goesOn l i (faulted 8 f t) (written (past f 2) d 0 :: rest) s) := by
  rw [exec_kCueRequest, execKCueRequest]
  exact service_invalid hr args_kCueRequest (by
    simp only [List.getD_cons_zero, List.getD_cons_succ]
    split
    · next y hy =>
      rcases h with h | h
      · simp [h] at hy
      · exact request_unbound h
    · rfl) rfl

theorem kCueCancel_invalid (h : (seen 2 l s i t f rest).cue (operand f .u8 a) = none) :
    exec (.kCueCancel l d a) s = .next (goesOn l i (faulted 8 f t) (written (past f 2) d 0 :: rest) s) := by
  rw [exec_kCueCancel, execKCueCancel]
  exact service_invalid hr args_kCueCancel (request_unbound h) rfl

theorem kCueState_invalid (h : (seen 2 l s i t f rest).cue (operand f .u8 a) = none) :
    exec (.kCueState l d a) s = .next (goesOn l i (faulted 8 f t) (written (written (past f 2) d 0) (d + 1) 0 :: rest) s) := by
  rw [exec_kCueState, execKCueState]
  exact service_invalid hr args_kCueState (congrArg (Option.map _) h) rfl

/-! ### Records -/

section
variable {y : Symbol} (hy : (seen 2 l s i t f rest).byteArray (operand f .u32 (a + 2)) (some 80) true = some y)
  (hc : 0x8000 ≤ operand f .u16 a)
include hy hc

theorem kRecord_busy (hn : 16 ≤ t.records.length) :
    exec (.kRecord l d a) s = .next (goesOn l i t (written (past f 2) d 0x0501 :: rest) s) := by
  rw [exec_kRecord, execKRecord]
  exact service_moves hr args_kRecord (by
    simp only [List.getD_cons_zero, List.getD_cons_succ, hy]
    rw [if_neg hc.not_gt]
    exact if_pos hn) rfl

theorem kRecord_made (hn : t.records.length < 16) :
    exec (.kRecord l d a) s =
      .next (goesOn l i { t with records := t.records ++ [(operand f .u16 a, operand f .u16 (a + 1),
          ((laneOf s l).value i (operand f .u32 (a + 2)) y).take 80)] }
        (written (past f 2) d 0x0001 :: rest) s) := by
  rw [exec_kRecord, execKRecord]
  exact service_moves hr args_kRecord (by
    simp only [List.getD_cons_zero, List.getD_cons_succ, hy]
    rw [if_neg hc.not_gt]
    exact if_neg hn.not_ge) rfl

end

theorem kRecord_invalid (h : (seen 2 l s i t f rest).byteArray (operand f .u32 (a + 2)) (some 80) true = none ∨ operand f .u16 a < 0x8000) :
    exec (.kRecord l d a) s = .next (goesOn l i (faulted 8 f t) (written (past f 2) d 0 :: rest) s) := by
  rw [exec_kRecord, execKRecord]
  exact service_invalid hr args_kRecord (by
    simp only [List.getD_cons_zero, List.getD_cons_succ]
    split
    · rfl
    · next y hy =>
      rw [if_pos]
      rcases h with h | h
      · simp [h] at hy
      · exact h) rfl

end

/-- Settles O50: each call on the arguments that it accepts, and on others. -/
theorem serviceCallsGiveTable512 : Obligations.ServiceCallsGiveTable512 := by
  refine ⟨?timeNow, ?takeInfo, ?modes, ?position, ?faults, ?inputStatus, ?inputStatusInvalid, ?issueNoCredit, ?issue, ?issueInvalid,
    ?resultUnknown, ?resultPending, ?resultComplete, ?resultInvalid, ?cueLatched, ?cueBusy, ?cueMade, ?cueInvalid, ?cancelLatched, ?cancelBusy,
    ?cancelMade, ?cancelInvalid, ?stateInvalid, ?state, ?recordBusy, ?recordMade, ?recordInvalid⟩
  case timeNow => exact fun l d a s i t f rest hr => kTimeNow_writes hr
  case takeInfo => exact fun l d a s i t f rest hr => kTakeInfo_writes hr
  case modes => exact fun l d a s i t f rest hr => kModes_writes hr
  case position => exact fun l d a s i t f rest hr => kPosition_writes hr
  case faults => exact fun l d a s i t f rest hr => kFaults_writes hr
  case inputStatus => exact fun l d a x s i t f rest hr h => kInputStatus_writes hr h
  case inputStatusInvalid => exact fun l d a s i t f rest hr h => kInputStatus_invalid hr h
  case issueNoCredit => exact fun l d a y s i t f rest hr hb hc hn hy hu => kMbxIssue_noCredit hr hb hc hn hy hu
  case issue => exact fun l d a y s i t f rest hr hb hc hn hy hu => kMbxIssue_issues hr hb hc hn hy hu
  case issueInvalid => exact fun l d a s i t f rest hr h => kMbxIssue_invalid hr h
  case resultUnknown => exact fun l d a y s i t f rest hr hb hc hi ht => kMbxResult_unknown hr hb hc hi ht
  case resultPending => exact fun l d a y k s i t f rest hr hb hc hi ht hd => kMbxResult_pending hr hb hc hi ht hd
  case resultComplete => exact fun l d a y k status result s i t f rest hr hb hc hi ht hd => kMbxResult_complete hr hb hc hi ht hd
  case resultInvalid => exact fun l d a s i t f rest hr h => kMbxResult_invalid hr h
  case cueLatched => exact fun l d a y b s i t f rest hr hy hb ho ha => kCueRequest_requests hr rfl hy (request_latched hb ho ha)
  case cueBusy => exact fun l d a y b s i t f rest hr hy hb ho ha hn => kCueRequest_requests hr rfl hy (request_busy hb ho ha hn)
  case cueMade => exact fun l d a y b s i t f rest hr hy hb ho ha hn => kCueRequest_requests hr rfl hy (request_made hb ho ha hn)
  case cueInvalid => exact fun l d a s i t f rest hr h => kCueRequest_invalid hr h
  case cancelLatched => exact fun l d a b s i t f rest hr hb ho ha => kCueCancel_requests hr rfl (request_latched hb ho ha)
  case cancelBusy => exact fun l d a b s i t f rest hr hb ho ha hn => kCueCancel_requests hr rfl (request_busy hb ho ha hn)
  case cancelMade => exact fun l d a b s i t f rest hr hb ho ha hn => kCueCancel_requests hr rfl (request_made hb ho ha hn)
  case cancelInvalid => exact fun l d a s i t f rest hr h => kCueCancel_invalid hr h
  case stateInvalid => exact fun l d a s i t f rest hr h => kCueState_invalid hr h
  case state => exact fun l d a b s i t f rest hr hb => kCueState_writes hr hb
  case recordBusy => exact fun l d a y s i t f rest hr hy hc hn => kRecord_busy hr hy hc hn
  case recordMade => exact fun l d a y s i t f rest hr hy hc hn => kRecord_made hr hy hc hn
  case recordInvalid => exact fun l d a s i t f rest hr h => kRecord_invalid hr h

end Sys2Proof.Machine
end

section
/-! SUPPORT. Where a KPC instruction can stop: refused for its types, or without the construct that it needs (R165, R176). -/

namespace Sys2Proof.Machine

open Sys2Proof.Claims

/-- An instruction that can meet the lack of a construct. -/
def NeedsConstruct (i : Instr) : Prop := ∃ l, i = .kElse l ∨ i = .kEnd l ∨ (∃ a, i = .kIf l a) ∨ (∃ d, i = .kBreak l d) ∨ ∃ d, i = .kNext l d

/-- An outcome is a next state, the refusal of ill-typed operands, or, where a construct can be missing, its fault. -/
def StopsOnly {σ : Type} (construct : Prop) : Host.Outcome σ Fault Refusal → Prop
  | .next _ => True
  | .fault e => e = .kpcStructure ∧ construct
  | .refused e => e = .kpcIllTyped

section
variable {c : Prop}

theorem stopsOnly_ite {σ : Type} {p : Prop} [Decidable p] {o q : Host.Outcome σ Fault Refusal} (ho : StopsOnly c o) (hq : StopsOnly c q) :
    StopsOnly c (if p then o else q) := by split <;> assumption

theorem kpc_stopsOnly {l : Lane} {words : Nat} {f : Kpc → KpcOut} {s : State} (h : ∀ k, StopsOnly c (f k)) : StopsOnly c (kpc l words f s) := by
  unfold kpc
  split
  · split
    · exact trivial
    · next fr rest _ =>
      split
      · exact trivial
      · next e he => exact (congrArg (StopsOnly c) he).mp (h _)
      · next e he => exact (congrArg (StopsOnly c) he).mp (h _)
  · exact trivial

theorem kpcData_stopsOnly (l : Lane) (words : Nat) (allowed : Bool) (d : Nat) (f : Kpc → Result) (s : State) :
    StopsOnly c (kpcData l words allowed d f s) := stopsOnly_ite (kpc_stopsOnly fun _ => trivial) rfl

theorem service_stopsOnly (l : Lane) (code d a : Nat) (f : Kpc → List Val → Option (Kpc × List Val)) (s : State) :
    StopsOnly c (service l code d a f s) := by
  unfold service
  refine kpc_stopsOnly fun k => ?_
  split <;> exact trivial

theorem leave_stopsOnly (hc : c) (k : Kpc) (n : Nat) : StopsOnly c (k.leave n) := by
  unfold Kpc.leave
  split
  · exact trivial
  · exact ⟨rfl, hc⟩

theorem again_stopsOnly (k : Kpc) (bound entries body : Nat) (outer : List Construct) {done : Kpc → KpcOut} (h : ∀ j, StopsOnly c (done j)) :
    StopsOnly c (k.again bound entries body outer done) := stopsOnly_ite trivial (h _)

end

/-- The instructions, by the operation that they are. -/
theorem exec_stopsOnly (i : Instr) (s : State) (h : (kpcLane i).isSome = true) : StopsOnly (NeedsConstruct i) (exec i s) := by
  cases i
  case kConst | kMov | kSel | kAdd | kSub | kMul | kDiv | kMod | kNeg | kAbs | kMin | kMax | kFma | kSqrt | kAnd | kOr | kXor | kNot | kShl |
      kShr | kRol | kRor | kEq | kNe | kLt | kLe | kGt | kGe | kCvt | kTrunc | kRound | kBits | kSin | kCos | kTan | kAsin | kAcos | kAtan |
      kAtan2 | kExp | kLn | kLog10 | kExpt | kFloor | kCeil | kRint =>
    simp only [exec, execKConst, execKMov, execKSel, execKAdd, execKSub, execKMul, execKDiv, execKMod, execKNeg, execKAbs, execKMin,
      execKMax, execKFma, execKSqrt, execKAnd, execKOr, execKXor, execKNot, execKShl, execKShr, execKRol, execKRor, execKEq, execKNe,
      execKLt, execKLe, execKGt, execKGe, execKCvt, execKTrunc, execKRound, execKBits, execKSin, execKCos, execKTan, execKAsin, execKAcos,
      execKAtan, execKAtan2, execKExp, execKLn, execKLog10, execKExpt, execKFloor, execKCeil, execKRint, kpcUnary, kpcBinary, kpcShift]
    exact kpcData_stopsOnly _ _ _ _ _ _
  case kTimeNow | kTakeInfo | kModes | kFaults | kInputStatus | kPosition | kMbxIssue | kMbxResult | kCueRequest | kCueCancel | kCueState |
      kRecord =>
    simp only [exec, execKTimeNow, execKTakeInfo, execKModes, execKFaults, execKInputStatus, execKPosition, execKMbxIssue, execKMbxResult,
      execKCueRequest, execKCueCancel, execKCueState, execKRecord]
    exact service_stopsOnly _ _ _ _ _ _
  case kNop | kBlock | kReturn =>
    simp only [exec, execKNop, execKBlock, execKReturn]
    exact kpc_stopsOnly fun k => trivial
  case kLd | kSt =>
    simp only [exec, execKLd, execKSt]
    refine kpc_stopsOnly fun k => ?_
    split
    · rfl
    · split
      · rfl
      · exact trivial
      · exact trivial
  case kCopy =>
    simp only [exec, execKCopy]
    refine kpc_stopsOnly fun k => ?_
    split
    · exact stopsOnly_ite trivial (stopsOnly_ite trivial (stopsOnly_ite trivial rfl))
    · rfl
  case kLoop =>
    simp only [exec, execKLoop]
    exact kpc_stopsOnly fun k => stopsOnly_ite trivial rfl
  case kCall =>
    simp only [exec, execKCall]
    refine kpc_stopsOnly fun k => ?_
    split
    · exact trivial
    · rfl
  case kIf l a =>
    simp only [exec, execKIf]
    refine kpc_stopsOnly fun k => stopsOnly_ite trivial ?_
    split
    · exact trivial
    · exact trivial
    · exact ⟨rfl, l, by simp⟩
  case kElse l =>
    simp only [exec, execKElse]
    have hc : NeedsConstruct (.kElse l) := ⟨l, by simp⟩
    refine kpc_stopsOnly fun k => ?_
    split
    · exact leave_stopsOnly hc k 0
    · exact ⟨rfl, hc⟩
  case kEnd l =>
    simp only [exec, execKEnd]
    refine kpc_stopsOnly fun k => ?_
    split
    · exact again_stopsOnly _ _ _ _ _ fun j => trivial
    · exact trivial
    · exact ⟨rfl, l, by simp⟩
  case kBreak l d =>
    simp only [exec, execKBreak]
    have hc : NeedsConstruct (.kBreak l d) := ⟨l, by simp⟩
    refine kpc_stopsOnly fun k => ?_
    split
    · exact leave_stopsOnly hc k _
    · exact ⟨rfl, hc⟩
  case kNext l d =>
    simp only [exec, execKNext]
    have hc : NeedsConstruct (.kNext l d) := ⟨l, by simp⟩
    refine kpc_stopsOnly fun k => ?_
    split
    · split
      · exact again_stopsOnly _ _ _ _ _ fun j => leave_stopsOnly hc j _
      · exact ⟨rfl, hc⟩
    · exact ⟨rfl, hc⟩
  all_goals cases h

/-- Settles O10: what is no KPC instruction continues, and a KPC instruction stops as its operation does. -/
theorem instructionsStopAsVerificationExcludes : Obligations.InstructionsStopAsVerificationExcludes := by
  intro i s
  by_cases h : (kpcLane i).isSome = true
  · have hs := exec_stopsOnly i s h
    exact ⟨fun r hr => ⟨(congrArg (StopsOnly _) hr).mp hs, h⟩, fun f hf => (congrArg (StopsOnly _) hf).mp hs⟩
  · obtain ⟨t, ht⟩ := exec_continues i s (by simpa using h)
    exact ⟨fun r hr => absurd (ht.symm.trans hr) (by simp), fun f hf => absurd (ht.symm.trans hf) (by simp)⟩

end Sys2Proof.Machine
end

section
/-! SUPPORT. The Cutter, retentive commits and recuts at their events (R165, R183, R184, R188, R219, R224 to R228). -/

namespace Sys2Proof.Machine

/-! ### The arms of the dispatch for these events -/

theorem exec_cutterTranslationDone (report : CutterReport) (s : State) :
    exec (.cutterTranslationDone report) s = execCutterTranslationDone report s := rfl
theorem exec_retentiveCommitPeriodic (s : State) : exec .retentiveCommitPeriodic s = execRetentiveCommitPeriodic s := rfl
theorem exec_retentiveCommitComplete (written : Bool) (s : State) :
    exec (.retentiveCommitComplete written) s = execRetentiveCommitComplete written s := rfl
theorem exec_recutGuard (s : State) : exec .recutGuard s = execRecutGuard s := rfl
theorem exec_recutSwitch (s : State) : exec .recutSwitch s = execRecutSwitch s := rfl

/-! ### What the Cutter makes of a slot (R183, R184) -/

section
variable {slot : Nat} {report : CutterReport} {s : State}

theorem cut_idle (h : cutImage (slotOf s slot) = .ok none) : cut slot report s = (.idle, s) := by simp only [cut, h]

theorem cut_refusedByCheck {check offset : Nat} (h : cutImage (slotOf s slot) = .error (check, offset)) :
    cut slot report s = (.refused 0x0310 (le 1 check ++ le 8 offset), recordProgram 0xFFFF (le 1 1 ++ le 1 check ++ le 8 offset) s) := by
  simp only [cut, h]

theorem cut_notDiverse {i : Image} {d : DiversityFault} (h : cutImage (slotOf s slot) = .ok (some i)) (ho : cutOutcome i report = .error d) :
    cut slot report s = (.refused 0x0318 [],
      recordProgram 0xFFFF (le 1 5 ++ le 1 d.first ++ le 1 d.second ++ le 1 (bit d.isVariable) ++ le 8 d.which) s) := by
  simp only [cut, h, ho]

theorem cut_done {i : Image} {n : Nat} {a : Attempt} (h : cutImage (slotOf s slot) = .ok (some i)) (ho : cutOutcome i report = .ok (n, a)) :
    cut slot report s = (.done i,
      let u := modSlot slot (fun x => { x with state := 2, image := some i, load := none }) s
      settleAxis (modProg (fun p => { p with cache := enterCache u (slotOf s slot).digest n a }) u)) := by
  simp only [cut, h, ho]

end

/-- The attempts are tried in turn: the one chosen is the first that meets the conditions. -/
theorem chooseAttempt_ok {i : Image} {l : List Attempt} {m n : Nat} {f : DiversityFault} {a : Attempt}
    (h : chooseAttempt i m l f = .ok (n, a)) :
    ∃ j, n = m + j ∧ l[j]? = some a ∧ attemptFault i a = none ∧ ∀ k < j, ∀ b, l[k]? = some b → attemptFault i b ≠ none := by
  induction l generalizing m f with
  | nil => cases h
  | cons t l ih =>
    unfold chooseAttempt at h
    cases ht : attemptFault i t with
    | none =>
      rw [ht] at h
      cases h
      exact ⟨0, rfl, rfl, ht, fun k hk => absurd hk k.not_lt_zero⟩
    | some g =>
      rw [ht] at h
      obtain ⟨j, hn, ha, hf, hb⟩ := ih h
      refine ⟨j + 1, by omega, ha, hf, fun k hk b hkb => ?_⟩
      cases k with
      | zero =>
        cases hkb
        simp [ht]
      | succ k => exact hb k (by omega) b hkb

theorem cutOutcome_ok {i : Image} {report : CutterReport} {n : Nat} {a : Attempt} (h : cutOutcome i report = .ok (n, a)) :
    n < 4 ∧ report.attempts[n]? = some a ∧ attemptFault i a = none ∧
      ∀ k < n, ∀ b, report.attempts[k]? = some b → attemptFault i b ≠ none := by
  obtain ⟨j, hn, ha, hf, hb⟩ := chooseAttempt_ok h
  obtain rfl : n = j := by omega
  have hn : n < 4 := by
    have := (List.getElem?_eq_some_iff.mp ha).1
    simp at this
    omega
  rw [List.getElem?_take_of_lt hn] at ha
  exact ⟨hn, ha, hf, fun k hk b hkb => hb k hk b (by rwa [List.getElem?_take_of_lt (by omega)])⟩

/-! ### The cache (R188): what leaves it is loose -/

theorem leastUsed_loose {loose : CacheEntry → Bool} {l : List CacheEntry} {c : CacheEntry} (h : leastUsed loose l = some c) : loose c = true := by
  refine List.foldlRecOn (motive := fun m => ∀ x, m = some x → loose x = true) (l.filter loose) _ (by simp) (fun m hm x hx y hy => ?_) c h
  have hx : loose x = true := (List.mem_filter.mp hx).2
  split at hy
  · split at hy
    · cases hy
      exact hx
    · exact hm y hy
  · cases hy
    exact hx

theorem mem_evict {loose : CacheEntry → Bool} {n : Nat} {l : List CacheEntry} {c : CacheEntry} (hc : c ∈ l) (hl : loose c = false) :
    c ∈ evict loose n l := by
  induction n generalizing l with
  | zero => exact hc
  | succ n ih =>
    unfold evict
    split
    · next d hd =>
      have hcd : c ≠ d := by
        rintro rfl
        simp [leastUsed_loose hd] at hl
      exact ih ((List.mem_erase_of_ne hcd).mpr hc)
    · exact hc

theorem mem_enterCache {s : State} {digest : Bytes} {n : Nat} {a : Attempt} {c : CacheEntry} (hc : c ∈ s.prog.cache) (hd : c.digest ≠ digest)
    (hs : c.digest = s.prog.slot0.digest ∨ c.digest = s.prog.slot1.digest) : c ∈ enterCache s digest n a := by
  have hf : c ∈ s.prog.cache.filter fun c => c.digest != digest := List.mem_filter.mpr ⟨hc, by simpa using hd⟩
  refine List.mem_append_left _ (mem_evict hf ?_)
  rcases hs with h | h <;> simp [h]

/-! ### CUTTER_TRANSLATION_DONE -/

section
variable {report : CutterReport} {slot : Nat} {why : CutFor} {s : State}

theorem cutterTranslationDone_none (h : (nextCut s).prog.cutting = none) : exec (.cutterTranslationDone report) s = .next (nextCut s) := by
  simp only [exec_cutterTranslationDone, execCutterTranslationDone, h]

variable (h : (nextCut s).prog.cutting = some (slot, why))
include h

theorem cutterTranslationDone_idle (hi : cutImage (slotOf (nextCut s) slot) = .ok none) :
    exec (.cutterTranslationDone report) s = .next (nextCut (modProg (fun p => { p with cutting := none }) (nextCut s))) := by
  have hi' : cutImage (slotOf (modProg (fun p => { p with cutting := none }) (nextCut s)) slot) = .ok none := hi
  simp only [exec_cutterTranslationDone, execCutterTranslationDone, h, cut_idle hi']

theorem cutterTranslationDone_check {check offset : Nat} (hi : cutImage (slotOf (nextCut s) slot) = .error (check, offset)) :
    exec (.cutterTranslationDone report) s = .next (nextCut (cutRefused why slot 0x0310 (le 1 check ++ le 8 offset)
      (recordProgram 0xFFFF (le 1 1 ++ le 1 check ++ le 8 offset) (modProg (fun p => { p with cutting := none }) (nextCut s))))) := by
  have hi' : cutImage (slotOf (modProg (fun p => { p with cutting := none }) (nextCut s)) slot) = .error (check, offset) := hi
  simp only [exec_cutterTranslationDone, execCutterTranslationDone, h, cut_refusedByCheck hi']

theorem cutterTranslationDone_notDiverse {i : Image} {d : DiversityFault} (hi : cutImage (slotOf (nextCut s) slot) = .ok (some i))
    (ho : cutOutcome i report = .error d) :
    exec (.cutterTranslationDone report) s = .next (nextCut (cutRefused why slot 0x0318 [] (recordProgram 0xFFFF
      (le 1 5 ++ le 1 d.first ++ le 1 d.second ++ le 1 (bit d.isVariable) ++ le 8 d.which)
      (modProg (fun p => { p with cutting := none }) (nextCut s))))) := by
  have hi' : cutImage (slotOf (modProg (fun p => { p with cutting := none }) (nextCut s)) slot) = .ok (some i) := hi
  simp only [exec_cutterTranslationDone, execCutterTranslationDone, h, cut_notDiverse hi' ho]

theorem cutterTranslationDone_done {i : Image} {n : Nat} {a : Attempt} (hi : cutImage (slotOf (nextCut s) slot) = .ok (some i))
    (ho : cutOutcome i report = .ok (n, a)) :
    exec (.cutterTranslationDone report) s = .next
      (let u := modSlot slot (fun x => { x with state := 2, image := some i, load := none })
         (modProg (fun p => { p with cutting := none }) (nextCut s))
       nextCut (cutDone why i (slotOf (nextCut s) slot) report.ms
         (settleAxis (modProg (fun p => { p with cache := enterCache u (slotOf (nextCut s) slot).digest n a }) u)))) := by
  have hi' : cutImage (slotOf (modProg (fun p => { p with cutting := none }) (nextCut s)) slot) = .ok (some i) := hi
  simp only [exec_cutterTranslationDone, execCutterTranslationDone, h, cut_done hi' ho]
  rfl

end

/-! ### Retentive commits (R219) -/

theorem retentiveCommitPeriodic_begins {s : State} (hl : s.prog.retentiveLoaded = true) (hc : s.prog.commit = none) :
    exec .retentiveCommitPeriodic s = .next (beginCommit 0 (reach (s.prog.lastCommitAt + second 60) s)) := by
  simp [exec_retentiveCommitPeriodic, execRetentiveCommitPeriodic, hl, hc]

theorem retentiveCommitPeriodic_idle {s : State} (h : s.prog.retentiveLoaded = false ∨ s.prog.commit.isSome = true) :
    exec .retentiveCommitPeriodic s = .next s := by
  refine if_neg ?_
  rcases h with h | h
  · simp [h]
  · simp [Option.isSome_iff_ne_none.mp h]

theorem retentiveCommitComplete_ends {written : Bool} {s : State} (h : s.prog.commit.isSome = true) :
    exec (.retentiveCommitComplete written) s =
      .next (updateStopped (if written then endCommitStep written s else failMirror (endCommitStep written s))) := by
  refine if_neg ?_
  simp [Option.isSome_iff_ne_none.mp h]

theorem retentiveCommitComplete_idle {written : Bool} {s : State} (h : s.prog.commit = none) :
    exec (.retentiveCommitComplete written) s = .next s := by
  refine if_pos ?_
  simp [h]

/-! ### Recuts (R224 to R228) -/

section
variable {r : Recut} {s : State} (h : pendingRecut s = some r)
include h

theorem recutGuard_holds (hg : r.guarding = false) : exec .recutGuard s = .next
    (withholdEvents (modProg (fun p => { p with recut := some { r with guarding := true } }) (reach (programInstant s r.guardUs) s))) := by
  simp [exec_recutGuard, execRecutGuard, h, hg]

theorem recutGuard_again (hg : r.guarding = true) : exec .recutGuard s = .next s := by
  simp [exec_recutGuard, execRecutGuard, h, hg]

end

theorem recutGuard_none {s : State} (h : pendingRecut s = none) : exec .recutGuard s = .next s := by
  simp only [exec_recutGuard, execRecutGuard, h]

theorem recutSwitch_none {s : State} (h : pendingRecut s = none) : exec .recutSwitch s = .next s := by
  simp only [exec_recutSwitch, execRecutSwitch, h]

section
variable {r : Recut} {a b : Image} {s : State} (h : pendingRecut s = some r) (ha : runningImage s = some a) (hb : translatedImage s r.slot = some b)
  (hd : s.pair.role = .standby ∨ ∀ t ∈ s.prog.tasks, ∀ d, t.2.due = some d → r.switchUs ≤ d) (hf : inFlight s = false)
  (hp : s.prog.stopping = none)
include h ha hb hd hf hp

/-- At S, with nothing activated before it, a lane that is rebuilt puts the switch off but on a Standby. -/
theorem recutSwitch_due : exec .recutSwitch s = .next
    (if Lane.all.any (fun l => (laneOf s l).reshooting) && s.pair.role != .standby then postponeRecut r a (reach (programInstant s r.switchUs) s)
     else switchImages r a b (endStandbyReshoots (reach (programInstant s r.switchUs) s))) := by
  simp only [exec_recutSwitch, execRecutSwitch, h, ha, hb, hf, hp]
  rw [if_neg ?_]
  · exact (apply_ite Host.Outcome.next _ _ _).symm
  · rcases hd with hd | hd
    · simp [hd]
    · simp only [Option.isSome_none, Bool.or_false, Bool.and_eq_true, List.any_eq_true, not_and, not_exists]
      intro _ t ht
      split
      · next d hd' => simpa using hd t ht d hd'
      · simp

theorem recutSwitch_switches (hl : s.pair.role = .standby ∨ ∀ l, (laneOf s l).reshooting = false) :
    exec .recutSwitch s = .next (switchImages r a b (endStandbyReshoots (reach (programInstant s r.switchUs) s))) := by
  rw [recutSwitch_due h ha hb hd hf hp, if_neg]
  rcases hl with hl | hl <;> simp [hl]

theorem recutSwitch_postponed {l : Lane} (hr : s.pair.role ≠ .standby) (hl : (laneOf s l).reshooting = true) :
    exec .recutSwitch s = .next (postponeRecut r a (reach (programInstant s r.switchUs) s)) := by
  have hany : Lane.all.any (fun l => (laneOf s l).reshooting) = true := List.any_eq_true.mpr ⟨l, by cases l <;> simp [Lane.all], hl⟩
  rw [recutSwitch_due h ha hb hd hf hp, if_pos (by simp [hany, hr])]

end

end Sys2Proof.Machine
end

section
/-! SUPPORT. Sources, command holds, grants, the recorder and updates at their events (R90, R452, R455, R462, R476, R477, R481, R483, R495 to
R501). -/

namespace Sys2Proof.Machine

/-! ### The arms of the dispatch for these events -/

theorem exec_sourceDetection (n clock : Nat) (s : State) : exec (.sourceDetection n clock) s = execSourceDetection n clock s := rfl
theorem exec_activationCommit (n : Nat) (s : State) : exec (.activationCommit n) s = execActivationCommit n s := rfl
theorem exec_activationHoldLimit (s : State) : exec .activationHoldLimit s = execActivationHoldLimit s := rfl
theorem exec_resourceGrant (resource : Resource) (s : State) : exec (.resourceGrant resource) s = execResourceGrant resource s := rfl
theorem exec_recordWrite (g : Ring) (readBack : Bool) (s : State) : exec (.recordWrite g readBack) s = execRecordWrite g readBack s := rfl
theorem exec_suppressedRecord (g : Ring) (s : State) : exec (.suppressedRecord g) s = execSuppressedRecord g s := rfl
theorem exec_freezeTimeout (s : State) : exec .freezeTimeout s = execFreezeTimeout s := rfl
theorem exec_clearTicketExpiry (s : State) : exec .clearTicketExpiry s = execClearTicketExpiry s := rfl
theorem exec_updateActivation (s : State) : exec .updateActivation s = execUpdateActivation s := rfl
theorem exec_updatePartnerWaitEnd (s : State) : exec .updatePartnerWaitEnd s = execUpdatePartnerWaitEnd s := rfl
theorem exec_updateTrialTimeout (s : State) : exec .updateTrialTimeout s = execUpdateTrialTimeout s := rfl

/-! ### Sources and commits (R452, R455) -/

section
variable {n : Nat} {s : State}

theorem sourceDetection_unused {clock : Nat} (h : (sourceOf (reach (5 * clock) s) n).origin = 0) :
    exec (.sourceDetection n clock) s = .next (reach (5 * clock) s) := if_pos h

theorem sourceDetection_evaluated {clock : Nat} (h : (sourceOf (reach (5 * clock) s) n).origin ≠ 0) :
    exec (.sourceDetection n clock) s = .next
      (let u := startCommits (some clock) sourceCount (reach (5 * clock) s)
       let x := sourceOf u n
       let y := if senseFinds x (sourceSignal u x) then x.detect clock else x
       modSource n (fun _ => { y with previous := sourceSignal u x && !pulseOrigin y.origin, pulses := y.pulses - 1 }) u) := if_neg h

theorem activationCommit_ends {d : Nat} (hw : (sourceOf s n).waiting = none) (hs : (sourceOf s n).started = some d) :
    exec (.activationCommit n) s = .next (commitSource n (reach (5 * (d + 3)) s)) := by
  simp [exec_activationCommit, execActivationCommit, hw, hs]

theorem activationCommit_started {d : Nat} (hw : (sourceOf s n).waiting.isSome = true)
    (hs : (sourceOf (startCommits none sourceCount s) n).started = some d) :
    exec (.activationCommit n) s = .next (commitSource n (reach (5 * (d + 3)) (startCommits none sourceCount s))) := by
  simp only [exec_activationCommit, execActivationCommit, hw, if_true, hs]

theorem activationCommit_idle (hw : (sourceOf s n).waiting = none) (hs : (sourceOf s n).started = none) :
    exec (.activationCommit n) s = .next s := by
  simp [exec_activationCommit, execActivationCommit, hw, hs]

end

/-! ### The command hold (R462) -/

theorem activationHoldLimit_ends {limit : Nat} {s : State} (h : s.act.hold = some (some limit)) :
    exec .activationHoldLimit s = .next (endHold (reach limit s)).2 := by
  simp only [exec_activationHoldLimit, execActivationHoldLimit, h]

theorem activationHoldLimit_idle {s : State} (h : s.act.hold = none ∨ s.act.hold = some none) : exec .activationHoldLimit s = .next s := by
  rcases h with h | h <;> simp only [exec_activationHoldLimit, execActivationHoldLimit, h]

/-! ### Grants (R90) -/

section
variable {resource : Resource} {s : State}

theorem resourceGrant_own (h : resource = .argon ∨ resource = .cutter) : exec (.resourceGrant resource) s = .next s := if_pos (by simpa using h)

variable (ha : resource ≠ .argon) (hc : resource ≠ .cutter)
include ha hc

theorem resourceGrant_free {e : Entry} (hh : (s.mbx.queue.find? fun e => e.phase = .holds resource) = none)
    (hw : nextWaiting s resource = some e) : exec (.resourceGrant resource) s = .next (serve commands e (noteGrant resource e s)) := by
  simp only [exec_resourceGrant, execResourceGrant, decide_false, Bool.or_self, Bool.false_eq_true, ha, hc, if_false, hh, hw]

section
variable {f : Entry} (hh : (s.mbx.queue.find? fun e => e.phase = .holds resource) = some f)
include hh

theorem resourceGrant_next {e : Entry} (hw : nextWaiting (resourceDone f s) resource = some e) :
    exec (.resourceGrant resource) s = .next (serve commands e (noteGrant resource e (resourceDone f s))) := by
  simp only [exec_resourceGrant, execResourceGrant, decide_false, Bool.or_self, Bool.false_eq_true, ha, hc, if_false, hh, hw]

theorem resourceGrant_last (hw : nextWaiting (resourceDone f s) resource = none) :
    exec (.resourceGrant resource) s = .next (resourceDone f s) := by
  simp only [exec_resourceGrant, execResourceGrant, decide_false, Bool.or_self, Bool.false_eq_true, ha, hc, if_false, hh, hw]

end

end

/-! ### The recorder (R476, R477, R481, R483) -/

section
variable {g : Ring} {s : State}

theorem recordWrite_writes {readBack : Bool} {b : Bytes} (hb : firstOf s.recorder g = some b) (hw : writesNow s g (seqOf b) = true) :
    exec (.recordWrite g readBack) s = .next (clearSteps (releaseSteps (freezeSteps (modRecorder (fun r =>
      let r := modRing g (fun x => x.write g b readBack) r
      if readBack then { r with buffer := r.buffer.erase (g, b) } else r) s)))) := by
  simp only [exec_recordWrite, execRecordWrite, hb, hw, if_true]

theorem recordWrite_barred {readBack : Bool} {b : Bytes} (hb : firstOf s.recorder g = some b) (hw : writesNow s g (seqOf b) = false) :
    exec (.recordWrite g readBack) s = .next s := by
  simp only [exec_recordWrite, execRecordWrite, hb, hw, Bool.false_eq_true, if_false]

theorem recordWrite_empty {readBack : Bool} (hb : firstOf s.recorder g = none) : exec (.recordWrite g readBack) s = .next s := by
  simp only [exec_recordWrite, execRecordWrite, hb]

theorem suppressedRecord_none (hp : (ringOf s.recorder g).pendingSuppressed = []) (hf : (ringOf s.recorder g).pendingFurther = 0) :
    exec (.suppressedRecord g) s = .next s := if_pos (by simp [hp, hf])

section
variable (h : (ringOf s.recorder g).pendingSuppressed ≠ [] ∨ (ringOf s.recorder g).pendingFurther ≠ 0)
include h

theorem suppressedRecord_due : ¬((ringOf s.recorder g).pendingSuppressed.isEmpty && decide ((ringOf s.recorder g).pendingFurther = 0)) = true := by
  rcases h with h | h <;> simp [h]

theorem suppressedRecord_written (ht : ringToken (reach ((ringOf s.recorder g).lastSuppressed + second 1) s) g = true) :
    exec (.suppressedRecord g) s = .next
      (modRecorder (modRing g fun x => { x with pendingSuppressed := [], pendingFurther := 0 })
        (record g 0x22 0 (suppressionBytes ((ringOf s.recorder g).pendingSuppressed.take 9) ++
          suppressionBytes [⟨0, 0, (((ringOf s.recorder g).pendingSuppressed.drop 9).map Suppression.count).sum +
            (ringOf s.recorder g).pendingFurther⟩]) (reach ((ringOf s.recorder g).lastSuppressed + second 1) s))) :=
  (if_neg (suppressedRecord_due h)).trans (if_pos ht)

theorem suppressedRecord_noToken (ht : ringToken (reach ((ringOf s.recorder g).lastSuppressed + second 1) s) g = false) :
    exec (.suppressedRecord g) s = .next (reach ((ringOf s.recorder g).lastSuppressed + second 1) s) :=
  (if_neg (suppressedRecord_due h)).trans (if_neg (by simp [ht]))

end

end

theorem freezeTimeout_ends {f : FreezeSt} {t : Nat} {s : State} (hf : s.recorder.freeze = some f) (ht : f.since = some t) :
    exec .freezeTimeout s = .next (endFreeze 2 none (reach (t + second 60) s)) := by
  simp only [exec_freezeTimeout, execFreezeTimeout, hf, ht]

theorem freezeTimeout_none {s : State} (hf : s.recorder.freeze = none) : exec .freezeTimeout s = .next s := by
  simp only [exec_freezeTimeout, execFreezeTimeout, hf]

theorem clearTicketExpiry_expires {t : ClearTicket} {s : State} (h : s.recorder.ticket = some t) :
    exec .clearTicketExpiry s = .next (modRecorder (fun r => { r with ticket := none }) (reach t.expires s)) := by
  simp only [exec_clearTicketExpiry, execClearTicketExpiry, h]

theorem clearTicketExpiry_none {s : State} (h : s.recorder.ticket = none) : exec .clearTicketExpiry s = .next s := by
  simp only [exec_clearTicketExpiry, execClearTicketExpiry, h]

/-! ### The activation of an update (R495, R500, R501) -/

theorem updateActivation_unscheduled {s : State} (h : s.update.schedule = 0) : exec .updateActivation s = .next s := if_pos (by simp [h])

section
variable {s : State} (hs : s.update.schedule ≠ 0) (ha : s.update.axis = 1) (hw : s.update.waitingSince = none) (ho : s.update.ownGates = none)
  (hm : hasMailbox s = true)
include hs ha hw ho hm

theorem updateActivation_due : ¬(s.update.schedule = 0 || s.update.axis != 1 || s.update.waitingSince.isSome || s.update.ownGates.isSome ||
    !hasMailbox s) = true := by simp [hs, ha, hw, ho, hm]

variable {u : State} (hu : u = reachLocal s.update.schedule s)
include hu

theorem updateActivation_notStaged (hi : isStaged u = false) : exec .updateActivation s = .next (unschedule u) := by
  subst hu
  exact (if_neg (updateActivation_due hs ha hw ho hm)).trans (if_pos (by simp [hi]))

variable (hi : isStaged u = true)
include hi

theorem updateActivation_noTime (hc : u.clock.state = .unset) : exec .updateActivation s = .next (refuseActivation 0x0E12 u) := by
  subst hu
  exact (if_neg (updateActivation_due hs ha hw ho hm)).trans ((if_neg (by simp [hi])).trans (if_pos hc))

variable (hc : u.clock.state ≠ .unset)
include hc

theorem updateActivation_ownGate {status : Nat} (hg : ownGate u = some status) :
    exec .updateActivation s = .next (refuseActivation status (modPair (fun p => { p with partnerGates := none })
      (if (u.pair.enabled && changesSlipstream u) then slipstream 2 (le 1 11 ++ le 1 0) u else u))) := by
  subst hu
  simp only [exec_updateActivation, execUpdateActivation, if_neg (updateActivation_due hs ha hw ho hm), hi, hc, hg, Bool.not_true,
    Bool.false_eq_true, if_false]

variable (hg : ownGate u = none)
include hg

theorem updateActivation_both (hb : (u.pair.enabled && changesSlipstream u) = true) :
    exec .updateActivation s = .next (if pairPackageGate u
      then bothGates (modUpdate (fun u => { u with ownGates := some true }) (slipstream 2 (le 1 11 ++ le 1 1) u))
      else refuseActivation 0x0E16 (slipstream 2 (le 1 11 ++ le 1 0) u)) := by
  subst hu
  simp only [exec_updateActivation, execUpdateActivation, if_neg (updateActivation_due hs ha hw ho hm), hi, hc, hg, hb, Bool.not_true,
    Bool.false_eq_true, if_false, if_true, apply_ite Host.Outcome.next]

theorem updateActivation_alone (hb : (u.pair.enabled && changesSlipstream u) = false) :
    exec .updateActivation s = .next (if u.pair.role = .active
      then if u.pair.present then modUpdate (fun x => { x with waitingSince := some u.time }) u else refuseActivation 0x0E15 u
      else beginActivation u) := by
  subst hu
  simp only [exec_updateActivation, execUpdateActivation, if_neg (updateActivation_due hs ha hw ho hm), hi, hc, hg, hb, Bool.not_true,
    Bool.false_eq_true, if_false, apply_ite Host.Outcome.next]

end

/-! ### The wait for the partner and the trial (R498, R500) -/

section
variable {t : Nat} {s : State}

theorem updatePartnerWaitEnd_ready (hw : s.update.waitingSince = some t) (hp : partnerReady s = true) :
    exec .updatePartnerWaitEnd s = .next (if s.pair.handoverAt.isSome then s else armHandover s) := by
  simp only [exec_updatePartnerWaitEnd, execUpdatePartnerWaitEnd, hw, hp, if_true]

theorem updatePartnerWaitEnd_expired (hw : s.update.waitingSince = some t) (hp : partnerReady s = false) :
    exec .updatePartnerWaitEnd s = .next (refuseActivation 0x0E15 (reach (t + second 3600) s)) := by
  simp only [exec_updatePartnerWaitEnd, execUpdatePartnerWaitEnd, hw, hp, Bool.false_eq_true, if_false]

theorem updatePartnerWaitEnd_none (hw : s.update.waitingSince = none) : exec .updatePartnerWaitEnd s = .next s := by
  simp only [exec_updatePartnerWaitEnd, execUpdatePartnerWaitEnd, hw]

theorem updateTrialTimeout_fails (ht : s.update.onTrial = true) (hs : s.module.state ≠ .stowed) :
    exec .updateTrialTimeout s = .next
      (let u := reach (s.module.bootAt + second 120) s
       modModule (fun m => { m with restartDue := some u.time }) (trialFail 2 u)) := if_pos (by simp [ht, hs])

theorem updateTrialTimeout_none (ht : s.update.onTrial = false) : exec .updateTrialTimeout s = .next s := if_neg (by simp [ht])

end

/-- Settles O55: each event in its cases. -/
theorem programRecorderAndUpdateFollowTheirEvents : Obligations.ProgramRecorderAndUpdateFollowTheirEvents := by
  refine ⟨?cutIdle, ?cutCheck, ?cutNotDiverse, ?cutDone, ?cutNone, ?outcome, ?cache, ?commitBegins, ?commitIdle, ?commitWritten, ?commitFailed,
    ?commitNone, ?guardHolds, ?guardAgain, ?guardNone, ?switches, ?postponed, ?switchNone, ?sourceUnused, ?sourceEvaluated, ?commitEnds,
    ?commitStarted, ?commitOfNone, ?holdEnds, ?holdNone, ?grantFree, ?grantNext, ?grantLast, ?grantOwn, ?recordWritten, ?recordBarred, ?recordNone,
    ?suppressedWritten, ?suppressedNoToken, ?suppressedNone, ?freezeEnds, ?freezeNone, ?ticketExpires, ?ticketNone, ?notStaged, ?noTime, ?ownGate,
    ?bothPass, ?pairGate, ?waits, ?noPartner, ?begins, ?unscheduled, ?handover, ?handoverArmed, ?waitExpired, ?waitNone, ?trialFails, ?trialNone⟩
  case cutIdle => exact fun report slot why s h hi => cutterTranslationDone_idle h hi
  case cutCheck => exact fun report slot why check offset s h hi => cutterTranslationDone_check h hi
  case cutNotDiverse => exact fun report slot why i d s h hi ho => cutterTranslationDone_notDiverse h hi ho
  case cutDone => exact fun report slot why i n a s h hi ho => cutterTranslationDone_done h hi ho
  case cutNone => exact fun report s h => cutterTranslationDone_none h
  case outcome => exact fun i report n a h => cutOutcome_ok h
  case cache => exact fun digest n a c s hc hd hs => mem_enterCache hc hd hs
  case commitBegins => exact fun s hl hc => retentiveCommitPeriodic_begins hl hc
  case commitIdle => exact fun s h => retentiveCommitPeriodic_idle h
  case commitWritten => exact fun s h => retentiveCommitComplete_ends h
  case commitFailed => exact fun s h => retentiveCommitComplete_ends h
  case commitNone => exact fun written s h => retentiveCommitComplete_idle h
  case guardHolds => exact fun r s h hg => recutGuard_holds h hg
  case guardAgain => exact fun r s h hg => recutGuard_again h hg
  case guardNone => exact fun s h => recutGuard_none h
  case switches => exact fun r a b s h ha hb hd hf hp hl => recutSwitch_switches h ha hb hd hf hp hl
  case postponed => exact fun r a b l s h ha hb hr hd hf hp hl => recutSwitch_postponed h ha hb (.inr hd) hf hp hr hl
  case switchNone => exact fun s h => recutSwitch_none h
  case sourceUnused => exact fun n clock s h => sourceDetection_unused h
  case sourceEvaluated => exact fun n clock s h => sourceDetection_evaluated h
  case commitEnds => exact fun n d s hw hs => activationCommit_ends hw hs
  case commitStarted => exact fun n d s hw hs => activationCommit_started hw hs
  case commitOfNone => exact fun n s hw hs => activationCommit_idle hw hs
  case holdEnds => exact fun limit s h => activationHoldLimit_ends h
  case holdNone => exact fun s h => activationHoldLimit_idle h
  case grantFree => exact fun resource e s ha hc hh hw => resourceGrant_free ha hc hh hw
  case grantNext => exact fun resource e f s ha hc hh hw => resourceGrant_next ha hc hh hw
  case grantLast => exact fun resource f s ha hc hh hw => resourceGrant_last ha hc hh hw
  case grantOwn => exact fun resource s h => resourceGrant_own h
  case recordWritten => exact fun g readBack b s hb hw => recordWrite_writes hb hw
  case recordBarred => exact fun g readBack b s hb hw => recordWrite_barred hb hw
  case recordNone => exact fun g readBack s hb => recordWrite_empty hb
  case suppressedWritten => exact fun g s h ht => suppressedRecord_written h ht
  case suppressedNoToken => exact fun g s h ht => suppressedRecord_noToken h ht
  case suppressedNone => exact fun g s hp hf => suppressedRecord_none hp hf
  case freezeEnds => exact fun f t s hf ht => freezeTimeout_ends hf ht
  case freezeNone => exact fun s hf => freezeTimeout_none hf
  case ticketExpires => exact fun t s h => clearTicketExpiry_expires h
  case ticketNone => exact fun s h => clearTicketExpiry_none h
  case notStaged => exact fun s hs ha hw ho hm hi => updateActivation_notStaged hs ha hw ho hm rfl hi
  case noTime => exact fun s hs ha hw ho hm hi hc => updateActivation_noTime hs ha hw ho hm rfl hi hc
  case ownGate => exact fun status s hs ha hw ho hm hi hc hg => updateActivation_ownGate hs ha hw ho hm rfl hi hc hg
  case bothPass =>
    intro s hs ha hw ho hm hi hc hg hb hp
    rw [updateActivation_both hs ha hw ho hm rfl hi hc hg hb, if_pos hp]
  case pairGate =>
    intro s hs ha hw ho hm hi hc hg hb hp
    rw [updateActivation_both hs ha hw ho hm rfl hi hc hg hb, if_neg (by simp [hp])]
  case waits =>
    intro s hs ha hw ho hm hi hc hg hb hr hp
    rw [updateActivation_alone hs ha hw ho hm rfl hi hc hg hb, if_pos hr, if_pos hp]
  case noPartner =>
    intro s hs ha hw ho hm hi hc hg hb hr hp
    rw [updateActivation_alone hs ha hw ho hm rfl hi hc hg hb, if_pos hr, if_neg (by simp [hp])]
  case begins =>
    intro s hs ha hw ho hm hi hc hg hb hr
    rw [updateActivation_alone hs ha hw ho hm rfl hi hc hg hb, if_neg hr]
  case unscheduled => exact fun s h => updateActivation_unscheduled h
  case handover =>
    intro t s hw hp hh
    rw [updatePartnerWaitEnd_ready hw hp, hh]
    rfl
  case handoverArmed =>
    intro t s hw hp hh
    rw [updatePartnerWaitEnd_ready hw hp, if_pos hh]
  case waitExpired => exact fun t s hw hp => updatePartnerWaitEnd_expired hw hp
  case waitNone => exact fun s hw => updatePartnerWaitEnd_none hw
  case trialFails => exact fun s ht hs => updateTrialTimeout_fails ht hs
  case trialNone => exact fun s ht => updateTrialTimeout_none ht

end Sys2Proof.Machine
end

section
/-! SUPPORT. The PROGRAM commands (Table 6.11): reports, start and stop, recut, forces, and image slots (R206 to R211, R223 to R226, R231,
R232). -/

namespace Sys2Proof.Machine

open Sys2Proof.Claims

/-! ### The reports -/

/-- Settles O22: PROGRAM_STATUS is made of its pieces, with a recut pending or without; the others are the bodies of their commands. -/
theorem programReportsGiveWhatTheTableLists : Obligations.ProgramReportsGiveWhatTheTableLists := by
  refine ⟨reports_of_body cmdProgramStatus (fun _ _ => rfl) rfl rfl (fun _ _ _ => rfl) fun e t h => ?_,
    answers_of_body cmdForceList (fun _ _ => rfl) rfl rfl (fun _ _ _ => rfl) fun e t h => ?_,
    answers_of_body cmdVariableRead (fun _ _ => rfl) rfl rfl (fun _ _ _ => rfl) fun e t h => ?_⟩
  -- PROGRAM_STATUS
  · refine ⟨_, body_of_sized (c := cmdProgramStatus) rfl (of_decide_eq_true h) t, ?_⟩
    have hr := fun stage at_ => isReport_flatMap_le [(1, t.prog.state.code), (1, t.prog.slot),
      (16, Bytes.field (padTo 16 t.prog.slot0.imageIdentity) 0 16), (4, t.prog.slot0.version), (1, t.prog.slot0.state),
      (16, Bytes.field (padTo 16 t.prog.slot1.imageIdentity) 0 16), (4, t.prog.slot1.version), (1, t.prog.slot1.state),
      (1, t.prog.kindRequested), (1, t.prog.kindPerformed), (8, t.prog.tStartLocal / secUnit), (1, stage), (8, at_ / secUnit),
      (4, at_ % secUnit / nsUnit), (2, t.prog.forces.length), (8, t.prog.lastSequence), (8, t.prog.lastCommitTai), (1, t.prog.lastCause),
      (4, t.prog.lastRecut.carried), (4, t.prog.lastRecut.initialised), (4, t.prog.lastRecut.discarded), (4, t.prog.lastRecut.forcesKept),
      (4, t.prog.lastRecut.forcesDropped), (4, bit t.prog.noValidBank + 2 * bit t.prog.fellBack)]
    cases hp : pendingRecut t with
    | none =>
      have hz : le 12 0 = taiBytes 0 := by simp [taiBytes, le_zero_eq_replicate]
      simpa [fieldsFrom, le_field_padTo, hz, taiBytes, CarryCounts.bytes] using hr 0 0
    | some r => simpa [fieldsFrom, le_field_padTo, taiBytes, CarryCounts.bytes] using hr (if r.guarding then 2 else 1) (programLocal t r.switchUs)
  -- FORCE_LIST
  · exact body_of_sized (c := cmdForceList) rfl (of_decide_eq_true h) t
  -- VARIABLE_READ
  · simp only [Bool.and_eq_true, Bool.not_eq_true', decide_eq_true_eq, Option.any_eq_true, Option.isNone_iff_eq_none] at h
    obtain ⟨⟨⟨hl, hr⟩, hs⟩, i, hi, y, hy, ⟨⟨h1, hn⟩, ho⟩, hc⟩ := h
    refine (body_of_sized (c := cmdVariableRead) rfl hl t).trans ?_
    have h0 : ¬e.field 12 4 = 0 := by omega
    have hn' : ¬y.2.leaves < e.field 8 4 + e.field 12 4 := by omega
    simp [hr, hs, hi, hy, h0, hn', Option.isSome_iff_ne_none.mp ho, hc]

/-! ### Start, stop and recut -/

theorem slotOf_image_of_translated {t : State} {n : Nat} {i : Image} (h : translatedImage t n = some i) : (slotOf t n).image = some i :=
  (Option.filter_eq_some_iff.mp h).1

/-- A start that passes every check of R211 is not refused. -/
theorem startRefusal_eq_none {t : State} {n : Nat} {i : Image} (hm : t.module.state = .service ∨ t.module.state = .maintenance)
    (hl : latchSet t = false) (hr : programRuns t = false) (hs : t.prog.stopping = none)
    (hp : ¬(t.pair.enabled = true ∧ t.pair.role = .standby)) (hi : translatedImage t n = some i) (hf : belowFloor t (slotOf t n) = false)
    (hb : bindingsResolve t i = true) (hw : misfit t i (slotOf t n).digest t.voter.staggerSet = none)
    (hx : t.pair.enabled = false ∨ budgetFits i t.prog.forces = true ∧ supervisionFits t i = true) : startRefusal t n = none := by
  have hpair : (t.pair.enabled && !budgetFits i t.prog.forces) = false ∧ (t.pair.enabled && !supervisionFits t i) = false := by
    rcases hx with hx | ⟨hx, hy⟩ <;> simp [*]
  obtain ⟨hbudget, hsupervision⟩ := hpair
  unfold startRefusal
  refine (if_neg (by rcases hm with hm | hm <;> simpa [hm, hl, hr, hs] using hp)).trans ?_
  simp only [hi, hf, hb, hw, hbudget, hsupervision, Bool.not_true, Option.isSome_none, Bool.false_eq_true, if_false]

/-- A recut that passes the checks before its conditions is not refused. -/
theorem recutRefusal_eq_none {t : State} {n : Nat} {a b : Image} (hb : translatedImage t n = some b)
    (hs : (safetyChanged a b && !(t.module.state = .maintenance && standstill t)) = false) (hf : belowFloor t (slotOf t n) = false)
    (hr : bindingsResolve t b = true) : recutRefusal t a n = none := by
  simp only [recutRefusal, hb, hs, hf, hr, Bool.not_true, Bool.false_eq_true, if_false]

/-- Settles O23: no check of the start or of the recut refuses, and what is left is the body of the command. -/
theorem programIsStartedAndStopped : Obligations.ProgramIsStartedAndStopped := by
  refine ⟨answers_of_body cmdProgramStart (fun _ _ => rfl) rfl rfl (fun _ _ _ => rfl) fun e t h => ?_,
    answers_of_body cmdProgramStop (fun _ _ => rfl) rfl rfl (fun _ _ _ => rfl) fun e t h => ?_,
    answers_of_body cmdRecutStart (fun _ _ => rfl) rfl rfl (fun _ _ _ => rfl) fun e t h => ?_,
    answers_of_body cmdRecutCancel (fun _ _ => rfl) rfl rfl (fun _ _ _ => rfl) fun e t h => ?_⟩
  -- PROGRAM_START
  · simp only [Bool.and_eq_true, Bool.or_eq_true, Bool.not_eq_true', decide_eq_true_eq, Option.any_eq_true, Option.isNone_iff_eq_none] at h
    obtain ⟨⟨⟨⟨⟨⟨⟨hl, hk⟩, hm⟩, hlatch⟩, hr⟩, hs⟩, hp⟩, n, hn, i, hi, ⟨⟨hf, hb⟩, hw⟩, hx⟩ := h
    have hno : startRefusal t n = none := startRefusal_eq_none hm hlatch hr hs (by simpa using hp) hi hf hb hw hx
    refine (body_of_sized (c := cmdProgramStart) rfl hl t).trans ?_
    simp only [hn, hno, if_neg hk.not_gt, Option.getD_some]
    rfl
  -- PROGRAM_STOP
  · simp only [Bool.and_eq_true, Bool.or_eq_true, decide_eq_true_eq, bne_iff_ne, Option.isNone_iff_eq_none] at h
    obtain ⟨⟨⟨⟨hl, hr⟩, hs⟩, hp⟩, hm⟩ := h
    refine (body_of_sized (c := cmdProgramStop) rfl hl t).trans (if_neg ?_)
    rcases hm with hm | hm <;> simp [hr, hs, hp, hm]
  -- RECUT_START
  · simp only [Bool.and_eq_true, Bool.not_eq_true', decide_eq_true_eq, bne_iff_ne, Option.any_eq_true, Option.isNone_iff_eq_none] at h
    obtain ⟨⟨⟨⟨⟨hl, hk⟩, hr⟩, hs⟩, hp⟩, a, ha, b, hb, ⟨hc, hf⟩, hbind⟩ := h
    refine (body_of_sized (c := cmdRecutStart) rfl hl t).trans ?_
    refine (if_neg hk.not_gt).trans ((if_neg (by simp [hr, hs, hp])).trans ?_)
    simp only [ha, hb, slotOf_image_of_translated hb, recutRefusal_eq_none hb hc hf hbind]
    rfl
  -- RECUT_CANCEL
  · simp only [Bool.and_eq_true, Bool.not_eq_true', decide_eq_true_eq, Option.any_eq_true] at h
    obtain ⟨hl, r, hr, hg, ht⟩ := h
    refine (body_of_sized (c := cmdRecutCancel) rfl hl t).trans ?_
    simp only [hr]
    exact if_neg (by simp [hg, ht])

/-! ### Forces and image slots -/

/-- A command that needs a resource answers as its body does where no other entry holds the resource or comes before it. -/
theorem body_of_needing {c : Command} {r : Resource} {f : Entry → State → State × Reply} {e : Entry} {t : State} {a : State × Reply}
    (hc : c.body = needing r f) (hf : f e t = a) : c.body e t =
      if t.mbx.queue.any fun q => q.id != e.id && (q.phase = .holds r || q.phase = .waits r && e.phase != .waits r)
      then (t, .goesOn (.waits r) false) else a := by
  rw [hc, ← hf]
  rfl

/-- The forces that a FORCE_CLEAR drops: those that it names, or, naming none, those that its issuer may clear. -/
def clearedBy (e : Entry) (t : State) (f : Force) : Bool :=
  if e.field 0 8 = 0 then forceRole f.safety e.roles && forceState t f.safety
  else f.identity = e.field 0 8 && (e.field 8 4 = 0xFFFFFFFF || f.first = e.field 8 4)

theorem forceState_false (t : State) : forceState t false = (t.module.state = .service || t.module.state = .maintenance : Bool) := rfl

/-- A FORCE_CLEAR whose issuer may clear every force that it drops. -/
theorem forceClear_body {e : Entry} {t : State} (hl : e.payload.length = 12) (hp : t.pair.role ≠ .standby) (hu : forceState t false = true)
    (hmay : ∀ f ∈ t.prog.forces.filter (fun f => clearedBy e t f.2), forceRole f.2.safety e.roles = true ∧ forceState t f.2.safety = true) :
    cmdForceClear.body e t =
      answers (le 2 (t.prog.forces.filter fun f => clearedBy e t f.2).length ++ le 2 (dropForces (clearedBy e t) t).prog.forces.length)
        (if (t.prog.forces.filter fun f => clearedBy e t f.2).isEmpty then dropForces (clearedBy e t) t
         else forwardForces (dropForces (clearedBy e t) t)) := by
  have hrole : ((t.prog.forces.filter fun f => clearedBy e t f.2).any fun f => !forceRole f.2.safety e.roles) = false :=
    List.any_eq_false.mpr fun f hf => by simp [(hmay f hf).1]
  have hstate : ((t.prog.forces.filter fun f => clearedBy e t f.2).any fun f => !forceState t f.2.safety) = false :=
    List.any_eq_false.mpr fun f hf => by simp [(hmay f hf).2]
  have hserves : ¬(t.pair.role = .standby || !forceState t false ||
      (t.prog.forces.filter fun f => clearedBy e t f.2).any fun f => !forceState t f.2.safety) = true := by
    rw [hstate, hu]
    simpa using hp
  exact (body_of_sized (c := cmdForceClear) rfl hl t).trans ((if_neg (ne_true_of_eq_false hrole)).trans (if_neg hserves))

/-- Settles O24: each answer is the body of its command under its premise. -/
theorem imagesAndForcesAreManaged : Obligations.ImagesAndForcesAreManaged := by
  refine ⟨answers_of_body cmdForceSet (fun _ _ => rfl) rfl rfl (fun _ _ _ => rfl) fun e t h => ?_,
    answers_of_body cmdForceClear (fun _ _ => rfl) rfl rfl (fun _ _ _ => rfl) fun e t h => ?_,
    answers_of_body cmdImageLoad (fun _ _ => rfl) rfl rfl (fun _ _ _ => rfl) fun e t h => ?_,
    answers_of_body cmdImageErase (fun _ _ => rfl) rfl rfl (fun _ _ _ => rfl) fun e t h => ?_⟩
  -- FORCE_SET
  · simp only [Bool.and_eq_true, decide_eq_true_eq, bne_iff_ne, Option.any_eq_true] at h
    obtain ⟨⟨⟨⟨⟨⟨⟨h18, h1⟩, h64⟩, hl⟩, hc⟩, he⟩, hp⟩, i, hi, ⟨k, y⟩, hy, ⟨⟨⟨hf, hn⟩, hrole⟩, hstate⟩, hv⟩ := h
    have hy' : ((runningImage t).bind fun i => (i.byIdentity (e.field 0 8)).map Prod.snd) = some y := by simp [hi, hy]
    have hshape : ¬(e.payload.length < 18 || e.field 16 2 = 0 || 64 < e.field 16 2 || (e.payload.drop 18).length != e.field 16 2 ||
        e.field 12 4 = 0) = true := by
      simp only [List.length_drop, Bool.or_eq_true, decide_eq_true_eq, bne_iff_ne]
      omega
    simp only [cmdForceSet, hy']
    refine (if_neg hshape).trans ?_
    simp only [hi, hrole, hstate, hf, hv, he, hp, Nat.not_lt.mpr hn, Option.map_some, Option.getD_some]
    rfl
  -- FORCE_CLEAR
  · simp only [Bool.and_eq_true, Bool.or_eq_true, decide_eq_true_eq, bne_iff_ne, List.all_eq_true] at h
    obtain ⟨⟨⟨hl, hp⟩, hm⟩, ha⟩ := h
    have hu : forceState t false = true := by simpa [forceState_false] using hm
    have hmay : ∀ f ∈ t.prog.forces.filter (fun f => clearedBy e t f.2), forceRole f.2.safety e.roles = true ∧ forceState t f.2.safety = true := by
      intro f hf
      obtain ⟨hmem, hhit⟩ := List.mem_filter.mp hf
      unfold clearedBy at hhit
      split at hhit
      · simpa using hhit
      · exact ha f (List.mem_filter.mpr ⟨hmem, hhit⟩)
    refine (forceClear_body hl hp hu hmay).trans ?_
    simp only [List.isEmpty_iff_length_eq_zero]
    rfl
  -- IMAGE_LOAD
  · simp only [Bool.and_eq_true, Bool.not_eq_true', decide_eq_true_eq, Option.any_eq_true] at h
    obtain ⟨⟨hl, hz⟩, n, hn, hc, hb⟩ := h
    refine body_of_needing rfl ?_
    simp [hn, hc, hb, Entry.clear, hz, hl.not_gt]
  -- IMAGE_ERASE
  · simp only [Bool.and_eq_true, Bool.not_eq_true', decide_eq_true_eq] at h
    obtain ⟨⟨⟨hl, hn⟩, hb⟩, hc⟩ := h
    refine body_of_needing rfl ((if_pos hl).trans ((if_neg hn.not_gt).trans (if_neg ?_)))
    simp [hb, hc]

end Sys2Proof.Machine
end

section
/-! SUPPORT. The PAIR commands (Table 7.15): reports, configuration, switchover and resynchronisation (R233, R236, R238, R257, R265, R271,
R272). -/

namespace Sys2Proof.Machine

open Sys2Proof.Claims

/-- Settles O25: PAIR_STATUS and PAIR_COUNTERS are made of their pieces; the others are the bodies of their commands. -/
theorem pairReportsGiveWhatTheTableLists : Obligations.PairReportsGiveWhatTheTableLists := by
  refine ⟨reports_of_body cmdPairStatus (fun _ _ => rfl) rfl rfl (fun _ _ _ => rfl) fun e t h => ?_,
    answers_of_body cmdPairHealth (fun _ _ => rfl) rfl rfl (fun _ _ _ => rfl) fun e t h => ?_,
    answers_of_body cmdPairBudget (fun _ _ => rfl) rfl rfl (fun _ _ _ => rfl) fun e t h => ?_,
    reports_of_body cmdPairCounters (fun _ _ => rfl) rfl rfl (fun _ _ _ => rfl) fun e t h => ?_⟩
  -- PAIR_STATUS
  · refine ⟨_, body_of_sized (c := cmdPairStatus) rfl (of_decide_eq_true h) t, ?_⟩
    have hr := fun budget => isReport_flatMap_le [(1, t.pair.role.code), (1, t.module.side), (1, bit t.pair.enabled), (1, bit t.pair.present),
      (1, bit (!notReady t)), (2, t.pair.reasons), (2, if t.pair.present then t.pair.partnerReasons else 0), (1, supervisedNow t),
      (1, t.pair.holdMs), (2, budget), (1, t.pair.portsUp), (1, t.pair.failure), (4, t.pair.takeovers), (8, t.pair.lastTakeover),
      (1, t.pair.lastTakeoverCause), (1, resyncState t), (16, Bytes.field (padTo 16 t.pair.peer) 0 16)]
    cases hi : runningImage t with
    | none => simpa [fieldsFrom, le_field_padTo] using hr 0
    | some i => simpa [fieldsFrom, le_field_padTo] using hr (min 0xFFFF (budgetUse i t.prog.forces))
  -- PAIR_HEALTH
  · simp only [Bool.and_eq_true, Bool.or_eq_true, decide_eq_true_eq] at h
    obtain ⟨hl, hm⟩ := h
    refine (body_of_sized (c := cmdPairHealth) rfl hl t).trans ?_
    rcases hm with hm | hm <;> simp [hm]
  -- PAIR_BUDGET
  · simp only [Bool.and_eq_true, decide_eq_true_eq] at h
    obtain ⟨hl, hn⟩ := h
    exact (body_of_sized (c := cmdPairBudget) rfl hl t).trans (if_neg hn.not_gt)
  -- PAIR_COUNTERS
  · refine ⟨_, body_of_sized (c := cmdPairCounters) rfl (of_decide_eq_true h) t, ?_⟩
    have hr := isReport_flatMap_le [(8, t.pair.compared), (4, t.pair.divergences), (4, t.pair.mismatches), (4, t.pair.failedWrites),
      (4, t.pair.resyncStarted), (4, t.pair.resyncCompleted), (4, t.pair.resyncFailedCount), (4, t.pair.takeovers), (4, t.pair.lost0),
      (4, t.pair.lost1), (8, t.pair.duplicates), (4, t.pair.tagFailures)]
    simpa [fieldsFrom] using hr

/-- Settles O26: each answer is the body of its command under its premise. -/
theorem pairIsCommanded : Obligations.PairIsCommanded := by
  refine ⟨answers_of_body cmdPairConfigure (fun _ _ => rfl) rfl rfl (fun _ _ _ => rfl) fun e t h => ?_,
    answers_of_body cmdPairSwitchover (fun _ _ => rfl) rfl rfl (fun _ _ _ => rfl) fun e t h => ?_,
    answers_of_body cmdPairResync (fun _ _ => rfl) rfl rfl (fun _ _ _ => rfl) fun e t h => ?_⟩
  -- PAIR_CONFIGURE
  · simp only [Bool.and_eq_true, Bool.or_eq_true, Bool.not_eq_true', decide_eq_true_eq] at h
    obtain ⟨⟨⟨⟨⟨⟨hl, he⟩, ht⟩, h10⟩, h60⟩, hz⟩, hr⟩ := h
    have hargs : ¬(1 < e.field 0 1 || (16 ≤ e.field 17 1 && e.field 17 1 != 0xFF) || e.field 18 1 < 10 || 60 < e.field 18 1 ||
        !e.clear [(29, 3)]) = true := by
      simp [Entry.clear, hz, he.not_gt, h10.not_gt, h60.not_gt]
      omega
    refine (body_of_sized (c := cmdPairConfigure) rfl hl t).trans ((if_neg hargs).trans ((if_neg (by simp [hr])).trans ?_))
    rfl
  -- PAIR_SWITCHOVER
  · simp only [Bool.and_eq_true, decide_eq_true_eq, Option.isNone_iff_eq_none] at h
    obtain ⟨⟨⟨⟨hl, he⟩, ha⟩, hc⟩, -⟩ := h
    refine (body_of_sized (c := cmdPairSwitchover) rfl hl t).trans ((if_neg (by simp [he])).trans ((if_neg (by simp [ha, hc])).trans ?_))
    cases hp : t.pair.present with
    | false => rfl
    | true =>
      have hready : (!partnerReady t) = (t.pair.partnerReasons != 0) := Bool.eq_iff_iff.mpr (by simp [partnerReady, hp])
      rw [hready]
      rfl
  -- PAIR_RESYNC
  · simp only [Bool.and_eq_true, Bool.not_eq_true', decide_eq_true_eq] at h
    obtain ⟨⟨⟨hl, he⟩, hp⟩, hx⟩ := h
    exact (body_of_sized (c := cmdPairResync) rfl hl t).trans ((if_neg (by simp [he, hp])).trans (if_neg (by simp [hx])))

end Sys2Proof.Machine
end

section
/-! SUPPORT. The pair at its events: HELLO, the partner's messages, supervision, takeover, handover and resynchronisation (R234, R245 to R249,
R252 to R257, R265 to R268). -/

namespace Sys2Proof.Machine

/-! ### The arms of the dispatch for these events -/

section
variable (got : SlipArrival) (s : State)

theorem exec_slipstreamHello (h : PairHello) : exec (.slipstreamHello h) s = execSlipstreamHello h s := rfl
theorem exec_slipstreamHelloSend : exec .slipstreamHelloSend s = execSlipstreamHelloSend s := rfl
theorem exec_slipControl (message : PairControl) : exec (.slipControl ⟨message, got⟩) s = heard got (controlHeard message) s := rfl
theorem exec_slipResync (message : PairResync) : exec (.slipResync ⟨message, got⟩) s = heard got (resyncHeard message) s := rfl
theorem exec_slipAck (issuer token reasons : Nat) :
    exec (.slipAck issuer token ⟨reasons, got⟩) s = heard got (ackHeard issuer token reasons) s := rfl
theorem exec_slipStatus (report : Bytes) : exec (.slipStatus ⟨report, got⟩) s = heard got (statusHeard report) s := rfl
theorem exec_slipToken (issuer token : Nat) (completion : Bytes) :
    exec (.slipToken issuer token ⟨completion, got⟩) s = heard got (tokenHeard issuer token completion) s := rfl
theorem exec_slipKeepalive (port delay : Nat) : exec (.slipKeepalive port ⟨delay, got⟩) s = heard got (keepaliveHeard port delay) s := rfl
theorem exec_slipSnapshot (m : Arrived PairSnapshot) : exec (.slipSnapshot m) s = execSlipSnapshot m s := rfl
theorem exec_slipTakeEnd (e : Arrived PairTakeEnd) : exec (.slipTakeEnd e) s = execSlipTakeEnd e s := rfl
theorem exec_pairTelegram (task take : Nat) : exec (.pairTelegram task take) s = execPairTelegram task take s := rfl
theorem exec_supervisedTakeMissed : exec .supervisedTakeMissed s = execSupervisedTakeMissed s := rfl
theorem exec_takeoverInstant : exec .takeoverInstant s = execTakeoverInstant s := rfl
theorem exec_handoverInstant : exec .handoverInstant s = execHandoverInstant s := rfl
theorem exec_resyncStart : exec .resyncStart s = execResyncStart s := rfl
theorem exec_resyncRetry : exec .resyncRetry s = execResyncRetry s := rfl

end

/-! ### Formation (R234) -/

section
variable {h : PairHello} {s : State}

theorem slipstreamHello_idle (hs : s.pair.enabled = false ∨ slipLit s = false) : exec (.slipstreamHello h) s = .next s :=
  if_pos (by rcases hs with hs | hs <;> simp [hs])

section
variable (he : s.pair.enabled = true) (hl : slipLit s = true) {u : State} (hu : u = modPair (fun p => { p with partnerGeneration := h.generation }) s)
include he hl hu

theorem slipstreamHello_forms (hc : formationCause h u = 0) : exec (.slipstreamHello h) s = .next (formPair h u) := by
  subst hu
  refine (if_neg (by simp [he, hl])).trans ?_
  simp only [hc]

theorem slipstreamHello_fails (hc : formationCause h u ≠ 0) : exec (.slipstreamHello h) s = .next
    (partnerLost (modPair (fun p => { p with failure := formationCause h u })
      (if u.pair.failure = formationCause h u then u else recordPair 0 (le 1 (formationCause h u)) u))) := by
  subst hu
  refine (if_neg (by simp [he, hl])).trans ?_
  split
  · contradiction
  · rfl

end

theorem slipstreamHelloSend_sends (he : s.pair.enabled = true) (hp : s.pair.present = false) (hu : s.pair.portsUp ≠ 0) (hl : slipLit s = true) :
    exec .slipstreamHelloSend s = .next (sendSlip 1 (helloBody s) s) := if_pos (by simp [he, hp, hu, hl])

theorem slipstreamHelloSend_idle (hs : s.pair.enabled = false ∨ s.pair.present = true ∨ s.pair.portsUp = 0 ∨ slipLit s = false) :
    exec .slipstreamHelloSend s = .next s := if_neg (by rcases hs with hs | hs | hs | hs <;> simp [hs])

end

/-! ### A message is heard when every fragment has come with a tag that verifies (R241) -/

theorem heard_of_whole {got : SlipArrival} {f : State → Out} {s u : State} (hw : wholeArrival got = true) (hu : u = countArrival got s) :
    heard got f s = f u := by
  subst hu
  exact if_pos hw

theorem heard_of_not_whole {got : SlipArrival} (f : State → Out) (s : State) (hw : wholeArrival got = false) :
    heard got f s = .next (countArrival got s) := if_neg (by simp [hw])

section
variable {u : State}

/-! ### CONTROL, RESYNC, ACK and STATUS of a partner (R247, R252, R265, R267) -/

section
variable (hp : u.pair.present = false)
include hp

theorem controlHeard_absent (message : PairControl) : controlHeard message u = .next u := if_pos (by simp [hp])
theorem resyncHeard_absent (message : PairResync) : resyncHeard message u = .next u := if_pos (by simp [hp])
theorem ackHeard_absent (issuer token reasons : Nat) : ackHeard issuer token reasons u = .next u := if_pos (by simp [hp])
theorem statusHeard_absent (report : Bytes) : statusHeard report u = .next u := if_pos (by simp [hp])

end

section
variable (hp : u.pair.present = true)
include hp

theorem controlHeard_settings (code : Nat) (payload : Bytes) :
    controlHeard (.settings code payload) u = .next (asStandby (applySettings (code, payload)) u) := if_neg (by simp [hp])

theorem controlHeard_applied {message : PairControl} (hm : ∀ code payload, message ≠ .settings code payload) :
    controlHeard message u = .next (applyControl message u) := by
  refine (if_neg (by simp [hp])).trans ?_
  cases message with
  | settings code payload => exact absurd rfl (hm code payload)
  | _ => rfl

theorem resyncHeard_configuration (t : Nat) (settings : Tbl Bytes) (forces : List Bytes) (tokens : List (Nat × Nat × Bytes)) :
    resyncHeard (.configuration t settings forces tokens) u = .next
      (asStandby (fun u => if u.pair.resyncAt.isSome then applyConfiguration t settings forces tokens u else u) u) :=
  if_neg (by simp [hp])

theorem resyncHeard_image (object : Bytes) : resyncHeard (.image object) u = .next (asStandby (receiveImage object) u) :=
  if_neg (by simp [hp])

theorem resyncHeard_state (task : Nat) (records : Bytes) (crc : Word64) :
    resyncHeard (.state task records crc) u = .next (stateReceived task records crc u) := if_neg (by simp [hp])

theorem ackHeard_present (issuer token reasons : Nat) : ackHeard issuer token reasons u = .next
    (partnerReports reasons (releaseAwaiting (fun h => h.issuer = issuer && h.token = token) u)) := if_neg (by simp [hp])

theorem statusHeard_solo {report : Bytes} (hr : Bytes.field report 6 1 = 0) : statusHeard report u = .next (partnerLost u) :=
  (if_neg (by simp [hp])).trans (if_pos hr)

theorem statusHeard_reports {report : Bytes} (hr : Bytes.field report 6 1 ≠ 0) : statusHeard report u = .next
    (partnerReports (Bytes.field report 4 2) (modPair (fun p => { p with partnerReport := report, partnerRunning := reportedImage report u }) u)) :=
  (if_neg (by simp [hp])).trans (if_neg hr)

end

/-! ### TOKEN (R247) -/

theorem tokenHeard_standby {issuer token : Nat} {completion : Bytes} (hr : u.pair.role = .standby) :
    tokenHeard issuer token completion u = .next (acknowledge issuer token (copyToken issuer token completion u)) := if_neg (by simp [hr])

theorem tokenHeard_idle {issuer token : Nat} {completion : Bytes} (hr : u.pair.role ≠ .standby) :
    tokenHeard issuer token completion u = .next u := if_pos (by simp [hr])

/-! ### KEEPALIVE (R242, R248, R251) -/

theorem keepaliveHeard_dark {port : Nat} (delay : Nat) (hd : hasBit u.pair.portsUp port = false) : keepaliveHeard port delay u = .next u :=
  if_pos (by simp [hd])

section
variable {port delay : Nat} (hd : hasBit u.pair.portsUp port = true)
include hd

/-- On a port with light the link delay is measured, and reason 4 ends when the light has lasted for 1 s. -/
theorem keepaliveHeard_lit {v : State} (hv : v = sendKeepalive port u) : keepaliveHeard port delay u =
    match v.pair.lightAt with
    | some t => if t + second 1 ≤ v.time
        then .next (setReason 4 false (setReason 0 true (modPair (fun p => { p with lightAt := none })
          (modPair (fun p => { p with linkDelay := delay }) v))))
        else .next (modPair (fun p => { p with linkDelay := delay }) v)
    | none => .next (modPair (fun p => { p with linkDelay := delay }) v) := by
  subst hv
  exact if_neg (by simp [hd])

variable {v : State} (hv : v = sendKeepalive port u)
include hv

theorem keepaliveHeard_returned {t : Nat} (hl : v.pair.lightAt = some t) (ht : t + second 1 ≤ v.time) : keepaliveHeard port delay u = .next
    (setReason 4 false (setReason 0 true (modPair (fun p => { p with lightAt := none }) (modPair (fun p => { p with linkDelay := delay }) v)))) := by
  rw [keepaliveHeard_lit hd hv, hl]
  exact if_pos ht

theorem keepaliveHeard_returning {t : Nat} (hl : v.pair.lightAt = some t) (ht : v.time < t + second 1) :
    keepaliveHeard port delay u = .next (modPair (fun p => { p with linkDelay := delay }) v) := by
  rw [keepaliveHeard_lit hd hv, hl]
  exact if_neg ht.not_ge

theorem keepaliveHeard_measured (hl : v.pair.lightAt = none) :
    keepaliveHeard port delay u = .next (modPair (fun p => { p with linkDelay := delay }) v) := by
  rw [keepaliveHeard_lit hd hv, hl]

end

end

/-! ### SNAPSHOT and TAKE_END (R245, R249, R266) -/

section
variable {m : PairSnapshot} {e : PairTakeEnd} {got : SlipArrival} {s u : State}

theorem slipSnapshot_idle (h : s.pair.role ≠ .standby ∨ wholeArrival got = false) :
    exec (.slipSnapshot ⟨m, got⟩) s = .next (countArrival got s) := if_pos (by rcases h with h | h <;> simp [h, countArrival])

theorem slipTakeEnd_idle (h : s.pair.role ≠ .standby) : exec (.slipTakeEnd ⟨e, got⟩) s = .next (countArrival got s) :=
  if_pos (by simp [h, countArrival])

variable (hu : u = countArrival got s) (hr : u.pair.role = .standby)
include hu hr

theorem slipSnapshot_opens (hw : wholeArrival got = true)
    (he : waitsForEnd m (Tbl.find u.pair.forwarded m.task) (noteSnapshot m u) = false) :
    exec (.slipSnapshot ⟨m, got⟩) s = .next (openForwarded m (noteSnapshot m u)) := by
  subst hu
  exact (if_neg (by simp [hr, hw])).trans (if_neg (by simp [he]))

theorem slipSnapshot_waits (hw : wholeArrival got = true)
    (he : waitsForEnd m (Tbl.find u.pair.forwarded m.task) (noteSnapshot m u) = true) : exec (.slipSnapshot ⟨m, got⟩) s =
      .next (modPair (fun p => { p with waitingSnapshots := p.waitingSnapshots ++ [m] }) (noteSnapshot m u)) := by
  subst hu
  exact (if_neg (by simp [hr, hw])).trans (if_pos he)

theorem slipTakeEnd_standby : exec (.slipTakeEnd ⟨e, got⟩) s = .next (releaseWaiting e.task
    (if wholeArrival got then endDecided e (noteEnd e (acknowledge 0 e.take u)) else failMirror (acknowledge 0 e.take u))) := by
  subst hu
  exact if_neg (by simp [hr])

end

/-! ### The pair telegram and the supervised take (R253) -/

section
variable {task take : Nat} {s : State}

theorem pairTelegram_idle (h : s.pair.role ≠ .standby) : exec (.pairTelegram task take) s = .next s := if_pos (by simp [h])

section
variable (hr : s.pair.role = .standby) (hs : supervisedNow s = task) (he : Tbl.find s.pair.takeEnded task ≠ some take)
include hr hs he

theorem pairTelegram_supervises : ¬(s.pair.role != .standby || supervisedNow s != task || Tbl.find s.pair.takeEnded task = some take) = true := by
  simp [hr, hs, he]

theorem pairTelegram_first (hp : s.pair.portsUp ≠ 0) (ht : s.pair.telegramSeen = false) : exec (.pairTelegram task take) s = .next
    (modPair (fun p => { p with telegramSeen := true }) (modPair (fun p => { p with misses := 0 }) s)) := by
  refine (if_neg (pairTelegram_supervises hr hs he)).trans ?_
  simp [hp, ht]

theorem pairTelegram_dark (hp : s.pair.portsUp = 0) : exec (.pairTelegram task take) s = .next
    (let u := slipstreamLost (modPair (fun p => { p with misses := 0 }) s)
     match u.pair.superviseT0 with
     | some t0 => superviseNext t0 u
     | none => u) := by
  refine (if_neg (pairTelegram_supervises hr hs he)).trans (congrArg Host.Outcome.next ?_)
  exact (if_pos (decide_eq_true hp)).trans (if_pos (by simp [hp]))

theorem pairTelegram_again (hp : s.pair.portsUp ≠ 0) (ht : s.pair.telegramSeen = true) : exec (.pairTelegram task take) s = .next
    (let u := slipstreamLost (modPair (fun p => { p with misses := 0 }) s)
     modPair (fun p => { p with telegramSeen := true }) (match u.pair.superviseT0 with
       | some t0 => superviseNext t0 u
       | none => u)) := by
  refine (if_neg (pairTelegram_supervises hr hs he)).trans (congrArg Host.Outcome.next ?_)
  exact (if_neg (by simp [hp])).trans (congrArg (modPair _) (if_pos (by simp [ht])))

end

theorem supervisedTakeMissed_idle (h : s.pair.role ≠ .standby ∨ s.pair.superviseT0 = none) : exec .supervisedTakeMissed s = .next s := by
  rw [exec_supervisedTakeMissed, execSupervisedTakeMissed]
  split
  · next hr ht _ => exact h.elim (absurd hr) fun h => by simp [h] at ht
  · rfl

section
variable {t0 : Nat} {r : TaskRec} (hr : s.pair.role = .standby) (ht : s.pair.superviseT0 = some t0) (hd : supervisedRec s = some r)
include hr ht hd

theorem supervisedTakeMissed_telegram (hs : s.pair.telegramSeen = true) : exec .supervisedTakeMissed s = .next
    (releaseEvery (slipstreamLost (superviseNext t0 (reach (t0 + micro (r.deadline + 200)) s)))) := by
  simp only [exec_supervisedTakeMissed, execSupervisedTakeMissed, hr, ht, hd, hs, if_true]

theorem supervisedTakeMissed_counts (hs : s.pair.telegramSeen = false) {u : State} (hu : u = releaseEvery
    (modPair (fun p => { p with misses := p.misses + 1 }) (superviseNext t0 (reach (t0 + micro (r.deadline + 200)) s)))) :
    exec .supervisedTakeMissed s = .next (if 2 ≤ u.pair.misses then takeOver 0 u else u) := by
  simp only [exec_supervisedTakeMissed, execSupervisedTakeMissed, hr, ht, hd, hs, hu, Bool.false_eq_true, if_false]

end

end

/-! ### Takeover and handover (R254, R255, R257) -/

section
variable {s : State}

theorem takeoverInstant_none (h : s.pair.takeoverAt = none) : exec .takeoverInstant s = .next s := by
  simp only [exec_takeoverInstant, execTakeoverInstant, h]

theorem takeoverInstant_starts {t : Nat} (h : s.pair.takeoverAt = some t) : exec .takeoverInstant s = .next
    (let u := modPair (fun p => { p with takeoverAt := none }) (reachLocal t s)
     gapCues (releaseEvents (rebaseRecut u.prog.tStartTimer (rebase t TaskRec.offset (modProg (fun p => { p with tStartLocal := t }) u)))).2) := by
  simp only [exec_takeoverInstant, execTakeoverInstant, h]

theorem handoverInstant_none (h : s.pair.handoverAt = none) : exec .handoverInstant s = .next s := by
  simp only [exec_handoverInstant, execHandoverInstant, h]

section
variable {h : Nat} {u : State} (ha : s.pair.handoverAt = some h) (hu : u = reachLocal (h * nsUnit) s)
include ha hu

/-- At T_h a Standby takes over unless its handover is put off; any other module needs a ready partner and hands off where nothing bars it. -/
theorem handoverInstant_armed : exec .handoverInstant s = .next
    (if u.pair.role = .standby then if u.pair.reasons = 0 && handoverBarred u then postponeHandover h u else takeHandover h u
     else if partnerReady u then if handoverBarred u then postponeHandover h u else handoverStep u
     else modPair (fun p => { p with handoverAt := none }) u) := by
  subst hu
  simp only [exec_handoverInstant, execHandoverInstant, ha]
  cases partnerReady (reachLocal (h * nsUnit) s) <;> simp only [apply_ite Host.Outcome.next] <;> rfl

end

/-! ### Resynchronisation (R267, R268) -/

theorem resyncStart_idle (h : s.pair.role ≠ .active ∨ s.pair.resyncAt = none ∨ s.pair.resyncSent = true) : exec .resyncStart s = .next s := by
  rw [exec_resyncStart, execResyncStart]
  split
  · next hr ha =>
    rcases h with h | h | h
    · exact absurd hr h
    · simp [h] at ha
    · exact if_pos h
  · rfl

theorem resyncStart_sends {rs : Nat} (hr : s.pair.role = .active) (ha : s.pair.resyncAt = some rs) (hs : s.pair.resyncSent = false) :
    exec .resyncStart s = .next
      (let u := (modPair (fun p => { p with resyncSent := true }) (reachLocal (rs * nsUnit) s))
       let u := slipstream 9 (configurationBody u) u
       exportIdle (if partnerHasImage u then u else slipstream 9 (le 1 1 ++ (slotOf u u.prog.slot).object) u)) := by
  simp only [exec_resyncStart, execResyncStart, hr, ha, hs, Bool.false_eq_true, if_false]

theorem resyncRetry_none (h : s.pair.resyncRetry = none) : exec .resyncRetry s = .next s := by
  simp only [exec_resyncRetry, execResyncRetry, h]

theorem resyncRetry_due {t : Nat} (h : s.pair.resyncRetry = some t) {u : State}
    (hu : u = modPair (fun p => { p with resyncRetry := none }) (reach t s)) :
    exec .resyncRetry s = .next (if mayArm u resyncBars then armResync u else u) := by
  subst hu
  simp only [exec_resyncRetry, execResyncRetry, h]

end

/-- Settles O60: each event in its cases. -/
theorem thePairFollowsItsEvents : Obligations.ThePairFollowsItsEvents := by
  refine ⟨?helloForms, ?helloFails, ?helloIdle, ?helloSent, ?helloNotSent, ?settings, ?control, ?configuration, ?image, ?state, ?controlAbsent,
    ?resyncAbsent, ?ackAbsent, ?statusAbsent, ?ack, ?statusSolo, ?status, ?token, ?tokenIdle, ?telegramIdle, ?lightReturned, ?lightReturning,
    ?linkDelay, ?keepaliveDark, ?telegramFirst, ?telegramDark, ?telegramAgain, ?missedTelegram, ?missedTwo, ?missedOne, ?missedIdle, ?takeover,
    ?takeoverNone, ?handoverTaken, ?standbyPostpones, ?handoverDisarmed, ?activePostpones, ?handsOff, ?handoverNone, ?resyncStarts, ?resyncIdle,
    ?resyncRetried, ?resyncBarred, ?retryNone, ?tokenNotWhole, ?controlNotWhole, ?resyncNotWhole, ?ackNotWhole, ?statusNotWhole,
    ?keepaliveNotWhole, ?snapshotOpens, ?snapshotWaits, ?snapshotIdle, ?takeEnd, ?takeEndNotWhole, ?takeEndIdle, ?arrival⟩
  case helloForms => exact fun h s he hl hc => slipstreamHello_forms he hl rfl hc
  case helloFails => exact fun h s he hl hc => slipstreamHello_fails he hl rfl hc
  case helloIdle => exact fun h s hs => slipstreamHello_idle hs
  case helloSent => exact fun s he hp hu hl => slipstreamHelloSend_sends he hp hu hl
  case helloNotSent => exact fun s hs => slipstreamHelloSend_idle hs
  case settings => exact fun code payload got s u hw hu hp => (heard_of_whole hw hu).trans (controlHeard_settings hp code payload)
  case control => exact fun message got s u hw hu hp hm => (heard_of_whole hw hu).trans (controlHeard_applied hp hm)
  case configuration =>
    exact fun t settings forces tokens got s u hw hu hp =>
      (heard_of_whole hw hu).trans (resyncHeard_configuration hp t settings forces tokens)
  case image => exact fun object got s u hw hu hp => (heard_of_whole hw hu).trans (resyncHeard_image hp object)
  case state => exact fun task records crc got s u hw hu hp => (heard_of_whole hw hu).trans (resyncHeard_state hp task records crc)
  case controlAbsent => exact fun message got s u hw hu hp => (heard_of_whole hw hu).trans (controlHeard_absent hp message)
  case resyncAbsent => exact fun message got s u hw hu hp => (heard_of_whole hw hu).trans (resyncHeard_absent hp message)
  case ackAbsent => exact fun issuer token reasons got s u hw hu hp => (heard_of_whole hw hu).trans (ackHeard_absent hp issuer token reasons)
  case statusAbsent => exact fun report got s u hw hu hp => (heard_of_whole hw hu).trans (statusHeard_absent hp report)
  case ack => exact fun issuer token reasons got s u hw hu hp => (heard_of_whole hw hu).trans (ackHeard_present hp issuer token reasons)
  case statusSolo => exact fun report got s u hw hu hp hr => (heard_of_whole hw hu).trans (statusHeard_solo hp hr)
  case status => exact fun report got s u hw hu hp hr => (heard_of_whole hw hu).trans (statusHeard_reports hp hr)
  case token => exact fun issuer token completion got s u hw hu hr => (heard_of_whole hw hu).trans (tokenHeard_standby hr)
  case tokenIdle => exact fun issuer token completion got s u hw hu hr => (heard_of_whole hw hu).trans (tokenHeard_idle hr)
  case telegramIdle => exact fun task take s hr => pairTelegram_idle hr
  case lightReturned =>
    exact fun port delay t got s u v hw hu hv hd hl ht => (heard_of_whole hw hu).trans (keepaliveHeard_returned hd hv hl ht)
  case lightReturning =>
    exact fun port delay t got s u v hw hu hv hd hl ht => (heard_of_whole hw hu).trans (keepaliveHeard_returning hd hv hl ht)
  case linkDelay => exact fun port delay got s u v hw hu hv hd hl => (heard_of_whole hw hu).trans (keepaliveHeard_measured hd hv hl)
  case keepaliveDark => exact fun port delay got s u hw hu hd => (heard_of_whole hw hu).trans (keepaliveHeard_dark delay hd)
  case telegramFirst => exact fun task take s hr hs he hp ht => pairTelegram_first hr hs he hp ht
  case telegramDark => exact fun task take s hr hs he hp => pairTelegram_dark hr hs he hp
  case telegramAgain => exact fun task take s hr hs he hp ht => pairTelegram_again hr hs he hp ht
  case missedTelegram => exact fun t0 r s hr ht hd hs => supervisedTakeMissed_telegram hr ht hd hs
  case missedTwo =>
    intro t0 r s hr ht hd hs hm
    rw [supervisedTakeMissed_counts hr ht hd hs rfl, if_pos hm]
  case missedOne =>
    intro t0 r s hr ht hd hs hm
    rw [supervisedTakeMissed_counts hr ht hd hs rfl, if_neg hm.not_ge]
  case missedIdle => exact fun s h => supervisedTakeMissed_idle h
  case takeover => exact fun t s h => takeoverInstant_starts h
  case takeoverNone => exact fun s h => takeoverInstant_none h
  case handoverTaken =>
    intro h s ha hr hb
    rw [handoverInstant_armed ha rfl, if_pos hr, if_neg (ne_true_of_eq_false hb)]
  case standbyPostpones =>
    intro h s ha hr hb
    rw [handoverInstant_armed ha rfl, if_pos hr, if_pos hb]
  case handoverDisarmed =>
    intro h s ha hr hp
    rw [handoverInstant_armed ha rfl, if_neg hr, if_neg (ne_true_of_eq_false hp)]
  case activePostpones =>
    intro h s ha hr hp hb
    rw [handoverInstant_armed ha rfl, if_neg hr, if_pos hp, if_pos hb]
  case handsOff =>
    intro h s ha hr hp hb
    rw [handoverInstant_armed ha rfl, if_neg hr, if_pos hp, if_neg (ne_true_of_eq_false hb)]
  case handoverNone => exact fun s h => handoverInstant_none h
  case resyncStarts => exact fun rs s hr ha hs => resyncStart_sends hr ha hs
  case resyncIdle => exact fun s h => resyncStart_idle h
  case resyncRetried =>
    intro t s h hm
    rw [resyncRetry_due h rfl, if_pos hm]
  case resyncBarred =>
    intro t s h hm
    rw [resyncRetry_due h rfl, if_neg (ne_true_of_eq_false hm)]
  case retryNone => exact fun s h => resyncRetry_none h
  case tokenNotWhole => exact fun issuer token completion got s hw => heard_of_not_whole (tokenHeard issuer token completion) s hw
  case controlNotWhole => exact fun message got s hw => heard_of_not_whole (controlHeard message) s hw
  case resyncNotWhole => exact fun message got s hw => heard_of_not_whole (resyncHeard message) s hw
  case ackNotWhole => exact fun issuer token reasons got s hw => heard_of_not_whole (ackHeard issuer token reasons) s hw
  case statusNotWhole => exact fun report got s hw => heard_of_not_whole (statusHeard report) s hw
  case keepaliveNotWhole => exact fun port delay got s hw => heard_of_not_whole (keepaliveHeard port delay) s hw
  case snapshotOpens => exact fun m got s u hw hu hr he => slipSnapshot_opens hu hr hw he
  case snapshotWaits => exact fun m got s u hw hu hr he => slipSnapshot_waits hu hr hw he
  case snapshotIdle => exact fun m got s h => slipSnapshot_idle h
  case takeEnd =>
    intro e got s u hw hu hr
    rw [slipTakeEnd_standby hu hr, if_pos hw]
  case takeEndNotWhole =>
    intro e got s u hw hu hr
    rw [slipTakeEnd_standby hu hr, if_neg (ne_true_of_eq_false hw)]
  case takeEndIdle => exact fun e got s h => slipTakeEnd_idle h
  case arrival => exact fun got s => rfl

end Sys2Proof.Machine
end

section
/-! SUPPORT. The SAFETY commands (chapter 8): reports, the parameter set, Lock-out, windows and the tests of safe outputs (R274, R276, R292,
R294, R305 to R312). -/

namespace Sys2Proof.Machine

open Sys2Proof.Claims

/-- Settles O27: SAFETY_STATUS is made of its pieces; CHANGE_LOG_READ is the body of its command. -/
theorem safetyReportsGiveWhatTheTableLists : Obligations.SafetyReportsGiveWhatTheTableLists := by
  refine ⟨reports_of_body cmdSafetyStatus (fun _ _ => rfl) rfl rfl (fun _ _ _ => rfl) fun e t h => ?_,
    answers_of_body cmdChangeLogRead (fun _ _ => rfl) rfl rfl (fun _ _ _ => rfl) fun e t h => ?_⟩
  -- SAFETY_STATUS
  · refine ⟨_, body_of_sized (c := cmdSafetyStatus) rfl (of_decide_eq_true h) t, ?_⟩
    have hr := isReport_flatMap_le [(64, Bytes.field (padTo 64 (flagCopy t)) 0 64), (1, bit t.safety.arming.isSome), (8, paramCrc (params t)),
      (4, if t.safety.activeBad then 0 else t.safety.activeVersion), (8, (t.safety.staged.map paramCrc).getD 0), (4, inputStates t),
      (2, provenMask t), (2, ((List.range 16).map fun i => bit (inputFaulted t i) * 2 ^ i).sum), (1, outputMask (commandedOn t)),
      (1, outputMask (gatePermits t)), (1, outputMask (terminalOn t)), (1, outputMask (outputFaulted t)),
      (1, outputMask fun i => (outputOf t i).overdue), (1, bit (standstill t)), (4, limitInForce t), (1, bit (speedForbids t)),
      (1, intendedDirection t + 128 * bit (directionForbids t)), (1, (t.safety.windows.map fun p => 2 ^ p.1).sum), (4, t.safety.rounds),
      (2, t.safety.fieldVolts)]
    simpa only [fieldsFrom, List.map_cons, List.map_nil, List.sum_cons, List.sum_nil, Nat.reduceAdd, List.flatMap_cons, List.flatMap_nil,
      List.append_nil, List.append_assoc, le_field_padTo, speedForbids, directionForbids] using hr
  -- CHANGE_LOG_READ
  · simp only [Bool.and_eq_true, decide_eq_true_eq] at h
    obtain ⟨⟨hl, h1⟩, h5⟩ := h
    exact (body_of_sized (c := cmdChangeLogRead) rfl hl t).trans (if_neg (by simpa using ⟨Nat.ne_of_gt h1, h5⟩))

/-- Settles O28: each answer is the body of its command under its premise. -/
theorem safetyIsCommanded : Obligations.SafetyIsCommanded := by
  refine ⟨answers_of_body cmdSafetyParamLoad (fun _ _ => rfl) rfl rfl (fun _ _ _ => rfl) fun e t h => ?_,
    answers_of_body cmdSafetyParamActivate (fun _ _ => rfl) rfl rfl (fun _ _ _ => rfl) fun e t h => ?_,
    answers_of_body cmdLockoutEnter (fun _ _ => rfl) rfl rfl (fun _ _ _ => rfl) fun e t h => ?_,
    answers_of_body cmdLockoutReset (fun _ _ => rfl) rfl rfl (fun _ _ _ => rfl) fun e t h => ?_,
    answers_of_body cmdWindowClose (fun _ _ => rfl) rfl rfl (fun _ _ _ => rfl) fun e t h => ?_,
    answers_of_body cmdSafeIoTest (fun _ _ => rfl) rfl rfl (fun _ _ _ => rfl) fun e t h => ?_⟩
  -- SAFETY_PARAM_LOAD
  · obtain ⟨hp, hs⟩ : parameterState t = true ∧ standstill t = true := Bool.and_eq_true_iff.mp h
    refine (if_neg (by simp [hp])).trans ((if_neg (by simp [hs])).trans ?_)
    rfl
  -- SAFETY_PARAM_ACTIVATE
  · simp only [Bool.and_eq_true, Bool.or_eq_true, decide_eq_true_eq, Option.any_eq_true] at h
    obtain ⟨⟨⟨hl, hm⟩, hs⟩, b, hb, hc⟩ := h
    have hp : parameterState t = true := by simpa [parameterState] using hm
    refine (body_of_sized (c := cmdSafetyParamActivate) rfl hl t).trans ?_
    refine (if_neg (by simp [hp])).trans ((if_neg (by simp [hs])).trans ?_)
    simp only [hb, Option.getD_some]
    exact if_neg (by simp [hc])
  -- LOCKOUT_ENTER
  · exact body_of_sized (c := cmdLockoutEnter) rfl (of_decide_eq_true h) t
  -- LOCKOUT_RESET
  · simp only [Bool.and_eq_true, Bool.not_eq_true', decide_eq_true_eq, Option.isNone_iff_eq_none] at h
    obtain ⟨⟨⟨⟨⟨hl, hi⟩, hm⟩, hs⟩, hc⟩, ha⟩ := h
    refine (body_of_sized (c := cmdLockoutReset) rfl hl t).trans ((if_neg (by simp [hi])).trans ((if_neg (by simp [hm])).trans ?_))
    exact (if_neg (by simp [hs])).trans ((if_neg (by simp [hc])).trans (if_neg (by simp [ha])))
  -- WINDOW_CLOSE
  · exact body_of_sized (c := cmdWindowClose) rfl (of_decide_eq_true h) t
  -- SAFE_IO_TEST
  · exact body_of_sized (c := cmdSafeIoTest) rfl (of_decide_eq_true h) t

end Sys2Proof.Machine
end

section
/-! SUPPORT. Gates of safe outputs that are mapped to the window function (R273, R300, R301). -/

namespace Sys2Proof.Machine

/-- A monitor channel that differs on nothing has every state as the channels agree on it. -/
@[simp] theorem viewed_none (n : Nat) (agreed : Bool) : viewed none n agreed = agreed := by simp [viewed, flips]

/-- The gate of an output with the window function is open only while its side permits. -/
theorem sidePermits_of_gateOf {s : State} {i : Nat} (hw : hasBit (outputField (params s) i 2 1) 3 = true) (hg : gateOf s i = true) :
    sidePermits none s (outputField (params s) i 1 1) = true := by
  simp only [gateOf, gateIn, viewed_none, Bool.and_eq_true, hw] at hg
  obtain ⟨-, -, hside⟩ := hg
  simpa using hside

/-- A side permits where it is not 0 and an open window of it permits. -/
theorem sidePermits_none_iff {s : State} {side : Nat} : sidePermits none s side = true ↔
    side ≠ 0 ∧ ∃ p ∈ s.safety.windows, windowField (params s) p.1 1 1 = side ∧ windowPermits none s p.1 p.2 = true := by
  simp only [sidePermits, viewed_none, Bool.and_eq_true, bne_iff_ne, List.any_eq_true, decide_eq_true_eq]

/-- A closed switch pair is commanded by its lane and has its lane's gate open. -/
theorem gates_of_pairOn {s : State} {i : Nat} {l : Lane} (h : pairOn s i l = true) : hasBit (outputOf s i).gates l.num = true := by
  simp only [pairOn, Bool.and_eq_true] at h
  obtain ⟨⟨⟨⟨⟨⟨-, hgate⟩, -⟩, -⟩, -⟩, -⟩, -⟩ := h
  exact hgate

/-- Settles O29: the gate of an output with the window function asks its side, and a switch pair its gate. -/
theorem windowFunctionPermitsOnlyBesideAnOpenWindow : Obligations.WindowFunctionPermitsOnlyBesideAnOpenWindow :=
  ⟨fun _ _ hw hg => sidePermits_none_iff.mp (sidePermits_of_gateOf hw hg), fun _ _ _ h => gates_of_pairOn h⟩

end Sys2Proof.Machine
end

section
/-! SUPPORT. The position tick and the safety functions at their events (R274, R293, R295, R296, R300, R318, R322, R325, R326, R335). -/

namespace Sys2Proof.Machine

/-! ### The arms of the dispatch for these events -/

section
variable (s : State)

theorem exec_positionTick (t : TickSense) : exec (.positionTick t) s = execPositionTick t s := rfl
theorem exec_speedViolationClear : exec .speedViolationClear s = execSpeedViolationClear s := rfl
theorem exec_standstillProven : exec .standstillProven s = execStandstillProven s := rfl
theorem exec_windowOpenTimeExpiry (w : Nat) : exec (.windowOpenTimeExpiry w) s = execWindowOpenTimeExpiry w s := rfl
theorem exec_bridgingLimit : exec .bridgingLimit s = execBridgingLimit s := rfl
theorem exec_axleClean (axle : Nat) : exec (.axleClean axle) s = execAxleClean axle s := rfl

end

section
variable {s : State}

/-! ### The tick -/

theorem positionTick_idle {t : TickSense} (h : s.module.state = .stowed ∨ s.module.state = .halted) : exec (.positionTick t) s = .next s := by
  rcases h with h | h <;> simp only [exec_positionTick, execPositionTick, h]

/-- The position unit after the tick at the next boundary: its values are available 20 µs after it. -/
def unitTicked (t : TickSense) (s : State) : State :=
  signalPosition s.pos.state (reachLocal (nextTick s + 20 * usUnit) (modPos (unitTick (nextTick s) (s.module.state = .booting) t)
    (modPos (fun p => { p with tickAt := s.time }) (reachLocal (nextTick s) s))))

/-- An internal fault of the position unit that a tick found is recorded. -/
def unitFaultRecorded (latched : Bool) (s : State) : State :=
  if s.pos.internalFault && !latched then record .juridical 9 0 (le 1 1 ++ leInt 8 s.pos.counter) s else s

/-- What follows from the unit's values at a boundary: marks, cues, outputs, functions, monitor comparison and gates. -/
def tickFollows (t : TickSense) (boundary : Nat) (before : Int) (s : State) : State :=
  evaluateGates (monitorTick t.monitorDiffers (functionsTick (outputsTick t.backFed (cueTick boundary before s.pos.counter (waitingTick s)))))

theorem positionTick_runs {t : TickSense} (hs : s.module.state ≠ .stowed) (hh : s.module.state ≠ .halted) : exec (.positionTick t) s = .next
    (tickFollows t (nextTick s) s.pos.counter (unitFaultRecorded s.pos.internalFault (unitTicked t s))) := by
  rw [exec_positionTick, execPositionTick]
  split
  next h => exact absurd h hs
  next h => exact absurd h hh
  next => rfl

/-! ### Speed, standstill and windows (R295, R296, R300) -/

theorem speedViolationClear_clears {t : Nat} (ht : s.safety.speedClearFrom = some t) (hv : s.safety.speedViolated = true)
    (hp : positionInvalid s = false) :
    exec .speedViolationClear s = .next (evaluateGates (setSpeedViolated false (reach (t + second 1) s))) := by
  simp only [exec_speedViolationClear, execSpeedViolationClear, ht]
  exact if_pos (by simp [hv, hp])

theorem speedViolationClear_idle (h : s.safety.speedClearFrom = none ∨ s.safety.speedViolated = false ∨ positionInvalid s = true) :
    exec .speedViolationClear s = .next s := by
  rw [exec_speedViolationClear, execSpeedViolationClear]
  split
  next t ht => exact if_neg (by rcases h.resolve_left (by simp [ht]) with h | h <;> simp [h])
  next => rfl

theorem standstillProven_proves {t : Nat} (ht : s.safety.stillFrom = some t) (hs : s.safety.standstill = false)
    (hp : positionInvalid s = false) : exec .standstillProven s = .next (evaluateGates (proveStandstill (reach (t + second 1) s))) := by
  simp only [exec_standstillProven, execStandstillProven, ht]
  exact if_neg (by simp [hs, hp])

theorem standstillProven_idle (h : s.safety.stillFrom = none ∨ s.safety.standstill = true ∨ positionInvalid s = true) :
    exec .standstillProven s = .next s := by
  rw [exec_standstillProven, execStandstillProven]
  split
  next t ht => exact if_pos (by rcases h.resolve_left (by simp [ht]) with h | h <;> simp [h])
  next => rfl

section
variable {w : Nat}

theorem windowOpenTimeExpiry_closed (h : Tbl.find s.safety.windows w = none) : exec (.windowOpenTimeExpiry w) s = .next s := by
  simp only [exec_windowOpenTimeExpiry, execWindowOpenTimeExpiry, h]

variable {x : Window} (h : Tbl.find s.safety.windows w = some x)
include h

theorem windowOpenTimeExpiry_closes (hl : windowField (params s) w 8 2 ≠ 0) : exec (.windowOpenTimeExpiry w) s = .next
    (evaluateGates (closeWindow w (reach (x.since + second (windowField (params s) w 8 2)) s))) := by
  simp only [exec_windowOpenTimeExpiry, execWindowOpenTimeExpiry, h, if_neg hl]

theorem windowOpenTimeExpiry_unlimited (hl : windowField (params s) w 8 2 = 0) : exec (.windowOpenTimeExpiry w) s = .next s := by
  simp only [exec_windowOpenTimeExpiry, execWindowOpenTimeExpiry, h, if_pos hl]

end

/-! ### Bridging, axles and time cues (R318, R325, R335) -/

/-- Bridging that has lasted for 5 s makes a fusion channel Invalid until it ends. -/
def bridgedTooLong (x : Fusion) : Fusion :=
  if x.bridging.any fun g => 50000 ≤ g.total then { x with bridging := x.bridging.map fun g => { g with tooLong := true }, state := .invalid } else x

/-- Both fusion channels at the limit of bridging. -/
def bridgingMarked (s : State) : State :=
  modPos (fun p => { p with channel1 := bridgedTooLong p.channel1, channel2 := bridgedTooLong p.channel2 }) s

theorem bridgingLimit_invalid (h : (s.pos.channel1.bridging.any fun g => 50000 ≤ g.total) = true) : exec .bridgingLimit s = .next
    (evaluateGates (functionsTick (signalPosition s.pos.state (modPos (fun p => { p with state := .invalid }) (bridgingMarked s))))) := if_pos h

theorem bridgingLimit_notReached (h : (s.pos.channel1.bridging.any fun g => 50000 ≤ g.total) = false) :
    exec .bridgingLimit s = .next (bridgingMarked s) := if_neg (ne_true_of_eq_false h)

/-- A change of the position unit is what it does to the unit as it stands. -/
theorem modPos_congr {f g : PosSt → PosSt} (h : f s.pos = g s.pos) : modPos f s = modPos g s := by simp only [modPos, h]

section
variable {axle : Nat}

theorem axleClean_first (ha : axle = 1) (hc : 10000 ≤ s.pos.fault1.clean) :
    exec (.axleClean axle) s = .next (modPos (fun p => { p with fault1 := { p.fault1 with faulted := false } }) s) :=
  congrArg Host.Outcome.next (modPos_congr (by simp only [ha, hc, if_true]))

theorem axleClean_first_early (ha : axle = 1) (hc : s.pos.fault1.clean < 10000) : exec (.axleClean axle) s = .next s :=
  congrArg Host.Outcome.next (modPos_congr (g := id) (by simp only [ha, hc.not_ge, if_true, if_false, id_eq]))

theorem axleClean_second (ha : axle ≠ 1) (hc : 10000 ≤ s.pos.fault2.clean) :
    exec (.axleClean axle) s = .next (modPos (fun p => { p with fault2 := { p.fault2 with faulted := false } }) s) :=
  congrArg Host.Outcome.next (modPos_congr (by simp only [ha, hc, if_true, if_false]))

theorem axleClean_second_early (ha : axle ≠ 1) (hc : s.pos.fault2.clean < 10000) : exec (.axleClean axle) s = .next s :=
  congrArg Host.Outcome.next (modPos_congr (g := id) (by simp only [ha, hc.not_ge, if_false, id_eq]))

end

section
variable {n : Nat}

theorem timeCue_passes (ha : (cueOf s n).awaits 1 = true) (hw : (cueOf s n).windowDue = false) :
    exec (.timeCue n) s = .next (timeCuePasses n (reachLocal (cueOf s n).instant s)) := if_pos (by simp [ha, hw])

theorem timeCue_idle (h : (cueOf s n).awaits 1 = false ∨ (cueOf s n).windowDue = true) : exec (.timeCue n) s = .next s :=
  if_neg (by rcases h with h | h <;> simp [h])

end

end

end Sys2Proof.Machine
end

section
/-! SUPPORT. Safe inputs, safe outputs and the field supply at their events (R275 to R281, R287 to R291). -/

namespace Sys2Proof.Machine

/-! ### The arms of the dispatch for these events -/

section
variable (s : State)

theorem exec_pairDiscrepancyFault (k : Nat) : exec (.pairDiscrepancyFault k) s = execPairDiscrepancyFault k s := rfl
theorem exec_outputTimeout (i : Nat) : exec (.outputTimeout i) s = execOutputTimeout i s := rfl

end

/-! ### Without sampled inputs nothing is seen -/

section
variable {s : State} (h : inputsSampled s = false)
include h

theorem safeInputChange_unsampled (i : Nat) (volts : PathVolts) : exec (.safeInputChange i volts) s = .next s := if_pos (by simp [h])
theorem inputPathFault_unsampled (i : Nat) : exec (.inputPathFault i) s = .next s := if_neg (by simp [h])
theorem inputPathTest_unsampled (i path : Nat) (shown : Bool) : exec (.inputPathTest i path shown) s = .next s := if_pos (by simp [h])
theorem parameterCrcCheck_unsampled (channel : Lane) (crc : Word64) : exec (.parameterCrcCheck channel crc) s = .next s := if_pos (by simp [h])

end

/-! ### Safe inputs (R276 to R281) -/

/-- What a path reads of a voltage: closed from 0.6 Un, open up to 0.3 Un, as before between them (Table 8.1). -/
theorem pathReads_thresholds {un : Nat} (mv : Nat) (previous : Bool) (hu : 0 < un) :
    (600 * un ≤ mv → pathReads un mv previous = true) ∧ (mv ≤ 300 * un → pathReads un mv previous = false) ∧
      (300 * un < mv → mv < 600 * un → pathReads un mv previous = previous) := by
  refine ⟨fun h => ?closed, fun h => ?opened, fun hl hh => ?between⟩
  case closed => simp [pathReads, h]
  case opened =>
    have hh : ¬600 * un ≤ mv := by omega
    simp [pathReads, h.not_gt, hh]
  case between => simp [pathReads, hl, hh.not_ge]

section
variable {s : State} (h : inputsSampled s = true)
include h

theorem safeInputChange_sampled (i mv0 mv1 : Nat) {u : State} (hu : u = readPaths i mv0 mv1 s) : exec (.safeInputChange i ⟨mv0, mv1⟩) s =
    .next (if (inputOf u i).path0 = (inputOf u i).path1 then changeInput i (inputOf u i).path0 u else u) := by
  subst hu
  refine (if_neg (by simp [h])).trans ?_
  simp only [beq_iff_eq]

theorem inputPathFault_sampled (i : Nat) : exec (.inputPathFault i) s = .next (internalFault 0x12 (i + 256 * 0xFF) s) := if_pos h

theorem inputPathTest_shown (i path : Nat) : exec (.inputPathTest i path true) s =
    .next (faultsGone (fun f => f = (0x12, i + 256 * path) || f = (0x12, i + 256 * 0xFF)) s) := (if_neg (by simp [h])).trans (if_pos rfl)

theorem inputPathTest_notShown (i path : Nat) : exec (.inputPathTest i path false) s = .next (internalFault 0x12 (i + 256 * path) s) :=
  (if_neg (by simp [h])).trans (if_neg Bool.false_ne_true)

theorem parameterCrcCheck_agrees {channel : Lane} {crc : Word64} (hc : crc.toNat = paramCrc (params s)) :
    exec (.parameterCrcCheck channel crc) s = .next (faultsGone (fun f => f = (0x15, channel.num)) s) :=
  (if_neg (by simp [h])).trans (if_pos hc)

theorem parameterCrcCheck_differs {channel : Lane} {crc : Word64} (hc : crc.toNat ≠ paramCrc (params s)) :
    exec (.parameterCrcCheck channel crc) s = .next (internalFault 0x15 channel.num s) := (if_neg (by simp [h])).trans (if_neg hc)

end

section
variable {source : Nat} {readings : List PulseReading} {s : State}

theorem testPulse_idle {ok : Bool} (h : s.safety.testPulses = false) : exec (.testPulse source readings ok) s = .next s := if_pos (by simp [h])

/-- The state at the last reading of a source's dark pulse. -/
def pulseSent (source : Nat) (s : State) : State :=
  reachLocal (pulseStart s source + 450 * usUnit)
    (modSafety (fun x => { x with pulsed := Tbl.put x.pulsed source (pulseStart s source) }) (emit (.darkPulse source) s))

variable (h : s.safety.testPulses = true)
include h

theorem testPulse_sound : exec (.testPulse source readings true) s =
    .next (readings.foldl (fun t r => pulseRead source r t) (faultsGone (fun f => f = (0x14, source)) (pulseSent source s))) :=
  (if_neg (by simp [h])).trans (if_pos rfl)

theorem testPulse_faulty : exec (.testPulse source readings false) s = .next (internalFault 0x14 source (pulseSent source s)) :=
  (if_neg (by simp [h])).trans (if_neg Bool.false_ne_true)

end

theorem pairDiscrepancyFault_faults {k t first : Nat} {s : State} (hf : pairFirst s (2 * k) = some first)
    (hd : (inputOf s (2 * k)).discrepantSince = some t) : exec (.pairDiscrepancyFault k) s =
      .next (faultInput (2 * k) (reach (t + milli (inputField (params s) (2 * k) 6 2)) s)) := by
  simp only [exec_pairDiscrepancyFault, execPairDiscrepancyFault, hf, hd]

theorem pairDiscrepancyFault_idle {k : Nat} {s : State} (hd : (inputOf s (2 * k)).discrepantSince = none) :
    exec (.pairDiscrepancyFault k) s = .next s := by
  rw [exec_pairDiscrepancyFault, execPairDiscrepancyFault]
  split
  next ht => simp [hd] at ht
  next => rfl

/-! ### Safe outputs (R287 to R290) -/

section
variable {i : Nat} {s : State}

theorem outputTimeout_expires {t : Nat} (hr : (outputOf s i).releasedAt = some t) (ht : (outputOf s i).timedOut = false) :
    exec (.outputTimeout i) s = .next (modOutput i (fun o => { o with timedOut := true }) (reach (t + outputTimeout s i) s)) := by
  simp only [exec_outputTimeout, execOutputTimeout, hr, ht, Bool.false_eq_true, if_false]

theorem outputTimeout_idle (h : (outputOf s i).releasedAt = none ∨ (outputOf s i).timedOut = true) :
    exec (.outputTimeout i) s = .next s := by
  rw [exec_outputTimeout, execOutputTimeout]
  split
  next t ht => exact if_pos (h.resolve_left (by simp [ht]))
  next => rfl

theorem overcurrentTrip_trips (h : terminalOn s i = true) :
    exec (.overcurrentTrip i) s = .next (modOutput i (fun o => { o with tripped := true }) s) := if_pos h

theorem overcurrentTrip_off (h : terminalOn s i = false) : exec (.overcurrentTrip i) s = .next s := if_neg (ne_true_of_eq_false h)

theorem backFeedFault_fed (hs : inputsSampled s = true) (ho : Lane.all.any (pairOn s i) = false) :
    exec (.backFeedFault i) s = .next (modOutput i (fun o => { o with backFed := true, unfedSince := none }) s) := if_pos (by simp [hs, ho])

theorem backFeedFault_closed (h : Lane.all.any (pairOn s i) = true) : exec (.backFeedFault i) s = .next s := if_neg (by simp [h])

/-- A switch of an output is tested while the inputs are sampled, the output is enabled and the field supply stands. -/
theorem switchTest_idle {w : Nat} {passed sense : Bool}
    (h : inputsSampled s = false ∨ outputEnabled s i = false ∨ s.safety.fieldLow = true) :
    exec (.switchTest i w passed sense) s = .next s := if_pos (by rcases h with h | h | h <;> simp [h])

/-- An output after the passed test of a switch: tested now, in this round, and overdue no longer unless another switch is. -/
def switchPassed (i w : Nat) (s : State) : State :=
  let u := modOutput i (fun o => { o with tested := Tbl.put o.tested w s.time, roundMask := o.roundMask ||| 2 ^ w }) s
  modOutput i (fun o => { o with overdue := o.overdue && oldestTest u o + day ≤ u.time }) u

section
variable {w : Nat} (hs : inputsSampled s = true) (he : outputEnabled s i = true) (hf : s.safety.fieldLow = false)
include hs he hf

theorem switchTest_runs : ¬(!inputsSampled s || !outputEnabled s i || s.safety.fieldLow) = true := by simp [hs, he, hf]

theorem switchTest_noSense {passed : Bool} :
    exec (.switchTest i w passed false) s = .next (internalFault 0x11 i (endIoTests stOk 1 s)) :=
  (if_neg (switchTest_runs hs he hf)).trans (if_pos rfl)

theorem switchTest_deferred {passed : Bool} (ht : switchTestable s i w = false) :
    exec (.switchTest i w passed true) s = .next (endIoTests stDeferred 0 s) :=
  (if_neg (switchTest_runs hs he hf)).trans ((if_neg (by simp)).trans (if_pos (by simp [ht])))

variable (ht : switchTestable s i w = true)
include ht

theorem switchTest_fails : exec (.switchTest i w false true) s = .next (internalFault 0x10 (i + 256 * w) (endIoTests stOk 1 s)) :=
  (if_neg (switchTest_runs hs he hf)).trans ((if_neg (by simp)).trans ((if_neg (by simp [ht])).trans (if_pos rfl)))

theorem switchTest_passes : exec (.switchTest i w true true) s =
    .next (roundStep (switchPassed i w (faultsGone (fun f => f = (0x11, i) || f = (0x10, i + 256 * w)) s))) :=
  (if_neg (switchTest_runs hs he hf)).trans ((if_neg (by simp)).trans ((if_neg (by simp [ht])).trans (if_neg (by simp))))

end

theorem switchTestOverdue_marks (hs : inputsSampled s = true) (he : outputEnabled s i = true) (ho : (outputOf s i).overdue = false) :
    exec (.switchTestOverdue i) s = .next
      (recordFunction 4 (le 1 i) (modOutput i (fun o => { o with overdue := true }) (reach (oldestTest s (outputOf s i) + day) s))) :=
  if_neg (by simp [hs, he, ho])

theorem switchTestOverdue_idle (h : inputsSampled s = false ∨ outputEnabled s i = false ∨ (outputOf s i).overdue = true) :
    exec (.switchTestOverdue i) s = .next s := if_pos (by rcases h with h | h | h <;> simp [h])

end

/-! ### The field supply (R291) -/

section
variable {volts : Nat} {s : State}

theorem fieldSupplyLow_idle (h : inputsSampled s = false ∨ fieldBelow s volts = false) : exec (.fieldSupplyLow volts) s = .next s :=
  if_neg (by rcases h with h | h <;> simp [h])

theorem fieldSupplyReturn_idle (h : inputsSampled s = false ∨ fieldBelow s volts = true) : exec (.fieldSupplyReturn volts) s = .next s :=
  if_neg (by rcases h with h | h <;> simp [h])

variable (hs : inputsSampled s = true)
include hs

theorem fieldSupplyReturn_seen (hb : fieldBelow s volts = false) : exec (.fieldSupplyReturn volts) s = .next (seeField volts false s) :=
  if_pos (by simp [hs, hb])

variable (hb : fieldBelow s volts = true)
include hb

theorem fieldSupplyLow_begins (hf : s.safety.fieldLow = false) :
    exec (.fieldSupplyLow volts) s = .next (recordFunction 5 (le 2 volts) (seeField volts true s)) :=
  (if_pos (by simp [hs, hb])).trans (congrArg Host.Outcome.next (if_neg (ne_true_of_eq_false hf)))

theorem fieldSupplyLow_goesOn (hf : s.safety.fieldLow = true) : exec (.fieldSupplyLow volts) s = .next (seeField volts true s) :=
  (if_pos (by simp [hs, hb])).trans (congrArg Host.Outcome.next (if_pos hf))

end

end Sys2Proof.Machine
end

section
/-! SUPPORT. The reset key (R311), and with it the events of chapters 8 and 9. -/

namespace Sys2Proof.Machine

section
variable (s : State)

theorem exec_resetKeyChange (a b : Bool) : exec (.resetKeyChange a b) s = execResetKeyChange a b s := rfl
theorem exec_resetKeyHoldLimit : exec .resetKeyHoldLimit s = execResetKeyHoldLimit s := rfl
theorem exec_resetKeyDiscrepancy : exec .resetKeyDiscrepancy s = execResetKeyDiscrepancy s := rfl
theorem exec_resetKeyArmingTimeout : exec .resetKeyArmingTimeout s = execResetKeyArmingTimeout s := rfl

end

/-- The key's contacts moved: since when they disagree, and since when both are closed. -/
def keyMoved (a b : Bool) (s : State) : State :=
  modSafety (fun x => { x with
    keyA := a, keyB := b
    keyDiscrepantSince := if a == b then none else some (x.keyDiscrepantSince.getD s.time)
    keyClosedAt := if a && b then (if keyClosed s then x.keyClosedAt else some s.time) else none }) s

section
variable {a b : Bool} {s : State}

/-- A change of the safety block is what it does to the block as it stands. -/
theorem modSafety_congr {f g : SafetySt → SafetySt} (h : f s.safety = g s.safety) : modSafety f s = modSafety g s := by simp only [modSafety, h]

theorem resetKeyChange_unsampled (h : inputsSampled s = false) : exec (.resetKeyChange a b) s = .next s := if_pos (by simp [h])

section
variable (hs : inputsSampled s = true)
include hs

theorem resetKeyChange_opens {t : Nat} (hc : keyClosed s = true) (ho : (a && b) = false) (ht : s.safety.keyClosedAt = some t) :
    exec (.resetKeyChange a b) s = .next (keyOpens t (keyMoved a b s)) := by
  refine (if_neg (by simp [hs])).trans ?_
  split
  next ht' =>
    cases ht.symm.trans ht'
    exact congrArg (fun u => Host.Outcome.next (keyOpens t u)) (modSafety_congr (by cases s.safety.keyDiscrepantSince <;> rfl))
  next hno =>
    have hopened : (keyClosed s && !(a && b)) = true := by simp [hc, ho]
    exact (hno t hopened ht).elim

theorem resetKeyChange_moves (h : keyClosed s = false ∨ (a && b) = true ∨ s.safety.keyClosedAt = none) :
    exec (.resetKeyChange a b) s = .next (keyMoved a b s) := by
  refine (if_neg (by simp [hs])).trans ?_
  split
  next t hc ht =>
    have hopened : (keyClosed s && !(a && b)) = true := hc
    rcases h with h | h | h <;> simp [h] at hopened ht
  next => exact congrArg Host.Outcome.next (modSafety_congr (by cases s.safety.keyDiscrepantSince <;> rfl))

end

section
variable (h : s.safety.arming = none)
include h

theorem resetKeyHoldLimit_unarmed : exec .resetKeyHoldLimit s = .next s := by
  simp only [exec_resetKeyHoldLimit, execResetKeyHoldLimit, h]

theorem resetKeyDiscrepancy_unarmed : exec .resetKeyDiscrepancy s = .next s := by
  simp only [exec_resetKeyDiscrepancy, execResetKeyDiscrepancy, h]

theorem resetKeyArmingTimeout_unarmed : exec .resetKeyArmingTimeout s = .next s := by
  simp only [exec_resetKeyArmingTimeout, execResetKeyArmingTimeout, h]

end

section
variable {g : Arming} {t : Nat} (h : s.safety.arming = some g)
include h

theorem resetKeyArmingTimeout_ends : exec .resetKeyArmingTimeout s = .next (endArming 0x0611 (reach (g.since + second 60) s)) := by
  simp only [exec_resetKeyArmingTimeout, execResetKeyArmingTimeout, h]

theorem resetKeyDiscrepancy_ends (ht : s.safety.keyDiscrepantSince = some t) :
    exec .resetKeyDiscrepancy s = .next (endArming 0x0612 (reach (t + milli 100) s)) := by
  simp only [exec_resetKeyDiscrepancy, execResetKeyDiscrepancy, h, ht]

theorem resetKeyHoldLimit_ends (ht : s.safety.keyClosedAt = some t) (ho : g.mustOpen = false) :
    exec .resetKeyHoldLimit s = .next (endArming 0x0612 (reach (t + second 10) s)) := by
  simp only [exec_resetKeyHoldLimit, execResetKeyHoldLimit, h, ht, ho, Bool.false_eq_true, if_false]

theorem resetKeyHoldLimit_mustOpen (ht : s.safety.keyClosedAt = some t) (ho : g.mustOpen = true) :
    exec .resetKeyHoldLimit s = .next s := by
  simp only [exec_resetKeyHoldLimit, execResetKeyHoldLimit, h, ht, ho, if_true]

end

end

/-- Settles O56: each event in its cases. -/
theorem positionAndSafeIoFollowTheirEvents : Obligations.PositionAndSafeIoFollowTheirEvents := by
  refine ⟨?tick, ?tickIdle, ?speedClears, ?speedIdle, ?standstill, ?standstillIdle, ?windowCloses, ?windowUnlimited, ?windowClosed, ?bridging,
    ?bridgingNotReached, ?firstAxle, ?firstAxleEarly, ?secondAxle, ?secondAxleEarly, ?cue, ?cueIdle, ?inputChange, ?thresholds, ?pathFault,
    ?pathShown, ?pathNotShown, ?pulse, ?pulseFaulty, ?pulseIdle, ?discrepancy, ?discrepancyIdle, ?timeout, ?timeoutIdle, ?trip, ?tripOff,
    ?backFeed, ?backFeedClosed, ?noSense, ?deferred, ?switchFails, ?switchPasses, ?switchIdle, ?overdue, ?overdueIdle, ?crcAgrees, ?crcDiffers,
    ?changeUnsampled, ?faultUnsampled, ?testUnsampled, ?crcUnsampled, ?fieldLow, ?fieldStillLow, ?fieldNotLow, ?fieldReturns, ?fieldNotBack,
    ?keyOpens, ?keyMoves, ?keyUnsampled, ?holdLimit, ?holdMustOpen, ?keyDiscrepancy, ?armingTimeout, ?holdUnarmed, ?discrepancyUnarmed,
    ?timeoutUnarmed⟩
  case tick => exact fun t s hs hh => positionTick_runs hs hh
  case tickIdle => exact fun t s h => positionTick_idle h
  case speedClears => exact fun t s ht hv hp => speedViolationClear_clears ht hv hp
  case speedIdle => exact fun s h => speedViolationClear_idle h
  case standstill => exact fun t s ht hs hp => standstillProven_proves ht hs hp
  case standstillIdle => exact fun s h => standstillProven_idle h
  case windowCloses => exact fun w x s h hl => windowOpenTimeExpiry_closes h hl
  case windowUnlimited => exact fun w x s h hl => windowOpenTimeExpiry_unlimited h hl
  case windowClosed => exact fun w s h => windowOpenTimeExpiry_closed h
  case bridging => exact fun s h => bridgingLimit_invalid h
  case bridgingNotReached => exact fun s h => bridgingLimit_notReached h
  case firstAxle => exact fun axle s ha hc => axleClean_first ha hc
  case firstAxleEarly => exact fun axle s ha hc => axleClean_first_early ha hc
  case secondAxle => exact fun axle s ha hc => axleClean_second ha hc
  case secondAxleEarly => exact fun axle s ha hc => axleClean_second_early ha hc
  case cue => exact fun n s ha hw => timeCue_passes ha hw
  case cueIdle => exact fun n s h => timeCue_idle h
  case inputChange => exact fun i mv0 mv1 s h => safeInputChange_sampled h i mv0 mv1 rfl
  case thresholds => exact fun un mv previous hu => pathReads_thresholds mv previous hu
  case pathFault => exact fun i s h => inputPathFault_sampled h i
  case pathShown => exact fun i path s h => inputPathTest_shown h i path
  case pathNotShown => exact fun i path s h => inputPathTest_notShown h i path
  case pulse => exact fun source readings s h => testPulse_sound h
  case pulseFaulty => exact fun source readings s h => testPulse_faulty h
  case pulseIdle => exact fun source readings ok s h => testPulse_idle h
  case discrepancy => exact fun k t first s hf hd => pairDiscrepancyFault_faults hf hd
  case discrepancyIdle => exact fun k s hd => pairDiscrepancyFault_idle hd
  case timeout => exact fun i t s hr ht => outputTimeout_expires hr ht
  case timeoutIdle => exact fun i s h => outputTimeout_idle h
  case trip => exact fun i s h => overcurrentTrip_trips h
  case tripOff => exact fun i s h => overcurrentTrip_off h
  case backFeed => exact fun i s hs ho => backFeedFault_fed hs ho
  case backFeedClosed => exact fun i s h => backFeedFault_closed h
  case noSense => exact fun i w passed s hs he hf => switchTest_noSense hs he hf
  case deferred => exact fun i w passed s hs he hf ht => switchTest_deferred hs he hf ht
  case switchFails => exact fun i w s hs he hf ht => switchTest_fails hs he hf ht
  case switchPasses => exact fun i w s hs he hf ht => switchTest_passes hs he hf ht
  case switchIdle => exact fun i w passed sense s h => switchTest_idle h
  case overdue => exact fun i s hs he ho => switchTestOverdue_marks hs he ho
  case overdueIdle => exact fun i s h => switchTestOverdue_idle h
  case crcAgrees => exact fun channel crc s h hc => parameterCrcCheck_agrees h hc
  case crcDiffers => exact fun channel crc s h hc => parameterCrcCheck_differs h hc
  case changeUnsampled => exact fun i mv0 mv1 s h => safeInputChange_unsampled h i ⟨mv0, mv1⟩
  case faultUnsampled => exact fun i s h => inputPathFault_unsampled h i
  case testUnsampled => exact fun i path shown s h => inputPathTest_unsampled h i path shown
  case crcUnsampled => exact fun channel crc s h => parameterCrcCheck_unsampled h channel crc
  case fieldLow => exact fun volts s hs hb hf => fieldSupplyLow_begins hs hb hf
  case fieldStillLow => exact fun volts s hs hb hf => fieldSupplyLow_goesOn hs hb hf
  case fieldNotLow => exact fun volts s h => fieldSupplyLow_idle h
  case fieldReturns => exact fun volts s hs hb => fieldSupplyReturn_seen hs hb
  case fieldNotBack => exact fun volts s h => fieldSupplyReturn_idle h
  case keyOpens => exact fun a b t s hs hc ho ht => resetKeyChange_opens hs hc ho ht
  case keyMoves => exact fun a b s hs h => resetKeyChange_moves hs h
  case keyUnsampled => exact fun a b s h => resetKeyChange_unsampled h
  case holdLimit => exact fun g t s h ht ho => resetKeyHoldLimit_ends h ht ho
  case holdMustOpen => exact fun g t s h ht ho => resetKeyHoldLimit_mustOpen h ht ho
  case keyDiscrepancy => exact fun g t s h ht => resetKeyDiscrepancy_ends h ht
  case armingTimeout => exact fun g s h => resetKeyArmingTimeout_ends h
  case holdUnarmed => exact fun s h => resetKeyHoldLimit_unarmed h
  case discrepancyUnarmed => exact fun s h => resetKeyDiscrepancy_unarmed h
  case timeoutUnarmed => exact fun s h => resetKeyArmingTimeout_unarmed h

end Sys2Proof.Machine
end

section
/-! SUPPORT. The POSITION commands (Table 9.11): reports, configuration, marks and cues (R317, R320, R330, R337, R340, R343). -/

namespace Sys2Proof.Machine

open Sys2Proof.Claims

/-- Settles O30: POSITION_STATUS and POSITION_COUNTERS are made of their pieces; the others are the bodies of their commands. -/
theorem positionReportsGiveWhatTheTableLists : Obligations.PositionReportsGiveWhatTheTableLists := by
  refine ⟨reports_of_body cmdPositionStatus (fun _ _ => rfl) rfl rfl (fun _ _ _ => rfl) fun e t h => ?_,
    answers_of_body cmdPositionAt (fun _ _ => rfl) rfl rfl (fun _ _ _ => rfl) fun e t h => ?_,
    answers_of_body cmdCueStatus (fun _ _ => rfl) rfl rfl (fun _ _ _ => rfl) fun e t h => ?_,
    reports_of_body cmdPositionCounters (fun _ _ => rfl) rfl rfl (fun _ _ _ => rfl) fun e t h => ?_⟩
  -- POSITION_STATUS
  · refine ⟨_, body_of_sized (c := cmdPositionStatus) rfl (of_decide_eq_true h) t, ?_⟩
    have hr := isReport_flatMap_le [(1, t.pos.state.code), (8, (t.pos.counter % 2 ^ 64).toNat), (4, (t.pos.speed % 2 ^ 32).toNat),
      (4, t.pos.confidence), (1, axleBits t.pos.fault1 t.pos.channel1.axle1 + 8 * axleBits t.pos.fault2 t.pos.channel1.axle2),
      (1, bit t.pos.acc1Faulted + 2 * bit t.pos.acc2Faulted), (1, bit t.pos.channel1.bridging.isSome),
      (4, (t.pos.channel1.bridging.map fun g => g.total / 10).getD 0), (4, ceilMm t.pos.channel1.b.toNat),
      (2, (floorDiv t.pos.channel1.beta 65536 % 2 ^ 16).toNat), (4, t.pos.kappaPpm), (1, bit t.pos.calibrated),
      (8, (t.pos.anchor % 2 ^ 64).toNat), (8, t.pos.anchorTai), (1, bit t.pos.internalFault), (8, crc64 t.pos.config.bytes)]
    simpa [fieldsFrom, leInt] using hr
  -- POSITION_AT
  · simp only [Bool.and_eq_true, decide_eq_true_eq] at h
    obtain ⟨⟨⟨hl, hn⟩, hr⟩, -⟩ := h
    exact (body_of_sized (c := cmdPositionAt) rfl hl t).trans ((if_neg hn.not_ge).trans (if_neg (by simp [hr])))
  -- CUE_STATUS
  · simp only [Bool.and_eq_true, decide_eq_true_eq] at h
    obtain ⟨⟨hl, h1⟩, hm⟩ := h
    refine (body_of_sized (c := cmdCueStatus) rfl hl t).trans (if_neg ?_)
    simp only [Bool.or_eq_true, decide_eq_true_eq]
    omega
  -- POSITION_COUNTERS
  · refine ⟨_, body_of_sized (c := cmdPositionCounters) rfl (of_decide_eq_true h) t, ?_⟩
    have hr := isReport_flatMap_le [(4, t.pos.slip1), (4, t.pos.slip2), (4, t.pos.slide1), (4, t.pos.slide2), (4, t.pos.bridgings),
      (4, t.pos.longestBridging), (4, t.pos.axleFaults1), (4, t.pos.axleFaults2), (4, t.pos.accFaults1), (4, t.pos.accFaults2),
      (4, t.pos.marksAccepted), (4, t.pos.marksRejected), (4, t.pos.cueFirings), (4, t.pos.cueMisses), (4, t.pos.requestsDropped)]
    simpa [fieldsFrom] using hr

/-- Settles O31: each answer is the body of its command under its premise. -/
theorem positionAndCuesAreCommanded : Obligations.PositionAndCuesAreCommanded := by
  refine ⟨answers_of_body cmdPositionConfigure (fun _ _ => rfl) rfl rfl (fun _ _ _ => rfl) fun e t h => ?_,
    answers_of_body cmdPositionMark (fun _ _ => rfl) rfl rfl (fun _ _ _ => rfl) fun e t h => ?_,
    answers_of_body cmdCueControl (fun _ _ => rfl) rfl rfl (fun _ _ _ => rfl) fun e t h => ?_⟩
  -- POSITION_CONFIGURE
  · simp only [Bool.and_eq_true, decide_eq_true_eq] at h
    obtain ⟨⟨⟨⟨⟨hl, hz⟩, hsense⟩, haxis⟩, hm⟩, hs⟩ := h
    refine (body_of_sized (c := cmdPositionConfigure) rfl hl t).trans ?_
    refine (if_neg (by simp [Entry.clear, hz, hsense.not_ge, haxis.not_ge])).trans ((if_neg (by simp [hm])).trans ?_)
    exact if_neg (by simp [hs])
  -- POSITION_MARK
  · simp only [Bool.and_eq_true, decide_eq_true_eq] at h
    obtain ⟨⟨⟨⟨hl, hn⟩, hf⟩, hz⟩, ht⟩ := h
    exact (body_of_sized (c := cmdPositionMark) rfl hl t).trans (if_neg (by simp [Entry.clear, hn.not_ge, hf.not_gt, hz, ht.not_gt]))
  -- CUE_CONTROL
  · simp only [Bool.and_eq_true, decide_eq_true_eq] at h
    obtain ⟨hl, he⟩ := h
    refine (body_of_sized (c := cmdCueControl) rfl hl t).trans ((if_neg he.not_gt).trans ?_)
    by_cases hd : e.field 1 1 = 0
    · simp only [hd, if_true]
    · simp only [hd, if_false]

end Sys2Proof.Machine
end

section
/-! SUPPORT. The SIGNAL commands (Table 10.6): reports, configuration, banks, dissolves, inputs and control (R346, R348, R353, R355, R356,
R364). -/

namespace Sys2Proof.Machine

open Sys2Proof.Claims

/-- A command of an enabled channel goes on. -/
theorem onEnabled_of_enabled {c : Nat} {f : State → State × Reply} {s : State} (hc : c < 128) (he : (chanOf s c).enabled = true) :
    onEnabled c f s = f s :=
  (if_neg hc.not_ge).trans (if_neg (by simp [he]))

/-- Settles O32: SIGNAL_STATUS is the body of its command, and SIGNAL_COUNTERS is made of its pieces. -/
theorem signalReportsGiveWhatTheTableLists : Obligations.SignalReportsGiveWhatTheTableLists := by
  refine ⟨answers_of_body cmdSignalStatus (fun _ _ => rfl) rfl rfl (fun _ _ _ => rfl) fun e t h => ?_,
    reports_of_body cmdSignalCounters (fun _ _ => rfl) rfl rfl (fun _ _ _ => rfl) fun e t h => ?_⟩
  -- SIGNAL_STATUS
  · simp only [Bool.and_eq_true, decide_eq_true_eq] at h
    obtain ⟨⟨hl, h1⟩, hm⟩ := h
    refine (body_of_sized (c := cmdSignalStatus) rfl hl t).trans (if_neg ?_)
    simp only [Bool.or_eq_true, decide_eq_true_eq]
    omega
  -- SIGNAL_COUNTERS
  · simp only [Bool.and_eq_true, decide_eq_true_eq] at h
    obtain ⟨hl, hc⟩ := h
    refine ⟨_, (body_of_sized (c := cmdSignalCounters) rfl hl t).trans (if_neg hc.not_ge), ?_⟩
    have hr := fun x : FilterChannel => isReport_flatMap_le [(8, x.framesTaken), (4, x.framesDropped), (4, x.repeats), (4, x.setsFilled),
      (4, x.gaps), (4, x.rateDropped), (4, x.staleEvents), (4, x.inputSwitches), (4, x.saturations), (4, x.dissolvesDone),
      (4, x.dissolvesEnded), (4, t.signal.wrongFrames)]
    simpa [fieldsFrom] using hr (chanOf t (e.field 0 1))

/-- Settles O33: each answer is the body of its command under its premise. -/
theorem filterChannelsAreCommanded : Obligations.FilterChannelsAreCommanded := by
  refine ⟨answers_of_body cmdChannelConfigure (fun _ _ => rfl) rfl rfl (fun _ _ _ => rfl) fun e t h => ?_,
    answers_of_body cmdCoeffLoad (fun _ _ => rfl) rfl rfl (fun _ _ _ => rfl) fun e t h => ?_,
    answers_of_body cmdSignalDissolve (fun _ _ => rfl) rfl rfl (fun _ _ _ => rfl) fun e t h => ?_,
    answers_of_body cmdInputSwitch (fun _ _ => rfl) rfl rfl (fun _ _ _ => rfl) fun e t h => ?_,
    answers_of_body cmdChannelControl (fun _ _ => rfl) rfl rfl (fun _ _ _ => rfl) fun e t h => ?_,
    answers_of_body cmdChannelControl (fun _ _ => rfl) rfl rfl (fun _ _ _ => rfl) fun e t h => ?_⟩
  -- CHANNEL_CONFIGURE
  · exact if_neg (by simp [h])
  -- COEFF_LOAD
  · simp only [Bool.and_eq_true, decide_eq_true_eq] at h
    obtain ⟨⟨⟨⟨⟨h1, h256⟩, hs⟩, hl⟩, hc⟩, he⟩ := h
    refine (if_neg ?_).trans (onEnabled_of_enabled hc he)
    simp only [Bool.or_eq_true, decide_eq_true_eq, bne_iff_ne]
    omega
  -- SIGNAL_DISSOLVE
  · simp only [Bool.and_eq_true, decide_eq_true_eq] at h
    obtain ⟨⟨⟨⟨⟨hl, h1⟩, h4096⟩, hc⟩, he⟩, hz⟩ := h
    refine (body_of_sized (c := cmdSignalDissolve) rfl hl t).trans ((if_neg ?_).trans (onEnabled_of_enabled hc he))
    simp only [Bool.or_eq_true, decide_eq_true_eq, hz, Bool.not_true, Bool.false_eq_true, or_false]
    omega
  -- INPUT_SWITCH
  · simp only [Bool.and_eq_true, decide_eq_true_eq] at h
    obtain ⟨⟨⟨hl, hs⟩, hc⟩, he⟩ := h
    exact (body_of_sized (c := cmdInputSwitch) rfl hl t).trans ((if_neg hs.not_gt).trans (onEnabled_of_enabled hc he))
  -- CHANNEL_CONTROL, enabling
  · simp only [Bool.and_eq_true, Bool.not_eq_true', decide_eq_true_eq] at h
    obtain ⟨⟨⟨⟨hl, hc⟩, hon⟩, hcfg⟩, hoff⟩ := h
    refine (body_of_sized (c := cmdChannelControl) rfl hl t).trans ((if_neg (by simp [hc, hon])).trans ((if_pos hon).trans ?_))
    refine (if_neg (by simp [hoff])).trans ((if_neg (by simp [hcfg])).trans ?_)
    rw [hoff]
    rfl
  -- CHANNEL_CONTROL, disabling
  · simp only [Bool.and_eq_true, decide_eq_true_eq] at h
    obtain ⟨⟨⟨hl, hc⟩, hoff⟩, he⟩ := h
    refine (body_of_sized (c := cmdChannelControl) rfl hl t).trans ((if_neg (by simp [hc, hoff])).trans ((if_neg (by simp [hoff])).trans ?_))
    refine (if_neg (by simp [he])).trans ?_
    rw [he]
    rfl

end Sys2Proof.Machine
end

section
/-! SUPPORT. Stream frames, stale channels and dissolves at their events (R345, R347, R356, R357). -/

namespace Sys2Proof.Machine

variable {s : State}

/-! ### The arm of the dispatch for the end of a dissolve -/

theorem exec_dissolveComplete (c : Nat) (s : State) : exec (.dissolveComplete c) s = execDissolveComplete c s := rfl

/-! ### Stream frames (R344, R345) -/

section
variable {port : Nat} {b : Bytes}

theorem streamFrame_stopped (h : signalRuns s = false) : exec (.streamFrame port b) s = .next s := if_pos (by simp [h])

variable (hr : signalRuns s = true)
include hr

theorem streamFrame_taken (hb : streamOk b = true) (hk : knownStream s (Bytes.beField b 4 2 % 4096) = true) :
    exec (.streamFrame port b) s = .next (takeFrame (Bytes.beField b 4 2 % 4096) (Bytes.beField b 8 4)
      (sampleSets (Bytes.beField b 3 1) (Bytes.beField b 6 2) b) s) :=
  (if_neg (by simp [hr])).trans (if_neg (by simp [hb, hk]))

theorem streamFrame_dropped (h : (!streamOk b || !knownStream s (Bytes.beField b 4 2 % 4096)) = true) :
    exec (.streamFrame port b) s = .next (dropStreamFrame port b s) :=
  (if_neg (by simp [hr])).trans (if_pos h)

theorem streamFrame_unknown (hk : knownStream s (Bytes.beField b 4 2 % 4096) = false) :
    exec (.streamFrame port b) s = .next (modSignal (fun x => { x with wrongFrames := x.wrongFrames + 1 }) s) :=
  (streamFrame_dropped hr (by simp [hk])).trans (congrArg _ (if_pos (by simp [hk])))

theorem streamFrame_malformed (h4 : 4 ≤ port) (h20 : port < 20) (hb : streamOk b = false)
    (hk : knownStream s (Bytes.beField b 4 2 % 4096) = true) : exec (.streamFrame port b) s = .next
    (modSignal (fun x => { x with channels := x.channels.map fun p =>
      (p.1, if p.2.names (Bytes.beField b 4 2 % 4096) then { p.2 with framesDropped := p.2.framesDropped + 1 } else p.2) }) s) :=
  (streamFrame_dropped hr (by simp [hb])).trans (congrArg _ (if_neg (by simp [hk, h4.not_gt, h20.not_ge])))

end

/-! ### Stale channels (R347) -/

/-- The timeout of a channel's source has passed: a stale event is counted at its instant. -/
def timeoutPassed (c : Nat) (s : State) : State :=
  modChan c (fun x => { x with staleEvents := x.staleEvents + 1 }) (reach (staleAt (chanOf s c) (chanOf s c).lastSample) s)

section
variable {c : Nat}

theorem channelStale_idle (h : (chanOf s c).enabled = false ∨ (chanOf s c).stale = true ∨ signalRuns s = false) :
    exec (.channelStale c) s = .next s :=
  if_pos (by rcases h with h | h | h <;> simp [h])

variable (he : (chanOf s c).enabled = true) (hs : (chanOf s c).stale = false) (hr : signalRuns s = true)
include he hs hr

theorem channelStale_switches (ha : ((chanOf s c).config.autoSwitch && otherLive (timeoutPassed c s) (chanOf s c)) = true) :
    exec (.channelStale c) s = .next (endDissolve c (fun x => x.otherSource (lastArrival (timeoutPassed c s)
      (if (chanOf s c).source = 0 then (chanOf s c).config.alternate else (chanOf s c).config.primary))) (timeoutPassed c s)) :=
  (if_neg (by simp [he, hs, hr])).trans (if_pos ha)

theorem channelStale_holds (ha : ((chanOf s c).config.autoSwitch && otherLive (timeoutPassed c s) (chanOf s c)) = false) :
    exec (.channelStale c) s = .next (deliverHeld c (modChan c (fun x => { x with stale := true }) (timeoutPassed c s))) :=
  (if_neg (by simp [he, hs, hr])).trans (if_neg (ne_true_of_eq_false ha))

end

/-! ### Dissolves (R356, R357) -/

section
variable {c : Nat}

theorem dissolveStart_admitted (h : dissolveAdmitted s c = true) :
    exec (.dissolveStart c) s = .next (startDissolve c ((chanOf s c).n / (chanOf s c).config.decimation + 1) s) :=
  congrArg _ (if_pos h)

theorem dissolveStart_idle (h : dissolveAdmitted s c = false) : exec (.dissolveStart c) s = .next s :=
  congrArg _ (if_neg (ne_true_of_eq_false h))

theorem dissolveComplete_none (h : (chanOf s c).dissolve = none) : exec (.dissolveComplete c) s = .next s := by
  simp only [exec_dissolveComplete, execDissolveComplete, h]

variable {d : Dissolve} (hd : (chanOf s c).dissolve = some d)
include hd

theorem dissolveComplete_last (hs : d.started = true) (hk : d.k = d.length) :
    exec (.dissolveComplete c) s = .next (endDissolve c FilterChannel.dissolved s) := by
  simp only [exec_dissolveComplete, execDissolveComplete, hd]
  exact congrArg _ (if_pos (by simp [hs, hk]))

theorem dissolveComplete_running (h : d.started = false ∨ d.k ≠ d.length) : exec (.dissolveComplete c) s = .next s := by
  simp only [exec_dissolveComplete, execDissolveComplete, hd]
  exact congrArg _ (if_neg (by rcases h with h | h <;> simp [h]))

end

end Sys2Proof.Machine
end

section
/-! SUPPORT. Telegrams, message data, flow slots and the heartbeat at their events (R86, R397, R398, R400, R402, R409). -/

namespace Sys2Proof.Machine

variable {s : State}

/-! ### The arms of the dispatch for these events -/

theorem exec_trdpPdReceive (t : Telegram) (s : State) : exec (.trdpPdReceive t) s = execTrdpPdReceive t s := rfl
theorem exec_flowFreshnessTimeout (n : Nat) (s : State) : exec (.flowFreshnessTimeout n) s = execFlowFreshnessTimeout n s := rfl
theorem exec_scheduledLaunch (n : Nat) (s : State) : exec (.scheduledLaunch n) s = execScheduledLaunch n s := rfl

/-! ### Process data received (R398) -/

section
variable {t : Telegram} (hf : fabricRuns s = true)
include hf

theorem trdpPdReceive_accepted {n : Nat} (h : (receiveTelegram t s).2 = some n) :
    exec (.trdpPdReceive t) s = .next (feedMaps n (receiveTelegram t s).1) := by
  rw [exec_trdpPdReceive, execTrdpPdReceive, if_neg (by simp [hf])]
  cases hr : receiveTelegram t s with
  | mk u slot =>
    obtain rfl : slot = some n := by simpa [hr] using h
    rfl

theorem trdpPdReceive_unaccepted (h : (receiveTelegram t s).2 = none) :
    exec (.trdpPdReceive t) s = .next (receiveTelegram t s).1 := by
  rw [exec_trdpPdReceive, execTrdpPdReceive, if_neg (by simp [hf])]
  cases hr : receiveTelegram t s with
  | mk u slot =>
    obtain rfl : slot = none := by simpa [hr] using h
    rfl

end

/-! ### Requests for process data (R261, R397, R402) -/

/-- The publication that answers a request. -/
def pulledFlow (t : Telegram) (s : State) : Option (Nat × Flow) :=
  s.net.flows.find? fun p => p.2.enabled && p.2.record.publishes && p.2.record.pull && p.2.record.comId = t.comId

theorem trdpPrReceive_standby {t : Telegram} (h : s.pair.role = .standby) : exec (.trdpPrReceive t) s = .next s := if_pos (by simp [h])

section
variable {t : Telegram} (hf : fabricRuns s = true) (hr : s.pair.role ≠ .standby) (hp : t.udpPort = 17224) (hc : t.fcsOk = true)
  (ho : t.protocolOk = true) (hk : t.kind = 2)
include hf hr hp hc ho hk

theorem trdpPrReceive_unpublished (h : pulledFlow t s = none) : exec (.trdpPrReceive t) s = .next (toReel s) := by
  unfold pulledFlow at h
  refine (if_neg (by simp [hf, hr, hp, hc, ho, hk])).trans ?_
  simp only [h]

variable {n : Nat} {f : Flow} (h : pulledFlow t s = some (n, f))
include h

theorem trdpPrReceive_published : exec (.trdpPrReceive t) s =
    if !f.everReleased then .next s
    else if suspendedNow s f then .next (modFlow n (fun f => { f with suspended := f.suspended + 1 }) s)
    else .next (sendTelegram n 1 t.source f f.data s) := by
  unfold pulledFlow at h
  refine (if_neg (by simp [hf, hr, hp, hc, ho, hk])).trans ?_
  simp only [h]

theorem trdpPrReceive_unreleased (he : f.everReleased = false) : exec (.trdpPrReceive t) s = .next s :=
  (trdpPrReceive_published hf hr hp hc ho hk h).trans (if_pos (by simp [he]))

theorem trdpPrReceive_suspended (he : f.everReleased = true) (hs : suspendedNow s f = true) :
    exec (.trdpPrReceive t) s = .next (modFlow n (fun f => { f with suspended := f.suspended + 1 }) s) :=
  (trdpPrReceive_published hf hr hp hc ho hk h).trans ((if_neg (by simp [he])).trans (if_pos hs))

theorem trdpPrReceive_answers (he : f.everReleased = true) (hs : suspendedNow s f = false) :
    exec (.trdpPrReceive t) s = .next (sendTelegram n 1 t.source f f.data s) :=
  (trdpPrReceive_published hf hr hp hc ho hk h).trans ((if_neg (by simp [he])).trans (if_neg (ne_true_of_eq_false hs)))

end

/-! ### Message data (R86, R402) -/

/-- A message of a hardware session counts against the context that carries it. -/
def messageCounted (session : Nat) (s : State) : State :=
  match (Tbl.find s.trust.sessions session).bind Session.context with
  | some c => countMessage c s
  | none => s

section
variable {session comId : Nat} {envelope : Bytes} (hm : hasMailbox s = true)
include hm

theorem messageDataReceive_reelDown (hr : reelRuns s = false) : exec (.messageDataReceive session comId envelope) s = .next (toReel s) :=
  (if_neg (by simp [hm])).trans (if_pos (by simp [hr]))

variable (hr : reelRuns s = true)
include hr

theorem messageDataReceive_command (hc : comId = s.mbx.commandComId) (hp : isPeer s session = true) (hl : 32 ≤ envelope.length) :
    exec (.messageDataReceive session comId envelope) s = .next (receive commands (Bytes.field envelope 6 2) (envelopeMsg session envelope)
      (messageCounted session s)) :=
  (if_neg (by simp [hm])).trans ((if_neg (by simp [hr])).trans (if_pos (by simp [hc, hp, hl])))

theorem messageDataReceive_noCommand (h : comId ≠ s.mbx.commandComId ∨ isPeer s session = false ∨ envelope.length < 32) :
    exec (.messageDataReceive session comId envelope) s = .next s := by
  refine (if_neg (by simp [hm])).trans ((if_neg (by simp [hr])).trans (if_neg ?_))
  simp only [Bool.and_eq_true, decide_eq_true_eq]
  rintro ⟨⟨hc, hp⟩, hl⟩
  rcases h with h | h | h
  · exact h hc
  · simp [hp] at h
  · omega

end

/-! ### Freshness and scheduled launches (R397, R400, R430) -/

section
variable {n : Nat}

theorem flowFreshnessTimeout_absent (h : flowOf s n = none) : exec (.flowFreshnessTimeout n) s = .next s := by
  simp only [exec_flowFreshnessTimeout, execFlowFreshnessTimeout, h]

theorem scheduledLaunch_absent (h : flowOf s n = none) : exec (.scheduledLaunch n) s = .next s := by
  simp only [exec_scheduledLaunch, execScheduledLaunch, h]

variable {f : Flow} (h : flowOf s n = some f)
include h

theorem flowFreshnessTimeout_stale (hf : f.fresh = true) : exec (.flowFreshnessTimeout n) s = .next
    (modFlow n (fun f => { f with fresh := false }) (reach (flowStaleAt f) s)) := by
  simp only [exec_flowFreshnessTimeout, execFlowFreshnessTimeout, h, if_pos hf]

theorem flowFreshnessTimeout_again (hf : f.fresh = false) : exec (.flowFreshnessTimeout n) s = .next s := by
  simp only [exec_flowFreshnessTimeout, execFlowFreshnessTimeout, h]
  exact if_neg (ne_true_of_eq_false hf)

theorem scheduledLaunch_idle (hi : f.enabled = false ∨ f.record.publishes = false ∨ f.record.scheduled = false) :
    exec (.scheduledLaunch n) s = .next s := by
  simp only [exec_scheduledLaunch, execScheduledLaunch, h]
  exact if_pos (by rcases hi with hi | hi | hi <;> simp [hi])

variable (he : f.enabled = true) (hp : f.record.publishes = true) (hs : f.record.scheduled = true) (hr : s.pair.role ≠ .standby)
  {u : State} (hu : u = reachLocal (nextLaunch f * 1000 * nsUnit) s)
include he hp hs hr hu

theorem scheduledLaunch_unmapped (hm : slotMaps u n = []) :
    exec (.scheduledLaunch n) s = .next (launchFlow n (nextLaunch f) (launchData f u.time) u) := by
  subst hu
  simp only [exec_scheduledLaunch, execScheduledLaunch, h]
  exact (if_neg (by simp [he, hp, hs, hr])).trans (if_pos (by simp [hm]))

theorem scheduledLaunch_mapped (hm : slotMaps u n ≠ []) : exec (.scheduledLaunch n) s = .next
    (launchFlow n (nextLaunch f) (mapData u f (slotMaps u n)) (if (mapData u f (slotMaps u n)).isNone then countMapEmpty n u else u)) := by
  subst hu
  simp only [exec_scheduledLaunch, execScheduledLaunch, h]
  exact (if_neg (by simp [he, hp, hs, hr])).trans (if_neg (by simp [hm]))

end

/-! ### The heartbeat (R409) -/

/-- The heartbeat's period has passed: its number is counted at its instant. -/
def heartbeatDue (s : State) : State :=
  modNet (fun n => { n with heartbeats := n.heartbeats + 1, heartbeatAt := (reach (s.net.heartbeatAt + milli s.net.heartbeatMs) s).time })
    (reach (s.net.heartbeatAt + milli s.net.heartbeatMs) s)

theorem heartbeat_sent {u : State} (hu : u = heartbeatDue s) (ho : s.net.heartbeatOn = true) (hm : hasMailbox s = true) :
    exec .heartbeat s = .next
      (emit (.heartbeat (Config.moduleAddress (identifier u)) u.net.heartbeatComId u.net.heartbeatGroup (heartbeatData u)) u) := by
  subst hu
  exact if_neg (by simp [ho, hm])

theorem heartbeat_off (h : s.net.heartbeatOn = false ∨ hasMailbox s = false) : exec .heartbeat s = .next s :=
  if_pos (by rcases h with h | h <;> simp [h])

end Sys2Proof.Machine
end

section
/-! SUPPORT. HELLOs, topology frames and inaugurations of the train backbone at their events (R371 to R373). -/

namespace Sys2Proof.Machine

variable {s : State} {l : Nat}

/-! ### HELLOs (R371) -/

/-- A HELLO of a neighbour heard on a line. -/
def helloHeard (l neighbour : Nat) (s : State) : State :=
  modLine l (fun y => { y with neighbour := some neighbour, lastHello := s.time, missed := 0, fast := false }) s

section
variable (h : lineRuns s l = false)
include h

theorem ttdpHelloSend_stopped : exec (.ttdpHelloSend l) s = .next s := if_neg (ne_true_of_eq_false h)
theorem ttdpHelloReceive_stopped (neighbour : Nat) : exec (.ttdpHelloReceive l neighbour) s = .next s := if_neg (ne_true_of_eq_false h)

end

theorem ttdpHelloTimeout_idle (h : (lineOf s l).neighbour = none ∨ lineRuns s l = false) : exec (.ttdpHelloTimeout l) s = .next s :=
  if_pos (by rcases h with h | h <;> simp [h])

section
variable (hl : lineRuns s l = true)
include hl

theorem ttdpHelloSend_sent {u : State} (hu : u = reach ((lineOf s l).lastSent + milli (if (lineOf s l).fast then 10 else 100)) s) :
    exec (.ttdpHelloSend l) s = .next (emit (.ttdp l (lineOf s l).fast) (modLine l (fun y => { y with lastSent := u.time }) u)) := by
  subst hu
  exact if_pos hl

theorem ttdpHelloReceive_known {neighbour : Nat} (hn : (lineOf s l).neighbour = some neighbour) :
    exec (.ttdpHelloReceive l neighbour) s = .next (helloHeard l neighbour s) :=
  (if_pos hl).trans (congrArg _ (if_pos hn))

theorem ttdpHelloReceive_new {neighbour : Nat} (hn : (lineOf s l).neighbour ≠ some neighbour) :
    exec (.ttdpHelloReceive l neighbour) s = .next (startInauguration (helloHeard l neighbour s)) :=
  (if_pos hl).trans (congrArg _ (if_neg hn))

variable (hn : (lineOf s l).neighbour.isSome = true)
include hn

theorem ttdpHelloTimeout_slow (hf : (lineOf s l).fast = false) {u : State} (hu : u = reach ((lineOf s l).lastHello + milli 100) s) :
    exec (.ttdpHelloTimeout l) s = .next (modLine l (fun y => { y with fast := true, missed := 0, lastHello := u.time }) u) := by
  subst hu
  exact (if_neg (by simp [hl, Option.isSome_iff_ne_none.mp hn])).trans (if_pos (by simp [hf]))

variable (hf : (lineOf s l).fast = true) {u : State} (hu : u = reach ((lineOf s l).lastHello + milli 10) s)
include hf hu

theorem ttdpHelloTimeout_counted (hm : (lineOf s l).missed < 2) : exec (.ttdpHelloTimeout l) s = .next
    (modLine l (fun y => { y with missed := y.missed + 1, lastHello := u.time }) u) := by
  subst hu
  exact (if_neg (by simp [hl, Option.isSome_iff_ne_none.mp hn])).trans ((if_neg (by simp [hf])).trans (if_pos hm))

theorem ttdpHelloTimeout_third (hm : 2 ≤ (lineOf s l).missed) : exec (.ttdpHelloTimeout l) s = .next
    (startInauguration (modLine l (fun y => { y with neighbour := none, missed := 0, fast := false }) u)) := by
  subst hu
  exact (if_neg (by simp [hl, Option.isSome_iff_ne_none.mp hn])).trans ((if_neg (by simp [hf])).trans (if_neg hm.not_gt))

end

/-! ### Inaugurations (R372, R373) -/

theorem topologyFrame_changed (hl : lineRuns s l = true) (hr : reelRuns s = true) :
    exec (.topologyFrame l true) s = .next (startInauguration s) := congrArg _ (if_pos (by simp [hl, hr]))

theorem topologyFrame_unheeded {changed : Bool} (h : lineRuns s l = false ∨ reelRuns s = false ∨ changed = false) :
    exec (.topologyFrame l changed) s = .next s := congrArg _ (if_neg (by rcases h with h | h | h <;> simp [h]))

/-- The counters, the directory and the relative addresses that an inauguration has found. -/
def inaugurated (d : Directory) (s : State) : State :=
  modNet (fun n => { n with inaugurating := none, directory := some d, etbTopo := d.etbTopo, opTrnTopo := d.opTrnTopo,
                            flows := n.flows.map fun p => (p.1, p.2.placed d) }) s

theorem inaugurationComplete_loads {d : Directory} (hi : s.net.inaugurating.isSome = true) (hr : reelRuns s = true) :
    exec (.inaugurationComplete d) s =
      .next (recordReel 0x0A 0 (le 4 d.etbTopo ++ le 4 d.opTrnTopo ++ le 1 d.own) (inaugurated d s)) :=
  if_neg (by simp [hr, Option.isSome_iff_ne_none.mp hi])

theorem inaugurationComplete_idle {d : Directory} (h : s.net.inaugurating = none ∨ reelRuns s = false) :
    exec (.inaugurationComplete d) s = .next s := if_pos (by rcases h with h | h <;> simp [h])

end Sys2Proof.Machine
end

section
/-! SUPPORT. The events of the signal chain, of process data and of the train backbone together. -/

namespace Sys2Proof.Machine

/-- Settles O57: each event in its cases. -/
theorem streamsTelegramsAndTheBackboneFollowTheirEvents : Obligations.StreamsTelegramsAndTheBackboneFollowTheirEvents := by
  refine ⟨?frame, ?frameUnknown, ?frameMalformed, ?frameStopped, ?staleSwitches, ?staleHolds, ?staleIdle, ?dissolveStarts, ?dissolveWaits,
    ?dissolveEnds, ?dissolveRuns, ?dissolveNone, ?telegram, ?telegramUnaccepted, ?requestUnpublished, ?requestAnswered, ?requestSuspended,
    ?requestUnreleased, ?requestStandby, ?message, ?messageReelDown, ?messageNoCommand, ?flowStale, ?flowStaleAlready, ?flowAbsent, ?launch,
    ?launchMapped, ?launchIdle, ?launchAbsent, ?heartbeat, ?heartbeatOff, ?helloSent, ?helloKnown, ?helloNew, ?helloSlow, ?helloCounted,
    ?helloThird, ?helloIdle, ?sendStopped, ?receiveStopped, ?topology, ?topologyUnheeded, ?inauguration, ?inaugurationIdle⟩
  case frame => exact fun port b s hr hb hk => streamFrame_taken hr hb hk
  case frameUnknown => exact fun port b s hr hk => streamFrame_unknown hr hk
  case frameMalformed => exact fun port b s hr h4 h20 hb hk => streamFrame_malformed hr h4 h20 hb hk
  case frameStopped => exact fun port b s h => streamFrame_stopped h
  case staleSwitches => exact fun c s he hs hr ha => channelStale_switches he hs hr ha
  case staleHolds => exact fun c s he hs hr ha => channelStale_holds he hs hr ha
  case staleIdle => exact fun c s h => channelStale_idle h
  case dissolveStarts => exact fun c s h => dissolveStart_admitted h
  case dissolveWaits => exact fun c s h => dissolveStart_idle h
  case dissolveEnds => exact fun c d s hd hs hk => dissolveComplete_last hd hs hk
  case dissolveRuns => exact fun c d s hd h => dissolveComplete_running hd h
  case dissolveNone => exact fun c s h => dissolveComplete_none h
  case telegram => exact fun t n s hf h => trdpPdReceive_accepted hf h
  case telegramUnaccepted => exact fun t s hf h => trdpPdReceive_unaccepted hf h
  case requestUnpublished => exact fun t s hf hr hp hc ho hk h => trdpPrReceive_unpublished hf hr hp hc ho hk h
  case requestAnswered => exact fun t n f s hf hr hp hc ho hk h he hs => trdpPrReceive_answers hf hr hp hc ho hk h he hs
  case requestSuspended => exact fun t n f s hf hr hp hc ho hk h he hs => trdpPrReceive_suspended hf hr hp hc ho hk h he hs
  case requestUnreleased => exact fun t n f s hf hr hp hc ho hk h he => trdpPrReceive_unreleased hf hr hp hc ho hk h he
  case requestStandby => exact fun t s h => trdpPrReceive_standby h
  case message => exact fun session comId envelope s hm hr hc hp hl => messageDataReceive_command hm hr hc hp hl
  case messageReelDown => exact fun session comId envelope s hm hr => messageDataReceive_reelDown hm hr
  case messageNoCommand => exact fun session comId envelope s hm hr h => messageDataReceive_noCommand hm hr h
  case flowStale => exact fun n f s h hf => flowFreshnessTimeout_stale h hf
  case flowStaleAlready => exact fun n f s h hf => flowFreshnessTimeout_again h hf
  case flowAbsent => exact fun n s h => flowFreshnessTimeout_absent h
  case launch => exact fun n f s h he hp hs hr hm => scheduledLaunch_unmapped h he hp hs hr rfl hm
  case launchMapped => exact fun n f s h he hp hs hr hm => scheduledLaunch_mapped h he hp hs hr rfl hm
  case launchIdle => exact fun n f s h hi => scheduledLaunch_idle h hi
  case launchAbsent => exact fun n s h => scheduledLaunch_absent h
  case heartbeat => exact fun s ho hm => heartbeat_sent rfl ho hm
  case heartbeatOff => exact fun s h => heartbeat_off h
  case helloSent => exact fun l s hl => ttdpHelloSend_sent hl rfl
  case helloKnown => exact fun l neighbour s hl hn => ttdpHelloReceive_known hl hn
  case helloNew => exact fun l neighbour s hl hn => ttdpHelloReceive_new hl hn
  case helloSlow => exact fun l s hn hl hf => ttdpHelloTimeout_slow hl hn hf rfl
  case helloCounted => exact fun l s hn hl hf hm => ttdpHelloTimeout_counted hl hn hf rfl hm
  case helloThird => exact fun l s hn hl hf hm => ttdpHelloTimeout_third hl hn hf rfl hm
  case helloIdle => exact fun l s h => ttdpHelloTimeout_idle h
  case sendStopped => exact fun l s h => ttdpHelloSend_stopped h
  case receiveStopped => exact fun l neighbour s h => ttdpHelloReceive_stopped h neighbour
  case topology => exact fun l s hl hr => topologyFrame_changed hl hr
  case topologyUnheeded => exact fun l changed s h => topologyFrame_unheeded h
  case inauguration => exact fun d s hi hr => inaugurationComplete_loads hi hr
  case inaugurationIdle => exact fun d s h => inaugurationComplete_idle h

end Sys2Proof.Machine
end

section
/-! SUPPORT. The reports of the NET commands (Table 11.8): the networks, a port's counters, the forwarding database and the flow slots (R373, R377,
R382, R396). -/

namespace Sys2Proof.Machine

open Sys2Proof.Claims

/-! ### The counters of a port -/

/-- The counters of PORT_COUNTERS before the drops by the causes of R382, those drops, and the counters after them: width and value of each. -/
def portTraffic (x : PortSt) : List (Nat × Nat) := [(8, x.framesIn), (8, x.framesOut), (8, x.octetsIn), (8, x.octetsOut)]
def portDrops (x : PortSt) : List (Nat × Nat) := (List.range 12).map fun c => (4, Tbl.get x.drops c 0)
def portEvents (x : PortSt) : List (Nat × Nat) :=
  [(4, x.learnFailures), (4, x.learnRefusals), (8, x.floodedIn), (4, x.lateLaunches), (4, x.linkChanges)]

theorem portDrops_width (x : PortSt) : ((portDrops x).map Prod.fst).sum = 48 := by simp [portDrops, Function.comp_def]

theorem portCounters_body {e : Entry} (hl : e.payload.length = 1) (hp : e.field 0 1 < 32) (t : State) :
    let x := portOf t (e.field 0 1)
    cmdPortCounters.body e t = answers ((portTraffic x ++ portDrops x ++ portEvents x).flatMap fun p => le p.1 p.2) t := by
  refine (body_of_sized (c := cmdPortCounters) rfl hl t).trans ((if_neg hp.not_ge).trans ?_)
  simp [portTraffic, portDrops, portEvents, List.flatMap_map]

/-- PORT_COUNTERS's result, its fields with the drops last. -/
theorem isReport_portCounters (x : PortSt) : IsReport 104
    (fieldsFrom 0 (portTraffic x) ++ fieldsFrom 80 (portEvents x) ++ (List.range 12).map fun c => (32 + 4 * c, 4, Tbl.get x.drops c 0))
    ((portTraffic x ++ portDrops x ++ portEvents x).flatMap fun p => le p.1 p.2) := by
  have hr := isReport_flatMap_le (portTraffic x ++ portDrops x ++ portEvents x)
  have hf : fieldsFrom 0 (portTraffic x ++ portDrops x ++ portEvents x) = fieldsFrom 0 (portTraffic x) ++
      (List.range 12).map (fun c => (32 + 4 * c, 4, Tbl.get x.drops c 0)) ++ fieldsFrom 80 (portEvents x) := by
    rw [fieldsFrom_append, fieldsFrom_append, List.map_append, List.sum_append, portDrops_width, portDrops, fieldsFrom_range]
    rfl
  rw [hf, List.map_append, List.map_append, List.sum_append, List.sum_append, portDrops_width] at hr
  refine isReport_of_subset hr fun f hf => ?_
  simp only [List.mem_append] at hf ⊢
  rcases hf with (hf | hf) | hf
  · exact .inl (.inl hf)
  · exact .inr hf
  · exact .inl (.inr hf)

/-! ### The pieces of NET_STATUS -/

/-- What NET_STATUS lists, in the order of the table: width and value of each. -/
def netStatusPieces (t : State) : List (Nat × Nat) :=
  let n := t.net
  let image := runningImage t
  let flows := enabledRecords t
  [(4, ((List.range 28).map fun p => if (portOf t p).up && (4 ≤ p || n.relayFaults = 0) then 2 ^ p else 0).sum),
    (1, bit n.inaugurating.isSome), (4, n.etbTopo), (4, n.opTrnTopo), (1, (n.directory.map fun d => d.own).getD 0),
    (1, (n.directory.map fun d => d.addresses.length).getD 0), (1, bit (n.relayFaults != 0)),
    (1, bit (t.pair.role != .standby && n.directory.isSome)), (2, (flows.filter fun r => r.2.publishes).length),
    (2, (flows.filter fun r => !r.2.publishes).length),
    (4, (sumLoads image flows (fun r => !r.publishes) + innerLoad t image) / 2 ^ 32),
    (4, (sumLoads image flows FlowRec.publishes + innerLoad t image) / 2 ^ 32), (2, (n.flows.filter fun p => p.2.record.sdt).length),
    (1, (t.trust.contexts.filter fun c => c.2.purpose = 1 && c.2.state = .live).length),
    (2, (n.learned.filter fun x => x.bucket.isSome).length), (1, (n.learned.filter fun x => x.bucket.isNone).length),
    (2, n.pinned.length),
    (4, ((List.range 32).map fun p => if 16384 * floodUnit ≤ (portOf t p).flood.at (portRate t p) t.time then 2 ^ p else 0).sum),
    (2, n.latentErrors)]

theorem netStatus_body {e : Entry} (hl : e.payload.length = 0) (t : State) :
    cmdNetStatus.body e t = answers ((netStatusPieces t).flatMap fun p => le p.1 p.2) t := by
  refine (body_of_sized (c := cmdNetStatus) rfl hl t).trans ?_
  simp only [netStatusPieces, List.flatMap_cons, List.flatMap_nil, List.append_nil, List.append_assoc]
  cases t.net.directory <;> rfl

theorem isReport_netStatus (t : State) :
    IsReport 43 (fieldsFrom 0 (netStatusPieces t)) ((netStatusPieces t).flatMap fun p => le p.1 p.2) := by
  have hw : ((netStatusPieces t).map Prod.fst).sum = 43 := by simp [netStatusPieces]
  rw [← hw]
  exact isReport_flatMap_le (netStatusPieces t)

/-! ### The commands -/

/-- Settles O34: NET_STATUS and PORT_COUNTERS are made of their pieces; the others are the bodies of their commands. -/
theorem networkReportsGiveWhatTheTableLists : Obligations.NetworkReportsGiveWhatTheTableLists := by
  refine ⟨reports_of_body cmdNetStatus (fun _ _ => rfl) rfl rfl (fun _ _ _ => rfl) fun e t h => ?_,
    reports_of_body cmdPortCounters (fun _ _ => rfl) rfl rfl (fun _ _ _ => rfl) fun e t h => ?_,
    answers_of_body cmdFdbRead (fun _ _ => rfl) rfl rfl (fun _ _ _ => rfl) fun e t h => ?_,
    answers_of_body cmdFlowStatus (fun _ _ => rfl) rfl rfl (fun _ _ _ => rfl) fun e t h => ?_⟩
  -- NET_STATUS
  · exact ⟨_, netStatus_body (of_decide_eq_true h) t, isReport_netStatus t⟩
  -- PORT_COUNTERS
  · simp only [Bool.and_eq_true, decide_eq_true_eq] at h
    obtain ⟨hl, hp⟩ := h
    exact ⟨_, portCounters_body hl hp t, isReport_portCounters _⟩
  -- FDB_READ
  · simp only [Bool.and_eq_true, decide_eq_true_eq] at h
    obtain ⟨⟨⟨hl, ht⟩, h1⟩, h256⟩ := h
    refine (body_of_sized (c := cmdFdbRead) rfl hl t).trans (if_neg ?_)
    simp only [Bool.or_eq_true, decide_eq_true_eq]
    omega
  -- FLOW_STATUS
  · simp only [Bool.and_eq_true, decide_eq_true_eq] at h
    obtain ⟨⟨⟨hl, h1⟩, h64⟩, hn⟩ := h
    refine (body_of_sized (c := cmdFlowStatus) rfl hl t).trans (if_neg ?_)
    simp only [Bool.or_eq_true, decide_eq_true_eq]
    omega

end Sys2Proof.Machine
end

section
/-! SUPPORT. The commands of the NET table on ports, forwarding entries, FRER, gates and launch queues (R377, R378, R386, R388, R390, R391). -/

namespace Sys2Proof.Machine

open Sys2Proof.Claims

/-- On a module that is no Standby a configuration change goes on (R411). -/
theorem notStandby_of_ne {f : State → State × Reply} {s : State} (h : s.pair.role ≠ .standby) : notStandby f s = f s := if_neg h

/-! ### FRER_CONFIGURE -/

/-- The number of ports that a FRER_CONFIGURE names. -/
def frerPorts (e : Entry) : Nat := ((List.range 32).filter (hasBit (e.field 19 4))).length

/-- A stream's FRER function stored, and forwarded to a partner. -/
def storeFrer (e : Entry) (f : Frer) (s : State) : State × Reply :=
  answers [] (forwardSettings e (modNet (fun x => { x with frer := Tbl.put x.frer (e.field 0 1) f }) s))

section
variable {e : Entry} {t : State} (hl : e.payload.length = 26) (hs : t.pair.role ≠ .standby)
include hl hs

theorem frerConfigure_identification (hk : e.field 1 1 = 1) (hm : e.field 2 1 = 1 ∨ e.field 2 1 = 2) : cmdFrerConfigure.body e t =
    if 512 ≤ (t.net.frer.map fun p => p.2.identifications.length).sum then fails 0x0916 t
    else storeFrer e { Tbl.get t.net.frer (e.field 0 1) {} with
      identifications := (Tbl.get t.net.frer (e.field 0 1) {}).identifications ++ [(e.field 2 1, e.slice 3 16)] } t :=
  (body_of_sized (c := cmdFrerConfigure) rfl hl t).trans
    ((if_pos hk).trans ((if_neg (by rcases hm with hm | hm <;> simp [hm])).trans (notStandby_of_ne hs)))

theorem frerConfigure_generation (hk : e.field 1 1 = 2) (h1 : 1 ≤ frerPorts e) (h4 : frerPorts e ≤ 4) : cmdFrerConfigure.body e t =
    storeFrer e { Tbl.get t.net.frer (e.field 0 1) {} with generation := some (e.field 19 4), nextSequence := 0 } t := by
  refine (body_of_sized (c := cmdFrerConfigure) rfl hl t).trans ((if_neg (by simp [hk])).trans ((if_pos hk).trans ?_))
  have hargs : ¬(frerPorts e = 0 || 4 < frerPorts e) = true := by
    simp only [Bool.or_eq_true, decide_eq_true_eq]
    omega
  exact (if_neg hargs).trans (notStandby_of_ne hs)

theorem frerConfigure_recovery (hk : e.field 1 1 = 3) (hp : 1 ≤ frerPorts e) (h2 : 2 ≤ e.field 23 1) (h32 : e.field 23 1 ≤ 32)
    (h1 : 1 ≤ e.field 24 2) (hr : e.field 24 2 ≤ 10000) : cmdFrerConfigure.body e t =
    storeFrer e { Tbl.get t.net.frer (e.field 0 1) {} with
      recovery := some (e.field 19 4), history := e.field 23 1, resetMs := e.field 24 2, highest := none, seen := [], paths := [],
      latent := [] } t := by
  refine (body_of_sized (c := cmdFrerConfigure) rfl hl t).trans ((if_neg (by simp [hk])).trans ((if_neg (by simp [hk])).trans
    ((if_pos hk).trans ?_)))
  have hargs : ¬(frerPorts e = 0 || e.field 23 1 < 2 || 32 < e.field 23 1 || e.field 24 2 = 0 || 10000 < e.field 24 2) = true := by
    simp only [Bool.or_eq_true, decide_eq_true_eq]
    omega
  exact (if_neg hargs).trans (notStandby_of_ne hs)

end

/-! ### The commands -/

/-- Settles O35: each answer is the body of its command under its premise. -/
theorem fabricIsCommanded : Obligations.FabricIsCommanded := by
  refine ⟨answers_of_body cmdPortConfigure (fun _ _ => rfl) rfl rfl (fun _ _ _ => rfl) fun e t h => ?_,
    answers_of_body cmdFdbPin (fun _ _ => rfl) rfl rfl (fun _ _ _ => rfl) fun e t h => ?_,
    answers_of_body cmdFdbUnpin (fun _ _ => rfl) rfl rfl (fun _ _ _ => rfl) fun e t h => ?_,
    answers_of_body cmdFdbFlush (fun _ _ => rfl) rfl rfl (fun _ _ _ => rfl) fun e t h => ?_,
    answers_of_body cmdFrerConfigure (fun _ _ => rfl) rfl rfl (fun _ _ _ => rfl) fun e t h => ?_,
    answers_of_body cmdGateConfigure (fun _ _ => rfl) rfl rfl (fun _ _ _ => rfl) fun e t h => ?_,
    answers_of_body cmdLaunchWrite (fun _ _ => rfl) rfl rfl (fun _ _ _ => rfl) fun e t h => ?_,
    answers_of_body cmdLaunchFlush (fun _ _ => rfl) rfl rfl (fun _ _ _ => rfl) fun e t h => ?_⟩
  -- PORT_CONFIGURE
  · simp only [Bool.and_eq_true, decide_eq_true_eq, bne_iff_ne] at h
    simp only [Entry.field] at h
    obtain ⟨⟨⟨⟨⟨⟨⟨⟨⟨⟨⟨⟨⟨⟨h30, hl⟩, hn⟩, hp⟩, hon⟩, hrate⟩, hprot⟩, hv⟩, hv'⟩, hpcp⟩, hlimits⟩, hvlans⟩, huse⟩, hs⟩, hz⟩ := h
    refine (if_neg ?_).trans (notStandby_of_ne hs)
    simp only [hrate, hlimits, hvlans, hz, Bool.not_true, Bool.or_false, Bool.or_eq_true, decide_eq_true_eq, bne_iff_ne]
    omega
  -- FDB_PIN
  · simp only [Bool.and_eq_true, decide_eq_true_eq, bne_iff_ne] at h
    obtain ⟨⟨⟨hl, h1⟩, hv⟩, hs⟩ := h
    refine (body_of_sized (c := cmdFdbPin) rfl hl t).trans ((if_neg ?_).trans (notStandby_of_ne hs))
    simp only [Bool.or_eq_true, decide_eq_true_eq]
    omega
  -- FDB_UNPIN
  · simp only [Bool.and_eq_true, decide_eq_true_eq, bne_iff_ne, Option.any_eq_true] at h
    obtain ⟨⟨hl, hs⟩, x, hx, hm⟩ := h
    refine (body_of_sized (c := cmdFdbUnpin) rfl hl t).trans ((notStandby_of_ne hs).trans ?_)
    simp only [hx]
    exact if_neg (by simp [hm])
  -- FDB_FLUSH
  · simp only [Bool.and_eq_true, Bool.or_eq_true, decide_eq_true_eq] at h
    obtain ⟨hl, hp⟩ := h
    refine (body_of_sized (c := cmdFdbFlush) rfl hl t).trans (if_neg ?_)
    simp only [Bool.and_eq_true, decide_eq_true_eq, bne_iff_ne]
    omega
  -- FRER_CONFIGURE
  · simp only [Bool.and_eq_true, Bool.or_eq_true, decide_eq_true_eq, bne_iff_ne] at h
    obtain ⟨⟨hl, hs⟩, (⟨hk, hm⟩ | ⟨⟨hk, h1⟩, h4⟩) | ⟨⟨⟨⟨⟨hk, hp⟩, h2⟩, h32⟩, h1⟩, hr⟩⟩ := h
    · exact (frerConfigure_identification hl hs hk hm).trans (if_pos hk).symm
    · exact (frerConfigure_generation hl hs hk h1 h4).trans ((if_neg (by simp [hk])).trans (if_pos hk)).symm
    · exact (frerConfigure_recovery hl hs hk hp h2 h32 h1 hr).trans ((if_neg (by simp [hk])).trans (if_neg (by simp [hk]))).symm
  -- GATE_CONFIGURE
  · simp only [Bool.and_eq_true, decide_eq_true_eq, bne_iff_ne] at h
    obtain ⟨⟨⟨⟨hl, hp⟩, hb⟩, hs⟩, hz⟩ := h
    exact (if_neg (by simp [hl, hp.not_ge, hb.not_ge, hz])).trans (notStandby_of_ne hs)
  -- LAUNCH_WRITE
  · simp only [Bool.and_eq_true, decide_eq_true_eq] at h
    obtain ⟨⟨⟨⟨hl, hp⟩, hq⟩, h60⟩, hm⟩ := h
    exact if_neg (by simp [hl, hp.not_ge, hq.not_ge, h60.not_gt, hm.not_gt])
  -- LAUNCH_FLUSH
  · simp only [Bool.and_eq_true, decide_eq_true_eq] at h
    obtain ⟨⟨hl, hp⟩, hq⟩ := h
    exact (body_of_sized (c := cmdLaunchFlush) rfl hl t).trans (if_neg (by simp [hp.not_ge, hq.not_ge]))

end Sys2Proof.Machine
end

section
/-! SUPPORT. The commands of the NET table on flow slots, R-NAT and the settings of the networks (R374, R395 to R397, R403, R404). -/

namespace Sys2Proof.Machine

open Sys2Proof.Claims

/-! ### FLOW_CONTROL -/

section
variable {e : Entry} {t : State} {f : Flow} (hl : e.payload.length = 3) (hs : t.pair.role ≠ .standby) (hf : flowOf t (e.field 0 2) = some f)
include hl hs hf

theorem flowControl_enable (hon : e.field 2 1 = 1) : cmdFlowControl.body e t =
    if !ratesFit t (runningImage t) (Tbl.put (enabledRecords t) (e.field 0 2) f.record) then fails 0x0911 t
    else if f.enabled then answers (le 1 1 ++ le 2 0) t
    else answers (le 1 0 ++ le 2 0) (forwardSettings e (modFlow (e.field 0 2) (fun f => { f with
      enabled := true, sequence := 0, sdtUnsafe := false, safeSequence := 0, monitorCount := 0,
      launched := localMicros t, launchedAt := t.time, releases := [], everReleased := false }) t)) := by
  refine (body_of_sized (c := cmdFlowControl) rfl hl t).trans ?_
  simp only [hf]
  exact (if_neg (by simp [hon])).trans ((notStandby_of_ne hs).trans (if_pos hon))

theorem flowControl_disable (hoff : e.field 2 1 = 0) : cmdFlowControl.body e t =
    answers (le 1 (bit f.enabled) ++ le 2 (t.mbx.queue.filter fun q => !q.committed && onSlot (e.field 0 2) e.id q).length)
      (forwardSettings e (modFlow (e.field 0 2) (fun f => { f with enabled := false, fresh := false, releases := [] })
        (cancelTargets (onSlot (e.field 0 2) e.id) t))) := by
  refine (body_of_sized (c := cmdFlowControl) rfl hl t).trans ?_
  simp only [hf]
  exact (if_neg (by simp [hoff])).trans ((notStandby_of_ne hs).trans (if_neg (by simp [hoff])))

end

/-! ### The commands -/

/-- Settles O36: FLOW_CONTROL enables or disables; the others are the bodies of their commands under their premises. -/
theorem flowsAndSettingsAreCommanded : Obligations.FlowsAndSettingsAreCommanded := by
  refine ⟨answers_of_body cmdFlowConfigure (fun _ _ => rfl) rfl rfl (fun _ _ _ => rfl) fun e t h => ?_,
    answers_of_body cmdFlowControl (fun _ _ => rfl) rfl rfl (fun _ _ _ => rfl) fun e t h => ?_,
    answers_of_body cmdRnatConfigure (fun _ _ => rfl) rfl rfl (fun _ _ _ => rfl) fun e t h => ?_,
    answers_of_body cmdNetSettings (fun _ _ => rfl) rfl rfl (fun _ _ _ => rfl) fun e t h => ?_⟩
  -- FLOW_CONFIGURE
  · simp only [Bool.and_eq_true, decide_eq_true_eq, bne_iff_ne] at h
    obtain ⟨⟨⟨⟨⟨hl, hn⟩, hr⟩, hs⟩, hflags⟩, hz⟩ := h
    exact (body_of_sized (c := cmdFlowConfigure) rfl hl t).trans
      ((if_neg (by simp [hn.not_ge, hr, hflags.not_ge, hz])).trans (notStandby_of_ne hs))
  -- FLOW_CONTROL
  · simp only [Bool.and_eq_true, decide_eq_true_eq, bne_iff_ne, Option.isSome_iff_exists] at h
    obtain ⟨⟨⟨hl, h1⟩, hs⟩, f, hf⟩ := h
    simp only [hf]
    rcases Nat.le_one_iff_eq_zero_or_eq_one.mp h1 with hoff | hon
    · exact (flowControl_disable hl hs hf hoff).trans (if_neg (by simp [hoff])).symm
    · exact (flowControl_enable hl hs hf hon).trans (if_pos hon).symm
  -- RNAT_CONFIGURE
  · simp only [Bool.and_eq_true, decide_eq_true_eq, bne_iff_ne] at h
    obtain ⟨⟨⟨⟨⟨h8, hl⟩, hn⟩, hp⟩, hs⟩, hz⟩ := h
    refine (if_neg ?_).trans (notStandby_of_ne hs)
    simp only [hz, Bool.not_true, Bool.or_false, Bool.or_eq_true, decide_eq_true_eq, bne_iff_ne]
    omega
  -- NET_SETTINGS
  · simp only [Bool.and_eq_true, decide_eq_true_eq, bne_iff_ne] at h
    obtain ⟨⟨⟨⟨⟨hl, h10⟩, hm⟩, h10'⟩, hm'⟩, hs⟩ := h
    exact (body_of_sized (c := cmdNetSettings) rfl hl t).trans
      ((if_neg (by simp [h10.not_gt, hm.not_gt, h10'.not_gt, hm'.not_gt])).trans (notStandby_of_ne hs))

end Sys2Proof.Machine
end

section
/-! SUPPORT. Frames, forwarding entries, gates and launches, recovery functions and back-pressure of the fabric at their events (R377, R379,
R382, R386 to R388, R390, R392, R524). -/

namespace Sys2Proof.Machine

variable {s : State}

/-! ### The arms of the dispatch for these events -/

theorem exec_frameReceive (p : Nat) (f : RxFrame) (s : State) : exec (.frameReceive p f) s = execFrameReceive p f s := rfl
theorem exec_egressFrameDone (p : Nat) (s : State) : exec (.egressFrameDone p) s = execEgressFrameDone p s := rfl
theorem exec_fdbAging (mac vlan : Nat) (s : State) : exec (.fdbAging mac vlan) s = execFdbAging mac vlan s := rfl
theorem exec_gateEvent (p : Nat) (s : State) : exec (.gateEvent p) s = execGateEvent p s := rfl
theorem exec_gateListTakeover (p : Nat) (s : State) : exec (.gateListTakeover p) s = execGateListTakeover p s := rfl
theorem exec_frerResetTimeout (n : Nat) (s : State) : exec (.frerResetTimeout n) s = execFrerResetTimeout n s := rfl
theorem exec_frerLatentError (n path : Nat) (s : State) : exec (.frerLatentError n path) s = execFrerLatentError n path s := rfl

/-! ### Frames (R377, R382, R383) -/

/-- A frame that has arrived, counted at its port. -/
def frameCounted (p : Nat) (f : RxFrame) (s : State) : State :=
  modPort p (fun x => { x with framesIn := x.framesIn + 1, octetsIn := x.octetsIn + f.bytes.length }) s

section
variable {p : Nat} {f : RxFrame}

theorem frameReceive_stopped (h : fabricRuns s = false) : exec (.frameReceive p f) s = .next s := if_pos (by simp [h])

variable (hr : fabricRuns s = true) {u : State} (hu : u = frameCounted p f s)
include hr hu

theorem frameReceive_dropped {cause : Nat} (hd : ingressDrop u p f = some cause) : exec (.frameReceive p f) s =
    .next (if cause = dropStream then dropStreamFrame p (framePayload f.bytes) (countDrop p cause u) else countDrop p cause u) := by
  subst hu
  unfold frameCounted at hd ⊢
  refine (if_neg (by simp [hr])).trans ?_
  simp only [hd]

theorem frameReceive_droppedStream {cause : Nat} (hd : ingressDrop u p f = some cause) (hc : cause = dropStream) :
    exec (.frameReceive p f) s = .next (dropStreamFrame p (framePayload f.bytes) (countDrop p cause u)) :=
  (frameReceive_dropped hr hu hd).trans (congrArg _ (if_pos hc))

theorem frameReceive_droppedOther {cause : Nat} (hd : ingressDrop u p f = some cause) (hc : cause ≠ dropStream) :
    exec (.frameReceive p f) s = .next (countDrop p cause u) :=
  (frameReceive_dropped hr hu hd).trans (congrArg _ (if_neg hc))

variable (hd : ingressDrop u p f = none)
include hd

theorem frameReceive_passed : exec (.frameReceive p f) s =
    if frameType f.bytes = 0x88B6 then .next (enqueue 30 (framePriority (portOf u p).config f.bytes) p f.bytes u)
    else .next (admitFrame p f.bytes u) := by
  subst hu
  unfold frameCounted at hd ⊢
  refine (if_neg (by simp [hr])).trans ?_
  simp only [hd]

theorem frameReceive_stream (ht : frameType f.bytes = 0x88B6) :
    exec (.frameReceive p f) s = .next (enqueue 30 (framePriority (portOf u p).config f.bytes) p f.bytes u) :=
  (frameReceive_passed hr hu hd).trans (if_pos ht)

theorem frameReceive_admitted (ht : frameType f.bytes ≠ 0x88B6) : exec (.frameReceive p f) s = .next (admitFrame p f.bytes u) :=
  (frameReceive_passed hr hu hd).trans (if_neg ht)

end

theorem egressFrameDone_ends {p t : Nat} (h : (portOf s p).sending = some t) :
    exec (.egressFrameDone p) s = .next (startNext p (modPort p (fun x => { x with sending := none }) (reach t s))) := by
  simp only [exec_egressFrameDone, execEgressFrameDone, h]

theorem egressFrameDone_idle {p : Nat} (h : (portOf s p).sending = none) : exec (.egressFrameDone p) s = .next (startNext p s) := by
  simp only [exec_egressFrameDone, execEgressFrameDone, h]

theorem fdbAging_ages {mac vlan : Nat} {e : Learned} (h : learnedEntry s mac vlan = some e) : exec (.fdbAging mac vlan) s = .next
    (modNet (fun n => { n with learned := n.learned.filter fun x => !(x.mac = mac && x.vlan = vlan) })
      (reach (e.lastSeen + second s.net.aging) s)) := by
  simp only [exec_fdbAging, execFdbAging, h]

theorem fdbAging_absent {mac vlan : Nat} (h : learnedEntry s mac vlan = none) : exec (.fdbAging mac vlan) s = .next s := by
  simp only [exec_fdbAging, execFdbAging, h]

/-! ### Gates (R388, R390) -/

/-- The local time of a gate list's next event. -/
def gateDue (g : GateList) (now : Nat) : Nat :=
  max now g.base - max now g.base % nsUnit + nextGateEvent g (gateOffset g now) * nsUnit

section
variable {p : Nat}

theorem gateEvent_changes {g : GateList} (h : (portOf s p).gates = some g) {u : State} (hu : u = reachLocal (gateDue g (localNow s)) s) :
    exec (.gateEvent p) s = .next (startNext p (modPort p (fun x => { x with gateMask := gateMaskAt g (gateOffset g (localNow u)) }) u)) := by
  subst hu
  simp only [exec_gateEvent, execGateEvent, h]
  rfl

theorem gateEvent_none (h : (portOf s p).gates = none) : exec (.gateEvent p) s = .next s := by
  simp only [exec_gateEvent, execGateEvent, h]

theorem gateListTakeover_takes {g : GateList} (h : (portOf s p).gatesNext = some g) : exec (.gateListTakeover p) s = .next
    (startNext p (modPort p (fun x => { x with gates := if g.entries.isEmpty then none else some g, gatesNext := none,
                                               gateMask := gateMaskAt g 0 }) (reachLocal g.base s))) := by
  simp only [exec_gateListTakeover, execGateListTakeover, h]

theorem gateListTakeover_none (h : (portOf s p).gatesNext = none) : exec (.gateListTakeover p) s = .next s := by
  simp only [exec_gateListTakeover, execGateListTakeover, h]

end

/-! ### Recovery functions (R386, R387) -/

section
variable {n : Nat}

theorem frerResetTimeout_absent (h : Tbl.find s.net.frer n = none) : exec (.frerResetTimeout n) s = .next s := by
  simp only [exec_frerResetTimeout, execFrerResetTimeout, h]

theorem frerLatentError_absent {path : Nat} (h : Tbl.find s.net.frer n = none) : exec (.frerLatentError n path) s = .next s := by
  simp only [exec_frerLatentError, execFrerLatentError, h]

variable {f : Frer} (h : Tbl.find s.net.frer n = some f)
include h

theorem frerResetTimeout_resets (hr : f.recovery.isSome = true) (hh : f.highest.isSome = true) : exec (.frerResetTimeout n) s = .next
    (modNet (fun x => { x with frer := Tbl.put x.frer n { f with highest := none, seen := [] } })
      (reach (f.lastAccepted + milli f.resetMs) s)) := by
  simp only [exec_frerResetTimeout, execFrerResetTimeout, h]
  exact if_pos (by simp [hr, hh])

theorem frerResetTimeout_idle (hi : f.recovery = none ∨ f.highest = none) : exec (.frerResetTimeout n) s = .next s := by
  simp only [exec_frerResetTimeout, execFrerResetTimeout, h]
  exact if_neg (by rcases hi with hi | hi <;> simp [hi])

variable {path t : Nat} (hp : Tbl.find f.paths path = some t)
include hp

theorem frerLatentError_found (hr : f.recovery.isSome = true) (hl : f.latent.contains path = false) : exec (.frerLatentError n path) s = .next
    (recordReel 0x0A path (le 2 n ++ le 1 path)
      (modNet (fun x => { x with frer := Tbl.put x.frer n { f with latent := f.latent ++ [path] }, latentErrors := x.latentErrors + 1 })
        (reach (t + 2 * milli f.resetMs) s))) := by
  simp only [exec_frerLatentError, execFrerLatentError, h, hp]
  exact if_pos (by simp only [hr, hl, Bool.not_false, Bool.and_self])

theorem frerLatentError_again (hl : f.latent.contains path = true) : exec (.frerLatentError n path) s = .next s := by
  simp only [exec_frerLatentError, execFrerLatentError, h, hp]
  exact if_neg (by simp only [hl, Bool.not_true, Bool.and_false, Bool.false_eq_true, not_false_eq_true])

end

/-! ### Back-pressure (R524) -/

/-- PERIOD in µs and HOLD in µs of the Squall window. -/
def squallPeriod (s : State) : Nat := s.test.backpressure.toNat / 2 ^ 16
def squallHold (s : State) : Nat := s.test.backpressure.toNat % 2 ^ 16

/-- The start of the Squall window that comes next in local time. -/
def windowStart (s : State) : Nat :=
  (localNow s + squallPeriod s * 1000 * nsUnit - 1) / (squallPeriod s * 1000 * nsUnit) * (squallPeriod s * 1000 * nsUnit)

theorem backpressureWindow_holds (hs : s.test.squall = true) (hp : squallPeriod s ≠ 0) (hh : squallHold s ≠ 0) {u : State}
    (hu : u = reachLocal (windowStart s) s) : exec .backpressureWindow s = .next
      ((squallPorts u).foldl (fun t p => modPort p (fun x => { x with heldUntil := u.time + micro (squallHold s) }) t) (countApplied u)) := by
  subst hu
  have hon : ¬(!s.test.squall || squallPeriod s = 0 || squallHold s = 0) = true := by simp [hs, hp, hh]
  exact if_neg hon

theorem backpressureWindow_off (h : s.test.squall = false ∨ squallPeriod s = 0 ∨ squallHold s = 0) :
    exec .backpressureWindow s = .next s := by
  have hoff : (!s.test.squall || squallPeriod s = 0 || squallHold s = 0) = true := by rcases h with h | h | h <;> simp [h]
  exact if_pos hoff

end Sys2Proof.Machine
end

section
/-! SUPPORT. Links, relays, cages and the Slipstream's sending side at their events (R242, R251, R265, R371, R374, R534). -/

namespace Sys2Proof.Machine

variable {s : State}

/-! ### The arms of the dispatch for these events -/

theorem exec_sfpInsertion (cage : Nat) (readable : Bool) (level : Nat) (s : State) :
    exec (.sfpInsertion cage readable level) s = execSfpInsertion cage readable level s := rfl
theorem exec_slipstreamFragmentDone (port : Nat) (s : State) :
    exec (.slipstreamFragmentDone port) s = execSlipstreamFragmentDone port s := rfl

/-! ### Links (R371) -/

section
variable {port rate : Nat} {up : Bool}

theorem linkChange_down (h : s.module.state = .stowed ∨ s.module.state = .halted) : exec (.linkChange port up rate) s = .next s :=
  if_pos (by rcases h with h | h <;> simp [h])

variable (hs : s.module.state ≠ .stowed) (hh : s.module.state ≠ .halted)
include hs hh

theorem linkChange_slipstream (hp : port = 32 ∨ port = 33) : exec (.linkChange port up rate) s = .next (slipLink (port - 32) up s) :=
  (if_neg (by simp [hs, hh])).trans (if_pos (by simpa using hp))

variable (h32 : port ≠ 32) (h33 : port ≠ 33)
include h32 h33

theorem linkChange_internal (hi : internalPort port = true) : exec (.linkChange port up rate) s = .next s :=
  (if_neg (by simp [hs, hh])).trans ((if_neg (by simp [h32, h33])).trans (if_pos hi))

variable (hi : internalPort port = false) {u : State} (hu : u = ptpLink port up (portLink port up rate s))
include hi hu

theorem linkChange_fabric : exec (.linkChange port up rate) s =
    .next (if (portOf s port).up && !up && directionLost port u then startInauguration u else u) := by
  subst hu
  exact (if_neg (by simp [hs, hh])).trans ((if_neg (by simp [h32, h33])).trans (if_neg (ne_true_of_eq_false hi)))

theorem linkChange_directionLost (hd : ((portOf s port).up && !up && directionLost port u) = true) :
    exec (.linkChange port up rate) s = .next (startInauguration u) :=
  (linkChange_fabric hs hh h32 h33 hi hu).trans (congrArg _ (if_pos hd))

theorem linkChange_directionKept (hd : ((portOf s port).up && !up && directionLost port u) = false) :
    exec (.linkChange port up rate) s = .next u :=
  (linkChange_fabric hs hh h32 h33 hi hu).trans (congrArg _ (if_neg (ne_true_of_eq_false hd)))

end

/-! ### Relays (R374) -/

/-- The verdict on a relay turned over. -/
def relayTurned (r : Nat) (s : State) : State := modNet (fun n => { n with relayFaults := n.relayFaults ^^^ 2 ^ r }) s

section
variable {r : Nat} {closed : Bool}

theorem relayReadback_same (h : closed = s.net.relaysOpen ↔ hasBit s.net.relayFaults r = true) :
    exec (.relayReadback r closed) s = .next s := if_pos (propext h)

theorem relayReadback_faulted (hc : closed = s.net.relaysOpen) (hf : hasBit s.net.relayFaults r = false) :
    exec (.relayReadback r closed) s = .next (record .general 0x0A 0 (le 1 r ++ le 1 (bit closed)) (relayTurned r s)) :=
  (if_neg (by simp [hc, hf])).trans (congrArg _ (if_pos hc))

theorem relayReadback_cleared (hc : closed ≠ s.net.relaysOpen) (hf : hasBit s.net.relayFaults r = true) :
    exec (.relayReadback r closed) s = .next (relayTurned r s) :=
  (if_neg (by simp [hc, hf])).trans (congrArg _ (if_neg hc))

end

/-! ### Cages (R534) -/

/-- A cage noted with its power level and whether its transceiver can be read. -/
def cageNoted (cage level : Nat) (readable : Bool) (s : State) : State :=
  modNet (fun n => { n with cages := Tbl.put n.cages cage (level, readable) }) s

/-- The record of a cage that stays at Level I. -/
def recordCage (cage level : Nat) (readable : Bool) (s : State) : State :=
  record .general 0x0A (cagePort cage) (le 1 cage ++ le 1 (bit readable) ++ le 1 level) s

section
variable {cage level : Nat} {readable : Bool}

theorem sfpInsertion_runs (hl : level ≤ 2) : exec (.sfpInsertion cage true level) s = .next (cageNoted cage level true s) := by
  simp [exec_sfpInsertion, execSfpInsertion, cageNoted, hl]

variable (h : readable = false ∨ 2 < level)
include h

theorem sfpInsertion_held : exec (.sfpInsertion cage readable level) s = .next (recordCage cage level readable
    (if cagePort cage < 28 then modPort (cagePort cage) (fun x => { x with up := false }) (cageNoted cage 1 readable s)
     else modPair (fun q => { q with portsUp := q.portsUp &&& (3 - 2 ^ (cagePort cage - 32)) }) (cageNoted cage 1 readable s))) := by
  have hno : (readable && decide (level ≤ 2)) = false := by
    rcases h with h | h
    · simp [h]
    · simp [h.not_ge]
  simp only [exec_sfpInsertion, execSfpInsertion, hno]
  rfl

theorem sfpInsertion_heldFabric (hp : cagePort cage < 28) : exec (.sfpInsertion cage readable level) s = .next
    (recordCage cage level readable (modPort (cagePort cage) (fun x => { x with up := false }) (cageNoted cage 1 readable s))) :=
  (sfpInsertion_held h).trans (by rw [if_pos hp])

theorem sfpInsertion_heldSlipstream (hp : 28 ≤ cagePort cage) : exec (.sfpInsertion cage readable level) s = .next
    (recordCage cage level readable
      (modPair (fun q => { q with portsUp := q.portsUp &&& (3 - 2 ^ (cagePort cage - 32)) }) (cageNoted cage 1 readable s))) :=
  (sfpInsertion_held h).trans (by rw [if_neg hp.not_gt])

end

/-! ### The Slipstream's sending side (R242, R265) -/

section
variable {port : Nat}

theorem slipstreamFragmentDone_noPort (h : 2 ≤ port) : exec (.slipstreamFragmentDone port) s = .next s := if_pos h

variable (h : port < 2)
include h

theorem slipstreamFragmentDone_held {t : Nat} (ha : (slipPort s port).startAt = some t) :
    exec (.slipstreamFragmentDone port) s = .next (startFragment port (reach t s)) := by
  simp only [exec_slipstreamFragmentDone, execSlipstreamFragmentDone, if_neg h.not_ge, ha]

theorem slipstreamFragmentDone_next (ha : (slipPort s port).startAt = none) : exec (.slipstreamFragmentDone port) s = .next
    (serveSlip port (modSlip port (fun x => { x with sending := false, lastAt := s.time }) s)) := by
  simp only [exec_slipstreamFragmentDone, execSlipstreamFragmentDone, if_neg h.not_ge, ha]

end

theorem healthReportSend_sends (h : slipLit s = true) : exec .healthReportSend s = .next (sendStatus s) := congrArg _ (if_pos h)

theorem healthReportSend_dark (h : slipLit s = false) : exec .healthReportSend s = .next s := congrArg _ (if_neg (ne_true_of_eq_false h))

end Sys2Proof.Machine
end

section
/-! SUPPORT. The events of the fabric, of its links and cages and of the Slipstream's sending side together. -/

namespace Sys2Proof.Machine

/-- Settles O58: each event in its cases. -/
theorem theFabricFollowsItsEvents : Obligations.TheFabricFollowsItsEvents := by
  refine ⟨?frameDroppedStream, ?frameDropped, ?frameStream, ?frameAdmitted, ?frameStopped, ?egressEnds, ?egressIdle, ?ages, ?agesAbsent,
    ?gates, ?gatesNone, ?takeover, ?takeoverNone, ?guardBand, ?recoveryResets, ?recoveryIdle, ?latent, ?latentAgain, ?recoveryAbsent,
    ?latentAbsent, ?linkSlipstream, ?linkLost, ?linkKept, ?linkInternal, ?linkDown, ?relayFaulted, ?relayCleared, ?relaySame, ?cage,
    ?cageFabric, ?cageSlipstream, ?window, ?windowOff, ?fragmentHeld, ?fragmentNext, ?fragmentNoPort, ?health, ?healthDark⟩
  case frameDroppedStream => exact fun p f cause s hr hd hc => frameReceive_droppedStream hr rfl hd hc
  case frameDropped => exact fun p f cause s hr hd hc => frameReceive_droppedOther hr rfl hd hc
  case frameStream => exact fun p f s hr hd ht => frameReceive_stream hr rfl hd ht
  case frameAdmitted => exact fun p f s hr hd ht => frameReceive_admitted hr rfl hd ht
  case frameStopped => exact fun p f s h => frameReceive_stopped h
  case egressEnds => exact fun p t s h => egressFrameDone_ends h
  case egressIdle => exact fun p s h => egressFrameDone_idle h
  case ages => exact fun mac vlan e s h => fdbAging_ages h
  case agesAbsent => exact fun mac vlan s h => fdbAging_absent h
  case gates => exact fun p g s h => gateEvent_changes h rfl
  case gatesNone => exact fun p s h => gateEvent_none h
  case takeover => exact fun p g s h => gateListTakeover_takes h
  case takeoverNone => exact fun p s h => gateListTakeover_none h
  case guardBand => exact fun p instant s => rfl
  case recoveryResets => exact fun n f s h hr hh => frerResetTimeout_resets h hr hh
  case recoveryIdle => exact fun n f s h hi => frerResetTimeout_idle h hi
  case latent => exact fun n path t f s h hp hr hl => frerLatentError_found h hp hr hl
  case latentAgain => exact fun n path t f s h hp _ hl => frerLatentError_again h hp hl
  case recoveryAbsent => exact fun n s h => frerResetTimeout_absent h
  case latentAbsent => exact fun n path s h => frerLatentError_absent h
  case linkSlipstream => exact fun port up rate s hs hh hp => linkChange_slipstream hs hh hp
  case linkLost => exact fun port up rate s hs hh h32 h33 hi hd => linkChange_directionLost hs hh h32 h33 hi rfl hd
  case linkKept => exact fun port up rate s hs hh h32 h33 hi hd => linkChange_directionKept hs hh h32 h33 hi rfl hd
  case linkInternal => exact fun port up rate s hs hh h32 h33 hi => linkChange_internal hs hh h32 h33 hi
  case linkDown => exact fun port up rate s h => linkChange_down h
  case relayFaulted => exact fun r closed s hc hf => relayReadback_faulted hc hf
  case relayCleared => exact fun r closed s hc hf => relayReadback_cleared hc hf
  case relaySame => exact fun r closed s h => relayReadback_same h
  case cage => exact fun cage level s hl => sfpInsertion_runs hl
  case cageFabric => exact fun cage level readable s h hp => sfpInsertion_heldFabric h hp
  case cageSlipstream => exact fun cage level readable s h hp => sfpInsertion_heldSlipstream h hp
  case window => exact fun s hs hp hh => backpressureWindow_holds hs hp hh rfl
  case windowOff => exact fun s h => backpressureWindow_off h
  case fragmentHeld => exact fun port t s h ha => slipstreamFragmentDone_held h ha
  case fragmentNext => exact fun port s h ha => slipstreamFragmentDone_next h ha
  case fragmentNoPort => exact fun port s h => slipstreamFragmentDone_noPort h
  case health => exact fun s h => healthReportSend_sends h
  case healthDark => exact fun s h => healthReportSend_dark h

end Sys2Proof.Machine
end

section
/-! SUPPORT. The reports of the MVB commands (Table 12.4): the bridge, the devices of a bus and the counters of a bus (R418, R422). -/

namespace Sys2Proof.Machine

open Sys2Proof.Claims

/-! ### The pieces of MVB_STATUS and MVB_COUNTERS -/

/-- What MVB_STATUS lists, in the order of the table: width and value of each. -/
def mvbStatusPieces (t : State) : List (Nat × Nat) :=
  let x := busOf t 0
  let y := busOf t 1
  [(1, bit x.enabled), (1, bit x.candidate), (1, bit x.master), (1, x.lines), (2, worstLoad ((busPorts t 0).map fun p => p.2.record)),
    (1, bit y.enabled), (1, bit y.candidate), (1, bit y.master), (1, y.lines), (2, worstLoad ((busPorts t 1).map fun p => p.2.record)),
    (2, t.mvb.ports.length), (2, t.mvb.maps.length), (1, t.mvb.semaphores.length),
    (2, (t.mvb.ports.filter fun p => p.2.write.isSome).length),
    (2, (t.mvb.bus0.devices.filter fun d => !d.2.present).length + (t.mvb.bus1.devices.filter fun d => !d.2.present).length)]

/-- What MVB_COUNTERS lists of a bus, in the order of the table: width and value of each. -/
def mvbCounterPieces (x : MvbBus) : List (Nat × Nat) :=
  [(8, x.framesSent), (8, x.framesReceived), (4, x.oneLine), (4, x.errorsA), (4, x.errorsB), (4, x.gained), (4, x.passed), (4, x.confirmed),
    (4, x.timedOut), (4, x.farErrors), (4, x.bindingFailures), (4, x.readsTimedOut), (4, x.semaphoresLost), (4, x.mapWithoutData)]

theorem mvbStatus_body {e : Entry} (hl : e.payload.length = 0) (t : State) :
    cmdMvbStatus.body e t = answers ((mvbStatusPieces t).flatMap fun p => le p.1 p.2) t := by
  refine (body_of_sized (c := cmdMvbStatus) rfl hl t).trans ?_
  simp [mvbStatusPieces]

theorem mvbCounters_body {e : Entry} (hl : e.payload.length = 1) (hb : e.field 0 1 ≤ 1) (t : State) :
    cmdMvbCounters.body e t = answers ((mvbCounterPieces (busOf t (e.field 0 1))).flatMap fun p => le p.1 p.2) t := by
  refine (body_of_sized (c := cmdMvbCounters) rfl hl t).trans ((if_neg hb.not_gt).trans ?_)
  simp [mvbCounterPieces]

theorem isReport_mvbStatus (t : State) :
    IsReport 21 (fieldsFrom 0 (mvbStatusPieces t)) ((mvbStatusPieces t).flatMap fun p => le p.1 p.2) := by
  have hw : ((mvbStatusPieces t).map Prod.fst).sum = 21 := by simp [mvbStatusPieces]
  rw [← hw]
  exact isReport_flatMap_le (mvbStatusPieces t)

/-! ### The commands -/

/-- Settles O37: MVB_STATUS and MVB_COUNTERS are made of their pieces; MVB_DEVICES is the body of its command. -/
theorem mvbReportsGiveWhatTheTableLists : Obligations.MvbReportsGiveWhatTheTableLists := by
  refine ⟨reports_of_body cmdMvbStatus (fun _ _ => rfl) rfl rfl (fun _ _ _ => rfl) fun e t h => ?_,
    answers_of_body cmdMvbDevices (fun _ _ => rfl) rfl rfl (fun _ _ _ => rfl) fun e t h => ?_,
    reports_of_body cmdMvbCounters (fun _ _ => rfl) rfl rfl (fun _ _ _ => rfl) fun e t h => ?_⟩
  -- MVB_STATUS
  · refine ⟨_, mvbStatus_body (of_decide_eq_true h) t, ?_⟩
    simpa only [mvbStatusPieces, fieldsFrom, Nat.reduceAdd] using isReport_mvbStatus t
  -- MVB_DEVICES
  · simp only [Bool.and_eq_true, decide_eq_true_eq] at h
    obtain ⟨⟨⟨hl, hb⟩, h1⟩, h256⟩ := h
    refine (body_of_sized (c := cmdMvbDevices) rfl hl t).trans (if_neg ?_)
    simp only [Bool.or_eq_true, decide_eq_true_eq]
    omega
  -- MVB_COUNTERS
  · simp only [Bool.and_eq_true, decide_eq_true_eq] at h
    obtain ⟨hl, hb⟩ := h
    exact ⟨_, mvbCounters_body hl hb t, isReport_flatMap_le (mvbCounterPieces _)⟩

end Sys2Proof.Machine
end

section
/-! SUPPORT. The commands that configure the buses, the ports and the maps of the MVB bridge (Table 12.4; R417 to R419, R422, R430, R432). -/

namespace Sys2Proof.Machine

open Sys2Proof.Claims

/-- Settles O38: each answer is the body of its command under its premise; MVB_MAP removes a map or makes one. -/
theorem mvbBusesAndPortsAreConfigured : Obligations.MvbBusesAndPortsAreConfigured := by
  refine ⟨answers_of_body cmdMvbConfigure (fun _ _ => rfl) rfl rfl (fun _ _ _ => rfl) fun e t h => ?_,
    answers_of_body cmdMvbPortConfigure (fun _ _ => rfl) rfl rfl (fun _ _ _ => rfl) fun e t h => ?_,
    answers_of_body cmdMvbPortControl (fun _ _ => rfl) rfl rfl (fun _ _ _ => rfl) fun e t h => ?_,
    answers_of_body cmdMvbMap (fun _ _ => rfl) rfl rfl (fun _ _ _ => rfl) fun e t h => ?_⟩
  -- MVB_CONFIGURE
  · simp only [Bool.and_eq_true, Bool.not_eq_true', decide_eq_true_eq, bne_iff_ne] at h
    obtain ⟨⟨⟨⟨⟨⟨⟨⟨⟨⟨⟨⟨hl, h1⟩, hn⟩, hb⟩, hon⟩, hc⟩, h16⟩, hp⟩, hd⟩, hd'⟩, hs⟩, hfree⟩, hz⟩ := h
    refine (if_neg ?_).trans ((notStandby_of_ne hs).trans (if_neg (ne_true_of_eq_false hfree)))
    simp only [hz, Bool.not_true, Bool.or_false, Bool.or_eq_true, decide_eq_true_eq, bne_iff_ne]
    omega
  -- MVB_PORT_CONFIGURE
  · simp only [Bool.and_eq_true, Bool.or_eq_true, Bool.not_eq_true', decide_eq_true_eq, bne_iff_ne] at h
    obtain ⟨⟨⟨⟨⟨hl, hh⟩, hk⟩, hs⟩, hb⟩, hz⟩ := h
    refine (body_of_sized (c := cmdMvbPortConfigure) rfl hl t).trans
      ((if_neg ?_).trans ((notStandby_of_ne hs).trans (if_neg (ne_true_of_eq_false hb))))
    rcases hk with ⟨hr, hok⟩ | ⟨hr, hp⟩
    · simp [hh.not_ge, hz, hr, hok]
    · simp [hh.not_ge, hz, hr, Option.isSome_iff_ne_none.mp hp]
  -- MVB_PORT_CONTROL
  · simp only [Bool.and_eq_true, decide_eq_true_eq, bne_iff_ne, Option.isSome_iff_exists] at h
    obtain ⟨⟨⟨hl, p, hp⟩, h1⟩, hs⟩ := h
    refine (body_of_sized (c := cmdMvbPortControl) rfl hl t).trans ?_
    simp only [hp]
    exact (if_neg h1.not_gt).trans (notStandby_of_ne hs)
  -- MVB_MAP
  · simp only [Bool.and_eq_true, decide_eq_true_eq, bne_iff_ne] at h
    obtain ⟨⟨⟨⟨⟨⟨⟨⟨hl, h1⟩, hn⟩, hr⟩, hslot⟩, hbus⟩, hs⟩, hk⟩, hz⟩ := h
    refine (if_neg ?_).trans ((notStandby_of_ne hs).trans ?_)
    · simp only [hbus, hz, Bool.not_true, Bool.or_false, Bool.or_eq_true, decide_eq_true_eq, bne_iff_ne]
      omega
    · by_cases hremove : e.field 4 1 = 1
      · have hm : Tbl.has t.mvb.maps (e.field 0 2) = true := (if_pos hremove).symm.trans hk
        exact (if_pos hremove).trans ((if_neg (by simp [hm])).trans (if_pos hremove).symm)
      · exact (if_neg hremove).trans (if_neg hremove).symm

end Sys2Proof.Machine
end

section
/-! SUPPORT. The commands on the data of the MVB bridge: writes, reads and semaphores (Table 12.4; R421, R423 to R428). -/

namespace Sys2Proof.Machine

open Sys2Proof.Claims

/-- Settles O39: each answer is the body of its command under its premise. -/
theorem mvbDataIsWrittenAndRead : Obligations.MvbDataIsWrittenAndRead := by
  refine ⟨answers_of_body cmdMvbWrite (fun _ _ => rfl) rfl rfl (fun _ _ _ => rfl) fun e t h => ?_,
    answers_of_body cmdMvbRead (fun _ _ => rfl) rfl rfl (fun _ _ _ => rfl) fun e t h => ?_,
    answers_of_body cmdMvbLock (fun _ _ => rfl) rfl rfl (fun _ _ _ => rfl) fun e t h => ?_,
    answers_of_body cmdMvbUnlock (fun _ _ => rfl) rfl rfl (fun _ _ _ => rfl) fun e t h => ?_⟩
  -- MVB_WRITE
  · simp only [Bool.and_eq_true, decide_eq_true_eq, bne_iff_ne, Option.any_eq_true] at h
    obtain ⟨⟨⟨h4, p, hp, hl⟩, hs⟩, hz⟩ := h
    refine (if_neg (by simp [h4.not_gt, hz])).trans ?_
    simp only [hp]
    exact (if_neg (by simp [hl])).trans (notStandby_of_ne hs)
  -- MVB_READ
  · simp only [Bool.and_eq_true, decide_eq_true_eq, Option.any_eq_true] at h
    obtain ⟨⟨hl, p, hp, hon⟩, hbus⟩ := h
    refine (body_of_sized (c := cmdMvbRead) rfl hl t).trans ?_
    simp only [hp]
    exact (if_neg (by simp [hbus])).trans (if_neg (by simp [hon]))
  -- MVB_LOCK
  · simp only [Bool.and_eq_true, decide_eq_true_eq, bne_iff_ne] at h
    obtain ⟨⟨⟨⟨⟨⟨hl, h1⟩, h8⟩, ht⟩, hbus⟩, hports⟩, hs⟩ := h
    refine (if_neg ?_).trans ((if_neg (by simp [hports])).trans (notStandby_of_ne hs))
    simp only [hbus, Bool.not_true, Bool.or_false, Bool.or_eq_true, decide_eq_true_eq, bne_iff_ne]
    omega
  -- MVB_UNLOCK
  · simp only [Bool.and_eq_true, decide_eq_true_eq, bne_iff_ne, Option.any_eq_true, Option.isNone_iff_eq_none] at h
    obtain ⟨⟨⟨hl, h1⟩, hs⟩, x, hx, hholder, hfree⟩ := h
    refine (body_of_sized (c := cmdMvbUnlock) rfl hl t).trans ((if_neg h1.not_gt).trans ((notStandby_of_ne hs).trans ?_))
    simp only [hx]
    exact if_neg (by simp [hholder, hfree])

end Sys2Proof.Machine
end

section
/-! SUPPORT. The MVB bridge at its frames, deadlines, semaphores and offers of mastership (R415, R420 to R424, R426, R429, R431, R434). -/

namespace Sys2Proof.Machine

variable {s : State}

/-! ### The arms of the dispatch for these events -/

theorem exec_mvbSinkStale (h : Nat) (s : State) : exec (.mvbSinkStale h) s = execMvbSinkStale h s := rfl
theorem exec_mvbWriteDeadline (h : Nat) (s : State) : exec (.mvbWriteDeadline h) s = execMvbWriteDeadline h s := rfl
theorem exec_mvbReadTimeout (h : Nat) (s : State) : exec (.mvbReadTimeout h) s = execMvbReadTimeout h s := rfl
theorem exec_mvbBindingWriteFailure (h : Nat) (s : State) : exec (.mvbBindingWriteFailure h) s = execMvbBindingWriteFailure h s := rfl
theorem exec_mvbLockExpiry (n : Nat) (s : State) : exec (.mvbLockExpiry n) s = execMvbLockExpiry n s := rfl

/-! ### Basic periods of the master (R415, R421, R422) -/

/-- A master's basic period has begun: answers that are missing are counted, and the time goes on to the period's start. -/
def periodBegun (b : Nat) (s : State) : State := countMissed b (reach ((busOf s b).periodAt + milli 1) s)

/-- The ports that a bus's basic period of a number polls. -/
def portsDue (b period : Nat) (s : State) : Tbl MvbPort :=
  (busPorts s b).filter fun p => p.2.enabled && period % p.2.record.period = p.2.record.phase

/-- The devices whose status a bus's basic period of a number polls. -/
def devicesDue (b period statusPeriod : Nat) (s : State) : List Nat :=
  ((List.range (statusList s b).length).filter fun k => period % statusPeriod = k % statusPeriod).filterMap fun k => (statusList s b)[k]?

section
variable {b : Nat}

theorem mvbBasicPeriod_idle (h : busRuns s b = false ∨ (busOf s b).master = false ∨ s.pair.role = .standby) :
    exec (.mvbBasicPeriod b) s = .next s := if_pos (by rcases h with h | h | h <;> simp [h])

theorem mvbBasicPeriod_polls (hr : busRuns s b = true) (hm : (busOf s b).master = true) (hs : s.pair.role ≠ .standby) {u v : State}
    (hu : u = periodBegun b s)
    (hv : v = (portsDue b (busOf s b).periods u).foldl (fun t p => sendPoll b p.2.record.size (handleAddress p.1) t)
      (modBus b (fun y => { y with periods := y.periods + 1, periodAt := u.time }) u)) :
    exec (.mvbBasicPeriod b) s = .next (eventPhase b ((devicesDue b (busOf s b).periods (busOf s b).statusPeriod v).foldl
      (fun t d => if d = ownDevice t b then sendPoll b 15 d t else markPolled b d (sendPoll b 15 d t)) v)) := by
  subst hu hv
  exact if_neg (by simp [hr, hm, hs])

end

/-! ### Master frames (R415, R431) -/

/-- A master frame of another master, counted; answers that are missing are counted too. -/
def masterFrameCounted (b : Nat) (s : State) : State :=
  countMissed b (modBus b (fun x => { x with framesReceived := x.framesReceived + 1 }) s)

section
variable {b fcode address : Nat}

theorem mvbMasterFrame_stopped (h : busRuns s b = false) : exec (.mvbMasterFrame b fcode address) s = .next s := if_pos (by simp [h])

variable (hr : busRuns s b = true) {u : State} (hu : u = masterFrameCounted b s)
include hr hu

theorem mvbMasterFrame_ownStatus (ha : address = ownDevice u b) : exec (.mvbMasterFrame b 15 address) s =
    .next (emit (.mvb b 15 address (le 2 (drawn u))) (modBus b (fun x => { x with framesSent := x.framesSent + 1 }) (afterDraw u))) := by
  subst hu
  exact (if_neg (by simp [hr])).trans ((if_pos rfl).trans (if_pos ha))

theorem mvbMasterFrame_otherStatus (ha : address ≠ ownDevice u b) : exec (.mvbMasterFrame b 15 address) s =
    .next (if (statusList u b).contains address then markPolled b address u else u) := by
  subst hu
  exact (if_neg (by simp [hr])).trans ((if_pos rfl).trans (if_neg ha))

theorem mvbMasterFrame_listed (ha : address ≠ ownDevice u b) (hl : (statusList u b).contains address = true) :
    exec (.mvbMasterFrame b 15 address) s = .next (markPolled b address u) :=
  (mvbMasterFrame_otherStatus hr hu ha).trans (congrArg _ (if_pos hl))

theorem mvbMasterFrame_unlisted (ha : address ≠ ownDevice u b) (hl : (statusList u b).contains address = false) :
    exec (.mvbMasterFrame b 15 address) s = .next u :=
  (mvbMasterFrame_otherStatus hr hu ha).trans (congrArg _ (if_neg (ne_true_of_eq_false hl)))

variable (hf : fcode ≠ 15)
include hf

theorem mvbMasterFrame_noPort (hp : mvbPort u (b * 4096 + address) = none) : exec (.mvbMasterFrame b fcode address) s = .next u := by
  subst hu
  unfold masterFrameCounted at hp ⊢
  refine (if_neg (by simp [hr])).trans ((if_neg hf).trans ?_)
  simp only [hp]

variable {p : MvbPort} (hp : mvbPort u (b * 4096 + address) = some p)
include hp

theorem mvbMasterFrame_port : exec (.mvbMasterFrame b fcode address) s =
    .next (if p.record.size = fcode then transmit (b * 4096 + address) u else u) := by
  subst hu
  unfold masterFrameCounted at hp ⊢
  refine (if_neg (by simp [hr])).trans ((if_neg hf).trans ?_)
  simp only [hp]

theorem mvbMasterFrame_transmits (hz : p.record.size = fcode) :
    exec (.mvbMasterFrame b fcode address) s = .next (transmit (b * 4096 + address) u) :=
  (mvbMasterFrame_port hr hu hf hp).trans (congrArg _ (if_pos hz))

theorem mvbMasterFrame_otherSize (hz : p.record.size ≠ fcode) : exec (.mvbMasterFrame b fcode address) s = .next u :=
  (mvbMasterFrame_port hr hu hf hp).trans (congrArg _ (if_neg hz))

end

/-! ### Slave frames (R413, R420 to R424) -/

/-- A slave frame's lines noted, and counted by line. -/
def linesCounted (b : Nat) (lineA lineB : Bool) (s : State) : State :=
  modBus b (fun x => { x with lines := bit lineA + 2 * bit lineB, oneLine := x.oneLine + bit (lineA != lineB),
                              errorsA := x.errorsA + bit (!lineA), errorsB := x.errorsB + bit (!lineB) }) s

/-- A slave frame that has come on a line, counted. -/
def slaveFrameCounted (b : Nat) (lineA lineB : Bool) (s : State) : State :=
  modBus b (fun x => { x with framesReceived := x.framesReceived + 1 }) (linesCounted b lineA lineB s)

/-- The lines of a frame as MVB_READ reports them (Table 12.4): both, A alone or B alone. -/
def lineCode (lineA lineB : Bool) : Nat := if lineA && lineB then 0 else if lineA then 1 else 2

/-- The data of a sink taken from a frame. -/
def sinkTakes (h : Nat) (data : Bytes) (lineA lineB : Bool) (now : Nat) (s : State) : State :=
  pulse 4 h (modMvbPort h (fun q => { q with data := data, receivedAt := some now, oneLine := lineA != lineB, fresh := true }) s)

section
variable {b fcode address : Nat} {data : Bytes} {lineA lineB : Bool}

theorem mvbSlaveFrame_stopped (h : busRuns s b = false) : exec (.mvbSlaveFrame b fcode address data lineA lineB) s = .next s :=
  if_pos (by simp [h])

theorem mvbSlaveFrame_noLine (hr : busRuns s b = true) :
    exec (.mvbSlaveFrame b fcode address data false false) s = .next (linesCounted b false false s) :=
  (if_neg (by simp [hr])).trans (if_pos rfl)

variable (hr : busRuns s b = true) (hline : lineA = true ∨ lineB = true) {u : State} (hu : u = slaveFrameCounted b lineA lineB s)
include hr hline hu

theorem mvbSlaveFrame_status : exec (.mvbSlaveFrame b 15 address data lineA lineB) s = .next
    (statusSeen b address (beNat (data.take 2))
      (modBus b (fun x => { x with devices := Tbl.put x.devices address ⟨true, beNat (data.take 2), 0, false⟩ }) u)) := by
  subst hu
  exact (if_neg (by simp [hr])).trans ((if_neg (by rcases hline with h | h <;> simp [h])).trans (if_pos rfl))

variable (hf : fcode ≠ 15)
include hf

theorem mvbSlaveFrame_noPort (hp : mvbPort u (b * 4096 + address) = none) :
    exec (.mvbSlaveFrame b fcode address data lineA lineB) s = .next u := by
  subst hu
  unfold slaveFrameCounted linesCounted at hp ⊢
  refine (if_neg (by simp [hr])).trans ((if_neg (by rcases hline with h | h <;> simp [h])).trans ((if_neg hf).trans ?_))
  simp only [hp]

variable {p : MvbPort} (hp : mvbPort u (b * 4096 + address) = some p)
include hp

theorem mvbSlaveFrame_port : exec (.mvbSlaveFrame b fcode address data lineA lineB) s =
    if p.record.size != fcode || data.length != p.record.bytes || !p.enabled then .next u
    else .next (echoSeen (b * 4096 + address) data (serveReads (b * 4096 + address) data (lineCode lineA lineB)
      (if p.record.direction = 2 then sinkTakes (b * 4096 + address) data lineA lineB s.time u else u))) := by
  subst hu
  unfold slaveFrameCounted linesCounted at hp ⊢
  refine (if_neg (by simp [hr])).trans ((if_neg (by rcases hline with h | h <;> simp [h])).trans ((if_neg hf).trans ?_))
  simp only [hp]
  rfl

theorem mvbSlaveFrame_unheeded (h : p.record.size ≠ fcode ∨ data.length ≠ p.record.bytes ∨ p.enabled = false) :
    exec (.mvbSlaveFrame b fcode address data lineA lineB) s = .next u :=
  (mvbSlaveFrame_port hr hline hu hf hp).trans (if_pos (by rcases h with h | h | h <;> simp [h]))

variable (hz : p.record.size = fcode) (hl : data.length = p.record.bytes) (hon : p.enabled = true)
include hz hl hon

theorem mvbSlaveFrame_heeded : exec (.mvbSlaveFrame b fcode address data lineA lineB) s = .next
    (echoSeen (b * 4096 + address) data (serveReads (b * 4096 + address) data (lineCode lineA lineB)
      (if p.record.direction = 2 then sinkTakes (b * 4096 + address) data lineA lineB s.time u else u))) :=
  (mvbSlaveFrame_port hr hline hu hf hp).trans (if_neg (by simp [hz, hl, hon]))

theorem mvbSlaveFrame_sink (hd : p.record.direction = 2) : exec (.mvbSlaveFrame b fcode address data lineA lineB) s = .next
    (echoSeen (b * 4096 + address) data (serveReads (b * 4096 + address) data (lineCode lineA lineB)
      (sinkTakes (b * 4096 + address) data lineA lineB s.time u))) :=
  (mvbSlaveFrame_heeded hr hline hu hf hp hz hl hon).trans (by rw [if_pos hd])

theorem mvbSlaveFrame_noSink (hd : p.record.direction ≠ 2) : exec (.mvbSlaveFrame b fcode address data lineA lineB) s = .next
    (echoSeen (b * 4096 + address) data (serveReads (b * 4096 + address) data (lineCode lineA lineB) u)) :=
  (mvbSlaveFrame_heeded hr hline hu hf hp hz hl hon).trans (by rw [if_neg hd])

end

/-! ### Freshness, deadlines and time-outs of a port (R420, R424, R426, R434) -/

section
variable {h : Nat}

theorem mvbSinkStale_noPort (hp : mvbPort s h = none) : exec (.mvbSinkStale h) s = .next s := by
  simp only [exec_mvbSinkStale, execMvbSinkStale, hp]

theorem mvbWriteDeadline_noPort (hp : mvbPort s h = none) : exec (.mvbWriteDeadline h) s = .next s := by
  simp only [exec_mvbWriteDeadline, execMvbWriteDeadline, hp]

theorem mvbReadTimeout_noPort (hp : mvbPort s h = none) : exec (.mvbReadTimeout h) s = .next s := by
  simp only [exec_mvbReadTimeout, execMvbReadTimeout, hp]

theorem mvbBindingWriteFailure_noPort (hp : mvbPort s h = none) : exec (.mvbBindingWriteFailure h) s = .next s := by
  simp only [exec_mvbBindingWriteFailure, execMvbBindingWriteFailure, hp]

variable {p : MvbPort} (hp : mvbPort s h = some p)
include hp

theorem mvbSinkStale_stale (hf : p.fresh = true) (hd : p.record.direction = 2) : exec (.mvbSinkStale h) s = .next
    (modMvbPort h (fun q => { q with fresh := false }) (reach (p.receivedAt.getD 0 + milli p.record.freshness) s)) := by
  simp only [exec_mvbSinkStale, execMvbSinkStale, hp]
  exact if_pos (by simp [hf, hd])

theorem mvbSinkStale_idle (hi : p.fresh = false ∨ p.record.direction ≠ 2) : exec (.mvbSinkStale h) s = .next s := by
  simp only [exec_mvbSinkStale, execMvbSinkStale, hp]
  exact if_neg (by rcases hi with hi | hi <;> simp [hi])

theorem mvbWriteDeadline_idle (hw : p.write = none) : exec (.mvbWriteDeadline h) s = .next s := by
  simp only [exec_mvbWriteDeadline, execMvbWriteDeadline, hp, hw]

theorem mvbWriteDeadline_sent {w : MvbWriteSt} {t : Nat} (hw : p.write = some w) (ht : w.sent = some t) : exec (.mvbWriteDeadline h) s =
    .next (finishWrite h (if w.differed then stFarError else stFarTimeout) w (reach (t + milli (writeTimeout s p.record)) s)) := by
  simp only [exec_mvbWriteDeadline, execMvbWriteDeadline, hp, hw, ht]

theorem mvbWriteDeadline_unsent {w : MvbWriteSt} (hw : p.write = some w) (ht : w.sent = none) : exec (.mvbWriteDeadline h) s =
    .next (finishWrite h stFarTimeout w (reach (w.granted + 2 * milli (writeTimeout s p.record)) s)) := by
  simp only [exec_mvbWriteDeadline, execMvbWriteDeadline, hp, hw, ht]

theorem mvbReadTimeout_idle (hr : p.reads = []) : exec (.mvbReadTimeout h) s = .next s := by
  simp only [exec_mvbReadTimeout, execMvbReadTimeout, hp, hr]

theorem mvbReadTimeout_ends {r : Nat × Nat} {rest : Tbl Nat} (hr : p.reads = r :: rest) : exec (.mvbReadTimeout h) s = .next
    (completeEntry r.1 stFarTimeout [] (modBus (handleBus h) (fun b => { b with readsTimedOut := b.readsTimedOut + 1 })
      (modMvbPort h (fun q => { q with reads := rest }) (reach (r.2 + milli (2 * p.record.period + 1)) s)))) := by
  simp only [exec_mvbReadTimeout, execMvbReadTimeout, hp, hr]

theorem mvbBindingWriteFailure_records {t : Nat} (hu : p.unconfirmedSince = some t) (hf : p.failed = false) :
    exec (.mvbBindingWriteFailure h) s = .next
      (recordReel 0x0B h (le 2 h) (modBus (handleBus h) (fun b => { b with bindingFailures := b.bindingFailures + 1 })
        (modMvbPort h (fun q => { q with failed := true }) (reach (t + milli (writeTimeout s p.record)) s)))) := by
  simp only [exec_mvbBindingWriteFailure, execMvbBindingWriteFailure, hp, hu]
  exact if_neg (ne_true_of_eq_false hf)

theorem mvbBindingWriteFailure_idle (hi : p.unconfirmedSince = none ∨ p.failed = true) : exec (.mvbBindingWriteFailure h) s = .next s := by
  simp only [exec_mvbBindingWriteFailure, execMvbBindingWriteFailure, hp]
  cases hu : p.unconfirmedSince with
  | none => rfl
  | some t => exact if_pos (hi.resolve_left (by simp [hu]))

end

/-! ### Semaphores and mastership (R415, R429, R431) -/

theorem mvbLockExpiry_loses {n : Nat} {x : Semaphore} (h : Tbl.find s.mvb.semaphores n = some x) :
    exec (.mvbLockExpiry n) s = .next (loseSemaphore n 0x0A14 (reach x.expires s)) := by
  simp only [exec_mvbLockExpiry, execMvbLockExpiry, h]

theorem mvbLockExpiry_absent {n : Nat} (h : Tbl.find s.mvb.semaphores n = none) : exec (.mvbLockExpiry n) s = .next s := by
  simp only [exec_mvbLockExpiry, execMvbLockExpiry, h]

section
variable {b : Nat}

theorem mvbMastershipOffer_stopped (h : busRuns s b = false) : exec (.mvbMastershipOffer b) s = .next s := if_pos (by simp [h])

variable (hr : busRuns s b = true)
include hr

theorem mvbMastershipOffer_taken (hc : (busOf s b).candidate = true) (hs : s.pair.role ≠ .standby) (hm : (busOf s b).master = false) :
    exec (.mvbMastershipOffer b) s =
      .next (modBus b (fun x => { x with master := true, gained := x.gained + 1, periods := 0, periodAt := s.time }) s) :=
  (if_neg (by simp [hr])).trans (if_pos (by simp [hc, hs, hm]))

theorem mvbMastershipOffer_passed (h : (busOf s b).candidate = false ∨ s.pair.role = .standby ∨ (busOf s b).master = true) :
    exec (.mvbMastershipOffer b) s = .next (modBus b (fun x => { x with passed := x.passed + 1 }) s) :=
  (if_neg (by simp [hr])).trans (if_neg (by rcases h with h | h | h <;> simp [h]))

end

end Sys2Proof.Machine
end

section
/-! SUPPORT. The messages of the two PTP instances at their events (R438 to R441). -/

namespace Sys2Proof.Machine

variable {s : State}

/-! ### The arms of the dispatch for these events -/

theorem exec_ptpPdelay (p delay : Nat) (capable : Bool) (s : State) : exec (.ptpPdelay p delay capable) s = execPtpPdelay p delay capable s := rfl

/-! ### Sync messages (R441) -/

/-- A Sync of the grandmaster of an instance: counted with its Follow_Up at the SLAVE ports, its arbitrary-timescale flag kept. -/
def syncTaken (k : PtpSource) (arb : Bool) (s : State) : State :=
  modInstance k (fun x => { x with arb := arb }) ((slavePorts s k).foldl (fun t p =>
    modPtpPort p (fun x => { x with syncReceived := x.syncReceived + 1, followUpReceived := x.followUpReceived + 1 }) t) s)

section
variable {k : PtpSource} {m : SyncMeasure}

theorem ptpSync_unheeded (h : fabricRuns s = false ∨ (instanceOf s k).grandmaster ≠ some m.grandmaster) :
    exec (.ptpSync k m) s = .next s := if_pos (by rcases h with h | h <;> simp [h])

variable (hr : fabricRuns s = true) (hg : (instanceOf s k).grandmaster = some m.grandmaster) {u : State} (hu : u = syncTaken k m.arb s)
include hr hg hu

theorem ptpSync_serves (hk : sourceInstance u = some k) : exec (.ptpSync k m) s = .next (servo k m u) := by
  subst hu
  exact (if_neg (by simp [hr, hg])).trans (if_pos hk)

theorem ptpSync_counts (hk : sourceInstance u ≠ some k) : exec (.ptpSync k m) s = .next u := by
  subst hu
  exact (if_neg (by simp [hr, hg])).trans (if_neg hk)

end

/-! ### Announce messages (R438, R440) -/

/-- An Announce counted at its port. -/
def announceCounted (p : Nat) (s : State) : State := modPtpPort p (fun x => { x with announceReceived := x.announceReceived + 1 }) s

section
variable {k : PtpSource} {p : Nat} {a : AnnounceMsg}

theorem ptpAnnounce_unheeded (h : fabricRuns s = false ∨ portInstance p ≠ some k) : exec (.ptpAnnounce k p a) s = .next s :=
  if_pos (by rcases h with h | h <;> simp [h])

theorem ptpAnnounceTimeout_unheeded (h : fabricRuns s = false ∨ portInstance p ≠ some k) : exec (.ptpAnnounceTimeout k p) s = .next s :=
  if_pos (by rcases h with h | h <;> simp [h])

variable (hr : fabricRuns s = true) (hk : portInstance p = some k)
include hr hk

theorem ptpAnnounce_selects (ha : a.selected = true) : exec (.ptpAnnounce k p a) s = .next
    (afterMaster (sourceMaster s) (modInstance k (fun x => { x with grandmaster := some a.grandmaster, stepsRemoved := a.steps, arb := a.arb })
      (selectPort k p (announceCounted p s)))) :=
  (if_neg (by simp [hr, hk])).trans (if_pos ha)

theorem ptpAnnounce_masters (ha : a.selected = false) : exec (.ptpAnnounce k p a) s = .next
    (modPtpPort p (fun x => { x with portState := if x.portState = ptpSlave then x.portState else ptpMaster }) (announceCounted p s)) :=
  (if_neg (by simp [hr, hk])).trans (if_neg (ne_true_of_eq_false ha))

theorem ptpAnnounceTimeout_loses : exec (.ptpAnnounceTimeout k p) s = .next
    (loseMaster k p ptpMaster (modPtpPort p (fun x => { x with announceTimeouts := x.announceTimeouts + 1 }) s)) :=
  if_neg (by simp [hr, hk])

end

/-! ### Peer delays (R438, R439) -/

section
variable {p delay : Nat} {capable : Bool}

theorem ptpPdelay_measured {k : PtpSource} (hr : fabricRuns s = true) (hk : portInstance p = some k) : exec (.ptpPdelay p delay capable) s =
    .next (modPtpPort p (fun x => { x with
      peerDelay := delay, asCapable := capable && (k = .etb || delay ≤ 800), pdelayReceived := x.pdelayReceived + 1 }) s) := by
  simp only [exec_ptpPdelay, execPtpPdelay, hk]
  exact if_pos hr

theorem ptpPdelay_unheeded (h : fabricRuns s = false ∨ portInstance p = none) : exec (.ptpPdelay p delay capable) s = .next s := by
  simp only [exec_ptpPdelay, execPtpPdelay]
  cases hk : portInstance p with
  | none => rfl
  | some k => exact if_neg (ne_true_of_eq_false (h.resolve_right (by simp [hk])))

end

/-! ### Messages sent (R438) -/

/-- A message sent, counted at its port by its kind; a Sync goes with its Follow_Up. -/
def ptpSentCounted (kind : PtpKind) (x : PtpPort) : PtpPort :=
  match kind with
  | .sync => { x with syncSent := x.syncSent + 1, followUpSent := x.followUpSent + 1 }
  | .announce => { x with announceSent := x.announceSent + 1 }
  | .pdelay => { x with pdelaySent := x.pdelaySent + 1 }

section
variable {p : Nat} {kind : PtpKind}

theorem ptpMessageSend_sends (hr : fabricRuns s = true) (hp : (portInstance p).isSome = true) (hup : portUp s p = true)
    (hk : kind = .pdelay ∨ (ptpPort s p).portState = ptpMaster) :
    exec (.ptpMessageSend p kind) s = .next (emit (.ptp p kind) (modPtpPort p (ptpSentCounted kind) s)) :=
  if_neg (by rcases hk with hk | hk <;> simp [hr, Option.isSome_iff_ne_none.mp hp, hup, hk])

theorem ptpMessageSend_silent (h : fabricRuns s = false ∨ portInstance p = none ∨ portUp s p = false ∨
    kind ≠ .pdelay ∧ (ptpPort s p).portState ≠ ptpMaster) : exec (.ptpMessageSend p kind) s = .next s :=
  if_pos (by rcases h with h | h | h | ⟨hk, hm⟩ <;> simp [*])

end

end Sys2Proof.Machine
end

section
/-! SUPPORT. The events of the MVB bridge and of the PTP instances together. -/

namespace Sys2Proof.Machine

/-- Settles O59: each event in its cases. -/
theorem theMvbAndTheClockFollowTheirEvents : Obligations.TheMvbAndTheClockFollowTheirEvents := by
  refine ⟨?period, ?periodIdle, ?masterOwn, ?masterListed, ?masterUnlisted, ?masterTransmits, ?masterOtherSize, ?masterNoPort,
    ?masterStopped, ?slaveNoLine, ?slaveStatus, ?slaveSink, ?slaveNoSink, ?slaveUnheeded, ?slaveNoPort, ?slaveStopped, ?sinkStale,
    ?sinkIdle, ?writeSent, ?writeUnsent, ?writeIdle, ?readEnds, ?readIdle, ?bindingFails, ?bindingIdle, ?sinkNoPort, ?writeNoPort,
    ?readNoPort, ?bindingNoPort, ?lockExpires, ?lockAbsent, ?offerTaken, ?offerPassed, ?offerStopped, ?syncServes, ?syncCounts,
    ?syncUnheeded, ?announceSelects, ?announceMasters, ?announceTimeout, ?announceUnheeded, ?timeoutUnheeded, ?pdelay, ?pdelayUnheeded,
    ?sends, ?silent⟩
  case period => exact fun b s hr hm hs => mvbBasicPeriod_polls hr hm hs rfl rfl
  case periodIdle => exact fun b s h => mvbBasicPeriod_idle h
  case masterOwn => exact fun b address s hr ha => mvbMasterFrame_ownStatus hr rfl ha
  case masterListed => exact fun b address s hr ha hl => mvbMasterFrame_listed hr rfl ha hl
  case masterUnlisted => exact fun b address s hr ha hl => mvbMasterFrame_unlisted hr rfl ha hl
  case masterTransmits => exact fun b fcode address p s hr hf hp hz => mvbMasterFrame_transmits hr rfl hf hp hz
  case masterOtherSize => exact fun b fcode address p s hr hf hp hz => mvbMasterFrame_otherSize hr rfl hf hp hz
  case masterNoPort => exact fun b fcode address s hr hf hp => mvbMasterFrame_noPort hr rfl hf hp
  case masterStopped => exact fun b fcode address s h => mvbMasterFrame_stopped h
  case slaveNoLine => exact fun b fcode address data s hr => mvbSlaveFrame_noLine hr
  case slaveStatus => exact fun b address data lineA lineB s hr hline => mvbSlaveFrame_status hr hline rfl
  case slaveSink => exact fun b fcode address data lineA lineB p s hr hline hf hp hz hl hon hd =>
    mvbSlaveFrame_sink hr hline rfl hf hp hz hl hon hd
  case slaveNoSink => exact fun b fcode address data lineA lineB p s hr hline hf hp hz hl hon hd =>
    mvbSlaveFrame_noSink hr hline rfl hf hp hz hl hon hd
  case slaveUnheeded => exact fun b fcode address data lineA lineB p s hr hline hf hp h => mvbSlaveFrame_unheeded hr hline rfl hf hp h
  case slaveNoPort => exact fun b fcode address data lineA lineB s hr hline hf hp => mvbSlaveFrame_noPort hr hline rfl hf hp
  case slaveStopped => exact fun b fcode address data lineA lineB s h => mvbSlaveFrame_stopped h
  case sinkStale => exact fun h p s hp hf hd => mvbSinkStale_stale hp hf hd
  case sinkIdle => exact fun h p s hp hi => mvbSinkStale_idle hp hi
  case writeSent => exact fun h t p w s hp hw ht => mvbWriteDeadline_sent hp hw ht
  case writeUnsent => exact fun h p w s hp hw ht => mvbWriteDeadline_unsent hp hw ht
  case writeIdle => exact fun h p s hp hw => mvbWriteDeadline_idle hp hw
  case readEnds => exact fun h p r rest s hp hr => mvbReadTimeout_ends hp hr
  case readIdle => exact fun h p s hp hr => mvbReadTimeout_idle hp hr
  case bindingFails => exact fun h t p s hp hu hf => mvbBindingWriteFailure_records hp hu hf
  case bindingIdle => exact fun h p s hp hi => mvbBindingWriteFailure_idle hp hi
  case sinkNoPort => exact fun h s hp => mvbSinkStale_noPort hp
  case writeNoPort => exact fun h s hp => mvbWriteDeadline_noPort hp
  case readNoPort => exact fun h s hp => mvbReadTimeout_noPort hp
  case bindingNoPort => exact fun h s hp => mvbBindingWriteFailure_noPort hp
  case lockExpires => exact fun n x s h => mvbLockExpiry_loses h
  case lockAbsent => exact fun n s h => mvbLockExpiry_absent h
  case offerTaken => exact fun b s hr hc hs hm => mvbMastershipOffer_taken hr hc hs hm
  case offerPassed => exact fun b s hr h => mvbMastershipOffer_passed hr h
  case offerStopped => exact fun b s h => mvbMastershipOffer_stopped h
  case syncServes => exact fun k m s hr hg hk => ptpSync_serves hr hg rfl hk
  case syncCounts => exact fun k m s hr hg hk => ptpSync_counts hr hg rfl hk
  case syncUnheeded => exact fun k m s h => ptpSync_unheeded h
  case announceSelects => exact fun k p a s hr hk ha => ptpAnnounce_selects hr hk ha
  case announceMasters => exact fun k p a s hr hk ha => ptpAnnounce_masters hr hk ha
  case announceTimeout => exact fun k p s hr hk => ptpAnnounceTimeout_loses hr hk
  case announceUnheeded => exact fun k p a s h => ptpAnnounce_unheeded h
  case timeoutUnheeded => exact fun k p s h => ptpAnnounceTimeout_unheeded h
  case pdelay => exact fun p delay capable k s hr hk => ptpPdelay_measured hr hk
  case pdelayUnheeded => exact fun p delay capable s h => ptpPdelay_unheeded h
  case sends => exact fun p kind s hr hp hup hk => ptpMessageSend_sends hr hp hup hk
  case silent => exact fun p kind s h => ptpMessageSend_silent h

end Sys2Proof.Machine
end

section
/-! SUPPORT. Every command and event stays within the parts that `touches` names for it: the laws of the single operations put together. -/

namespace Sys2Proof.Machine

open Sys2Proof.Claims

/-- The mask that names the parts of a list. -/
def partMask (l : List Part) : Nat := l.foldl (fun m p => m ||| 2 ^ p.number) 0

theorem testBit_foldl_lor {l : List Part} {p : Part} (h : p ∉ l) (m : Nat) :
    (l.foldl (fun m q => m ||| 2 ^ q.number) m).testBit p.number = m.testBit p.number := by
  induction l generalizing m with
  | nil => rfl
  | cons q l ih =>
    obtain ⟨hq, hl⟩ := not_or.mp (mt List.mem_cons.mpr h)
    have hne : q.number ≠ p.number := fun e => hq (part_number_inj e).symm
    rw [List.foldl_cons, ih hl, Nat.testBit_lor, Nat.testBit_two_pow_of_ne hne, Bool.or_false]

theorem testBit_partMask {l : List Part} {p : Part} (h : p ∉ l) : (partMask l).testBit p.number = false :=
  (testBit_foldl_lor h 0).trans (Nat.zero_testBit _)

theorem covers_of_eq {m f : Nat} (h : m = f) : Covers m f := by
  rw [h]
  exact Nat.and_self f

/-- The arms of the dispatch, each by the law of its own operation: the law's mask is the one of the command's parts. -/
theorem exec_within (i : Instr) {s t : State} (h : Within (partMask (touches i)) s t) : WithinOut (partMask (touches i)) s (exec i t) :=
  match i with
  | .sessionLogin m => execSessionLogin_within h (covers_of_eq rfl) m
  | .sessionEnd m => execSessionEnd_within h (covers_of_eq rfl) m
  | .sessionList m => execSessionList_within h (covers_of_eq rfl) m
  | .identityRead m => execIdentityRead_within h (covers_of_eq rfl) m
  | .enrolRequest m => execEnrolRequest_within h (covers_of_eq rfl) m
  | .enrolInstall m => execEnrolInstall_within h (covers_of_eq rfl) m
  | .anchorRotate m => execAnchorRotate_within h (covers_of_eq rfl) m
  | .credentialSet m => execCredentialSet_within h (covers_of_eq rfl) m
  | .credentialRemove m => execCredentialRemove_within h (covers_of_eq rfl) m
  | .saInstall m => execSaInstall_within h (covers_of_eq rfl) m
  | .saRelease m => execSaRelease_within h (covers_of_eq rfl) m
  | .ownerLock m => execOwnerLock_within h (covers_of_eq rfl) m
  | .tamperAcknowledge m => execTamperAcknowledge_within h (covers_of_eq rfl) m
  | .lullStatus m => execLullStatus_within h (covers_of_eq rfl) m
  | .moduleStatus m => execModuleStatus_within h (covers_of_eq rfl) m
  | .moduleInfo m => execModuleInfo_within h (covers_of_eq rfl) m
  | .modeRequest m => execModeRequest_within h (covers_of_eq rfl) m
  | .moduleRestart m => execModuleRestart_within h (covers_of_eq rfl) m
  | .classControl m => execClassControl_within h (covers_of_eq rfl) m
  | .tokenQuery m => execTokenQuery_within h (covers_of_eq rfl) m
  | .mailboxCounters m => execMailboxCounters_within h (covers_of_eq rfl) m
  | .laneStatus m => execLaneStatus_within h (covers_of_eq rfl) m
  | .laneHealth m => execLaneHealth_within h (covers_of_eq rfl) m
  | .laneTraceRead m => execLaneTraceRead_within h (covers_of_eq rfl) m
  | .laneIsolate m => execLaneIsolate_within h (covers_of_eq rfl) m
  | .laneReshoot m => execLaneReshoot_within h (covers_of_eq rfl) m
  | .staggerSet m => execStaggerSet_within h (covers_of_eq rfl) m
  | .voterTest m => execVoterTest_within h (covers_of_eq rfl) m
  | .laneDiagClear m => execLaneDiagClear_within h (covers_of_eq rfl) m
  | .programStatus m => execProgramStatus_within h (covers_of_eq rfl) m
  | .imageLoad m => execImageLoad_within h (covers_of_eq rfl) m
  | .programStart m => execProgramStart_within h (covers_of_eq rfl) m
  | .programStop m => execProgramStop_within h (covers_of_eq rfl) m
  | .recutStart m => execRecutStart_within h (covers_of_eq rfl) m
  | .recutCancel m => execRecutCancel_within h (covers_of_eq rfl) m
  | .forceSet m => execForceSet_within h (covers_of_eq rfl) m
  | .forceClear m => execForceClear_within h (covers_of_eq rfl) m
  | .forceList m => execForceList_within h (covers_of_eq rfl) m
  | .variableRead m => execVariableRead_within h (covers_of_eq rfl) m
  | .imageErase m => execImageErase_within h (covers_of_eq rfl) m
  | .pairStatus m => execPairStatus_within h (covers_of_eq rfl) m
  | .pairHealth m => execPairHealth_within h (covers_of_eq rfl) m
  | .pairConfigure m => execPairConfigure_within h (covers_of_eq rfl) m
  | .pairSwitchover m => execPairSwitchover_within h (covers_of_eq rfl) m
  | .pairResync m => execPairResync_within h (covers_of_eq rfl) m
  | .pairBudget m => execPairBudget_within h (covers_of_eq rfl) m
  | .pairCounters m => execPairCounters_within h (covers_of_eq rfl) m
  | .safetyStatus m => execSafetyStatus_within h (covers_of_eq rfl) m
  | .safetyParamLoad m => execSafetyParamLoad_within h (covers_of_eq rfl) m
  | .safetyParamActivate m => execSafetyParamActivate_within h (covers_of_eq rfl) m
  | .lockoutEnter m => execLockoutEnter_within h (covers_of_eq rfl) m
  | .lockoutReset m => execLockoutReset_within h (covers_of_eq rfl) m
  | .changeLogRead m => execChangeLogRead_within h (covers_of_eq rfl) m
  | .windowClose m => execWindowClose_within h (covers_of_eq rfl) m
  | .safeIoTest m => execSafeIoTest_within h (covers_of_eq rfl) m
  | .positionStatus m => execPositionStatus_within h (covers_of_eq rfl) m
  | .positionConfigure m => execPositionConfigure_within h (covers_of_eq rfl) m
  | .positionMark m => execPositionMark_within h (covers_of_eq rfl) m
  | .positionAt m => execPositionAt_within h (covers_of_eq rfl) m
  | .cueStatus m => execCueStatus_within h (covers_of_eq rfl) m
  | .cueControl m => execCueControl_within h (covers_of_eq rfl) m
  | .positionCounters m => execPositionCounters_within h (covers_of_eq rfl) m
  | .signalStatus m => execSignalStatus_within h (covers_of_eq rfl) m
  | .channelConfigure m => execChannelConfigure_within h (covers_of_eq rfl) m
  | .coeffLoad m => execCoeffLoad_within h (covers_of_eq rfl) m
  | .signalDissolve m => execSignalDissolve_within h (covers_of_eq rfl) m
  | .channelControl m => execChannelControl_within h (covers_of_eq rfl) m
  | .inputSwitch m => execInputSwitch_within h (covers_of_eq rfl) m
  | .signalCounters m => execSignalCounters_within h (covers_of_eq rfl) m
  | .netStatus m => execNetStatus_within h (covers_of_eq rfl) m
  | .portConfigure m => execPortConfigure_within h (covers_of_eq rfl) m
  | .portCounters m => execPortCounters_within h (covers_of_eq rfl) m
  | .fdbPin m => execFdbPin_within h (covers_of_eq rfl) m
  | .fdbUnpin m => execFdbUnpin_within h (covers_of_eq rfl) m
  | .fdbRead m => execFdbRead_within h (covers_of_eq rfl) m
  | .fdbFlush m => execFdbFlush_within h (covers_of_eq rfl) m
  | .flowConfigure m => execFlowConfigure_within h (covers_of_eq rfl) m
  | .flowControl m => execFlowControl_within h (covers_of_eq rfl) m
  | .flowStatus m => execFlowStatus_within h (covers_of_eq rfl) m
  | .frerConfigure m => execFrerConfigure_within h (covers_of_eq rfl) m
  | .gateConfigure m => execGateConfigure_within h (covers_of_eq rfl) m
  | .launchWrite m => execLaunchWrite_within h (covers_of_eq rfl) m
  | .launchFlush m => execLaunchFlush_within h (covers_of_eq rfl) m
  | .rnatConfigure m => execRnatConfigure_within h (covers_of_eq rfl) m
  | .netSettings m => execNetSettings_within h (covers_of_eq rfl) m
  | .mvbStatus m => execMvbStatus_within h (covers_of_eq rfl) m
  | .mvbConfigure m => execMvbConfigure_within h (covers_of_eq rfl) m
  | .mvbPortConfigure m => execMvbPortConfigure_within h (covers_of_eq rfl) m
  | .mvbPortControl m => execMvbPortControl_within h (covers_of_eq rfl) m
  | .mvbWrite m => execMvbWrite_within h (covers_of_eq rfl) m
  | .mvbRead m => execMvbRead_within h (covers_of_eq rfl) m
  | .mvbLock m => execMvbLock_within h (covers_of_eq rfl) m
  | .mvbUnlock m => execMvbUnlock_within h (covers_of_eq rfl) m
  | .mvbMap m => execMvbMap_within h (covers_of_eq rfl) m
  | .mvbDevices m => execMvbDevices_within h (covers_of_eq rfl) m
  | .mvbCounters m => execMvbCounters_within h (covers_of_eq rfl) m
  | .timeStatus m => execTimeStatus_within h (covers_of_eq rfl) m
  | .timeConfigure m => execTimeConfigure_within h (covers_of_eq rfl) m
  | .timeSet m => execTimeSet_within h (covers_of_eq rfl) m
  | .timePortStatus m => execTimePortStatus_within h (covers_of_eq rfl) m
  | .activationStatus m => execActivationStatus_within h (covers_of_eq rfl) m
  | .sourceConfigure m => execSourceConfigure_within h (covers_of_eq rfl) m
  | .sourceMask m => execSourceMask_within h (covers_of_eq rfl) m
  | .activationHold m => execActivationHold_within h (covers_of_eq rfl) m
  | .activationTrigger m => execActivationTrigger_within h (covers_of_eq rfl) m
  | .activationCounters m => execActivationCounters_within h (covers_of_eq rfl) m
  | .recorderStatus m => execRecorderStatus_within h (covers_of_eq rfl) m
  | .recorderRead m => execRecorderRead_within h (covers_of_eq rfl) m
  | .recorderFreeze m => execRecorderFreeze_within h (covers_of_eq rfl) m
  | .recorderRelease m => execRecorderRelease_within h (covers_of_eq rfl) m
  | .recorderClearRequest m => execRecorderClearRequest_within h (covers_of_eq rfl) m
  | .recorderClearConfirm m => execRecorderClearConfirm_within h (covers_of_eq rfl) m
  | .recorderCounters m => execRecorderCounters_within h (covers_of_eq rfl) m
  | .updateStatus m => execUpdateStatus_within h (covers_of_eq rfl) m
  | .updateStage m => execUpdateStage_within h (covers_of_eq rfl) m
  | .updateSchedule m => execUpdateSchedule_within h (covers_of_eq rfl) m
  | .updateCancel m => execUpdateCancel_within h (covers_of_eq rfl) m
  | .testStatus m => execTestStatus_within h (covers_of_eq rfl) m
  | .testEnter m => execTestEnter_within h (covers_of_eq rfl) m
  | .testExit m => execTestExit_within h (covers_of_eq rfl) m
  | .squallSet m => execSquallSet_within h (covers_of_eq rfl) m
  | .selfTestRun m => execSelfTestRun_within h (covers_of_eq rfl) m
  | .kNop lane => execKNop_within h (covers_of_eq rfl) lane
  | .kConst lane t d value => execKConst_within h (covers_of_eq rfl) lane t d value
  | .kMov lane t r => execKMov_within h (covers_of_eq rfl) lane t r
  | .kSel lane t r c => execKSel_within h (covers_of_eq rfl) lane t r c
  | .kAdd lane t r => execKAdd_within h (covers_of_eq rfl) lane t r
  | .kSub lane t r => execKSub_within h (covers_of_eq rfl) lane t r
  | .kMul lane t r => execKMul_within h (covers_of_eq rfl) lane t r
  | .kDiv lane t r => execKDiv_within h (covers_of_eq rfl) lane t r
  | .kMod lane t r => execKMod_within h (covers_of_eq rfl) lane t r
  | .kNeg lane t r => execKNeg_within h (covers_of_eq rfl) lane t r
  | .kAbs lane t r => execKAbs_within h (covers_of_eq rfl) lane t r
  | .kMin lane t r => execKMin_within h (covers_of_eq rfl) lane t r
  | .kMax lane t r => execKMax_within h (covers_of_eq rfl) lane t r
  | .kFma lane t r c => execKFma_within h (covers_of_eq rfl) lane t r c
  | .kSqrt lane t r => execKSqrt_within h (covers_of_eq rfl) lane t r
  | .kAnd lane t r => execKAnd_within h (covers_of_eq rfl) lane t r
  | .kOr lane t r => execKOr_within h (covers_of_eq rfl) lane t r
  | .kXor lane t r => execKXor_within h (covers_of_eq rfl) lane t r
  | .kNot lane t r => execKNot_within h (covers_of_eq rfl) lane t r
  | .kShl lane t tb r => execKShl_within h (covers_of_eq rfl) lane t tb r
  | .kShr lane t tb r => execKShr_within h (covers_of_eq rfl) lane t tb r
  | .kRol lane t tb r => execKRol_within h (covers_of_eq rfl) lane t tb r
  | .kRor lane t tb r => execKRor_within h (covers_of_eq rfl) lane t tb r
  | .kEq lane t r => execKEq_within h (covers_of_eq rfl) lane t r
  | .kNe lane t r => execKNe_within h (covers_of_eq rfl) lane t r
  | .kLt lane t r => execKLt_within h (covers_of_eq rfl) lane t r
  | .kLe lane t r => execKLe_within h (covers_of_eq rfl) lane t r
  | .kGt lane t r => execKGt_within h (covers_of_eq rfl) lane t r
  | .kGe lane t r => execKGe_within h (covers_of_eq rfl) lane t r
  | .kCvt lane t t2 r => execKCvt_within h (covers_of_eq rfl) lane t t2 r
  | .kTrunc lane t t2 r => execKTrunc_within h (covers_of_eq rfl) lane t t2 r
  | .kRound lane t t2 r => execKRound_within h (covers_of_eq rfl) lane t t2 r
  | .kBits lane t t2 r => execKBits_within h (covers_of_eq rfl) lane t t2 r
  | .kSin lane t r => execKSin_within h (covers_of_eq rfl) lane t r
  | .kCos lane t r => execKCos_within h (covers_of_eq rfl) lane t r
  | .kTan lane t r => execKTan_within h (covers_of_eq rfl) lane t r
  | .kAsin lane t r => execKAsin_within h (covers_of_eq rfl) lane t r
  | .kAcos lane t r => execKAcos_within h (covers_of_eq rfl) lane t r
  | .kAtan lane t r => execKAtan_within h (covers_of_eq rfl) lane t r
  | .kAtan2 lane t r => execKAtan2_within h (covers_of_eq rfl) lane t r
  | .kExp lane t r => execKExp_within h (covers_of_eq rfl) lane t r
  | .kLn lane t r => execKLn_within h (covers_of_eq rfl) lane t r
  | .kLog10 lane t r => execKLog10_within h (covers_of_eq rfl) lane t r
  | .kExpt lane t r => execKExpt_within h (covers_of_eq rfl) lane t r
  | .kFloor lane t r => execKFloor_within h (covers_of_eq rfl) lane t r
  | .kCeil lane t r => execKCeil_within h (covers_of_eq rfl) lane t r
  | .kRint lane t r => execKRint_within h (covers_of_eq rfl) lane t r
  | .kLd lane t r ref => execKLd_within h (covers_of_eq rfl) lane t r ref
  | .kSt lane t r ref => execKSt_within h (covers_of_eq rfl) lane t r ref
  | .kCopy lane source sourceLeaf target targetLeaf count => execKCopy_within h (covers_of_eq rfl) lane source sourceLeaf target targetLeaf count
  | .kBlock lane => execKBlock_within h (covers_of_eq rfl) lane
  | .kLoop lane bound => execKLoop_within h (covers_of_eq rfl) lane bound
  | .kIf lane a => execKIf_within h (covers_of_eq rfl) lane a
  | .kElse lane => execKElse_within h (covers_of_eq rfl) lane
  | .kEnd lane => execKEnd_within h (covers_of_eq rfl) lane
  | .kBreak lane depth => execKBreak_within h (covers_of_eq rfl) lane depth
  | .kNext lane depth => execKNext_within h (covers_of_eq rfl) lane depth
  | .kReturn lane => execKReturn_within h (covers_of_eq rfl) lane
  | .kCall lane d a function => execKCall_within h (covers_of_eq rfl) lane d a function
  | .kTimeNow lane d a => execKTimeNow_within h (covers_of_eq rfl) lane d a
  | .kTakeInfo lane d a => execKTakeInfo_within h (covers_of_eq rfl) lane d a
  | .kModes lane d a => execKModes_within h (covers_of_eq rfl) lane d a
  | .kFaults lane d a => execKFaults_within h (covers_of_eq rfl) lane d a
  | .kInputStatus lane d a => execKInputStatus_within h (covers_of_eq rfl) lane d a
  | .kPosition lane d a => execKPosition_within h (covers_of_eq rfl) lane d a
  | .kMbxIssue lane d a => execKMbxIssue_within h (covers_of_eq rfl) lane d a
  | .kMbxResult lane d a => execKMbxResult_within h (covers_of_eq rfl) lane d a
  | .kCueRequest lane d a => execKCueRequest_within h (covers_of_eq rfl) lane d a
  | .kCueCancel lane d a => execKCueCancel_within h (covers_of_eq rfl) lane d a
  | .kCueState lane d a => execKCueState_within h (covers_of_eq rfl) lane d a
  | .kRecord lane d a => execKRecord_within h (covers_of_eq rfl) lane d a
  | .mbxChDoorbell lane k value => execMbxChDoorbell_within h (covers_of_eq rfl) lane k value
  | .laneCopyTakeover lane k => execLaneCopyTakeover_within h (covers_of_eq rfl) lane k
  | .mbxChPop lane k => execMbxChPop_within h (covers_of_eq rfl) lane k
  | .mbxShadowFetch lane => execMbxShadowFetch_within h (covers_of_eq rfl) lane
  | .actTake lane => execActTake_within h (covers_of_eq rfl) lane
  | .actDefer lane value => execActDefer_within h (covers_of_eq rfl) lane value
  | .timStepSumLo lane => execTimStepSumLo_within h (covers_of_eq rfl) lane
  | .registerWrite lane offset value => execRegisterWrite_within h (covers_of_eq rfl) lane offset value
  | .powerGood facts => execPowerGood_within h (covers_of_eq rfl) facts
  | .bootingEnd => execBootingEnd_within h (covers_of_eq rfl)
  | .provingEnd facts => execProvingEnd_within h (covers_of_eq rfl) facts
  | .reset => execReset_within h (covers_of_eq rfl)
  | .supplyFailure mv => execSupplyFailure_within h (covers_of_eq rfl) mv
  | .supplyReturn mv => execSupplyReturn_within h (covers_of_eq rfl) mv
  | .recorderSupplyStop => execRecorderSupplyStop_within h (covers_of_eq rfl)
  | .holdUpExpiry => execHoldUpExpiry_within h (covers_of_eq rfl)
  | .slateWatchdogExpiry => execSlateWatchdogExpiry_within h (covers_of_eq rfl)
  | .reelFault protection => execReelFault_within h (covers_of_eq rfl) protection
  | .reelRestartComplete => execReelRestartComplete_within h (covers_of_eq rfl)
  | .caseOpenSample isOpen => execCaseOpenSample_within h (covers_of_eq rfl) isOpen
  | .lullLatchRead => execLullLatchRead_within h (covers_of_eq rfl)
  | .cellMeasurement mv => execCellMeasurement_within h (covers_of_eq rfl) mv
  | .lullClockWrite => execLullClockWrite_within h (covers_of_eq rfl)
  | .tlsSessionOpen port source => execTlsSessionOpen_within h (covers_of_eq rfl) port source
  | .hardwareSessionOpen peer certified bound => execHardwareSessionOpen_within h (covers_of_eq rfl) peer certified bound
  | .sessionStreamError session => execSessionStreamError_within h (covers_of_eq rfl) session
  | .preLoginTimeout session => execPreLoginTimeout_within h (covers_of_eq rfl) session
  | .sessionIdleTimeout session => execSessionIdleTimeout_within h (covers_of_eq rfl) session
  | .sessionLifetimeExpiry session => execSessionLifetimeExpiry_within h (covers_of_eq rfl) session
  | .argon2idDone => execArgon2idDone_within h (covers_of_eq rfl)
  | .credentialLockExpiry credential => execCredentialLockExpiry_within h (covers_of_eq rfl) credential
  | .saDrainEnd context => execSaDrainEnd_within h (covers_of_eq rfl) context
  | .saRekeyLimit context => execSaRekeyLimit_within h (covers_of_eq rfl) context
  | .mkpduReceive port key agreed => execMkpduReceive_within h (covers_of_eq rfl) port key agreed
  | .inputFreeze task => execInputFreeze_within h (covers_of_eq rfl) task
  | .takeStart lane task => execTakeStart_within h (covers_of_eq rfl) lane task
  | .signaturePost lane task take epoch upset => execSignaturePost_within h (covers_of_eq rfl) lane task take epoch upset
  | .voteDeadline task => execVoteDeadline_within h (covers_of_eq rfl) task
  | .laneFault lane cause => execLaneFault_within h (covers_of_eq rfl) lane cause
  | .laneWatchdogExpiry lane => execLaneWatchdogExpiry_within h (covers_of_eq rfl) lane
  | .divergenceComparisonDone lane task => execDivergenceComparisonDone_within h (covers_of_eq rfl) lane task
  | .laneRestartDone lane passed => execLaneRestartDone_within h (covers_of_eq rfl) lane passed
  | .reshootExportDone lane task upset => execReshootExportDone_within h (covers_of_eq rfl) lane task upset
  | .reshootImportDone task upset => execReshootImportDone_within h (covers_of_eq rfl) task upset
  | .reshootRetry lane => execReshootRetry_within h (covers_of_eq rfl) lane
  | .twoLaneLimitExpiry => execTwoLaneLimitExpiry_within h (covers_of_eq rfl)
  | .twoLaneLockout => execTwoLaneLockout_within h (covers_of_eq rfl)
  | .backgroundSlice finding => execBackgroundSlice_within h (covers_of_eq rfl) finding
  | .cutterTranslationDone report => execCutterTranslationDone_within h (covers_of_eq rfl) report
  | .retentiveCommitPeriodic => execRetentiveCommitPeriodic_within h (covers_of_eq rfl)
  | .retentiveCommitComplete written => execRetentiveCommitComplete_within h (covers_of_eq rfl) written
  | .recutGuard => execRecutGuard_within h (covers_of_eq rfl)
  | .recutSwitch => execRecutSwitch_within h (covers_of_eq rfl)
  | .sourceDetection source clock => execSourceDetection_within h (covers_of_eq rfl) source clock
  | .activationCommit source => execActivationCommit_within h (covers_of_eq rfl) source
  | .activationHoldLimit => execActivationHoldLimit_within h (covers_of_eq rfl)
  | .positionTick sense => execPositionTick_within h (covers_of_eq rfl) sense
  | .standstillProven => execStandstillProven_within h (covers_of_eq rfl)
  | .speedViolationClear => execSpeedViolationClear_within h (covers_of_eq rfl)
  | .windowOpenTimeExpiry window => execWindowOpenTimeExpiry_within h (covers_of_eq rfl) window
  | .bridgingLimit => execBridgingLimit_within h (covers_of_eq rfl)
  | .axleClean axle => execAxleClean_within h (covers_of_eq rfl) axle
  | .timeCue cue => execTimeCue_within h (covers_of_eq rfl) cue
  | .safeInputChange input volts => execSafeInputChange_within h (covers_of_eq rfl) input volts
  | .inputPathFault input => execInputPathFault_within h (covers_of_eq rfl) input
  | .inputPathTest input path shown => execInputPathTest_within h (covers_of_eq rfl) input path shown
  | .testPulse source readings sourceOk => execTestPulse_within h (covers_of_eq rfl) source readings sourceOk
  | .pairDiscrepancyFault pair => execPairDiscrepancyFault_within h (covers_of_eq rfl) pair
  | .outputTimeout output => execOutputTimeout_within h (covers_of_eq rfl) output
  | .overcurrentTrip output => execOvercurrentTrip_within h (covers_of_eq rfl) output
  | .backFeedFault output => execBackFeedFault_within h (covers_of_eq rfl) output
  | .switchTest output switch passed senseOk => execSwitchTest_within h (covers_of_eq rfl) output switch passed senseOk
  | .switchTestOverdue output => execSwitchTestOverdue_within h (covers_of_eq rfl) output
  | .parameterCrcCheck channel crc => execParameterCrcCheck_within h (covers_of_eq rfl) channel crc
  | .fieldSupplyLow volts => execFieldSupplyLow_within h (covers_of_eq rfl) volts
  | .resetKeyChange contactA contactB => execResetKeyChange_within h (covers_of_eq rfl) contactA contactB
  | .resetKeyHoldLimit => execResetKeyHoldLimit_within h (covers_of_eq rfl)
  | .resetKeyArmingTimeout => execResetKeyArmingTimeout_within h (covers_of_eq rfl)
  | .streamFrame port payload => execStreamFrame_within h (covers_of_eq rfl) port payload
  | .channelStale channel => execChannelStale_within h (covers_of_eq rfl) channel
  | .dissolveStart channel => execDissolveStart_within h (covers_of_eq rfl) channel
  | .dissolveComplete channel => execDissolveComplete_within h (covers_of_eq rfl) channel
  | .frameReceive port frame => execFrameReceive_within h (covers_of_eq rfl) port frame
  | .egressFrameDone port => execEgressFrameDone_within h (covers_of_eq rfl) port
  | .fdbAging mac vlan => execFdbAging_within h (covers_of_eq rfl) mac vlan
  | .gateEvent port => execGateEvent_within h (covers_of_eq rfl) port
  | .gateListTakeover port => execGateListTakeover_within h (covers_of_eq rfl) port
  | .launchGuardBand port instant => execLaunchGuardBand_within h (covers_of_eq rfl) port instant
  | .frerResetTimeout stream => execFrerResetTimeout_within h (covers_of_eq rfl) stream
  | .frerLatentError stream path => execFrerLatentError_within h (covers_of_eq rfl) stream path
  | .ttdpHelloSend line => execTtdpHelloSend_within h (covers_of_eq rfl) line
  | .ttdpHelloReceive line neighbour => execTtdpHelloReceive_within h (covers_of_eq rfl) line neighbour
  | .ttdpHelloTimeout line => execTtdpHelloTimeout_within h (covers_of_eq rfl) line
  | .topologyFrame line changed => execTopologyFrame_within h (covers_of_eq rfl) line changed
  | .inaugurationComplete directory => execInaugurationComplete_within h (covers_of_eq rfl) directory
  | .linkChange port up rate => execLinkChange_within h (covers_of_eq rfl) port up rate
  | .relayReadback relay closed => execRelayReadback_within h (covers_of_eq rfl) relay closed
  | .sfpInsertion cage readable level => execSfpInsertion_within h (covers_of_eq rfl) cage readable level
  | .trdpPdReceive telegram => execTrdpPdReceive_within h (covers_of_eq rfl) telegram
  | .trdpPrReceive telegram => execTrdpPrReceive_within h (covers_of_eq rfl) telegram
  | .messageDataReceive session comId envelope => execMessageDataReceive_within h (covers_of_eq rfl) session comId envelope
  | .flowFreshnessTimeout slot => execFlowFreshnessTimeout_within h (covers_of_eq rfl) slot
  | .scheduledLaunch slot => execScheduledLaunch_within h (covers_of_eq rfl) slot
  | .heartbeat => execHeartbeat_within h (covers_of_eq rfl)
  | .mvbBasicPeriod bus => execMvbBasicPeriod_within h (covers_of_eq rfl) bus
  | .mvbMasterFrame bus fcode address => execMvbMasterFrame_within h (covers_of_eq rfl) bus fcode address
  | .mvbSlaveFrame bus fcode address data lineA lineB => execMvbSlaveFrame_within h (covers_of_eq rfl) bus fcode address data lineA lineB
  | .mvbSinkStale handle => execMvbSinkStale_within h (covers_of_eq rfl) handle
  | .mvbWriteDeadline handle => execMvbWriteDeadline_within h (covers_of_eq rfl) handle
  | .mvbReadTimeout handle => execMvbReadTimeout_within h (covers_of_eq rfl) handle
  | .mvbLockExpiry semaphore => execMvbLockExpiry_within h (covers_of_eq rfl) semaphore
  | .mvbMastershipOffer bus => execMvbMastershipOffer_within h (covers_of_eq rfl) bus
  | .mvbBindingWriteFailure handle => execMvbBindingWriteFailure_within h (covers_of_eq rfl) handle
  | .ptpSync source measure => execPtpSync_within h (covers_of_eq rfl) source measure
  | .ptpAnnounce source port announce => execPtpAnnounce_within h (covers_of_eq rfl) source port announce
  | .ptpAnnounceTimeout source port => execPtpAnnounceTimeout_within h (covers_of_eq rfl) source port
  | .ptpPdelay port delay capable => execPtpPdelay_within h (covers_of_eq rfl) port delay capable
  | .slipstreamHello hello => execSlipstreamHello_within h (covers_of_eq rfl) hello
  | .slipstreamHelloSend => execSlipstreamHelloSend_within h (covers_of_eq rfl)
  | .slipControl message => execSlipControl_within h (covers_of_eq rfl) message
  | .slipSnapshot message => execSlipSnapshot_within h (covers_of_eq rfl) message
  | .slipToken issuer token completion => execSlipToken_within h (covers_of_eq rfl) issuer token completion
  | .slipAck issuer token reasons => execSlipAck_within h (covers_of_eq rfl) issuer token reasons
  | .slipTakeEnd message => execSlipTakeEnd_within h (covers_of_eq rfl) message
  | .slipStatus report => execSlipStatus_within h (covers_of_eq rfl) report
  | .slipKeepalive port delay => execSlipKeepalive_within h (covers_of_eq rfl) port delay
  | .slipResync message => execSlipResync_within h (covers_of_eq rfl) message
  | .pairTelegram task take => execPairTelegram_within h (covers_of_eq rfl) task take
  | .supervisedTakeMissed => execSupervisedTakeMissed_within h (covers_of_eq rfl)
  | .takeoverInstant => execTakeoverInstant_within h (covers_of_eq rfl)
  | .handoverInstant => execHandoverInstant_within h (covers_of_eq rfl)
  | .resyncStart => execResyncStart_within h (covers_of_eq rfl)
  | .resyncRetry => execResyncRetry_within h (covers_of_eq rfl)
  | .updateActivation => execUpdateActivation_within h (covers_of_eq rfl)
  | .updatePartnerWaitEnd => execUpdatePartnerWaitEnd_within h (covers_of_eq rfl)
  | .updateTrialTimeout => execUpdateTrialTimeout_within h (covers_of_eq rfl)
  | .recordWrite ring readBack => execRecordWrite_within h (covers_of_eq rfl) ring readBack
  | .suppressedRecord ring => execSuppressedRecord_within h (covers_of_eq rfl) ring
  | .freezeTimeout => execFreezeTimeout_within h (covers_of_eq rfl)
  | .clearTicketExpiry => execClearTicketExpiry_within h (covers_of_eq rfl)
  | .shadowEntryExpiry lane k token => execShadowEntryExpiry_within h (covers_of_eq rfl) lane k token
  | .testEnChange strapped => execTestEnChange_within h (covers_of_eq rfl) strapped
  | .testLimitExpiry => execTestLimitExpiry_within h (covers_of_eq rfl)
  | .backpressureWindow => execBackpressureWindow_within h (covers_of_eq rfl)
  | .resetRelease facts => execResetRelease_within h (covers_of_eq rfl) facts
  | .resourceGrant resource => execResourceGrant_within h (covers_of_eq rfl) resource
  | .fieldSupplyReturn volts => execFieldSupplyReturn_within h (covers_of_eq rfl) volts
  | .resetKeyDiscrepancy => execResetKeyDiscrepancy_within h (covers_of_eq rfl)
  | .holdUpStoreCharged nanofarad => execHoldUpStoreCharged_within h (covers_of_eq rfl) nanofarad
  | .slipstreamFragmentDone port => execSlipstreamFragmentDone_within h (covers_of_eq rfl) port
  | .healthReportSend => execHealthReportSend_within h (covers_of_eq rfl)
  | .ptpMessageSend port kind => execPtpMessageSend_within h (covers_of_eq rfl) port kind
  | .mailboxResponseDelayEnd => execMailboxResponseDelayEnd_within h (covers_of_eq rfl)
  | .correctedMemoryError lane => execCorrectedMemoryError_within h (covers_of_eq rfl) lane

/-- Settles O8: a part that `touches` does not name is not in the mask of those that it names. -/
theorem nothingElseChanges : Obligations.NothingElseChanges := fun i s _ _ he hp =>
  (exec_within i (Within.refl _ s)).kept he (testBit_partMask hp)

end Sys2Proof.Machine
end

section
/-! SUPPORT. The reports of the TIME and the ACTIVATION commands (Tables 13.9 and 14.12; R435, R439, R453). -/

namespace Sys2Proof.Machine

open Sys2Proof.Claims

/-! ### The pieces of the reports -/

/-- What TIME_STATUS lists, in the order of the table: width and value of each. -/
def timeStatusPieces (t : State) : List (Nat × Nat) :=
  let c := t.clock
  let x := ((sourceInstance t).map (instanceOf t)).getD {}
  [(1, c.state.code), (1, c.source), (1, ((sourceInstance t).map instanceNumber).getD 0), (1, bit x.arb), (8, x.grandmaster.getD 0),
    (2, x.stepsRemoved), (2, 0), (8, (c.offset % 2 ^ 64).toNat), (4, c.meanPathDelay), (8, c.addend), (4, (ratePpb c.addend % 2 ^ 32).toNat),
    (8, c.holdoverSince), (8, holdoverBound t), (4, c.stepCount), (8, (c.stepSum % 2 ^ 64).toNat), (8, c.lastStep / secUnit),
    (4, c.lastStep % secUnit / nsUnit), (1, bit c.ecn.grandmaster.isNone)]

/-- What TIME_PORT_STATUS lists of a port, in the order of the table: width and value of each. -/
def timePortPieces (k : PtpSource) (x : PtpPort) : List (Nat × Nat) :=
  [(1, instanceNumber k), (1, x.portState), (1, bit x.asCapable), (1, 0), (4, x.peerDelay), (4, x.syncReceived), (4, x.followUpReceived),
    (4, x.pdelayReceived), (4, x.announceReceived), (4, x.syncSent), (4, x.followUpSent), (4, x.pdelaySent), (4, x.announceSent),
    (4, x.timestampFaults), (4, x.announceTimeouts)]

/-- What ACTIVATION_COUNTERS lists of a source, in the order of the table: width and value of each. -/
def sourceCounterPieces (x : ActSource) : List (Nat × Nat) :=
  [(8, x.detections), (4, x.commits), (4, x.overflow), (4, x.whileMasked), (4, x.through), (4, x.dropped), (8, x.lastCommit / secUnit),
    (4, x.lastCommit % secUnit / nsUnit)]

section
variable {e : Entry}

theorem timeStatus_body (hl : e.payload.length = 0) (t : State) :
    cmdTimeStatus.body e t = answers ((timeStatusPieces t).flatMap fun p => le p.1 p.2) t := by
  refine (body_of_sized (c := cmdTimeStatus) rfl hl t).trans ?_
  simp [timeStatusPieces, leInt, taiBytes]

theorem timePortStatus_body {k : PtpSource} (hl : e.payload.length = 1) (hk : portInstance (e.field 0 1) = some k) (t : State) :
    cmdTimePortStatus.body e t = answers ((timePortPieces k (ptpPort t (e.field 0 1))).flatMap fun p => le p.1 p.2) t := by
  refine (body_of_sized (c := cmdTimePortStatus) rfl hl t).trans ?_
  simp [hk, timePortPieces]

theorem activationCounters_body (hl : e.payload.length = 1) (hn : e.field 0 1 < 128) (t : State) :
    cmdActivationCounters.body e t = answers ((sourceCounterPieces (sourceOf t (e.field 0 1))).flatMap fun p => le p.1 p.2) t := by
  refine (body_of_sized (c := cmdActivationCounters) rfl hl t).trans ((if_neg hn.not_ge).trans ?_)
  simp [sourceCounterPieces, taiBytes]

end

/-! ### The reports are made of their pieces -/

theorem isReport_timeStatus (t : State) :
    IsReport 81 (fieldsFrom 0 (timeStatusPieces t)) ((timeStatusPieces t).flatMap fun p => le p.1 p.2) := by
  have hw : ((timeStatusPieces t).map Prod.fst).sum = 81 := by simp [timeStatusPieces]
  rw [← hw]
  exact isReport_flatMap_le (timeStatusPieces t)

theorem isReport_timePort (k : PtpSource) (x : PtpPort) :
    IsReport 48 (fieldsFrom 0 (timePortPieces k x)) ((timePortPieces k x).flatMap fun p => le p.1 p.2) := by
  have hw : ((timePortPieces k x).map Prod.fst).sum = 48 := by simp [timePortPieces]
  rw [← hw]
  exact isReport_flatMap_le (timePortPieces k x)

/-! ### The commands -/

/-- Settles O40: TIME_STATUS, TIME_PORT_STATUS and ACTIVATION_COUNTERS are made of their pieces; ACTIVATION_STATUS is the body of its
command. -/
theorem timeAndActivationReportsGiveWhatTheTableLists : Obligations.TimeAndActivationReportsGiveWhatTheTableLists := by
  refine ⟨reports_of_body cmdTimeStatus (fun _ _ => rfl) rfl rfl (fun _ _ _ => rfl) fun e t h => ?_,
    reports_of_body cmdTimePortStatus (fun _ _ => rfl) rfl rfl (fun _ _ _ => rfl) fun e t h => ?_,
    answers_of_body cmdActivationStatus (fun _ _ => rfl) rfl rfl (fun _ _ _ => rfl) fun e t h => ?_,
    reports_of_body cmdActivationCounters (fun _ _ => rfl) rfl rfl (fun _ _ _ => rfl) fun e t h => ?_⟩
  -- TIME_STATUS
  · refine ⟨_, timeStatus_body (of_decide_eq_true h) t, ?_⟩
    simpa only [timeStatusPieces, fieldsFrom, Nat.reduceAdd] using isReport_timeStatus t
  -- TIME_PORT_STATUS
  · simp only [Bool.and_eq_true, decide_eq_true_eq, Option.isSome_iff_exists] at h
    obtain ⟨hl, k, hk⟩ := h
    refine ⟨_, timePortStatus_body hl hk t, ?_⟩
    simpa only [hk, Option.map_some, Option.getD_some, timePortPieces, fieldsFrom, Nat.reduceAdd] using isReport_timePort k (ptpPort t (e.field 0 1))
  -- ACTIVATION_STATUS
  · simp only [Bool.and_eq_true, decide_eq_true_eq] at h
    obtain ⟨⟨hl, h1⟩, h128⟩ := h
    refine (body_of_sized (c := cmdActivationStatus) rfl hl t).trans (if_neg ?_)
    simp only [Bool.or_eq_true, decide_eq_true_eq]
    omega
  -- ACTIVATION_COUNTERS
  · simp only [Bool.and_eq_true, decide_eq_true_eq] at h
    obtain ⟨hl, hn⟩ := h
    exact ⟨_, activationCounters_body hl hn t, isReport_flatMap_le (sourceCounterPieces _)⟩

end Sys2Proof.Machine
end

section
/-! SUPPORT. The commands that set the time and the activation sources (Tables 13.9 and 14.12; R442, R448, R453, R459 to R461, R470). -/

namespace Sys2Proof.Machine

open Sys2Proof.Claims

/-- Settles O41: each answer is the body of its command under its premise. -/
theorem timeAndActivationAreCommanded : Obligations.TimeAndActivationAreCommanded := by
  refine ⟨answers_of_body cmdTimeConfigure (fun _ _ => rfl) rfl rfl (fun _ _ _ => rfl) fun e t h => ?_,
    answers_of_body cmdTimeSet (fun _ _ => rfl) rfl rfl (fun _ _ _ => rfl) fun e t h => ?_,
    answers_of_body cmdSourceConfigure (fun _ _ => rfl) rfl rfl (fun _ _ _ => rfl) fun e t h => ?_,
    answers_of_body cmdSourceMask (fun _ _ => rfl) rfl rfl (fun _ _ _ => rfl) fun e t h => ?_,
    answers_of_body cmdActivationHold (fun _ _ => rfl) rfl rfl (fun _ _ _ => rfl) fun e t h => ?_,
    answers_of_body cmdActivationTrigger (fun _ _ => rfl) rfl rfl (fun _ _ _ => rfl) fun e t h => ?_⟩
  -- TIME_CONFIGURE
  · simp only [Bool.and_eq_true, decide_eq_true_eq] at h
    obtain ⟨⟨⟨⟨⟨⟨⟨⟨⟨hl, hsource⟩, hdomain⟩, hsync⟩, hsync'⟩, hlock⟩, hlock'⟩, hstep⟩, hstep'⟩, hz⟩ := h
    refine (body_of_sized (c := cmdTimeConfigure) rfl hl t).trans (if_neg ?_)
    simp only [hz, Bool.not_true, Bool.or_false, Bool.or_eq_true, decide_eq_true_eq]
    omega
  -- TIME_SET
  · simp only [Bool.and_eq_true, decide_eq_true_eq] at h
    obtain ⟨⟨⟨hl, hns⟩, hlow⟩, hhigh⟩ := h
    refine (body_of_sized (c := cmdTimeSet) rfl hl t).trans (if_neg ?_)
    simp only [Bool.or_eq_true, decide_eq_true_eq]
    omega
  -- SOURCE_CONFIGURE
  · simp only [Bool.and_eq_true, decide_eq_true_eq, bne_iff_ne] at h
    obtain ⟨⟨⟨⟨⟨⟨⟨⟨hl, hn⟩, horigin⟩, hsense⟩, hp⟩, hp'⟩, hmask⟩, hz⟩, hs⟩ := h
    refine (body_of_sized (c := cmdSourceConfigure) rfl hl t).trans ((if_neg ?_).trans (if_neg hs))
    simp only [horigin, Bool.not_true, Bool.or_false, Bool.or_eq_true, decide_eq_true_eq, bne_iff_ne]
    omega
  -- SOURCE_MASK
  · simp only [Bool.and_eq_true, decide_eq_true_eq, bne_iff_ne] at h
    obtain ⟨⟨hl, hboth⟩, hs⟩ := h
    exact (body_of_sized (c := cmdSourceMask) rfl hl t).trans ((if_neg (by simp [hboth])).trans (if_neg hs))
  -- ACTIVATION_HOLD
  · simp only [Bool.and_eq_true, Bool.or_eq_true, decide_eq_true_eq, bne_iff_ne] at h
    obtain ⟨⟨⟨hl, hop⟩, hs⟩, hz⟩ := h
    refine (body_of_sized (c := cmdActivationHold) rfl hl t).trans ((if_neg (by simp [hz])).trans ?_)
    rcases hop with ⟨hop, hlimit⟩ | hop
    · exact (if_pos hop).trans ((if_neg hlimit.not_gt).trans ((if_neg hs).trans (if_pos hop).symm))
    · have hne : ¬e.field 0 1 = 1 := by omega
      exact (if_neg hne).trans ((if_pos hop).trans ((if_neg hs).trans (if_neg hne).symm))
  -- ACTIVATION_TRIGGER
  · simp only [Bool.and_eq_true, decide_eq_true_eq] at h
    obtain ⟨hl, hn⟩ := h
    exact (body_of_sized (c := cmdActivationTrigger) rfl hl t).trans (if_neg hn.not_ge)

end Sys2Proof.Machine
end

section
/-! SUPPORT. The reports of the recorder, of the update and of the test (Tables 15.5, 16.5 and 17.10; R482, R484, R506, R526). -/

namespace Sys2Proof.Machine

open Sys2Proof.Claims

/-! ### RECORDER_STATUS -/

/-- What RECORDER_STATUS lists of one ring, in the order of the table: width and value of each. -/
def ringStatusPieces (r : RingSt) (g : Ring) : List (Nat × Nat) :=
  [(4, ringSlots g), (2, r.bad.length), (8, r.oldest), (8, r.newest), (8, r.floor), (1, bit !r.eraseLeft.isEmpty)]

/-- What RECORDER_STATUS lists of the freeze in force: whether there is one, its remaining time and its issuer. -/
def freezePieces (t : State) : List (Nat × Nat) :=
  let f := t.recorder.freeze.filter fun f => f.since.isSome
  [(1, bit f.isSome), (4, ((f.bind FreezeSt.since).map fun u => (u + second 60 - t.time) / milli 1).getD 0), (4, (f.map FreezeSt.issuer).getD 0)]

/-- What RECORDER_STATUS lists after the rings. -/
def recorderUsePieces (t : State) : List (Nat × Nat) :=
  let r := t.recorder
  [(2, r.buffer.length), (2, r.bucketGeneral.tokens 200 4096 t.time), (2, r.bucketReel.tokens 50 1024 t.time),
    (2, r.bucketJuridical.tokens 20 512 t.time), (1, bit r.ticket.isSome), (4, r.lostLast)]

/-- What RECORDER_STATUS lists, in the order of the table: width and value of each. -/
def recorderStatusPieces (t : State) : List (Nat × Nat) :=
  freezePieces t ++ ringStatusPieces t.recorder.general .general ++ ringStatusPieces t.recorder.juridical .juridical ++ recorderUsePieces t

theorem ringStatus_eq_flatMap_le (r : RingSt) (g : Ring) : ringStatus r g = (ringStatusPieces r g).flatMap fun p => le p.1 p.2 := by
  simp [ringStatus, ringStatusPieces]

section
variable {t : State}

theorem freezePieces_of_not_frozen (hf : t.recorder.freeze.filter (fun f => f.since.isSome) = none) :
    freezePieces t = [(1, bit false), (4, 0), (4, 0)] := by
  simp only [freezePieces, hf]
  rfl

theorem freezePieces_of_frozen {f : FreezeSt} {u : Nat} (hf : t.recorder.freeze = some f) (hs : f.since = some u) :
    freezePieces t = [(1, bit true), (4, (u + second 60 - t.time) / milli 1), (4, f.issuer)] := by
  have hheld : t.recorder.freeze.filter (fun f => f.since.isSome) = some f := by rw [hf, Option.filter_eq_some_iff]; simp [hs]
  rw [freezePieces, hheld, Option.bind_some, hs, Option.map_some, Option.map_some, Option.getD_some, Option.getD_some, Option.isSome_some]

end

theorem recorderStatus_body {e : Entry} (hl : e.payload.length = 0) (t : State) :
    cmdRecorderStatus.body e t = answers ((recorderStatusPieces t).flatMap fun p => le p.1 p.2) t := by
  refine (body_of_sized (c := cmdRecorderStatus) rfl hl t).trans ?_
  simp only [recorderStatusPieces, List.flatMap_append, ← ringStatus_eq_flatMap_le]
  cases hf : t.recorder.freeze with
  | none => simp [freezePieces_of_not_frozen, recorderUsePieces, frozen, hf]
  | some f =>
    cases hs : f.since with
    | none => simp [freezePieces_of_not_frozen, recorderUsePieces, frozen, hf, hs]
    | some u => simp [freezePieces_of_frozen hf hs, recorderUsePieces, frozen, hf, hs]

theorem isReport_recorderStatus (t : State) :
    IsReport 84 (fieldsFrom 0 (recorderStatusPieces t)) ((recorderStatusPieces t).flatMap fun p => le p.1 p.2) := by
  have hw : ((recorderStatusPieces t).map Prod.fst).sum = 84 := by
    simp [recorderStatusPieces, freezePieces, ringStatusPieces, recorderUsePieces]
  rw [← hw]
  exact isReport_flatMap_le (recorderStatusPieces t)

/-! ### RECORDER_READ -/

/-- The ring that a request names by 0 or 1. -/
theorem ringField_of_le {n : Nat} (h : n ≤ 1) : ringField n = some (if n = 0 then .general else .juridical) := by
  obtain rfl | rfl : n = 0 ∨ n = 1 := by omega
  · rfl
  · rfl

/-- The sequence after the last record of a list, or a given one when it is empty. -/
theorem getLast_seq_getD (l : List Bytes) (first : Nat) : ((l.getLast?.map (seqOf · + 1)).getD first) =
    match l.getLast? with
      | some b => seqOf b + 1
      | none => first := by
  cases l.getLast? <;> rfl

/-! ### TEST_STATUS -/

/-- What TEST_STATUS lists before the self-tests, of one self-test, and after them: width and value of each. -/
def testAxisPieces (t : State) : List (Nat × Nat) :=
  let x := t.test
  [(1, bit x.squall), (1, squallGate t), (32, if x.squall then Bytes.field (padTo 32 x.credential) 0 32 else 0), (8, if x.squall then x.entry else 0),
    (4, if x.squall then (x.ends - t.time) / second 1 else 0), (4, x.mbxDelay.toNat), (4, x.bpPorts.toNat), (4, x.backpressure.toNat),
    (4, x.jitter.toNat), (4, x.slipLatency.toNat), (4, x.corrupt.toNat), (4, x.seed.toNat), (4, cap32 x.applied), (4, cap32 x.held)]
def selfTestPieces (x : SelfTest) : List (Nat × Nat) :=
  [(4, cap32 x.rounds), (4, cap32 x.failures), (1, bit x.starved), (8, x.lastRound)]
def selfTestsPieces (t : State) : List (Nat × Nat) := (List.range 8).flatMap fun n => selfTestPieces (selfTest t n)
def testQueuePieces (t : State) : List (Nat × Nat) := [(1, t.test.requested.length + bit t.voter.testQueued)]

/-- Groups of pieces of one width stand at its multiples. -/
theorem fieldsFrom_flatMap_range {o w : Nat} (n : Nat) {f : Nat → List (Nat × Nat)} (hw : ∀ k, ((f k).map Prod.fst).sum = w) :
    fieldsFrom o ((List.range n).flatMap f) = (List.range n).flatMap fun k => fieldsFrom (o + w * k) (f k) := by
  have hsum : ∀ m, (((List.range m).flatMap f).map Prod.fst).sum = w * m := by
    intro m
    induction m with
    | zero => rfl
    | succ m ih => simp [List.range_succ, ih, hw, Nat.mul_succ]
  induction n with
  | zero => rfl
  | succ n ih => simp [List.range_succ, fieldsFrom_append, ih, hsum]

theorem credential_bytes (x : TestSt) : (if x.squall then padTo 32 x.credential else padTo 32 []) =
    le 32 (if x.squall then Bytes.field (padTo 32 x.credential) 0 32 else 0) := by
  split
  · exact (le_field_padTo 32 _).symm
  · exact (le_zero_eq_replicate 32).symm

theorem testStatus_body {e : Entry} (hl : e.payload.length = 0) (t : State) :
    cmdTestStatus.body e t = answers ((testAxisPieces t ++ selfTestsPieces t ++ testQueuePieces t).flatMap fun p => le p.1 p.2) t := by
  refine (body_of_sized (c := cmdTestStatus) rfl hl t).trans ?_
  simp only [credential_bytes]
  simp [testAxisPieces, selfTestsPieces, testQueuePieces, selfTestPieces, List.flatMap_assoc]

theorem selfTestsPieces_width (t : State) : ((selfTestsPieces t).map Prod.fst).sum = 136 := by
  simp [selfTestsPieces, selfTestPieces, List.range_succ]

theorem fieldsFrom_selfTests (t : State) : fieldsFrom 82 (selfTestsPieces t) = (List.range 8).flatMap fun n =>
    [(82 + 17 * n, 4, cap32 (selfTest t n).rounds), (86 + 17 * n, 4, cap32 (selfTest t n).failures), (90 + 17 * n, 1, bit (selfTest t n).starved),
      (91 + 17 * n, 8, (selfTest t n).lastRound)] := by
  rw [selfTestsPieces, fieldsFrom_flatMap_range (w := 17) (f := fun n => selfTestPieces (selfTest t n)) 8 fun _ => by simp [selfTestPieces]]
  refine congrArg (fun f => (List.range 8).flatMap f) (funext fun n => ?_)
  have h4 : 82 + 17 * n + 4 = 86 + 17 * n := by omega
  have h8 : 86 + 17 * n + 4 = 90 + 17 * n := by omega
  have h9 : 90 + 17 * n + 1 = 91 + 17 * n := by omega
  simp only [selfTestPieces, fieldsFrom, h4, h8, h9]

/-- TEST_STATUS's result, its fields with those of the self-tests last. -/
theorem isReport_testStatus (t : State) : IsReport 219
    (fieldsFrom 0 (testAxisPieces t) ++ fieldsFrom 218 (testQueuePieces t) ++ fieldsFrom 82 (selfTestsPieces t))
    ((testAxisPieces t ++ selfTestsPieces t ++ testQueuePieces t).flatMap fun p => le p.1 p.2) := by
  have hr := isReport_flatMap_le (testAxisPieces t ++ selfTestsPieces t ++ testQueuePieces t)
  have ha : ((testAxisPieces t).map Prod.fst).sum = 82 := by simp [testAxisPieces]
  have hq : ((testQueuePieces t).map Prod.fst).sum = 1 := by simp [testQueuePieces]
  rw [fieldsFrom_append, fieldsFrom_append] at hr
  simp only [List.map_append, List.sum_append, ha, hq, selfTestsPieces_width] at hr
  refine isReport_of_subset hr fun f hf => ?_
  simp only [List.mem_append] at hf ⊢
  rcases hf with (hf | hf) | hf
  · exact .inl (.inl hf)
  · exact .inr hf
  · exact .inl (.inr hf)

/-! ### The commands -/

/-- Settles O42: RECORDER_STATUS and TEST_STATUS are made of their pieces; the others are the bodies of their commands. -/
theorem recorderUpdateAndTestReportsGiveWhatTheTablesList : Obligations.RecorderUpdateAndTestReportsGiveWhatTheTablesList := by
  refine ⟨reports_of_body cmdRecorderStatus (fun _ _ => rfl) rfl rfl (fun _ _ _ => rfl) fun e t h => ?_,
    answers_of_body cmdRecorderRead (fun _ _ => rfl) rfl rfl (fun _ _ _ => rfl) fun e t h => ?_,
    answers_of_body cmdRecorderCounters (fun _ _ => rfl) rfl rfl (fun _ _ _ => rfl) fun e t h => ?_,
    answers_of_body cmdUpdateStatus (fun _ _ => rfl) rfl rfl (fun _ _ _ => rfl) fun e t h => ?_,
    reports_of_body cmdTestStatus (fun _ _ => rfl) rfl rfl (fun _ _ _ => rfl) fun e t h => ?_⟩
  -- RECORDER_STATUS
  · refine ⟨_, recorderStatus_body (of_decide_eq_true h) t, ?_⟩
    simpa only [recorderStatusPieces, freezePieces, ringStatusPieces, recorderUsePieces, List.cons_append, List.nil_append, fieldsFrom,
      Nat.reduceAdd] using isReport_recorderStatus t
  -- RECORDER_READ
  · simp only [Bool.and_eq_true, decide_eq_true_eq] at h
    obtain ⟨⟨hl, hring⟩, hz⟩ := h
    refine (body_of_sized (c := cmdRecorderRead) rfl hl t).trans ?_
    simp only [ringField_of_le hring, hz, Bool.not_true, Bool.or_false, getLast_seq_getD]
    rfl
  -- RECORDER_COUNTERS
  · exact body_of_sized (c := cmdRecorderCounters) rfl (of_decide_eq_true h) t
  -- UPDATE_STATUS
  · exact body_of_sized (c := cmdUpdateStatus) rfl (of_decide_eq_true h) t
  -- TEST_STATUS
  · refine ⟨_, testStatus_body (of_decide_eq_true h) t, ?_⟩
    have hr := isReport_testStatus t
    rw [fieldsFrom_selfTests] at hr
    simpa only [testAxisPieces, testQueuePieces, List.cons_append, List.nil_append, fieldsFrom, Nat.reduceAdd] using hr

end Sys2Proof.Machine
end

section
/-! SUPPORT. The freeze, the release and the clear of the event recorder (Table 15.5; R480, R481, R483 to R485, R487). -/

namespace Sys2Proof.Machine

open Sys2Proof.Claims

/-! ### The clear conditions (R483) -/

section
variable {s : State}

theorem clearRefusal_of_state (hm : (s.module.state != .maintenance) = true) : clearRefusal s = some stRefused := if_pos hm

theorem clearRefusal_of_lock (hm : (s.module.state != .maintenance) = false) (ho : s.trust.ownerLock = true) : clearRefusal s = some 0x0212 :=
  (if_neg (by simp [hm])).trans (if_pos ho)

theorem clearRefusal_of_freeze (hm : (s.module.state != .maintenance) = false) (ho : s.trust.ownerLock = false) (hf : freezeHeld s = true) :
    clearRefusal s = some 0x0D10 :=
  (if_neg (by simp [hm])).trans ((if_neg (by simp [ho])).trans (if_pos hf))

theorem clearRefusal_none (hm : (s.module.state != .maintenance) = false) (ho : s.trust.ownerLock = false) (hf : freezeHeld s = false) :
    clearRefusal s = none :=
  (if_neg (by simp [hm])).trans ((if_neg (by simp [ho])).trans (if_neg (by simp [hf])))

end

/-- A ticket is confirmed by its number, from another issuer than the one who asked for it, where the two hold Maintainer and Owner together. -/
def ticketConfirmed (e : Entry) (k : ClearTicket) : Bool :=
  k.number = e.field 0 4 && k.issuer != e.issuer && anyRole (k.roles ||| e.roles) maintainer && anyRole (k.roles ||| e.roles) owner

theorem ticketConfirmed_eq_not (e : Entry) (k : ClearTicket) : (k.number != e.field 0 4 || k.issuer = e.issuer ||
    !anyRole (k.roles ||| e.roles) maintainer || !anyRole (k.roles ||| e.roles) owner) = !ticketConfirmed e k := by
  grind [ticketConfirmed]

theorem filter_ticketConfirmed (e : Entry) (k : ClearTicket) :
    (some k).filter (fun k => k.number = e.field 0 4 && k.issuer != e.issuer && anyRole (k.roles ||| e.roles) maintainer &&
      anyRole (k.roles ||| e.roles) owner) = if ticketConfirmed e k then some k else none := rfl

/-- Settles O43: each answer is the body of its command; the clear commands look at the clear conditions in their order first. -/
theorem recorderIsFrozenReleasedAndClearedAsItsTableSays : Obligations.RecorderIsFrozenReleasedAndClearedAsItsTableSays := by
  refine ⟨answers_of_body cmdRecorderFreeze (fun _ _ => rfl) rfl rfl (fun _ _ _ => rfl) fun e t h => ?_,
    answers_of_body cmdRecorderRelease (fun _ _ => rfl) rfl rfl (fun _ _ _ => rfl) fun e t h => ?_,
    answers_of_body cmdRecorderClearRequest (fun _ _ => rfl) rfl rfl (fun _ _ _ => rfl) fun e t h => ?_,
    answers_of_body cmdRecorderClearConfirm (fun _ _ => rfl) rfl rfl (fun _ _ _ => rfl) fun e t h => ?_⟩
  -- RECORDER_FREEZE
  · exact body_of_sized (c := cmdRecorderFreeze) rfl (of_decide_eq_true h) t
  -- RECORDER_RELEASE
  · exact body_of_sized (c := cmdRecorderRelease) rfl (of_decide_eq_true h) t
  -- RECORDER_CLEAR_REQUEST
  · simp only [Bool.and_eq_true, decide_eq_true_eq] at h
    obtain ⟨⟨hl, hring⟩, hz⟩ := h
    refine (body_of_sized (c := cmdRecorderClearRequest) rfl hl t).trans ?_
    simp only [ringField_of_le hring, hz, Bool.not_true, Bool.false_eq_true, if_false]
    cases hm : t.module.state != .maintenance with
    | true => rw [clearRefusal_of_state hm]; rfl
    | false =>
      cases ho : t.trust.ownerLock with
      | true => rw [clearRefusal_of_lock hm ho]; rfl
      | false =>
        cases hf : freezeHeld t with
        | true => rw [clearRefusal_of_freeze hm ho hf]; rfl
        | false => rw [clearRefusal_none hm ho hf]; rfl
  -- RECORDER_CLEAR_CONFIRM
  · simp only [Bool.and_eq_true, Bool.not_eq_true', decide_eq_true_eq] at h
    obtain ⟨⟨⟨hl, hm⟩, ho⟩, hf⟩ := h
    refine (body_of_sized (c := cmdRecorderClearConfirm) rfl hl t).trans ?_
    simp only [clearRefusal_none (by simp [hm]) ho hf]
    cases hk : t.recorder.ticket with
    | none => rfl
    | some k =>
      simp only [ticketConfirmed_eq_not, filter_ticketConfirmed]
      cases ticketConfirmed e k <;> rfl

end Sys2Proof.Machine
end

section
/-! SUPPORT. The UPDATE and TEST commands (Tables 16.5 and 17.10; R490, R492, R505, R507, R519, R521, R525 to R527). -/

namespace Sys2Proof.Machine

open Sys2Proof.Claims

/-- Settles O44: each answer is the body of its command under its premise. -/
theorem updateTestAndSelfTestCommandsActAsTheirTablesSay : Obligations.UpdateTestAndSelfTestCommandsActAsTheirTablesSay := by
  refine ⟨answers_of_body cmdUpdateStage (fun _ _ => rfl) rfl rfl (fun _ _ _ => rfl) fun e t h => ?_,
    answers_of_body cmdUpdateSchedule (fun _ _ => rfl) rfl rfl (fun _ _ _ => rfl) fun e t h => ?_,
    answers_of_body cmdUpdateCancel (fun _ _ => rfl) rfl rfl (fun _ _ _ => rfl) fun e t h => ?_,
    answers_of_body cmdTestEnter (fun _ _ => rfl) rfl rfl (fun _ _ _ => rfl) fun e t h => ?_,
    answers_of_body cmdTestExit (fun _ _ => rfl) rfl rfl (fun _ _ _ => rfl) fun e t h => ?_,
    answers_of_body cmdSquallSet (fun _ _ => rfl) rfl rfl (fun _ _ _ => rfl) fun e t h => ?_,
    answers_of_body cmdSelfTestRun (fun _ _ => rfl) rfl rfl (fun _ _ _ => rfl) fun e t h => ?_⟩
  -- UPDATE_STAGE
  · simp only [Bool.and_eq_true, Bool.or_eq_true, decide_eq_true_eq] at h
    obtain ⟨⟨⟨⟨hl, htotal⟩, hsize⟩, hend⟩, hoff⟩ := h
    have hstage : stageOk t (e.field 0 8) (e.field 8 8) (e.payload.length - 16) = true := by
      simp only [stageOk, Bool.and_eq_true, Bool.or_eq_true, decide_eq_true_eq]
      exact ⟨⟨⟨⟨htotal, by omega⟩, hsize⟩, hend⟩, hoff⟩
    refine ite_congr rfl (fun _ => rfl) fun _ => if_neg ?_
    simp [hstage, hl.not_gt]
  -- UPDATE_SCHEDULE
  · simp only [Bool.and_eq_true, decide_eq_true_eq] at h
    obtain ⟨hl, hns⟩ := h
    exact (body_of_sized (c := cmdUpdateSchedule) rfl hl t).trans (if_neg hns.not_ge)
  -- UPDATE_CANCEL
  · simp only [Bool.and_eq_true, decide_eq_true_eq] at h
    obtain ⟨hl, h1⟩ := h
    refine (body_of_sized (c := cmdUpdateCancel) rfl hl t).trans ((if_neg h1.not_gt).trans ?_)
    refine ite_congr rfl (fun _ => rfl) fun _ => ite_congr rfl (fun _ => rfl) fun _ => ?_
    by_cases hempty : e.field 0 1 = 1
    · simp only [hempty, if_true]
    · simp only [hempty, if_false]
  -- TEST_ENTER
  · simp only [Bool.and_eq_true, Bool.or_eq_true, decide_eq_true_eq] at h
    obtain ⟨hl, hlimit⟩ := h
    refine (body_of_sized (c := cmdTestEnter) rfl hl t).trans (if_neg ?_)
    simp only [Bool.or_eq_true, decide_eq_true_eq]
    split <;> omega
  -- TEST_EXIT
  · exact body_of_sized (c := cmdTestExit) rfl (of_decide_eq_true h) t
  -- SQUALL_SET
  · simp only [Bool.and_eq_true, decide_eq_true_eq] at h
    obtain ⟨⟨⟨⟨⟨⟨⟨⟨⟨⟨hl, hdelay⟩, hports⟩, hjitter⟩, hslip⟩, hreserved⟩, hmax⟩, hperiod⟩, hshift⟩, hlatency⟩, hkind⟩ := h
    have hok : squallFieldsOk e.payload = true := by
      simp only [squallFieldsOk, Bool.and_eq_true, decide_eq_true_eq]
      exact ⟨⟨⟨⟨⟨⟨⟨⟨⟨hdelay, hports⟩, hjitter⟩, hslip⟩, hreserved⟩, hmax⟩, hperiod⟩, hshift⟩, hlatency⟩, hkind⟩
    exact (body_of_sized (c := cmdSquallSet) rfl hl t).trans (if_neg (by simp [hok]))
  -- SELF_TEST_RUN
  · refine (body_of_sized (c := cmdSelfTestRun) rfl (of_decide_eq_true h) t).trans ?_
    exact ite_congr (propext List.isEmpty_iff) (fun _ => rfl) fun _ => rfl

end Sys2Proof.Machine
end

section
/-! SUPPORT. The MODULE commands that act (Table 3.11; R97, R98, R101, R102, R210, R214, R508 to R510), and the state after reset. -/

namespace Sys2Proof.Machine

open Sys2Proof.Claims

/-- Settles O19: each answer is the body of its command under its premise. -/
theorem moduleStateAndMailboxAreCommanded : Obligations.ModuleStateAndMailboxAreCommanded := by
  refine ⟨answers_of_body cmdModeRequest (fun _ _ => rfl) rfl rfl (fun _ _ _ => rfl) fun e t h => ?_,
    answers_of_body cmdModeRequest (fun _ _ => rfl) rfl rfl (fun _ _ _ => rfl) fun e t h => ?_,
    answers_of_body cmdModeRequest (fun _ _ => rfl) rfl rfl (fun _ _ _ => rfl) fun e t h => ?_,
    answers_of_body cmdModuleRestart (fun _ _ => rfl) rfl rfl (fun _ _ _ => rfl) fun e t h => ?_,
    answers_of_body cmdClassControl (fun _ _ => rfl) rfl rfl (fun _ _ _ => rfl) fun e t h => ?_,
    answers_of_body cmdTokenQuery (fun _ _ => rfl) rfl rfl (fun _ _ _ => rfl) fun e t h => ?_⟩
  -- MODE_REQUEST to Service
  · simp only [Bool.and_eq_true, Bool.not_eq_true', decide_eq_true_eq] at h
    obtain ⟨⟨⟨⟨⟨hl, htarget⟩, hm⟩, ha⟩, hlatch⟩, hboot⟩ := h
    refine (body_of_sized (c := cmdModeRequest) rfl hl t).trans ?_
    simp [htarget, hm, unenrolled, Option.isSome_iff_ne_none.mp ha, hlatch, hboot, ModuleState.code]
  -- MODE_REQUEST to Maintenance
  · simp only [Bool.and_eq_true, Bool.not_eq_true', decide_eq_true_eq] at h
    obtain ⟨⟨⟨⟨hl, htarget⟩, hm⟩, hs⟩, ha⟩ := h
    refine (body_of_sized (c := cmdModeRequest) rfl hl t).trans ?_
    simp [htarget, hm, hs, ha, ModuleState.code]
  -- MODE_REQUEST refused
  · simp only [Bool.and_eq_true, Bool.or_eq_true, Bool.not_eq_true', decide_eq_true_eq, bne_iff_ne, Option.isNone_iff_eq_none] at h
    obtain ⟨⟨hl, htarget⟩, hrefused⟩ := h
    refine (body_of_sized (c := cmdModeRequest) rfl hl t).trans ((if_neg ?_).trans (if_pos ?_))
    · rcases htarget with h3 | h4
      · simp [h3]
      · simp [h4]
    · rcases hrefused with (⟨hservice, hmaintenance⟩ | ⟨h3, ha | hlatch⟩) | ⟨h4, hs | ha⟩
      · simp [hservice, hmaintenance]
      · simp [h3, unenrolled, ha]
      · simp [h3, hlatch]
      · simp [h4, hs]
      · simp [h4, ha]
  -- MODULE_RESTART
  · simp only [Bool.and_eq_true, Bool.or_eq_true, Bool.not_eq_true', decide_eq_true_eq, bne_iff_ne] at h
    obtain ⟨⟨⟨hl, hstart⟩, hs⟩, ha⟩ := h
    refine (body_of_sized (c := cmdModuleRestart) rfl hl t).trans ((if_neg ?_).trans (if_neg ?_))
    · rcases hstart with h0 | h4
      · simp [h0]
      · simp [h4]
    · rcases hs with hs | hs
      · simp [hs, ha]
      · simp [hs, ha]
  -- CLASS_CONTROL
  · simp only [Bool.and_eq_true, decide_eq_true_eq] at h
    obtain ⟨⟨⟨hl, hc⟩, hk⟩, h1⟩ := h
    refine (body_of_sized (c := cmdClassControl) rfl hl t).trans (if_neg ?_)
    simp only [hc, Bool.not_true, Bool.false_or, Bool.or_eq_true, decide_eq_true_eq]
    omega
  -- TOKEN_QUERY
  · simp only [Bool.and_eq_true, Bool.or_eq_true, decide_eq_true_eq] at h
    obtain ⟨hl, hissuer⟩ := h
    refine (body_of_sized (c := cmdTokenQuery) rfl hl t).trans ((if_neg ?_).trans ?_)
    · rcases hissuer with (h0 | hsame) | hrole
      · simp [h0]
      · simp [hsame]
      · simp [hrole]
    · dsimp only
      generalize (if e.field 0 4 = 0 then e.issuer else e.field 0 4) = issuer
      split
      · rfl
      · cases (tokenTable t issuer).stored.find? fun c => c.token = e.field 4 4 <;> rfl

/-- Settles O3: the fields of `State.reset` as they are defined. -/
theorem resetLeavesTheModuleStowed : Obligations.ResetLeavesTheModuleStowed :=
  ⟨rfl, rfl, rfl, rfl, rfl, rfl, rfl, rfl, rfl, rfl, rfl, rfl, rfl, rfl, rfl⟩

end Sys2Proof.Machine
end

section
/-! SUPPORT. The module's own events (chapter 17): reset, boot, Proving, supply, Reel, Test and the background slices (R219, R479, R509, R512, R514,
R517 to R522, R530, R539). -/

namespace Sys2Proof.Machine

/-! ### The arms of the dispatch for these events -/

theorem exec_powerGood (f : BootFacts) (s : State) : exec (.powerGood f) s = execPowerGood f s := rfl
theorem exec_resetRelease (f : BootFacts) (s : State) : exec (.resetRelease f) s = execResetRelease f s := rfl
theorem exec_bootingEnd (s : State) : exec .bootingEnd s = execBootingEnd s := rfl
theorem exec_provingEnd (f : ProvingFacts) (s : State) : exec (.provingEnd f) s = execProvingEnd f s := rfl
theorem exec_reset (s : State) : exec .reset s = execReset s := rfl
theorem exec_supplyFailure (mv : Nat) (s : State) : exec (.supplyFailure mv) s = execSupplyFailure mv s := rfl
theorem exec_supplyReturn (mv : Nat) (s : State) : exec (.supplyReturn mv) s = execSupplyReturn mv s := rfl
theorem exec_recorderSupplyStop (s : State) : exec .recorderSupplyStop s = execRecorderSupplyStop s := rfl
theorem exec_holdUpExpiry (s : State) : exec .holdUpExpiry s = execHoldUpExpiry s := rfl
theorem exec_backgroundSlice (finding : SliceFinding) (s : State) : exec (.backgroundSlice finding) s = execBackgroundSlice finding s := rfl

variable {s : State}

/-! ### Power and reset (R32, R509, R530) -/

section
variable {f : BootFacts}

theorem powerGood_boots (hm : s.module.state = .stowed) (hh : s.module.resetHeld = false) : exec (.powerGood f) s = .next
    (modModule (fun m => { m with lampTest := some s.time })
      (boot f (modModule (fun m => { m with supplied := true, supplyLostAt := none, supplyMv := 24000 }) s))) :=
  (if_neg (by simp [hm])).trans (congrArg _ (if_neg (by simp [hh])))

theorem powerGood_held (hm : s.module.state = .stowed) (hh : s.module.resetHeld = true) : exec (.powerGood f) s = .next
    (modModule (fun m => { m with supplied := true, supplyLostAt := none, supplyMv := 24000 }) s) :=
  (if_neg (by simp [hm])).trans (congrArg _ (if_pos hh))

theorem powerGood_up (hm : s.module.state ≠ .stowed) : exec (.powerGood f) s = .next s := if_pos (by simpa using hm)

theorem resetRelease_boots (hm : s.module.state = .stowed) (hh : s.module.resetHeld = true) (hs : s.module.supplied = true) :
    exec (.resetRelease f) s = .next (boot f (modModule (fun m => { m with resetHeld := false }) s)) :=
  (if_pos (by simp [hm, hh])).trans (congrArg _ (if_pos hs))

theorem resetRelease_unsupplied (hm : s.module.state = .stowed) (hh : s.module.resetHeld = true) (hs : s.module.supplied = false) :
    exec (.resetRelease f) s = .next (modModule (fun m => { m with resetHeld := false }) s) :=
  (if_pos (by simp [hm, hh])).trans (congrArg _ (if_neg (by simp [hs])))

end

/-- Only an activation under way ends with the supply. -/
theorem supplyEndsActivation_of_idle (h : s.update.activating = false) : supplyEndsActivation s = s := if_neg (by simp [h])

theorem reset_stowed (hm : s.module.state = .stowed) : exec .reset s = .next (modModule (fun m => { m with resetHeld := true }) s) := if_pos hm

theorem reset_undue (hm : s.module.state ≠ .stowed) (hd : s.module.restartDue = none) :
    exec .reset s = .next (modModule (fun m => { m with resetHeld := true }) (goStowed (supplyEndsActivation s))) := by
  refine (if_neg hm).trans ?_
  simp [hd]

theorem reset_due {u : Nat} (hm : s.module.state ≠ .stowed) (hd : s.module.restartDue = some u) (ha : s.update.activating = false) :
    exec .reset s = .next (modModule (fun m => { m with resetHeld := true }) (goStowed (reach u s))) := by
  have hr : (reach u s).update.activating = false := ha
  refine (if_neg hm).trans ?_
  simp [hd, hr, supplyEndsActivation_of_idle hr]

theorem slateWatchdogExpiry_stows (hm : s.module.state ≠ .stowed) (hh : s.module.state ≠ .halted) : exec .slateWatchdogExpiry s = .next
    (modModule (fun m => { m with resetHeld := true, resetCause := 3 }) (goStowed (supplyEndsActivation s))) :=
  if_neg (by simp [hm, hh])

/-! ### The end of Booting (R509, R512) -/

/-- The state once the relays are open and the test pulses have started. -/
def bootingOver (s : State) : State :=
  watchPairs (modSafety (fun x => { x with testPulses := true, sampledFrom := s.time, activatedSince := false })
    (startInauguration (modNet (fun n => { n with relaysOpen := true, relayOperations := n.relayOperations + 1 }) s)))

theorem bootingOver_within (s : State) : Within 0x408000000 s (bootingOver s) :=
  watchPairs_within (modSafety_within (startInauguration_within (modNet_within (Within.refl _ s) rfl _) rfl) rfl _ (.inr rfl) (.inr ⟨rfl, rfl⟩)
    (.inr ⟨rfl, rfl⟩)) rfl

/-- The relays and the test pulses leave the Lock-out flag. -/
theorem lockoutFlag_bootingOver (s : State) : lockoutFlag (bootingOver s) = lockoutFlag s := by
  obtain ⟨h0, h1⟩ := (bootingOver_within s).out .flag (by decide)
  simp only [lockoutFlag, h0, h1]

/-- The entry to Lock-out leaves the update. -/
theorem update_lockoutAtBoot (s : State) : (enterState .lockout (traceTrigger (bootingOver s))).update = s.update :=
  have hw : Within 0x5083107B8 s (bootingOver s) := ⟨fun p hp => (bootingOver_within s).out p (by revert hp; cases p <;> decide)⟩
  (enterState_within (traceTrigger_within hw rfl) rfl .lockout).out .update (by decide)

theorem startInauguration_time (s : State) : (startInauguration s).time = s.time := by
  unfold startInauguration
  split <;> rfl

theorem bootingEnd_proves (hm : s.module.state = .booting) (hf : lockoutFlag s = false) :
    exec .bootingEnd s = .next (enterState .proving (bootingOver s)) := by
  have hl := (lockoutFlag_bootingOver s).trans hf
  simp only [bootingOver] at hl ⊢
  simp only [exec_bootingEnd, execBootingEnd, startInauguration_time, modNet_time, hm, hl, bne_self_eq_false, Bool.false_eq_true, if_false]

theorem bootingEnd_locksOut (hm : s.module.state = .booting) (hf : lockoutFlag s = true) (ht : s.update.onTrial = false) :
    exec .bootingEnd s = .next (enterState .lockout (traceTrigger (bootingOver s))) := by
  have hl := (lockoutFlag_bootingOver s).trans hf
  have hu := (congrArg UpdSt.onTrial (update_lockoutAtBoot s)).trans ht
  simp only [bootingOver] at hl hu ⊢
  simp only [exec_bootingEnd, execBootingEnd, startInauguration_time, modNet_time, hm, hl, hu, bne_self_eq_false, Bool.false_and,
    Bool.false_eq_true, if_false, if_true]

theorem bootingEnd_other (hm : s.module.state ≠ .booting) : exec .bootingEnd s = .next s := if_pos (by simpa using hm)

/-! ### The end of Proving (R139, R512) -/

section
variable {f : ProvingFacts}

/-- The state once the lanes of Proving are settled. -/
def lanesProven (f : ProvingFacts) (s : State) : State :=
  settleLanes (freshTranslation f.cutter (startLane .c f.laneC (startLane .b f.laneB (startLane .a f.laneA s))))

theorem provingEnd_halts (hm : s.module.state = .proving) (hl : bit f.laneA + bit f.laneB + bit f.laneC < 2) :
    exec (.provingEnd f) s = .next (halt 2 (lanesProven f s)) :=
  (if_neg (by simp [hm])).trans (if_pos hl)

theorem provingEnd_comparatorFails {n : Nat} (hm : s.module.state = .proving) (hl : 2 ≤ bit f.laneA + bit f.laneB + bit f.laneC)
    (hc : comparatorFinding f.readings f.drives = some n) : exec (.provingEnd f) s = .next
      (lockOut false 3 0 0xFF 0 (patternGroup n + 256 * n) (recordVoterFail n (pairAtProvingEnd (lanesProven f s)))) := by
  refine (if_neg (by simp [hm])).trans ((if_neg hl.not_gt).trans ?_)
  rw [hc]
  rfl

theorem provingEnd_fails {cause detail : Nat} (hm : s.module.state = .proving) (hl : 2 ≤ bit f.laneA + bit f.laneB + bit f.laneC)
    (hc : comparatorFinding f.readings f.drives = none) (hf : f.failure = some (cause, detail)) : exec (.provingEnd f) s = .next
      (lockOut false cause 0 0xFF 0 detail (comparatorResult true (pairAtProvingEnd (lanesProven f s)))) := by
  refine (if_neg (by simp [hm])).trans ((if_neg hl.not_gt).trans ?_)
  rw [hc, hf]
  rfl

theorem provingEnd_passes (hm : s.module.state = .proving) (hl : 2 ≤ bit f.laneA + bit f.laneB + bit f.laneC)
    (hc : comparatorFinding f.readings f.drives = none) (hf : f.failure = none) :
    exec (.provingEnd f) s = .next (provingPassed (pairAtProvingEnd (lanesProven f s))) := by
  refine (if_neg (by simp [hm])).trans ((if_neg hl.not_gt).trans ?_)
  rw [hc, hf]
  rfl

end

/-! ### Supply (R219, R479, R514, R539) -/

section
variable {mv : Nat}

theorem supplyFailure_up (hs : s.module.supplied = true) (hm : s.module.state ≠ .stowed) (hl : s.module.supplyLostAt = none) :
    exec (.supplyFailure mv) s = .next
      (let u := (modUpdate (fun u => { u with lowSupplyAt := some s.time }) (modModule (fun m => { m with supplyLostAt := some s.time, supplyMv := mv, holdUpCharged := false }) s))
       let u := if u.prog.retentiveLoaded then beginCommit 1 u else u
       supplyEndsActivation (recordSupply 0 mv (if freezeHeld u then endFreeze 3 none u else u))) :=
  (if_neg (by simp [hs, hl])).trans (if_neg hm)

theorem supplyFailure_stowed (hs : s.module.supplied = true) (hm : s.module.state = .stowed) (hl : s.module.supplyLostAt = none) :
    exec (.supplyFailure mv) s = .next (modModule (fun m => { m with supplyLostAt := some s.time, supplyMv := mv }) s) :=
  (if_neg (by simp [hs, hl])).trans (if_pos hm)

theorem supplyFailure_again (hl : s.module.supplyLostAt.isSome = true) : exec (.supplyFailure mv) s = .next s := if_pos (by simp [hl])

theorem supplyReturn_up (hl : s.module.supplyLostAt.isSome = true) (hm : s.module.state ≠ .stowed) : exec (.supplyReturn mv) s = .next
    (recordSupply 1 mv (modRecorder (fun r => { r with stopped := false }) (modUpdate (fun u => { u with lowSupplyAt := some s.time })
      (modModule (fun m => { m with supplyLostAt := none, supplyMv := mv }) s)))) := by
  obtain ⟨u, hu⟩ := Option.isSome_iff_exists.mp hl
  simp [exec_supplyReturn, execSupplyReturn, hu, hm]

theorem recorderSupplyStop_stops {u : Nat} (hl : s.module.supplyLostAt = some u) :
    exec .recorderSupplyStop s = .next (modRecorder (fun r => { r with stopped := true }) (reach (u + milli 16) s)) := by
  simp only [exec_recorderSupplyStop, execRecorderSupplyStop, hl]

theorem holdUpExpiry_stows {u : Nat} (hl : s.module.supplyLostAt = some u) : exec .holdUpExpiry s = .next
    (modModule (fun m => { m with supplied := false, supplyLostAt := none, holdUpCharged := false })
      (goStowed (supplyEndsActivation (reach (u + milli 20) s)))) := by
  simp only [exec_holdUpExpiry, execHoldUpExpiry, hl]

/-! While the supply stands, nothing follows from its loss. -/

theorem supplyReturn_idle (hl : s.module.supplyLostAt = none) : exec (.supplyReturn mv) s = .next s := by
  simp only [exec_supplyReturn, execSupplyReturn, hl]

theorem recorderSupplyStop_idle (hl : s.module.supplyLostAt = none) : exec .recorderSupplyStop s = .next s := by
  simp only [exec_recorderSupplyStop, execRecorderSupplyStop, hl]

theorem holdUpExpiry_idle (hl : s.module.supplyLostAt = none) : exec .holdUpExpiry s = .next s := by
  simp only [exec_holdUpExpiry, execHoldUpExpiry, hl]

end

section
variable {n : Nat} (hs : s.module.supplied = true)
include hs

theorem holdUpStoreCharged_full (hn : 2040000000 ≤ n * 702) :
    exec (.holdUpStoreCharged n) s = .next (modModule (fun m => { m with holdUpNf := n, holdUpCharged := true }) s) := by
  refine (if_neg (by simp [hs])).trans ((congrArg _ (if_pos hn)).trans ?_)
  rw [decide_eq_true hn]

theorem holdUpStoreCharged_degraded (hn : n * 702 < 2040000000) : exec (.holdUpStoreCharged n) s = .next
    (recordSupply 2 n (modModule (fun m => { m with holdUpNf := n, holdUpCharged := false }) s)) := by
  refine (if_neg (by simp [hs])).trans ((congrArg _ (if_neg hn.not_ge)).trans ?_)
  rw [decide_eq_false hn.not_ge]

end

/-! ### Reel and Test (R31, R522, R549) -/

theorem reelFault_restarts {p : Bool} (hb : hasMailbox s = true) (hd : s.module.reelDownSince = none) : exec (.reelFault p) s = .next
    (record .general 3 (bit p) [] (dropMasters ((s.trust.sessions.map Prod.fst).foldl (fun t n => endSession n t)
      (modModule (fun m => { m with reelDownSince := some s.time, reelRestarts := m.reelRestarts + 1 }) s)))) :=
  if_neg (by simp [hb, hd])

theorem testEnChange_up {b : Bool} (hm : s.module.state ≠ .stowed) :
    exec (.testEnChange b) s = .next (testGate (modModule (fun m => { m with testEn := b }) s)) := if_neg hm

theorem testLimitExpiry_ends (h : s.test.squall = true) : exec .testLimitExpiry s = .next (testOff 3 (reach s.test.ends s)) := if_pos h

theorem testLimitExpiry_off (h : s.test.squall = false) : exec .testLimitExpiry s = .next s := if_neg (ne_true_of_eq_false h)

/-! ### Background slices (R517 to R520) -/

section
variable {passed : Bool} {reading : VoterReading}

theorem backgroundSlice_noMailbox (hb : hasMailbox s = false) : exec (.backgroundSlice ⟨passed, reading⟩) s = .next s := if_pos (by simp [hb])

variable (hb : hasMailbox s = true)
include hb

theorem backgroundSlice_noSlack (ho : slackOpen s = false) : exec (.backgroundSlice ⟨passed, reading⟩) s = .next (starveTests s) :=
  (if_neg (by simp [hb])).trans (if_pos (by simp [ho]))

variable (ho : slackOpen s = true)
include ho

/-- A slice of a test besides the comparator's, by its finding. -/
theorem backgroundSlice_other (hn : sliceTest s ≠ 0) : exec (.backgroundSlice ⟨passed, reading⟩) s = .next
    (let u := modTest (fun t => { t with next := (sliceTest s + 1) % 8 }) (commitRequests (sliceTest s) (starveTests (eraseOne s)))
     if passed then slicePasses (sliceTest s) u
     else if [0, 1, 6, 7].contains (sliceTest s) then sliceFails (sliceTest s) (selfTest s (sliceTest s)).slices u
     else slicePasses (sliceTest s) (sliceFails (sliceTest s) (selfTest s (sliceTest s)).slices u)) := by
  refine (if_neg (by simp [hb])).trans ((if_neg (by simp [ho])).trans ?_)
  simp only [if_neg hn]

/-- A pattern of the comparator, by the voter's reading. -/
theorem backgroundSlice_comparator (hn : sliceTest s = 0) : exec (.backgroundSlice ⟨passed, reading⟩) s = .next
    (let v := commitVoterTest (startQueued s)
     let u := modTest (fun t => { t with next := 1 }) (commitRequests 0 (starveTests (eraseOne v)))
     if patternPasses (nextPattern v) reading then slicePasses 0 u else sliceFails 0 (nextPattern v) u) := by
  have hnow : [0, 1, 6, 7].contains 0 = true := rfl
  simp only [exec_backgroundSlice, execBackgroundSlice, hb, ho, hn, hnow, Bool.not_true, Bool.false_eq_true, if_false, if_true]

end

/-- A failed slice does not also count as passed for the comparator, which is test 0, and three further tests. -/
theorem stopsSlice_of_ne_zero {n : Nat} (hn : n ≠ 0) : [0, 1, 6, 7].contains n = [1, 6, 7].contains n := by
  simp [hn]

/-- Settles O52: each event, by the cases of its guard. -/
theorem moduleStatesFollowSupplyAndTests : Obligations.ModuleStatesFollowSupplyAndTests := by
  refine ⟨fun f s => powerGood_boots, fun f s => powerGood_held, fun f s => powerGood_up, fun f s => resetRelease_boots,
    fun f s => resetRelease_unsupplied, fun s => bootingEnd_proves, fun s => bootingEnd_locksOut, fun f n s => provingEnd_comparatorFails,
    fun s => bootingEnd_other, fun f s => provingEnd_halts, fun f s => provingEnd_passes, fun f cause detail s => provingEnd_fails,
    fun s => reset_stowed, fun s => reset_undue, fun u s => reset_due, fun s => slateWatchdogExpiry_stows, fun mv s => supplyFailure_up,
    fun mv s => supplyFailure_stowed, fun mv s => supplyFailure_again, fun mv s => supplyReturn_up, fun u s => recorderSupplyStop_stops,
    fun u s => holdUpExpiry_stows, fun mv s => supplyReturn_idle, fun s => recorderSupplyStop_idle, fun s => holdUpExpiry_idle,
    fun n s => holdUpStoreCharged_full, fun n s => holdUpStoreCharged_degraded, fun p s => reelFault_restarts, fun s => rfl,
    fun b s => testEnChange_up, fun s => testLimitExpiry_ends, fun s => testLimitExpiry_off, ?otherPasses, ?otherFails, ?patternPasses,
    ?patternFails, fun passed reading s => backgroundSlice_noSlack, fun passed reading s => backgroundSlice_noMailbox⟩
  case otherPasses =>
    rintro passed reading s hb ho hn rfl
    rw [backgroundSlice_other hb ho hn, if_pos rfl]
  case otherFails =>
    rintro passed reading s hb ho hn rfl
    rw [backgroundSlice_other hb ho hn, if_neg Bool.false_ne_true, stopsSlice_of_ne_zero hn]
  case patternPasses =>
    intro passed reading s hb ho hn hp
    exact (backgroundSlice_comparator hb ho hn).trans (congrArg _ (if_pos hp))
  case patternFails =>
    intro passed reading s hb ho hn hp
    exact (backgroundSlice_comparator hb ho hn).trans (congrArg _ (if_neg (ne_true_of_eq_false hp)))

end Sys2Proof.Machine
end
